-- ==== Sys2Proof/Word.lean ====
section
/-! DEFINITION. The words the block and its hosts exchange, and the sparse table every pooled object and every
memory of the model is held in. -/

namespace Sys2Proof

/-- One byte of a descriptor, a record or a memory. -/
abbrev Byte := BitVec 8

/-- A 64-byte command descriptor (06, "The command descriptor"): byte b holds bits 8b+7 to 8b (R7, little-endian). -/
abbrev Descriptor := BitVec 512

/-- A tick instant, or a length in ticks: 2.5 ns each, counted from the last reset of the Timeline. -/
abbrev Tick := Nat

/-- A sparse table: keys strictly rising, no entry equal to what an unlisted key reads as. -/
abbrev Tab (α : Type) := List (Nat × α)

/-- A byte memory, in the same form; an unlisted address reads as zero. -/
abbrev Mem := List (Nat × BitVec 8)

end Sys2Proof
end

