-- ==== Sys2Proof/Syntax.lean ====
section
/-! DEFINITION. The commands the block takes: the descriptor commands of its rings, the writes and reads of its
registers, the frames of its supervisor port, and the events of its pins, clocks and units. A row whose event carries
something only the world outside knows (what a fetch returned, what a sensor measured) carries it as an operand. -/

namespace Sys2Proof

/-- Where a command came from: a function (0: PF0, n: VFn), its command ring and the slot. -/
structure CmdSrc where
  fn : Nat
  ring : Nat
  slot : Nat
  deriving DecidableEq, Repr

/-- How data read from host memory arrived. -/
inductive Arrival where
  | good | error | poisoned
  deriving DecidableEq, Repr

/-- How a stored 64-bit word reads (03 R128 to R135). An operand may also name the bits a read finds wrong, as masks of
the data, of the check bits and of the address (bit 0: address bit 3), from which the code gives the outcome. -/
inductive WordFault where
  | sound          -- reads as stored
  | correctable    -- one wrong bit
  | uncorrectable  -- more wrong bits; reads as poisoned
  | poisoned       -- stored with its check bits inverted
  | wrong (data check addr : Nat)
  deriving DecidableEq, Repr

/-- The register blocks a write can address. The block says who writes: the host the function pages, BAR2, the
configuration spaces and the boot registers; the supervisor its port; and each field of a working block its one writer
(01 R21, R23; log entry 96). SR_RETAIN has two, by bits: `wardenStockroom` is the Warden's write, of the bits of bays below the
watermark, and `stockroom` the other one's (03 R143). -/
inductive Block where
  | fnPage (fn : Nat) | bar2 (fn : Nat) | config (fn : Nat) | boot
  | timeline | stockroom | memory | heads | integrity | touch (port : Nat) | haptic | audio | dma
  | events | power | ledger | supervisor | wardenStockroom
  deriving DecidableEq, Repr

/-- A fragment that a render pass made (11 R509 to R513): the draw record, the number of its primitive in submission order, its
sample, its depth as stored, and its shader's inputs, as a number. Then what the shader, where it declares that it may, does to
the fragment or its depth; whether hidden-surface removal left it out; and which words its shader reads as they stood how many
writes before. -/
structure Fragment where
  draw : Nat
  inst : Nat
  prim : Nat
  x : Nat
  y : Nat
  sample : Nat
  depth : Nat
  input : Nat
  discard : Bool
  depthOut : Option Nat
  removed : Bool
  lags : List (Nat × Nat)
  deriving DecidableEq, Repr

/-- A render pass as the grove made it: the bytes of the tile list pool its bins took, and its fragments. -/
structure RenderPass where
  used : Nat
  frags : List Fragment
  deriving DecidableEq, Repr

/-- What a wheel turn finds: the requests pending at its first cycle (wheel and owner code), the error of the beat the
scrubber and of the line the patrol scrubber read in it, and the payload bytes a rank migration copies in it. -/
structure Turn where
  waiting : List (Nat × Nat)
  scrub : WordFault
  patrol : WordFault
  copied : Nat
  deriving DecidableEq, Repr

/-- A request at a Stockroom port: who asks (an owner code, 0x1E system, 0x1D secure), at which port and physical
address; the bytes of a write, or how many a read asks for; and the error its reading finds. -/
structure PortRequest where
  port : Nat
  owner : Nat
  addr : Nat
  write : Option (List Byte)
  poison : Bool
  len : Nat
  found : WordFault
  deriving DecidableEq, Repr

/-- A request to bulk memory, in the same terms: the Stockroom port it serves, when it arrived, and whether it has
waited through a whole earlier turn of its owner (17 R721). -/
structure DramRequest where
  port : Nat
  arrived : Nat
  passedOver : Bool
  owner : Nat
  addr : Nat
  write : Option (List Byte)
  poison : Bool
  len : Nat
  found : WordFault
  deriving DecidableEq, Repr

/-- What the Warden answers to what it was forwarded. -/
structure WardenReply where
  src : Option CmdSrc
  good : Bool
  body : List Byte
  deriving DecidableEq, Repr

/-- The structures whose parity the Ledger watches (20 R789). -/
inductive Parity where
  | apprentice | wheel | owner | event | fuse | shadow | compose
  deriving DecidableEq, Repr

/-- The commands and events of the block, one constructor per row of spec/opcode_table.json; those that
carry nothing stand last. -/
inductive Instr where
  /-- R317: Command that does nothing and completes with DONE. -/
  | nop (src : CmdSrc) (d : Descriptor)
  /-- R318: Command that writes the 64-byte identification record to host memory. -/
  | deviceIdentify (src : CmdSrc) (d : Descriptor)
  /-- R296: Command that writes its DONE and then at once sends the message of every ring of the function holding unsignalled records. -/
  | hostSuspend (src : CmdSrc) (d : Descriptor)
  /-- R320: Command that writes the tenancy query record for the issuing tenancy. -/
  | resourceQuery (src : CmdSrc) (d : Descriptor)
  /-- R80: Command that sets the reference source, alignment, loss count, holdover ppm, EPOCH_TICKS and SYNC_OUT from the next epoch start. -/
  | timelineConfig (src : CmdSrc) (d : Descriptor)
  /-- R85: Command that applies a phase and frequency adjustment to the Timeline in HOST mode. -/
  | timelineSteer (src : CmdSrc) (d : Descriptor)
  /-- R86: Command that writes the 64-byte Timeline snapshot to host memory. -/
  | timelineStatus (src : CmdSrc) (d : Descriptor)
  /-- R220: Command that reads and checks a partition image and applies it at an epoch start once changed shelves and plots are zeroised. -/
  | karbobinLoad (src : CmdSrc) (d : Descriptor)
  /-- R325: Command that creates an ABSENT tenancy from a grant block. -/
  | tenancyCreate (src : CmdSrc) (d : Descriptor)
  /-- R326: Command that replaces a tenancy's grants, shelves and plots from a grant block. -/
  | tenancyGrant (src : CmdSrc) (d : Descriptor)
  /-- R231: Command that stops a tenancy's new work and drains or aborts its work in flight. -/
  | tenancyQuiesce (src : CmdSrc) (d : Descriptor)
  /-- R237: Command that returns a QUIESCED or restored FROZEN tenancy to LIVE. -/
  | tenancyResume (src : CmdSrc) (d : Descriptor)
  /-- R238: Command that returns every object of a QUIESCED tenancy to its creation state, optionally zeroising its memory. -/
  | tenancyReset (src : CmdSrc) (d : Descriptor)
  /-- R240: Command that returns every object and grant of a QUIESCED or FROZEN tenancy to its pool and makes it ABSENT. -/
  | tenancyRemove (src : CmdSrc) (d : Descriptor)
  /-- R242: Command that moves a QUIESCED tenancy to FROZEN with export. -/
  | tenancyFreeze (src : CmdSrc) (d : Descriptor)
  /-- R243: Command that writes the sealed state record of a FROZEN tenancy to host memory. -/
  | tenancySave (src : CmdSrc) (d : Descriptor)
  /-- R249: Command that opens a state record into a reserved ABSENT tenancy, leaving it FROZEN with import. -/
  | tenancyRestore (src : CmdSrc) (d : Descriptor)
  /-- R340: Command that writes the 512-byte tenancy query record for a named tenancy. -/
  | tenancyQuery (src : CmdSrc) (d : Descriptor)
  /-- R339: Command that sets, shrinks or removes one host aperture of a tenancy. -/
  | tenancyAperture (src : CmdSrc) (d : Descriptor)
  /-- R342: Command that binds a layer slot of the tenancy to a head. -/
  | layerAlloc (src : CmdSrc) (d : Descriptor)
  /-- R383: Command that replaces a layer's whole state at a latch line. -/
  | layerUpdate (src : CmdSrc) (d : Descriptor)
  /-- R394: Command that disables a layer at its latch line and returns the slot. -/
  | layerFree (src : CmdSrc) (d : Descriptor)
  /-- R438: Command that takes a layer off its head and binds it to another head. -/
  | layerMove (src : CmdSrc) (d : Descriptor)
  /-- R397: Command that loads a layer's colour table or filter table for a latch line. -/
  | layerClut (src : CmdSrc) (d : Descriptor)
  /-- R398: Command that sets a head's per-tenancy z range and cover mask or its background. -/
  | layerPolicy (src : CmdSrc) (d : Descriptor)
  /-- R399: Command that writes the 64-byte layer status record. -/
  | layerStatus (src : CmdSrc) (d : Descriptor)
  /-- R444: Command that configures a DISABLED head's port, pipe, timing and output. -/
  | headConfig (src : CmdSrc) (d : Descriptor)
  /-- R445: Command that trains the head's link and starts its raster. -/
  | headEnable (src : CmdSrc) (d : Descriptor)
  /-- R447: Command that stops a head at the end of the frame or push in progress. -/
  | headDisable (src : CmdSrc) (d : Descriptor)
  /-- R421: Command that declares damage rectangles of a layer for a push. -/
  | headPush (src : CmdSrc) (d : Descriptor)
  /-- R448: Command that sets a head's underrun policy. -/
  | headUnderrun (src : CmdSrc) (d : Descriptor)
  /-- R449: Command that sets a head's quiet windows from its next frame or push slot. -/
  | headQuiet (src : CmdSrc) (d : Descriptor)
  /-- R450: Command that assigns or releases a DSC encoder and its settings for a DISABLED head. -/
  | headDsc (src : CmdSrc) (d : Descriptor)
  /-- R452: Command that writes the 64-byte head status record. -/
  | headStatus (src : CmdSrc) (d : Descriptor)
  /-- R451: Command that retrains the link or performs an AUX or DCS read or write. -/
  | headLink (src : CmdSrc) (d : Descriptor)
  /-- R482: Command that takes an assay unit from the tenancy's grant. -/
  | assayAlloc (src : CmdSrc) (d : Descriptor)
  /-- R483: Command that configures an assay unit's snoop point, algorithm and region. -/
  | assayConfig (src : CmdSrc) (d : Descriptor)
  /-- R461: Command that supplies an assay unit's EXPECT_BASE for a frame, block or transfer. -/
  | assayExpect (src : CmdSrc) (d : Descriptor)
  /-- R486: Command that stops an assay unit and returns it to the pool. -/
  | assayFree (src : CmdSrc) (d : Descriptor)
  /-- R487: Command that writes the 64-byte assay record. -/
  | assayRead (src : CmdSrc) (d : Descriptor)
  /-- R485: Command that binds or unbinds an assay unit to the shadow pipe as a C1 region. -/
  | shadowRegion (src : CmdSrc) (d : Descriptor)
  /-- R496: Command that creates a GPU context on a grove with its pool, cache and shader area. -/
  | gpuContextCreate (src : CmdSrc) (d : Descriptor)
  /-- R497: Command that aborts a context's jobs and returns it to its pool. -/
  | gpuContextDestroy (src : CmdSrc) (d : Descriptor)
  /-- R523: Command that reads, checks and places a shader container in a slot. -/
  | gpuShaderLoad (src : CmdSrc) (d : Descriptor)
  /-- R499: Command that queues a render or compute job in a context and issues its job number. -/
  | gpuJobSubmit (src : CmdSrc) (d : Descriptor)
  /-- R519: Command that aborts one or every unfinished job of a context. -/
  | gpuJobKill (src : CmdSrc) (d : Descriptor)
  /-- R526: Command that writes the 64-byte context record. -/
  | gpuContextQuery (src : CmdSrc) (d : Descriptor)
  /-- R570: Command that sets a touch port's pin roles, head, line limits and thresholds. -/
  | touchPortConfig (src : CmdSrc) (d : Descriptor)
  /-- R572: Command that enables, disables or reconfigures a port's scanning. -/
  | touchScanConfig (src : CmdSrc) (d : Descriptor)
  /-- R567: Command that loads a stored baseline record into a port. -/
  | touchBaselineLoad (src : CmdSrc) (d : Descriptor)
  /-- R568: Command that optionally captures and then writes a port's baseline record. -/
  | touchBaselineSave (src : CmdSrc) (d : Descriptor)
  /-- R564: Command that measures shorts and opens on a port and writes the self-test record. -/
  | touchSelftest (src : CmdSrc) (d : Descriptor)
  /-- R603: Command that sets a port's position matrix, blob threshold and tracking limits. -/
  | touchCalibration (src : CmdSrc) (d : Descriptor)
  /-- R604: Command that configures or releases one key slot of a port. -/
  | touchKeys (src : CmdSrc) (d : Descriptor)
  /-- R605: Command that enables or disables the tenancy's report ring for a port. -/
  | touchReportRing (src : CmdSrc) (d : Descriptor)
  /-- R629: Command that configures a haptic channel and clears its fault. -/
  | hapticConfig (src : CmdSrc) (d : Descriptor)
  /-- R622: Command that starts an effect on a channel at its instant. -/
  | hapticPlay (src : CmdSrc) (d : Descriptor)
  /-- R630: Command that stops a channel's effect with braking at its instant. -/
  | hapticStop (src : CmdSrc) (d : Descriptor)
  /-- R620: Command that maps a channel's HAP_TRIG pin edge to an effect. -/
  | hapticTriggerMap (src : CmdSrc) (d : Descriptor)
  /-- R631: Command that writes the 64-byte haptic status record. -/
  | hapticStatus (src : CmdSrc) (d : Descriptor)
  /-- R671: Command that configures a TDM port, converter, jack, tone generator owner or the audio family. -/
  | audioPortConfig (src : CmdSrc) (d : Descriptor)
  /-- R661: Command that configures a playback or capture stream and its ring. -/
  | audioStreamConfig (src : CmdSrc) (d : Descriptor)
  /-- R662: Command that starts a stream, tying frame 0 to its effect sample. -/
  | audioStreamStart (src : CmdSrc) (d : Descriptor)
  /-- R654: Command that makes a stream's inputs read zero from its effect sample. -/
  | audioStreamStop (src : CmdSrc) (d : Descriptor)
  /-- R651: Command that sets a path gain with crossfade, binds an input source, or binds and masks a bus. -/
  | audioRoute (src : CmdSrc) (d : Descriptor)
  /-- R645: Command that ramps an input gain or bus gain. -/
  | audioGain (src : CmdSrc) (d : Descriptor)
  /-- R646: Command that sets a bus's biquad band or limiter. -/
  | audioFilter (src : CmdSrc) (d : Descriptor)
  /-- R657: Command that starts or stops a tone generator's bursts. -/
  | audioTone (src : CmdSrc) (d : Descriptor)
  /-- R672: Command that writes the 64-byte jack record. -/
  | audioJackStatus (src : CmdSrc) (d : Descriptor)
  /-- R696: Command that configures or unconfigures a DMA channel and its status address. -/
  | dmaChannelConfig (src : CmdSrc) (d : Descriptor)
  /-- R678: Command that copies LEN bytes between spaces on a channel. -/
  | dmaCopy (src : CmdSrc) (d : Descriptor)
  /-- R680: Command that writes a repeated pattern to a destination range. -/
  | dmaFill (src : CmdSrc) (d : Descriptor)
  /-- R695: Command that compares two ranges and reports the first difference. -/
  | dmaCompare (src : CmdSrc) (d : Descriptor)
  /-- R681: Command that copies ROWS rows of LEN bytes with source and destination strides. -/
  | dmaCopy2d (src : CmdSrc) (d : Descriptor)
  /-- R689: Command that takes a channel out of HALTED and restarts the failing transfer at MOVED. -/
  | dmaResume (src : CmdSrc) (d : Descriptor)
  /-- R690: Command that stops a channel and aborts all its unfinished transfers. -/
  | dmaAbort (src : CmdSrc) (d : Descriptor)
  /-- R749: Command that enables, disables or re-moderates an event ring. -/
  | eventRingConfig (src : CmdSrc) (d : Descriptor)
  /-- R750: Command that sets a tenancy's default event ring or one source's target ring. -/
  | eventTarget (src : CmdSrc) (d : Descriptor)
  /-- R744: Command that masks or unmasks one or every source of the issuer. -/
  | eventMask (src : CmdSrc) (d : Descriptor)
  /-- R746: Command that sets a source's soft pending bit or clears it and every cause latch. -/
  | eventPendSet (src : CmdSrc) (d : Descriptor)
  /-- R748: Command that sets or clears the global disable of the issuer's function. -/
  | eventGlobalDisable (src : CmdSrc) (d : Descriptor)
  /-- R751: Command that writes the 64-byte event status record of a source. -/
  | eventStatus (src : CmdSrc) (d : Descriptor)
  /-- R808: Command that checks and schedules entry to WATCH, KEEP or OFF. -/
  | powerState (src : CmdSrc) (d : Descriptor)
  /-- R833: Command that writes the bay retention bits. -/
  | powerRetain (src : CmdSrc) (d : Descriptor)
  /-- R834: Command that gates or ungates a block's clock and power at an epoch start. -/
  | powerGate (src : CmdSrc) (d : Descriptor)
  /-- R835: Command that sets the wake address, wake port and wake sources in the AON domain. -/
  | powerWakeConfig (src : CmdSrc) (d : Descriptor)
  /-- R724: Command that designates or releases a spare rank in row 1. -/
  | memSpare (src : CmdSrc) (d : Descriptor)
  /-- R728: Command that writes the 128-byte memory status record. -/
  | memStatus (src : CmdSrc) (d : Descriptor)
  /-- R725: Command that sets the rank power-down idle time. -/
  | memPowerdown (src : CmdSrc) (d : Descriptor)
  /-- R726: Command that sets a Stockroom port's latency target from the next epoch start. -/
  | memLatency (src : CmdSrc) (d : Descriptor)
  /-- R727: Command that retires a rank and starts its migration to a spare. -/
  | memRetire (src : CmdSrc) (d : Descriptor)
  /-- R149: Command that sets a head's staging lead and margin warning and resizes its rings. -/
  | stockroomStager (src : CmdSrc) (d : Descriptor)
  /-- R152: Command that writes the 128-byte Stockroom query record. -/
  | stockroomQuery (src : CmdSrc) (d : Descriptor)
  /-- R760: Command that writes the signed measurement record at exactly 100 ms after admission. -/
  | secureMeasurements (src : CmdSrc) (d : Descriptor)
  /-- R762: Command that reads, verifies and loads or empties a secure applet slot. -/
  | secureAppletLoad (src : CmdSrc) (d : Descriptor)
  /-- R763: Command that starts a LOADED applet with the issuer as client. -/
  | secureAppletStart (src : CmdSrc) (d : Descriptor)
  /-- R764: Command that ends a running applet and zeroises its secure memory. -/
  | secureAppletStop (src : CmdSrc) (d : Descriptor)
  /-- R766: Command that attaches a client's layer to an applet as a secure layer or releases it. -/
  | secureLayer (src : CmdSrc) (d : Descriptor)
  /-- R779: Command that writes a signed offer blob and creates a pending migration key. -/
  | migrationKeyOffer (src : CmdSrc) (d : Descriptor)
  /-- R779: Command that verifies a peer blob and derives the migration key, writing an answer on the target. -/
  | migrationKeyAccept (src : CmdSrc) (d : Descriptor)
  /-- R781: Command that destroys a named migration key. -/
  | migrationKeyDestroy (src : CmdSrc) (d : Descriptor)
  /-- R800: Command that writes the 1,088-byte Ledger record. -/
  | diagLedgerRead (src : CmdSrc) (d : Descriptor)
  /-- R799: Command that writes a range of fault log entries to host memory. -/
  | diagFaultLogRead (src : CmdSrc) (d : Descriptor)
  /-- R801: Command that logs and then clears the Ledger bits named by MASK. -/
  | diagLedgerClear (src : CmdSrc) (d : Descriptor)
  /-- R802: Command that asserts a Ledger source's error line with a chosen tag. -/
  | diagFaultInject (src : CmdSrc) (d : Descriptor)
  /-- R270: Doorbell write that hands descriptors of a command ring to the device. -/
  | crTail (fn ring v : Nat)
  /-- R274: Doorbell write that returns completion slots, arms the ring and may make waiting descriptors visible. -/
  | ccHead (fn ring v : Nat)
  /-- R741: Doorbell write that acknowledges event records, clearing their reported cause latches and arming the ring. -/
  | evHead (fn ring v : Nat)
  /-- R262: Write setting ENABLE of a command ring, which resets its indices or sets CFG_ERR. -/
  | crCfgEnable (fn ring v : Nat)
  /-- R265: Write clearing ENABLE of a command ring, effective when nothing of it is in flight. -/
  | crCfgDisable (fn ring v : Nat)
  /-- R263: Write setting ENABLE of a completion ring, resetting its indices and phase. -/
  | ccCfgEnable (fn ring v : Nat)
  /-- R266: Write clearing ENABLE of a completion ring, ignored while its command ring is enabled. -/
  | ccCfgDisable (fn ring v : Nat)
  /-- R258: Read of TLC_TICK_LO that latches the high tick bits, epoch and offset. -/
  | tlcTickLo (fn : Nat)
  /-- R832: Write of GO that starts loading a boot image from host memory. -/
  | bootCtrlGo (v : Nat)
  /-- R97: Warden write of the Stockroom watermark W, ignored when out of range or locked. -/
  | secureWmWrite (v : Nat)
  /-- R704: Warden write of the DRAM watermark WM, ignored above 1,024 or when locked. -/
  | dramWmWrite (v : Nat)
  /-- R11: Write of 1 to a block's LOCK bit, which fixes its RWL fields until reset. -/
  | lockSet (block : Block)
  /-- R803: Supervisor write of 1 to an LG_STATUS bit that clears it as DIAG_LEDGER_CLEAR does. -/
  | lgStatusClear (mask : BitVec 64)
  /-- R9: Write to a register field without a row of its own, acting as its access code states. -/
  | registerWrite (block : Block) (ofs v width : Nat)
  /-- R783: Supervisor SPI frame that reads LEN bytes of supervisor registers. -/
  | svRead (seq addr len : Nat) (crcGood : Bool)
  /-- R783: Supervisor SPI frame that writes LEN bytes of supervisor registers. -/
  | svWrite (seq addr : Nat) (data : List Byte) (crcGood : Bool)
  /-- R785: Supervisor SPI frame that sends a message to the Warden's mailbox. -/
  | mboxSend (seq : Nat) (msg : List Byte) (crcGood : Bool)
  /-- R785: Supervisor SPI frame that fetches the Warden's reply. -/
  | mboxRecv (seq len : Nat) (crcGood : Bool)
  /-- R785: Supervisor message that sets one telltale sprite of a head. -/
  | ttSprite (msg : List Byte)
  /-- R785: Supervisor message that sets telltale palette entries of a head. -/
  | ttPalette (msg : List Byte)
  /-- R785: Supervisor message that writes telltale image bytes into bay 0. -/
  | ttImage (msg : List Byte)
  /-- R785: Supervisor message that reads a block register for the supervisor. -/
  | regRead (msg : List Byte)
  /-- R786: Supervisor message that verifies an unlock token and opens debug access after clearing secrets. -/
  | debugUnlock (msg : List Byte) (valid : Bool)
  /-- R817: I2C write transaction addressing WAKE_ADDR, which is ACKed and starts a wake or cold boot. -/
  | i2cAddressMatch (addr : Nat) (data : List Byte)
  /-- R853: I2C read transaction of the wake registers from the stored pointer. -/
  | wakeRead (len : Nat)
  /-- R828: Release of RESET_N, which samples BOOT_SEL and starts a cold boot. -/
  | resetRelease (bootSel : Nat)
  /-- R46: Edge on SYNC_IN, accepted or rejected and fed to the Timeline phase detector. -/
  | referenceEdge (rising : Bool) (interval : Nat)
  /-- R41: Tick offset reaching EPOCH_TICKS, returning to zero and advancing the epoch count. -/
  | epochStart (sampled : Bool)
  /-- R70: Start of a 64-cycle wheel turn, selecting the owner served by each wheel. -/
  | turnStart (t : Turn)
  /-- R275: Arrival of a descriptor's data, advancing CR_HEAD. -/
  | descriptorArrival (src : CmdSrc) (how : Arrival)
  /-- R276: Descriptor data not arrived 4,000 ticks after admission, faulting the command. -/
  | descriptorFetchTimeout (src : CmdSrc)
  /-- R301: Writing of a command's ACCEPT or refusal at exactly a_k + 8,000. -/
  | firstCompletion (src : CmdSrc)
  /-- R322: Arrival of host data read by a command, such as an image, grant block or record. -/
  | hostDataArrival (src : CmdSrc) (how : Arrival)
  /-- R286: MOD_TIME expiring on an open moderation window, sending the ring's message. -/
  | moderationTimeout (fn vector : Nat)
  /-- R738: Event ring claiming an eligible source and issuing its record. -/
  | eventClaim (ring : Nat)
  /-- R241: Function-level reset of a VF, aborting and resetting its tenancy. -/
  | functionLevelReset (vf : Nat)
  /-- R295: Function entering D3hot, closing its moderation windows. -/
  | d3hotEntry (fn : Nat)
  /-- R294: Function returning to D0 with Bus Master Enable set, writing held records and sending messages. -/
  | d0Return (fn : Nat)
  /-- R291: Bus Master Enable cleared, making the device hold the function's records. -/
  | busMasterEnableClear (fn : Nat)
  /-- R289: Clearing of an MSI-X vector or function mask, sending a pending message. -/
  | vectorUnmask (fn : Nat) (vector : Option Nat)
  /-- R686: PCIe link going down, halting channels with host accesses due. -/
  | pcieLinkDown (fails : List (CmdSrc × Bool × Nat × Nat))
  /-- R75: Apprentice executing a work order when its instant is reached. -/
  | workOrderExecute (src : CmdSrc)
  /-- R25: Work order reaching its apprentice after its instant, discarded as late. -/
  | workOrderLate (src : CmdSrc)
  /-- R412: A head's pixel pacer starting a line slot and stamping it. -/
  | lineStart (head : Nat)
  /-- R121: Apprentice 11 switching a head's stager to the next frame's layer state. -/
  | stagerSwitch (head : Nat)
  /-- R115: Stager issuing its request for a line's source data LEAD ticks ahead. -/
  | stagerRequest (head line : Nat)
  /-- R125: Arrival of a head line's source data, recording its margin. -/
  | stagingArrival (head line : Nat)
  /-- R427: Compose pipe needing a staging beat that has not arrived, handled by the head's policy. -/
  | underrun (head : Nat)
  /-- R418: Active DSI_TE edge starting a command-mode push. -/
  | teEdge (head : Nat) (rising : Bool)
  /-- R419: No TE edge within TE_WAIT of the latch point, carrying damage forward. -/
  | teMissed (head : Nat)
  /-- R462: End of a push, where assay units compare. -/
  | pushEnd (head : Nat)
  /-- R443: Sink dropping HPD, reporting link failure, or DSI failing to leave ULPS. -/
  | linkLost (head : Nat)
  /-- R870: Rising edge of the sink's HPD, restarting retraining. -/
  | hpdRise (head : Nat)
  /-- R443: HPD IRQ from the sink, restarting retraining. -/
  | hpdIrq (head : Nat)
  /-- R443: 100 ms after the previous attempt, the link layer starting a further retrain. -/
  | retrainAttempt (head : Nat)
  /-- R445: End of link training or retraining, success or failure. -/
  | linkTrainingDone (head : Nat) (success : Bool)
  /-- R233: DRAIN limit instant of a quiesce, aborting unstarted work. -/
  | limitInstant (target : Nat)
  /-- R493: Idle grove choosing and starting its next candidate job. -/
  | jobStart (grove : Nat)
  /-- R503: Job finishing with all writes in bulk memory and its final completion written. -/
  | jobComplete (grove : Nat) (used : RenderPass) (poisoned : Bool) (writes : List (Nat × List Byte))
  /-- R517: Job reaching its time limit, stopping and resetting the grove. -/
  | timeLimit (grove : Nat)
  /-- R515: Binning that would overflow the pool, flushing or failing the job. -/
  | tileListPoolOverflow (grove : Nat) (used : RenderPass)
  /-- R504: Run-time shader access outside the tenancy's plots, aborting the job. -/
  | shaderAccessFault (grove : Nat)
  /-- R521: Uncorrectable tile memory or register file error stopping and resetting the grove. -/
  | grTileUe (grove : Nat)
  /-- R518: Completion of a grove reset, firing GPU_RESET. -/
  | groveResetDone (grove : Nat)
  /-- R522: Grove reset not complete within 20,000 ticks, taking the grove out of service. -/
  | grReset (grove : Nat)
  /-- R545: Start of a touch scan at its line or period, or its skip. -/
  | scanStart (port : Nat)
  /-- R542: Scan step having counted INT_TICKS of open window, recording step stamps. -/
  | stepEnd (port first last : Nat) (iq : List (Int × Int))
  /-- R550: Scan's raw and delta frames, baselines, drift, hops, blobs, contacts and keys completed. -/
  | scanProductsDone (port : Nat)
  /-- R600: Writing a scan's reports and secure contacts 160,000 ticks after its last sample. -/
  | reportWrite (port : Nat)
  /-- R586: Key haptic effect starting 160,000 ticks after the scan's last sample. -/
  | keyTrigger (port : Nat)
  /-- R597: STALE_S seconds without movement marking a contact STALE. -/
  | touchStale (port id : Nat)
  /-- R561: TX drive current above 25 mA, stopping the pin and marking it FAULT. -/
  | txOvercurrent (port tx : Nat)
  /-- R815: Wake port's scan in WATCH every 1,092 AON cycles. -/
  | watchScan (iq : List (Int × Int))
  /-- R620: Edge on a HAP_TRIG pin, filtered for 2 µs. -/
  | hapTrigEdge (chan : Nat) (rising : Bool)
  /-- R620: Trigger edge held 2 µs, starting the mapped effect. -/
  | triggerAccept (chan : Nat)
  /-- R814: HAP_TRIG rising edge held 2 AON cycles in WATCH waking the device. -/
  | hapTrigWake (chan : Nat)
  /-- R611: Back-EMF zero-crossing or its absence in a sense window, reversing drive. -/
  | zeroCrossing (chan : Nat) (half : Option Nat) (bemf ma : Nat)
  /-- R614: On-segment ending at a drive zero-crossing and braking starting. -/
  | segmentEnd (chan : Nat)
  /-- R616: Braking ending when back-EMF falls below 5 % or BRAKE_MAX passes. -/
  | brakeEnd (chan : Nat)
  /-- R627: Open, stall or short detected, putting the channel in FAULT. -/
  | actuatorFault (chan cause : Nat)
  /-- R610: VHAP below 2.8 V, forcing bridges to high impedance. -/
  | vhapLow (mv : Nat)
  /-- R610: VHAP rising above 3.0 V, ending dropping of triggers. -/
  | vhapRecover (mv : Nat)
  /-- R641: Start of a sink or bus sample, applying timed audio changes and ramps. -/
  | sampleStart (unit : Nat) (ins : List Nat)
  /-- R642: Frame sync edge on a target-mode TDM port, stamped every 64th. -/
  | frameSyncEdge (port : Nat) (ins : List Nat)
  /-- R643: No frame sync for two periods, stopping the port and faulting its promises. -/
  | syncLost (port : Nat)
  /-- R663: Position record written after PERIOD_FRAMES frames of a stream. -/
  | audioPeriod (stream : Nat)
  /-- R462: Assay comparison 2,000 ticks after an audio block's last sample. -/
  | audioCompare (sink : Nat)
  /-- R666: Change of a jack's insertion switch, starting its debounce. -/
  | jackInsertion (jack : Nat) (closed : Bool)
  /-- R666: Insertion change held 100 ms, starting classification. -/
  | jackDebounce (jack : Nat)
  /-- R666: Classification done, switches set and AUDIO_JACK fired. -/
  | jackClassified (jack type load : Nat)
  /-- R666: Removal detected, ramping the headphone driver off. -/
  | jackRemoval (jack : Nat)
  /-- R667: Headset button state held 20 ms and counted. -/
  | audioButton (jack ohms : Nat)
  /-- R668: DAC or headphone output current above 250 mA, ramping the driver off. -/
  | audioDriver (object : Nat)
  /-- R685: Last byte of a transfer visible, writing its DONE. -/
  | dmaTransferDone (src : CmdSrc)
  /-- R686: Host read reaching Completion Timeout, halting the channel. -/
  | completionTimeout (src : CmdSrc) (addr moved : Nat)
  /-- R686: Host read completing with Unsupported Request or Completer Abort, halting the channel. -/
  | urCa (src : CmdSrc) (addr moved : Nat)
  /-- R686: Host access due while Bus Master Enable is clear or the function sleeps, halting the channel. -/
  | noMaster (src : CmdSrc) (write : Bool) (addr moved : Nat)
  /-- R686: Poisoned PCIe completion passed on as poison. -/
  | poisonedCompletion (src : CmdSrc) (ofs len : Nat)
  /-- R103: Port request checked against shelf ownership and served with ECC checking. -/
  | stockroomRequest (r : PortRequest)
  /-- R106: Zeroiser finishing a shelf, which takes its new owner. -/
  | shelfZeroised (shelf : Nat)
  /-- R721: Request to bulk memory ordered by urgency and served with inline ECC. -/
  | dramRequest (rs : List DramRequest)
  /-- R217: Memory controller finishing a plot's zeroising, which takes its new owner. -/
  | plotZeroised (plot : Nat)
  /-- R717: Every 8 ms reading MR4 of each rank and setting its refresh rate. -/
  | mr4Poll (readings : List Nat)
  /-- R718: Per-bank refresh of a rank. -/
  | refresh (rank : Nat)
  /-- R719: Rank idle for PD_IDLE entering power-down. -/
  | powerDownEntry (rank : Nat)
  /-- R723: Rank training at boot ending, marking failed ranks. -/
  | trainingDone (gib present good : Nat)
  /-- R778: Warden resuming service with a new measurement log. -/
  | serviceResume (good : Bool) (applets : List (Nat × Bool))
  /-- R763: Running applet ending of itself and writing its result. -/
  | appletEnd (slot code : Nat) (result : List Byte)
  /-- R764: Applet's LIMIT_MS running out, ending it. -/
  | limitMs (slot : Nat)
  /-- R789: Parity error in a wheel, ownership, event, apprentice, fuse or pipe structure. -/
  | parityError (what : Parity) (affect : Nat)
  /-- R825: Resumption after wake completing with the resume record restored and functions answering. -/
  | resumption (good patched : Bool)
  /-- R830: Boot image slot read and verified, accepted or failed. -/
  | bootImageLoad (slot : Nat) (image : List Byte) (good : List Bool)
  /-- R294: Host setting Bus Master Enable of a function in D0, which writes its held records and sends its messages. -/
  | busMasterEnableSet (fn : Nat)
  /-- R753: The Warden finishing a forwarded command or supervisor message and posting its final completion or reply. -/
  | wardenReply (r : WardenReply)
  /-- R565: End of a touch self-test's measurements, writing its record and DONE and clearing FAULT marks. -/
  | selftestDone (port : Nat) (gnd sup next : List Nat) (opens : List Int)
  /-- R451: The sink's answer, NACK or timeout to a HEAD_LINK AUX or DCS operation, completing the command. -/
  | auxDcsReply (head : Nat) (reply : Option (List Byte))
  /-- R504: A grove finding a malformed draw record, a binding mismatch at a draw, a workgroup above WG_MAX or a flush without spill area, ending the job ABORTED. -/
  | jobRunTimeFault (grove : Nat) (oversize : Bool)
  /-- R615: End of an effect's gap, starting its next on-segment with overdrive or as a retrigger. -/
  | onSegmentRise (chan : Nat)
  /-- R760: Chroulakor writing a final completion at a fixed instant after admission, such as SECURE_MEASUREMENTS at a_k + 40,000,000 or SECURE_APPLET_STOP at a_k + 400,000. -/
  | timedFinalCompletion (src : CmdSrc)
  /-- R38: Read of TL_TICK_LO that latches tick bits 63:32 into TL_TICK_HI. -/
  | tlTickLo
  /-- R803: Supervisor write of FORCE_HALT that fires SV_HALT_REQ. -/
  | forceHalt
  /-- R784: SUP_CS_N rising mid-frame, which discards the frame and counts SV_ERRORS. -/
  | frameCutShort
  /-- R773: Warden heartbeat written to its CP mailbox. -/
  | heartbeat
  /-- R818: Rise of the AON supply, which starts the AON domain with its reset values. -/
  | aonSupplyRise
  /-- R843: Fall of VDD_AON below the power-on threshold, clearing the HALT latch and ending WAKE_FAILED. -/
  | aonSupplyFall
  /-- R823: Fall of PGOOD while PWR_REQ is asserted. -/
  | pgoodFall
  /-- R49: Expected reference edge absent, counted toward LOSS_COUNT. -/
  | referenceEdgeMissing
  /-- R49: 1,024 epochs without TIMELINE_STEER in HOST mode, entering HOLDOVER. -/
  | steerTimeout
  /-- R864: Function-level reset of PF0, resetting its function page and discarding held records. -/
  | pf0FunctionLevelReset
  /-- R714: First migration pause ending with mirroring on and copy starting. -/
  | firstPauseEnd
  /-- R713: Last payload line of the retiring rank copied, starting the second pause. -/
  | copyEnd
  /-- R713: Second pause ending with the spare in the slot table. -/
  | migrateDone
  /-- R18: No valid link frame for 800 ticks, making Hokusa outputs safe. -/
  | d2dLinkLoss
  /-- R18: Die-to-die link retrained after a Torva link-layer reset. -/
  | d2dLinkRetrained
  /-- R774: No Warden heartbeat for HB_TIMEOUT, restarting the Warden. -/
  | hbTimeout
  /-- R773: Illegal instruction, bad access or SRAM error restarting the Warden. -/
  | wardenSelfRestart
  /-- R22: Lockstep comparator finding the CP cores' outputs differ. -/
  | cpLockstep
  /-- R789: REF stopping or a PLL losing lock. -/
  | clockFail
  /-- R789: Junction temperature above the grade's upper limit. -/
  | tempHigh
  /-- R789: Junction temperature 10 °C above the grade's upper limit. -/
  | tempCrit
  /-- R789: A core or I/O supply monitor leaving its window. -/
  | supplyFault
  /-- R789: Fatal uncorrectable PCIe error at the host interface. -/
  | pcieFatal
  /-- R793: Chroulakor starting a CONTAIN or DEGRADE reaction. -/
  | reactionStart
  /-- R793: Chroulakor completing a reaction, quiescing or degrading tenancies. -/
  | reactionComplete
  /-- R810: POWER_STATE entry instant, writing DONE and starting the entry steps. -/
  | entryInstant
  /-- R810: PCIe link reaching L2/L3 Ready, letting the endpoint be powered off. -/
  | l2L3Ready
  /-- R811: 100 ms passing without L2/L3 Ready, cutting the link. -/
  | l2WaitTimeout
  /-- R820: A wake stage's ready signal rising, moving to the next stage. -/
  | stageReady
  /-- R821: A wake stage not ready at its timeout, retried or failing the wake. -/
  | stageTimeout
  /-- R856: RESET_N driven low for 1 µs or more, putting the device into reset with its balls in the RESET_N-low states. -/
  | resetAssertion
  /-- R864: Host setting VF Enable again after a PF0 reset, ending the treatment of every VF as having Bus Master Enable clear. -/
  | vfEnableSet
  /-- R789: Uncorrectable error in the CP's tightly coupled SRAM, firing Ledger source CP_SRAM_UE. -/
  | cpSramUe
  /-- R821: After a regulator-stage retry holds PWR_REQ low for 32 AON cycles, PWR_REQ is asserted again and the stage timeout restarts. -/
  | pwrReqReassert
  /-- R29: The AON domain switching to its internal RC oscillator when no crystal oscillation is detected. -/
  | rcFallback
  /-- R47: SYNC_OUT driven active OFFSET ticks after the selected event and inactive WIDTH ticks later. -/
  | syncOutPulse
  deriving DecidableEq, Repr

end Sys2Proof
end

