-- ==== Sys2Proof/Decode.lean ====
section
/-! DEFINITION. The opcode table gives its rows no bits: a command comes to the block as itself, put in its queue, and no
word spells one. -/

namespace Sys2Proof

/-- No row of spec/opcode_table.json has an encoding in bits. -/
def decodeTableWord (_nbits _w : Nat) : Option Instr := none

end Sys2Proof
end

