-- ==== Sys2Proof/Config.lean ====
section
/-! DEFINITION. What an implementation fixes and the spec leaves open, and the free values: opaque, so that no proof
can see what they are. -/

namespace Sys2Proof

/-- Free values (values the spec leaves undefined or states no number for). The n-th use of a run reads
`Config.free n`; State.free counts the uses. Log entry 3. -/
opaque Config.free : Nat → BitVec 64

/-- The attestation public key, byte i (19 R755): derived from ATTEST_SEED, no value given. -/
opaque Config.attestKey : Nat → BitVec 8

/-- The part's identifier in the fuse bank (07 R318, DEVICE_ID): unique to the part, no number given. -/
opaque Config.deviceId : BitVec 64

/-- The part's grade (07 R318): 0x01 TVR-1216-AQ or 0x02 TVR-1216-IN. -/
opaque Config.gradeIn : Bool

/-- The delay of a low-latency bus in sink samples, at most 2 (15 R644), by bus; used modulo 3. -/
opaque Config.lowLatency : Nat → Nat

/-- VHAP in mV before its first measurement (14 R609): what the supply gives. -/
opaque Config.vhap : Nat

/-- The turns per epoch of the die-to-die link wheel that a command of an opcode takes in a direction, 0 toward the Hokusa die and
1 toward the Torva die (01 R17; 04 R177, reason 0x0A): no number given. Log entry 140. -/
opaque Config.linkTurns : Nat → Nat → Nat

/-- What a fragment shader writes (11, Programmable pixel access): of its container's bytes, its inputs and the 32 words of its
sample as it reads them (11 R514), the words it writes and their values. Log entry 142. -/
opaque Config.shade : List (BitVec 8) → Nat → List Nat → List (Nat × Nat)

/-- A word of tile memory that a job neither loads nor clears, by the model's number of the job and the word. Log entry 142. -/
opaque Config.tileWord : Nat → Nat → Nat

/-- Byte i of a state record's body sealed under a migration key, with an IV and the clear part it authenticates, and of the tag
after it (05 R243, R245): AES-256-GCM, whose key the spec gives no number for. -/
opaque Config.seal : Nat → List (BitVec 8) → List (BitVec 8) → List (BitVec 8) → Nat → BitVec 8

end Sys2Proof
end

