-- ==== Sys2Proof/Machine/Table.lean ====
section
/-! DEFINITION. The named operations over sparse tables and byte memories, and the byte order of the block
(R7: little-endian). Everything that reads or writes a table or a memory goes through these. -/

namespace Sys2Proof.Machine

variable {α : Type}

/-- What key k of a table reads as; an unlisted key reads as d. -/
def tget (d : α) : Tab α → Nat → α
  | [], _ => d
  | (j, v) :: t, k => if j = k then v else tget d t k

/-- Key k with the value v, in key order. -/
def tput : Tab α → Nat → α → Tab α
  | [], k, v => [(k, v)]
  | (j, w) :: t, k, v =>
    if j = k then (k, v) :: t else if k < j then (k, v) :: (j, w) :: t else (j, w) :: tput t k v

/-- The table without key k. -/
def tdel : Tab α → Nat → Tab α
  | [], _ => []
  | (j, w) :: t, k => if j = k then tdel t k else (j, w) :: tdel t k

/-- A write of one key: writing what an unlisted key reads as removes the entry. -/
def tset [DecidableEq α] (d : α) (t : Tab α) (k : Nat) (v : α) : Tab α :=
  if v = d then tdel t k else tput t k v

/-- A change of one entry by a function. -/
def tmod [DecidableEq α] (d : α) (t : Tab α) (k : Nat) (f : α → α) : Tab α :=
  tset d t k (f (tget d t k))

/-- The canonical form from key lo on: keys strictly rising, no entry equal to what an unlisted key reads as. -/
def twfFrom [DecidableEq α] (d : α) : Nat → Tab α → Bool
  | _, [] => true
  | lo, (k, v) :: t => decide (lo ≤ k) && decide (v ≠ d) && twfFrom d (k + 1) t

/-- The canonical form of a table. -/
def twf [DecidableEq α] (d : α) (t : Tab α) : Bool := twfFrom d 0 t

/-- One byte of a memory; a byte nothing has written reads as zero (log entry 4). -/
def Mem.rd (m : Mem) (a : Nat) : Byte := tget 0 m a

/-- A write of one byte. -/
def Mem.wr (m : Mem) (a : Nat) (b : Byte) : Mem := tset 0 m a b

/-- A write of consecutive bytes from address a up. -/
def Mem.wrs (m : Mem) (a : Nat) : List Byte → Mem
  | [] => m
  | b :: bs => Mem.wrs (Mem.wr m a b) (a + 1) bs

/-- The n bytes from address a up. -/
def Mem.rds (m : Mem) (a : Nat) : Nat → List Byte
  | 0 => []
  | n + 1 => Mem.rd m a :: Mem.rds m (a + 1) n

/-- n bytes from address a up become what an unlisted address reads as. -/
def Mem.wipe (m : Mem) (a n : Nat) : Mem := m.filter fun e => decide (e.1 < a) || decide (a + n ≤ e.1)

/-- The same for the entries of any table. -/
def twipe (t : Tab α) (a n : Nat) : Tab α := t.filter fun e => decide (e.1 < a) || decide (a + n ≤ e.1)

/-- The canonical form of a memory. -/
def Mem.wf (m : Mem) : Bool := twf (0 : Byte) m

/-- The value of bytes in little-endian order (R7). -/
def leNat : List Byte → Nat
  | [] => 0
  | b :: bs => b.toNat + 256 * leNat bs

/-- The n low bytes of a value, in little-endian order (R7). -/
def leBytes : Nat → Nat → List Byte
  | 0, _ => []
  | n + 1, v => BitVec.ofNat 8 v :: leBytes n (v / 256)

/-- A little-endian field of n bytes in memory. -/
def Mem.le (m : Mem) (a n : Nat) : Nat := leNat (Mem.rds m a n)

/-- n zero bytes. -/
def zeros (n : Nat) : List Byte := List.replicate n 0

/-- A little-endian field of n bytes at offset o of a byte list; bytes beyond its end read as zero. -/
def fieldOf (bs : List Byte) (o n : Nat) : Nat := leNat ((bs.drop o).take n)

/-- Bits hi to lo of a value. -/
def bits (v lo w : Nat) : Nat := v / 2 ^ lo % 2 ^ w

/-- Whether bit b of a value is 1. -/
def bit (v b : Nat) : Bool := v.testBit b

/-- A flag as the value of its bit. -/
def b2n (b : Bool) : Nat := if b then 1 else 0

/-- A mask with one bit changed. -/
def setBit (v b : Nat) : Nat := if v.testBit b then v else v + 2 ^ b

/-- A mask with one bit cleared. -/
def clrBit (v b : Nat) : Nat := if v.testBit b then v - 2 ^ b else v

/-- The numbers below n whose bit is set in a mask, ascending. -/
def bitsOf (n mask : Nat) : List Nat := (List.range n).filter fun i => mask.testBit i

/-- The mask of the bits in one mask and not in another. -/
def maskOff (v m : Nat) : Nat := v - (v &&& m)

/-- How many bits of the low n of a mask are set. -/
def popCount (n mask : Nat) : Nat := (bitsOf n mask).length

/-- A quotient rounded up (a divisor of zero gives zero). -/
def ceilDiv (a b : Nat) : Nat := (a + b - 1) / b

/-- The value of a w-bit two's complement field. -/
def sint (w v : Nat) : Int := if v % 2 ^ w < 2 ^ (w - 1) then ((v % 2 ^ w : Nat) : Int) else ((v % 2 ^ w : Nat) : Int) - 2 ^ w

/-- A number as a w-bit two's complement field. -/
def unsint (w : Nat) (i : Int) : Nat := (i % (2 ^ w : Int)).toNat

/-- A number limited to a range. -/
def clampI (lo hi i : Int) : Int := if i < lo then lo else if i > hi then hi else i

/-- One item of a list replaced; a list too short is unchanged. -/
def setAt : List α → Nat → α → List α
  | [], _, _ => []
  | _ :: t, 0, v => v :: t
  | x :: t, n + 1, v => x :: setAt t n v

/-- Puts an element behind those that come before it or rank equal. -/
def insertBy (le : α → α → Bool) (x : α) : List α → List α
  | [] => [x]
  | y :: l => if le y x then y :: insertBy le x l else x :: y :: l

/-- A list in the order of `le`, equals in their old order. -/
def sortBy (l : List α) (le : α → α → Bool) : List α := l.foldl (fun a x => insertBy le x a) []

/-- The first answer of a list of checks. -/
def firstSome : List (Option α) → Option α
  | [] => none
  | some x :: _ => some x
  | none :: t => firstSome t

/-- The least number below n that satisfies a test. -/
def leastBelow (n : Nat) (p : Nat → Bool) : Option Nat := (List.range n).find? p

end Sys2Proof.Machine
end

