-- ==== Sys2Proof/Machine/Parts/Audio.lean ====
section
/-! DEFINITION. The state of the audio block (15): units that clock samples, buses, inputs, paths, tone generators,
streams and jacks, and the timed changes admitted and not yet in force. -/

namespace Sys2Proof.Machine

/-- A change of a gain in progress (15 R651, R652, AUDIO_GAIN). -/
structure Ramp where
  old : Int
  new : Int
  len : Nat
  /-- 0 equal-power, 1 linear, 2 an AUDIO_GAIN ramp, 3 a switch at a zero crossing. -/
  curve : Nat
  /-- The sample of the ramp that comes next. -/
  i : Nat
  deriving DecidableEq, Repr

/-- A gain in Q4.27. -/
structure Gain where
  value : Int := 134217728
  ramp : Option Ramp := none
  deriving DecidableEq, Repr

/-- A port, converter or jack, by its OBJECT code (15 AUDIO_PORT_CONFIG). -/
structure AudioUnit where
  /-- w1; 15 ENABLE; reset 0 (log entry 19). -/
  enable : Bool := false
  /-- w1; 15 CLOCK, target mode; reset 0 (log entry 19). -/
  target : Bool := false
  /-- w1; 15 MODE, I2S; reset 0 (log entry 19). -/
  i2s : Bool := false
  /-- w1; 15 DELAY; reset 0 (log entry 19). -/
  delay : Bool := false
  /-- w4; 15 R640 RATE; reset 0 (log entry 19). -/
  rate : Nat := 0
  /-- w5; 15 SLOT_COUNT; reset 0 (log entry 19). -/
  slotCount : Nat := 0
  /-- w6; 15 SLOT_BITS; reset 0 (log entry 19). -/
  slotBits : Nat := 0
  /-- w6; 15 SAMPLE_BITS; reset 0 (log entry 19). -/
  sampleBits : Nat := 0
  /-- w16; 15 SLOTS_OUT; reset 0 (log entry 19). -/
  slotsOut : Nat := 0
  /-- w16; 15 SLOTS_IN; reset 0 (log entry 19). -/
  slotsIn : Nat := 0
  /-- w5; 15 GAIN; reset 0 (log entry 19). -/
  gain : Nat := 0
  /-- w1; 15 BIAS; reset 0 (log entry 19). -/
  bias : Bool := false
  /-- w1; 15 R666, R668, its analogue driver runs; reset 0. -/
  driver : Bool := false
  /-- tick; 15 R641, S0; reset 0. -/
  s0 : Nat := 0
  /-- w64; 15 R641, the next sample; reset 0. -/
  count : Nat := 0
  /-- tick; 15 R642, the last frame sync edge; reset 0. -/
  lastEdge : Nat := 0
  /-- tick; 15 R642, the latest stamp; reset none. -/
  stamp : Option Nat := none
  /-- w64; 15 R642, the sample that stamp belongs to; reset 0. -/
  stampNo : Nat := 0
  /-- tick; 15 R642, the ticks of the 64 frames before that stamp; reset none. -/
  period64 : Option Nat := none
  /-- w1; 15 R643, its frame sync is lost; reset 0. -/
  lost : Bool := false
  /-- 15 R645, its last sample as sent, one value per channel; reset none. -/
  out : List Int := []
  deriving DecidableEq, Repr

/-- One biquad band (15 R646). -/
structure Band where
  b0 : Int := 536870912
  b1 : Int := 0
  b2 : Int := 0
  a1 : Int := 0
  a2 : Int := 0
  x1 : Int := 0
  x2 : Int := 0
  y1 : Int := 0
  y2 : Int := 0
  deriving DecidableEq, Repr

/-- One of the 64 buses. -/
structure Bus where
  /-- 15 R637, sink code and channel; reset unbound. -/
  sink : Option (Nat × Nat) := none
  /-- w4; 15 BUS_RATE; reset 6 (48,000 Hz). -/
  rate : Nat := 6
  /-- w17; 15 R637 ROUTE_MASK; reset 1. -/
  route : Nat := 1
  /-- w17; 15 R637 READ_MASK; reset 1. -/
  read : Nat := 1
  /-- w1; 15 R660 LOWLAT; reset 0. -/
  lowlat : Bool := false
  /-- w32; 15 R645 g_bus; reset unity (log entry 19). -/
  gain : Gain := {}
  /-- 10 bands; 15 R646; reset: x passes. -/
  bands : Tab Band := []
  /-- w32; 15 R647 THR; reset 0 (log entry 19). -/
  thr : Nat := 0
  /-- w16 each; 15 R647 ATT, REL; reset 1 (log entry 19). -/
  att : Nat := 1
  rel : Nat := 1
  /-- w40; 15 R647 env; reset 0. -/
  env : Int := 0
  /-- w40; 15 R645, its last sample; reset 0. -/
  last : Int := 0
  /-- tick; when an unbound bus started its sample 0; reset 0. -/
  s0 : Nat := 0
  /-- w64; the next sample of an unbound bus; reset 0. -/
  count : Nat := 0
  deriving DecidableEq, Repr

/-- One of the 128 mixer inputs. -/
structure Input where
  /-- w5; 05 R205, the holder; reset 0x1F. -/
  owner : Nat := 0x1F
  /-- w8; 05 R199, local number; reset 0. -/
  loc : Nat := 0
  /-- w3; 15 R635 SRC_KIND; reset 0 (NONE). -/
  kind : Nat := 0
  /-- w8; 15 R635, the stream (physical), port, ADC or jack; reset 0. -/
  src : Nat := 0
  /-- w8; 15 SRC_CH; reset 0. -/
  ch : Nat := 0
  /-- w32; 15 R645 g_in; reset unity (log entry 19). -/
  gain : Gain := {}
  /-- w32; 15 R651, 05 R236, the weight of a hold; reset unity. -/
  weight : Gain := {}
  /-- 15 R644, its latest samples with their ticks, newest first; reset none. -/
  hist : List (Nat × Int) := []
  deriving DecidableEq, Repr

/-- A path from an input into a bus, while its gain is not zero or is ramping (15 R639). -/
structure Path where
  gain : Gain := { value := 0 }
  /-- The flight that completes at the switch of R652, + 1; reset none. -/
  waiter : Nat := 0
  deriving DecidableEq, Repr

/-- What a generator is doing (15 R657, R658). -/
inductive ToneStage where
  | silent | burst | gap | release
  deriving DecidableEq, Repr

/-- One of the eight tone generators. -/
structure Tone where
  /-- w5; 15 R656 OWNER; reset 0. -/
  owner : Nat := 0
  /-- 4 names; 15 R657; reset silent. -/
  stage : ToneStage := .silent
  /-- 15 AUDIO_TONE, its parameters; reset 0 each (log entry 19). -/
  wave : Nat := 0
  freq : Nat := 0
  freq2 : Nat := 0
  sweep : Nat := 0
  att : Nat := 0
  rel : Nat := 0
  on : Nat := 0
  off : Nat := 0
  /-- w8; 15 R657, bursts still to come after this one (none: until stopped). -/
  left : Option Nat := none
  /-- 15 R656, the buses it feeds and their GAIN16; reset none. -/
  buses : List (Nat × Nat) := []
  /-- w16; 15 R657 n, the sample within the burst (a release goes on counting it) or the gap; reset 0. -/
  n : Nat := 0
  /-- w16; 15 R658, the sample within a release; reset 0. -/
  rn : Nat := 0
  /-- w32; 15 R657 ph; reset 0. -/
  ph : Nat := 0
  /-- w17; 15 R657 e, the envelope now; reset 0. -/
  e : Nat := 0
  /-- w17; 15 R658 e_c, the envelope the first burst or a release starts from; reset 0. -/
  e0 : Nat := 0
  /-- w32; 15 R657 s, its last sample; reset 0. -/
  s : Int := 0
  deriving DecidableEq, Repr

/-- One of the 64 streams. -/
structure AudioStream where
  /-- w5; 05 R205, the holder; reset 0x1F. -/
  owner : Nat := 0x1F
  /-- w8; 05 R199, local number; reset 0. -/
  loc : Nat := 0
  /-- w1; 15 R661, configured; reset 0. -/
  configured : Bool := false
  /-- 15 AUDIO_STREAM_CONFIG, its settings; reset 0 each. -/
  capture : Bool := false
  format : Nat := 0
  channels : Nat := 0
  rate : Nat := 0
  ref : Nat := 0
  frames : Nat := 0
  period : Nat := 0
  firstBus : Nat := 0
  posAddr : Nat := 0
  /-- w1; 15 R664, started; reset 0. -/
  running : Bool := false
  /-- tick; 15 R662 t0; reset 0. -/
  t0 : Nat := 0
  /-- w64; 15 R662, the next frame to start; reset 0. -/
  next : Nat := 0
  /-- w32; 15 R663 SEQ; reset 0. -/
  seq : Nat := 0
  /-- w64; 15 R663, periods reported; reset 0. -/
  periods : Nat := 0
  /-- 15 R662, frames read from the ring: number and samples in channel order; reset none. -/
  ready : List (Nat × List Int) := []
  deriving DecidableEq, Repr

/-- One of the two headset jacks. -/
structure Jack where
  /-- w3; 15 R666 TYPE; reset 0. -/
  type : Nat := 0
  /-- w4; 15 R667 BUTTONS; reset 0. -/
  buttons : Nat := 0
  /-- w32; 15 R672 INSERTS, saturating (the register shows 16 bits, saturating); reset 0. -/
  inserts : Nat := 0
  /-- tick; 15 R672 CHANGE_TICK; reset 0. -/
  changeTick : Nat := 0
  /-- w32; 15 R672 LOAD_OHMS; reset 0. -/
  load : Nat := 0
  /-- w1; 15 R666, the insertion switch as it stands; reset 0. -/
  inserted : Bool := false
  /-- tick; 15 R666, when the switch closed, while it is debounced; reset none. -/
  debounce : Option Nat := none
  /-- w1; 15 R666, classification is under way; reset 0. -/
  classify : Bool := false
  deriving DecidableEq, Repr

/-- A timed change admitted and not yet in force (15 R649, R650). -/
structure Change where
  /-- The model's number of its flight. -/
  id : Nat
  op : Nat
  desc : Descriptor
  owner : Nat
  /-- The physical input, stream or generator, or the bus, it acts on; a path's bus counts in desc. -/
  obj : Nat
  /-- Its effect instant, once known. -/
  due : Option Nat
  /-- Its reference sample. -/
  sink : Nat
  pos : Nat
  /-- Whether it is a C3 change, which completes where it takes effect. -/
  c3 : Bool
  /-- Whether its completion has been written. -/
  fired : Bool
  deriving DecidableEq, Repr

/-- The audio block. -/
structure Audio where
  /-- w1; 15 R640 FAMILY, 1: family 44; reset 0 (log entry 19). -/
  family44 : Bool := false
  /-- 16 units by OBJECT code; 15 R665. -/
  units : Tab AudioUnit := []
  /-- 64 buses; 15 R633. -/
  buses : Tab Bus := []
  /-- 128 inputs; 15 R633. -/
  inputs : Tab Input := []
  /-- 15 R639, the paths, input n into bus b at 64 n + b; reset none. -/
  paths : Tab Path := []
  /-- 8 generators; 15 R656. -/
  tones : Tab Tone := []
  /-- 64 streams; 15 R661. -/
  streams : Tab AudioStream := []
  /-- 2 jacks; 15 R666. -/
  jacks : Tab Jack := []
  /-- w32; 15 AD_SYNC_LOSTS; reset 0. -/
  syncLosts : Nat := 0
  /-- 15 R649, in issue order; reset none. -/
  changes : List Change := []
  deriving DecidableEq, Repr

end Sys2Proof.Machine
end

