-- ==== Sys2Proof/Machine/Parts/Compose.lean ====
section
/-! DEFINITION. The state of the layer slots, of the compose pipes and of the heads (08, 09). -/

namespace Sys2Proof.Machine

/-- A layer's state, as a LAYER_UPDATE carries it (08 R383). -/
structure LayerState where
  /-- w1; 08 R343 ENABLE; at allocation 0. -/
  enable : Bool := false
  /-- w8; 08 R345 FORMAT. -/
  format : Nat := 0
  /-- w4; 08 R370 Z. -/
  z : Nat := 0
  /-- w1; 08 R367 OPAQUE. -/
  isOpaque : Bool := false
  /-- w1; 08 R354 PREMULT. -/
  premult : Bool := false
  /-- w1; 08 R350 LTC. -/
  ltc : Bool := false
  /-- w1; 08 R358 H_FLIP. -/
  hFlip : Bool := false
  /-- w1; 08 R358 V_FLIP. -/
  vFlip : Bool := false
  /-- w40; 08 R349 ADDR, or the colour (R348). -/
  addr : Nat := 0
  /-- w32; 08 PLANE2_OFS. -/
  plane2 : Nat := 0
  /-- w16; 08 PITCH64. -/
  pitch64 : Nat := 0
  /-- 4 x w16; 08 SRC_X, SRC_Y, SRC_W, SRC_H. -/
  srcX : Nat := 0
  srcY : Nat := 0
  srcW : Nat := 0
  srcH : Nat := 0
  /-- w16 signed; 08 DST_X, DST_Y. -/
  dstX : Int := 0
  dstY : Int := 0
  /-- w16; 08 DST_W, DST_H. -/
  dstW : Nat := 0
  dstH : Nat := 0
  /-- w10; 08 R365 GALPHA. -/
  galpha : Nat := 0
  /-- w2; 08 R362 FILTER. -/
  filter : Nat := 0
  /-- w3; 08 R356 CSC. -/
  csc : Nat := 0
  /-- w8; 08 R387 ASSAY (0xFF: none). -/
  assay : Nat := 0xFF
  deriving DecidableEq, Repr

/-- One of the 128 layer slots. -/
structure Slot where
  /-- w5; 08 R341, the holder's owner code (0x1F: not allocated); reset 0x1F. -/
  owner : Nat := 0x1F
  /-- w8; 05 R199, local number. -/
  loc : Nat := 0
  /-- w4; 08 R341, the head it is bound to. -/
  head : Nat := 0
  /-- 08 R383, the state in force. -/
  cur : LayerState := {}
  /-- 256 x w40; 08 R347, the colour table; reset: every entry zero. -/
  clut : Tab Nat := []
  /-- 896 coefficients; 08 R363, the filter table; reset none. -/
  filters : Option (List Int) := none
  /-- w32; 08 R399 LATCHED_FRAME. -/
  latched : Nat := 0
  /-- w32; 08 R399 HOLDS. -/
  holds : Nat := 0
  /-- w32; 08 R399 POISONED. -/
  poisoned : Nat := 0
  /-- w32; 08 R399 LTC_ERRORS. -/
  ltcErrors : Nat := 0
  /-- w1; 08 R400, a poisoned word was used in the frame in progress. -/
  poisonSeen : Bool := false
  /-- w1; 08 R387, its last update was C1. -/
  lastC1 : Bool := false
  /-- w1; 09 R439, it has left its old head and not joined the new one. -/
  moving : Bool := false
  /-- w1; 19 R767, it is a secure layer: its owner in maps and arrangements is 0x1D; reset 0. -/
  secure : Bool := false
  deriving DecidableEq, Repr

/-- One line of a plane in a staging ring: its bytes as stored, where LTC compresses it, its uncompressed bytes (08 R351),
those of them that count as drawn from a word that was poisoned when it was fetched, and whether R352 applied to it. -/
structure StagedLine where
  stored : List Byte := []
  bytes : List Byte := []
  poison : List Nat := []
  ltcBad : Bool := false
  deriving DecidableEq, Repr

/-- A rectangle of head pixels: x, y and its far edges, end exclusive. -/
structure Rect where
  x0 : Int
  y0 : Int
  x1 : Int
  y1 : Int
  deriving DecidableEq, Repr

/-- The head kinds of HEAD_CONFIG (09 R416). -/
inductive HeadKind where
  | video | command | psr2
  deriving DecidableEq, Repr

/-- The configuration a HEAD_CONFIG gives a head (09). -/
structure HeadCfg where
  tracked : Bool := false
  kind : HeadKind := .video
  edp : Bool := false
  tePol : Bool := false
  port : Nat := 0
  stream : Nat := 0
  pipe : Nat := 0
  /-- 10, 8 or 6; 08 R369. -/
  depth : Nat := 10
  /-- 0 NONE, 1 SPATIAL, 2 TEMPORAL; 08 R369. -/
  dither : Nat := 0
  /-- w1; 09 R427, BLANK_REST. -/
  blankRest : Bool := false
  hActive : Nat := 1
  vActive : Nat := 1
  hTotal : Nat := 1
  vTotal : Nat := 1
  hFront : Nat := 0
  hSync : Nat := 0
  vFront : Nat := 0
  vSync : Nat := 0
  hsyncPol : Bool := false
  vsyncPol : Bool := false
  latchLine : Nat := 0
  vtMax : Nat := 1
  mul : Nat := 1
  div : Nat := 1
  /-- PHASE of a locked head or LINE_Q16 of a tracked one. -/
  phase : Nat := 0
  baseEpoch : Nat := 0
  baseFrame : Nat := 0
  rate : Nat := 0
  lanes : Nat := 1
  cphy : Bool := false
  dsiRate : Nat := 0
  teWait : Nat := 0
  deriving DecidableEq, Repr

/-- A DSC encoder's setting (09 HEAD_DSC). -/
structure Dsc where
  encoder : Nat
  bpc : Nat
  blockPred : Bool
  bppX16 : Nat
  sliceW : Nat
  sliceH : Nat
  slices : Nat
  deriving DecidableEq, Repr

/-- The quiet windows of a head (09 R434, R436). -/
structure Quiet where
  hStart0 : Nat := 0
  hStart1 : Nat := 0
  hLen0 : Nat := 0
  hLen1 : Nat := 0
  vStart : Nat := 0
  vEnd : Nat := 0
  teOfs : Nat := 0
  teLen : Nat := 0
  deriving DecidableEq, Repr

/-- States of a head (09 R452). -/
inductive HeadState where
  | disabled | running | recovering
  deriving DecidableEq, Repr

/-- What the slot in progress emits (09 R413, R428, R429). -/
inductive SlotKind where
  | line | black | wait | recovery
  deriving DecidableEq, Repr

/-- An ownership map (08 R380, R382): its frame and the owner of every tile, row by row. -/
structure OwnerMap where
  frame : Nat
  cols : Nat
  owners : List Nat
  /-- tick; 13 R590, when line 0 of the frame, or the push, started; reset none. -/
  start : Option Nat := none
  /-- 02 R61, R66 and 09 R429, what the lines of the frame are placed by: Head.sched, early and l0Frac. -/
  sched : Nat := 0
  early : Nat := 0
  frac : Nat := 0
  /-- 09 R427, active lines at its end that the frame did not emit. -/
  skipped : Nat := 0
  deriving DecidableEq, Repr

/-- A z range and COVER_MASK (08 R372). -/
structure Policy where
  zMin : Nat := 0
  zMax : Nat := 15
  /-- w17; reset: the tenancy's own bit (see Head.policy). -/
  cover : Nat := 0
  deriving DecidableEq, Repr

/-- A push latched at its latch point (09 R418): what it sends and the layer state it is computed from (R423). -/
structure Push where
  /-- w32; the push number. -/
  number : Nat
  /-- tick; its latch point. -/
  latched : Nat
  /-- w40; the background. -/
  background : Nat
  /-- The slots bound to the head, as latched. -/
  slots : List (Nat × Slot)
  /-- At most 8; 09 R420, R423, its reduced damage in sending order. -/
  damage : List Rect
  /-- w17; 09 R419, the tenancies that hold a promise for it. -/
  owing : Nat
  /-- w1; 09 R418, R419, an active TE edge has come since its latch point; reset 0. -/
  edge : Bool := false
  deriving DecidableEq, Repr

/-- One of the twelve heads. -/
structure Head where
  /-- 09 R868; reset none. -/
  cfg : Option HeadCfg := none
  /-- 10 R481, the configuration the manager gave the head while it shows early telltales; reset none. -/
  newCfg : Option HeadCfg := none
  /-- 3 names; 09 R452 STATE; reset DISABLED. -/
  state : HeadState := .disabled
  /-- w1; 09 R452 LINK_UP; reset 0. -/
  linkUp : Bool := false
  /-- w1; 09 R870 RETRY_EXHAUSTED; reset 0. -/
  exhausted : Bool := false
  /-- w1; 09 R443, an attempt at training is in progress; reset 0. -/
  training : Bool := false
  /-- w2; 09 R443, retrain attempts begun since the link was lost or retraining restarted; reset 0. -/
  attempts : Nat := 0
  /-- tick; 09 R443, when the next attempt starts; reset none. -/
  attemptDue : Option Nat := none
  /-- tick; 09 R445, when a head being enabled starts line 0; reset none. -/
  startDue : Option Nat := none
  /-- tick; 09 R447, when a head being disabled stops; reset none. -/
  stopDue : Option Nat := none
  /-- w16; 09 R452 LINE; reset 0. -/
  line : Nat := 0
  /-- w32; 09 R446 FRAME, or the push number; reset 0. -/
  frame : Nat := 0
  /-- 4 names; 09 R413, what the slot in progress emits; reset a line. -/
  slot : SlotKind := .line
  /-- tick; 02 R65, stamp of line 0 of the current frame; reset 0. -/
  l0 : Nat := 0
  /-- w16; 01 R30, what the pacer of a tracked head had accumulated beyond l0, in 65,536ths of a tick; reset 0. -/
  l0Frac : Nat := 0
  /-- tick; 02 R61, the scheduled start of the current frame of a locked head; reset 0. -/
  sched : Nat := 0
  /-- w32; 09 R452 L0_EPOCH; reset 0. -/
  l0Epoch : Nat := 0
  /-- w32; 09 R452 L0_TICK; reset 0. -/
  l0Offset : Nat := 0
  /-- tick; 02 R65, stamp of the line in progress; reset 0. -/
  lineAt : Nat := 0
  /-- w14; 09 R428, slots the current frame has lasted; reset 0. -/
  slots : Nat := 0
  /-- w14; 09 R429 SLOTS_EARLY, k; reset 0. -/
  early : Nat := 0
  /-- w14; 09 R427, active lines the aborted frame does not emit; reset 0. -/
  skipped : Nat := 0
  /-- w1; 09 R427, an ABORT_RESTART is under way until line 0 of the next frame; reset 0. -/
  aborting : Bool := false
  /-- w1; 09 R427, the rest of the frame is sent black; reset 0. -/
  blanking : Bool := false
  /-- w14; 09 R429, numberless lines still to come before the next frame; reset 0. -/
  extra : Nat := 0
  /-- w1; 20 R796, the output is replaced by black; reset 0. -/
  safe : Bool := false
  /-- w32; 09 R426 UNDERRUNS; reset 0. -/
  underruns : Nat := 0
  /-- w32; 09 R452 PUSHES; reset 0. -/
  pushes : Nat := 0
  /-- w32; 09 R452 EMPTY_PUSHES; reset 0. -/
  emptyPushes : Nat := 0
  /-- w32; 09 R419 TE_MISSED; reset 0. -/
  teMissed : Nat := 0
  /-- w32; 09 R452 RETRAINS; reset 0. -/
  retrains : Nat := 0
  /-- 09 R450; reset none. -/
  dsc : Option Dsc := none
  /-- 09 R434; reset: every window off. -/
  quiet : Quiet := {}
  /-- w40; 08 R368, the background; reset opaque black. -/
  background : Nat := 1023 * 2 ^ 30
  /-- 17 policies; 08 R372; reset 0 to 15 and the own bit. -/
  policy : Tab Policy := (List.range 17).map fun t => (t, { cover := 2 ^ t })
  /-- at most 4; 08 R382, the newest first; reset none. -/
  maps : List OwnerMap := []
  /-- 08 R381, the ownership map of the frame being staged; reset none. -/
  nextMap : Option OwnerMap := none
  /-- 08 R377, the clearing map of the frame being staged: layer slot and hidden tile; reset none. -/
  clearing : List (Nat × Nat) := []
  /-- 09 R419, R433, damage carried into the next push; reset none. -/
  carried : List Rect := []
  /-- 09 R421, damage of changes latched at the push slot in progress, before it is reduced; reset none. -/
  damage : List Rect := []
  /-- 09 R418, the push that waits for its TE edge or is being sent; reset none. -/
  push : Option Push := none
  /-- 09 R418, the pushes latched while one before them had not ended, the oldest first; reset none. -/
  queued : List Push := []
  /-- w1; 09 R418, a push is in progress; reset 0. -/
  pushing : Bool := false
  /-- w16; 09 R420, lines of the push in progress that have been sent; reset 0. -/
  sent : Nat := 0
  /-- ticks; 09 R436, active TE edges whose quiet window has not closed, the newest first; reset none. -/
  teEdges : List Nat := []
  /-- w1; 09 R443, LINK_LOST has fired and the link has not been trained since; reset 0. -/
  lost : Bool := false
  /-- 08 R369, the pixels of the active line in progress as its compose pipe emits them, before the telltale plane; red,
  green and blue packed; reset none. -/
  pixels : List Nat := []
  deriving DecidableEq, Repr

/-- The composition side of the device. -/
structure Compose where
  /-- 128 slots; 08 R341. -/
  slots : Tab Slot := []
  /-- 12 heads; 09 R401. -/
  heads : Tab Head := []
  /-- 03 R117, contents of the staging rings: slot x 2^18 + source line (+ 2^17 for plane 2); reset none. -/
  staged : Tab StagedLine := []
  deriving DecidableEq, Repr

end Sys2Proof.Machine
end

