-- ==== Sys2Proof/Machine/Parts/Dma.lean ====
section
/-! DEFINITION. The state of the DMA channels (16). The transfers themselves are commands in flight. -/

namespace Sys2Proof.Machine

/-- One of the 64 channels. -/
structure DmaChan where
  /-- w5; 16 DM_STATUS.OWNER; reset 0x1F (channels 0 to 3: T0, log entry 16). -/
  owner : Nat := 0x1F
  /-- w8; 05 R199, local number; reset 0. -/
  loc : Nat := 0
  /-- w1; 16 R674, configured; reset 0. -/
  configured : Bool := false
  /-- w1; 16 R687, HALTED; reset 0. -/
  halted : Bool := false
  /-- w64; 16 DMA_CHANNEL_CONFIG STATUS_ADDR; reset 0. -/
  statusAddr : Nat := 0
  /-- w3; 16 DM_STATUS.CAUSE; reset 0. -/
  cause : Nat := 0
  /-- w1; 16 DM_STATUS.DIRECTION; reset 0. -/
  write : Bool := false
  /-- w64; 16 DM_FAIL_LO and DM_FAIL_HI; reset 0. -/
  failAddr : Nat := 0
  /-- w36; 16 DM_MOVED_LO and DM_MOVED_HI; reset 0. -/
  moved : Nat := 0
  /-- w36; 16 R695 COMPARE_OFS; reset 0. -/
  compareOfs : Nat := 0
  /-- 16 R689, the failing transfer, by the model's number; reset none. -/
  failing : Option Nat := none
  deriving DecidableEq, Repr

/-- The DMA engines. -/
structure Dma where
  /-- 64 channels; 16 R674. -/
  chans : Tab DmaChan := []
  deriving DecidableEq, Repr

/-- The boot partition's channels (05 R200). -/
def bootChans : Tab DmaChan :=
  [(0, { owner := 0, loc := 0 }), (1, { owner := 0, loc := 1 }), (2, { owner := 0, loc := 2 }),
   (3, { owner := 0, loc := 3 })]

end Sys2Proof.Machine
end

