-- ==== Sys2Proof/Machine/Parts/Dram.lean ====
section
/-! DEFINITION. The state of bulk memory and of its controller (17). -/

namespace Sys2Proof.Machine

/-- States of a rank (17 MC_RANK.STATE), in its numbering. -/
inductive RankState where
  | absent | inService | spare | retiring | filling | retired | failedTraining
  deriving DecidableEq, Repr

/-- One of the sixteen ranks. -/
structure Rank where
  /-- w3; 17 MC_RANK.STATE; reset ABSENT. -/
  state : RankState := .absent
  /-- w16; 17 MC_RANK.CE_COUNT; reset 0. -/
  ce : Nat := 0
  /-- w2; 17 MC_RANK.REFRESH; reset 0. -/
  refresh : Nat := 0
  /-- w1; 17 MC_RANK.POWERDOWN; reset 0. -/
  powerDown : Bool := false
  /-- tick; 17 R719, when the last request or refresh for it arrived; reset 0. -/
  lastUse : Nat := 0
  /-- w19; 17 R725, PD_IDLE as it stood when the present idle period began; reset 4,000. -/
  idle : Nat := 4000
  /-- w1; 17 R716, it was retired with no spare available; reset 0. -/
  noSpare : Bool := false
  deriving DecidableEq, Repr

/-- The steps of a migration (17 R713). -/
inductive MigPhase where
  | firstPause | copy | secondPause
  deriving DecidableEq, Repr

/-- A running migration. -/
structure Migration where
  src : Nat
  dst : Nat
  phase : MigPhase
  /-- Payload bytes copied. -/
  copied : Nat
  deriving DecidableEq, Repr

/-- The answer to the last read. -/
structure DramAnswer where
  bytes : List Byte := []
  /-- Words of the answer, counted from the first, that are marked as poisoned. -/
  poisoned : List Nat := []
  deriving DecidableEq, Repr

/-- A plot waiting for, or in, zeroising (05 R215): its next owner. -/
structure PlotZero where
  plot : Nat
  next : Nat
  deriving DecidableEq, Repr

/-- Bulk memory. -/
structure Dram where
  /-- 64 GiB at most, by physical device address; 17 R702; reset: no byte written (log entry 4). -/
  mem : Mem := []
  /-- 17 R707 to R709, words that do not read as stored, by word address; reset: every word sound. -/
  words : Tab WordFault := []
  /-- GiB per rank; 17 R699; reset 0 (not trained). -/
  gib : Nat := 0
  /-- 16 ranks; 17 R700. -/
  ranks : Tab Rank := []
  /-- 17 R701, R703, the slot tables of rows 0 and 1: ranks in slot order; reset none. -/
  slots0 : List Nat := []
  slots1 : List Nat := []
  /-- 32,768 x w5; 05 R210, owner + 1 of the plots not free; reset free (0x1F). -/
  owner : Tab Nat := []
  /-- w13; 17 R704 WM; reset 0. -/
  wm : Nat := 0
  /-- w1; 17 MC_SECURE_WM.LOCK; reset 0. -/
  lock : Bool := false
  /-- w32; 17 MC_CE_COUNT; reset 0. -/
  ceCount : Nat := 0
  /-- w32; 17 MC_UE_COUNT; reset 0. -/
  ueCount : Nat := 0
  /-- w40; 17 MC_UE_ADDR; reset 0. -/
  ueAddr : Nat := 0
  /-- w19; 17 MC_PD_IDLE; reset 4,000. -/
  pdIdle : Nat := 4000
  /-- 32 x w19; 17 MC_LAT_TARGET; reset 4,000. -/
  latency : Tab Nat := []
  /-- w64 each; 17 R728 RD_BYTES by owner code; reset 0. -/
  rdBytes : Tab Nat := []
  /-- w64 each; 17 R728 WR_BYTES by owner code; reset 0. -/
  wrBytes : Tab Nat := []
  /-- w32 each; 17 R722 MISSED_TARGET by owner code; reset 0. -/
  missed : Tab Nat := []
  /-- w32; 17 R728 BUSY_TURNS of the last completed epoch; reset 0. -/
  busy : Nat := 0
  /-- w32; 17 R728, turns in which data moved in this epoch; reset 0. -/
  busyNow : Nat := 0
  /-- w1; data moved in the turn in progress; reset 0. -/
  moved : Bool := false
  /-- 17 R713, the running migration; reset none. -/
  migration : Option Migration := none
  /-- 17 R712, retired ranks that wait for a migration; reset none. -/
  waiting : List Nat := []
  /-- 02 R27, R70; requests that wait for a turn of their owner, oldest first; reset none. -/
  queued : List DramRequest := []
  /-- 17 R714, requests held by a pause, in order; reset none. -/
  held : List DramRequest := []
  /-- 05 R216, plots being zeroised, ascending; reset none. -/
  zeroise : List PlotZero := []
  /-- w4 and w32; 17 R710, the rank and payload line the patrol scrubber reads next; reset 0. -/
  patrolRank : Nat := 0
  patrolLine : Nat := 0
  /-- What the controller answered last; reset: nothing. -/
  answer : DramAnswer := {}
  deriving DecidableEq, Repr

end Sys2Proof.Machine
end

