-- ==== Sys2Proof/Machine/Parts/Event.lean ====
section
/-! DEFINITION. The state of the event controller's sources (18). -/

namespace Sys2Proof.Machine

/-- Where a source's records go (18 R736). -/
inductive Target where
  | follows            -- the default ring of its tenancy
  | ring (loc : Nat)   -- a ring EVENT_TARGET named for it alone
  | fields (targeted : Bool) (ring : Nat)   -- the fields TARGETED and RING of EV_SRC as they were last written (00 R9)
  deriving DecidableEq, Repr

/-- One event source: EV_SRC[s] and what R738 records. -/
structure EvSrc where
  /-- w16; 18 R732 EV_SRC.CAUSE, the cause latches; reset 0. -/
  cause : Nat := 0
  /-- w1; 18 R732 EV_SRC.SOFT; reset 0. -/
  soft : Bool := false
  /-- w1; 18 R738 EV_SRC.IN_SERVICE; reset 0. -/
  inService : Bool := false
  /-- w1; 18 R747 EV_SRC.MASK; reset 0. -/
  mask : Bool := false
  /-- w9; 18 R736 EV_SRC.TARGETED and RING; reset: follows the default. -/
  target : Target := .follows
  /-- w32; 18 R751 LAST_EPOCH; reset 0 (log entry 5). -/
  lastEpoch : Nat := 0
  /-- w32; 18 R751 LAST_TICK; reset 0 (log entry 5). -/
  lastTick : Nat := 0
  /-- w16; 00 R10, 18 R741, R746, the causes set in tick `againAt`; reset 0. -/
  again : Nat := 0
  /-- tick; 00 R10; reset 0. -/
  againAt : Nat := 0
  deriving DecidableEq, Repr

/-- The event controller. -/
structure Events where
  /-- 1,024 sources; 18 R731; reset: nothing requests. -/
  src : Tab EvSrc := []
  /-- w17; 18 EV_GDIS.GDIS; reset 0. Global disable, one bit per owner code. -/
  gdis : Nat := 0
  deriving DecidableEq, Repr

end Sys2Proof.Machine
end

