-- ==== Sys2Proof/Machine/Parts/Gpu.lean ====
section
/-! DEFINITION. The state of the groves and of the GPU contexts (11). The jobs themselves are commands in flight. -/

namespace Sys2Proof.Machine

/-- A resource a shader declares (11 R525). -/
structure ShaderRes where
  type : Nat
  binding : Nat
  access : Nat
  minSize : Nat
  deriving DecidableEq, Repr

/-- A shader container in a slot of a context (11 R523). -/
structure Shader where
  /-- Its place in the shader area and its length. -/
  ofs : Nat
  len : Nat
  stage : Nat
  flags : Nat
  wgMax : Nat
  plsUse : Nat
  res : List ShaderRes
  deriving DecidableEq, Repr

/-- One of the 256 contexts. -/
structure Context where
  /-- w5; 11 R496, the holder (0x1F: not created); reset 0x1F. -/
  owner : Nat := 0x1F
  /-- w8; 05 R199, local number; reset 0. -/
  loc : Nat := 0
  /-- w2; 11 GROVE; reset 0. -/
  grove : Nat := 0
  /-- w1; 11 POLICY, FAIL; reset 0. -/
  fail : Bool := false
  /-- w16; 11 SHADER_SLOTS; reset 0. -/
  slots : Nat := 0
  /-- w28 each; 11 POOL_REF, POOL_LEN, CACHE_REF, CACHE_LEN, SHADER_REF, SHADER_LEN; reset 0. -/
  poolRef : Nat := 0
  poolLen : Nat := 0
  cacheRef : Nat := 0
  cacheLen : Nat := 0
  shaderRef : Nat := 0
  shaderLen : Nat := 0
  /-- w24; 11 DEFAULT_LIMIT; reset 0. -/
  defaultLimit : Nat := 0
  /-- w24; 11 MAX_LIMIT; reset 0. -/
  maxLimit : Nat := 0
  /-- w32; 11 R526 LAST_ISSUED; reset 0. -/
  lastIssued : Nat := 0
  /-- w32; 11 R526 LAST_DONE; reset 0. -/
  lastDone : Nat := 0
  /-- 64 outcomes; 11 R501, job number and whether it completed with DONE, newest first; reset none. -/
  outcomes : List (Nat × Bool) := []
  /-- w32; 11 R526 FLUSHES; reset 0. -/
  flushes : Nat := 0
  /-- w32; 11 R526 LIMIT_KILLS; reset 0. -/
  limitKills : Nat := 0
  /-- w32; 11 R526 POOL_PEAK; reset 0. -/
  poolPeak : Nat := 0
  /-- w64; 11 R526 BUSY_TICKS; reset 0. -/
  busyTicks : Nat := 0
  /-- 1,024 slots; 11 R523; reset empty. -/
  shaders : Tab (Option Shader) := []
  deriving DecidableEq, Repr

/-- One of the four groves. -/
structure Grove where
  /-- 11 R490, the job it runs, by the model's number of its flight; reset none. -/
  job : Option Nat := none
  /-- The context of that job, a physical number; reset 0. -/
  ctx : Nat := 0
  /-- tick; 11 R517, when that job started; reset 0. -/
  since : Nat := 0
  /-- 128 bytes; 11 R500, the descriptor as it was read at the start; reset none. -/
  desc : List Byte := []
  /-- w1; 11 R504, the job has read a poisoned word; reset 0. -/
  poisoned : Bool := false
  /-- words of its samples; 11 R508 to R516, tile memory, and what a flush keeps of it: word by word as written; reset none. -/
  tile : Tab (Option Nat) := []
  /-- fragments; 11 R509, R510, those hidden-surface removal left out of the pass rendered last; reset none. -/
  removed : List Fragment := []
  /-- 11 R518, when the reset in progress began; reset none. -/
  resetAt : Option Nat := none
  /-- 11 R504, R517, the outcome of the stopped job, written when the reset is complete: status, reason and VALUE. -/
  ending : Option (Nat × Nat × Nat) := none
  /-- w1; 11 R522, out of service; reset 0. -/
  out : Bool := false
  /-- w5; 11 R493, the tenancy served last; reset none. -/
  lastTenancy : Option Nat := none
  /-- w8 each; 11 R493, the local context served last, + 1, by tenancy; reset none. -/
  lastContext : Tab Nat := []
  deriving DecidableEq, Repr

/-- The graphics block. -/
structure Gpu where
  /-- 4 groves; 11 R489. -/
  groves : Tab Grove := []
  /-- 256 contexts; 11 R496. -/
  contexts : Tab Context := []
  deriving DecidableEq, Repr

end Sys2Proof.Machine
end

