-- ==== Sys2Proof/Machine/Parts/Haptic.lean ====
section
/-! DEFINITION. The state of the sixteen haptic channels (14). -/

namespace Sys2Proof.Machine

/-- What a channel is doing (14 R631 STATE; the gaps between on-segments count as DRIVING). -/
inductive HapStage where
  | unconfigured | idle | driving | gap | braking | fault
  deriving DecidableEq, Repr

/-- The map of a channel's HAP_TRIG pin (14 HAPTIC_TRIGGER_MAP). -/
structure TrigMap where
  enable : Bool := false
  edge : Nat := 0
  effect : Nat := 0
  rearm : Nat := 0
  deriving DecidableEq, Repr

/-- One channel. -/
structure HapChan where
  /-- w5; 14 R608, the holder; reset 0x1F. -/
  owner : Nat := 0x1F
  /-- w8; 05 R199, local number; reset 0. -/
  loc : Nat := 0
  /-- 6 names; 14 HP_STATUS.STATE; reset UNCONFIGURED. -/
  stage : HapStage := .unconfigured
  /-- w1; 14 R609 CLIP; reset 0. -/
  clip : Bool := false
  /-- w2; 14 R627 FAULT_CAUSE; reset 0. -/
  cause : Nat := 0
  /-- w1; 14 TRACK; reset 0. -/
  track : Bool := false
  /-- w16 each; 14 HAPTIC_CONFIG F0_HZ, RATED_MV, OD_MV, BRAKE_MV, MAX_MA; reset 0. -/
  f0 : Nat := 0
  rated : Nat := 0
  odMv : Nat := 0
  brakeMv : Nat := 0
  maxMa : Nat := 0
  /-- w4 and w5; 14 OD_HALF, BRAKE_MAX; reset 0. -/
  odHalf : Nat := 0
  brakeMax : Nat := 0
  /-- w18; 14 R612 P in HAPTIC cycles; reset 0. -/
  half : Nat := 0
  /-- 14 HAPTIC_TRIGGER_MAP; reset disabled. -/
  map : TrigMap := {}
  /-- w8; 14 EFFECT, playing or last played; reset 0. -/
  effect : Nat := 0
  /-- w4; 14 R619, the on-segment in progress or next; reset 0. -/
  segment : Nat := 0
  /-- tick; 14 R619, when the effect started; reset 0. -/
  started : Nat := 0
  /-- tick; 14 R614, when the on-segment started; reset 0. -/
  segAt : Nat := 0
  /-- w4; 14 R615, overdrive half-cycles still to come; reset 0. -/
  od : Nat := 0
  /-- w5; 14 R616, brake half-cycles made; reset 0. -/
  brakes : Nat := 0
  /-- w17; 14 R614, the amplitude of the half-cycle in progress, mV; reset 0. -/
  drive : Nat := 0
  /-- w17; 14 R615, the back-EMF amplitude measured last, mV; reset 0. -/
  bemf : Nat := 0
  /-- tick; the last drive zero-crossing; reset 0. -/
  crossed : Nat := 0
  /-- w4; 14 R627, consecutive misses; reset 0. -/
  missRun : Nat := 0
  /-- w7; 14 R627, consecutive half-cycles with P clamped; reset 0. -/
  clampRun : Nat := 0
  /-- 14 R617, R618, the effect that starts at the next zero-crossing; reset none. -/
  waiting : Option Nat := none
  /-- w32; 14 STARTS; reset 0. -/
  starts : Nat := 0
  /-- w32; 14 DROPPED; reset 0. -/
  dropped : Nat := 0
  /-- w32; 14 MISSES; reset 0. -/
  misses : Nat := 0
  /-- w1; 14 R620, the level of HAP_TRIG; reset 0. -/
  pin : Bool := false
  /-- tick; 14 R620, an edge being filtered; reset none. -/
  edgeAt : Option Nat := none
  /-- tick; 14 R620, edges are ignored until then; reset 0. -/
  rearmAt : Nat := 0
  /-- 14 R623, the HAPTIC cycle and the rank (2 command, 1 pin, 0 key) of the last start or stop taken; reset none. -/
  taken : Option (Nat × Nat) := none
  deriving DecidableEq, Repr

/-- The haptic block. -/
structure Haptic where
  /-- 16 channels; 14 R607. -/
  chans : Tab HapChan := []
  /-- mV; 14 R609, VHAP as last measured; reset none (a value the supply sets). -/
  vhap : Option Nat := none
  /-- w1; 14 R610, VHAP has fallen below 2.8 V and not risen above 3.0 V; reset 0. -/
  low : Bool := false
  deriving DecidableEq, Repr

end Sys2Proof.Machine
end

