-- ==== Sys2Proof/Machine/Parts/HostIf.lean ====
section
/-! DEFINITION. The state of the host interface (06): function pages, rings, moderation, MSI-X, records held for a
sleeping function, and the events' ring side (18). Each field's docstring says width; file and rule; reset value. -/

namespace Sys2Proof.Machine

/-- The device power state of a function (06 R291). -/
inductive DState where
  | d0 | d3hot | d3cold
  deriving DecidableEq, Repr

/-- Signalling of one completion or event ring (06 R285 to R287). -/
structure Signal where
  /-- w1; 06 R281; reset 1. Phase of the records written on this pass. -/
  phase : Bool := true
  /-- w1; 06 R286; reset 1. No message for the ring is outstanding. -/
  armed : Bool := true
  /-- w16; 06 R286; reset 0. Records no message has covered yet. -/
  unsignalled : Nat := 0
  /-- tick; 06 R286; reset none. When the open moderation window ends. -/
  window : Option Nat := none
  deriving DecidableEq, Repr

/-- One command ring and its completion ring: the block at 0x0100 + 0x40 r of a function page. -/
structure CmdRing where
  /-- w64; 06 R261 CR_BASE_LO and CR_BASE_HI; reset 0. -/
  base : Nat := 0
  /-- w1; 06 R262 CR_CFG.ENABLE; reset 0. -/
  enable : Bool := false
  /-- w1; 06 R265 CR_CFG.DISABLE_PENDING; reset 0. -/
  disablePending : Bool := false
  /-- w5; 06 R260 CR_CFG.SIZE_LOG2; reset 0. -/
  sizeLog2 : Nat := 0
  /-- w16; 06 R270 CR_TAIL; reset 0. -/
  tail : Nat := 0
  /-- w16; 06 R275 CR_HEAD; reset 0. -/
  head : Nat := 0
  /-- w16; 06 R274; reset 0. Next slot handed over and not yet visible. -/
  taken : Nat := 0
  /-- 06 R274; reset 0. Descriptors handed over and not yet visible. -/
  handed : Nat := 0
  /-- w1; 06 R276 CR_STATUS.FETCH_ERR; reset 0. -/
  fetchErr : Bool := false
  /-- w1; 06 R262 CR_STATUS.CFG_ERR; reset 0. -/
  cfgErr : Bool := false
  /-- w1; 06 R271 CR_STATUS.DB_ERR; reset 0. -/
  dbErr : Bool := false
  /-- w3; 00 R10, 06 R268, the CR_STATUS bits set in tick `errAt`; reset 0. -/
  errNew : Nat := 0
  /-- tick; 00 R10; reset 0. -/
  errAt : Nat := 0
  /-- w64; 06 R261 CC_BASE_LO and CC_BASE_HI; reset 0. -/
  ccBase : Nat := 0
  /-- w1; 06 R262 CC_CFG.ENABLE; reset 0. -/
  ccEnable : Bool := false
  /-- w5; 06 R260 CC_CFG.SIZE_LOG2; reset 0. -/
  ccSizeLog2 : Nat := 0
  /-- w8; 06 R286 CC_CFG.MOD_COUNT; reset 1. -/
  ccModCount : Nat := 1
  /-- w16; 06 R286 CC_CFG.MOD_TIME; reset 0. -/
  ccModTime : Nat := 0
  /-- w16; 06 R274 CC_HEAD; reset 0. -/
  ccHead : Nat := 0
  /-- w16; 06 R281 CC_TAIL; reset 0. -/
  ccTail : Nat := 0
  /-- w17; 06 R274; reset 0. Completion records issued and not returned by CC_HEAD. -/
  ccUsed : Nat := 0
  /-- w17; 06 R273; reset 0. Completion slots reserved for commands taken. -/
  ccReserved : Nat := 0
  /-- 06 R285. Moderation of the completion ring. -/
  sig : Signal := {}
  deriving DecidableEq, Repr

/-- One event ring, physical n: EV_RING[n] of the event controller and the owner's EV_HEAD and EV_TAIL. -/
structure EvRing where
  /-- w1; 18 EV_RING.ENABLE; reset 1 for n = 0 and 0 otherwise. -/
  enable : Bool := false
  /-- w5; 18 EV_RING.OWNER; reset 0x00 for n = 0 and 0x1F otherwise. -/
  owner : Nat := 0x1F
  /-- w8; 18 EV_RING.LOCAL; reset 0. -/
  loc : Nat := 0
  /-- w64; 18 R749 BASE; reset 0. -/
  base : Nat := 0
  /-- w5; 18 R749 SIZE_LOG2; reset 0. -/
  sizeLog2 : Nat := 0
  /-- w16; 06 EV_HEAD; reset 0. -/
  head : Nat := 0
  /-- w16; 06 EV_TAIL; reset 0. -/
  tail : Nat := 0
  /-- w8; 18 R749 MOD_COUNT; reset 1. -/
  modCount : Nat := 1
  /-- w16; 18 R749 MOD_TIME; reset 0. -/
  modTime : Nat := 0
  /-- 06 R285. Moderation of the event ring. -/
  sig : Signal := {}
  /-- 18 R738, R741. The unacknowledged records, oldest first: physical source, CAUSE bits, whether SOFT was sampled. -/
  records : List (Nat × Nat × Bool) := []
  /-- tick; 18 R738, the ring's last claim; reset none. -/
  claimAt : Option Nat := none
  deriving DecidableEq, Repr

/-- One MSI-X table entry (06 R285; the PCIe layout). -/
structure MsixEntry where
  /-- w64; 06 R285; reset 0. Message address. -/
  addr : Nat := 0
  /-- w32; 06 R285; reset 0. Message data. -/
  data : Nat := 0
  /-- w1; 06 R289; reset 1 (log entry 6). Vector mask. -/
  mask : Bool := true
  deriving DecidableEq, Repr

/-- A record held for a function that cannot take it (06 R291), without its phase. -/
structure Held where
  /-- A completion record of command ring `ring`, or else an event record of local event ring `ring`. -/
  isCompletion : Bool
  ring : Nat
  bytes : List Byte
  /-- Or a status record of the function at this host address (16 R697). -/
  addr : Option Nat := none
  /-- The tick of its issue (06 R283). -/
  tick : Nat := 0
  deriving DecidableEq, Repr

/-- The PCI configuration space of a function, in the parts the device supports (06 R251, R254; the layouts are the PCIe
base specification's, log entry 125), apart from the fields that have a home of their own in Fn. -/
structure PciSpace where
  /-- w64; 06 R251 BAR0, 64-bit, non-prefetchable, 16 KiB; reset 0. -/
  bar0 : Nat := 0
  /-- w64; 06 R251 BAR2, 64-bit, non-prefetchable, 8 KiB; reset 0. -/
  bar2 : Nat := 0
  /-- w1; 06 R251 Memory Space Enable; reset 0. -/
  memEnable : Bool := false
  /-- w1; 06 R254 MSI-X Enable; reset 0. -/
  msixEnable : Bool := false
  /-- w4; 06, "Timeouts at the host interface": Completion Timeout Value; reset 0, the default. -/
  timeout : Nat := 0
  /-- w2; 06 R254 ASPM Control; reset 0. -/
  aspm : Nat := 0
  /-- w4; 06 R254, the enables of the L1 substates: bit 3 ASPM L1.1, bit 2 ASPM L1.2, bits 1:0 PCI-PM L1.1 and L1.2; reset 0. -/
  l1ss : Nat := 0
  /-- w32; 06 R254 AER Uncorrectable Error Status; reset 0. -/
  aerUe : Nat := 0
  /-- w32; 00 R10, the bits of aerUe set in tick aerAt; reset 0 and none. -/
  aerNew : Nat := 0
  aerAt : Option Nat := none
  /-- w32; 06 R254 AER Uncorrectable Error Mask; reset 0. -/
  aerUeMask : Nat := 0
  /-- w32; 06 R254 AER Uncorrectable Error Severity; reset 0x0046_2030. -/
  aerUeSev : Nat := 0x00462030
  /-- w32; 06 R254 AER Correctable Error Status; reset 0. -/
  aerCe : Nat := 0
  /-- w32; 06 R254 AER Correctable Error Mask; reset 0x0000_2000. -/
  aerCeMask : Nat := 0x2000
  deriving DecidableEq, Repr

/-- One function's page and PCIe side, apart from its command rings. -/
structure Fn where
  /-- w1; 06 R271 FN_ERR.EV_DB_ERR; reset 0. -/
  evDbErr : Bool := false
  /-- w8; 06 R271 FN_ERR.EV_DB_RING; reset 0. -/
  evDbRing : Nat := 0
  /-- tick; 00 R10, 06 R268, when EV_DB_ERR was set last; reset none. -/
  evDbAt : Option Nat := none
  /-- w32; 06 R258 TLC_TICK_HI; reset 0. -/
  tlcHi : Nat := 0
  /-- w32; 06 R258 TLC_EPOCH; reset 0. -/
  tlcEpoch : Nat := 0
  /-- w32; 06 R258 TLC_OFFSET; reset 0. -/
  tlcOffset : Nat := 0
  /-- 3 names; 06 R291; reset d0 (log entry 6). -/
  dstate : DState := .d0
  /-- w1; 06 R291 Bus Master Enable; reset 0 (log entry 6). -/
  busMaster : Bool := false
  /-- w1; 06 R293 PME_En; reset 0 (log entry 6). -/
  pmeEn : Bool := false
  /-- w1; 06 R293 PME_Status; reset 0. -/
  pmeStatus : Bool := false
  /-- tick; 00 R10, when PME_Status was set last; reset none. -/
  pmeSetAt : Option Nat := none
  /-- tick; 06 R293, when the function sent its last PME; reset none. -/
  pmeAt : Option Nat := none
  /-- w1; 06 R293; reset 0. A record was already held in this stay in D3. -/
  heldInStay : Bool := false
  /-- w1; 06 R293; reset 0. WAKE# is asserted for this function. -/
  wakeAsserted : Bool := false
  /-- w1; 06 R289 MSI-X Function Mask; reset 0 (log entry 6). -/
  fnMask : Bool := false
  /-- 06 R251, R254; the configuration space. -/
  cfg : PciSpace := {}
  /-- 260 entries; 06 R285 MSI-X table; reset 0 each. -/
  msix : Tab MsixEntry := []
  /-- 260 bits; 06 R289 PBA, the vectors pending, ascending; reset none. -/
  pba : List Nat := []
  /-- at most 1 MiB for all functions; 06 R291, R292; reset none. -/
  held : List Held := []
  deriving DecidableEq, Repr

/-- What leaves the device in one tick at its PCIe boundary beside the bytes it writes (06 R286, R293). -/
inductive Out where
  | message (fn vector addr data : Nat)   -- an MSI-X message
  | pme (fn : Nat)                        -- a PME message
  deriving DecidableEq, Repr

/-- The state of the PCIe link (06 R254, R290). -/
inductive Link where
  | l0 | l1 | l11 | l12
  deriving DecidableEq, Repr

/-- The PCIe side as a whole. -/
structure Pcie where
  /-- w1; 05 R864, VF Enable; reset 1 (log entry 6). -/
  vfEnable : Bool := true
  /-- w1; 06 R686, the link is down; reset 0. -/
  linkDown : Bool := false
  /-- 4 names; 06 R254, R290; reset L0 (log entry 125). -/
  link : Link := .l0
  /-- w16; 06 R252, TotalVFs and InitialVFs of the SR-IOV capability; 16. -/
  totalVfs : Nat := 16
  /-- w16; 06 R252 NumVFs; reset 0. -/
  numVfs : Nat := 0
  /-- w16; 06 R252 First VF Offset; 1. -/
  firstVf : Nat := 1
  /-- w16; 06 R252 VF Stride; 1. -/
  vfStride : Nat := 1
  /-- w1; 06 R252 VF MSE; reset 0. -/
  vfMse : Bool := false
  /-- w32; 06 R252 System Page Size; reset 1 (4 KiB). -/
  sysPage : Nat := 1
  /-- w64; 06 R252 VF BAR0; reset 0. -/
  vfBar0 : Nat := 0
  /-- w64; 06 R252 VF BAR2; reset 0. -/
  vfBar2 : Nat := 0
  /-- w1; 06 R253, the device is ARI-capable; 1. -/
  ari : Bool := true
  /-- w1; 06 R253 ARI Capable Hierarchy; reset 0. -/
  ariHier : Bool := false
  /-- w1; 06 R293, the WAKE# pin is asserted; reset 0. -/
  wakePin : Bool := false
  /-- 06 R286, R293; reset none. What left the device in the tick in progress. -/
  out : List Out := []
  deriving DecidableEq, Repr

end Sys2Proof.Machine
end

