-- ==== Sys2Proof/Machine/Parts/Integrity.lean ====
section
/-! DEFINITION. The state of the assay units and of the telltale planes (10). -/

namespace Sys2Proof.Machine

/-- One of the 48 assay units. -/
structure Assay where
  /-- w5; 10 AU_CTRL.OWNER; reset 0x1F. -/
  owner : Nat := 0x1F
  /-- w8; 05 R199, local number; reset 0. -/
  loc : Nat := 0
  /-- w1; 10 AU_CTRL.ENABLE; reset 0. -/
  enable : Bool := false
  /-- w1; 10 AU_CTRL.C1; reset 0. -/
  c1 : Bool := false
  /-- w2; 10 AU_CTRL.EXPECT_SRC, 0 NONE, 1 TENANCY, 2 SHADOW; reset 0. -/
  expect : Nat := 0
  /-- w2; 10 AU_CTRL.ALGO; reset 0. -/
  algo : Nat := 0
  /-- w3; 10 AU_CTRL.SNOOP; reset 0. -/
  snoop : Nat := 0
  /-- w8; 10 AU_CTRL.REGION_ID; reset 0. -/
  region : Nat := 0
  /-- w8; 10 AU_CTRL.TARGET, physical head, channel or sink; reset 0. -/
  target : Nat := 0
  /-- w8; 10 R459, the tag folded into the expected value; reset 0. -/
  tag : Nat := 0
  /-- w32; 10 AU_RECT_XY; reset 0. -/
  xy : Nat := 0
  /-- w32; 10 AU_RECT_WH; reset 0. -/
  wh : Nat := 0
  /-- w32; 10 AU_SEQ; reset 0. -/
  seq : Nat := 0
  /-- w64; 10 AU_BASE_LO and AU_BASE_HI; reset 0. -/
  base : Nat := 0
  /-- w1; 10 R463, an EXPECT_BASE has been supplied since the configuration; reset 0. -/
  hasBase : Bool := false
  /-- w64; 10 AU_ACTUAL_LO and AU_ACTUAL_HI; reset 0. -/
  actual : Nat := 0
  /-- w64; 10 AU_EXPECT_LO and AU_EXPECT_HI; reset 0. -/
  expected : Nat := 0
  /-- w3; 10 AU_RESULT; reset 0. -/
  result : Nat := 0
  /-- w32; 10 R487 SEQ, sequence number of the last comparison; reset 0. -/
  lastSeq : Nat := 0
  /-- w32; 10 R487 COMPARES; reset 0. -/
  compares : Nat := 0
  /-- w32; 10 R487 FAILS; reset 0. -/
  fails : Nat := 0
  /-- w32; 10 R487 FIRST_FAIL; reset 0 (none). -/
  firstFail : Nat := 0
  /-- tick; 10 R484, when the configuration took effect; reset 0. -/
  since : Nat := 0
  /-- 10 R484, the transfers of its channel that had started when the configuration took effect, by the model's numbers; reset
  none. -/
  begun : List Nat := []
  /-- w64; 10 R458, the check register of the data in progress; reset 0. -/
  acc : Nat := 0
  /-- w32; 10 R463, rows, samples or bytes of the data in progress that have been seen; reset 0. -/
  seen : Nat := 0
  /-- w1; 10 R463, part of the data in progress was not seen, or a poisoned word was read; reset 0. -/
  missed : Bool := false
  /-- w64; 10 R471, the check register of the shadow pipe's copy of the frame in progress; reset 0. -/
  shadow : Nat := 0
  /-- tick; 10 R462, when the comparison of the audio block that has ended is due; reset none. -/
  compareAt : Option Nat := none
  /-- w1; 10 R136, the shadow pipe read a poisoned word in this frame; reset 0. -/
  poisoned : Bool := false
  deriving DecidableEq, Repr

/-- One sprite of a telltale plane (10 R474). -/
structure Sprite where
  /-- w1; 10 TT_POS.ENABLE; reset 0. -/
  enable : Bool := false
  /-- w13; 10 TT_POS.X; reset 0. -/
  x : Nat := 0
  /-- w13; 10 TT_POS.Y; reset 0. -/
  y : Nat := 0
  /-- w8; 10 TT_SIZE.W_M1; reset 0. -/
  wM1 : Nat := 0
  /-- w8; 10 TT_SIZE.H_M1; reset 0. -/
  hM1 : Nat := 0
  /-- w22; 10 TT_IMAGE; reset 0. -/
  image : Nat := 0
  /-- w32; 10 TT_CRC; reset 0. -/
  crc : Nat := 0
  /-- w1; 10 R477, its image passed its check when it was enabled; reset 0. -/
  good : Bool := false
  /-- w1; 10 R477, a poisoned word of its image was read in the frame in progress; reset 0. -/
  clear : Bool := false
  deriving DecidableEq, Repr

/-- A source line in the shadow pipe's landing ring (10 R470): its bytes as stored and where in the ring they begin. -/
structure Landed where
  bytes : List Byte := []
  place : Nat := 0
  deriving DecidableEq, Repr

/-- The integrity block. -/
structure Integrity where
  /-- 48 units; 10 R454. -/
  units : Tab Assay := []
  /-- 12 x 64 sprites; 10 TT_POS to TT_CRC, sprite n of head h at 64 h + n; reset 0. -/
  sprites : Tab Sprite := []
  /-- 12 x 15 x w30; 10 TT_PALETTE, entry i of head h at 16 h + i; reset 0. -/
  palette : Tab Nat := []
  /-- 10 R476, the sprites as the planes draw them in the frame in progress; reset none. -/
  shown : Tab Sprite := []
  /-- 10 R476, the palettes as the planes draw them in the frame in progress; reset 0. -/
  shownPalette : Tab Nat := []
  /-- w4; 10 R480, the head that shows early telltales and has not been enabled by the manager; reset none. -/
  early : Option Nat := none
  /-- 10 R470, contents of the landing ring, by frame, unit, layer slot and source line; reset none. -/
  landed : Tab Landed := []
  /-- w20; 10 R470, the byte of the landing ring at which the next line begins; reset 0. -/
  landAt : Nat := 0
  deriving DecidableEq, Repr

end Sys2Proof.Machine
end

