-- ==== Sys2Proof/Machine/Parts/Ledger.lean ====
section
/-! DEFINITION. The state of the Fault Ledger (20). -/

namespace Sys2Proof.Machine

/-- One Ledger source (20 R789 to R791). -/
structure LgSrc where
  /-- w1; 20 R791 status bit; reset 0. -/
  on : Bool := false
  /-- w64; 20 R791 STAMP; reset 0. -/
  stamp : Nat := 0
  /-- w18; 20 R791 AFFECT: bits 16:0 owner codes, bit 17 the device; reset 0. -/
  affect : Nat := 0
  /-- w1; 20 R802 INJECTED; reset 0. -/
  injected : Bool := false
  /-- w2; 20 R871, the class a merge raised it to; reset 0 (not raised). -/
  raised : Nat := 0
  /-- tick; 00 R10, 20 R792, when the source was asserted last; reset none. -/
  setAt : Option Nat := none
  /-- w18; 00 R10, 20 R792, the parties the assertions of that tick named; reset 0. -/
  setAffect : Nat := 0
  /-- w64; 20 R799, STAMP of the bit's latest log entry; reset none. -/
  logged : Option Nat := none
  deriving DecidableEq, Repr

/-- A fault log entry (20 R799). -/
structure LogEntry where
  source : Nat := 0
  injected : Bool := false
  cls : Nat := 0
  seq : Nat := 0
  epoch : Nat := 0
  stamp : Nat := 0
  affect : Nat := 0
  deriving DecidableEq, Repr

/-- A CONTAIN or DEGRADE reaction (20 R793, R795): the parties (an AFFECT mask) that are contained and degraded. -/
structure Reaction where
  /-- Ledger bit it started for. -/
  source : Nat := 0
  /-- The gravest class of the assertions merged into it. -/
  cls : Nat := 0
  /-- Parties that receive CONTAIN. -/
  contain : Nat := 0
  /-- Parties that receive DEGRADE. -/
  degrade : Nat := 0
  /-- The tenancies that assertions of class CONTAIN named, each with its Ledger bit, oldest first. -/
  named : List (Nat × Nat) := []
  /-- Whether Chroulakor has started it. -/
  started : Bool := false
  /-- Tick of the assertion, or of the start once started. -/
  since : Nat := 0
  deriving DecidableEq, Repr

/-- The Ledger. -/
structure Ledger where
  /-- 64 sources; 20 R789; reset: none set. -/
  src : Tab LgSrc := []
  /-- 4 x w32; 20 LG_CLASS[0..3]; reset BFEC3EBF, 8A229A84, 0, 0. -/
  cls0 : Nat := 0xBFEC3EBF
  cls1 : Nat := 0x8A229A84
  cls2 : Nat := 0
  cls3 : Nat := 0
  /-- w1; 20 LG_CTRL.LOCK; reset 0. -/
  lock : Bool := false
  /-- w1; 20 LG_CTRL.FORCE_HALT; reset 0. -/
  forceHalt : Bool := false
  /-- w1; 20 LG_CTRL.INJECT_HALT; reset 0. -/
  injectHalt : Bool := false
  /-- w6; 20 LG_SEL; reset 0. -/
  sel : Nat := 0
  /-- w32; 20 LG_LOG_SEQ; reset 0. -/
  logSeq : Nat := 0
  /-- 4,096 entries; 20 R799, by sequence number modulo 4,096; reset none. -/
  log : Tab LogEntry := []
  /-- 20 R793, R795; reset none. The reactions asserted or in progress, oldest first. -/
  reactions : List Reaction := []
  /-- w17; 20 LG_SUMMARY.DEGRADED; reset 0. -/
  degraded : Nat := 0
  /-- w6; 20 R797 LG_HALT_SRC, in the AON domain; reset none. The first HALT bit. -/
  haltSrc : Option Nat := none
  /-- w2; 20 R793, consecutive epoch samples missed; reset 0. -/
  missed : Nat := 0
  deriving DecidableEq, Repr

end Sys2Proof.Machine
end

