-- ==== Sys2Proof/Machine/Parts/Power.lean ====
section
/-! DEFINITION. The state of the power sequencer, of the AON domain and of the boot loader (21, 22). -/

namespace Sys2Proof.Machine

/-- The state of the device (21 R805, WK_STATE), in its numbering. -/
inductive PwState where
  | run | watch | keep | off | waking | booting | wakeFailed
  deriving DecidableEq, Repr

/-- Where the boot ROM is (21 R828 to R832), once the logic stage of a cold boot has ended. -/
inductive BootStep where
  | stages      -- the stages of R820 run
  | slotA       -- image slot A is being read
  | slotB       -- slot B
  | pcie        -- it waits for, or loads, a PCIe image (also in the resumption of R827)
  | trained     -- an image has been accepted; ranks are being trained
  | failed      -- both slots failed and there is no fallback (R831)
  deriving DecidableEq, Repr

/-- The power block. -/
structure Power where
  /-- w3; 21 R805 WK_STATE.STATE; reset BOOTING. -/
  state : PwState := .booting
  /-- 21 R810, the state being entered, between the entry instant and its being reached; reset none. -/
  entering : Option PwState := none
  /-- tick; 21 R810, when the wait for L2/L3 Ready ends; reset none. -/
  l2By : Option Nat := none
  /-- w3; 21 R820, the stage in progress, 1 to 4; 5 once they have ended; reset 1 (21 R828). -/
  stage : Nat := 1
  /-- w1; 21 R821, the stage in progress is at its retry; reset 0. -/
  retrying : Bool := false
  /-- w1; 21 R821, PWR_REQ is held low before the regulator's retry; reset 0. -/
  pwrLow : Bool := false
  /-- w1; 21 R823, PGOOD has fallen in the stage in progress; reset 0. -/
  notReady : Bool := false
  /-- w1; 21 R820, R826, the start in progress is a cold boot; reset 1 (21 R828). -/
  cold : Bool := true
  /-- w1; 21 R826, a wake became this cold boot: the COLD cause is due; reset 0. -/
  coldWake : Bool := false
  /-- w1; 21 R821, a stage of this start needed its retry; reset 0. -/
  retried : Bool := false
  /-- w4; 21 WK_STATUS[7:4]; reset 0. -/
  retries : Nat := 0
  /-- w3; 21 WK_STATUS.FAILED_STAGE; reset 0. -/
  failedStage : Nat := 0
  /-- w5; 21 WK_CAUSE; reset 0x10. -/
  cause : Nat := 0x10
  /-- tick; 00 R10, when WK_CAUSE or a retry bit of WK_STATUS was last set; reset 0. -/
  setAt : Nat := 0
  /-- w9; 00 R10, the bits of WK_CAUSE and, from bit 5, the retry bits set in tick `setAt`; reset 0. -/
  setNow : Nat := 0
  /-- w1; 21 R813, a wake source fired during an entry; reset 0. -/
  wakeDue : Bool := false
  /-- w7; 21 R818 WAKE_ADDR, in the AON domain; 0x5A after the AON supply rises. -/
  wakeAddr : Nat := 0x5A
  /-- w3; 21 R835 WATCH_PORT; 0 after the AON supply rises (log entry 27). -/
  watchPort : Nat := 0
  /-- w1; 21 R835 TOUCH_EN; 0 after the AON supply rises. -/
  touchEn : Bool := false
  /-- w1; 21 R835 HOST_EN; 0 after the AON supply rises. -/
  hostEn : Bool := false
  /-- w4; 21 R835 WAKE_SCANS; 0 after the AON supply rises (log entry 27). -/
  wakeScans : Nat := 0
  /-- w16; 21 R835 WAKE_THRESH; 0 after the AON supply rises (log entry 27). -/
  wakeThresh : Nat := 0
  /-- w16; 21 R835 TRIG_MASK; 0 after the AON supply rises. -/
  trigMask : Nat := 0
  /-- w8; 22 R853, the pointer of the wake target; 0x01 after the AON supply rises. -/
  pointer : Nat := 1
  /-- 22 R853, what the last read transaction returned; reset none. -/
  wakeOut : List Byte := []
  /-- w4; 21 R814, consecutive scans over WAKE_THRESH; reset 0. -/
  hits : Nat := 0
  /-- 21 R812, CR_TAIL writes of PF0 kept in WATCH: ring and value; reset none. -/
  tails : List (Nat × Nat) := []
  /-- 21 R834, the gated blocks, by BLOCK; reset none. -/
  gated : List Nat := []
  /-- w1; 01 R29, the AON domain runs on its RC oscillator; reset 0. -/
  rc : Bool := false
  /-- w1; 22 R841, RESET_N is low; reset 0. -/
  resetLow : Bool := false
  /-- w1; 22 R843, the AON supply is below its power-on threshold; reset 0. -/
  aonDown : Bool := false
  /-- w2; 21 R828 BOOT_SEL as sampled; reset 0 (log entry 26). -/
  bootSel : Nat := 0
  /-- 6 names; 21 R830; reset: the stages of R820. -/
  boot : BootStep := .stages
  /-- w1; 21 R831, a slot has failed in this boot; reset 0. -/
  bootFault : Bool := false
  /-- w1; 21 R827, the image in force came from PCIe; reset 0. -/
  pcieBoot : Bool := false
  /-- w64; 21 BOOT_ADDR_LO and BOOT_ADDR_HI; reset 0. -/
  bootAddr : Nat := 0
  /-- w22; 21 BOOT_LEN; reset 0. -/
  bootLen : Nat := 0
  /-- w2; 21 BOOT_CTRL.STATUS; reset 0. -/
  bootStatus : Nat := 0
  /-- w16; 17 R711 SPARE_MASK of the accepted image; reset 0. -/
  spares : Nat := 0
  /-- w1; 07 R318 PATCHED; reset 0. -/
  patched : Bool := false
  /-- w32; 07 R318 PATCH_VERSION; reset 0. -/
  patchVersion : Nat := 0
  deriving DecidableEq, Repr

end Sys2Proof.Machine
end

