-- ==== Sys2Proof/Machine/Parts/Stockroom.lean ====
section
/-! DEFINITION. The state of the Stockroom: shelves, their owners, errors, the stager and the placed structures (03). -/

namespace Sys2Proof.Machine

/-- A structure recorded in the Stockroom (03 R111 to R113). -/
structure Placed where
  owner : Nat
  /-- The kind of object it belongs to: 2 GPU context pool, 3 GPU cache, 6 audio stream, 12 assay expectation. -/
  kind : Nat
  object : Nat
  /-- w28; first local address. -/
  addr : Nat
  len : Nat
  deriving DecidableEq, Repr

/-- A staging ring (03 R117, R118): the local shelves of its tenancy it occupies. -/
structure Ring where
  slot : Nat
  owner : Nat
  shelves : List Nat
  /-- 04 R174, 07 SHELVES_USED, local shelves kept for the ring that an admitted change will need, each with the model's
  number of the change; reset none. -/
  spare : List (Nat × Nat) := []
  deriving DecidableEq, Repr

/-- The stager of one head. -/
structure Stager where
  /-- w21; 03 R114 LEAD; reset 400,000. -/
  lead : Nat := 400000
  /-- w21; 03 R126 SR_MARGIN_WARN; reset 40,000. -/
  warn : Nat := 40000
  /-- w32; 03 R125 SR_STAGE_MARGIN; reset 0xFFFF_FFFF. -/
  margin : Nat := 0xFFFFFFFF
  /-- w32; 03 R125, the smallest margin of the epoch in progress; reset 0xFFFF_FFFF (nothing staged). -/
  least : Nat := 0xFFFFFFFF
  /-- w32; 03 R121, the frame whose layer state the stager uses; reset 0. -/
  frame : Nat := 0
  /-- w32; 03 R115, the line whose data was requested last; reset 0. -/
  line : Nat := 0
  /-- w32; 03 R125, lines of the staged frame whose data has arrived; reset 0. -/
  arrived : Nat := 0
  /-- w32; 03 R125, the same of the frame staged before it; reset 0. -/
  older : Nat := 0
  /-- w32; 03 R115, the line of that older frame whose data is requested next; reset 0. -/
  oldLine : Nat := 0
  /-- w21; 03 R115, R149, the LEAD that older frame is staged with; reset 400,000. -/
  oldLead : Nat := 400000
  deriving DecidableEq, Repr

/-- A shelf or a plot waiting for, or in, zeroising (03 R105, 05 R215): its next owner (0x1F: free). -/
structure Zeroise where
  unit : Nat
  next : Nat
  deriving DecidableEq, Repr

/-- The answer a port gave to the last request it served. -/
structure PortAnswer where
  port : Nat := 0
  bytes : List Byte := []
  /-- Words of the answer, counted from the first, that are marked as poisoned. -/
  poisoned : List Nat := []
  deriving DecidableEq, Repr

/-- The Stockroom block. -/
structure Stockroom where
  /-- 192 MiB; 03 R91, R92; reset: every byte zero (R144). -/
  mem : Mem := []
  /-- 03 R131 to R135, words that do not read as stored, by word address; reset: every word sound. -/
  words : Tab WordFault := []
  /-- 768 x w5; 03 SR_SHELF_OWNER, owner + 1 of the shelves not free; reset free (0x1F), the fixed bays apart. -/
  owner : Tab Nat := []
  /-- w10; 03 R96 SR_SECURE_WM.WM; reset 16. -/
  wm : Nat := 16
  /-- w1; 03 R96 SR_SECURE_WM.LOCK; reset 0. -/
  lock : Bool := false
  /-- w48; 03 R142 SR_RETAIN_LO and SR_RETAIN_HI; reset 1. -/
  retain : Nat := 1
  /-- w32; 03 R131 SR_CE_COUNT; reset 0. -/
  ceCount : Nat := 0
  /-- w32; 03 R132 SR_UE_COUNT; reset 0. -/
  ueCount : Nat := 0
  /-- w28; 03 R132 SR_UE_ADDR; reset 0. -/
  ueAddr : Nat := 0
  /-- 17 x w64; 03 R156 RD_BYTES, by owner code; reset 0. -/
  rdBytes : Tab Nat := []
  /-- 17 x w64; 03 R156 WR_BYTES, by owner code; reset 0. -/
  wrBytes : Tab Nat := []
  /-- 8 x w32; 03 R155 BUSY of the last completed epoch; reset 0. -/
  busy : List Nat := [0, 0, 0, 0, 0, 0, 0, 0]
  /-- 8 x w32; 03 R155, turns in which each group moved data in this epoch; reset 0. -/
  busyNow : List Nat := [0, 0, 0, 0, 0, 0, 0, 0]
  /-- w8; 03 R155, the groups that moved data in the turn in progress; reset none. -/
  moved : Nat := 0
  /-- w22; 03 R138, the next beat the scrubber reads; reset 0. -/
  scrub : Nat := 0
  /-- 12 stagers; 03 R114 to R126. -/
  stagers : Tab Stager := []
  /-- 03 R117, the staging rings; reset none. -/
  rings : List Ring := []
  /-- 03 R110, the recorded structures; reset none. -/
  placed : List Placed := []
  /-- 03 R105, shelves being zeroised, in turn; reset none. -/
  zeroise : List Zeroise := []
  /-- 02 R27, R70, R226; requests that wait for a turn of their owner, oldest first; reset none. -/
  waiting : List PortRequest := []
  /-- 03 R103, what the port answered last; reset: nothing. -/
  answer : PortAnswer := {}
  deriving DecidableEq, Repr

end Sys2Proof.Machine
end

