-- ==== Sys2Proof/Machine/Parts/Tenancy.lean ====
section
/-! DEFINITION. The state of the tenancies, of their grants and charges, of the partition load and of the commands
in flight (04 to 07). -/

namespace Sys2Proof.Machine

/-- States of a tenancy (05 R201), numbered as FN_STATE.STATE. -/
inductive TenState where
  | absent | live | quiescing | quiesced | frozen
  deriving DecidableEq, Repr

/-- A tenancy record of a Karbobin image (05 R218), with the physical shelves and plots of its extents in order. -/
structure Grants where
  /-- w1; 05 R218 PRESENT. -/
  isPresent : Bool := false
  /-- w1; 05 R225 LENDING. -/
  lending : Bool := false
  /-- w8; 05 R205 CMD_RINGS. -/
  cmdRings : Nat := 0
  /-- w8; 05 R205 LAYER_SLOTS. -/
  layerSlots : Nat := 0
  /-- w16; 05 R205 EVENT_RINGS. -/
  eventRings : Nat := 0
  /-- w16; 05 R205 GPU_CONTEXTS. -/
  gpuContexts : Nat := 0
  /-- w4; 05 R208 GROVES_DED. -/
  grovesDed : Nat := 0
  /-- w4; 05 R208 GROVES_SHR. -/
  grovesShr : Nat := 0
  /-- w8; 05 R205 DMA_CHANNELS. -/
  dmaChannels : Nat := 0
  /-- w8; 05 R205 AUDIO_STREAMS. -/
  audioStreams : Nat := 0
  /-- w8; 05 R205 MIXER_INPUTS. -/
  mixerInputs : Nat := 0
  /-- w8; 05 R205 ASSAY_UNITS. -/
  assayUnits : Nat := 0
  /-- w8; 05 R209 TOUCH_EXCL. -/
  touchExcl : Nat := 0
  /-- w8; 05 R209 TOUCH_SHR. -/
  touchShr : Nat := 0
  /-- w16; 05 R218 HAPTIC. -/
  haptic : Nat := 0
  /-- w12; 05 R218 HEADS. -/
  heads : Nat := 0
  /-- w16; 04 R184 STAGING_SHARE. -/
  staging : Nat := 0
  /-- w16; 05 R205 MIXER_SLOTS. -/
  mixerSlots : Nat := 0
  /-- w8; 04 R190 SHADOW_REGIONS. -/
  shadowRegions : Nat := 0
  /-- w32; 04 R190 SHADOW_PIXELS. -/
  shadowPixels : Nat := 0
  /-- 4 x w32; 04 R179 COMPOSE[0..3]. -/
  compose : List Nat := [0, 0, 0, 0]
  /-- 05 R218, the shelves of its extents, in local-number order. -/
  shelves : List Nat := []
  /-- 05 R218, the plots of its extents, in local-number order. -/
  plots : List Nat := []
  deriving DecidableEq, Repr

/-- What a completion reports (06, completion record). -/
structure Verdict where
  /-- w8; 07 status code. -/
  status : Nat := 0
  /-- w8; 07 R310 REASON. -/
  reason : Nat := 0
  /-- w8; 07 R310 INDEX. -/
  index : Nat := 0
  /-- w32; 07 R311 VALUE. -/
  value : Nat := 0
  /-- tick; 06 R280, the instant in EPOCH and TICK (none: zero). -/
  inst : Option Nat := none
  deriving DecidableEq, Repr

/-- What a command in flight waits for. -/
inductive Phase where
  | first                      -- its first completion, at a_k + 8,000 (07 R301)
  | fence                      -- the final completions of its ring's earlier commands (06 R278)
  | epoch                      -- an epoch start strictly after its first completion
  | timed (t : Nat)            -- the instant of its final completion
  | latch (head line : Nat)    -- the latch of a head, at or after tick `line`
  | data                       -- host data it reads
  | warden                     -- the Warden's answer
  | unit                       -- an event of the unit it works on
  deriving DecidableEq, Repr

/-- A command in flight (05 R232): admitted, and without its final completion. -/
structure Flight where
  /-- The model's own number for it, rising with admission. -/
  id : Nat
  src : CmdSrc
  /-- w8; 06 OPCODE. -/
  op : Nat
  /-- w512; 06, the descriptor. -/
  desc : Descriptor
  /-- tick; 04 R164, a_k. -/
  admitted : Nat
  /-- What its first completion reports. -/
  verdict : Verdict
  phase : Phase := .first
  /-- tick; 04 R169, the promised instant. -/
  promised : Option Nat := none
  /-- w1; 20 R793, its promise has been withdrawn. -/
  withdrawn : Bool := false
  /-- w1; 16 R688, 04 R175, its one-shot charges are released before its end. -/
  released : Bool := false
  /-- 04 R187, the turns of the DRAM scheduler, DMA read and DMA write wheels a transfer has been served. -/
  turns7 : Nat := 0
  turns8 : Nat := 0
  turns9 : Nat := 0
  /-- w2; 06 R273, completion slots still reserved for it. -/
  slots : Nat := 0
  /-- 07 R322, the host data it reads, once it has arrived. -/
  data : Option (List Byte) := none
  /-- 07 R322, R336, the host's copy of that data as it stood at the ACCEPT. -/
  copy : Option (List Byte) := none
  /-- w8; 07 R322, the status of data that did not arrive whole (0: none). -/
  dataErr : Nat := 0
  /-- Numbers the owning chapter keeps with it (an object, a count, an instant). -/
  aux : List Nat := []
  deriving DecidableEq, Repr

/-- A command that a TENANCY_QUIESCE in ABORT mode has stopped (05 R234): it does nothing more, and its final completion
comes with the quiesce's first. -/
structure Stopped where
  flight : Flight
  /-- What that completion reports. -/
  ends : Verdict
  /-- The model's number of the quiesce. -/
  byId : Nat
  deriving DecidableEq, Repr

/-- A host aperture (07 R337). -/
structure Aperture where
  /-- w64; 07 TENANCY_APERTURE BASE. -/
  base : Nat := 0
  /-- w64; 07 TENANCY_APERTURE SIZE; 0: none. -/
  size : Nat := 0
  deriving DecidableEq, Repr

/-- One tenancy (05 R198). -/
structure Tenancy where
  /-- 5 names; 05 R201 FN_STATE.STATE; reset LIVE for T0 and ABSENT otherwise. -/
  state : TenState := .absent
  /-- 05 R218, its grants, or what a record reserves while it is ABSENT; reset none (T0: R200). -/
  grants : Grants := {}
  /-- 768 shelves; 03 R108, local number to physical shelf + 1; reset none. -/
  shelves : Tab Nat := []
  /-- 32,768 plots; 05 R211, local index to physical plot + 1; reset none. -/
  plots : Tab Nat := []
  /-- 16 apertures; 07 R337; reset none. -/
  apertures : Tab Aperture := []
  /-- w1; 07 R337, T0 holds the whole host address space; reset 1 for T0. -/
  wholeSpace : Bool := false
  /-- w32; 05 R236 DROPPED; reset 0. -/
  dropped : Nat := 0
  /-- tick; 04 R164, a_(k-1) of its sequence; reset none. -/
  lastAdmission : Option Nat := none
  /-- w8; 18 R736, its default event ring (local); reset 0. -/
  defaultRing : Nat := 0
  /-- w1; 05 R250, FROZEN with import (a restored tenancy); reset 0. -/
  imported : Bool := false
  /-- w64; 20 R801, Ledger sources that contained it; reset 0. -/
  containedBy : Nat := 0
  /-- w1; 05 R241, its layers are leaving after a function-level reset; reset 0. -/
  resetting : Bool := false
  /-- at most 4; 05 R205, the local command rings it holds; reset ring 0 for T0 (R200). -/
  rings : List Nat := []
  /-- tick; 05 R232, the admission instant of the quiesce in progress; reset none. -/
  quiesceAt : Option Nat := none
  /-- 05 R234, its commands stopped by a quiesce in ABORT mode; reset none. -/
  stopped : List Stopped := []
  /-- tick; 05 R238, from when its layers leave at a latch; reset none. -/
  leaveAt : Option Nat := none
  /-- tick; 05 R250, admission of the resume from which its restored layers join their heads; reset none. -/
  joinAt : Option Nat := none
  deriving DecidableEq, Repr

/-- A descriptor made visible (06 R274) and not yet performed. -/
structure Visible where
  src : CmdSrc
  /-- tick; 04 R163, d_k. -/
  doorbell : Nat
  /-- tick; 04 R164, a_k. -/
  admitted : Nat
  /-- 06 R275: the data once it has arrived. -/
  desc : Option Descriptor := none
  /-- w8; 06 R276: 0, or the status of the failed fetch. -/
  failed : Nat := 0
  /-- w1; 06 R275, CR_HEAD has passed its slot. -/
  passed : Bool := false
  /-- w64; 06 R270, the host address of its slot when it became visible. -/
  addr : Nat := 0
  deriving DecidableEq, Repr

/-- Resources of admission (04 R177), by reason code and INDEX. -/
structure Charge where
  owner : Nat
  /-- w8; 04 R177 reason code of the resource. -/
  resource : Nat
  /-- w8; 04 R177 INDEX. -/
  index : Nat
  amount : Nat
  /-- First epoch it counts in (04 R174). -/
  fromEpoch : Nat
  /-- Last epoch it counts in; none: standing. -/
  toEpoch : Option Nat := none
  /-- The object charged: a kind and a number. -/
  kind : Nat
  object : Nat
  /-- tick; 04 R174, the instant of the change it came with. -/
  since : Nat := 0
  deriving DecidableEq, Repr

/-- A partition change waiting for its epoch start (05 R222). -/
structure PendingLoad where
  /-- The model's number of its flight. -/
  id : Nat
  /-- w1: a KARBOBIN_LOAD, which R224 and R334 speak of. -/
  whole : Bool
  /-- 05 R218, the records that differ from the present grants, by owner code. -/
  records : List (Nat × Grants)
  /-- 05 R219, the eleven wheel tables it brings (none for TENANCY_CREATE and TENANCY_GRANT). -/
  wheels : Option (List (List Nat)) := none
  /-- 05 R215, 03 R105, the shelves and plots it zeroises. -/
  shelves : List Nat := []
  plots : List Nat := []
  /-- 05 R222, tenancies becoming ABSENT whose last layer has not left: their units are zeroised after that. -/
  goers : List Nat := []
  deriving DecidableEq, Repr

end Sys2Proof.Machine
end

