-- ==== Sys2Proof/Machine/Parts/Timeline.lean ====
section
/-! DEFINITION. The state of the Timeline, and of the wheels (02). -/

namespace Sys2Proof.Machine

/-- States of the Timeline (02 R49), numbered as TL_STATUS.STATE. -/
inductive TlState where
  | free | acquire | locked | holdover
  deriving DecidableEq, Repr

/-- The Timeline block. -/
structure Timeline where
  /-- w64; 02 R39 tick count; reset 0. -/
  tick : Nat := 0
  /-- w32; 02 R41 TL_EPOCH; reset 0. -/
  epoch : Nat := 0
  /-- w29; 02 R41 tick offset in the current epoch; reset 0. -/
  offset : Nat := 0
  /-- w30; 02 R40, R53: length of the current epoch; reset 25,000,000. -/
  epochLen : Nat := 25000000
  /-- w29; 02 TL_EPOCH_TICKS; reset 25,000,000. -/
  epochTicks : Nat := 25000000
  /-- w3; 02 R44 TL_CTRL.SRC; reset 0. -/
  src : Nat := 0
  /-- w1; 02 TL_CTRL.EDGE; reset 0. -/
  edge : Bool := false
  /-- w1; 02 R53 TL_CTRL.ALIGN; reset 0. -/
  align : Bool := false
  /-- w4; 02 TL_CTRL.LOSS_COUNT; reset 2. -/
  lossCount : Nat := 2
  /-- w8; 02 R56 TL_CTRL.HOLD_PPM; reset 10. -/
  holdPpm : Nat := 10
  /-- w1; 02 R47 TL_SYNC_OUT.ENABLE; reset 0. -/
  soEnable : Bool := false
  /-- w1; 02 R47 TL_SYNC_OUT.POL; reset 0. -/
  soPol : Bool := false
  /-- w4; 02 R47 TL_SYNC_OUT.SEL; reset 0. -/
  soSel : Nat := 0
  /-- w24; 02 R47 TL_SYNC_OUT.WIDTH; reset 4,000. -/
  soWidth : Nat := 4000
  /-- w29; 02 R47 TL_SYNC_OUT_OFS; reset 0. -/
  soOfs : Nat := 0
  /-- 02 R80; reset none. Changes of TL_SYNC_OUT and TL_SYNC_OUT_OFS that wait for their first selected event, each with the
  epoch start that set it, oldest first. -/
  soNext : List (Nat × Nat × Nat) := []
  /-- 02 R47; reset none. Edges SYNC_OUT still owes: tick, and whether to the active level. -/
  soEdges : List (Nat × Bool) := []
  /-- w1; 02 R47; reset 0. SYNC_OUT is at its active level. -/
  soActive : Bool := false
  /-- 4 names; 02 R49 TL_STATUS.STATE; reset FREE. -/
  state : TlState := .free
  /-- w1; 02 R50 TL_STATUS.OUT_OF_RANGE; reset 0. -/
  outOfRange : Bool := false
  /-- w8; 02 R46 TL_STATUS.GLITCHES; reset 0. -/
  glitches : Nat := 0
  /-- w32; 02 R38 TL_TICK_HI, as the last read of TL_TICK_LO latched it; reset 0. -/
  tickHi : Nat := 0
  /-- w32 signed; 02 TL_PHASE_ERR; reset 0. -/
  phaseErr : Int := 0
  /-- w32 signed; 02 TL_FREQ_OFS; reset 0. -/
  freqOfs : Int := 0
  /-- w32; 02 R57, HOLD_BOUND as it was left by the last HOLDOVER; reset 0. -/
  holdKept : Nat := 0
  /-- tick; 02 R56, when the present HOLDOVER began; reset 0. -/
  holdSince : Nat := 0
  /-- w4; 02 R49, consecutive accepted edges within 40 ticks; reset 0. -/
  goodEdges : Nat := 0
  /-- w4; 02 R49, consecutive edges missing or rejected; reset 0. -/
  badEdges : Nat := 0
  /-- w7; 02 R49, epochs in LOCKED since FREE was last left (counted to 64); reset 0. -/
  lockedEpochs : Nat := 0
  /-- w1; 02 R90, HOLDOVER was entered since LOCKED was last left; reset 0. -/
  wasHoldover : Bool := false
  /-- w1; 02 R50, an edge has been seen since the selection; reset 0. -/
  seenEdge : Bool := false
  /-- w1; 02 R53, the STEP alignment is still to be made; reset 0. -/
  stepDue : Bool := false
  /-- w32 signed; 02 R862, ticks by which the next epoch is still to be lengthened; reset 0. -/
  stepAdj : Int := 0
  /-- tick; 02 R44, the last accepted edge; reset 0. -/
  lastEdge : Nat := 0
  /-- w1; 02 R49, an edge was accepted in the current epoch; reset 0. -/
  edgeHere : Bool := false
  /-- w1; 02 R49, an edge was accepted at the tick at which the next epoch starts; reset 0. -/
  edgeNext : Bool := false
  /-- At most 64 x w32 signed; 02 R49, TL_FREQ_OFS at the ends of the last epochs in LOCKED, newest first; reset none. -/
  lockedFreqs : List Int := []
  /-- w32 signed; 02 R51, the frequency held at the start of acquisition, in parts per billion; reset 0. -/
  acquireFreq : Int := 0
  /-- w11; 02 R49, epochs since the last TIMELINE_STEER in HOST mode; reset 0. -/
  steerAge : Nat := 0
  /-- w32; 02 R49, the tick offset of that TIMELINE_STEER, or of the selection, in its epoch; reset 0. -/
  steerOfs : Nat := 0
  /-- w32 signed; 02 R51, R85, the phase correction being slewed; reset 0. -/
  steerAdj : Int := 0
  /-- tick; 02 R51, R85, when it began; reset 0. -/
  steerSince : Nat := 0
  deriving DecidableEq, Repr

/-- The wheels (02 R70 to R72; 05 R219 gives their order, group 7's fixed wheel apart). -/
structure Wheels where
  /-- 11 tables of 512 entries x w5; 02 R72, the active tables; reset: entries 0 to 63 system, the rest T0 (05 R200). -/
  active : List (List Nat) := List.replicate 11 (List.replicate 64 0x1E ++ List.replicate 448 0)
  /-- 02 R72, the pending tables where Chroulakor has written them; reset none. -/
  pending : Option (List (List Nat)) := none
  /-- 02 R72, 05 R222: the partition change the pending tables are of; none: those of a removal (05 R240); reset none. -/
  pendingFor : Option Nat := none
  /-- w1; 05 R200, no KARBOBIN_LOAD has completed: the boot partition runs; reset 1. -/
  boot : Bool := true
  /-- w9; 02 R71, the entry of the turn in progress; reset 0. -/
  entry : Nat := 0
  /-- w1; 02 R71, an epoch start has ended the turn in progress: the next turn is that of entry 0; reset 1. -/
  restart : Bool := true
  /-- 11 owner codes; 02 R70, R71, the owner each wheel serves in this turn (0x1F: none); reset 0x1E, the owner of entry 0. -/
  served : List Nat := List.replicate 11 0x1E
  /-- tick; 02 R226, when the turn in progress began; reset 0. -/
  turnAt : Nat := 0
  deriving DecidableEq, Repr

end Sys2Proof.Machine
end

