-- ==== Sys2Proof/Machine/Parts/Touch.lean ====
section
/-! DEFINITION. The state of the touch ports (12, 13): configuration, the scan in progress, frames, baselines and marks,
contacts, keys and report rings. It is what the processors keep in bay 45 (12 R573), as plain data. -/

namespace Sys2Proof.Machine

/-- What TOUCH_SCAN_CONFIG sets (12). -/
structure ScanCfg where
  enable : Bool := false
  self : Bool := false
  hop : Bool := false
  n : Nat := 0
  conc : Nat := 1
  sets : Nat := 1
  /-- START_LINE or PERIOD. -/
  start : Nat := 0
  settle : Nat := 400
  intTicks : Nat := 400
  selfFreq : Nat := 0
  hopCount : Nat := 1
  hopThresh : Nat := 1
  hopMargin : Nat := 0
  /-- 4 x 8 frequency indices. -/
  freqs : List (List Nat) := []
  deriving DecidableEq, Repr

/-- A scan in progress (12 R541 to R544). -/
structure Scan where
  started : Nat
  /-- The step in progress, and when it began. -/
  step : Nat
  stepAt : Nat
  /-- w16; 12 R542, ticks of open quiet window the step in progress has counted; reset 0. -/
  counted : Nat := 0
  /-- The frequency set it uses, and its settings. -/
  set : Nat
  cfg : ScanCfg
  /-- The complex values of the nodes measured so far, compensation applied, by node (12 R537). -/
  iq : Tab (Int × Int)
  /-- First and last counted sample of the steps done. -/
  stamps : List (Nat × Nat)
  /-- It is the first complete scan since the port started scanning (13 R596). -/
  first : Bool
  deriving DecidableEq, Repr

/-- A capture of baselines (12 R568). -/
structure Capture where
  /-- The model's number of its flight. -/
  id : Nat
  /-- Sets still to capture, ascending. -/
  sets : List Nat
  /-- 0: the scan at compensation code zero; 1 to 16: the scans summed. -/
  stage : Nat
  /-- Sums of the raw counts, by node. -/
  sums : Tab Int
  /-- The set in use before it. -/
  before : Nat
  deriving DecidableEq, Repr

/-- A tracked contact (13 R579 to R597). -/
structure Contact where
  id : Nat
  u : Nat
  v : Nat
  /-- 1 DOWN, 2 HELD, 3 UP. -/
  state : Nat
  present : Bool
  stale : Bool
  outside : Bool
  x : Nat
  y : Nat
  peak : Nat
  area : Nat
  /-- Where R597 measures its rest from: u, v and the tick. -/
  restU : Nat
  restV : Nat
  restAt : Nat
  /-- The party it goes to: an owner code, or 0x1D for the Warden (13 R592). -/
  dest : Nat
  /-- It is discarded until its lift-off (13 R594, R595). -/
  dropped : Bool
  deriving DecidableEq, Repr

/-- A key slot (13 R583, TOUCH_KEYS). -/
structure Key where
  owner : Nat := 0x1F
  suppress : Bool := false
  onPress : Bool := false
  onRelease : Bool := false
  debounce : Nat := 1
  tFirst : Nat := 0
  tLast : Nat := 0
  rFirst : Nat := 0
  rLast : Nat := 0
  press : Nat := 0
  hyst : Nat := 0
  /-- The physical haptic channel. -/
  haptic : Nat := 16
  pressEffect : Nat := 0
  releaseEffect : Nat := 0
  pressed : Bool := false
  /-- Consecutive scans toward the other state. -/
  run : Nat := 0
  /-- It changed state in the last scan. -/
  changed : Bool := false
  deriving DecidableEq, Repr

/-- A report ring (13 R598 to R602). -/
structure ReportRing where
  enable : Bool := false
  sizeLog2 : Nat := 0
  addr : Nat := 0
  index : Nat := 0
  phase : Bool := true
  skipped : Nat := 0
  /-- When it was registered. -/
  since : Nat := 0
  deriving DecidableEq, Repr

/-- One of the eight touch ports. -/
structure TouchPort where
  /-- w1; 12 TOUCH_PORT_CONFIG, configured; reset 0. -/
  configured : Bool := false
  /-- w4; 12 HEAD; reset 0x0F. -/
  head : Nat := 0x0F
  /-- w4, w16, w16; 12 TX_AMP, C_LINE, R_LINE; reset 0. -/
  txAmp : Nat := 0
  cLine : Nat := 0
  rLine : Nat := 0
  /-- 256 x w2; 12 R529, the pin roles; reset UNUSED. -/
  roles : List Nat := []
  /-- w16, w16, w8, w4, w4; 12 FREEZE_THRESH, NEG_THRESH, NEG_SCANS, FOLLOW_STEP, DRIFT_STEP; reset 1 each. -/
  freeze : Nat := 1
  negThresh : Nat := 1
  negScans : Nat := 1
  followStep : Nat := 1
  driftStep : Nat := 1
  /-- w6; 12 R556, COMP_DEFAULT and SELF_COMP_DEFAULT; reset 0. -/
  compDefault : Nat := 0
  selfDefault : Nat := 0
  /-- 12 TOUCH_SCAN_CONFIG, in force; reset scanning disabled. -/
  cfg : ScanCfg := {}
  /-- 12 R541; reset none. -/
  scan : Option Scan := none
  /-- tick; the last scan start or skip; reset none. -/
  lastStart : Option Nat := none
  /-- w1; 13 R596, no scan has been completed since the port started scanning; reset 1. -/
  fresh : Bool := true
  /-- tick; 12 R550, the last sample of a scan whose products are still to be made; reset none. -/
  endedAt : Option Nat := none
  /-- The scan that ended last: its steps' stamps, set, settings, and whether it was the first. -/
  ended : Option Scan := none
  /-- tick; 13 R600, the last sample of a scan whose reports are still to be written; reset none. -/
  reportAt : Option Nat := none
  /-- w2; 12 TC_STATUS.SET; reset 0. -/
  set : Nat := 0
  /-- 4 x w2; 12 TC_STATUS.MODE; reset NONE. -/
  modes : List Nat := [0, 0, 0, 0]
  /-- w8; 12 R552, scans whose noise exceeded HOP_THRESH; reset 0. -/
  hops : Nat := 0
  /-- 12 R552, the set the next scan changes to; reset none. -/
  hopTo : Option Nat := none
  /-- 16 x w8; 12 R539, the reference phases known; reset none. -/
  phases : Tab (Option Nat) := []
  /-- 16 x w15; 12 TC_NOISE; reset 0. -/
  noise : Tab Nat := []
  /-- 12 R536, compensation codes by node and by pin, where a record or a capture set them; reset the defaults. -/
  comp : Tab (Option Nat) := []
  selfComp : Tab (Option Nat) := []
  /-- w16 signed; 12 R554, baseline of set s at node n: key 16,384 s + n; reset 0. -/
  base : Tab Int := []
  /-- w32 signed; 12 R555, o(r); reset 0. -/
  drift : Tab Int := []
  /-- w8; 12 R559 neg[n]; reset 0. -/
  neg : Tab Nat := []
  /-- 12 R557, R558, R537, the marks SUSPECT, COVERED and SATURATED; reset none. -/
  suspect : Tab Bool := []
  covered : Tab Bool := []
  saturated : Tab Bool := []
  /-- 12 R561, FAULT marks, by TX ordinal; reset none. -/
  faultTx : Tab Bool := []
  /-- w16 signed; 12 R573, raw and delta frames: key 16,384 b + n for buffer b; reset 0. -/
  raw : Tab Int := []
  delta : Tab Int := []
  /-- w16 signed; 12 R540, self counts by pin; reset 0. -/
  selfCount : Tab Int := []
  /-- 12 R568; reset none. -/
  capture : Option Capture := none
  /-- w1; 12 TC_STATUS.SELFTEST; reset 0. -/
  selftest : Bool := false
  /-- w32; 12 TC_SCANS; reset 0. -/
  scans : Nat := 0
  /-- w32; 12 TC_SKIPS; reset 0. -/
  skips : Nat := 0
  /-- w1; 13 R576, a TOUCH_CALIBRATION has completed; reset 0. -/
  calibrated : Bool := false
  /-- 13 TOUCH_CALIBRATION: BLOB_THRESH, the matrix, MATCH_DIST and STALE_S; reset 0. -/
  blob : Nat := 0
  matrix : List Int := [0, 0, 0, 0, 0, 0]
  matchDist : Nat := 0
  staleS : Nat := 0
  /-- at most 16; 13 R579; reset none. -/
  contacts : List Contact := []
  /-- 13 R581, untracked blobs of the last scan by party; reset none. -/
  untracked : Tab Nat := []
  /-- 64 key slots; 13 R583. -/
  keys : Tab Key := []
  /-- 13 R586, effects owed by keys: channel, effect, and when; reset none. -/
  keyDue : List (Nat × Nat × Nat) := []
  /-- 17 report rings by tenancy; 13 R598. -/
  rings : Tab ReportRing := []
  deriving DecidableEq, Repr

/-- The touch block. -/
structure Touch where
  /-- 8 ports; 12 R529. -/
  ports : Tab TouchPort := []
  /-- 13 R592, R600, what went to the Warden's mailbox and has not been taken: port and contact record; reset none. -/
  secure : List (Nat × List Byte) := []
  deriving DecidableEq, Repr

end Sys2Proof.Machine
end

