-- ==== Sys2Proof/Machine/Parts/Warden.lean ====
section
/-! DEFINITION. The state of the Warden (19): its fuses, applets, measurement log, migration keys, secure layers,
mailboxes and the supervisor port. -/

namespace Sys2Proof.Machine

/-- The fields of the fuse bank a command's outcome depends on (19 R755; log entry 23). ROOT_HASH and ATTEST_SEED enter
only through the outcomes of signature checks, which come with the Warden's answers; DEVICE_ID is in Config. -/
structure Fuses where
  /-- w1; 19 R755 SV_ENABLE; reset 1 (log entry 23). -/
  svEnable : Bool := true
  /-- w1; 19 R755 DEBUG_LOCK; reset 0 (log entry 23). -/
  debugLock : Bool := false
  /-- 6 x w32; 19 R755 FLOOR[1..6], as the version each thermometer code stands for; reset 0 (log entry 23). -/
  floor : List Nat := [0, 0, 0, 0, 0, 0]
  deriving DecidableEq, Repr

/-- States of an applet slot (19 R761). -/
inductive AppState where
  | empty | loaded | running
  deriving DecidableEq, Repr

/-- One of the eight applet slots (19 R761 to R764). -/
structure Applet where
  /-- 3 names; 19 R761; reset EMPTY. -/
  state : AppState := .empty
  /-- w16; 19 APPLET_ID; reset 0. -/
  id : Nat := 0
  /-- w32; 19 SEC_VERSION; reset 0. -/
  version : Nat := 0
  /-- w32; 19 CODE_LEN; reset 0. -/
  codeLen : Nat := 0
  /-- w17; 19 START_MASK; reset 0. -/
  startMask : Nat := 0
  /-- w1; 19 SECURE_TOUCH; reset 0. -/
  touch : Bool := false
  /-- w1; 19 SECURE_LAYER; reset 0. -/
  layer : Bool := false
  /-- w32; 19 LIMIT_MS; reset 0. -/
  limitMs : Nat := 0
  /-- 48 bytes; 19 R759, its measurement; reset none. -/
  digest : List Byte := []
  /-- w64; 19 R762, where it was read from; reset 0. -/
  addr : Nat := 0
  /-- w32; 19 R762, how much was read; reset 0. -/
  len : Nat := 0
  /-- 19 R757, its secure shelves and plots; reset none. -/
  shelves : List Nat := []
  plots : List Nat := []
  /-- w5; 19 R763, its client while it runs; reset 0x1F. -/
  client : Nat := 0x1F
  /-- tick; 19 R764, when its run began; reset 0. -/
  since : Nat := 0
  /-- The START that waits for its end; reset none. -/
  start : Option Nat := none
  /-- 32 bytes; 19 R763, its parameters; reset none. -/
  params : List Byte := []
  /-- w64; 19 R763 RESULT_ADDR; reset 0. -/
  resultAddr : Nat := 0
  deriving DecidableEq, Repr

/-- An entry of the measurement log (19 R759). -/
structure Measure where
  kind : Nat
  slot : Nat := 0
  version : Nat := 0
  digest : List Byte := []
  deriving DecidableEq, Repr

/-- A migration key (19 R779, R781): a pending offer, or a key derived. -/
structure MigKey where
  /-- w32; KEY_ID. -/
  id : Nat
  pendingOffer : Bool
  deriving DecidableEq, Repr

/-- A secure layer (19 R766 to R770). -/
structure SecureLayer where
  /-- The layer slot. -/
  slot : Nat
  /-- w3; the applet slot. -/
  applet : Nat
  /-- w5; the client. -/
  client : Nat
  /-- w40; 19 R766 FALLBACK. -/
  fallback : Nat
  /-- w1; 19 R775, the fallback is being composed. -/
  fellBack : Bool := false
  /-- tick; 19 R770, the earliest latch at which it returns to its client; none: it stays. -/
  leaveAt : Option Nat := none
  deriving DecidableEq, Repr

/-- The Warden. -/
structure Warden where
  /-- 19 R755; log entry 23. -/
  fuses : Fuses := {}
  /-- 8 slots; 19 R761. -/
  applets : Tab Applet := []
  /-- 19 R759, the part of the measurement log that boot made: the blocks accepted; reset none. -/
  blocks : List Measure := []
  /-- w32; 19 R760 RESTARTS; reset 0. -/
  restarts : Nat := 0
  /-- at most 4; 19 R781; reset none. -/
  keys : List MigKey := []
  /-- 19 R766, the secure layers; reset none. -/
  layers : List SecureLayer := []
  /-- tick; 19 R774, t_r of a restart in progress; reset none. -/
  restarting : Option Nat := none
  /-- tick; 19 R775, the latest t_r; reset none. -/
  lastRestart : Option Nat := none
  /-- w1; 19 R777, its firmware failed; reset 0. -/
  dead : Bool := false
  /-- w32; 19 R773 HB_TIMEOUT; reset 20,000,000. -/
  hbTimeout : Nat := 20000000
  /-- tick; 19 R773, the last heartbeat; reset 0. -/
  lastBeat : Nat := 0
  /-- w32; 19 SV_HEARTBEAT; reset 0. -/
  beats : Nat := 0
  /-- w32; 19 SV_ERRORS; reset 0. -/
  errors : Nat := 0
  /-- 19 R785, a message the Warden has not answered yet; reset none. -/
  inbox : Option (List Byte) := none
  /-- 19 R785, the reply body it has prepared; reset none. -/
  prepared : Option (List Byte) := none
  /-- 19 R785, the reply that awaits MBOX_RECV; reset none. -/
  reply : Option (List Byte) := none
  /-- 19 R783, what the port sent in the last frame; reset none. -/
  sent : List Byte := []
  /-- 21 R825, the body of the security block that booted, which a resumption reads again; reset none. -/
  security : List Byte := []
  /-- w1; 19 R786, debug access is open; reset 0. -/
  debugOpen : Bool := false
  deriving DecidableEq, Repr

end Sys2Proof.Machine
end

