-- ==== Sys2Proof/Machine/State.lean ====
section
/-! DEFINITION. The state of the block, the reasons it can stop, and the state after reset. -/

namespace Sys2Proof.Machine

/-- The reasons the block stops with a fault. -/
inductive Fault where
  /-- A Stockroom address from 0xC00_0000 upward (03 R92: it does not exist and no station issues it), raised by
  STOCKROOM_REQUEST; safe. -/
  | stockroomHole
  deriving DecidableEq, Repr

/-- The reasons the model refuses a command. -/
inductive Refusal where
  /-- A command the model gives no meaning yet, by its mnemonic; raised by exec alone; safe. -/
  | notModelled (mnemonic : String)
  deriving DecidableEq, Repr

/-- The state of the block: every register, ring, buffer, counter, mode and pin the spec gives it, and the queue of
the commands that wait. -/
structure State where
  /-- 02: the Timeline. -/
  tl : Timeline
  /-- 02 R70: the wheels. -/
  wheels : Wheels
  /-- 06: the PCIe side as a whole. -/
  pcie : Pcie
  /-- 06: the seventeen functions, by number. -/
  fns : Tab Fn
  /-- 06: command ring r of function f at 4 f + r. -/
  crs : Tab CmdRing
  /-- 18: the 256 physical event rings. -/
  evr : Tab EvRing
  /-- 18: the event sources. -/
  ev : Events
  /-- 20: the Fault Ledger. -/
  lg : Ledger
  /-- 05: the seventeen tenancies, by owner code. -/
  tens : Tab Tenancy
  /-- 05 R222: the partition changes that wait for their epoch start, oldest first. -/
  loads : List PendingLoad
  /-- 06 R274: descriptors made visible and not yet performed, in admission order. -/
  visible : List Visible
  /-- 05 R232: commands in flight, in admission order. -/
  flights : List Flight
  /-- 04 R173: the committed charges. -/
  charges : List Charge
  /-- 03: the Stockroom. -/
  sr : Stockroom
  /-- 08, 09: layer slots and heads. -/
  comp : Compose
  /-- 10: assay units and telltale planes. -/
  au : Integrity
  /-- 11: groves and contexts. -/
  gpu : Gpu
  /-- 16: DMA channels. -/
  dma : Dma
  /-- 17: bulk memory. -/
  dram : Dram
  /-- 15: the audio block. -/
  audio : Audio
  /-- 12, 13: the touch ports. -/
  touch : Touch
  /-- 14: the haptic channels. -/
  haptic : Haptic
  /-- 19: the Warden and the supervisor port. -/
  wd : Warden
  /-- 21: power states, wake and boot. -/
  pw : Power
  /-- w1; 01 R18: the die-to-die link is lost and the Hokusa outputs are safe; reset 0. -/
  hokusaSafe : Bool
  /-- 06: host memory, as the device reads and writes it. -/
  host : Mem
  /-- The model's own: the number of the next flight. -/
  nextId : Nat
  /-- The model's own: how many free values have been used (log entry 3). -/
  free : Nat
  /-- The commands waiting, first in, first out. -/
  pending : List Instr
  deriving DecidableEq, Repr

/-- The boot partition's T0 (05 R200): LIVE, with one command ring, one event ring and four DMA channels, no
per-epoch grants, and the whole host address space (07 R337). -/
def bootT0 : Tenancy :=
  { state := .live, wholeSpace := true, rings := [0],
    grants := { isPresent := true, cmdRings := 1, eventRings := 1, dmaChannels := 4 } }

/-- The block right after reset: every field at the value the spec states for it, the values it leaves open as log
entries 3 to 7 name them, and an empty queue. -/
def State.reset : State where
  tl := {}
  wheels := {}
  pcie := {}
  fns := []
  crs := []
  evr := [(0, { enable := true, owner := 0 })]
  ev := {}
  lg := {}
  tens := [(0, bootT0)]
  loads := []
  visible := []
  flights := []
  charges := []
  sr := {}
  comp := {}
  au := {}
  gpu := {}
  dma := { chans := bootChans }
  dram := {}
  audio := {}
  touch := {}
  haptic := {}
  wd := {}
  pw := {}
  hokusaSafe := false
  host := []
  nextId := 0
  free := 0
  pending := []

end Sys2Proof.Machine
end

