-- ==== Sys2Proof/Machine/Update.lean ====
section
/-! DEFINITION. One update per part of the state, so that a frame can be read off which parts a meaning touches. -/

namespace Sys2Proof.Machine

/-- A change of the part `tl` alone. -/
def State.modTl (s : State) (f : Timeline → Timeline) : State := { s with tl := f s.tl }

/-- A change of the part `wheels` alone. -/
def State.modWheels (s : State) (f : Wheels → Wheels) : State := { s with wheels := f s.wheels }

/-- A change of the part `pcie` alone. -/
def State.modPcie (s : State) (f : Pcie → Pcie) : State := { s with pcie := f s.pcie }

/-- A change of the part `fns` alone. -/
def State.modFns (s : State) (f : Tab Fn → Tab Fn) : State := { s with fns := f s.fns }

/-- A change of the part `crs` alone. -/
def State.modCrs (s : State) (f : Tab CmdRing → Tab CmdRing) : State := { s with crs := f s.crs }

/-- A change of the part `evr` alone. -/
def State.modEvr (s : State) (f : Tab EvRing → Tab EvRing) : State := { s with evr := f s.evr }

/-- A change of the part `ev` alone. -/
def State.modEv (s : State) (f : Events → Events) : State := { s with ev := f s.ev }

/-- A change of the part `lg` alone. -/
def State.modLg (s : State) (f : Ledger → Ledger) : State := { s with lg := f s.lg }

/-- A change of the part `tens` alone. -/
def State.modTens (s : State) (f : Tab Tenancy → Tab Tenancy) : State := { s with tens := f s.tens }

/-- A change of the part `loads` alone. -/
def State.modLoads (s : State) (f : List PendingLoad → List PendingLoad) : State := { s with loads := f s.loads }

/-- A change of the part `visible` alone. -/
def State.modVisible (s : State) (f : List Visible → List Visible) : State := { s with visible := f s.visible }

/-- A change of the part `flights` alone. -/
def State.modFlights (s : State) (f : List Flight → List Flight) : State := { s with flights := f s.flights }

/-- A change of the part `charges` alone. -/
def State.modCharges (s : State) (f : List Charge → List Charge) : State := { s with charges := f s.charges }

/-- A change of the part `sr` alone. -/
def State.modSr (s : State) (f : Stockroom → Stockroom) : State := { s with sr := f s.sr }

/-- A change of the part `comp` alone. -/
def State.modComp (s : State) (f : Compose → Compose) : State := { s with comp := f s.comp }

/-- A change of the part `au` alone. -/
def State.modAu (s : State) (f : Integrity → Integrity) : State := { s with au := f s.au }

/-- A change of the part `gpu` alone. -/
def State.modGpu (s : State) (f : Gpu → Gpu) : State := { s with gpu := f s.gpu }

/-- A change of the part `dma` alone. -/
def State.modDma (s : State) (f : Dma → Dma) : State := { s with dma := f s.dma }

/-- A change of the part `dram` alone. -/
def State.modDram (s : State) (f : Dram → Dram) : State := { s with dram := f s.dram }

/-- A change of the part `audio` alone. -/
def State.modAudio (s : State) (f : Audio → Audio) : State := { s with audio := f s.audio }

/-- A change of the part `touch` alone. -/
def State.modTouch (s : State) (f : Touch → Touch) : State := { s with touch := f s.touch }

/-- A change of the part `haptic` alone. -/
def State.modHaptic (s : State) (f : Haptic → Haptic) : State := { s with haptic := f s.haptic }

/-- A change of the part `wd` alone. -/
def State.modWd (s : State) (f : Warden → Warden) : State := { s with wd := f s.wd }

/-- A change of the part `pw` alone. -/
def State.modPw (s : State) (f : Power → Power) : State := { s with pw := f s.pw }

/-- A change of the part `hokusaSafe` alone. -/
def State.modHokusaSafe (s : State) (f : Bool → Bool) : State := { s with hokusaSafe := f s.hokusaSafe }

/-- A change of the part `host` alone. -/
def State.modHost (s : State) (f : Mem → Mem) : State := { s with host := f s.host }

/-- A change of the part `nextId` alone. -/
def State.modNextId (s : State) (f : Nat → Nat) : State := { s with nextId := f s.nextId }

/-- A change of the part `free` alone. -/
def State.modFree (s : State) (f : Nat → Nat) : State := { s with free := f s.free }

/-- A change of the part `pending` alone. -/
def State.modPending (s : State) (f : List Instr → List Instr) : State := { s with pending := f s.pending }

end Sys2Proof.Machine
end

