-- ==== Sys2Proof/Machine/Operands.lean ====
section
/-! DEFINITION. The operand forms of descriptor commands: payload fields, reserved bits, host ranges, local device
addresses, Stockroom references, record addresses and named instants; and the refusals their checks give. -/

namespace Sys2Proof.Machine

/-- A field of n bytes at byte o of a descriptor (06; R7 little-endian). -/
def dget (d : Descriptor) (o n : Nat) : Nat := d.toNat / 2 ^ (8 * o) % 2 ^ (8 * n)

/-- Bits lo+w-1 to lo of the field that starts at byte o. -/
def dbits (d : Descriptor) (o lo w : Nat) : Nat := d.toNat / 2 ^ (8 * o + lo) % 2 ^ w

/-- One bit of the field that starts at byte o. -/
def dbit (d : Descriptor) (o b : Nat) : Bool := d.toNat.testBit (8 * o + b)

/-- A signed 16-bit field. -/
def dint16 (d : Descriptor) (o : Nat) : Int := sint 16 (dget d o 2)

/-- A signed 32-bit field. -/
def dint32 (d : Descriptor) (o : Nat) : Int := sint 32 (dget d o 4)

/-- The bytes o to o+n-1 of a descriptor. -/
def dbytes (d : Descriptor) (o n : Nat) : List Byte := leBytes n (dget d o n)

def opcodeOf (d : Descriptor) : Nat := dget d 0 1
def classOf (d : Descriptor) : Nat := dbits d 1 0 2
def tagOf (d : Descriptor) : Nat := dget d 2 2
def fenceOf (d : Descriptor) : Bool := dbit d 4 0
def userOf (d : Descriptor) : Nat := dget d 8 8

/-- A refusal (07 R310): its status and the byte offset, pool code or reason it carries. -/
def refuse (status reason : Nat) (index value : Nat := 0) : Verdict :=
  { status := status, reason := reason, index := index, value := value }

def budget (reason index : Nat) : Verdict := refuse 2 reason index
def capacity (pool : Nat) : Verdict := refuse 3 pool
def bounds (o : Nat) : Verdict := refuse 4 o
def notOwner (o : Nat) : Verdict := refuse 5 o
def badParam (o : Nat) : Verdict := refuse 6 o
def badState (o : Nat) : Verdict := refuse 7 o
def leased (o : Nat) : Verdict := refuse 8 o
def unsupported (o : Nat) : Verdict := refuse 10 o

/-- A check: the refusal when it fails. -/
def failIf (c : Bool) (v : Verdict) : Option Verdict := if c then some v else none

/-- Of several malformed payload fields the one whose first byte lies lowest is reported (07 R309 step 5; log
entry 10). -/
def lowest : List (Bool × Verdict) → Option Verdict
  | [] => none
  | (c, v) :: t =>
    match c, lowest t with
    | true, some w => if w.reason < v.reason then some w else some v
    | true, none => some v
    | false, r => r

/-- The first byte of the reserved field that holds byte o (07 R310): of a reserved rest of a field of several bytes, that
rest's first byte; of reserved whole bytes, the first of them; else the byte itself. `used` marks the bits that fields use
and `words` the fields of several bytes that leave bits unused. -/
def reservedFrom (used : Nat) (words : List (Nat × Nat)) (o : Nat) : Nat :=
  let inWord := fun (b : Nat) (w : Nat × Nat) => decide (w.1 ≤ b) && decide (b < w.1 + w.2)
  let byteOf := fun (b : Nat) => used / 2 ^ (8 * b) % 256
  match words.find? (inWord o) with
  | some w => ((List.range 64).find? fun b => inWord b w && decide (byteOf b ≠ 255)).getD o
  | none => ((List.range (o + 1)).foldl (fun (r : Option Nat) b =>
      if byteOf b = 0 && !words.any (inWord b) then some (r.getD b) else none) none).getD o

/-- Reserved bits of a payload (bytes 16 to 63) that are not zero: those outside the listed fields (offset, bit, width). -/
def reserved (layout : List (Nat × Nat × Nat)) (d : Descriptor) (words : List (Nat × Nat) := []) : Bool × Verdict :=
  let used := layout.foldl (fun m f => m ||| ((2 ^ f.2.2 - 1) <<< (8 * f.1 + f.2.1))) (2 ^ 128 - 1)
  let rest := d.toNat - (d.toNat &&& used)
  match (List.range 64).find? fun o => rest / 2 ^ (8 * o) % 256 ≠ 0 with
  | some o => (true, badParam (reservedFrom used words o))
  | none => (false, badParam 0)

/-- The part of a host range that the apertures cover from its first byte on (07 R337, R313). -/
def coveredTo (aps : List Aperture) : Nat → Nat → Nat
  | 0, p => p
  | n + 1, p =>
    match aps.find? fun a => a.base ≤ p && p < a.base + a.size with
    | some a => coveredTo aps n (a.base + a.size)
    | none => p

def tenOf (s : State) (t : Nat) : Tenancy := tget {} s.tens t
def setTen (s : State) (t : Nat) (v : Tenancy) : State := s.modTens fun x => tset {} x t v
def modTen (s : State) (t : Nat) (f : Tenancy → Tenancy) : State := setTen s t (f (tenOf s t))

/-- Whether every byte of a host range lies in a tenancy's apertures (07 R312, R337). -/
def inApertures (s : State) (t addr len : Nat) : Bool :=
  let ten := tenOf s t
  decide (addr + len ≤ 2 ^ 64) &&
    (ten.wholeSpace || decide (len = 0) || decide (addr + len ≤ coveredTo (ten.apertures.map (·.2)) 17 addr))

/-- The checks of a host address that a fixed-size record is written to (07 R316), beside the malformed fields. -/
def recordChecks (s : State) (t addr len o : Nat) (faults : List (Bool × Verdict)) : List (Option Verdict) :=
  [lowest (faults ++ [(decide (addr % 64 ≠ 0), badParam o)]), failIf (!inApertures s t addr len) (bounds o)]

/-- The physical plot behind a local plot index, if the tenancy holds it (05 R211). -/
def plotOf (s : State) (t idx : Nat) : Option Nat :=
  let p := tget 0 (tenOf s t).plots idx
  if p = 0 then none else some (p - 1)

/-- The physical shelf behind a local index, if the tenancy holds it (03 R108). -/
def shelfOf (s : State) (t idx : Nat) : Option Nat :=
  let p := tget 0 (tenOf s t).shelves idx
  if p = 0 then none else some (p - 1)

/-- Every unit index from the one holding the first byte to the one holding the last is held. -/
def rangeHeld (held : Nat → Bool) (shift addr len : Nat) : Bool :=
  decide (len = 0) ||
    ((List.range ((addr + len - 1) / 2 ^ shift + 1 - addr / 2 ^ shift)).all fun i => held (addr / 2 ^ shift + i))

/-- Whether every byte of a local device range lies in plots of the tenancy (05 R212, 07 R313). -/
def inPlots (s : State) (t addr len : Nat) : Bool :=
  decide (addr + len ≤ 2 ^ 40) && rangeHeld (fun i => (plotOf s t i).isSome) 21 addr len

/-- Whether every byte of a Stockroom range lies in shelves of the tenancy (03 R111). -/
def inShelves (s : State) (t addr len : Nat) : Bool :=
  decide (addr + len ≤ 2 ^ 28) && rangeHeld (fun i => (shelfOf s t i).isSome) 18 addr len

/-- The physical bulk-memory address of a local device address. -/
def dramAddr (s : State) (t addr : Nat) : Nat :=
  match plotOf s t (addr / 2 ^ 21) with
  | some p => p * 2 ^ 21 + addr % 2 ^ 21
  | none => 2 ^ 40

/-- The physical Stockroom address of a Stockroom reference (03 R109, R92). -/
def srAddr (s : State) (t addr : Nat) : Nat :=
  match shelfOf s t (addr / 2 ^ 18) with
  | some p => p * 2 ^ 18 + addr % 2 ^ 18
  | none => 2 ^ 28

/-- The shelves kept for the ring of an admitted change that has not ended (04 R174). -/
def keptShelves (s : State) (r : Ring) : List Nat := (r.spare.filter fun e => s.flights.any fun f => f.id == e.2).map (·.1)

/-- Whether a placement touches a shelf that holds, or is kept for, a staging ring or another structure of the tenancy (03 R112). -/
def shelfTaken (s : State) (t idx : Nat) (but : Placed → Bool) : Bool :=
  (s.sr.rings.any fun r => r.owner == t && (r.shelves.contains idx || (keptShelves s r).contains idx)) ||
  (s.sr.placed.any fun p => p.owner == t && !but p && decide (p.len ≠ 0) &&
    decide (p.addr / 2 ^ 18 ≤ idx) && decide (idx ≤ (p.addr + p.len - 1) / 2 ^ 18))

def placementTaken (s : State) (t addr len : Nat) (but : Placed → Bool) : Bool :=
  !rangeHeld (fun i => !shelfTaken s t i but) 18 addr len

/-- The start of the current epoch, as a tick count (02 R38). -/
def epochStartTick (s : State) : Nat := s.tl.tick - s.tl.offset

/-- EPOCH_TICKS of an epoch that starts at tick b: that of the last TIMELINE_CONFIG accepted before it, if one waits
(02 R80). -/
def epochSizeAt (s : State) (b : Nat) : Nat :=
  s.flights.foldl (fun e f =>
    if f.op = 0x04 && decide (f.verdict.status ≤ 1) && decide (f.admitted + 8000 < b) then dbits f.desc 20 0 29 else e) s.tl.epochTicks

/-- The start of the next epoch. -/
def nextEpochTick (s : State) : Nat := epochStartTick s + s.tl.epochLen

/-- The length of the next epoch, with what a HOST alignment still adds to it (02 R862; log entry 137). -/
def nextLen (s : State) : Nat := ((epochSizeAt s (nextEpochTick s) : Int) + s.tl.stepAdj).toNat

/-- The length of the epochs after the next. -/
def laterLen (s : State) : Nat := epochSizeAt s (nextEpochTick s + nextLen s)

/-- The start of the epoch k epochs ahead. -/
def epochTickAhead (s : State) (k : Nat) : Nat :=
  if k = 0 then epochStartTick s else if k = 1 then nextEpochTick s else nextEpochTick s + nextLen s + (k - 2) * laterLen s

/-- The tick count at which instant e:o lies, for an epoch not in the past; none when R43 counts it as past
(02 R42, R43). -/
def tickOfInstant (s : State) (e o : Nat) : Option Nat :=
  let k := (e + 2 ^ 32 - s.tl.epoch) % 2 ^ 32
  if k ≥ 2 ^ 31 then none else some (epochTickAhead s k + o)

/-- The epoch of a tick, as a number of epochs ahead of the current one, for a tick not before it. -/
def epochsAhead (s : State) (t : Nat) : Nat :=
  let b := nextEpochTick s
  if t < b then 0 else if t < b + nextLen s then 1 else 2 + (t - b - nextLen s) / max 1 (laterLen s)

/-- The epoch and tick offset of a tick count (06 R280). -/
def instantOfTick (s : State) (t : Nat) : Nat × Nat :=
  let st := epochStartTick s
  let e := s.tl.epochTicks
  if t < st then
    let k := ceilDiv (st - t) e
    ((s.tl.epoch + 2 ^ 32 - k % 2 ^ 32) % 2 ^ 32, k * e - (st - t))
  else
    let k := epochsAhead s t
    ((s.tl.epoch + k) % 2 ^ 32, t - epochTickAhead s k)

/-- The tick count of the next epoch start strictly after tick t (02 R80). -/
def epochAfter (s : State) (t : Nat) : Nat :=
  epochTickAhead s (epochsAhead s t + 1)

/-- The epoch-linear distance of a tick from the start of the current epoch (02 R43), by the present EPOCH_TICKS. What an
alignment adds to an epoch stands at EPOCH_TICKS. -/
def linearOf (s : State) (t : Int) : Int :=
  let e := s.tl.epochTicks
  let d := t - epochStartTick s
  let d' := d - s.tl.epochLen
  let n := (e : Int) + s.tl.stepAdj
  if d' < 0 then min d e else if d' < n then e + min d' e else 2 * e + (d' - n)

/-- The tick at an epoch-linear distance from the start of the current epoch: the instants that follow an alignment count
from the aligned boundary (02 R43, R53, R61, R862; log entry 137). -/
def linearTick (s : State) (x : Int) : Int :=
  let e := s.tl.epochTicks
  let n := (e : Int) + s.tl.stepAdj
  (epochStartTick s : Int) +
    (if x < e then min x s.tl.epochLen else s.tl.epochLen + (if x < 2 * e then min (x - e) n else n + (x - 2 * e)))

/-- What an alignment of the epoch boundary does to the heads whose first frame is still to start: its instant stays, and its
tick moves with the boundary (02 R53, R61). -/
def realign (s s' : State) : State :=
  s'.modComp fun c => { c with heads := c.heads.map fun h =>
    match h.2.startDue, (h.2.newCfg <|> h.2.cfg) with
    | some t, some k =>
      let t' := (linearTick s' (linearOf s t)).toNat
      if k.tracked then h
      else (h.1, { h.2 with startDue := some t', sched := if h.2.sched = t then t' else h.2.sched, l0 := if h.2.l0 = t then t' else h.2.l0 })
    | _, _ => h }

/-- How far epoch e lies ahead of the current one, when it is not past (02 R42). -/
def epochAhead (s : State) (e : Nat) : Nat := (e + 2 ^ 32 - s.tl.epoch) % 2 ^ 32

end Sys2Proof.Machine
end

