-- ==== Sys2Proof/Machine/Flags.lean ====
section
/-! DEFINITION. The event latches and the status words read out of them (18, and each block's EVENTS register). -/

namespace Sys2Proof.Machine

/-- The bits of a mask that are set in another as well, removed (a W1C clear, 00 R9). -/
def w1c (v w : Nat) : Nat := maskOff v w

def evSrc (s : State) (n : Nat) : EvSrc := tget {} s.ev.src n

def setEvSrc (s : State) (n : Nat) (v : EvSrc) : State := s.modEv fun e => { e with src := tset {} e.src n v }

/-- The causes of a source set in the present tick, which a clear in it leaves: the set wins (00 R10, 18 R746; log
entry 47). -/
def freshCauses (s : State) (v : EvSrc) : Nat := if v.againAt = s.tl.tick then v.again else 0

/-- An occurrence sets a cause latch of a source (18 R732). -/
def raise (s : State) (n bit : Nat) : State :=
  let v := evSrc s n
  setEvSrc s n { v with cause := setBit v.cause bit, again := setBit (freshCauses s v) bit, againAt := s.tl.tick }

/-- A source with causes of a mask cleared, but for those set in the present tick (00 R10, 18 R746). -/
def clearCauses (s : State) (v : EvSrc) (mask : Nat) : EvSrc :=
  { v with cause := w1c v.cause (maskOff mask (freshCauses s v)) }

/-- A source is granted anew or returned (18 R734): nothing of it is in service, and a record still standing in a ring is
no longer its own. -/
def renewSource (s : State) (n : Nat) : State :=
  let s := setEvSrc s n {}
  s.modEvr fun t => t.map fun e => (e.1, { e.2 with records := e.2.records.map fun r => if r.1 = n then (1024, r.2) else r })

/-- A W1C clear of cause latches of a source (18 R746). -/
def lower (s : State) (n mask : Nat) : State :=
  setEvSrc s n (clearCauses s (evSrc s n) mask)

/-- The W1C event word of a block whose bit b drives source base + b (18 R732). -/
def eventWord (s : State) (base n : Nat) : Nat :=
  ((List.range n).filter fun b => (evSrc s (base + b)).cause.testBit 0).foldl (fun v b => v + 2 ^ b) 0

/-- A write of ones to a block's event word clears those latches. -/
def clearEventWord (s : State) (base n w : Nat) : State :=
  (bitsOf n w).foldl (fun s b => lower s (base + b) 1) s

/-- The request of a source (18 R732). -/
def requests (v : EvSrc) : Bool := decide (v.cause ≠ 0) || v.soft

/-- Physical source numbers (18 R734, 19, 20 R804, 21). -/
def srcTimeline (b : Nat) : Nat := b
def srcStockroom (b : Nat) : Nat := 0x008 + b
def srcMemory (b : Nat) : Nat := 0x010 + b
def srcAudioBlock (b : Nat) : Nat := 0x018 + b
def srcTelltale : Nat := 0x01C
def srcVhap : Nat := 0x01D
def srcGrove (g : Nat) : Nat := 0x020 + g
def srcHead (h e : Nat) : Nat := 0x040 + 5 * h + e
def srcTouchPort (p b : Nat) : Nat := 0x080 + 6 * p + b
def srcWarden : Nat := 0x0B0
def srcLedger : Nat := 0x0B1
def srcPower : Nat := 0x0B2
def srcDma (c : Nat) : Nat := 0x100 + c
def srcHaptic (c b : Nat) : Nat := 0x140 + 2 * c + b
def srcLayer (n : Nat) : Nat := 0x180 + n
def srcAssay (u : Nat) : Nat := 0x200 + u
def srcStream (n : Nat) : Nat := 0x230 + n
def srcTenancy (t : Nat) : Nat := 0x270 + t
def srcTouch (t : Nat) : Nat := 0x290 + t
def srcSecure (t : Nat) : Nat := 0x2B0 + t
def srcNotice (t : Nat) : Nat := 0x2D0 + t
def srcContext (c : Nat) : Nat := 0x300 + c

end Sys2Proof.Machine
end

