-- ==== Sys2Proof/Machine/Ops.lean ====
section
/-! DEFINITION. The named operations every command and event shares: records and messages to a host, completions and
flights, the Ledger's assertion, committed charges, and taking a command in at its admission instant. -/

namespace Sys2Proof.Machine

/-- What a meaning answers. -/
abbrev Answer := Host.Outcome State Fault Refusal

def now (s : State) : Nat := s.tl.tick

def fnOf (s : State) (n : Nat) : Fn := tget {} s.fns n
def setFn (s : State) (n : Nat) (v : Fn) : State := s.modFns fun x => tset {} x n v
def modFn (s : State) (n : Nat) (f : Fn → Fn) : State := setFn s n (f (fnOf s n))

def crOf (s : State) (f r : Nat) : CmdRing := tget {} s.crs (4 * f + r)
def setCr (s : State) (f r : Nat) (v : CmdRing) : State := s.modCrs fun x => tset {} x (4 * f + r) v
def modCr (s : State) (f r : Nat) (g : CmdRing → CmdRing) : State := setCr s f r (g (crOf s f r))

def evRing (s : State) (p : Nat) : EvRing := tget {} s.evr p
def setEvRing (s : State) (p : Nat) (v : EvRing) : State := s.modEvr fun x => tset {} x p v

/-- The physical event ring that is local ring n of a tenancy. -/
def evRingOf (s : State) (t n : Nat) : Option Nat :=
  leastBelow 256 fun p => decide ((evRing s p).owner = t) && decide ((evRing s p).loc = n)

/-- The next free value (log entry 3), and the state that has used it. -/
def freshValue (s : State) : BitVec 64 × State := (Config.free s.free, s.modFree (· + 1))

/-- The next n free bytes. -/
def freshBytes (s : State) : Nat → List Byte × State
  | 0 => ([], s)
  | n + 1 =>
    let (bs, s') := freshBytes (s.modFree (· + 1)) n
    ((Config.free s.free).setWidth 8 :: bs, s')

/-- A write of bytes to host memory by the device. -/
def hostWrite (s : State) (a : Nat) (bs : List Byte) : State := s.modHost fun m => Mem.wrs m a bs

/-- Bytes of host memory as the device reads them. -/
def hostRead (s : State) (a n : Nat) : List Byte := Mem.rds s.host a n

/-- An uncorrectable error is noted in a function's AER status (06 R254): bit 12 a poisoned TLP, bit 14 a completion
timeout (the PCIe layout, log entry 125). -/
def noteAer (s : State) (f bit : Nat) : State :=
  modFn s f fun x => { x with cfg := { x.cfg with
    aerUe := setBit x.cfg.aerUe bit,
    aerNew := setBit (if x.cfg.aerAt = some (now s) then x.cfg.aerNew else 0) bit, aerAt := some (now s) } }

/-! ### Messages and moderation (06 R285 to R289) -/

/-- The device has something to send: a link in L1 or a substate goes back to L0 (06 R290). -/
def exitL1 (p : Pcie) : Pcie := { p with link := .l0 }

/-- The message of a function's vector: sent, or its PBA bit set while it is masked (06 R289). MSI-X Enable clear masks as the
Function Mask does (log entry 125). -/
def sendMessage (s : State) (f vec : Nat) : State :=
  let fn := fnOf s f
  let e := tget {} fn.msix vec
  if fn.fnMask || !fn.cfg.msixEnable || e.mask then
    modFn s f fun fn => { fn with pba := vec :: fn.pba.filter (· ≠ vec) }
  else s.modPcie fun p => exitL1 { p with out := p.out ++ [.message f vec e.addr e.data] }

/-- A ring's message is sent: the ring is disarmed and every record is covered (06 R286). -/
def Signal.spent (g : Signal) : Signal := { g with armed := false, unsignalled := 0, window := none }

/-- The moderation of a ring when a record is written to it (06 R286): whether the message is due at once, and the
ring's new signalling. -/
def Signal.written (g : Signal) (t count time : Nat) : Bool × Signal :=
  let g := { g with unsignalled := g.unsignalled + 1 }
  if !g.armed then (false, g)
  else if time = 0 || g.unsignalled ≥ max 1 count then (true, g.spent)
  else (false, { g with window := some (g.window.getD (t + time * 400)) })

/-- The moderation of a ring when its head doorbell is written and `left` records remain (06 R287). -/
def Signal.rearmed (g : Signal) (t count time left : Nat) : Bool × Signal :=
  let g := { g with armed := true, unsignalled := left, window := none }
  if left = 0 then (false, g)
  else if time = 0 || left ≥ max 1 count then (true, g.spent)
  else (false, { g with window := some (t + time * 400) })

/-- The index after i in a ring of 2^k entries, and whether it wrapped. -/
def nextIndex (i k : Nat) : Nat × Bool := if i + 1 ≥ 2 ^ k then (0, true) else (i + 1, false)

/-- The phase after a wrap (06 R281). -/
def Signal.pass (g : Signal) (wrapped : Bool) : Signal := { g with phase := if wrapped then !g.phase else g.phase }

/-- Bit 0 of byte o of a record is its PHASE. -/
def withPhase (bs : List Byte) (o : Nat) (phase : Bool) : List Byte :=
  setAt bs o (((bs.drop o).headD 0) ||| (if phase then 1 else 0))

/-- Whether the device may write a function's records now (06 R291, 05 R864). -/
def canWrite (s : State) (f : Nat) : Bool :=
  decide ((fnOf s f).dstate = .d0) && (fnOf s f).busMaster && (f == 0 || s.pcie.vfEnable) && !s.pcie.linkDown

/-- A completion record written into its ring (06 R267, R281, R286). -/
def putCompletion (s : State) (f r : Nat) (bs : List Byte) : State :=
  let c := crOf s f r
  if !c.ccEnable then s else
  let s := hostWrite s (c.ccBase + 32 * c.ccTail) (withPhase bs 3 c.sig.phase)
  let (t, w) := nextIndex c.ccTail c.ccSizeLog2
  let (due, g) := (c.sig.pass w).written (now s) c.ccModCount c.ccModTime
  let s := setCr s f r { c with ccTail := t, sig := g }
  if due then sendMessage s f r else s

/-- An event record written into its ring. -/
def putEvent (s : State) (f n : Nat) (bs : List Byte) : State :=
  match evRingOf s f n with
  | none => s
  | some p =>
    let e := evRing s p
    if !e.enable then s else
    let s := hostWrite s (e.base + 16 * e.tail) (withPhase bs 2 e.sig.phase)
    let (t, w) := nextIndex e.tail e.sizeLog2
    let (due, g) := (e.sig.pass w).written (now s) e.modCount e.modTime
    let s := setEvRing s p { e with tail := t, sig := g }
    if due then sendMessage s f (4 + n) else s

def putRecord (s : State) (f : Nat) (h : Held) : State :=
  let s := s.modPcie exitL1
  match h.addr with
  | some a => hostWrite s a h.bytes
  | none => if h.isCompletion then putCompletion s f h.ring h.bytes else putEvent s f h.ring h.bytes

/-- A record is held in a stay in D3: the first sends PME or asserts WAKE# (06 R293). -/
def signalHeld (s : State) (f : Nat) : State :=
  let fn := fnOf s f
  let first := !fn.heldInStay && fn.pmeEn && decide (fn.dstate ≠ .d0)
  let s := setFn s f { fn with
    heldInStay := fn.heldInStay || decide (fn.dstate ≠ .d0),
    pmeStatus := fn.pmeStatus || (first && decide (fn.dstate = .d3hot)),
    pmeSetAt := if first && decide (fn.dstate = .d3hot) then some (now s) else fn.pmeSetAt,
    pmeAt := if first && decide (fn.dstate = .d3hot) then some (now s) else fn.pmeAt,
    wakeAsserted := fn.wakeAsserted || (first && decide (fn.dstate = .d3cold)) }
  if first && decide (fn.dstate = .d3hot) then s.modPcie fun p => exitL1 { p with out := p.out ++ [.pme f] }
  else if first then s.modPcie fun p => { p with wakePin := true }
  else s

/-- Room for n more bytes among the records held, beside what is reserved for completions (06 R292). -/
def heldRoom (s : State) (n : Nat) : Bool :=
  let used := s.fns.foldl (fun (n : Nat) f => n + (f.2.held.foldl (fun (m : Nat) h => m + h.bytes.length) 0)) 0
  let due := s.crs.foldl (fun (n : Nat) c => n + 32 * c.2.ccReserved) 0
  decide (used + due + n ≤ 2 ^ 20)

/-- A record held for a function (06 R291 to R293). A completion has its place reserved and an event record is claimed
only where there is one; a status or position record that finds none is lost (log entry 124). -/
def holdRecord (s : State) (f : Nat) (h : Held) : State :=
  if h.addr.isSome && !heldRoom s h.bytes.length then s else
  signalHeld (modFn s f fun fn => { fn with held := fn.held ++ [{ h with tick := now s }] }) f

/-- A record issued: written, or held behind the records already held (06 R283, R291, R294). A completion issued to a
disabled ring is discarded (06 R267). -/
def issueRecord (s : State) (f : Nat) (h : Held) : State :=
  if h.isCompletion && !(crOf s f h.ring).ccEnable then s else
  let s := if h.isCompletion then modCr s f h.ring fun c => { c with ccUsed := c.ccUsed + 1 } else s
  if canWrite s f && (fnOf s f).held.isEmpty then putRecord s f h else holdRecord s f h

/-- Sends at once the message of every ring of a function that holds unsignalled records (06 R294, R296). -/
def flushMessages (s : State) (f : Nat) : State :=
  let s := (List.range 4).foldl (fun s r =>
    let c := crOf s f r
    if c.ccEnable && decide (c.sig.unsignalled ≠ 0) then sendMessage (setCr s f r { c with sig := c.sig.spent }) f r
    else s) s
  (List.range 256).foldl (fun s p =>
    let e := evRing s p
    if decide (e.owner = f) && e.enable && decide (e.sig.unsignalled ≠ 0) then
      sendMessage (setEvRing s p { e with sig := e.sig.spent }) f (4 + e.loc)
    else s) s

/-! ### Completions and flights (06 R279, R280; 07 R301, R863) -/

/-- A completion record (06), its PHASE bit still zero. -/
def completionRecord (s : State) (src : CmdSrc) (op tag user : Nat) (v : Verdict) (final : Bool) : List Byte :=
  let (e, o) := match v.inst with | some t => instantOfTick s t | none => (0, 0)
  leBytes 2 tag ++ leBytes 1 v.status ++ leBytes 1 (2 * b2n final) ++ leBytes 1 v.reason ++ leBytes 1 v.index ++
  leBytes 2 src.slot ++ leBytes 2 (crOf s src.fn src.ring).head ++ leBytes 1 op ++ leBytes 1 src.ring ++
  leBytes 4 e ++ leBytes 4 o ++ leBytes 4 v.value ++ leBytes 8 user

def sameRing (a b : CmdSrc) : Bool := a.fn == b.fn && a.ring == b.ring

/-- The commands of a tenancy that a quiesce has stopped (05 R234). -/
def stoppedOf (s : State) (t : Nat) : List Stopped := (tget {} s.tens t : Tenancy).stopped

/-- Whether an earlier command of the ring still lacks its final completion (06 R278). -/
def earlierInRing (s : State) (f : Flight) : Bool :=
  (s.flights.any fun g => sameRing g.src f.src && decide (g.id < f.id)) ||
  (stoppedOf s f.src.fn).any fun g => sameRing g.flight.src f.src && decide (g.flight.id < f.id)

/-- Whether FENCE still keeps a command from starting its work (06 R278). -/
def fenced (s : State) (f : Flight) : Bool := fenceOf f.desc && earlierInRing s f

/-- The effect of a command ring's pending disable once nothing of it is in flight (06 R265). -/
def settleRing (s : State) (f r : Nat) : State :=
  let c := crOf s f r
  if c.disablePending && !(s.flights.any fun g => sameRing g.src ⟨f, r, 0⟩) &&
      !((stoppedOf s f).any fun g => sameRing g.flight.src ⟨f, r, 0⟩) &&
      !(s.visible.any fun g => sameRing g.src ⟨f, r, 0⟩) then
    setCr s f r { c with enable := false, disablePending := false }
  else s

/-- Replaces a flight. -/
def setFlight (s : State) (f : Flight) : State :=
  s.modFlights fun l => l.map fun g => if g.id = f.id then f else g

/-- The ACCEPT of a flight (06 R279): one of its reserved slots is used. -/
def accept (s : State) (f : Flight) (inst : Option Nat) (value : Nat := 0) : State :=
  let s := modCr s f.src.fn f.src.ring (fun c => { c with ccReserved := c.ccReserved - min 1 f.slots })
  let s := setFlight s { f with slots := f.slots - 1 }
  let bs := completionRecord s f.src f.op (tagOf f.desc) (userOf f.desc) { status := 1, value := value, inst := inst } false
  issueRecord s f.src.fn { isCompletion := true, ring := f.src.ring, bytes := bs }

/-- A job number that comes after another (11 R499, 02 R42). -/
def laterJob (a b : Nat) : Bool := decide (a ≠ b) && decide ((a + 2 ^ 32 - b) % 2 ^ 32 < 2 ^ 31)

/-- An outcome takes its place among those of a context, the latest job first. -/
def insertOutcome (n : Nat) (ok : Bool) : List (Nat × Bool) → List (Nat × Bool)
  | [] => [(n, ok)]
  | o :: l => if laterJob o.1 n then o :: insertOutcome n ok l else (n, ok) :: o :: l

/-- The outcome of a GPU job is kept with its context: the 64 most recent jobs' (11 R501), and the latest job that has one (R526).
A job's flight keeps its context and its number. -/
def noteOutcome (s : State) (f : Flight) (v : Verdict) : State :=
  match f.aux with
  | c :: n :: _ =>
    if f.op ≠ 0x63 then s else
    s.modGpu fun g => { g with
      contexts := tmod {} g.contexts c fun x =>
        { x with lastDone := if x.lastDone ≠ 0 && laterJob x.lastDone n then x.lastDone else n,
                 outcomes := (insertOutcome n (decide (v.status = 0)) x.outcomes).take 64 } }
  | _ => s

/-- The final completion of a flight (06 R273, R279): it leaves, and its reservation is released. -/
def finish (s : State) (f : Flight) (v : Verdict) : State :=
  let s := noteOutcome s f v
  let s := modCr s f.src.fn f.src.ring fun c => { c with ccReserved := c.ccReserved - f.slots }
  let s := s.modFlights fun l => l.filter fun g => g.id ≠ f.id
  let bs := completionRecord s f.src f.op (tagOf f.desc) (userOf f.desc) v true
  let s := issueRecord s f.src.fn { isCompletion := true, ring := f.src.ring, bytes := bs }
  settleRing s f.src.fn f.src.ring

/-- DONE, carrying the instant at which the effect took hold (07 R304, 04 R170). -/
def finishDone (s : State) (f : Flight) (value : Nat := 0) : State :=
  finish s f { status := 0, value := value, inst := some (now s) }

/-- A refusal or failure that ends a flight. -/
def finishWith (s : State) (f : Flight) (status reason : Nat) (value : Nat := 0) : State :=
  finish s f { status := status, reason := reason, value := value }

def finishAborted (s : State) (f : Flight) : State := finishWith s f 12 0

/-- Whether a command still waiting for its first completion has passed its checks. -/
def accepted (f : Flight) : Bool := decide (f.verdict.status ≤ 1)

/-- A command withdrawn (07 R863): before a_k + 8,000 its first completion becomes this final one, whatever the checks
found, unless it was withdrawn before; from that instant on its first completion, where it is still due, is written before the
final one: its refusal, which ends it, or its ACCEPT. -/
def withdraw (s : State) (f : Flight) (v : Verdict) : State :=
  if f.phase ≠ .first then finish s f v
  else if now s < f.admitted + 8000 then
    if f.verdict.status = 12 || f.verdict.status = 13 then s else setFlight s { f with verdict := v }
  else if !accepted f then finish s f f.verdict
  else if f.verdict.status = 1 then
    finish (accept s f f.verdict.inst f.verdict.value) { f with slots := f.slots - 1 } v
  else finish s f v

def flightBy (s : State) (p : Flight → Bool) : Option Flight := s.flights.find? p

/-- The oldest flight from a slot that satisfies a test. -/
def flightAt (s : State) (src : CmdSrc) (p : Flight → Bool) : Option Flight :=
  s.flights.find? fun f => decide (f.src = src) && p f

/-- Sets what a flight waits for. -/
def await (s : State) (f : Flight) (p : Phase) : State := setFlight s { f with phase := p }

/-! ### The Ledger (20) -/

def lgSrc (s : State) (b : Nat) : LgSrc := tget {} s.lg.src b
def setLgSrc (s : State) (b : Nat) (v : LgSrc) : State := s.modLg fun l => { l with src := tset {} l.src b v }

/-- Sources whose class is fixed at HALT (20 R789, R790). -/
def fixedHalt (b : Nat) : Bool := b == 0 || b == 1 || b == 14

/-- The class of a source in LG_CLASS: 0 NOTE, 1 CONTAIN, 2 DEGRADE, 3 HALT (20 R790). -/
def lgClass (s : State) (b : Nat) : Nat :=
  if fixedHalt b then 3 else
  let w := if b < 16 then s.lg.cls0 else if b < 32 then s.lg.cls1 else if b < 48 then s.lg.cls2 else s.lg.cls3
  bits w (2 * (b % 16)) 2

/-- A source's effective class (20 R871). -/
def effClass (s : State) (b : Nat) : Nat := max (lgClass s b) (lgSrc s b).raised

/-- Whether a HALT is in force (20 R796). -/
def halted (s : State) : Bool := s.lg.haltSrc.isSome

/-- The AFFECT bit of the device as a whole. -/
def deviceMask : Nat := 2 ^ 17

/-- The parties of a mask that CONTAIN quiesces: T1 to T16 (20 R793, R794). -/
def guestsOf (m : Nat) : Nat := m &&& 0x1FFFE

/-- The reaction in progress that an assertion is merged into: the one started last (20 R795). -/
def inProgress (l : List Reaction) : Option Reaction := (l.filter (·.started)).getLast?

/-- An assertion of class c on new parties (20 R793 to R795): merged into the reaction in progress, each party with the
reaction of its own assertion and of the graver class, or the cause of a reaction of its own. -/
def joinReaction (l : List Reaction) (b c parties t : Nat) : List Reaction :=
  let con := if c = 1 then guestsOf parties else 0
  let deg := if c = 2 then parties else if c = 1 then maskOff parties (guestsOf parties) else 0
  let by' := (bitsOf 17 con).map fun g => (g, b)
  match inProgress l with
  | none => l ++ [{ source := b, cls := c, contain := con, degrade := deg, named := by', since := t }]
  | some r =>
    l.map fun x => if x ≠ r then x else
    let all := r.contain ||| r.degrade ||| parties
    let g := max r.cls c
    { r with cls := g, named := r.named ++ by', contain := r.contain ||| con ||| (if g = 1 then guestsOf all else 0),
             degrade := r.degrade ||| deg ||| (if g = 2 then all else maskOff (if g = 1 then all else 0) (guestsOf all)) }

/-- The commands that are performed under HALT (20 R796). -/
def haltExempt (op : Nat) : Bool := op == 0x00 || op == 0x01 || op == 0x06 || op == 0xF0 || op == 0xF1

/-- The HALT of a source (20 R796, R797): the first bit is latched, the reaction in progress ends, and the commands
in flight are FAULTED. The safe states of the outputs follow from the latch. -/
def halt (s : State) (b : Nat) : State :=
  let first := s.lg.haltSrc.getD b
  let s := s.modLg fun l => { l with haltSrc := some first, reactions := [] }
  s.flights.foldl (fun s f => if haltExempt f.op then s else withdraw s f (refuse 13 0x32 0 first)) s

/-- An error line asserts source b with the parties it names (20 R791). -/
def assert (s : State) (b affect : Nat) (injected : Bool := false) : State :=
  if b ≥ 40 then s else
  let v := lgSrc s b
  let fresh := maskOff affect v.affect
  let c := lgClass s b
  let merged := (inProgress s.lg.reactions).isSome && decide (c ≠ 3)
  let rc := match inProgress s.lg.reactions with | some r => r.cls | none => 0
  let v' : LgSrc := { v with
    on := true, stamp := if v.on then v.stamp else now s, affect := v.affect ||| affect,
    injected := if v.on then v.injected else injected,
    setAt := some (now s), setAffect := (if v.setAt = some (now s) then v.setAffect else 0) ||| affect,
    raised := if merged && decide (c < rc) then max v.raised rc else v.raised }
  let s := setLgSrc s b v'
  let s := if v.on then s else raise s srcLedger (if c = 3 then 3 else c)
  let eff := max c v'.raised
  if c = 3 then halt s b
  else if eff = 0 || (fresh = 0 && v.on) then s
  else s.modLg fun l => { l with reactions := joinReaction l.reactions b eff fresh (now s) }

/-- The AFFECT bit of an owner code; 0x1E is the device as a whole (20 R791). -/
def partyBit (t : Nat) : Nat := if t ≤ 16 then 2 ^ t else deviceMask

/-- DEADLINE_MISS fires for a missed promised instant, but for one whose promise is withdrawn (04 R195; 20 R793). -/
def missNote (s : State) (f : Flight) : State := if f.withdrawn then s else assert s 23 (partyBit f.src.fn)

/-- The tenancies that are not ABSENT. -/
def everyTenancy (s : State) : Nat :=
  (List.range 17).foldl (fun m t => if (tenOf s t).state = .absent then m else m + 2 ^ t) 0

def isDegraded (s : State) (t : Nat) : Bool := s.lg.degraded.testBit t

/-- FAULT_N (20 R798; 21 R822, R831). -/
def faultN (s : State) : Bool :=
  halted s || decide (s.pw.state = .wakeFailed) || decide (s.pw.boot = .failed) ||
  ((List.range 40).any fun b => (lgSrc s b).on && decide (effClass s b ≥ 2))

/-! ### Charges (04 R172 to R177) -/

/-- What of a resource an owner has committed in epoch e. -/
def committed (s : State) (t res idx e : Nat) : Nat :=
  (s.charges.filter fun c => c.owner == t && c.resource == res && c.index == idx && decide (c.fromEpoch ≤ e) &&
    (match c.toEpoch with | some l => decide (e ≤ l) | none => true)).foldl (fun n c => n + c.amount) 0

/-- The epochs, from e on, at which what is committed can rise. -/
def chargeEpochs (s : State) (e : Nat) : List Nat :=
  e :: ((s.charges.map (·.fromEpoch)).filter fun x => decide (x > e))

/-- The largest amount committed in any epoch from e on. -/
def peak (s : State) (t res idx e : Nat) : Nat :=
  (chargeEpochs s e).foldl (fun m x => max m (committed s t res idx x)) 0

/-- A charge in force from an epoch on. -/
def chargeFrom (t res idx amount e kind obj : Nat) : Charge :=
  { owner := t, resource := res, index := idx, amount := amount, fromEpoch := e, kind := kind, object := obj }

/-- The charges of an object once a change at tick t, in epoch e, is admitted (04 R174): what stood before counts through
that epoch, the new charges from it on, up to the epoch of the next change already admitted for a later instant. A change
that leaves nothing charged keeps its place with an amount of zero. -/
def placeCharges (cs : List Charge) (owner kind obj t e : Nat) (new : List Charge) : List Charge :=
  let mine := fun (c : Charge) => c.kind == kind && c.object == obj
  let next := (cs.filter fun c => mine c && decide (c.since > t)).foldl
    (fun (n : Option Nat) c => some (min c.fromEpoch (n.getD c.fromEpoch))) none
  let new := if new.isEmpty then [chargeFrom owner 0 0 0 e kind obj] else new
  ((cs.map fun c => if mine c && decide (c.since ≤ t) then { c with toEpoch := some (min e (c.toEpoch.getD e)) } else c).filter
    fun c => match c.toEpoch with | some l => decide (c.fromEpoch ≤ l) | none => true) ++
  new.map fun c => { c with since := t, toEpoch := next }

/-- A charge of an object put into the object's others, oldest change first. -/
def insertCharge (c : Charge) : List Charge → List Charge
  | [] => [c]
  | x :: l => if c.since < x.since then c :: x :: l else x :: insertCharge c l

/-- The charges of one object, oldest change first, each counting until the next one takes over: a change that leaves it
charged takes over from its own epoch on, one that ends it (amount zero) from the epoch after its own. An ending that a later
change overtakes does not happen. -/
def chainCharges : List Charge → List Charge
  | [] => []
  | c :: l =>
    match chainCharges l with
    | [] => [{ c with toEpoch := none }]
    | n :: r =>
      if c.amount = 0 && n.amount ≠ 0 && n.fromEpoch ≤ c.fromEpoch then n :: r
      else { c with toEpoch := some (if c.amount ≠ 0 && n.amount ≠ 0 then n.fromEpoch - 1 else n.fromEpoch) } :: n :: r

/-- The charges of an audio path once a change at tick t is admitted (04 R174, 15 R639): in force from epoch e on, or, with no
amount, up to e, the epoch in which its gain has faded out. A path that goes on existing is charged once in every epoch. -/
def placePath (cs : List Charge) (t : Nat) (new : Charge) : List Charge :=
  let mine := fun (c : Charge) => c.kind == new.kind && c.object == new.object
  let chain := chainCharges (insertCharge { new with since := t } (cs.filter mine))
  (cs.filter fun c => !mine c) ++ chain.filter fun c => match c.toEpoch with | some l => decide (c.fromEpoch ≤ l) | none => true

/-- What an object is charged in epoch e. -/
def objectAmount (cs : List Charge) (kind obj e : Nat) : Nat :=
  (cs.filter fun c => c.kind == kind && c.object == obj && decide (c.fromEpoch ≤ e) &&
    (match c.toEpoch with | some l => decide (e ≤ l) | none => true)).foldl (fun n c => n + c.amount) 0

/-- Whether a change at epoch e raises what an object is charged, in that epoch by its own amount or in any later one. -/
def chargeRises (old new : List Charge) (kind obj e amount : Nat) : Bool :=
  let marks := (old ++ new).flatMap fun c => [c.fromEpoch, c.toEpoch.getD 0 + 1]
  decide (amount > objectAmount old kind obj e) ||
  ((e + 1) :: marks).any fun x => decide (x > e) && decide (objectAmount new kind obj x > objectAmount old kind obj x)

/-- Ends the standing charges of an object after epoch e (04 R174). -/
def endCharges (cs : List Charge) (kind obj e : Nat) : List Charge :=
  (cs.map fun c =>
    if c.kind == kind && c.object == obj && c.toEpoch.isNone then { c with toEpoch := some e } else c).filter
  fun c => match c.toEpoch with | some l => decide (c.fromEpoch ≤ l) | none => true

/-- Drops every charge of an object. -/
def dropCharges (cs : List Charge) (kind obj : Nat) : List Charge :=
  cs.filter fun c => !(c.kind == kind && c.object == obj)

/-- The least number of turns every wheel entry receives in an epoch, R_min (02 R73). -/
def rMin (e : Nat) : Nat := e * 11997 / 131072000

/-- Compose capacity of a pipe per epoch, C_pipe (04 R179). -/
def cPipe (e : Nat) : Nat := e * 7998 / 1000

/-- How many entries of a wheel an owner holds in the active tables. -/
def entriesOf (ws : List (List Nat)) (wheel owner : Nat) : Nat := ((ws.drop wheel).headD []).count owner

/-! ### Taking a command (04 R164, 07 R309) -/

inductive Form where
  | f | af | av
  deriving DecidableEq, Repr

/-- A row of the opcode catalogue (07 R298 to R300). -/
structure OpRow where
  op : Nat
  t0 : Bool
  classes : List Nat
  form : Form
  deriving DecidableEq, Repr

def row (op : Nat) (t0 : Bool) (form : Form) (classes : List Nat := [0]) : OpRow := ⟨op, t0, classes, form⟩

/-- The opcode catalogue (07 R298). -/
def catalogue : List OpRow :=
  [row 0x00 false .f, row 0x01 false .f, row 0x02 false .f, row 0x03 false .f, row 0x04 true .af, row 0x05 true .f,
   row 0x06 false .f, row 0x10 true .av, row 0x11 true .av, row 0x12 true .av, row 0x13 true .af, row 0x14 true .f,
   row 0x15 true .af, row 0x16 true .af, row 0x17 true .f, row 0x18 true .av, row 0x19 true .av, row 0x1A true .f,
   row 0x1B true .f] ++
  [row 0x30 false .f, row 0x31 false .af [1, 2, 3], row 0x32 false .af [2, 3], row 0x33 false .af [2, 3],
   row 0x34 false .af [2, 3], row 0x35 true .af, row 0x36 false .f, row 0x40 true .af, row 0x41 true .af,
   row 0x42 true .af, row 0x43 false .af [1, 2, 3], row 0x44 true .f, row 0x45 true .af, row 0x46 true .af,
   row 0x47 false .f, row 0x48 true .av] ++
  [row 0x50 false .f, row 0x51 false .af [1, 2, 3], row 0x52 false .af [1, 2, 3], row 0x53 false .af, row 0x54 false .f,
   row 0x55 false .af [1], row 0x60 false .f, row 0x61 false .af, row 0x62 false .av, row 0x63 false .af [3],
   row 0x64 false .af, row 0x65 false .f, row 0x70 true .af, row 0x71 true .af, row 0x72 true .af, row 0x73 true .af,
   row 0x74 true .av, row 0x78 true .af, row 0x79 false .af, row 0x7A false .f] ++
  [row 0x80 false .f, row 0x81 false .af [2, 3], row 0x82 false .af [2, 3], row 0x83 false .f, row 0x84 false .f,
   row 0x90 true .af, row 0x91 false .f, row 0x92 false .af [2, 3], row 0x93 false .af [2, 3], row 0x94 false .af [2, 3],
   row 0x95 false .af [2, 3], row 0x96 false .af [2, 3], row 0x97 false .af [1, 2, 3], row 0x98 false .f,
   row 0xA0 false .f, row 0xA1 false .af [2, 3], row 0xA2 false .af [2, 3], row 0xA3 false .af [2, 3],
   row 0xA4 false .af [2, 3], row 0xA5 false .af, row 0xA6 false .f] ++
  [row 0xB0 false .f, row 0xB1 true .f, row 0xB2 false .f, row 0xB3 false .f, row 0xB4 false .f, row 0xB5 false .f,
   row 0xC0 true .av, row 0xC1 true .f, row 0xC2 true .af, row 0xC3 true .f, row 0xD0 true .f, row 0xD1 true .f,
   row 0xD2 true .f, row 0xD3 true .af, row 0xD4 true .af, row 0xD8 true .af, row 0xD9 false .f, row 0xE0 false .av,
   row 0xE1 true .av, row 0xE2 false .av, row 0xE3 false .av, row 0xE4 false .av, row 0xE5 true .av, row 0xE6 true .av,
   row 0xE7 true .av, row 0xF0 true .f, row 0xF1 true .f, row 0xF2 true .f, row 0xF3 true .f]

def opRow (op : Nat) : Option OpRow := catalogue.find? fun r => r.op == op

/-- A command being checked: where it came from, its tenancy's owner code, its descriptor and a_k. -/
structure Cmd where
  src : CmdSrc
  t : Nat
  d : Descriptor
  a : Nat
  deriving DecidableEq, Repr

/-- What the owning chapter's checks decide: the first completion, the promised instant, and what the flight keeps. -/
structure Ruling where
  verdict : Verdict
  promised : Option Nat := none
  aux : List Nat := []
  deriving DecidableEq, Repr

/-- A refusal. -/
def no (v : Verdict) : Ruling := { verdict := v }

/-- DONE for form F, ACCEPT otherwise; an ACCEPT of C1 or C2 carries the promised instant (04 R166, 07 R302). -/
def yes (form : Form) (promised : Option Nat := none) (aux : List Nat := []) (value : Nat := 0) : Ruling :=
  { verdict := { status := if form = .f then 0 else 1, value := value, inst := promised },
    promised := promised, aux := aux }

/-- What a command of class C1 or C2 that has nothing to wait for promises: the instant of its first completion, at which it
is delivered (04 R166, R170; 06 R280). -/
def promptly (c : Cmd) : Option Nat := if classOf c.d = 3 then none else some (c.a + 8000)

/-- The first failing check, or else the ruling. -/
def ruling (checks : List (Option Verdict)) (ok : Ruling) : Ruling :=
  match firstSome checks with | some v => no v | none => ok

/-- A POWER_STATE that has had its ACCEPT and not its final completion (21 R809). -/
def powerPending (s : State) : Bool := s.flights.any fun f => f.op == 0xC0 && decide (f.phase ≠ .first)

/-- Both image slots failed and there is no fallback: only DEVICE_IDENTIFY is performed (21 R831). -/
def noImage (s : State) : Bool := decide (s.pw.state = .booting) && decide (s.pw.boot = .failed)

/-- Steps 1 to 4 of the order of checks (07 R309), after the HALT of 20 R796 and the boot that failed (21 R831), and with
the refusal of 20 R793. -/
def commonChecks (s : State) (t : Nat) (op : Nat) (d : Descriptor) : Option Verdict :=
  match opRow op with
  | none => some (if halted s then refuse 13 0x32 0 (s.lg.haltSrc.getD 0) else if noImage s then refuse 13 0x32 0 37 else unsupported 0)
  | some r => firstSome
    [failIf (halted s && !haltExempt op) (refuse 13 0x32 0 (s.lg.haltSrc.getD 0)),
     failIf (noImage s && op ≠ 0x01) (refuse 13 0x32 0 37),
     failIf (r.t0 && t ≠ 0) (notOwner 0),
     failIf (!r.classes.contains (classOf d) || dbits d 1 2 6 ≠ 0) (badParam 1),
     failIf (dbits d 4 1 7 ≠ 0) (badParam 4),
     failIf (dget d 5 3 ≠ 0) (badParam 5),
     failIf ((tenOf s t).state ≠ .live || (tenOf s t).resetting) (badState 0),
     failIf (decide (t = 0) && powerPending s) (badState 0),
     failIf ((classOf d = 1 || classOf d = 2) && isDegraded s t) (badState 0)]

/-- The FENCE check of step 8 (06 R278), for a requested instant. One that has passed lies before every promised instant
still awaited. -/
def fenceCheck (s : State) (c : Cmd) (want : Option Nat) : Option Verdict :=
  failIf (fenceOf c.d && (classOf c.d = 1 || classOf c.d = 2) &&
    (s.flights.any fun f => sameRing f.src c.src && accepted f &&
      (match f.promised with | some p => decide (want.getD 0 < p) | none => false))) (badParam 4)

/-- The visible entry of a slot that a command comes from: the oldest that holds its descriptor or still waits for one. -/
def entryOf (s : State) (src : CmdSrc) (d : Descriptor) : Option Visible :=
  let mine := fun (v : Visible) => decide (v.src = src) && decide (v.failed = 0)
  match s.visible.find? fun v => mine v && decide (v.desc = some d) with
  | some v => some v
  | none => s.visible.find? fun v => mine v && v.desc.isNone

/-- The admission instant of a command (04 R164): the visible entry's, or that of a command handed straight to the
block now (log entry 9). -/
def admissionOf (s : State) (src : CmdSrc) (d : Descriptor) : Nat :=
  match entryOf s src d with
  | some v => v.admitted
  | none =>
    match (tenOf s src.fn).lastAdmission with
    | some l => max (now s) (l + 4000)
    | none => now s

/-- The state as a command admitted before its tenancy's quiesce is checked against (05 R232). -/
def beforeQuiesce (s : State) (t a : Nat) : State :=
  match (tenOf s t).quiesceAt with
  | some q => if a < q && (tenOf s t).state = .quiescing then modTen s t fun v => { v with state := .live } else s
  | none => s

/-- Whether a command is charged for the die-to-die link (01 R17): touch and audio of class C1 or C2. Class 0 passes no
admission (07 R300), and HAPTIC_PLAY and HAPTIC_STOP charge no budget (14 R630). -/
def crossesLink (op cls : Nat) : Bool :=
  decide (0x70 ≤ op) && decide (op ≤ 0x9F) && decide (op ≠ 0x81) && decide (op ≠ 0x82) && (cls == 1 || cls == 2)

/-- The turns of a direction of the link that a tenancy's C1 and C2 commands in flight hold (01 R17; log entry 140). -/
def linkHeld (s : State) (t dir : Nat) : Nat :=
  (s.flights.filter fun f => decide (f.src.fn = t) && crossesLink f.op (classOf f.desc) && accepted f).foldl
    (fun n f => n + Config.linkTurns f.op dir) 0

/-- The turns on the link that a tenancy's entries in given tables receive in an epoch (02 R73). -/
def linkGrant (s : State) (t : Nat) (ws : List (List Nat)) : Nat := entriesOf ws 10 t * rMin s.tl.epochTicks

/-- Whether what a tenancy holds of the link stays within given tables (04 R176). -/
def linkTurnsFit (s : State) (t : Nat) (ws : List (List Nat)) : Bool :=
  [0, 1].all fun dir => decide (linkHeld s t dir = 0) || decide (linkHeld s t dir ≤ linkGrant s t ws)

/-- The refusal of a command whose turns on the link exceed its tenancy's entries, in the tables in force or in those of a
pending load (01 R17, 04 R177, 05 R223). -/
def linkFault (s : State) (t op : Nat) (d : Descriptor) : Option Verdict :=
  if !crossesLink op (classOf d) then none else
  firstSome ([0, 1].map fun dir => failIf
    (decide (Config.linkTurns op dir ≠ 0) && (s.wheels.active :: s.loads.filterMap (·.wheels)).any fun ws =>
      decide (linkHeld s t dir + Config.linkTurns op dir > linkGrant s t ws)) (budget 0x0A dir))

/-- A ruling with the link's refusal in its place among the budget reasons (04 R177). -/
def withLink (s : State) (t op : Nat) (d : Descriptor) (r : Ruling) : Ruling :=
  if r.verdict.status ≤ 1 || (decide (r.verdict.status = 2) && decide (r.verdict.reason > 0x0A)) then
    match linkFault s t op d with | some v => no v | none => r
  else r

/-- The ruling of the checks on a command, against the state `view` (07 R306); `check` is the owning chapter's steps 5 to 11. -/
def ruleOf (op : Nat) (src : CmdSrc) (d : Descriptor) (view : State) (check : State → Cmd → Ruling) (a : Nat) : Ruling :=
  match commonChecks (beforeQuiesce view src.fn a) src.fn op d with
  | some v => no v
  | none => withLink view src.fn op d (check view { src := src, t := src.fn, d := d, a := a })

/-- Under the boot partition no command of class C1 or C2 is admitted (05 R200); what its refusal names, where its charges name
nothing, is a free value (log entry 134). -/
def barred (view : State) (d : Descriptor) (r : Ruling) (s : State) : Ruling × State :=
  if view.wheels.boot && decide (r.verdict.status ≤ 1) && (classOf d == 1 || classOf d == 2) then
    let (v, s) := freshValue s
    (no (budget (v.toNat % 256) (v.toNat / 256 % 256)), s)
  else (r, s)

/-- Takes a command in: it leaves the visible list and becomes a flight that waits for its first completion at
a_k + 8,000. -/
def takeCommand (op : Nat) (src : CmdSrc) (d : Descriptor) (view : State) (check : State → Cmd → Ruling)
    (s : State) : Flight × State :=
  let a := admissionOf s src d
  let e := entryOf s src d
  let r := barred view d (ruleOf op src d view check a) s
  let f : Flight :=
    { id := r.2.nextId, src := src, op := op, desc := d, admitted := a, verdict := r.1.verdict, promised := r.1.promised,
      slots := if e.isSome then 2 else 0, aux := r.1.aux }
  let s := r.2.modVisible fun l => l.eraseP fun v => decide (some v = e)
  let s := if e.isSome then s else modTen s src.fn fun t => { t with lastAdmission := some a }
  (f, (s.modNextId (· + 1)).modFlights (· ++ [f]))

end Sys2Proof.Machine
end

