-- ==== Sys2Proof/Machine/TimelineOps.lean ====
section
/-! DEFINITION. The Timeline (02): its states, the references, SYNC_OUT, and the checks and effects of
TIMELINE_CONFIG, TIMELINE_STEER and TIMELINE_STATUS. -/

namespace Sys2Proof.Machine

/-- Whether any head is locked: configured with locked timing (02 R54; log entry 11). -/
def anyHeadLocked (s : State) : Bool :=
  s.comp.heads.any fun h => match h.2.cfg with | some c => !c.tracked | none => false

/-- Whether any C1 or C2 promise is outstanding. -/
def anyPromise (s : State) : Bool := s.flights.any fun f => f.promised.isSome && !f.withdrawn && accepted f

def tlNum : TlState → Nat
  | .free => 0 | .acquire => 1 | .locked => 2 | .holdover => 3

/-- HOLD_BOUND (02 R56, R57). -/
def holdBound (s : State) : Nat :=
  if s.tl.state = .holdover then min 0xFFFFFFFF (ceilDiv ((now s - s.tl.holdSince) * s.tl.holdPpm) 1000000)
  else s.tl.holdKept

/-- What remains of the phase correction being slewed (02 R51, R85). R51 limits the rate to 50 ppm: the model slews at that
limit (DESIGN CHOICE, log entry 118). -/
def steerLeft (s : State) : Nat := s.tl.steerAdj.natAbs - (now s - s.tl.steerSince) * 50 / 1000000

/-- SLEWING: a phase correction is being slewed. -/
def slewing (s : State) : Bool := decide (steerLeft s ≠ 0)

/-- TL_STATUS. -/
def tlStatus (s : State) : Nat :=
  tlNum s.tl.state + 4 * b2n (slewing s) + 8 * b2n s.tl.outOfRange + 256 * s.tl.glitches

/-- TL_CTRL. -/
def tlCtrl (s : State) : Nat :=
  s.tl.src + 8 * b2n s.tl.edge + 16 * b2n s.tl.align + 256 * s.tl.lossCount + 65536 * s.tl.holdPpm

/-- The mean of the frequencies of the last 64 epochs in LOCKED, one sample an epoch, rounded down (02 R49; log entry
119). -/
def lockedMean (s : State) : Int := (s.tl.lockedFreqs.foldl (· + ·) 0).fdiv 64

/-- TL_SYNC_OUT and TL_SYNC_OUT_OFS as last written: a change counts from its epoch start on (02 R80, R861). -/
def tlSyncOut (s : State) : Nat :=
  match s.tl.soNext.getLast? with
  | some (w, _, _) => w
  | none => s.tl.soWidth + 2 ^ 24 * s.tl.soSel + 2 ^ 30 * b2n s.tl.soPol + 2 ^ 31 * b2n s.tl.soEnable

def tlSyncOfs (s : State) : Nat := match s.tl.soNext.getLast? with | some (_, o, _) => o | none => s.tl.soOfs

/-- SYNC_OUT is held inactive, and a pulse in progress ends. -/
def quietSync (s : State) : State := s.modTl fun t => { t with soEdges := [], soActive := false }

/-- Whether a SEL value names a head that is DISABLED (02 R861). -/
def selStopped (s : State) (sel : Nat) : Bool :=
  decide (1 ≤ sel) && decide ((tget {} s.comp.heads (sel - 1) : Head).state = .disabled)

/-- A change of SYNC_OUT takes effect (02 R80); one that turns it off, turns its polarity or selects a DISABLED head (R861)
ends a pulse in progress. -/
def installSync (s : State) (w o : Nat) : State :=
  let s := if w.testBit 31 && w.testBit 30 == s.tl.soPol && !selStopped s (w / 2 ^ 24 % 16) then s else quietSync s
  s.modTl fun t => { t with
    soWidth := w % 2 ^ 24, soSel := w / 2 ^ 24 % 16, soPol := w.testBit 30, soEnable := w.testBit 31, soOfs := o }

/-- Entry to HOLDOVER (02 R49, R90): the frequency is frozen, and nothing is slewed; from LOCKED it sets LOST and fires
TL_LOCK_LOST. -/
def enterHoldover (s : State) : State :=
  let wasLocked := decide (s.tl.state = .locked)
  let mean := lockedMean s
  let s := s.modTl fun t =>
    { t with state := .holdover, holdSince := t.tick, wasHoldover := true, goodEdges := 0, badEdges := 0, steerAdj := 0,
             freqOfs := if t.lockedEpochs ≥ 64 then mean else t.freqOfs }
  if wasLocked then assert (raise s (srcTimeline 1) 0) 7 0 else s

/-- Entry to LOCKED (02 R49, R57, R90). -/
def enterLocked (s : State) : State :=
  let again := s.tl.wasHoldover
  let s := s.modTl fun t =>
    { t with state := .locked, glitches := 0, holdKept := 0, wasHoldover := false, goodEdges := 0, badEdges := 0,
             steerAdj := if t.src = 4 then t.steerAdj else 0 }
  let s := raise s (srcTimeline 0) 0
  if again then assert s 8 0 else s

/-- Entry to ACQUIRE (02 R49, R51): HOLD_BOUND keeps its last value, and the frequency held now bounds
the frequencies steered to. -/
def enterAcquire (s : State) : State :=
  s.modTl fun t => { t with
    state := .acquire, holdKept := holdBound s, goodEdges := 0, badEdges := 0, acquireFreq := t.freqOfs }

/-- Entry to FREE (02 R49): the clock is trimmed to EPOCH_TICKS and not steered. What FREE forgets, R90's HOLDOVER among
it, does not count at a later entry to LOCKED (log entry 120); TL_FREQ_OFS and HOLD_BOUND read zero (DESIGN CHOICE, log entry 144). -/
def enterFree (s : State) : State :=
  let wasLocked := decide (s.tl.state = .locked)
  let s := s.modTl fun t =>
    { t with state := .free, freqOfs := 0, holdKept := 0, lockedEpochs := 0, lockedFreqs := [], goodEdges := 0, badEdges := 0,
             wasHoldover := false, steerAdj := 0 }
  if wasLocked then raise s (srcTimeline 1) 0 else s

/-- The selection of a source (02 R49, R50, R53). -/
def selectSource (s : State) (src : Nat) : State :=
  if src = s.tl.src then s
  else
    let s := s.modTl fun t => { t with src := src, seenEdge := false, steerAge := 0, steerOfs := t.offset }
    if src = 0 then enterFree s
    else
      let left := decide (s.tl.state = .locked)
      let s := enterAcquire s
      if left then raise s (srcTimeline 1) 0 else s

/-- What HOLD_BOUND keeps at an edge accepted in ACQUIRE (02 R57): it loses what the measured phase error has lost since
the edge before (log entry 121). -/
def keptBound (t : Timeline) (err : Int) : Nat :=
  if t.state = .acquire && t.seenEdge then t.holdKept - (t.phaseErr.natAbs - err.natAbs) else t.holdKept

/-- A valid edge with the measured phase error (02 R49, R51, R57). One served at the tick at which the next epoch starts
counts for that epoch. -/
def acceptEdge (s : State) (err : Int) : State :=
  let wasHold := decide (s.tl.state = .holdover)
  let kept := keptBound s.tl err
  let s := if wasHold then enterAcquire s else s
  let good := if wasHold then 0 else if err.natAbs ≤ 40 then s.tl.goodEdges + 1 else 0
  let s := s.modTl fun t =>
    { t with phaseErr := err, lastEdge := t.tick, seenEdge := true, badEdges := 0, outOfRange := false,
             goodEdges := min 8 good, holdKept := if wasHold then t.holdKept else kept,
             steerAdj := if t.state = TlState.acquire then err else t.steerAdj,
             steerSince := if t.state = TlState.acquire then t.tick else t.steerSince,
             edgeHere := t.edgeHere || decide (t.offset < t.epochLen), edgeNext := t.edgeNext || decide (t.offset ≥ t.epochLen) }
  if s.tl.state = .acquire && good ≥ 8 then enterLocked s else s

/-- An edge that is not valid (02 R50). -/
def rejectRange (s : State) : State :=
  let s := if s.tl.outOfRange then s else raise s (srcTimeline 4) 0
  let s := s.modTl fun t => { t with outOfRange := true, seenEdge := true }
  if s.tl.state = .locked || s.tl.state = .acquire then enterHoldover s else s

/-- An expected edge missing or rejected (02 R49): LOSS_COUNT of them in a row lose the reference. The 8 consecutive accepted
edges of ACQUIRE count on past an epoch without an edge: R49 names accepted edges alone (log entry 122). -/
def missEdge (s : State) : State :=
  let s := s.modTl fun t => { t with badEdges := min 15 (t.badEdges + 1) }
  if s.tl.badEdges ≥ s.tl.lossCount then enterHoldover s else s

/-- The measured frequency of an interval between edges (in REF-derived ticks) lies within 200 ppm of nominal
(02 R50). -/
def inLockRange (e interval : Nat) : Bool :=
  let n := (2 * interval + e) / (2 * e)
  decide (n ≠ 0) && decide (((n * e : Nat) - (interval : Int)).natAbs * 1000000 ≤ 200 * interval)

/-- The phase error at an edge: positive when the Timeline is behind (02 TL_PHASE_ERR). -/
def phaseError (s : State) : Int :=
  if 2 * s.tl.offset ≥ s.tl.epochLen then ((s.tl.epochLen - s.tl.offset : Nat) : Int) else -(s.tl.offset : Int)

/-- The STEP alignment to an edge (02 R53). An edge that ends the epoch is one of the epoch that starts there too. -/
def stepAlign (s : State) : State :=
  realign s (s.modTl fun t =>
    if 2 * t.offset ≥ t.epochTicks then { t with epochLen := t.offset, stepDue := false, edgeNext := true }
    else { t with epochLen := t.offset + t.epochTicks, stepDue := false })

/-- A frequency offset held within the bounds of every state: 250 ppm (02 R52), and in ACQUIRE 50 ppm of the frequency held at
its start (02 R51). -/
def boundedFreq (t : Timeline) (x : Int) : Int :=
  clampI (-250000) 250000 (if t.state = TlState.acquire then clampI (t.acquireFreq - 50000) (t.acquireFreq + 50000) x else x)

/-- The frequency the PLL steers to at an edge: a free value within the bounds (02 R51, R52; log entry 12). In ACQUIRE the phase
is removed by it, so it contains what is slewed (log entry 118). -/
def steered (t : Timeline) (v : BitVec 64) : Int :=
  boundedFreq t (if t.state = TlState.acquire then t.acquireFreq + (v.toNat % 100001 : Nat) - 50000 else (v.toNat % 500001 : Int) - 250000)

/-- An edge on SYNC_IN (02 R44, R46, R50, R53), `interval` being what REF measures since the last edge that was no
glitch. A glitch is no expected edge: the boundary it misses counts by the edge that did not come (log entry 122). An
edge the epoch boundary is aligned to has no phase error left (log entry 123). -/
def referenceEdgeOf (s : State) (rising : Bool) (interval : Nat) : State :=
  let t := s.tl
  let ofKind := if t.src = 1 then rising != t.edge else rising
  if t.src = 0 || t.src ≥ 4 || !ofKind then s
  else if t.src = 3 && t.seenEdge && 4 * (t.tick - t.lastEdge) ≤ t.epochTicks then s
  else if t.state = .locked && 8 * (phaseError s).natAbs > t.epochTicks then
    raise (s.modTl fun t => { t with glitches := min 255 (t.glitches + 1) }) (srcTimeline 2) 0
  else if t.seenEdge && !inLockRange t.epochTicks interval then rejectRange s
  else
    let s := acceptEdge s (if t.stepDue then 0 else phaseError s)
    let (v, s) := freshValue s
    let s := s.modTl fun t => { t with freqOfs := steered t v }
    if s.tl.stepDue then stepAlign s else s

/-! ### SYNC_OUT (02 R47) -/

/-- The edges that are due are driven. Of two pulses that overlap the second ends where the first does (DESIGN CHOICE, log
entry 143). -/
def syncEdges (s : State) : State :=
  s.modTl fun t =>
    { t with soActive := ((t.soEdges.filter fun e => decide (e.1 ≤ t.tick)).getLast?.map (·.2)).getD t.soActive,
             soEdges := t.soEdges.filter fun e => decide (t.tick < e.1) }

/-- The event that SEL value `sel` names (02 R47, R80): a change that waited for it takes effect; a pulse is owed OFFSET
ticks later, at once where OFFSET is 0, unless the output is off. Changes that wait are in the order of their epoch starts;
the last of them whose event this is takes effect, and those before it are past. -/
def syncEvent (s : State) (sel : Nat) : State :=
  let mine := fun (n : Nat × Nat × Nat) => decide (n.1 / 2 ^ 24 % 16 = sel) && decide (n.2.2 < now s)
  let s := match (s.tl.soNext.filter mine).getLast? with
    | some (w, o, _) =>
      (installSync s w o).modTl fun t => { t with soNext := (s.tl.soNext.reverse.takeWhile fun n => !mine n).reverse }
    | none => s
  if !s.tl.soEnable || s.tl.soSel ≠ sel then s else
  syncEdges (s.modTl fun t =>
    { t with soEdges := t.soEdges ++ [(t.tick + t.soOfs, true), (t.tick + t.soOfs + t.soWidth, false)] })

/-- The shortest frame period of a configured head (02 R861). -/
def shortestFrame (s : State) (c : HeadCfg) : Nat :=
  if c.tracked then c.vTotal * c.phase / 65536 else s.tl.epochTicks * c.mul / c.div

/-! ### Commands -/

def layoutTimelineConfig : List (Nat × Nat × Nat) :=
  [(16, 0, 5), (16, 8, 4), (16, 16, 8), (20, 0, 29), (24, 0, 28), (24, 30, 2), (28, 0, 29)]

/-- The period of the event a SYNC_OUT selection names under a new EPOCH_TICKS. -/
def selectedPeriod (s : State) (sel e : Nat) : Option Nat :=
  if sel = 0 then some e
  else match (tget {} s.comp.heads (sel - 1) : Head).cfg with
    | some c => some (if c.tracked then shortestFrame s c else e * c.mul / c.div)
    | none => none

def checkTimelineConfig (s : State) (c : Cmd) : Ruling :=
  let d := c.d
  let e := dbits d 20 0 29
  let sel := dbits d 24 24 4
  let width := dbits d 24 0 24
  let period := selectedPeriod s sel e
  let busy := anyHeadLocked s || anyPromise s
  ruling
    [lowest [reserved layoutTimelineConfig d,
       (decide (dbits d 16 0 3 ≥ 5 || dbits d 16 8 4 = 0 || dbits d 16 16 8 = 0 || dbits d 16 16 8 > 100), badParam 0x10),
       (decide (e < 800000 || e > 400000000), badParam 0x14),
       (decide (sel > 12 || width < 4) || (match period with | some p => decide (width ≥ p) | none => true), badParam 0x18),
       (decide (dbits d 28 0 29 ≥ e), badParam 0x1C)],
     failIf (busy && dbit d 16 4) (badState 0x10),
     failIf (busy && decide (e ≠ s.tl.epochTicks)) (badState 0x14)]
    (yes .af)

/-- The settings of a TIMELINE_CONFIG take effect at an epoch start (02 R80). -/
def applyTimelineConfig (s : State) (d : Descriptor) : State :=
  let s := selectSource s (dbits d 16 0 3)
  let changed := decide (dbits d 16 0 3 ≠ 0)
  s.modTl fun t =>
    { t with edge := dbit d 16 3, align := dbit d 16 4, lossCount := dbits d 16 8 4, holdPpm := dbits d 16 16 8,
             epochTicks := dbits d 20 0 29, epochLen := ((dbits d 20 0 29 : Int) + t.epochLen - t.epochTicks).toNat,
             stepDue := dbit d 16 4 && changed && !t.seenEdge,
             soNext := t.soNext ++ [(dget d 24 4, dbits d 28 0 29, t.tick)] }

/-- The settings of an admitted TIMELINE_CONFIG as later commands are checked against them (07 R306): the current epoch, and
one that starts before its ACCEPT, keep their lengths. -/
def foreseeTimeline (s : State) (f : Flight) : State :=
  let old := s.tl.epochTicks
  let late := decide (f.admitted + 8000 ≥ nextEpochTick s)
  (applyTimelineConfig s f.desc).modTl fun t => { t with
    epochLen := s.tl.epochLen, stepAdj := if late then t.stepAdj + old - t.epochTicks else t.stepAdj }

def checkTimelineSteer (s : State) (c : Cmd) : Ruling :=
  let adj := dint32 c.d 16
  let ppb := dint32 c.d 20
  let host := decide (s.tl.src = 4)
  ruling
    [lowest [reserved [(16, 0, 32), (20, 0, 32)] c.d,
       (host && s.tl.stepDue && decide (2 * adj.natAbs > s.tl.epochTicks), badParam 0x10),
       (decide (ppb.natAbs > 200000), badParam 0x14)],
     failIf (!host) (badState 0x10),
     failIf (s.tl.stepDue && (anyHeadLocked s || anyPromise s)) (badState 0x10)]
    (yes .f)

/-- TIMELINE_STEER takes hold (02 R85, R862): it counts as an accepted edge with PHASE_ADJ as the phase error, or without
one where it aligns the boundary. -/
def startTimelineSteer (s : State) (f : Flight) : State :=
  let adj := dint32 f.desc 16
  let ppb := dint32 f.desc 20
  let step := s.tl.stepDue
  let s := acceptEdge s (if step then 0 else adj)
  let s := realign s (s.modTl fun t =>
    let t := { t with
      freqOfs := boundedFreq t ppb, steerAge := 0, steerOfs := t.offset, steerSince := t.tick }
    if step then
      let moved := (t.epochLen : Int) - adj
      if moved > (t.offset : Int) then { t with epochLen := moved.toNat, stepDue := false, steerAdj := 0 }
      else { t with stepAdj := -adj, stepDue := false, steerAdj := 0 }
    else { t with steerAdj := adj })
  finishDone s f

def checkTimelineStatus (s : State) (c : Cmd) : Ruling :=
  ruling (recordChecks s c.t (dget c.d 16 8) 64 0x10 [reserved [(16, 0, 64)] c.d]) (yes .f)

/-- The Timeline snapshot record (02 R86, R88). -/
def timelineRecord (s : State) : List Byte :=
  leBytes 8 s.tl.tick ++ leBytes 4 s.tl.epoch ++ leBytes 4 s.tl.offset ++ leBytes 4 (tlStatus s) ++
  leBytes 4 (unsint 32 s.tl.phaseErr) ++ leBytes 4 (unsint 32 s.tl.freqOfs) ++ leBytes 4 (holdBound s) ++
  leBytes 4 s.tl.epochTicks ++ zeros 28

def startTimelineStatus (s : State) (f : Flight) : State :=
  finishDone (hostWrite s (dget f.desc 16 8) (timelineRecord s)) f

/-- The Timeline's own part of an epoch start (02 R41, R42, R49, R862). Locked heads count on from an aligned boundary
(02 R43, R61). -/
def turnEpoch (s : State) : State :=
  let wrap := decide (s.tl.epoch + 1 ≥ 2 ^ 32)
  let moved := (s.tl.epochLen : Int) - s.tl.epochTicks
  let next := s.tl.tick - s.tl.offset + s.tl.epochLen
  let s := s.modComp fun c => { c with heads := c.heads.map fun h =>
    (h.1, { h.2 with sched := if h.2.sched < next then (h.2.sched + moved).toNat else h.2.sched }) }
  let s := s.modTl fun t =>
    { t with offset := t.offset - t.epochLen, epoch := if wrap then 0 else t.epoch + 1,
             epochLen := ((t.epochTicks : Int) + t.stepAdj).toNat, stepAdj := 0,
             lockedEpochs := if t.state = .locked then min 64 (t.lockedEpochs + 1) else t.lockedEpochs,
             lockedFreqs := if t.state = .locked then (t.freqOfs :: t.lockedFreqs).take 64 else t.lockedFreqs,
             edgeHere := t.edgeNext, edgeNext := false,
             steerAge := if t.src = 4 then min 1025 (t.steerAge + 1) else t.steerAge }
  if wrap then raise s (srcTimeline 3) 0 else s

end Sys2Proof.Machine
end

