-- ==== Sys2Proof/Machine/HeadTime.lean ====
section
/-! DEFINITION. When the lines of a head start (02 R58 to R69, 09 R412, R429, R430), the admission leads of head work
(04 R193, 03 R122), and the charges of heads and layers (04 R179 to R186, 03 R119). -/

namespace Sys2Proof.Machine

def headOf (s : State) (h : Nat) : Head := tget {} s.comp.heads h
def setHead (s : State) (h : Nat) (v : Head) : State := s.modComp fun c => { c with heads := tset {} c.heads h v }
def modHead (s : State) (h : Nat) (f : Head → Head) : State := setHead s h (f (headOf s h))

def slotOf (s : State) (n : Nat) : Slot := tget {} s.comp.slots n
def setSlot (s : State) (n : Nat) (v : Slot) : State := s.modComp fun c => { c with slots := tset {} c.slots n v }
def modSlot (s : State) (n : Nat) (f : Slot → Slot) : State := setSlot s n (f (slotOf s n))

/-- The layer slot that is local layer n of a tenancy. -/
def slotNo (s : State) (t n : Nat) : Option Nat :=
  leastBelow 128 fun i => decide ((slotOf s i).owner = t) && decide ((slotOf s i).loc = n)

def stagerOf (s : State) (h : Nat) : Stager := tget {} s.sr.stagers h
def setStager (s : State) (h : Nat) (v : Stager) : State :=
  s.modSr fun r => { r with stagers := tset {} r.stagers h v }

/-- The layer slots bound to a head. -/
def boundTo (s : State) (h : Nat) : List Nat :=
  (List.range 128).filter fun i => decide ((slotOf s i).owner ≠ 0x1F) && decide ((slotOf s i).head = h)

/-- FRAME_TICKS of a locked head (02 R58). -/
def frameTicks (s : State) (c : HeadCfg) : Nat := s.tl.epochTicks * c.mul / c.div

/-- The epoch-linear distance at which the base frame of a locked head starts (02 R61). -/
def baseStart (s : State) (c : HeadCfg) : Int :=
  sint 32 (c.baseEpoch + 2 ^ 32 - s.tl.epoch) * s.tl.epochTicks + c.phase

/-- k of R429 after n further frames. -/
def earlyAfter (k room : Nat) : Nat → Nat
  | 0 => k
  | n + 1 => let k' := earlyAfter k room n; k' - min k' room

/-- The start, or the forecast of the start, of line l of the frame n frames after the current one
(02 R61, R66; 09 R430). -/
def lineTick (s : State) (h n l : Nat) : Int :=
  let hd := headOf s h
  match hd.cfg with
  | none => 0
  | some c =>
    if c.tracked then (hd.l0 : Int) + (((n * c.vTotal + l) * c.phase / 65536 : Nat) : Int)
    else
      let ft := frameTicks s c
      let k := earlyAfter hd.early (c.vtMax - c.vTotal) n
      linearTick s (linearOf s hd.sched + ((n * ft : Nat) : Int) + (((l : Int) - k) * ft).fdiv c.vTotal)

/-- The slot of an aborted frame at which the next frame may start: the first after its line V_TOTAL - 1 (09 R427, R428). -/
def resumeSlot (hd : Head) (c : HeadCfg) : Nat :=
  if hd.slot = .wait || hd.slot = .recovery then hd.slots
  else if hd.line < c.vActive then hd.slots + (c.vTotal - c.vActive) else hd.slots + (c.vTotal - 1 - hd.line)

/-- When the stager expects line l of the frame n frames ahead: that of a frame behind an aborted one from its earliest start
on (09 R428; log entry 147). -/
def stagedTick (s : State) (h n l : Nat) : Int :=
  let hd := headOf s h
  match hd.cfg with
  | some c => if hd.aborting && n = 1 then lineTick s h 0 (resumeSlot hd c + l) else lineTick s h n l
  | none => 0

/-- The first frame of a configuration whose line 0 lies at or after a tick: its start and its number (09 R445, R446). -/
def firstStart (s : State) (c : HeadCfg) (t : Nat) : Nat × Nat :=
  if c.tracked then (t, c.baseFrame)
  else
    let b := baseStart s c
    let n := -((b - linearOf s t).fdiv (frameTicks s c))
    ((linearTick s (b + n * frameTicks s c)).toNat, unsint 32 (c.baseFrame + n))

/-- The line at which a head takes changes: its latch line, or line 0 for a push (09 R415, R417). -/
def latchOf (c : HeadCfg) : Nat := if c.kind = .video then c.latchLine else 0

/-- The first frame or push that shows what is latched now. -/
def shownFrom (hd : Head) : Nat :=
  if (hd.cfg.getD {}).kind = .video then (hd.frame + 1) % 2 ^ 32 else hd.frame

/-- Whether the current frame's latch has gone by. -/
def latchPassed (hd : Head) (c : HeadCfg) : Bool :=
  decide (hd.slot = .wait) || decide (hd.slot = .recovery) || decide (hd.line ≥ latchOf c)

/-- Nominal length of a frame in ticks, at least 1. -/
def nominalFrame (s : State) (c : HeadCfg) : Nat := max 1 (shortestFrame s c)

/-- The first latch of a head at or after tick t, as a number of frames after the current one. -/
def latchAfter (s : State) (h t : Nat) : Nat :=
  let hd := headOf s h
  match hd.cfg with
  | none => 0
  | some c =>
    let n0 := if latchPassed hd c then 1 else 0
    let first := lineTick s h n0 (latchOf c)
    let skip := (((t : Int) - first).toNat / nominalFrame s c) - 1
    let cand := (List.range 5).find? fun i => decide (lineTick s h (n0 + skip + i) (latchOf c) ≥ (t : Int))
    n0 + skip + cand.getD 4

/-- The admission lead of head work: 800,000 ticks, or LEAD + 40,000 when that is larger; the larger of an old and a
new LEAD while a STOCKROOM_STAGER is pending (04 R193, 03 R122, R150). -/
def headLead (s : State) (h : Nat) : Nat :=
  let new := (s.flights.filter fun f => f.op == 0xD8 && accepted f && dbits f.desc 16 0 4 == h).foldl
    (fun m f => max m (dbits f.desc 20 0 21)) 0
  max 800000 (max (stagerOf s h).lead new + 40000)

/-- How many frames frame F lies after the current one, none when it lies in the past (02 R63). -/
def framesAhead (s : State) (h f : Nat) : Option Nat :=
  let hd := headOf s h
  let n := (f + 2 ^ 32 - hd.frame) % 2 ^ 32
  match hd.cfg with
  | none => none
  | some c => if n ≥ 2 ^ 31 || (n = 0 && latchPassed hd c) then none else some n

/-- The frame number n frames after the current one. -/
def frameNo (s : State) (h n : Nat) : Nat := ((headOf s h).frame + n) % 2 ^ 32

/-- The latch a command asks for: a frame ahead and its instant; EARLIEST and C3 take the first one at or after
a_k plus the admission lead (04 R194, 08 R385, R386). -/
def requestedLatch (s : State) (h a : Nat) (earliest : Bool) (frame : Nat) : Option (Nat × Nat) :=
  let l := match (headOf s h).cfg with | some c => latchOf c | none => 0
  if earliest then
    let n := latchAfter s h (a + headLead s h)
    some (n, (lineTick s h n l).toNat)
  else (framesAhead s h frame).map fun n => (n, (lineTick s h n l).toNat)

/-- LATE, with the earliest instant that would have been promised (04 R192, R194, 06 R280). -/
def lateFor (s : State) (h a : Nat) : Verdict :=
  { status := 11, reason := 1, inst := (requestedLatch s h a true 0).map (·.2) }

/-- The fence check of a requested latch (06 R278): one that has passed lies before every promise outstanding. -/
def latchFence (s : State) (h : Nat) (c : Cmd) (want : Option (Nat × Nat)) : Option Verdict :=
  if (headOf s h).state = .disabled then none else fenceCheck s c (some ((want.map (·.2)).getD 0))

/-- The lead check of a requested latch (04 R192, 02 R43). -/
def leadCheck (s : State) (h a : Nat) (want : Option (Nat × Nat)) : Option Verdict :=
  match want with
  | some (_, t) => failIf (t < a + headLead s h) (lateFor s h a)
  | none => some (lateFor s h a)

/-! ### Formats (08 R345) -/

/-- Mean stored bits per pixel. -/
def meanBpp (format : Nat) : Nat :=
  if format = 1 || format = 2 || format = 4 || format = 5 then 32
  else if format = 3 then 24 else if format = 6 then 64
  else if format = 0x10 then 12 else if format = 0x11 then 24 else if format = 0x12 then 16
  else if format = 0x13 then 32
  else if format = 0x20 then 1 else if format = 0x21 then 2 else if format = 0x22 then 4
  else if format = 0x23 then 8 else 0

def isSolid (format : Nat) : Bool := format == 0x30
def isYcc (format : Nat) : Bool := format == 0x10 || format == 0x11 || format == 0x12 || format == 0x13
def is420 (format : Nat) : Bool := format == 0x10 || format == 0x11
def isIndexed (format : Nat) : Bool := decide (0x20 ≤ format) && decide (format ≤ 0x23)
def twoPlanes (format : Nat) : Bool := format == 0x10 || format == 0x11 || format == 0x13
def validFormat (format : Nat) : Bool :=
  (decide (1 ≤ format) && decide (format ≤ 6)) || isYcc format || isIndexed format || isSolid format
def hasAlpha (format : Nat) : Bool := format == 1 || format == 4 || format == 6 || isIndexed format

/-- Bits per pixel of each plane's own lines (08 R349). -/
def planeBpp (format : Nat) : Nat × Nat :=
  if format = 0x10 then (8, 8) else if format = 0x11 then (16, 16) else if format = 0x13 then (16, 16)
  else (meanBpp format, 0)

/-- Stored bytes of one line of a plane: ceil((SRC_X + SRC_W) b / 8). -/
def planeLine (st : LayerState) (b : Nat) : Nat := ceilDiv ((st.srcX + st.srcW) * b) 8

/-! ### Charges (04 R180 to R186, 03 R119) -/

/-- A per-frame charge made per epoch (04 R181). -/
def perEpoch (s : State) (c : HeadCfg) (x : Nat) : Nat :=
  if c.tracked then x * ceilDiv (s.tl.epochTicks * 65536) (c.phase * c.vTotal) else ceilDiv (x * c.div) c.mul

def roundup64 (x : Nat) : Nat := (x + 63) / 64 * 64

/-- Bytes of one source line in staging (03 R119). -/
def lineBytes (st : LayerState) : Nat :=
  if st.ltc then roundup64 (ceilDiv (st.srcW * meanBpp st.format * 65) 512)
  else roundup64 (ceilDiv (st.srcW * meanBpp st.format) 8)

/-- Shelves of a staging ring (03 R119). -/
def ringShelves (s : State) (c : HeadCfg) (lead : Nat) (st : LayerState) : Nat :=
  if isSolid st.format || !st.enable then 0 else
  let lines := if c.tracked then ceilDiv (lead * 65536) c.phase else ceilDiv (lead * c.vTotal) (frameTicks s c)
  let src := ceilDiv (lines * st.srcH) st.dstH + (if st.srcH = st.dstH then 2 else 8)
  ceilDiv (src * lineBytes st) 262144

/-- A layer's source bytes per epoch, B. -/
def sourceBytes (s : State) (c : HeadCfg) (st : LayerState) : Nat := perEpoch s c (st.srcH * lineBytes st)

/-- Compose charge of a layer per epoch (04 R180). -/
def composeCharge (s : State) (c : HeadCfg) (st : LayerState) : Nat :=
  if isSolid st.format || !st.enable then 0 else perEpoch s c (st.srcW * st.srcH)

/-- Fetch charge (04 R185). -/
def fetchCharge (s : State) (c : HeadCfg) (st : LayerState) : Nat :=
  if isSolid st.format || !st.enable then 0 else ceilDiv (sourceBytes s c st * c.vTotal) c.vActive

/-- Staging charge (04 R183). -/
def stagingCharge (s : State) (c : HeadCfg) (lead : Nat) (st : LayerState) : Nat :=
  if isSolid st.format || !st.enable then 0
  else ceilDiv (sourceBytes s c st * c.vTotal * lead) (c.vActive * (lead - 80712))

/-- A head's own compose charge per epoch, to system (04 R180). -/
def headCharge (s : State) (c : HeadCfg) : Nat := perEpoch s c (c.hActive * c.vActive)

/-- Kinds of object a charge belongs to. -/
def kLayer : Nat := 1
def kAudio : Nat := 2
def kRegion : Nat := 3
def kMoved : Nat := 4

/-- The charges of a layer slot on a head from an epoch on. -/
def layerCharges (s : State) (c : HeadCfg) (lead t slot : Nat) (st : LayerState) (e : Nat) : List Charge :=
  [chargeFrom t 0x02 c.pipe (composeCharge s c st) (e) kLayer (slot),
   chargeFrom t 0x03 c.pipe (fetchCharge s c st) (e) kLayer (slot),
   chargeFrom t 0x04 0 (stagingCharge s c lead st) (e) kLayer (slot),
   chargeFrom t 0x05 0 (ringShelves s c lead st) (e) kLayer (slot)].filter fun ch => decide (ch.amount ≠ 0)

/-- The grant of a per-epoch resource under given grants and wheels (04 R179, R184, R185, R189, R190). -/
def grantOf (s : State) (g : Grants) (ws : List (List Nat)) (t res idx : Nat) : Nat :=
  let r := rMin s.tl.epochTicks
  if res = 0x02 then (g.compose.drop idx).headD 0
  else if res = 0x03 then entriesOf ws 2 t * r * 4096
  else if res = 0x04 then g.staging * r * 9216
  else if res = 0x05 then g.shelves.length
  else if res = 0x0B then g.mixerSlots
  else if res = 0x0C then (if idx = 0 then g.shadowRegions else g.shadowPixels)
  else 0

/-- The present grants and tables, and those of a pending load as well (05 R223). -/
def grantSets (s : State) (t : Nat) : List (Grants × List (List Nat)) :=
  ((tenOf s t).grants, s.wheels.active) :: s.loads.map fun l =>
    (((l.records.find? fun r => r.1 == t).map (·.2)).getD (tenOf s t).grants, l.wheels.getD s.wheels.active)

/-- Shelves that hold recorded structures of a tenancy, which count beside its rings (03 R118). -/
def placedShelves (s : State) (t : Nat) : Nat :=
  ((List.range 1024).filter fun i => (s.sr.placed.any fun p => p.owner == t && decide (p.len ≠ 0) &&
    decide (p.addr / 2 ^ 18 ≤ i) && decide (i ≤ (p.addr + p.len - 1) / 2 ^ 18))).length

/-- Whether a charge fits beside what is committed in every epoch from e on (04 R173). -/
def fits (s : State) (t res idx e amount : Nat) : Bool :=
  let held := if res = 0x05 then placedShelves s t else 0
  (grantSets s t).all fun g => decide (peak s t res idx e + held + amount ≤ grantOf s g.1 g.2 t res idx)

/-- What INDEX names in a refusal: reason 0x0C has none, its regions and pixels apart (04 R177). -/
def budgetIndex (res idx : Nat) : Nat := if res = 0x0C then 0 else idx

/-- The budget checks of new standing charges from epoch e on, in the order of R177. An amount of zero asks for
nothing. -/
def budgetChecks (s : State) (t e : Nat) (cs : List (Nat × Nat × Nat)) : List (Option Verdict) :=
  cs.map fun c => failIf (decide (c.2.2 ≠ 0) && !fits s t c.1 c.2.1 e c.2.2) (budget c.1 (budgetIndex c.1 c.2.1))

/-- The same where the new charges already stand among the state's (04 R173). -/
def placedChecks (s : State) (t e : Nat) (cs : List (Nat × Nat × Nat)) : List (Option Verdict) :=
  cs.map fun c => failIf (decide (c.2.2 ≠ 0) && !fits s t c.1 c.2.1 e 0) (budget c.1 (budgetIndex c.1 c.2.1))

/-- The epoch, counted without wrap from the current one's number, in which a tick lies. -/
def epochOfTick (s : State) (t : Nat) : Nat := s.tl.epoch + epochsAhead s t

end Sys2Proof.Machine
end

