-- ==== Sys2Proof/Machine/XferOps.lean ====
section
/-! DEFINITION. The DMA channels and the transfers they hold, and the order in which a tenancy's transfers are served
(16 R674 to R677, 04 R188). -/

namespace Sys2Proof.Machine

def chanOf (s : State) (k : Nat) : DmaChan := tget {} s.dma.chans k
def setChan (s : State) (k : Nat) (v : DmaChan) : State := s.modDma fun x => { x with chans := tset {} x.chans k v }
def modChan (s : State) (k : Nat) (f : DmaChan → DmaChan) : State := setChan s k (f (chanOf s k))

/-- The channel that is local channel n of a tenancy. -/
def chanNo (s : State) (t n : Nat) : Option Nat :=
  leastBelow 64 fun k => decide ((chanOf s k).owner = t) && decide ((chanOf s k).loc = n)

def isXfer (f : Flight) : Bool := decide (0xA1 ≤ f.op) && decide (f.op ≤ 0xA4) && accepted f && !f.aux.isEmpty
def xferChan (f : Flight) : Nat := f.aux.headD 0
def xferMoved (f : Flight) : Nat := (f.aux.drop 1).headD 0

/-- The unfinished transfers of a channel. -/
def xfersOf (s : State) (k : Nat) : List Flight := s.flights.filter fun f => isXfer f && xferChan f == k

/-- A transfer the engines may still move: accepted, and not stopped by a DMA_ABORT (16 R690). -/
def moving (s : State) (f : Flight) : Bool :=
  isXfer f && decide (f.phase = .unit) && !(chanOf s (xferChan f)).halted &&
    !(s.flights.any fun g => g.op == 0xA6 && accepted g && (g.aux.drop 2).contains f.id)

/-- The deadline a transfer is served by: a promise that stands (16 R688). -/
def servedBy (f : Flight) : Option Nat := if f.withdrawn then none else f.promised

/-- Whether a transfer is served before another of its tenancy (04 R188, 16 R677): earlier deadline first, C3 transfers
last, equals in admission order. -/
def servedFirst (a b : Flight) : Bool :=
  match servedBy a, servedBy b with
  | some x, some y => decide (x < y) || (decide (x = y) && decide (a.id < b.id))
  | some _, none => true
  | none, some _ => false
  | none, none => decide (a.id < b.id)

/-- Whether an admitted transfer of a tenancy is pending, which its grove traffic and its C3 transfers give way to (04 R188,
11 R492). -/
def admittedPending (s : State) (t : Nat) : Bool :=
  s.flights.any fun f => decide (f.src.fn = t) && (servedBy f).isSome && moving s f

/-! ### The payload (16 R678 to R681) -/

/-- Spaces of a transfer. -/
inductive Space where
  | host | bulk | stockroom | bad
  deriving DecidableEq, Repr

def spaceOf (n : Nat) : Space := if n = 0 then .host else if n = 1 then .bulk else if n = 2 then .stockroom else .bad
def srcSpace (d : Descriptor) : Space := spaceOf (dbits d 17 0 2)
def dstSpace (d : Descriptor) : Space := spaceOf (dbits d 17 2 2)
def isFill (d : Descriptor) : Bool := opcodeOf d == 0xA2
def isCompare (d : Descriptor) : Bool := opcodeOf d == 0xA3
def is2d (d : Descriptor) : Bool := opcodeOf d == 0xA4
def xferRows (d : Descriptor) : Nat := if is2d d then dget d 52 4 else 1
def xferLen (d : Descriptor) : Nat := dbits d 44 0 36
def srcStride (d : Descriptor) : Nat := if is2d d then dget d 56 4 else 0
def dstStride (d : Descriptor) : Nat := if is2d d then dget d 60 4 else 0
def xferSize (d : Descriptor) : Nat := xferLen d * xferRows d
def srcAddr (d : Descriptor) : Nat := dget d 28 8
def dstAddr (d : Descriptor) : Nat := dget d 36 8
/-- Bytes from the first to the last byte of a range (16 R681). -/
def spanOf (d : Descriptor) (stride : Nat) : Nat := stride * (xferRows d - 1) + xferLen d

/-- The tenancy whose bulk memory a transfer addresses (16 R679). -/
def viewOf (t : Nat) (d : Descriptor) : Nat := if dget d 18 1 = 0xFF then t else dget d 18 1

/-! ### Admission (16 R684, 04 R187) -/

/-- The charges of a transfer of n bytes: turns on the DRAM scheduler, DMA read and DMA write wheels. -/
def xferCharges (d : Descriptor) (n : Nat) : Nat × Nat × Nat :=
  let e := ceilDiv n 1536
  let bulk := (if srcSpace d = .bulk && !isFill d then 1 else 0) + (if dstSpace d = .bulk then 1 else 0)
  let rd := if isFill d then false
    else isCompare d || decide (srcSpace d = .host) || decide (dstSpace d ≠ .host)
  let wr := if isFill d then true
    else if isCompare d then false else decide (dstSpace d = .host) || decide (srcSpace d ≠ .host)
  (bulk * ceilDiv n 9216, if rd then e else 0, if wr then e else 0)

def chargeOn (wheel : Nat) (c : Nat × Nat × Nat) : Nat := if wheel = 7 then c.1 else if wheel = 8 then c.2.1 else c.2.2

/-- The turns of a wheel a transfer has been served. -/
def turnsServed (f : Flight) (wheel : Nat) : Nat := if wheel = 7 then f.turns7 else if wheel = 8 then f.turns8 else f.turns9

/-- The turns of a wheel a transfer still lacks: neither served to it, nor those of bytes it is known to have moved. -/
def turnsLeft (f : Flight) (wheel : Nat) : Nat :=
  min (chargeOn wheel (xferCharges f.desc (xferSize f.desc)) - turnsServed f wheel)
    (chargeOn wheel (xferCharges f.desc (xferSize f.desc - xferMoved f)))

/-- The most bytes of its payload a transfer can have moved in the turns it has been served (04 R186, R187). -/
def bytesServed (f : Flight) : Nat :=
  let c := xferCharges f.desc (xferSize f.desc)
  let sides := (if srcSpace f.desc = .bulk && !isFill f.desc then 1 else 0) + (if dstSpace f.desc = .bulk then 1 else 0)
  let n := xferSize f.desc
  let n := if c.1 = 0 then n else min n (9216 * (f.turns7 / sides))
  let n := if c.2.1 = 0 then n else min n (1536 * f.turns8)
  if c.2.2 = 0 then n else min n (1536 * f.turns9)

/-- The demand of transfers, each a deadline and its turns, against the turns n entries of a wheel give from an instant on
(04 R187). -/
def demandFits (n start : Nat) (l : List (Nat × Nat)) : Bool :=
  ((sortBy l fun x y => decide (x.1 ≤ y.1)).foldl (fun (acc : Nat × Bool) x =>
    let dem := acc.1 + x.2
    (dem, acc.2 && decide ((dem : Int) ≤ n * (((x.1 : Int) - start) * 11997 / 131072000)))) (0, true)).2

/-- The transfers of a tenancy whose charges stand on a wheel (04 R175): each deadline with the turns it still lacks. -/
def demands (s : State) (t wheel : Nat) : List (Nat × Nat) :=
  (s.flights.filter fun f => isXfer f && decide (f.src.fn = t) && !f.released).filterMap fun f =>
    f.promised.map fun p => (p, turnsLeft f wheel)

/-- The entries a tenancy has on a wheel: under the boot partition it has no per-epoch grants (05 R200). -/
def grantedEntries (s : State) (ws : List (List Nat)) (wheel t : Nat) : Nat :=
  if s.wheels.boot then 0 else entriesOf ws wheel t

/-- Whether new tables leave a tenancy's committed transfers their turns (04 R176): a wheel on which it keeps its entries
does; on another the turns still due are weighed from now on (log entry 131). -/
def wheelsFit (s : State) (t : Nat) (ws : List (List Nat)) : Bool :=
  [7, 8, 9].all fun w =>
    decide (entriesOf s.wheels.active w t ≤ entriesOf ws w t) || demandFits (entriesOf ws w t) (now s) (demands s t w)

end Sys2Proof.Machine
end

