-- ==== Sys2Proof/Machine/StockroomOps.lean ====
section
/-! DEFINITION. The Stockroom (03): ownership and access, reading and writing with ECC and poison, zeroising, the
scrubber's beat, and the checks and effects of STOCKROOM_STAGER and STOCKROOM_QUERY. -/

namespace Sys2Proof.Machine

/-- The owner of a shelf: 0x1D secure, 0x1E system, 0x1F free (03 R94, R95). -/
def shelfOwner (s : State) (n : Nat) : Nat :=
  if n < max 16 s.sr.wm then 0x1D
  else if n ≥ 720 then 0x1E
  else let v := tget 0 s.sr.owner n; if v = 0 then 0x1F else v - 1

/-- The entry of a shelf is written; the fixed bays ignore it (03 SR_SHELF_OWNER). -/
def setShelfOwner (s : State) (n v : Nat) : State :=
  if n < 16 || n ≥ 720 || (decide (0x11 ≤ v) && decide (v ≤ 0x1C)) then s
  else s.modSr fun r => { r with owner := tset 0 r.owner n (if v = 0x1F then 0 else v + 1) }

/-- Whether a request of an owner may touch a shelf (03 R103, R107). -/
def mayTouch (s : State) (req shelf : Nat) : Bool :=
  let o := shelfOwner s shelf
  if shelf ≥ 768 then false
  else if req ≤ 16 then decide (o = req) else if req = 0x1E then decide (o = 0x1E) || decide (o ≤ 16)
  else decide (o ≠ 0x1F)

/-- The owner a request counts as: ports 27 and 31 are always owned by secure (03 R101), the other ports of group 7 by
system (03 R99), and no other port serves secure. -/
def portOwner (r : PortRequest) : Nat :=
  if r.port = 27 || r.port = 31 then 0x1D
  else if r.port ≥ 28 || decide (16 < r.owner) then 0x1E else r.owner

/-- The tenancy of the job that runs on a grove. -/
def groveTenancy (s : State) (g : Nat) : Option Nat :=
  let v : Grove := tget {} s.gpu.groves g
  if v.job.isSome then some (tget {} s.gpu.contexts v.ctx : Context).owner else none

/-- A grove's ports move data for the tenancy of its running job alone (11 R491). -/
def groveMay (s : State) (port owner : Nat) : Bool :=
  !(decide (16 ≤ port) && decide (port < 24)) || decide (groveTenancy s (port % 4) = some owner)

/-- Whether the turn in progress has begun in this tick (02 R226): a request that arrives after its turn's first cycle waits
for its owner's next turn. The tick counts as the first cycle (log entry 127). -/
def turnBegins (s : State) : Bool := decide (s.wheels.turnAt = now s)

/-- The owner of a port in the turn in progress (03 R99, R101): secure for ports 27 and 31, system for the rest of group 7; in
a spare turn that serves no tenancy, system, which is served nothing in it (02 R70). -/
def portHolder (s : State) (port : Nat) : Nat :=
  if port = 27 || port = 31 then 0x1D else if port / 4 = 7 then 0x1E
  else let o := s.wheels.served.getD (port / 4) 0x1F; if o = 0x1F then 0x1E else o

/-- Whether the turn that begins in this tick serves a request (02 R27, R70, R226; 03 R99, R101, R102): every turn of group 7
is system's, and port 27 moves data in system turns of its group alone. -/
def turnServes (s : State) (r : PortRequest) : Bool :=
  let o := s.wheels.served.getD (r.port / 4) 0x1F
  turnBegins s && (decide (r.port / 4 = 7) ||
    (groveMay s r.port (portOwner r) && decide (o ≠ 0x1F) && decide (portHolder s r.port = portOwner r) &&
      (decide (r.port ≠ 27) || decide (o = 0x1E))))

/-- The shelves an address range touches. -/
def shelvesOf (addr len : Nat) : List Nat :=
  if len = 0 then [] else (List.range ((addr + len - 1) / 2 ^ 18 + 1 - addr / 2 ^ 18)).map fun i => addr / 2 ^ 18 + i

/-- Whether a port performs a request (03 R103). Port 30 is the zeroiser: writes of zero, on every shelf. -/
def portPermits (s : State) (r : PortRequest) (len : Nat) : Bool :=
  if r.port = 30 then match r.write with | some bs => bs.all (fun b => b == 0) && !r.poison | none => false
  else (shelvesOf r.addr len).all fun n => mayTouch s (portOwner r) n

/-- How the word that holds an address reads (03 R131 to R135). -/
def srWord (s : State) (a : Nat) : WordFault := tget .sound s.sr.words (a / 8)
def setSrWord (s : State) (a : Nat) (w : WordFault) : State :=
  s.modSr fun r => { r with words := tset .sound r.words (a / 8) w }

/-! ### The code (03 R128 to R130) -/

/-- The 8-bit columns of a weight. -/
def columns (w : Nat) : List Nat := (List.range 256).filter fun c => popCount 8 c = w

/-- The columns of the check matrix: those of the 64 data bits and of the 8 check bits have odd weight, those of the 25
address bits even weight (03 R129). The spec gives no more: which columns is the model's choice (log entry 128). -/
def dataColumns : List Nat := columns 3 ++ (columns 5).take 8
def checkColumns : List Nat := columns 1
def addrColumns : List Nat := (columns 2).take 25

/-- The sum of the columns a mask selects. -/
def sumColumns (cols : List Nat) (mask : Nat) : Nat :=
  cols.zipIdx.foldl (fun n c => if mask.testBit c.2 then n ^^^ c.1 else n) 0

/-- The check bits of a word with its data, at its physical address (03 R128). -/
def checkBits (data a : Nat) : Nat := sumColumns dataColumns data ^^^ sumColumns addrColumns (a / 8 % 2 ^ 25)

/-- The syndrome of wrong bits. -/
def syndrome (data check addr : Nat) : Nat :=
  sumColumns dataColumns data ^^^ sumColumns checkColumns check ^^^ sumColumns addrColumns addr

/-- What the code reports (03 R129 to R132): an odd-weight column of the data or of the check bits as correctable, zero as
sound, any other syndrome as uncorrectable. -/
def outcome : WordFault → WordFault
  | .wrong d c a =>
    let y := syndrome d c a
    if y = 0 then .sound else if (dataColumns ++ checkColumns).contains y then .correctable else .uncorrectable
  | w => w

/-- More wrong bits than the code is sure to see, which it takes for a sound or a corrected word (03 R130): the data read is
a free value. -/
def beyondCode : WordFault → Bool
  | .wrong d c a => decide (popCount 64 d + popCount 8 c + popCount 25 a ≥ 2) && outcome (.wrong d c a) != .uncorrectable
  | _ => false

/-- What of a fault stays in the word read: wrong address bits are a fault of the reading alone. -/
def storedFault : WordFault → WordFault
  | .wrong d c a => if a = 0 then outcome (.wrong d c a) else .sound
  | w => w

/-- A further fault in a stored word. A poisoned word still decodes as poisoned with one wrong bit (03 R133); that it does
with more wrong bits, and counts nothing then, is the model's choice (log entry 129). -/
def joinFault (old new : WordFault) : WordFault :=
  match old, storedFault new with
  | .sound, w => w
  | w, .sound => w
  | .poisoned, _ => .poisoned
  | _, .poisoned => .poisoned
  | _, _ => .uncorrectable

/-- Whether a word reads as poisoned. -/
def badWord (w : WordFault) : Bool :=
  match outcome w with
  | .uncorrectable => true | .poisoned => true | _ => false

/-- A correctable error is counted (03 R131). -/
def countCe (s : State) : State :=
  raise (s.modSr fun r => { r with ceCount := min 0xFFFFFFFF (r.ceCount + 1) }) (srcStockroom 0) 0

/-- An uncorrectable error is counted, its address latched and SR_UE fired (03 R132). -/
def countUe (s : State) (a : Nat) : State :=
  assert (raise (s.modSr fun r => { r with ueCount := min 0xFFFFFFFF (r.ueCount + 1), ueAddr := a / 8 * 8 })
    (srcStockroom 1) 0) 16 0

/-- What a reading of the word at an address counts. One that decodes a poisoned word counts and fires nothing: the spec
names no counter for it (log entry 129). -/
def noteFault (s : State) (a : Nat) (w : WordFault) : State :=
  match outcome w with
  | .correctable => countCe s
  | .uncorrectable => countUe s a
  | _ => s

def noteWord (s : State) (a : Nat) : State := noteFault s a (srWord s a)

/-- The second copy of a record of bay 46, in the shelves of the bay's other half (03 R137; log entry 15). -/
def twin (a : Nat) : Nat := if a / 2 ^ 21 % 2 = 1 then a - 2 ^ 21 else a + 2 ^ 21
def inRecords (a : Nat) : Bool := decide (736 ≤ a / 2 ^ 18) && decide (a / 2 ^ 18 ≤ 751)

/-- The words a range touches, by the address of each word's first byte. -/
def wordsOf (addr len : Nat) : List Nat :=
  if len = 0 then [] else (List.range ((addr + len - 1) / 8 + 1 - addr / 8)).map fun i => (addr / 8 + i) * 8

/-- The other words of the 64-byte beats a range touches, which a port reads with it (03 R93). -/
def besideWords (addr len : Nat) : List Nat :=
  if len = 0 then [] else
  (wordsOf (addr / 64 * 64) ((addr + len - 1) / 64 * 64 + 64 - addr / 64 * 64)).filter fun a =>
    decide (a + 8 ≤ addr) || decide (addr + len ≤ a)

/-- A poisoned word of a record, read and counted in both copies, is rewritten from its sound copy (03 R131, R132, R137). -/
def mendRecord (s : State) (a : Nat) : State :=
  if !badWord (srWord s (twin a)) then
    setSrWord (s.modSr fun r => { r with mem := Mem.wrs r.mem a (Mem.rds r.mem (twin a) 8) }) a .sound
  else s

/-- The data of one word as a read returns it: the data of a poisoned word, and of one whose fault the code does not see, is
a free value (log entry 3). -/
def readFault (s : State) (a : Nat) (w : WordFault) : List Byte × Bool × State :=
  let s := noteFault s a w
  if badWord w then
    let (bs, s) := freshBytes s 8
    (bs, true, s)
  else if beyondCode w then
    let (bs, s) := freshBytes s 8
    (bs, false, s)
  else (Mem.rds s.sr.mem a 8, false, s)

/-- One word read at a port. Port 28 answers a poisoned record word from the other copy (03 R137). -/
def readWord (port : Nat) (s : State) (a : Nat) (w : WordFault) : List Byte × Bool × State :=
  if port = 28 && inRecords a && badWord w then
    let s := mendRecord (noteWord (noteFault s a w) (twin a)) a
    if badWord (srWord s a) then
      let (bs, s) := freshBytes s 8
      (bs, true, s)
    else (Mem.rds s.sr.mem a 8, false, s)
  else readFault s a w

/-- A port read (03 R93, R131, R132), which finds `found` in its first word. -/
def portRead (s : State) (r : PortRequest) : State :=
  let first := r.addr / 8 * 8
  let s := setSrWord s r.addr (joinFault (srWord s r.addr) r.found)
  let seen := fun (s : State) (a : Nat) => if a = first && storedFault r.found = .sound && srWord s a = .sound then r.found else srWord s a
  let (bs, bad, s) := (wordsOf r.addr r.len).foldl (fun (acc : List Byte × List Nat × State) a =>
    let (w, p, s) := readWord r.port acc.2.2 a (seen acc.2.2 a)
    (acc.1 ++ w, if p then acc.2.1 ++ [acc.1.length / 8] else acc.2.1, s)) (([] : List Byte), ([] : List Nat), s)
  let s := (besideWords r.addr r.len).foldl noteWord s
  let s := s.modSr fun x => { x with
    answer := { port := r.port, bytes := (bs.drop (r.addr % 8)).take r.len, poisoned := bad } }
  if r.port = 27 && !bad.isEmpty then assert s 27 0 else s

/-- What a write does to the fault of one word it touches (03 R134, R135). -/
def writeWord (poison : Bool) (addr len : Nat) (s : State) (a : Nat) : State :=
  if poison then setSrWord s a .poisoned
  else if addr ≤ a && a + 8 ≤ addr + len then setSrWord s a .sound
  else
    let s := noteWord s a
    setSrWord s a (if badWord (srWord s a) then .poisoned else .sound)

/-- Bytes are written at a physical address, and the words they touch keep or lose their faults. -/
def writeBytes (s : State) (poison : Bool) (addr : Nat) (bs : List Byte) : State :=
  let s := (wordsOf addr bs.length).foldl (writeWord poison addr bs.length) s
  s.modSr fun x => { x with mem := Mem.wrs x.mem addr bs }

/-- What the read of a read-modify-write finds in its first word stays with it: an uncorrectable reading, by wrong address
bits too, leaves the word poisoned (03 R129, R134). -/
def foundByWrite (s : State) (r : PortRequest) (n : Nat) : State :=
  let partial' := decide (r.addr % 8 ≠ 0) || decide (n < 8)
  let w := if partial' && outcome r.found = .uncorrectable then .uncorrectable else r.found
  setSrWord s r.addr (joinFault (srWord s r.addr) w)

/-- A port write. One of a record at port 28 is made in both copies (03 R137). -/
def portWrite (s : State) (r : PortRequest) (bs : List Byte) : State :=
  let s := foundByWrite s r bs.length
  let s := writeBytes s r.poison r.addr bs
  if r.port = 28 && inRecords r.addr then writeBytes s r.poison (twin r.addr) bs else s

/-- A port group moves data in this turn (03 R155). -/
def noteMoved (s : State) (group : Nat) : State := s.modSr fun x => { x with moved := setBit x.moved group }

/-- The parts of a range that lie in one unit of 2^k bytes each: address and length. -/
def segments (k addr len : Nat) : List (Nat × Nat) :=
  if len = 0 then [] else
  (List.range ((addr + len - 1) / 2 ^ k + 1 - addr / 2 ^ k)).map fun i =>
    let lo := max addr ((addr / 2 ^ k + i) * 2 ^ k)
    (lo, min (addr + len) ((addr / 2 ^ k + i + 1) * 2 ^ k) - lo)

/-- The words of the 64-byte lines a range touches. -/
def lineWords (a n : Nat) : List Nat :=
  if n = 0 then [] else wordsOf (a / 64 * 64) ((a + n - 1) / 64 * 64 + 64 - a / 64 * 64)

/-- A port of a group reads n bytes at a physical address: its beats' faults are noted and its group has moved data
(03 R93, R131, R132, R155). -/
def noteRead (s : State) (group a n : Nat) : State := (lineWords a n).foldl noteWord (noteMoved s group)

/-- The bytes a tenancy's requests moved are counted (03 R156). -/
def countSrBytes (s : State) (o len : Nat) (write : Bool) : State :=
  if o > 16 then s
  else if write then s.modSr fun x => { x with wrBytes := tmod 0 x.wrBytes o fun n => (n + len) % 2 ^ 64 }
  else s.modSr fun x => { x with rdBytes := tmod 0 x.rdBytes o fun n => (n + len) % 2 ^ 64 }

/-- The bytes of a port request and its group's turn are counted. -/
def countBytes (s : State) (r : PortRequest) (len : Nat) : State :=
  countSrBytes (noteMoved s (r.port / 4)) (portOwner r) len r.write.isSome

/-- SR_ACCESS fires for the owner of a request (03 R104). -/
def srAccessFault (s : State) (o : Nat) : State :=
  assert (raise s (srcStockroom 4) 0) 17 (partyBit (if o ≤ 16 then o else 0x1E))

/-- A refused request: a read returns zero words marked poisoned, a write is discarded, SR_ACCESS fires (03 R104). -/
def portRefuse (s : State) (r : PortRequest) : State :=
  let s := match r.write with
    | some _ => s
    | none => s.modSr fun x => { x with
        answer := { port := r.port, bytes := zeros r.len, poisoned := List.range (wordsOf r.addr r.len).length } }
  srAccessFault s (portOwner r)

def portLen (r : PortRequest) : Nat := match r.write with | some bs => bs.length | none => r.len

/-- A permitted request moves its data; `feed` lets the assay units see a write. -/
def movePort (feed : State → Nat → List Byte → State) (s : State) (r : PortRequest) : State :=
  let s := countBytes s r (portLen r)
  match r.write with
  | some bs => feed (portWrite s r bs) r.addr bs
  | none => portRead s r

/-- A port request (03 R103): one that is permitted waits for a turn of its owner (02 R27). -/
def servePort (feed : State → Nat → List Byte → State) (s : State) (r : PortRequest) : Answer :=
  if r.addr + portLen r > 0xC000000 then .fault .stockroomHole
  else if !portPermits s r (portLen r) then .next (portRefuse s r)
  else if !turnServes s r then .next (s.modSr fun x => { x with waiting := x.waiting ++ [r] })
  else .next (movePort feed s r)

/-- A waiting request is served where the turn that begins is its owner's; its owner's right to the shelf is looked at again. -/
def serveWaiting (feed : State → Nat → List Byte → State) (s : State) (r : PortRequest) : State :=
  if !turnServes s r then s.modSr fun x => { x with waiting := x.waiting ++ [r] }
  else if portPermits s r (portLen r) then movePort feed s r else portRefuse s r

/-- The requests that waited for the turn that begins, in their order. -/
def serveTurn (feed : State → Nat → List Byte → State) (s : State) : State :=
  s.sr.waiting.foldl (serveWaiting feed) (s.modSr fun x => { x with waiting := [] })

/-! ### Zeroising (03 R105 to R107) -/

/-- Every word of a shelf becomes zero with valid check bits. -/
def wipeShelf (s : State) (n : Nat) : State :=
  s.modSr fun r => { r with mem := Mem.wipe r.mem (n * 2 ^ 18) (2 ^ 18), words := twipe r.words (n * 2 ^ 15) (2 ^ 15) }

/-- A shelf leaves its owner and waits for the zeroiser. -/
def zeroiseShelf (s : State) (n next : Nat) : State :=
  let s := if next = 0x1D then s else setShelfOwner s n 0x1F
  s.modSr fun r => { r with zeroise := r.zeroise ++ [{ unit := n, next := next }] }

/-- The zeroiser has written the shelf: it goes to its new owner (03 R105). -/
def shelfDone (s : State) (n : Nat) : State :=
  match s.sr.zeroise.find? fun z => z.unit == n with
  | none => s
  | some z =>
    let s := wipeShelf (noteMoved s 7) n
    let s := s.modSr fun r => { r with zeroise := r.zeroise.eraseP fun z => z.unit == n }
    if z.next = 0x1D then s else setShelfOwner s n z.next

/-! ### The scrubber (03 R138 to R141) -/

/-- Number of beats of the Stockroom. -/
def beats : Nat := 3145728

/-- The words of a beat. -/
def beatWords (a : Nat) : List Nat := (List.range 8).map fun i => a + 8 * i

/-- One word of a scrubbed beat: a correctable error is counted and, where the beat has no uncorrectable one, written
back. -/
def scrubWord (ue : Bool) (s : State) (w : Nat) : State :=
  if srWord s w = .correctable then setSrWord (countCe s) w (if ue then .poisoned else .sound)
  else if ue && decide (srWord s w = .sound) then setSrWord s w .poisoned
  else s

/-- The scrubber's beat of a turn (03 R138 to R141). An uncorrectable beat is counted and fires SR_UE once, with the address
of its first such word (how often UE_COUNT rises is the model's choice, log entry 130), and all its words read as poisoned
until they are rewritten. Free shelves and the shelf the zeroiser is writing are skipped: the turn of a beat of theirs passes
that beat and reads none (DESIGN CHOICE, log entry 146). -/
def scrubBeat (s : State) (found : WordFault) : State :=
  let a := s.sr.scrub * 64
  let sh := a / 2 ^ 18
  let skip := decide (shelfOwner s sh = 0x1F) || decide ((s.sr.zeroise.head?.map (·.unit)) = some sh)
  let s := if skip then s else
    let s := noteMoved (setSrWord s a (joinFault (srWord s a) (if outcome found = .uncorrectable then .uncorrectable else found))) 7
    let bad := (beatWords a).find? fun w => decide (srWord s w = .uncorrectable)
    let s := match bad with | some w => countUe s w | none => s
    (beatWords a).foldl (scrubWord bad.isSome) s
  let last := decide (s.sr.scrub + 1 ≥ beats)
  let s := s.modSr fun r => { r with scrub := if last then 0 else r.scrub + 1 }
  if last then raise s (srcStockroom 2) 0 else s

/-! ### Commands -/

/-- The number a query target names: a tenancy, or 0xFF for the device alone. -/
def checkStockroomQuery (s : State) (c : Cmd) : Ruling :=
  let d := c.d
  let t := dget d 24 1
  ruling
    [lowest [reserved [(16, 0, 64), (24, 0, 8)] d, (decide (dget d 16 8 % 64 ≠ 0), badParam 0x10),
       (decide (t > 16) && decide (t ≠ 0xFF), badParam 0x18)],
     failIf (!inApertures s c.t (dget d 16 8) 128) (bounds 0x10),
     failIf (decide (c.t ≠ 0) && decide (t ≠ c.t)) (notOwner 0x18)]
    (yes .f)

/-- The Stockroom query record (03 R152 to R156). -/
def stockroomRecord (s : State) (guest : Bool) (t : Nat) : List Byte :=
  let own := decide (t ≤ 16)
  let rings := (s.sr.rings.filter fun r => r.owner == t).foldl (fun n r => n + r.shelves.length) 0
  let t0 := fun (n v : Nat) => if guest then zeros n else leBytes n v
  let free := ((List.range 768).filter fun i => decide (shelfOwner s i = 0x1F)).length
  leBytes 2 (if own then (tenOf s t).shelves.length else 0) ++ leBytes 2 rings ++
  leBytes 2 (if own then placedShelves s t else 0) ++ t0 2 free ++
  leBytes 8 (tget 0 s.sr.rdBytes t) ++ leBytes 8 (tget 0 s.sr.wrBytes t) ++ t0 2 s.sr.wm ++ zeros 2 ++
  t0 4 s.sr.ceCount ++ t0 4 s.sr.ueCount ++ t0 4 s.sr.ueAddr ++
  (s.sr.busy.flatMap fun n => t0 4 n) ++ ((List.range 12).flatMap fun h => t0 4 (stagerOf s h).margin) ++ zeros 8

def startStockroomQuery (s : State) (f : Flight) : State :=
  finishDone (hostWrite s (dget f.desc 16 8) (stockroomRecord s (f.src.fn ≠ 0) (dget f.desc 24 1))) f

end Sys2Proof.Machine
end

