-- ==== Sys2Proof/Machine/DramOps.lean ====
section
/-! DEFINITION. Bulk memory (17): plots, ranks and slots, requests with inline ECC, retirement and migration, refresh
and power-down, zeroising of plots (05), and the checks and effects of the MEM commands. -/

namespace Sys2Proof.Machine

def rankOf' (s : State) (n : Nat) : Rank := tget {} s.dram.ranks n
def setRank (s : State) (n : Nat) (v : Rank) : State := s.modDram fun d => { d with ranks := tset {} d.ranks n v }
def modRank (s : State) (n : Nat) (f : Rank → Rank) : State := setRank s n (f (rankOf' s n))

/-- Plots of one rank's payload (17). -/
def plotsPerRank (d : Dram) : Nat := d.gib * 448

/-- PLOTS_INSTALLED (17 R702). -/
def plotsInstalled (d : Dram) : Nat := (d.slots0.length + d.slots1.length) * plotsPerRank d

/-- The owner of a plot: 0x1D secure, 0x1F free (05 R210, 17 R704). -/
def plotOwner (s : State) (p : Nat) : Nat :=
  if p ≥ plotsInstalled s.dram then 0x1F
  else if p < s.dram.wm then 0x1D
  else let v := tget 0 s.dram.owner p; if v = 0 then 0x1F else v - 1

/-- A plot's entry is written (05 R210). -/
def setPlotOwner (s : State) (p v : Nat) : State :=
  if p ≥ plotsInstalled s.dram || p < s.dram.wm || (decide (0x11 ≤ v) && decide (v ≤ 0x1C)) then s
  else s.modDram fun d => { d with owner := tset 0 d.owner p (if v = 0x1F then 0 else v + 1) }

/-- Whether a request's owner tag permits a plot (05 R213, by the rules of 03 R103). -/
def mayTouchPlot (s : State) (req p : Nat) : Bool :=
  let o := plotOwner s p
  if req ≤ 16 then decide (o = req) else if req = 0x1E then decide (o = 0x1E) || decide (o ≤ 16)
  else decide (o ≠ 0x1F)

/-- The row and the slot that hold a physical device address (17 R703). -/
def rowSlot (d : Dram) (a : Nat) : Nat × Nat :=
  let base := d.slots0.length * plotsPerRank d * 2 ^ 21
  if a < base then (0, a / 256 % max 1 d.slots0.length) else (1, (a - base) / 256 % max 1 d.slots1.length)

def slotsOf (d : Dram) (row : Nat) : List Nat := if row = 0 then d.slots0 else d.slots1

/-- The rank that serves an address (17 R703). -/
def rankAt (d : Dram) (a : Nat) : Nat := let (r, k) := rowSlot d a; ((slotsOf d r).drop k).headD 16

/-- The row a rank serves, if it serves one. -/
def rowOf (d : Dram) (n : Nat) : Option Nat :=
  if d.slots0.contains n then some 0 else if d.slots1.contains n then some 1 else none

/-- The owners of the plots of a row, as an AFFECT mask (17 R716). -/
def rowOwners (s : State) (row : Nat) : Nat :=
  let p := plotsPerRank s.dram
  let lo := if row = 0 then 0 else s.dram.slots0.length * p
  let hi := if row = 0 then s.dram.slots0.length * p else plotsInstalled s.dram
  (s.dram.owner.filter fun e => decide (lo ≤ e.1) && decide (e.1 < hi) && decide (e.2 - 1 ≤ 16)).foldl
    (fun m e => setBit m (e.2 - 1)) 0

def spares (s : State) : List Nat := (List.range 16).filter fun n => decide ((rankOf' s n).state = .spare)

/-! ### Retirement and migration (17 R712 to R716) -/

/-- A migration of a rank onto a spare begins (17 R713). -/
def beginMigration (s : State) (n sp : Nat) : State :=
  let s := modRank s n fun r => { r with state := .retiring }
  let s := modRank s sp fun r => { r with state := .filling }
  s.modDram fun d => { d with migration := some { src := n, dst := sp, phase := .firstPause, copied := 0 } }

/-- A retired rank finds a spare, waits, or stays in service (17 R712, R716). -/
def retire (s : State) (n : Nat) : State :=
  let r := rankOf' s n
  if r.state ≠ .inService || r.noSpare || s.dram.waiting.contains n then s
  else if s.dram.migration.isSome then s.modDram fun d => { d with waiting := d.waiting ++ [n] }
  else match (spares s).head? with
    | some sp => beginMigration s n sp
    | none =>
      assert (modRank s n fun r => { r with noSpare := true }) 19
        (rowOwners s ((rowOf s.dram n).getD 0))

/-! ### Words -/

def drWord (s : State) (a : Nat) : WordFault := tget .sound s.dram.words (a / 8)
def setDrWord (s : State) (a : Nat) (w : WordFault) : State :=
  s.modDram fun d => { d with words := tset .sound d.words (a / 8) w }

/-- What reading the word at an address counts and does (17 R707, R708). -/
def noteDrWord (s : State) (a : Nat) : State :=
  let n := rankAt s.dram a
  match drWord s a with
  | .sound => s
  | .poisoned => s
  | .correctable =>
    let s := modRank s n fun r => { r with ce := min 0xFFFF (r.ce + 1) }
    raise (s.modDram fun d => { d with ceCount := min 0xFFFFFFFF (d.ceCount + 1) }) (srcMemory 0) 0
  | .wrong _ _ _ => s
  | .uncorrectable =>
    let s := setDrWord s a .poisoned
    let s := s.modDram fun d => { d with ueCount := min 0xFFFFFFFF (d.ueCount + 1), ueAddr := a / 8 * 8 }
    retire (assert (raise s (srcMemory 1) 0) 18 0) n

/-- One word as a read returns it: a poisoned word's data is a free value (log entry 3). -/
def readDrWord (s : State) (a : Nat) : List Byte × Bool × State :=
  let s := noteDrWord s a
  if badWord (drWord s a) then
    let (bs, s) := freshBytes s 8
    (bs, true, s)
  else (Mem.rds s.dram.mem a 8, false, s)

def writeDrWord (poison : Bool) (addr len : Nat) (s : State) (a : Nat) : State :=
  if poison then setDrWord s a .poisoned
  else if addr ≤ a && a + 8 ≤ addr + len then setDrWord s a .sound
  else
    let s := noteDrWord s a
    setDrWord s a (if badWord (drWord s a) then .poisoned else .sound)

/-- A write of bytes at a physical device address. -/
def writeDram (s : State) (addr : Nat) (bs : List Byte) (poison : Bool) : State :=
  let s := (wordsOf addr bs.length).foldl (writeDrWord poison addr bs.length) s
  s.modDram fun d => { d with mem := Mem.wrs d.mem addr bs }

/-- A read of bytes at a physical device address, the poisoned words counted from the first. -/
def readDram (s : State) (addr len : Nat) : List Byte × List Nat × State :=
  let (bs, bad, s) := (wordsOf addr len).foldl (fun (acc : List Byte × List Nat × State) a =>
    let (w, p, s) := readDrWord acc.2.2 a
    (acc.1 ++ w, if p then acc.2.1 ++ [acc.1.length / 8] else acc.2.1, s)) (([] : List Byte), ([] : List Nat), s)
  ((bs.drop (addr % 8)).take len, bad, s)

/-! ### Requests (17 R721, R722) -/

/-- Latency target of a port (17 R721). -/
def latTarget (s : State) (p : Nat) : Nat := tget 4000 s.dram.latency p

/-- A waiting request's urgency (17 R721). -/
def urgency (s : State) (r : DramRequest) : Nat :=
  let t := latTarget s r.port
  let w := now s - r.arrived
  let u := if w ≥ t then 3 else if 4 * w ≥ 3 * t then 2 else if 2 * w ≥ t then 1 else 0
  min 4 (u + b2n r.passedOver)

/-- The order in which the waiting requests of a turn are issued: higher urgency first, then older first. -/
def byUrgency (s : State) (rs : List DramRequest) : List DramRequest :=
  sortBy rs fun a b => decide (urgency s a > urgency s b) || (decide (urgency s a = urgency s b) && decide (a.arrived ≤ b.arrived))

/-- The ranks' idle time starts again (17 R719, R725). -/
def useRank (s : State) (n : Nat) : State :=
  modRank s n fun r => { r with lastUse := now s, powerDown := false, idle := s.dram.pdIdle }

/-- The plots an address range touches. -/
def plotsOf (addr len : Nat) : List Nat :=
  if len = 0 then [] else (List.range ((addr + len - 1) / 2 ^ 21 + 1 - addr / 2 ^ 21)).map fun i => addr / 2 ^ 21 + i

def requestLen (r : DramRequest) : Nat := match r.write with | some bs => bs.length | none => r.len

/-- A request held by the pause of a migration (17 R714). -/
def heldByPause (s : State) (r : DramRequest) : Bool :=
  match s.dram.migration with
  | some m => decide (m.phase ≠ .copy) && decide (rankAt s.dram r.addr = m.src)
  | none => false

/-- MC_ACCESS fires for the owner of a request (05 R213). -/
def mcAccessFault (s : State) (o : Nat) : State :=
  assert (raise s (srcMemory 6) 0) 22 (partyBit (if o ≤ 16 then o else 0x1E))

/-- A refused request (05 R213). -/
def dramRefuse (s : State) (r : DramRequest) : State :=
  let s := match r.write with
    | some _ => s
    | none => s.modDram fun d => { d with
        answer := { bytes := zeros r.len, poisoned := List.range (wordsOf r.addr r.len).length } }
  mcAccessFault s r.owner

/-- One request served (17 R705 to R709, R722). -/
def dramPerform (s : State) (r : DramRequest) : State :=
  let len := requestLen r
  let s := if now s > r.arrived + latTarget s r.port then
      s.modDram fun d => { d with missed := tmod 0 d.missed r.owner fun n => min 0xFFFFFFFF (n + 1) }
    else s
  let s := useRank s (rankAt s.dram r.addr)
  let s := setDrWord s r.addr (joinFault (drWord s r.addr) (outcome r.found))
  let s := s.modDram fun d => { d with moved := true }
  match r.write with
  | some bs =>
    let s := s.modDram fun d => { d with wrBytes := tmod 0 d.wrBytes r.owner fun n => (n + len) % 2 ^ 64 }
    writeDram s r.addr bs r.poison
  | none =>
    let s := s.modDram fun d => { d with rdBytes := tmod 0 d.rdBytes r.owner fun n => (n + len) % 2 ^ 64 }
    let (bs, bad, s) := readDram s r.addr len
    s.modDram fun d => { d with answer := { bytes := bs, poisoned := bad } }

/-- Whether a freeze keeps a request from a plot (05 R242, R250): no request writes a plot of a FROZEN tenancy, and none
reaches one under import but T0's import itself, which is DMA. -/
def frozenPlot (s : State) (write : Bool) (p : Nat) : Bool :=
  let o := plotOwner s p
  let v := tenOf s o
  decide (o ≤ 16) && decide (v.state = .frozen) && (write || v.imported)

/-- Whether the owner tag, and no freeze, permits a request (05 R213, R242, R250). -/
def dramPermits (s : State) (r : DramRequest) : Bool :=
  (plotsOf r.addr (requestLen r)).all fun p => mayTouchPlot s r.owner p && !frozenPlot s r.write.isSome p

def dramServe (s : State) (r : DramRequest) : State :=
  if !dramPermits s r then dramRefuse s r
  else if heldByPause s r then s.modDram fun d => { d with held := d.held ++ [r] }
  else dramPerform s r

/-- Whether the turn that begins in this tick on the DRAM scheduler wheel serves a request (02 R27, R70, R226; log entry 127):
the Warden's in a system turn; a grove's only for the tenancy of its job, and with no admitted transfer of it pending
(11 R491, R492). -/
def dramTurn (s : State) (r : DramRequest) : Bool :=
  let grove := decide (16 ≤ r.port) && decide (r.port < 24)
  turnBegins s && decide (s.wheels.served.getD 7 0x1F = if r.owner ≤ 16 then r.owner else 0x1E) &&
    (!grove || (groveMay s r.port r.owner && !admittedPending s r.owner))

/-- The requests that the current turn may serve, in the controller's order; the others wait for a turn of their owner. -/
def serveDram (s : State) (rs : List DramRequest) : State :=
  let later := rs.filter fun r => !dramTurn s r
  (byUrgency s (rs.filter (dramTurn s))).foldl dramServe (s.modDram fun d => { d with queued := d.queued ++ later })

/-- A turn begins for the requests that wait. -/
def serveDramTurn (s : State) : State := serveDram (s.modDram fun d => { d with queued := [] }) s.dram.queued

/-- The requests a pause held go on in order (17 R713). -/
def releaseHeld (s : State) : State :=
  let rs := s.dram.held
  rs.foldl dramServe (s.modDram fun d => { d with held := [] })

/-- The words of a rank that migrate, each read once (17 R707, R708): uncorrectable ones go as poison, correctable ones
mended (17 R713, R715). -/
def copyWords (s : State) (n : Nat) : State :=
  let mine := fun (e : Nat × WordFault) => decide (rankAt s.dram (e.1 * 8) = n)
  let s := (s.dram.words.filter mine).foldl (fun s e => noteDrWord s (e.1 * 8)) s
  s.modDram fun d => { d with words := d.words.filter fun e => !(mine e && decide (e.2 = .correctable)) }

/-- The first pause ends, and the copy begins (17 R713). -/
def endFirstPause (s : State) : State :=
  match s.dram.migration with
  | some m => if m.phase ≠ .firstPause then s
      else
      releaseHeld (s.modDram fun d => { d with migration := some { m with phase := .copy } })
  | none => s

/-- The copy ends, and the second pause begins (17 R713). -/
def endCopy (s : State) : State :=
  match s.dram.migration with
  | some m => if m.phase ≠ .copy then s else
      copyWords (s.modDram fun d => { d with
        migration := some { m with phase := .secondPause, copied := plotsPerRank d * 2 ^ 21 } }) m.src
  | none => s

/-- The spare takes the slot (17 R713); commands that asked for this migration complete. -/
def endMigration (s : State) : State :=
  match s.dram.migration with
  | none => s
  | some m =>
    if m.phase ≠ .secondPause then s else
    let swap := fun (l : List Nat) => l.map fun n => if n = m.src then m.dst else n
    let s := s.modDram fun d => { d with migration := none, slots0 := swap d.slots0, slots1 := swap d.slots1 }
    let s := modRank s m.src fun r => { r with state := .retired, powerDown := true }
    let s := modRank s m.dst fun r => { r with state := .inService, lastUse := now s, idle := s.dram.pdIdle }
    let s := raise s (srcMemory 2) 0
    let s := s.flights.foldl (fun s f =>
      if f.op = 0xD4 && decide (f.phase = .unit) && f.aux.head? = some m.src then finishDone s f else s) s
    let s := releaseHeld s
    match s.dram.waiting with
    | [] => s
    | n :: rest => retire (s.modDram fun d => { d with waiting := rest }) n

/-! ### Refresh, power-down and training -/

/-- A reading of MR4 in the terms of R717: 0 base rate, 1 doubled, 2 above. -/
def pollRank (s : State) (n reading : Nat) : State :=
  let r := rankOf' s n
  if r.state = .absent || r.state = .failedTraining then s else
  let lvl := min 2 reading
  let s := setRank s n { r with refresh := lvl }
  if lvl = 1 && r.refresh ≠ 1 then raise s (srcMemory 3) 0
  else if lvl = 2 then assert (raise s (srcMemory 4) 0) 20 (rowOwners s ((rowOf s.dram n).getD (n / 8)))
  else s

def pollMr4 (s : State) (readings : List Nat) : State :=
  ((List.range 16).zip readings).foldl (fun s r => pollRank s r.1 r.2) s

/-- A rank enters power-down when it has been idle for PD_IDLE ticks (17 R719). -/
def powerDownDue (s : State) (n : Nat) : Bool :=
  let r := rankOf' s n
  (decide (r.state = .inService) || decide (r.state = .spare)) && !r.powerDown && decide (r.idle ≠ 0) &&
    decide (now s ≥ r.lastUse + r.idle) && !(s.dram.held.any fun q => decide (rankAt s.dram q.addr = n))

def powerDownRank (s : State) (n : Nat) : State := if powerDownDue s n then modRank s n fun r => { r with powerDown := true } else s

/-- A row's slots out of its ranks (17 R701): none when the row would be narrower than 6. -/
def rowSlots (ranks : Tab Rank) (row : Nat) : List Nat :=
  let l := (List.range 8).map (· + 8 * row) |>.filter fun n => decide ((tget {} ranks n : Rank).state = .inService)
  if l.length < 6 then [] else l

/-- The ranks of a row too narrow to be used are treated as absent (17 R701); one that failed training stays marked so. -/
def dropNarrow (ranks : Tab Rank) (row : Nat) : Tab Rank :=
  if !(rowSlots ranks row).isEmpty then ranks else
  ranks.filter fun e => decide (e.1 / 8 ≠ row) || decide (e.2.state = .failedTraining)

/-- Training ends (17 R723, R701): `present` and `good` are masks of ranks, `named` the spares of the boot image. -/
def endTraining (s : State) (gib present good named : Nat) : State :=
  let ranks := (List.range 16).foldl (fun (t : Tab Rank) n =>
    if !present.testBit n then t
    else tset {} t n { state := if !good.testBit n then .failedTraining else if named.testBit n then .spare else .inService,
                       lastUse := now s, idle := s.dram.pdIdle }) []
  let fail := decide (maskOff present good ≠ 0)
  let s0 := rowSlots ranks 0
  let s1 := if s0.isEmpty then [] else rowSlots ranks 1
  let ranks := dropNarrow (dropNarrow ranks 0) 1
  let s := s.modDram fun d => { d with gib := gib, ranks := ranks, slots0 := s0, slots1 := s1 }
  if fail then assert (raise s (srcMemory 5) 0) 21 (everyTenancy s) else s

/-! ### Plots (05 R215 to R217) -/

def wipePlot (s : State) (p : Nat) : State :=
  s.modDram fun d => { d with mem := Mem.wipe d.mem (p * 2 ^ 21) (2 ^ 21), words := twipe d.words (p * 2 ^ 18) (2 ^ 18) }

/-- A list of plots in ascending order with one more. One below a plot whose zeroising has begun goes before it (DESIGN CHOICE, log entry 150). -/
def insertPlot (z : PlotZero) : List PlotZero → List PlotZero
  | [] => [z]
  | y :: t => if z.plot < y.plot then z :: y :: t else y :: insertPlot z t

/-- A plot leaves its owner and waits to be zeroised. -/
def zeroisePlot (s : State) (p next : Nat) : State :=
  let s := if next = 0x1D then s else setPlotOwner s p 0x1F
  s.modDram fun d => { d with zeroise := insertPlot { plot := p, next := next } d.zeroise }

/-- The plot in turn is zero; it goes to its new owner (05 R215, R216). -/
def plotDone (s : State) (p : Nat) : State :=
  match s.dram.zeroise with
  | [] => s
  | z :: rest =>
    if z.plot ≠ p || s.dram.migration.isSome then s else
    let s := wipePlot s p
    let s := s.modDram fun d => { d with zeroise := rest }
    if z.next = 0x1D then s else setPlotOwner s p z.next

/-! ### The patrol scrubber (17 R710) -/

/-- The physical device address of a payload line (64 bytes) of a rank, when it serves a slot. -/
def lineAddr (d : Dram) (n l : Nat) : Option Nat :=
  match rowOf d n with
  | none => none
  | some row =>
    let k := (slotsOf d row).length
    let slot := (slotsOf d row).findIdx (· == n)
    let base := if row = 0 then 0 else d.slots0.length * plotsPerRank d * 2 ^ 21
    let o := 64 * l
    some (base + (o / 256 * k + slot) * 256 + o % 256)

/-- The patrol scrubber reads its next line in a migration entry (17 R710). -/
def patrolBeat (s : State) (found : WordFault) : State :=
  if s.dram.migration.isSome || !s.dram.zeroise.isEmpty then s else
  let n := s.dram.patrolRank
  let s := match lineAddr s.dram n s.dram.patrolLine with
    | none => s
    | some a =>
      let s := setDrWord s a (joinFault (drWord s a) (outcome found))
      (beatWords a).foldl (fun s w =>
        let mend := decide (drWord s w = WordFault.correctable)
        let s := noteDrWord s w
        if mend then setDrWord s w .sound else s) s
  let last := decide ((s.dram.patrolLine + 1) * 64 ≥ plotsPerRank s.dram * 2 ^ 21) || (rowOf s.dram n).isNone
  s.modDram fun d =>
    { d with patrolLine := if last then 0 else d.patrolLine + 1,
             patrolRank := if last then (d.patrolRank + 1) % 16 else d.patrolRank }

/-- The payload bytes a running copy moves in a turn. -/
def copyBytes (s : State) (n : Nat) : State :=
  let full := plotsPerRank s.dram * 2 ^ 21
  let more := fun (m : Migration) => if m.phase = .copy then { m with copied := min full (m.copied + n) } else m
  s.modDram fun d => { d with migration := d.migration.map more }

/-! ### Stations' data -/

/-- Whether a request's owner tag permits a plot of the tenancy whose range it names, and no freeze bars it (05 R213, R214,
R242, R250): T0 reaches another tenancy's plots by its export, which reads, and by its import, which writes. -/
def tagMay (s : State) (o t : Nat) (write : Bool) (p : Nat) : Bool :=
  if o ≤ 16 && o ≠ t then
    decide (o = 0) && decide (plotOwner s p = t) && decide ((tenOf s t).state = .frozen) && ((tenOf s t).imported == write)
  else mayTouchPlot s o p && !frozenPlot s write p

/-- Whether a request with an owner tag reaches the plot behind a local device address of a tenancy. -/
def bulkOpen (s : State) (o t : Nat) (write : Bool) (addr : Nat) : Bool :=
  match plotOf s t (addr / 2 ^ 21) with
  | some p => tagMay s o t write p
  | none => false

/-- The bytes of a tenancy's local device range as a station's requests with an owner tag read them, each with whether its
word is poisoned: zero words marked as poisoned where the tag permits nothing (05 R213). -/
def bulkBytes (s : State) (o t addr n : Nat) : List (Byte × Bool) :=
  (List.range n).map fun i =>
    let a := dramAddr s t (addr + i)
    if bulkOpen s o t false (addr + i) then (Mem.rd s.dram.mem a, badWord (drWord s a)) else (0, true)

/-- The bytes of a tenancy's own range as a station working for it reads them. -/
def bulkData (s : State) (t addr n : Nat) : List Byte := (bulkBytes s t t addr n).map (·.1)

/-- How a word reads after bytes from address `a` up, each marked poisoned or not, have been written over it:
a full write of sound bytes clears its poison, a partial one leaves it (03 R135, 17 R709). -/
def wordAfter (old : WordFault) (w a : Nat) (l : List (Byte × Bool)) : WordFault :=
  let mine := (List.range 8).filterMap fun i => if w + i < a then none else (l.drop (w + i - a)).head?
  if mine.any (·.2) then .poisoned
  else if mine.length = 8 then .sound
  else if badWord old then .poisoned else .sound

/-- The words a range touches in part: they are read before they are written (03 R135). -/
def partWords (a n : Nat) : List Nat := (wordsOf a n).filter fun w => decide (w < a) || decide (a + n < w + 8)

/-- A piece of bulk memory is used: its rank is awake and data moves in this turn (17 R719, R728). -/
def useDram (s : State) (a : Nat) : State := (useRank s (rankAt s.dram a)).modDram fun d => { d with moved := true }

/-- A station's request reads n bytes of a tenancy's local device range: what it finds is counted (17 R707, R708), and what
its tag does not permit fires MC_ACCESS (05 R213). -/
def noteBulk (s : State) (o t addr n : Nat) : State :=
  (segments 21 addr n).foldl (fun s g =>
    if !bulkOpen s o t false g.1 then mcAccessFault s o
    else (lineWords (dramAddr s t g.1) g.2).foldl noteDrWord (useDram s (dramAddr s t g.1))) s

/-- A station's read of a tenancy's local device range: each byte with whether its word is poisoned. What it finds is
counted (17 R707, R708). -/
def bulkRead (s : State) (o t addr n : Nat) : List (Byte × Bool) × State := (bulkBytes s o t addr n, noteBulk s o t addr n)

/-- A station's write of bytes to a tenancy's local device range: what its tag does not permit is discarded and fires
MC_ACCESS (05 R213). -/
def bulkPut (s : State) (o t addr : Nat) (l : List (Byte × Bool)) : State :=
  (segments 21 addr l.length).foldl (fun s g =>
    if !bulkOpen s o t true g.1 then mcAccessFault s o else
    let a := dramAddr s t g.1
    let part := (l.drop (g.1 - addr)).take g.2
    let s := (partWords a g.2).foldl noteDrWord (useDram s a)
    let s := (wordsOf a g.2).foldl (fun s w => setDrWord s w (wordAfter (drWord s w) w a part)) s
    s.modDram fun d => { d with mem := Mem.wrs d.mem a (part.map (·.1)) }) s

/-- Bytes a station's requests moved for a tenancy are counted (17 R728). -/
def countBulk (s : State) (o n : Nat) (write : Bool) : State :=
  let add := fun (x : Nat) => (x + n) % 2 ^ 64
  if write then s.modDram fun d => { d with wrBytes := tmod 0 d.wrBytes o add }
  else s.modDram fun d => { d with rdBytes := tmod 0 d.rdBytes o add }

/-- A grove reads n bytes of its job's tenancy, through its ports in groups 4 and 5 with the tenancy's tag (01 R20; 03 R98;
11 R491). -/
def groveRead (s : State) (t addr n : Nat) : State := countBulk (noteBulk (noteMoved s 4) t t addr n) t n false

/-- A grove writes bytes for its job's tenancy, through its ports with the tenancy's tag. -/
def grovePut (s : State) (t addr : Nat) (bs : List Byte) : State :=
  countBulk (bulkPut (noteMoved s 5) t t addr (bs.map fun b => (b, false))) t bs.length true

/-- Whether a station's request may touch every shelf of a physical range (03 R103, R107). -/
def shelvesOpen (s : State) (o a n : Nat) : Bool := (shelvesOf a n).all (mayTouch s o)

/-- A station's write, tagged with an owner, of bytes to a Stockroom reference of a tenancy, through a port of a group: what
its owner may not touch is discarded and fires SR_ACCESS (03 R103, R104). -/
def srPut (s : State) (group o t addr : Nat) (l : List (Byte × Bool)) : State :=
  (segments 18 addr l.length).foldl (fun s g =>
    let a := srAddr s t g.1
    let part := (l.drop (g.1 - addr)).take g.2
    if !shelvesOpen s o a g.2 then srAccessFault s o else
    let s := (partWords a g.2).foldl noteWord (noteMoved s group)
    let s := (wordsOf a g.2).foldl (fun s w => setSrWord s w (wordAfter (srWord s w) w a part)) s
    s.modSr fun r => { r with mem := Mem.wrs r.mem a (part.map (·.1)) }) s

/-- The bytes at a Stockroom reference of a tenancy, each with whether its word is poisoned, as requests with an owner tag
read them: zero words marked as poisoned in a shelf the tag may not touch (03 R104). -/
def srBytes (s : State) (o t addr n : Nat) : List (Byte × Bool) :=
  (List.range n).map fun i =>
    let a := srAddr s t (addr + i)
    if mayTouch s o (a / 2 ^ 18) then (Mem.rd s.sr.mem a, badWord (srWord s a)) else (0, true)

/-- A station's read of a Stockroom reference, tagged with an owner, through a port of a group (03 R103, R104, R131, R132):
what its owner may not touch reads as poisoned zeros and fires SR_ACCESS. -/
def srRead (s : State) (group o t addr n : Nat) : List (Byte × Bool) × State :=
  (segments 18 addr n).foldl (fun acc g =>
    let a := srAddr acc.2 t g.1
    if !shelvesOpen acc.2 o a g.2 then (acc.1 ++ List.replicate g.2 (0, true), srAccessFault acc.2 o)
    else (acc.1 ++ srBytes acc.2 o t g.1 g.2, noteRead acc.2 group a g.2)) (([] : List (Byte × Bool)), s)

/-- Bytes none of which is poisoned. -/
def sound (bs : List Byte) : List (Byte × Bool) := bs.map fun b => (b, false)

/-! ### Commands -/

def checkMemSpare (s : State) (c : Cmd) : Ruling :=
  let n := dget c.d 16 1
  let op := dget c.d 17 1
  let r := rankOf' s n
  let row1 := (List.range 8).any fun i => decide ((rankOf' s (8 + i)).state ≠ .absent)
  let row0 := s.dram.slots0.length * plotsPerRank s.dram
  let used := (s.dram.owner.any fun e => decide (e.1 ≥ row0)) ||
    s.dram.zeroise.any fun z => decide (z.plot ≥ row0) && decide (z.next ≠ 0x1F)
  ruling
    [lowest [reserved [(16, 0, 16)] c.d, (decide (n < 8 || n > 15) || !row1 || decide (r.state = .absent), badParam 0x10),
       (decide (op > 1), badParam 0x11)],
     failIf (s.dram.migration.isSome || !s.dram.waiting.isEmpty) (badState 0x11),
     failIf (decide (op = 0) && (decide (r.state ≠ .inService) || decide ((spares s).length ≥ 2))) (badState 0x10),
     failIf (decide (op = 0) && decide (s.dram.slots1.length < 7)) (badState 0x10),
     failIf (decide (op = 1) && decide (r.state ≠ .spare)) (badState 0x10),
     failIf used (badState 0x10)]
    (yes .f)

/-- A spare is designated or released: row 1 has a new width and its contents are undefined (17 R724; the bytes read
as free values until they are zeroised, which every grant does). -/
def startMemSpare (s : State) (f : Flight) : State :=
  let n := dget f.desc 16 1
  let s := modRank s n fun r => { r with state := if dget f.desc 17 1 = 0 then .spare else .inService }
  finishDone (s.modDram fun d => { d with slots1 := rowSlots d.ranks 1 }) f

def checkMemPowerdown (s : State) (c : Cmd) : Ruling :=
  let _ := s
  ruling [lowest [reserved [(16, 0, 32)] c.d, (decide (dget c.d 16 4 > 400000), badParam 0x10)]] (yes .f)

def startMemPowerdown (s : State) (f : Flight) : State :=
  finishDone (s.modDram fun d => { d with pdIdle := dget f.desc 16 4 }) f

def checkMemLatency (s : State) (c : Cmd) : Ruling :=
  let _ := s
  let t := dget c.d 20 4
  ruling [lowest [reserved [(16, 0, 8), (20, 0, 32)] c.d, (decide (dget c.d 16 1 > 31), badParam 0x10),
    (decide (t < 400 || t > 400000), badParam 0x14)]] (yes .af)

def applyMemLatency (s : State) (d : Descriptor) : State :=
  s.modDram fun x => { x with latency := tset 4000 x.latency (dget d 16 1) (dget d 20 4) }

def checkMemRetire (s : State) (c : Cmd) : Ruling :=
  let n := dget c.d 16 1
  ruling
    [lowest [reserved [(16, 0, 8)] c.d, (decide (n > 15) || decide ((rankOf' s n).state ≠ .inService), badParam 0x10)],
     failIf ((spares s).isEmpty || s.dram.migration.isSome || !s.dram.waiting.isEmpty) (badState 0x10)]
    (yes .af none [n])

/-- MEM_RETIRE retires its rank, one that stayed in service for want of a spare too (17 R716). -/
def retireNamed (s : State) (n : Nat) : State := retire (modRank s n fun r => { r with noSpare := false }) n

/-- MEM_RETIRE starts its migration at its admission instant (17 R727), or when the fence before its work opens
(06 R278). -/
def commitMemRetire (s : State) (f : Flight) : State := if fenced s f then s else retireNamed s (dget f.desc 16 1)

/-- MEM_RETIRE waits for the end of its migration, which a command behind a fence starts now. -/
def startMemRetire (s : State) (f : Flight) : State :=
  let n := dget f.desc 16 1
  let s := if fenceOf f.desc then retireNamed s n else s
  if (rankOf' s n).state = .retired then finishDone s f else await s f .unit

def checkMemStatus (s : State) (c : Cmd) : Ruling :=
  let t := dget c.d 16 1
  ruling (recordChecks s c.t (dget c.d 24 8) 128 0x18 [reserved [(16, 0, 8), (24, 0, 64)] c.d, (decide (t > 16) && decide (t ≠ 0xFF), badParam 0x10)]) (yes .f)

def rankNum : RankState → Nat
  | .absent => 0 | .inService => 1 | .spare => 2 | .retiring => 3 | .filling => 4 | .retired => 5 | .failedTraining => 6

/-- MC_RANK[n]. -/
def mcRank (s : State) (n : Nat) : Nat :=
  let r := rankOf' s n
  rankNum r.state + 16 * r.refresh + 64 * b2n r.powerDown + 65536 * r.ce

/-- A count of one owner, or of all together (17 R728). -/
def ownerSum (t : Tab Nat) (who : Nat) : Nat := if who = 0xFF then t.foldl (fun n e => n + e.2) 0 else tget 0 t who

/-- The memory status record (17 R728). -/
def memoryRecord (s : State) (t : Nat) : List Byte :=
  let d := s.dram
  let (src, dst, mib) := match d.migration with | some m => (m.src, m.dst, m.copied / 2 ^ 20) | none => (0, 0, 0)
  leBytes 2 (plotsInstalled d) ++ leBytes 1 (spares s).length ++
  leBytes 1 (b2n d.migration.isSome + 2 * b2n !d.waiting.isEmpty) ++ leBytes 1 src ++ leBytes 1 dst ++ zeros 2 ++
  leBytes 4 mib ++ leBytes 4 d.ceCount ++ leBytes 4 d.ueCount ++ leBytes 5 d.ueAddr ++ zeros 3 ++ leBytes 4 d.wm ++
  ((List.range 16).flatMap fun n => leBytes 2 (mcRank s n)) ++ leBytes 8 (ownerSum d.rdBytes t % 2 ^ 64) ++
  leBytes 8 (ownerSum d.wrBytes t % 2 ^ 64) ++ leBytes 4 (min 0xFFFFFFFF (ownerSum d.missed t)) ++ leBytes 4 d.busy ++ zeros 40

def startMemStatus (s : State) (f : Flight) : State :=
  finishDone (hostWrite s (dget f.desc 24 8) (memoryRecord s (dget f.desc 16 1))) f

end Sys2Proof.Machine
end

