-- ==== Sys2Proof/Machine/AudioOps.lean ====
section
/-! DEFINITION. The audio block (15): rates and sample instants, the mixer's arithmetic, tones, streams, jacks, and the
checks and effects of the AUDIO commands. A timed command's flight keeps its object (physical), its sink, its sample,
whether it is C3, whether it completes at its switch (R652), and whether it was superseded (R653). -/

namespace Sys2Proof.Machine

def unitOf (s : State) (u : Nat) : AudioUnit := tget {} s.audio.units u
def modUnit (s : State) (u : Nat) (f : AudioUnit → AudioUnit) : State :=
  s.modAudio fun a => { a with units := tmod {} a.units u f }
def busOf (s : State) (b : Nat) : Bus := tget {} s.audio.buses b
def modBus (s : State) (b : Nat) (f : Bus → Bus) : State := s.modAudio fun a => { a with buses := tmod {} a.buses b f }
def inputOf (s : State) (n : Nat) : Input := tget {} s.audio.inputs n
def modInput (s : State) (n : Nat) (f : Input → Input) : State :=
  s.modAudio fun a => { a with inputs := tmod {} a.inputs n f }
def pathOf (s : State) (n b : Nat) : Path := tget {} s.audio.paths (64 * n + b)
def modPath (s : State) (n b : Nat) (f : Path → Path) : State :=
  s.modAudio fun a => { a with paths := tmod {} a.paths (64 * n + b) f }
def toneOf (s : State) (g : Nat) : Tone := tget {} s.audio.tones g
def modTone (s : State) (g : Nat) (f : Tone → Tone) : State := s.modAudio fun a => { a with tones := tmod {} a.tones g f }
def streamOf (s : State) (n : Nat) : AudioStream := tget {} s.audio.streams n
def modStream (s : State) (n : Nat) (f : AudioStream → AudioStream) : State :=
  s.modAudio fun a => { a with streams := tmod {} a.streams n f }
def jackOf (s : State) (j : Nat) : Jack := tget {} s.audio.jacks j
def modJack (s : State) (j : Nat) (f : Jack → Jack) : State := s.modAudio fun a => { a with jacks := tmod {} a.jacks j f }

/-- The physical input and stream behind a local number. -/
def inputNo (s : State) (t n : Nat) : Option Nat :=
  leastBelow 128 fun i => decide ((inputOf s i).owner = t) && decide ((inputOf s i).loc = n)
def streamNo (s : State) (t n : Nat) : Option Nat :=
  leastBelow 64 fun i => decide ((streamOf s i).owner = t) && decide ((streamOf s i).loc = n)

/-! ### Rates and sample instants (15 R640 to R642) -/

def rateTable : List Nat := [8000, 11025, 16000, 22050, 32000, 44100, 48000, 88200, 96000, 176400, 192000]
def hz (code : Nat) : Nat := max 1 ((rateTable.drop code).headD 48000)
def rate44 (code : Nat) : Bool := code % 2 == 1

def isPort (u : Nat) : Bool := decide (u ≤ 5)
def isDac (u : Nat) : Bool := decide (0x10 ≤ u) && decide (u ≤ 0x13)
def isAdc (u : Nat) : Bool := decide (0x18 ≤ u) && decide (u ≤ 0x1B)
def isJack (u : Nat) : Bool := u == 0x20 || u == 0x21
def isSink (u : Nat) : Bool := isPort u || isDac u || isJack u

/-- Ticks from a start to its sample n at a rate. -/
def sampleOfs (rate n : Nat) : Nat := n * 400000000 / hz rate

/-- The start, or the forecast of the start, of sample n of a sink (15 R641, R642). Until a target-mode port has two
stamps, the nominal period stands for the measured one (log entry 20). -/
def sampleTick (s : State) (u n : Nat) : Nat :=
  let v := unitOf s u
  if !v.target then v.s0 + sampleOfs v.rate n
  else
    let base := v.stamp.getD (v.lastEdge + sampleOfs v.rate 1)
    let no := if v.stamp.isSome then v.stampNo else v.count
    let p64 := v.period64.getD (sampleOfs v.rate 64)
    base + (n - no) * p64 * 9995 / 640000

/-- The first sample of a sink that starts at or after a tick. -/
def firstSample (s : State) (u t : Nat) : Nat :=
  let v := unitOf s u
  let guess := if v.target then
      let no := if v.stamp.isSome then v.stampNo else v.count
      no + (t - sampleTick s u no) * 640000 / max 1 (v.period64.getD (sampleOfs v.rate 64) * 9995)
    else (t - v.s0) * hz v.rate / 400000000
  let n := max v.count (guess - 1)
  match (List.range 4).find? fun i => decide (sampleTick s u (n + i) ≥ t) with | some i => n + i | none => n + 4

/-- The unit that clocks a bus: its sink, or 0x200 + b for an unbound one. -/
def busUnit (s : State) (b : Nat) : Nat := match (busOf s b).sink with | some k => k.1 | none => 0x200 + b
def busRate (s : State) (b : Nat) : Nat := match (busOf s b).sink with | some k => (unitOf s k.1).rate | none => (busOf s b).rate

/-- The unit that clocks an input's samples: 0x100 + n for stream n, none for a silent input. -/
def inputUnit (s : State) (i : Nat) : Option Nat :=
  let v := inputOf s i
  if v.kind = 1 then some (0x100 + v.src) else if v.kind = 2 then some v.src
  else if v.kind = 3 then some (0x18 + v.src) else if v.kind = 4 then some (0x20 + v.src) else none

/-- Whether a unit's samples are running. -/
def unitRuns (s : State) (u : Nat) : Bool :=
  if u < 0x100 then (unitOf s u).enable && !(unitOf s u).lost
  else if u < 0x200 then (streamOf s (u - 0x100)).running else true

/-! ### Arithmetic (15 R645 to R651, R657) -/

def sat40 (i : Int) : Int := clampI (-549755813888) 549755813887 i

/-- x times a Q4.27 gain. -/
def scale27 (x g : Int) : Int := sat40 ((x * g + 67108864) / 134217728)

/-- pi in units of 2^-64. -/
def pi64 : Nat := 57952155664616982739

/-- Terms k to k + n - 1 of the sine series of an angle whose square is x2, all in units of 2^-64. -/
def sinTerms (x2 : Int) : Nat → Nat → Int → Int
  | 0, _, _ => 0
  | n + 1, k, t =>
    let t' := -(t * x2 / 18446744073709551616) / ((2 * k * (2 * k + 1) : Nat) : Int)
    t' + sinTerms x2 n (k + 1) t'

/-- sin(pi k / 2,048) for k to 1,024, in units of 2^-64. -/
def sinQuarter (k : Nat) : Int :=
  let x : Int := ((pi64 * k / 2048 : Nat) : Int)
  x + sinTerms (x * x / 18446744073709551616) 12 1 x

/-- round(amp sin(pi k / 2,048)). -/
def sinRound (amp : Int) (k : Nat) : Int := (sinQuarter k * amp * 2 + 18446744073709551616) / 36893488147419103232

/-- S[k] of R651. -/
def crossTable (k : Nat) : Int := sinRound 134217728 k

/-- t[k] of R657. -/
def sineTable (k : Nat) : Int :=
  let h := k % 2048
  let v := sinRound 2147483647 (if h ≤ 1024 then h else 2048 - h)
  if k % 4096 ≥ 2048 then -v else v

/-- The gain of a ramp at its sample i (15 R651, AUDIO_GAIN). -/
def rampAt (r : Ramp) : Int :=
  if r.curve = 3 then r.old
  else if r.i ≥ r.len then r.new
  else if r.curve = 2 then r.old + Int.tdiv ((r.new - r.old) * r.i) r.len
  else
    let (c, w) := if r.curve = 0 then
        (crossTable (1024 - 1024 * r.i / r.len), crossTable (1024 * r.i / r.len))
      else (134217728 - ((134217728 * r.i / r.len : Nat) : Int), ((134217728 * r.i / r.len : Nat) : Int))
    (r.old * c + r.new * w + 67108864) / 134217728

/-- A gain as it stands at its next sample. -/
def gainNow (g : Gain) : Int := match g.ramp with | some r => rampAt r | none => g.value

/-- A gain one sample on. -/
def gainStep (g : Gain) : Gain :=
  match g.ramp with
  | none => g
  | some r =>
    if r.curve ≠ 3 && r.i + 1 ≥ r.len then { value := r.new, ramp := none }
    else { g with ramp := some { r with i := r.i + 1 } }

/-- A change of a gain, from the value in force (15 R653). -/
def gainTo (g : Gain) (new : Int) (len curve : Nat) : Gain :=
  if len = 0 then { value := new, ramp := none }
  else { value := gainNow g, ramp := some { old := gainNow g, new := new, len := len, curve := curve, i := 0 } }

/-- A switch at a zero crossing or at sample 63 (15 R652): the gain used, the gain after, whether it switched. -/
def switchStep (g : Gain) (x prev : Int) : Int × Gain × Bool :=
  match g.ramp with
  | some r =>
    if r.curve = 3 then
      if x = 0 || decide (x < 0) != decide (prev < 0) || r.i ≥ 63 then (r.new, { value := r.new, ramp := none }, true)
      else (r.old, { g with ramp := some { r with i := r.i + 1 } }, false)
    else (gainNow g, gainStep g, false)
  | none => (g.value, g, false)

/-- One biquad band (15 R646). -/
def bandStep (v : Band) (x : Int) : Int × Band :=
  let acc := v.b0 * x + v.b1 * v.x1 + v.b2 * v.x2 - v.a1 * v.y1 - v.a2 * v.y2
  let y := sat40 ((acc + 268435456) / 536870912)
  (y, { v with x2 := v.x1, x1 := x, y2 := v.y1, y1 := y })

/-- The limiter (15 R647): the sample and env. -/
def limitStep (v : Bus) (x : Int) : Int × Int :=
  let thr : Int := v.thr * 256
  let a : Int := min x.natAbs 549755813887
  let env := if a > v.env then v.env + (a - v.env) * v.att / 65536 else v.env - (v.env - a) * v.rel / 65536
  let g := if thr = 0 || env ≤ thr then 134217728 else Int.tdiv (thr * 134217728) env
  (scale27 x g, env)

/-- A bus sample as sent at n bits (15 R645). -/
def outSample (n : Nat) (x : Int) : Int :=
  if n ≥ 32 then clampI (-2147483648) 2147483647 x
  else clampI (-(2 ^ (n - 1) : Int)) (2 ^ (n - 1) - 1) ((x + 2 ^ (31 - n)) / 2 ^ (32 - n))

/-! ### Inputs -/

/-- Bytes of one stored sample. -/
def sampleBytes (format : Nat) : Nat := if format = 0 then 2 else 4
def formatBits (format : Nat) : Nat := if format = 0 then 16 else if format = 1 then 24 else 32

/-- Start of frame f of a stream (15 R662). -/
def frameTick (v : AudioStream) (f : Nat) : Nat := v.t0 + sampleOfs v.rate f

/-- A frame of a playback ring as the mixer reads it; a sample in a poisoned word is a free value (log entry 3). -/
def readFrame (s : State) (n f : Nat) : List Int × State :=
  let v := streamOf s n
  let w := sampleBytes v.format
  let at' := v.ref + (f % max 1 v.frames) * v.channels * w
  (List.range v.channels).foldl (fun (acc : List Int × State) c =>
    let (bs, s) := srRead acc.2 6 0x1E v.owner (at' + c * w) w
    let k := formatBits v.format
    if bs.any (·.2) then
      let (x, s) := freshValue s
      (acc.1 ++ [sint k x.toNat * 2 ^ (32 - k)], s)
    else (acc.1 ++ [sint k (leNat (bs.map (·.1))) * 2 ^ (32 - k)], s)) (([] : List Int), s)

/-- Reads a frame of a stream that has not been read yet. -/
def fetchFrame (s : State) (n f : Nat) : State :=
  if (streamOf s n).ready.any fun r => r.1 == f then s else
  let (xs, s) := readFrame s n f
  modStream s n fun v => { v with ready := v.ready ++ [(f, xs)] }

/-- The frames of a playback stream that fall due to be read (15 R662): those that start within 400,000 ticks. -/
def prefetchStream (s : State) (n t0 : Nat) : State :=
  let v := streamOf s n
  let first := match v.ready.getLast? with | some r => r.1 + 1 | none => v.next
  (List.range 200).foldl (fun s i =>
    if t0 + sampleOfs v.rate (first + i) < now s + 400000 then fetchFrame s n (first + i) else s) s

/-- The mixer reads ahead in a turn (15 R634, R662). -/
def prefetchAll (s : State) : State :=
  (List.range 64).foldl (fun s n =>
    let v := streamOf s n
    if !v.configured || v.capture then s
    else if v.running then prefetchStream s n v.t0
    else match s.audio.changes.find? fun c => c.op == 0x92 && c.obj == n with
      | some c => (match c.due with | some t => prefetchStream s n t | none => s)
      | none => s) s

/-- The sample of a stream's channel that a bus sample starting at tick t carries. -/
def streamNow (s : State) (n ch t : Nat) : Int :=
  let v := streamOf s n
  if !v.running || v.capture || t + 1 < v.t0 then 0 else
  let f := (2 * (t - v.t0) * hz v.rate + 400000000) / 800000000
  match v.ready.find? fun r => r.1 == f with
  | some r => (r.2.drop ch).headD 0
  | none => match v.ready.getLast? with | some r => (r.2.drop ch).headD 0 | none => 0

/-- The newest sample of an external source that is at least a delay old. -/
def pastSample (t delay : Nat) : List (Nat × Int) → Int
  | [] => 0
  | (at', x) :: r => if at' + delay ≤ t + 1 then x else pastSample t delay r

/-- The rate code of an input's source. -/
def inputRate (s : State) (i : Nat) : Option Nat :=
  let v := inputOf s i
  if v.kind = 1 then some (streamOf s v.src).rate
  else (inputUnit s i).map fun u => (unitOf s u).rate

/-- What an input brings to a bus's sample of tick t before its gains, and whether an ASRC stands between (15 R644, R645). The
delay of a low-latency bus is a free value of at most 2 samples. -/
def inputAt (s : State) (i b t : Nat) : Int × Bool :=
  let v := inputOf s i
  match inputRate s i with
  | none => (0, false)
  | some r =>
    if v.kind = 1 then (streamNow s v.src v.ch t, decide (r ≠ busRate s b))
    else
      let n := if (busOf s b).lowlat then Config.lowLatency b % 3 else 4
      (pastSample t (sampleOfs (busRate s b) n) v.hist, decide (r ≠ busRate s b))

/-- The contribution of a path to its bus sample (15 R645): an ASRC's output is a free value (R648). -/
def pathSample (s : State) (i b : Nat) : Int × State :=
  let v := inputOf s i
  let (raw, asrc) := inputAt s i b (now s)
  let prev := (inputAt s i b (now s - sampleOfs (busRate s b) 1)).1
  let x := scale27 (scale27 raw (gainNow v.gain)) (gainNow v.weight)
  let (x, s) := if asrc then
      let (r, s) := freshValue s
      (sint 40 r.toNat, s)
    else (x, s)
  let p := pathOf s i b
  let (g, gain, switched) := switchStep p.gain raw prev
  let s := if switched then
      match flightBy s fun f => decide (f.id + 1 = p.waiter) with | some f => finishDone s f | none => s
    else s
  let s := modPath s i b fun p => { p with gain := gain, waiter := if switched then 0 else p.waiter }
  (scale27 x g, s)

/-! ### Tone generators (15 R656 to R658) -/

/-- Buses that one unit clocks. -/
def busesOn (s : State) (u : Nat) : List Nat := (List.range 64).filter fun b => busUnit s b == u

def toneUnit (s : State) (v : Tone) : Option Nat := v.buses.head?.map fun b => busUnit s b.1

/-- The envelope of a burst at sample n (15 R657, R658). -/
def burstEnv (v : Tone) (n : Nat) : Nat :=
  if n < v.att then
    (if v.e0 ≤ 65536 then v.e0 + (65536 - v.e0) * n / max 1 v.att else 65536)
  else if n < v.on - v.rel then 65536
  else 65536 * (v.on - n) / max 1 v.rel

/-- Phase increment at sample n of a burst. -/
def toneInc (v : Tone) (fs n : Nat) : Int :=
  let a : Int := ((v.freq * 4294967296 / (16 * fs) : Nat) : Int)
  let b : Int := ((v.freq2 * 4294967296 / (16 * fs) : Nat) : Int)
  if v.wave = 2 then a + Int.tdiv ((b - a) * ((min n v.sweep : Nat) : Int)) (max 1 v.sweep : Nat) else a

/-- The generator after its sample: the next burst, gap, or silence. -/
def toneNext (v : Tone) : Tone :=
  let again := { v with stage := .burst, n := 0, ph := 0, e0 := 0, left := v.left.map (· - 1) }
  let done := decide (v.left = some 0)
  match v.stage with
  | .silent => v
  | .burst =>
    if v.n + 1 < v.on then { v with n := v.n + 1 }
    else if v.off ≠ 0 then { v with stage := .gap, n := 0, e := 0 }
    else if done then { v with stage := .silent, n := 0, e := 0 } else again
  | .gap => if v.n + 1 < v.off then { v with n := v.n + 1 } else if done then { v with stage := .silent, n := 0 } else again
  | .release => if v.rn + 1 < v.rel then { v with n := v.n + 1, rn := v.rn + 1 } else { v with stage := .silent, n := 0, e := 0 }

/-- One sample of a generator at a rate (15 R657). -/
def toneStep (v : Tone) (fs : Nat) : Tone :=
  if v.stage = .silent || v.stage = .gap then toneNext { v with s := 0, e := 0 } else
  let e := if v.stage = .burst then burstEnv v v.n else v.e0 * (v.rel - v.rn) / max 1 v.rel
  let w : Int := if v.wave = 1 then (if v.ph < 2147483648 then 2147483647 else -2147483647) else sineTable (v.ph / 1048576)
  let ph := ((v.ph : Int) + toneInc v fs v.n).toNat % 4294967296
  toneNext { v with e := e, s := w * e / 65536, ph := ph }

/-- What the generators add to a bus, ascending. -/
def toneSum (s : State) (b : Nat) : Int :=
  (List.range 8).foldl (fun (acc : Int) g =>
    let v := toneOf s g
    v.buses.foldl (fun acc x => if x.1 = b then acc + sat40 ((v.s * x.2 + 16384) / 32768) else acc) acc) 0

/-- The tones of a tenancy release (15 R655, R658). -/
def releaseTone (v : Tone) : Tone :=
  if v.stage = .silent then v
  else if v.stage = .gap || v.e = 0 then { v with stage := .silent, n := 0, e := 0, s := 0 }
  else if v.stage = .release then v
  else { v with stage := .release, rn := 0, e0 := v.e }

/-! ### Bus samples -/

/-- The inputs with a path into a bus, ascending. -/
def pathsInto (s : State) (b : Nat) : List Nat := (s.audio.paths.filter fun p => p.1 % 64 == b).map (·.1 / 64)

/-- One sample of a bus (15 R645 to R647). -/
def busStep (s : State) (b : Nat) : State :=
  let (acc, s) := (pathsInto s b).foldl (fun (a : Int × State) i =>
    let (x, s) := pathSample a.2 i b
    (a.1 + x, s)) ((0 : Int), s)
  let x := sat40 (acc + toneSum s b)
  let v := busOf s b
  let x := scale27 x (gainNow v.gain)
  if v.lowlat then modBus s b fun v => { v with gain := gainStep v.gain, last := x } else
  let (x, bands) := (List.range 10).foldl (fun (a : Int × Tab Band) k =>
    let (y, w) := bandStep (tget {} a.2 k) a.1
    (y, tset {} a.2 k w)) (x, v.bands)
  let (y, env) := limitStep v x
  modBus s b fun v => { v with gain := gainStep v.gain, bands := bands, env := env, last := y }

/-- Number of channels of a sink (15 R636). -/
def sinkChannels (v : AudioUnit) (u : Nat) : Nat := if isPort u then popCount 16 v.slotsOut else if isJack u then 2 else 1
def sinkBits (v : AudioUnit) (u : Nat) : Nat := if isPort u then v.sampleBits else 24

/-- The bus that feeds a sink channel: the lowest-numbered one bound to it (log entry 21). -/
def channelBus (s : State) (u c : Nat) : Option Nat := leastBelow 64 fun b => decide ((busOf s b).sink = some (u, c))

/-! ### Timed changes (15 R649 to R654) -/

/-- Whether two timed commands change the same object (15 R653). -/
def sameObject (a b : Change) : Bool :=
  let key := fun (c : Change) =>
    if c.op = 0x92 || c.op = 0x93 then (0, c.obj, 0, 0)
    else if c.op = 0x94 then (1, c.obj, dbits c.desc 16 0 2, if dbits c.desc 16 0 2 = 0 then dget c.desc 18 1 else 0)
    else if c.op = 0x95 then (2, c.obj, dget c.desc 16 1, 0)
    else if c.op = 0x96 then (3, c.obj, dget c.desc 16 1, dget c.desc 18 1)
    else (4, c.obj, 0, 0)
  decide (key a = key b)

/-- The unit at whose sample a change takes effect; none where nothing clocks its object. -/
def changeUnit (s : State) (c : Change) : Option Nat :=
  let running := fun (u : Nat) => if unitRuns s u then some u else none
  let ofInput := fun (i : Nat) => match inputUnit s i with | some u => running u | none => none
  if c.op = 0x92 then none
  else if c.op = 0x93 then running (0x100 + c.obj)
  else if c.op = 0x94 then
    (if dbits c.desc 16 0 2 = 0 then running (busUnit s (dget c.desc 18 1))
     else if dbits c.desc 16 0 2 = 1 then ofInput c.obj
     else match (busOf s c.obj).sink with | some k => running k.1 | none => none)
  else if c.op = 0x95 then (if dget c.desc 16 1 = 0 then ofInput c.obj else running (busUnit s c.obj))
  else if c.op = 0x96 then running (busUnit s c.obj)
  else match if dbit c.desc 17 0 then (toneOf s c.obj).buses.head?.map (·.1) else some (dget c.desc 48 1) with
    | some b => running (busUnit s b)
    | none => none

/-- What the completion of a timed change carries: VALUE bit 31 when a later one superseded it (15 R653). -/
def changeValue (f : Flight) : Nat := if (f.aux.drop 5).headD 0 = 1 then 2147483648 else 0

/-- A path change: a ramp, or a switch at a zero crossing (15 R651, R652). -/
def applyPath (s : State) (c : Change) : State :=
  let b := dget c.desc 18 1
  let s := match flightBy s fun f => decide (f.id + 1 = (pathOf s c.obj b).waiter) with
    | some f => finishDone s f (changeValue f)
    | none => s
  let len := dget c.desc 32 2
  let g := dint32 c.desc 36
  modPath s c.obj b fun p =>
    if len = 0 then
      { p with gain := { value := gainNow p.gain,
                         ramp := some { old := gainNow p.gain, new := g, len := 64, curve := 3, i := 0 } },
               waiter := c.id + 1 }
    else { p with gain := gainTo p.gain g len (b2n (dbit c.desc 19 0)), waiter := 0 }

/-- The sources of R635, a stream by its physical number. -/
def applySource (s : State) (c : Change) : State :=
  let k := dget c.desc 34 1
  let src := if k = 1 then (streamNo s c.owner (dget c.desc 32 2)).getD 64 else dget c.desc 32 2
  modInput s c.obj fun i => { i with kind := if k = 1 && src = 64 then 0 else k, src := src, ch := dget c.desc 35 1, hist := [] }

/-- A bus is bound (15 R637, R646). -/
def applyBus (s : State) (c : Change) : State :=
  let code := dget c.desc 32 2
  modBus s c.obj fun b =>
    { b with sink := if code = 0xFFFF then none else some (code, dget c.desc 34 1), rate := dbits c.desc 44 0 4,
             route := dbits c.desc 36 0 17, read := dbits c.desc 40 0 17, lowlat := dbit c.desc 19 0,
             bands := b.bands.map fun e => (e.1, { e.2 with x1 := 0, x2 := 0, y1 := 0, y2 := 0 }),
             s0 := now s, count := 0 }

def applyFilter (s : State) (c : Change) : State :=
  let d := c.desc
  modBus s c.obj fun b =>
    if dget d 16 1 = 1 then { b with thr := dget d 32 4, att := dget d 36 2, rel := dget d 38 2 }
    else { b with bands := tmod {} b.bands (dget d 18 1) fun v =>
             { v with b0 := dint32 d 32, b1 := dint32 d 36, b2 := dint32 d 40, a1 := dint32 d 44, a2 := dint32 d 48 } }

/-- A generator under an AUDIO_TONE (15 R656 to R658). -/
def applyToneTo (v : Tone) (d : Descriptor) : Tone :=
  if dbit d 17 0 then releaseTone v
  else
    { v with stage := .burst, wave := dbits d 18 0 2, freq := dget d 32 2, freq2 := dget d 34 2, sweep := dget d 36 2,
             att := dget d 38 2, rel := dget d 40 2, on := dget d 42 2, off := dget d 44 2,
             left := if dget d 46 1 = 0 then none else some (dget d 46 1 - 1),
             buses := (List.range (dbits d 47 0 3)).map fun i => (dget d (48 + i) 1, dget d (52 + 2 * i) 2),
             n := 0, ph := if v.stage = .silent then 0 else v.ph, e0 := v.e }

def applyTone (s : State) (c : Change) : State := modTone s c.obj fun v => applyToneTo v c.desc

/-- A change takes effect. -/
def applyChange (s : State) (c : Change) : State :=
  if c.op = 0x92 then modStream s c.obj fun v => { v with running := true, t0 := c.due.getD (now s), next := 0, periods := 0 }
  else if c.op = 0x93 then modStream s c.obj fun v => { v with running := false, ready := [] }
  else if c.op = 0x94 then
    (if dbits c.desc 16 0 2 = 0 then applyPath s c else if dbits c.desc 16 0 2 = 1 then applySource s c else applyBus s c)
  else if c.op = 0x95 then
    (if dget c.desc 16 1 = 0 then modInput s c.obj fun i => { i with gain := gainTo i.gain (dint32 c.desc 36) (dget c.desc 32 2) 2 }
     else modBus s c.obj fun b => { b with gain := gainTo b.gain (dint32 c.desc 36) (dget c.desc 32 2) 2 })
  else if c.op = 0x96 then applyFilter s c else applyTone s c

/-- Whether a promise naming a sink of the Hokusa die is missed now (15 R669). -/
def sinkMissed (s : State) (u : Nat) : Bool := s.hokusaSafe && !isPort u

/-- The changes that take effect at a unit's sample now, in issue order; a C3 change completes there. A change whose promise
is missed is discarded (01 R25; log 156). -/
def applyDue (s : State) (u : Option Nat) : State :=
  let ready := fun (s : State) (c : Change) =>
    (c.c3 || c.fired || !sinkMissed s c.sink) && (match c.due with | some t => decide (t ≤ now s) | none => false) && decide (changeUnit s c = u) &&
      (c.fired || (s.flights.any fun f => f.id == c.id))
  s.audio.changes.foldl (fun s c =>
    if !ready s c then s else
    let s := applyChange s c
    let s := s.modAudio fun a => { a with changes := a.changes.filter fun x => x.id ≠ c.id }
    match c.c3, flightBy s fun f => decide (f.id = c.id) with
    | true, some f => if (f.aux.drop 4).headD 0 = 1 then s else finishDone s f (changeValue f)
    | _, _ => s) s

/-- Changes whose command was withdrawn before its completion are dropped. -/
def dropDeadChanges (s : State) : State :=
  s.modAudio fun a => { a with changes := a.changes.filter fun c => c.fired || s.flights.any fun f => f.id == c.id }

/-- The promised sample of a sink has started: its commands complete (15 R649), or are missed over a lost
die-to-die link (R669). -/
def fireSample (s : State) (u n : Nat) : State :=
  let mine := s.flights.filter fun f => decide (0x92 ≤ f.op) && decide (f.op ≤ 0x97) && decide (f.phase = .unit) &&
    decide ((f.aux.drop 1).take 3 = [u, n, 0])
  mine.foldl (fun s f =>
    if sinkMissed s u then finish (missNote s f) f { status := 13, reason := 0x31, inst := f.promised } else
    let s := s.modAudio fun a => { a with changes := a.changes.map fun c => if c.id = f.id then { c with fired := true } else c }
    if (f.aux.drop 4).headD 0 = 1 then s
    else finishDone s f (changeValue f)) s

/-! ### Samples -/

/-- A generator's sample; the charge of one that falls silent ends (04 R189; log entry 67). -/
def soundTone (s : State) (g fs : Nat) : State :=
  let v := toneOf s g
  let w := toneStep v fs
  let s := modTone s g fun _ => w
  if v.stage ≠ .silent && w.stage = .silent then
    s.modCharges fun cs => placeCharges cs v.owner kAudio (8192 + g) (now s) s.tl.epoch []
  else s

/-- Input ramps one sample on. -/
def stepInputs (s : State) (u : Nat) : State :=
  (List.range 128).foldl (fun s i =>
    if inputUnit s i = some u && ((inputOf s i).gain.ramp.isSome || (inputOf s i).weight.ramp.isSome) then
      modInput s i fun v => { v with gain := gainStep v.gain, weight := gainStep v.weight }
    else s) s

/-- Bits of a source's samples. -/
def sourceBits (s : State) (u : Nat) : Nat := if isPort u then (unitOf s u).sampleBits else 24

/-- The samples a unit brings its inputs: slot by slot for a port, one otherwise. A sample the row does not carry is a
free value (log entry 3); all are zero while the link to the Hokusa die is lost (15 R669). -/
def takeInputs (s : State) (u : Nat) (ins : List Nat) : State :=
  let slots := if isPort u then bitsOf 16 (unitOf s u).slotsIn else [0]
  (List.range 128).foldl (fun s i =>
    let v := inputOf s i
    if inputUnit s i ≠ some u || v.kind < 2 then s else
    let k := if isPort u then slots.findIdx (· == v.ch) else 0
    let bits' := max 1 (sourceBits s u)
    let (x, s) :=
      if (s.hokusaSafe && !isPort u) || (isPort u && !slots.contains v.ch) then ((0 : Int), s)
      else match (ins.drop k).head? with
        | some w => (sint bits' w * 2 ^ (32 - bits'), s)
        | none => let (r, s) := freshValue s; (sint bits' r.toNat * 2 ^ (32 - bits'), s)
    modInput s i fun v => { v with hist := ((now s, x) :: v.hist).take 40 }) s

/-- DRIVER_ON of a jack. -/
def driverOn (s : State) (j : Nat) : Bool :=
  let v := unitOf s (0x20 + j)
  v.enable && v.driver && decide (1 ≤ (jackOf s j).type) && decide ((jackOf s j).type ≤ 4) && !s.hokusaSafe && !halted s

/-- Whether a sink's output is held at zero: under HALT (20 R796), over a lost die-to-die link (01 R18), and for a driver
that is off (15 R666, R668). The ramps there are modelled as immediate (log entry 38). -/
def muted (s : State) (u : Nat) : Bool :=
  halted s || (!isPort u && s.hokusaSafe) || (isJack u && !driverOn s (u - 0x20)) || (isDac u && !(unitOf s u).driver)

/-- A sample of a sink or converter (15 R641, R645). -/
def unitSample (s : State) (u : Nat) (ins : List Nat) : State :=
  let n := (unitOf s u).count
  let s := s.modAudio fun a => { a with changes := a.changes.map fun c =>
    if c.due.isNone && c.sink = u && c.pos = n then { c with due := some (now s) } else c }
  let s := stepInputs s u
  let s := applyDue s (some u)
  let s := takeInputs s u ins
  let s := (List.range 8).foldl (fun s g =>
    if toneUnit s (toneOf s g) = some u then soundTone s g (hz (unitOf s u).rate) else s) s
  let s := (busesOn s u).foldl busStep s
  let v := unitOf s u
  let out := if isSink u then
      (List.range (sinkChannels v u)).map fun c => match channelBus s u c with
        | some b => if muted s u then 0 else outSample (sinkBits v u) (busOf s b).last
        | none => 0
    else []
  let s := modUnit s u fun v => { v with count := n + 1, out := out }
  fireSample s u n

/-- A sample of an unbound bus; instants that passed while the device was not in RUN have no sample. -/
def looseBusSample (s : State) (b : Nat) : State :=
  let s := applyDue s (some (0x200 + b))
  let s := (List.range 8).foldl (fun s g =>
    if toneUnit s (toneOf s g) = some (0x200 + b) then soundTone s g (hz (busRate s b)) else s) s
  modBus (busStep s b) b fun v => { v with count := max (v.count + 1) ((now s - v.s0) * hz v.rate / 400000000) }

/-- The bytes of one captured sample. -/
def encodeSample (format : Nat) (x : Int) : List Byte :=
  leBytes (sampleBytes format) (unsint (8 * sampleBytes format) (outSample (formatBits format) x))

/-- Frame `next` of a stream starts (15 R662): playback moves on, capture writes its ring. -/
def streamSample (s : State) (n : Nat) : State :=
  let s := stepInputs s (0x100 + n)
  let s := applyDue s (some (0x100 + n))
  let v := streamOf s n
  if !v.running then s
  else if !v.capture then
    modStream (fetchFrame s n v.next) n fun w => { w with next := w.next + 1, ready := w.ready.filter fun r => r.1 + 3 ≥ v.next }
  else
    let (bs, s) := (List.range v.channels).foldl (fun (acc : List Byte × State) c =>
      let b := v.firstBus + c
      if busRate acc.2 b = v.rate then (acc.1 ++ encodeSample v.format (busOf acc.2 b).last, acc.2)
      else
        let (r, s) := freshValue acc.2
        (acc.1 ++ encodeSample v.format (sint 40 r.toNat), s)) (([] : List Byte), s)
    let at' := v.ref + (v.next % max 1 v.frames) * v.channels * sampleBytes v.format
    modStream (srPut s 6 0x1E v.owner at' (sound bs)) n fun w => { w with next := w.next + 1 }

/-- Whether a unit's next sample is due. -/
def sampleDue (s : State) (u : Nat) : Bool :=
  if u < 0x100 then
    let v := unitOf s u
    v.enable && !v.target && decide (sampleTick s u v.count ≤ now s)
  else if u < 0x200 then
    let v := streamOf s (u - 0x100)
    v.running && decide (frameTick v v.next ≤ now s)
  else
    let v := busOf s (u - 0x200)
    v.sink.isNone && decide (v.s0 + sampleOfs v.rate v.count ≤ now s)

/-- SAMPLE_START of a unit: a sink or converter by its code, 0x100 + n for a stream, 0x200 + b for an unbound bus. -/
def sampleStartOf (s : State) (u : Nat) (ins : List Nat) : State :=
  if !sampleDue s u then s
  else if u < 0x100 then unitSample s u ins
  else if u < 0x140 then streamSample s (u - 0x100)
  else if 0x200 ≤ u && u < 0x240 then looseBusSample s (u - 0x200) else s

/-- A frame sync edge on a target-mode port (15 R642, R643). -/
def syncEdge (s : State) (u : Nat) (ins : List Nat) : State :=
  let v := unitOf s u
  if !isPort u || !v.enable || !v.target then s else
  let stamped := decide (v.count % 64 = 0)
  let s := modUnit s u fun v => { v with
    lastEdge := now s, lost := false,
    stamp := if stamped then some (now s) else v.stamp, stampNo := if stamped then v.count else v.stampNo,
    period64 := if stamped && !v.lost then v.stamp.map (now s - ·) else v.period64 }
  unitSample s u ins

/-- Whether a command's outstanding promise names a sink: a timed change, or a change of an audio assay unit (15 R643). -/
def promisesSink (s : State) (f : Flight) (u : Nat) : Bool :=
  let timed := decide (0x92 ≤ f.op) && decide (f.op ≤ 0x97) && decide (f.aux.getD 1 0xFFFF = u) && decide (f.aux.getD 3 1 = 0)
  let block := (f.op == 0x51 || f.op == 0x52) && decide (f.aux.getD 1 2 = 1) && decide (f.aux.getD 5 0xFFFF = u) &&
    (s.flights.any (fun g => g.op == 0x51 && decide (g.aux.headD 48 = f.aux.headD 49) && decide (dbits g.desc 17 0 3 = 3)) ||
      (f.op == 0x52 && decide ((tget {} s.au.units (f.aux.headD 48) : Assay).snoop = 3)))
  accepted f && f.promised.isSome && (timed || block)

/-- Frame sync has been absent for two nominal periods (15 R643). -/
def syncLostDue (s : State) (u : Nat) : Bool :=
  let v := unitOf s u
  isPort u && v.enable && v.target && !v.lost && decide (now s ≥ v.lastEdge + sampleOfs v.rate 2)

def syncLostOf (s : State) (u : Nat) : State :=
  if !syncLostDue s u then s else
  let s := modUnit s u fun v => { v with lost := true, out := v.out.map fun _ => 0, stamp := none, period64 := none }
  let s := (List.range 128).foldl (fun s i => if inputUnit s i = some u then modInput s i fun v => { v with hist := [] } else s) s
  let s := raise (s.modAudio fun a => { a with syncLosts := min 0xFFFFFFFF (a.syncLosts + 1) }) (srcAudioBlock 2) 0
  (s.flights.filter fun f => promisesSink s f u).foldl (fun s f =>
    withdraw (missNote s f) f { status := 13, reason := 0x31, inst := f.promised }) s

/-! ### Position records (15 R663) -/

def periodDue (s : State) (n : Nat) : Bool :=
  let v := streamOf s n
  v.running && decide (v.period ≠ 0) && decide (v.next > (v.periods + 1) * v.period)

def positionRecord (v : AudioStream) : List Byte :=
  let f := (v.periods + 1) * v.period
  leBytes 1 v.loc ++ leBytes 1 (b2n v.running) ++ zeros 2 ++ leBytes 4 (v.seq + 1) ++ leBytes 8 f ++ leBytes 8 (frameTick v f) ++ zeros 40

def audioPeriodOf (s : State) (n : Nat) : State :=
  if !periodDue s n then s else
  let v := streamOf s n
  let s := issueRecord s v.owner { isCompletion := false, ring := 0, bytes := positionRecord v, addr := some v.posAddr }
  let s := modStream s n fun w => { w with periods := w.periods + 1, seq := (w.seq + 1) % 2 ^ 32 }
  raise s (srcStream n) 0

/-! ### Jacks and drivers (15 R666 to R668) -/

def setJackType (s : State) (j ty load : Nat) : State :=
  if (jackOf s j).type = ty then modJack s j fun v => { v with load := load }
  else raise (modJack s j fun v => { v with
      type := ty, load := load, changeTick := now s,
      buttons := if ty = 2 || ty = 3 then v.buttons else 0 }) (srcAudioBlock 0) 0

def jackSwitch (s : State) (j : Nat) (closed : Bool) : State :=
  modJack s j fun v => { v with inserted := closed, debounce := if closed then some (v.debounce.getD (now s)) else none,
                                classify := v.classify && closed }

def jackDebounced (s : State) (j : Nat) : State :=
  let v := jackOf s j
  match v.debounce with
  | some t =>
    if !v.inserted || now s < t + 40000000 || v.type ≠ 0 then s
    else modJack s j fun v => { v with debounce := none, classify := true, inserts := min 0xFFFFFFFF (v.inserts + 1) }
  | none => s

def jackFound (s : State) (j ty load : Nat) : State :=
  if !(jackOf s j).classify || ty = 0 || ty > 5 then s
  else setJackType (modJack s j fun v => { v with classify := false }) j ty load

def jackRemoved (s : State) (j : Nat) : State :=
  if (jackOf s j).inserted then s
  else setJackType (modJack s j fun v => { v with debounce := none, classify := false }) j 0 0

/-- The button a line resistance selects (15 R667). -/
def buttonOf (ohms : Nat) : Nat :=
  if ohms < 70 then 1 else if 110 ≤ ohms && ohms ≤ 180 then 2 else if 210 ≤ ohms && ohms ≤ 290 then 4
  else if 360 ≤ ohms && ohms ≤ 680 then 8 else 0

def buttonHeld (s : State) (j ohms : Nat) : State :=
  let v := jackOf s j
  let u := unitOf s (0x20 + j)
  let headset := decide (v.type = 2) || decide (v.type = 3)
  if j > 1 || !headset || !u.bias || v.buttons = buttonOf ohms then s
  else raise (modJack s j fun v => { v with buttons := buttonOf ohms }) (srcAudioBlock 1) 0

/-- A DAC or headphone output current above 250 mA (15 R668). -/
def driverTrip (s : State) (u : Nat) : State :=
  if !(isDac u || isJack u) then s
  else assert (raise (modUnit s u fun v => { v with driver := false }) (srcAudioBlock 3) 0) 34 0

/-! ### Holding a tenancy's sound (05 R236, R237; 15 R655) -/

def weighInputs (s : State) (t : Nat) (full : Bool) : State :=
  (List.range 128).foldl (fun s i =>
    if (inputOf s i).owner = t then
      modInput s i fun v => { v with weight := gainTo v.weight (if full then 134217728 else 0) 256 0 }
    else s) s

def holdSound (s : State) (t : Nat) : State :=
  (List.range 8).foldl (fun s g => if (toneOf s g).owner = t then modTone s g releaseTone else s) (weighInputs s t false)

/-! ### Commands -/

/-- Whether anything uses a bus (15 R638): a path, tone, capture stream or assay unit. -/
def busUsed (s : State) (b : Nat) : Bool :=
  (s.audio.paths.any fun p => p.1 % 64 == b) || (s.charges.any fun c => c.kind == kAudio && decide (c.object < 8192) &&
      c.object % 64 == b && decide (c.amount ≠ 0) && (c.toEpoch.isNone || decide (c.since > now s))) ||
  ((List.range 8).any fun g => decide ((toneOf s g).stage ≠ .silent) && ((toneOf s g).buses.any fun x => x.1 == b)) ||
  ((List.range 64).any fun n => (streamOf s n).configured && (streamOf s n).capture &&
      decide ((streamOf s n).firstBus ≤ b) && decide (b < (streamOf s n).firstBus + (streamOf s n).channels)) ||
  (s.audio.changes.any fun c => c.op == 0x97 && !dbit c.desc 17 0 &&
      (List.range (dbits c.desc 47 0 3)).any fun i => dget c.desc (48 + i) 1 == b) ||
  (match (busOf s b).sink with
   | some k => s.au.units.any fun u => decide (u.2.owner ≠ 0x1F) && decide (u.2.snoop = 3) && u.2.enable && decide (u.2.target = k.1)
   | none => false)

/-- The common fields of the timed commands. -/
def timedLayout : List (Nat × Nat × Nat) := [(19, 7, 1), (20, 0, 24), (24, 0, 64)]
def isEarly (c : Cmd) : Bool := dbit c.d 19 7
def isC3 (c : Cmd) : Bool := decide (classOf c.d = 3)
def sinkField (c : Cmd) : Nat := dget c.d 20 2

def timedFaults (c : Cmd) (tone : Bool) : List (Bool × Verdict) :=
  [(isC3 c && isEarly c, badParam 0x13),
   (if isC3 c then decide (sinkField c ≠ 0) else !isSink (sinkField c), badParam 0x14),
   (if tone then decide (classOf c.d ≠ 1) && decide (dget c.d 22 1 ≠ 0xFF) else decide (dget c.d 22 1 ≠ 0), badParam 0x16),
   ((isC3 c || isEarly c) && decide (dget c.d 24 8 ≠ 0), badParam 0x18)]

/-- The sample and the instant a timed command asks for; a C3 command's is a_k + 80,000 (15 R649, R650). -/
def timedWant (s : State) (c : Cmd) : Nat × Nat :=
  if isC3 c then (0, c.a + 80000)
  else
    let u := sinkField c
    let n := if isEarly c then firstSample s u (c.a + 80000) else dget c.d 24 8
    (n, sampleTick s u n)

/-- The checks of the reference sink and of the admission lead. -/
def sinkCheck (s : State) (c : Cmd) : Option Verdict :=
  failIf (!isC3 c && !(unitOf s (sinkField c)).enable) (badState 0x14)
def timedLead (s : State) (c : Cmd) : Option Verdict :=
  let u := sinkField c
  let (n, t) := timedWant s c
  failIf (!isC3 c && (decide (t < c.a + 80000) || decide (n < (unitOf s u).count)))
    { status := 11, reason := 1, inst := some (sampleTick s u (firstSample s u (c.a + 80000))) }
def timedFence (s : State) (c : Cmd) : Option Verdict := fenceCheck s c (if isC3 c then none else some (timedWant s c).2)

/-- The ruling of an admitted timed command on an object; `later` is 1 when it completes at its switch. -/
def timedYes (s : State) (c : Cmd) (obj : Nat) (promise : Nat) (later : Nat := 0) : Ruling :=
  let (n, _) := timedWant s c
  yes .af (if isC3 c then none else some promise) [obj, sinkField c, n, b2n (isC3 c), later, 0]

/-- The sample, of the unit that clocks its object, at which a change takes effect: none while its instant is not known, or
nothing clocks its object (15 R649, R650). -/
def effectSample (s : State) (c : Change) : Option Nat :=
  match changeUnit s c, c.due with
  | some u, some t =>
    if u < 0x100 then some (firstSample s u t)
    else
      let (t0, r) := if u < 0x200 then ((streamOf s (u - 0x100)).t0, (streamOf s (u - 0x100)).rate)
        else ((busOf s (u - 0x200)).s0, (busOf s (u - 0x200)).rate)
      let n := (t - t0) * hz r / 400000000
      some (if t0 + sampleOfs r n ≥ t then n else n + 1)
  | _, _ => none

/-- Whether two changes of one object take effect at the same sample (15 R653). -/
def sameSample (s : State) (a b : Change) : Bool :=
  (decide (a.due = b.due) && decide (a.sink = b.sink) && decide (a.pos = b.pos)) ||
    ((effectSample s a).isSome && decide (effectSample s a = effectSample s b))

/-- After its first completion a timed command's change waits for its sample. -/
def startTimedChange (s : State) (f : Flight) : State :=
  let u := (f.aux.drop 1).headD 0
  let n := (f.aux.drop 2).headD 0
  let c3 := decide ((f.aux.drop 3).headD 0 = 1)
  let due := if c3 then some (f.admitted + 80000) else if (unitOf s u).target then none else some (sampleTick s u n)
  let ch : Change := { id := f.id, op := f.op, desc := f.desc, owner := f.src.fn, obj := f.aux.headD 0, due := due, sink := u,
                       pos := n, c3 := c3, fired := false }
  let s := s.audio.changes.foldl (fun s c =>
    if sameObject c ch && sameSample s c ch then
      s.modFlights fun l => l.map fun g => if g.id = c.id then { g with aux := g.aux.take 5 ++ [1] } else g
    else s) s
  await (s.modAudio fun a => { a with changes := a.changes ++ [ch] }) f .unit

/-- A stream's START replaces what was read for an earlier one. -/
def startStreamStart (s : State) (f : Flight) : State :=
  let n := f.aux.headD 64
  startTimedChange (if (streamOf s n).running then s else modStream s n fun v => { v with ready := [], next := 0 }) f

def checkStreamTimed (start : Bool) (s : State) (c : Cmd) : Ruling :=
  let n := streamNo s c.t (dget c.d 16 1)
  let v := streamOf s (n.getD 64)
  ruling
    [lowest (reserved (timedLayout ++ [(16, 0, 8)]) c.d :: timedFaults c false),
     failIf n.isNone (notOwner 0x10), timedFence s c,
     failIf (start && (v.running || !v.configured)) (badState 0x10), sinkCheck s c, timedLead s c]
    (if !start && !v.running && !(s.audio.changes.any fun x => x.op == 0x92 && x.obj == n.getD 64) then yes .af (promptly c) [64]
     else timedYes s c (n.getD 64) (timedWant s c).2)

/-- A STOP of a stopped stream completes with DONE and changes nothing (15 R664). -/
def startStreamStop (s : State) (f : Flight) : State := if f.aux = [64] then finishDone s f else startTimedChange s f

/-- Mixer slots of a path into a bus (04 R189). -/
def pathSlots (s : State) (b : Nat) : Nat := ceilDiv (hz (busRate s b)) 48000

/-- The instant of a bus's sample that comes k samples after its first at or after tick t. -/
def busSampleAfter (s : State) (b t k : Nat) : Nat :=
  match (busOf s b).sink with
  | some u => sampleTick s u.1 (firstSample s u.1 t + k)
  | none =>
    let v := busOf s b
    let n := (t - v.s0) * hz v.rate / 400000000
    v.s0 + sampleOfs v.rate ((if v.s0 + sampleOfs v.rate n ≥ t then n else n + 1) + k)

/-- When a change of a path that takes effect at tick t0 is through (15 R651, R652): a switch at its last sample, number 63, or
the end of its crossfade. -/
def pathThrough (s : State) (b len t0 : Nat) : Nat :=
  if len = 0 then busSampleAfter s b t0 63 else t0 + sampleOfs (busRate s b) len

/-- The charges once a change of input i's path into bus b, in effect at tick t0 and promised for t, is admitted: with a gain
the path is charged from the promised instant on, with none until it has faded out (04 R174, R189; 15 R639). -/
def pathCharges (s : State) (owner i b : Nat) (on : Bool) (len t0 t : Nat) : List Charge :=
  let e := epochOfTick s (if on then t else pathThrough s b len t0)
  placePath s.charges t0 (chargeFrom owner 0x0B 0 (if on then pathSlots s b else 0) e kAudio (64 * i + b))

/-- The sources a low-latency bus admits (15 R660). -/
def lowlatSource (s : State) (i b : Nat) : Bool :=
  let v := inputOf s i
  decide (v.owner = 0) && decide (v.kind = 2) && !(unitOf s v.src).target && decide ((unitOf s v.src).rate = busRate s b)

def checkRoutePath (s : State) (c : Cmd) : Ruling :=
  let d := c.d
  let i := inputNo s c.t (dget d 17 1)
  let b := dget d 18 1
  let len := dget d 32 2
  let (_, t0) := timedWant s c
  let t := if len = 0 then pathThrough s b 0 t0 else t0
  let on := decide (dget d 36 4 ≠ 0)
  let e := epochOfTick s t
  let cs := pathCharges s c.t (i.getD 128) b on len t0 t
  let need := on && chargeRises s.charges cs kAudio (64 * i.getD 128 + b) e (pathSlots s b)
  let bus := busOf s b
  ruling
    [lowest ([reserved (timedLayout ++ [(16, 0, 2), (17, 0, 16), (19, 0, 1), (32, 0, 16), (36, 0, 32)]) d,
       (decide (b > 63), badParam 0x12), (decide (len > 16384), badParam 0x20)] ++ timedFaults c false),
     failIf i.isNone (notOwner 0x11), failIf (!bus.route.testBit c.t) (notOwner 0x12),
     failIf (bus.lowlat && decide (dget d 36 4 ≠ 0) && !lowlatSource s (i.getD 128) b) (badParam 0x13),
     failIf (isC3 c && need) (badParam 0x24),
     timedFence s c, sinkCheck s c, timedLead s c,
     failIf (need && !fits { s with charges := cs } c.t 0x0B 0 e 0) (budget 0x0B 0)]
    (timedYes s c (i.getD 128) t (b2n (len = 0)))

def checkRouteSource (s : State) (c : Cmd) : Ruling :=
  let d := c.d
  let i := inputNo s c.t (dget d 17 1)
  let k := dget d 34 1
  let src := dget d 32 2
  let ch := dget d 35 1
  let n := streamNo s c.t src
  ruling
    [lowest ([reserved (timedLayout ++ [(16, 0, 2), (17, 0, 8), (32, 0, 32)]) d,
       (decide ((k = 0 && src ≠ 0) || (k = 2 && src > 5) || (k = 3 && src > 3) || (k = 4 && src > 1)), badParam 0x20),
       (decide (k > 4), badParam 0x22),
       (decide (k ≠ 1 && k ≠ 2 && ch ≠ 0) || (decide (k = 2) && decide (ch > 15)) ||
          (decide (k = 1) && n.isSome && decide (ch ≥ max 1 (streamOf s (n.getD 64)).channels)), badParam 0x23)] ++ timedFaults c false),
     failIf i.isNone (notOwner 0x11), failIf (decide (k = 1) && n.isNone) (notOwner 0x20),
     failIf (decide (k ≥ 2) && decide (c.t ≠ 0)) (notOwner 0x22),
     timedFence s c, sinkCheck s c, timedLead s c]
    (timedYes s c (i.getD 128) (timedWant s c).2)

/-- Tenancies that depend on a bus through a path or a tone, an admitted one too, a capture stream or an assay unit on its
sink. -/
def dependsOn (s : State) (b t : Nat) : Bool × Bool :=
  ((s.audio.paths.any fun p => p.1 % 64 == b && decide ((inputOf s (p.1 / 64)).owner = t)) ||
     (s.charges.any fun c => c.kind == kAudio && decide (c.object < 8192) && c.object % 64 == b && decide (c.owner = t) &&
        decide (c.amount ≠ 0) && (c.toEpoch.isNone || decide (c.since > now s))) ||
     (s.audio.changes.any fun c => c.op == 0x97 && decide (c.owner = t) && !dbit c.desc 17 0 &&
        (List.range (dbits c.desc 47 0 3)).any fun i => dget c.desc (48 + i) 1 == b) ||
     ((List.range 8).any fun g => decide ((toneOf s g).owner = t) && decide ((toneOf s g).stage ≠ .silent) &&
        ((toneOf s g).buses.any fun x => x.1 == b)),
   ((List.range 64).any fun n => (streamOf s n).configured && (streamOf s n).capture && decide ((streamOf s n).owner = t) &&
      decide ((streamOf s n).firstBus ≤ b) && decide (b < (streamOf s n).firstBus + (streamOf s n).channels)) ||
     (match (busOf s b).sink with
      | some k => s.au.units.any fun u => decide (u.2.owner = t) && decide (u.2.snoop = 3) && decide (u.2.target = k.1)
      | none => false))

/-- Whether a bus is LOWLAT, or an admitted BUS command makes it so. -/
def lowlatNext (s : State) (b : Nat) : Bool :=
  match (s.audio.changes.filter fun c => c.op == 0x94 && decide (dbits c.desc 16 0 2 = 2) && c.obj == b).getLast? with
  | some c => dbit c.desc 19 0
  | none => (busOf s b).lowlat

def checkRouteBus (s : State) (c : Cmd) : Ruling :=
  let d := c.d
  let b := dget d 17 1
  let code := dget d 32 2
  let bus := busOf s b
  let loose := decide (code = 0xFFFF)
  let low := dbit d 19 0
  let route := dbits d 36 0 17
  let rd := dbits d 40 0 17
  let rateF := dbits d 44 0 4
  let lost := (List.range 17).any fun t =>
    (bus.route.testBit t && !route.testBit t && (dependsOn s b t).1) || (bus.read.testBit t && !rd.testBit t && (dependsOn s b t).2)
  let sink := if loose then none else some (code, dget d 34 1)
  let change := decide (sink ≠ bus.sink) || (loose && decide (rateF ≠ bus.rate))
  let lows := ((List.range 64).filter fun x => decide (x ≠ b) && lowlatNext s x).length
  ruling
    [lowest ([reserved (timedLayout ++ [(16, 0, 2), (17, 0, 8), (19, 0, 1), (32, 0, 24), (36, 0, 17), (40, 0, 17), (44, 0, 4)]) d,
       (decide (b > 63), badParam 0x11), (low && loose, badParam 0x13), (!loose && !isSink code, badParam 0x20),
       (if loose then decide (dget d 34 1 ≠ 0) else decide (dget d 34 1 ≥ max 1 (sinkChannels (unitOf s code) code)), badParam 0x22),
       (if loose then decide (rateF > 10) || (rate44 rateF != s.audio.family44) else decide (rateF ≠ 0), badParam 0x2C)] ++ timedFaults c false),
     failIf (decide (c.t ≠ 0)) (notOwner 0x10),
     timedFence s c, failIf (lost || (change && busUsed s b)) (badState 0x10), sinkCheck s c,
     failIf (low && decide (lows ≥ 4)) (badState 0x23), timedLead s c]
    (timedYes s c b (timedWant s c).2)

def checkAudioRoute (s : State) (c : Cmd) : Ruling :=
  let k := dbits c.d 16 0 2
  if k = 0 then checkRoutePath s c else if k = 1 then checkRouteSource s c else if k = 2 then checkRouteBus s c
  else no (badParam 0x10)

/-- The instant an admitted path change takes effect: its sample, or a_k + 80,000 for a C3 one (15 R649, R650). -/
def pathInstant (s : State) (f : Flight) : Nat :=
  if (f.aux.drop 3).headD 0 = 1 then f.admitted + 80000 else sampleTick s ((f.aux.drop 1).headD 0) ((f.aux.drop 2).headD 0)

/-- The charge of an admitted path (15 R639). -/
def commitAudioRoute (s : State) (f : Flight) : State :=
  if dbits f.desc 16 0 2 ≠ 0 || f.aux.isEmpty then s else
  let t0 := pathInstant s f
  s.modCharges fun _ => pathCharges s f.src.fn (f.aux.headD 128) (dget f.desc 18 1) (decide (dget f.desc 36 4 ≠ 0)) (dget f.desc 32 2)
    t0 (f.promised.getD t0)

def checkAudioGain (s : State) (c : Cmd) : Ruling :=
  let d := c.d
  let bus := decide (dget d 16 1 = 1)
  let i := inputNo s c.t (dget d 17 1)
  ruling
    [lowest ([reserved (timedLayout ++ [(16, 0, 8), (17, 0, 8), (32, 0, 16), (36, 0, 32)]) d,
       (decide (dget d 16 1 > 1), badParam 0x10), (bus && decide (dget d 17 1 > 63), badParam 0x11)] ++ timedFaults c false),
     failIf (bus && decide (c.t ≠ 0)) (notOwner 0x10), failIf (!bus && i.isNone) (notOwner 0x11),
     timedFence s c, sinkCheck s c, timedLead s c]
    (timedYes s c (if bus then dget d 17 1 else i.getD 128) (timedWant s c).2)

def checkAudioFilter (s : State) (c : Cmd) : Ruling :=
  let d := c.d
  let lim := decide (dget d 16 1 = 1)
  ruling
    [lowest ([reserved (timedLayout ++ [(16, 0, 16)] ++ (if lim then [(32, 0, 64)] else [(18, 0, 8), (32, 0, 160)])) d,
       (decide (dget d 16 1 > 1), badParam 0x10), (decide (dget d 17 1 > 63), badParam 0x11),
       (!lim && decide (dget d 18 1 > 9), badParam 0x12),
       (lim && decide (dget d 36 2 = 0), badParam 0x24), (lim && decide (dget d 38 2 = 0), badParam 0x26)] ++ timedFaults c false),
     failIf (decide (c.t ≠ 0)) (notOwner 0x11),
     timedFence s c, sinkCheck s c, timedLead s c]
    (timedYes s c (dget d 17 1) (timedWant s c).2)

def toneBuses (d : Descriptor) : List Nat := (List.range (dbits d 47 0 3)).map fun i => dget d (48 + i) 1

def toneFaults (s : State) (d : Descriptor) : List (Bool × Verdict) :=
  let bs := toneBuses d
  let n := bs.length
  let wave := dbits d 18 0 2
  let fs := hz (busRate s (bs.headD 0))
  let bad := fun (f : Nat) => decide (f < 320 || f ≥ 8 * fs)
  [(decide (wave = 3), badParam 0x12), (bad (dget d 32 2), badParam 0x20),
   (if wave = 2 then bad (dget d 34 2) else decide (dget d 34 2 ≠ 0), badParam 0x22),
   (if wave = 2 then decide (dget d 36 2 = 0) else decide (dget d 36 2 ≠ 0), badParam 0x24),
   (decide (dget d 38 2 = 0 || dget d 38 2 > dget d 42 2) || decide (dget d 38 2 + dget d 40 2 > dget d 42 2), badParam 0x26),
   (decide (dget d 40 2 = 0 || dget d 40 2 > dget d 42 2), badParam 0x28),
   (decide (n = 0 || n > 4) || (bs.any fun b => decide (busRate s b ≠ busRate s (bs.headD 0))), badParam 0x2F)] ++
  ((List.range 4).map fun i => (decide (dget d (48 + i) 1 > 63) || (decide (i ≥ n) && decide (dget d (48 + i) 1 ≠ 0)), badParam (0x30 + i))) ++
  ((List.range 4).map fun i => (decide (i ≥ n) && decide (dget d (52 + 2 * i) 2 ≠ 0), badParam (0x34 + 2 * i)))

/-- The unit a C1 tone names: none when the tenancy holds no unit (15 R659). -/
def toneAssay (s : State) (t : Nat) (d : Descriptor) : Option Bool :=
  if !(s.au.units.any fun u => u.2.owner == t) then none
  else some (s.au.units.any fun u => u.2.owner == t && u.2.loc == dget d 22 1 && u.2.enable && u.2.snoop == 3 &&
    some u.2.target == ((busOf s ((toneBuses d).headD 0)).sink.map (·.1)))

def checkAudioTone (s : State) (c : Cmd) : Ruling :=
  let d := c.d
  let g := dbits d 16 0 3
  let stop := dbit d 17 0
  let bs := toneBuses d
  let (_, t) := timedWant s c
  let obj := 8192 + g
  let e := epochOfTick s t
  let s' := { s with charges := placeCharges s.charges c.t kAudio obj t e [chargeFrom c.t 0x0B 0 bs.length e kAudio obj] }
  let silent := decide ((toneOf s g).stage = .silent) && !(s.audio.changes.any fun x => x.op == 0x97 && x.obj == g)
  ruling
    [lowest ([reserved (timedLayout ++ [(16, 0, 3), (17, 0, 1)] ++ (if stop then [] else [(18, 0, 2), (32, 0, 120), (47, 0, 3), (48, 0, 96)])) d] ++
       timedFaults c true ++ (if stop then [] else toneFaults s d)),
     failIf (decide ((toneOf s g).owner ≠ c.t)) (notOwner 0x10),
     if stop then none else ((List.range 4).zip bs).findSome? fun x => failIf (!(busOf s x.2).route.testBit c.t) (notOwner (0x30 + x.1)),
     failIf (!stop && isC3 c && chargeRises s.charges s'.charges kAudio obj e bs.length) (badParam 0x24),
     timedFence s c, sinkCheck s c,
     failIf (decide (classOf d = 1) && decide (toneAssay s c.t d = some false)) (badState 0x16),
     timedLead s c,
     failIf (!stop && !fits s' c.t 0x0B 0 e 0) (budget 0x0B 0),
     failIf (decide (classOf d = 1) && decide (toneAssay s c.t d = none)) (budget 0x0D 0)]
    (if stop && silent then yes .af (promptly c) [64] else timedYes s c g t)

def startAudioTone (s : State) (f : Flight) : State := if f.aux = [64] then finishDone s f else startTimedChange s f

/-- The samples over which a STOP of a generator releases: those of the START in force when it takes effect (15 R658). -/
def releaseTicks (s : State) (g : Nat) : Nat :=
  let v := (s.audio.changes.filter fun x => x.op == 0x97 && x.obj == g).foldl (fun v x => applyToneTo v x.desc) (toneOf s g)
  sampleOfs (busRate s ((v.buses.headD (0, 0)).1)) v.rel

/-- The charge of an admitted tone: one slot for each bus; after a STOP until the generator has released (15 R639, R658). -/
def commitAudioTone (s : State) (f : Flight) : State :=
  if f.aux.length < 2 then s else
  let g := f.aux.headD 0
  let at' := f.promised.getD (f.admitted + 80000)
  let e := epochOfTick s (if dbit f.desc 17 0 then at' + releaseTicks s g else at')
  s.modCharges fun cs => placeCharges cs f.src.fn kAudio (8192 + g) at' e
    (if dbit f.desc 17 0 then [] else [chargeFrom f.src.fn 0x0B 0 (toneBuses f.desc).length e kAudio (8192 + g)])

def checkStreamConfig (s : State) (c : Cmd) : Ruling :=
  let d := c.d
  let n := streamNo s c.t (dget d 16 1)
  let cap := dbit d 17 0
  let ch := dbits d 18 0 5
  let fr := dget d 24 4
  let per := dget d 28 2
  let fb := dbits d 30 0 6
  let len := fr * ch * sampleBytes (dbits d 17 1 2)
  let barred := cap && decide (c.t ≠ 0) && (List.range ch).any fun i => !(busOf s (fb + i)).read.testBit c.t
  ruling
    ([lowest [reserved [(16, 0, 8), (17, 0, 3), (18, 0, 5), (19, 0, 4), (20, 0, 28), (24, 0, 32), (28, 0, 16), (30, 0, 6), (32, 0, 64)] d,
        (decide (dbits d 17 1 2 = 3), badParam 0x11), (decide (ch = 0 || ch > 16), badParam 0x12),
        (decide (dbits d 19 0 4 > 10), badParam 0x13), (decide (dget d 20 4 % 64 ≠ 0), badParam 0x14),
        (decide (fr < 16 || fr > 65536), badParam 0x18), (decide (per < 16 || 2 * per > fr), badParam 0x1C),
        (if cap then decide (fb + ch > 64) else decide (fb ≠ 0), badParam 0x1E), (decide (dget d 32 8 % 64 ≠ 0), badParam 0x20)],
      failIf (!inShelves s c.t (dget d 20 4) len) (bounds 0x14), failIf (!inApertures s c.t (dget d 32 8) 64) (bounds 0x20),
      failIf n.isNone (notOwner 0x10), failIf barred (notOwner 0x1E),
      failIf (streamOf s (n.getD 64)).running (badState 0x10),
      failIf (placementTaken s c.t (dget d 20 4) len fun p => p.kind == 6 && p.object == n.getD 64) (badState 0x14)])
    (yes .f none [n.getD 64])

/-- Stream n of a tenancy takes the configuration of an AUDIO_STREAM_CONFIG. -/
def configureStream (s : State) (t n : Nat) (d : Descriptor) : State :=
  let len := dget d 24 4 * dbits d 18 0 5 * sampleBytes (dbits d 17 1 2)
  let s := modStream s n fun v =>
    { owner := v.owner, loc := v.loc, configured := true, capture := dbit d 17 0, format := dbits d 17 1 2, channels := dbits d 18 0 5,
      rate := dbits d 19 0 4, ref := dget d 20 4, frames := dget d 24 4, period := dget d 28 2, firstBus := dbits d 30 0 6,
      posAddr := dget d 32 8 }
  s.modSr fun r => { r with
    placed := (r.placed.filter fun p => !(p.kind = 6 && p.object = n)) ++ [⟨t, 6, n, dget d 20 4, len⟩] }

def startStreamConfig (s : State) (f : Flight) : State :=
  finishDone (configureStream s f.src.fn (f.aux.headD 64) f.desc) f

/-- The bytes of an AUDIO_PORT_CONFIG that its object uses. -/
def portLayout (u : Nat) : List (Nat × Nat × Nat) :=
  (16, 0, 8) ::
  (if isPort u then [(17, 0, 4), (18, 0, 4), (19, 0, 5), (20, 0, 6), (21, 0, 6), (22, 0, 32)]
   else if isDac u then [(17, 0, 1), (18, 0, 4)]
   else if isAdc u then [(17, 0, 1), (18, 0, 4), (26, 0, 5)]
   else if isJack u then [(17, 0, 1), (18, 0, 4), (26, 0, 5), (27, 0, 1)]
   else if u = 0x40 then [(29, 0, 1)] else [(28, 0, 5)])

def unitBound (s : State) (u : Nat) : Bool :=
  ((List.range 64).any fun b => match (busOf s b).sink with | some k => k.1 == u | none => false) ||
  ((List.range 128).any fun i => inputUnit s i == some u && decide ((inputOf s i).kind ≥ 2)) ||
  (s.audio.changes.any fun c => c.op == 0x94 &&
    ((decide (dbits c.desc 16 0 2 = 2) && dget c.desc 32 2 == u) ||
     (decide (dbits c.desc 16 0 2 = 1) && (
       (decide (dget c.desc 34 1 = 2) && dget c.desc 32 2 == u) || (decide (dget c.desc 34 1 = 3) && 0x18 + dget c.desc 32 2 == u) ||
       (decide (dget c.desc 34 1 = 4) && 0x20 + dget c.desc 32 2 == u)))))

def checkPortConfig (s : State) (c : Cmd) : Ruling :=
  let d := c.d
  let u := dget d 16 1
  let unit := isPort u || isDac u || isAdc u || isJack u
  let gen := decide (0x30 ≤ u) && decide (u ≤ 0x37)
  let on := dbit d 17 0
  let r := dbits d 18 0 4
  let w := fun (v : Nat) => !([16, 24, 32].contains v)
  let n := dbits d 19 0 5
  let bclk := n * dget d 20 1 * hz r
  let port := isPort u && on
  let tone := toneOf s (u - 0x30)
  let anyOn := s.audio.units.any fun e => e.2.enable
  ruling
    [lowest
       [reserved (portLayout u) d, (!(unit || gen || decide (u = 0x40)), badParam 0x10),
        (unit && on && (decide (r > 10) || (rate44 r != s.audio.family44)), badParam 0x12),
        (port && (decide (n < 2 || n > 16) || (dbit d 17 2 && decide (n ≠ 2)) ||
           decide (bclk > (if s.audio.family44 then 22579200 else 24576000))), badParam 0x13),
        (port && w (dget d 20 1), badParam 0x14), (port && (w (dget d 21 1) || decide (dget d 21 1 > dget d 20 1)), badParam 0x15),
        (port && decide (dget d 22 2 ≥ 2 ^ n), badParam 0x16), (port && decide (dget d 24 2 ≥ 2 ^ n), badParam 0x18),
        ((isAdc u || isJack u) && decide (dbits d 26 0 5 > 28), badParam 0x1A), (gen && decide (dbits d 28 0 5 > 16), badParam 0x1C)],
     failIf ((unit && (unitOf s u).enable && (on || unitBound s u)) ||
       (decide (u = 0x40) && (dbit d 29 0 != s.audio.family44) && anyOn) ||
       (gen && (decide (tone.stage ≠ .silent) || (s.charges.any fun x => x.kind == kAudio && x.object == 8192 + (u - 0x30) && decide (x.amount ≠ 0) && (x.toEpoch.isNone || decide (x.since > now s)))) &&
         decide (tone.owner ≠ dbits d 28 0 5))) (badState 0x10)]
    (yes .af)

/-- AUDIO_PORT_CONFIG takes hold at an epoch start (15 R671): an enabled sink's S0 is that instant (R641). -/
def applyPortConfig (s : State) (d : Descriptor) : State :=
  let u := dget d 16 1
  if u = 0x40 then s.modAudio fun a => { a with family44 := dbit d 29 0 }
  else if 0x30 ≤ u && u ≤ 0x37 then s.modAudio fun a => { a with tones := tset {} a.tones (u - 0x30) { owner := dbits d 28 0 5 } }
  else modUnit s u fun _ =>
    { enable := dbit d 17 0, target := isPort u && dbit d 17 1, i2s := dbit d 17 2, delay := dbit d 17 3, rate := dbits d 18 0 4,
      slotCount := dbits d 19 0 5, slotBits := dbits d 20 0 6, sampleBits := dbits d 21 0 6, slotsOut := dget d 22 2,
      slotsIn := dget d 24 2, gain := dbits d 26 0 5, bias := dbit d 27 0, driver := dbit d 17 0, s0 := now s, lastEdge := now s }

def checkJackStatus (s : State) (c : Cmd) : Ruling :=
  ruling (recordChecks s c.t (dget c.d 24 8) 64 0x18 [reserved [(16, 0, 8), (24, 0, 64)] c.d, (decide (dget c.d 16 1 > 1), badParam 0x10)]) (yes .f)

def jackRecord (s : State) (j : Nat) : List Byte :=
  let v := jackOf s j
  leBytes 1 j ++ leBytes 1 (v.type + 8 * b2n (driverOn s j) + 16 * v.buttons) ++ zeros 2 ++ leBytes 4 v.inserts ++
  leBytes 8 v.changeTick ++ leBytes 4 v.load ++ zeros 44

def startJackStatus (s : State) (f : Flight) : State :=
  finishDone (hostWrite s (dget f.desc 24 8) (jackRecord s (dget f.desc 16 1))) f

/-- AD_JACK[j]. -/
def adJack (s : State) (j : Nat) : Nat :=
  let v := jackOf s j
  v.type + 8 * b2n (driverOn s j) + 256 * v.buttons + 65536 * min 0xFFFF v.inserts

end Sys2Proof.Machine
end

