-- ==== Sys2Proof/Machine/Crc.lean ====
section
/-! DEFINITION. The check algorithms (10 R457). -/

namespace Sys2Proof.Machine

/-- The parameters of a check algorithm; a reflected one keeps its polynomial reflected. -/
structure CrcAlgo where
  width : Nat
  poly : Nat
  init : Nat
  reflected : Bool
  xorOut : Nat
  deriving DecidableEq, Repr

/-- The four algorithms of R457, by ALGO. -/
def crcAlgo (n : Nat) : CrcAlgo :=
  if n = 0 then { width := 32, poly := 0x82F63B78, init := 0xFFFFFFFF, reflected := true, xorOut := 0xFFFFFFFF }
  else if n = 1 then { width := 32, poly := 0xEDB88320, init := 0xFFFFFFFF, reflected := true, xorOut := 0xFFFFFFFF }
  else if n = 2 then { width := 16, poly := 0x1021, init := 0xFFFF, reflected := false, xorOut := 0 }
  else { width := 64, poly := 0x42F0E1EBA9EA3693, init := 0, reflected := false, xorOut := 0 }

/-- One bit of the division. -/
def crcBit (a : CrcAlgo) (v : Nat) : Nat :=
  if a.reflected then if v.testBit 0 then (v / 2) ^^^ a.poly else v / 2
  else if v.testBit (a.width - 1) then (v * 2 % 2 ^ a.width) ^^^ a.poly else v * 2

def crcBits (a : CrcAlgo) : Nat → Nat → Nat
  | 0, v => v
  | n + 1, v => crcBits a n (crcBit a v)

/-- One byte fed into the check register. -/
def crcByte (a : CrcAlgo) (v : Nat) (b : Byte) : Nat :=
  crcBits a 8 (if a.reflected then v ^^^ b.toNat else v ^^^ (b.toNat * 2 ^ (a.width - 8)))

/-- Bytes fed in order. -/
def crcFeed (a : CrcAlgo) (v : Nat) (bs : List Byte) : Nat := bs.foldl (crcByte a) v

/-- The check value of bytes. -/
def crcOf (a : CrcAlgo) (bs : List Byte) : Nat := crcFeed a a.init bs ^^^ a.xorOut

/-- n zero bytes fed in. -/
def crcZeros (a : CrcAlgo) : Nat → Nat → Nat
  | 0, v => v
  | n + 1, v => crcZeros a n (crcByte a v 0)

/-- CRC-32C with ordinary init. -/
def crc32c (bs : List Byte) : Nat := crcOf (crcAlgo 0) bs

end Sys2Proof.Machine
end

