-- ==== Sys2Proof/Machine/LayerOps.lean ====
section
/-! DEFINITION. Layers (08): payloads, the checks of the layer commands, arrangements and policies, the clearing and
ownership maps, and what a latch does. -/

namespace Sys2Proof.Machine

/-- The layer state a LAYER_UPDATE carries (08). With ENABLE clear only that counts. -/
def layerPayload (d : Descriptor) : LayerState :=
  if !dbit d 19 0 then {} else
  { enable := true, format := dget d 17 1, z := dbits d 18 0 4, isOpaque := dbit d 19 1, premult := dbit d 19 2,
    ltc := dbit d 19 3, hFlip := dbit d 19 4, vFlip := dbit d 19 5, addr := dbits d 24 0 40, plane2 := dget d 32 4,
    pitch64 := dget d 36 2, srcX := dget d 40 2, srcY := dget d 42 2, srcW := dget d 44 2, srcH := dget d 46 2,
    dstX := dint16 d 48, dstY := dint16 d 50, dstW := dget d 52 2, dstH := dget d 54 2, galpha := dbits d 56 0 10,
    filter := dbits d 56 10 2, csc := dbits d 56 12 3, assay := dget d 58 1 }

/-- A colour channel above its alpha in a working pixel (08 R348, R396). -/
def overAlpha (p : Nat) : Bool :=
  decide (bits p 0 10 > bits p 30 10) || decide (bits p 10 10 > bits p 30 10) || decide (bits p 20 10 > bits p 30 10)

/-- A latch flight keeps: the slot, whether it names a frame, the frame, the frames held, and whether it is untested
(0), ready (1) or held (2). -/
def auxSlot (f : Flight) : Nat := f.aux.headD 0
def auxNamed (f : Flight) : Bool := decide ((f.aux.drop 1).headD 0 = 1)
def auxFrame (f : Flight) : Nat := (f.aux.drop 2).headD 0
def auxHeld (f : Flight) : Nat := (f.aux.drop 3).headD 0
def auxState (f : Flight) : Nat := (f.aux.drop 4).headD 0
def auxHead (f : Flight) : Nat := (f.aux.drop 5).headD 0

/-- Whether a flight is an admitted change that waits for a latch of a head. -/
def waitsLatch (f : Flight) (h : Nat) : Bool := match f.phase with | .latch g _ => g == h | _ => false

/-- Frames from the current one to the one a latch flight is for. -/
def flightAhead (s : State) (h : Nat) (f : Flight) : Nat := (auxFrame f + 2 ^ 32 - (headOf s h).frame) % 2 ^ 32

/-- The owner of a layer in an arrangement: 0x1D for a secure one (19 R767). -/
def mapOwner (v : Slot) : Nat := if v.secure then 0x1D else v.owner

/-- The state a layer is composed with: a secure layer's source is an RGBA8888 buffer (19 R767). -/
def pixelState (v : Slot) : LayerState := if v.secure then { v.cur with format := 0x01, ltc := false } else v.cur

/-- A layer as a head's pipe and stager take it: slot, owner in maps and state (08 R380; 19 R767). -/
def shownLayer (s : State) (i : Nat) : Nat × Nat × LayerState := (i, mapOwner (slotOf s i), pixelState (slotOf s i))

/-- The layers of a head as they stand. -/
def currentArrangement (s : State) (h : Nat) : List (Nat × Nat × LayerState) :=
  ((boundTo s h).filter fun i => !(slotOf s i).moving).map (shownLayer s)

/-- Whether a flight is an admitted change for a latch of a head, whether it waits for it already or still for its first completion
or its fence (08 R374). -/
def admittedFor (f : Flight) (h : Nat) : Bool :=
  waitsLatch f h || (accepted f && (decide (f.phase = .first) || decide (f.phase = .fence)) && auxHead f == h &&
    decide ((f.aux.drop 1).headD 0 ≠ 2) && (f.op == 0x31 || f.op == 0x32 || f.op == 0x34 || f.op == 0x35 || f.op == 0x43))

/-- The place of a flight's latch in a head's order: what has passed comes with the current frame's. -/
def latchKey (s : State) (h : Nat) (f : Flight) : Nat := if flightAhead s h f < 2 ^ 31 then flightAhead s h f else 0

/-- Inserts a change after those of its own latch and of earlier ones. -/
def insertByLatch (s : State) (h : Nat) (f : Flight) : List Flight → List Flight
  | [] => [f]
  | g :: l => if latchKey s h f < latchKey s h g then f :: g :: l else g :: insertByLatch s h f l

/-- The flights in the order in which a head's latches take them: by latch, then in issue order (08 R384). -/
def inLatchOrder (s : State) (h : Nat) : List Flight := s.flights.foldl (fun l f => insertByLatch s h f l) []

/-- The layers of a head as they stand after the latch n frames ahead: slot, owner and state. -/
def arrangement (s : State) (h n : Nat) : List (Nat × Nat × LayerState) :=
  let base := (boundTo s h).map fun i => (i, mapOwner (slotOf s i),
    if (slotOf s i).moving then ({} : LayerState) else (slotOf s i).cur)
  (inLatchOrder s h).foldl (fun l f =>
    if f.op = 0x33 && accepted f then
      let sl := slotOf s (auxSlot f)
      if auxHead f = h then
        if (flightAhead s h f ≤ n || flightAhead s h f ≥ 2 ^ 31) && !(l.any fun e => e.1 == auxSlot f) then
          l ++ [(auxSlot f, sl.owner, sl.cur)]
        else l
      else if (waitsLatch f h || (decide (f.phase = .first) && decide (sl.head = h))) && decide (((f.aux.drop 6).headD 0 + 2 ^ 32 - (headOf s h).frame) % 2 ^ 32 ≤ n) then
        l.filter fun e => e.1 ≠ auxSlot f
      else l
    else if f.op = 0x32 && decide (f.phase = .epoch) then l.filter fun e => e.1 ≠ auxSlot f
    else if !(admittedFor f h && decide (flightAhead s h f ≤ n || flightAhead s h f ≥ 2 ^ 31)) then l
    else if f.op = 0x31 then
      let st := layerPayload f.desc
      let old := ((l.find? fun e => e.1 == auxSlot f).map (·.2.2)).getD {}
      l.map fun e =>
        if e.1 = auxSlot f then (e.1, e.2.1, st)
        else if st.enable && old.enable && e.2.2.enable && e.2.1 == (slotOf s (auxSlot f)).owner && e.2.2.z == st.z then
          (e.1, e.2.1, { e.2.2 with z := old.z })
        else e
    else if f.op = 0x32 then l.filter fun e => e.1 ≠ auxSlot f
    else l) base

/-- The destination rectangle of a layer clipped to the active area (08 R366). -/
def clipped (c : HeadCfg) (st : LayerState) : Rect :=
  { x0 := max 0 st.dstX, y0 := max 0 st.dstY,
    x1 := min c.hActive (st.dstX + st.dstW), y1 := min c.vActive (st.dstY + st.dstH) }

def Rect.isEmpty (r : Rect) : Bool := decide (r.x1 ≤ r.x0) || decide (r.y1 ≤ r.y0)

def Rect.meets (a b : Rect) : Bool :=
  decide (a.x0 < b.x1) && decide (b.x0 < a.x1) && decide (a.y0 < b.y1) && decide (b.y0 < a.y1) &&
  !a.isEmpty && !b.isEmpty

def Rect.contains (r : Rect) (x y : Int) : Bool :=
  decide (r.x0 ≤ x) && decide (x < r.x1) && decide (r.y0 ≤ y) && decide (y < r.y1)

/-- Whether the destinations of two layers overlap on a head (08 R373). -/
def overlap (c : HeadCfg) (a b : LayerState) : Bool := (clipped c a).meets (clipped c b)

/-- A tenancy's policy on a head (08 R372). -/
def policyOf (hd : Head) (t : Nat) : Policy := tget {} hd.policy t

def covers (hd : Head) (a b : Nat) : Bool := a == b || (policyOf hd a).cover.testBit b

/-- Whether an arrangement is permitted under a head's policies (08 R373) and above its secure layers (19 R768). -/
def permitted (hd : Head) (c : HeadCfg) (l : List (Nat × Nat × LayerState)) : Bool :=
  let on := l.filter fun e => e.2.2.enable
  on.all fun e =>
    (decide (e.2.1 > 16) || (decide ((policyOf hd e.2.1).zMin ≤ e.2.2.z) && decide (e.2.2.z ≤ (policyOf hd e.2.1).zMax))) &&
    on.all fun g => !(decide (g.2.1 = 0x1D) && decide (e.2.2.z > g.2.2.z) && overlap c e.2.2 g.2.2) &&
      (!(decide (e.2.1 ≠ g.2.1) && decide (e.2.2.z > g.2.2.z) && overlap c e.2.2 g.2.2) ||
      decide (e.2.1 > 16) || covers hd e.2.1 g.2.1)

/-- The policy a LAYER_POLICY carries. -/
def policyPayload (d : Descriptor) : Policy := { zMin := dbits d 19 0 4, zMax := dbits d 19 4 4, cover := dbits d 20 0 17 }

/-- A head with its policy and with each that an accepted LAYER_POLICY will give it (08 R375). -/
def policyHeads (s : State) (h : Nat) : List Head :=
  let hd := headOf s h
  hd :: (s.flights.filter fun f => f.op == 0x35 && accepted f && decide (f.phase ≠ .first) && decide (dget f.desc 16 1 = h) &&
    dbit f.desc 18 0).map fun f => { hd with policy := tset {} hd.policy (dget f.desc 17 1) (policyPayload f.desc) }

/-- A layer that takes its pipe's scaler (08 R344, R348). -/
def takesScaler (st : LayerState) : Bool :=
  st.enable && !isSolid st.format && (decide (st.srcW ≠ st.dstW) || decide (st.srcH ≠ st.dstH))

/-- Whether any layer of an arrangement but one takes its pipe's scaler. -/
def anyScaled (l : List (Nat × Nat × LayerState)) (slot : Nat) : Bool := l.any fun e => decide (e.1 ≠ slot) && takesScaler e.2.2

/-- The frames ahead, after frame n, at whose latches changes already admitted for a head take effect. -/
def changesAfter (s : State) (h n : Nat) (p : Flight → Bool) : List Nat :=
  (s.flights.filter fun f => auxHead f == h && (admittedFor f h || (f.op == 0x33 && accepted f)) && decide (n < flightAhead s h f)
    && decide (flightAhead s h f < 2 ^ 31) && p f).map (flightAhead s h)

/-- The first frame after frame n at which an admitted change of the layer itself leaves it unscaled. -/
def unscaledFrom (s : State) (h n slot : Nat) : Option Nat :=
  ((changesAfter s h n fun f => auxSlot f == slot && ((f.op == 0x31 && !dbit f.desc 19 7) || f.op == 0x32)).filter fun i =>
    !((arrangement s h i).any fun e => decide (e.1 = slot) && takesScaler e.2.2)).min?

/-- Whether another layer of the heads of a pipe takes the scaler at any latch from the one n frames ahead on head h, for
as long as the changes already admitted leave the layer scaled (08 R344). -/
def scalerTakenIn (s : State) (pipe h n slot : Nat) : Bool :=
  let l := match (headOf s h).cfg with | some c => latchOf c | none => 0
  let gone := unscaledFrom s h n slot
  let mine := (n :: changesAfter s h n fun _ => true).filter fun i => match gone with | some j => decide (i < j) | none => true
  let t := (lineTick s h n l).toNat
  let ends := gone.map fun j => lineTick s h j l
  (mine.any fun i => anyScaled (arrangement s h i) slot) || (List.range 12).any fun g =>
    match (headOf s g).cfg with
    | some c => decide (g ≠ h) && decide (c.pipe = pipe) &&
        (let m := latchAfter s g (t + 1)
         let before := if m = 0 then (boundTo s g).map fun i => (i, mapOwner (slotOf s i), (slotOf s i).cur) else arrangement s g (m - 1)
         let later := (m :: changesAfter s g m fun _ => true).filter fun i =>
           match ends with | some e => decide (lineTick s g i (latchOf c) < e) | none => true
         anyScaled before slot || later.any fun i => anyScaled (arrangement s g i) slot)
    | none => false

/-- The same, whether or not the updates that wait for a job are held (08 R389). -/
def scalerTaken (s : State) (pipe h n slot : Nat) : Bool :=
  scalerTakenIn s pipe h n slot ||
    scalerTakenIn { s with flights := s.flights.filter fun f => !(f.op == 0x31 && dbit f.desc 19 7) } pipe h n slot

/-- The buffer conditions that BAD_PARAM refuses, and the field ranges of LAYER_UPDATE (08 R345 to R367). -/
def layerFieldFaults (d : Descriptor) (st : LayerState) : List (Bool × Verdict) :=
  let solid := isSolid st.format
  let (b1, b2) := planeBpp st.format
  let pitch := st.pitch64 * 64
  let u1 := planeLine st b1
  let u2 := planeLine st b2
  let need := fun u => if st.ltc then u + ceilDiv u 64 else u
  let l := min 12 (49152 / max 1 st.srcW)
  let bad16 := fun (v : Nat) => decide (v = 0 || v > 8192)
  -- the scaling limits of R364 concern sizes that R349 admits
  [(!validFormat st.format, badParam 0x11),
   (solid && st.ltc, badParam 0x13),
   (if solid then overAlpha st.addr else decide (st.addr % 64 ≠ 0), badParam 0x18),
   (if solid then decide (st.plane2 ≠ 0)
    else decide (st.plane2 % 64 ≠ 0) || (!twoPlanes st.format && decide (st.plane2 ≠ 0)), badParam 0x20),
   (if solid then decide (st.pitch64 ≠ 0)
    else decide (st.pitch64 = 0) || decide (pitch < need u1) || (twoPlanes st.format && decide (pitch < need u2)),
    badParam 0x24),
   (if solid then decide (st.srcX ≠ 0)
    else (isYcc st.format && decide (st.srcX % 2 ≠ 0)) || (st.ltc && decide (st.srcX ≠ 0)) ||
      (isIndexed st.format && decide (st.srcX * meanBpp st.format % 8 ≠ 0)), badParam 0x28),
   (if solid then decide (st.srcY ≠ 0) else is420 st.format && decide (st.srcY % 2 ≠ 0), badParam 0x2A),
   (bad16 st.srcW || (isYcc st.format && decide (st.srcW % 2 ≠ 0)) ||
      (!solid && !bad16 st.srcH && !bad16 st.dstW && !bad16 st.dstH && (decide (st.srcW > 8 * st.dstW) || decide (st.dstW > 16 * st.srcW) ||
        decide (st.dstH > 16 * st.srcH) || decide (st.srcH > (l - 1) * st.dstH))), badParam 0x2C),
   (bad16 st.srcH || (is420 st.format && decide (st.srcH % 2 ≠ 0)), badParam 0x2E),
   (decide (st.dstX < -8192 || st.dstX > 8191), badParam 0x30),
   (decide (st.dstY < -8192 || st.dstY > 8191), badParam 0x32),
   (bad16 st.dstW, badParam 0x34),
   (bad16 st.dstH, badParam 0x36),
   (st.isOpaque && decide (st.galpha < 1023), badParam 0x38),
   (decide (st.filter = 3) || (isYcc st.format && decide (st.csc ≥ 6)), badParam 0x39),
   (decide (classOf d ≠ 1) && decide (dget d 58 1 ≠ 0xFF), badParam 0x3A)]

/-- Whether the last byte of each plane lies in a plot of the tenancy (08 R349). -/
def bufferInPlots (s : State) (t : Nat) (st : LayerState) : Bool :=
  let (b1, b2) := planeBpp st.format
  let need := fun u => if st.ltc then u + ceilDiv u 64 else u
  let pitch := st.pitch64 * 64
  let last1 := st.srcY + st.srcH - 1
  let last2 := if is420 st.format then last1 / 2 else last1
  isSolid st.format ||
    (inPlots s t st.addr (pitch * last1 + need (planeLine st b1)) &&
     (!twoPlanes st.format || inPlots s t (st.addr + st.plane2) (pitch * last2 + need (planeLine st b2))))

def layoutUpdate : List (Nat × Nat × Nat) :=
  [(16, 0, 16), (18, 0, 4), (19, 0, 8), (20, 0, 32), (24, 0, 40), (32, 0, 64), (40, 0, 96), (52, 0, 32), (56, 0, 15),
   (58, 0, 8), (60, 0, 32)]

/-- Whether a job number has been issued in a context: not zero and not in the future of the latest (08 R388). -/
def jobIssued (latest n : Nat) : Bool :=
  decide (n ≠ 0) && decide (latest ≠ 0) && decide ((n + 2 ^ 32 - latest) % 2 ^ 32 = 0 || (n + 2 ^ 32 - latest) % 2 ^ 32 ≥ 2 ^ 31)

/-- A later admitted LAYER_FREE bars updates for later latches (08 R395). -/
def freeAdmitted (s : State) (h slot n : Nat) : Bool :=
  s.flights.any fun f => f.op == 0x32 && admittedFor f h && auxSlot f == slot && decide (flightAhead s h f < n)

/-- Updates of a layer held, or admitted for a later latch. -/
def updatePending (s : State) (slot : Nat) (p : Flight → Bool) : Bool :=
  s.flights.any fun f => f.op == 0x31 && auxSlot f == slot && decide (f.phase ≠ .first) && p f

/-- A move of a layer that is admitted and has not joined its new head: the new head and its frame. -/
def moveOf (s : State) (slot : Nat) : Option Flight :=
  s.flights.find? fun f => f.op == 0x33 && auxSlot f == slot && decide (f.phase ≠ .first)

/-- Head states that refuse layer work: disabled (09 R447) or inside an ABORT_RESTART (09 R431). -/
def headRefuses (s : State) (h : Nat) : Bool :=
  decide ((headOf s h).state = .disabled) || (headOf s h).aborting

/-- The charge of a layer slot committed for epoch e, which C3 must not exceed (08 R386). -/
def chargeOf (s : State) (res slot e : Nat) : Nat :=
  (s.charges.filter fun c => c.kind == kLayer && c.object == slot && c.resource == res && decide (c.fromEpoch ≤ e) &&
    (match c.toEpoch with | some l => decide (e ≤ l) | none => true)).foldl (fun n c => max n c.amount) 0

/-- Which charges of a layer an update would raise above what is committed (08 R386). -/
structure Raised where
  compose : Bool
  fetch : Bool
  shelves : Bool
  shadow : Bool

/-- The lowest offset of a field that differs from the current state and on which a raised charge depends (08 R386). -/
def raisedField (o n : LayerState) (r : Raised) : Nat :=
  let bytes := r.fetch || r.shelves || r.shadow
  if (bytes && decide (o.format ≠ n.format)) || (r.compose && isSolid o.format != isSolid n.format) then 0x11
  else if bytes && o.ltc != n.ltc then 0x13
  else if o.srcW ≠ n.srcW then 0x2C else if o.srcH ≠ n.srcH then 0x2E
  else if r.shadow && decide (o.dstX ≠ n.dstX) then 0x30 else if r.shadow && decide (o.dstY ≠ n.dstY) then 0x32
  else if r.shadow && decide (o.dstW ≠ n.dstW) then 0x34
  else if (r.shelves || r.shadow) && decide (o.dstH ≠ n.dstH) then 0x36 else 0x13

/-- The C3 refusals for what an update does to its layer (08 R386), against the layer's state at the update's latch, earlier
admitted updates applied. A layer being enabled is refused for its ENABLE, whatever it would charge. -/
def c3Faults (s : State) (slot : Nat) (c : HeadCfg) (h e : Nat) (shadow : Bool) (cur st : LayerState) : Option Verdict :=
  let lead := (stagerOf s h).lead
  let up := fun (res amount : Nat) => decide (amount > chargeOf s res slot e)
  let r : Raised := { compose := up 0x02 (composeCharge s c st), shadow := shadow, shelves := up 0x05 (ringShelves s c lead st)
                      fetch := up 0x03 (fetchCharge s c st) || up 0x04 (stagingCharge s c lead st) }
  lowest [(st.enable && !cur.enable, badParam 0x13),
    ((cur.enable || !st.enable) && (r.compose || r.fetch || r.shelves || r.shadow), badParam (raisedField cur st r))]

/-- The state with one more update of a slot, admitted last, for the latch n frames ahead (08 R374). -/
def withUpdate (s : State) (c : Cmd) (sl h n : Nat) : State :=
  s.modFlights fun l => l ++ [{ id := 0, src := c.src, op := 0x31, desc := c.d, admitted := c.a, verdict := { status := 1 },
                                phase := .latch h 0, aux := [sl, 1, frameNo s h n, 0, 1, h] }]

/-- The head's layers at the latch n frames ahead and at every later one at which an admitted change takes effect (08 R374, R375). -/
def arrangementsFrom (s : State) (h n : Nat) : List (List (Nat × Nat × LayerState)) :=
  (n :: changesAfter s h n fun _ => true).map (arrangement s h)

/-- Whether two enabled layers of an arrangement share a z position (08 R370). -/
def sharesZ (l : List (Nat × Nat × LayerState)) : Bool :=
  l.any fun x => l.any fun y => decide (x.1 ≠ y.1) && x.2.2.enable && y.2.2.enable && decide (x.2.2.z = y.2.2.z)

/-- Whether a layer has a filter table at the latch n frames ahead: loaded, or admitted for that latch or an earlier one
(08 R363, 07 R306). -/
def hasFilters (s : State) (h sl n : Nat) : Bool :=
  (slotOf s sl).filters.isSome || s.flights.any fun f =>
    f.op == 0x34 && auxSlot f == sl && accepted f && dget f.desc 17 1 == 1 && (waitsLatch f h || f.phase == .fence) && decide (latchKey s h f ≤ n)

/-- Whether a tenancy holds an assay unit at all: without one its C1 work meets 04 R162 (log entry 116). -/
def holdsAssay (s : State) (t : Nat) : Bool := s.au.units.any fun u => u.2.owner == t

/-- LAYER_UPDATE (08 R343 to R397). `assayOk` says whether an assay unit of the tenancy is configured on the head,
`latestJob` gives a local context's latest job number; `shadowRise` says whether a slot of a head in a new state raises a shadow
charge in an epoch. -/
def checkLayerUpdate (assayOk : State → Nat → Nat → Nat → Bool) (latestJob : State → Nat → Nat → Option Nat)
    (shadowRise : State → Nat → Nat → LayerState → Nat → Bool)
    (s : State) (c : Cmd) : Ruling :=
  let d := c.d
  let st := layerPayload d
  let on := st.enable
  let cls := classOf d
  let slot := slotNo s c.t (dget d 16 1)
  let sl := slot.getD 128
  let mv := moveOf s sl
  let h := match mv with | some f => auxHead f | none => (slotOf s sl).head
  let hc := (headOf s h).cfg.getD {}
  let wait := dbit d 19 7
  let job := latestJob s c.t (dget d 38 2)
  let want := requestedLatch s h c.a (dbit d 19 6 || cls = 3) (dget d 20 4)
  let n := (want.map (·.1)).getD 0
  let at' := (want.map (·.2)).getD c.a
  let e := epochOfTick s at'
  let s' := { s with charges := placeCharges s.charges c.t kLayer sl at' e (layerCharges s hc (stagerOf s h).lead c.t sl st e) }
  let arr := arrangement s h n
  let old := ((arr.find? fun x => x.1 == sl).map (·.2.2)).getD {}
  let arrs := arrangementsFrom (withUpdate s c sl h n) h n
  let hd := headOf s h
  let dis := decide (hd.state = .disabled)
  ruling
    [lowest ([reserved (if on then layoutUpdate else [(16, 0, 8), (17, 0, 16), (19, 0, 8), (20, 0, 32), (24, 0, 320)]) d,
        (dbit d 19 6 && decide (dget d 20 4 ≠ 0), badParam 0x14),
        (decide (cls = 3) && decide (dget d 20 4 ≠ 0), badParam 0x14),
        (decide (cls = 3) && dbit d 19 6 && decide (dget d 20 4 = 0), badParam 0x13)] ++
       (if on then layerFieldFaults d st ++
          [(!wait && decide (dget d 38 2 ≠ 0), badParam 0x26), (!wait && decide (dget d 60 4 ≠ 0), badParam 0x3C)]
        else [])),
     failIf (on && !bufferInPlots s c.t st) (bounds 0x18),
     failIf slot.isNone (notOwner 0x10),
     failIf (wait && job.isNone) (notOwner 0x26),
     failIf (wait && !jobIssued (job.getD 0) (dget d 60 4)) (badParam 0x3C),
     if cls = 3 && !dis then c3Faults s sl hc h e (shadowRise s h sl st e) old st else none,
     latchFence s h c want,
     failIf (dis || hd.aborting || (slotOf s sl).secure) (badState 0x10),
     failIf (freeAdmitted s h sl n) (badState 0x10),
     failIf (match mv with | some f => decide (flightAhead s h f > n) && decide (flightAhead s h f < 2 ^ 31) | none => false)
       (badState 0x10),
     failIf (on && decide (st.filter = 2) && !hasFilters s h sl n) (badState 0x39),
     failIf (cls = 1 && holdsAssay s c.t && !assayOk s c.t (dget d 58 1) h) (badState 0x3A),
     failIf (takesScaler st && scalerTaken s hc.pipe h n sl) (badState 0x34),
     failIf (arrs.any sharesZ) (badState 0x12),
     failIf (!(policyHeads s h).all fun p => arrs.all (permitted p hc)) (badState 0x30),
     if cls = 3 then none else leadCheck s h c.a want,
     if cls = 3 then none else firstSome (placedChecks s' c.t e
       [(0x02, hc.pipe, composeCharge s hc st), (0x03, hc.pipe, fetchCharge s hc st),
        (0x04, 0, stagingCharge s hc (stagerOf s h).lead st), (0x05, 0, ringShelves s hc (stagerOf s h).lead st)]),
     failIf (cls = 1 && !holdsAssay s c.t) (budget 0x0D 0)]
    (yes .af (if cls = 3 then none else some at')
      [sl, if cls = 3 then 0 else 1, frameNo s h n, 0, if wait then 0 else 1, h])

/-- The lowest local shelves of a tenancy that hold no ring and no recorded structure (03 R118). -/
def freeShelves (s : State) (t n : Nat) : List Nat :=
  ((((tenOf s t).shelves.map (·.1)).filter fun i => !shelfTaken s t i (fun _ => false))).take n

/-- The staging ring a slot has in the shelves of an owner. -/
def ringOfSlot (s : State) (slot o : Nat) : Ring :=
  (s.sr.rings.find? fun g => g.slot == slot && g.owner == o).getD { slot := slot, owner := o, shelves := [] }

def setRing (s : State) (g : Ring) : State :=
  let rest := s.sr.rings.filter fun r => !(r.slot == g.slot && r.owner == g.owner)
  s.modSr fun r => { r with rings := if g.shelves.isEmpty && g.spare.isEmpty then rest else rest ++ [g] }

/-- The admitted changes that may give a layer another ring. -/
def ringChanges (s : State) (slot : Nat) : List Nat :=
  (s.flights.filter fun f => (f.op == 0x31 || f.op == 0x33) && accepted f && auxSlot f == slot).map (·.id)

/-- Shelves are kept for the ring of n shelves that an admitted change will need (03 R118, 04 R174; log entry 139): those
kept for the layer already, then the lowest free ones. -/
def reserveRing (s : State) (slot t n id : Nat) : State :=
  let g := ringOfSlot s slot t
  let more := (keptShelves s g).eraseDups.take (n - g.shelves.length)
  let new := freeShelves s t (n - g.shelves.length - more.length)
  setRing s { g with spare := g.spare ++ (more ++ new).map fun i => (i, id) }

/-- The staging ring of a layer is placed anew (03 R117, R118): among its own shelves, those kept for it and the free ones,
it takes the lowest. What it gives up stays kept for the changes still admitted. -/
def placeRing (s : State) (slot t n : Nat) : State :=
  let old := ringOfSlot s slot t
  let own := old.shelves ++ (keptShelves s old).eraseDups
  let s := setRing s { old with shelves := [], spare := [] }
  let sh := freeShelves s t n
  let left := (ringChanges s slot).flatMap fun id => (own.filter fun i => !sh.contains i).map fun i => (i, id)
  setRing s { slot := slot, owner := t, shelves := sh, spare := left }

/-- The charges, and the shelves for the ring, that an admitted LAYER_UPDATE commits (04 R174). A C3 update commits none that rise. -/
def commitLayerUpdate (s : State) (f : Flight) : State :=
  let st := layerPayload f.desc
  let sl := auxSlot f
  let h := auxHead f
  match (headOf s h).cfg with
  | none => s
  | some c =>
    let lead := (stagerOf s h).lead
    let at' := f.promised.getD (lineTick s h (flightAhead s h f) (latchOf c)).toNat
    let e := epochOfTick s at'
    let s := reserveRing s sl f.src.fn (ringShelves s c lead st) f.id
    s.modCharges fun cs => placeCharges cs f.src.fn kLayer sl at' e (layerCharges s c lead f.src.fn sl st e)

/-- LAYER_ALLOC (08 R342). -/
def checkLayerAlloc (s : State) (c : Cmd) : Ruling :=
  let h := dget c.d 16 1
  let g := (tenOf s c.t).grants
  let pipe := match (headOf s h).cfg with | some k => k.pipe | none => 0
  let mine := ((List.range 128).filter fun i => decide ((slotOf s i).owner = c.t)).length
  ruling
    [lowest [reserved [(16, 0, 8)] c.d, (decide (h ≥ 12), badParam 0x10)],
     failIf (!g.heads.testBit h) (notOwner 0x10),
     failIf (headOf s h).cfg.isNone (badState 0x10),
     failIf (decide ((boundTo s h).length + (s.flights.filter fun f => accepted f &&
       ((f.op == 0x33 && auxHead f == h && decide ((slotOf s (auxSlot f)).head ≠ h)) ||
        (f.op == 0x30 && decide (f.phase = .first) && decide (dget f.desc 16 1 = h)))).length ≥ 16)) (badState 0x10),
     failIf (decide (mine ≥ g.layerSlots)) (capacity 0x22),
     failIf (decide ((g.compose.drop pipe).headD 0 = 0)) (budget 0x02 pipe)]
    (yes .f)

/-- The lowest local number a tenancy does not use among the numbers given (05 R199). -/
def freshLocal (used : List Nat) : Nat := (leastBelow 1025 fun n => !used.contains n).getD 0

def startLayerAlloc (s : State) (f : Flight) : State :=
  let t := f.src.fn
  let loc := freshLocal (((List.range 128).filter fun i => decide ((slotOf s i).owner = t)).map fun i => (slotOf s i).loc)
  match leastBelow 128 fun i => decide ((slotOf s i).owner = 0x1F) with
  | none => finishWith s f 3 0x22
  | some i =>
    let s := setSlot s i { owner := t, loc := loc, head := dget f.desc 16 1 }
    let s := renewSource s (srcLayer i)
    finishDone s f loc

/-- The latch a LAYER_FREE, LAYER_CLUT and the like ask for, in terms of their fields. -/
def latchWant (s : State) (c : Cmd) (h : Nat) (earliest : Bool) (frame : Nat) : Option (Nat × Nat) :=
  requestedLatch s h c.a (earliest || classOf c.d = 3) frame

/-- LAYER_FREE (08 R394, R395; 09 R447). -/
def checkLayerFree (s : State) (c : Cmd) : Ruling :=
  let d := c.d
  let slot := slotNo s c.t (dget d 16 1)
  let sl := slot.getD 128
  let h := (slotOf s sl).head
  let dis := decide ((headOf s h).state = .disabled)
  let want := latchWant s c h (dbit d 19 6) (dget d 20 4)
  let n := (want.map (·.1)).getD 0
  -- a frame named that has passed lies before every latch still awaited
  let later := updatePending s sl fun f => decide (auxState f = 2) ||
    (waitsLatch f h && (want.isNone || decide (flightAhead s h f > n)) && decide (flightAhead s h f < 2 ^ 31))
  ruling
    [lowest [reserved [(16, 0, 8), (19, 6, 1), (20, 0, 32)] d,
       (dbit d 19 6 && decide (dget d 20 4 ≠ 0), badParam 0x14),
       (decide (classOf d = 3) && decide (dget d 20 4 ≠ 0), badParam 0x14),
       (decide (classOf d = 3) && dbit d 19 6, badParam 0x13)],
     failIf slot.isNone (notOwner 0x10),
     latchFence s h c want,
     failIf (if dis then updatePending s sl fun _ => true else later) (badState 0x10),
     failIf ((moveOf s sl).isSome || (slotOf s sl).secure) (badState 0x10),
     failIf (freeAdmitted s h sl (2 ^ 31)) (badState 0x10),
     if dis || classOf d = 3 then none else leadCheck s h c.a want]
    (if dis then yes .af (if classOf d = 3 then none else some (epochAfter s (c.a + 8000))) [sl, 2, 0, 0, 1, h]
     else yes .af (if classOf d = 3 then none else want.map (·.2))
       [sl, if classOf d = 3 then 0 else 1, frameNo s h n, 0, 1, h])

/-- The charges of a layer end with its latch (04 R174, 08 R394). -/
def commitLayerFree (s : State) (f : Flight) : State :=
  let h := auxHead f
  let at' := match f.promised, (headOf s h).cfg with
    | some t, _ => t
    | none, some c => if (headOf s h).state = .disabled then f.admitted + 8000 else (lineTick s h (flightAhead s h f) (latchOf c)).toNat
    | none, none => f.admitted + 8000
  s.modCharges fun cs => placeCharges cs f.src.fn kLayer (auxSlot f) at' (epochOfTick s at') []

/-- The slot returns to its pool (08 R394). -/
def releaseSlot (s : State) (sl : Nat) : State :=
  let s := s.modSr fun r => { r with rings := r.rings.filter fun g => g.slot ≠ sl }
  let s := renewSource s (srcLayer sl)
  setSlot s sl {}

/-- LAYER_CLUT (08 R396, R397; 09 R869). -/
def checkLayerClut (s : State) (c : Cmd) : Ruling :=
  let d := c.d
  let slot := slotNo s c.t (dget d 16 1)
  let sl := slot.getD 128
  let h := (slotOf s sl).head
  let tbl := dget d 17 1
  let first := dget d 18 2
  let count := dget d 20 2
  let len := if tbl = 1 then 1792 else 8 * count
  let off := decide ((headOf s h).state = .disabled)
  let early := dbit d 22 0
  let frame := dget d 32 4
  let want := latchWant s c h early frame
  let n := (want.map (·.1)).getD 0
  ruling
    [lowest [reserved [(16, 0, 8), (17, 0, 8), (18, 0, 16), (20, 0, 16), (22, 0, 1), (24, 0, 64), (32, 0, 32)] d,
       (decide (tbl > 1), badParam 0x11),
       (if tbl = 1 then decide (first ≠ 0) else decide (first > 255), badParam 0x12),
       (if tbl = 1 then decide (count ≠ 0) else decide (count > 256 || first + count > 256), badParam 0x14),
       (decide (dget d 24 8 % 8 ≠ 0), badParam 0x18),
       (early && decide (frame ≠ 0), badParam 0x20),
       (decide (classOf d = 3) && early && !off, badParam 0x16),
       (decide (classOf d = 3) && decide (frame ≠ 0) && !off, badParam 0x20)],
     failIf (decide (len ≠ 0) && !inApertures s c.t (dget d 24 8) len) (bounds 0x18),
     failIf slot.isNone (notOwner 0x10),
     latchFence s h c want,
     failIf (off && (decide (classOf d ≠ 3) || early || decide (frame ≠ 0))) (badState 0x10),
     if off || classOf d = 3 then none else leadCheck s h c.a want]
    (if off || len = 0 then yes .af (promptly c) [sl, 2, 0, 0, 1, h]
     else yes .af (if classOf d = 3 then none else want.map (·.2))
       [sl, if classOf d = 3 then 0 else 1, frameNo s h n, 0, 1, h])

/-- The entries a colour table load brings. -/
def clutEntries (bs : List Byte) (first count : Nat) : List (Nat × Nat) :=
  (List.range count).map fun i => (first + i, fieldOf bs (8 * i) 8)

/-- The coefficients of a filter table, in the order of R363. -/
def filterCoefs (bs : List Byte) : List Int := (List.range 896).map fun i => sint 16 (fieldOf bs (2 * i) 2)

/-- The first offending phase of a filter table, as a byte offset (08 R363). -/
def filterFault (cs : List Int) : Option Nat :=
  let phase := fun (start n : Nat) => (cs.drop start).take n
  let bad := fun (l : List Int) => l.any (fun v => decide (v < -512 || v > 1536)) || decide (l.foldl (· + ·) 0 ≠ 1024)
  match leastBelow 64 fun p => bad (phase (8 * p) 8) with
  | some p => some (16 * p)
  | none => (leastBelow 64 fun p => bad (phase (512 + 6 * p) 6)).map fun p => 1024 + 12 * p

/-- The refusal a loaded table earns (08 R363, R396). -/
def clutFault (d : Descriptor) (bs : List Byte) : Option Verdict :=
  if dget d 17 1 = 1 then (filterFault (filterCoefs bs)).map fun o => refuse 6 0xFF 0 o
  else ((clutEntries bs 0 (dget d 20 2)).find? fun e => decide (e.2 ≥ 2 ^ 40) || overAlpha e.2).map
    fun e => refuse 6 0xFF 0 (8 * e.1)

/-- The loaded table replaces the slot's table (08 R397). The host bytes are those read before the first completion. -/
def applyClut (s : State) (f : Flight) (bs : List Byte) : State :=
  modSlot s (auxSlot f) fun v =>
    if dget f.desc 17 1 = 1 then { v with filters := some (filterCoefs bs) }
    else { v with clut := (clutEntries bs (dget f.desc 18 2) (dget f.desc 20 2)).foldl (fun t e => tset 0 t e.1 e.2) v.clut }

/-- LAYER_POLICY (08 R375, R398; 09 R869). -/
def checkLayerPolicy (s : State) (c : Cmd) : Ruling :=
  let d := c.d
  let h := dget d 16 1
  let t := dget d 17 1
  let hd := headOf s h
  let setP := dbit d 18 0
  let pol := policyPayload d
  let hd' := { hd with policy := tset {} hd.policy t pol }
  let off := decide (hd.state = .disabled)
  let n := latchAfter s h (c.a + headLead s h)
  let l := match hd.cfg with | some k => latchOf k | none => 0
  ruling
    [lowest [reserved [(16, 0, 16), (18, 0, 2), (19, 0, 8), (20, 0, 17), (24, 0, 40)] d [(20, 4)],
       (decide (h ≥ 12), badParam 0x10), (setP && decide (t > 16), badParam 0x11),
       (setP && decide (pol.zMax < pol.zMin), badParam 0x13),
       (dbit d 18 1 && decide (dbits d 24 30 10 ≠ 1023), badParam 0x18)],
     failIf (setP && (match hd.cfg with
       | some k => !(arrangementsFrom s h n).all (permitted hd' k)
       | none => false)) (badState 0x11)]
    (if off || (!setP && !dbit d 18 1) then yes .af none [128, 2, 0, 0, 1, h]
     else yes .af none [128, 0, frameNo s h n, 0, 1, h, (lineTick s h n l).toNat])

def applyPolicy (s : State) (d : Descriptor) : State :=
  modHead s (dget d 16 1) fun hd =>
    { hd with
      policy := if dbit d 18 0 then
          tset {} hd.policy (dget d 17 1) (policyPayload d)
        else hd.policy,
      background := if dbit d 18 1 then dbits d 24 0 40 else hd.background }

/-- LAYER_STATUS (08 R399). -/
def checkLayerStatus (s : State) (c : Cmd) : Ruling :=
  let t := dget c.d 17 1
  ruling (recordChecks s c.t (dget c.d 24 8) 64 0x18 [reserved [(16, 0, 16), (24, 0, 64)] c.d, (decide (t > 16), badParam 0x11)] ++
     [failIf (c.t ≠ 0 && t ≠ c.t) (notOwner 0x11), failIf (slotNo s t (dget c.d 16 1)).isNone (notOwner 0x10)])
    (yes .f)

/-- Number of tile columns and rows of a head (08 R376). -/
def tileCols (c : HeadCfg) : Nat := (c.hActive + 63) / 64
def tileRows (c : HeadCfg) : Nat := (c.vActive + 63) / 64

/-- The part of tile (x, y) within the active area. -/
def tileRect (c : HeadCfg) (x y : Nat) : Rect :=
  { x0 := 64 * x, y0 := 64 * y, x1 := min (64 * x + 64) c.hActive, y1 := min (64 * y + 64) c.vActive }

def opaqueLayer (st : LayerState) : Bool :=
  st.isOpaque || (decide (st.galpha = 1023) &&
    ((!hasAlpha st.format && !isSolid st.format) || (isSolid st.format && decide (bits st.addr 30 10 = 1023))))

def Rect.covers (a b : Rect) : Bool :=
  decide (a.x0 ≤ b.x0) && decide (b.x1 ≤ a.x1) && decide (a.y0 ≤ b.y0) && decide (b.y1 ≤ a.y1)

/-- Whether a tile of a layer is hidden in an arrangement (08 R377). -/
def hiddenTile (c : HeadCfg) (l : List (Nat × Nat × LayerState)) (st : LayerState) (x y : Nat) : Bool :=
  l.any fun e => e.2.2.enable && opaqueLayer e.2.2 && decide (e.2.2.z > st.z) && (clipped c e.2.2).covers (tileRect c x y)

/-- The clearing map: the slots and tiles hidden (08 R377). -/
def clearingMap (c : HeadCfg) (l : List (Nat × Nat × LayerState)) : List (Nat × Nat) :=
  (l.filter fun e => e.2.2.enable).flatMap fun e =>
    ((List.range (tileCols c * tileRows c)).filter fun i =>
      hiddenTile c l e.2.2 (i % tileCols c) (i / tileCols c)).map fun i => (e.1, i)

/-- Whether a layer's fetch is stopped altogether (08 R378). -/
def fetchStopped (c : HeadCfg) (l : List (Nat × Nat × LayerState)) (st : LayerState) : Bool :=
  (clipped c st).isEmpty || ((List.range (tileCols c * tileRows c)).all fun i =>
    !(clipped c st).meets (tileRect c (i % tileCols c) (i / tileCols c)) ||
      hiddenTile c l st (i % tileCols c) (i / tileCols c))

/-- The owner of a tile (08 R380). -/
def tileOwner (c : HeadCfg) (l : List (Nat × Nat × LayerState)) (x y : Nat) : Nat :=
  let r := tileRect c x y
  let px := r.x0 + (r.x1 - r.x0) / 2
  let py := r.y0 + (r.y1 - r.y0) / 2
  let on := l.filter fun e => e.2.2.enable && (clipped c e.2.2).contains px py
  match on.foldl (fun (b : Option (Nat × Nat × LayerState)) e =>
      match b with
      | some t => if e.2.2.z > t.2.2.z then some e else some t
      | none => some e) none with
  | some e => e.2.1
  | none => 0x1E

/-- The ownership map of a frame (08 R380). -/
def ownerMap (c : HeadCfg) (l : List (Nat × Nat × LayerState)) (frame : Nat) : OwnerMap :=
  { frame := frame, cols := tileCols c,
    owners := (List.range (tileCols c * tileRows c)).map fun i => tileOwner c l (i % tileCols c) (i / tileCols c) }

/-- The layer status record (08 R399). -/
def layerRecord (s : State) (guest : Bool) (sl : Nat) : List Byte :=
  let v := slotOf s sl
  let c := (headOf s v.head).cfg.getD {}
  let held := s.flights.any fun f => f.op == 0x31 && auxSlot f == sl && auxState f == 2
  let pend := (s.flights.filter fun f => f.op == 0x31 && auxSlot f == sl && decide (f.phase ≠ .first)).length
  let stop := !guest && v.cur.enable && fetchStopped c (currentArrangement s v.head) (pixelState v)
  leBytes 1 v.loc ++ leBytes 1 v.head ++ leBytes 1 v.cur.z ++
  leBytes 1 (b2n (v.cur.enable && !v.moving) + 2 * b2n held + 4 * b2n stop) ++
  leBytes 4 v.latched ++ leBytes 4 v.holds ++ leBytes 4 v.poisoned ++ leBytes 4 v.ltcErrors ++ leBytes 4 pend ++
  leBytes 8 v.cur.addr ++ leBytes 4 (composeCharge s c v.cur) ++ leBytes 4 (fetchCharge s c v.cur) ++
  leBytes 4 (stagingCharge s c (stagerOf s v.head).lead v.cur) ++
  leBytes 2 (ringOfSlot s sl v.owner).shelves.length ++ zeros 18

def startLayerStatus (s : State) (f : Flight) : State :=
  match slotNo s (dget f.desc 17 1) (dget f.desc 16 1) with
  | some sl => finishDone (hostWrite s (dget f.desc 24 8) (layerRecord s (f.src.fn ≠ 0) sl)) f
  | none => finishDone s f

end Sys2Proof.Machine
end

