-- ==== Sys2Proof/Machine/JobOps.lean ====
section
/-! DEFINITION. A GPU job as its descriptor, bindings and draw records state it (11 R501, R505 to R508). A job's flight keeps
its context (physical), its number, its limit, the context it waits for + 1 (0: none), the job it waits for, and its
descriptor's address. -/

namespace Sys2Proof.Machine

def groveOf (s : State) (g : Nat) : Grove := tget {} s.gpu.groves g
def setGrove (s : State) (g : Nat) (v : Grove) : State := s.modGpu fun x => { x with groves := tset {} x.groves g v }
def modGrove (s : State) (g : Nat) (f : Grove → Grove) : State := setGrove s g (f (groveOf s g))
def ctxOf (s : State) (c : Nat) : Context := tget {} s.gpu.contexts c
def setCtx (s : State) (c : Nat) (v : Context) : State := s.modGpu fun x => { x with contexts := tset {} x.contexts c v }
def modCtx (s : State) (c : Nat) (f : Context → Context) : State := setCtx s c (f (ctxOf s c))

def jobCtx (f : Flight) : Nat := f.aux.headD 0
def jobNo (f : Flight) : Nat := (f.aux.drop 1).headD 0
def jobLimit (f : Flight) : Nat := (f.aux.drop 2).headD 0
def jobWait (f : Flight) : Option (Nat × Nat) :=
  match (f.aux.drop 3).headD 0 with | 0 => none | c + 1 => some (c, (f.aux.drop 4).headD 0)
def jobAddr (f : Flight) : Nat := (f.aux.drop 5).headD 0
def isJob (f : Flight) : Bool := f.op == 0x63 && accepted f && !f.aux.isEmpty

/-- A context that a DESTROY before this point of its tenancy's sequence ends (07 R306). -/
def dying (s : State) (c : Nat) : Bool := s.flights.any fun f => f.op == 0x61 && accepted f && f.aux.head? == some c

/-- The context that is local context n of a tenancy. -/
def ctxNo (s : State) (t n : Nat) : Option Nat :=
  leastBelow 256 fun c => decide ((ctxOf s c).owner = t) && decide ((ctxOf s c).loc = n) && !dying s c

/-- The unfinished jobs of a context, oldest first. -/
def jobsOf (s : State) (c : Nat) : List Flight := s.flights.filter fun f => isJob f && jobCtx f == c

/-- A job's outcome: none while it is unfinished; a job older than the outcomes kept counts as DONE (11 R501). -/
def outcomeOf (s : State) (c n : Nat) : Option Bool :=
  if (jobsOf s c).any fun f => jobNo f == n then none
  else match (ctxOf s c).outcomes.find? fun o => o.1 == n with
    | some o => some o.2
    | none => some true

/-- The number of a local context's latest job (08 R388). -/
def latestJob (s : State) (t n : Nat) : Option Nat := (ctxNo s t n).map fun c => (ctxOf s c).lastIssued

/-! ### The descriptor (11 R505 to R508) -/

def bytesPerPixel (format : Nat) : Option Nat :=
  if format = 1 || format = 2 || format = 4 || format = 5 then some 4 else if format = 0x40 then some 8 else none
def depthBytes (format : Nat) : Option Nat :=
  if format = 0 then some 0 else if format = 0x50 then some 2 else if format = 0x51 || format = 0x52 then some 4 else none

/-- An attachment: address, PITCH64, bytes per pixel, OPS, CLEAR_VALUE. -/
structure Attachment where
  addr : Nat
  pitch64 : Nat
  bpp : Nat
  ops : Nat
  clear : Nat
  deriving DecidableEq, Repr

def jobCompute (d : List Byte) : Bool := (fieldOf d 0 1).testBit 0
def jobSamples (d : List Byte) : Nat := 2 ^ bits (fieldOf d 0 1) 1 2
def jobWidth (d : List Byte) : Nat := fieldOf d 4 2
def jobHeight (d : List Byte) : Nat := fieldOf d 6 2
def jobColours (d : List Byte) : Nat := bits (fieldOf d 1 1) 0 3

def attachmentAt (d : List Byte) (o : Nat) (depth : Bool) : Attachment :=
  { addr := fieldOf d o 8, pitch64 := fieldOf d (o + 8) 2,
    bpp := ((if depth then depthBytes else bytesPerPixel) (fieldOf d (o + 10) 1)).getD 0, ops := fieldOf d (o + 11) 1,
    clear := fieldOf d (o + 12) 4 }

/-- The attachments a render job uses. -/
def attachments (d : List Byte) : List Attachment :=
  ((List.range (min 4 (jobColours d))).map fun i => attachmentAt d (48 + 16 * i) false) ++
  (if fieldOf d 122 1 = 0 then [] else [attachmentAt d 112 true])

/-- Whether some field of a job descriptor is out of range or a reserved one is not zero (CAUSE 0x06, DETAIL 1). -/
def malformedJob (d : List Byte) : Bool :=
  let b := fun (o n : Nat) => fieldOf d o n
  let common := decide (bits (b 0 1) 4 4 ≠ 0) || decide (bits (b 1 1) 3 5 ≠ 0) || decide (b 3 1 ≠ 0) ||
    decide (b 24 8 ≥ 2 ^ 40) || decide (b 24 8 % 32 ≠ 0) || decide (b 32 1 > 64) ||
    (decide (b 32 1 = 0) && decide (b 24 8 ≠ 0)) || decide (b 33 7 ≠ 0) || decide (b 40 8 ≥ 2 ^ 40) || decide (b 40 8 % 64 ≠ 0)
  if jobCompute d then
    common || decide (bits (b 0 1) 1 3 ≠ 0) || decide (b 1 1 ≠ 0) || decide (b 2 1 ≠ 0) || decide (b 16 8 ≥ 2 ^ 16) ||
      decide (b 48 80 ≠ 0) || [b 4 4, b 8 4, b 12 4].any fun g => decide (g = 0 || g > 65535)
  else
    let badColour := fun (i : Nat) =>
      let a := attachmentAt d (48 + 16 * i) false
      (bytesPerPixel (b (48 + 16 * i + 10) 1)).isNone || decide (a.addr ≥ 2 ^ 40) || decide (a.addr % 64 ≠ 0) ||
        decide (a.ops ≥ 8) || (a.ops.testBit 0 && a.ops.testBit 2)
    let dep := attachmentAt d 112 true
    let line := jobWidth d * (attachmentAt d 48 false).bpp
    common || decide (bits (b 0 1) 1 2 = 3) || decide (jobColours d > 4) || decide (b 2 1 > 64) ||
      decide (jobWidth d = 0 || jobWidth d > 8192) || decide (jobHeight d = 0 || jobHeight d > 8192) ||
      decide (b 8 4 % 32 ≠ 0) || decide (b 12 4 ≠ 0) || decide (b 16 8 ≥ 2 ^ 40) || decide (b 16 8 % 32 ≠ 0) ||
      ((List.range (min 4 (jobColours d))).any badColour) ||
      decide (fieldOf d (48 + 16 * min 4 (jobColours d)) (64 - 16 * min 4 (jobColours d)) ≠ 0) ||
      (depthBytes (b 122 1)).isNone || (decide (b 122 1 = 0) && decide (b 112 16 ≠ 0)) || decide (dep.addr ≥ 2 ^ 40) ||
      decide (dep.addr % 64 ≠ 0) || decide (dep.ops ≥ 8) || (dep.ops.testBit 0 && dep.ops.testBit 2) ||
      ((b 0 1).testBit 3 && (decide (jobColours d = 0) ||
        decide ((attachmentAt d 48 false).pitch64 * 64 < line + ceilDiv line 64)))

/-- B of R505. -/
def tileBytes (d : List Byte) : Nat :=
  (((attachments d).foldl (fun n a => n + a.bpp) 0) + fieldOf d 2 1) * jobSamples d

/-- Bytes a flush needs in the spill area (11 R516). -/
def spillBytes (d : List Byte) : Nat :=
  jobWidth d * jobHeight d * jobSamples d *
    (fieldOf d 2 1 + ((attachments d).filter fun a => !a.ops.testBit 1).foldl (fun n a => n + a.bpp) 0)

/-- Minimum pool of a render job (11 R508). -/
def minimumPool (d : List Byte) : Nat := 64 * ceilDiv (jobWidth d) 32 * ceilDiv (jobHeight d) 32 + 65536

/-- The binding table, as the job reads it. -/
def bindings (s : State) (t : Nat) (d : List Byte) : List (List Byte) :=
  (List.range (fieldOf d 32 1)).map fun i => bulkData s t (fieldOf d 24 8 + 32 * i) 32

/-- The range a binding entry names: address and length. -/
def bindingRange (e : List Byte) : Nat × Nat :=
  let ty := fieldOf e 12 1
  if ty ≤ 1 then (fieldOf e 0 8, fieldOf e 8 4)
  else if ty ≤ 3 then
    (fieldOf e 0 8, if fieldOf e 16 2 = 0 || fieldOf e 18 2 = 0 then 0
      else fieldOf e 14 2 * 64 * (fieldOf e 18 2 - 1) + fieldOf e 16 2 * (bytesPerPixel (fieldOf e 13 1)).getD 0)
  else (0, 0)

/-- The ranges that must lie in the tenancy's plots (11 R506). -/
def jobRanges (d : List Byte) : List (Nat × Nat) :=
  let att := if jobCompute d then [] else (attachments d).map fun a =>
    (a.addr, a.pitch64 * 64 * (jobHeight d - 1) + jobWidth d * a.bpp * jobSamples d)
  let stream := if jobCompute d then [] else [(fieldOf d 16 8, fieldOf d 8 4)]
  let spill := if jobCompute d || fieldOf d 40 8 = 0 then [] else [(fieldOf d 40 8, spillBytes d)]
  att ++ stream ++ [(fieldOf d 24 8, 32 * fieldOf d 32 1)] ++ spill

def inRanges (s : State) (t : Nat) (l : List (Nat × Nat)) : Bool :=
  l.all fun r => decide (r.2 = 0) || inPlots s t r.1 r.2

/-- Whether bindings meet what a shader declares (11 R507). -/
def bindingsMeet (bs : List (List Byte)) (sh : Shader) : Bool :=
  sh.res.all fun r =>
    match (bs.drop r.binding).head? with
    | some e => decide (fieldOf e 12 1 = r.type) && (decide (r.type > 1) || decide (fieldOf e 8 4 ≥ r.minSize))
    | none => false

def shaderAt (c : Context) (slot : Nat) : Option Shader := tget none c.shaders slot

/-- A job outcome with CAUSE and DETAIL (11 R504). -/
def jobCause (cause detail : Nat) : Nat := cause * 2 ^ 24 + detail * 2 ^ 16

/-- The failure a job meets at its start (11 R505 to R508), as CAUSE and DETAIL (log entry 17 for the order). -/
def startFault (s : State) (c : Context) (d : List Byte) : Option (Nat × Nat) :=
  let bs := bindings s c.owner d
  let cs := shaderAt c (fieldOf d 16 2)
  if malformedJob d then some (6, 1)
  else if jobCompute d && (match cs with | some x => decide (x.stage ≠ 2) | none => true) then some (6, 2)
  else if !jobCompute d && tileBytes d > 128 then some (6, 3)
  else if jobCompute d && (match cs with | some x => !bindingsMeet bs x | none => false) then some (6, 3)
  else if !inRanges s c.owner (jobRanges d) || !inRanges s c.owner (bs.map bindingRange) then some (4, 1)
  else if !jobCompute d && c.poolLen < minimumPool d then some (4, 4)
  else none

/-- The draw records of a render job. -/
def drawRecords (s : State) (t : Nat) (d : List Byte) : List (List Byte) :=
  if jobCompute d then [] else (List.range (fieldOf d 8 4 / 32)).map fun i => bulkData s t (fieldOf d 16 8 + 32 * i) 32

/-- What is wrong with a draw: DETAIL 2 malformed or wrong shader, 3 bindings (11 R504, R507). -/
def drawFault (c : Context) (bs : List (List Byte)) (r : List Byte) : Option Nat :=
  let b0 := fieldOf r 0 1
  let fs := fieldOf r 6 2
  let vs := shaderAt c (fieldOf r 4 2)
  let fx := shaderAt c fs
  if bits b0 0 3 ≥ 6 || bits b0 6 2 = 3 || fieldOf r 1 1 ≥ 32 || fieldOf r 2 2 ≠ 0 || fieldOf r 16 8 ≥ 2 ^ 40 ||
      (!b0.testBit 3 && fieldOf r 16 8 ≠ 0) then some 2
  else if (match vs with | some x => decide (x.stage ≠ 0) | none => true) then some 2
  else if fs ≠ 0xFFFF && (match fx with | some x => decide (x.stage ≠ 1) | none => true) then some 2
  else if (match vs with | some x => !bindingsMeet bs x | none => false) ||
      (decide (fs ≠ 0xFFFF) && (match fx with | some x => !bindingsMeet bs x | none => false)) then some 3
  else none

/-- The shader slots a job names (11, GPU_SHADER_LOAD SLOT). -/
def jobSlots (s : State) (t addr : Nat) : List Nat :=
  let d := bulkData s t addr 128
  if jobCompute d then [fieldOf d 16 2]
  else (drawRecords s t d).flatMap fun r => [fieldOf r 4 2, fieldOf r 6 2]

end Sys2Proof.Machine
end

