-- ==== Sys2Proof/Machine/RenderOps.lean ====
section
/-! DEFINITION. How a render pass fills the tile memory and what it stores (11 R508 to R516; log entry 142). What vertex and
fragment shaders compute is the compiler's: a pass arrives as the fragments its binning and rasterizing made, in the order in
which their pixel accesses took place, and a fragment shader is an opaque function of its code, its inputs and the words it
reads. Tile memory is held word by word: 32 words a sample, of which 0 to 7 are the colours (two for each attachment), 8 the
stencil, 9 the depth and 16 to 31 the pixel-local storage. -/

namespace Sys2Proof.Machine

/-! ### The words of a sample -/

/-- The attachment a word of a sample belongs to, its first byte in a pixel's bytes and how many it has. -/
def wordPlace (d : List Byte) (w : Nat) : Option (Attachment × Nat × Nat) :=
  let z := attachmentAt d 112 true
  let fmt := fieldOf d 122 1
  if w < 8 then
    let a := attachmentAt d (48 + 16 * (w / 2)) false
    if w / 2 < jobColours d && 4 * (w % 2) < a.bpp then some (a, 4 * (w % 2), 4) else none
  else if w = 8 then (if fmt = 0x51 then some (z, 3, 1) else none)
  else if w = 9 then (if fmt = 0 then none else some (z, 0, if fmt = 0x51 then 3 else z.bpp))
  else none

/-- The bits of a pixel-local word that PLS_BYTES gives the job (11 R514). -/
def plsMask (d : List Byte) (w : Nat) : Nat := 2 ^ (8 * min 4 (fieldOf d 2 1 - 4 * (w - 16))) - 1

/-- The bits of a word of a sample that there are. -/
def wordMask (d : List Byte) (w : Nat) : Nat :=
  if w ≥ 16 then plsMask d w else match wordPlace d w with | some p => 256 ^ p.2.2 - 1 | none => 0

/-- A word of tile memory: sample k of pixel (x, y), word w. -/
def tileKey (x y k w : Nat) : Nat := ((y * 8192 + x) * 4 + k) * 32 + w
def keyX (key : Nat) : Nat := key / 128 % 8192
def keyY (key : Nat) : Nat := key / 1048576
def keySample (key : Nat) : Nat := key / 32 % 4

/-- Where the bytes of a word stand in bulk memory: its samples follow one another within a pixel (log entry 142). -/
def wordAddr (d : List Byte) (p : Attachment × Nat × Nat) (key : Nat) : Nat :=
  p.1.addr + p.1.pitch64 * 64 * keyY key + (keyX key * jobSamples d + keySample key) * p.1.bpp + p.2.1

/-- Colour attachment 0 of a job that stores it in LTC. -/
def storedLtc (d : List Byte) (w : Nat) : Bool := (fieldOf d 0 1).testBit 3 && decide (w < 2)

/-- A word of the tile as it is loaded or cleared; one that is neither, and one out of an LTC surface, is a free value. -/
def initialWord (s : State) (t : Nat) (d : List Byte) (job key : Nat) : Nat :=
  let w := key % 32
  let other := Config.tileWord job key &&& wordMask d w
  match wordPlace d w with
  | some p =>
    if p.1.ops.testBit 0 && !storedLtc d w then fieldOf (bulkData s t (wordAddr d p key) p.2.2) 0 p.2.2
    else if p.1.ops.testBit 2 then p.1.clear / 256 ^ (p.2.1 % 4) % 256 ^ p.2.2 else other
  | none => other

/-- A word as it stands. -/
def tileWordOf (s : State) (t : Nat) (d : List Byte) (job : Nat) (tile : Tab (Option Nat)) (key : Nat) : Nat :=
  (tget none tile key).getD (initialWord s t d job key)

/-- A word written: what the job does not have of it is dropped (11 R514). -/
def putTile (d : List Byte) (tile : Tab (Option Nat)) (key v : Nat) : Tab (Option Nat) :=
  if wordMask d (key % 32) = 0 then tile else tset none tile key (some (v &&& wordMask d (key % 32)))

/-! ### Fragments -/

def onSurface (d : List Byte) (f : Fragment) : Bool :=
  decide (f.x < jobWidth d) && decide (f.y < jobHeight d) && decide (f.sample < jobSamples d)

def drawOf (draws : List (List Byte)) (f : Fragment) : List Byte := (draws.drop f.draw).headD []

/-- The fragment shader of a fragment's draw; none for a draw of depth alone. -/
def fragShader (c : Context) (draws : List (List Byte)) (f : Fragment) : Option Shader :=
  let slot := fieldOf (drawOf draws f) 6 2
  if slot = 0xFFFF then none else shaderAt c slot

/-- What the shader of a fragment declares: INTERLOCK, DISCARD, DEPTH_WRITE and SIDE_EFFECTS in bits 0 to 3. -/
def fragFlags (c : Context) (draws : List (List Byte)) (f : Fragment) : Nat :=
  match fragShader c draws f with | some x => x.flags | none => 0

/-- Submission order: draw record, then primitive by instance (11 R512). -/
def submittedBefore (f g : Fragment) : Bool :=
  decide (f.draw < g.draw) || (f.draw == g.draw && (decide (f.inst < g.inst) || (f.inst == g.inst && decide (f.prim < g.prim))))

def insertFrag (f : Fragment) : List Fragment → List Fragment
  | [] => [f]
  | g :: l => if submittedBefore g f then g :: insertFrag f l else f :: g :: l

def inSubmission (l : List Fragment) : List Fragment := l.foldr insertFrag []

/-! ### Depth (11, DEPTH_FUNC; R511) -/

/-- A stored depth as a number to compare: D32F by sign and magnitude, the others as they stand. -/
def depthKey (d : List Byte) (v : Nat) : Int :=
  if fieldOf d 122 1 = 0x52 && v.testBit 31 then -((v % 2 ^ 31 : Nat) : Int) else (v : Int)

/-- The depth test of a draw: a new depth against a stored one. -/
def depthPasses (d r : List Byte) (new old : Nat) : Bool :=
  let a := depthKey d new
  let b := depthKey d old
  let f := bits (fieldOf r 1 1) 0 3
  if f = 0 then false else if f = 1 then decide (a < b) else if f = 2 then decide (a = b) else if f = 3 then decide (a ≤ b)
  else if f = 4 then decide (a > b) else if f = 5 then decide (a ≠ b) else if f = 6 then decide (a ≥ b) else true

def depthTested (d r : List Byte) : Bool := decide (fieldOf d 122 1 ≠ 0) && (fieldOf r 1 1).testBit 3
def depthWritten (r : List Byte) : Bool := (fieldOf r 1 1).testBit 4

/-- Hidden-surface removal may remove fragment f for the later fragment g (11 R510). -/
def mayRemove (c : Context) (d : List Byte) (draws : List (List Byte)) (f g : Fragment) : Bool :=
  let r := drawOf draws g
  submittedBefore f g && f.x == g.x && f.y == g.y && f.sample == g.sample && depthTested d r && depthWritten r &&
  [1, 3, 4, 6].contains (bits (fieldOf r 1 1) 0 3) && decide (fragFlags c draws g % 16 = 0) && depthPasses d r g.depth f.depth &&
  !(fragFlags c draws f).testBit 3

/-- The fragments that hidden-surface removal removes, all of them before any fragment is shaded (11 R509, R510). -/
def removedOf (c : Context) (d : List Byte) (draws : List (List Byte)) (l : List Fragment) : List Fragment :=
  l.filter fun f => f.removed && l.any (mayRemove c d draws f)

/-- The depth test of one fragment, against the depth all earlier ones left (11 R511); a shader that declares it sets the
depth itself, or discards the fragment. -/
def testFragment (s : State) (c : Context) (d : List Byte) (draws : List (List Byte)) (job : Nat)
    (acc : Tab (Option Nat) × List Fragment) (f : Fragment) : Tab (Option Nat) × List Fragment :=
  let r := drawOf draws f
  let flags := fragFlags c draws f
  let z := if flags.testBit 2 then f.depthOut.getD f.depth else f.depth
  let key := tileKey f.x f.y f.sample 9
  if (flags.testBit 1 && f.discard) ||
      (depthTested d r && !depthPasses d r (z &&& wordMask d 9) (tileWordOf s c.owner d job acc.1 key)) then acc
  else (if depthWritten r then putTile d acc.1 key z else acc.1, f :: acc.2)

/-! ### Shading (11 R512, R513) -/

/-- The order in which the pixel accesses take place: that of the list, but interlocked fragments among themselves in
submission order. -/
def weave (inter : Fragment → Bool) : List Fragment → List Fragment → List Fragment
  | [], _ => []
  | f :: l, q =>
    if inter f then (match q with | g :: q' => g :: weave inter l q' | [] => f :: weave inter l []) else f :: weave inter l q

/-- The words a fragment's shader reads: as they stand, or for a shader without INTERLOCK as they stood before some of the
writes of other fragments, where the pass says so (11 R513). `past` holds tile memory before each write, newest first. -/
def wordsRead (s : State) (c : Context) (d : List Byte) (job : Nat) (past : List (Tab (Option Nat))) (inter : Bool)
    (f : Fragment) : List Nat :=
  (List.range 32).map fun w =>
    let lag := if inter then 0 else tget 0 f.lags w
    tileWordOf s c.owner d job ((past.drop (min lag (past.length - 1))).headD []) (tileKey f.x f.y f.sample w)

/-- One fragment is shaded: its shader reads its sample and writes whole words of it. -/
def shadeFragment (s : State) (c : Context) (d : List Byte) (draws : List (List Byte)) (job : Nat)
    (past : List (Tab (Option Nat))) (f : Fragment) : List (Tab (Option Nat)) :=
  match fragShader c draws f with
  | none => past
  | some sh =>
    let code := (srBytes s c.owner c.owner (c.shaderRef + sh.ofs) sh.len).map (·.1)
    let out := Config.shade code f.input (wordsRead s c d job past (sh.flags.testBit 0) f)
    (out.foldl (fun tile e => if e.1 < 32 && e.1 ≠ 9 then putTile d tile (tileKey f.x f.y f.sample e.1) e.2 else tile)
      (past.headD [])) :: past

/-- A pass over the fragments of its primitives: tile memory and the fragments that were removed. What removal leaves out
changes no stored bit (11 R511), so every fragment that passes its depth test leaves what its shader writes. -/
def runPass (s : State) (c : Context) (d : List Byte) (job : Nat) (tile : Tab (Option Nat)) (frags : List Fragment) :
    Tab (Option Nat) × List Fragment :=
  let draws := drawRecords s c.owner d
  let l := frags.filter fun f => onSurface d f && decide (f.draw < draws.length)
  let removed := removedOf c d draws l
  let tested := (inSubmission l).foldl (testFragment s c d draws job) (tile, [])
  let inter := fun (f : Fragment) => (fragFlags c draws f).testBit 0
  let live := l.filter fun f => tested.2.contains f
  let past := (weave inter live (inSubmission (live.filter inter))).foldl (shadeFragment s c d draws job) [tested.1]
  (past.headD [], removed)

/-! ### Stores (11 R503, R515) -/

/-- Pixels x to x + w - 1 of line y of an attachment are stored as they were cleared. One that is stored but neither loaded nor
cleared, and one stored in LTC, holds free values (log entry 3). -/
def storeSpan (s : State) (t : Nat) (d : List Byte) (a : Attachment) (ltc : Bool) (x w y : Nat) : State :=
  let px := a.bpp * jobSamples d
  let addr := a.addr + a.pitch64 * 64 * y + (if ltc then 0 else x * px)
  if !a.ops.testBit 1 || (a.ops.testBit 0 && !ltc) then s
  else if a.ops.testBit 2 && !ltc then
    grovePut s t addr ((List.range (w * px)).map fun i => BitVec.ofNat 8 (a.clear / 256 ^ (i % min a.bpp 4)))
  else
    let n := if ltc then jobWidth d * px else w * px
    let (bs, s) := freshBytes s n
    grovePut s t addr bs

/-- Spans of every attachment are stored. -/
def storeSpans (s : State) (t : Nat) (d : List Byte) (spans : List (Nat × Nat × Nat)) : State :=
  ((attachments d).zip (List.range 5)).foldl (fun s p =>
    spans.foldl (fun s q => storeSpan s t d p.1 ((fieldOf d 0 1).testBit 3 && p.2 == 0) q.1 q.2.1 q.2.2) s) s

/-- The words a pass has written are stored, of the attachments that are. -/
def storeWords (s : State) (t : Nat) (d : List Byte) (tile : Tab (Option Nat)) : State :=
  tile.foldl (fun s e =>
    match wordPlace d (e.1 % 32), e.2 with
    | some p, some v =>
      if p.1.ops.testBit 1 && !storedLtc d (e.1 % 32) then grovePut s t (wordAddr d p e.1) (leBytes p.2.2 v) else s
    | _, _ => s) s

/-- The lines of the whole surface. -/
def wholeSurface (d : List Byte) : List (Nat × Nat × Nat) := (List.range (jobHeight d)).map fun y => (0, jobWidth d, y)

/-- The lines of the 32 x 32 tiles that hold a fragment. -/
def binnedTiles (d : List Byte) (frags : List Fragment) : List (Nat × Nat × Nat) :=
  (List.range (ceilDiv (jobHeight d) 32)).flatMap fun ty => (List.range (ceilDiv (jobWidth d) 32)).flatMap fun tx =>
    if frags.any fun f => onSurface d f && f.x / 32 == tx && f.y / 32 == ty then
      (List.range (min 32 (jobHeight d - 32 * ty))).map fun k => (32 * tx, min 32 (jobWidth d - 32 * tx), 32 * ty + k)
    else []

/-- What a pass reads through its grove's ports (01 R20, 11 R491): its draw records, the tiles it loads, and the code of the
shaders its fragments run. -/
def passReads (s : State) (c : Context) (d : List Byte) (frags : List Fragment) : State :=
  let draws := drawRecords s c.owner d
  let s := groveRead s c.owner (fieldOf d 16 8) (fieldOf d 8 4)
  let s := ((attachments d).filter fun a => a.ops.testBit 0).foldl (fun s a =>
    (binnedTiles d frags).foldl (fun s q =>
      groveRead s c.owner (a.addr + a.pitch64 * 64 * q.2.2 + q.1 * a.bpp * jobSamples d) (q.2.1 * a.bpp * jobSamples d)) s) s
  (frags.filterMap (fragShader c draws)).eraseDups.foldl (fun s sh =>
    countSrBytes (srRead s 5 c.owner c.owner (c.shaderRef + sh.ofs) sh.len).2 c.owner sh.len false) s

/-- Whether some of n bytes of a tenancy's bulk memory lie in poisoned words. -/
def bulkBad (s : State) (t addr n : Nat) : Bool := (bulkBytes s t t addr n).any (·.2)

/-- Whether a job has read poison by the end of a pass (11 R504): in its descriptor or bindings, in its draw records, in a tile it
loads or in the code of a shader. -/
def jobPoison (s : State) (g : Nat) (frags : List Fragment) : Bool :=
  let gr := groveOf s g
  let c := ctxOf s gr.ctx
  let d := gr.desc
  gr.poisoned || (!jobCompute d && (bulkBad s c.owner (fieldOf d 16 8) (fieldOf d 8 4) ||
    (((attachments d).filter fun a => a.ops.testBit 0).any fun a => (binnedTiles d frags).any fun q =>
      bulkBad s c.owner (a.addr + a.pitch64 * 64 * q.2.2 + q.1 * a.bpp * jobSamples d) (q.2.1 * a.bpp * jobSamples d)) ||
    (frags.filterMap (fragShader c (drawRecords s c.owner d))).any fun sh =>
      (srBytes s c.owner c.owner (c.shaderRef + sh.ofs) sh.len).any (·.2)))

/-- A grove renders the fragments of a pass and stores its attachments: after the last pass all of them in full, at a flush
those of the tiles that hold bins, while what is not stored goes to the spill area, where its layout is not stated (11 R515,
R516; log entry 3). -/
def renderPass (s : State) (g : Nat) (frags : List Fragment) (last : Bool) : State :=
  let gr := groveOf s g
  let c := ctxOf s gr.ctx
  let d := gr.desc
  if jobCompute d then s else
  let r := runPass s c d (gr.job.getD 0) gr.tile frags
  let bad := jobPoison s g frags
  let s := modGrove (passReads s c d frags) g fun v => { v with tile := r.1, removed := r.2, poisoned := bad }
  let s := storeWords (storeSpans s c.owner d (if last then wholeSurface d else binnedTiles d frags)) c.owner d r.1
  if last || fieldOf d 40 8 = 0 then s else
  let (bs, s) := freshBytes s (spillBytes d)
  grovePut s c.owner (fieldOf d 40 8) bs

end Sys2Proof.Machine
end

