-- ==== Sys2Proof/Machine/GpuOps.lean ====
section
/-! DEFINITION. The groves (11): contexts, jobs and their outcomes, shader containers, and the checks and effects of the GPU
commands. -/

namespace Sys2Proof.Machine

/-! ### Running (11 R493, R494, R501 to R504) -/

/-- A context's candidate: its oldest unfinished job, once accepted and its wait satisfied. -/
def candidate (s : State) (c : Nat) : Option Flight :=
  match (jobsOf s c).head? with
  | some f =>
    if f.phase = .unit && (match jobWait f with | some (wc, wn) => decide (outcomeOf s wc wn = some true) | none => true)
    then some f else none
  | none => none

/-- The contexts of a grove that have a candidate. -/
def waitingContexts (s : State) (g : Nat) : List Nat :=
  (List.range 256).filter fun c => decide ((ctxOf s c).owner ≤ 16) && decide ((ctxOf s c).grove = g) && (candidate s c).isSome

/-- The next number after the last one served, ascending and wrapping. -/
def nextAfter (last : Option Nat) (l : List Nat) : Option Nat :=
  let later := l.filter fun x => match last with | some y => decide (x > y) | none => true
  let least := fun (m : List Nat) => m.foldl (fun (b : Option Nat) x => match b with | some y => some (min x y) | none => some x) none
  match least later with | some x => some x | none => least l

/-- The context a grove serves next (11 R493). -/
def chooseContext (s : State) (g : Nat) : Option Nat :=
  let cs := waitingContexts s g
  let gr := groveOf s g
  match nextAfter gr.lastTenancy (cs.map fun c => (ctxOf s c).owner) with
  | none => none
  | some t =>
    let mine := cs.filter fun c => (ctxOf s c).owner == t
    let last := match tget 0 gr.lastContext t with | 0 => none | n + 1 => some n
    match nextAfter last (mine.map fun c => (ctxOf s c).loc) with
    | none => none
    | some l => mine.find? fun c => (ctxOf s c).loc == l

def groveIdle (s : State) (g : Nat) : Bool :=
  (groveOf s g).job.isNone && (groveOf s g).resetAt.isNone && !(groveOf s g).out && !halted s

/-- RUN_TIME (11 R503). -/
def runTime (s : State) (g : Nat) : Nat := min 0xFFFF ((now s - (groveOf s g).since) / 4000)

/-- The grove is free; the ticks its job ran are counted. -/
def freeGrove (s : State) (g : Nat) : State :=
  let gr := groveOf s g
  let s := modCtx s gr.ctx fun c => { c with busyTicks := (c.busyTicks + (now s - gr.since)) % 2 ^ 64 }
  setGrove s g { gr with job := none, desc := [], poisoned := false, tile := [], removed := [] }

/-- The running job ends with an outcome, without a reset. -/
def endRun (s : State) (g status reason value : Nat) : State :=
  let gr := groveOf s g
  let v := value + runTime s g
  let s := freeGrove s g
  match flightBy s fun f => decide (some f.id = gr.job) with
  | some f => finish s f { status := status, reason := reason, value := v, inst := if status = 0 then some (now s) else none }
  | none => s

/-- The cores stop and the grove is reset; the job's outcome is written when the reset is complete (11 R517, R518; log
entry 18). -/
def stopRun (s : State) (g status reason value : Nat) : State :=
  modGrove s g fun v => { v with resetAt := some (now s), ending := some (status, reason, value) }

/-- A job starts (11 R494, R500). -/
def startJob (s : State) (g : Nat) : State :=
  if !groveIdle s g then s else
  match chooseContext s g with
  | none => s
  | some c =>
    match candidate s c with
    | none => s
    | some f =>
      let t := (ctxOf s c).owner
      let raw := bulkBytes s t t (jobAddr f) 128
      let d := raw.map fun b => if b.2 then (0 : Byte) else b.1
      let s := modGrove (groveRead s t (jobAddr f) 128) g fun v => { v with
        job := some f.id, ctx := c, since := now s, desc := d,
        poisoned := raw.any (·.2) || bulkBad s t (fieldOf d 24 8) (32 * fieldOf d 32 1), lastTenancy := some t,
        lastContext := tset 0 v.lastContext t ((ctxOf s c).loc + 1) }
      match startFault s (ctxOf s c) d with
      | some (cause, detail) => endRun s g 12 0 (jobCause cause detail)
      | none => groveRead s t (fieldOf d 24 8) (32 * fieldOf d 32 1)

/-- The DETAIL of the first faulty draw of the job a grove runs (11 R504, R507). -/
def faultyDraw (s : State) (g : Nat) : Option Nat :=
  let gr := groveOf s g
  let c := ctxOf s gr.ctx
  (drawRecords s c.owner gr.desc).findSome? (drawFault c (bindings s c.owner gr.desc))

/-- A job completes (11 R503): its last pass is rendered and stored; `writes` is what its shaders left elsewhere in memory, each
part of which lies in the tenancy's plots. A job with a faulty draw ends there instead (R507). -/
def completeJob (s : State) (g : Nat) (p : RenderPass) (poisoned : Bool) (writes : List (Nat × List Byte)) : State :=
  let gr := groveOf s g
  if gr.job.isNone || gr.resetAt.isSome then s else
  match faultyDraw s g with
  | some detail => endRun s g 12 0 (jobCause 6 detail)
  | none =>
  let t := (ctxOf s gr.ctx).owner
  let bad := poisoned || jobPoison s g p.frags
  let s := modCtx s gr.ctx fun c => { c with poolPeak := max c.poolPeak (min p.used c.poolLen) }
  let s := writes.foldl (fun s w => if inPlots s t w.1 w.2.length then grovePut s t w.1 w.2 else s) s
  let s := renderPass s g p.frags true
  if bad then endRun s g 14 0x34 (jobCause 0x0E 0) else endRun s g 0 0 0

/-- A job reaches its time limit (11 R517). -/
def limitJob (s : State) (g : Nat) : State :=
  let gr := groveOf s g
  match gr.job, flightBy s fun f => decide (some f.id = gr.job) with
  | some _, some f =>
    if gr.resetAt.isSome || now s < gr.since + 400 * jobLimit f then s else
    let s := modCtx s gr.ctx fun c => { c with limitKills := min 0xFFFFFFFF (c.limitKills + 1) }
    stopRun (raise s (srcContext gr.ctx) 1) g 12 0 (jobCause 0x0C 1)
  | _, _ => s

/-- Binning would overflow the pool (11 R515, R516): under FLUSH the fragments of the pass are rendered and stored. -/
def overflowPool (s : State) (g : Nat) (p : RenderPass) : State :=
  let gr := groveOf s g
  if gr.job.isNone || gr.resetAt.isSome then s else
  let c := ctxOf s gr.ctx
  let s := modCtx s gr.ctx fun c => { c with poolPeak := max c.poolPeak (min p.used c.poolLen) }
  let s := raise s (srcContext gr.ctx) 0
  if c.fail then endRun s g 12 0 (jobCause 4 3)
  else
    let s := modCtx s gr.ctx fun c => { c with flushes := min 0xFFFFFFFF (c.flushes + 1) }
    if fieldOf gr.desc 40 8 = 0 && spillBytes gr.desc ≠ 0 then endRun s g 12 0 (jobCause 4 1) else renderPass s g p.frags false

/-- A shader access or an index fetch fell outside the tenancy's plots (11 R504). -/
def accessFault (s : State) (g : Nat) : State :=
  if (groveOf s g).job.isNone || (groveOf s g).resetAt.isSome then s else endRun s g 12 0 (jobCause 4 2)

/-- A fault a job meets while it runs (11 R504, R507): a workgroup larger than its shader allows, or the first faulty
draw. -/
def runFault (s : State) (g : Nat) (oversize : Bool) : State :=
  let gr := groveOf s g
  if gr.job.isNone || gr.resetAt.isSome then s else
  if oversize then (if jobCompute gr.desc then endRun s g 12 0 (jobCause 6 2) else s)
  else
    match faultyDraw s g with
    | some detail => endRun s g 12 0 (jobCause 6 detail)
    | none => s

/-- An uncorrectable error in tile memory or a register file (11 R521). -/
def tileUe (s : State) (g : Nat) : State :=
  let s := assert s 30 0
  if (groveOf s g).resetAt.isSome || (groveOf s g).out then s
  else if (groveOf s g).job.isSome then stopRun s g 13 0x33 30
  else modGrove s g fun v => { v with resetAt := some (now s) }

/-- A grove's reset is complete (11 R518, R527). -/
def resetDone (s : State) (g : Nat) : State :=
  let gr := groveOf s g
  if gr.resetAt.isNone || gr.out then s else
  let v := match gr.ending with
    | some (st, rs, vl) => (st, rs, if st = 12 then vl + runTime s g else vl)
    | none => (12, 0, jobCause 0x0C 3)
  let s := raise s (srcGrove g) 0
  let s := if gr.job.isSome then freeGrove s g else s
  let s := modGrove s g fun x => { x with resetAt := none, ending := none }
  match gr.job, flightBy s fun f => decide (some f.id = gr.job) with
  | some _, some f => finish s f { status := v.1, reason := v.2.1, value := v.2.2 }
  | _, _ => s

/-- The contexts bound to a grove. -/
def boundContexts (s : State) (g : Nat) : List Nat :=
  (List.range 256).filter fun c => decide ((ctxOf s c).owner ≤ 16) && decide ((ctxOf s c).grove = g)

/-- A job that a reset overrun faults is no longer one its killer aborted. -/
def uncount (s : State) (id : Nat) : State :=
  s.modFlights fun l => l.map fun f =>
    if (f.op == 0x64 || f.op == 0x61) && (f.aux.drop 2).head? == some (id + 1) then
      { f with aux := [f.aux.headD 0, (f.aux.drop 1).headD 0 - 1, 0] }
    else f

/-- A grove's reset overruns (11 R522): the grove leaves service. -/
def resetOverrun (s : State) (g : Nat) : State :=
  let gr := groveOf s g
  if gr.resetAt.isNone || gr.out || now s < gr.resetAt.getD 0 + 20000 then s else
  let cs := boundContexts s g
  let s := if gr.job.isSome then freeGrove s g else s
  let s := modGrove s g fun x => { x with resetAt := none, ending := none, out := true }
  let s := assert s 31 (cs.foldl (fun m c => setBit m (ctxOf s c).owner) 0)
  (s.flights.filter fun f => isJob f && cs.contains (jobCtx f)).foldl (fun s f =>
    withdraw (uncount s f.id) f (refuse 13 0x32 0 31)) s

/-- What follows from jobs that have ended: a grove whose job is gone is reset (11 R520), a job whose awaited job
failed is aborted (R502), and a KILL or DESTROY with nothing left to wait for completes (R497, R519). -/
def settleGroves (s : State) : State :=
  (List.range 4).foldl (fun s g =>
    let gr := groveOf s g
    match gr.job with
    | some j =>
      if s.flights.any fun f => f.id == j then s
      else
        let s := freeGrove s g
        if gr.resetAt.isSome then s else modGrove s g fun v => { v with resetAt := some (now s) }
    | none => s) s

def settleWaits (s : State) : State :=
  s.flights.foldl (fun s f =>
    if isJob f && decide (f.phase = .unit) then
      match jobWait f with
      | some (c, n) =>
        if outcomeOf s c n = some false && !((List.range 4).any fun g => decide ((groveOf s g).job = some f.id)) then
          finishWith s f 12 0 (jobCause 0x0C 4)
        else s
      | none => s
    else s) s

/-- The outcome that a job of a context had stays with the layer updates that wait for it (08 R389, R392): 1 for DONE, 2 for any
other, behind what such a flight keeps. -/
def keepOutcomes (s : State) (c : Nat) : State :=
  (s.flights.filter fun f => f.op == 0x31 && decide (f.src.fn = (ctxOf s c).owner) && dbit f.desc 19 7 &&
    decide (dget f.desc 38 2 = (ctxOf s c).loc) && decide (f.aux.length = 6)).foldl (fun s f =>
      setFlight s { f with aux := f.aux ++ [if outcomeOf s c (dget f.desc 60 4) = some true then 1 else 2] }) s

/-- A context's structures are released and it returns to its pool (11 R497). -/
def releaseContext (s : State) (c : Nat) : State :=
  let s := keepOutcomes s c
  let s := s.modSr fun r => { r with placed := r.placed.filter fun p => !(p.kind = 2 && p.object = c) }
  let s := renewSource s (srcContext c)
  setCtx s c {}

def settleKills (s : State) : State :=
  s.flights.foldl (fun s f =>
    if (f.op == 0x64 || f.op == 0x61) && decide (f.phase = .unit) &&
        !(s.flights.any fun j => isJob j && j.id + 1 == (f.aux.drop 2).headD 0) then
      if f.op = 0x61 then finishDone (releaseContext s (f.aux.headD 0)) f else finishDone s f ((f.aux.drop 1).headD 0)
    else s) s

def settleGpu (s : State) : State := settleKills (settleWaits (settleWaits (settleGroves s)))

/-! ### Commands -/

/-- Job numbers count from 1 and wrap to 1 (11 R499). -/
def nextJob (n : Nat) : Nat := if n ≥ 0xFFFFFFFF then 1 else n + 1

def contextPlaced (f : Descriptor) (t c : Nat) : List Placed :=
  [⟨t, 2, c, dget f 20 4, dget f 24 4⟩, ⟨t, 2, c, dget f 28 4, dget f 32 4⟩, ⟨t, 2, c, dget f 36 4, dget f 40 4⟩]

def checkContextCreate (s : State) (c : Cmd) : Ruling :=
  let d := c.d
  let g := (tenOf s c.t).grants
  let gr := dbits d 16 0 2
  let lenBad := fun (o lo hi m : Nat) => decide (dget d o 4 < lo || dget d o 4 > hi || dget d o 4 % m ≠ 0)
  let refBad := fun (o m : Nat) => decide (dbits d o 0 28 % m ≠ 0)
  let placed := contextPlaced d c.t 256
  let after := fun (n : Nat) => { s with sr := { s.sr with placed := s.sr.placed ++ placed.take n } }
  let taken := fun (n : Nat) => match (placed.drop n).head? with
    | some p => placementTaken (after n) c.t p.addr p.len (fun _ => false)
    | none => false
  let mine := ((List.range 256).filter fun i => decide ((ctxOf s i).owner = c.t) && !dying s i).length
  ruling
    [lowest [reserved [(16, 0, 2), (17, 0, 1), (18, 0, 16), (20, 0, 28), (24, 0, 32), (28, 0, 28), (32, 0, 32), (36, 0, 28),
         (40, 0, 32), (44, 0, 24), (48, 0, 24)] d,
       (decide (dget d 18 2 = 0 || dget d 18 2 > 1024), badParam 0x12),
       (refBad 20 4096, badParam 0x14), (lenBad 24 65536 67108864 4096, badParam 0x18),
       (refBad 28 262144, badParam 0x1C), (lenBad 32 262144 16777216 262144, badParam 0x20),
       (refBad 36 4096, badParam 0x24), (lenBad 40 4096 4194304 4096, badParam 0x28),
       (decide (dbits d 44 0 24 = 0 || dbits d 44 0 24 > dbits d 48 0 24), badParam 0x2C),
       (decide (dbits d 48 0 24 = 0), badParam 0x30)],
     failIf (!inShelves s c.t (dget d 20 4) (dget d 24 4)) (bounds 0x14),
     failIf (!inShelves s c.t (dget d 28 4) (dget d 32 4)) (bounds 0x1C),
     failIf (!inShelves s c.t (dget d 36 4) (dget d 40 4)) (bounds 0x24),
     failIf (!(g.grovesDed.testBit gr || g.grovesShr.testBit gr)) (notOwner 0x10),
     failIf (taken 0) (badState 0x14), failIf (taken 1) (badState 0x1C), failIf (taken 2) (badState 0x24),
     failIf (decide (mine ≥ g.gpuContexts)) (capacity 0x24)]
    (yes .f)

/-- The context a GPU_CONTEXT_CREATE makes. -/
def contextFrom (d : Descriptor) (t loc : Nat) : Context :=
  { owner := t, loc := loc, grove := dbits d 16 0 2, fail := dbit d 17 0, slots := dget d 18 2, poolRef := dget d 20 4,
    poolLen := dget d 24 4, cacheRef := dget d 28 4, cacheLen := dget d 32 4, shaderRef := dget d 36 4,
    shaderLen := dget d 40 4, defaultLimit := dbits d 44 0 24, maxLimit := dbits d 48 0 24 }

def startContextCreate (s : State) (f : Flight) : State :=
  let d := f.desc
  let t := f.src.fn
  let loc := freshLocal (((List.range 256).filter fun i => decide ((ctxOf s i).owner = t)).map fun i => (ctxOf s i).loc)
  match leastBelow 256 fun i => decide ((ctxOf s i).owner = 0x1F) with
  | none => finishWith s f 3 0x24
  | some i =>
    let s := setCtx s i (contextFrom d t loc)
    let s := s.modSr fun r => { r with placed := r.placed ++ contextPlaced d t i }
    finishDone (renewSource s (srcContext i)) f loc

/-- Whether a held layer update names a local context (11 R497). -/
def heldOnContext (s : State) (t n : Nat) : Bool :=
  s.flights.any fun f => f.op == 0x31 && decide (f.src.fn = t) && auxState f == 2 && decide (dget f.desc 38 2 = n)

def checkContextDestroy (s : State) (c : Cmd) : Ruling :=
  let x := ctxNo s c.t (dget c.d 16 2)
  ruling [lowest [reserved [(16, 0, 16)] c.d], failIf x.isNone (notOwner 0x10),
    failIf (heldOnContext s c.t (dget c.d 16 2)) (badState 0x10)] (yes .af none [x.getD 256, 0, 0])

/-- The jobs a KILL or DESTROY names end: a queued job is aborted, a running one stopped (11 R497, R519). -/
def killJobs (s : State) (f : Flight) (named : Flight → Bool) : State :=
  let c := f.aux.headD 256
  let js := (jobsOf s c).filter fun j => decide (j.id < f.id) && named j
  let g := (ctxOf s c).grove
  let running := (groveOf s g).job
  let run := js.find? fun j => decide (some j.id = running)
  let s := (js.filter fun j => decide (some j.id ≠ running)).foldl (fun s j => finishWith s j 12 0 (jobCause 0x0C 2)) s
  let s := match run with
    | some _ => if (groveOf s g).resetAt.isSome then s else stopRun s g 12 0 (jobCause 0x0C 2)
    | none => s
  setFlight s { f with
    phase := .unit, slots := f.slots, aux := [c, js.length, match run with | some j => j.id + 1 | none => 0] }

def startContextDestroy (s : State) (f : Flight) : State := killJobs s f fun _ => true

def checkJobKill (s : State) (c : Cmd) : Ruling :=
  let x := ctxNo s c.t (dget c.d 16 2)
  let n := dget c.d 20 4
  ruling [lowest [reserved [(16, 0, 16), (20, 0, 32)] c.d], failIf x.isNone (notOwner 0x10),
    failIf (decide (n ≠ 0) && !jobIssued (ctxOf s (x.getD 256)).lastIssued n) (badParam 0x14)] (yes .af none [x.getD 256, 0, 0])

def startJobKill (s : State) (f : Flight) : State :=
  killJobs s f fun j => decide (dget f.desc 20 4 = 0) || decide (jobNo j = dget f.desc 20 4)

def checkJobSubmit (s : State) (c : Cmd) : Ruling :=
  let d := c.d
  let x := ctxNo s c.t (dget d 16 2)
  let v := ctxOf s (x.getD 256)
  let wait := dbit d 18 0
  let w := ctxNo s c.t (dget d 32 2)
  let lim := dbits d 20 0 24
  let n := nextJob v.lastIssued
  ruling
    [lowest [reserved [(16, 0, 16), (18, 0, 1), (20, 0, 24), (24, 0, 40), (32, 0, 16), (36, 0, 32)] d,
       (x.isSome && decide (lim > v.maxLimit), badParam 0x14), (decide (dbits d 24 0 40 % 64 ≠ 0), badParam 0x18),
       (!wait && decide (dget d 32 2 ≠ 0), badParam 0x20), (!wait && decide (dget d 36 4 ≠ 0), badParam 0x24),
       (wait && w.isSome && !jobIssued (ctxOf s (w.getD 256)).lastIssued (dget d 36 4), badParam 0x24)],
     failIf (!inPlots s c.t (dbits d 24 0 40) 128) (bounds 0x18),
     failIf x.isNone (notOwner 0x10), failIf (wait && w.isNone) (notOwner 0x20),
     failIf (groveOf s v.grove).out (badState 0x10)]
    (yes .af none [x.getD 256, n, if lim = 0 then v.defaultLimit else lim, if wait then w.getD 256 + 1 else 0, dget d 36 4,
       dbits d 24 0 40] n)

/-- An admitted job has its number (11 R499). -/
def commitJobSubmit (s : State) (f : Flight) : State := modCtx s (jobCtx f) fun c => { c with lastIssued := jobNo f }

/-- Free bytes of a shader area. -/
def shaderFree (c : Context) : Nat :=
  c.shaderLen - c.shaders.foldl (fun n e => match e.2 with | some x => n + x.len | none => n) 0

/-- The lowest offset of the shader area at which a container fits. -/
def shaderPlace (c : Context) (len : Nat) : Option Nat :=
  let used := c.shaders.filterMap fun e => e.2.map fun x => (x.ofs, x.len)
  let fits' := fun (o : Nat) => decide (o + len ≤ c.shaderLen) &&
    used.all fun u => decide (o + len ≤ u.1) || decide (u.1 + u.2 ≤ o)
  (0 :: used.map fun u => u.1 + u.2).foldl (fun (b : Option Nat) o =>
    if fits' o then (match b with | some x => some (min x o) | none => some o) else b) none

def checkShaderLoad (s : State) (c : Cmd) : Ruling :=
  let d := c.d
  let x := ctxNo s c.t (dget d 16 2)
  let v := ctxOf s (x.getD 256)
  let len := dget d 20 4
  ruling
    [lowest [reserved [(16, 0, 32), (20, 0, 32), (24, 0, 64)] d, (x.isSome && decide (dget d 18 2 ≥ v.slots), badParam 0x12),
       (decide (len > 1048576), badParam 0x14), (decide (dget d 24 8 % 64 ≠ 0), badParam 0x18)],
     failIf (decide (len ≠ 0) && !inApertures s c.t (dget d 24 8) len) (bounds 0x18),
     failIf x.isNone (notOwner 0x10),
     failIf ((jobsOf s (x.getD 256)).any fun j => (jobSlots s c.t (jobAddr j)).contains (dget d 18 2)) (badState 0x12)]
    (yes .av none [x.getD 256, dget d 18 2])

/-- A LEN of zero empties the slot (11 R524); otherwise the container is read. -/
def startShaderLoad (s : State) (f : Flight) : State :=
  if dget f.desc 20 4 ≠ 0 then await s f .data else
  let c := f.aux.headD 256
  let s := modCtx s c fun x => { x with shaders := tset none x.shaders (dget f.desc 18 2) none }
  finishDone s f (shaderFree (ctxOf s c))

/-- The resource declarations of a container. -/
def shaderRes (b : List Byte) : List ShaderRes :=
  (List.range (min 64 (fieldOf b 22 1))).map fun i =>
    let o := fieldOf b 24 4 + 8 * i
    { type := fieldOf b o 1, binding := fieldOf b (o + 1) 1, access := fieldOf b (o + 2) 1, minSize := fieldOf b (o + 4) 4 }

/-- The least of the offending offsets. -/
def firstOffence (l : List (Bool × Nat)) : Option Nat :=
  (l.filter (·.1)).foldl (fun (b : Option Nat) e => match b with | some x => some (min x e.2) | none => some e.2) none

/-- What is wrong with a declaration: its offset within the declaration (11 R525, order 6). -/
def resFault (b : List Byte) (o : Nat) : Option Nat :=
  let ty := fieldOf b o 1
  let ac := fieldOf b (o + 2) 1
  firstOffence [(decide (ty > 4), 0), (decide (fieldOf b (o + 1) 1 > 63), 1),
    (decide (ac ≥ 4) || (ac.testBit 1 && decide (ty ≠ 1 && ty ≠ 3)), 2), (decide (ty > 1) && decide (fieldOf b (o + 4) 4 ≠ 0), 4)]

/-- The checks of a shader container, in the order of R525, but for its place. -/
def shaderFault (b : List Byte) (len : Nat) : Option Verdict :=
  let bad := fun (o : Nat) => refuse 6 0xFF 0 o
  let f := fun (o n : Nat) => fieldOf b o n
  let n := f 22 1
  let code := f 12 4
  let clen := f 16 4
  let ro := f 24 4
  let stage := f 6 1
  let wg := f 28 2
  let check := crc32c (b.take 60 ++ zeros 4 ++ b.drop 64)
  let decls := (List.range (min 64 n)).map fun i => ro + 8 * i
  let dup := (List.range (min 64 n)).find? fun i => (List.range i).any fun j =>
    decide (fieldOf b (ro + 8 * i + 1) 1 = fieldOf b (ro + 8 * j + 1) 1)
  firstSome
    [(firstOffence [(decide (f 0 4 ≠ 0x4B425348), 0), (decide (f 8 4 ≠ len), 8), (decide (f 60 4 ≠ check), 60)]).map bad,
     failIf (decide (f 4 2 ≠ 1)) (refuse 10 0xFF 0 4),
     (firstOffence
       ([(decide (f 7 1 ≥ 16), 7),
        (decide (code % 64 ≠ 0 || code < 64 || code + clen > len), 12), (decide (clen < 16 || clen > 262144 || clen % 16 ≠ 0), 16),
        (decide (n > 64), 22), (decide (f 23 1 ≠ 0), 23),
        (decide (ro % 8 ≠ 0) || (decide (n ≠ 0) && (decide (ro < 64 || ro + 8 * n > len) ||
          (decide (ro < code + clen) && decide (code < ro + 8 * n)))), 24)] ++
        ((List.range 27).map fun i => (decide (f (33 + i) 1 ≠ 0), 33 + i)) ++
        (decls.map fun o => (decide (f (o + 3) 1 ≠ 0), o + 3)))).map bad,
     (firstOffence
       [(decide (stage > 2), 6), (decide (stage ≠ 1) && decide (bits (f 7 1) 0 3 ≠ 0), 7),
        (if stage = 2 then decide (wg = 0 || wg > 1024) else decide (wg ≠ 0), 28),
        (if stage = 2 then decide (f 30 2 > 32768) else decide (f 30 2 ≠ 0), 30),
        (if stage = 1 then decide (f 32 1 > 64) else decide (f 32 1 ≠ 0), 32)]).map bad,
     failIf (decide (f 20 2 = 0 || f 20 2 > 255) || (decide (stage = 2) && decide (ceilDiv wg 128 * 128 * f 20 2 > 65536))) (bad 20),
     (firstOffence ((decls.filterMap fun o => (resFault b o).map fun k => (true, o + k)) ++
       [(dup.isSome, ro + 8 * dup.getD 0 + 1)])).map bad]

/-- The container has arrived: it is checked, and takes its place in the slot (11 R523 to R525). -/
def loadShader (s : State) (f : Flight) (b : List Byte) : State :=
  let c := f.aux.headD 256
  let slot := dget f.desc 18 2
  let len := dget f.desc 20 4
  let x := ctxOf s c
  match shaderFault b len with
  | some v => finish s f v
  | none =>
    let x' := { x with shaders := tset none x.shaders slot none }
    match shaderPlace x' len with
    | none => finish s f (bounds 0x14)
    | some o =>
      let sh : Shader := { ofs := o, len := len, stage := fieldOf b 6 1, flags := fieldOf b 7 1, wgMax := fieldOf b 28 2,
                           plsUse := fieldOf b 32 1, res := shaderRes b }
      let s := setCtx s c { x' with shaders := tset none x'.shaders slot (some sh) }
      let s := srPut s 7 0x1E x.owner (x.shaderRef + o) (sound b)
      finishDone s f (shaderFree (ctxOf s c))

def checkContextQuery (s : State) (c : Cmd) : Ruling :=
  ruling (recordChecks s c.t (dget c.d 24 8) 64 0x18 [reserved [(16, 0, 16), (24, 0, 64)] c.d] ++
    [failIf (ctxNo s c.t (dget c.d 16 2)).isNone (notOwner 0x10)]) (yes .f)

/-- The context record (11 R526). -/
def contextRecord (s : State) (c : Nat) : List Byte :=
  let x := ctxOf s c
  let shared := decide ((List.range 17).any fun t => (tenOf s t).grants.grovesShr.testBit x.grove)
  let running := (groveOf s x.grove).job.isSome && decide ((groveOf s x.grove).ctx = c)
  leBytes 2 x.loc ++ leBytes 1 (x.grove + 4 * b2n shared + 8 * b2n x.fail + 16 * b2n (groveOf s x.grove).out) ++ zeros 1 ++
  leBytes 4 x.lastIssued ++ leBytes 4 x.lastDone ++ leBytes 4 (jobsOf s c).length ++ leBytes 4 x.flushes ++
  leBytes 4 x.limitKills ++ leBytes 4 x.poolPeak ++ leBytes 4 (shaderFree x) ++
  leBytes 8 (if running then x.busyTicks + (now s - (groveOf s x.grove).since) else x.busyTicks) ++ zeros 24

def startContextQuery (s : State) (f : Flight) : State :=
  match ctxNo s f.src.fn (dget f.desc 16 2) with
  | some c => finishDone (hostWrite s (dget f.desc 24 8) (contextRecord s c)) f
  | none => finishDone s f

end Sys2Proof.Machine
end

