-- ==== Sys2Proof/Machine/DmaOps.lean ====
section
/-! DEFINITION. The DMA engines (16): transfers, their admission, their data, halts, and the checks and effects of the
DMA commands. A transfer's flight keeps its channel (physical), the destination bytes already written, and the source
ranges its host reads found poisoned, each as an offset and a length. -/

namespace Sys2Proof.Machine

/-! ### Admission (16 R684, 04 R187) -/

/-- Whether a range lies in what is behind its space. -/
def spaceHolds (s : State) (t view : Nat) (sp : Space) (a n : Nat) : Bool :=
  match sp with
  | .host => inApertures s t a n
  | .bulk => inPlots s view a n
  | .stockroom => inShelves s t a n
  | .bad => true

def spaceBits (sp : Space) : Nat := match sp with | .bulk => 40 | .stockroom => 28 | _ => 64

/-- A C2 transfer's deadline as a tick. -/
def deadlineOf (s : State) (d : Descriptor) : Option Nat := tickOfInstant s (dget d 20 4) (dget d 24 4)

/-- The earliest-deadline-first test of R187 on one wheel, over the transfers whose charges stand (04 R175). -/
def edfFits (s : State) (t wheel a : Nat) (new : Nat × Nat) : Bool :=
  (s.wheels.active :: s.loads.filterMap (·.wheels)).all fun ws =>
    demandFits (grantedEntries s ws wheel t) (a + 40000) (new :: demands s t wheel)

/-- The deadline's checks: LATE, and the wheels in the order of R177. -/
def deadlineCheck (s : State) (c : Cmd) : Option Verdict :=
  let lateV : Verdict := { status := 11, reason := 1, inst := some (c.a + 40000) }
  match deadlineOf s c.d with
  | none => some lateV
  | some p =>
    let ch := xferCharges c.d (xferSize c.d)
    let on := fun (w reason : Nat) => failIf (decide (chargeOn w ch ≠ 0) && !edfFits s c.t w c.a (p, chargeOn w ch)) (budget reason 0)
    firstSome [failIf (decide (p < c.a + 40000)) lateV, on 7 0x06, on 8 0x07, on 9 0x08]

def layoutXfer : List (Nat × Nat × Nat) :=
  [(16, 0, 8), (17, 0, 4), (18, 0, 8), (19, 0, 4), (20, 0, 64), (28, 0, 64), (36, 0, 64), (44, 0, 36), (52, 0, 96)]

/-- The four transfer commands (16). -/
def checkXfer (s : State) (c : Cmd) : Ruling :=
  let d := c.d
  let ch := chanNo s c.t (dget d 16 1)
  let k := ch.getD 64
  let view := dget d 18 1
  let vt := if c.t = 0 then viewOf c.t d else c.t
  let c2 := decide (classOf d = 2)
  let pl := dbits d 19 0 4
  let n := xferSize d
  let sLast := srcAddr d + spanOf d (srcStride d)
  let dLast := dstAddr d + spanOf d (dstStride d)
  let copies := !isFill d && !isCompare d
  let meets := copies && decide (srcSpace d = dstSpace d) && decide (n ≠ 0) && decide (srcAddr d < dLast) && decide (dstAddr d < sLast)
  let ten := tenOf s view
  let want := if c2 then deadlineOf s d else none
  let breaks := decide (view ≠ 0xFF) && decide (ten.state = .frozen) &&
    (if ten.imported then decide (srcSpace d = .bulk && !isFill d) || (isCompare d && decide (dstSpace d = .bulk))
     else decide (dstSpace d = .bulk) && !isCompare d)
  ruling
    [lowest [reserved layoutXfer d,
       (decide (srcSpace d = .bad) || decide (dstSpace d = .bad) || (isFill d && decide (srcSpace d ≠ .host)) ||
          (!isFill d && decide (srcSpace d = .host) && decide (dstSpace d = .host)), badParam 0x11),
       (decide (view ≠ 0xFF) && decide (view > 16), badParam 0x12),
       (if isFill d then decide (pl = 0 || pl > 8) else decide (pl ≠ 0), badParam 0x13),
       (!c2 && decide (dget d 20 4 ≠ 0), badParam 0x14),
       (if c2 then decide (dget d 24 4 ≥ s.tl.epochTicks) else decide (dget d 24 4 ≠ 0), badParam 0x18),
       (!isFill d && decide (srcAddr d ≥ 2 ^ spaceBits (srcSpace d)), badParam 0x1C),
       (meets || decide (dstAddr d ≥ 2 ^ spaceBits (dstSpace d)), badParam 0x24),
       (!is2d d && decide (dget d 52 4 ≠ 0), badParam 0x34), (!is2d d && decide (dget d 56 4 ≠ 0), badParam 0x38),
       (if is2d d then decide (xferRows d > 1) && decide (dget d 60 4 < xferLen d) else decide (dget d 60 4 ≠ 0), badParam 0x3C)],
     failIf (decide (n ≠ 0) && !isFill d && !spaceHolds s c.t vt (srcSpace d) (srcAddr d) (spanOf d (srcStride d))) (bounds 0x1C),
     failIf (decide (n ≠ 0) && !spaceHolds s c.t vt (dstSpace d) (dstAddr d) (spanOf d (dstStride d))) (bounds 0x24),
     failIf ch.isNone (notOwner 0x10),
     failIf (decide (view ≠ 0xFF) && (decide (c.t ≠ 0) || breaks)) (notOwner 0x12),
     if n = 0 then none else fenceCheck s c want,
     failIf (!(chanOf s k).configured) (badState 0x10),
     failIf (decide (view ≠ 0xFF) && decide (ten.state ≠ .frozen)) (badState 0x12),
     if n = 0 then none else failIf (decide ((xfersOf s k).length ≥ 32)) (capacity 0x25),
     if n = 0 || !c2 then none else deadlineCheck s c]
    (if n = 0 then yes .f else yes .af want [k, 0])

/-! ### Data (16 R678, R682, R686, R695) -/

/-- The bytes at an address of a space, each with whether its word is poisoned. -/
def spaceBytes (s : State) (t view : Nat) (sp : Space) (a n : Nat) : List (Byte × Bool) :=
  match sp with
  | .host => sound (hostRead s a n)
  | .bulk => bulkBytes s t view a n
  | .stockroom => srBytes s t t a n
  | .bad => []

/-- The engines' read of bytes of a space, through the ports of its groups (01 R20; 03 R98, R103): bulk memory through
group 0, the host and the Stockroom through group 3, with the tenancy's tag. -/
def spaceRead (s : State) (t view : Nat) (sp : Space) (a n : Nat) : List (Byte × Bool) × State :=
  match sp with
  | .host => (sound (hostRead s a n), noteMoved s 3)
  | .bulk => bulkRead (noteMoved s 0) t view a n
  | .stockroom => srRead s 3 t t a n
  | .bad => ([], s)

/-- A write of bytes at an address of a space, bulk memory through group 1. Poisoned words go to the host with the EP bit
set; the bytes beside it are free values (log entry 3). -/
def spacePut (s : State) (t view : Nat) (sp : Space) (a : Nat) (l : List (Byte × Bool)) : State :=
  match sp with
  | .host =>
    l.zipIdx.foldl (fun s b =>
      if b.1.2 then
        let (bs, s) := freshBytes s 1
        hostWrite s (a + b.2) bs
      else hostWrite s (a + b.2) [b.1.1]) (noteMoved s 3)
  | .bulk => bulkPut (noteMoved s 1) t view a l
  | .stockroom => srPut s 3 t t a l
  | .bad => s

/-- Whether byte i of a transfer's source came in a poisoned completion. -/
def arrivedPoisoned (aux : List Nat) (i : Nat) : Bool :=
  match aux with
  | o :: n :: rest => (decide (o ≤ i) && decide (i < o + n)) || arrivedPoisoned rest i
  | _ => false

/-- The source bytes of part of row r of a transfer. -/
def sourceRow (s : State) (f : Flight) (r o n : Nat) : List (Byte × Bool) × State :=
  let d := f.desc
  let t := f.src.fn
  if isFill d then
    ((List.range n).map fun i => (BitVec.ofNat 8 (dget d (28 + (r * xferLen d + o + i) % max 1 (dbits d 19 0 4)) 1), false), s)
  else
    let (l, s) := spaceRead s t (viewOf t d) (srcSpace d) (srcAddr d + r * srcStride d + o) n
    (l.zipIdx.map fun b => (b.1.1, b.1.2 || arrivedPoisoned (f.aux.drop 2) (r * xferLen d + o + b.2)), s)

/-- The bytes a station moved for a tenancy are counted (03 R156, 17 R728). -/
def countMoved (s : State) (t : Nat) (sp : Space) (write : Bool) (n : Nat) : State :=
  let add := fun (x : Nat) => (x + n) % 2 ^ 64
  match sp, write with
  | .bulk, w => countBulk s t n w
  | .stockroom, true => s.modSr fun d => { d with wrBytes := tmod 0 d.wrBytes t add }
  | .stockroom, false => s.modSr fun d => { d with rdBytes := tmod 0 d.rdBytes t add }
  | _, _ => s

/-- The parts of the destination bytes from `lo` to `hi`, row by row: row, offset in it, length. -/
def rowParts (d : Descriptor) (lo hi : Nat) : List (Nat × Nat × Nat) :=
  let len := xferLen d
  if len = 0 || hi ≤ lo then [] else
  (List.range ((hi - 1) / len + 1 - lo / len)).map fun i =>
    let r := lo / len + i
    let a := max lo (r * len)
    (r, a - r * len, min hi ((r + 1) * len) - a)

/-- Moves the destination bytes of a transfer up to `upto` (16 R678): the state, the bytes moved, and whether any of
them was poisoned. -/
def moveBytes (s : State) (f : Flight) (upto : Nat) : State × List Byte × Bool :=
  let d := f.desc
  let t := f.src.fn
  (rowParts d (xferMoved f) upto).foldl (fun acc p =>
    let (l, s) := sourceRow acc.1 f p.1 p.2.1 p.2.2
    let s := spacePut s t (viewOf t d) (dstSpace d) (dstAddr d + p.1 * dstStride d + p.2.1) l
    let s := countMoved s t (dstSpace d) true p.2.2
    let s := if isFill d then s else countMoved s t (srcSpace d) false p.2.2
    (s, acc.2.1 ++ l.map (·.1), acc.2.2 || l.any (·.2))) (s, ([] : List Byte), false)

/-- The last 64-byte destination block boundary at or before byte `m` of a transfer (16 R687). -/
def blockBefore (d : Descriptor) (m : Nat) : Nat :=
  let len := xferLen d
  if len = 0 then 0 else
  let r := m / len
  let a := dstAddr d + r * dstStride d + m % len
  r * len + (m % len - a % 64)

/-- The first difference of a comparison, or its first poisoned word (16 R695): offset, and whether it is poison. -/
def compareScan (d : Descriptor) : List (Byte × Bool) → List (Byte × Bool) → Nat → Option (Nat × Bool)
  | a :: as, b :: bs, i =>
    if a.2 || b.2 then some (i, true) else if a.1 ≠ b.1 then some (i, false) else compareScan d as bs (i + 1)
  | _, _, _ => none

/-- The first byte, within the range, of the poisoned word that holds byte i. -/
def wordStart (d : Descriptor) (aPoisoned : Bool) (i : Nat) : Nat :=
  let a := (if aPoisoned then srcAddr d else dstAddr d) + i
  i - min i (a % 8)

/-! ### Status, halts and completion -/

/-- STATE of a channel: 0 UNCONFIGURED, 1 IDLE, 2 BUSY, 3 HALTED. -/
def chanState (s : State) (k : Nat) : Nat :=
  let c := chanOf s k
  if !c.configured then 0 else if c.halted then 3 else if (xfersOf s k).isEmpty then 1 else 2

/-- DM_STATUS. -/
def dmStatus (s : State) (k : Nat) : Nat :=
  let c := chanOf s k
  chanState s k + 4 * b2n c.write + 8 * c.cause + 256 * c.owner + 65536 * (xfersOf s k).length

/-- The DMA status record (16 R697). -/
def dmaRecord (s : State) (k : Nat) (d : Descriptor) : List Byte :=
  let c := chanOf s k
  leBytes 1 c.loc ++ leBytes 1 (chanState s k + 4 * b2n c.write + 8 * c.cause) ++ leBytes 2 (tagOf d) ++
  leBytes 4 (xfersOf s k).length ++ leBytes 8 c.failAddr ++ leBytes 5 c.moved ++ zeros 3 ++ leBytes 5 c.compareOfs ++
  zeros 3 ++ leBytes 8 (userOf d) ++ zeros 24

/-- The status record is written, or held with the function's records (16 R697). -/
def writeStatus (s : State) (k : Nat) (d : Descriptor) : State :=
  issueRecord s (chanOf s k).owner
    { isCompletion := false, ring := 0, bytes := dmaRecord s k d, addr := some (chanOf s k).statusAddr }

/-- A channel leaves HALTED (16 R689, R690; 18 R735). -/
def leaveHalt (s : State) (k : Nat) : State :=
  if (chanOf s k).halted then
    lower (modChan s k fun c => { c with halted := false, cause := 0, write := false, failing := none }) (srcDma k) 1
  else s

/-- A DMA_RESUME that has restarted a channel and lacks its final completion (16 R689). -/
def resumeOf (s : State) (k : Nat) : Option Flight :=
  s.flights.find? fun f => f.op == 0xA5 && accepted f && decide (f.aux.length ≥ 2) && decide (f.aux.headD 64 = k)

/-- A DMA_RESUME waiting for the end of the transfer it restarted (16 R689). -/
def resumeFor (s : State) (id : Nat) : Option Flight :=
  s.flights.find? fun f => f.op == 0xA5 && f.phase == .unit && (f.aux.drop 1).head? == some (id + 1)

/-- The wheels a transfer is charged on. -/
def wheelsOf (d : Descriptor) : List Nat := [7, 8, 9].filter fun w => decide (chargeOn w (xferCharges d (xferSize d)) ≠ 0)

/-- A transfer whose last byte can become visible: it moves, and every turn its bytes take has been served (01 R27, 04 R187). -/
def xferReady (s : State) (f : Flight) : Bool := moving s f && (wheelsOf f.desc).all fun w => decide (turnsLeft f w = 0)

/-- The transfer a turn of a tenancy on a wheel serves: the first of those that still lack turns of it (04 R188). -/
def xferTurn (s : State) (wheel t : Nat) : Option Flight :=
  (s.flights.filter fun f => decide (f.src.fn = t) && moving s f && decide (turnsLeft f wheel ≠ 0)).foldl
    (fun best f => match best with | none => some f | some b => if servedFirst f b then some f else some b) none

/-- A turn of one of the DMA's wheels is served. -/
def serveXfer (s : State) (wheel : Nat) : State :=
  match xferTurn s wheel (s.wheels.served.getD wheel 0x1F) with
  | none => s
  | some f => setFlight s (if wheel = 7 then { f with turns7 := f.turns7 + 1 }
      else if wheel = 8 then { f with turns8 := f.turns8 + 1 } else { f with turns9 := f.turns9 + 1 })

/-- What a moving transfer has written when it is stopped (05 R234, 16 R690): whole 64-byte blocks, of which the spec states
no number: a free value (log entry 3), within what its turns can have moved. -/
def stopXfer (s : State) (f : Flight) : State :=
  let m := xferMoved f
  if !moving s f || isCompare f.desc || bytesServed f ≤ m then s else
  let (v, s) := freshValue s
  let upto := max m (blockBefore f.desc (m + v.toNat % (bytesServed f - m + 1)))
  let (s, _, _) := moveBytes s f upto
  setFlight s { f with aux := xferChan f :: upto :: f.aux.drop 2 }

/-- A channel halts (16 R687, R688). -/
def haltChannel (s : State) (f : Flight) (cause : Nat) (write : Bool) (addr moved : Nat) : State :=
  let k := xferChan f
  if !moving s f then s else
  let s := ((xfersOf s k).filter fun g => g.id ≠ f.id).foldl stopXfer s
  let upto := max (xferMoved f) (blockBefore f.desc (min moved (xferSize f.desc)))
  let (s, _, _) := if isCompare f.desc then (s, [], false) else moveBytes s f upto
  let s := setFlight s { f with aux := k :: upto :: f.aux.drop 2 }
  let s := s.modFlights fun l => l.map fun g => if isXfer g && xferChan g == k then { g with withdrawn := true, released := true } else g
  let s := modChan s k fun c =>
    { c with halted := true, cause := cause, write := write, failAddr := addr, moved := upto, failing := some f.id }
  let s := writeStatus s k f.desc
  let s := if cause = 1 then noteAer s f.src.fn 14 else s
  let s := assert (raise s (srcDma k) 0) 35 0
  match resumeOf s k with
  | some r => withdraw s r { status := 13, reason := 0x33, value := 35 }
  | none => s

/-- A transfer ends: the DMA_RESUME that restarted it completes in the same tick (16 R689), and an aborted comparison's
status record is written first (R697). -/
def endXfer (s : State) (f : Flight) (v : Verdict) : State :=
  let r := resumeFor s f.id
  let s := if isCompare f.desc && v.status = 12 then writeStatus s (xferChan f) f.desc else s
  let s := finish s f v
  match r with
  | some g => finishDone s g
  | none => s

/-- A transfer ends with what it found, or with FAULTED where its promised instant has gone by (04 R195). -/
def endXferAt (s : State) (f : Flight) (v : Verdict) : State :=
  match servedBy f with
  | some p => if now s > p then endXfer (missNote s f) f { status := 13, reason := 0x31, inst := some p } else endXfer s f v
  | none => endXfer s f v

/-- The address of a transfer's byte on one of its sides. -/
def sideAddr (d : Descriptor) (write : Bool) (m : Nat) : Nat :=
  let row := m / max 1 (xferLen d)
  (if write then dstAddr d + row * dstStride d else srcAddr d + row * srcStride d) + m % max 1 (xferLen d)

/-- Whether a transfer has a host side that its function cannot reach (16 R686; 05 R864). -/
def hostBarred (s : State) (f : Flight) : Bool :=
  !canWrite s f.src.fn && ((decide (srcSpace f.desc = .host) && !isFill f.desc) || decide (dstSpace f.desc = .host))

/-- A host access of a transfer is due while its function cannot make it: the channel halts, at a block boundary within what
its turns can have moved (16 R686, R687; log entry 149). -/
def haltBarred (s : State) (f : Flight) : State :=
  let s := stopXfer s f
  match flightBy s fun g => g.id == f.id with
  | none => s
  | some g =>
    let write := decide (dstSpace g.desc = .host)
    haltChannel s g (if s.pcie.linkDown then 4 else 3) write (sideAddr g.desc write (xferMoved g)) (xferMoved g)

/-- A transfer's last byte is visible (16 R685, R686, R695); `fold` lets the assay units see what the channel wrote. -/
def transferDone (fold : State → Nat → Option (List Byte) → Flight → State) (s : State) (f : Flight) : State :=
  let k := xferChan f
  if !xferReady s f then s else
  if hostBarred s f then haltBarred s f else
  let d := f.desc
  let t := f.src.fn
  let n := xferSize d
  let ok : Verdict := { status := 0, inst := some (now s) }
  if isCompare d then
    let (a, s) := sourceRow s f 0 0 n
    let (b, s) := spaceRead s t (viewOf t d) (dstSpace d) (dstAddr d) n
    let hit := compareScan d a b 0
    let ofs := match hit with
      | some (i, true) => wordStart d ((a.drop i).headD (0, false)).2 i
      | some (i, false) => i
      | none => 2 ^ 36 - 1
    let s := countMoved (countMoved s t (srcSpace d) false n) t (dstSpace d) false n
    let s := writeStatus (modChan s k fun c => { c with compareOfs := ofs }) k d
    match hit with
    | some (_, true) => endXferAt s f (refuse 14 0x34)
    | some (_, false) => endXferAt s f { ok with value := 1 }
    | none => endXferAt s f ok
  else
    let (s, _, bad) := moveBytes s f n
    let written := (rowParts d 0 n).flatMap fun p =>
      (spaceBytes s t (viewOf t d) (dstSpace d) (dstAddr d + p.1 * dstStride d + p.2.1) p.2.2).map (·.1)
    endXferAt (fold s k (some written) f) f (if bad then refuse 14 0x34 else ok)

/-- Part of a transfer's source came in a poisoned completion (16 R686). -/
def markPoisoned (s : State) (f : Flight) (ofs len : Nat) : State :=
  if !isXfer f || f.phase ≠ .unit then s else setFlight (noteAer s f.src.fn 12) { f with aux := f.aux ++ [ofs, len] }

/-! ### Commands -/

def startXfer (s : State) (f : Flight) : State :=
  if xferSize f.desc = 0 then finishDone s f else await s f .unit

def checkChannelConfig (s : State) (c : Cmd) : Ruling :=
  let d := c.d
  let k := chanNo s c.t (dget d 16 1)
  let on := dbit d 17 0
  ruling
    ([lowest [reserved [(16, 0, 8), (17, 0, 1), (24, 0, 64)] d, (!on && decide (dget d 24 8 ≠ 0), badParam 0x18),
       (on && decide (dget d 24 8 % 64 ≠ 0), badParam 0x18)], failIf (on && !inApertures s c.t (dget d 24 8) 64) (bounds 0x18)] ++
     [failIf k.isNone (notOwner 0x10),
      failIf (!(xfersOf s (k.getD 64)).isEmpty || (chanOf s (k.getD 64)).halted) (badState 0x10)])
    (yes .f none [k.getD 64])

def startChannelConfig (s : State) (f : Flight) : State :=
  let k := f.aux.headD 64
  finishDone (modChan s k fun c =>
    { owner := c.owner, loc := c.loc, configured := dbit f.desc 17 0, statusAddr := dget f.desc 24 8 }) f

def checkDmaResume (s : State) (c : Cmd) : Ruling :=
  let k := chanNo s c.t (dget c.d 16 1)
  ruling [lowest [reserved [(16, 0, 8)] c.d], failIf k.isNone (notOwner 0x10),
    failIf (!(chanOf s (k.getD 64)).halted) (badState 0x10)] (yes .af none [k.getD 64])

/-- The channel leaves HALTED, and the failing transfer restarts at MOVED (16 R689). -/
def restartChannel (s : State) (f : Flight) : State :=
  let k := f.aux.headD 64
  let id := (chanOf s k).failing
  let s := setFlight s { f with aux := [k, match id with | some i => i + 1 | none => 0] }
  leaveHalt s k

/-- DMA_RESUME acts at its admission instant (16 R689), or when the fence before its work opens (06 R278). -/
def commitDmaResume (s : State) (f : Flight) : State := if fenced s f then s else restartChannel s f

/-- After its ACCEPT a DMA_RESUME waits for the transfer it restarted. -/
def startDmaResume (s : State) (f : Flight) : State :=
  let s := if f.aux.length < 2 && (chanOf s (f.aux.headD 64)).halted then restartChannel s f else s
  match flightBy s fun g => g.id == f.id with
  | none => s
  | some f =>
    match s.flights.find? fun g => g.id + 1 == (f.aux.drop 1).headD 0 with
    | some _ => await s f .unit
    | none => finishDone s f

def checkDmaAbort (s : State) (c : Cmd) : Ruling :=
  let k := chanNo s c.t (dget c.d 16 1)
  ruling [lowest [reserved [(16, 0, 8)] c.d], failIf k.isNone (notOwner 0x10)] (yes .f none [k.getD 64])

/-- A DMA_ABORT stops the channel's engines: its transfers wait for their ABORTED, and a HALTED channel leaves that
state (16 R690, R691). -/
def stopEngines (s : State) (f : Flight) : State :=
  let k := f.aux.headD 64
  let s := (xfersOf s k).foldl stopXfer s
  leaveHalt (setFlight s { f with aux := k :: 1 :: (xfersOf s k).map fun g => g.id }) k

/-- A DMA_ABORT acts at its admission instant (16 R690), or when the fence before its work opens (06 R278). -/
def commitDmaAbort (s : State) (f : Flight) : State :=
  if fenced s f then s else stopEngines s f

/-- The transfers complete with ABORTED, then the DMA_ABORT with their number (16 R690). -/
def startDmaAbort (fold : State → Nat → Option (List Byte) → Flight → State) (s : State) (f : Flight) : State :=
  let k := f.aux.headD 64
  let s := if f.aux.length < 2 then stopEngines s f else s
  match flightBy s fun g => g.id == f.id with
  | none => s
  | some f =>
    let gs := s.flights.filter fun g => (f.aux.drop 2).contains g.id
    let s := gs.foldl (fun s g => endXfer (fold s k none g) g (refuse 12 0)) s
    let s := writeStatus s k f.desc
    finishDone s f gs.length

end Sys2Proof.Machine
end

