-- ==== Sys2Proof/Machine/Pixel.lean ====
section
/-! DEFINITION. The function a compose pipe computes (08 R346 to R369): stored bytes to working pixels, scaling,
blending, dither; and the decoding of LTC lines (R350 to R352). Every step is the integer step of the chapter. -/

namespace Sys2Proof.Machine

/-- A working pixel: 10-bit red, green, blue and alpha, the colours premultiplied. -/
structure Px where
  r : Nat
  g : Nat
  b : Nat
  a : Nat
  deriving DecidableEq, Repr

def Px.zero : Px := ⟨0, 0, 0, 0⟩

/-- A working pixel as 40 bits. -/
def Px.ofNat (p : Nat) : Px := ⟨bits p 0 10, bits p 10 10, bits p 20 10, bits p 30 10⟩

/-- round(x y / 1,023), as R353 computes it. -/
def mul10 (x y : Nat) : Nat :=
  let p := x * y
  (p + 512 + (p + 512) / 1024) / 1024

/-- The colour clamp (R353). -/
def Px.clamp (p : Px) : Px := ⟨min p.r p.a, min p.g p.a, min p.b p.a, p.a⟩

/-- Premultiplication (R354). -/
def Px.premul (p : Px) : Px := ⟨mul10 p.r p.a, mul10 p.g p.a, mul10 p.b p.a, p.a⟩

def clamp10 (i : Int) : Nat := (clampI 0 1023 i).toNat

/-- Expansion of an 8-bit RGB or alpha value (R346). -/
def expand8 (v : Nat) : Nat := v * 4 + v / 64

/-- Conversion coefficients: YOFS, KY, KRV, KGU, KGV, KBU (R356). -/
def cscTable : List (Int × Int × Int × Int × Int × Int) :=
  [(64, 4783, 6557, 1609, 3340, 8287), (0, 4096, 5743, 1410, 2925, 7258), (64, 4783, 7365, 876, 2189, 8678),
   (0, 4096, 6450, 767, 1917, 7601), (64, 4783, 6896, 770, 2672, 8799), (0, 4096, 6040, 674, 2340, 7706)]

/-- Colour conversion (R357). -/
def convert (csc y cb cr : Nat) : Px :=
  let (yofs, ky, krv, kgu, kgv, kbu) := (cscTable.drop csc).headD (0, 0, 0, 0, 0, 0)
  let yp : Int := y - yofs
  let u : Int := cb - 512
  let v : Int := cr - 512
  ⟨clamp10 ((ky * yp + krv * v + 2048) / 4096), clamp10 ((ky * yp - kgu * u - kgv * v + 2048) / 4096),
   clamp10 ((ky * yp + kbu * u + 2048) / 4096), 1023⟩

/-- What the pipe reads: byte i of source line y of a plane, and whether it counts as poisoned. -/
structure Lines where
  plane1 : Nat → List Byte
  plane2 : Nat → List Byte
  poison1 : Nat → List Nat
  poison2 : Nat → List Nat

def byteAt (l : List Byte) (i : Nat) : Nat := ((l.drop i).headD 0).toNat
def wordAt (l : List Byte) (i : Nat) : Nat := byteAt l i + 256 * byteAt l (i + 1)

/-- One chroma sample (0 Cb, 1 Cr) of chroma line j at position m: its 10-bit value (R346). -/
def chromaAt (st : LayerState) (ln : Lines) (which j m : Nat) : Nat :=
  if st.format = 0x10 then byteAt (ln.plane2 j) (2 * m + which) * 4
  else if st.format = 0x12 then byteAt (ln.plane1 j) (4 * m + 1 + 2 * which) * 4
  else wordAt (ln.plane2 j) (4 * m + 2 * which) / 64

/-- Chroma after vertical up-sampling at luma line y (R355). -/
def chromaV (st : LayerState) (ln : Lines) (which y m : Nat) : Nat :=
  if is420 st.format then
    let near := y / 2
    let lo := st.srcY / 2
    let hi := (st.srcY + st.srcH) / 2 - 1
    let far := if y % 2 = 0 then max lo (near - 1) else min hi (near + 1)
    (3 * chromaAt st ln which near m + chromaAt st ln which far m + 2) / 4
  else chromaAt st ln which y m

/-- Chroma at luma column x of line y (R355). -/
def chroma (st : LayerState) (ln : Lines) (which x y : Nat) : Nat :=
  if x % 2 = 0 then chromaV st ln which y (x / 2)
  else
    let hi := (st.srcX + st.srcW) / 2 - 1
    let m := (x - 1) / 2
    (chromaV st ln which y m + chromaV st ln which y (min hi (m + 1)) + 1) / 2

/-- Chroma lines of plane 2 that a source line uses (R355). -/
def chromaLines (st : LayerState) (y : Nat) : List Nat :=
  if is420 st.format then
    let near := y / 2
    let lo := st.srcY / 2
    let hi := (st.srcY + st.srcH) / 2 - 1
    [near, if y % 2 = 0 then max lo (near - 1) else min hi (near + 1)].eraseDups
  else if twoPlanes st.format then [y] else []

/-- Positions of the chroma samples that a luma column uses (R355). -/
def chromaColumns (st : LayerState) (x : Nat) : List Nat :=
  if x % 2 = 0 then [x / 2] else [(x - 1) / 2, min ((st.srcX + st.srcW) / 2 - 1) ((x - 1) / 2 + 1)]

/-- The value of an indexed pixel: packed from the most significant bit of each byte (R345). -/
def indexAt (l : List Byte) (w x : Nat) : Nat := byteAt l (x * w / 8) / 2 ^ (8 - w - x * w % 8) % 2 ^ w

/-- The stored bytes of plane 1 that a pixel is drawn from. -/
def pixelBytes (st : LayerState) (x : Nat) : List Nat :=
  let n := meanBpp st.format
  if st.format = 0x10 then [x] else if st.format = 0x11 || st.format = 0x13 then [2 * x, 2 * x + 1]
  else if st.format = 0x12 then 2 * x :: (chromaColumns st x).flatMap fun m => [4 * m + 1, 4 * m + 3]
  else if isIndexed st.format then [x * n / 8] else (List.range (n / 8)).map (x * (n / 8) + ·)

/-- The stored bytes of a chroma line of plane 2 that a pixel is drawn from. -/
def chromaBytes (st : LayerState) (x : Nat) : List Nat :=
  let per := if st.format = 0x10 then 2 else 4
  (chromaColumns st x).flatMap fun m => (List.range per).map (per * m + ·)

/-- Whether a pixel is drawn from a poisoned word, one of the chroma samples it is interpolated from included
(03 R136). -/
def poisonedAt (st : LayerState) (ln : Lines) (x y : Nat) : Bool :=
  (!(ln.poison1 y).isEmpty && (pixelBytes st x).any fun i => (ln.poison1 y).contains i) ||
  ((chromaLines st y).any fun m => !(ln.poison2 m).isEmpty && (chromaBytes st x).any fun i => (ln.poison2 m).contains i)

/-- Steps 1 to 4 of R353 and the opaque step of R367, for the pixel at column x and line y of the buffer. -/
def sourcePixel (st : LayerState) (clut : Tab Nat) (ln : Lines) (x y : Nat) : Px :=
  if poisonedAt st ln x y then Px.zero else
  let l := ln.plane1 y
  let straight := fun (p : Px) => if st.premult then p else p.premul
  let p :=
    if st.format = 1 then straight ⟨expand8 (byteAt l (4 * x)), expand8 (byteAt l (4 * x + 1)),
      expand8 (byteAt l (4 * x + 2)), expand8 (byteAt l (4 * x + 3))⟩
    else if st.format = 2 then ⟨expand8 (byteAt l (4 * x)), expand8 (byteAt l (4 * x + 1)),
      expand8 (byteAt l (4 * x + 2)), 1023⟩
    else if st.format = 3 then ⟨expand8 (byteAt l (3 * x)), expand8 (byteAt l (3 * x + 1)),
      expand8 (byteAt l (3 * x + 2)), 1023⟩
    else if st.format = 4 || st.format = 5 then
      let w := fieldOf l (4 * x) 4
      if st.format = 4 then straight ⟨bits w 0 10, bits w 10 10, bits w 20 10, bits w 30 2 * 341⟩
      else ⟨bits w 0 10, bits w 10 10, bits w 20 10, 1023⟩
    else if st.format = 6 then straight ⟨wordAt l (8 * x) / 64, wordAt l (8 * x + 2) / 64, wordAt l (8 * x + 4) / 64,
      wordAt l (8 * x + 6) / 64⟩
    else if isYcc st.format then
      let yv := if st.format = 0x10 then byteAt l x * 4 else if st.format = 0x12 then byteAt l (2 * x) * 4
        else wordAt l (2 * x) / 64
      convert st.csc yv (chroma st ln 0 x y) (chroma st ln 1 x y)
    else Px.ofNat (tget 0 clut (indexAt l (meanBpp st.format) x))
  let p := p.clamp
  if st.isOpaque then { p with a := 1023 } else p

/-- The source image after flipping (R358), positions clamped to it (R361). -/
def sourceImage (st : LayerState) (clut : Tab Nat) (ln : Lines) (i j : Int) : Px :=
  let i := (clampI 0 ((st.srcW : Int) - 1) i).toNat
  let j := (clampI 0 ((st.srcH : Int) - 1) j).toNat
  sourcePixel st clut ln (st.srcX + (if st.hFlip then st.srcW - 1 - i else i))
    (st.srcY + (if st.vFlip then st.srcH - 1 - j else j))

/-- Position and phase on a scaled axis (R360). -/
def scalePos (s d x : Nat) : Int × Nat :=
  let pos : Int := (((2 * x + 1) * s * 65536 / (2 * d) : Nat) : Int) - 32768
  let i := pos / 65536
  (i, ((pos - i * 65536) / 1024).toNat)

/-- Coefficient of tap k of an n-tap filter at a phase (R361, R362); the tap before the position is `mid`. -/
def coef (filter : Nat) (table : List Int) (n mid phase k : Nat) : Int :=
  if filter = 0 then (if k = (if phase < 32 then mid else mid + 1) then 1024 else 0)
  else if filter = 1 then
    if k = mid then 1024 - 16 * (phase : Int) else if k = mid + 1 then 16 * (phase : Int) else 0
  else (table.drop ((if n = 8 then 0 else 512) + n * phase + k)).headD 0

/-- One filter pass over taps (R361). -/
def tapSum (cs : List (Int × Px)) : Px :=
  let sum := fun (g : Px → Nat) => clamp10 ((cs.foldl (fun (v : Int) c => v + c.1 * (g c.2 : Int)) 0 + 512) / 1024)
  (Px.mk (sum (·.r)) (sum (·.g)) (sum (·.b)) (sum (·.a))).clamp

/-- Steps 5 to 7 of R353 at destination pixel (x, y): the vertical pass first, then the horizontal one. -/
def layerPixel (st : LayerState) (clut : Tab Nat) (table : List Int) (ln : Lines) (x y : Nat) : Px :=
  let column := fun (i : Int) =>
    if st.srcH = st.dstH then sourceImage st clut ln i y
    else
      let (j, p) := scalePos st.srcH st.dstH y
      tapSum ((List.range 6).map fun k => (coef st.filter table 6 2 p k, sourceImage st clut ln i (j - 2 + k)))
  let p :=
    if st.srcW = st.dstW then column x
    else
      let (i, p) := scalePos st.srcW st.dstW x
      tapSum ((List.range 8).map fun k =>
        (coef st.filter table 8 3 p k, column (clampI 0 ((st.srcW : Int) - 1) (i - 3 + k))))
  ⟨mul10 p.r st.galpha, mul10 p.g st.galpha, mul10 p.b st.galpha, mul10 p.a st.galpha⟩

/-- A SOLID layer's pixel (R348, R365, R367). -/
def solidPixel (st : LayerState) : Px :=
  let p := Px.ofNat st.addr
  let p := if st.isOpaque then { p with a := 1023 } else p
  ⟨mul10 p.r st.galpha, mul10 p.g st.galpha, mul10 p.b st.galpha, mul10 p.a st.galpha⟩

/-- The blend of a layer pixel over the accumulated one (R366). -/
def blend (s d : Px) : Px :=
  let c := fun (s' d' : Nat) => min 1023 (s' + mul10 d' (1023 - s.a))
  ⟨c s.r d.r, c s.g d.g, c s.b d.b, c s.a d.a⟩

/-- The dither matrix (R369). -/
def ditherAt (x y f : Nat) : Nat :=
  ([0, 8, 2, 10, 12, 4, 14, 6, 3, 11, 1, 9, 15, 7, 13, 5].drop (4 * ((y + f) % 4) + (x + 2 * f) % 4)).headD 0

/-- One channel of the output at depth D (R369). -/
def ditherOut (depth mode x y frame v : Nat) : Nat :=
  let k := 10 - depth
  let f := if mode = 2 then frame % 4 else 0
  let dth := if mode = 0 then 0 else ditherAt x y f / 2 ^ (4 - k)
  min (2 ^ depth - 1) ((v + dth) / 2 ^ k)

/-! ### LTC (R350 to R352) -/

/-- The K-bit fields of a DELTA body, packed from bit 0 of each byte upward, in two's complement. -/
def deltaField (body : List Byte) (k i : Nat) : Int :=
  sint k (leNat ((body.drop (i * k / 8)).take 2) / 2 ^ (i * k % 8))

/-- DELTA decoding: each byte from the one four before it. -/
def deltaBytes (body : List Byte) (k n : Nat) : List Byte :=
  (List.range (n - 4)).foldl (fun out i =>
    out ++ [BitVec.ofNat 8 (unsint 8 ((byteAt out i : Int) + deltaField (body.drop 4) k i))]) (body.take 4)

/-- One chunk of n bytes from its encoding: the bytes and the length of the encoding; none when malformed. -/
def ltcChunk (enc : List Byte) (n : Nat) : Option (List Byte × Nat) :=
  match enc with
  | [] => none
  | hb :: body =>
    let h := hb.toNat
    let k := h % 8
    if h / 8 % 8 ≠ 0 then none
    else if h / 64 = 0 then (if k = 0 then some (body.take n, 1 + n) else none)
    else if h / 64 = 1 then
      if k = 0 then some ((List.range n).map fun i => (body.drop (i % 4)).headD 0, 1 + min n 4) else none
    else if h / 64 = 2 then
      if k = 0 then none
      else some ((deltaBytes body k n).take n, 1 + min n 4 + ((n - 4) * k + 7) / 8)
    else if k = 0 then some (zeros n, 1) else none

/-- A compressed line of `left` uncompressed bytes at position `at`, the encoding limited to `room` bytes: the bytes,
whether R352 applied, and the first byte that counts as poisoned (03 R136), over `fuel` chunks. -/
def ltcLine (enc : List Byte) (poison : List Nat) (room : Nat) : Nat → Nat → Nat → Nat → List Byte × Bool × Option Nat
  | 0, _, _, _ => ([], false, none)
  | fuel + 1, pos, done, left =>
    if left = 0 then ([], false, none) else
    let n := min 64 left
    if poison.contains pos then (zeros left, false, some done) else
    match ltcChunk (enc.drop pos) n with
    | none => (zeros left, true, none)
    | some (bs, used) =>
      if poison.any fun i => decide (pos ≤ i && i < pos + used) then (zeros left, false, some done)
      else if pos + used > room then (zeros left, true, none)
      else
        let (rest, bad, p) := ltcLine enc poison room fuel (pos + used) (done + n) (left - n)
        (bs ++ rest, bad, p)

/-- Where the encoding of the chunk that holds byte `target` of a compressed line ends, in the same terms. -/
def ltcEnd (enc : List Byte) (target : Nat) : Nat → Nat → Nat → Nat → Nat
  | 0, pos, _, _ => pos
  | fuel + 1, pos, done, left =>
    if left = 0 then pos else
    let n := min 64 left
    match ltcChunk (enc.drop pos) n with
    | none => pos + 1
    | some (_, used) =>
      if target < done + n then pos + used else ltcEnd enc target fuel (pos + used) (done + n) (left - n)

/-- A plane line as the pipe sees it: its bytes, whether R352 applied, and its poisoned bytes. -/
def decodeLine (ltc : Bool) (u : Nat) (enc : List Byte) (poison : List Nat) : List Byte × Bool × List Nat :=
  if !ltc then (enc.take u, false, poison) else
  let (bs, bad, p) := ltcLine enc poison (u + ceilDiv u 64) (ceilDiv u 64 + 1) 0 0 u
  (bs, bad, match p with | some i => (List.range (u - i)).map (i + ·) | none => [])

/-! ### The composite (R366) -/

/-- The ring a layer is composed from: a secure layer's lies in secure shelves (19 R767). -/
def shownRing (s : State) (slot : Nat) : Ring :=
  ringOfSlot s slot (if (slotOf s slot).secure then 0x1D else (slotOf s slot).owner)

/-- The physical shelf of one shelf of a ring. -/
def ringShelf (s : State) (g : Ring) (i : Nat) : Nat := if g.owner = 0x1D then i else (shelfOf s g.owner i).getD 1024

/-- Where in its ring the bytes of a source line begin (03 R117, R119; log entry 33): lines take places of R119's
line_bytes in turn. -/
def linePlace (g : Ring) (st : LayerState) (j : Nat) : Nat :=
  j % max 1 (g.shelves.length * 2 ^ 18 / max 1 (lineBytes st)) * lineBytes st

/-- The physical pieces of n bytes at a place in a ring. -/
def ringPieces (s : State) (g : Ring) (o n : Nat) : List (Nat × Nat) :=
  (segments 18 o n).filterMap fun p =>
    (g.shelves.drop (p.1 / 2 ^ 18)).head?.map fun i => (ringShelf s g i * 2 ^ 18 + p.1 % 2 ^ 18, p.2)

/-- Bytes of a plane line as stored (08 R349, R350). -/
def storedBytes (st : LayerState) (bpp : Nat) : Nat :=
  let u := planeLine st bpp
  if st.ltc then u + ceilDiv u 64 else u

/-- The first byte of a plane line that lies in a ring: that of SRC_X, down to its word (03 R119). -/
def heldFrom (st : LayerState) (bpp : Nat) : Nat := if st.ltc then 0 else st.srcX * bpp / 64 * 8

/-- Part of a stored plane line in a ring (03 R119; log entry 33): the source line whose place holds it, the byte of that place
at which it begins, its first stored byte and its length. -/
structure RingPart where
  line : Nat
  at' : Nat
  lo : Nat
  len : Nat

/-- The parts of plane line m in a ring: of the chroma lines that two source lines share, half lies with each. -/
def ringParts (st : LayerState) (second : Bool) (m : Nat) : List RingPart :=
  let (b1, b2) := planeBpp st.format
  let lo1 := heldFrom st b1
  let n1 := storedBytes st b1 - lo1
  if !second then [⟨m, 0, lo1, n1⟩] else
  let at' := (n1 + 7) / 8 * 8
  let lo := heldFrom st b2
  let n := storedBytes st b2 - lo
  let half := min n ((n + 15) / 16 * 8)
  if is420 st.format then [⟨2 * m, at', lo, half⟩, ⟨2 * m + 1, at', lo + half, n - half⟩] else [⟨m, at', lo, n⟩]

/-- Whether a request with a ring's owner tag, or one with another tag, reaches the place of a source line (03 R103, R107). -/
def ringOpen (s : State) (g : Ring) (tag : Nat) (st : LayerState) (j : Nat) : Bool :=
  (ringPieces s g (linePlace g st j) (lineBytes st)).all fun p => mayTouch s tag (p.1 / 2 ^ 18)

/-- The stored bytes of one part of a line that a ring now holds in poisoned words, or in shelves its owner may not touch, which
read as poisoned (03 R104). -/
def partBad (s : State) (g : Ring) (st : LayerState) (r : RingPart) : List Nat :=
  let p := linePlace g st r.line + r.at'
  let n := min r.len (lineBytes st - r.at')
  if !ringOpen s g g.owner st r.line then (List.range n).map (r.lo + ·) else
  (s.sr.words.filter fun w => badWord w.2).flatMap fun w =>
    match leastBelow g.shelves.length fun k => decide ((g.shelves.drop k).head?.map (ringShelf s g) = some (w.1 / 2 ^ 15)) with
    | none => []
    | some k => (List.range 8).filterMap fun b =>
        let a := k * 2 ^ 18 + w.1 % 2 ^ 15 * 8 + b
        if p ≤ a && a < p + n then some (a - p + r.lo) else none

def ringBad (s : State) (g : Ring) (st : LayerState) (second : Bool) (m : Nat) : List Nat :=
  (ringParts st second m).flatMap (partBad s g st)

/-- A staged line as the pipe reads it: its bytes, whether R352 applies, and the bytes that count as poisoned, when it was
fetched or in the ring since (03 R136). -/
def readStaged (st : LayerState) (bpp : Nat) (l : StagedLine) (bad : List Nat) : List Byte × Bool × List Nat :=
  if bad.isEmpty then (l.bytes, l.ltcBad, l.poison) else
  let (bs, m, p) := decodeLine st.ltc (planeLine st bpp) (if st.ltc then l.stored else l.bytes) bad
  (bs, m, l.poison ++ p)

/-- Line y of plane 1 of a slot, in its ring. -/
def stagedFirst (s : State) (slot y : Nat) : List Byte × Bool × List Nat :=
  let st := pixelState (slotOf s slot)
  readStaged st (planeBpp st.format).1 (tget ({} : StagedLine) s.comp.staged (slot * 2 ^ 18 + y))
    (ringBad s (shownRing s slot) st false y)

/-- Chroma line m of a slot. -/
def stagedSecond (s : State) (slot m : Nat) : List Byte × Bool × List Nat :=
  let st := pixelState (slotOf s slot)
  readStaged st (planeBpp st.format).2 (tget ({} : StagedLine) s.comp.staged (slot * 2 ^ 18 + 2 ^ 17 + m))
    (ringBad s (shownRing s slot) st true m)

/-- The staged lines of a slot. -/
def linesOf (s : State) (slot : Nat) : Lines :=
  { plane1 := fun y => (stagedFirst s slot y).1, poison1 := fun y => (stagedFirst s slot y).2.2,
    plane2 := fun y => (stagedSecond s slot y).1, poison2 := fun y => (stagedSecond s slot y).2.2 }

/-- The enabled layers of a head in ascending z. -/
def byZ (s : State) (h : Nat) : List Nat :=
  (List.range 16).flatMap fun z => (boundTo s h).filter fun i =>
    (slotOf s i).cur.enable && !(slotOf s i).moving && decide ((slotOf s i).cur.z = z)

/-- The FALLBACK a secure layer composes while the Warden is away (19 R775). -/
def fallbackOf (s : State) (sl : Nat) : Option Nat :=
  (s.wd.layers.find? fun l => l.slot == sl && l.fellBack).map (·.fallback)

/-- One slot's pixel at head pixel (x, y), from the lines given. -/
def slotPixel (s : State) (lines : Nat → Lines) (i : Nat) (x y : Nat) : Px :=
  let v := slotOf s i
  match fallbackOf s i with
  | some p => Px.ofNat p
  | none =>
    if isSolid v.cur.format then solidPixel v.cur
    else layerPixel (pixelState v) v.clut (v.filters.getD []) (lines i) ((x : Int) - v.cur.dstX).toNat ((y : Int) - v.cur.dstY).toNat

/-- The composite at head pixel (x, y) of the layers given, over a background. -/
def composite (s : State) (lines : Nat → Lines) (c : HeadCfg) (background : Px) (ls : List Nat) (x y : Nat) : Px :=
  ls.foldl (fun acc i =>
    if (clipped c (slotOf s i).cur).contains x y then blend (slotPixel s lines i x y) acc else acc) background

/-- The pixel that lines of source data make of a head (R366, R369), red, green and blue packed at 10 bits each. -/
def headPixel (s : State) (lines : Nat → Lines) (h : Nat) (c : HeadCfg) (x y : Nat) : Nat :=
  let p := composite s lines c (Px.ofNat (headOf s h).background) (byZ s h) x y
  let o := fun v => ditherOut c.depth c.dither x y (headOf s h).frame v
  o p.r + 2 ^ 10 * o p.g + 2 ^ 20 * o p.b

/-- The active line y of a head as its pipe emits it; black under HALT or BLANK_REST (09 R427, 20 R796). -/
def pipeLine (s : State) (h : Nat) (c : HeadCfg) (y : Nat) : List Nat :=
  if (headOf s h).blanking || halted s then List.replicate c.hActive 0
  else (List.range c.hActive).map fun x => headPixel s (linesOf s) h c x y

/-- Whether the source image reads a poisoned word at a position (03 R136). -/
def imagePoisoned (st : LayerState) (ln : Lines) (i j : Int) : Bool :=
  let i := (clampI 0 ((st.srcW : Int) - 1) i).toNat
  let j := (clampI 0 ((st.srcH : Int) - 1) j).toNat
  poisonedAt st ln (st.srcX + (if st.hFlip then st.srcW - 1 - i else i)) (st.srcY + (if st.vFlip then st.srcH - 1 - j else j))

/-- Whether a layer's pixel at head pixel (x, y) is drawn from a poisoned word (03 R136, 08 R361). -/
def slotPoisoned (s : State) (lines : Nat → Lines) (i x y : Nat) : Bool :=
  let v := slotOf s i
  let st := pixelState v
  let dx := ((x : Int) - st.dstX).toNat
  let dy := ((y : Int) - st.dstY).toNat
  let rows : List Int := if st.srcH = st.dstH then [(dy : Int)]
    else (List.range 6).map fun (k : Nat) => (scalePos st.srcH st.dstH dy).1 - 2 + (k : Int)
  let cols : List Int := if st.srcW = st.dstW then [(dx : Int)]
    else (List.range 8).map fun (k : Nat) => (scalePos st.srcW st.dstW dx).1 - 3 + (k : Int)
  !isSolid v.cur.format && (fallbackOf s i).isNone && (cols.any fun a => rows.any fun b => imagePoisoned st (lines i) a b)

/-- The source lines of plane 1 that head line y of a layer uses (R358 to R361). -/
def sourceLines (st : LayerState) (y : Nat) : List Nat :=
  let row := fun (j : Int) =>
    let j := (clampI 0 ((st.srcH : Int) - 1) j).toNat
    st.srcY + (if st.vFlip then st.srcH - 1 - j else j)
  let dy := ((y : Int) - st.dstY).toNat
  if st.srcH = st.dstH then [row dy]
  else
    let (j, _) := scalePos st.srcH st.dstH dy
    ((List.range 6).map fun (k : Nat) => row (j - 2 + (k : Int))).eraseDups

end Sys2Proof.Machine
end

