-- ==== Sys2Proof/Machine/HeadOps.lean ====
section
/-! DEFINITION. Heads (09): the checks and effects of the head commands, of LAYER_MOVE and HEAD_PUSH, and the damage
of pushes. -/

namespace Sys2Proof.Machine

/-- The configuration a HEAD_CONFIG payload carries, LATCH_LINE and VT_MAX of zero replaced as R414 and the payload
table state. Byte b of the payload is read at b + o, so that a telltale block's HEAD_CFG reads alike. -/
def headPayload (d : Descriptor) : HeadCfg :=
  let va := dget d 22 2
  let vt := dget d 26 2
  { tracked := dbit d 17 0, kind := if dbits d 17 1 2 = 1 then .command else if dbits d 17 1 2 = 2 then .psr2 else .video,
    edp := dbit d 17 3, tePol := dbit d 17 4, port := dbits d 18 0 4, stream := dbits d 18 4 1, pipe := dbits d 19 0 2,
    depth := 10 - 2 * dbits d 19 2 2, dither := dbits d 19 4 2, blankRest := dbit d 19 6,
    hActive := dget d 20 2, vActive := va, hTotal := dget d 24 2, vTotal := vt,
    hFront := dbits d 28 0 13, hSync := dget d 30 2, vFront := dbits d 32 0 13, vSync := dget d 34 2,
    hsyncPol := dbit d 28 13, vsyncPol := dbit d 32 13,
    latchLine := if dget d 36 2 = 0 then va else dget d 36 2, vtMax := if dget d 38 2 = 0 then vt else dget d 38 2,
    mul := dbits d 40 0 5, div := dbits d 41 0 5, phase := dget d 44 4, baseEpoch := dget d 48 4,
    baseFrame := dget d 52 4, rate := dbits d 56 0 1, lanes := dbits d 56 1 3, cphy := dbit d 56 4,
    dsiRate := dbits d 56 16 13, teWait := dget d 60 4 }

def layoutHeadConfig : List (Nat × Nat × Nat) :=
  [(16, 0, 4), (17, 0, 5), (18, 0, 5), (19, 0, 7), (20, 0, 64), (28, 0, 14), (30, 0, 16), (32, 0, 14), (34, 0, 16),
   (36, 0, 32), (40, 0, 5), (41, 0, 5), (44, 0, 96), (56, 0, 5), (56, 16, 13), (60, 0, 32)]

/-- Raster pixel rate R, as a fraction (09 R407). -/
def rasterRate (s : State) (c : HeadCfg) : Nat × Nat :=
  if c.tracked then (c.hTotal * 400000000 * 65536, c.phase) else (c.hTotal * c.vTotal * 400000000, frameTicks s c)

/-- Active pixel rate A, as a fraction (09 R407). -/
def activeRate (s : State) (c : HeadCfg) : Nat × Nat :=
  let (n, d) := rasterRate s c
  (n * c.hActive * c.vActive, d * c.hTotal * c.vTotal)

def fracLe (a : Nat × Nat) (n : Nat) : Bool := decide (a.2 ≠ 0) && decide (a.1 ≤ n * a.2)
def fracAdd (a b : Nat × Nat) : Nat × Nat := (a.1 * b.2 + b.1 * a.2, a.2 * b.2)

/-- The limits of R408, with and without DSC; a head without lines or pixels in its totals has no rates. -/
def withinLimits (s : State) (c : HeadCfg) (dsc : Bool) : Bool :=
  let none' := decide (c.vTotal = 0) || decide (c.hTotal = 0)
  if dsc then decide (c.hActive ≤ 7680) && decide (c.vActive ≤ 4320) &&
    (none' || (fracLe (activeRate s c) 2000000000 && fracLe (rasterRate s c) 2400000000))
  else decide (c.hActive ≤ 5120) && decide (c.vActive ≤ 2880) &&
    (none' || (fracLe (activeRate s c) 1000000000 && fracLe (rasterRate s c) 1200000000))

def isDsi (port : Nat) : Bool := decide (port ≥ 8)

/-- Sixteen times the output bits per pixel (09 R405). -/
def bits16 (c : HeadCfg) (dsc : Option Dsc) : Nat := match dsc with | some x => x.bppX16 | none => 48 * c.depth

/-- Sixteen times the bits per second a stream needs (09 R410). -/
def streamNeed (s : State) (c : HeadCfg) (dsc : Option Dsc) : Nat × Nat :=
  let (n, d) := rasterRate s c
  (n * bits16 c dsc, d)

/-- The other heads bound to a head's port. -/
def portMates (s : State) (h port : Nat) : List Nat :=
  (List.range 12).filter fun g => decide (g ≠ h) && (match (headOf s g).cfg with | some c => decide (c.port = port) | none => false)

/-- The heads bound to the other stream of a head's port (09 R403). -/
def streamMates (s : State) (h : Nat) (c : HeadCfg) : List Nat :=
  (portMates s h c.port).filter fun g => match (headOf s g).cfg with | some k => decide (k.stream ≠ c.stream) | none => false

/-- Whether the streams of a port fit its link (09 R410). -/
def linkFits (s : State) (h : Nat) (c : HeadCfg) (dsc : Option Dsc) : Bool :=
  let rate := if c.rate = 1 then 13500000000 else 10000000000
  if isDsi c.port then
    if c.cphy then fracLe ((streamNeed s c dsc).1 * 7, (streamNeed s c dsc).2) (16 * c.lanes * c.dsiRate * 1000000 * 16)
    else fracLe (streamNeed s c dsc) (16 * c.lanes * c.dsiRate * 1000000)
  else
    let mates := streamMates s h c
    let total := mates.foldl (fun a g => fracAdd a (streamNeed s ((headOf s g).cfg.getD {}) (headOf s g).dsc)) (streamNeed s c dsc)
    if mates.isEmpty then fracLe (total.1 * 132, total.2) (16 * c.lanes * rate * 128)
    else fracLe (total.1 * 132 * 100, total.2) (16 * 97 * c.lanes * rate * 128)

/-- The malformed fields of a HEAD_CONFIG (09 R401 to R416, 02 R58 to R60). -/
def headFieldFaults (s : State) (d : Descriptor) (h : Nat) (c : HeadCfg) (dsc : Option Dsc) : List (Bool × Verdict) :=
  let ft := frameTicks s c
  let mates := portMates s h c.port
  let other := (streamMates s h c).any fun g => match (headOf s g).cfg with | some k => decide (k.rate ≠ c.rate || k.lanes ≠ c.lanes) | none => false
  let zeroStream := mates.any fun g => match (headOf s g).cfg with | some k => decide (k.stream = 0) | none => false
  let locked := !c.tracked
  -- the conditions on rates concern a head whose rate is given
  let rated := if c.tracked then decide (c.phase ≠ 0) else decide (0 < c.mul && c.mul ≤ 16) && decide (0 < c.div && c.div ≤ 16)
  [reserved layoutHeadConfig d [(40, 4), (56, 4)],
   (decide (dbits d 16 0 4 ≥ 12), badParam 0x10),
   (decide (dbits d 17 1 2 = 3) || (decide (c.kind = .command) && !isDsi c.port) ||
      (decide (c.kind = .psr2) && (isDsi c.port || !c.edp)) || (isDsi c.port && c.edp) ||
      (c.tePol && decide (c.kind ≠ .command)) || (decide (c.kind ≠ .video) && c.tracked), badParam 0x11),
   (c.edp && (mates.any fun g => match (headOf s g).cfg with | some k => decide (k.stream = 1) | none => false), unsupported 0x11),
   (decide (c.stream = 1) && (c.edp || mates.any fun g => match (headOf s g).cfg with | some k => k.edp | none => false), unsupported 0x12),
   (decide (c.port > 11) || (isDsi c.port && decide (c.stream = 1)) || (decide (c.stream = 1) && !zeroStream), badParam 0x12),
   (decide (dbits d 19 2 2 = 3) || decide (c.dither = 3), badParam 0x13),
   (decide (c.hActive = 0) || decide (c.hTotal < c.hActive + c.hFront + c.hSync + 8) || (rated && !withinLimits s c dsc.isSome), badParam 0x14),
   (decide (c.vActive = 0) || decide (c.vTotal < c.vActive + c.vFront + c.vSync + 1) || decide (c.vTotal < c.vActive + 3),
    badParam 0x16),
   (decide (c.hTotal > 8191), badParam 0x18), (decide (c.vTotal > 8191), badParam 0x1A),
   (decide (c.hSync = 0), badParam 0x1E), (decide (c.vSync = 0), badParam 0x22),
   (decide (c.latchLine < c.vActive || c.latchLine ≥ c.vTotal), badParam 0x24),
   (decide (c.vtMax < c.vTotal || c.vtMax > 2 * c.vTotal), badParam 0x26),
   (if c.tracked then decide (c.mul ≠ 0)
    else decide (c.mul = 0 || c.mul > 16) || (rated && decide (c.mul ≠ 1) && decide (c.div ≠ 1)) ||
      (rated && decide (s.tl.epochTicks * c.mul % max 1 c.div ≠ 0)), badParam 0x28),
   (if c.tracked then decide (c.div ≠ 0) else decide (c.div = 0 || c.div > 16), badParam 0x29),
   (if locked then rated && decide (c.phase ≥ ft) else decide (c.phase = 0), badParam 0x2C),
   (c.tracked && decide (c.baseEpoch ≠ 0), badParam 0x30),
   ((if isDsi c.port then
       if c.cphy then decide (c.lanes = 0 || c.lanes > 3) || decide (c.dsiRate < 80 || c.dsiRate > 4500)
       else decide (c.lanes = 0 || c.lanes > 4) || decide (c.dsiRate < 80 || c.dsiRate > 2500)
     else !([1, 2, 4].contains c.lanes)) || other || (rated && !linkFits s h c dsc), badParam 0x38),
   (if c.kind = .command then decide (c.teWait = 0) || (rated && decide (c.teWait > ceilDiv ft 4)) else decide (c.teWait ≠ 0), badParam 0x3C)]

/-- The heads a pipe serves, charged to system, and the tenancies' compose grants on it (04 R180, 09 R411). -/
def pipeLoad (s : State) (but pipe : Nat) : Nat :=
  ((List.range 12).filter (· ≠ but)).foldl (fun n g =>
    match (headOf s g).cfg with
    | some c => if c.pipe = pipe then n + headCharge s c else n
    | none => n) 0 +
  (List.range 17).foldl (fun n t => n + (((tenOf s t).grants.compose.drop pipe).headD 0)) 0

/-- Whether SYNC_OUT selects a head whose shortest frame would not exceed WIDTH (02 R861). -/
def syncBars (s : State) (h : Nat) (c : HeadCfg) : Bool :=
  decide (tlSyncOut s / 2 ^ 24 % 16 = h + 1) && decide (shortestFrame s c ≤ tlSyncOut s % 2 ^ 24)

/-- The early head reads as DISABLED to HEAD_CONFIG and HEAD_DSC, and is enabled like one (10 R481). -/
def readsDisabled (s : State) (h : Nat) : Bool := decide ((headOf s h).state = .disabled) || decide (s.au.early = some h)

def checkHeadConfig (s : State) (c : Cmd) : Ruling :=
  let d := c.d
  let h := dbits d 16 0 4
  let k := headPayload d
  let hd := headOf s h
  let mates := portMates s h k.port
  let same := mates.any fun g => match (headOf s g).cfg with | some x => decide (x.stream = k.stream) | none => false
  let total := ((List.range 12).filter (· ≠ h)).foldl (fun a g =>
    match (headOf s g).cfg with | some x => fracAdd a (activeRate s x) | none => a) (activeRate s k)
  ruling
    [lowest (headFieldFaults s d h k hd.dsc),
     failIf (!readsDisabled s h) (badState 0x10),
     failIf same (badState 0x12),
     failIf (syncBars s h k) (badState 0x10),
     failIf (!fracLe total 10000000000) (badState 0x14),
     failIf (!k.tracked && decide (k.kind = .video) && !k.blankRest && decide (k.vtMax = k.vTotal)) (badState 0x13),
     failIf (decide (pipeLoad s h k.pipe + headCharge s k > cPipe s.tl.epochTicks)) (budget 0x02 k.pipe)]
    (yes .af)

/-- The configuration takes hold at an epoch start (09 R444). -/
def applyHeadConfig (s : State) (d : Descriptor) : State :=
  let h := dbits d 16 0 4
  if s.au.early = some h then modHead s h fun hd => { hd with newCfg := some (headPayload d) }
  else modHead s h fun hd => { hd with cfg := some (headPayload d) }

def headByte (d : Descriptor) : List (Bool × Verdict) :=
  [reserved [(16, 0, 8)] d, (decide (dget d 16 1 ≥ 12), badParam 0x10)]

/-- HEAD_ENABLE (09 R445, R868). A head that already runs is refused (log entry 13). -/
def checkHeadEnable (s : State) (c : Cmd) : Ruling :=
  let hd := headOf s (dget c.d 16 1)
  ruling [lowest (headByte c.d), failIf hd.cfg.isNone (badState 0x10),
    failIf (!readsDisabled s (dget c.d 16 1) || (s.flights.any fun f => f.op == 0x41 && accepted f && decide (f.phase ≠ .first) &&
      f.aux.head? == some (dget c.d 16 1))) (badState 0x10)]
    (yes .af none [dget c.d 16 1])

/-- The first attempt at training a link begins (09 R443, R445). -/
def beginTraining (s : State) (h : Nat) : State :=
  modHead s h fun hd => { hd with training := true, attempts := 1, attemptDue := some (s.tl.tick + 40000000) }

/-- A head stops (09 R447); its link is powered down with it. A STOCKROOM_STAGER that waits for the head's frame goes on waiting,
until the head stages one again (03 R149; DESIGN CHOICE, log entry 151). -/
def stopHead (s : State) (h : Nat) : State :=
  let s := if s.tl.soSel = h + 1 then quietSync s else s
  modHead s h fun hd =>
    { hd with state := .disabled, stopDue := none, linkUp := false, training := false, attemptDue := none, early := 0,
              aborting := false, blanking := false, extra := 0, slot := .line, pushing := false, push := none, queued := [],
              sent := 0, damage := [], carried := [], pixels := [], lost := false }

/-- HEAD_ENABLE acts (09 R445; 10 R481): the link is trained, unless the early head keeps its port and stream. -/
def startHeadEnable (s : State) (f : Flight) : State :=
  let h := dget f.desc 16 1
  let hd := headOf s h
  let old := hd.cfg.getD {}
  let new := hd.newCfg.getD old
  let s := modHead s h fun hd => { hd with underruns := 0, retrains := 0 }
  if s.au.early = some h && hd.linkUp && decide (new.port = old.port) && decide (new.stream = old.stream) then
    await (modHead s h fun hd => { hd with startDue := some (firstStart s new (max (f.admitted + 800000) (now s + 1))).1 }) f .unit
  else
    let s := if s.au.early = some h then
        (modHead (stopHead s h) h fun hd => { hd with cfg := some new, newCfg := none }).modAu fun a => { a with early := none }
      else s
    await (modHead (beginTraining s h) h fun hd => { hd with attemptDue := none }) f .unit

/-- HEAD_DISABLE (09 R447). -/
def checkHeadDisable (s : State) (c : Cmd) : Ruling :=
  let h := dget c.d 16 1
  let hd := headOf s h
  let promise := s.flights.any fun f => f.promised.isSome && !f.withdrawn && waitsLatch f h
  ruling [lowest (headByte c.d), failIf (decide (hd.state ≠ .disabled) && promise) (badState 0x10)]
    (yes .af none [h])

def startHeadDisable (s : State) (f : Flight) : State :=
  let h := dget f.desc 16 1
  let hd := headOf s h
  if hd.state = .disabled then finishDone s f
  else if (match hd.cfg with | some c => decide (c.kind ≠ .video) | none => false) && !hd.pushing then
    finishDone (stopHead s h) f
  else await (modHead s h fun v => { v with stopDue := some (now s) }) f .unit

/-- HEAD_UNDERRUN (09 R448, R432, R868). -/
def checkHeadUnderrun (s : State) (c : Cmd) : Ruling :=
  let d := c.d
  let hd := headOf s (dget d 16 1)
  let fixed := match hd.cfg with
    | some k => !k.tracked && decide (k.kind = .video) && decide (k.vtMax = k.vTotal)
    | none => false
  ruling
    [lowest [reserved [(16, 0, 16)] d, (decide (dget d 16 1 ≥ 12), badParam 0x10), (decide (dget d 17 1 > 1), badParam 0x11)],
     failIf hd.cfg.isNone (badState 0x10), failIf (fixed && decide (dget d 17 1 = 0)) (badState 0x13)]
    (yes .f)

def startHeadUnderrun (s : State) (f : Flight) : State :=
  finishDone (modHead s (dget f.desc 16 1) fun hd =>
    { hd with cfg := hd.cfg.map fun c => { c with blankRest := decide (dget f.desc 17 1 = 1) } }) f

def quietPayload (d : Descriptor) : Quiet :=
  { hStart0 := dget d 20 2, hStart1 := dget d 22 2, hLen0 := dget d 24 2, hLen1 := dget d 26 2, vStart := dget d 28 2,
    vEnd := dget d 30 2, teOfs := dbits d 32 0 24, teLen := dbits d 36 0 24 }

/-- HEAD_QUIET (09 R434, R449). -/
def checkHeadQuiet (s : State) (c : Cmd) : Ruling :=
  let d := c.d
  let q := quietPayload d
  let hd := headOf s (dbits d 16 0 4)
  let badWin := match hd.cfg with
    | some k => decide (k.kind = .video) &&
        ((decide (q.hLen0 ≠ 0) && decide (q.hStart0 + q.hLen0 > k.hTotal - k.hActive)) ||
         (decide (q.hLen1 ≠ 0) && decide (q.hStart1 + q.hLen1 > k.hTotal - k.hActive)) ||
         (decide (q.vStart ≠ 0) && decide (q.vStart < k.vActive || q.vEnd < q.vStart || q.vEnd ≥ k.vTotal)))
    | none => false
  ruling
    [lowest [reserved [(16, 0, 4), (20, 0, 96), (32, 0, 24), (36, 0, 24)] d, (decide (dbits d 16 0 4 ≥ 12), badParam 0x10),
       (badWin, badParam 0x14)],
     failIf hd.cfg.isNone (badState 0x10)]
    (yes .af none [dbits d 16 0 4])

def dscPayload (d : Descriptor) : Dsc :=
  { encoder := dget d 17 1, bpc := dbits d 18 0 4, blockPred := dbit d 18 4, bppX16 := dget d 19 1, sliceW := dget d 20 2,
    sliceH := dget d 22 2, slices := dget d 24 1 }

/-- HEAD_DSC (09 R404, R405, R450). BPC 12 is the option R404 excludes by name; of the other values that neither R404 nor
the payload names (BPC 0 to 7, 9, 11 and 13 to 15, BPP_X16 below 128, another number of SLICES) the spec leaves open whether
they are a range fault or an excluded option, and they are BAD_PARAM here (DESIGN CHOICE, log entry 145). -/
def checkHeadDsc (s : State) (c : Cmd) : Ruling :=
  let d := c.d
  let h := dbits d 16 0 4
  let hd := headOf s h
  let k := hd.cfg.getD {}
  let x := dscPayload d
  let release := decide (x.encoder = 0xFF)
  let on := !release && hd.cfg.isSome
  let held := (List.range 12).any fun g => decide (g ≠ h) && (match (headOf s g).dsc with | some y => decide (y.encoder = x.encoder) | none => false)
  let new := if release then none else some x
  ruling
    [lowest [reserved [(16, 0, 4), (17, 0, 8), (18, 0, 5), (19, 0, 40), (24, 0, 8)] d, (decide (h ≥ 12), badParam 0x10),
       (!release && decide (x.encoder > 3), badParam 0x11), (!release && decide (x.bpc = 12), unsupported 0x12),
       (on && (decide (k.depth = 6) || decide (x.bpc ≠ k.depth) || !([8, 10].contains x.bpc)), badParam 0x12),
       (!release && decide (x.bppX16 < 128), badParam 0x13),
       (on && decide (x.sliceW * x.slices ≠ k.hActive), badParam 0x14),
       (on && (decide (x.sliceH < 8) || decide (k.vActive % max 1 x.sliceH ≠ 0)), badParam 0x16),
       (!release && !([1, 2, 4, 8].contains x.slices), badParam 0x18)],
     failIf (hd.cfg.isNone || !readsDisabled s h) (badState 0x10),
     failIf (!release && held) (badState 0x11),
     failIf (!withinLimits s k new.isSome || !linkFits s h k new) (badState 0x14)]
    (yes .af none [h])

def applyHeadDsc (s : State) (d : Descriptor) : State :=
  modHead s (dbits d 16 0 4) fun hd => { hd with dsc := if dget d 17 1 = 0xFF then none else some (dscPayload d) }

def headStateNum : HeadState → Nat
  | .disabled => 0 | .running => 1 | .recovering => 2

/-- The head status record (09 R452). -/
def headRecord (s : State) (guest : Bool) (h : Nat) : List Byte :=
  let v := headOf s h
  let (n, dn) := match v.cfg with | some c => activeRate s c | none => (0, 1)
  leBytes 1 h ++ leBytes 1 (headStateNum v.state + 4 * b2n v.linkUp + 8 * b2n v.exhausted) ++ leBytes 2 v.line ++
  leBytes 4 v.frame ++ leBytes 4 v.l0Epoch ++ leBytes 4 v.l0Offset ++
  leBytes 4 (if v.state = .recovering then v.early else 0) ++ leBytes 4 v.underruns ++ leBytes 4 v.pushes ++
  leBytes 4 v.emptyPushes ++ leBytes 4 v.teMissed ++ leBytes 4 (if guest then 0 else v.retrains) ++
  leBytes 4 (n / max 1 dn) ++ zeros 20

def checkHeadStatus (s : State) (c : Cmd) : Ruling :=
  let h := dget c.d 16 1
  ruling (recordChecks s c.t (dget c.d 24 8) 64 0x18 [reserved [(16, 0, 8), (24, 0, 64)] c.d, (decide (h ≥ 12), badParam 0x10)] ++
     [failIf (c.t ≠ 0 && !(tenOf s c.t).grants.heads.testBit h) (notOwner 0x10)])
    (yes .f)

def startHeadStatus (s : State) (f : Flight) : State :=
  finishDone (hostWrite s (dget f.desc 24 8) (headRecord s (f.src.fn ≠ 0) (dget f.desc 16 1))) f

/-- HEAD_LINK (09 R451). COUNT is checked for the operations that move bytes (log entry 14). -/
def checkHeadLink (s : State) (c : Cmd) : Ruling :=
  let d := c.d
  let h := dget d 16 1
  let op := dget d 17 1
  let dsi := match (headOf s h).cfg with | some k => isDsi k.port | none => false
  let known := (headOf s h).cfg.isSome
  let badOp := decide (op > 4) || (known && ((dsi && (op == 1 || op == 2)) || (!dsi && (op == 3 || op == 4))))
  let moves := decide (1 ≤ op)
  let reads := op == 1 || op == 4
  ruling ([lowest [reserved [(16, 0, 24), (20, 0, 32), (24, 0, 64), (32, 0, 128)] d, (decide (h ≥ 12), badParam 0x10), (badOp, badParam 0x11),
       (moves && decide (dget d 18 1 = 0 || dget d 18 1 > 16), badParam 0x12),
       (reads && decide (dget d 24 8 % 64 ≠ 0), badParam 0x18)], failIf (reads && !inApertures s c.t (dget d 24 8) 64) (bounds 0x18)] ++
     [failIf (!known) (badState 0x10)])
    (yes .av none [h])

/-- Retraining starts again with a new count of three attempts (09 R443, R870). -/
def restartTraining (s : State) (h : Nat) : State :=
  modHead (beginTraining s h) h fun hd => { hd with linkUp := false, retrains := min 0xFFFFFFFF (hd.retrains + 1) }

def startHeadLink (s : State) (f : Flight) : State :=
  let s := if dget f.desc 17 1 = 0 then restartTraining s (dget f.desc 16 1) else s
  await s f .unit

/-! ### LAYER_MOVE and HEAD_PUSH -/

/-- LAYER_MOVE (09 R438 to R442). -/
def checkLayerMove (s : State) (c : Cmd) : Ruling :=
  let d := c.d
  let slot := slotNo s c.t (dget d 16 1)
  let sl := slot.getD 128
  let v := slotOf s sl
  let old := v.head
  let nw := dget d 17 1
  let hd := headOf s nw
  let k := hd.cfg.getD {}
  let cls := classOf d
  let early := dbit d 18 0 || cls = 3
  let dn := latchAfter s old (c.a + headLead s old)
  let dl := match (headOf s old).cfg with | some x => latchOf x | none => 0
  let depart := (lineTick s old dn dl).toNat
  let want :=
    if early then
      let n := latchAfter s nw depart
      some (n, (lineTick s nw n (latchOf k)).toNat)
    else (framesAhead s nw (dget d 20 4)).map fun n => (n, (lineTick s nw n (latchOf k)).toNat)
  let n := (want.map (·.1)).getD 0
  let at' := (want.map (·.2)).getD depart
  let e := epochOfTick s at'
  let arr := (arrangement s nw n).filter fun x => x.1 ≠ sl
  let s' := { s with charges := placeCharges s.charges c.t kLayer sl at' e (layerCharges s k (stagerOf s nw).lead c.t sl v.cur e) }
  let zTaken := v.cur.enable && (arr.any fun x => x.2.2.enable && x.2.2.z == v.cur.z)
  let lead := (stagerOf s nw).lead
  let lateV : Verdict := { status := 11, reason := 1, inst := some (lineTick s nw (latchAfter s nw depart) (latchOf k)).toNat }
  ruling
    [lowest [reserved [(16, 0, 16), (18, 0, 1), (20, 0, 32)] d, (decide (nw ≥ 12) || (slot.isSome && decide (nw = old)), badParam 0x11),
       (dbit d 18 0 && decide (dget d 20 4 ≠ 0), badParam 0x14), (decide (cls = 3) && decide (dget d 20 4 ≠ 0), badParam 0x14)],
     failIf slot.isNone (notOwner 0x10),
     failIf (!(tenOf s c.t).grants.heads.testBit nw) (notOwner 0x11),
     latchFence s nw c want,
     failIf (headRefuses s old || (headOf s nw).aborting) (badState 0x10),
     failIf (headRefuses s nw) (badState 0x11),
     failIf (decide ((boundTo s nw).length + (s.flights.filter fun f => accepted f &&
       ((f.op == 0x33 && auxHead f == nw && decide ((slotOf s (auxSlot f)).head ≠ nw)) ||
        (f.op == 0x30 && decide (f.phase = .first) && decide (dget f.desc 16 1 = nw)))).length ≥ 16)) (badState 0x11),
     failIf (v.lastC1 || v.secure || (moveOf s sl).isSome || updatePending s sl fun f => decide (auxState f = 2) ||
       (waitsLatch f old && decide (flightAhead s old f > dn) && decide (flightAhead s old f < 2 ^ 31))) (badState 0x10),
     failIf zTaken (badState 0x12),
     failIf (!(policyHeads s nw).all fun p => permitted p k (arr ++ [(sl, c.t, v.cur)])) (badState 0x30),
     failIf (takesScaler v.cur && scalerTaken s k.pipe nw n sl) (badState 0x34),
     failIf (match want with | some w => decide (w.2 < depart) | none => true) lateV,
     firstSome (placedChecks s' c.t e
       [(0x02, k.pipe, composeCharge s k v.cur), (0x03, k.pipe, fetchCharge s k v.cur),
        (0x04, 0, stagingCharge s k lead v.cur), (0x05, 0, ringShelves s k lead v.cur)])]
    (yes .af (if cls = 3 then none else some at') [sl, if cls = 3 then 0 else 1, frameNo s nw n, 0, 0, nw, frameNo s old dn])

/-- The charges of an admitted move (09 R440): those of the new head from the epoch in which the layer joins it, through
which those of the old one stand (04 R174). -/
def commitLayerMove (s : State) (f : Flight) : State :=
  let sl := auxSlot f
  let v := slotOf s sl
  let nw := auxHead f
  match (headOf s nw).cfg with
  | none => s
  | some k =>
    let arrive := (lineTick s nw (flightAhead s nw f) (latchOf k)).toNat
    let e := epochOfTick s arrive
    let s := reserveRing s sl f.src.fn (ringShelves s k (stagerOf s nw).lead v.cur) f.id
    s.modCharges fun cs => placeCharges cs f.src.fn kLayer sl arrive e (layerCharges s k (stagerOf s nw).lead f.src.fn sl v.cur e)

/-- The rectangles of a HEAD_PUSH: x, y, w, h in source coordinates; COUNT zero is the whole source. -/
def pushRects (d : Descriptor) (st : LayerState) : List (Nat × Nat × Nat × Nat) :=
  if dget d 17 1 = 0 then [(0, 0, st.srcW, st.srcH)]
  else (List.range (dget d 17 1)).map fun i =>
    (dget d (24 + 8 * i) 2, dget d (26 + 8 * i) 2, dget d (28 + 8 * i) 2, dget d (30 + 8 * i) 2)

/-- A range of one axis mapped to head pixels (09 R422). -/
def mapAxis (o : Int) (s d x w : Nat) (flip : Bool) (margin : Nat) : Int × Int :=
  let x := if flip then s - (x + w) else x
  if s = d then (o + x, o + (x + w : Nat))
  else (o + ((x * d / s : Nat) : Int) - margin, o + ((ceilDiv ((x + w) * d) s : Nat) : Int) + margin)

/-- A HEAD_PUSH rectangle in head pixels, clipped (09 R421, R422). -/
def mapRect (c : HeadCfg) (st : LayerState) (r : Nat × Nat × Nat × Nat) : Rect :=
  let (x0, x1) := mapAxis st.dstX st.srcW st.dstW r.1 r.2.2.1 st.hFlip 4
  let (y0, y1) := mapAxis st.dstY st.srcH st.dstH r.2.1 r.2.2.2 st.vFlip 3
  { x0 := max 0 x0, y0 := max 0 y0, x1 := min c.hActive x1, y1 := min c.vActive y1 }

/-- HEAD_PUSH (09). -/
def checkHeadPush (assayOk : State → Nat → Nat → Nat → Bool) (s : State) (c : Cmd) : Ruling :=
  let d := c.d
  let slot := slotNo s c.t (dget d 16 1)
  let sl := slot.getD 128
  let v := slotOf s sl
  let h := v.head
  let hd := headOf s h
  let k := hd.cfg.getD {}
  let cls := classOf d
  let n := dget d 17 1
  let early := dbit d 18 0
  let rects := pushRects d v.cur
  let want := requestedLatch s h c.a (early || cls = 3) (dget d 20 4)
  let zeroRect := (List.range (min n 5)).find? fun i => decide (dget d (28 + 8 * i) 2 = 0 || dget d (30 + 8 * i) 2 = 0)
  let out := (List.range (min n 5)).find? fun i =>
    decide (dget d (24 + 8 * i) 2 + dget d (28 + 8 * i) 2 > v.cur.srcW || dget d (26 + 8 * i) 2 + dget d (30 + 8 * i) 2 > v.cur.srcH)
  ruling
    [lowest [reserved [(16, 0, 16), (18, 0, 1), (19, 0, 8), (20, 0, 32), (24, 0, 64 * min n 5)] d,
       (decide (n > 5), badParam 0x11),
       (decide (cls = 3) && early, badParam 0x12),
       (decide (cls ≠ 1) && decide (dget d 19 1 ≠ 0xFF), badParam 0x13),
       ((early || decide (cls = 3)) && decide (dget d 20 4 ≠ 0), badParam 0x14),
       (zeroRect.isSome, badParam (0x18 + 8 * zeroRect.getD 0))],
     failIf (slot.isSome && out.isSome && decide (rects.length ≠ 0)) (bounds (0x18 + 8 * out.getD 0)),
     failIf slot.isNone (notOwner 0x10),
     latchFence s h c want,
     failIf (decide (k.kind = .video) || headRefuses s h || v.secure) (badState 0x10),
     failIf (cls = 1 && holdsAssay s c.t && !assayOk s c.t (dget d 19 1) h) (badState 0x13),
     if cls = 3 then none else leadCheck s h c.a want,
     failIf (cls = 1 && !holdsAssay s c.t) (budget 0x0D 0)]
    (yes .af (if cls = 3 then none else want.map (·.2))
      [sl, if cls = 3 then 0 else 1, frameNo s h ((want.map (·.1)).getD 0), 0, 1, h])

/-! ### Damage (09 R421 to R423) -/

def Rect.area (r : Rect) : Int := (r.x1 - r.x0) * (r.y1 - r.y0)

def Rect.bound (a b : Rect) : Rect :=
  { x0 := min a.x0 b.x0, y0 := min a.y0 b.y0, x1 := max a.x1 b.x1, y1 := max a.y1 b.y1 }

/-- A rectangle aligned outward to the grid (09 R423). -/
def alignRect (c : HeadCfg) (gw gh : Nat) (r : Rect) : Rect :=
  let x0 := r.x0 / gw * gw
  let x1 := min (c.hActive : Int) ((r.x1 + gw - 1) / gw * gw)
  let y0 := r.y0 / gh * gh
  let y1 := min (c.vActive : Int) ((r.y1 + gh - 1) / gh * gh)
  if c.kind = .psr2 then { x0 := 0, y0 := y0, x1 := c.hActive, y1 := y1 } else { x0 := x0, y0 := y0, x1 := x1, y1 := y1 }

/-- The pairs of positions of a list, first index ascending, then second. -/
def pairsOf (n : Nat) : List (Nat × Nat) :=
  (List.range n).flatMap fun i => ((List.range n).filter fun j => decide (i < j)).map fun j => (i, j)

/-- One round of the merging loop: none when it stops (09 R423). -/
def mergeRound (c : HeadCfg) (gw gh limit : Nat) (l : List Rect) : Option (List Rect) :=
  let at' := fun (i : Nat) => (l.drop i).headD ⟨0, 0, 0, 0⟩
  let ps := pairsOf l.length
  if (ps.any fun p => (at' p.1).meets (at' p.2)) || l.length > limit then
    let added := fun (p : Nat × Nat) => ((at' p.1).bound (at' p.2)).area - (at' p.1).area - (at' p.2).area
    let best := ps.foldl (fun (b : Option (Nat × Nat)) p =>
      match b with | some q => if added p < added q then some p else some q | none => some p) none
    match best with
    | none => none
    | some p =>
      let r := alignRect c gw gh ((at' p.1).bound (at' p.2))
      some (((List.range l.length).filter fun i => i ≠ p.2).map fun i => if i = p.1 then r else at' i)
  else none

def mergeLoop (c : HeadCfg) (gw gh limit : Nat) : Nat → List Rect → List Rect
  | 0, l => l
  | n + 1, l => match mergeRound c gw gh limit l with | some l' => mergeLoop c gw gh limit n l' | none => l

/-- The reduced damage of a push, in sending order (09 R420, R423). -/
def reduceDamage (c : HeadCfg) (dsc : Option Dsc) (l : List Rect) : List Rect :=
  let (gw, gh) := match dsc with | some x => (x.sliceW, x.sliceH) | none => (8, 2)
  let l := (l.filter fun r => !r.isEmpty).map (alignRect c gw gh)
  let l := mergeLoop c gw gh (if c.kind = .psr2 then 1 else 8) l.length l
  sortBy l fun a b => decide (a.y0 < b.y0 || (a.y0 = b.y0 && a.x0 ≤ b.x0))

end Sys2Proof.Machine
end

