-- ==== Sys2Proof/Machine/LedgerOps.lean ====
section
/-! DEFINITION. The Fault Ledger (20): the log, the clears, its registers, and the checks and effects of the DIAG
commands. -/

namespace Sys2Proof.Machine

/-- The tenancies a party mask names: the device stands for every tenancy that is not ABSENT (20 R793). -/
def partiesOf (s : State) (m : Nat) : Nat := if m.testBit 17 then (m ||| everyTenancy s) % 2 ^ 17 else m % 2 ^ 17

/-- Whether a set bit of effective class DEGRADE names a tenancy or the device (20 R871). -/
def degradeHolds (s : State) (t : Nat) : Bool :=
  (List.range 40).any fun b => (lgSrc s b).on && decide (effClass s b = 2) &&
    ((lgSrc s b).affect.testBit t || (lgSrc s b).affect.testBit 17)

/-- Tenancies whose degraded state has ended leave it (20 R792). -/
def endDegraded (s : State) : State :=
  let still := s.lg.reactions.foldl (fun m r => m ||| partiesOf s r.degrade) 0
  (bitsOf 17 s.lg.degraded).foldl (fun s t =>
    if degradeHolds s t || still.testBit t then s
    else raise (s.modLg fun l => { l with degraded := clrBit l.degraded t }) (srcNotice t) 2) s

/-- One entry of the fault log (20 R799). -/
def logBit (s : State) (b : Nat) : State :=
  let v := lgSrc s b
  if !v.on || v.logged = some v.stamp then s else
  let n := s.lg.logSeq + 1
  let e : LogEntry :=
    { source := b, injected := v.injected, cls := effClass s b, seq := n, epoch := s.tl.epoch, stamp := v.stamp,
      affect := v.affect }
  let s := s.modLg fun l => { l with logSeq := n, log := tset {} l.log (n % 4096) e }
  setLgSrc s b { v with logged := some v.stamp }

/-- Chroulakor's sample of the status word (20 R799). -/
def sampleLedger (s : State) : State := (List.range 40).foldl logBit s

/-- What the Ledger expects at an epoch start: the sample, or one more missing (20 R793). -/
def epochSample (s : State) (sampled : Bool) : State :=
  if sampled then sampleLedger (s.modLg fun l => { l with missed := 0 })
  else
    let s := s.modLg fun l => { l with missed := min 2 (l.missed + 1) }
    if s.lg.missed ≥ 2 then assert s 1 deviceMask else s

/-- Whether a clear takes a bit: a HALT-class bit stays (20 R801). -/
def clearable (s : State) (b : Nat) : Bool := (lgSrc s b).on && decide (lgClass s b ≠ 3)

/-- One bit is cleared. A repeat of its assertion in the same tick wins, and is an assertion of its own (20 R792). -/
def clearBit (s : State) (b : Nat) : State :=
  let v := lgSrc s b
  let s := setLgSrc s b { logged := v.logged }
  if v.setAt = some (now s) then assert s b v.setAffect v.injected else s

/-- Whether a bit was set first in this very tick: the set wins over a clear in it (00 R10, 20 R792). -/
def justSet (s : State) (b : Nat) : Bool := (lgSrc s b).on && decide ((lgSrc s b).stamp = now s)

/-- The bits of a mask are logged and cleared (20 R792, R801): how many, and the new state. -/
def clearLedger (s : State) (mask : Nat) : Nat × State :=
  let s := sampleLedger s
  let bs := (bitsOf 40 mask).filter fun b => clearable s b && !justSet s b
  (bs.length, endDegraded (bs.foldl clearBit s))

/-- The status word. -/
def lgStatus (s : State) : Nat := ((List.range 40).filter fun b => (lgSrc s b).on).foldl (fun n b => n + 2 ^ b) 0

/-- LG_SUMMARY. -/
def lgSummary (s : State) : Nat :=
  s.lg.degraded + 2 ^ 28 * b2n (s.lg.reactions.any (·.started)) + 2 ^ 29 * b2n (halted s) + 2 ^ 30 * b2n (faultN s) +
    2 ^ 31 * b2n (halted s)

/-- LG_HALT_SRC. -/
def lgHaltSrc (s : State) : Nat := match s.lg.haltSrc with | some b => 2 ^ 31 + b | none => 0

/-- LG_CTRL. -/
def lgCtrl (s : State) : Nat := b2n s.lg.injectHalt + 2 ^ 30 * b2n s.lg.forceHalt + 2 ^ 31 * b2n s.lg.lock

/-- Fields of sources whose class is fixed read 3 (20 R790). -/
def lgClassWord (s : State) (i : Nat) : Nat :=
  (List.range 16).foldl (fun n j => n + lgClass s (16 * i + j) * 4 ^ j) 0

/-- A register of the Ledger as it reads; an offset without one reads as zero. -/
def ledgerReg (s : State) (ofs : Nat) : Nat :=
  let v := lgSrc s s.lg.sel
  if ofs = 0 then lgStatus s % 2 ^ 32 else if ofs = 4 then lgStatus s / 2 ^ 32
  else if ofs = 8 || ofs = 12 || ofs = 16 || ofs = 20 then lgClassWord s ((ofs - 8) / 4)
  else if ofs = 0x18 then lgCtrl s else if ofs = 0x1C then lgSummary s else if ofs = 0x20 then s.lg.sel
  else if ofs = 0x24 then v.stamp % 2 ^ 32 else if ofs = 0x28 then v.stamp / 2 ^ 32
  else if ofs = 0x2C then v.affect else if ofs = 0x30 then lgHaltSrc s else if ofs = 0x34 then s.lg.logSeq else 0

/-- SV_HALT_REQ fires (20 R803). -/
def forceHaltNow (s : State) : State := assert (s.modLg fun l => { l with forceHalt := true }) 14 deviceMask

/-- A class word is written: the fixed fields keep what they hold (20 R790). -/
def writeClass (s : State) (i v : Nat) : State :=
  if s.lg.lock then s else
  s.modLg fun l => if i = 0 then { l with cls0 := v } else if i = 1 then { l with cls1 := v }
    else if i = 2 then { l with cls2 := v } else { l with cls3 := v }

/-- What any writer of the Ledger's registers may change: status bits are cleared, and LG_SEL is set (00 R9, 20). -/
def ledgerShared (s : State) (ofs v : Nat) : State :=
  if ofs = 0 then (clearLedger s (v % 2 ^ 32)).2
  else if ofs = 4 then (clearLedger s (v % 2 ^ 32 * 2 ^ 32)).2
  else if ofs = 0x20 then s.modLg fun l => { l with sel := v % 64 }
  else s

/-- The Warden's write of 32 bits to a register of the Ledger: the class fields, INJECT_HALT and LOCK are its own
(01 R23, R26; 20 R790). -/
def ledgerWrite (s : State) (ofs v : Nat) : State :=
  if ofs = 8 || ofs = 12 || ofs = 16 || ofs = 20 then writeClass s ((ofs - 8) / 4) (v % 2 ^ 32)
  else if ofs = 0x18 then
    let s := if s.lg.lock then s else s.modLg fun l => { l with injectHalt := v.testBit 0 }
    if v.testBit 31 then s.modLg fun l => { l with lock := true } else s
  else ledgerShared s ofs v

/-- A write through the supervisor port: of the control fields FORCE_HALT alone is its own (01 R23, 20 R803). -/
def supervisorWrite (s : State) (ofs v : Nat) : State :=
  if ofs = 0x18 then if v.testBit 30 then forceHaltNow s else s
  else ledgerShared s ofs v

/-! ### Commands -/

def checkLedgerRead (s : State) (c : Cmd) : Ruling :=
  ruling (recordChecks s c.t (dget c.d 24 8) 1088 0x18 [reserved [(24, 0, 64)] c.d]) (yes .f)

/-- The Ledger record (20 R800). -/
def ledgerRecord (s : State) : List Byte :=
  leBytes 8 (lgStatus s) ++ ((List.range 4).flatMap fun i => leBytes 4 (lgClassWord s i)) ++ leBytes 4 (lgSummary s) ++
  leBytes 4 (lgHaltSrc s) ++ leBytes 4 s.lg.logSeq ++ zeros 28 ++
  (List.range 64).flatMap fun b => leBytes 8 (lgSrc s b).stamp ++ leBytes 4 (lgSrc s b).affect ++ zeros 4

def startLedgerRead (s : State) (f : Flight) : State := finishDone (hostWrite s (dget f.desc 24 8) (ledgerRecord s)) f

def checkFaultLogRead (s : State) (c : Cmd) : Ruling :=
  let d := c.d
  let n := dget d 20 2
  ruling [lowest [reserved [(16, 0, 48), (24, 0, 64)] d, (decide (n > 4096), badParam 0x14), (decide (dget d 24 8 % 64 ≠ 0), badParam 0x18)],
    failIf (decide (n ≠ 0) && !inApertures s c.t (dget d 24 8) (32 * n)) (bounds 0x18)] (yes .f)

/-- A fault log entry (20 R799). -/
def logBytes (e : LogEntry) : List Byte :=
  leBytes 1 (e.source + 64 * b2n e.injected) ++ leBytes 1 e.cls ++ zeros 2 ++ leBytes 4 e.seq ++ leBytes 4 e.epoch ++
  zeros 4 ++ leBytes 8 e.stamp ++ leBytes 4 e.affect ++ zeros 4

/-- The entry with a sequence number, where it is retained (20 R799). -/
def logEntry (s : State) (n : Nat) : List Byte :=
  let e := tget {} s.lg.log (n % 4096)
  if n ≠ 0 && e.seq = n then logBytes e else zeros 32

def startFaultLogRead (s : State) (f : Flight) : State :=
  let d := f.desc
  let bs := (List.range (dget d 20 2)).flatMap fun i => logEntry s (dget d 16 4 + i)
  finishDone (hostWrite s (dget d 24 8) bs) f s.lg.logSeq

def checkLedgerClear (_s : State) (c : Cmd) : Ruling :=
  ruling [lowest [reserved [(16, 0, 64)] c.d, (decide (dget c.d 16 8 ≥ 2 ^ 40), badParam 0x10)]] (yes .f)

def startLedgerClear (s : State) (f : Flight) : State :=
  let (n, s) := clearLedger s (dget f.desc 16 8)
  finishDone s f n

def checkFaultInject (s : State) (c : Cmd) : Ruling :=
  let b := dget c.d 16 1
  let t := dget c.d 17 1
  ruling [lowest [reserved [(16, 0, 16)] c.d, (decide (b > 39), badParam 0x10), (decide (t > 16) && decide (t ≠ 0x1E), badParam 0x11)],
    failIf (decide (lgClass s b = 3) && !s.lg.injectHalt) (badState 0x10)] (yes .f)

/-- The injection asserts the error line (20 R802); its own DONE is written first, at the same instant. -/
def startFaultInject (s : State) (f : Flight) : State :=
  assert (finishDone s f) (dget f.desc 16 1) (partyBit (dget f.desc 17 1)) true

end Sys2Proof.Machine
end

