-- ==== Sys2Proof/Machine/HapticOps.lean ====
section
/-! DEFINITION. The haptic channels (14): the effect library, drive, overdrive and braking, triggers, faults, and the
checks and effects of the HAPTIC commands. A PLAY's or STOP's flight keeps its channel, its instant, and whether it was
superseded (R624). -/

namespace Sys2Proof.Machine

def hapOf (s : State) (c : Nat) : HapChan := tget {} s.haptic.chans c
def modHap (s : State) (c : Nat) (f : HapChan → HapChan) : State :=
  s.modHaptic fun h => { h with chans := tmod {} h.chans c f }

/-- The channel that is local channel n of a tenancy. -/
def hapNo (s : State) (t n : Nat) : Option Nat :=
  leastBelow 16 fun c => decide ((hapOf s c).owner = t) && decide ((hapOf s c).loc = n)

/-- Ticks of a number of HAPTIC cycles (24 MHz), and the HAPTIC cycle of a tick. -/
def hapTicks (n : Nat) : Nat := n * 50 / 3
def hapCycle (t : Nat) : Nat := t * 3 / 50

/-- Half-periods of 350 Hz and 50 Hz (14 R612). -/
def halfMin : Nat := 34285
def halfMax : Nat := 240000
def halfOf (f0 : Nat) : Nat := 12000000 / max 1 f0

/-! ### The effect library (14 R619) -/

/-- An on-segment: its start and length in ms, and its envelope: 0 a level, 1 rising, 2 falling. -/
structure Segment where
  start : Nat
  len : Nat
  shape : Nat
  level : Nat
  deriving DecidableEq, Repr

/-- The on-segments of an effect. -/
def segmentsOf (n : Nat) : List Segment :=
  let k := (n - 1) % 16
  let fam := (n - 1) / 16
  let flat := fun (l : List (Nat × Nat)) => l.map fun x => (⟨x.1, x.2, 0, 100⟩ : Segment)
  if n = 0 || n > 160 then []
  else if fam = 0 then [⟨0, 10, 0, 25 + 5 * k⟩]
  else if fam = 1 then [⟨0, 4 + 2 * k, 0, 100⟩]
  else if fam = 2 then flat [(0, 10), (30 + 10 * k, 10)]
  else if fam = 3 then flat [(0, 10), (30 + 10 * k, 10), (60 + 20 * k, 10)]
  else if fam = 4 then [⟨0, 50 * (k + 1), 0, 100⟩]
  else if fam = 5 then [⟨0, 50 * (k + 1), 1, 100⟩]
  else if fam = 6 then [⟨0, 50 * (k + 1), 2, 100⟩]
  else if fam = 7 then flat ((List.range 4).map fun i => (i * (40 + 10 * k), 20))
  else if fam = 8 then [⟨0, 30, 0, 25 + 5 * k⟩, ⟨110, 30, 0, 3 * (25 + 5 * k) / 5⟩]
  else flat ((List.range (k + 1)).map fun i => (200 * i, 100))

def segmentAt (v : HapChan) : Option Segment := ((segmentsOf v.effect).drop v.segment).head?

/-- Ticks of a millisecond. -/
def msTicks (n : Nat) : Nat := n * 400000

/-- The envelope, in whole percent, a time after a segment's start (14 R614, R619). -/
def envelope (g : Segment) (tau : Nat) : Nat :=
  let t := min tau (msTicks g.len)
  if g.shape = 0 then g.level else if g.shape = 1 then 100 * t / max 1 (msTicks g.len)
  else 100 * (msTicks g.len - t) / max 1 (msTicks g.len)

/-- The largest drive VHAP allows, mV (14 R609). -/
def driveLimit (s : State) : Nat := min 10000 (2 * ((s.haptic.vhap.getD Config.vhap) - 1000))

/-- The envelope, in whole percent, of the half-cycle that begins now. -/
def levelNow (s : State) (v : HapChan) : Nat :=
  match segmentAt v with | some g => envelope g (now s - v.segAt) | none => 0

/-- The overdrive half-cycles left at a half-cycle's start (14 R615, R619): a rise has them unless the residual motion is
above a quarter of RATED_MV; a ramp's rise is its first half-cycle of a level other than zero. -/
def overdriveLeft (s : State) (v : HapChan) : Nat :=
  match segmentAt v with
  | some g => if g.shape = 1 && levelNow s v = 0 then 0 else if g.shape = 1 && v.drive = 0 && 4 * v.bemf > v.rated then 0 else v.od
  | none => v.od

/-- The amplitude of the half-cycle that begins now (14 R614, R615), clipped by VHAP. A ramp keeps its overdrive for its
rise. -/
def beginHalf (s : State) (c : Nat) : State :=
  let v := hapOf s c
  let od := overdriveLeft s v
  let ramp := match segmentAt v with | some g => decide (g.shape = 1) | none => false
  let want := if od ≠ 0 then v.odMv else v.rated * levelNow s v / 100
  let lim := driveLimit s
  modHap s c fun v => { v with
    drive := min want lim, clip := v.clip || decide (want > lim), od := if ramp && levelNow s v = 0 then v.od else od - 1 }

/-- A rise (14 R615): overdrive unless the residual motion is above a quarter of RATED_MV, which a ramp's rise asks when it
comes. -/
def beginSegment (s : State) (c : Nat) (quiet : Bool) : State :=
  let v := hapOf s c
  let ramp := match segmentAt v with | some g => decide (g.shape = 1) | none => false
  let od := if quiet || (!ramp && 4 * v.bemf > v.rated) then 0 else v.odHalf
  let s := modHap s c fun v => { v with stage := .driving, segAt := now s, od := od, crossed := now s, brakes := 0 }
  beginHalf s c

/-- An effect begins now: `quiet` in place of another's on-segment (14 R618). -/
def beginEffect (s : State) (c n : Nat) (quiet : Bool) : State :=
  let s := modHap s c fun v => { v with effect := n, segment := 0, started := now s, waiting := none }
  beginSegment s c quiet

/-- Starts and plays that are dropped (14 R610, R623, R625, R627). -/
def dropStart (s : State) (c : Nat) : State :=
  raise (modHap s c fun v => { v with dropped := min 0xFFFFFFFF (v.dropped + 1) }) (srcHaptic c 1) 0

/-- A start that a start or stop of a higher rank puts aside in its HAPTIC cycle (14 R623): one that had begun to drive is
undone, one that waited for a zero-crossing no longer does. -/
def undoStart (v : HapChan) (cyc : Nat) : HapChan :=
  if v.waiting.isSome then { v with waiting := none, starts := v.starts - 1 }
  else if v.stage = .driving && hapCycle v.started = cyc then { v with stage := .idle, drive := 0, od := 0, starts := v.starts - 1 }
  else v

/-- Takes a start or stop of a rank on a channel in this HAPTIC cycle (14 R623): none when one of the same or a higher rank
was taken in it before (log 156: of two commands of one cycle, at different ticks, the first is taken); a lower one taken
before gives way. -/
def takeTurn (s : State) (c rank : Nat) : Option State :=
  let v := hapOf s c
  let cyc := hapCycle (now s)
  match v.taken with
  | some (k, r) =>
    if k ≠ cyc then some (modHap s c fun v => { v with taken := some (cyc, rank) })
    else if rank > r then some (dropStart (modHap s c fun v => { undoStart v cyc with taken := some (cyc, rank) }) c)
    else none
  | none => some (modHap s c fun v => { v with taken := some (cyc, rank) })

/-- Whether a channel takes effects at all. -/
def hapReady (s : State) (c : Nat) : Bool :=
  decide ((hapOf s c).stage ≠ .fault) && decide ((hapOf s c).stage ≠ .unconfigured) && !s.haptic.low && !s.hokusaSafe && !halted s

/-- Starts an effect (14 R617, R618, R622): the state, and whether the drive waits for a zero-crossing. -/
def startEffect (s : State) (c n rank : Nat) : State × Bool :=
  if !hapReady s c then (dropStart s c, false) else
  match takeTurn s c rank with
  | none => (dropStart s c, false)
  | some s =>
    let s := modHap s c fun v => { v with starts := min 0xFFFFFFFF (v.starts + 1) }
    let v := hapOf s c
    if v.stage = .driving || v.stage = .braking then (modHap s c fun v => { v with waiting := some n }, true)
    else (beginEffect s c n false, false)

/-- Braking begins (14 R616). -/
def beginBrake (s : State) (c : Nat) : State :=
  let lim := driveLimit s
  modHap s c fun v => { v with
    stage := .braking, brakes := 0, drive := min v.brakeMv lim, clip := v.clip || decide (v.brakeMv > lim), od := 0 }

/-- Stops a channel (14 R616): an effect in progress brakes, in a gap too; an idle channel is left as it is. -/
def stopEffect (s : State) (c : Nat) : State :=
  let v := hapOf s c
  if v.stage = .driving || v.stage = .gap then beginBrake (modHap s c fun v => { v with segment := 16, waiting := none }) c
  else modHap s c fun v => { v with waiting := none, segment := if v.stage = .braking then 16 else v.segment }

/-- A channel enters FAULT (14 R627). -/
def hapFault (s : State) (c cause : Nat) : State :=
  if (hapOf s c).stage = .fault || (hapOf s c).stage = .unconfigured then s else
  let s := modHap s c fun v => { v with stage := .fault, cause := cause, drive := 0, waiting := none, od := 0 }
  assert (raise s (srcHaptic c 0) 0) 33 0

/-- Every effect in progress ends without braking (14 R610, R626). -/
def cutEffects (s : State) : State :=
  (List.range 16).foldl (fun s c =>
    if (hapOf s c).stage = .driving || (hapOf s c).stage = .braking || (hapOf s c).stage = .gap then
      modHap s c fun v => { v with stage := .idle, drive := 0, waiting := none, od := 0 }
    else s) s

def vhapFell (s : State) (mv : Nat) : State :=
  if mv ≥ 2800 then s.modHaptic fun h => { h with vhap := some mv }
  else raise (cutEffects (s.modHaptic fun h => { h with vhap := some mv, low := true })) srcVhap 0

def vhapRose (s : State) (mv : Nat) : State :=
  s.modHaptic fun h => { h with vhap := some mv, low := h.low && decide (mv ≤ 3000) }

/-- The tracked half-period (14 R612) and the runs that make a STALL (R627). -/
def trackHalf (v : HapChan) (m : Option Nat) : HapChan :=
  match m with
  | some m =>
    let p := (v.half : Int) + Int.tdiv ((m : Int) - v.half) 4
    let q := (clampI halfMin halfMax p).toNat
    { v with half := q, missRun := 0, clampRun := if p < halfMin || p > halfMax then v.clampRun + 1 else 0 }
  | none => { v with misses := min 0xFFFFFFFF (v.misses + 1), missRun := v.missRun + 1 }

/-- The end of a half-cycle (14 R611 to R618): `m` is the half-period measured in the sense window, none for a miss. -/
def crossZero (s : State) (c : Nat) (m : Option Nat) (bemf ma : Nat) : State :=
  let v := hapOf s c
  if v.stage ≠ .driving && v.stage ≠ .braking then s else
  let s := modHap s c fun v =>
    let v := if v.track && v.stage = .driving then trackHalf v m else v
    { v with bemf := bemf, crossed := now s, clip := v.clip || (decide (v.maxMa ≠ 0) && decide (ma ≥ v.maxMa)) }
  let v := hapOf s c
  if v.track && (v.missRun ≥ 8 || v.clampRun ≥ 64) then hapFault s c 2
  else match v.waiting with
    | some n => beginEffect s c n (decide (v.stage = .driving))
    | none =>
      if v.stage = .braking then modHap s c fun v => { v with brakes := v.brakes + 1 }
      else match segmentAt v with
        | some g => if now s ≥ v.segAt + msTicks g.len then s else beginHalf s c
        | none => s

/-- An on-segment has passed its nominal end and its drive has crossed zero (14 R614). -/
def segmentDue (s : State) (c : Nat) : Bool :=
  let v := hapOf s c
  decide (v.stage = .driving) && (match segmentAt v with | some g => decide (v.crossed ≥ v.segAt + msTicks g.len) | none => true)

/-- The segment ends and the brake begins. -/
def endSegment (s : State) (c : Nat) : State :=
  if segmentDue s c then beginBrake (modHap s c fun v => { v with segment := v.segment + 1 }) c else s

/-- The brake is over (14 R616). -/
def brakeDue (s : State) (c : Nat) : Bool :=
  let v := hapOf s c
  decide (v.stage = .braking) && ((decide (v.brakes ≠ 0) && decide (20 * v.bemf < v.rated) && decide (v.brakeMv ≠ 0)) ||
    decide (v.brakes ≥ v.brakeMax))

/-- The bridge goes to high impedance; a gap follows while the effect has segments left. -/
def endBrake (s : State) (c : Nat) : State :=
  if !brakeDue s c then s else
  modHap s c fun v => { v with stage := if (segmentAt v).isSome then .gap else .idle, drive := 0 }

/-- The next on-segment's start has come (14 R615, R617). -/
def riseDue (s : State) (c : Nat) : Bool :=
  let v := hapOf s c
  (decide (v.stage = .gap) || decide (v.stage = .braking)) &&
    (match segmentAt v with | some g => decide (now s ≥ v.started + msTicks g.start) | none => false)

/-- A rise within an effect: at once from a gap; from a brake at its next zero-crossing, which `crossed` now marks. -/
def riseSegment (s : State) (c : Nat) : State :=
  if !riseDue s c then s
  else if (hapOf s c).stage = .gap || (hapOf s c).crossed = now s then beginSegment s c false else s

/-! ### Triggers (14 R620, R621) -/

def trigEdge (s : State) (c : Nat) (rising : Bool) : State :=
  let v := hapOf s c
  let kind := decide (v.map.edge = 2) || decide (v.map.edge = b2n !rising)
  modHap s c fun v => { v with
    pin := rising, edgeAt := if v.map.enable && kind && decide (now s ≥ v.rearmAt) then some (now s) else none }

def trigDue (s : State) (c : Nat) : Bool := match (hapOf s c).edgeAt with | some t => decide (now s ≥ t + 800) | none => false

/-- Whether a channel's triggers are dropped because of its holder (14 R625). -/
def holderStill (s : State) (c : Nat) : Bool :=
  let t := (tenOf s (hapOf s c).owner).state
  decide (t = .quiesced) || decide (t = .frozen)

/-- A trigger, from the pin (rank 1) or a key (rank 0). An unconfigured channel ignores it (14 R629). -/
def triggerEffect (s : State) (c n rank : Nat) : State :=
  if (hapOf s c).stage = .unconfigured then s
  else if holderStill s c then dropStart s c else (startEffect s c n rank).1

/-- The edge has held for 2 µs (14 R620). -/
def acceptTrigger (s : State) (c : Nat) : State :=
  if !trigDue s c then s else
  let m := (hapOf s c).map
  let s := modHap s c fun v => { v with edgeAt := none, rearmAt := now s + 400 * m.rearm }
  triggerEffect s c m.effect 1

/-! ### Commands -/

def layoutHapticConfig : List (Nat × Nat × Nat) :=
  [(16, 0, 8), (17, 0, 1), (18, 0, 48), (24, 0, 4), (25, 0, 5), (26, 0, 32)]

def hapPlayPending (s : State) (c : Nat) : Bool :=
  s.flights.any fun f => f.op == 0x81 && accepted f && decide (f.aux.headD 16 = c)

def checkHapticConfig (s : State) (c : Cmd) : Ruling :=
  let d := c.d
  let k := hapNo s c.t (dget d 16 1)
  let v := hapOf s (k.getD 16)
  let out := fun (o lo hi : Nat) => decide (dget d o 2 < lo || dget d o 2 > hi)
  ruling
    [lowest [reserved layoutHapticConfig d, (out 18 50 350, badParam 0x12), (out 20 500 10000, badParam 0x14),
       (decide (dbits d 24 0 4 ≠ 0) && (decide (dget d 22 2 < dget d 20 2) || decide (dget d 22 2 > 10000)), badParam 0x16),
       (decide (dbits d 24 0 4 > 8), badParam 0x18), (decide (dbits d 25 0 5 = 0 || dbits d 25 0 5 > 16), badParam 0x19),
       (out 26 0 10000, badParam 0x1A), (out 28 50 400, badParam 0x1C)],
     failIf k.isNone (notOwner 0x10),
     failIf (decide (v.stage = .driving) || decide (v.stage = .braking) || decide (v.stage = .gap) || hapPlayPending s (k.getD 16))
       (badState 0x10)]
    (yes .f none [k.getD 16])

/-- A channel takes the configuration of a HAPTIC_CONFIG (14 R629). -/
def configureHaptic (s : State) (c : Nat) (d : Descriptor) : State :=
  modHap s c fun v => { v with
    stage := .idle, clip := false, cause := 0, track := dbit d 17 0, f0 := dget d 18 2, rated := dget d 20 2, odMv := dget d 22 2,
    odHalf := dbits d 24 0 4, brakeMax := dbits d 25 0 5, brakeMv := dget d 26 2, maxMa := dget d 28 2,
    half := halfOf (dget d 18 2), missRun := 0, clampRun := 0, drive := 0, waiting := none }

def startHapticConfig (s : State) (f : Flight) : State := finishDone (configureHaptic s (f.aux.headD 16) f.desc) f

/-- The instant a PLAY or STOP asks for (14 R622, 04 R194). -/
def hapInstant (s : State) (c : Cmd) : Option Nat :=
  if classOf c.d = 3 then some (c.a + 8000) else if dbit c.d 18 0 then some (c.a + 40000)
  else tickOfInstant s (dget c.d 20 4) (dget c.d 24 4)

def checkHapticTimed (play : Bool) (s : State) (c : Cmd) : Ruling :=
  let d := c.d
  let k := hapNo s c.t (dget d 16 1)
  let c3 := decide (classOf d = 3)
  let named := !c3 && !dbit d 18 0
  let want := hapInstant s c
  let late : Verdict := { status := 11, reason := 1, inst := some (c.a + 40000) }
  ruling
    [lowest [reserved [(16, 0, 16), (18, 0, 1), (20, 0, 64)] d,
       (if play then decide (dget d 17 1 = 0 || dget d 17 1 > 160) else decide (dget d 17 1 ≠ 0), badParam 0x11),
       (c3 && dbit d 18 0, badParam 0x12), (!named && decide (dget d 20 4 ≠ 0), badParam 0x14),
       (if named then decide (dget d 24 4 ≥ s.tl.epochTicks) else decide (dget d 24 4 ≠ 0), badParam 0x18)],
     failIf k.isNone (notOwner 0x10), fenceCheck s c (if c3 then none else want),
     failIf (play && decide ((hapOf s (k.getD 16)).stage = .unconfigured)) (badState 0x10),
     if c3 then none else failIf (match want with | some t => decide (t < c.a + 40000) | none => true) late]
    (yes .af (if c3 then none else want) [k.getD 16, want.getD 0, 0])

/-- A later PLAY or STOP of the same channel that takes effect in this tick too (14 R624). -/
def supersedes (s : State) (f g : Flight) : Bool :=
  (g.op == 0x81 || g.op == 0x82) && accepted g && decide (f.id < g.id) && decide (g.aux.headD 16 = f.aux.headD 16) &&
    (decide (g.phase = .timed (now s)) ||
      (decide (g.phase = .first) && decide (classOf g.desc = 3) && !fenced s g && decide (g.admitted + 8000 = now s)))

/-- A PLAY or STOP takes effect (14 R622, R624, R626, R630). One that a later command of the same instant supersedes has
none of its own: the channel acts on the combined result (01 R24). -/
def performHaptic (s : State) (f : Flight) : State :=
  let c := f.aux.headD 16
  let sup := if (f.aux.drop 2).headD 0 = 1 || s.flights.any (supersedes s f) then 2147483648 else 0
  if s.hokusaSafe && f.promised.isSome then
    finish (missNote s f) f { status := 13, reason := 0x31, inst := f.promised }
  else if sup ≠ 0 then finishDone s f sup
  else if f.op = 0x81 then
    let (s, waited) := startEffect s c (dget f.desc 17 1) 2
    finishDone s f (b2n waited)
  else
    match takeTurn s c 2 with
    | some s => finishDone (stopEffect s c) f
    | none => finishDone (dropStart s c) f

/-- After its first completion a PLAY or STOP waits for its instant; a C3 one has come to it. -/
def startHapticTimed (s : State) (f : Flight) : State :=
  let t := if classOf f.desc = 3 then now s else (f.aux.drop 1).headD 0
  let s := s.modFlights fun l => l.map fun g =>
    if (g.op == 0x81 || g.op == 0x82) && g.id < f.id && decide (g.phase = .timed t) &&
        decide (g.aux.headD 16 = f.aux.headD 16) then
      { g with aux := g.aux.take 2 ++ [1] } else g
  if classOf f.desc = 3 then performHaptic s f else await s f (.timed t)

def checkTriggerMap (s : State) (c : Cmd) : Ruling :=
  let d := c.d
  let on := dbit d 17 0
  let k := hapNo s c.t (dget d 16 1)
  ruling
    [lowest [reserved [(16, 0, 8), (17, 0, 3), (18, 0, 8), (20, 0, 16)] d, (decide (dbits d 17 1 2 = 3), badParam 0x11),
       (decide (dget d 18 1 > 160) || (decide (dget d 18 1 = 0) && on), badParam 0x12)],
     failIf k.isNone (notOwner 0x10)]
    (yes .f none [k.getD 16])

def startTriggerMap (s : State) (f : Flight) : State :=
  let d := f.desc
  finishDone (modHap s (f.aux.headD 16) fun v => { v with
    map := { enable := dbit d 17 0, edge := dbits d 17 1 2, effect := dget d 18 1, rearm := dget d 20 2 }, edgeAt := none }) f

def checkHapticStatus (s : State) (c : Cmd) : Ruling :=
  ruling (recordChecks s c.t (dget c.d 24 8) 64 0x18 [reserved [(16, 0, 8), (24, 0, 64)] c.d] ++
    [failIf (hapNo s c.t (dget c.d 16 1)).isNone (notOwner 0x10)]) (yes .f)

def hapStateNum : HapStage → Nat
  | .unconfigured => 0 | .idle => 1 | .driving => 2 | .gap => 2 | .braking => 3 | .fault => 4

/-- F_TRACKED: the tracked resonance in 1/16 Hz. -/
def fTracked (v : HapChan) : Nat := if v.half = 0 then 0 else 192000000 / v.half

/-- HP_STATUS. -/
def hpStatus (s : State) (c : Nat) : Nat :=
  let v := hapOf s c
  hapStateNum v.stage + 8 * b2n v.clip + 16 * v.cause + 256 * v.effect + 65536 * fTracked v

def hapticRecord (s : State) (c : Nat) : List Byte :=
  let v := hapOf s c
  leBytes 1 v.loc ++ leBytes 1 (hapStateNum v.stage + 8 * b2n v.clip + 16 * v.cause) ++ leBytes 1 v.effect ++ zeros 1 ++
  leBytes 2 (fTracked v) ++ zeros 2 ++ leBytes 4 v.starts ++ leBytes 4 v.dropped ++ leBytes 4 v.misses ++ zeros 44

def startHapticStatus (s : State) (f : Flight) : State :=
  match hapNo s f.src.fn (dget f.desc 16 1) with
  | some c => finishDone (hostWrite s (dget f.desc 24 8) (hapticRecord s c)) f
  | none => finishDone s f

end Sys2Proof.Machine
end

