-- ==== Sys2Proof/Machine/TouchOps.lean ====
section
/-! DEFINITION. Touch measurement (12): pins and nodes, scans and their products, noise hopping, baselines, self-test,
and the checks and effects of TOUCH_PORT_CONFIG, SCAN_CONFIG, BASELINE_LOAD, BASELINE_SAVE and SELFTEST. -/

namespace Sys2Proof.Machine

def portOf (s : State) (p : Nat) : TouchPort := tget {} s.touch.ports p
def modPort (s : State) (p : Nat) (f : TouchPort → TouchPort) : State :=
  s.modTouch fun t => { t with ports := tmod {} t.ports p f }

/-- Host data of a flight: as it arrived, or as host memory holds it now (07 R322). -/
def flightData (s : State) (f : Flight) (a n : Nat) : List Byte := f.data.getD (hostRead s a n)

/-- Host data that did not arrive whole. -/
def dataFault (f : Flight) : Option Verdict :=
  if f.dataErr = 0 then none
  else some (if f.dataErr = 14 then refuse 14 0x34 else refuse 13 0x33 0 (f.dataErr - 32))

/-! ### Pins and nodes (12 R529 to R534) -/

def pinsOf (roles : List Nat) (r : Nat) : List Nat := (List.range roles.length).filter fun p => decide ((roles.drop p).headD 0 = r)
def tCnt (v : TouchPort) : Nat := (pinsOf v.roles 1).length
def rCnt (v : TouchPort) : Nat := (pinsOf v.roles 2).length
def nodeCount (v : TouchPort) : Nat := tCnt v * rCnt v
def nodesOf (v : TouchPort) : List Nat := List.range (nodeCount v)
def nodeT (v : TouchPort) (n : Nat) : Nat := n / max 1 (rCnt v)
def nodeR (v : TouchPort) (n : Nat) : Nat := n % max 1 (rCnt v)
def nodeFault (v : TouchPort) (n : Nat) : Bool := tget false v.faultTx (nodeT v n)
def usable (v : TouchPort) (f : Nat) : Bool := decide ((f + 1) * v.rLine * v.cLine ≤ 318310)

/-- TX groups, and steps of a scan (12 R541). -/
def groupCount (v : TouchPort) (c : ScanCfg) : Nat := ceilDiv (tCnt v) (max 1 c.conc)
def stepCount (v : TouchPort) (c : ScanCfg) : Nat := 1 + groupCount v c + b2n c.self

/-- The frequency that drives a TX ordinal in a set (12 R541). -/
def freqOf (c : ScanCfg) (set t : Nat) : Nat := (((c.freqs.drop set).headD []).drop (t % max 1 c.conc)).headD 0

/-! ### Quiet windows and the scan bound (12 R543, R548) -/

/-- Floor and ceiling of a head's line period. -/
def lineTicks (s : State) (k : HeadCfg) : Nat × Nat :=
  if k.tracked then (k.phase / 65536, ceilDiv k.phase 65536) else (frameTicks s k / max 1 k.vTotal, ceilDiv (frameTicks s k) (max 1 k.vTotal))

def hasWindows (h : Head) : Bool :=
  match h.cfg with
  | none => false
  | some k =>
    if k.kind = .command then decide (h.quiet.teLen ≠ 0)
    else decide (h.quiet.hLen0 ≠ 0) || decide (h.quiet.hLen1 ≠ 0)

/-- Pixel x of a head's line has begun, d ticks into the line. The pixels of a line take its period evenly, the first
active one at the line's start (09 R437; log entry 141). -/
def pixelBegun (s : State) (k : HeadCfg) (d x : Nat) : Bool :=
  if k.tracked then decide (x * k.phase ≤ d * k.hTotal * 65536) else decide (x * frameTicks s k ≤ d * k.hTotal * k.vTotal)

/-- A quiet window of a head is open at this tick: of its lines, with the numberless ones quiet where the vertical window
takes in the last line (09 R434, R435, R437), or of its TE edges while nothing is being sent (09 R436). -/
def quietOpen (s : State) (h : Nat) : Bool :=
  let hd := headOf s h
  let q := hd.quiet
  match hd.cfg with
  | none => false
  | some k =>
    if hd.state = .disabled then false
    else if k.kind = .command then
      !hd.pushing && hd.teEdges.any fun t => decide (t + q.teOfs ≤ now s) && decide (now s < t + q.teOfs + q.teLen)
    else
      let d := now s - hd.lineAt
      let across := fun (a n : Nat) => pixelBegun s k d (k.hActive + a) && !pixelBegun s k d (k.hActive + a + n)
      let down := decide (q.vStart ≠ 0) &&
        (if hd.slot = .wait || hd.slot = .recovery then decide (q.vEnd + 1 = k.vTotal) else decide (q.vStart ≤ hd.line) && decide (hd.line ≤ q.vEnd))
      (decide (q.hLen0 ≠ 0) && across q.hStart0 q.hLen0) || (decide (q.hLen1 ≠ 0) && across q.hStart1 q.hLen1) || down

/-- This tick counts for a port's step: its quiet window is open, or it has no head (12 R542, R543). -/
def tickCounts (s : State) (v : TouchPort) : Bool := decide (v.head = 0x0F) || quietOpen s v.head

/-- The tick that passes is counted by the steps that are past SETTLE (12 R542). -/
def countTicks (s : State) : State :=
  (List.range 8).foldl (fun s p =>
    match (portOf s p).scan with
    | none => s
    | some c =>
      if now s < c.stepAt + c.cfg.settle || c.counted ≥ c.cfg.intTicks || !tickCounts s (portOf s p) then s
      else modPort s p fun v => { v with scan := some { c with counted := c.counted + 1 } }) s

/-- A step has counted what it needs; where the port's head has stopped no window is left to wait for (12 R542, R563). -/
def stepCounted (s : State) (v : TouchPort) (c : Scan) : Bool :=
  decide (c.counted ≥ c.cfg.intTicks) || (decide (v.head ≠ 0x0F) && decide ((headOf s v.head).state = .disabled))

/-- scan_bound > interval (12 R548). A command-mode head has no horizontal windows, which the bound divides by: none is set for it
(DESIGN CHOICE, log entry 155). -/
def scanTooLong (s : State) (v : TouchPort) (c : ScanCfg) : Bool :=
  match (headOf s v.head).cfg with
  | some k =>
    if v.head = 0x0F then decide (stepCount v c * (c.settle + c.intTicks) > c.start * 400)
    else if k.kind = .command then false else
    let (lo, hi) := lineTicks s k
    let q := (headOf s v.head).quiet
    let open' := (q.hLen0 + q.hLen1) * lo / max 1 k.hTotal
    decide (open' = 0) || decide (stepCount v c * (c.settle + (ceilDiv c.intTicks (max 1 open') + 1) * hi) > k.vTotal / max 1 c.n * lo)
  | none => decide (stepCount v c * (c.settle + c.intTicks) > c.start * 400)

/-! ### Raw counts (12 R537, R539) -/

/-- cos and sin of k / 256 of a turn, scaled by 2^31 - 1. -/
def phaseCos (k : Nat) : Int := sineTable (16 * k + 1024)
def phaseSin (k : Nat) : Int := sineTable (16 * k)

/-- A complex value projected onto a reference phase, rounded to nearest; saturation is left to `satRaw`. -/
def project (iq : Int × Int) (k : Nat) : Int := ((iq.1 * phaseCos k + iq.2 * phaseSin k) * 2 + 2147483647) / 4294967294
def satRaw (x : Int) : Int := clampI (-32767) 32767 x

/-- The angle of a sum of complex values, to 1/256 of a turn: the phase it projects onto furthest. -/
def angleOf (iq : Int × Int) : Nat :=
  ((List.range 256).foldl (fun (b : Nat × Int) k =>
    let x := iq.1 * phaseCos k + iq.2 * phaseSin k
    if x > b.2 then (k, x) else b) (0, iq.1 * phaseCos 0)).1

/-- Phases a scan uses for the first time are acquired from it (12 R539). -/
def acquirePhases (v : TouchPort) (c : Scan) (again : Bool) : TouchPort :=
  (List.range 16).foldl (fun v f =>
    let mine := (nodesOf v).filter fun n => freqOf c.cfg c.set (nodeT v n) == f
    if mine.isEmpty || (!again && (tget none v.phases f).isSome) then v
    else
      let sum := mine.foldl (fun (a : Int × Int) n => let x := tget ((0 : Int), (0 : Int)) c.iq n; (a.1 + x.1, a.2 + x.2)) ((0 : Int), (0 : Int))
      { v with phases := tset none v.phases f (some (angleOf sum)) }) v

/-- The raw counts of a scan, by node. -/
def rawCounts (v : TouchPort) (c : Scan) : List Int :=
  (nodesOf v).map fun n => project (tget ((0 : Int), (0 : Int)) c.iq n) ((tget none v.phases (freqOf c.cfg c.set (nodeT v n))).getD 0)

/-! ### Baselines (12 R555 to R560) -/

def baseAt (v : TouchPort) (set n : Nat) : Int := tget 0 v.base (16384 * set + n)
def modeOf (v : TouchPort) (set : Nat) : Nat := (v.modes.drop set).headD 0
def setMode (v : TouchPort) (set m : Nat) : TouchPort := { v with modes := setAt v.modes set m }
def setBase (v : TouchPort) (set n : Nat) (x : Int) : TouchPort := { v with base := tset 0 v.base (16384 * set + n) x }

/-- Insertion into an ascending list. -/
def insertInt (x : Int) : List Int → List Int
  | [] => [x]
  | y :: t => if x ≤ y then x :: y :: t else y :: insertInt x t

/-- The median of an RX line (12 R557). -/
def medianOf (v : TouchPort) (raws : List Int) (r : Nat) : Int :=
  let l := ((nodesOf v).filter fun n => nodeR v n == r && !nodeFault v n).map fun n => (raws.drop n).headD 0
  ((l.foldl (fun acc x => insertInt x acc) []).drop (l.length / 2)).headD 0

/-- The first complete scan of a set without a baseline (12 R557). -/
def initSet (v : TouchPort) (set : Nat) (raws : List Int) : TouchPort :=
  let v := (nodesOf v).foldl (fun v n => setBase v set n ((raws.drop n).headD 0)) v
  let v := (nodesOf v).foldl (fun v n =>
    if !nodeFault v n && decide (medianOf v raws (nodeR v n) - (raws.drop n).headD 0 ≥ v.freeze) then
      { v with suspect := tset false v.suspect n true } else v) v
  setMode v set 1

/-- The delta of a node (12 R555). -/
def deltaOf (v : TouchPort) (set : Nat) (raws : List Int) (n : Nat) : Int :=
  if nodeFault v n then 0 else clampI (-32767) 32767 (baseAt v set n + tget 0 v.drift (nodeR v n) - (raws.drop n).headD 0)

def nodeFree (v : TouchPort) (n : Nat) : Bool :=
  !(tget false v.covered n || tget false v.suspect n || tget false v.saturated n || nodeFault v n)

/-- Drift, then follower, then negative-delta counters (12 R559); the flag says that BASELINE_NEG fires. -/
def followScan (v : TouchPort) (set : Nat) (raws deltas : List Int) : TouchPort × Bool :=
  let raw := fun (n : Nat) => (raws.drop n).headD 0
  let v := (List.range (rCnt v)).foldl (fun v r =>
    let u := (nodesOf v).filter fun n => nodeR v n == r && nodeFree v n
    if u.isEmpty then v
    else
      let o := tget 0 v.drift r
      let m := Int.tdiv (u.foldl (fun (a : Int) n => a + raw n - baseAt v set n - o) 0) u.length
      { v with drift := tset 0 v.drift r (o + clampI (-(v.driftStep : Int)) v.driftStep m) }) v
  let v := if modeOf v set = 1 then
      (nodesOf v).foldl (fun v n =>
        if !nodeFree v n then v
        else setBase v set n (baseAt v set n +
          clampI (-(v.followStep : Int)) v.followStep (raw n - tget 0 v.drift (nodeR v n) - baseAt v set n))) v
    else v
  (nodesOf v).foldl (fun (acc : TouchPort × Bool) n =>
    let v := acc.1
    let k := if (deltas.drop n).headD 0 ≤ -(v.negThresh : Int) then tget 0 v.neg n + 1 else 0
    if k ≠ v.negScans then ({ v with neg := tset 0 v.neg n k }, acc.2)
    else
      let v := { v with neg := tset 0 v.neg n 0 }
      if tget false v.suspect n || modeOf v set = 1 then
        ({ setBase v set n (raw n - tget 0 v.drift (nodeR v n)) with suspect := tset false v.suspect n false }, acc.2)
      else (v, true)) (v, false)

/-! ### Noise and hopping (12 R551, R552) -/

def setNoise (v : TouchPort) (c : ScanCfg) (set : Nat) : Nat :=
  (List.range c.conc).foldl (fun m j => max m (tget 0 v.noise ((((c.freqs.drop set).headD []).drop j).headD 0))) 0

def hopAfter (v : TouchPort) (c : ScanCfg) (set : Nat) : TouchPort :=
  if !c.hop then v else
  let here := setNoise v c set
  let k := if here > c.hopThresh then v.hops + 1 else 0
  if k < c.hopCount then { v with hops := k }
  else
    let best := (List.range c.sets).foldl (fun b x => if setNoise v c x < setNoise v c b then x else b) 0
    if best ≠ set && setNoise v c best + c.hopMargin ≤ here then { v with hops := 0, hopTo := some best } else { v with hops := k }

/-! ### Scans (12 R545 to R547, R562, R563, R572) -/

/-- Whether line l of a head has started in this tick: of the lines that an aborted frame never emits, line V_ACTIVE stands for
each (09 R427). -/
def lineStartsNow (s : State) (h l : Nat) : Bool :=
  let v := headOf s h
  let va := match v.cfg with | some c => c.vActive | none => 0
  let here := decide (v.line = l) || (decide (v.line = va) && decide (l < va) && decide (va ≤ l + v.skipped))
  decide (v.state ≠ .disabled) && here && decide (v.lineAt = now s) && (decide (v.slot = .line) || decide (v.slot = .black))

/-- Whether a scan of these settings starts in this tick (12 R545, R546). -/
def startsNow (s : State) (v : TouchPort) (c : ScanCfg) : Bool :=
  c.enable &&
  (if v.head = 0x0F then decide (now s % max 1 (c.start * 400) = 0)
   else match (headOf s v.head).cfg with
     | some k => (List.range c.n).any fun i => lineStartsNow s v.head ((c.start + i * k.vTotal / max 1 c.n) % max 1 k.vTotal)
     | none => false)

def scanPayload (d : Descriptor) : ScanCfg :=
  { enable := dbit d 17 0, self := dbit d 17 1, hop := dbit d 17 2, n := dget d 18 1, conc := dbits d 19 0 4,
    sets := dbits d 19 4 3, start := dget d 20 2, settle := dget d 22 2, intTicks := dget d 24 2, selfFreq := dbits d 26 0 4,
    hopCount := dget d 27 1, hopThresh := dget d 28 2, hopMargin := dget d 30 2,
    freqs := (List.range (dbits d 19 4 3)).map fun i => (List.range 8).map fun j => dbits d (32 + 4 * i + j / 2) (4 * (j % 2)) 4 }

/-- A change of a port that waits for a scan start: 0x71, 0x72, 0x73, 0x78 or 0x79. -/
def portFlight (s : State) (p op : Nat) : Option Flight :=
  s.flights.find? fun f => f.op == op && decide (f.phase = .unit) && decide (dbits f.desc 16 0 3 = p)

/-- The settings whose scan starts now: a waiting configuration's first, then those in force. -/
def scanToStart (s : State) (p : Nat) : Option (ScanCfg × Option Flight) :=
  let v := portOf s p
  match portFlight s p 0x71 with
  | some f =>
    let c := scanPayload f.desc
    if startsNow s v c then some (c, some f) else if startsNow s v v.cfg then some (v.cfg, none) else none
  | none => if startsNow s v v.cfg then some (v.cfg, none) else none

/-- Whether a scan start (or its skip) is due on a port. -/
def scanDue (s : State) (p : Nat) : Bool :=
  let v := portOf s p
  v.configured && !s.hokusaSafe && !halted s && decide (v.lastStart ≠ some (now s)) && (scanToStart s p).isSome

/-- What takes effect with the settings of a waiting TOUCH_SCAN_CONFIG (12 R572). -/
def adoptScan (v : TouchPort) (c : ScanCfg) : TouchPort :=
  { v with cfg := c, fresh := v.fresh || !v.cfg.enable, set := if v.set ≥ c.sets then 0 else v.set,
           hopTo := match v.hopTo with | some x => if x ≥ c.sets then none else some x | none => none, hops := 0 }

/-- A scan of a port begins (12 R541). -/
def beginScan (s : State) (p : Nat) : State :=
  let s := match (portOf s p).hopTo with
    | some x => raise (modPort s p fun v => { v with set := x, hopTo := none }) (srcTouchPort p 0) 0
    | none => s
  modPort s p fun v =>
    let set := match v.capture with | some c => c.sets.headD v.set | none => v.set
    { v with scan := some { started := now s, step := 0, stepAt := now s, set := set, cfg := v.cfg, iq := [], stamps := [], first := v.fresh } }

/-! ### Baseline records (12) -/

def roleBytes (v : TouchPort) : List Byte := (List.range 256).map fun i => BitVec.ofNat 8 ((v.roles.drop i).headD 0)
def setMask (v : TouchPort) : Nat := ((List.range 4).filter fun x => decide (modeOf v x ≠ 0)).foldl (fun m x => m + 2 ^ x) 0
def recordLen (m mask : Nat) : Nat := 64 + m + 256 + 2 * m * popCount 4 mask

def withCrc (bs : List Byte) (o : Nat) : List Byte := bs.take o ++ leBytes 4 (crc32c bs) ++ bs.drop (o + 4)

/-- The record of a port (12, Baseline record header). -/
def baselineRecord (v : TouchPort) (p : Nat) : List Byte :=
  let mask := setMask v
  withCrc (leBytes 4 0x4B425442 ++ leBytes 2 1 ++ leBytes 1 p ++ leBytes 1 mask ++ leBytes 2 (tCnt v) ++ leBytes 2 (rCnt v) ++
    leBytes 4 (crc32c (roleBytes v)) ++ ((List.range 16).flatMap fun f => leBytes 1 ((tget none v.phases f).getD 0)) ++ zeros 32 ++
    ((nodesOf v).flatMap fun n => leBytes 1 ((tget none v.comp n).getD v.compDefault)) ++
    ((List.range 256).flatMap fun q => leBytes 1 ((tget none v.selfComp q).getD v.selfDefault)) ++
    ((bitsOf 4 mask).flatMap fun x => (nodesOf v).flatMap fun n => leBytes 2 (unsint 16 (baseAt v x n)))) 60

/-- What is wrong with a record to be loaded (12 R566). A length other than the record's is reported at the shorter of
the two (log entry 22). -/
def baselineFault (s : State) (f : Flight) : Option Verdict :=
  let p := dbits f.desc 16 0 3
  let v := portOf s p
  let len := dget f.desc 32 4
  let b := flightData s f (dget f.desc 24 8) len
  let m := fieldOf b 8 2 * fieldOf b 10 2
  let want := recordLen m (bits (fieldOf b 7 1) 0 4)
  let bad := fun (o : Nat) => refuse 6 0xFF 0 o
  let nz := (List.range (28 + m + 256)).find? fun i =>
    if i < 28 then decide (fieldOf b (32 + i) 1 ≠ 0) else decide (fieldOf b (36 + i) 1 ≥ 64)
  let nzAt := match nz with | some i => if i < 28 then 32 + i else 36 + i | none => 0
  if len = 0 then none else
  firstSome
    [dataFault f, failIf (decide (fieldOf b 0 4 ≠ 0x4B425442)) (bad 0), failIf (decide (fieldOf b 4 2 ≠ 1)) (refuse 10 0xFF 0 4),
     failIf (decide (fieldOf b 6 1 ≥ 8)) (bad 6),
     failIf (decide (fieldOf b 7 1 ≥ 16)) (bad 7), failIf (decide (len ≠ want) && decide (min len want < 60)) (bad (min len want)),
     failIf (nz.isSome && decide (nzAt < 60)) (bad nzAt),
     failIf (decide (fieldOf b 60 4 ≠ crc32c (b.take 60 ++ zeros 4 ++ b.drop 64))) (bad 60),
     failIf nz.isSome (bad nzAt), failIf (decide (len ≠ want)) (bad (min len want)),
     failIf (decide (fieldOf b 8 2 ≠ tCnt v)) (refuse 7 0xFF 0 8), failIf (decide (fieldOf b 10 2 ≠ rCnt v)) (refuse 7 0xFF 0 10),
     failIf (decide (fieldOf b 12 4 ≠ crc32c (roleBytes v))) (refuse 7 0xFF 0 12)]

/-- A loaded record takes effect (12 R567). -/
def loadBaseline (v : TouchPort) (b : List Byte) : TouchPort :=
  let m := nodeCount v
  let mask := bits (fieldOf b 7 1) 0 4
  let sets := (bitsOf 4 mask).zipIdx
  let v := { v with
    modes := (List.range 4).map fun x => if mask.testBit x then 2 else 0,
    phases := (List.range 16).foldl (fun t f => tset none t f (some (fieldOf b (16 + f) 1))) [],
    comp := (List.range m).foldl (fun t n => tset none t n (some (fieldOf b (64 + n) 1))) [],
    selfComp := (List.range 256).foldl (fun t q => tset none t q (some (fieldOf b (64 + m + q) 1))) [],
    base := [], drift := [], neg := [], suspect := [], faultTx := [] }
  sets.foldl (fun v x => (List.range m).foldl (fun v n =>
    setBase v x.1 n (sint 16 (fieldOf b (64 + m + 256 + 2 * m * x.2 + 2 * n) 2))) v) v

/-- A SAVE writes its record (12 R569): VALUE is the record's length when LEN is zero. -/
def finishSave (s : State) (f : Flight) : State :=
  let p := dbits f.desc 16 0 3
  let bs := baselineRecord (portOf s p) p
  if dget f.desc 32 4 = 0 then finishDone s f bs.length else finishDone (hostWrite s (dget f.desc 24 8) bs) f

/-! ### A scan's end (12 R550, R568) -/

/-- One scan of a capture (12 R568). -/
def captureScan (s : State) (p : Nat) (c : Scan) : State :=
  let v := portOf s p
  match v.capture with
  | none => s
  | some k =>
    if k.sets.head? ≠ some c.set then s else
    if k.stage = 0 then
      let raws := rawCounts (acquirePhases v c true) c
      let v := acquirePhases v c true
      let code := fun (x : Int) => (clampI 0 63 ((x + 125) / 250)).toNat
      modPort s p fun _ => { v with
        comp := (nodesOf v).foldl (fun t n => tset none t n (some (code ((raws.drop n).headD 0)))) v.comp,
        capture := some { k with stage := 1, sums := [] } }
    else
      let raws := (rawCounts v c).map satRaw
      let sums := (nodesOf v).foldl (fun t n => tset 0 t n (tget 0 t n + (raws.drop n).headD 0)) k.sums
      if k.stage < 16 then modPort s p fun v => { v with capture := some { k with stage := k.stage + 1, sums := sums } }
      else
        let v := (nodesOf v).foldl (fun v n => setBase v c.set n ((tget 0 sums n + 8) / 16)) v
        let v := { setMode v c.set 2 with suspect := [], neg := [] }
        match k.sets.drop 1 with
        | [] =>
          let s := modPort s p fun _ => { v with capture := none, set := k.before }
          match flightBy s fun f => decide (f.id = k.id) with | some f => finishSave s f | none => s
        | rest => modPort s p fun _ => { v with capture := some { k with sets := rest, stage := 0, sums := [] } }

/-- The scan has counted its last sample: its frames wait to be made (12 R550), in the processors' bay behind port 26
(03 R98, R155). -/
def endScan (s : State) (p last : Nat) (c : Scan) : State :=
  let s := modPort (noteMoved s 6) p fun v => { v with scan := none, ended := some c, endedAt := some last }
  match portFlight s p 0x71 with
  | some f => if dbit f.desc 17 0 then s else finishDone (modPort s p fun v => { v with cfg := { v.cfg with enable := false } }) f
  | none => s

/-- A step ends (12 R542, R544): `iq` holds I and Q of each measurement, in the order of R551 for the listen step (RX
ordinal, then frequency), of the nodes for a TX group, and of the pins for the self step. -/
def endStep (s : State) (p first last : Nat) (iq : List (Int × Int)) : State :=
  let v := portOf s p
  match v.scan with
  | none => s
  | some c =>
    if s.hokusaSafe || now s < c.stepAt + c.cfg.settle || !stepCounted s v c then s else
    let g := groupCount v c.cfg
    let c' := { c with stamps := c.stamps ++ [(first, last)], step := c.step + 1, stepAt := now s, counted := 0 }
    let s :=
      if c.step = 0 then
        modPort s p fun v => { v with noise := (List.range 16).foldl (fun t f =>
          tset 0 t f ((List.range (rCnt v)).foldl (fun m r =>
            let x := (iq.drop (16 * r + f)).headD (0, 0)
            max m (min 32767 (x.1.natAbs + x.2.natAbs))) 0)) [] }
      else if c.step > g then
        modPort s p fun v => { v with selfCount := iq.zipIdx.foldl (fun t x => tset 0 t x.2 (satRaw x.1.1)) [] }
      else s
    let base := (c.step - 1) * c.cfg.conc * rCnt v
    let c' := if c.step = 0 || c.step > g then c' else { c' with
      iq := iq.zipIdx.foldl (fun t x => if base + x.2 < nodeCount v then tset ((0 : Int), (0 : Int)) t (base + x.2) x.1 else t) c.iq }
    if c.step + 1 ≥ stepCount v c.cfg then endScan s p last c' else modPort s p fun v => { v with scan := some c' }

/-- A TX pin is stopped for overcurrent (12 R561). -/
def stopTx (s : State) (p tx : Nat) : State :=
  if (portOf s p).scan.isNone || tx ≥ tCnt (portOf s p) then s
  else assert (raise (modPort s p fun v => { v with faultTx := tset false v.faultTx tx true }) (srcTouchPort p 3) 0) 32 0

/-- The die-to-die link fails: scans in progress are discarded (12 R562). -/
def abortScans (s : State) : State :=
  (List.range 8).foldl (fun s p =>
    let s := if (portOf s p).scan.isSome then raise s (srcTouchPort p 4) 0 else s
    modPort s p fun v => { v with scan := none, fresh := true }) s

/-! ### Self-test (12 R564, R565) -/

/-- The fault bits of a pin, out of the measurements of R564. -/
def pinFaults (v : TouchPort) (gnd sup next : List Nat) (opens : List Int) (p : Nat) : Nat :=
  let role := (v.roles.drop p).headD 0
  let largest := fun (q : Nat → Bool) => (opens.zipIdx.filter fun x => q x.2).foldl (fun (m : Int) x => max m x.1) (-32768)
  let ord := fun (r : Nat) => (pinsOf v.roles r).findIdx (· == p)
  let open' := if role = 1 then decide (largest (fun n => nodeT v n == ord 1) < 200)
    else if role = 2 then decide (largest (fun n => nodeR v n == ord 2) < 200) else false
  b2n open' + 2 * b2n (decide ((gnd.drop p).headD 0 < 300)) + 4 * b2n (decide ((sup.drop p).headD 0 > 900)) +
  8 * b2n (decide (p ≤ 254) && decide ((next.drop p).headD 0 > 900)) + 16 * b2n (decide (p ≥ 1) && decide ((next.drop (p - 1)).headD 0 > 900)) +
  32 * b2n (decide (role = 0 || role = 3))

def selftestRecord (p : Nat) (fs : List Nat) : List Byte :=
  let cnt := fun (m : Nat) => (fs.filter fun x => decide (x &&& m ≠ 0)).length
  leBytes 1 p ++ zeros 1 ++ leBytes 2 (cnt 31) ++ leBytes 2 (cnt 1) ++ leBytes 2 (cnt 2) ++ leBytes 2 (cnt 4) ++ leBytes 2 (cnt 8) ++
  zeros 52 ++ fs.flatMap fun x => leBytes 1 x

/-- The self-test's measurements have ended. -/
def endSelftest (s : State) (p : Nat) (gnd sup next : List Nat) (opens : List Int) : State :=
  match portFlight s p 0x74 with
  | none => s
  | some f =>
    let fs := (List.range 256).map (pinFaults (portOf s p) gnd sup next opens)
    let s := modPort s p fun v => { v with selftest := false, faultTx := [] }
    let faulty := (fs.filter fun x => decide (x &&& 31 ≠ 0)).length
    finishDone (hostWrite s (dget f.desc 24 8) (selftestRecord p fs)) f faulty

/-! ### Commands -/

def checkTouchPortConfig (s : State) (c : Cmd) : Ruling :=
  let d := c.d
  let p := dbits d 16 0 3
  let h := dget d 17 1
  let r16 := fun (o hi : Nat) => decide (dget d o 2 = 0 || dget d o 2 > hi)
  ruling
    [lowest
       [reserved [(16, 0, 3), (17, 0, 8), (18, 0, 4), (19, 0, 6), (20, 0, 96), (32, 0, 32), (36, 0, 16), (38, 0, 6)] d,
        (decide (h > 11) && decide (h ≠ 0x0F), badParam 0x11), (decide (dbits d 18 0 4 = 15), badParam 0x12),
        (r16 20 220, badParam 0x14), (r16 22 600, badParam 0x16), (decide (dget d 24 8 % 64 ≠ 0), badParam 0x18),
        (r16 32 32767, badParam 0x20), (r16 34 32767, badParam 0x22), (decide (dget d 36 1 = 0), badParam 0x24),
        (decide (dbits d 37 0 4 = 0) || decide (dbits d 37 4 4 = 0), badParam 0x25)],
     failIf (!inApertures s c.t (dget d 24 8) 256) (bounds 0x18),
     failIf ((portOf s p).cfg.enable || (portFlight s p 0x71).isSome || (portOf s p).scan.isSome) (badState 0x10)]
    (yes .af)

/-- The refusal the role map earns (12 R529, R531). -/
def portConfigFault (s : State) (f : Flight) : Option Verdict :=
  let roles := (flightData s f (dget f.desc 24 8) 256).map (·.toNat)
  let t := (pinsOf roles 1).length
  let r := (pinsOf roles 2).length
  firstSome [dataFault f, ((List.range 256).find? fun i => decide ((roles.drop i).headD 0 > 3)).map fun i => refuse 6 0xFF 0 i,
    failIf (decide (t = 0 || r = 0 || t * r > 16384)) (refuse 6 0xFF)]

/-- TOUCH_PORT_CONFIG takes effect (12 R570, 13 R576). -/
def startTouchPortConfig (s : State) (f : Flight) : State :=
  let d := f.desc
  let p := dbits d 16 0 3
  let roles := (flightData s f (dget d 24 8) 256).map (·.toNat)
  let old := portOf s p
  let same := old.configured && decide (old.roles = roles) && decide (old.head = dget d 17 1) && decide (old.cLine = dget d 20 2) &&
    decide (old.rLine = dget d 22 2)
  let v := { old with
    configured := true, head := dget d 17 1, txAmp := dbits d 18 0 4, cLine := dget d 20 2, rLine := dget d 22 2, roles := roles,
    freeze := dget d 32 2, negThresh := dget d 34 2, negScans := dget d 36 1, followStep := dbits d 37 0 4, driftStep := dbits d 37 4 4,
    compDefault := dbits d 19 0 6, selfDefault := dbits d 38 0 6, faultTx := [], calibrated := false, contacts := [] }
  let v := if same then v else { v with
    modes := [0, 0, 0, 0], phases := [], drift := [], neg := [], suspect := [], covered := [], saturated := [], base := [],
    comp := [], selfComp := [], set := 0, hops := 0, hopTo := none }
  finishDone (modPort s p fun _ => v) f

def scanFieldFaults (s : State) (v : TouchPort) (d : Descriptor) : List (Bool × Verdict) :=
  let c := scanPayload d
  let hc := (headOf s v.head).cfg
  let noHead := decide (v.head = 0x0F)
  let entry := fun (i j : Nat) => dbits d (32 + 4 * i + j / 2) (4 * (j % 2)) 4
  let badSet := (List.range 4).any fun i => (List.range 8).any fun j =>
    if i < c.sets && j < c.conc then !usable v (entry i j) || (List.range j).any fun k => decide (entry i k = entry i j)
    else decide (entry i j ≠ 0)
  let rate240 := match hc with
    | some k => decide (c.n * 400000000 > 240 * nominalFrame s k)
    | none => false
  [(if noHead then decide (c.n ≠ 0) else decide (c.n = 0 || c.n > 4) || rate240, badParam 0x12),
   (decide (c.conc = 0 || c.conc > 8) || decide (c.sets = 0 || c.sets > 4), badParam 0x13),
   (if noHead then decide (c.start < 4167) else match hc with | some k => decide (c.start ≥ k.vTotal) | none => false, badParam 0x14),
   (decide (c.settle < 400 || c.settle > 8000), badParam 0x16), (decide (c.intTicks < 400 || c.intTicks > 40000), badParam 0x18),
   (!c.self && decide (c.selfFreq ≠ 0), badParam 0x1A), (decide (c.hopCount = 0), badParam 0x1B),
   (decide (c.hopThresh = 0 || c.hopThresh > 32767), badParam 0x1C), (decide (c.hopMargin > 32767), badParam 0x1E),
   (badSet || (c.self && !usable v c.selfFreq), badParam 0x20)]

def checkScanConfig (s : State) (c : Cmd) : Ruling :=
  let d := c.d
  let v := portOf s (dbits d 16 0 3)
  let k := scanPayload d
  ruling
    [lowest (reserved [(16, 0, 3), (17, 0, 3), (18, 0, 8), (19, 0, 7), (20, 0, 48), (26, 0, 4), (27, 0, 40), (32, 0, 128)] d :: scanFieldFaults s v d),
     failIf (!v.configured && k.enable) (badState 0x10), failIf v.selftest (badState 0x10),
     failIf (k.enable && decide (v.head ≠ 0x0F) && !hasWindows (headOf s v.head)) (badState 0x11),
     failIf (k.enable && scanTooLong s v k) (badParam 0x18)]
    (yes .af)

/-- After its first completion a configuration waits for its first scan start, or for the end of the scan in progress
when it disables (12 R572). -/
def startScanConfig (s : State) (f : Flight) : State :=
  let p := dbits f.desc 16 0 3
  if dbit f.desc 17 0 || (portOf s p).scan.isSome then await s f .unit
  else finishDone (modPort s p fun v => { v with cfg := { v.cfg with enable := false } }) f

def checkBaselineLoad (s : State) (c : Cmd) : Ruling :=
  let d := c.d
  let n := dget d 32 4
  ruling
    [lowest [reserved [(16, 0, 3), (24, 0, 96)] d, (decide (dget d 24 8 % 8 ≠ 0), badParam 0x18)],
     failIf (decide (n ≠ 0) && !inApertures s c.t (dget d 24 8) n) (bounds 0x18)]
    (yes .af)

def startBaselineLoad (s : State) (f : Flight) : State :=
  let p := dbits f.desc 16 0 3
  let n := dget f.desc 32 4
  let b := flightData s f (dget f.desc 24 8) n
  if n = 0 then finishDone s f
  else if (portOf s p).cfg.enable then setFlight s { f with phase := .unit, data := some b }
  else finishDone (modPort s p fun v => loadBaseline v b) f

def checkBaselineSave (s : State) (c : Cmd) : Ruling :=
  let d := c.d
  let v := portOf s (dbits d 16 0 3)
  let cap := dbit d 17 0
  let mask := dbits d 18 0 4
  let n := dget d 32 4
  let named := (bitsOf 4 mask).filter fun x => decide (x < v.cfg.sets)
  let all := setMask v ||| (if cap then named.foldl (fun m x => m + 2 ^ x) 0 else 0)
  ruling
    [lowest [reserved [(16, 0, 3), (17, 0, 1), (18, 0, 4), (24, 0, 96)] d, (cap && named.isEmpty, badParam 0x12),
       (decide (dget d 24 8 % 64 ≠ 0), badParam 0x18)],
     failIf (decide (n ≠ 0) && !inApertures s c.t (dget d 24 8) n) (bounds 0x18),
     failIf (decide (n ≠ 0) && decide (n < recordLen (nodeCount v) all)) (bounds 0x20),
     failIf (cap && (!v.cfg.enable || v.capture.isSome)) (badState 0x10)]
    (yes .af)

def startBaselineSave (s : State) (f : Flight) : State :=
  if dbit f.desc 17 0 then await s f .unit else finishSave s f

def checkSelftest (s : State) (c : Cmd) : Ruling :=
  let v := portOf s (dbits c.d 16 0 3)
  ruling ([lowest [reserved [(16, 0, 3), (24, 0, 64)] c.d, (decide (dget c.d 24 8 % 64 ≠ 0), badParam 0x18)],
    failIf (!inApertures s c.t (dget c.d 24 8) 320) (bounds 0x18),
    failIf (v.cfg.enable || v.scan.isSome || v.selftest) (badState 0x10)]) (yes .av)

def startSelftest (s : State) (f : Flight) : State :=
  await (modPort s (dbits f.desc 16 0 3) fun v => { v with selftest := true }) f .unit

/-- SCAN_START of a port, or its skip (12 R545 to R547): the changes that wait for it take effect. `calibrate` and `keys`
are the effects of TOUCH_CALIBRATION and TOUCH_KEYS. -/
def startScan (calibrate keys : State → Flight → State) (s : State) (p : Nat) : State :=
  if !scanDue s p then s else
  match scanToStart s p with
  | none => s
  | some (c, cfgFlight) =>
    let s := modPort s p fun v => { v with lastStart := some (now s) }
    if (portOf s p).scan.isSome then
      raise (modPort s p fun v => { v with skips := min 0xFFFFFFFF (v.skips + 1) }) (srcTouchPort p 1) 0
    else
      let s := match cfgFlight with
        | some f => finishDone (modPort s p fun v => adoptScan v c) f
        | none => s
      let s := match portFlight s p 0x72 with
        | some f => finishDone (modPort s p fun v => loadBaseline v (f.data.getD [])) f
        | none => s
      let s := (s.flights.filter fun f => (f.op == 0x78 || f.op == 0x79) && decide (f.phase = .unit) &&
          decide (dbits f.desc 16 0 3 = p)).foldl (fun s f => if f.op = 0x78 then calibrate s f else keys s f) s
      let s := match (portOf s p).capture, portFlight s p 0x73 with
        | none, some f => modPort s p fun v => { v with
            capture := some { id := f.id, sets := (bitsOf 4 (dbits f.desc 18 0 4)).filter (fun x => decide (x < v.cfg.sets)), stage := 0,
                              sums := [], before := v.set },
            hopTo := none }
        | _, _ => s
      beginScan s p

/-- TC_STATUS. -/
def tcStatus (s : State) (p : Nat) : Nat :=
  let v := portOf s p
  let dis := decide (v.head ≠ 0x0F) && decide ((headOf s v.head).state = .disabled) && v.configured
  (v.modes.zipIdx.foldl (fun n x => n + x.1 * 4 ^ x.2) 0) + 256 * v.set + 2 ^ 28 * b2n v.selftest + 2 ^ 29 * b2n v.capture.isSome +
    2 ^ 30 * b2n dis + 2 ^ 31 * b2n v.cfg.enable

end Sys2Proof.Machine
end

