-- ==== Sys2Proof/Machine/WardenOps.lean ====
section
/-! DEFINITION. The Warden (19): applets, secure layers, migration keys, the measurement record, restarts, and the
leases it holds. -/

namespace Sys2Proof.Machine

def appletOf (s : State) (n : Nat) : Applet := tget {} s.wd.applets n
def setApplet (s : State) (n : Nat) (v : Applet) : State := s.modWd fun w => { w with applets := tset {} w.applets n v }

/-- A Warden secure session (19 R761). -/
def sessionActive (s : State) : Bool := (List.range 8).any fun n => decide ((appletOf s n).state = .running)

/-- What every command of opcodes 0xE0 to 0xE7 receives while the Warden does not serve (19 R774, R777). -/
def wardenBar (s : State) : Option Verdict :=
  if s.wd.dead then some (refuse 13 0x32 0 37)
  else if s.wd.restarting.isSome then some (refuse 13 0x32 0 36) else none

/-! ### Secure memory (19 R757) -/

/-- Secure shelves in use: those of applets and of secure staging rings. -/
def secureUsed (s : State) : List Nat :=
  ((List.range 8).flatMap fun n => (appletOf s n).shelves) ++
  (s.sr.rings.filter fun r => r.owner == 0x1D).flatMap fun r => r.shelves

def freeSecureShelves (s : State) : List Nat :=
  ((List.range s.sr.wm).filter fun n => decide (16 ≤ n) && !(secureUsed s).contains n)

def freeSecurePlots (s : State) : List Nat :=
  let used := (List.range 8).flatMap fun n => (appletOf s n).plots
  (List.range s.dram.wm).filter fun p => !used.contains p

def zeroiseSecure (s : State) (shelves plots : List Nat) : State :=
  let s := shelves.foldl (fun s n => zeroiseShelf s n 0x1D) s
  plots.foldl (fun s p => zeroisePlot s p 0x1D) s

/-! ### The measurement log (19 R759) -/

def appletMeasures (s : State) : List Measure :=
  ((List.range 8).filter fun n => decide ((appletOf s n).state ≠ .empty)).map fun n =>
    { kind := 6, slot := n, version := (appletOf s n).version, digest := (appletOf s n).digest }

def measureLog (s : State) : List Measure := s.wd.blocks ++ appletMeasures s

def padTo (n : Nat) (bs : List Byte) : List Byte := (bs ++ zeros n).take n

def measureBytes (m : Measure) : List Byte :=
  leBytes 1 m.kind ++ leBytes 1 m.slot ++ zeros 2 ++ leBytes 4 m.version ++ zeros 8 ++ padTo 48 m.digest

/-- The attestation public key: the same at every start (19 R755). -/
def attestKey : List Byte := (List.range 96).map fun i => Config.attestKey i

/-- The measurement record (19 R760): its signature is a free value. -/
def measurementRecord (s : State) (guest : Bool) (nonce : List Byte) : List Byte × State :=
  let log := measureLog s
  let (sig, s) := freshBytes s 96
  (leBytes 4 0x4B424D53 ++ leBytes 2 1 ++ leBytes 1 log.length ++ zeros 1 ++ leBytes 4 s.wd.restarts ++ zeros 4 ++
    (if guest then zeros 8 else leBytes 8 Config.deviceId.toNat) ++ nonce ++ zeros 8 ++
    padTo 1536 (log.flatMap measureBytes) ++ sig ++ attestKey ++ zeros 256, s)

def checkMeasurements (s : State) (c : Cmd) : Ruling :=
  ruling ([wardenBar s] ++ recordChecks s c.t (dget c.d 24 8) 2048 0x18 [reserved [(24, 0, 64), (32, 0, 256)] c.d])
    (yes .av)

/-- The final completion comes at exactly a_k + 40,000,000 (19 R760). -/
def startMeasurements (s : State) (f : Flight) : State := await s f (.timed (f.admitted + 40000000))

def endMeasurements (s : State) (f : Flight) : State :=
  let (bs, s) := measurementRecord s (f.src.fn ≠ 0) (dbytes f.desc 32 32)
  finishDone (hostWrite s (dget f.desc 24 8) bs) f

/-! ### Applets -/

def checkAppletLoad (s : State) (c : Cmd) : Ruling :=
  let d := c.d
  let len := dget d 32 4
  let n := dget d 16 1
  ruling
    [wardenBar s,
     lowest [reserved [(16, 0, 8), (24, 0, 64), (32, 0, 32)] d, (decide (n > 7), badParam 0x10)],
     failIf (decide (len ≠ 0) && decide (len ≤ 131296) && !inApertures s c.t (dget d 24 8) len) (bounds 0x18),
     failIf (decide ((appletOf s n).state = .running)) (badState 0x10),
     failIf (decide (len > 131296)) (refuse 6 0xFF 0 12)]
    (yes .av)

def startAppletLoad (s : State) (f : Flight) : State :=
  await s f (if dget f.desc 32 4 = 0 then .warden else .data)

/-- The faults of an applet's header (19, R762), by offset. -/
def headerFaults (b : List Byte) (len : Nat) : List (Bool × Verdict) :=
  let g := fun (o n : Nat) => fieldOf b o n
  let bad := fun (o : Nat) => refuse 6 0xFF 0 o
  let code := g 12 4
  [(decide (g 0 4 ≠ 0x4B424150), bad 0), (decide (g 4 2 ≠ 1), bad 4),
   (decide (code < 16 || code > 131072 || code % 16 ≠ 0 || len ≠ 224 + code), bad 12),
   (decide (g 16 4 ≥ 2 ^ 17), bad 18), (decide (g 20 1 > 3), bad 20), (decide (g 21 1 > 1), bad 21),
   (decide (g 22 2 > 64), bad 22), (decide (g 24 4 > 512), bad 24), (decide (g 28 4 = 0 || g 28 4 > 600000), bad 28)]

/-- The failure that lies lowest in a structure. -/
def lowestValue (l : List (Bool × Verdict)) : Option Verdict :=
  l.foldl (fun b e => if !e.1 then b else match b with
    | some v => if e.2.value < v.value then some e.2 else b
    | none => some e.2) none

/-- What loading an applet is refused for once it has been read (19 R762); `good` is the outcome of the signature and
key checks of R758. -/
def appletFault (s : State) (n : Nat) (b : List Byte) (len : Nat) (good : Bool) : Option Verdict :=
  let code := fieldOf b 12 4
  let old := appletOf s n
  let used := ((List.range 8).filter (· ≠ n)).foldl (fun k m => k + (appletOf s m).codeLen) 0
  firstSome
    [lowestValue (headerFaults b len),
     failIf (!good || decide (fieldOf b 8 4 < (s.wd.fuses.floor.drop 5).headD 0)) (refuse 6 0xFF 0 (128 + code)),
     failIf (decide (used + code > 393216)) (bounds 0x20),
     failIf (decide (fieldOf b 22 2 > (freeSecureShelves s).length + old.shelves.length)) (refuse 7 0xFF 0 22),
     failIf (decide (fieldOf b 24 4 > (freeSecurePlots s).length + old.plots.length)) (refuse 7 0xFF 0 24)]

/-- The applet in a slot leaves it. -/
def emptyApplet (s : State) (n : Nat) : State :=
  let v := appletOf s n
  setApplet (zeroiseSecure s v.shelves v.plots) n {}

/-- The applet is placed (19 R762). -/
def placeApplet (s : State) (n : Nat) (b : List Byte) (addr len : Nat) : State :=
  let s := emptyApplet s n
  setApplet s n
    { state := .loaded, id := fieldOf b 6 2, version := fieldOf b 8 4, codeLen := fieldOf b 12 4,
      startMask := fieldOf b 16 4, touch := (fieldOf b 20 1).testBit 0, layer := (fieldOf b 20 1).testBit 1,
      limitMs := fieldOf b 28 4, digest := sha384 (b.take (128 + fieldOf b 12 4)), addr := addr, len := len,
      shelves := (freeSecureShelves s).take (fieldOf b 22 2), plots := (freeSecurePlots s).take (fieldOf b 24 4) }

/-- SECURE_APPLET_LOAD ends with the Warden's answer (19 R762). -/
def endAppletLoad (s : State) (f : Flight) (good : Bool) : State :=
  let n := dget f.desc 16 1
  let len := dget f.desc 32 4
  if (appletOf s n).state = .running then finishWith s f 7 0x10
  else if len = 0 then finishDone (emptyApplet s n) f
  else
    let b := flightData s f (dget f.desc 24 8) len
    match firstSome [dataFault f, appletFault s n b len good] with
    | some v => finish s f v
    | none => finishDone (placeApplet s n b (dget f.desc 24 8) len) f

def checkAppletStart (s : State) (c : Cmd) : Ruling :=
  let n := dget c.d 16 1
  let v := appletOf s n
  ruling
    ([wardenBar s] ++ recordChecks s c.t (dget c.d 24 8) 256 0x18
       [reserved [(16, 0, 8), (24, 0, 64), (32, 0, 256)] c.d, (decide (n > 7), badParam 0x10)] ++
     [failIf (decide (v.state ≠ .empty) && !v.startMask.testBit c.t) (notOwner 0x10),
      failIf (decide (v.state ≠ .loaded)) (badState 0x10)])
    (yes .av)

/-- The applet runs from a_k + 8,000 (19 R763). -/
def startAppletStart (s : State) (f : Flight) : State :=
  let n := dget f.desc 16 1
  let s := setApplet s n { appletOf s n with
    state := .running, client := f.src.fn, since := now s, start := some f.id, params := dbytes f.desc 32 32,
    resultAddr := dget f.desc 24 8 }
  await s f .warden

def modSecure (s : State) (f : SecureLayer → SecureLayer) : State :=
  s.modWd fun w => { w with layers := w.layers.map f }

/-- A secure layer begins its return: it leaves at the first latch at or after an instant plus the admission lead
(19 R770). -/
def leaveFrom (s : State) (at' : Nat) (p : SecureLayer → Bool) : State :=
  modSecure s fun l =>
    if p l && l.leaveAt.isNone then { l with leaveAt := some (at' + headLead s (slotOf s l.slot).head) } else l

/-- The end of a run (19 R763, R764): the START completes, the slot is LOADED again, and its secure memory is
zeroised. -/
def endApplet (s : State) (n : Nat) (v : Verdict) (leave : Bool := true) : State :=
  let a := appletOf s n
  if a.state ≠ .running then s else
  let s := match a.start.bind fun i => flightBy s (·.id == i) with | some f => finish s f v | none => s
  let s := setApplet s n { appletOf s n with state := .loaded, client := 0x1F, start := none }
  let s := zeroiseSecure s a.shelves a.plots
  if leave then leaveFrom s (now s) (fun l => l.applet == n) else s

/-- An applet ends of itself: its result and its exit code (19 R763). -/
def appletEnds (s : State) (n code : Nat) (result : List Byte) : State :=
  let a := appletOf s n
  if a.state ≠ .running then s else
  let s := hostWrite s a.resultAddr (padTo 256 result)
  endApplet s n { status := 0, value := code % 2 ^ 32, inst := some (now s) }

/-- LIMIT_MS has run out (19 R764). -/
def limitDue (s : State) (n : Nat) : Bool :=
  let a := appletOf s n
  decide (a.state = .running) && decide (now s ≥ a.since + a.limitMs * 400000)

def aborted (value : Nat) : Verdict := { status := 12, value := value }

def appletLimit (s : State) (n : Nat) : State := if limitDue s n then endApplet s n (aborted 1) else s

def checkAppletStop (s : State) (c : Cmd) : Ruling :=
  let n := dget c.d 16 1
  let v := appletOf s n
  ruling
    [wardenBar s, lowest [reserved [(16, 0, 8)] c.d, (decide (n > 7), badParam 0x10)],
     failIf (decide (v.state = .running) && decide (c.t ≠ 0) && decide (v.client ≠ c.t)) (notOwner 0x10)]
    (yes .av)

/-- SECURE_APPLET_STOP: at exactly a_k + 400,000 the applet ends, and DONE is written (07 R303, 19 R764). -/
def startAppletStop (s : State) (f : Flight) : State := await s f (.timed (f.admitted + 400000))

/-- A quiesce of the client ends its applets (19 R764). -/
def endClientApplets (s : State) (t : Nat) : State :=
  (List.range 8).foldl (fun s n => if (appletOf s n).client = t then endApplet s n (aborted 3) else s) s

/-! ### Secure layers (19 R766 to R770) -/

/-- The secure layer's source: an RGBA8888 buffer (19 R767). -/
def secureState (st : LayerState) : LayerState := { st with format := 0x01, ltc := false }

/-- The secure staging ring of a layer is placed in the lowest secure shelves that are free (19 R767). -/
def placeSecureRing (s : State) (sl n : Nat) : State :=
  let old := (ringOfSlot s sl 0x1D).shelves
  let s := setRing s { slot := sl, owner := 0x1D, shelves := [] }
  let sh := (freeSecureShelves s).take n
  zeroiseSecure (setRing s { slot := sl, owner := 0x1D, shelves := sh }) (old.filter fun i => !sh.contains i) []

/-- The secure shelves that the attaches already admitted will need. -/
def secureAwaited (s : State) : Nat :=
  (s.flights.filter fun f => f.op == 0xE4 && accepted f && dget f.desc 18 1 == 0).foldl (fun n f =>
    let v := slotOf s (auxSlot f)
    n + (match (headOf s v.head).cfg with | some c => ringShelves s c (stagerOf s v.head).lead (secureState v.cur) | none => 0)) 0

/-- Whether another enabled layer lies above a layer and overlaps it. -/
def coveredAbove (s : State) (h sl : Nat) : Bool :=
  match (headOf s h).cfg with
  | none => false
  | some c =>
    let me := (slotOf s sl).cur
    (boundTo s h).any fun i => decide (i ≠ sl) && (slotOf s i).cur.enable && !(slotOf s i).moving &&
      decide ((slotOf s i).cur.z > me.z) && overlap c (slotOf s i).cur me

def checkSecureLayer (s : State) (c : Cmd) : Ruling :=
  let d := c.d
  let n := dget d 16 1
  let a := appletOf s n
  let slot := slotNo s c.t (dget d 17 1)
  let sl := slot.getD 128
  let v := slotOf s sl
  let st := v.cur
  let h := v.head
  let k := (headOf s h).cfg.getD {}
  let fb := dget d 24 8
  let attach := decide (dget d 18 1 = 0)
  let mine := (s.wd.layers.filter fun l => l.applet == n).length +
    (s.flights.filter fun f => f.op == 0xE4 && accepted f && waitsLatch f h && dget f.desc 18 1 == 0 && dget f.desc 16 1 == n).length
  let need := ringShelves s k (stagerOf s h).lead (secureState st)
  let unfit := !st.enable || v.secure || v.moving || takesScaler st || st.ltc || !([1, 2, 4, 5].contains st.format) ||
    decide (st.assay ≠ 0xFF) || (moveOf s sl).isSome ||
    (updatePending s sl fun f => decide (auxState f = 2) || waitsLatch f h) ||
    (s.flights.any fun f => f.op == 0xE4 && auxSlot f == sl && waitsLatch f h) || decide (mine ≥ 2)
  let at' := c.a + headLead s h
  ruling
    [wardenBar s,
     lowest [reserved [(16, 0, 24), (24, 0, 40)] d, (decide (n > 7), badParam 0x10), (decide (dget d 18 1 > 1), badParam 0x12)],
     failIf (decide (a.state ≠ .running) || decide (a.client ≠ c.t) || (attach && !a.layer)) (notOwner 0x10),
     failIf slot.isNone (notOwner 0x11),
     failIf (attach && decide (bits fb 30 10 ≠ 1023)) (badParam 0x18),
     failIf (attach && unfit) (badState 0x10),
     failIf (!attach && !(s.wd.layers.any fun l => l.slot == sl && l.applet == n && l.leaveAt.isNone)) (badState 0x11),
     failIf (attach && decide (need + secureAwaited s > (freeSecureShelves s).length)) (badState 0x11),
     failIf (attach && coveredAbove s h sl) (badState 0x30)]
    (yes .av none [sl, 2, 0, 0, 1, h, at'])

/-- The flight waits for its latch; a release sets when the layer leaves. -/
def startSecureLayer (s : State) (f : Flight) : State :=
  let at' := (f.aux.drop 6).headD 0
  let s := if dget f.desc 18 1 = 0 then s else
    modSecure s fun l => if l.slot = auxSlot f then { l with leaveAt := some at' } else l
  await s f (.latch (auxHead f) at')

/-- An attach takes effect at its latch (19 R767): its staging ring lies in secure shelves. -/
def attachLayer (s : State) (f : Flight) : State :=
  let sl := auxSlot f
  let v := slotOf s sl
  let n := dget f.desc 16 1
  match (headOf s v.head).cfg with
  | none => finishAborted s f
  | some k =>
    if (appletOf s n).state ≠ .running || !v.cur.enable then finishAborted s f else
    let need := ringShelves s k (stagerOf s v.head).lead (secureState v.cur)
    let s := placeSecureRing s sl need
    let s := modSlot s sl fun v => { v with secure := true }
    let l : SecureLayer := { slot := sl, applet := n, client := f.src.fn, fallback := dget f.desc 24 8 % 2 ^ 40 }
    finishDone (s.modWd fun w => { w with layers := w.layers ++ [l] }) f

/-- A secure layer returns to its client, in the state it had (19 R770). -/
def returnLayer (s : State) (sl : Nat) : State :=
  let sh := (s.sr.rings.filter fun r => r.owner == 0x1D && r.slot == sl).flatMap fun r => r.shelves
  let s := s.modSr fun r => { r with rings := r.rings.filter fun g => !(g.owner == 0x1D && g.slot == sl) }
  let s := zeroiseSecure s sh []
  let s := modSlot s sl fun v => { v with secure := false }
  s.modWd fun w => { w with layers := w.layers.filter fun l => l.slot ≠ sl }

/-- What a latch of a head does for its secure layers at an instant (19 R767, R770). -/
def latchSecure (s : State) (h : Nat) : State :=
  let due := fun (f : Flight) => f.op == 0xE4 && (match f.phase with | .latch g t => g == h && decide (now s ≥ t) | _ => false)
  let s := (s.wd.layers.filter fun l => decide ((slotOf s l.slot).head = h) &&
      (match l.leaveAt with | some t => decide (now s ≥ t) | none => false)).foldl (fun s l => returnLayer s l.slot) s
  (s.flights.filter due).foldl (fun s f =>
    if dget f.desc 18 1 = 0 then attachLayer s f else finishDone s f) s

/-- The first line after a restart replaces the secure layers of its head (19 R775). -/
def fallBack (s : State) (h : Nat) : State :=
  match s.wd.restarting with
  | none => s
  | some _ =>
    let hit := s.wd.layers.filter fun l => !l.fellBack && decide ((slotOf s l.slot).head = h)
    let s := hit.foldl (fun s l => raise s (srcSecure l.client) 0) s
    modSecure s fun l => if decide ((slotOf s l.slot).head = h) then { l with fellBack := true } else l

/-! ### Migration keys (19 R779 to R781) -/

def keyHeld (s : State) (id : Nat) : Bool := s.wd.keys.any fun k => k.id == id && !k.pendingOffer
def dropKey (s : State) (id : Nat) : State := s.modWd fun w => { w with keys := w.keys.filter fun k => k.id ≠ id }

def checkKeyOffer (s : State) (c : Cmd) : Ruling :=
  let asked := (s.flights.filter fun f => f.op == 0xE5 && accepted f).length
  ruling ([wardenBar s] ++ recordChecks s c.t (dget c.d 24 8) 512 0x18 [reserved [(24, 0, 64)] c.d] ++
    [failIf (decide (s.wd.keys.length + asked ≥ 4)) (badState 0x10)]) (yes .av)

def startKeyOffer (s : State) (f : Flight) : State := await s f .warden

/-- A key blob (19 R779) with the writer's own fields: EPHEMERAL and SIGNATURE come from the Warden. -/
def keyBlob (role id : Nat) (eph sig : List Byte) : List Byte :=
  leBytes 4 0x4B424D4B ++ leBytes 2 1 ++ leBytes 1 role ++ zeros 1 ++ leBytes 4 id ++ zeros 4 ++
  leBytes 8 Config.deviceId.toNat ++ zeros 8 ++ padTo 96 eph ++ attestKey ++ padTo 96 sig ++ zeros 192

/-- The offer is written; its KEY_ID is the first word the Warden drew, fresh and not zero (19 R779). The answer carries
that word, the ephemeral key and the signature. -/
def endKeyOffer (s : State) (f : Flight) (body : List Byte) : State :=
  let id := fieldOf body 0 4
  if id = 0 || (s.wd.keys.any fun k => k.id == id) then s else
  let s := hostWrite s (dget f.desc 24 8) (keyBlob 0 id ((body.drop 4).take 96) ((body.drop 100).take 96))
  finishDone (s.modWd fun w => { w with keys := w.keys ++ [{ id := id, pendingOffer := true }] }) f id

def checkKeyAccept (s : State) (c : Cmd) : Ruling :=
  let full := decide (s.wd.keys.length ≥ 4) && !(s.wd.keys.any fun k => k.pendingOffer)
  ruling
    [wardenBar s,
     lowest [reserved [(24, 0, 128)] c.d, (decide (dget c.d 24 8 % 64 ≠ 0), badParam 0x18),
       (decide (dget c.d 32 8 % 64 ≠ 0), badParam 0x20)],
     failIf (!inApertures s c.t (dget c.d 24 8) 512) (bounds 0x18),
     failIf full (badState 0x10)]
    (yes .av)

def startKeyAccept (s : State) (f : Flight) : State := await s f .data

/-- The faults of a blob; an answer must name the pending offer (19 R780). -/
def blobFaults (s : State) (b : List Byte) (good : Bool) : List (Bool × Verdict) :=
  let g := fun (o n : Nat) => fieldOf b o n
  let bad := fun (o : Nat) => refuse 6 0xFF 0 o
  let role := g 6 1
  [(decide (g 0 4 ≠ 0x4B424D4B), bad 0), (decide (g 4 2 ≠ 1), bad 4), (decide (role > 1), bad 6), (decide (g 7 1 ≠ 0), bad 7),
   (decide (g 8 4 = 0) || (decide (role = 1) && !(s.wd.keys.any fun k => k.pendingOffer && k.id == g 8 4)), bad 8),
   (decide (g 12 4 ≠ 0), bad 12), (decide (g 24 8 ≠ 0), bad 24), (!good, bad 224),
   (((b.drop 320).take 192).any (fun x => decide (x ≠ 0)), bad 320)]

/-- MIGRATION_KEY_ACCEPT ends with the Warden's answer: on the source the pending offer becomes a key, on the target a
key is derived and the answer written (19 R779). -/
def endKeyAccept (s : State) (f : Flight) (good : Bool) (body : List Byte) : State :=
  let b := flightData s f (dget f.desc 24 8) 512
  let id := fieldOf b 8 4
  match firstSome [dataFault f, lowestValue (blobFaults s b good)] with
  | some v => finish s f v
  | none =>
    if fieldOf b 6 1 = 1 then
      finishDone (s.modWd fun w => { w with keys := w.keys.map fun k => if k.id = id then { k with pendingOffer := false } else k }) f
    else if s.wd.keys.length ≥ 4 then finishWith s f 7 0x10
    else if s.wd.keys.any fun k => k.id == id then finish s f (refuse 6 0xFF 0 8)
    else if !inApertures s 0 (dget f.desc 32 8) 512 then finishWith s f 4 0x20
    else
      let s := hostWrite s (dget f.desc 32 8) (keyBlob 1 id (body.take 96) ((body.drop 96).take 96))
      finishDone (s.modWd fun w => { w with keys := w.keys ++ [{ id := id, pendingOffer := false }] }) f

def checkKeyDestroy (s : State) (c : Cmd) : Ruling :=
  ruling [wardenBar s, lowest [reserved [(16, 0, 32)] c.d]] (yes .av)

def startKeyDestroy (s : State) (f : Flight) : State := await s f .warden
def endKeyDestroy (s : State) (f : Flight) : State := finishDone (dropKey s (dget f.desc 16 4)) f

/-! ### Restart (19 R773 to R778) -/

def wardenOp (op : Nat) : Bool := decide (0xE0 ≤ op) && decide (op ≤ 0xE7)

/-- The secure contacts held are dropped (13 R595, 19 R774). -/
def dropSecureContacts (s : State) : State :=
  s.modTouch fun t => { t with
    secure := [],
    ports := t.ports.map fun e => (e.1, { e.2 with
      contacts := e.2.contacts.map fun c => if c.dest = 0x1D then { c with dropped := true } else c }) }

/-- The restart instant (19 R774, R776). -/
def restartWarden (s : State) : State :=
  let s := (List.range 8).foldl (fun s n => endApplet s n (refuse 13 0x32 0 36) false) s
  let s := (s.flights.filter fun f => wardenOp f.op).foldl (fun s f => withdraw s f (refuse 13 0x32 0 36)) s
  let s := dropSecureContacts s
  let s := s.modWd fun w => { w with keys := [], restarting := some (now s), lastRestart := some (now s), lastBeat := now s, prepared := none, debugOpen := false }
  let s := zeroiseSecure s ((List.range s.sr.wm).filter fun n => decide (16 ≤ n)) (List.range s.dram.wm)
  assert (raise s srcWarden 0) 36 0

/-- No heartbeat for HB_TIMEOUT (19 R773). -/
def beatLost (s : State) : Bool :=
  s.wd.restarting.isNone && !s.wd.dead && decide (now s ≥ s.wd.lastBeat + s.wd.hbTimeout)

/-- The Warden restarts itself (19 R773); one that is restarting, or whose firmware failed, does not again. -/
def selfRestart (s : State) : State :=
  if s.pw.state ≠ .run || s.wd.restarting.isSome || s.wd.dead then s else restartWarden s

def heartbeat (s : State) : State :=
  if s.wd.restarting.isSome || s.wd.dead then s
  else s.modWd fun w => { w with beats := (w.beats + 1) % 2 ^ 32, lastBeat := now s }

/-- One LOADED applet is read again from T0's host memory, within its apertures (01 R26), and verified, or emptied
(19 R777). -/
def reloadApplet (applets : List (Nat × Bool)) (s : State) (n : Nat) : State :=
  let a := appletOf s n
  if a.state = .empty then s else
  let b := hostRead s a.addr a.len
  let ok := match applets.find? fun e => e.1 == n with
    | some e => inApertures s 0 a.addr a.len && (appletFault s n b a.len e.2).isNone
    | none => false
  if ok then placeApplet s n b a.addr a.len else raise (emptyApplet s n) srcWarden 3

/-- Service resumes, or the firmware has failed (19 R777, R778). -/
def resumeWarden (s : State) (good : Bool) (applets : List (Nat × Bool)) : State :=
  if s.wd.restarting.isNone then s
  else if !good then
    assert (raise (s.modWd fun w => { w with restarting := none, dead := true }) srcWarden 2) 37 0
  else
    let s := (List.range 8).foldl (reloadApplet applets) s
    let s := s.modWd fun w => { w with
      restarting := none, restarts := w.restarts + 1, lastBeat := now s, blocks := w.blocks.filter fun m => m.kind == 1 }
    leaveFrom (raise s srcWarden 1) (now s) fun _ => true

/-! ### Leases (19 R771) -/

/-- Whether the Warden leases head h's telltale plane, or the head with its port (19 R771). -/
def headLeased (s : State) (h : Nat) : Bool :=
  ((List.range 64).any fun n => (tget {} s.au.sprites (64 * h + n) : Sprite).enable) ||
  (s.wd.layers.any fun l => decide ((slotOf s l.slot).head = h))

def pipeLeased (s : State) (p : Nat) : Bool :=
  s.wd.layers.any fun l => match (headOf s (slotOf s l.slot).head).cfg with | some c => decide (c.pipe = p) | none => false

def touchLeased (s : State) (p : Nat) : Bool :=
  s.wd.layers.any fun l => (appletOf s l.applet).touch && decide ((portOf s p).head = (slotOf s l.slot).head)

end Sys2Proof.Machine
end

