-- ==== Sys2Proof/Machine/AssayOps.lean ====
section
/-! DEFINITION. Output integrity (10): the assay units, the shadow pipe, the telltale planes, and the checks and effects
of the assay commands. -/

namespace Sys2Proof.Machine

def assayOf (s : State) (u : Nat) : Assay := tget {} s.au.units u
def setAssay (s : State) (u : Nat) (v : Assay) : State := s.modAu fun a => { a with units := tset {} a.units u v }
def modAssay (s : State) (u : Nat) (f : Assay → Assay) : State := setAssay s u (f (assayOf s u))

/-- The physical unit that is local unit n of a tenancy. -/
def assayNo (s : State) (t n : Nat) : Option Nat :=
  leastBelow 48 fun u => decide ((assayOf s u).owner = t) && decide ((assayOf s u).loc = n)

/-! ### Source lines as a reader of the buffers sees them -/

/-- Bits per pixel of a plane's own lines, and where line m of it begins in a layer's local device range (08 R349). -/
def planeBits (st : LayerState) (second : Bool) : Nat := if second then (planeBpp st.format).2 else (planeBpp st.format).1
def planeBase (st : LayerState) (second : Bool) (m : Nat) : Nat :=
  st.addr + (if second then st.plane2 else 0) + m * (st.pitch64 * 64)

/-- The stored bytes of line m of a plane in a layer's buffer, as system requests read them, and those of them in poisoned
words (02 R70, 08 R349). -/
def storedLine (s : State) (t : Nat) (st : LayerState) (second : Bool) (m : Nat) : List Byte × List Nat :=
  let l := bulkBytes s 0x1E t (planeBase st second m) (storedBytes st (planeBits st second))
  (l.map (·.1), (List.range l.length).filter fun i => ((l.drop i).headD (0, false)).2)

/-- One line of a plane as it is held in a ring (08 R349, R351), with those of its bytes that are poisoned. -/
def heldLine (st : LayerState) (second : Bool) (bs : List Byte) (bad : List Nat) : StagedLine :=
  let (out, m, p) := decodeLine st.ltc (planeLine st (planeBits st second)) bs bad
  { stored := if st.ltc then bs else [], bytes := out, poison := p, ltcBad := m }

/-! ### The shadow pipe's landing ring (10 R470) -/

/-- The landing ring: shelves 736 to 739 of bay 46. -/
def landingBase : Nat := 736 * 2 ^ 18
def landingLen : Nat := 4 * 2 ^ 18

/-- A line of plane 1, or of plane 2 (from 2^17 on), that landed for a unit in a frame. -/
def landKey (frame u slot key : Nat) : Nat := ((frame * 64 + u) * 128 + slot) * 2 ^ 18 + key
def planeKey (second : Bool) (m : Nat) : Nat := if second then 2 ^ 17 + m else m

/-- A line passes from a layer's buffer into the landing ring, in a system turn of group 0; what its beats hold is counted. In
which order lines fill the ring is the model's choice (log entry 33). -/
def landLine (frame u i : Nat) (second : Bool) (s : State) (m : Nat) : State :=
  let v := slotOf s i
  let key := landKey frame u i (planeKey second m)
  if s.au.landed.any fun e => e.1 == key then s else
  let (bs, bad) := storedLine s v.owner v.cur second m
  let n := roundup64 bs.length
  let o := if s.au.landAt + n > landingLen then 0 else s.au.landAt
  let s := countBulk (noteBulk (noteMoved s 0) 0x1E v.owner (planeBase v.cur second m) bs.length) 0x1E bs.length false
  let s := s.modSr fun r => { r with words := twipe r.words ((landingBase + o) / 8) (n / 8) }
  let s := (bad.map fun b => (b / 8)).eraseDups.foldl (fun s w => setSrWord s (landingBase + o + 8 * w) .poisoned) s
  s.modAu fun a => { a with landed := tset {} a.landed key { bytes := bs, place := o }, landAt := (o + n) % landingLen }

/-- The stored bytes of a landed line that lie in poisoned words of the ring. -/
def landedBad (s : State) (l : Landed) : List Nat :=
  (List.range l.bytes.length).filter fun b => badWord (srWord s (landingBase + l.place + b))

/-- A line as the shadow pipe reads it from the landing ring. -/
def landedLine (s : State) (frame u i : Nat) (second : Bool) (m : Nat) : StagedLine :=
  let l := tget ({} : Landed) s.au.landed (landKey frame u i (planeKey second m))
  heldLine (slotOf s i).cur second l.bytes (landedBad s l)

/-- What the shadow pipe reads of a slot for a unit; a secure layer's content is not held by the model beyond its staging ring. -/
def shadowLines (s : State) (frame u slot : Nat) : Lines :=
  if (slotOf s slot).secure then linesOf s slot else
  { plane1 := fun y => (landedLine s frame u slot false y).bytes, poison1 := fun y => (landedLine s frame u slot false y).poison,
    plane2 := fun y => (landedLine s frame u slot true y).bytes, poison2 := fun y => (landedLine s frame u slot true y).poison }

/-- The pipe reads a landed line through port 24, in a system turn of group 6 (03 R98, R131, R132). -/
def readLanded (frame u i : Nat) (second : Bool) (s : State) (m : Nat) : State :=
  let l := tget ({} : Landed) s.au.landed (landKey frame u i (planeKey second m))
  noteRead s 6 (landingBase + l.place) l.bytes.length

/-! ### Check values (10 R457 to R461) -/

def preamble (u : Nat) (v : Assay) (tag seq : Nat) : List Byte :=
  leBytes 1 u ++ leBytes 1 v.region ++ leBytes 2 tag ++ leBytes 4 seq

/-- The check register after a preamble. -/
def seedOf (u : Nat) (v : Assay) (tag seq : Nat) : Nat :=
  crcFeed (crcAlgo v.algo) (crcAlgo v.algo).init (preamble u v tag seq)

/-- raw(P followed by n zero bytes) (10 R461). -/
def rawFold (v : Assay) (p : List Byte) (n : Nat) : Nat :=
  let a := crcAlgo v.algo
  crcZeros a n (crcFeed a 0 p)

/-- A pixel as the word fed into the check (10 R455). -/
def pixelWord (p : Nat) : List Byte := leBytes 4 p

def rectOf (v : Assay) : Rect :=
  let x : Int := v.xy % 65536
  let y : Int := v.xy / 65536
  { x0 := x, y0 := y, x1 := x + (v.wh % 65536 : Nat), y1 := y + (v.wh / 65536 : Nat) }

def isHeadUnit (v : Assay) : Bool := decide (v.snoop ≤ 1)

/-- The enabled units that snoop a head. -/
def headUnits (s : State) (h : Nat) : List Nat :=
  (List.range 48).filter fun u =>
    let v := assayOf s u
    decide (v.owner ≠ 0x1F) && v.enable && isHeadUnit v && decide (v.target = h)

/-! ### Comparison (10 R462 to R465) -/

/-- Another tenancy's content in a guest's region (10 R464). -/
def occluded (s : State) (h : Nat) (v : Assay) : Bool :=
  match (headOf s h).cfg with
  | none => false
  | some c => decide (v.owner ≠ 0) && ((boundTo s h).any fun i =>
      let sl := slotOf s i
      sl.cur.enable && !sl.moving && (sl.secure || decide (sl.owner ≠ v.owner)) && (clipped c sl.cur).meets (rectOf v))

/-- A comparison ends in a result (10 R463, R465): `data` is the actual value when every byte was seen, `expect` the
expected one where there is one, `seq` its sequence number and `next` that of the next comparison. -/
def conclude (s : State) (u : Nat) (hidden whole : Bool) (actual : Nat) (expect : Option Nat) (seq next : Nat) : State :=
  let v := assayOf s u
  let res :=
    if hidden then 5 else if !whole then 3 else if v.expect = 0 || (v.expect = 1 && !v.hasBase) then 0
    else match expect with
      | none => 4
      | some e => if actual = e then 1 else 2
  let fail := decide (res ≥ 2)
  let up := fun (n : Nat) => min 0xFFFFFFFF (n + 1)
  let s := setAssay s u { v with
    result := res, lastSeq := seq, seq := next, actual := if hidden then 0 else actual, expected := expect.getD 0,
    compares := up v.compares, fails := if fail then up v.fails else v.fails,
    firstFail := if fail && v.fails = 0 then seq else v.firstFail, seen := 0, missed := false, poisoned := false,
    acc := 0, shadow := 0, compareAt := none }
  if !fail then s else
  let s := raise s (srcAssay u) 0
  if v.c1 then assert s 26 (partyBit v.owner) else s

/-- The expected value of a unit over n bytes of data (10 R461): a tenancy's base folded, or the shadow pipe's. -/
def expectOf (u : Nat) (v : Assay) (tag seq n : Nat) : Option Nat :=
  if v.expect = 1 then (if v.hasBase then some (v.base ^^^ rawFold v (preamble u v tag seq) n) else none)
  else if v.expect = 2 then (if v.poisoned then none else some (v.shadow ^^^ (crcAlgo v.algo).xorOut))
  else none

/-- The layers that meet a unit's region on line y of a head and are fetched for it (10 R470, R472). -/
def regionLayers (s : State) (h : Nat) (c : HeadCfg) (v : Assay) (y : Nat) : List Nat :=
  (byZ s h).filter fun i =>
    let r := clipped c (slotOf s i).cur
    !(slotOf s i).secure && !isSolid (slotOf s i).cur.format && r.meets (rectOf v) && decide (r.y0 ≤ (y : Int)) && decide ((y : Int) < r.y1)

/-- Whether a row of a unit's rectangle is line y of its head. -/
def rowIn (v : Assay) (y : Nat) : Bool := decide ((rectOf v).y0 ≤ (y : Int)) && decide ((y : Int) < (rectOf v).y1)

/-- The source lines that line y of a head needs land for the head's units that `sees` holds of (10 R470, R471). -/
def landRow (s : State) (h y : Nat) (sees : Assay → Bool) : State :=
  match (headOf s h).cfg with
  | none => s
  | some c =>
    let frame := (headOf s h).frame
    ((headUnits s h).filter fun u => decide ((assayOf s u).expect = 2) && rowIn (assayOf s u) y && sees (assayOf s u)).foldl (fun s u =>
      (regionLayers s h c (assayOf s u) y).foldl (fun s i =>
        let st := (slotOf s i).cur
        (sourceLines st y).foldl (fun s j => (chromaLines st j).foldl (landLine frame u i true) (landLine frame u i false s j)) s) s) s

/-- The pipe reads the landed lines that line y needs and the line before it did not. -/
def readRow (s : State) (h : Nat) (c : HeadCfg) (frame u y : Nat) : State :=
  let v := assayOf s u
  (regionLayers s h c v y).foldl (fun s i =>
    let st := (slotOf s i).cur
    let seen := fun (j : Nat) => decide ((rectOf v).y0 < (y : Int)) && decide ((clipped c st).y0 < (y : Int)) && (sourceLines st (y - 1)).contains j
    ((sourceLines st y).filter fun j => !seen j).foldl (fun s j =>
      (chromaLines st j).foldl (readLanded frame u i true) (readLanded frame u i false s j)) s) s

/-- What landed for a unit is gone: that of a frame whose comparison is made, or all of it where it is configured anew. -/
def forgetFrame (s : State) (u frame : Nat) : State :=
  s.modAu fun a => { a with landed := a.landed.filter fun e => decide (e.1 / 2 ^ 25 ≠ frame * 64 + u) }

def forgetLanded (s : State) (u : Nat) : State :=
  s.modAu fun a => { a with landed := a.landed.filter fun e => decide (e.1 / 2 ^ 25 % 64 ≠ u) }

/-- Line y of a head, as its pipe and its telltale plane emit it, is fed to those of the head's units that `sees` holds
of (10 R455, R471), the shadow pipe reading through port 24 (03 R98); `frame` is the number that travels with the data. -/
def feedLine (s : State) (h y frame : Nat) (plain drawn : List Nat) (sees : Assay → Bool) : State :=
  match (headOf s h).cfg with
  | none => s
  | some c =>
    ((headUnits s h).filter fun u => sees (assayOf s u)).foldl (fun s u =>
      let v := assayOf s u
      if !rowIn v y || decide (v.since > (headOf s h).l0) then s else
      let w := v.wh % 65536
      let row := ((if v.snoop = 0 then plain else drawn).drop (v.xy % 65536)).take w
      let a := crcAlgo v.algo
      let first := decide (v.seen = 0)
      let acc := if first then seedOf u v h frame else v.acc
      let acc := crcFeed a acc (row.flatMap pixelWord)
      if v.expect ≠ 2 then setAssay s u { v with acc := acc, seen := v.seen + 1 }
      else
        let xs := (List.range w).map (v.xy % 65536 + ·)
        let now' := (headOf s h).frame
        let mine := xs.map fun x => headPixel s (shadowLines s now' u) h c x y
        let bad := xs.any fun x => (byZ s h).any fun i =>
          (clipped c (slotOf s i).cur).contains x y && slotPoisoned s (shadowLines s now' u) i x y
        let sh := if first then seedOf u v v.target now' else v.shadow
        setAssay (readRow (noteMoved s 6) h c now' u y) u { v with
          acc := acc, seen := v.seen + 1, shadow := crcFeed a sh (mine.flatMap pixelWord), poisoned := v.poisoned || bad }) s

/-- The comparison of a frame, or of a push, on a head (10 R462): for units configured before it began. -/
def compareHead (s : State) (h : Nat) : State :=
  let hd := headOf s h
  (headUnits s h).foldl (fun s u =>
    let v := assayOf s u
    if v.since > hd.l0 then s else
    let s := forgetFrame s u hd.frame
    let n := v.wh / 65536
    let away := match s.wd.lastRestart with | some t => decide (t ≥ hd.l0) && decide (v.expect = 2) | none => false
    let v := { v with poisoned := v.poisoned || away }
    let bytes := 4 * (v.wh % 65536) * n
    conclude (setAssay s u v) u (occluded s h v) (decide (v.seen = n) && !v.missed) (v.acc ^^^ (crcAlgo v.algo).xorOut)
      (expectOf u v v.target hd.frame bytes) hd.frame ((hd.frame + 1) % 2 ^ 32)) s

/-- What a DMA channel wrote in a transfer, or none where it was aborted or halted for good (10 R455, R462): folded for the
transfers that started after the configuration took effect (R484); the others only count (log 156). -/
def foldDma (s : State) (k : Nat) (data : Option (List Byte)) (f : Flight) : State :=
  ((List.range 48).filter fun u =>
    let v := assayOf s u
    decide (v.owner ≠ 0x1F) && v.enable && decide (v.snoop = 2) && decide (v.target = k)).foldl
    (fun s u =>
      let v := assayOf s u
      if v.begun.contains f.id then (if data.isSome then setAssay s u { v with seq := (v.seq + 1) % 2 ^ 32 } else s) else
      let tag := if (chanOf s k).owner = v.owner then (chanOf s k).loc else 0xFFFF
      match data with
      | none => conclude s u false false 0 (expectOf u v v.tag v.seq 0) v.seq v.seq
      | some bs =>
        let a := crcAlgo v.algo
        conclude s u false true (crcFeed a (seedOf u v tag v.seq) bs ^^^ a.xorOut) (expectOf u v v.tag v.seq bs.length)
          v.seq ((v.seq + 1) % 2 ^ 32)) s

/-- One piece of a beat written into a unit's window (10 R456). -/
def windowPiece (u : Nat) (s : State) (p : Nat × List Byte) : State :=
  let v := assayOf s u
  match leastBelow 1024 fun i => decide (shelfOf s v.owner i = some (p.1 / 2 ^ 18)) with
  | none => s
  | some i =>
    let loc := i * 2 ^ 18 + p.1 % 2 ^ 18
    if loc < v.xy || loc ≥ v.xy + v.wh then s else
    let o := loc - v.xy
    let a := crcAlgo v.algo
    if o = v.seen then
      let acc := crcFeed a (if o = 0 then seedOf u v 0 v.seq else v.acc) p.2
      let n := o + p.2.length
      if n ≥ v.wh then conclude s u false true (acc ^^^ a.xorOut) (expectOf u v 0 v.seq v.wh) v.seq ((v.seq + 1) % 2 ^ 32)
      else setAssay s u { v with acc := acc, seen := n }
    else if v.seen = 0 then s
    else conclude s u false false 0 (expectOf u v 0 v.seq v.wh) v.seq v.seq

/-- The beats of a write at a physical Stockroom address. -/
def beatPieces (a : Nat) (bs : List Byte) : List (Nat × List Byte) :=
  (segments 6 a bs.length).map fun g => (g.1, (bs.drop (g.1 - a)).take g.2)

/-- A write into the Stockroom is fed to the SR_WRITE units (10 R455, R456). -/
def feedWrite (s : State) (a : Nat) (bs : List Byte) : State :=
  ((List.range 48).filter fun u =>
    let v := assayOf s u
    decide (v.owner ≠ 0x1F) && v.enable && decide (v.snoop = 4)).foldl (fun s u => (beatPieces a bs).foldl (windowPiece u) s) s

/-- An admitted change of an audio unit takes effect at the start of its block (10 R467; log entry 28). -/
def audioAssayDue (_s : State) (f : Flight) (u n : Nat) : Bool :=
  (f.op == 0x51 || f.op == 0x52 || f.op == 0x53) && decide (f.phase = .unit) && decide ((f.aux.drop 5).headD 0xFFFF = u) &&
    decide ((f.aux.drop 2).headD 0 ≤ n)

/-- A sample of a sink, of number n, is fed to its units (10 R455). -/
def feedAudio (s : State) (k n : Nat) : State :=
  let out := (unitOf s k).out.flatMap fun x => leBytes 4 (unsint 32 x)
  ((List.range 48).filter fun u =>
    let v := assayOf s u
    decide (v.owner ≠ 0x1F) && v.enable && decide (v.snoop = 3) && decide (v.target = k)).foldl (fun s u =>
      let v := assayOf s u
      let len := max 1 (v.wh % 65536)
      let acc := if n % len = 0 then seedOf u v k (n / len % 2 ^ 32) else v.acc
      let seen := if n % len = 0 then 1 else v.seen + 1
      let last := decide (n % len + 1 = len)
      setAssay s u { v with acc := crcFeed (crcAlgo v.algo) acc out, seen := seen, seq := n / len % 2 ^ 32,
                            compareAt := if last && decide (v.since ≤ now s) then some (now s + 2000) else v.compareAt,
                            missed := if n % len = 0 then false else v.missed }) s

/-- The comparison of an audio block, 2,000 ticks after its last sample (10 R462). -/
def compareAudio (s : State) (k : Nat) : State :=
  ((List.range 48).filter fun u =>
    let v := assayOf s u
    decide (v.owner ≠ 0x1F) && v.enable && decide (v.snoop = 3) && decide (v.target = k) &&
      (match v.compareAt with | some t => decide (now s ≥ t) | none => false)).foldl (fun s u =>
        let v := assayOf s u
        let len := v.wh % 65536
        let chans := sinkChannels (unitOf s k) k
        conclude s u false (decide (v.seen = len)) (v.acc ^^^ (crcAlgo v.algo).xorOut)
          (expectOf u v k v.seq (4 * chans * len)) v.seq ((v.seq + 1) % 2 ^ 32)) s

def audioCompareDue (s : State) (k : Nat) : Bool :=
  s.au.units.any fun e => e.2.enable && decide (e.2.snoop = 3) && decide (e.2.target = k) &&
    (match e.2.compareAt with | some t => decide (now s ≥ t) | none => false)

/-! ### Telltales (10 R474 to R479) -/

def spriteOf (s : State) (h n : Nat) : Sprite := tget {} s.au.sprites (64 * h + n)
def spriteStride (v : Sprite) : Nat := roundup64 (ceilDiv (v.wM1 + 1) 2)
def spriteBytes (v : Sprite) : Nat := spriteStride v * v.hM1 + ceilDiv (v.wM1 + 1) 2
def spriteBase (v : Sprite) : Nat := v.image / 64 * 64

def spritePoisoned (s : State) (v : Sprite) : Bool :=
  !shelvesOpen s 0x1D (spriteBase v) (spriteBytes v) || (wordsOf (spriteBase v) (spriteBytes v)).any fun a => badWord (srWord s a)

/-- The plane reads a sprite's image through port 27, which is in group 6 and always secure's (03 R101, R131, R132): what lies in
a free shelf moves nothing and fires SR_ACCESS (R104, R107). -/
def readSprite (s : State) (v : Sprite) : State :=
  (segments 18 (spriteBase v) (spriteBytes v)).foldl (fun s g =>
    if shelvesOpen s 0x1D g.1 g.2 then noteRead s 6 g.1 g.2 else srAccessFault s 0x1D) s

/-- Enabling a sprite checks its image (10 R477). -/
def spriteCheck (s : State) (v : Sprite) : Bool :=
  !spritePoisoned s v && decide (crc32c (Mem.rds s.sr.mem (spriteBase v) (spriteBytes v)) = v.crc)

def ttFault (s : State) : State := assert (raise s srcTelltale 0) 27 0

/-- A sprite's registers are written; one that is enabled is checked (10 R477). -/
def setSprite (s : State) (h n : Nat) (v : Sprite) : State :=
  let old := spriteOf s h n
  let fresh := v.enable && !(old.enable && { old with good := false, clear := false } == { v with good := false, clear := false })
  let ok := if fresh then spriteCheck s v else old.good
  let s := if fresh then readSprite s v else s
  let s := s.modAu fun a => { a with sprites := tset {} a.sprites (64 * h + n) { v with good := v.enable && ok, clear := false } }
  if fresh && !ok then ttFault s else s

def setPalette (s : State) (h i v : Nat) : State :=
  s.modAu fun a => { a with palette := tset 0 a.palette (16 * h + i) (v % 2 ^ 30) }

/-- Sprite and palette writes take effect at line 0 of the next frame, or at the next push slot (10 R476); a sprite
with a poisoned image is clear in that frame (R477). -/
def showTelltales (s : State) (h : Nat) : State :=
  let s := (List.range 64).foldl (fun s n =>
    let v := spriteOf s h n
    let on := v.enable && v.good
    let bad := on && spritePoisoned s v
    let s := if on then readSprite s v else s
    let s := s.modAu fun a => { a with shown := tset {} a.shown (64 * h + n) (if on then { v with clear := bad } else {}) }
    if bad then ttFault s else s) s
  (List.range 16).foldl (fun s i =>
    s.modAu fun a => { a with shownPalette := tset 0 a.shownPalette (16 * h + i) (tget 0 a.palette (16 * h + i)) }) s

/-- The index of a sprite at an output pixel; 0 where it does not cover it. -/
def spriteIndex (s : State) (v : Sprite) (x y : Nat) : Nat :=
  if !v.enable || v.clear || x < v.x || x > v.x + v.wM1 || y < v.y || y > v.y + v.hM1 then 0 else
  let b := (Mem.rd s.sr.mem (spriteBase v + (y - v.y) * spriteStride v + (x - v.x) / 2)).toNat
  if (x - v.x) % 2 = 0 then b / 16 else b % 16

/-- A pixel after the telltale plane (10 R475). -/
def overTelltale (s : State) (h depth x y p : Nat) : Nat :=
  match (List.range 64).reverse.find? fun n => decide (spriteIndex s (tget {} s.au.shown (64 * h + n)) x y ≠ 0) with
  | none => p
  | some n =>
    let e := tget 0 s.au.shownPalette (16 * h + spriteIndex s (tget {} s.au.shown (64 * h + n)) x y)
    let k := 2 ^ (10 - depth)
    bits e 0 10 / k + 2 ^ 10 * (bits e 10 10 / k) + 2 ^ 20 * (bits e 20 10 / k)

/-- A line after the telltale plane (10 R478). -/
def drawLine (s : State) (h : Nat) (c : HeadCfg) (y : Nat) (l : List Nat) : List Nat :=
  if (List.range 64).all fun n => !(tget ({} : Sprite) s.au.shown (64 * h + n)).enable then l
  else l.zipIdx.map fun e => overTelltale s h c.depth e.2 y e.1

/-! ### Commands (10 R482 to R487) -/

/-- The transfers of a channel that have been served a turn: those that have started. -/
def begunTransfers (s : State) (k : Nat) : List Nat :=
  ((xfersOf s k).filter fun f => decide (f.turns7 + f.turns8 + f.turns9 ≠ 0)).map fun f => f.id

/-- A unit as the admitted changes that wait for their latch or block leave it (07 R306). -/
def configured (s : State) (d : Descriptor) (target : Nat) (t : Nat) (v : Assay) : Assay :=
  if !dbit d 18 3 then (if v.expect = 2 then { v with enable := false, expect := 0, c1 := false } else { v with enable := false }) else
  { v with
    enable := true, c1 := decide (classOf d = 1), expect := b2n (dbit d 18 2), algo := dbits d 18 0 2, snoop := dbits d 17 0 3,
    region := dget d 19 1, target := target, tag := if dbits d 17 0 3 = 4 then 0 else dget d 24 2,
    xy := dget d 28 4, wh := if dbits d 17 0 3 = 3 then dget d 28 2 else dget d 32 4,
    base := 0, hasBase := false, actual := 0, expected := 0, result := 0, lastSeq := 0, compares := 0, fails := 0,
    firstFail := 0, seq := if dbits d 17 0 3 ≤ 1 then ((headOf s target).frame + 1) % 2 ^ 32 else 0, since := t, acc := 0,
    begun := if dbits d 17 0 3 = 2 then begunTransfers s target else [],
    seen := 0, missed := false, poisoned := false, shadow := 0, compareAt := none }

def unitChange (f : Flight) (u : Nat) : Bool :=
  (f.op == 0x51 || f.op == 0x52 || f.op == 0x53 || f.op == 0x55) && accepted f && f.aux.headD 64 == u

/-- A unit after one admitted change, where that is a change of it. -/
def changedUnit (s : State) (u : Nat) (v : Assay) (f : Flight) : Assay :=
  if !unitChange f u then v
  else if f.op = 0x51 then configured s f.desc (auxHead f) 0 v
  else if f.op = 0x55 then
    (if dbit f.desc 17 0 then { v with expect := 2, c1 := true } else { v with expect := 0, c1 := false })
  else if f.op = 0x53 then { v with enable := false }
  else v

def plannedUnit (s : State) (u : Nat) : Assay := s.flights.foldl (changedUnit s u) (assayOf s u)

def checkAssayAlloc (s : State) (c : Cmd) : Ruling :=
  let mine := ((List.range 48).filter fun u => decide ((assayOf s u).owner = c.t)).length
  ruling [lowest [reserved [] c.d], failIf (decide (mine ≥ (tenOf s c.t).grants.assayUnits)) (capacity 0x2A)] (yes .f)

def startAssayAlloc (s : State) (f : Flight) : State :=
  let t := f.src.fn
  let loc := freshLocal (((List.range 48).filter fun u => decide ((assayOf s u).owner = t)).map fun u => (assayOf s u).loc)
  match leastBelow 48 fun u => decide ((assayOf s u).owner = 0x1F) with
  | none => finishWith s f 3 0x2A
  | some u =>
    let s := setAssay s u { owner := t, loc := loc }
    finishDone (renewSource s (srcAssay u)) f loc

/-- The READ_MASK of every bus bound to a sink admits a guest (15 R637). -/
def sinkReadable (s : State) (t k : Nat) : Bool :=
  t == 0 || ((busesOn s k).all fun b => (busOf s b).read.testBit t)

/-- The block an audio change asks for, as a sample number, and its instant. -/
def blockWant (s : State) (c : Cmd) (k len : Nat) (early : Bool) (block : Nat) : Nat × Nat :=
  let lead := c.a + 80000
  let n := if early || classOf c.d = 3 then (firstSample s k lead + len - 1) / max 1 len * len else block * len
  (n, sampleTick s k n)

def blockLate (s : State) (c : Cmd) (k len : Nat) (want : Nat × Nat) : Option Verdict :=
  failIf (decide (classOf c.d ≠ 3) && (decide (want.2 < c.a + 80000) || decide (want.1 < (unitOf s k).count)))
    { status := 11, reason := 1, inst := some (blockWant s c k len true 0).2 }

def layoutAssayConfig : List (Nat × Nat × Nat) :=
  [(16, 0, 8), (17, 0, 3), (18, 0, 5), (19, 0, 40), (24, 0, 16), (28, 0, 64)]

/-- ASSAY_CONFIG (10 R483, R484; 09 R869). -/
def checkAssayConfig (s : State) (c : Cmd) : Ruling :=
  let d := c.d
  let un := assayNo s c.t (dget d 16 1)
  let u := un.getD 48
  let sn := dbits d 17 0 3
  let head := decide (sn ≤ 1)
  let audio := decide (sn = 3)
  let dma := decide (sn = 2)
  let win := decide (sn = 4)
  let cls := classOf d
  let early := dbit d 18 4
  let frame := dget d 20 4
  let tgt := dget d 24 2
  let hd := headOf s tgt
  let k := hd.cfg.getD {}
  let off := head && (hd.cfg.isNone || decide (hd.state = .disabled))
  let ch := chanNo s c.t tgt
  let len := dget d 28 2
  let want := if head then latchWant s c tgt early frame else if audio then some (0, (blockWant s c tgt len early frame).2) else none
  let n := (want.map (·.1)).getD 0
  let bw := blockWant s c tgt len early frame
  ruling
    [failIf (decide (cls ≠ 3) && (dma || win)) (badParam 1),
     lowest [reserved layoutAssayConfig d, (decide (sn > 4), badParam 0x11),
       (decide (cls = 1) && (decide (dbits d 18 0 2 = 2) || !dbit d 18 2), badParam 0x12),
       ((decide (cls = 3) && early && !off), badParam 0x12),
       (if dma || win then decide (frame ≠ 0) else (early || (decide (cls = 3) && !off)) && decide (frame ≠ 0), badParam 0x14),
       (if head then decide (tgt > 11) else if audio then !isSink tgt else if win then decide (tgt ≠ 0) else false, badParam 0x18),
       (if head then decide (dget d 32 2 = 0) else false, badParam 0x20), (if head then decide (dget d 34 2 = 0) else false, badParam 0x22),
       (if audio then decide (len < 48 || len > 4800) else if win then decide (dget d 28 4 % 64 ≠ 0) else dma && decide (dget d 28 4 ≠ 0), badParam 0x1C),
       (audio && decide (dget d 30 2 ≠ 0), badParam 0x1E), ((audio || dma) && decide (dget d 32 4 ≠ 0), badParam 0x20),
       (win && (decide (dget d 32 4 % 64 ≠ 0) || decide (dget d 32 4 = 0 || dget d 32 4 > 16777216)), badParam 0x20)],
     failIf (head && hd.cfg.isSome && (decide (dget d 28 2 + dget d 32 2 > k.hActive) || decide (dget d 30 2 + dget d 34 2 > k.vActive))) (bounds 0x1C),
     failIf (win && !inShelves s c.t (dget d 28 4) (dget d 32 4)) (bounds 0x1C),
     failIf un.isNone (notOwner 0x10),
     failIf (head && !(tenOf s c.t).grants.heads.testBit tgt) (notOwner 0x18),
     failIf (dma && ch.isNone) (notOwner 0x18),
     failIf (audio && !sinkReadable s c.t tgt) (notOwner 0x18),
     if head then latchFence s tgt c want else fenceCheck s c (want.map (·.2)),
     failIf (off && (decide (cls ≠ 3) || early || decide (frame ≠ 0))) (badState 0x18),
     failIf (audio && !(unitOf s tgt).enable) (badState 0x18),
     if off || !head || cls = 3 then none else leadCheck s tgt c.a want,
     if audio then blockLate s c tgt len bw else none]
    (if head && !off then yes .af (if cls = 3 then none else want.map (·.2)) [u, if cls = 3 then 0 else 1, frameNo s tgt n, 0, 1, tgt]
     else if audio then yes .af (if cls = 3 then none else some bw.2) [u, 1, bw.1, 0, 1, tgt]
     else yes .af none [u, 2, 0, 0, 1, if dma then ch.getD 64 else tgt])

/-- ASSAY_EXPECT (10 R461, R484; 09 R869). -/
def checkAssayExpect (s : State) (c : Cmd) : Ruling :=
  let d := c.d
  let un := assayNo s c.t (dget d 16 1)
  let u := un.getD 48
  let v := plannedUnit s u
  let head := isHeadUnit v
  let audio := decide (v.snoop = 3)
  let cls := classOf d
  let early := dbit d 17 0
  let frame := dget d 20 4
  let tgt := v.target
  let hd := headOf s tgt
  let off := head && (hd.cfg.isNone || decide (hd.state = .disabled))
  let len := v.wh % 65536
  let want := if head then latchWant s c tgt early frame else if audio then some (0, (blockWant s c tgt len early frame).2) else none
  let n := (want.map (·.1)).getD 0
  let bw := blockWant s c tgt len early frame
  ruling
    [failIf (un.isSome && decide (cls ≠ 3) && !head && !audio) (badParam 1),
     lowest [reserved [(16, 0, 8), (17, 0, 1), (20, 0, 32), (24, 0, 64)] d, (decide (cls = 3) && early && !off, badParam 0x11),
       (if !head && !audio then decide (frame ≠ 0) else (early || (decide (cls = 3) && !off)) && decide (frame ≠ 0), badParam 0x14),
       (un.isSome && decide (dget d 24 8 ≥ 2 ^ (crcAlgo v.algo).width), badParam 0x18)],
     failIf un.isNone (notOwner 0x10),
     if head then latchFence s tgt c want else fenceCheck s c (want.map (·.2)),
     failIf (decide (v.expect ≠ 1)) (badState 0x10),
     failIf (off && (decide (cls ≠ 3) || early || decide (frame ≠ 0))) (badState 0x10),
     if off || !head || cls = 3 then none else leadCheck s tgt c.a want,
     if audio then blockLate s c tgt len bw else none]
    (if head && !off then yes .af (if cls = 3 then none else want.map (·.2)) [u, if cls = 3 then 0 else 1, frameNo s tgt n, 0, 1, tgt]
     else if audio then yes .af (if cls = 3 then none else some bw.2) [u, 1, bw.1, 0, 1, tgt]
     else yes .af none [u, 2, 0, 0, 1, tgt])

/-- The shadow fetch charge of a region (10 R472). -/
def shadowFetch (s : State) (h : Nat) (v : Assay) : Nat :=
  match (headOf s h).cfg with
  | none => 0
  | some c =>
    let r := rectOf v
    let bytes := (boundTo s h).foldl (fun n i =>
      let st := (slotOf s i).cur
      if !st.enable || isSolid st.format || !(clipped c st).meets r then n else
      let rows := (List.range (v.wh / 65536)).map (v.xy / 65536 + ·)
      let hit := rows.filter fun (y : Nat) => decide (st.dstY ≤ (y : Int)) && decide ((y : Int) < st.dstY + st.dstH)
      n + ((hit.flatMap (sourceLines st)).eraseDups).length * lineBytes st) 0
    let lead := (stagerOf s h).lead
    ceilDiv (perEpoch s c bytes * c.vTotal * lead) (c.vActive * (lead - 80712))

/-- Whether a slot of a head in a new state raises the fetch charge of a shadow region above what is committed for an epoch
(08 R386, 10 R472). -/
def shadowRise (s : State) (h sl : Nat) (st : LayerState) (e : Nat) : Bool :=
  let s' := modSlot s sl fun v => { v with cur := st }
  (List.range 48).any fun u =>
    let v := plannedUnit s u
    let held := (s.charges.filter fun c => c.kind == kRegion && c.object == u && c.resource == 0x04 && decide (c.fromEpoch ≤ e) &&
      (match c.toEpoch with | some l => decide (e ≤ l) | none => true)).foldl (fun n c => max n c.amount) 0
    v.enable && decide (v.expect = 2) && decide (v.snoop = 0) && decide (v.target = h) &&
      decide (shadowFetch s' h v > max held (shadowFetch s h v))

/-- The charges of a unit bound to the shadow pipe (10 R485, 04 R190). -/
def regionCharges (s : State) (t u : Nat) (v : Assay) (e : Nat) : List Charge :=
  match (headOf s v.target).cfg with
  | none => []
  | some k => [chargeFrom t 0x04 0 (shadowFetch s v.target v) (e) kRegion (u), chargeFrom t 0x0C 0 (1) (e) kRegion (u),
      chargeFrom t 0x0C 1 (perEpoch s k ((v.wh % 65536) * (v.wh / 65536))) (e) kRegion (u)]

/-- SHADOW_REGION (10 R485). -/
def checkShadowRegion (s : State) (c : Cmd) : Ruling :=
  let d := c.d
  let un := assayNo s c.t (dget d 16 1)
  let u := un.getD 48
  let v := plannedUnit s u
  let h := v.target
  let hd := headOf s h
  let early := dbit d 17 1
  let on := dbit d 17 0
  let want := latchWant s c h early (dget d 20 4)
  let n := (want.map (·.1)).getD 0
  let at' := (want.map (·.2)).getD c.a
  let e := epochOfTick s at'
  let s' := { s with charges := placeCharges s.charges c.t kRegion u at' e (regionCharges s c.t u v e) }
  let px := match hd.cfg with | some k => perEpoch s k ((v.wh % 65536) * (v.wh / 65536)) | none => 0
  ruling
    [lowest [reserved [(16, 0, 8), (17, 0, 2), (20, 0, 32)] d, (early && decide (dget d 20 4 ≠ 0), badParam 0x14)],
     failIf un.isNone (notOwner 0x10),
     latchFence s h c want,
     failIf (decide (v.snoop ≠ 0) || decide (v.algo = 2) || !v.enable) (badState 0x10),
     failIf (hd.cfg.isNone || decide (hd.state = .disabled)) (badState 0x10),
     leadCheck s h c.a want,
     if on then firstSome (placedChecks s' c.t e [(0x04, 0, shadowFetch s h v), (0x0C, 0, 1), (0x0C, 1, px)]) else none]
    (yes .af (some at') [u, 1, frameNo s h n, 0, 1, h])

/-- The charges an admitted SHADOW_REGION commits (10 R485). -/
def commitShadowRegion (s : State) (f : Flight) : State :=
  let u := f.aux.headD 48
  let v := plannedUnit s u
  let at' := f.promised.getD (now s)
  let e := epochOfTick s at'
  let new := if dbit f.desc 17 0 then regionCharges s f.src.fn u { v with target := auxHead f } e else []
  s.modCharges fun cs => placeCharges cs f.src.fn kRegion u at' e new

/-- When an admitted ASSAY_CONFIG or ASSAY_FREE takes effect (10 R484, R486). -/
def assayInstant (s : State) (f : Flight) : Nat :=
  match f.promised with
  | some t => t
  | none =>
    let h := auxHead f
    if (f.aux.drop 1).headD 2 = 0 then ((requestedLatch s h f.admitted true 0).map (·.2)).getD (f.admitted + headLead s h)
    else if (f.aux.drop 1).headD 2 = 1 then sampleTick s h ((f.aux.drop 2).headD 0)
    else f.admitted + 8000

/-- A configuration or release of a unit with shadow charges ends them (10 R484; 04 R174): they count through the epoch of the
instant at which it takes effect. A SHADOW_REGION admitted for a later instant keeps its own. -/
def commitAssayEnd (s : State) (f : Flight) : State :=
  let u := f.aux.headD 48
  let at' := assayInstant s f
  if s.charges.any fun c => c.kind == kRegion && c.object == u then
    s.modCharges fun cs => placeCharges cs f.src.fn kRegion u at' (epochOfTick s at') []
  else s

/-- The unit stops being bound to the shadow pipe (10 R484). -/
def endBinding (s : State) (u : Nat) : State :=
  s.modCharges fun cs => endCharges cs kRegion u s.tl.epoch

/-- ASSAY_CONFIG, ASSAY_EXPECT, ASSAY_FREE and SHADOW_REGION take effect. -/
def applyAssay (s : State) (f : Flight) : State :=
  let d := f.desc
  let u := f.aux.headD 48
  if f.op = 0x51 then
    modAssay (forgetLanded s u) u (configured s d (auxHead f) (now s))
  else if f.op = 0x52 then modAssay s u fun v => { v with base := dget d 24 8, hasBase := true }
  else if f.op = 0x53 then renewSource (setAssay (endBinding s u) u {}) (srcAssay u)
  else if dbit d 17 0 then modAssay s u fun v => { v with expect := 2, c1 := true }
  else modAssay s u fun v => { v with expect := 0, c1 := false }

/-- After the first completion an assay change waits for its latch or its block, or takes effect at once. -/
def startAssay (s : State) (f : Flight) : State :=
  let u := f.aux.headD 48
  if (f.aux.drop 1).headD 2 = 2 then finishDone (applyAssay s f) f
  else if isHeadUnit (if f.op = 0x51 then configured s f.desc 0 0 {} else assayOf s u) || f.op = 0x55 then
    await s f (.latch (auxHead f) (f.promised.getD (f.admitted + headLead s (auxHead f))))
  else await s f .unit

/-- The audio changes whose block starts with sample n of a sink take effect (10 R467). -/
def applyAudioAssay (s : State) (k n : Nat) : State :=
  (s.flights.filter fun f => audioAssayDue s f k n).foldl (fun s f =>
    if s.hokusaSafe && !isPort k && f.promised.isSome then
      finish (missNote s f) f { status := 13, reason := 0x31, inst := f.promised }
    else finishDone (applyAssay s f) f) s

/-- ASSAY_FREE (10 R486; 09 R869). -/
def checkAssayFree (s : State) (c : Cmd) : Ruling :=
  let un := assayNo s c.t (dget c.d 16 1)
  let u := un.getD 48
  let v := plannedUnit s u
  let loc := dget c.d 16 1
  let used := (List.range 128).any fun i =>
    let sl := slotOf s i
    decide (sl.owner = c.t) && sl.cur.enable && decide (sl.cur.assay = loc)
  let pend := s.flights.any fun f => f.op == 0x31 && decide (f.src.fn = c.t) && decide (f.phase ≠ .first) &&
    (layerPayload f.desc).enable && decide ((layerPayload f.desc).assay = loc)
  let freed := s.flights.any fun f => f.op == 0x53 && unitChange f u
  let h := v.target
  let off := (headOf s h).cfg.isNone || decide ((headOf s h).state = .disabled)
  let n := latchAfter s h (c.a + headLead s h)
  let len := v.wh % 65536
  ruling
    [lowest [reserved [(16, 0, 8)] c.d], failIf un.isNone (notOwner 0x10), failIf (used || pend || freed) (badState 0x10)]
    (if !v.enable then yes .af none [u, 2, 0, 0, 1, 0]
     else if isHeadUnit v && !off then yes .af none [u, 0, frameNo s h n, 0, 1, h]
     else if v.snoop = 3 && (unitOf s h).enable then
       yes .af none [u, 1, (blockWant s { c with d := (3 : Descriptor) <<< 8 } h len false 0).1, 0, 1, h]
     else yes .af none [u, 2, 0, 0, 1, h])

/-- The assay record (10 R487). -/
def assayRecord (u : Nat) (v : Assay) : List Byte :=
  leBytes 1 v.loc ++ leBytes 1 u ++ leBytes 1 (v.snoop + 8 * v.algo + 32 * v.expect + 128 * b2n v.c1) ++ leBytes 1 v.result ++
  leBytes 4 v.lastSeq ++ leBytes 8 v.actual ++ leBytes 8 v.expected ++ leBytes 4 v.compares ++ leBytes 4 v.fails ++
  leBytes 4 v.firstFail ++ zeros 28

def checkAssayRead (s : State) (c : Cmd) : Ruling :=
  ruling (recordChecks s c.t (dget c.d 24 8) 64 0x18 [reserved [(16, 0, 8), (24, 0, 64)] c.d] ++
    [failIf (assayNo s c.t (dget c.d 16 1)).isNone (notOwner 0x10)]) (yes .f)

def startAssayRead (s : State) (f : Flight) : State :=
  match assayNo s f.src.fn (dget f.desc 16 1) with
  | some u => finishDone (hostWrite s (dget f.desc 24 8) (assayRecord u (assayOf s u))) f
  | none => finishDone s f

/-- Whether a local unit is configured on a head, by itself or by an admitted change (08 R387). -/
def assayOk (s : State) (t n h : Nat) : Bool :=
  match assayNo s t n with
  | none => false
  | some u => let v := plannedUnit s u; v.enable && isHeadUnit v && decide (v.target = h)

end Sys2Proof.Machine
end

