-- ==== Sys2Proof/Machine/EventOps.lean ====
section
/-! DEFINITION. Event delivery (18): source names, targets, claims and acknowledgement, and the checks and effects of the
EVENT commands. -/

namespace Sys2Proof.Machine

/-! ### Names (18 R734, 19 R787, 20 R804, 21 R836) -/

/-- A pooled object's source: the first physical source of its kind, its sources per object, and how local numbers are
found. -/
def pooled (base n : Nat) (phys : Option Nat) (b : Nat) : Option Nat := phys.map fun p => base + n * p + b

/-- The physical source a name stands for, when it fires for tenancy t. -/
def sourceOf (s : State) (t name : Nat) : Option Nat :=
  let k := name / 1024
  let i := name % 1024
  let t0 := fun (base n : Nat) => if t = 0 && i < n then some (base + i) else none
  let own := fun (base : Nat) => if i = 0 then some (base + t) else none
  if k = 0 then t0 0x000 5 else if k = 1 then t0 0x008 5 else if k = 2 then t0 0x010 7 else if k = 3 then t0 0x018 4
  else if k = 4 then t0 0x01C 1 else if k = 5 then t0 0x01D 1 else if k = 6 then t0 0x020 4 else if k = 7 then t0 0x040 60
  else if k = 8 then t0 0x080 48
  else if k = 9 then pooled 0x100 1 (chanNo s t i) 0
  else if k = 10 then pooled 0x140 2 (hapNo s t (i / 2)) (i % 2)
  else if k = 11 then pooled 0x180 1 (slotNo s t i) 0
  else if k = 12 then pooled 0x200 1 (assayNo s t i) 0
  else if k = 13 then pooled 0x230 1 (streamNo s t i) 0
  else if k = 14 then own 0x270 else if k = 15 then own 0x290
  else if k = 16 then pooled 0x300 1 (ctxNo s t i) 0
  else if k = 17 then t0 0x0B0 1 else if k = 18 then own 0x2B0 else if k = 19 then t0 0x0B1 1
  else if k = 20 then own 0x2D0 else if k = 21 then t0 0x0B2 1
  else none

/-- The tenancy a physical source fires for (18 R731), and its name; none for a reserved number or a free object. -/
def sourceName (s : State) (n : Nat) : Option (Nat × Nat) :=
  let t0 := fun (k base len : Nat) => if base ≤ n && n < base + len then some (0, 1024 * k + (n - base)) else none
  let obj := fun (k base len : Nat) (holder : Nat → Nat × Nat) (m : Nat) =>
    if base ≤ n && n < base + len * m then
      let h := holder ((n - base) / m)
      if h.1 ≤ 16 then some (h.1, 1024 * k + m * h.2 + (n - base) % m) else none
    else none
  let own := fun (k base : Nat) => if base ≤ n && n ≤ base + 16 then some (n - base, 1024 * k) else none
  firstSome
    [t0 0 0x000 5, t0 1 0x008 5, t0 2 0x010 7, t0 3 0x018 4, t0 4 0x01C 1, t0 5 0x01D 1, t0 6 0x020 4, t0 7 0x040 60,
     t0 8 0x080 48, t0 17 0x0B0 1, t0 19 0x0B1 1, t0 21 0x0B2 1,
     obj 9 0x100 64 (fun c => ((tget {} s.dma.chans c : DmaChan).owner, (tget {} s.dma.chans c : DmaChan).loc)) 1,
     obj 10 0x140 16 (fun c => ((hapOf s c).owner, (hapOf s c).loc)) 2,
     obj 11 0x180 128 (fun c => ((slotOf s c).owner, (slotOf s c).loc)) 1,
     obj 12 0x200 48 (fun c => ((assayOf s c).owner, (assayOf s c).loc)) 1,
     obj 13 0x230 64 (fun c => ((tget {} s.audio.streams c : AudioStream).owner, (tget {} s.audio.streams c : AudioStream).loc)) 1,
     own 14 0x270, own 15 0x290, own 18 0x2B0, own 20 0x2D0,
     obj 16 0x300 256 (fun c => ((tget {} s.gpu.contexts c : Context).owner, (tget {} s.gpu.contexts c : Context).loc)) 1]

/-- Every source that serves a tenancy. -/
def sourcesFor (s : State) (t : Nat) : List Nat :=
  (List.range 1024).filter fun n => match sourceName s n with | some (o, _) => o == t | none => false

/-- The local ring a source targets (18 R736); none while its tenancy is ABSENT. -/
def targetOf (s : State) (t n : Nat) : Option Nat :=
  if (tenOf s t).state = .absent then none else
  match (evSrc s n).target with
  | .follows => some (tenOf s t).defaultRing
  | .ring r => some r
  | .fields on p => if on && decide ((evRing s p).owner = t) then some (evRing s p).loc else none

/-! ### Claims (18 R738) -/

/-- Whether 32 FABRIC cycles, three of which make a tick, have passed since a ring's last claim (18 R738). -/
def claimPaced (s : State) (e : EvRing) : Bool := match e.claimAt with | some t => decide (3 * (now s - t) ≥ 32) | none => true

/-- Whether an event ring can take a record. -/
def ringReady (s : State) (p : Nat) : Bool :=
  let e := evRing s p
  e.enable && claimPaced s e && decide (e.owner ≤ 16) && decide (e.records.length < 2 ^ e.sizeLog2) && !s.ev.gdis.testBit e.owner &&
    (canWrite s e.owner || heldRoom s 16)

/-- Whether source n asks for physical ring p (18, "Claim and acknowledgement"). -/
def eligibleFor (s : State) (p n : Nat) : Bool :=
  let v := evSrc s n
  let e := evRing s p
  requests v && !v.mask && !v.inService &&
    (match sourceName s n with | some (t, _) => t == e.owner && targetOf s t n == some e.loc | none => false)

/-- The source a ring claims next: the eligible one of the lowest physical number. -/
def claimable (s : State) (p : Nat) : Option Nat :=
  if !ringReady s p then none
  else (s.ev.src.find? fun e => eligibleFor s p e.1).map (·.1)

/-- An event record (18), its PHASE still zero. -/
def eventRecord (s : State) (name cause : Nat) (soft : Bool) : List Byte :=
  let (e, o) := instantOfTick s (now s)
  leBytes 2 name ++ leBytes 1 (2 * b2n (decide (cause ≠ 0)) + 4 * b2n soft) ++ zeros 1 ++ leBytes 2 cause ++ zeros 2 ++
  leBytes 4 e ++ leBytes 4 o

/-- A ring claims a source and issues its record (18 R738). -/
def claimEvent (s : State) (p : Nat) : State :=
  match claimable s p with
  | none => s
  | some n =>
    let v := evSrc s n
    let e := evRing s p
    let name := match sourceName s n with | some (_, x) => x | none => 0
    let (ep, o) := instantOfTick s (now s)
    let rec' := eventRecord s name v.cause v.soft
    let s := setEvSrc s n { v with inService := true, soft := false, lastEpoch := ep, lastTick := o }
    let s := setEvRing s p { e with records := e.records ++ [(n, v.cause, v.soft)], claimAt := some (now s) }
    issueRecord s e.owner { isCompletion := false, ring := e.loc, bytes := rec' }

/-- One record is acknowledged (18 R741). -/
def ackRecord (s : State) (r : Nat × Nat × Bool) : State :=
  let v := evSrc s r.1
  if r.1 ≥ 1024 then s else
  setEvSrc s r.1 { clearCauses s v r.2.1 with inService := false }

/-- A record of a ring that is being disabled goes out of service (18 R742). -/
def dropRecord (s : State) (r : Nat × Nat × Bool) : State :=
  let v := evSrc s r.1
  if r.1 ≥ 1024 then s else
  setEvSrc s r.1 { v with inService := false, soft := v.soft || r.2.2 }

/-- An event ring is disabled (18 R742). -/
def disableEvRing (s : State) (p : Nat) : State :=
  let e := evRing s p
  let s := e.records.foldl dropRecord s
  let s := modFn s e.owner fun f => { f with held := f.held.filter fun h => h.isCompletion || h.addr.isSome || h.ring ≠ e.loc }
  setEvRing s p { enable := false, owner := e.owner, loc := e.loc }

/-! ### Commands -/

/-- EVENT_RING_CONFIG (18 R749, 06 R260, R261). -/
def checkEventRingConfig (s : State) (c : Cmd) : Ruling :=
  let d := c.d
  let on := dbit d 18 0
  let k := dbits d 19 0 5
  let base := dget d 24 8
  let p := evRingOf s c.t (dget d 16 2)
  let e := evRing s (p.getD 256)
  ruling
    [lowest [reserved [(16, 0, 16), (18, 0, 1), (19, 0, 5), (20, 0, 8), (22, 0, 16), (24, 0, 64)] d,
       (if on then decide (k < 4 || k > 16) else decide (k ≠ 0), badParam 0x13),
       (if on then decide (base % 64 ≠ 0) else decide (base ≠ 0), badParam 0x18)],
     failIf (on && !inApertures s c.t base (16 * 2 ^ k)) (bounds 0x18),
     failIf (p.isSome && on && e.enable && (decide (e.base ≠ base) || decide (e.sizeLog2 ≠ k))) (badState 0x10),
     failIf p.isNone (capacity 0x21)]
    (yes .f)

def startEventRingConfig (s : State) (f : Flight) : State :=
  let d := f.desc
  match evRingOf s f.src.fn (dget d 16 2) with
  | none => finishDone s f
  | some p =>
    let e := evRing s p
    if !dbit d 18 0 then finishDone (if e.enable then disableEvRing s p else s) f
    else
      let e := { e with modCount := max 1 (dget d 20 1), modTime := dget d 22 2 }
      let e := if e.enable then e
        else { e with enable := true, base := dget d 24 8, sizeLog2 := dbits d 19 0 5, head := 0, tail := 0, sig := {}, records := [] }
      finishDone (setEvRing s p e) f

/-- EVENT_TARGET (18 R750). -/
def checkEventTarget (s : State) (c : Cmd) : Ruling :=
  let d := c.d
  let t := dget d 16 1
  let dflt := dbit d 17 0
  let name := dget d 18 2
  ruling
    [lowest [reserved [(16, 0, 8), (17, 0, 1), (18, 0, 32)] d, (decide (t > 16), badParam 0x10),
       (if dflt then decide (name ≠ 0) else (sourceOf s t name).isNone, badParam 0x12),
       ((evRingOf s t (dget d 20 2)).isNone, badParam 0x14)]]
    (yes .f)

def startEventTarget (s : State) (f : Flight) : State :=
  let d := f.desc
  let t := dget d 16 1
  if dbit d 17 0 then finishDone (modTen s t fun v => { v with defaultRing := dget d 20 2 }) f
  else match sourceOf s t (dget d 18 2) with
    | some n => finishDone (setEvSrc s n { evSrc s n with target := .ring (dget d 20 2) }) f
    | none => finishDone s f

/-- EVENT_MASK (18 R744, R747). -/
def checkEventMask (s : State) (c : Cmd) : Ruling :=
  let d := c.d
  let all := dbit d 18 1
  ruling
    [lowest [reserved [(16, 0, 16), (18, 0, 2)] d, (all && decide (dget d 16 2 ≠ 0), badParam 0x10)],
     failIf (!all && (sourceOf s c.t (dget d 16 2)).isNone) (notOwner 0x10)]
    (yes .f)

def startEventMask (s : State) (f : Flight) : State :=
  let d := f.desc
  let set := fun (s : State) (n : Nat) => setEvSrc s n { evSrc s n with mask := dbit d 18 0 }
  if dbit d 18 1 then finishDone ((sourcesFor s f.src.fn).foldl set s) f
  else match sourceOf s f.src.fn (dget d 16 2) with
    | some n => finishDone (set s n) f
    | none => finishDone s f

/-- EVENT_PEND_SET (18 R746). -/
def checkEventPendSet (s : State) (c : Cmd) : Ruling :=
  let d := c.d
  ruling
    [lowest [reserved [(16, 0, 16), (18, 0, 8)] d, (decide (dget d 18 1 > 1), badParam 0x12)],
     failIf (sourceOf s c.t (dget d 16 2)).isNone (notOwner 0x10)]
    (yes .f)

def startEventPendSet (s : State) (f : Flight) : State :=
  match sourceOf s f.src.fn (dget f.desc 16 2) with
  | none => finishDone s f
  | some n =>
    let v := evSrc s n
    finishDone (setEvSrc s n (if dget f.desc 18 1 = 0 then { v with soft := true } else { clearCauses s v 0xFFFF with soft := false })) f

/-- EVENT_GLOBAL_DISABLE (18 R748). -/
def checkEventGlobalDisable (_s : State) (c : Cmd) : Ruling :=
  ruling [lowest [reserved [(16, 0, 1)] c.d]] (yes .f)

def startEventGlobalDisable (s : State) (f : Flight) : State :=
  finishDone (s.modEv fun e => { e with gdis := if dbit f.desc 16 0 then setBit e.gdis f.src.fn else clrBit e.gdis f.src.fn }) f

/-- EVENT_STATUS (18 R751). -/
def checkEventStatus (s : State) (c : Cmd) : Ruling :=
  ruling (recordChecks s c.t (dget c.d 24 8) 64 0x18 [reserved [(16, 0, 16), (24, 0, 64)] c.d] ++
    [failIf (sourceOf s c.t (dget c.d 16 2)).isNone (notOwner 0x10)]) (yes .f)

/-- The event status record. -/
def statusRecord (s : State) (t name n : Nat) : List Byte :=
  let v := evSrc s n
  let r := targetOf s t n
  leBytes 2 name ++ leBytes 1 (b2n (requests v) + 2 * b2n v.soft + 4 * b2n v.inService + 8 * b2n v.mask +
    16 * b2n (s.ev.gdis.testBit t) + 32 * b2n r.isSome) ++ zeros 1 ++ leBytes 2 v.cause ++ leBytes 2 (r.getD 0) ++
  leBytes 4 v.lastEpoch ++ leBytes 4 v.lastTick ++ zeros 48

def startEventStatus (s : State) (f : Flight) : State :=
  match sourceOf s f.src.fn (dget f.desc 16 2) with
  | some n => finishDone (hostWrite s (dget f.desc 24 8) (statusRecord s f.src.fn (dget f.desc 16 2) n)) f
  | none => finishDone s f

/-! ### Registers -/

def evRingReg (s : State) (n : Nat) : Nat := (evRing s n).loc + 256 * (evRing s n).owner + 2 ^ 31 * b2n (evRing s n).enable

/-- TARGETED and RING of EV_SRC[n]: as last written, or else whether the source has a target and its physical ring. -/
def evTargetFields (s : State) (n : Nat) : Bool × Nat :=
  match (evSrc s n).target with
  | .fields on p => (on, p)
  | _ =>
    match (match sourceName s n with | some (t, _) => (targetOf s t n).map fun r => (t, r) | none => none) with
    | some (t, r) => (true, (evRingOf s t r).getD 0)
    | none => (false, 0)

/-- EV_SRC[n]. -/
def evSrcReg (s : State) (n : Nat) : Nat :=
  let v := evSrc s n
  let t := evTargetFields s n
  v.cause + 65536 * t.2 + 2 ^ 24 * b2n t.1 + 2 ^ 28 * b2n v.mask + 2 ^ 29 * b2n v.inService + 2 ^ 30 * b2n v.soft +
    2 ^ 31 * b2n (requests v)

end Sys2Proof.Machine
end

