-- ==== Sys2Proof/Machine/ContactOps.lean ====
section
/-! DEFINITION. Touch contacts (13): blobs and centroids, identities, keys, attribution to the frame on glass, reports,
and the checks and effects of TOUCH_CALIBRATION, TOUCH_KEYS and TOUCH_REPORT_RING. -/

namespace Sys2Proof.Machine

/-! ### Blobs (13 R575 to R578) -/

def absDiff (a b : Nat) : Nat := (a - b) + (b - a)

def neighbours (v : TouchPort) (a b : Nat) : Bool :=
  decide (absDiff (nodeT v a) (nodeT v b) ≤ 1) && decide (absDiff (nodeR v a) (nodeR v b) ≤ 1)

/-- A blob grown by what touches it, and the nodes left. -/
def growBlob (v : TouchPort) : Nat → List Nat → List Nat → List Nat × List Nat
  | 0, blob, rest => (blob, rest)
  | k + 1, blob, rest =>
    let near := rest.filter fun n => blob.any fun m => neighbours v m n
    if near.isEmpty then (blob, rest) else growBlob v k (blob ++ near) (rest.filter fun n => !near.contains n)

def splitBlobs (v : TouchPort) : Nat → List Nat → List (List Nat)
  | 0, _ => []
  | _, [] => []
  | k + 1, n :: rest => let (b, r) := growBlob v (rest.length + 1) [n] rest; b :: splitBlobs v k r

/-- A blob: its nodes, its peak node, centroid and size. -/
structure Blob where
  nodes : List Nat
  peak : Nat
  u : Nat
  v : Nat
  deriving DecidableEq, Repr

def deltaAt (ds : List Int) (n : Nat) : Int := (ds.drop n).headD 0

/-- The node with the largest delta, the lowest index first (13 R577). -/
def peakNode (ds : List Int) (l : List Nat) : Nat :=
  l.foldl (fun b n => if deltaAt ds n > deltaAt ds b || (deltaAt ds n = deltaAt ds b && n < b) then n else b) (l.headD 0)

/-- A blob with its centroid (13 R578). -/
def blobOf (v : TouchPort) (ds : List Int) (l : List Nat) : Blob :=
  let w := fun (n : Nat) => (deltaAt ds n - v.blob + 1).toNat
  let sw := l.foldl (fun a n => a + w n) 0
  let mean := fun (pos : Nat → Nat) => (256 * l.foldl (fun a n => a + pos n * w n) 0 + sw / 2) / max 1 sw
  { nodes := l, peak := peakNode ds l, u := mean (nodeR v), v := mean (nodeT v) }

/-- The blobs of a scan, in ascending order of peak node. -/
def blobsOf (v : TouchPort) (ds : List Int) : List Blob :=
  if !v.calibrated then [] else
  let active := (nodesOf v).filter fun n => !nodeFault v n && decide (deltaAt ds n ≥ v.blob)
  sortBy ((splitBlobs v (active.length + 1) active).map (blobOf v ds)) fun a b => decide (a.peak ≤ b.peak)

/-! ### Position and attribution (13 R587 to R592) -/

/-- Head pixel of a panel position (13 R587). -/
def positionOf (v : TouchPort) (u w : Nat) : Int × Int :=
  let k := fun (i : Nat) => (v.matrix.drop i).headD 0
  let wrap := fun (x : Int) => sint 64 (unsint 64 x)
  (wrap (k 0 * u + k 1 * w + k 2) / 65536, wrap (k 3 * u + k 4 * w + k 5) / 65536)

/-- Whether line y of a kept frame, or the kept push, had started at a tick (13 R590): a line that an ABORT_RESTART skipped
never does. -/
def startedBy (s : State) (v : Head) (c : HeadCfg) (y t : Nat) (m : OwnerMap) : Bool :=
  let skipped := if m.frame = v.frame then v.skipped else m.skipped
  match m.start with
  | none => false
  | some l0 =>
    let line : Int := if c.kind ≠ .video then l0
      else if c.tracked then ((l0 + (m.frac + y * c.phase) / 65536 : Nat) : Int)
      else linearTick s (linearOf s m.sched + (((y : Int) - m.early) * frameTicks s c).fdiv c.vTotal)
    decide (line ≤ t) && decide (c.kind ≠ .video ∨ y + skipped < c.vActive)

/-- The map of the frame, or push, on glass at a line when a contact was sensed, where it is among those kept (13 R590, R591). -/
def mapOnGlass (s : State) (h y t : Nat) : Option OwnerMap :=
  let v := headOf s h
  v.maps.find? (startedBy s v (v.cfg.getD {}) y t)

/-- The owner of the content at a pixel in a frame's map (13 R591). -/
def ownerOnGlass (s : State) (h x y t : Nat) : Nat :=
  let v := headOf s h
  if h = 0x0F || v.state = .disabled then 0x1E else
  match mapOnGlass s h y t with
  | some m => (m.owners.drop (y / 64 * m.cols + x / 64)).headD 0x1E
  | none => 0x1E

/-- The party a contact goes to (13 R592). -/
def partyOf (s : State) (p owner : Nat) : Nat :=
  if owner = 0x1D then 0x1D
  else match leastBelow 17 fun t => (tenOf s t).grants.touchExcl.testBit p && decide ((tenOf s t).state ≠ .absent) with
    | some t => t
    | none => if owner ≤ 16 && ((tenOf s owner).grants.touchExcl ||| (tenOf s owner).grants.touchShr).testBit p then owner else 0

/-- The sensing instant of a node (13 R589). -/
def sensedAt (v : TouchPort) (c : Scan) (n : Nat) : Nat :=
  ((c.stamps.drop (1 + nodeT v n / max 1 c.cfg.conc)).headD (c.started, 0)).1

/-- Where a panel position lies on a port's head: x, y and whether it is outside (13 R588). -/
def placeOf (s : State) (v : TouchPort) (u w : Nat) : Nat × Nat × Bool :=
  match (headOf s v.head).cfg with
  | some c =>
    if v.head = 0x0F then (0, 0, false) else
    let (x, y) := positionOf v u w
    let out := decide (x < 0 || y < 0 || x ≥ c.hActive || y ≥ c.vActive)
    ((clampI 0 (c.hActive - 1) x).toNat, (clampI 0 (c.vActive - 1) y).toNat, out)
  | none => (0, 0, false)

/-- The party of a blob that touches down now (13 R588 to R592). -/
def blobParty (s : State) (p : Nat) (v : TouchPort) (c : Scan) (b : Blob) : Nat :=
  let (x, y, out) := placeOf s v b.u b.v
  partyOf s p (if out || v.head = 0x0F then 0x1E else ownerOnGlass s v.head x y (sensedAt v c b.peak))

/-! ### Identities (13 R579 to R581) -/

def sqDist (c : Contact) (b : Blob) : Nat := absDiff c.u b.u ^ 2 + absDiff c.v b.v ^ 2

/-- The matches of a scan: identity and blob position (13 R580). -/
def matchContacts (v : TouchPort) (cs : List Contact) (bs : List Blob) : List (Nat × Nat) :=
  let ps := cs.flatMap fun c => bs.zipIdx.filterMap fun b =>
    if sqDist c b.1 ≤ v.matchDist ^ 2 then some (sqDist c b.1, c.id, b.2) else none
  let ps := sortBy ps fun a b => decide (a.1 < b.1) || (decide (a.1 = b.1) && (decide (a.2.1 < b.2.1) ||
    (decide (a.2.1 = b.2.1) && decide (a.2.2 ≤ b.2.2))))
  ps.foldl (fun acc q => if acc.any fun m => m.1 == q.2.1 || m.2 == q.2.2 then acc else acc ++ [q.2]) []

/-- A contact on its blob, with the rest of R597. -/
def moveContact (s : State) (v : TouchPort) (ds : List Int) (c : Contact) (b : Blob) (st : Nat) : Contact :=
  let moved := decide (absDiff c.restU b.u > 256) || decide (absDiff c.restV b.v > 256) || decide (st = 1)
  let (x, y, out) := placeOf s v b.u b.v
  { c with u := b.u, v := b.v, state := st, x := x, y := y, outside := out, peak := (deltaAt ds b.peak).toNat, area := b.nodes.length,
           stale := c.stale && !moved, restU := if moved then b.u else c.restU, restV := if moved then b.v else c.restV,
           restAt := if moved then now s else c.restAt }

/-- A contact that touches down; one that goes to a tenancy held still is counted in its DROPPED (13 R594). -/
def touchDown (s : State) (p : Nat) (v : TouchPort) (c : Scan) (ds : List Int) (b : Blob) (id : Nat) : Contact :=
  let dest := blobParty s p v c b
  let t := (tenOf s dest).state
  moveContact s v ds
    { id := id, u := 0, v := 0, state := 1, present := c.first, stale := false, outside := false, x := 0, y := 0, peak := 0, area := 0,
      restU := 0, restV := 0, restAt := now s, dest := dest,
      dropped := decide (dest ≤ 16) && (decide (t = .quiesced) || decide (t = .frozen)) } b 1

/-- A contact whose tenancy is held still is discarded from now on (13 R594). -/
def stillContact (s : State) (c : Contact) : Bool :=
  decide (c.dest ≤ 16) && (decide ((tenOf s c.dest).state = .quiesced) || decide ((tenOf s c.dest).state = .frozen))

/-- The contacts and the untracked blobs after a scan (13 R580, R581, R585). -/
def trackScan (s : State) (p : Nat) (c : Scan) (ds : List Int) : State :=
  let v := portOf s p
  let hidden := fun (b : Blob) => v.keys.any fun k => decide (k.2.owner ≠ 0x1F) && k.2.suppress &&
    decide (k.2.tFirst ≤ nodeT v b.peak) && decide (nodeT v b.peak ≤ k.2.tLast) && decide (k.2.rFirst ≤ nodeR v b.peak) &&
    decide (nodeR v b.peak ≤ k.2.rLast)
  let bs := (blobsOf v ds).filter fun b => !hidden b
  let cs := v.contacts.filter fun k => decide (k.state ≠ 3)
  let ms := matchContacts v cs bs
  let kept := cs.map fun k => match ms.find? fun m => m.1 == k.id with
    | some m => (match (bs.drop m.2).head? with | some b => moveContact s v ds k b 2 | none => k)
    | none => { k with state := 3 }
  let lone := (bs.zipIdx.filter fun b => !(ms.any fun m => m.2 == b.2)).map (·.1)
  let freeIds := (List.range 16).filter fun i => !(cs.any fun k => k.id == i)
  let new := (lone.zip freeIds).map fun x => touchDown s p v c ds x.1 x.2
  let beyond := lone.drop freeIds.length
  let all := sortBy ((kept ++ new).map fun k => { k with dropped := k.dropped || stillContact s k }) fun a b => decide (a.id ≤ b.id)
  let count := fun (s : State) (k : Contact) =>
    let was := cs.any fun o => o.id == k.id && o.dropped
    if k.dropped && !was && k.dest ≤ 16 then modTen s k.dest fun t => { t with dropped := min 0xFFFFFFFF (t.dropped + 1) } else s
  let s := all.foldl count s
  let s := if beyond.isEmpty then s else raise s (srcTouchPort p 5) 0
  modPort s p fun v => { v with
    contacts := all,
    untracked := beyond.foldl (fun t b => tmod 0 t (blobParty s p v c b) fun n => min 255 (n + 1)) [] }

/-! ### Keys (13 R583 to R586) -/

def keySignal (v : TouchPort) (k : Key) (ds : List Int) : Int :=
  ((nodesOf v).filter fun n => !nodeFault v n && decide (k.tFirst ≤ nodeT v n) && decide (nodeT v n ≤ k.tLast) &&
    decide (k.rFirst ≤ nodeR v n) && decide (nodeR v n ≤ k.rLast)).foldl (fun (m : Option Int) n =>
      some (match m with | some x => max x (deltaAt ds n) | none => deltaAt ds n)) none |>.getD 0

/-- A key after one scan (13 R584). -/
def stepKey (k : Key) (sig : Int) : Key :=
  let toward := if k.pressed then decide (sig < (k.press : Int) - k.hyst) else decide (sig ≥ k.press)
  if !toward then { k with run := 0, changed := false }
  else if k.run + 1 ≥ k.debounce then { k with run := 0, changed := true, pressed := !k.pressed }
  else { k with run := k.run + 1, changed := false }

/-- The keys after a scan; those with haptics owe an effect at `at'` (13 R586). -/
def scanKeys (v : TouchPort) (ds : List Int) (at' : Nat) : TouchPort :=
  let keys := v.keys.map fun k => (k.1, if k.2.owner = 0x1F then k.2 else stepKey k.2 (keySignal v k.2 ds))
  let due := keys.filterMap fun k =>
    if !k.2.changed || k.2.owner = 0x1F then none
    else if k.2.pressed && k.2.onPress then some (k.2.haptic, k.2.pressEffect, at')
    else if !k.2.pressed && k.2.onRelease then some (k.2.haptic, k.2.releaseEffect, at') else none
  { v with keys := keys, keyDue := v.keyDue ++ due }

/-- A key's effect is due (13 R586, 14 R621). -/
def keyDue (s : State) (p : Nat) : Bool := (portOf s p).keyDue.any fun k => decide (k.2.2 ≤ now s)

def triggerKeys (s : State) (p : Nat) : State :=
  let due := (portOf s p).keyDue.filter fun k => decide (k.2.2 ≤ now s)
  let s := modPort s p fun v => { v with keyDue := v.keyDue.filter fun k => decide (now s < k.2.2) }
  due.foldl (fun s k => triggerEffect s k.1 k.2.1 0) s

/-! ### The products of a scan (12 R550) -/

/-- Whether a scan's products are due: 120,000 ticks after its last sample at the latest. -/
def productsDue (s : State) (p : Nat) : Bool :=
  match (portOf s p).endedAt with | some t => decide (now s ≥ t + 120000) | none => false

/-- The raw and delta frames of a scan, its marks, baselines, drift, noise, contacts and keys (12 R550 to R560). -/
def makeProducts (s : State) (p : Nat) : State :=
  let v := portOf s p
  match v.ended, v.endedAt with
  | some c, some last =>
    let buf := v.scans % 2
    let s := modPort s p fun v => { v with scans := (v.scans + 1) % 2 ^ 32, ended := none, endedAt := none, fresh := false }
    if v.capture.isSome then captureScan s p c
    else
      let v := acquirePhases (portOf s p) c false
      let exact := rawCounts v c
      let raws := exact.map satRaw
      let sat := (nodesOf v).foldl (fun t n => tset false t n (decide ((deltaAt exact n).natAbs > 32767))) []
      let v := { v with
        saturated := sat, raw := (nodesOf v).foldl (fun t n => tset 0 t (16384 * buf + n) (deltaAt raws n)) v.raw }
      let first := decide (modeOf v c.set = 0)
      let v := if first then initSet v c.set raws else v
      let ds := (nodesOf v).map fun n => if first then 0 else deltaOf v c.set raws n
      let inBlob := (blobsOf v ds).flatMap fun b => b.nodes
      let cov := (nodesOf v).foldl (fun t n => tset false t n (decide (deltaAt ds n ≥ v.freeze) || inBlob.contains n)) []
      let v := { v with
        covered := cov, delta := (nodesOf v).foldl (fun t n => tset 0 t (16384 * buf + n) (deltaAt ds n)) v.delta }
      let (v, neg) := if first then (v, false) else followScan v c.set raws ds
      let v := scanKeys (hopAfter v c.cfg c.set) ds (last + 160000)
      let s := modPort s p fun _ => { v with reportAt := some last, ended := none }
      let s := if neg then raise s (srcTouchPort p 2) 0 else s
      modPort (trackScan s p c ds) p fun v => { v with ended := some c }
  | _, _ => s

/-! ### STALE (13 R597) -/

def staleDue (s : State) (p id : Nat) : Bool :=
  let v := portOf s p
  decide (v.staleS ≠ 0) && v.contacts.any fun c => c.id == id && !c.stale && decide (c.state ≠ 3) &&
    decide (now s ≥ c.restAt + v.staleS * 400000000)

def markStale (s : State) (p id : Nat) : State :=
  if !staleDue s p id then s else
  let dest := (((portOf s p).contacts.find? fun c => c.id == id && !c.dropped).map (·.dest)).getD 0x1E
  let s := modPort s p fun v => { v with contacts := v.contacts.map fun c => if c.id = id then { c with stale := true } else c }
  if dest ≤ 16 then raise s (srcTouch dest) (8 + p) else s

/-! ### Reports (13 R598 to R602) -/

def contactRecord (v : TouchPort) (c : Contact) : List Byte :=
  let noHead := decide (v.head = 0x0F)
  leBytes 1 c.id ++ leBytes 1 (c.state + 4 * b2n c.present + 8 * b2n c.stale + 16 * b2n c.outside) ++
  leBytes 2 (if noHead then 0 else c.x) ++ leBytes 2 (if noHead then 0 else c.y) ++ leBytes 2 c.u ++ leBytes 2 c.v ++
  leBytes 2 c.peak ++ leBytes 2 c.area ++ zeros 2

/-- The keys of a party that satisfy a test, as a mask. -/
def keyMask (v : TouchPort) (t : Nat) (q : Key → Bool) : Nat :=
  (v.keys.filter fun k => k.2.owner == t && q k.2).foldl (fun m k => m + 2 ^ k.1) 0

/-- The report of a party (13, Report header). -/
def reportOf (v : TouchPort) (p t last : Nat) (first : Bool) (skipped : Nat) (phase : Bool) : List Byte :=
  let cs := v.contacts.filter fun c => c.dest == t && !c.dropped
  let un := tget 0 v.untracked t
  let susp := decide (t = 0) && !v.suspect.isEmpty
  leBytes 1 (b2n phase + 2 * b2n (decide (un ≠ 0)) + 4 * b2n first + 8 * b2n susp) ++ leBytes 1 p ++ leBytes 1 cs.length ++ leBytes 1 un ++
  leBytes 4 v.scans ++ leBytes 8 last ++ leBytes 4 skipped ++ zeros 4 ++ leBytes 8 (keyMask v t (·.pressed)) ++
  leBytes 8 (keyMask v t (·.changed)) ++ leBytes 1 (if t = 0 then v.set else 0) ++ zeros 23 ++
  (cs.flatMap (contactRecord v)) ++ zeros (16 * (16 - cs.length))

def ringOf (v : TouchPort) (t : Nat) : ReportRing := tget {} v.rings t

/-- One party's report of a scan: written, or counted as SKIPPED (13 R602). -/
def writeReport (s : State) (p t last : Nat) (first : Bool) : State :=
  let v := portOf s p
  let r := ringOf v t
  if !r.enable || last ≤ r.since then s
  else if !canWrite s t then
    modPort s p fun v => { v with rings := tmod {} v.rings t fun r => { r with skipped := min 0xFFFFFFFF (r.skipped + 1) } }
  else
    let bs := reportOf v p t last first r.skipped r.phase
    let s := hostWrite s (r.addr + 320 * r.index) bs
    let wrap := decide (r.index + 1 ≥ 2 ^ r.sizeLog2)
    let r' : ReportRing :=
      { r with skipped := 0, index := (if wrap then 0 else r.index + 1), phase := (if wrap then !r.phase else r.phase) }
    let s := modPort s p fun v => { v with rings := tset {} v.rings t r' }
    if (v.contacts.any fun c => c.dest == t && !c.dropped) || keyMask v t (·.changed) ≠ 0 then raise s (srcTouch t) p else s

def reportDue (s : State) (p : Nat) : Bool :=
  match (portOf s p).reportAt with | some t => !halted s && decide (now s ≥ t + 160000) | none => false

/-- REPORT_WRITE of a port (13 R600): in ascending owner code; contacts on secure content go to the Warden's mailbox. -/
def writeReports (s : State) (p : Nat) : State :=
  if !reportDue s p then s else
  let v := portOf s p
  let last := v.reportAt.getD 0
  let first := match v.ended with | some c => c.first | none => false
  let s := modPort s p fun v => { v with reportAt := none, ended := none }
  let sec := (v.contacts.filter fun c => c.dest == 0x1D && !c.dropped).map fun c => (p, contactRecord v c)
  let s := s.modTouch fun t => { t with secure := t.secure ++ sec }
  (List.range 17).foldl (fun s t => writeReport s p t last first) s

/-! ### Commands -/

def checkCalibration (s : State) (c : Cmd) : Ruling :=
  let d := c.d
  let v := portOf s (dbits d 16 0 3)
  let nz := (List.range 6).find? fun i => decide (dget d (20 + 4 * i) 4 ≠ 0)
  ruling
    [lowest [reserved [(16, 0, 3), (18, 0, 16), (20, 0, 192), (44, 0, 32)] d,
       (decide (dget d 18 2 = 0 || dget d 18 2 > 32767), badParam 0x12),
       (decide (v.head = 0x0F) && nz.isSome, badParam (0x14 + 4 * nz.getD 0)), (decide (dget d 44 2 = 0), badParam 0x2C)]]
    (yes .af)

def startCalibration (s : State) (f : Flight) : State := await s f .unit

/-- A calibration takes effect at a scan start (13 R603). -/
def applyCalibration (s : State) (f : Flight) : State :=
  let d := f.desc
  finishDone (modPort s (dbits d 16 0 3) fun v => { v with
    calibrated := true, blob := dget d 18 2, matrix := (List.range 6).map fun i => dint32 d (20 + 4 * i), matchDist := dget d 44 2,
    staleS := dget d 46 2 }) f

/-- TOUCH_KEYS, in its own order of checks (13 R604). -/
def checkTouchKeys (s : State) (c : Cmd) : Ruling :=
  let d := c.d
  let p := dbits d 16 0 3
  let v := portOf s p
  let k := tget {} v.keys (dbits d 17 0 6)
  let on := dbit d 18 0
  let hap := dbit d 18 2 || dbit d 18 3
  let ch := hapNo s c.t (dget d 32 1)
  let f := fun (i : Nat) => dget d (20 + 2 * i) 2
  let pt := dget d 28 2
  let eff := fun (o : Nat) (used : Bool) =>
    (if used then decide (dget d o 1 = 0 || dget d o 1 > 160) else decide (dget d o 1 ≠ 0), badParam o)
  ruling
    [failIf (decide (c.t ≠ 0) && !((tenOf s c.t).grants.touchExcl.testBit p)) (notOwner 0x10),
     failIf (on && hap && ch.isNone) (notOwner 0x20),
     failIf (decide (k.owner ≠ 0x1F) && decide (k.owner ≠ c.t)) (notOwner 0x11),
     failIf (on && decide (f 1 ≥ tCnt v)) (bounds 0x16), failIf (on && decide (f 3 ≥ rCnt v)) (bounds 0x1A),
     lowest
       ([reserved (if on then [(16, 0, 3), (17, 0, 6), (18, 0, 4), (19, 0, 4), (20, 0, 96), (32, 0, 24)] else [(16, 0, 3), (17, 0, 6)]) d] ++
        (if !on then [] else
          [(decide (dbits d 19 0 4 = 0), badParam 0x13), (decide (f 0 > f 1), badParam 0x14), (decide (f 2 > f 3), badParam 0x18),
           (decide (pt = 0 || pt > 32767), badParam 0x1C), (decide (dget d 30 2 ≥ pt), badParam 0x1E),
           (!hap && decide (dget d 32 1 ≠ 0), badParam 0x20), eff 33 (dbit d 18 2), eff 34 (dbit d 18 3)])),
     fenceCheck s c none]
    (yes .af none [ch.getD 16])

def startTouchKeys (s : State) (f : Flight) : State := await s f .unit

/-- A key slot is configured or released at a scan start (13 R604). -/
def applyTouchKeys (s : State) (f : Flight) : State :=
  let d := f.desc
  let k : Key := if !dbit d 18 0 then {} else
    { owner := f.src.fn, suppress := dbit d 18 1, onPress := dbit d 18 2, onRelease := dbit d 18 3, debounce := dbits d 19 0 4,
      tFirst := dget d 20 2, tLast := dget d 22 2, rFirst := dget d 24 2, rLast := dget d 26 2, press := dget d 28 2, hyst := dget d 30 2,
      haptic := f.aux.headD 16, pressEffect := dget d 33 1, releaseEffect := dget d 34 1 }
  finishDone (modPort s (dbits d 16 0 3) fun v => { v with keys := tset {} v.keys (dbits d 17 0 6) k }) f

def checkReportRing (s : State) (c : Cmd) : Ruling :=
  let d := c.d
  let p := dbits d 16 0 3
  let on := dbit d 17 0
  let g := (tenOf s c.t).grants
  let k := dget d 18 1
  ruling
    [lowest [reserved [(16, 0, 3), (17, 0, 1), (18, 0, 8), (24, 0, 64)] d,
       (if on then decide (k < 4 || k > 12) else decide (k ≠ 0), badParam 0x12),
       (if on then decide (dget d 24 8 % 64 ≠ 0) else decide (dget d 24 8 ≠ 0), badParam 0x18)],
     failIf (on && !inApertures s c.t (dget d 24 8) (320 * 2 ^ k)) (bounds 0x18),
     failIf (decide (c.t ≠ 0) && !((g.touchExcl ||| g.touchShr).testBit p)) (notOwner 0x10),
     failIf (on && (ringOf (portOf s p) c.t).enable) (badState 0x10)]
    (yes .f)

def startReportRing (s : State) (f : Flight) : State :=
  let d := f.desc
  let r : ReportRing := if dbit d 17 0 then
      { enable := true, sizeLog2 := dget d 18 1, addr := dget d 24 8, since := f.admitted + 8000 } else {}
  finishDone (modPort s (dbits d 16 0 3) fun v => { v with rings := tset {} v.rings f.src.fn r }) f

/-- SCAN_START of a port. -/
def scanStartOf (s : State) (p : Nat) : State := startScan applyCalibration applyTouchKeys s p

end Sys2Proof.Machine
end

