-- ==== Sys2Proof/Machine/PowerOps.lean ====
section
/-! DEFINITION. The power states, the wake sources, the wake target and the wake sequence (21, 22), and the checks and
effects of the POWER commands. -/

namespace Sys2Proof.Machine

/-- The device is in RUN. -/
def inRun (s : State) : Bool := decide (s.pw.state = .run)

/-- Both image slots failed: only the rings of PF0 are served (21 R831). -/
def bootFailed (s : State) : Bool := decide (s.pw.state = .booting) && decide (s.pw.boot = .failed)

/-- Whether function pages answer with their registers and rings. -/
def serving (s : State) : Bool := inRun s || bootFailed s

/-- Whether the TIMELINE clock runs: in RUN, and in a start from the memory stage on (21 R807, R820). -/
def clockRuns (s : State) : Bool :=
  match s.pw.state with
  | .run => true
  | .booting => decide (s.pw.stage ≥ 3)
  | .waking => decide (s.pw.stage ≥ 3)
  | .watch => false
  | .keep => false
  | .off => false
  | .wakeFailed => false

/-- Whether the wake target and the rest of the device are clockless (21 R817). -/
def clockless (s : State) : Bool :=
  match s.pw.state with
  | .run => false
  | .watch => false
  | .booting => decide (s.pw.stage ≤ 4)
  | .waking => true
  | .keep => true
  | .off => true
  | .wakeFailed => true

/-- Whether a bay contains a shelf below the watermark (03 R143). -/
def wardenBay (s : State) (b : Nat) : Bool := decide (16 * b < s.sr.wm)

/-- A write of the retention bits: the Warden's takes those of the bays below the watermark, any other's the rest (03 R143;
01 R23). -/
def writeRetain (s : State) (warden : Bool) (v : Nat) : State :=
  s.modSr fun r => { r with retain := (List.range 48).foldl (fun n b =>
    n + 2 ^ b * b2n (if wardenBay s b == warden then v.testBit b else r.retain.testBit b)) 0 }

/-- A bay whose retention bit is set; bay 0 always is (03 R142, 21 R806). -/
def retained (s : State) (b : Nat) : Bool := b == 0 || s.sr.retain.testBit b

/-! ### Cold starts (21 R828, R826; 22 R841, R843) -/

/-- What the AON domain keeps over RESET_N (21 R818, R835; 22 R853). -/
def keptPower (p : Power) : Power :=
  { wakeAddr := p.wakeAddr, watchPort := p.watchPort, touchEn := p.touchEn, hostEn := p.hostEn, wakeScans := p.wakeScans,
    wakeThresh := p.wakeThresh, trigMask := p.trigMask, pointer := p.pointer, rc := p.rc }

/-- The Ledger after a release of RESET_N: the latched bit alone is set (20 R797). -/
def coldLedger (l : Ledger) : Ledger :=
  match l.haltSrc with
  | some b => { haltSrc := some b, src := tset {} [] b { on := true, affect := deviceMask } }
  | none => {}

/-- The device at the start of a cold boot: everything but host memory, the fuses and the AON domain is at its reset
value. The tick and epoch counts start at zero only at a release of RESET_N (02 R39, 21 R807). -/
def coldState (s : State) (released : Bool) (p : Power) : State :=
  { State.reset with
    tl := if released then {} else { tick := s.tl.tick, epoch := s.tl.epoch, offset := s.tl.offset }
    lg := coldLedger s.lg, wd := { fuses := s.wd.fuses }, pw := p
    host := s.host, nextId := s.nextId, free := s.free, pending := s.pending }

/-- The release of RESET_N (21 R828, R819, R824): BOOT_SEL is sampled and the wake sequence starts. -/
def releaseReset (s : State) (bootSel : Nat) : State :=
  if s.pw.aonDown then s else coldState s true { keptPower s.pw with bootSel := bootSel % 4 }

/-- RESET_N is driven low (22 R841, R856). -/
def assertReset (s : State) : State :=
  if s.pw.aonDown then s else coldState s true { keptPower s.pw with bootSel := s.pw.bootSel, stage := 0, resetLow := true }

/-- The AON supply rises: the AON domain starts with its reset values, RESET_N low (21 R818, 22 R843). -/
def aonRise (s : State) : State := coldState s true { stage := 0, resetLow := true }

/-- The AON supply falls below its threshold: the HALT latch is cleared and WAKE_FAILED ends (22 R843, 20 R797). -/
def aonFall (s : State) : State :=
  coldState (s.modLg fun _ => {}) true { stage := 0, resetLow := true, aonDown := true }

/-- A cold boot from OFF, or one a wake continues as (21 R814, R826): the last start's causes stay. -/
def coldWake (s : State) (stage : Nat) (p : Power → Power) : State :=
  let k := keptPower s.pw
  coldState s false (p { k with bootSel := s.pw.bootSel, cause := s.pw.cause, retries := s.pw.retries, stage := stage,
                                failedStage := s.pw.failedStage, retried := s.pw.retried })

/-! ### Wake sources (21 R813, R814, R819) -/

/-- The wake sequence starts, or the cold boot from OFF. WK_CAUSE.RESET says that the last start was a release of
RESET_N, so it ends here (log entry 29). -/
def beginWake (s : State) : State :=
  let s := s.modPw fun p => { p with cause := clrBit p.cause 4, wakeDue := false, hits := 0, retried := false }
  if s.pw.state = .off then coldWake s 1 id
  else s.modPw fun p => { p with state := .waking, stage := 1, retrying := false, pwrLow := false, notReady := false, cold := false }

/-- Whether a source, by its WK_CAUSE bit, wakes the device from a state (21 R814). -/
def wakesFrom (s : State) (src : Nat) (st : PwState) : Bool :=
  match st with
  | .watch => src == 0 || (src == 1 && s.pw.touchEn) || src == 2 || (src == 3 && s.pw.hostEn)
  | .keep => src == 0
  | .off => src == 0
  | .run => false
  | .waking => true
  | .booting => true
  | .wakeFailed => false

/-- The bits of WK_CAUSE and WK_STATUS set in the present tick, which a clear in it leaves set (00 R10). -/
def setThisTick (s : State) : Nat := if s.pw.setAt = s.tl.tick then s.pw.setNow else 0

/-- Bit n of WK_CAUSE, or retry bit n - 5 of WK_STATUS, is set. -/
def noteWake (s : State) (n : Nat) : State :=
  s.modPw fun p => { p with
    cause := if n < 5 then setBit p.cause n else p.cause, retries := if n < 5 then p.retries else setBit p.retries (n - 5),
    setNow := setBit (setThisTick s) n, setAt := s.tl.tick }

/-- A wake source fires. -/
def fireWake (s : State) (src : Nat) : State :=
  let mark := fun (s : State) => noteWake s src
  match s.pw.entering with
  | some st => if wakesFrom s src st then mark (s.modPw fun p => { p with wakeDue := true }) else s
  | none =>
    match s.pw.state with
    | .run => s
    | .wakeFailed => s
    | .booting => if s.pw.stage ≤ 4 && 1 ≤ s.pw.stage then mark s else s
    | .waking => if s.pw.stage ≤ 4 then mark s else s
    | .watch => if wakesFrom s src .watch then mark (beginWake s) else s
    | .keep => if wakesFrom s src .keep then mark (beginWake s) else s
    | .off => if wakesFrom s src .off then mark (beginWake s) else s

/-! ### Entering a state (21 R807, R810 to R813) -/

/-- What does not survive a stay in a lower state (21 R807), and what stops in it. -/
def dropVolatile (s : State) : State :=
  let s := s.modEv fun e => { e with src := (List.range 1024).foldl (fun t n =>
    let v := tget {} t n
    tset {} t n { v with cause := 0, soft := false }) e.src }
  let s := s.modFns fun t => (List.range 17).foldl (fun t n => tmod {} t n fun f => { f with held := [] }) t
  let s := s.modLg fun l => { l with src := [], degraded := 0, reactions := [], missed := 0 }
  cutEffects s

/-- The PCIe endpoint loses its power: its configuration returns to its reset values (log entry 6). -/
def endpointLost (s : State) : State :=
  let s := s.modFns fun t => (List.range 17).foldl (fun t n => tmod {} t n fun f =>
    { f with dstate := .d0, busMaster := false, pmeEn := false, pmeStatus := false, heldInStay := false,
             wakeAsserted := false, fnMask := false, pmeAt := none, cfg := {}, msix := [], pba := [] }) t
  s.modPcie fun _ => {}

/-- The state is reached; a source that fired meanwhile starts the wake at once (21 R813). -/
def reachState (s : State) (st : PwState) : State :=
  let s := dropVolatile s
  let s := if st = .watch then s else endpointLost s
  let s := s.modPw fun p => { p with state := st, entering := none, l2By := none, hits := 0, tails := [] }
  if s.pw.wakeDue then beginWake s else s

def pwTarget (n : Nat) : PwState := if n = 1 then .watch else if n = 2 then .keep else .off

/-- The entry instant of the POWER_STATE that waits for it (21 R810). -/
def enterState (s : State) : State :=
  match flightBy s fun f => f.op == 0xC0 && (match f.phase with | .timed t => decide (t ≤ now s) | _ => false) with
  | none => s
  | some f =>
    let st := pwTarget (dget f.desc 16 1)
    let s := flushMessages (finishDone s f) 0
    if st = .watch then reachState s st
    else s.modPw fun p => { p with entering := some st, l2By := some (now s + 40000000) }

/-- The link has reached L2/L3 Ready, or its wait is over (21 R810, R811). -/
def endL2Wait (s : State) : State :=
  match s.pw.entering with
  | some st => reachState s st
  | none => s

def l2Due (s : State) : Bool :=
  s.pw.entering.isSome && (match s.pw.l2By with | some t => decide (t ≤ now s) | none => false)

/-! ### The wake sequence (21 R820 to R823) -/

def wipeBay (s : State) (b : Nat) : State :=
  s.modSr fun r => { r with mem := Mem.wipe r.mem (b * 2 ^ 22) (2 ^ 22), words := twipe r.words (b * 2 ^ 19) (2 ^ 19) }

/-- Baselines of a port are forgotten where bay 45 was not retained (12 R556). -/
def forgetBaselines (v : TouchPort) : TouchPort :=
  { v with modes := [0, 0, 0, 0], base := [], drift := [], comp := [], selfComp := [], phases := [], neg := [], suspect := [],
           covered := [], saturated := [] }

/-- The memory stage: bays without retention are cleared (03 R144, R145). -/
def clearBays (s : State) : State :=
  if s.pw.cold then s else
  let s := (List.range 48).foldl (fun s b => if retained s b then s else wipeBay s b) s
  if retained s 45 then s
  else s.modTouch fun t => { t with ports := (List.range 8).foldl (fun ps p => tmod {} ps p forgetBaselines) t.ports }

/-- A stage in progress. -/
def inStage (s : State) : Bool :=
  (decide (s.pw.state = .waking) || (decide (s.pw.state = .booting) && decide (s.pw.boot = .stages))) &&
    decide (1 ≤ s.pw.stage) && decide (s.pw.stage ≤ 4) && !s.pw.pwrLow

/-- What an accepted security block sets (19 R756, 20 R790, 19 R773). -/
def applySecurity (s : State) (body : List Byte) : State :=
  let s := s.modSr fun r => { r with wm := fieldOf body 0 2, lock := true }
  let s := s.modDram fun d => { d with wm := fieldOf body 2 2, lock := true }
  let s := s.modLg fun l => { l with
    cls0 := fieldOf body 4 4, cls1 := fieldOf body 8 4, cls2 := fieldOf body 12 4, cls3 := fieldOf body 16 4,
    injectHalt := decide (fieldOf body 20 1 = 1), lock := true }
  s.modWd fun w => { w with hbTimeout := if fieldOf body 24 4 = 0 then 20000000 else fieldOf body 24 4, security := body }

/-- The domain resets of a wake's logic stage clear the LOCK bits (01 R11, R26). -/
def clearLocks (s : State) : State :=
  ((s.modSr fun r => { r with lock := false }).modDram fun d => { d with lock := false }).modLg fun l => { l with lock := false }

/-- The Warden ROM writes what the security block says and sets the LOCK bits again (21 R825); the block read again
measures as at boot. A device that has had none only locks. -/
def relock (s : State) : State :=
  if s.wd.security.isEmpty then
    ((s.modSr fun r => { r with lock := true }).modDram fun d => { d with lock := true }).modLg fun l => { l with lock := true }
  else applySecurity s s.wd.security

/-- The logic stage has ended: the ROM looks for its image, or a wake resumes (21 R821, R825, R827, R828). -/
def endLogic (s : State) : State :=
  let s := if s.pw.retried then assert s 39 0 else s
  if s.pw.state = .waking then
    let s := clearLocks s
    if s.pw.pcieBoot then s.modPw fun p => { p with boot := .pcie, bootStatus := 0 } else s
  else s.modPw fun p => { p with boot := if p.bootSel = 2 then .pcie else .slotA }

/-- A stage's ready signal rises (21 R820). -/
def stageUp (s : State) : State :=
  if !inStage s || s.pw.notReady then s else
  let n := s.pw.stage
  let s := if n = 3 then clearBays s else s
  let s := s.modPw fun p => { p with stage := n + 1, retrying := false, notReady := false }
  if n = 4 then endLogic s else s

/-- A stage is not ready at its timeout (21 R821, R822). -/
def stageLate (s : State) : State :=
  if !inStage s then s else
  let n := s.pw.stage
  if !s.pw.retrying then
    (noteWake s (n + 4)).modPw fun p =>
      { p with retrying := true, retried := true, notReady := false, pwrLow := decide (n = 1) }
  else s.modPw fun p => { p with state := .wakeFailed, failedStage := n }

/-- PWR_REQ is asserted again (21 R821). -/
def raisePwrReq (s : State) : State :=
  if (decide (s.pw.state = .waking) || decide (s.pw.state = .booting)) && s.pw.pwrLow then
    s.modPw fun p => { p with pwrLow := false }
  else s

/-- PGOOD falls (21 R823). -/
def losePgood (s : State) : State :=
  if inRun s || ((decide (s.pw.state = .waking) || decide (s.pw.state = .booting)) && decide (s.pw.stage = 5)) then
    assert s 12 deviceMask
  else if inStage s && decide (s.pw.stage ≥ 2) then s.modPw fun p => { p with notReady := true }
  else s

/-! ### Resumption (21 R825 to R827) -/

/-- The resume record of bay 46 cannot be read: its bay lost power, or a word of it is poisoned in both copies
(21 R826; 03 R137). -/
def resumeLost (s : State) : Bool :=
  !retained s 46 || (s.sr.words.any fun e =>
    decide (e.1 / 2 ^ 19 = 46) && badWord e.2 && badWord (srWord s (twin (8 * e.1))))

/-- The POWER event's causes (21 R836). -/
def raisePower (s : State) (cold : Bool) : State :=
  let s := ((List.range 4).filter fun b => s.pw.cause.testBit b).foldl (fun s b => raise s srcPower b) s
  let s := if s.pw.retried then raise s srcPower 4 else s
  if cold then raise s srcPower 5 else s

/-- The Warden starts anew: its log is rebuilt, and its applet store, which lost power, is empty (19 R759; log
entry 30). -/
def restartLog (s : State) (patched : Bool) : State :=
  let s := (List.range 8).foldl (fun s n => setApplet s n {}) s
  let keep := fun (m : Measure) => m.kind == 1 || m.kind == 5 || (patched && m.kind == 2)
  s.modWd fun w => { w with blocks := w.blocks.filter keep, keys := [], restarting := none, lastBeat := now s,
                            inbox := none, prepared := none, reply := none, debugOpen := false }

/-- The wake continues as a cold boot (21 R826, R827): bays that were retained keep their contents. -/
def goCold (s : State) : State :=
  let c := coldWake s 5 fun p => { p with coldWake := true, boot := if s.pw.bootSel = 2 then .pcie else .slotA }
  c.modSr fun r => { r with mem := s.sr.mem, words := s.sr.words }

/-- Resumption completes (21 R825). `good`: the blocks read again verify and measure as at boot; `patched`: the patch
that was running verifies. `bell` is a doorbell of PF0 kept in WATCH (R812). -/
def resume (bell : State → Nat → Nat → State) (s : State) (good patched : Bool) : State :=
  if s.pw.state ≠ .waking || s.pw.stage ≠ 5 || s.pw.boot ≠ .trained then s
  else if !good || resumeLost s then goCold s
  else
    let run := s.pw.patched && patched
    let s := restartLog (relock s) run
    let tails := s.pw.tails
    let s := s.modPw fun p => { p with state := .run, tails := [], patched := run, patchVersion := if run then p.patchVersion else 0 }
    let s := (if s.tl.src = 0 then enterFree s else enterAcquire s).modTl fun t => { t with seenEdge := false, lockedEpochs := 0, lockedFreqs := [] }
    let s := raisePower s false
    tails.foldl (fun s e => bell s e.1 e.2) s

/-- PF0 opens at the end of a boot (21 R828, 05 R200). -/
def openDevice (s : State) : State :=
  let cold := s.pw.coldWake
  let s := s.modPw fun p => { p with state := .run, coldWake := false }
  raisePower (s.modWd fun w => { w with lastBeat := now s }) cold

/-! ### WATCH (21 R812, R815, R816) -/

/-- A CR_TAIL write of PF0 in WATCH is kept, and wakes the device when host wake is enabled (21 R812). -/
def keepTail (s : State) (ring v : Nat) : State :=
  let s := s.modPw fun p => { p with tails := (p.tails.filter fun e => e.1 ≠ ring) ++ [(ring, v)] }
  fireWake s 3

/-- A scan of the wake port in WATCH with set 0 (21 R815): `iq` by node. Phases, drift, follower and the SUSPECT marks
work as in RUN; no contact is tracked. -/
def scanWatch (s : State) (iq : List (Int × Int)) : State :=
  let p := s.pw.watchPort
  let v := portOf s p
  if s.pw.state ≠ .watch || !s.pw.touchEn || !v.configured then s else
  let c : Scan := { started := 0, step := 0, stepAt := 0, set := 0, cfg := v.cfg, stamps := [], first := false,
                    iq := iq.zipIdx.foldl (fun t x => tset ((0 : Int), (0 : Int)) t x.2 x.1) [] }
  let v := acquirePhases v c false
  let exact := rawCounts v c
  let raws := exact.map satRaw
  let v := { v with saturated := (nodesOf v).foldl (fun t n => tset false t n (decide ((deltaAt exact n).natAbs > 32767))) [] }
  let first := decide (modeOf v 0 = 0)
  let v := if first then initSet v 0 raws else v
  let ds := (nodesOf v).map fun n => if first then 0 else deltaOf v 0 raws n
  let inBlob := (blobsOf v ds).flatMap fun b => b.nodes
  let v := { v with covered := (nodesOf v).foldl (fun t n => tset false t n (decide (deltaAt ds n ≥ v.freeze) || inBlob.contains n)) [] }
  let v := if first then v else (followScan v 0 raws ds).1
  let hit := ds.any fun d => decide (d ≥ (s.pw.wakeThresh : Int))
  let s := modPort s p fun _ => v
  let s := s.modPw fun w => { w with hits := if hit then min 15 (w.hits + 1) else 0 }
  if hit && decide (s.pw.hits ≥ s.pw.wakeScans) then fireWake s 1 else s

/-- A HAP_TRIG pin rises and stays high for two AON cycles (21 R814, R816). -/
def trigWake (s : State) (c : Nat) : State := if s.pw.trigMask.testBit c then fireWake s 2 else s

/-! ### The wake target (21 R817 to R819, 22 R853) -/

/-- A wake register (21). -/
def wakeReg (s : State) (p : Nat) : Nat :=
  if p = 0 then 0x16
  else if p = 1 then
    128 * b2n (halted s) + 64 * b2n (faultN s) + (match s.pw.state with
      | .run => 0 | .watch => 1 | .keep => 2 | .off => 3 | .waking => 4 | .booting => 5 | .wakeFailed => 6)
  else if p = 2 then 16 * s.pw.retries + s.pw.failedStage
  else if p = 3 then s.pw.cause
  else 0

/-- A byte written to a wake register, as its access codes state. -/
def wakeWrite (s : State) (p : Nat) (b : Byte) : State :=
  if p = 2 then s.modPw fun w => { w with retries := w1c w.retries (maskOff (b.toNat / 16) (setThisTick s / 32)) }
  else if p = 3 then s.modPw fun w => { w with cause := w1c w.cause (maskOff (b.toNat % 32) (setThisTick s % 32)) }
  else s

def wakeWrites (s : State) (p : Nat) : List Byte → State
  | [] => s
  | b :: bs => wakeWrites (wakeWrite s (p % 256) b) (p + 1) bs

/-- A write transaction that addresses the wake target (21 R817, 22 R853): the pointer is stored, data bytes are written
while the target is clocked, and the match wakes the device. -/
def i2cWrite (s : State) (addr : Nat) (data : List Byte) : State :=
  if addr ≠ s.pw.wakeAddr || s.pw.aonDown then s else
  let s' := match data with
    | [] => s
    | p :: bs =>
      let t := s.modPw fun w => { w with pointer := p.toNat }
      if clockless s then t else wakeWrites (t.modPw fun w => { w with pointer := (p.toNat + bs.length) % 256 }) p.toNat bs
  fireWake s' 0

/-- A read transaction from the stored pointer (22 R853). -/
def i2cRead (s : State) (n : Nat) : State :=
  if s.pw.aonDown then s else
  let out := (List.range n).map fun i => BitVec.ofNat 8 (wakeReg s ((s.pw.pointer + i) % 256))
  s.modPw fun w => { w with wakeOut := out, pointer := (w.pointer + n) % 256 }

/-! ### Commands -/

def headsOff (s : State) : Bool := (List.range 12).all fun h => decide ((headOf s h).state = .disabled)

/-- Whether a port scans (12 R572). -/
def scanning (s : State) (p : Nat) : Bool := (portOf s p).cfg.enable || (portOf s p).scan.isSome

/-- POWER_STATE (21 R808, R809). -/
def checkPowerState (s : State) (c : Cmd) : Ruling :=
  let n := dget c.d 16 1
  let guest := ((List.range 17).drop 1).any fun t => decide ((tenOf s t).state = .live) || decide ((tenOf s t).state = .quiescing)
  let busy := (s.flights.any fun f => f.src.fn == 0) || !s.loads.isEmpty || s.dram.migration.isSome || !s.dram.waiting.isEmpty
  let audio := s.audio.units.any fun e => e.2.enable
  ruling
    [lowest [reserved [(16, 0, 8)] c.d, (decide (n = 0 || n > 3), badParam 0x10)],
     failIf busy (badState 0), failIf guest (badState 0x10),
     failIf (!headsOff s || ((List.range 8).any (scanning s)) || audio) (badState 0x10),
     failIf (decide (n = 1) && (!retained s 45 || !retained s 46 || (!s.pw.touchEn && !s.pw.hostEn))) (badState 0x11),
     failIf (sessionActive s || ((List.range 12).any (headLeased s)) || ((List.range 8).any (touchLeased s))) (leased 0)]
    (yes .av)

def startPowerState (s : State) (f : Flight) : State := await s f (.timed (f.admitted + 400000))

/-- POWER_RETAIN (21 R833, 03 R143): bits of bays with a shelf below W are the Warden's. -/
def checkPowerRetain (s : State) (c : Cmd) : Ruling :=
  let m := dget c.d 16 6
  let fixed := (List.range 48).any fun b => wardenBay s b && (m.testBit b != s.sr.retain.testBit b)
  ruling [lowest [reserved [(16, 0, 48)] c.d], failIf fixed (leased 0x10)] (yes .f)

def startPowerRetain (s : State) (f : Flight) : State :=
  finishDone (writeRetain s false (dget f.desc 16 6)) f

/-- The gateable blocks (21 R834). -/
def gateable (b : Nat) : Bool :=
  decide (b ≤ 3) || (decide (0x10 ≤ b) && decide (b ≤ 0x1B)) || (decide (0x20 ≤ b) && decide (b ≤ 0x27)) ||
  (decide (0x30 ≤ b) && decide (b ≤ 0x33)) || (decide (0x40 ≤ b) && decide (b ≤ 0x45)) ||
  (decide (0x48 ≤ b) && decide (b ≤ 0x51))

/-- The audio unit behind a BLOCK code. -/
def gateUnit (b : Nat) : Nat :=
  if b ≤ 0x45 then b - 0x40 else if b ≤ 0x4B then 0x10 + (b - 0x48) else if b ≤ 0x4F then 0x18 + (b - 0x4C) else 0x20 + (b - 0x50)

/-- Whether a block is in use, so that it cannot be gated (21 R834). -/
def gateBusy (s : State) (b : Nat) : Bool :=
  if b ≤ 3 then s.gpu.contexts.any fun e => decide (e.2.owner ≠ 0x1F) && decide (e.2.grove = b)
  else if b ≤ 0x1B then decide ((headOf s (b - 0x10)).state ≠ .disabled)
  else if b ≤ 0x27 then scanning s (b - 0x20) || (s.pw.touchEn && decide (s.pw.watchPort = b - 0x20))
  else if b ≤ 0x33 then (List.range 12).any fun h => match (headOf s h).cfg with | some k => decide (k.pipe = b - 0x30) | none => false
  else (unitOf s (gateUnit b)).enable

def gateLeased (s : State) (b : Nat) : Bool :=
  if b ≤ 3 then false
  else if b ≤ 0x1B then headLeased s (b - 0x10)
  else if b ≤ 0x27 then touchLeased s (b - 0x20)
  else if b ≤ 0x33 then pipeLeased s (b - 0x30)
  else false

/-- POWER_GATE (21 R834, 19 R772). -/
def checkPowerGate (s : State) (c : Cmd) : Ruling :=
  let b := dget c.d 16 1
  let gate := decide (dget c.d 17 1 = 0)
  ruling [lowest [reserved [(16, 0, 16)] c.d, (!gateable b, badParam 0x10), (decide (dget c.d 17 1 > 1), badParam 0x11)],
    failIf (gate && gateBusy s b) (badState 0x10), failIf (gate && gateLeased s b) (leased 0x10)] (yes .af)

/-- The gating takes effect at an epoch start (21 R834). -/
def applyPowerGate (s : State) (d : Descriptor) : State :=
  let b := dget d 16 1
  s.modPw fun p => { p with gated := if dget d 17 1 = 0 then b :: p.gated.filter (· ≠ b) else p.gated.filter (· ≠ b) }

/-- The blocks a command needs, with the offset of the field that names each (21 R834; log entry 31). -/
def needsBlocks (op : Nat) (d : Descriptor) : List (Nat × Nat) :=
  if op = 0x40 then [(0x10 + dbits d 16 0 4, 0x10), (0x30 + dbits d 19 0 2, 0x13)]
  else if op = 0x41 || op = 0x44 || op = 0x45 || op = 0x46 || op = 0x48 then [(0x10 + dbits d 16 0 4, 0x10)]
  else if op = 0x60 then [(dbits d 16 0 2, 0x10)]
  else if 0x70 ≤ op && op ≤ 0x7A then [(0x20 + dbits d 16 0 3, 0x10)]
  else if op = 0x90 then
    let u := dget d 16 1
    if isPort u then [(0x40 + u, 0x10)] else if isDac u then [(0x48 + (u - 0x10), 0x10)]
    else if isAdc u then [(0x4C + (u - 0x18), 0x10)] else if isJack u then [(0x50 + (u - 0x20), 0x10)] else []
  else []

def gatedFault (s : State) (op : Nat) (d : Descriptor) : Option Verdict :=
  firstSome ((needsBlocks op d).map fun b => failIf (s.pw.gated.contains b.1) (badState b.2))

/-- POWER_WAKE_CONFIG (21 R835, R815). -/
def checkWakeConfig (s : State) (c : Cmd) : Ruling :=
  let d := c.d
  let addr := dbits d 16 0 7
  let touch := dbit d 17 3
  let scans := dbits d 18 0 4
  let thr := dget d 20 2
  ruling
    [lowest [reserved [(16, 0, 7), (17, 0, 5), (18, 0, 4), (20, 0, 32)] d, (decide (addr < 8 || addr > 0x77), badParam 0x10),
       (!touch && decide (dbits d 17 0 3 ≠ 0), badParam 0x11), (if touch then decide (scans = 0) else decide (scans ≠ 0), badParam 0x12),
       (if touch then decide (thr = 0 || thr > 32767) else decide (thr ≠ 0), badParam 0x14)],
     failIf (touch && !(decide ((portOf s (dbits d 17 0 3)).cfg.sets ≥ 1) && !((portOf s (dbits d 17 0 3)).cfg.freqs.headD []).isEmpty)) (badState 0x11)]
    (yes .f)

def startWakeConfig (s : State) (f : Flight) : State :=
  let d := f.desc
  finishDone (s.modPw fun p => { p with
    wakeAddr := dbits d 16 0 7, watchPort := dbits d 17 0 3, touchEn := dbit d 17 3, hostEn := dbit d 17 4,
    wakeScans := dbits d 18 0 4, wakeThresh := dget d 20 2, trigMask := dget d 22 2 }) f

end Sys2Proof.Machine
end

