-- ==== Sys2Proof/Machine/HostOps.lean ====
section
/-! DEFINITION. The host interface (06): function pages, doorbells, ring enables, descriptor fetch, moderation, sleep, and
the checks and effects of HOST_SUSPEND. -/

namespace Sys2Proof.Machine

/-- Whether a function's command ring answers (06 R255, R256; 21 R831). -/
def holdsRing (s : State) (f r : Nat) : Bool :=
  decide (f ≤ 16) && decide (r < 4) && (inRun s || (bootFailed s && f == 0)) && decide ((tenOf s f).state ≠ .absent) &&
    (tenOf s f).rings.contains r

/-- The physical ring behind EV_HEAD[n] of a function, where it answers. -/
def holdsEvRing (s : State) (f n : Nat) : Option Nat :=
  if decide (f ≤ 16) && (inRun s || (bootFailed s && f == 0)) && decide ((tenOf s f).state ≠ .absent) then evRingOf s f n else none

/-! ### Descriptors become visible (06 R270 to R276; 04 R163, R164) -/

/-- Insertion in ring order. -/
def insertByRing (x : Visible) : List Visible → List Visible
  | [] => [x]
  | y :: t => if x.src.ring < y.src.ring then x :: y :: t else y :: insertByRing x t

/-- Descriptors of one tenancy whose doorbells arrived in this tick are in sequence by ring, then by position (04, before
R163): their admission instants stay, and go to them in that order. -/
def resequence (s : State) (f : Nat) : State :=
  let mine := fun (v : Visible) => decide (v.src.fn = f) && decide (v.doorbell = now s)
  let l := s.visible.filter mine
  let sorted := l.foldl (fun acc v => insertByRing v acc) []
  let fixed := (sorted.zip (l.map (·.admitted))).map fun e => { e.1 with admitted := e.2 }
  s.modVisible fun v => v.filter (fun x => !mine x) ++ fixed

/-- Makes at most n of a ring's waiting descriptors visible: each needs two unreserved free completion slots (06 R273,
R274) and the space the device keeps for its completions (06 R292; log entry 124), and gets its admission instant
(04 R164). -/
def makeVisible (f r : Nat) : Nat → State → State
  | 0, s => s
  | n + 1, s =>
    let c := crOf s f r
    if c.handed = 0 || !c.enable || c.disablePending || !c.ccEnable || c.ccUsed + c.ccReserved + 2 > 2 ^ c.ccSizeLog2 ||
      !heldRoom s 64 then s else
    let a := match (tenOf s f).lastAdmission with | some l => max (now s) (l + 4000) | none => now s
    let s := s.modVisible fun v => v ++ [{ src := ⟨f, r, c.taken⟩, doorbell := now s, admitted := a, addr := c.base + 64 * c.taken }]
    let s := modTen s f fun t => { t with lastAdmission := some a }
    let s := setCr s f r { c with handed := c.handed - 1, taken := (nextIndex c.taken c.sizeLog2).1, ccReserved := c.ccReserved + 2 }
    makeVisible f r n s

/-- The descriptors of a ring that can be made visible now. -/
def showDescriptors (s : State) (f r : Nat) : State := resequence (makeVisible f r (crOf s f r).handed s) f

/-- Bits of CR_STATUS are set: 0 DB_ERR, 1 CFG_ERR, 2 FETCH_ERR. -/
def markErr (s : State) (f r bit : Nat) : State :=
  modCr s f r fun c => { c with
    dbErr := c.dbErr || bit == 0, cfgErr := c.cfgErr || bit == 1, fetchErr := c.fetchErr || bit == 2,
    errNew := setBit (if c.errAt = now s then c.errNew else 0) bit, errAt := now s }

/-- Bits of CR_STATUS are cleared, but for those set in the present tick (00 R10, 06 R268). -/
def clearErr (s : State) (f r v : Nat) : State :=
  modCr s f r fun c =>
    let m := maskOff (v % 8) (if c.errAt = now s then c.errNew else 0)
    { c with dbErr := c.dbErr && !m.testBit 0, cfgErr := c.cfgErr && !m.testBit 1, fetchErr := c.fetchErr && !m.testBit 2 }

/-- A doorbell write that is ignored sets DB_ERR (06 R271). -/
def dbError (s : State) (f r : Nat) : State := markErr s f r 0

/-- CR_TAIL of an answering ring (06 R270, R271, R265). Behind descriptors that wait for a CC_HEAD write the new ones wait
as well (06 R274). -/
def ringDoorbell (s : State) (f r v : Nat) : State :=
  let c := crOf s f r
  if c.disablePending then s
  else if !c.enable || v ≥ 2 ^ c.sizeLog2 then dbError s f r
  else
    let n := (v + 2 ^ c.sizeLog2 - c.tail) % 2 ^ c.sizeLog2
    let s := setCr s f r { c with tail := v, handed := c.handed + n }
    if c.handed = 0 then showDescriptors s f r else s

/-- CC_HEAD of an answering ring (06 R274, R271, R287). -/
def completionDoorbell (s : State) (f r v : Nat) : State :=
  let c := crOf s f r
  if !c.ccEnable || v ≥ 2 ^ c.ccSizeLog2 then dbError s f r
  else
    let moved := (v + 2 ^ c.ccSizeLog2 - c.ccHead) % 2 ^ c.ccSizeLog2
    let used := c.ccUsed - moved
    let waiting := ((fnOf s f).held.filter fun h => h.isCompletion && h.addr.isNone && decide (h.ring = r)).length
    let (due, g) := c.sig.rearmed (now s) c.ccModCount c.ccModTime (used - waiting)
    let s := setCr s f r { c with ccHead := v, ccUsed := used, sig := g }
    let s := if due then sendMessage s f r else s
    showDescriptors s f r

/-- EV_HEAD[n] (18 R741, 06 R271, R287). -/
def eventDoorbell (s : State) (f n p v : Nat) : State :=
  let e := evRing s p
  if !e.enable || v ≥ 2 ^ e.sizeLog2 then modFn s f fun x => { x with evDbErr := true, evDbRing := n, evDbAt := some (now s) }
  else
    let moved := (v + 2 ^ e.sizeLog2 - e.head) % 2 ^ e.sizeLog2
    let s := (e.records.take moved).foldl ackRecord s
    let rest := e.records.drop moved
    let waiting := ((fnOf s f).held.filter fun h => !h.isCompletion && h.addr.isNone && decide (h.ring = n)).length
    let (due, g) := e.sig.rearmed (now s) e.modCount e.modTime (rest.length - waiting)
    let s := setEvRing s p { e with head := v, records := rest, sig := g }
    if due then sendMessage s f (4 + n) else s

/-- CR_HEAD passes the slots whose descriptors have arrived or failed, in order (06 R275). -/
def passHead (f r : Nat) : Nat → State → State
  | 0, s => s
  | n + 1, s =>
    let c := crOf s f r
    match s.visible.find? fun v => decide (v.src = ⟨f, r, c.head⟩) && !v.passed with
    | some v => if v.desc.isSome || v.failed ≠ 0 then
        let s := s.modVisible fun l => l.map fun x => if x.src = v.src && x.admitted = v.admitted then { x with passed := true } else x
        passHead f r n (setCr s f r { c with head := (nextIndex c.head c.sizeLog2).1 })
      else s
    | none => s

def passHeads (s : State) (f r : Nat) : State := passHead f r s.visible.length s

/-- The descriptor of a slot whose data is still to come: the one made visible first (06 R275). -/
def openFetch (s : State) (src : CmdSrc) : Option Visible :=
  s.visible.find? fun v => decide (v.src = src) && v.desc.isNone && decide (v.failed = 0)

/-- Changes the visible entry of a slot that still waits for its data. -/
def fetched (s : State) (src : CmdSrc) (g : Visible → Visible) : State :=
  match openFetch s src with
  | none => s
  | some v =>
    let s := s.modVisible fun l => l.map fun x => if x = v then g x else x
    passHeads s src.fn src.ring

/-- The descriptor in its slot of host memory. -/
def slotBytes (s : State) (v : Visible) : Descriptor := BitVec.ofNat 512 (leNat (hostRead s v.addr 64))

/-- A failed fetch (06 R276). -/
def fetchFailed (s : State) (src : CmdSrc) (status : Nat) : State :=
  if (openFetch s src).isNone then s else
  fetched (markErr s src.fn src.ring 2) src fun v => { v with failed := status }

/-- A descriptor's data arrives (06 R275, R276); after a_k + 4,000 it is discarded. In that tick itself it is in time, where
the fetch has not failed yet in it (log entry 148). -/
def descriptorArrives (s : State) (src : CmdSrc) (how : Arrival) : State :=
  match openFetch s src with
  | none => s
  | some v =>
    if now s > v.admitted + 4000 then s
    else match how with
      | .good => fetched s src fun v => { v with desc := some (slotBytes s v) }
      | .error => fetchFailed (noteAer s src.fn 14) src 13
      | .poisoned => fetchFailed (noteAer s src.fn 12) src 14

/-- A descriptor's data has not arrived by a_k + 4,000 (06 R276). -/
def descriptorLate (s : State) (src : CmdSrc) : State :=
  match openFetch s src with
  | some v => if now s ≥ v.admitted + 4000 then fetchFailed s src 13 else s
  | none => s

/-- The completion of a command whose descriptor did not arrive (06 R276), at a_k + 8,000. -/
def failedCompletion (s : State) (v : Visible) : State :=
  let s := s.modVisible fun l => l.filter fun x => x ≠ v
  let s := modCr s v.src.fn v.src.ring fun c => { c with ccReserved := c.ccReserved - 2 }
  let bs := completionRecord s v.src 0 0 0 { status := v.failed, reason := 0x30 } true
  let s := issueRecord s v.src.fn { isCompletion := true, ring := v.src.ring, bytes := bs }
  settleRing s v.src.fn v.src.ring

/-! ### Ring configuration (06 R260 to R266) -/

def cfgError (s : State) (f r : Nat) : State := markErr s f r 1

/-- CR_CFG written with ENABLE 1. -/
def enableCommandRing (s : State) (f r v : Nat) : State :=
  let c := crOf s f r
  let k := bits v 0 5
  if c.enable && c.disablePending then cfgError s f r
  else if c.enable then s
  else if k < 4 || k > 16 || !inApertures s f c.base (64 * 2 ^ k) || !c.ccEnable then
    cfgError (setCr s f r { c with sizeLog2 := k }) f r
  else setCr s f r { c with sizeLog2 := k, enable := true, tail := 0, head := 0, taken := 0, handed := 0 }

/-- CR_CFG written with ENABLE 0 (06 R265, R264). -/
def disableCommandRing (s : State) (f r v : Nat) : State :=
  let c := crOf s f r
  if c.enable then
    settleRing (setCr s f r { c with disablePending := true, handed := 0 }) f r
  else setCr s f r { c with sizeLog2 := bits v 0 5 }

/-- CC_CFG's moderation fields. -/
def withModeration (c : CmdRing) (v : Nat) : CmdRing := { c with ccModCount := bits v 21 8, ccModTime := bits v 5 16 }

/-- CC_CFG written with ENABLE 1. -/
def enableCompletionRing (s : State) (f r v : Nat) : State :=
  let c := withModeration (crOf s f r) v
  let k := bits v 0 5
  if c.ccEnable then setCr s f r c
  else if k < 4 || k > 16 || !inApertures s f c.ccBase (32 * 2 ^ k) then cfgError (setCr s f r { c with ccSizeLog2 := k }) f r
  else setCr s f r { c with ccSizeLog2 := k, ccEnable := true, ccHead := 0, ccTail := 0, ccUsed := 0, sig := {} }

/-- CC_CFG written with ENABLE 0 (06 R266). -/
def disableCompletionRing (s : State) (f r v : Nat) : State :=
  let c := withModeration (crOf s f r) v
  if c.ccEnable then setCr s f r (if c.enable then c else { c with ccEnable := false })
  else setCr s f r { c with ccSizeLog2 := bits v 0 5 }

/-! ### Timeline copies (06 R258, 02 R38) -/

/-- A read of TLC_TICK_LO. R32 lets a local copy differ from the master count by up to 2 ticks: the model takes every copy
equal to it (log entry 126). -/
def latchTlc (s : State) (f : Nat) : State :=
  if f ≤ 16 && serving s && (tenOf s f).state ≠ .absent then
    modFn s f fun x => { x with tlcHi := now s / 2 ^ 32, tlcEpoch := s.tl.epoch, tlcOffset := s.tl.offset }
  else s

/-! ### Moderation, masks and sleep (06 R286 to R297) -/

/-- The moderation window of a vector's ring ends (06 R286). -/
def windowEnds (s : State) (f vec : Nat) : State :=
  if vec < 4 then
    let c := crOf s f vec
    match c.sig.window with
    | some t => if t ≤ now s then sendMessage (setCr s f vec { c with sig := c.sig.spent }) f vec else s
    | none => s
  else
    match evRingOf s f (vec - 4) with
    | none => s
    | some p =>
      let e := evRing s p
      match e.sig.window with
      | some t => if t ≤ now s then sendMessage (setEvRing s p { e with sig := e.sig.spent }) f vec else s
      | none => s

/-- A vector's pending message is sent once nothing masks it (06 R289). -/
def sendPending (f : Nat) (s : State) (vec : Nat) : State :=
  let fn := fnOf s f
  let e := tget {} fn.msix vec
  if fn.fnMask || !fn.cfg.msixEnable || e.mask || !fn.pba.contains vec then s
  else
    let s := setFn s f { fn with pba := fn.pba.filter (· ≠ vec) }
    s.modPcie fun p => exitL1 { p with out := p.out ++ [.message f vec e.addr e.data] }

/-- A vector mask, or the function mask, is cleared (06 R289). -/
def unmask (s : State) (f : Nat) (vec : Option Nat) : State :=
  match vec with
  | some v =>
    if v ≥ 260 then s else
    sendPending f (modFn s f fun x => { x with msix := tmod {} x.msix v fun e => { e with mask := false } }) v
  | none => (List.range 260).foldl (sendPending f) (modFn s f fun x => { x with fnMask := false })

/-- A held record's place within its tick: status records, completion rings, event rings, by local ring (06 R283). -/
def heldRank (h : Held) : Nat := if h.addr.isSome then 0 else if h.isCompletion then 1 + h.ring else 5 + h.ring

/-- Held records are written before any newer one, in the order of their issue (06 R283, R294). -/
def releaseHeldRecords (s : State) (f : Nat) : State :=
  if !canWrite s f || (fnOf s f).held.isEmpty then s else
  let l := sortBy (fnOf s f).held fun a b => decide (a.tick < b.tick) || (decide (a.tick = b.tick) && decide (heldRank a ≤ heldRank b))
  modFn (l.foldl (fun s h => putRecord s f h) s) f fun x => { x with held := [] }

/-- WAKE# is released when every function for which it was asserted is back in D0 (06 R293). -/
def settleWake (s : State) : State :=
  if s.pcie.wakePin && !(s.fns.any fun e => e.2.wakeAsserted) then s.modPcie fun p => { p with wakePin := false } else s

/-- Whether a moderation window of a function is open. -/
def windowOpen (s : State) (f : Nat) : Bool :=
  ((List.range 4).any fun r => (crOf s f r).sig.window.isSome)
    || (List.range 256).any fun p => decide ((evRing s p).owner = f) && (evRing s p).sig.window.isSome

/-- A function enters D3hot (06 R295, R291): its moderation windows close, and a ring closed so counts as a held record. -/
def enterD3 (s : State) (f : Nat) : State :=
  if f > 16 || (fnOf s f).dstate = .d3hot then s else
  let opened := windowOpen s f
  let s := modFn s f fun x => { x with dstate := .d3hot, heldInStay := false }
  let s := (List.range 4).foldl (fun s r => modCr s f r fun c => { c with sig := { c.sig with window := none } }) s
  let s := (List.range 256).foldl (fun s p =>
    let e := evRing s p
    if e.owner = f && e.sig.window.isSome then setEvRing s p { e with sig := { e.sig with window := none } } else s) s
  if opened then signalHeld s f else s

/-- A function is in D0 with Bus Master Enable set (06 R294). -/
def wakeFunction (s : State) (f : Nat) : State :=
  let s := releaseHeldRecords s f
  if canWrite s f then flushMessages s f else s

def returnD0 (s : State) (f : Nat) : State :=
  if f > 16 then s else
  wakeFunction (settleWake (modFn s f fun x => { x with dstate := .d0, heldInStay := false, wakeAsserted := false })) f

/-! ### Registers of a function page -/

def tenNum : TenState → Nat
  | .absent => 0 | .live => 1 | .quiescing => 2 | .quiesced => 3 | .frozen => 4

def fnId (s : State) (f : Nat) : Nat :=
  let g := (tenOf s f).grants
  let on := decide ((tenOf s f).state ≠ .absent)
  f + (if on then 256 * g.cmdRings + 65536 * g.eventRings else 0)

def fnState (s : State) (f : Nat) : Nat := tenNum (tenOf s f).state + 16 * b2n (!(fnOf s f).held.isEmpty)

def crCfgReg (c : CmdRing) : Nat := c.sizeLog2 + 2 ^ 30 * b2n c.disablePending + 2 ^ 31 * b2n c.enable
def ccCfgReg (c : CmdRing) : Nat := c.ccSizeLog2 + 32 * c.ccModTime + 2 ^ 21 * c.ccModCount + 2 ^ 31 * b2n c.ccEnable
def crStatusReg (c : CmdRing) : Nat := b2n c.dbErr + 2 * b2n c.cfgErr + 4 * b2n c.fetchErr

/-- A register of a command ring's block as it reads. -/
def ringReg (c : CmdRing) (o : Nat) : Nat :=
  if o = 0x00 then c.base % 2 ^ 32 else if o = 0x04 then c.base / 2 ^ 32 else if o = 0x08 then crCfgReg c
  else if o = 0x0C then c.tail else if o = 0x10 then c.head else if o = 0x14 then crStatusReg c
  else if o = 0x20 then c.ccBase % 2 ^ 32 else if o = 0x24 then c.ccBase / 2 ^ 32 else if o = 0x28 then ccCfgReg c
  else if o = 0x2C then c.ccHead else if o = 0x30 then c.ccTail else 0

/-- A function page register as it reads (06). Reads of TLC_TICK_LO latch through the row of their own. -/
def pageReg (s : State) (f o : Nat) : Nat :=
  if !serving s then 0
  else if o = 0 then fnId s f else if o = 4 then fnState s f
  else if (tenOf s f).state = .absent then 0
  else
    let fn := fnOf s f
    if o = 8 then fn.evDbRing + 2 ^ 31 * b2n fn.evDbErr
    else if o = 0x10 then now s % 2 ^ 32 else if o = 0x14 then fn.tlcHi else if o = 0x18 then fn.tlcEpoch
    else if o = 0x1C then fn.tlcOffset
    else if 0x100 ≤ o && o < 0x200 then
      if holdsRing s f ((o - 0x100) / 0x40) then ringReg (crOf s f ((o - 0x100) / 0x40)) (o % 0x40) else 0
    else if 0x1000 ≤ o && o < 0x1400 then match holdsEvRing s f ((o - 0x1000) / 4) with | some p => (evRing s p).head | none => 0
    else if 0x1400 ≤ o && o < 0x1800 then match holdsEvRing s f ((o - 0x1400) / 4) with | some p => (evRing s p).tail | none => 0
    else 0

/-- A read of a function page: 32 bits, or else zero (06 R257). -/
def pageRead (s : State) (f o width : Nat) : Nat := if width = 32 then pageReg s f o else 0

/-- BAR2 as it reads (06 R285): the MSI-X table, and the PBA, a bit a vector, from 0x1800 on. -/
def msixReg (s : State) (f o : Nat) : Nat :=
  let fn := fnOf s f
  let e : MsixEntry := tget {} fn.msix (o / 16)
  if o < 16 * 260 then
    if o % 16 = 0 then e.addr % 2 ^ 32 else if o % 16 = 4 then e.addr / 2 ^ 32 else if o % 16 = 8 then e.data
    else if o % 16 = 12 then b2n e.mask else 0
  else if 0x1800 ≤ o && o < 0x1800 + 40 && o % 4 = 0 then
    (List.range 32).foldl (fun n b => n + 2 ^ b * b2n (fn.pba.contains (8 * (o - 0x1800) + b))) 0
  else 0

/-- A base address register's halves. -/
def withLo (a v : Nat) : Nat := a / 2 ^ 32 * 2 ^ 32 + v % 2 ^ 32 / 64 * 64
def withHi (a v : Nat) : Nat := a % 2 ^ 32 + v % 2 ^ 32 * 2 ^ 32

/-- A write to a register of a ring block that is not a doorbell (06 R264, R268). -/
def ringWrite (s : State) (f r o v : Nat) : State :=
  let c := crOf s f r
  if o = 0x00 then if c.enable then s else setCr s f r { c with base := withLo c.base v }
  else if o = 0x04 then if c.enable then s else setCr s f r { c with base := withHi c.base v }
  else if o = 0x08 then if v.testBit 31 then enableCommandRing s f r v else disableCommandRing s f r v
  else if o = 0x0C then ringDoorbell s f r (v % 65536)
  else if o = 0x14 then
    clearErr s f r v
  else if o = 0x20 then if c.ccEnable then s else setCr s f r { c with ccBase := withLo c.ccBase v }
  else if o = 0x24 then if c.ccEnable then s else setCr s f r { c with ccBase := withHi c.ccBase v }
  else if o = 0x28 then if v.testBit 31 then enableCompletionRing s f r v else disableCompletionRing s f r v
  else if o = 0x2C then completionDoorbell s f r (v % 65536)
  else s

/-- A write to a function page (06 R255 to R257): 32 bits alone are accepted. -/
def pageWrite (s : State) (f o v width : Nat) : State :=
  if s.pw.state = .watch && f = 0 && 0x100 ≤ o && o < 0x200 && o % 0x40 = 0x0C && width = 32 then keepTail s ((o - 0x100) / 0x40) (v % 65536)
  else if !serving s || width ≠ 32 || (tenOf s f).state = .absent then s
  else if o = 8 then modFn s f fun x => { x with evDbErr := x.evDbErr && (!v.testBit 31 || decide (x.evDbAt = some (now s))) }
  else if 0x100 ≤ o && o < 0x200 then
    if holdsRing s f ((o - 0x100) / 0x40) then ringWrite s f ((o - 0x100) / 0x40) (o % 0x40) v else s
  else if 0x1000 ≤ o && o < 0x1400 then
    match holdsEvRing s f ((o - 0x1000) / 4) with | some p => eventDoorbell s f ((o - 0x1000) / 4) p (v % 65536) | none => s
  else s

/-- A write to BAR2: the MSI-X table, 16 bytes an entry (06 R285, R289; the PCIe layout), and the boot registers of
PF0, which have their own operation. -/
def msixWrite (s : State) (f o v : Nat) : State :=
  let k := o / 16
  if k ≥ 260 then s else
  let was := (tget {} (fnOf s f).msix k : MsixEntry).mask
  let s := modFn s f fun x => { x with msix := tmod {} x.msix k fun e =>
    if o % 16 = 0 then { e with addr := e.addr / 2 ^ 32 * 2 ^ 32 + v % 2 ^ 32 }
    else if o % 16 = 4 then { e with addr := withHi e.addr v }
    else if o % 16 = 8 then { e with data := v % 2 ^ 32 }
    else { e with mask := v.testBit 0 } }
  if was && o % 16 = 12 && !v.testBit 0 then sendPending f s k else s

/-! ### HOST_SUSPEND (06 R296, 07 R319) -/

def checkHostSuspend (_s : State) (c : Cmd) : Ruling := ruling [lowest [reserved [] c.d]] (yes .f)

/-- The DONE is written, and then the messages go (06 R296); while the function cannot write, both wait (R291). -/
def startHostSuspend (s : State) (f : Flight) : State :=
  let s := finishDone s f
  if canWrite s f.src.fn then flushMessages s f.src.fn else s

end Sys2Proof.Machine
end

