-- ==== Sys2Proof/Machine/KarbobinOps.lean ====
section
/-! DEFINITION. Partition changes (05): Karbobin images and grant blocks, their checks in the order of R220, the
zeroising they ask for, and their taking effect; the pools objects are granted from. -/

namespace Sys2Proof.Machine

/-! ### Records and extents (05 R218) -/

/-- The extents of a table of n entries: first unit and count. -/
def extentsAt (b : List Byte) (o n : Nat) : List (Nat × Nat) :=
  (List.range n).map fun i => (fieldOf b (o + 8 * i) 4, fieldOf b (o + 8 * i + 4) 4)

/-- The units a run of extents names, in their order. -/
def unitsOf (exts : List (Nat × Nat)) (first count : Nat) : List Nat :=
  ((exts.drop first).take count).flatMap fun e => (List.range (min e.2 32768)).map fun i => e.1 + i

/-- A tenancy record at an offset. -/
def recordAt (b : List Byte) (o : Nat) (exts : List (Nat × Nat)) : Nat × Grants :=
  let g := fun (k n : Nat) => fieldOf b (o + k) n
  (g 0 1,
   { isPresent := (g 1 1).testBit 0, lending := (g 1 1).testBit 1, cmdRings := g 2 1, layerSlots := g 3 1, eventRings := g 4 2,
     gpuContexts := g 6 2, grovesDed := g 8 1 % 16, grovesShr := g 8 1 / 16, dmaChannels := g 9 1, audioStreams := g 10 1,
     mixerInputs := g 11 1, assayUnits := g 12 1, touchExcl := g 13 1, touchShr := g 14 1, haptic := g 16 2, heads := g 18 2 % 4096,
     staging := g 20 2, mixerSlots := g 22 2, shadowRegions := g 24 1, shadowPixels := g 28 4,
     compose := [g 32 4, g 36 4, g 40 4, g 44 4],
     shelves := unitsOf exts (g 48 2) (g 50 2), plots := unitsOf exts (g 52 2) (g 54 2) })

/-- A failure of a structure in memory, at a byte of it (07 R323). -/
def badAt (o : Nat) : Verdict := refuse 6 0xFF 0 o

/-- The fields of a record that are out of range (of two that are wrong together the first, log entry 10), n being the number of extents it may name (05 R218). -/
def recordFaults (b : List Byte) (o n : Nat) : List (Bool × Verdict) :=
  let g := fun (k w : Nat) => fieldOf b (o + k) w
  let t := g 0 1
  [(decide (t > 16), badAt o), (decide (g 1 1 ≥ 4) || (decide (t = 0) && !(g 1 1).testBit 0), badAt (o + 1)),
   (decide (g 2 1 > 4) || (decide (t = 0) && decide (g 2 1 = 0)), badAt (o + 2)), (decide (g 3 1 > 128), badAt (o + 3)),
   (decide (g 4 2 > 256), badAt (o + 4)), (decide (g 6 2 > 256), badAt (o + 6)), (decide (g 9 1 > 64), badAt (o + 9)),
   (decide (g 10 1 > 64), badAt (o + 10)), (decide (g 11 1 > 128), badAt (o + 11)), (decide (g 12 1 > 48), badAt (o + 12)),
   (decide (g 15 1 ≠ 0), badAt (o + 15)), (decide (g 18 2 ≥ 4096), badAt (o + 18)), (decide (g 20 2 > 512), badAt (o + 20)),
   (decide (g 22 2 > 16384), badAt (o + 22)), (decide (g 24 1 > 32), badAt (o + 24)), (decide (g 25 3 ≠ 0), badAt (o + 25)),
   (decide (g 28 4 > 8388608), badAt (o + 28)), (decide (g 48 2 + g 50 2 > n), badAt (o + 48)),
   (decide (g 52 2 + g 54 2 > n), badAt (o + 52)), (decide (g 56 72 ≠ 0), badAt (o + 56))]

/-- The entries a record names that exist, each with whether it is a plot extent. -/
def extentUses (b : List Byte) (o n : Nat) : List (Nat × Bool) :=
  let run := fun (k : Nat) => (List.range (fieldOf b (o + k + 2) 2)).map fun i => fieldOf b (o + k) 2 + i
  ((run 48).filter (· < n)).map (fun i => (i, false)) ++ ((run 52).filter (· < n)).map fun i => (i, true)

/-- Extents outside the areas that may be granted (05 R218), by the offset eo of the table. -/
def extentFaults (s : State) (exts : List (Nat × Nat)) (eo : Nat) (u : Nat × Bool) : List (Bool × Verdict) :=
  let e := (exts.drop u.1).headD (0, 0)
  let lo := if u.2 then s.dram.wm else max 16 s.sr.wm
  let hi := if u.2 then plotsInstalled s.dram else 720
  [(decide (e.1 < lo || e.1 + e.2 > hi), badAt (eo + 8 * u.1))]

/-- An extent's count is 1 or more, whether or not a record names it (05 R218). -/
def countFaults (exts : List (Nat × Nat)) (eo : Nat) : List (Bool × Verdict) :=
  exts.zipIdx.map fun e => (decide (e.1.2 = 0), badAt (eo + 8 * e.2 + 4))

/-- Overlapping extents: the later entry of the table (07 R323). -/
def overlapFaults (exts : List (Nat × Nat)) (eo : Nat) (us : List (Nat × Bool)) : List (Bool × Verdict) :=
  let at' := fun (i : Nat) => (exts.drop i).headD (0, 0)
  us.zipIdx.flatMap fun x => (us.drop (x.2 + 1)).map fun y =>
    let a := at' x.1.1
    let b := at' y.1
    (x.1.2 == y.2 && decide (a.1 < b.1 + b.2) && decide (b.1 < a.1 + a.2), badAt (eo + 8 * max x.1.1 y.1))

/-- The masks of a record at offset o that clash with another's grants (05 R208, R209; 14 R608). -/
def maskFaults (o : Nat) (g other : Grants) : List (Bool × Verdict) :=
  let hit := fun (a b : Nat) => decide (a &&& b ≠ 0)
  [(hit g.grovesDed (other.grovesDed ||| other.grovesShr) || hit g.grovesShr other.grovesDed, badAt (o + 8)),
   (hit g.touchExcl (other.touchExcl ||| other.touchShr), badAt (o + 13)), (hit g.touchShr other.touchExcl, badAt (o + 14)),
   (hit g.haptic other.haptic, badAt (o + 16))]

/-! ### The image (05 R218 to R220) -/

def imageRecords (b : List Byte) : List Nat := (List.range (fieldOf b 12 1)).map fun i => fieldOf b 16 4 + 128 * i
def imageExtents (b : List Byte) : List (Nat × Nat) := extentsAt b (fieldOf b 20 4) (fieldOf b 14 2)
def imageWheels (b : List Byte) : List (List Nat) :=
  (List.range 11).map fun k => ((b.drop (fieldOf b 24 4 + 512 * k)).take 512).map (·.toNat)

/-- Steps 1 and 2 of R220. -/
def headerFault (b : List Byte) (len : Nat) : Option Verdict :=
  let total := fieldOf b 8 4
  let table := fun (ofs al size : Nat) => decide (fieldOf b ofs 4 % al ≠ 0 || fieldOf b ofs 4 < 64 || fieldOf b ofs 4 + size > total)
  firstSome
    [failIf (decide (fieldOf b 0 4 ≠ 0x4B424E42)) (badAt 0), failIf (decide (total < 64 || total > 65536 || total ≠ len)) (badAt 8),
     failIf (decide (fieldOf b 12 1 = 0 || fieldOf b 12 1 > 17)) (badAt 12), failIf (decide (fieldOf b 13 1 ≠ 11)) (badAt 13),
     failIf (decide (fieldOf b 14 2 > 4096)) (badAt 14), failIf (table 16 64 (128 * fieldOf b 12 1)) (badAt 16),
     failIf (table 20 8 (8 * fieldOf b 14 2)) (badAt 20), failIf (table 24 64 5632) (badAt 24),
     failIf (decide (crc32c (b.take 60 ++ zeros 4 ++ b.drop 64) ≠ fieldOf b 60 4)) (badAt 60),
     failIf (decide (fieldOf b 4 2 ≠ 1)) (refuse 10 0xFF 0 4)]

/-- A code a wheel entry may hold (02 R70). -/
def wheelCode (v : Nat) : Bool := decide (v ≤ 16) || v == 0x1E || v == 0x1F

/-- Step 3 of R220 on an image. -/
def imageFault (s : State) (b : List Byte) : Option Verdict :=
  let ros := imageRecords b
  let exts := imageExtents b
  let n := exts.length
  let eo := fieldOf b 20 4
  let us := ros.flatMap fun o => extentUses b o n
  let recs := ros.map fun o => (o, recordAt b o exts)
  let pairs := recs.zipIdx.flatMap fun x => (recs.take x.2).flatMap fun y =>
    (decide (y.2.1 = x.1.2.1), badAt x.1.1) :: maskFaults x.1.1 x.1.2.2 y.2.2
  let wheels := (List.range 5632).map fun i => (!wheelCode (fieldOf b (fieldOf b 24 4 + i) 1), badAt (fieldOf b 24 4 + i))
  firstSome
    [lowestValue ([(decide (fieldOf b 6 2 ≠ 0), badAt 6), (decide (fieldOf b 28 32 ≠ 0), badAt 28)] ++
       ros.flatMap (fun o => recordFaults b o n) ++ us.flatMap (extentFaults s exts eo) ++ countFaults exts eo ++ overlapFaults exts eo us ++ pairs ++ wheels),
     failIf (!(recs.any fun r => r.2.1 == 0)) (badAt 12)]

/-- The seventeen records of an image; a tenancy without one has no grants. -/
def imageGrants (b : List Byte) : List Grants :=
  let recs := (imageRecords b).map fun o => recordAt b o (imageExtents b)
  (List.range 17).map fun t => ((recs.find? fun r => r.1 == t).map (·.2)).getD {}

/-! ### What is planned -/

/-- The grants of a tenancy once every pending change has taken effect. -/
def planned (s : State) (t : Nat) : Grants :=
  s.loads.foldl (fun g l => ((l.records.find? fun r => r.1 == t).map (·.2)).getD g) (tenOf s t).grants

def plannedAll (s : State) : List Grants := (List.range 17).map (planned s)
def plannedWheels (s : State) : List (List Nat) := s.loads.foldl (fun w l => l.wheels.getD w) s.wheels.active

/-- Whether a tenancy's record in a pending KARBOBIN_LOAD differs from its present grants (07 R334). -/
def loadDiffers (s : State) (t : Nat) : Bool := s.loads.any fun l => l.whole && l.records.any fun r => r.1 == t

/-! ### Rows 4 to 6 (05 R206, R865; 04 R191; 10 R473; 04 R176; 07 R328; 03 R113) -/

def poolFault (gs : List Grants) : Option Verdict :=
  let sum := fun (f : Grants → Nat) => gs.foldl (fun n g => n + f g) 0
  firstSome
    [failIf (decide (sum (·.cmdRings) > 68)) (capacity 0x20), failIf (decide (sum (·.eventRings) > 256)) (capacity 0x21),
     failIf (decide (sum (·.layerSlots) > 128)) (capacity 0x22), failIf (decide (sum (·.gpuContexts) > 256)) (capacity 0x24),
     failIf (decide (sum (·.dmaChannels) > 64)) (capacity 0x25), failIf (decide (sum (·.audioStreams) > 64)) (capacity 0x26),
     failIf (decide (sum (·.mixerInputs) > 128)) (capacity 0x27), failIf (decide (sum (·.assayUnits) > 48)) (capacity 0x2A),
     failIf (decide (sum (·.shadowRegions) > 32 || sum (·.shadowPixels) > 8388608)) (capacity 0x2B),
     failIf (decide (sum (·.mixerSlots) > 16384)) (capacity 0x2E)]

def reserveFault (s : State) (gs : List Grants) (ws : List (List Nat)) : Option Verdict :=
  let sys := fun (w : Nat) => entriesOf ws w 0x1E
  let sum := fun (f : Grants → Nat) => gs.foldl (fun n g => n + f g) 0
  let heads := fun (p : Nat) => (List.range 12).foldl (fun n h => match (headOf s h).cfg with
    | some c => if c.pipe = p then n + headCharge s c else n
    | none => n) 0
  firstSome
    ([failIf (decide (sys 7 < 32 + sum (·.staging))) (budget 0x04 0), failIf (decide (sys 0 < sys 7)) (budget 0x09 0),
      failIf (decide (sys 1 < sys 7)) (budget 0x09 1)] ++
     (List.range 4).map (fun p =>
       failIf (decide (heads p + sum (fun g => (g.compose.drop p).headD 0) > cPipe s.tl.epochTicks)) (budget 0x02 p)) ++
     [failIf (decide (sys 6 < 48)) (budget 0x09 6),
      failIf (decide (sum (·.shadowPixels) > s.tl.epochTicks * 19995 / 10000)) (budget 0x0C 0)])

/-- Whether everything a tenancy has committed fits under new grants and tables (04 R176). -/
def chargesFit (s : State) (t : Nat) (g : Grants) (ws : List (List Nat)) : Bool :=
  (([(0x02, 0), (0x02, 1), (0x02, 2), (0x02, 3), (0x03, 0), (0x03, 1), (0x03, 2), (0x03, 3), (0x04, 0), (0x05, 0), (0x0B, 0),
    (0x0C, 0), (0x0C, 1)] : List (Nat × Nat)).all fun r =>
    decide (peak s t r.1 r.2 s.tl.epoch + (if r.1 = 0x05 then placedShelves s t else 0) ≤ grantOf s g ws t r.1 r.2)) &&
  wheelsFit s t ws && linkTurnsFit s t ws

/-- Objects a tenancy has in use, by pool, 0x20 to 0x2A (07, IN_USE). -/
def inUse (s : State) (t : Nat) : List Nat :=
  let count := fun (n : Nat) (p : Nat → Bool) => ((List.range n).filter p).length
  [count 4 fun r => (crOf s t r).enable || (crOf s t r).ccEnable,
   count 256 fun p => decide ((evRing s p).owner = t) && (evRing s p).enable,
   count 128 fun i => decide ((slotOf s i).owner = t),
   count 4 fun g => (List.range 256).any fun c => decide ((ctxOf s c).owner = t) && decide ((ctxOf s c).grove = g),
   count 256 fun c => decide ((ctxOf s c).owner = t),
   count 64 fun c => decide ((chanOf s c).owner = t) && (chanOf s c).configured,
   count 64 fun n => decide ((streamOf s n).owner = t) && (streamOf s n).configured,
   count 128 fun i => decide ((inputOf s i).owner = t) &&
     (decide ((inputOf s i).kind ≠ 0) || s.audio.paths.any fun p => p.1 / 64 == i),
   count 16 fun c => decide ((hapOf s c).owner = t) && decide ((hapOf s c).stage ≠ .unconfigured),
   count 8 fun p => (ringOf (portOf s p) t).enable || ((portOf s p).keys.any fun k => k.2.owner == t),
   count 48 fun u => decide ((assayOf s u).owner = t)]

/-- How many objects of those pools grants allow. -/
def poolCounts (g : Grants) : List Nat :=
  [g.cmdRings, g.eventRings, g.layerSlots, popCount 4 (g.grovesDed ||| g.grovesShr), g.gpuContexts, g.dmaChannels, g.audioStreams,
   g.mixerInputs, popCount 16 g.haptic, popCount 8 (g.touchExcl ||| g.touchShr), g.assayUnits]

/-- Whether a shelf that new grants withdraw holds a ring or a structure (03 R113). -/
def shelvesBusy (s : State) (t : Nat) (g : Grants) : Bool :=
  (tenOf s t).shelves.any fun e => !g.shelves.contains (e.2 - 1) && shelfTaken s t e.1 fun _ => false

/-- The contexts of a tenancy on groves that grants do not name (05 R208). -/
def strayContexts (s : State) (t : Nat) (g : Grants) : List Nat :=
  (List.range 256).filter fun c => decide ((ctxOf s c).owner = t) && !(g.grovesDed ||| g.grovesShr).testBit (ctxOf s c).grove

/-- The objects of row 6. -/
def objectsFit (s : State) (t : Nat) (g : Grants) : Bool :=
  (((inUse s t).zip (poolCounts g)).all fun x => decide (x.1 ≤ x.2)) && (strayContexts s t g).isEmpty

/-! ### Checking what was read (05 R220, R867; 07 R323 to R328) -/

/-- The offset of a tenancy's record in an image. -/
def recordOfs (b : List Byte) (t : Nat) : Nat :=
  ((imageRecords b).find? fun o => fieldOf b o 1 == t).getD 0

/-- KARBOBIN_LOAD, rows 1 to 7. -/
def loadFault (s : State) (b : List Byte) (len : Nat) : Option Verdict :=
  let gs := imageGrants b
  let ws := imageWheels b
  let grant := fun (t : Nat) => (gs.drop t).headD {}
  let stays := fun (t : Nat) => decide ((tenOf s t).state ≠ .absent) && (grant t).isPresent
  let unfit := fun (t : Nat) => stays t &&
    (!chargesFit s t (grant t) ws || shelvesBusy s t (grant t) || (t == 0 && !objectsFit s 0 (grant 0)))
  let moved := fun (t : Nat) => decide (t ≠ 0) && decide (grant t ≠ planned s t) &&
    (decide ((tenOf s t).state = .live) || decide ((tenOf s t).state = .quiescing))
  match headerFault b len with
  | some v => some v
  | none => firstSome
    [imageFault s b, poolFault gs, reserveFault s gs ws,
     ((List.range 17).find? unfit).map fun t => refuse 7 0xFF 0 (recordOfs b t),
     ((List.range 17).find? moved).map fun t => refuse 9 t]

/-- Whether a tenancy command admitted before number n, that names a target, lacks its final completion (07 R333). -/
def targetBusyBefore (s : State) (t n : Nat) : Bool :=
  (s.flights.any fun f => decide (f.id < n) && decide (0x13 ≤ f.op) && decide (f.op ≤ 0x1B) && f.op != 0x1A && accepted f &&
    decide (dget f.desc 16 1 = t)) ||
    s.loads.any fun l => decide (l.id < n) && !l.whole && l.records.any fun r => r.1 == t

/-- The same for a command being admitted. -/
def targetBusy (s : State) (t : Nat) : Bool := targetBusyBefore s t s.nextId

/-- TENANCY_CREATE and TENANCY_GRANT (05 R867), of which n0 is the command's number. Where the refusals of 07 R325 and R326 for PRESENT stand among the faults of
row 3 is the model's choice: after the others (log entry 132). -/
def blockFault (s : State) (b : List Byte) (len : Nat) (create : Bool) (n0 : Nat) : Option Verdict :=
  let n := fieldOf b 50 2 + fieldOf b 54 2
  let exts := extentsAt b 128 ((len - 128) / 8)
  let k := exts.length
  let (t, g) := recordAt b 0 exts
  let us := extentUses b 0 k
  let others := ((List.range 17).filter (· ≠ t)).map (planned s)
  let theirs := us.flatMap fun u =>
    let e := (exts.drop u.1).headD (0, 0)
    others.map fun o => ((if u.2 then o.plots else o.shelves).any (fun x => decide (e.1 ≤ x) && decide (x < e.1 + e.2)), badAt (128 + 8 * u.1))
  let st := (tenOf s t).state
  let gs := (List.range 17).map fun i => if i = t then g else planned s i
  firstSome
    [failIf (decide (n > 4096)) (badAt 50), failIf (decide (len ≠ 128 + 8 * n)) (badParam 0x18),
     lowestValue (recordFaults b 0 k ++ us.flatMap (extentFaults s exts 128) ++ countFaults exts 128 ++ overlapFaults exts 128 us ++
       others.flatMap (maskFaults 0 g) ++ theirs),
     failIf (if create then !g.isPresent else decide (g.isPresent ≠ decide (st ≠ .absent))) (badAt 1),
     failIf (targetBusyBefore s t n0) (badState 0x10),
     failIf (create && decide (st ≠ .absent)) (refuse 7 0xFF 0 0),
     poolFault gs, reserveFault s gs (plannedWheels s),
     failIf (!create && decide (st ≠ .absent) &&
       (!chargesFit s t g (plannedWheels s) || !objectsFit s t g || shelvesBusy s t g)) (refuse 7 0xFF 0 0)]

/-! ### Accepting a change (05 R222) -/

/-- The owner a unit has once every pending change is in force, a reservation included (05 R222): 0x1F where none
names it. -/
def nextOwner (s : State) (plot : Bool) (n : Nat) : Nat :=
  ((List.range 17).find? fun t => (if plot then (planned s t).plots else (planned s t).shelves).contains n).getD 0x1F

/-- The units a tenancy holds, as physical numbers. -/
def heldUnits (m : Tab Nat) : List Nat := m.map fun e => e.2 - 1

/-- The units a tenancy holds, or has reserved while it is ABSENT. -/
def unitsHeld (s : State) (t : Nat) (plot : Bool) : List Nat :=
  let v := tenOf s t
  if v.state = .absent then (if plot then v.grants.plots else v.grants.shelves) else heldUnits (if plot then v.plots else v.shelves)

/-- Units that leave a tenancy or come to it; all of them where it becomes ABSENT (05 R222). -/
def changedUnits (held units : List Nat) (goes : Bool) : List Nat :=
  held.filter (fun u => goes || !units.contains u) ++ units.filter fun u => !held.contains u

/-- Starts the zeroising of a change's units: none of a tenancy whose layers are still to leave. -/
def beginZeroise (s : State) (shelves plots : List Nat) : State :=
  let s := shelves.foldl (fun s n => zeroiseShelf s n (nextOwner s false n)) s
  plots.foldl (fun s p => zeroisePlot s p (nextOwner s true p)) s

/-- Withdrawn units leave the tenancy's numbering at once; the kept ones stay (07 R327). -/
def withdrawUnits (s : State) (r : Nat × Grants) : State :=
  modTen s r.1 fun v => { v with
    shelves := v.shelves.filter fun e => r.2.shelves.contains (e.2 - 1), plots := v.plots.filter fun e => r.2.plots.contains (e.2 - 1) }

/-- An accepted change waits for its epoch start (05 R222). -/
def acceptLoad (s : State) (f : Flight) (whole : Bool) (recs : List (Nat × Grants)) (ws : Option (List (List Nat))) : State :=
  let goers := recs.filter fun r => !r.2.isPresent && decide ((tenOf s r.1).state ≠ .absent)
  let goes := fun (t : Nat) => goers.any fun g => g.1 == t
  let going := fun (u : Nat) (plot : Bool) => goers.any fun r => (unitsHeld s r.1 plot).contains u
  let shelves := (recs.flatMap fun r => changedUnits (unitsHeld s r.1 false) r.2.shelves (goes r.1)).eraseDups
  let plots := (recs.flatMap fun r => changedUnits (unitsHeld s r.1 true) r.2.plots (goes r.1)).eraseDups
  let l : PendingLoad := { id := f.id, whole := whole, records := recs, wheels := ws, shelves := shelves, plots := plots, goers := goers.map (·.1) }
  let s := s.modLoads (· ++ [l])
  let s := goers.foldl (fun s r => modTen s r.1 fun v => { v with leaveAt := some (f.admitted + 800000) }) s
  let s := beginZeroise s (shelves.filter fun u => !going u false) (plots.filter fun u => !going u true)
  let s := (recs.filter fun r => r.2.isPresent).foldl withdrawUnits s
  await s f .unit

/-- The records of an image that change something (05 R221). -/
def changedRecords (s : State) (b : List Byte) : List (Nat × Grants) :=
  ((List.range 17).zip (imageGrants b)).filter fun r => decide (r.2 ≠ planned s r.1)

/-- KARBOBIN_LOAD, TENANCY_CREATE or TENANCY_GRANT has read its image or block (07 R322). -/
def partitionRead (s : State) (f : Flight) (b : List Byte) : State :=
  let len := dget f.desc 24 4
  if f.op = 0x10 then
    match loadFault s b len with
    | some v => finish s f v
    | none => acceptLoad s f true (changedRecords s b) (some (imageWheels b))
  else
    match blockFault s b len (f.op = 0x11) f.id with
    | some v => finish s f v
    | none => acceptLoad s f false [recordAt b 0 (extentsAt b 128 ((len - 128) / 8))] none

/-! ### Pools (05 R199, R205) -/

/-- A pool of objects with an owner and a local number each. -/
structure Pool where
  size : Nat
  holder : State → Nat → Nat × Nat
  busy : State → Nat → Bool
  /-- The object goes to an owner under a local number, unused. -/
  give : State → Nat → Nat → Nat → State
  /-- The object returns to the pool. -/
  free : State → Nat → State

def evPool : Pool where
  size := 256
  holder s p := ((evRing s p).owner, (evRing s p).loc)
  busy s p := (evRing s p).enable
  give s p t n := setEvRing s p { owner := t, loc := n }
  free s p := setEvRing (if (evRing s p).enable then disableEvRing s p else s) p {}

def chanPool : Pool where
  size := 64
  holder s c := ((chanOf s c).owner, (chanOf s c).loc)
  busy s c := (chanOf s c).configured
  give s c t n := renewSource (setChan s c { owner := t, loc := n }) (srcDma c)
  free s c := renewSource (setChan s c {}) (srcDma c)

/-- A stream's recorded ring goes with it (03 R113). -/
def dropStream (s : State) (n : Nat) : State :=
  s.modSr fun r => { r with placed := r.placed.filter fun p => !(p.kind = 6 && p.object = n) }

def streamPool : Pool where
  size := 64
  holder s n := ((streamOf s n).owner, (streamOf s n).loc)
  busy s n := (streamOf s n).configured
  give s n t k := renewSource (modStream (dropStream s n) n fun _ => { owner := t, loc := k }) (srcStream n)
  free s n := renewSource (modStream (dropStream s n) n fun _ => {}) (srcStream n)

/-- An input's paths and their charges end (04 R174). -/
def dropInput (s : State) (i : Nat) : State :=
  let s := s.modAudio fun a => { a with paths := a.paths.filter fun p => p.1 / 64 ≠ i }
  s.modCharges fun cs => (List.range 64).foldl (fun cs b => endCharges cs kAudio (64 * i + b) s.tl.epoch) cs

def inputPool : Pool where
  size := 128
  holder s i := ((inputOf s i).owner, (inputOf s i).loc)
  busy s i := decide ((inputOf s i).kind ≠ 0) || s.audio.paths.any fun p => p.1 / 64 == i
  give s i t n := modInput (dropInput s i) i fun _ => { owner := t, loc := n }
  free s i := modInput (dropInput s i) i fun _ => {}

def slotPool : Pool where
  size := 128
  holder s i := ((slotOf s i).owner, (slotOf s i).loc)
  busy _ _ := true
  give s _ _ _ := s
  free s i := releaseSlot (s.modCharges fun cs => endCharges cs kLayer i s.tl.epoch) i

def ctxPool : Pool where
  size := 256
  holder s c := ((ctxOf s c).owner, (ctxOf s c).loc)
  busy _ _ := true
  give s _ _ _ := s
  free s c := releaseContext s c

def assayPool : Pool where
  size := 48
  holder s u := ((assayOf s u).owner, (assayOf s u).loc)
  busy _ _ := true
  give s _ _ _ := s
  free s u := renewSource (setAssay (endBinding s u) u {}) (srcAssay u)

/-- A tenancy's objects of a pool, by falling local number. -/
def poolOf (p : Pool) (s : State) (t : Nat) : List Nat :=
  sortBy ((List.range p.size).filter fun k => decide ((p.holder s k).1 = t)) fun a b => decide ((p.holder s a).2 ≥ (p.holder s b).2)

/-- Objects above a grant are withdrawn: those not in use first, the highest local number first. -/
def trimPool (p : Pool) (s : State) (t n : Nat) : State :=
  let l := poolOf p s t
  let order := l.filter (fun k => !p.busy s k) ++ l.filter fun k => p.busy s k
  (order.take (l.length - n)).foldl p.free s

/-- One more object, the lowest free one, under the lowest local number not in use (05 R199). -/
def growPool (p : Pool) (s : State) (t : Nat) : State :=
  match leastBelow p.size fun k => decide ((p.holder s k).1 = 0x1F) with
  | some k => p.give s k t (freshLocal ((poolOf p s t).map fun k => (p.holder s k).2))
  | none => s

def fillPool (p : Pool) (s : State) (t n : Nat) : State :=
  (List.range (n - (poolOf p s t).length)).foldl (fun s _ => growPool p s t) s

/-- The command rings of a tenancy become n. -/
def fitRings (s : State) (t n : Nat) : State :=
  let l := (tenOf s t).rings
  let down := (List.range 4).reverse.filter l.contains
  let used := fun (r : Nat) => (crOf s t r).enable || (crOf s t r).ccEnable
  let order := down.filter (fun r => !used r) ++ down.filter used
  let out := order.take (l.length - n)
  let kept := l.filter fun r => !out.contains r
  let more := ((List.range 4).filter fun r => !kept.contains r).take (n - kept.length)
  let s := out.foldl (fun s r => setCr s t r {}) s
  modTen s t fun v => { v with rings := (List.range 4).filter fun r => kept.contains r || more.contains r }

/-- Haptic channels are granted by number (14 R608). -/
def fitHaptic (s : State) (t mask : Nat) : State :=
  let reset := fun (s : State) (c : Nat) => renewSource (renewSource s (srcHaptic c 0)) (srcHaptic c 1)
  (List.range 16).foldl (fun s c =>
    let mine := decide ((hapOf s c).owner = t)
    if mask.testBit c && !mine then
      let used := ((List.range 16).filter fun k => decide ((hapOf s k).owner = t)).map fun k => (hapOf s k).loc
      reset (modHap s c fun v => { owner := t, loc := freshLocal used, pin := v.pin }) c
    else if !mask.testBit c && mine then reset (modHap s c fun v => { pin := v.pin }) c
    else s) s

/-- A tenancy's report ring, keys and contacts on a port end. -/
def dropTouch (s : State) (t p : Nat) : State :=
  modPort s p fun v => { v with
    rings := tset {} v.rings t {}, keys := v.keys.filter fun k => k.2.owner ≠ t,
    contacts := v.contacts.map fun c => if c.dest = t then { c with dropped := true } else c }

def fitTouch (s : State) (t mask : Nat) : State :=
  (List.range 8).foldl (fun s p => if mask.testBit p then s else dropTouch s t p) s

/-- The objects of a tenancy become what its grants say; a context on a grove it no longer has goes with it (05 R208). -/
def fitObjects (s : State) (t : Nat) (g : Grants) : State :=
  let s := (strayContexts s t g).foldl releaseContext (fitRings s t g.cmdRings)
  let s := trimPool slotPool (trimPool ctxPool (trimPool assayPool s t g.assayUnits) t g.gpuContexts) t g.layerSlots
  let s := [(evPool, g.eventRings), (chanPool, g.dmaChannels), (streamPool, g.audioStreams), (inputPool, g.mixerInputs)].foldl
    (fun s x => fillPool x.1 (trimPool x.1 s t x.2) t x.2) s
  fitTouch (fitHaptic s t g.haptic) t (g.touchExcl ||| g.touchShr)

/-! ### Taking effect (05 R222) -/

/-- Local numbers: kept units keep theirs, added ones take the lowest unused, in order (03 R108, 07 R327). -/
def numberUnits (m : Tab Nat) (units : List Nat) : Tab Nat :=
  units.foldl (fun m u => if m.any fun e => e.2 == u + 1 then m else tset 0 m (((List.range (m.length + 1)).find? fun i => tget 0 m i == 0).getD 0) (u + 1)) m

/-- Every object of a tenancy returns to its pool, and the tenancy is ABSENT with nothing (05 R240, R222). -/
def vanish (s : State) (t : Nat) : State :=
  let s := s.modCharges fun cs => cs.filter fun c => !(c.owner == t && (match c.toEpoch with | none => true | some _ => false))
  let s := fitObjects s t {}
  let s := s.modSr fun r => { r with placed := r.placed.filter fun p => p.owner ≠ t, rings := r.rings.filter fun p => p.owner ≠ t }
  let s := (List.range 8).foldl (fun s g => if (toneOf s g).owner = t then modTone s g fun _ => {} else s) s
  let s := [srcTenancy t, srcTouch t, srcSecure t, srcNotice t].foldl (fun s n => renewSource s n) s
  let s := s.modLg fun l => { l with degraded := clrBit l.degraded t }
  let s := modFn s t fun f => { f with held := [], evDbErr := false, evDbRing := 0 }
  setTen s t { lastAdmission := (tenOf s t).lastAdmission }

/-- One record takes effect. -/
def applyRecord (s : State) (r : Nat × Grants) : State :=
  let (t, g) := r
  if g.isPresent then
    let s := if (tenOf s t).state = .absent then setTen s t { state := .live, lastAdmission := (tenOf s t).lastAdmission } else s
    let s := modTen s t fun v => { v with grants := g, shelves := numberUnits v.shelves g.shelves, plots := numberUnits v.plots g.plots }
    fitObjects s t g
  else
    let s := if (tenOf s t).state = .absent then s else vanish s t
    modTen s t fun v => { v with grants := g }

/-- Whether a pending change has nothing left to zeroise. -/
def zeroised (s : State) (l : PendingLoad) : Bool :=
  l.goers.isEmpty && !(s.sr.zeroise.any fun z => l.shelves.contains z.unit) && !(s.dram.zeroise.any fun z => l.plots.contains z.plot)

/-- Whether a change can take effect at this epoch start: its tables have been written before it (02 R72). -/
def loadReady (s : State) (l : PendingLoad) : Bool :=
  zeroised s l && (l.wheels.isNone || decide (s.wheels.pendingFor = some l.id))

/-- Chroulakor writes the pending tables of the oldest change once its shelves and plots are zeroised (02 R72, 05 R222). -/
def writeTables (s : State) : State :=
  match s.loads with
  | l :: _ =>
    if zeroised s l && l.wheels.isSome && decide (s.wheels.pendingFor ≠ some l.id) then
      s.modWheels fun w => { w with pending := l.wheels, pendingFor := some l.id }
    else s
  | [] => s

/-- The pending tables become active (02 R72). -/
def swapTables (s : State) : State :=
  s.modWheels fun w => { w with active := w.pending.getD w.active, pending := none, pendingFor := none }

/-- A pending change takes effect at an epoch start: tables, grants, tenancies, DONE. -/
def applyLoad (s : State) (l : PendingLoad) : State :=
  let s := s.modLoads fun x => x.drop 1
  let s := if l.wheels.isSome then swapTables s else s
  let s := if l.whole then s.modWheels fun w => { w with boot := false } else s
  let s := (l.records.filter fun r => !r.2.isPresent).foldl applyRecord s
  let s := (l.records.filter fun r => r.2.isPresent).foldl applyRecord s
  match flightBy s (·.id == l.id) with | some f => finishDone s f | none => s

def applyLoads : Nat → State → State
  | 0, s => s
  | n + 1, s => match s.loads with | l :: _ => if loadReady s l then applyLoads n (applyLoad s l) else s | [] => s

/-- Whether a tenancy still shows a layer (05 R238). -/
def showing (s : State) (t : Nat) : Bool := (List.range 128).any fun i => decide ((slotOf s i).owner = t) && (slotOf s i).cur.enable

/-- The units of a tenancy that is becoming ABSENT are zeroised once its last layer has left. -/
def settleGoers (s : State) : State :=
  s.loads.foldl (fun s l =>
    (l.goers.filter fun t => !showing s t).foldl (fun s t =>
      let s := beginZeroise s (unitsHeld s t false) (unitsHeld s t true)
      let s := modTen s t fun v => { v with shelves := [], plots := [] }
      s.modLoads fun x => x.map fun y => if y.id = l.id then { y with goers := y.goers.filter (· ≠ t) } else y) s) s

/-! ### Commands -/

/-- Tables that a removal has written become active too (05 R240, 02 R72). -/
def applyTables (s : State) : State := if s.wheels.pendingFor.isNone then swapTables s else s

/-- KARBOBIN_LOAD, TENANCY_CREATE, TENANCY_GRANT (05 R224, R867; 07). A KARBOBIN_LOAD counts as pending from its admission
on, before its image has been read: the model's choice (log entry 133). -/
def checkPartition (lo hi : Nat) (s : State) (c : Cmd) : Ruling :=
  let d := c.d
  let pending := (s.loads.any (·.whole)) || s.flights.any fun f => f.op == 0x10 && accepted f
  ruling
    [lowest [reserved [(16, 0, 64), (24, 0, 32)] d, (decide (dget d 16 8 % 64 ≠ 0), badParam 0x10),
       (decide (dget d 24 4 < lo || dget d 24 4 > hi), badParam 0x18)],
     failIf (!inApertures s c.t (dget d 16 8) (dget d 24 4)) (bounds 0x10),
     failIf pending (badState 0)]
    (yes .av)

def checkKarbobinLoad : State → Cmd → Ruling := checkPartition 64 65536
def checkGrantBlock : State → Cmd → Ruling := checkPartition 128 32896

end Sys2Proof.Machine
end

