-- ==== Sys2Proof/Machine/TenancyOps.lean ====
section
/-! DEFINITION. The life of a tenancy (05, 07): quiesce, resume, reset, remove, function-level reset, freeze, save and
restore, host apertures, and the query record. -/

namespace Sys2Proof.Machine

/-! ### Ending work in flight (05 R232 to R235) -/

/-- The commands of a tenancy in flight. -/
def inFlight (s : State) (t : Nat) : List Flight := s.flights.filter fun f => f.src.fn == t

/-- The run time of a running job goes into the VALUE of its ABORTED (11 R503). -/
def withRunTime (s : State) (f : Flight) (v : Verdict) : Verdict :=
  match (List.range 4).find? fun g => decide ((groveOf s g).job = some f.id) with
  | some g => if isJob f && v.status = 12 then { v with value := v.value + runTime s g } else v
  | none => v

/-- One command in flight ends; a transfer stops as R690 states, a running job's grove is reset (05 R234; 11 R520). -/
def endFlight (v : Flight → Verdict) (s : State) (f : Flight) : State :=
  let s := stopXfer s f
  match flightBy s (·.id == f.id) with
  | none => s
  | some f =>
    if isXfer f && decide (f.phase ≠ .first) then endXfer (foldDma s (xferChan f) none f) f (v f)
    else withdraw s f (withRunTime s f (v f))

/-- ABORTED, as a quiesce gives it. -/
def quiesceAborts (f : Flight) : Verdict := { status := 12, value := if isJob f then jobCause 0x0C 3 else 0 }

/-- The standing charges of a tenancy as its objects are now (05 R235): what ended commands had asked for is released. -/
def standingCharges (s : State) (t : Nat) : List Charge :=
  let e := s.tl.epoch
  let layers := (List.range 128).flatMap fun i =>
    let v := slotOf s i
    match (headOf s v.head).cfg with
    | some c => if v.owner = t && v.cur.enable then layerCharges s c (stagerOf s v.head).lead t i v.cur e else []
    | none => []
  let paths := (s.audio.paths.filter fun p => (inputOf s (p.1 / 64)).owner = t).map fun p =>
    chargeFrom t 0x0B 0 (pathSlots s (p.1 % 64)) e kAudio (p.1)
  let tones := ((List.range 8).filter fun g => decide ((toneOf s g).owner = t) && decide ((toneOf s g).stage ≠ .silent)).map fun g =>
    chargeFrom t 0x0B 0 ((toneOf s g).buses.length) e kAudio (8192 + g)
  let regions := (List.range 48).flatMap fun u =>
    if (assayOf s u).owner = t && (assayOf s u).expect = 2 then regionCharges s t u (assayOf s u) e else []
  layers ++ paths ++ tones ++ regions

/-- After work of a tenancy has been ended: its charges, the timed audio changes, the groves, and a layer that had left its
head in a move stays with its new one, disabled. -/
def afterAborts (s : State) (t : Nat) : State :=
  let s := (List.range 128).foldl (fun s i =>
    if (slotOf s i).owner = t && (slotOf s i).moving && (moveOf s i).isNone && (tenOf s t).imported = false then
      modSlot s i fun v => { v with moving := false, cur := {} }
    else s) s
  let s := s.modCharges fun cs => if (inFlight s t).any (fun f => f.promised.isSome) then cs else
    cs.filter (fun c => c.owner ≠ t) ++ standingCharges s t
  settleGpu (dropDeadChanges s)

/-- Flights in order, a DMA_RESUME before the transfer it restarted: it ends as the others do, not with that one's end. -/
def resumesFirst (l : List Flight) : List Flight := l.filter (fun f => f.op == 0xA5) ++ l.filter fun f => f.op != 0xA5

/-- Ends the commands of a tenancy that satisfy a test; how many. -/
def endWork (s : State) (t : Nat) (p : Flight → Bool) (v : Flight → Verdict) : State × Nat :=
  let n := ((inFlight s t).filter p).length
  let applets := (List.range 8).any fun n => decide ((appletOf s n).client = t)
  let s := if applets then endClientApplets s t else s
  let s := (resumesFirst ((inFlight s t).filter p)).foldl (endFlight v) s
  let s := (List.range 64).foldl (fun s k =>
    if (chanOf s k).owner = t && (chanOf s k).halted && (xfersOf s k).isEmpty then leaveHalt s k else s) s
  (s, n)

/-! ### Quiesce -/

/-- The state of a target that a command may act on, refused otherwise (05 R201, R202). -/
def targetFault (d : Descriptor) (t0 : Bool) : Bool × Verdict :=
  (decide (dget d 16 1 > 16) || (!t0 && decide (dget d 16 1 = 0)), badParam 0x10)

/-- TENANCY_QUIESCE (05 R231, R202, R203; 07 R333). -/
def checkQuiesce (s : State) (c : Cmd) : Ruling :=
  let d := c.d
  let t := dget d 16 1
  let drain := decide (dget d 17 1 = 0)
  ruling
    [lowest [reserved [(16, 0, 16), (20, 0, 64)] d, targetFault d false, (decide (dget d 17 1 > 1), badParam 0x11),
       (!drain && decide (dget d 20 4 ≠ 0), badParam 0x14),
       (if drain then decide (dget d 24 4 ≥ s.tl.epochTicks) else decide (dget d 24 4 ≠ 0), badParam 0x18)],
     failIf (decide ((tenOf s t).state ≠ .live)) (badState 0x10), failIf (targetBusy s t) (badState 0x10)]
    (yes .af none [0, 0])

/-- What a command in flight of a quiesced tenancy ends with once it is stopped. -/
def stoppedBy (s : State) (q f : Flight) : Stopped :=
  { flight := f, ends := withRunTime s f (quiesceAborts f), byId := q.id }

/-- Under ABORT the target's commands in flight stop at the quiesce's admission instant (05 R234, 07 R866): transfers at a
block boundary (16 R690), a running job with its grove's reset. What they still report comes at their own first completion
and with the quiesce's. -/
def stopWork (s : State) (q : Flight) : State :=
  let t := dget q.desc 16 1
  let s := ((inFlight s t).filter fun f => decide (f.admitted < q.admitted)).foldl (fun s f =>
    let s := stopXfer s f
    match flightBy s (·.id == f.id) with
    | none => s
    | some f =>
      let s := if isXfer f && decide (f.phase ≠ .first) then foldDma s (xferChan f) none f else s
      let e := stoppedBy s q f
      (modTen s t fun v => { v with stopped := v.stopped ++ [e] }).modFlights fun l => l.filter fun g => g.id ≠ f.id) s
  settleGpu (dropDeadChanges s)

/-- The first completion of a stopped command, at its own a_k + 8,000 (05 R234; 07 R301, R863): its refusal, its ACCEPT where
its form has one, or, of form F, its ABORTED, which the quiesce counts. -/
def stoppedFirst (s : State) (e : Stopped) : State :=
  let f := e.flight
  let t := f.src.fn
  if f.phase ≠ .first || now s < f.admitted + 8000 then s
  else if !accepted f || f.verdict.status = 0 then
    let s := modTen s t fun v => { v with stopped := v.stopped.filter fun x => x.flight.id ≠ f.id }
    if !accepted f then finish s f f.verdict
    else
      let s := s.modFlights fun l => l.map fun g =>
        if g.id = e.byId then { g with aux := (g.aux.headD 0 + 1) :: g.aux.drop 1 } else g
      finish s f e.ends
  else
    let g := { f with phase := .unit, slots := f.slots - 1 }
    let s := modTen s t fun v => { v with stopped := v.stopped.map fun x => if x.flight.id = f.id then { x with flight := g } else x }
    accept s f f.verdict.inst f.verdict.value

/-- The stopped commands complete with ABORTED, with the first completion of the quiesce that stopped them; how many. -/
def endStopped (s : State) (q : Flight) : State × Nat :=
  let t := dget q.desc 16 1
  let mine := (tenOf s t).stopped.filter fun e => e.byId == q.id
  let s := mine.foldl (fun s e => stoppedFirst s e) s
  let mine := (tenOf s t).stopped.filter fun e => e.byId == q.id
  let s := modTen s t fun v => { v with stopped := v.stopped.filter fun e => e.byId != q.id }
  (mine.foldl (fun s e => finish s e.flight e.ends) s, mine.length)

/-- The target takes no work from the admission instant on; what it had admitted at or after that is refused
(05 R232). Under ABORT, unless a fence keeps it back, its commands in flight stop there. -/
def commitQuiesce (s : State) (f : Flight) : State :=
  let t := dget f.desc 16 1
  let s := if dget f.desc 17 1 = 1 && !fenced s f then stopWork s f else s
  let s := s.modFlights fun l => l.map fun g =>
    if g.src.fn = t && g.admitted ≥ f.admitted && g.phase = .first && accepted g then { g with verdict := badState 0 } else g
  modTen s t fun v => { v with state := .quiescing, quiesceAt := some f.admitted }

/-- A tenancy becomes QUIESCED: its standing output is held (05 R236). -/
def holdTenancy (s : State) (t : Nat) : State :=
  let s := modTen s t fun v => { v with state := .quiesced, quiesceAt := none, dropped := 0 }
  holdSound (endClientApplets (afterAborts s t) t) t

/-- Whether a transfer is moving data (05 R233, 16 R677, R692): a turn has been served to it, or bytes have moved. -/
def movingData (s : State) (f : Flight) : Bool :=
  moving s f && (decide (xferMoved f ≠ 0) || decide (f.turns7 + f.turns8 + f.turns9 ≠ 0))

/-- What DRAIN lets run on at its limit instant (05 R233; 16 R692); a command admitted with the quiesce or after it is
not in flight and has its refusal coming (R232). A C2 transfer that is moving data and is promised for later meets two items
of R233; that it completes is the model's choice (log entry 135). -/
def drains (s : State) (f : Flight) : Bool :=
  (match f.promised with | some p => !f.withdrawn && decide (p ≤ now s) | none => false) ||
  (isJob f && (List.range 4).any fun g => decide ((groveOf s g).job = some f.id)) ||
  (isXfer f && movingData s f) ||
  (f.op == 0xA5 && f.phase == .unit) || (accepted f && decide (f.phase = .first))

/-- The quiesce's work is done once nothing of its target is in flight (05 R231). -/
def settleQuiesce (s : State) (f : Flight) : State :=
  let t := dget f.desc 16 1
  let waits := match f.phase with | .timed _ => true | .unit => true | _ => false
  let left := ((inFlight s t).any fun g => decide (g.admitted < f.admitted)) || !(tenOf s t).stopped.isEmpty || s.visible.any fun v => decide (v.src.fn = t) && decide (v.admitted < f.admitted)
  if f.op ≠ 0x13 || !waits || left then s
  else finishDone (holdTenancy s t) f (f.aux.headD 0)

/-- The limit instant of a DRAIN (05 R233). -/
def drainLimit (s : State) (f : Flight) : State :=
  let t := dget f.desc 16 1
  let (s, n) := endWork s t (fun g => decide (g.admitted < f.admitted) && !drains s g) quiesceAborts
  let s := afterAborts s t
  settleQuiesce (setFlight s { f with phase := .unit, aux := [n, 1] }) { f with phase := .unit, aux := [n, 1] }

/-- The quiesce acts: at once under ABORT, at its limit under DRAIN (05 R233, R234; 07 R329, R866). -/
def startQuiesce (s : State) (f : Flight) : State :=
  let t := dget f.desc 16 1
  if f.aux.getD 1 0 = 2 then finishDone s f (f.aux.headD 0)
  else if dget f.desc 17 1 = 1 then
    let (s, n) := endWork s t (fun g => decide (g.admitted < f.admitted)) quiesceAborts
    let g := { f with phase := .unit, aux := [f.aux.headD 0 + n, 1] }
    settleQuiesce (setFlight (afterAborts s t) g) g
  else
    let lim := max (now s) ((tickOfInstant s (dget f.desc 20 4) (dget f.desc 24 4)).getD 0)
    let g := { f with phase := .timed lim }
    let s := setFlight s g
    if lim ≤ now s then drainLimit s g else settleQuiesce s g

/-- LIMIT_INSTANT of a target. -/
def limitOf (s : State) (t : Nat) : State :=
  match flightBy s fun f => f.op == 0x13 && decide (dget f.desc 16 1 = t) &&
      (match f.phase with | .timed l => decide (l ≤ now s) | _ => false) with
  | some f => drainLimit s f
  | none => s

/-- A contained tenancy (20 R793): its commands in flight are FAULTED, and it is QUIESCED; a pending quiesce of it is
done. -/
def containTenancy (s : State) (t b : Nat) : State :=
  if (tenOf s t).state ≠ .live && (tenOf s t).state ≠ .quiescing then
    if (tenOf s t).state = .absent then s else modTen s t fun v => { v with containedBy := setBit v.containedBy b }
  else
    let (s, _) := endWork s t (fun _ => true) fun _ => refuse 13 0x32 0 b
    let s := modTen (holdTenancy s t) t fun v => { v with containedBy := setBit v.containedBy b }
    match flightBy s fun f => f.op == 0x13 && decide (dget f.desc 16 1 = t) && decide (f.phase ≠ .first) && accepted f with
    | some f => finishDone s f (f.aux.headD 0)
    | none => s

/-! ### Resume (05 R237, R250) -/

/-- The Ledger sources that contained a tenancy and are still set (20 R801). -/
def stillContained (s : State) (t : Nat) : Bool :=
  (List.range 40).any fun b => (tenOf s t).containedBy.testBit b && (lgSrc s b).on

def checkResume (s : State) (c : Cmd) : Ruling :=
  let t := dget c.d 16 1
  let v := tenOf s t
  ruling
    [lowest [reserved [(16, 0, 8), (17, 0, 1)] c.d, targetFault c.d true, (dbit c.d 17 0, badParam 0x11)],
     failIf (!(decide (v.state = .quiesced) || (decide (v.state = .frozen) && v.imported))) (badState 0x10),
     failIf (v.resetting || targetBusy s t || loadDiffers s t || stillContained s t) (badState 0x10)]
    (yes (if v.state = .frozen then .af else .f))

/-- Layers restored and still to join their heads (05 R250). -/
def joining (s : State) (t : Nat) : List Nat :=
  (List.range 128).filter fun i => decide ((slotOf s i).owner = t) && (slotOf s i).moving && (moveOf s i).isNone

def startResume (s : State) (f : Flight) : State :=
  let t := dget f.desc 16 1
  let old := tenOf s t
  let s := modTen s t fun v => { v with state := .live, containedBy := 0, imported := false,
                                        joinAt := if old.imported then some f.admitted else none }
  let s := weighInputs s t true
  let s := if old.dropped ≠ 0 then raise s (srcTenancy t) 0 else s
  if old.imported && !(joining s t).isEmpty then await s f .unit else finishDone s f

/-- A layer of a resumed tenancy joins its head, with its staging ring (05 R250, 03 R118). -/
def joinLayer (s : State) (h i : Nat) : State :=
  let v := slotOf s i
  let s := modSlot s i fun v => { v with moving := false, latched := shownFrom (headOf s h) }
  match (headOf s h).cfg with
  | some c => placeRing s i v.owner (ringShelves s c (stagerOf s h).lead v.cur)
  | none => s

/-- The latch of a head, for layers of resumed tenancies (05 R250). -/
def joinLayers (s : State) (h : Nat) : State :=
  (List.range 17).foldl (fun s t =>
    match (tenOf s t).joinAt with
    | none => s
    | some a =>
      if now s < a + headLead s h then s
      else ((joining s t).filter fun i => decide ((slotOf s i).head = h)).foldl (fun s i => joinLayer s h i) s) s

/-- A resume whose layers have all joined is done. Layers of a head that is disabled have no latch to wait for. -/
def settleResume (s : State) (f : Flight) : State :=
  let t := dget f.desc 16 1
  let due := match (tenOf s t).joinAt with | some a => decide (now s ≥ a + 800000) | none => true
  let s := if !due then s else (joining s t).foldl (fun s i =>
    if (headOf s (slotOf s i).head).state = .disabled then modSlot s i fun v => { v with moving := false } else s) s
  if f.op = 0x14 && f.phase = .unit && (joining s t).isEmpty then finishDone (modTen s t fun v => { v with joinAt := none }) f else s

/-! ### Reset and remove (05 R238 to R240) -/

def checkReset (s : State) (c : Cmd) : Ruling :=
  let t := dget c.d 16 1
  let v := tenOf s t
  ruling
    [lowest [reserved [(16, 0, 8), (17, 0, 1)] c.d, targetFault c.d false],
     failIf (targetBusy s t) (badState 0x10),
     failIf (decide (v.state = .live) || decide (v.state = .quiescing)) (refuse 9 t),
     failIf (v.resetting || decide (v.state ≠ .quiesced)) (badState 0x10)]
    (yes .af none [0])

def checkRemove (s : State) (c : Cmd) : Ruling :=
  let t := dget c.d 16 1
  let v := tenOf s t
  ruling
    [lowest [reserved [(16, 0, 8), (17, 0, 1)] c.d, targetFault c.d false, (dbit c.d 17 0, badParam 0x11)],
     failIf (targetBusy s t) (badState 0x10),
     failIf (decide (v.state = .live) || decide (v.state = .quiescing)) (refuse 9 t),
     failIf v.resetting (badState 0x10),
     failIf (!(decide (v.state = .quiesced) || decide (v.state = .frozen)) || loadDiffers s t) (badState 0x10)]
    (yes .af none [0])

/-- A source as it was when its object was created, its target kept. -/
def clearSource (s : State) (n : Nat) : State :=
  setEvSrc s n { evSrc s n with cause := 0, soft := false }

/-- A pool's objects of a tenancy return to their state when granted; their event sources keep their targets. -/
def renewPool (p : Pool) (src : Option (Nat → Nat)) (s : State) (t : Nat) : State :=
  (poolOf p s t).foldl (fun s k =>
    let n := (p.holder s k).2
    let old := match src with | some f => evSrc s (f k) | none => {}
    let s := p.give (p.free s k) k t n
    match src with | some f => setEvSrc s (f k) { old with cause := 0, soft := false } | none => s) s

/-- A tenancy's standing charges are released at the end of the epoch in which its layers have left (05 R238). -/
def endTenancyCharges (s : State) (t : Nat) : State :=
  s.modCharges fun cs => cs.map fun c =>
    if c.owner = t then { c with toEpoch := some (min s.tl.epoch (c.toEpoch.getD s.tl.epoch)) } else c

/-- Every object but the layers returns to its state at creation (05 R238), its cause latches with it: the rings are empty and
disabled. Their charges stand until the layers have left. -/
def renewObjects (s : State) (t : Nat) : State :=
  let kept := s.charges
  let s := (tenOf s t).rings.foldl (fun s r => setCr s t r {}) (s.modVisible fun l => l.filter fun x => x.src.fn ≠ t)
  let s := renewPool evPool none s t
  let s := renewPool inputPool none (renewPool streamPool (some srcStream) (renewPool chanPool (some srcDma) s t) t) t
  let s := (poolOf ctxPool s t).foldl (fun s c => clearSource (modCtx s c fun x =>
    { x with lastIssued := 0, lastDone := 0, outcomes := [], flushes := 0, limitKills := 0, poolPeak := 0, busyTicks := 0, shaders := [] })
      (srcContext c)) s
  let s := (poolOf assayPool s t).foldl (fun s u => clearSource (setAssay s u { owner := t, loc := (assayOf s u).loc }) (srcAssay u)) s
  let s := (List.range 8).foldl (fun s g => if (toneOf s g).owner = t then modTone s g fun _ => { owner := t } else s) s
  let s := (List.range 16).foldl (fun s c => if (hapOf s c).owner = t then
    clearSource (clearSource (modHap s c fun v => { owner := t, loc := v.loc, pin := v.pin }) (srcHaptic c 0)) (srcHaptic c 1) else s) s
  let s := (List.range 8).foldl (fun s p => dropTouch s t p) s
  let s := modFn s t fun f => { f with held := f.held.filter fun _ => false }
  s.modCharges fun _ => kept

/-- One layer of a tenancy leaves its head (05 R238). -/
def leaveLayer (s : State) (i : Nat) : State :=
  let s := clearSource (s.modCharges fun cs => endCharges cs kLayer i s.tl.epoch) (srcLayer i)
  let s := s.modSr fun r => { r with rings := r.rings.filter fun g => g.slot ≠ i }
  modSlot s i fun v => { owner := v.owner, loc := v.loc, head := v.head }

/-- Layers that show nothing return to their state at creation at once; the others leave at their head's latch. -/
def beginLeave (s : State) (t a : Nat) : State :=
  let s := (List.range 128).foldl (fun s i => if (slotOf s i).owner = t && !(slotOf s i).cur.enable then leaveLayer s i else s) s
  modTen s t fun v => { v with leaveAt := some (a + 800000) }

/-- The latch of a head, for the layers of tenancies that leave it; a disabled head's leave when they are due. -/
def leaveAtLatch (s : State) (h : Nat) : State :=
  (List.range 128).foldl (fun s i =>
    let v := slotOf s i
    match (tenOf s v.owner).leaveAt with
    | some a => if decide (v.owner ≤ 16) && decide (v.head = h) && decide (now s ≥ a) && v.cur.enable then leaveLayer s i else s
    | none => s) s

def leaveDisabled (s : State) : State :=
  (List.range 12).foldl (fun s h => if (headOf s h).state = .disabled then leaveAtLatch s h else s) s

/-- The shelves and plots of a tenancy are zeroised, to go to an owner (05 R239, R240). -/
def zeroiseAll (s : State) (t next : Nat) : State :=
  let s := (heldUnits (tenOf s t).shelves).foldl (fun s n => zeroiseShelf s n next) s
  (heldUnits (tenOf s t).plots).foldl (fun s p => zeroisePlot s p next) s

def zeroising (s : State) (t : Nat) : Bool :=
  (s.sr.zeroise.any fun z => (heldUnits (tenOf s t).shelves).contains z.unit) ||
  (s.dram.zeroise.any fun z => (heldUnits (tenOf s t).plots).contains z.plot)

/-- TENANCY_RESET begins (05 R238). Its flight keeps whether its zeroising has begun. -/
def startReset (s : State) (f : Flight) : State :=
  let t := dget f.desc 16 1
  await (beginLeave (renewObjects s t) t f.admitted) f .unit

/-- TENANCY_RESET goes on when the last layer has left, and ends (05 R238, R239). -/
def settleReset (s : State) (f : Flight) : State :=
  let t := dget f.desc 16 1
  if f.op ≠ 0x15 || f.phase ≠ .unit || showing s t then s
  else
  let s := endTenancyCharges s t
  if dbit f.desc 17 0 && f.aux.headD 0 = 0 then
    setFlight (zeroiseAll (modTen s t fun v => { v with leaveAt := none }) t t) { f with aux := [1] }
  else if dbit f.desc 17 0 && zeroising s t then s
  else finishDone (modTen s t fun v => { v with state := .live, leaveAt := none, resetting := false, containedBy := 0 }) f

def startRemove (s : State) (f : Flight) : State :=
  let t := dget f.desc 16 1
  await (beginLeave (renewObjects s t) t f.admitted) f .unit

/-- The wheel entries of a tenancy become spare in the pending tables (05 R240, 02 R72). -/
def spareEntries (s : State) (t : Nat) : State :=
  let spare := fun (ws : List (List Nat)) => ws.map fun w => w.map fun e => if e = t then 0x1F else e
  s.modWheels fun w => { w with pending := some (spare (w.pending.getD w.active)) }

/-- TENANCY_REMOVE goes on when the last layer has left, and ends when the last plot is zeroised (05 R240). -/
def settleRemove (s : State) (f : Flight) : State :=
  let t := dget f.desc 16 1
  if f.op ≠ 0x16 || f.phase ≠ .unit || showing s t then s
  else
  let s := endTenancyCharges s t
  if f.aux.headD 0 = 0 then
    setFlight (zeroiseAll (spareEntries (modTen s t fun v => { v with leaveAt := none }) t) t 0x1F) { f with aux := [1] }
  else if zeroising s t then s
  else finishDone (vanish s t) f

/-! ### Function-level resets (05 R241, R864; 06 R297; 07 R331, R332) -/

/-- A function page, its MSI-X table and its rings return to their reset values, and its held records go. -/
def resetPage (s : State) (f : Nat) : State :=
  let s := (List.range 4).foldl (fun s r => setCr s f r {}) s
  let s := (List.range 256).foldl (fun s p => if (evRing s p).owner = f && (evRing s p).enable then disableEvRing s p else s) s
  setFn s f {}

/-- A function-level reset of a VF (05 R241). The rings go first, so the completions of what it aborts are discarded; a
quiesce of the manager that it meets is done at once, and a reset of the manager takes it in (07 R331, R332). The flight of
such a quiesce keeps the count of its aborts and 2. -/
def resetFunction (s : State) (t : Nat) : State :=
  let v := tenOf s t
  if t = 0 || t > 16 || v.state = .absent || v.state = .frozen then s
  else
    let s := settleWake (resetPage s t)
    let s := s.modVisible fun l => l.filter fun x => x.src.fn ≠ t
    let since := v.quiesceAt.getD (now s + 1)
    let n := ((inFlight s t).filter fun f => decide (f.admitted < since) && accepted f).length + v.stopped.length
    let s := modTen s t fun x => { x with stopped := [] }
    let s := (resumesFirst (inFlight s t)).foldl (fun s f => endFlight quiesceAborts (if f.phase = .first then await s f .unit else s) f) s
    let s := afterAborts s t
    let pend := flightBy s fun f => f.op == 0x13 && accepted f && decide (dget f.desc 16 1 = t)
    let s := if v.state = .quiesced then s else holdTenancy s t
    let s := match pend with
      | some f => if f.phase = .first then setFlight s { f with aux := [n, 2] } else finishDone s f (f.aux.headD 0 + n)
      | none => s
    let taken := s.flights.any fun f => (f.op == 0x15 || f.op == 0x16) && accepted f && decide (dget f.desc 16 1 = t)
    if taken then s
    else beginLeave (renewObjects (modTen s t fun x => { x with resetting := true }) t) t (now s)

/-- The reset's last layer has left: the tenancy is LIVE (05 R241). -/
def settleFlr (s : State) (t : Nat) : State :=
  if (tenOf s t).resetting && !showing s t then modTen (endTenancyCharges s t) t fun v => { v with state := .live, resetting := false, leaveAt := none, containedBy := 0 }
  else s

/-- The completion slots that the commands in flight of a ring, and its descriptors still to be performed, hold (06 R273). -/
def slotsOwed (s : State) (r : CmdSrc) : Nat :=
  (s.flights.filter fun f => sameRing f.src r).foldl (fun n f => n + f.slots) 0 + 2 * (s.visible.filter fun v => sameRing v.src r).length

/-- A function-level reset of PF0 (05 R864): the descriptors it has admitted and not performed are commands in flight; T0 stays LIVE, its commands in flight run on (05 R232: those whose admission
instant has come), and the SR-IOV capability returns to its reset values, VF Enable clear. -/
def resetPf0 (s : State) : State :=
  let s := resetPage s 0
  let s := s.modVisible fun l => (l.filter fun x => decide (x.src.fn ≠ 0) || decide (x.admitted ≤ now s)).map fun x =>
    if x.src.fn = 0 then { x with passed := true } else x
  let s := (List.range 4).foldl (fun s r => modCr s 0 r fun c => { c with ccReserved := slotsOwed s ⟨0, r, 0⟩ }) s
  settleWake (s.modPcie fun p =>
    { p with vfEnable := false, numVfs := 0, vfMse := false, ariHier := false, sysPage := 1, vfBar0 := 0, vfBar2 := 0 })

/-! ### Freeze (05 R242) -/

def checkFreeze (s : State) (c : Cmd) : Ruling :=
  let t := dget c.d 16 1
  ruling
    [lowest [reserved [(16, 0, 8), (17, 0, 1)] c.d, targetFault c.d false, (dbit c.d 17 0, badParam 0x11)],
     failIf (decide ((tenOf s t).state ≠ .quiesced) || (tenOf s t).resetting || targetBusy s t || loadDiffers s t) (badState 0x10)]
    (yes .f)

def startFreeze (s : State) (f : Flight) : State :=
  finishDone (modTen s (dget f.desc 16 1) fun v => { v with state := .frozen, imported := false }) f

/-- A tenancy record, with the counts of shelves and plots in place of extents (07, GRANTS). -/
def grantBytes (t : Nat) (g : Grants) (shelves plots : Nat) : List Byte :=
  leBytes 1 t ++ leBytes 1 (b2n g.isPresent + 2 * b2n g.lending) ++ leBytes 1 g.cmdRings ++ leBytes 1 g.layerSlots ++
  leBytes 2 g.eventRings ++ leBytes 2 g.gpuContexts ++ leBytes 1 (g.grovesDed + 16 * g.grovesShr) ++ leBytes 1 g.dmaChannels ++
  leBytes 1 g.audioStreams ++ leBytes 1 g.mixerInputs ++ leBytes 1 g.assayUnits ++ leBytes 1 g.touchExcl ++ leBytes 1 g.touchShr ++
  zeros 1 ++ leBytes 2 g.haptic ++ leBytes 2 g.heads ++ leBytes 2 g.staging ++ leBytes 2 g.mixerSlots ++ leBytes 1 g.shadowRegions ++
  zeros 3 ++ leBytes 4 g.shadowPixels ++ (g.compose.flatMap (leBytes 4)) ++ leBytes 4 shelves ++ leBytes 4 plots ++ zeros 72

/-! ### Apertures (07 R337 to R339) -/

/-- The host ranges recorded for a tenancy (07 R339). -/
def recordedRanges (s : State) (t : Nat) : List (Nat × Nat) :=
  let rings := (List.range 4).flatMap fun r =>
    let c := crOf s t r
    (if c.enable then [(c.base, 64 * 2 ^ c.sizeLog2)] else []) ++ (if c.ccEnable then [(c.ccBase, 32 * 2 ^ c.ccSizeLog2)] else [])
  let evs := s.evr.filterMap fun e => if e.2.owner = t && e.2.enable then some (e.2.base, 16 * 2 ^ e.2.sizeLog2) else none
  let chans := s.dma.chans.filterMap fun e => if e.2.owner = t && e.2.configured then some (e.2.statusAddr, 64) else none
  let streams := s.audio.streams.filterMap fun e => if e.2.owner = t && e.2.configured then some (e.2.posAddr, 64) else none
  let reports := s.touch.ports.filterMap fun e =>
    if (ringOf e.2 t).enable then some ((ringOf e.2 t).addr, 320 * 2 ^ (ringOf e.2 t).sizeLog2) else none
  let held := (fnOf s t).held.filterMap fun h => h.addr.map fun a => (a, h.bytes.length)
  let applets := if t = 0 then s.wd.applets.filterMap fun a => if a.2.state = .empty then none else some (a.2.addr, a.2.len) else []
  rings ++ evs ++ chans ++ streams ++ reports ++ held ++ applets

/-- The target's apertures once a TENANCY_APERTURE has completed. -/
def setAperture (s : State) (d : Descriptor) : State :=
  let t := dget d 16 1
  modTen s t fun v => { v with
    wholeSpace := false, apertures := tset {} v.apertures (dget d 17 1) (if dget d 32 8 = 0 then {} else { base := dget d 24 8, size := dget d 32 8 }) }

/-- Whether a range has a byte in what a change takes away: of the old range, all that the new one does not cover (07 R339). -/
def inLost (old new r : Nat × Nat) : Bool :=
  let lo := max r.1 old.1
  let hi := min (r.1 + r.2) (old.1 + old.2)
  decide (lo < hi) && !(decide (new.1 ≤ lo) && decide (hi ≤ new.1 + new.2))

/-- TENANCY_APERTURE (07 R337 to R339). Any other command of the target that lacks its final completion is in flight. -/
def checkAperture (s : State) (c : Cmd) : Ruling :=
  let d := c.d
  let t := dget d 16 1
  let i := dget d 17 1
  let base := dget d 24 8
  let size := dget d 32 8
  let v := tenOf s t
  let old := tget {} v.apertures i
  let lost := v.wholeSpace || (decide (old.size ≠ 0) && !(decide (size ≠ 0) && decide (base ≤ old.base) && decide (old.base + old.size ≤ base + size)))
  let was := if v.wholeSpace then (0, 2 ^ 64) else (old.base, old.size)
  let other := !(inFlight s t).isEmpty || !v.stopped.isEmpty || s.visible.any fun x => decide (x.src.fn = t) && decide (x.admitted < c.a)
  let clash := decide (size ≠ 0) && v.apertures.any fun e => decide (e.1 ≠ i) && decide (base < e.2.base + e.2.size) && decide (e.2.base < base + size)
  ruling
    [lowest [reserved [(16, 0, 16), (24, 0, 128)] d, targetFault d true, (decide (i > 15), badParam 0x11),
       (decide (base % 4096 ≠ 0) || clash, badParam 0x18), (decide (size % 4096 ≠ 0) || decide (base + size > 2 ^ 64), badParam 0x20)],
     failIf (targetBusy s t) (badState 0x10),
     failIf (lost && (other || (recordedRanges s t).any (inLost was (base, size)))) (badState 0x10)]
    (yes .f)

def startAperture (s : State) (f : Flight) : State := finishDone (setAperture s f.desc) f

/-! ### The query record (07 R320, R340) -/

def tenancyRecord (s : State) (t : Nat) : List Byte :=
  let v := tenOf s t
  let e := s.tl.epoch
  let pk := fun (res i : Nat) => peak s t res i e
  let absent := decide (v.state = .absent)
  grantBytes t v.grants (if absent then v.grants.shelves.length else v.shelves.length) (if absent then v.grants.plots.length else v.plots.length) ++
  leBytes 1 (tenNum v.state) ++ leBytes 1 (b2n (loadDiffers s t) + 2 * b2n v.wholeSpace) ++ zeros 2 ++ leBytes 4 v.dropped ++
  ((inUse s t).flatMap (leBytes 2)) ++ zeros 2 ++ ((List.range 4).flatMap fun p => leBytes 4 (pk 0x02 p)) ++
  ((List.range 4).flatMap fun p => leBytes 4 (pk 0x03 p)) ++ leBytes 4 (pk 0x04 0) ++ leBytes 2 (pk 0x05 0 + placedShelves s t) ++
  leBytes 2 (pk 0x0B 0) ++ leBytes 1 (pk 0x0C 0) ++ zeros 3 ++ leBytes 4 (pk 0x0C 1) ++ zeros 48 ++
  ((List.range 16).flatMap fun i => leBytes 8 (tget {} v.apertures i : Aperture).base ++ leBytes 8 (tget {} v.apertures i : Aperture).size)

def checkTenancyQuery (s : State) (c : Cmd) : Ruling :=
  ruling (recordChecks s c.t (dget c.d 24 8) 512 0x18 [reserved [(16, 0, 8), (24, 0, 64)] c.d, targetFault c.d true]) (yes .f)

def startTenancyQuery (s : State) (f : Flight) : State :=
  finishDone (hostWrite s (dget f.desc 24 8) (tenancyRecord s (dget f.desc 16 1))) f

def checkResourceQuery (s : State) (c : Cmd) : Ruling :=
  ruling (recordChecks s c.t (dget c.d 16 8) 512 0x10 [reserved [(16, 0, 64)] c.d]) (yes .f)

def startResourceQuery (s : State) (f : Flight) : State :=
  finishDone (hostWrite s (dget f.desc 16 8) (tenancyRecord s f.src.fn)) f

/-! ### What settles after every event -/

/-- Tenancy commands and resets that what has just happened lets go on. -/
def settleTenancies (s : State) : State :=
  let s := settleGoers (leaveDisabled s)
  let s := s.flights.foldl (fun s f => settleRemove (settleReset (settleResume (settleQuiesce s f) f) f) f) s
  (List.range 17).foldl settleFlr s

end Sys2Proof.Machine
end

