-- ==== Sys2Proof/Machine/StageOps.lean ====
section
/-! DEFINITION. The scan-out stager and the latch (03 R114 to R126; 08 R381 to R395; 09 R415 to R442): which changes a
latch takes, what the stager stages, and what a head shows after its latch. -/

namespace Sys2Proof.Machine

/-! ### Which changes a latch takes -/

/-- Whether a change's instant is the latch n frames ahead, at tick t, or an earlier one: one that names a frame by that
frame, any other by the admission lead (08 R385, R386). -/
def latchReached (s : State) (h n t : Nat) (f : Flight) : Bool :=
  decide (f.op ≠ 0xE4) && decide (f.op ≠ 0x33) &&
    (if auxNamed f then decide (flightAhead s h f ≤ n) || decide (flightAhead s h f ≥ 2 ^ 31)
     else decide (t ≥ f.admitted + headLead s h))

/-- Whether a change waits for a latch of a head behind the fence of its ring alone (06 R278). -/
def fencedLatch (f : Flight) (h : Nat) : Bool :=
  decide (f.phase = .fence) && f.promised.isSome && auxHead f == h
    && (f.op == 0x31 || f.op == 0x32 || f.op == 0x34 || f.op == 0x35 || f.op == 0x43 || f.op == 0x51 || f.op == 0x52
      || f.op == 0x53 || f.op == 0x55)

/-- Whether a change is taken by the latch n frames ahead, at tick t. A fenced one goes with the same latch as the
earlier commands of its ring, which 06 R278 lets it be promised for. -/
def takenBy (s : State) (h n t : Nat) (f : Flight) : Bool :=
  latchReached s h n t f &&
    (waitsLatch f h || (fencedLatch f h && s.flights.all fun g => !sameRing g.src f.src || decide (g.id ≥ f.id)
      || ((waitsLatch g h || fencedLatch g h) && latchReached s h n t g)))

/-- The frame of its old head at whose latch a moved layer departs. -/
def departFrame (f : Flight) : Nat := (f.aux.drop 6).headD 0

/-- A move's departure from its old head, by the latch n frames ahead (09 R438). -/
def departs (s : State) (h n : Nat) (f : Flight) : Bool :=
  let ahead := (departFrame f + 2 ^ 32 - (headOf s h).frame) % 2 ^ 32
  f.op == 0x33 && waitsLatch f h && decide ((slotOf s (auxSlot f)).head = h) && !(slotOf s (auxSlot f)).moving &&
    decide (auxHead f ≠ h) && (decide (ahead ≤ n) || (!auxNamed f && decide (ahead ≥ 2 ^ 31)))

/-- Frames from the current one to the one a change is due for: the frame it names and those it has been held (08 R389). -/
def dueAhead (s : State) (h : Nat) (f : Flight) : Nat := (auxFrame f + auxHeld f + 2 ^ 32 - (headOf s h).frame) % 2 ^ 32

/-- Whether a move has departed, or departs no later than now. -/
def departed (s : State) (f : Flight) : Bool :=
  let v := slotOf s (auxSlot f)
  v.moving ||
    let hd := headOf s v.head
    let ahead := (departFrame f + 2 ^ 32 - hd.frame) % 2 ^ 32
    decide (ahead = 0) && (match hd.cfg with | some c => decide (lineTick s v.head 0 (latchOf c) ≤ (now s : Int)) | none => false)

/-- A move's arrival at its new head, by the latch n frames ahead. -/
def arrives (s : State) (h n : Nat) (f : Flight) : Bool :=
  f.op == 0x33 && decide (f.phase ≠ .first) && decide (auxHead f = h) &&
    (decide (flightAhead s h f ≤ n) || decide (flightAhead s h f ≥ 2 ^ 31))

/-- Whether the frame a waiting change named has passed and nothing but lateness keeps it (02 R78): a held update, and what
is held with one, keeps its place (08 R389, 10 R468). A move is late where it has not left its old head by the frame of that. -/
def frameMissed (s : State) (h : Nat) (f : Flight) : Bool :=
  waitsLatch f h && auxNamed f && f.op != 0xE4 &&
    (if f.op = 0x33 then
      decide ((slotOf s (auxSlot f)).head = h) && !(slotOf s (auxSlot f)).moving && decide (auxHead f ≠ h) &&
        decide ((departFrame f + 2 ^ 32 - (headOf s h).frame) % 2 ^ 32 ≥ 2 ^ 31)
    else decide (dueAhead s h f ≥ 2 ^ 31) && !(f.op == 0x31 && auxState f != 1))

/-- Frames between the frame in progress and the latch the stager prepares: a push is latched at its own start. -/
def latchLag (c : HeadCfg) : Nat := if c.kind = .video then 0 else 1

/-- An arrangement as the secure attaches and releases, the layers that leave with their tenancies and those that join with
resumed ones make it at a latch of tick t (03 R120; 19 R767, R770; 05 R238, R250). -/
def atLatch (s : State) (h t : Nat) (l : List (Nat × Nat × LayerState)) : List (Nat × Nat × LayerState) :=
  let returns := fun (sl : Nat) => s.wd.layers.any fun x => x.slot == sl && (match x.leaveAt with | some a => decide (t ≥ a) | none => false)
  let attaches := fun (sl : Nat) => s.flights.any fun f => f.op == 0xE4 && auxSlot f == sl && dget f.desc 18 1 == 0 &&
    decide ((appletOf s (dget f.desc 16 1)).state = .running) && (match f.phase with | .latch g a => g == h && decide (t ≥ a) | _ => false)
  let leaves := fun (o : Nat) => decide (o ≤ 16) && (match (tenOf s o).leaveAt with | some a => decide (t ≥ a) | none => false)
  let joins := fun (o : Nat) => match (tenOf s o).joinAt with | some a => decide (t ≥ a + headLead s h) | none => false
  let kept := (l.filter fun e => !leaves (slotOf s e.1).owner).map fun e =>
    if returns e.1 then (e.1, (slotOf s e.1).owner, (slotOf s e.1).cur)
    else if attaches e.1 && e.2.2.enable then (e.1, 0x1D, secureState e.2.2) else e
  kept ++ ((boundTo s h).filter fun i => (slotOf s i).moving && (moveOf s i).isNone && joins (slotOf s i).owner).map fun i =>
    (i, (slotOf s i).owner, (slotOf s i).cur)

/-- The rectangle an enabled layer shows. -/
def shownRect (c : HeadCfg) (st : LayerState) : List Rect := if st.enable then [clipped c st] else []

/-- What one change makes of a head's layers at the latch n frames ahead, at tick t (08 R383 to R394, 09 R438), and the damage it
brings (09 R421). -/
def latchEffect (s : State) (h n t : Nat) (acc : List (Nat × Nat × LayerState) × List Rect) (f : Flight) :
    List (Nat × Nat × LayerState) × List Rect :=
  let c := (headOf s h).cfg.getD {}
  let (l, d) := acc
  let sl := auxSlot f
  let cur := ((l.find? fun e => e.1 == sl).map (·.2.2)).getD (slotOf s sl).cur
  let without := l.filter fun e => e.1 ≠ sl
  if departs s h n f then (without, d ++ shownRect c cur)
  else if frameMissed s h f then acc
  else if arrives s h n f then
    (if l.any fun e => e.1 == sl then acc else (l ++ [(sl, (slotOf s sl).owner, cur)], d ++ shownRect c cur))
  else if !takenBy s h n t f then acc
  else if f.op = 0x31 && auxState f = 1 then
    let st := layerPayload f.desc
    (l.map fun e =>
      if e.1 = sl then (e.1, e.2.1, st)
      else if st.enable && cur.enable && e.2.2.enable && e.2.1 == (slotOf s sl).owner && e.2.2.z == st.z then
        (e.1, e.2.1, { e.2.2 with z := cur.z })
      else e, d ++ shownRect c cur ++ shownRect c st)
  else if f.op = 0x32 then (without, d ++ shownRect c cur)
  else if f.op = 0x43 then (l, d ++ (pushRects f.desc cur).map (mapRect c cur))
  else acc

/-- The tick of a head's next latch. -/
def nextLatchTick (s : State) (h : Nat) : Nat :=
  let c := (headOf s h).cfg.getD {}
  (lineTick s h (latchLag c) (latchOf c)).toNat

/-- What the changes of a head's next latch make of it, in issue order (08 R384): its layers and the damage. -/
def nextEffects (s : State) (h : Nat) : List (Nat × Nat × LayerState) × List Rect :=
  s.flights.foldl (latchEffect s h (latchLag ((headOf s h).cfg.getD {})) (nextLatchTick s h)) (currentArrangement s h, [])

/-- The layers of a head after its next latch, held updates left out (03 R120): slot, owner and state. -/
def nextArrangement (s : State) (h : Nat) : List (Nat × Nat × LayerState) :=
  atLatch s h (nextLatchTick s h) (nextEffects s h).1

/-- The rectangles of the enabled C1 units of a push head (10 R466), where `after` tells what a unit is. -/
def c1Rects (h : Nat) (after : Nat → Assay) : List Rect :=
  ((List.range 48).map after).filterMap fun v =>
    if v.owner ≠ 0x1F && v.enable && isHeadUnit v && v.target = h && v.c1 then some (rectOf v) else none

/-- The damage of a head's next push, as far as it is known (09 R421, R423). -/
def nextDamage (s : State) (h : Nat) (c : HeadCfg) : List Rect :=
  let hd := headOf s h
  let taken := s.flights.filter (takenBy s h (latchLag c) (nextLatchTick s h))
  reduceDamage c hd.dsc (hd.damage ++ (nextEffects s h).2 ++ hd.carried ++
    c1Rects h fun u => taken.foldl (changedUnit s u) (assayOf s u))

/-- Whether the stager works on a frame whose latch has not been taken yet. -/
def stagesAhead (s : State) (h : Nat) : Bool :=
  let hd := headOf s h
  let c := hd.cfg.getD {}
  decide ((stagerOf s h).frame ≠ hd.frame) && (decide (c.kind ≠ .video) || !latchPassed hd c)

/-- The layers the stager stages. -/
def stagedArrangement (s : State) (h : Nat) : List (Nat × Nat × LayerState) :=
  if stagesAhead s h then nextArrangement s h else currentArrangement s h

/-- The push of the frame in progress, where it has one that has not ended. -/
def pushAtHand (s : State) (h : Nat) : Option Push :=
  let hd := headOf s h
  (hd.push.toList ++ hd.queued).find? fun p => p.number == hd.frame

/-- What of a head the frame being staged draws, or the frame in progress: all of it, or a push's damage (09 R424, R425). -/
def drawnArea (s : State) (h : Nat) (ahead : Bool) : Option (List Rect) :=
  match (headOf s h).cfg with
  | none => none
  | some c =>
    if c.kind = .video then none
    else if ahead || decide ((headOf s h).state = .disabled) then some (nextDamage s h c)
    else some ((pushAtHand s h).elim [] (·.damage))

/-- Whether a head line lies in an area. -/
def rowDrawn (area : Option (List Rect)) (y : Nat) : Bool :=
  match area with
  | none => true
  | some l => l.any fun r => decide (r.y0 ≤ (y : Int)) && decide ((y : Int) < r.y1)

/-- The first line from n on that is drawn; V_ACTIVE where none is. -/
def nextDrawn (c : HeadCfg) (area : Option (List Rect)) (n : Nat) : Nat :=
  match area with
  | none => n
  | some _ => ((List.range (c.vActive - n)).map (n + ·)).find? (rowDrawn area) |>.getD c.vActive

/-! ### The stager's switch (03 R121, R149; 08 R381, R389 to R392) -/

/-- The charges of a slot return to those of the state it shows, where nothing else is admitted for it. -/
def restoreCharges (s : State) (sl : Nat) : State :=
  let v := slotOf s sl
  if updatePending s sl fun _ => true then s else
  match (headOf s v.head).cfg with
  | some c => s.modCharges fun cs => dropCharges cs kLayer sl ++ layerCharges s c (stagerOf s v.head).lead v.owner sl v.cur s.tl.epoch
  | none => s

/-- An update is held for the next frame (08 R389, R391): the old charges of its layer stay too, until it takes effect or ends. -/
def holdUpdate (s : State) (f : Flight) : State :=
  let sl := auxSlot f
  let s := setFlight s { f with aux := setAt (setAt f.aux 4 2) 3 (auxHeld f + 1) }
  let s := modSlot s sl fun v => { v with holds := min 0xFFFFFFFF (v.holds + 1) }
  let s := s.modCharges fun cs => cs.map fun c =>
    if c.kind = kLayer && c.object = sl && decide (c.fromEpoch ≤ s.tl.epoch) then { c with toEpoch := none } else c
  raise s (srcLayer sl) 0

/-- The test of one update's job at a switch instant (08 R389, R390, R392). -/
def testUpdate (s : State) (f : Flight) : State :=
  let out := match (f.aux.drop 6).head?, ctxNo s f.src.fn (dget f.desc 38 2) with
    | some o, _ => some (decide (o = 1))
    | none, some c => outcomeOf s c (dget f.desc 60 4)
    | none, none => some true
  match out with
  | some true => setFlight s { f with aux := setAt f.aux 4 1 }
  | some false => if auxState f = 2 then restoreCharges (finishAborted s f) (auxSlot f) else holdUpdate s f
  | none => holdUpdate s f

/-- The tick at which line l of the frame in progress starts: that of the pacer, on a tracked head (01 R30). -/
def lineStarts (s : State) (h l : Nat) : Nat :=
  let hd := headOf s h
  match hd.cfg with
  | some c => if c.tracked then hd.l0 + (hd.l0Frac + l * c.phase) / 65536 else (lineTick s h 0 l).toNat
  | none => 0

/-- A work order that reaches its apprentice after its instant is discarded: DEADLINE_MISS is raised, and its command ends
with FAULTED (01 R25). -/
def missOrder (s : State) (f : Flight) (t : Nat) : State :=
  let s := assert s 23 (partyBit f.src.fn)
  let s := if f.phase = .first then accept s f f.verdict.inst f.verdict.value else s
  let s := if f.op = 0x42 then modHead s (f.aux.headD 0) fun hd => { hd with stopDue := none } else s
  let s := finish s { f with slots := if f.phase = .first then f.slots - 1 else f.slots }
    { status := 13, reason := 0x31, inst := some (f.promised.getD t) }
  if f.op == 0x31 || f.op == 0x32 || f.op == 0x33 then restoreCharges s (auxSlot f) else s

/-- The layers of a head that have a ring: one that has departed has none until it joins its new head. -/
def ringedOn (s : State) (h : Nat) : List Nat :=
  (boundTo s h).filter fun i => !((slotOf s i).moving && (moveOf s i).isSome)

/-- The charges of a layer under the LEAD now in force: those of the state it shows, then those of the changes admitted for it
(04 R174, R183). -/
def renewCharges (s : State) (sl : Nat) : State :=
  let v := slotOf s sl
  match (headOf s v.head).cfg with
  | some c =>
    let s := s.modCharges fun cs => dropCharges cs kLayer sl ++ layerCharges s c (stagerOf s v.head).lead v.owner sl v.cur s.tl.epoch
    s.flights.foldl (fun s f =>
      if auxSlot f ≠ sl || !accepted f then s
      else if f.op = 0x31 then commitLayerUpdate s f
      else if f.op = 0x32 then commitLayerFree s f
      else if f.op = 0x33 then commitLayerMove s f
      else s) s
  | none => s

/-- A staging ring of every layer of a head is resized, a secure layer's two among them (03 R149). -/
def resizeRings (s : State) (h : Nat) : State :=
  match (headOf s h).cfg with
  | none => s
  | some c => (ringedOn s h).foldl (fun s i =>
      let v := slotOf s i
      let lead := (stagerOf s h).lead
      let s := if v.secure then placeSecureRing s i (ringShelves s c lead (secureState v.cur)) else s
      renewCharges (placeRing s i v.owner (ringShelves s c lead v.cur)) i) s

/-- The largest ring a layer has, or will have by an admitted change, on a head under a lead. -/
def largestRing (s : State) (h lead : Nat) (c : HeadCfg) (sl : Nat) : Nat :=
  let v := slotOf s sl
  let here := if decide (v.head = h) && (ringedOn s h).contains sl then ringShelves s c lead v.cur else 0
  s.flights.foldl (fun m f =>
    if auxSlot f ≠ sl || !accepted f || decide (auxHead f ≠ h) then m
    else if f.op = 0x31 then max m (ringShelves s c lead (layerPayload f.desc))
    else if f.op = 0x33 then max m (ringShelves s c lead v.cur)
    else m) here

/-- Whether the rings of a head's layers, those of the changes already admitted among them, have their shelves under a lead
(03 R118, R151). -/
def ringsFit (s : State) (h lead : Nat) : Bool :=
  match (headOf s h).cfg with
  | none => true
  | some c =>
    let need := fun (i : Nat) => largestRing s h lead c i
    let slots := List.range 128
    ((List.range 17).all fun t =>
      let mine := slots.filter fun i => decide ((slotOf s i).owner = t)
      let here := mine.foldl (fun n i => n + need i) 0
      let other := (mine.filter fun i => decide (need i = 0) || !(ringedOn s h).contains i).foldl (fun n i =>
        let g := ringOfSlot s i t
        n + (g.shelves.length + (keptShelves s g).eraseDups.length - need i)) 0
      decide (here = 0) || decide (here + other + placedShelves s t ≤ (tenOf s t).shelves.length)) &&
    let secure := (ringedOn s h).filter fun i => (slotOf s i).secure
    let grown := secure.foldl (fun n i => n + ringShelves s c lead (secureState (slotOf s i).cur)) 0
    let held := secure.foldl (fun n i => n + (ringOfSlot s i 0x1D).shelves.length) 0
    decide (grown ≤ held + (freeSecureShelves s).length)

def checkStockroomStager (s : State) (c : Cmd) : Ruling :=
  let d := c.d
  let h := dbits d 16 0 4
  let lead := dbits d 20 0 21
  ruling
    [lowest [reserved [(16, 0, 4), (20, 0, 21), (24, 0, 21)] d [(16, 4), (20, 4), (24, 4)], (decide (h ≥ 12), badParam 0x10),
       (decide (lead < 200000 || lead > 1600000), badParam 0x14), (decide (dbits d 24 0 21 > lead), badParam 0x18)],
     failIf (!ringsFit s h lead) (budget 0x05 0)]
    (yes .af none [h])

/-- An accepted STOCKROOM_STAGER keeps the shelves its larger rings will need (03 R118, R151; log entry 139). -/
def commitStockroomStager (s : State) (f : Flight) : State :=
  let h := dbits f.desc 16 0 4
  match (headOf s h).cfg with
  | none => s
  | some c => (ringedOn s h).foldl (fun s i =>
      reserveRing s i (slotOf s i).owner (largestRing s h (dbits f.desc 20 0 21) c i) f.id) s

/-- The new lead and warning of a STOCKROOM_STAGER apply (03 R149). -/
def applyStager (s : State) (f : Flight) : State :=
  let h := dbits f.desc 16 0 4
  let s := setStager s h { stagerOf s h with lead := dbits f.desc 20 0 21, warn := dbits f.desc 24 0 21 }
  finishDone (resizeRings s h) f

/-- STOCKROOM_STAGER acts at a_k + 8,000: at once on a head that stages no frame (03 R149). -/
def startStockroomStager (s : State) (f : Flight) : State :=
  let hd := headOf s (dbits f.desc 16 0 4)
  if hd.state = .disabled || hd.cfg.isNone then applyStager s f else await s f .unit

/-- The number of the frame or push the stager turns to next. -/
def nextStaged (hd : Head) : Nat := (hd.frame + 1) % 2 ^ 32

/-- Whether the stager has switched for the frame in progress. -/
def switched (s : State) (h : Nat) : Bool := decide ((stagerOf s h).frame = nextStaged (headOf s h))

/-- The tick at which a stager of one LEAD switches: the latch line, or line 0 of the next frame less LEAD (03 R121). -/
def switchTickAt (s : State) (h lead : Nat) : Int :=
  let c := (headOf s h).cfg.getD {}
  min (lineTick s h (latchLag c) (latchOf c)) (lineTick s h 1 0 - lead)

/-- The STOCKROOM_STAGER jobs of a head whose own switch instant for the frame in progress is not before they
started: the next frame is staged with their leads, the last one's in force (03 R149). -/
def leadsFor (s : State) (h : Nat) : List Flight :=
  s.flights.filter fun f => f.op == 0xD8 && decide (f.phase = .unit) && dbits f.desc 16 0 4 == h
    && decide (((f.admitted + 8000 : Nat) : Int) ≤ switchTickAt s h (dbits f.desc 20 0 21))

/-- The tick at which the stager switches, by the lead the next frame is staged with (03 R121, R149). -/
def switchTick (s : State) (h : Nat) : Int :=
  switchTickAt s h (((leadsFor s h).getLast?.map fun f => dbits f.desc 20 0 21).getD (stagerOf s h).lead)

/-- Whether the next line of the frame being staged is due for its request: at its start less LEAD (03 R115). -/
def newRequestDue (s : State) (h : Nat) (c : HeadCfg) : Bool :=
  let st := stagerOf s h
  decide (st.line < c.vActive) &&
    decide ((now s : Int) ≥ stagedTick s h ((st.frame + 2 ^ 32 - (headOf s h).frame) % 2 ^ 32) st.line - st.lead)

/-- Whether the frame in progress still takes lines after the switch to the next one. -/
def olderOpen (s : State) (h : Nat) (c : HeadCfg) : Bool :=
  switched s h && decide ((headOf s h).state ≠ .disabled) && (decide (c.kind ≠ .video) || !latchPassed (headOf s h) c)

/-- Whether a line of the frame in progress that the switch left unrequested is due, at its start less the LEAD that frame is
staged with (03 R115, R149). -/
def oldRequestDue (s : State) (h : Nat) (c : HeadCfg) : Bool :=
  let st := stagerOf s h
  olderOpen s h c && decide (st.oldLine < c.vActive) && decide ((now s : Int) ≥ lineTick s h 0 st.oldLine - st.oldLead)

/-- The line a stager requests now, if one is due: those of the frame in progress first. -/
def requestLine (s : State) (h : Nat) : Option Nat :=
  match (headOf s h).cfg with
  | none => none
  | some c =>
    if oldRequestDue s h c then some (stagerOf s h).oldLine else if newRequestDue s h c then some (stagerOf s h).line else none

/-- The stager requests the next line of the frame being staged. -/
def requestNew (s : State) (h : Nat) (c : HeadCfg) : State :=
  let st := stagerOf s h
  if newRequestDue s h c then setStager s h { st with line := nextDrawn c (drawnArea s h (stagesAhead s h)) (st.line + 1) } else s

/-- The next request of a stager, at a head line's start less LEAD and no earlier (03 R115). -/
def stagerRequestOf (s : State) (h line : Nat) : State :=
  match (headOf s h).cfg with
  | none => s
  | some c =>
    let st := stagerOf s h
    if requestLine s h ≠ some line then s
    else if oldRequestDue s h c then setStager s h { st with oldLine := nextDrawn c (drawnArea s h false) (st.oldLine + 1) }
    else requestNew s h c

/-- The stager of a head turns to the next frame. Where its line 0 is due by then, it is requested with the switch
(03 R115). -/
def switchStager (s : State) (h : Nat) : State :=
  let hd := headOf s h
  match hd.cfg with
  | none => s
  | some c =>
    let s := (s.flights.filter fun f => f.op == 0x31 && takenBy s h (latchLag c) (nextLatchTick s h) f && dbit f.desc 19 7).foldl
      testUpdate s
    let lead := (stagerOf s h).lead
    let s := (leadsFor s h).foldl applyStager s
    let arr := nextArrangement s h
    let no := nextStaged hd
    let s := modHead s h fun hd => { hd with nextMap := some (ownerMap c arr no), clearing := clearingMap c arr }
    let st := stagerOf s h
    requestNew (setStager s h { st with
      frame := no, line := nextDrawn c (drawnArea s h true) 0, arrived := 0, older := st.arrived, oldLine := st.line, oldLead := lead }) h c

/-- STAGER_SWITCH. -/
def stagerSwitchOf (s : State) (h : Nat) : State :=
  if (headOf s h).state = .disabled || switched s h || (now s : Int) < switchTick s h then s else switchStager s h

/-- The switch, where it has not been made. -/
def ensureSwitch (s : State) (h : Nat) : State := if switched s h then s else switchStager s h

/-! ### Staging (03 R115, R116, R125) -/

/-- Whether any layer of an arrangement is fetched (08 R378). -/
def fetches (c : HeadCfg) (l : List (Nat × Nat × LayerState)) : Bool :=
  l.any fun e => e.2.2.enable && !isSolid e.2.2.format && !fetchStopped c l e.2.2

/-- Source lines that head line y uses and the head line before it does not. -/
def freshLines (c : HeadCfg) (st : LayerState) (y : Nat) : List Nat :=
  let l := sourceLines st y
  if (clipped c st).y0 < (y : Int) then l.filter fun j => !(sourceLines st (y - 1)).contains j else l

/-- The content of a secure layer's source line: bytes of the applet's buffer, free values (log entry 3). -/
def secureLine (s : State) (st : LayerState) : StagedLine × State :=
  let (bs, s) := freshBytes s (planeLine st 32)
  ({ bytes := bs }, s)

/-- Source columns that a destination column of a layer uses (08 R358 to R361). -/
def sourceColumns (st : LayerState) (x : Nat) : List Nat :=
  let col := fun (i : Int) =>
    let i := (clampI 0 ((st.srcW : Int) - 1) i).toNat
    st.srcX + (if st.hFlip then st.srcW - 1 - i else i)
  let dx := ((x : Int) - st.dstX).toNat
  if st.srcW = st.dstW then [col dx]
  else (List.range 8).map fun (k : Nat) => col ((scalePos st.srcW st.dstW dx).1 - 3 + (k : Int))

/-- The source columns that the tiles of a layer which are not hidden use of a line in the area drawn, where `uses` tells the
head lines that use it (08 R378, 09 R425). -/
def neededColumns (c : HeadCfg) (l : List (Nat × Nat × LayerState)) (area : Option (List Rect)) (st : LayerState)
    (uses : Nat → Bool) : List Nat :=
  let r := clipped c st
  ((List.range (tileCols c * tileRows c)).filter fun i =>
    r.meets (tileRect c (i % tileCols c) (i / tileCols c)) && !hiddenTile c l st (i % tileCols c) (i / tileCols c)).flatMap fun i =>
      let q := tileRect c (i % tileCols c) (i / tileCols c)
      (area.getD [q]).flatMap fun a =>
        let y0 := (max a.y0 (max q.y0 r.y0)).toNat
        let x0 := (max a.x0 (max q.x0 r.x0)).toNat
        if (List.range ((min a.y1 (min q.y1 r.y1)).toNat - y0)).any fun k => uses (y0 + k) then
          (List.range ((min a.x1 (min q.x1 r.x1)).toNat - x0)).flatMap fun k => sourceColumns st (x0 + k)
        else []

/-- The byte up to which a compressed line is fetched for those of its bytes that are needed: decoding takes every chunk up to the
last of them (08 R351, R378; log entry 33). -/
def ltcReach (st : LayerState) (second : Bool) (enc : List Byte) (need : List Nat) : Nat :=
  let u := planeLine st (planeBits st second)
  if need.isEmpty then 0 else ltcEnd enc (need.foldl max 0) (ceilDiv u 64 + 1) 0 0 u

/-- Whether the beat that holds a byte of a line is fetched (03 R116, 08 R378), of a line with some beats to skip: some tile that is
not hidden uses a pixel in it, or a compressed pixel behind it. -/
def beatFetched (st : LayerState) (base reach : Nat) (need : List Nat) (i : Nat) : Bool :=
  if st.ltc then decide (i / 64 * 64 < reach) else need.any fun b => decide ((base + b) / 64 = (base + i) / 64)

/-- A line that arrives is written over its whole place in the ring, through a port of group 0 (03 R117; log entry 33). -/
def writeRing (s : State) (g : Ring) (st : LayerState) (j : Nat) : State :=
  (ringPieces s g (linePlace g st j) (lineBytes st)).foldl (fun s p =>
    s.modSr fun r => { r with words := twipe r.words (p.1 / 8) (p.2 / 8) }) (noteMoved s 0)

/-- The owner tag of a ring's staging requests: system's, or secure's for a secure ring (02 R70, 19 R754). -/
def stageTag (g : Ring) : Nat := if g.owner = 0x1D then 0x1D else 0x1E

/-- The words of a ring into which poisoned bytes of a line go are poisoned too (03 R134). -/
def markRing (s : State) (g : Ring) (st : LayerState) (second : Bool) (m : Nat) (bad : List Nat) : State :=
  (ringParts st second m).foldl (fun s r =>
    let o := linePlace g st r.line + r.at'
    let mine := bad.filter fun b => decide (r.lo ≤ b) && decide (b < r.lo + r.len) && decide (r.at' + (b - r.lo) < lineBytes st)
    (mine.map fun b => (o + (b - r.lo)) / 8 * 8).eraseDups.foldl (fun s w =>
      (ringPieces s g w 8).foldl (fun s p => setSrWord s p.1 .poisoned) s) s) s

/-- One line of a plane is fetched and staged: what its beats hold is counted (17 R707, R708, R728). A ring place that the stager
may not touch takes nothing and fires SR_ACCESS (03 R103, R104). -/
def stagePlane (c : HeadCfg) (arr : List (Nat × Nat × LayerState)) (area : Option (List Rect)) (cull : Bool)
    (e : Nat × Nat × LayerState) (g : Ring) (j : Nat) (second : Bool) (uses : Nat → Bool) (s : State) (m : Nat) : State :=
  let st := e.2.2
  let (bs, bad) := storedLine s e.2.1 st second m
  let base := planeBase st second m
  let need := if cull then (neededColumns c arr area st uses).flatMap (if second then chromaBytes st else pixelBytes st) else []
  let reach := if cull && st.ltc then ltcReach st second bs need else 0
  let kept := fun (i : Nat) => !cull || beatFetched st base reach need i
  let s := ((List.range (ceilDiv bs.length 64)).filter fun b => kept (64 * b)).foldl (fun s b =>
    let n := min 64 (bs.length - 64 * b)
    countBulk (noteBulk s 0x1E e.2.1 (base + 64 * b) n) 0x1E n false) s
  if !ringOpen s g (stageTag g) st j then srAccessFault s (stageTag g) else
  let bad := bad.filter kept
  let s := if second then markRing s g st second m bad else markRing (writeRing s g st j) g st second m bad
  s.modComp fun k => { k with staged := tset {} k.staged (e.1 * 2 ^ 18 + planeKey second m) (heldLine st second bs bad) }

/-- The source lines one layer of an arrangement needs for a head line are staged (03 R116, R117; log entry 33). -/
def stageLayer (c : HeadCfg) (arr : List (Nat × Nat × LayerState)) (area : Option (List Rect)) (y : Nat) (s : State)
    (e : Nat × Nat × LayerState) : State :=
  let st := e.2.2
  let r := clipped c st
  if !st.enable || isSolid st.format || !(decide (r.y0 ≤ (y : Int)) && decide ((y : Int) < r.y1)) || r.isEmpty then s else
  let g := ringOfSlot s e.1 e.2.1
  let cull := area.isSome || (List.range (tileCols c * tileRows c)).any fun i => hiddenTile c arr st (i % tileCols c) (i / tileCols c)
  (if y ≠ 0 && rowDrawn area (y - 1) then freshLines c st y else sourceLines st y).foldl (fun s j =>
    if e.2.1 = 0x1D then
      if !ringOpen s g 0x1D st j then srAccessFault s 0x1D else
      let (l, s) := secureLine s st
      (writeRing s g st j).modComp fun k => { k with staged := tset {} k.staged (e.1 * 2 ^ 18 + j) l }
    else
      let s := stagePlane c arr area cull e g j false (fun q => (sourceLines st q).contains j) s j
      (chromaLines st j).foldl (fun s m =>
        stagePlane c arr area cull e g j true (fun q => (sourceLines st q).any fun j => (chromaLines st j).contains m) s m) s) s

/-- The data of a head line has arrived: the margin is recorded and the lines are in the rings (03 R125). Lines the older
frame still lacks come first; a line arrives after its request (03 R115). -/
def stagingArrivalOf (s : State) (h line : Nat) : State :=
  let st := stagerOf s h
  let hd := headOf s h
  match hd.cfg with
  | none => s
  | some c =>
    let old := olderOpen s h c && decide (st.older ≤ line) && decide (line < st.oldLine)
    let ahead := !old && stagesAhead s h
    let area := drawnArea s h ahead
    if line ≥ c.vActive || (!old && decide (line ≥ st.line)) || !rowDrawn area line then s else
    let n := if old then 0 else (st.frame + 2 ^ 32 - hd.frame) % 2 ^ 32
    let arr := if old then currentArrangement s h else stagedArrangement s h
    let margin := (stagedTick s h n line - now s).toNat
    let s := (arr.filter fun e => !fetchStopped c arr e.2.2).foldl (stageLayer c arr area line) s
    setStager s h { st with
      least := min st.least margin, older := if old then line + 1 else st.older, arrived := if old then st.arrived else max st.arrived (line + 1) }

/-- Whether the data of a head line of the frame in progress is in the rings. -/
def lineHeld (s : State) (h y : Nat) : Bool :=
  let c := (headOf s h).cfg.getD {}
  !fetches c (currentArrangement s h) ||
    (if switched s h then decide (y < (stagerOf s h).older) else decide (y < (stagerOf s h).arrived))

/-- Whether the stager holds head lines 0 to 15 of the next frame (09 R428). -/
def nextHeld (s : State) (h : Nat) : Bool :=
  let c := (headOf s h).cfg.getD {}
  !fetches c (stagedArrangement s h) || (switched s h && decide ((stagerOf s h).arrived ≥ min 16 c.vActive))

/-- A stager's epoch ends (03 R125, R126). -/
def stagerEpoch (s : State) (h : Nat) : State :=
  let st := stagerOf s h
  let s := setStager s h { st with margin := st.least, least := 0xFFFFFFFF }
  if st.warn ≠ 0 && st.least < st.warn then raise s (srcStockroom 3) 0 else s

/-! ### The latch -/

/-- Damage a change brings to a push head (09 R421). -/
def noteDamage (s : State) (h : Nat) (rs : List Rect) : State :=
  match (headOf s h).cfg with
  | some c => if c.kind = .video then s else modHead s h fun hd => { hd with damage := hd.damage ++ rs.filter fun r => !r.isEmpty }
  | none => s

/-- A layer takes a state at a latch (08 R383, R371): layers of its tenancy that hold the new z exchange with it. -/
def takeState (s : State) (h sl : Nat) (st : LayerState) (c1 : Bool) : State :=
  match (headOf s h).cfg with
  | none => s
  | some c =>
    let old := (slotOf s sl).cur
    let t := (slotOf s sl).owner
    let from' := shownFrom (headOf s h)
    let s := if st.enable && old.enable then
        ((boundTo s h).filter fun i => decide (i ≠ sl) && decide ((slotOf s i).owner = t) && (slotOf s i).cur.enable &&
          decide ((slotOf s i).cur.z = st.z)).foldl (fun s i =>
            modSlot s i fun v => { v with cur := { v.cur with z := old.z }, latched := from' }) s
      else s
    let s := noteDamage s h (shownRect c old ++ shownRect c st)
    let n := ringShelves s c (stagerOf s h).lead st
    let have' := (ringOfSlot s sl t).shelves.length
    let s := if n = have' then s else placeRing s sl t n
    modSlot s sl fun v => { v with cur := st, latched := from', lastC1 := c1 }

/-- An update takes effect (08 R384, R390): held updates of the layer before it are superseded (R393). -/
def latchUpdate (s : State) (h : Nat) (f : Flight) : State :=
  let sl := auxSlot f
  let s := takeState s h sl (layerPayload f.desc) (decide (classOf f.desc = 1))
  let again := fun (s : State) => if auxHeld f = 0 then s else renewCharges s sl
  let s := (s.flights.filter fun g => g.op == 0x31 && decide (auxSlot g = sl) && decide (g.id < f.id) && decide (auxState g = 2) &&
    decide (g.phase ≠ .first)).foldl (fun s g => finishDone s g (min 0xFFFF (auxHeld g) + 2 ^ 31)) s
  again (finishDone s f (min 0xFFFF (auxHeld f)))

/-- A layer leaves its head for good (08 R394). -/
def latchFree (s : State) (h : Nat) (f : Flight) : State :=
  let s := noteDamage s h (shownRect ((headOf s h).cfg.getD {}) (slotOf s (auxSlot f)).cur)
  releaseSlot (finishDone s f) (auxSlot f)

/-- A moved layer leaves its old head, which may be at any head's latch (09 R438, R439). -/
def departMove (s : State) (f : Flight) : State :=
  let sl := auxSlot f
  let v := slotOf s sl
  if v.moving then s else
  let s := noteDamage s v.head (shownRect ((headOf s v.head).cfg.getD {}) v.cur)
  let g := ringOfSlot s sl v.owner
  let need := match (headOf s (auxHead f)).cfg with
    | some c => ringShelves s c (stagerOf s (auxHead f)).lead v.cur
    | none => 0
  let s := setRing s { g with shelves := [], spare := ((g.shelves ++ keptShelves s g).eraseDups.take need).map fun i => (i, f.id) }
  await (modSlot s sl fun v => { v with moving := true }) f (.latch (auxHead f) 0)

/-- It joins its new head (09 R438). -/
def arriveMove (s : State) (h : Nat) (f : Flight) : State :=
  let sl := auxSlot f
  let s := departMove s f
  match (headOf s h).cfg with
  | none => s
  | some c =>
    let st := (slotOf s sl).cur
    let s := noteDamage s h (shownRect c st)
    let s := modSlot s sl fun v => { v with head := h, moving := false, latched := shownFrom (headOf s h) }
    finishDone (placeRing s sl (slotOf s sl).owner (ringShelves s c (stagerOf s h).lead st)) f

/-- The rectangles a HEAD_PUSH declares (09 R421, R422). -/
def latchPush (s : State) (h : Nat) (f : Flight) : State :=
  let st := (slotOf s (auxSlot f)).cur
  let c := (headOf s h).cfg.getD {}
  finishDone (noteDamage s h ((pushRects f.desc st).map (mapRect c st))) f

/-- A change waits for its latch (08 R383 to R398), or takes effect now where the head has none (09 R869). -/
def startAtLatch (s : State) (f : Flight) : State :=
  await s f (.latch (auxHead f) (f.promised.getD (f.admitted + headLead s (auxHead f))))

/-- LAYER_CLUT keeps its data as the shadow copy that its latch applies (08 R397). -/
def startLayerClut (s : State) (f : Flight) : State :=
  let n := if dget f.desc 17 1 = 1 then 1792 else 8 * dget f.desc 20 2
  let g := { f with data := some (flightData s f (dget f.desc 24 8) n) }
  if (f.aux.drop 1).headD 0 = 2 then finishDone (if n = 0 then s else applyClut s g (g.data.getD [])) g
  else startAtLatch (setFlight s g) g

/-- A fenced change whose ring has nothing earlier left begins its work at the latch it was promised (06 R278). -/
def startFenced (s : State) (h : Nat) (f : Flight) : State :=
  if !fencedLatch f h || earlierInRing s f then s
  else if f.op = 0x34 then startLayerClut s f else startAtLatch s f

/-- Whether an ASSAY_EXPECT is held with a LAYER_UPDATE of its tenancy for the same frame and head (10 R468): one that
this latch neither takes nor supersedes. -/
def heldExpect (s : State) (h : Nat) (f : Flight) : Bool :=
  f.op == 0x52 && auxNamed f && s.flights.any fun u =>
    u.op == 0x31 && u.src.fn == f.src.fn && auxHead u == h && auxNamed u && auxFrame u == auxFrame f && auxState u == 2
      && !(s.flights.any fun v => v.op == 0x31 && auxSlot v == auxSlot u && decide (u.id < v.id) && auxState v == 1
        && takenBy s h 0 (now s) v)

/-- One change at a latch of a head, if that latch takes it. -/
def latchOne (h : Nat) (s : State) (g : Flight) : State :=
  let s := startFenced s h ((flightBy s (·.id == g.id)).getD g)
  match flightBy s (·.id == g.id) with
  | none => s
  | some f =>
    if departs s h 0 f then departMove s f
    else if frameMissed s h f then missOrder s f (now s)
    else if arrives s h 0 f && departed s f then arriveMove s h f
    else if heldExpect s h f then
      (if waitsLatch f h && decide (dueAhead s h f = 0) then setFlight s { f with aux := setAt f.aux 3 (auxHeld f + 1) } else s)
    else if !(waitsLatch f h && takenBy s h 0 (now s) f) then s
    else if f.op = 0x31 then (if auxState f = 1 then latchUpdate s h f else s)
    else if f.op = 0x32 then latchFree s h f
    else if f.op = 0x34 then finishDone (applyClut s f (f.data.getD [])) f
    else if f.op = 0x35 then finishDone (applyPolicy s f.desc) f
    else if f.op = 0x43 then latchPush s h f
    else if f.op = 0x51 || f.op = 0x52 || f.op = 0x53 || f.op = 0x55 then finishDone (applyAssay s f) f
    else s

/-- Layers whose frame used zero for a poisoned word report it (08 R399, R400). -/
def endPoison (s : State) (h : Nat) : State :=
  ((boundTo s h).filter fun i => (slotOf s i).poisonSeen).foldl (fun s i =>
    raise (modSlot s i fun v => { v with poisonSeen := false, poisoned := min 0xFFFFFFFF (v.poisoned + 1) }) (srcLayer i) 1) s

/-- The latch of a head (09 R415, R417): every change it takes, in issue order, then the secure layers and the layers of
tenancies that leave it or come back. -/
def latchHead (s : State) (h : Nat) : State :=
  joinLayers (leaveAtLatch (latchSecure (s.flights.foldl (latchOne h) s) h) h) h

/-! ### What starts at the first completion -/

def startLayerUpdate (s : State) (f : Flight) : State := startAtLatch s f

/-- A layer of a disabled head is freed at the first epoch start (09 R447). -/
def startLayerFree (s : State) (f : Flight) : State := if (f.aux.drop 1).headD 0 = 2 then await s f .epoch else startAtLatch s f

def applyLayerFree (s : State) (f : Flight) : State := releaseSlot (finishDone s f) (auxSlot f)

def startLayerMove (s : State) (f : Flight) : State := await s f (.latch (slotOf s (auxSlot f)).head 0)

/-- The refusal a LAYER_CLUT's data earns, as its first completion (08 R396, R397). -/
def clutDataFault (s : State) (f : Flight) : Option Verdict :=
  let n := if dget f.desc 17 1 = 1 then 1792 else 8 * dget f.desc 20 2
  if n = 0 then none else firstSome [dataFault f, clutFault f.desc (flightData s f (dget f.desc 24 8) n)]

def startLayerPolicy (s : State) (f : Flight) : State :=
  if (f.aux.drop 1).headD 0 = 2 then finishDone (applyPolicy s f.desc) f else startAtLatch s f

def startHeadPush (s : State) (f : Flight) : State := startAtLatch s f

/-- HEAD_QUIET waits for line 0 of the next frame, or the next push slot (09 R449). -/
def startHeadQuiet (s : State) (f : Flight) : State := await s f .unit

end Sys2Proof.Machine
end

