-- ==== Sys2Proof/Machine/RasterOps.lean ====
section
/-! DEFINITION. The raster of a head (09): its line slots, frames and pushes, underruns and recovery, and its link. -/

namespace Sys2Proof.Machine

/-! ### Line slots (09 R412, R429) -/

/-- The tick at which slot j of the frame in progress starts. The pacer of a tracked head is an accumulator that keeps the
fraction of a tick from frame to frame (01 R30, 02 R66; log entry 138). -/
def slotTick (s : State) (h j : Nat) : Nat :=
  let hd := headOf s h
  match hd.cfg with
  | none => 0
  | some c =>
    if c.tracked then hd.l0 + (hd.l0Frac + j * c.phase) / 65536
    else (linearTick s (linearOf s hd.sched + (((j : Int) - hd.early) * frameTicks s c).fdiv c.vTotal)).toNat

/-- The tick at which a head's next line slot starts. -/
def nextSlotAt (s : State) (h : Nat) : Option Nat :=
  let hd := headOf s h
  let raster := if hd.state = .disabled then none else some (slotTick s h hd.slots)
  match raster, hd.startDue with
  | some a, some b => some (min a b)
  | none, b => b
  | a, none => a

def lineDue (s : State) (h : Nat) : Bool := match nextSlotAt s h with | some t => decide (t ≤ now s) | none => false

/-! ### Lines -/

/-- The layers that are fetched and have a part of line y of a head (08 R378). -/
def drawnFrom (s : State) (h : Nat) (c : HeadCfg) (arr : List (Nat × Nat × LayerState)) (y : Nat) : List Nat :=
  (byZ s h).filter fun i =>
    let r := clipped c (slotOf s i).cur
    decide (r.y0 ≤ (y : Int)) && decide ((y : Int) < r.y1) && !r.isEmpty && !isSolid (slotOf s i).cur.format &&
      !fetchStopped c arr (pixelState (slotOf s i))

/-- The source lines that line y of a head takes from a layer, those left out that the line before it took where it comes straight
after that. -/
def newLines (c : HeadCfg) (st : LayerState) (y : Nat) (after : Bool) : List Nat :=
  if after then freshLines c st y else sourceLines st y

/-- What drawing a line notes in each layer: the lines it decoded under R352 and whether it used a poisoned word
(08 R399, R400), which no hidden tile does. -/
def lineNotes (s : State) (h : Nat) (c : HeadCfg) (y : Nat) (after : Bool) : List (Nat × Nat × Bool) :=
  let arr := currentArrangement s h
  (drawnFrom s h c arr y).map fun i =>
      let st := pixelState (slotOf s i)
      let r := clipped c st
      let n := ((newLines c st y after).filter fun j =>
        (stagedFirst s i j).2.1 || (chromaLines st j).any fun m => (stagedSecond s i m).2.1).length
      (i, n, (List.range (r.x1 - r.x0).toNat).any fun k =>
        slotPoisoned s (linesOf s) i (r.x0.toNat + k) y && !hiddenTile c arr st ((r.x0.toNat + k) / 64) (y / 64))

def noteLine (s : State) (e : Nat × Nat × Bool) : State :=
  let s := modSlot s e.1 fun v => { v with ltcErrors := min 0xFFFFFFFF (v.ltcErrors + e.2.1), poisonSeen := v.poisonSeen || e.2.2 }
  if e.2.1 ≠ 0 then raise s (srcLayer e.1) 2 else s

/-- The compose pipe reads the source lines it has not read for the line before from the rings, through its port in group 2, as
requests of the layer's tenancy, which are counted (03 R131, R132, R155, R156; 04 R185). Shelves that the tag may not touch give
poisoned zeros and fire SR_ACCESS (03 R103, R104). -/
def readRings (s : State) (h : Nat) (c : HeadCfg) (y : Nat) (after : Bool) : State :=
  (drawnFrom s h c (currentArrangement s h) y).foldl (fun s i =>
      let st := pixelState (slotOf s i)
      let g := shownRing s i
      (newLines c st y after).foldl (fun s j =>
        (ringPieces s g (linePlace g st j) (lineBytes st)).foldl (fun s p =>
          if mayTouch s g.owner (p.1 / 2 ^ 18) then countSrBytes (noteRead s 2 p.1 p.2) g.owner p.2 false
          else srAccessFault s g.owner) s) s) s

/-- An active line of a video-mode head begins (08 R366; 19 R775); what its shadow regions need lands (10 R470). -/
def beginLine (s : State) (h : Nat) (c : HeadCfg) (y : Nat) : State :=
  let s := landRow (fallBack s h) h y fun _ => true
  let black := (headOf s h).blanking
  let s := if black then s else readRings ((lineNotes s h c y true).foldl noteLine s) h c y true
  let px := pipeLine s h c y
  modHead s h fun hd => { hd with pixels := px, slot := if black then .black else .line }

/-- The state as the push of a head is computed from: its number, background and slots as latched (09 R423). -/
def pushView (s : State) (h : Nat) (p : Push) : State :=
  let s := p.slots.foldl (fun s e => setSlot s e.1 e.2) s
  modHead s h fun hd => { hd with frame := p.number, background := p.background }

/-- Does something to the integrity units as of a push. -/
def inPush (s : State) (h : Nat) (p : Push) (f : State → State) : State := (f (pushView s h p)).modComp fun _ => s.comp

/-- The lines of a push in sending order: rectangle and line (09 R420). -/
def pushLines (p : Push) : List (Rect × Nat) :=
  p.damage.flatMap fun r => (List.range (r.y1 - r.y0).toNat).map fun k => (r, r.y0.toNat + k)

/-- Whether a unit's rectangle lies, across, within what a push line sends. -/
def withinSpan (r : Rect) (v : Assay) : Bool := decide (r.x0 ≤ (rectOf v).x0) && decide ((rectOf v).x1 ≤ r.x1)

/-- What the shadow regions need of the lines that a head's latched pushes have still to send lands, before a latch gives the
buffers they are drawn from back (03 R123). -/
def landPushes (s : State) (h : Nat) : State :=
  let hd := headOf s h
  (hd.push.toList ++ hd.queued).foldl (fun s p =>
    inPush s h p fun v => (pushLines p).foldl (fun v l => landRow v h l.2 (withinSpan l.1)) v) s

/-- The next line of the push in progress begins. -/
def beginPushLine (s : State) (h : Nat) (c : HeadCfg) : State :=
  let hd := headOf s h
  match hd.push with
  | none => s
  | some p =>
    if !hd.pushing then s else
    match (pushLines p).drop hd.sent with
    | [] => s
    | (r, y) :: _ =>
      let s := inPush (fallBack s h) h p fun v => landRow v h y (withinSpan r)
      let v := pushView s h p
      let px := pipeLine v h c y
      let after := decide (0 < hd.sent) && ((pushLines p)[hd.sent - 1]?).any fun l => decide (l.2 + 1 = y)
      let s := readRings ((lineNotes v h c y after).foldl noteLine s) h c y after
      modHead s h fun hd => { hd with pixels := px, sent := hd.sent + 1 }

/-- The line in progress has been sent: the units of the head have seen it (10 R455). -/
def endLine (s : State) (h : Nat) : State :=
  let hd := headOf s h
  match hd.cfg with
  | none => s
  | some c =>
    if hd.pixels.isEmpty then s else
    let s := if c.kind = .video then feedLine s h hd.line hd.frame hd.pixels (drawLine s h c hd.line hd.pixels) (fun _ => true)
      else match hd.push with
        | none => s
        | some p =>
          match (pushLines p)[hd.sent - 1]? with
          | none => s
          | some (r, y) => inPush s h p fun v => feedLine v h y p.number hd.pixels (drawLine v h c y hd.pixels) (withinSpan r)
    modHead s h fun hd => { hd with pixels := [] }

/-! ### Pushes (09 R418 to R424) -/

/-- Push n of a head starts, for the history of 13 R590. -/
def noteStart (n t : Nat) (hd : Head) : Head :=
  { hd with maps := hd.maps.map fun m => if m.frame = n then { m with start := some t } else m }

/-- A push starts (09 R418). -/
def startPush (s : State) (h t : Nat) : State :=
  match (headOf s h).push with
  | none => s
  | some p => modHead s h fun hd => noteStart p.number t { hd with
      pushing := true, sent := 0, l0 := t, l0Epoch := (instantOfTick s t).1, l0Offset := (instantOfTick s t).2 }

/-- Whether the push at the front may start: on a PSR2 head at once, on a command-mode head once its TE edge has come
(09 R418; that an edge that came while the push before it ran starts it at that one's end is the model's choice, log entry 147). -/
def pushReady (s : State) (h : Nat) : Bool :=
  let hd := headOf s h
  !hd.pushing && hd.push.any fun p => p.edge || decide ((hd.cfg.getD {}).kind = .psr2)

/-- What follows a push that has ended or was missed: the one latched behind it, and its start where it may. -/
def afterPush (s : State) (h : Nat) : State :=
  let s := modHead s h fun hd => { hd with pushing := false, push := hd.queued.head?, queued := hd.queued.tail, sent := 0, pixels := [] }
  if pushReady s h then startPush s h (now s) else s

/-- Damage that the push at the front has not sent goes into the next push: one latched behind it, or the one to come
(09 R419, R433). -/
def carryOn (s : State) (h : Nat) (rs : List Rect) : State :=
  modHead s h fun hd =>
    match hd.queued with
    | q :: l => { hd with queued := { q with damage := reduceDamage (hd.cfg.getD {}) hd.dsc (q.damage ++ rs) } :: l }
    | [] => { hd with carried := hd.carried ++ rs }

/-- The head stops where a HEAD_DISABLE waits for the end of its frame or push (09 R447). -/
def stopAtEnd (s : State) (h : Nat) : State :=
  if (headOf s h).stopDue.isNone then s else
  let s := stopHead s h
  match flightBy s fun f => f.op == 0x42 && decide (f.phase = .unit) && f.aux.head? == some h with
  | some f => finishDone s f
  | none => s

/-- Whether every line of the push in progress has been sent. -/
def pushSent (s : State) (h : Nat) : Bool :=
  let hd := headOf s h
  hd.pushing && (match hd.push with | some p => decide (hd.sent ≥ (pushLines p).length) | none => false)

def pushEndDue (s : State) (h : Nat) : Bool := pushSent s h && (headOf s h).pixels.isEmpty

/-- PUSH_END: the units compare (10 R462). -/
def pushEndOf (s : State) (h : Nat) : State :=
  match (headOf s h).push with
  | none => s
  | some p =>
    if !pushSent s h then s else
    let s := inPush (endLine s h) h p fun v => compareHead v h
    stopAtEnd (afterPush (endPoison s h) h) h

/-- The units of a head are left incomplete by a push that ends early or is missed (10 R463). -/
def losePush (s : State) (h : Nat) (p : Push) : State :=
  inPush s h p fun v => compareHead ((headUnits v h).foldl (fun v u => modAssay v u fun a => { a with missed := true }) v) h

/-- The active edge of DSI_TE: it starts the push that waits, and those behind it need no other (09 R418); later it opens the
head's quiet window (R436). -/
def teEdgeOf (s : State) (h : Nat) (rising : Bool) : State :=
  let hd := headOf s h
  let c := hd.cfg.getD {}
  if c.kind ≠ .command || rising == c.tePol then s else
  let seen := fun (p : Push) => if p.latched ≤ now s then { p with edge := true } else p
  let s := modHead s h fun hd => { hd with
    teEdges := now s :: hd.teEdges.filter fun t => decide (now s < t + hd.quiet.teOfs + hd.quiet.teLen)
    push := if hd.pushing then hd.push else hd.push.map seen
    queued := hd.queued.map seen }
  if pushReady s h then startPush s h (now s) else s

/-- Whether the wait of a push for its TE edge has run out (09 R419). -/
def waitedOut (s : State) (c : HeadCfg) (p : Push) : Bool := !p.edge && decide (now s > p.latched + 4 * c.teWait)

/-- Whether the push at the front has missed its TE edge, or one behind the push in progress has. -/
def teMissedDue (s : State) (h : Nat) : Bool :=
  let hd := headOf s h
  let c := hd.cfg.getD {}
  decide (c.kind = .command) && (if hd.pushing then hd.queued.any (waitedOut s c) else hd.push.any (waitedOut s c))

/-- A push that will not be sent is counted; each promise for it is a missed instant (09 R419). -/
def countMissed (s : State) (h : Nat) (p : Push) : State :=
  let s := raise (modHead (losePush s h p) h fun hd => { hd with teMissed := min 0xFFFFFFFF (hd.teMissed + 1) }) (srcHead h 2) 0
  if p.owing = 0 then s else assert s 23 p.owing

/-- The queue without a push of it, whose damage goes into the one behind it; none where nothing is behind it. -/
def dropQueued (c : HeadCfg) (dsc : Option Dsc) (n : Nat) : List Push → Option (List Push)
  | [] => none
  | [p] => if p.number = n then none else some [p]
  | p :: q :: l =>
    if p.number = n then some ({ q with damage := reduceDamage c dsc (q.damage ++ p.damage) } :: l)
    else (dropQueued c dsc n (q :: l)).map (p :: ·)

/-- No TE edge within TE_WAIT of the latch point (09 R419): the damage goes into the next push. -/
def teMissedOf (s : State) (h : Nat) : State :=
  let hd := headOf s h
  let c := hd.cfg.getD {}
  if !teMissedDue s h then s
  else if hd.pushing then
    match hd.queued.find? (waitedOut s c) with
    | none => s
    | some p =>
      modHead (countMissed s h p) h fun hd =>
        match dropQueued c hd.dsc p.number hd.queued with
        | some l => { hd with queued := l }
        | none => { hd with queued := hd.queued.filter fun q => q.number ≠ p.number, carried := hd.carried ++ p.damage }
  else
    match hd.push with
    | none => s
    | some p => afterPush (carryOn (countMissed s h p) h p.damage) h

/-- The tenancies whose promises the next latch of a head keeps; a held update's is none (08 R390). -/
def owingAt (s : State) (h : Nat) : Nat :=
  (s.flights.filter fun f => f.promised.isSome && !f.withdrawn && !(f.op == 0x31 && auxState f == 2) && (takenBy s h 0 (now s) f || arrives s h 0 f)).foldl
    (fun m f => m ||| partyBit f.src.fn) 0

/-- A push slot (09 R416 to R424): the latch, and the push it makes; the slot also sends a line of the push in progress
(R420). -/
def pushSlot (s : State) (h t : Nat) (c : HeadCfg) : State :=
  let owing := owingAt s h
  let s := latchHead (landPushes s h) h
  let hd := headOf s h
  let damage := reduceDamage c hd.dsc (hd.damage ++ hd.carried ++ c1Rects h (assayOf s))
  let s := modHead s h fun hd => { hd with damage := [], carried := [] }
  if damage.isEmpty then
    let s := modHead s h fun hd => { hd with emptyPushes := min 0xFFFFFFFF (hd.emptyPushes + 1) }
    if hd.push.isSome then beginPushLine s h c else
    modHead s h fun hd => noteStart hd.frame t { hd with
      l0 := t, l0Epoch := (instantOfTick s t).1, l0Offset := (instantOfTick s t).2 }
  else
    let p : Push := { number := hd.frame, latched := t, background := hd.background,
                      slots := (boundTo s h).map fun i => (i, slotOf s i), damage := damage, owing := owing }
    let busy := hd.push.isSome
    let s := modHead s h fun hd => { hd with
      pushes := min 0xFFFFFFFF (hd.pushes + 1), push := if busy then hd.push else some p,
      queued := if busy then hd.queued ++ [p] else [] }
    beginPushLine (if c.kind = .psr2 && !busy then startPush s h t else s) h c

/-! ### Frames -/

/-- The ownership map of the frame that starts at tick t enters the history (08 R382), with what places its lines. -/
def keepMap (s : State) (h t : Nat) (c : HeadCfg) : State :=
  modHead s h fun hd =>
    let m := match hd.nextMap with
      | some m => if m.frame = hd.frame then m else ownerMap c (currentArrangement s h) hd.frame
      | none => ownerMap c (currentArrangement s h) hd.frame
    let m := { m with
      start := if c.kind = .video then some t else none, sched := hd.sched, early := hd.early, frac := hd.l0Frac }
    { hd with maps := (m :: hd.maps).take 4, nextMap := none }

/-- Line 0 of a frame or a push slot starts at tick t: its number is already set. -/
def beginFrame (s : State) (h t : Nat) : State :=
  let s := modHead s h fun hd => { hd with
    line := 0, slots := 1, slot := .line, lineAt := t, aborting := false, blanking := false, skipped := 0,
    maps := match hd.maps with | m :: l => { m with skipped := hd.skipped } :: l | [] => [] }
  let s := showTelltales s h
  let s := (s.flights.filter fun f => f.op == 0x45 && decide (f.phase = .unit) && f.aux.head? == some h).foldl (fun s f =>
    finishDone (modHead s h fun hd => { hd with quiet := quietPayload f.desc }) f) s
  let s := syncEvent s (h + 1)
  match (headOf s h).cfg with
  | none => s
  | some c =>
    let s := keepMap s h t c
    if c.kind = .video then
      let s := modHead s h fun hd => { hd with l0 := t, l0Epoch := (instantOfTick s t).1, l0Offset := (instantOfTick s t).2 }
      beginLine s h c 0
    else pushSlot s h t c

/-- The first frame after HEAD_ENABLE (09 R445, R446), with the new timing of an early head (10 R481). -/
def firstFrame (s : State) (h t : Nat) : State :=
  let hd := headOf s h
  let c := match hd.newCfg with | some c => c | none => hd.cfg.getD {}
  let s := if s.au.early = some h && hd.newCfg.isSome || hd.state ≠ .disabled then s.modAu fun a => { a with early := none } else s
  let no := if c.tracked then c.baseFrame else (firstStart s c t).2
  let s := modHead s h fun hd => { hd with
    cfg := some c, newCfg := none, state := .running, startDue := none, frame := no, sched := t, l0Frac := 0, early := 0, extra := 0 }
  let st := stagerOf s h
  let s := if st.frame = no then s else setStager s h { st with
    frame := no, line := nextDrawn c (drawnArea s h false) 0, arrived := 0, older := c.vActive, oldLine := c.vActive }
  let s := beginFrame s h t
  match flightBy s fun f => f.op == 0x41 && decide (f.phase = .unit) && f.aux.head? == some h with
  | some f => finishDone s f
  | none => s

/-- The frame in progress ends and the next starts at tick t (09 R428, R429, R446). -/
def nextFrame (s : State) (h t : Nat) (c : HeadCfg) : State :=
  if c.kind = .video && (headOf s h).stopDue.isSome then stopAtEnd s h else
  let s := if c.kind ≠ .video then ensureSwitch (if pushSent s h then pushEndOf s h else s) h else s
  let hd := headOf s h
  let k := if c.tracked then 0 else hd.early + c.vTotal - hd.slots
  let back := decide (hd.state = .recovering) && decide (k = 0)
  let s := modHead s h fun hd => { hd with
    frame := (hd.frame + 1) % 2 ^ 32, sched := (linearTick s (linearOf s hd.sched + frameTicks s c)).toNat, early := k,
    l0Frac := if c.tracked then (hd.l0Frac + hd.slots * c.phase) % 65536 else 0,
    state := if k = 0 then .running else .recovering, extra := if c.tracked then 0 else min k (c.vtMax - c.vTotal) }
  let s := if back then raise s (srcHead h 1) 0 else s
  beginFrame s h t

/-- A numbered line of the frame in progress starts at tick t. -/
def nextLine (s : State) (h t l : Nat) (c : HeadCfg) : State :=
  let s := modHead s h fun hd => { hd with
    line := l, slots := hd.slots + 1, slot := .line, lineAt := t, blanking := hd.blanking && decide (l < c.vActive) }
  if c.kind ≠ .video then beginPushLine s h c
  else if l < c.vActive then beginLine s h c l
  else if l = c.latchLine then latchHead (compareHead (endPoison (ensureSwitch s h) h) h) h
  else s

/-- A line without a number: a wait line or a recovery line (09 R428, R429). -/
def bareLine (s : State) (h t : Nat) (kind : SlotKind) : State :=
  modHead s h fun hd => { hd with slots := hd.slots + 1, slot := kind, lineAt := t, extra := if kind = .recovery then hd.extra - 1 else hd.extra }

/-- Whether an aborted frame has to make way for the next at the latest (09 R428). -/
def abortBound (hd : Head) (c : HeadCfg) : Bool :=
  if c.tracked then decide (hd.slots ≥ c.vtMax) else decide (hd.slots ≥ c.vTotal + hd.early)

/-- The lines that an aborted frame does not draw are not staged for it (09 R427, R428). -/
def abandonOlder (s : State) (h : Nat) (c : HeadCfg) : State :=
  setStager s h { stagerOf s h with older := c.vActive, oldLine := c.vActive }

/-- The next slot of a running head, at tick t. -/
def nextSlot (s : State) (h t : Nat) (c : HeadCfg) : State :=
  let hd := headOf s h
  let numbered := decide (hd.slot = .line) || decide (hd.slot = .black)
  if numbered && decide (hd.line + 1 < c.vTotal) then
    if hd.aborting && decide (hd.line < c.vActive) then
      let s := modHead s h fun hd => { hd with skipped := c.vActive - 1 - hd.line }
      nextLine (abandonOlder (ensureSwitch s h) h c) h t c.vActive c
    else nextLine s h t (hd.line + 1) c
  else if hd.aborting then
    if nextHeld s h || abortBound hd c then nextFrame s h t c else bareLine s h t .wait
  else if hd.extra > 0 then bareLine s h t .recovery
  else nextFrame s h t c

/-- Whether the slot of a head at tick t begins a frame. -/
def startsFrame (s : State) (h t : Nat) (c : HeadCfg) : Bool :=
  let hd := headOf s h
  let numbered := decide (hd.slot = .line) || decide (hd.slot = .black)
  (match hd.startDue with | some b => decide (b ≤ t) | none => false) ||
    (!(numbered && decide (hd.line + 1 < c.vTotal)) && (if hd.aborting then nextHeld s h || abortBound hd c else decide (hd.extra = 0)))

/-- LINE_START: the head's next line slot, where it is due. -/
def lineStartOf (s : State) (h : Nat) : State :=
  match nextSlotAt s h with
  | none => s
  | some t =>
    if now s < t then s else
    let s := endLine s h
    let hd := headOf s h
    match hd.startDue, hd.cfg with
    | some b, _ => if b ≤ t then firstFrame s h b else (match hd.cfg with | some c => nextSlot s h t c | none => s)
    | none, some c => nextSlot s h t c
    | none, none => s

/-! ### Underruns (09 R426, R427, R433) -/

/-- The line a head's pipe is drawing, if it draws one. -/
def drawnLine (s : State) (h : Nat) : Option Nat :=
  let hd := headOf s h
  if hd.pixels.isEmpty || hd.blanking || hd.aborting || halted s then none
  else match hd.cfg with
    | none => none
    | some c =>
      if c.kind = .video then some hd.line
      else match hd.push with
        | some p => ((pushLines p)[hd.sent - 1]?).map (·.2)
        | none => none

def underrunDue (s : State) (h : Nat) : Bool := match drawnLine s h with | some y => !lineHeld s h y | none => false

/-- What a push has not sent: the rest of the rectangle in progress and the rectangles after it (09 R433). -/
def unsent (p : Push) (sent : Nat) : List Rect :=
  ((pushLines p).drop (sent - 1)).map fun l => { l.1 with y0 := (l.2 : Int), y1 := (l.2 : Int) + 1 }

/-- The tenancies with an enabled layer on a head. -/
def headTenancies (s : State) (h : Nat) : Nat :=
  ((boundTo s h).filter fun i => (slotOf s i).cur.enable && !(slotOf s i).moving).foldl (fun m i => m ||| partyBit (slotOf s i).owner) 0

/-- UNDERRUN: the pixel at which the beat is missing is a free value (log entry 3). -/
def underrunOf (s : State) (h : Nat) : State :=
  match drawnLine s h with
  | none => s
  | some y =>
    if lineHeld s h y then s else
    let c := (headOf s h).cfg.getD {}
    let (v, s) := freshValue s
    let pos := v.toNat % max 1 c.hActive
    let s := modHead s h fun hd => { hd with
      underruns := min 0xFFFFFFFF (hd.underruns + 1), pixels := hd.pixels.take pos ++ List.replicate (c.hActive - pos) 0 }
    let s := assert (raise s (srcHead h 0) 0) 24 (headTenancies s h)
    if c.kind = .video then modHead s h fun hd => { hd with blanking := c.blankRest, aborting := !c.blankRest }
    else match (headOf s h).push with
      | none => s
      | some p =>
        let s := losePush s h p
        stopAtEnd (afterPush (carryOn s h (unsent p (headOf s h).sent)) h) h

/-! ### Links (09 R443, R445, R451, R870) -/

/-- LINK_LOST. -/
def linkLostOf (s : State) (h : Nat) : State :=
  if !(headOf s h).linkUp || (headOf s h).state = .disabled then s else
  let s := modHead (beginTraining s h) h fun hd => { hd with linkUp := false, lost := true, retrains := min 0xFFFFFFFF (hd.retrains + 1) }
  assert (raise s (srcHead h 3) 0) 25 0

/-- HPD rising, or an HPD IRQ, while the link is down: a new first attempt at once (09 R443, R870). -/
def hpdOf (s : State) (h : Nat) : State :=
  let hd := headOf s h
  let dp := match hd.cfg with | some c => !isDsi c.port | none => false
  if dp && !hd.linkUp && decide (hd.state ≠ .disabled) then restartTraining s h else s

/-- A further attempt at retraining is due. -/
def attemptIsDue (s : State) (h : Nat) : Bool :=
  let hd := headOf s h
  !hd.linkUp && decide (hd.attempts < 3) && (match hd.attemptDue with | some t => decide (t ≤ now s) | none => false)

def retrainOf (s : State) (h : Nat) : State :=
  if !attemptIsDue s h then s else
  modHead s h fun hd => { hd with
    training := true, attempts := hd.attempts + 1, retrains := min 0xFFFFFFFF (hd.retrains + 1),
    attemptDue := if hd.attempts + 1 < 3 then some (s.tl.tick + 40000000) else none }

/-- The commands that wait for a head's link: its HEAD_ENABLE and its HEAD_LINK RETRAINs. -/
def enableFlight (s : State) (h : Nat) : Option Flight :=
  flightBy s fun f => f.op == 0x41 && decide (f.phase = .unit) && f.aux.head? == some h

def retrainFlights (s : State) (h : Nat) : List Flight :=
  s.flights.filter fun f => f.op == 0x48 && decide (f.phase = .unit) && decide (dget f.desc 17 1 = 0) && f.aux.head? == some h

/-- A head whose link is trained starts its raster (09 R445); the stager turns to its first frame. -/
def scheduleStart (s : State) (h : Nat) (after : Nat) : State :=
  match (headOf s h).cfg with
  | none => s
  | some c =>
    let (t, no) := firstStart s c (max after (now s + 1))
    let s := modHead s h fun hd => { hd with startDue := some t, sched := t, l0 := t, frame := no, line := 0, slots := 0, early := 0 }
    let s := setStager s h { stagerOf s h with
      frame := no, line := nextDrawn c (drawnArea s h false) 0, arrived := 0, older := c.vActive, oldLine := c.vActive }
    modHead s h fun hd => { hd with nextMap := some (ownerMap c (currentArrangement s h) no), clearing := clearingMap c (currentArrangement s h) }

/-- LINK_TRAINING_DONE. A link that HEAD_ENABLE cannot train ends that command (09 R445; log entry 34). -/
def trainingDoneOf (s : State) (h : Nat) (success : Bool) : State :=
  let hd := headOf s h
  if !hd.training then s
  else if success then
    let s := modHead s h fun hd => { hd with linkUp := true, training := false, attempts := 0, attemptDue := none, exhausted := false, lost := false }
    let s := if hd.lost then raise s (srcHead h 4) 0 else s
    let s := (retrainFlights s h).foldl (fun s f => finishDone s f) s
    match enableFlight s h with
    | some f => if hd.state = .disabled then scheduleStart s h (f.admitted + 800000) else s
    | none => if s.au.early = some h && hd.state = .disabled then scheduleStart s h 0 else s
  else
    let s := modHead s h fun hd => { hd with training := false, exhausted := hd.exhausted || decide (hd.attempts ≥ 3) }
    let s := if hd.attempts ≥ 3 then (retrainFlights s h).foldl (fun s f => finish s f (refuse 13 0x33 0 25)) s else s
    match enableFlight s h with
    | some f =>
      if hd.state = .disabled then finish (assert (modHead s h fun hd => { hd with exhausted := false, attempts := 0 }) 25 0) f (refuse 13 0x33 0 25)
      else s
    | none => s

/-- AUX_DCS_REPLY: the sink's answer to the oldest operation of HEAD_LINK (09 R451; log entry 35). -/
def linkReplyOf (s : State) (h : Nat) (reply : Option (List Byte)) : State :=
  match flightBy s fun f => f.op == 0x48 && decide (f.phase = .unit) && decide (dget f.desc 17 1 ≠ 0) && f.aux.head? == some h with
  | none => s
  | some f =>
    match reply with
    | none => finish s f (refuse 13 0x33 0 25)
    | some bs =>
      let n := dget f.desc 18 1
      let reads := decide (dget f.desc 17 1 = 1) || decide (dget f.desc 17 1 = 4)
      finishDone (if reads then hostWrite s (dget f.desc 24 8) ((bs ++ zeros 16).take n ++ zeros (64 - n)) else s) f

/-! ### Work orders (02 R75 to R78, 01 R25) -/

/-- Line 0 of a head's next frame, or its next push slot, once it is due: the LINE trigger of a HEAD_QUIET and of a HEAD_DISABLE
(02 R77). -/
def frameStart (s : State) (h : Nat) : Option Nat :=
  let hd := headOf s h
  match nextSlotAt s h, hd.cfg with
  | some t, some c => if t ≤ now s && startsFrame s h t c then some t else none
  | _, _ => none

/-- The instant of the work order a command waits for, once it has come (01 R25): a LINE trigger's when its line has started
(02 R76, R78), an epoch start's, a sample's, or a tick. -/
def orderInstant (s : State) (f : Flight) : Option Nat :=
  match f.phase with
  | .timed t => if f.op = 0x81 || f.op = 0x82 then some t else none
  | .epoch => if s.tl.offset ≥ s.tl.epochLen then some (now s) else none
  | .latch g _ =>
    let h := if f.op = 0x33 then auxHead f else g
    match (headOf s h).cfg with
    | none => none
    | some c =>
      let at' := lineStarts s h (latchOf c)
      let gone := decide (dueAhead s h f ≥ 2 ^ 31)
      let here := (latchPassed (headOf s h) c || decide (at' ≤ now s)) &&
        (if auxNamed f then decide (dueAhead s h f = 0) else decide (at' ≥ f.admitted + headLead s h))
      if gone && auxNamed f then some (f.promised.getD at') else if here then some at' else none
  | .first =>
    if (f.op = 0x81 || f.op = 0x82) && accepted f && classOf f.desc = 3 && !fenced s f && now s ≥ f.admitted + 8000 then
      some (f.admitted + 8000)
    else none
  | .unit =>
    if f.op = 0x45 then frameStart s (f.aux.headD 12)
    else if f.op = 0x42 then
      (if pushEndDue s (f.aux.headD 12) then some (now s) else frameStart s (f.aux.headD 12))
    else match s.audio.changes.find? fun c => c.id == f.id with
    | some c => c.due
    | none =>
      if (f.op = 0x51 || f.op = 0x52 || f.op = 0x53) && f.aux.getD 1 2 = 1 && (unitOf s (f.aux.getD 5 0)).count > f.aux.getD 2 0 then
        some (f.promised.getD (now s))
      else none
  | _ => none

/-- WORK_ORDER_LATE of a slot (01 R25, 02 R78). -/
def lateOrder (s : State) (f : Flight) : State :=
  match orderInstant s f with
  | some t => if t ≤ now s then missOrder s f t else s
  | none => s

/-- A work order whose instant is reached is executed (02 R75): the starts and stops of haptic effects. -/
def executeOrder (s : State) (f : Flight) : State :=
  match f.phase with
  | .timed t => if (f.op = 0x81 || f.op = 0x82) && t ≤ now s then performHaptic s f else s
  | _ => s

end Sys2Proof.Machine
end

