-- ==== Sys2Proof/Machine/SaveOps.lean ====
section
/-! DEFINITION. The migration of a tenancy (05 R243 to R250): the state record, its lengths, what its sealed body carries,
and the checks and effects of TENANCY_SAVE and TENANCY_RESTORE. -/

namespace Sys2Proof.Machine

/-- BODY_LEN (05 R246). -/
def bodyLen (g : Grants) : Nat :=
  4096 + 64 * (g.cmdRings + g.eventRings) + 256 * g.layerSlots + 512 * g.gpuContexts + 128 * g.dmaChannels + 256 * g.audioStreams +
    128 * popCount 16 g.haptic + 2048 * popCount 8 (g.touchExcl ||| g.touchShr) + 64 * g.assayUnits

/-- TOTAL_LEN (05 R246). -/
def saveLen (s : State) (t : Nat) : Nat := 512 + 4 * (tenOf s t).plots.length + bodyLen (tenOf s t).grants + 16

def checkSave (s : State) (c : Cmd) : Ruling :=
  let d := c.d
  let t := dget d 16 1
  let len := dget d 32 4
  ruling
    [lowest [reserved [(16, 0, 8), (20, 0, 32), (24, 0, 64), (32, 0, 32)] d, targetFault d false, (decide (dget d 24 8 % 64 ≠ 0), badParam 0x18)],
     failIf (decide (len ≠ 0) && !inApertures s c.t (dget d 24 8) len) (bounds 0x18),
     failIf (decide (len ≠ 0) && decide (len < saveLen s t)) (bounds 0x20),
     failIf (decide ((tenOf s t).state ≠ .frozen) || targetBusy s t) (badState 0x10), failIf (!keyHeld s (dget d 20 4)) (badState 0x14)]
    (yes .av)

def startSave (s : State) (f : Flight) : State :=
  if dget f.desc 32 4 = 0 then finishDone s f (saveLen s (dget f.desc 16 1)) else await s f .warden

/-! The plain body. The spec gives its length (R246) and what it carries (R247) and no layout: the layout written and read
here is the model's (log entry 32). A fixed part of 4,096 bytes, then one record per granted object in the order and with the
sizes of R246, in local-number order. -/

/-- n bytes that hold fields, each an offset, a width in bytes and a value. -/
def fieldBytes (n : Nat) (l : List (Nat × Nat × Nat)) : List Byte :=
  l.foldl (fun bs f => bs.take f.1 ++ leBytes f.2.1 f.2.2 ++ bs.drop (f.1 + f.2.1)) (zeros n)

/-- A signed value as the field of its width in bits. -/
def twos (w : Nat) (x : Int) : Nat := unsint w x

def saveRing (s : State) (t r : Nat) : List Byte :=
  let c := crOf s t r
  let m : MsixEntry := tget {} (fnOf s t).msix r
  fieldBytes 64 [(0, 1, b2n c.enable + 2 * b2n c.ccEnable + 4 * b2n c.sig.phase), (1, 1, c.sizeLog2), (2, 1, c.ccSizeLog2),
    (3, 1, c.ccModCount), (4, 2, c.ccModTime), (8, 8, c.base), (16, 8, c.ccBase), (24, 2, c.tail), (26, 2, c.head), (28, 2, c.ccHead),
    (30, 2, c.ccTail), (32, 8, m.addr), (40, 4, m.data), (44, 1, b2n m.mask), (46, 3, c.ccUsed), (50, 3, c.handed), (54, 2, c.taken)]

def saveEvRing (s : State) (t n : Nat) : List Byte :=
  match evRingOf s t n with
  | none => zeros 64
  | some p =>
    let e := evRing s p
    let m : MsixEntry := tget {} (fnOf s t).msix (4 + n)
    fieldBytes 64 [(0, 1, b2n e.enable + 4 * b2n e.sig.phase), (1, 1, e.sizeLog2), (3, 1, e.modCount), (4, 2, e.modTime), (8, 8, e.base),
      (24, 2, e.tail), (26, 2, e.head), (32, 8, m.addr), (40, 4, m.data), (44, 1, b2n m.mask)]

/-- A layer's state as the fields of a LAYER_UPDATE payload at an offset. -/
def layerFields (v : LayerState) (o : Nat) : List (Nat × Nat × Nat) :=
  [(o + 17, 1, v.format), (o + 18, 1, v.z),
   (o + 19, 1, b2n v.enable + 2 * b2n v.isOpaque + 4 * b2n v.premult + 8 * b2n v.ltc + 16 * b2n v.hFlip + 32 * b2n v.vFlip),
   (o + 24, 5, v.addr), (o + 32, 4, v.plane2), (o + 36, 2, v.pitch64), (o + 40, 2, v.srcX), (o + 42, 2, v.srcY), (o + 44, 2, v.srcW),
   (o + 46, 2, v.srcH), (o + 48, 2, twos 16 v.dstX), (o + 50, 2, twos 16 v.dstY), (o + 52, 2, v.dstW), (o + 54, 2, v.dstH),
   (o + 56, 2, v.galpha + 1024 * v.filter + 4096 * v.csc), (o + 58, 1, v.assay)]

def saveLayer (s : State) (t n : Nat) : List Byte :=
  match slotNo s t n with
  | none => zeros 256
  | some i =>
    let v := slotOf s i
    fieldBytes 256 ([(0, 1, 1), (1, 1, v.head)] ++ (if v.cur.enable then layerFields v.cur 64 else []))

def saveContext (s : State) (t n : Nat) : List Byte :=
  match ctxNo s t n with
  | none => zeros 512
  | some i =>
    let v := ctxOf s i
    fieldBytes 512 ([(0, 1, 1), (8, 4, v.lastIssued)] ++
      [(80, 1, v.grove), (81, 1, b2n v.fail), (82, 2, v.slots), (84, 4, v.poolRef), (88, 4, v.poolLen), (92, 4, v.cacheRef),
       (96, 4, v.cacheLen), (100, 4, v.shaderRef), (104, 4, v.shaderLen), (108, 3, v.defaultLimit), (112, 3, v.maxLimit)])

def saveChannel (s : State) (t n : Nat) : List Byte :=
  match chanNo s t n with
  | none => zeros 128
  | some k => fieldBytes 128 [(0, 1, b2n (chanOf s k).configured), (8, 8, (chanOf s k).statusAddr)]

def saveStream (s : State) (t n : Nat) : List Byte :=
  match streamNo s t n with
  | none => zeros 256
  | some k =>
    let v := streamOf s k
    fieldBytes 256 ([(0, 1, b2n v.configured)] ++
      [(81, 1, b2n v.capture + 2 * v.format), (82, 1, v.channels), (83, 1, v.rate), (84, 4, v.ref), (88, 4, v.frames), (92, 2, v.period),
       (94, 1, v.firstBus), (96, 8, v.posAddr)])

def saveHaptic (s : State) (t n : Nat) : List Byte :=
  match hapNo s t n with
  | none => zeros 128
  | some c =>
    let v := hapOf s c
    fieldBytes 128 ([(0, 1, b2n (decide (v.stage ≠ .unconfigured)))] ++
      [(32, 1, b2n v.map.enable), (33, 1, v.map.edge), (34, 1, v.map.effect), (36, 2, v.map.rearm), (81, 1, b2n v.track), (82, 2, v.f0),
       (84, 2, v.rated), (86, 2, v.odMv), (88, 1, v.odHalf), (89, 1, v.brakeMax), (90, 2, v.brakeMv), (92, 2, v.maxMa)])

/-- The key regions of a tenancy on a port. -/
def savePort (s : State) (t p : Nat) : List Byte :=
  (List.range 64).flatMap fun k =>
    let v : Key := tget {} (portOf s p).keys k
    if v.owner ≠ t then zeros 32 else
    fieldBytes 32 [(0, 1, 1 + 2 * b2n v.suppress + 4 * b2n v.onPress + 8 * b2n v.onRelease), (1, 1, v.debounce), (2, 1, (hapOf s v.haptic).loc),
      (4, 2, v.tFirst), (6, 2, v.tLast), (8, 2, v.rFirst), (10, 2, v.rLast), (12, 2, v.press), (14, 2, v.hyst), (16, 1, v.pressEffect),
      (17, 1, v.releaseEffect)]

def saveAssay (s : State) (t n : Nat) : List Byte :=
  match assayNo s t n with
  | none => zeros 64
  | some u =>
    let v := assayOf s u
    fieldBytes 64 [(0, 1, 1 + 2 * b2n v.enable + 4 * b2n v.c1 + 8 * b2n v.hasBase), (1, 1, v.algo), (2, 1, v.expect), (3, 1, v.snoop),
      (8, 1, v.region), (9, 1, v.target), (10, 2, v.tag), (12, 4, v.xy), (16, 4, v.wh), (20, 4, v.seq), (24, 8, v.base),
      (32, 8, v.expected)]

/-- The paths the fixed part has room for: input (local), bus and gain. -/
def savedPaths (s : State) (t : Nat) : List (Nat × Nat × Int) :=
  ((s.audio.paths.filter fun p => decide ((inputOf s (p.1 / 64)).owner = t)).map fun p =>
    ((inputOf s (p.1 / 64)).loc, p.1 % 64, gainNow p.2.gain)).take 222

/-- The touch report rings of a tenancy, 16 bytes a port (05 R247; 13 R605). -/
def reportFields (s : State) (t : Nat) : List (Nat × Nat × Nat) :=
  (List.range 8).flatMap fun p =>
    let v := ringOf (portOf s p) t
    let o := 120 + 16 * p
    [(o, 1, b2n v.enable + 2 * b2n v.phase), (o + 1, 1, v.sizeLog2), (o + 2, 2, v.index), (o + 4, 4, v.skipped), (o + 8, 8, v.addr)]

/-- The fixed part: the tenancy's own counters and report rings, its mixer inputs, and its paths with the charges they stand for. -/
def saveFixed (s : State) (t : Nat) (g : Grants) : List Byte :=
  let inputs := (List.range g.mixerInputs).flatMap fun n => match inputNo s t n with
    | none => []
    | some i =>
      let v := inputOf s i
      let o := 256 + 16 * n
      [(o, 1, v.kind), (o + 1, 1, if v.kind = 1 then (streamOf s v.src).loc else v.src), (o + 2, 1, v.ch), (o + 4, 4, twos 32 v.gain.value)]
  let paths := savedPaths s t
  fieldBytes 4096 ([(0, 2, (tenOf s t).defaultRing)] ++ reportFields s t ++
    [(24, 8, tget 0 s.sr.rdBytes t), (32, 8, tget 0 s.sr.wrBytes t), (40, 8, tget 0 s.dram.rdBytes t), (48, 8, tget 0 s.dram.wrBytes t),
     (56, 4, tget 0 s.dram.missed t)] ++ inputs ++ [(2304, 2, paths.length)] ++
    (paths.zipIdx.flatMap fun p => [(2312 + 8 * p.2, 1, p.1.1), (2313 + 8 * p.2, 1, p.1.2.1), (2316 + 8 * p.2, 4, twos 32 p.1.2.2)]))

/-- Where each kind of record starts in the body of a tenancy's record. -/
def bodyParts (g : Grants) : List Nat :=
  [64 * g.cmdRings, 64 * g.eventRings, 256 * g.layerSlots, 512 * g.gpuContexts, 128 * g.dmaChannels, 256 * g.audioStreams,
   128 * popCount 16 g.haptic, 2048 * popCount 8 (g.touchExcl ||| g.touchShr)].foldl (fun l n => l ++ [l.getLast?.getD 0 + n]) [4096]

def partAt (g : Grants) (k size i : Nat) : Nat := (bodyParts g).getD k 0 + size * i

/-- The event sources of a tenancy's objects, each with its place in the body: 12 bytes. -/
def bodySources (s : State) (t : Nat) (g : Grants) : List (Nat × Nat) :=
  let objects := fun (k size n : Nat) (no : State → Nat → Nat → Option Nat) (src : Nat → Nat) (o : Nat) =>
    (List.range n).filterMap fun i => (no s t i).map fun x => (src x, partAt g k size i + o)
  List.flatten
    [[(srcTenancy t, 60), (srcTouch t, 72), (srcSecure t, 84), (srcNotice t, 96)],
     objects 2 256 g.layerSlots slotNo srcLayer 8, objects 3 512 g.gpuContexts ctxNo srcContext 16,
     objects 4 128 g.dmaChannels chanNo srcDma 16, objects 5 256 g.audioStreams streamNo srcStream 16,
     objects 6 128 (popCount 16 g.haptic) hapNo (fun c => srcHaptic c 0) 4, objects 6 128 (popCount 16 g.haptic) hapNo (fun c => srcHaptic c 1) 16,
     objects 8 64 g.assayUnits assayNo srcAssay 44]

/-- A source's cause latches, its SOFT, its target (bit 8: it follows the default), and the record it has in a ring: the
ring's local number, what the record reports, and its place behind the ring's head. -/
def sourceFields (s : State) (n : Nat) : List (Nat × Nat × Nat) :=
  let v := evSrc s n
  let at' := (List.range 256).findSome? fun p => ((evRing s p).records.findIdx? fun r => r.1 == n).map fun i => (p, i)
  [(0, 2, v.cause), (2, 2, match v.target with | .ring k => k | .fields true k => k | _ => 256)] ++
  match at' with
  | none => [(4, 1, b2n v.soft)]
  | some (p, i) =>
    let r := (evRing s p).records.getD i (n, 0, false)
    [(4, 1, b2n v.soft + 2 + 4 * b2n r.2.2), (5, 1, (evRing s p).loc), (6, 2, r.2.1), (8, 2, i)]

/-- The sources written into a body. -/
def saveSources (s : State) (t : Nat) (g : Grants) (b : List Byte) : List Byte :=
  (bodySources s t g).foldl (fun b x => b.take x.2 ++ fieldBytes 12 (sourceFields s x.1) ++ b.drop (x.2 + 12)) b

/-- The body of a tenancy's state record before it is sealed (05 R247). -/
def saveBody (s : State) (t : Nat) : List Byte :=
  let g := (tenOf s t).grants
  let each := fun (n : Nat) (f : Nat → List Byte) => (List.range n).flatMap f
  saveSources s t g (List.flatten
    [saveFixed s t g, each g.cmdRings (saveRing s t), each g.eventRings (saveEvRing s t), each g.layerSlots (saveLayer s t),
     each g.gpuContexts (saveContext s t), each g.dmaChannels (saveChannel s t), each g.audioStreams (saveStream s t),
     each (popCount 16 g.haptic) (saveHaptic s t), (bitsOf 8 (g.touchExcl ||| g.touchShr)).flatMap (savePort s t),
     each g.assayUnits (saveAssay s t)])

/-- The state record is written (05 R243 to R247): its body is sealed under the migration key with an IV the Warden draws, and
the key is gone. The sealed bytes are the cipher's (Config.seal). -/
def endSave (s : State) (f : Flight) : State :=
  let t := dget f.desc 16 1
  let v := tenOf s t
  let key := dget f.desc 20 4
  if !keyHeld s key then finish s f (badState 0x14) else
  let total := saveLen s t
  let body := saveBody s t
  let (iv, s) := freshBytes s 12
  let head := leBytes 4 0x4B425453 ++ leBytes 2 1 ++ leBytes 2 0x4230 ++ leBytes 4 total ++ leBytes 4 body.length ++ leBytes 4 v.plots.length ++
    leBytes 4 key ++ iv ++ zeros 28 ++ grantBytes t v.grants v.shelves.length v.plots.length ++ zeros 320
  let aad := head ++ (v.plots.flatMap fun e => leBytes 4 e.1)
  let sealed := (List.range (body.length + 16)).map (Config.seal key iv aad body)
  finishDone (dropKey (hostWrite s (dget f.desc 24 8) (aad ++ sealed)) key) f total

def checkRestore (s : State) (c : Cmd) : Ruling :=
  let d := c.d
  let t := dget d 16 1
  let len := dget d 32 4
  let v := tenOf s t
  ruling
    [lowest [reserved [(16, 0, 8), (24, 0, 64), (32, 0, 32)] d, targetFault d true, (decide (dget d 24 8 % 64 ≠ 0), badParam 0x18),
       (decide (len = 0 || len > 1048576), badParam 0x20)],
     failIf (!inApertures s c.t (dget d 24 8) len) (bounds 0x18),
     failIf (decide (v.state ≠ .absent) || decide (v.grants = {}) || targetBusy s t || loadDiffers s t) (badState 0x10)]
    (yes .av)

def startRestore (s : State) (f : Flight) : State := await s f .data

/-- What a restore is refused for before the record is opened (05 R249). REASON of the refusal for a KEY_ID that is not held is
0x10 (DESIGN CHOICE, log entry 136). -/
def restoreFault (s : State) (f : Flight) (b : List Byte) : Option Verdict :=
  firstSome
    [failIf (decide (dget f.desc 32 4 ≠ fieldOf b 8 4)) (badParam 0x20), failIf (decide (fieldOf b 4 2 ≠ 1)) (refuse 10 0xFF 0 4),
     failIf (!keyHeld s (fieldOf b 20 4)) (badState 0x10)]

/-- The record has been read (07 R336): the Warden opens it. -/
def restoreRead (s : State) (f : Flight) (b : List Byte) : State :=
  match restoreFault s f b with
  | some v => finish s f v
  | none => await s f .warden

/-- A reservation that does not meet a record's grants (05 R249). The HEADS mask has no pool code: what its refusal names is the
value `free`; the mixer slots and the shadow grant count as per-epoch grants (log entry 136). -/
def reservationFault (free : Nat) (g want : Grants) (shelves plots : Nat) : Option Verdict :=
  firstSome
    [failIf (decide (g.cmdRings < want.cmdRings)) (capacity 0x20), failIf (decide (g.eventRings < want.eventRings)) (capacity 0x21),
     failIf (decide (g.layerSlots < want.layerSlots)) (capacity 0x22),
     failIf (decide (g.grovesDed ≠ want.grovesDed || g.grovesShr ≠ want.grovesShr)) (capacity 0x23),
     failIf (decide (g.gpuContexts < want.gpuContexts)) (capacity 0x24), failIf (decide (g.dmaChannels < want.dmaChannels)) (capacity 0x25),
     failIf (decide (g.audioStreams < want.audioStreams)) (capacity 0x26), failIf (decide (g.mixerInputs < want.mixerInputs)) (capacity 0x27),
     failIf (decide (g.haptic ≠ want.haptic)) (capacity 0x28),
     failIf (decide (g.touchExcl ≠ want.touchExcl || g.touchShr ≠ want.touchShr)) (capacity 0x29),
     failIf (decide (g.assayUnits < want.assayUnits)) (capacity 0x2A),
     failIf (decide (g.shelves.length < shelves)) (capacity 0x2C), failIf (decide (g.plots.length < plots)) (capacity 0x2D),
     failIf (decide (g.heads ≠ want.heads)) (capacity (free % 256)),
     (List.range 4).findSome? fun p => failIf (decide ((g.compose.drop p).headD 0 < (want.compose.drop p).headD 0)) (budget 0x02 p),
     failIf (decide (g.staging < want.staging)) (budget 0x04 0), failIf (decide (g.mixerSlots < want.mixerSlots)) (budget 0x0B 0),
     failIf (decide (g.shadowRegions < want.shadowRegions || g.shadowPixels < want.shadowPixels)) (budget 0x0C 0)]

/-- An event source as it was: its latches, SOFT and target, and whether it has a record unacknowledged. -/
def putSource (b : List Byte) (s : State) (x : Nat × Nat) : State :=
  let (n, o) := x
  let flags := fieldOf b (o + 4) 1
  let k := fieldOf b (o + 2) 2
  setEvSrc s n { evSrc s n with
    cause := fieldOf b o 2, soft := flags.testBit 0, inService := flags.testBit 1, target := if k ≥ 256 then .follows else .ring k }

/-- A source's unacknowledged record goes back into its ring. -/
def putUnacked (b : List Byte) (t : Nat) (s : State) (x : Nat × Nat) : State :=
  let (n, o) := x
  match (if (fieldOf b (o + 4) 1).testBit 1 then evRingOf s t (fieldOf b (o + 5) 1) else none) with
  | none => s
  | some p => setEvRing s p { evRing s p with
      records := (evRing s p).records ++ [(n, fieldOf b (o + 6) 2, (fieldOf b (o + 4) 1).testBit 2)] }

/-- The sources of a restored tenancy, and the records that its event rings hold, oldest first. -/
def restoreSources (s : State) (t : Nat) (want : Grants) (b : List Byte) : State :=
  let xs := bodySources s t want
  (sortBy xs fun x y => decide (fieldOf b (x.2 + 8) 2 ≤ fieldOf b (y.2 + 8) 2)).foldl (putUnacked b t) (xs.foldl (putSource b) s)

/-- The payload kept in an object's record, as the descriptor it came in. -/
def keptPayload (b : List Byte) (o : Nat) : Descriptor := BitVec.ofNat 512 (fieldOf b o 64)

def restoreRing (s : State) (t : Nat) (b : List Byte) (o r : Nat) : State :=
  let g := fun (k n : Nat) => fieldOf b (o + k) n
  let s := setCr s t r {
    base := g 8 8, enable := (g 0 1).testBit 0, sizeLog2 := g 1 1, tail := g 24 2, head := g 26 2, taken := g 54 2,
    ccUsed := g 46 3, handed := g 50 3,
    ccBase := g 16 8, ccEnable := (g 0 1).testBit 1, ccSizeLog2 := g 2 1, ccModCount := g 3 1, ccModTime := g 4 2, ccHead := g 28 2,
    ccTail := g 30 2, sig := { phase := (g 0 1).testBit 2 } }
  modFn s t fun f => { f with msix := tset {} f.msix r { addr := g 32 8, data := g 40 4, mask := (g 44 1).testBit 0 } }

def restoreEvRing (s : State) (t : Nat) (b : List Byte) (o n : Nat) : State :=
  let g := fun (k w : Nat) => fieldOf b (o + k) w
  match evRingOf s t n with
  | none => s
  | some p =>
    let s := setEvRing s p { owner := t, loc := n, enable := (g 0 1).testBit 0, sizeLog2 := g 1 1, modCount := g 3 1, modTime := g 4 2,
                             base := g 8 8, tail := g 24 2, head := g 26 2, sig := { phase := (g 0 1).testBit 2 } }
    modFn s t fun f => { f with msix := tset {} f.msix (4 + n) { addr := g 32 8, data := g 40 4, mask := (g 44 1).testBit 0 } }

/-- A restored layer waits for the resume before it joins its head (05 R250). -/
def restoreLayer (s : State) (t : Nat) (b : List Byte) (o n : Nat) : State :=
  if !(fieldOf b o 1).testBit 0 then s else
  match leastBelow 128 fun i => decide ((slotOf s i).owner = 0x1F) with
  | none => s
  | some i => setSlot s i {
      owner := t, loc := n, head := fieldOf b (o + 1) 1, cur := layerPayload (keptPayload b (o + 64)), moving := true }

def restoreContext (s : State) (t : Nat) (b : List Byte) (o n : Nat) : State :=
  if !(fieldOf b o 1).testBit 0 then s else
  match leastBelow 256 fun i => decide ((ctxOf s i).owner = 0x1F) with
  | none => s
  | some i =>
    let d := keptPayload b (o + 64)
    let s := setCtx s i { contextFrom d t n with lastIssued := fieldOf b (o + 8) 4, lastDone := fieldOf b (o + 8) 4 }
    s.modSr fun r => { r with placed := r.placed ++ contextPlaced d t i }

def restoreAssay (s : State) (t : Nat) (b : List Byte) (o n : Nat) : State :=
  let g := fun (k w : Nat) => fieldOf b (o + k) w
  if !(g 0 1).testBit 0 then s else
  match leastBelow 48 fun u => decide ((assayOf s u).owner = 0x1F) with
  | none => s
  | some u => setAssay s u {
      owner := t, loc := n, enable := (g 0 1).testBit 1, c1 := (g 0 1).testBit 2, hasBase := (g 0 1).testBit 3,
      algo := g 1 1 % 4, expect := g 2 1 % 4, snoop := g 3 1 % 8, region := g 8 1, target := g 9 1, tag := g 10 2, xy := g 12 4, wh := g 16 4,
      seq := g 20 4, base := g 24 8, expected := g 32 8 }

/-- A key slot of a restored port. -/
def restoreKey (s : State) (t : Nat) (b : List Byte) (p o k : Nat) : State :=
  let g := fun (i w : Nat) => fieldOf b (o + i) w
  if !(g 0 1).testBit 0 then s else
  modPort s p fun v => { v with keys := tset {} v.keys k {
      owner := t, suppress := (g 0 1).testBit 1, onPress := (g 0 1).testBit 2, onRelease := (g 0 1).testBit 3, debounce := g 1 1,
      haptic := ((hapNo s t (g 2 1)).getD 16), tFirst := g 4 2, tLast := g 6 2, rFirst := g 8 2, rLast := g 10 2, press := g 12 2,
      hyst := g 14 2, pressEffect := g 16 1, releaseEffect := g 17 1 } }

/-- The report ring of a restored tenancy on a port. -/
def restoreReports (b : List Byte) (t : Nat) (s : State) (p : Nat) : State :=
  let g := fun (i w : Nat) => fieldOf b (120 + 16 * p + i) w
  modPort s p fun v => { v with rings := tset {} v.rings t {
    enable := (g 0 1).testBit 0, phase := (g 0 1).testBit 1, sizeLog2 := g 1 1, index := g 2 2, skipped := g 4 4, addr := g 8 8, since := now s } }

/-- Everything the body carries (05 R247). -/
def restoreBody (s : State) (t : Nat) (want : Grants) (b : List Byte) : State :=
  let at' := partAt want
  let each := fun (n : Nat) (f : State → Nat → State) (s : State) => (List.range n).foldl f s
  let s := modTen s t fun v => { v with defaultRing := fieldOf b 0 2 }
  let s := (bitsOf 8 (want.touchExcl ||| want.touchShr)).foldl (restoreReports b t) s
  let s := s.modSr fun r => { r with rdBytes := tset 0 r.rdBytes t (fieldOf b 24 8), wrBytes := tset 0 r.wrBytes t (fieldOf b 32 8) }
  let s := s.modDram fun d => { d with
    rdBytes := tset 0 d.rdBytes t (fieldOf b 40 8), wrBytes := tset 0 d.wrBytes t (fieldOf b 48 8), missed := tset 0 d.missed t (fieldOf b 56 4) }
  let s := each want.cmdRings (fun s r => restoreRing s t b (at' 0 64 r) r) s
  let s := each want.eventRings (fun s n => restoreEvRing s t b (at' 1 64 n) n) s
  let s := each want.layerSlots (fun s n => restoreLayer s t b (at' 2 256 n) n) s
  let s := each want.gpuContexts (fun s n => restoreContext s t b (at' 3 512 n) n) s
  let s := each want.dmaChannels (fun s n => match chanNo s t n with
    | some k => modChan s k fun c => { c with
        configured := (fieldOf b (at' 4 128 n) 1).testBit 0, statusAddr := fieldOf b (at' 4 128 n + 8) 8 }
    | none => s) s
  let s := each want.audioStreams (fun s n => match streamNo s t n with
    | some k => if (fieldOf b (at' 5 256 n) 1).testBit 0 then configureStream s t k (keptPayload b (at' 5 256 n + 64)) else s
    | none => s) s
  let s := each want.mixerInputs (fun s n => match inputNo s t n with
    | some i =>
      let o := 256 + 16 * n
      let kind := fieldOf b o 1 % 8
      modInput s i fun v => { v with
        kind := kind, ch := fieldOf b (o + 2) 1,
        src := if kind = 1 then (streamNo s t (fieldOf b (o + 1) 1)).getD 64 else fieldOf b (o + 1) 1,
        gain := { value := sint 32 (fieldOf b (o + 4) 4) }, weight := { value := 0 } }
    | none => s) s
  let s := each (min 222 (fieldOf b 2304 2)) (fun s k =>
    let o := 2312 + 8 * k
    match inputNo s t (fieldOf b o 1) with
    | some i => modPath s i (fieldOf b (o + 1) 1 % 64) fun p => { p with gain := { value := sint 32 (fieldOf b (o + 4) 4) } }
    | none => s) s
  let s := each (popCount 16 want.haptic) (fun s n => match hapNo s t n with
    | some c =>
      let o := at' 6 128 n
      if (fieldOf b o 1).testBit 0 then
        modHap (configureHaptic s c (keptPayload b (o + 64))) c
          fun v => { v with map := { enable := (fieldOf b (o + 32) 1).testBit 0, edge := fieldOf b (o + 33) 1 % 4,
                                     effect := fieldOf b (o + 34) 1, rearm := fieldOf b (o + 36) 2 } }
      else s
    | none => s) s
  let s := each (popCount 8 (want.touchExcl ||| want.touchShr)) (fun s n =>
    let p := ((bitsOf 8 (want.touchExcl ||| want.touchShr)).drop n).headD 8
    (List.range 64).foldl (fun s k => restoreKey s t b p (at' 7 2048 n + 32 * k) k) s) s
  restoreSources (each want.assayUnits (fun s n => restoreAssay s t b (at' 8 64 n) n) s) t want b

/-- The Warden's answer to a restore (05 R244, R249, R250): the key goes with the one record it opens; `good` is the outcome of
the GCM check, `body` the opened body. The target's plots are numbered from 0 in the order of its reservation, whatever the
record's plot list holds (DESIGN CHOICE, log entry 152). -/
def endRestore (s : State) (f : Flight) (good : Bool) (body : List Byte) : State :=
  let t := dget f.desc 16 1
  let b := flightData s f (dget f.desc 24 8) (dget f.desc 32 4)
  let key := fieldOf b 20 4
  let (_, want) := recordAt (b.drop 64) 0 []
  let g := (tenOf s t).grants
  let (r, s) := freshValue s
  let unopened := firstSome [dataFault f, failIf (!keyHeld s key) (badState 0x10), failIf (!good) (badAt (fieldOf b 8 4 - 16))]
  if unopened.isSome then finish s f (unopened.getD {}) else
  let s := dropKey s key
  let bad := reservationFault r.toNat g want (fieldOf b (64 + 48) 4) (fieldOf b (64 + 52) 4)
  match bad with
  | some v => finish s f v
  | none =>
    let r := applyRecord s (t, { g with isPresent := true })
    let r := modTen r t fun v => { v with state := .frozen, imported := true }
    let r := restoreBody r t want body
    let cs := standingCharges r t
    let held := fun (res : Nat) => if res = 0x05 then placedShelves r t else 0
    let excess := cs.findSome? fun c => failIf (decide (peak { r with charges := r.charges ++ cs } t c.resource c.index r.tl.epoch + held c.resource >
      grantOf r (tenOf r t).grants r.wheels.active t c.resource c.index)) (budget c.resource (budgetIndex c.resource c.index))
    match excess with
    | some v => finish s f v
    | none => finishDone (r.modCharges (· ++ cs)) f

end Sys2Proof.Machine
end

