-- ==== Sys2Proof/Machine/ReactionOps.lean ====
section
/-! DEFINITION. The Ledger's reactions (20 R793 to R795), the error lines that name their parties by a rule of R789,
and work orders (02 R75 to R78, 01 R25). -/

namespace Sys2Proof.Machine

/-- The oldest reaction that has not started starts. -/
def startFirst (t : Nat) : List Reaction → List Reaction
  | [] => []
  | r :: l => if r.started then r :: startFirst t l else { r with started := true, since := t } :: l

/-- Chroulakor starts the oldest pending reaction (20 R793). -/
def startReaction (s : State) : State := s.modLg fun l => { l with reactions := startFirst s.tl.tick l.reactions }

/-- One tenancy of a CONTAIN (20 R793): VALUE of what it had in flight is the first Ledger bit that named it. -/
def containOne (r : Reaction) (s : State) (t : Nat) : State :=
  let by' := (r.named.filter fun n => n.1 == t).map (·.2)
  let runs := decide ((tenOf s t).state = .live) || decide ((tenOf s t).state = .quiescing)
  let s := containTenancy s t (by'.headD r.source)
  let s := if (tenOf s t).state = .absent then s else
    modTen s t fun v => { v with containedBy := by'.foldl setBit v.containedBy }
  if runs then raise s (srcNotice t) 0 else s

/-- One tenancy of a DEGRADE (20 R793, R871): it is degraded and its outstanding promises are withdrawn. -/
def degradeOne (s : State) (t : Nat) : State :=
  if (tenOf s t).state = .absent then s else
  let s := s.modLg fun l => { l with degraded := setBit l.degraded t }
  let s := s.modFlights fun l => l.map fun f => if f.src.fn = t && f.promised.isSome then { f with withdrawn := true } else f
  raise s (srcNotice t) 1

/-- Chroulakor completes the oldest reaction in progress, in full for every party it had (20 R792 to R795). -/
def completeReaction (s : State) : State :=
  match s.lg.reactions.find? (·.started) with
  | none => s
  | some r =>
    let s := (bitsOf 17 (guestsOf r.contain)).foldl (containOne r) s
    let s := (bitsOf 17 (partiesOf s r.degrade)).foldl degradeOne s
    endDegraded (s.modLg fun l => { l with reactions := l.reactions.erase r })

/-! ### Error lines with fixed parties (20 R789) -/

/-- The tenancies with an enabled shadow region. -/
def shadowTenancies (s : State) : Nat :=
  (s.au.units.filter fun u => u.2.enable && decide (u.2.expect = 2) && decide (u.2.owner ≤ 16)).foldl (fun m u => m ||| 2 ^ u.2.owner) 0

/-- The tenancies with an enabled layer on the heads of a pipe. -/
def pipeTenancies (s : State) (p : Nat) : Nat :=
  (s.comp.slots.filter fun e => e.2.cur.enable && decide (e.2.owner ≤ 16) &&
    (match (headOf s e.2.head).cfg with | some c => decide (c.pipe = p) | none => false)).foldl (fun m e => m ||| 2 ^ e.2.owner) 0

/-- A parity error (20 R789). What it names beside its kind is the compose pipe, or the number of the command whose work
order an apprentice's queue lost: that order is discarded as a late one (01 R25), whether it was promised or not. -/
def parityFault (s : State) (what : Parity) (n : Nat) : State :=
  match what with
  | .apprentice =>
    let s := assert s 3 (everyTenancy s)
    match flightBy s fun f => f.id == n with
    | some f => if f.phase = .first then s else missOrder s f (now s)
    | none => s
  | .wheel => assert s 5 deviceMask
  | .owner => assert s 6 deviceMask
  | .event => assert s 15 (everyTenancy s)
  | .fuse => assert s 13 deviceMask
  | .shadow => assert s 28 (shadowTenancies s)
  | .compose => assert s 29 (pipeTenancies s n)

end Sys2Proof.Machine
end

