-- ==== Sys2Proof/Machine/ServiceOps.lean ====
section
/-! DEFINITION. The host's control of functions and of the link (06 R291 to R295, 05 R864, 16 R686), the die-to-die link
(01 R18), the error lines of R789 that name fixed parties, and what a HALT goes on holding (20 R796). -/

namespace Sys2Proof.Machine

/-! ### Functions and the PCIe link -/

/-- A configuration access shows that the link is up again: what other functions held goes out (log entry 39). -/
def linkUpAgain (s : State) : State :=
  if !s.pcie.linkDown then s
  else (List.range 17).foldl wakeFunction (s.modPcie fun p => { p with linkDown := false })

/-- Bus Master Enable of a function is set (06 R294). -/
def setMaster (s : State) (f : Nat) : State :=
  if f > 16 then s else wakeFunction (linkUpAgain (modFn s f fun x => { x with busMaster := true })) f

/-- Bus Master Enable is cleared (06 R291). -/
def clearMaster (s : State) (f : Nat) : State := if f > 16 then s else modFn s f fun x => { x with busMaster := false }

/-- A function returns to D0 (06 R293, R294). -/
def returnToD0 (s : State) (f : Nat) : State := if f > 16 then s else returnD0 (linkUpAgain s) f

/-- VF Enable is set again (05 R864): what the VFs held goes out. -/
def setVfEnable (s : State) : State :=
  ((List.range 17).drop 1).foldl wakeFunction (linkUpAgain (s.modPcie fun p => { p with vfEnable := true }))

/-- A transfer of a slot that moves. -/
def xferAt (s : State) (src : CmdSrc) : Option Flight := flightAt s src fun f => isXfer f

/-- An access of a transfer fails (16 R686). -/
def failAccess (cause : Nat) (s : State) (e : CmdSrc × Bool × Nat × Nat) : State :=
  match xferAt s e.1 with
  | some f => haltChannel s f cause e.2.1 e.2.2.1 e.2.2.2
  | none => s

/-- With the link down a function in D3hot is in D3cold (06 R293; log entry 125): a stay of its own. -/
def coldFunctions (s : State) : State :=
  s.modFns fun t => (List.range 17).foldl (fun t n => tmod {} t n fun f =>
    if f.dstate = .d3hot then { f with dstate := .d3cold, heldInStay := false } else f) t

/-- The link goes down: every channel with a host access due or outstanding halts. -/
def loseLink (s : State) (fails : List (CmdSrc × Bool × Nat × Nat)) : State :=
  fails.foldl (failAccess 4) (coldFunctions (s.modPcie fun p => { p with linkDown := true, link := .l0 }))

/-! ### The die-to-die link (01 R18, 12 R562, 15 R669) -/

/-- Hokusa's converters and drivers at zero. -/
def zeroOutputs (s : State) (p : Nat → Bool) : State :=
  ((List.range 0x22).filter fun u => isSink u && p u).foldl (fun s u => modUnit s u fun v => { v with out := v.out.map fun _ => 0 }) s

def loseD2d (s : State) : State :=
  if !clockRuns s || s.hokusaSafe then s else
  let s := s.modHokusaSafe fun _ => true
  assert (zeroOutputs (abortScans (cutEffects s)) fun u => !isPort u) 4 (everyTenancy s)

def regainD2d (s : State) : State := s.modHokusaSafe fun _ => false

/-! ### Error lines (20 R789) -/

/-- Ledger source b with fixed parties. -/
def faultLine (s : State) (b parties : Nat) : State := if clockRuns s then assert s b parties else s

/-- What a HALT in force goes on holding: bridges at high impedance, no touch scan, and outputs at zero (20 R796). -/
def holdHalt (s : State) : State :=
  if !halted s then s else
  let s := (List.range 8).foldl (fun s p => if (portOf s p).scan.isSome then modPort s p fun v => { v with scan := none } else s) (cutEffects s)
  zeroOutputs s fun _ => true

end Sys2Proof.Machine
end

