-- ==== Sys2Proof/Machine/BootOps.lean ====
section
/-! DEFINITION. The boot image (21 R830 to R832): its header, its blocks and their bodies, what an accepted image sets,
the boot registers, and the end of a boot. -/

namespace Sys2Proof.Machine

/-- An entry of an image header: its kind, offset and length. -/
structure BootEntry where
  kind : Nat
  ofs : Nat
  len : Nat
  deriving DecidableEq, Repr

/-- Whether n bytes at offset o are zero. -/
def zeroAt (b : List Byte) (o n : Nat) : Bool := decide (fieldOf b o n = 0)

def bootEntries (b : List Byte) : List BootEntry :=
  (List.range (fieldOf b 6 1)).map fun i =>
    { kind := fieldOf b (16 + 16 * i) 1, ofs := fieldOf b (20 + 16 * i) 4, len := fieldOf b (24 + 16 * i) 4 }

/-- The header rules of R830. -/
def headerGood (b : List Byte) : Bool :=
  let n := fieldOf b 6 1
  let es := bootEntries b
  decide (fieldOf b 0 4 = 0x4B424249) && decide (fieldOf b 4 2 = 1) && decide (3 ≤ n) && decide (n ≤ 5) && zeroAt b 7 1 &&
  decide (128 ≤ fieldOf b 8 4) && decide (fieldOf b 8 4 ≤ 2097152) && decide (fieldOf b 8 4 ≤ b.length) && zeroAt b 12 4 &&
  zeroAt b 96 32 &&
  ((List.range n).all fun i => zeroAt b (17 + 16 * i) 3 && zeroAt b (28 + 16 * i) 4) &&
  (es.all fun e => decide (1 ≤ e.kind) && decide (e.kind ≤ 5) && decide (e.ofs % 64 = 0) &&
    decide (e.ofs + e.len ≤ fieldOf b 8 4) && decide (es.countP (fun g => g.kind == e.kind) = 1))

/-- The bytes of a block of a kind, with the outcome of its signature and key checks; none where the image has none. -/
def blockOf (b : List Byte) (good : List Bool) (kind : Nat) : Option (List Byte × Bool) :=
  match (bootEntries b).zipIdx.find? fun e => e.1.kind == kind with
  | some (e, i) => some ((b.drop e.ofs).take e.len, (good.drop i).headD false)
  | none => none

def bodyOf (k : List Byte) : List Byte := (k.drop 128).take (fieldOf k 12 4)

/-- A block's header (21 R830) and R758. -/
def blockGood (s : State) (kind : Nat) (k : List Byte) (signed : Bool) : Bool :=
  signed && decide (fieldOf k 0 4 = 0x4B42424B) && decide (fieldOf k 4 2 = 1) && decide (fieldOf k 6 1 = kind) &&
  decide (fieldOf k 7 1 ≤ 1) && decide (k.length = 224 + fieldOf k 12 4) && zeroAt k 16 16 &&
  decide ((s.wd.fuses.floor.drop (kind - 1)).headD 0 ≤ fieldOf k 8 4)

/-- A telltale sprite from the words of its four registers (10). -/
def spriteOfWords (pos size image crc : Nat) : Sprite :=
  { enable := pos.testBit 31, x := bits pos 0 13, y := bits pos 16 13, wM1 := bits size 0 8, hM1 := bits size 8 8,
    image := bits image 0 22, crc := crc % 2 ^ 32 }

/-- The HEAD_CFG of a telltale block, as the descriptor it stands for. -/
def earlyDescriptor (body : List Byte) : Descriptor :=
  BitVec.ofNat 512 (leNat (zeros 16 ++ body.take 48))

/-- The telltale block's body (21). -/
def telltaleGood (s : State) (body : List Byte) : Bool :=
  let d := earlyDescriptor body
  let c := headPayload d
  let n := fieldOf body 48 1
  let at' := roundup64 (128 + 16 * n)
  let img := fieldOf body 52 4
  decide (body.length ≤ 1048576) && c.tracked && decide (c.kind = .video) && (isDsi c.port || c.edp) &&
  (lowest (headFieldFaults s d (dbits d 16 0 4) c none)).isNone && decide (1 ≤ n) && decide (n ≤ 64) && zeroAt body 49 3 &&
  decide (img % 64 = 0) && decide (img ≤ 4194304) && decide (body.length = at' + img) && zeroAt body 56 8 && zeroAt body 124 4

/-- The body rules of a block (21). -/
def bodyGood (s : State) (kind : Nat) (body : List Byte) : Bool :=
  if kind = 1 then decide (body.length ≤ 131072)
  else if kind = 2 then decide (body.length ≤ 262144)
  else if kind = 3 then telltaleGood s body
  else if kind = 4 then
    decide (body.length = 64) && (fieldOf body 0 1 == 1 || fieldOf body 0 1 == 2) && [1, 2, 4].contains (fieldOf body 1 1) &&
      decide (popCount 16 (fieldOf body 2 2) ≤ 2) && zeroAt body 8 56
  else
    decide (body.length = 64) && decide (16 ≤ fieldOf body 0 2) && decide (fieldOf body 0 2 ≤ 256) &&
      decide (fieldOf body 2 2 ≤ 1024) && decide (fieldOf body 20 1 ≤ 1) && zeroAt body 21 3 &&
      (decide (fieldOf body 24 4 = 0) || (decide (4000000 ≤ fieldOf body 24 4) && decide (fieldOf body 24 4 ≤ 400000000))) &&
      zeroAt body 28 36

/-- A block that is present and passes. -/
def goodBlock (s : State) (b : List Byte) (good : List Bool) (kind : Nat) : Option (List Byte) :=
  match blockOf b good kind with
  | some (k, signed) => if blockGood s kind k signed && bodyGood s kind (bodyOf k) then some k else none
  | none => none

/-- The image boots (21 R830 to R832). -/
def imageGood (s : State) (b : List Byte) (good : List Bool) : Bool :=
  headerGood b && ([1, 4, 5].all fun k => (goodBlock s b good k).isSome)

/-- The early telltales (10 R480): images in bay 0, sprites and palette, and the head started tracked. -/
def applyTelltales (s : State) (body : List Byte) : State :=
  let d := earlyDescriptor body
  let h := dbits d 16 0 4
  let n := fieldOf body 48 1
  let img := (body.drop (roundup64 (128 + 16 * n))).take (fieldOf body 52 4)
  let s := writeBytes (noteMoved s 7) false 0 img
  let s := (List.range 15).foldl (fun s i => setPalette s h (i + 1) (fieldOf body (64 + 4 * i) 4)) s
  let s := (List.range n).foldl (fun s i =>
    let w := fun (k : Nat) => fieldOf body (128 + 16 * i + 4 * k) 4
    setSprite s h i (spriteOfWords (w 0) (w 1) (w 2) (w 3))) s
  beginTraining (modHead (s.modAu fun a => { a with early := some h }) h fun hd => { hd with cfg := some (headPayload d) }) h

/-- The measurement of a block (19 R759). -/
def measureBlock (kind : Nat) (k : List Byte) : Measure :=
  { kind := kind, version := fieldOf k 8 4, digest := sha384 (k.take (128 + fieldOf k 12 4)) }

/-- An image is accepted. Early telltales are shown on a QSPI boot alone (21 R832). Under a HALT latch the boot ends
here (20 R797). PATCH_VERSION is a free value, which the spec gives no source for (log entry 3). -/
def acceptImage (s : State) (b : List Byte) (good : List Bool) (pcie : Bool) : State :=
  let kinds := [5, 3, 1, 2, 4].filter fun k => (goodBlock s b good k).isSome
  let blocks := kinds.filterMap fun k => (goodBlock s b good k).map fun x => measureBlock k x
  let body := fun (k : Nat) => match goodBlock s b good k with | some x => bodyOf x | none => []
  let skipped := [2, 3].any fun k => (blockOf b good k).isSome && !(kinds.contains k)
  let tt := kinds.contains 3 && !pcie
  let patch := kinds.contains 2
  let (v, s1) := freshValue s
  let s := if patch then s1 else s
  let s := applySecurity s (body 5)
  let s := if tt then applyTelltales s (body 3) else s
  let s := s.modDram fun d => { d with pdIdle := fieldOf (body 4) 4 4, gib := fieldOf (body 4) 1 1 }
  let s := s.modWd fun w => { w with blocks := blocks }
  let s := s.modPw fun p => { p with boot := .trained, spares := fieldOf (body 4) 2 2, patched := patch, pcieBoot := pcie,
                                     patchVersion := if patch then v.toNat % 2 ^ 32 else 0, bootStatus := if pcie then 2 else p.bootStatus }
  let s := if skipped then assert s 37 0 else s
  if halted s then openDevice s else s

/-- A slot fails (21 R830, R831). -/
def failSlot (s : State) (slot : Nat) : State :=
  let s := s.modPw fun p => { p with bootFault := true }
  if slot = 0 then s.modPw fun p => { p with boot := .slotB }
  else if s.pw.bootSel = 1 then s.modPw fun p => { p with boot := .pcie }
  else assert (s.modPw fun p => { p with boot := .failed }) 37 0

/-- A PCIe image supplied again in a resumption is measured against the one that booted (21 R827). -/
def sameImage (s : State) (b : List Byte) (good : List Bool) : Bool :=
  [1, 5].all fun k => match goodBlock s b good k with | some x => s.wd.blocks.contains (measureBlock k x) | none => false

/-- A slot has been read and verified (21 R828 to R832): slot 0 A, 1 B, 2 from PCIe. -/
def loadImage (s : State) (slot : Nat) (b : List Byte) (good : List Bool) : State :=
  if s.pw.stage ≠ 5 || s.pw.aonDown then s else
  let booting := decide (s.pw.state = .booting)
  if slot = 0 && booting && decide (s.pw.boot = .slotA) || slot = 1 && booting && decide (s.pw.boot = .slotB) then
    if imageGood s b good then acceptImage s b good false else failSlot s slot
  else if slot = 2 && decide (s.pw.boot = .pcie) && decide (s.pw.bootStatus = 1) then
    if !imageGood s b good then s.modPw fun p => { p with bootStatus := 3 }
    else if booting then acceptImage s b good true
    else if s.pw.state = .waking then
      if sameImage s b good then s.modPw fun p => { p with boot := .trained, bootStatus := 2 } else goCold s
    else s
  else s

/-- Whether the boot registers of PF0 answer (21, R827). -/
def bootOpen (s : State) : Bool :=
  (decide (s.pw.state = .booting) || decide (s.pw.state = .waking)) && decide (s.pw.stage = 5) && decide (s.pw.boot = .pcie)

/-- BOOT_GO: the Warden reads the image, where all of it lies in T0's host apertures (01 R26); with a range that does not,
BOOT_STATUS is REJECTED at once (DESIGN CHOICE, log entry 153). -/
def bootGo (s : State) (v : Nat) : State :=
  if bootOpen s && v.testBit 31 && s.pw.bootStatus ≠ 1 then
    s.modPw fun p => { p with bootStatus := if inApertures s 0 p.bootAddr p.bootLen then 1 else 3 }
  else s

/-- A boot register as it reads. -/
def bootReg (s : State) (ofs : Nat) : Nat :=
  if !bootOpen s then 0
  else if ofs = 0x1100 then s.pw.bootAddr % 2 ^ 32 else if ofs = 0x1104 then s.pw.bootAddr / 2 ^ 32
  else if ofs = 0x1108 then s.pw.bootLen
  else if ofs = 0x110C then s.pw.bootStatus + 2 ^ 31 * b2n (decide (s.pw.bootStatus = 1))
  else 0

/-- A write of a boot register. -/
def bootWrite (s : State) (ofs v : Nat) : State :=
  if !bootOpen s then s
  else if ofs = 0x1100 then s.modPw fun p => { p with bootAddr := p.bootAddr / 2 ^ 32 * 2 ^ 32 + v % 2 ^ 32 / 64 * 64 }
  else if ofs = 0x1104 then s.modPw fun p => { p with bootAddr := p.bootAddr % 2 ^ 32 + v % 2 ^ 32 * 2 ^ 32 }
  else if ofs = 0x1108 then s.modPw fun p => { p with bootLen := v % 2 ^ 22 }
  else if ofs = 0x110C then bootGo s v
  else s

/-- Ranks that fail the check of the memory stage of a wake count as failed training (17 R720). -/
def checkRanks (s : State) (good : Nat) : State :=
  let bad := (List.range 16).filter fun n =>
    !good.testBit n && (decide ((rankOf' s n).state = .inService) || decide ((rankOf' s n).state = .spare))
  if bad.isEmpty then s else
  let s := bad.foldl (fun s n => modRank s n fun r => { r with state := .failedTraining }) s
  let out := fun (l : List Nat) => l.filter fun n => !bad.contains n
  let s := s.modDram fun d =>
    let a := out d.slots0
    let d := { d with ranks := dropNarrow (dropNarrow d.ranks 0) 1 }
    if a.length < 6 then { d with slots0 := [], slots1 := [] }
    else { d with slots0 := a, slots1 := if (out d.slots1).length < 6 then [] else out d.slots1 }
  assert (raise s (srcMemory 5) 0) 21 (everyTenancy s)

/-- The end of training (17 R723, R711), which ends a boot, or of the check of a wake's memory stage (17 R720). -/
def trainingEnds (s : State) (gib present good : Nat) : State :=
  if s.pw.state = .booting && s.pw.boot = .trained then openDevice (endTraining s gib present good s.pw.spares)
  else if s.pw.state = .waking && s.pw.stage = 3 then checkRanks s good
  else s

end Sys2Proof.Machine
end

