-- ==== Sys2Proof/Machine/ConfigOps.lean ====
section
/-! DEFINITION. The PCI configuration space of the functions (06 R251 to R254, R289, R290, R293), through which a host
places the BARs, sets Bus Master Enable, the power state, the masks and the SR-IOV capability. The spec names the
capabilities; their layouts and offsets are those of the PCIe base specification (log entry 125). -/

namespace Sys2Proof.Machine

def modCfg (s : State) (f : Nat) (g : PciSpace → PciSpace) : State := modFn s f fun x => { x with cfg := g x.cfg }

/-! ### Offsets -/

def cfgCommand : Nat := 0x04
def cfgBar0 : Nat := 0x10
def cfgBar2 : Nat := 0x18
def cfgPointer : Nat := 0x34
def cfgPower : Nat := 0x44
def cfgPcie : Nat := 0x50
def cfgLinkControl : Nat := 0x60
def cfgDeviceControl2 : Nat := 0x78
def cfgMsix : Nat := 0xB0
def cfgAer : Nat := 0x100
def cfgAri : Nat := 0x140
def cfgSriov : Nat := 0x180
def cfgL1ss : Nat := 0x1C0

/-- The bytes of a BAR (06 R251). -/
def barSize (bar2 : Bool) : Nat := if bar2 then 0x2000 else 0x4000

/-- The bytes of a VF's BAR: rounded up to the System Page Size (06 R252). -/
def vfBarSize (s : State) (bar2 : Bool) : Nat := max (barSize bar2) (s.pcie.sysPage * 4096)

/-- A base address kept to a BAR's alignment. -/
def alignTo (n a : Nat) : Nat := a / n * n

/-- PowerState of PMCSR. -/
def pmNum : DState → Nat
  | .d0 => 0 | .d3hot => 3 | .d3cold => 3

/-! ### Reads -/

/-- The SR-IOV capability of PF0 (06 R252). -/
def sriovReg (s : State) (o : Nat) : Nat :=
  let p := s.pcie
  if o = 0x00 then 0x1C010010
  else if o = 0x08 then b2n p.vfEnable + 8 * b2n p.vfMse + 16 * b2n p.ariHier
  else if o = 0x0C then p.totalVfs + 65536 * p.totalVfs
  else if o = 0x10 then p.numVfs else if o = 0x14 then p.firstVf + 65536 * p.vfStride
  else if o = 0x20 then p.sysPage
  else if o = 0x24 then p.vfBar0 % 2 ^ 32 + 4 else if o = 0x28 then p.vfBar0 / 2 ^ 32
  else if o = 0x2C then p.vfBar2 % 2 ^ 32 + 4 else if o = 0x30 then p.vfBar2 / 2 ^ 32
  else 0

/-- The AER capability (06 R254). -/
def aerReg (c : PciSpace) (o : Nat) : Nat :=
  if o = 0x00 then 0x14010001 else if o = 0x04 then c.aerUe else if o = 0x08 then c.aerUeMask else if o = 0x0C then c.aerUeSev
  else if o = 0x10 then c.aerCe else if o = 0x14 then c.aerCeMask else 0

/-- The headers that advertise the capabilities of 06 R254, each with the next one's offset: power management with PME from
D3hot and D3cold, PCI Express with function-level reset and ASPM L1, and L1 PM substates (log entry 125). -/
def capabilityReg (s : State) (f o : Nat) : Nat :=
  if o = cfgPointer then 0x40
  else if o = cfgPower - 4 then 0xC0035001
  else if o = cfgPcie then 0x0002B010 else if o = cfgPcie + 0x04 then 0x10008000 else if o = cfgPcie + 0x0C then 0x800
  else if o = cfgPcie + 0x24 then 0xF
  else if o = cfgAri then (if f = 0 then 0x1801000E else 0x0001000E) * b2n s.pcie.ari
  else if f = 0 && o = cfgL1ss then 0x0001001E else if f = 0 && o = cfgL1ss + 4 then 0x1F
  else 0

/-- A register of a function's configuration space as it reads; an offset without one reads as zero. -/
def configReg (s : State) (f o : Nat) : Nat :=
  let x := fnOf s f
  let c := x.cfg
  if o = cfgCommand then 2 * b2n c.memEnable + 4 * b2n x.busMaster + 2 ^ 20
  else if o = cfgBar0 then if f = 0 then c.bar0 % 2 ^ 32 + 4 else 0
  else if o = cfgBar0 + 4 then if f = 0 then c.bar0 / 2 ^ 32 else 0
  else if o = cfgBar2 then if f = 0 then c.bar2 % 2 ^ 32 + 4 else 0
  else if o = cfgBar2 + 4 then if f = 0 then c.bar2 / 2 ^ 32 else 0
  else if o = cfgPower then pmNum x.dstate + 256 * b2n x.pmeEn + 32768 * b2n x.pmeStatus
  else if o = cfgLinkControl then c.aspm
  else if o = cfgDeviceControl2 then c.timeout
  else if o = cfgMsix then 0x11 + 65536 * (259 + 2 ^ 14 * b2n x.fnMask + 2 ^ 15 * b2n c.msixEnable)
  else if o = cfgMsix + 4 then 2 else if o = cfgMsix + 8 then 0x1802
  else if cfgAer ≤ o && o < cfgAer + 0x40 then aerReg c (o - cfgAer)
  else if f = 0 && cfgSriov ≤ o && o < cfgSriov + 0x40 then sriovReg s (o - cfgSriov)
  else if f = 0 && o = cfgL1ss + 8 then c.l1ss
  else capabilityReg s f o

/-! ### Writes -/

/-- VF Enable as the host writes it: set (05 R864), or cleared. -/
def writeVfEnable (s : State) (on : Bool) : State :=
  if on && !s.pcie.vfEnable then setVfEnable s
  else if !on && s.pcie.vfEnable then settleWake (s.modPcie fun p => { p with vfEnable := false })
  else s

/-- The SR-IOV capability is written: NumVFs holds while VF Enable is set. -/
def sriovWrite (s : State) (o v : Nat) : State :=
  if o = 0x08 then
    writeVfEnable (s.modPcie fun p => { p with vfMse := v.testBit 3, ariHier := v.testBit 4 }) (v.testBit 0)
  else if o = 0x10 then if s.pcie.vfEnable || v % 65536 > s.pcie.totalVfs then s else s.modPcie fun p => { p with numVfs := v % 65536 }
  else if o = 0x20 then s.modPcie fun p => { p with sysPage := max 1 (v % 2 ^ 32) }
  else if o = 0x24 then s.modPcie fun p => { p with vfBar0 := alignTo (vfBarSize s false) (p.vfBar0 / 2 ^ 32 * 2 ^ 32 + v % 2 ^ 32) }
  else if o = 0x28 then s.modPcie fun p => { p with vfBar0 := withHi p.vfBar0 v }
  else if o = 0x2C then s.modPcie fun p => { p with vfBar2 := alignTo (vfBarSize s true) (p.vfBar2 / 2 ^ 32 * 2 ^ 32 + v % 2 ^ 32) }
  else if o = 0x30 then s.modPcie fun p => { p with vfBar2 := withHi p.vfBar2 v }
  else s

/-- PMCSR is written: PME_En, PME_Status (W1C, but for one set in this tick, 00 R10), and the power state (06 R293 to R295). -/
def powerWrite (s : State) (f v : Nat) : State :=
  let s := modFn s f fun x => { x with pmeEn := v.testBit 8, pmeStatus := x.pmeStatus && (!v.testBit 15 || decide (x.pmeSetAt = some (now s))) }
  if v % 4 = 3 then enterD3 s f else if v % 4 = 0 && (fnOf s f).dstate = .d3hot then returnToD0 s f else s

/-- The Message Control of MSI-X is written (06 R289): clearing Function Mask, or setting MSI-X Enable, sends what is pending. -/
def msixControl (s : State) (f v : Nat) : State :=
  let was := (fnOf s f).fnMask || !(fnOf s f).cfg.msixEnable
  let s := modCfg s f fun c => { c with msixEnable := v.testBit 31 }
  if v.testBit 30 then modFn s f fun x => { x with fnMask := true }
  else if was then unmask s f none else s

/-- The command register is written: Memory Space Enable and Bus Master Enable (06 R291, R294). -/
def commandWrite (s : State) (f v : Nat) : State :=
  let was := (fnOf s f).busMaster
  let s := modCfg s f fun c => { c with memEnable := v.testBit 1 }
  if v.testBit 2 && !was then setMaster s f else if !v.testBit 2 && was then clearMaster s f else s

/-- A write of 32 bits to a function's configuration space. -/
def configWrite (s : State) (f o v : Nat) : State :=
  if f > 16 then s else
  if o = cfgCommand then commandWrite s f v
  else if o = cfgBar0 then modCfg s f fun c => { c with bar0 := alignTo 0x4000 (c.bar0 / 2 ^ 32 * 2 ^ 32 + v % 2 ^ 32) }
  else if o = cfgBar0 + 4 then modCfg s f fun c => { c with bar0 := withHi c.bar0 v }
  else if o = cfgBar2 then modCfg s f fun c => { c with bar2 := alignTo 0x2000 (c.bar2 / 2 ^ 32 * 2 ^ 32 + v % 2 ^ 32) }
  else if o = cfgBar2 + 4 then modCfg s f fun c => { c with bar2 := withHi c.bar2 v }
  else if o = cfgPower then powerWrite s f v
  else if o = cfgLinkControl then modCfg s f fun c => { c with aspm := v % 4 &&& 2 }
  else if o = cfgDeviceControl2 then modCfg s f fun c => { c with timeout := v % 16 }
  else if o = cfgMsix then msixControl s f v
  else if o = cfgAer + 0x04 then modCfg s f fun c =>
      { c with aerUe := maskOff c.aerUe (maskOff (v % 2 ^ 32) (if c.aerAt = some (now s) then c.aerNew else 0)) }
  else if o = cfgAer + 0x08 then modCfg s f fun c => { c with aerUeMask := v % 2 ^ 32 }
  else if o = cfgAer + 0x0C then modCfg s f fun c => { c with aerUeSev := v % 2 ^ 32 }
  else if o = cfgAer + 0x10 then modCfg s f fun c => { c with aerCe := maskOff c.aerCe (v % 2 ^ 32) }
  else if o = cfgAer + 0x14 then modCfg s f fun c => { c with aerCeMask := v % 2 ^ 32 }
  else if f = 0 && cfgSriov ≤ o && o < cfgSriov + 0x40 then sriovWrite s (o - cfgSriov) v
  else if f = 0 && o = cfgL1ss + 8 then modCfg s f fun c => { c with l1ss := v % 16 }
  else s

end Sys2Proof.Machine
end

