-- ==== Sys2Proof/Machine/RegOps.lean ====
section
/-! DEFINITION. The registers of the working blocks as they read and as their one writer writes them (01 R9 to R15, R23,
and each chapter's register map). An offset without a register reads as zero and ignores writes. -/

namespace Sys2Proof.Machine

/-! ### Reads -/

/-- The Timeline block (02). -/
def timelineReg (s : State) (o : Nat) : Nat :=
  if o = 0x00 then tlCtrl s else if o = 0x04 then s.tl.epochTicks else if o = 0x08 then tlSyncOut s
  else if o = 0x0C then tlSyncOfs s else if o = 0x10 then tlStatus s else if o = 0x14 then s.tl.epoch
  else if o = 0x18 then now s % 2 ^ 32 else if o = 0x1C then s.tl.tickHi
  else if o = 0x20 then unsint 32 s.tl.phaseErr else if o = 0x24 then unsint 32 s.tl.freqOfs
  else if o = 0x28 then holdBound s else if o = 0x2C then eventWord s (srcTimeline 0) 5 else 0

/-- The Stockroom block (03): four ownership entries a word from 0x1000 on. -/
def stockroomReg (s : State) (o : Nat) : Nat :=
  if o = 0x00 then s.sr.wm + 2 ^ 31 * b2n s.sr.lock
  else if o = 0x08 then (s.sr.retain ||| 1) % 2 ^ 32 else if o = 0x0C then s.sr.retain / 2 ^ 32
  else if o = 0x10 then s.sr.ceCount else if o = 0x14 then s.sr.ueCount
  else if o = 0x18 then eventWord s (srcStockroom 0) 5 else if o = 0x1C then s.sr.ueAddr
  else if 0x40 ≤ o && o < 0x70 && o % 4 = 0 then (stagerOf s ((o - 0x40) / 4)).margin
  else if 0x80 ≤ o && o < 0xB0 && o % 4 = 0 then (stagerOf s ((o - 0x80) / 4)).warn
  else if 0x1000 ≤ o && o < 0x1300 then
    (List.range 4).foldl (fun n i => n + 2 ^ (8 * i) * (if o - 0x1000 + i < 768 then shelfOwner s (o - 0x1000 + i) else 0)) 0
  else 0

/-- The memory controller (17; the plot entries 05 R210). -/
def memoryReg (s : State) (o : Nat) : Nat :=
  if o = 0x00 then s.dram.wm + 2 ^ 31 * b2n s.dram.lock
  else if o = 0x04 then eventWord s (srcMemory 0) 7
  else if o = 0x10 then s.dram.ceCount else if o = 0x14 then s.dram.ueCount
  else if o = 0x18 then s.dram.ueAddr % 2 ^ 32 else if o = 0x1C then s.dram.ueAddr / 2 ^ 32
  else if o = 0x20 then (match s.dram.migration with | some m => m.copied / 2 ^ 20 | none => 0)
  else if o = 0x24 then s.dram.pdIdle
  else if 0x40 ≤ o && o < 0x80 && o % 4 = 0 then mcRank s ((o - 0x40) / 4)
  else if 0x100 ≤ o && o < 0x180 && o % 4 = 0 then latTarget s ((o - 0x100) / 4)
  else if 0x10000 ≤ o && o < 0x18000 then
    (List.range 4).foldl (fun n i => n + 2 ^ (8 * i) * (if o - 0x10000 + i < 32768 then plotOwner s (o - 0x10000 + i) else 0)) 0
  else 0

/-- AU_CTRL of a unit (10). -/
def auCtrl (v : Assay) : Nat :=
  v.target + 2 ^ 8 * v.region + 2 ^ 16 * v.owner + 2 ^ 23 * v.snoop + 2 ^ 26 * v.algo + 2 ^ 28 * v.expect +
  2 ^ 30 * b2n v.c1 + 2 ^ 31 * b2n v.enable

/-- The assay units (10). -/
def assayReg (s : State) (o : Nat) : Nat :=
  if o ≥ 0xC00 then 0 else
  let v := assayOf s (o / 0x40)
  let k := o % 0x40
  if k = 0x00 then auCtrl v else if k = 0x04 then v.xy else if k = 0x08 then v.wh else if k = 0x0C then v.seq
  else if k = 0x10 then v.base % 2 ^ 32 else if k = 0x14 then v.base / 2 ^ 32
  else if k = 0x18 then v.actual % 2 ^ 32 else if k = 0x1C then v.actual / 2 ^ 32
  else if k = 0x20 then v.expected % 2 ^ 32 else if k = 0x24 then v.expected / 2 ^ 32
  else if k = 0x28 then v.result else 0

/-- TT_POS, TT_SIZE, TT_IMAGE and TT_CRC of a sprite (10). -/
def spriteWords (v : Sprite) : List Nat :=
  [v.x + 2 ^ 16 * v.y + 2 ^ 31 * b2n v.enable, v.wM1 + 2 ^ 8 * v.hM1, v.image, v.crc]

/-- The telltale block (10). -/
def telltaleReg (s : State) (o : Nat) : Nat :=
  if 0x1000 ≤ o && o < 0x4000 && o % 4 = 0 then
    (spriteWords (spriteOf s ((o - 0x1000) / 0x400) ((o - 0x1000) % 0x400 / 16))).getD (o % 16 / 4) 0
  else if 0x4000 ≤ o && o < 0x4300 && o % 4 = 0 && o % 0x40 ≠ 0 then tget 0 s.au.palette (16 * ((o - 0x4000) / 0x40) + o % 0x40 / 4)
  else 0

/-- One port's touch registers (12). -/
def touchReg (s : State) (p o : Nat) : Nat :=
  if o = 0x00 then tcStatus s p else if o = 0x04 then eventWord s (srcTouchPort p 0) 5
  else if o = 0x08 then (portOf s p).scans else if o = 0x0C then (portOf s p).skips
  else if 0x40 ≤ o && o < 0x80 && o % 4 = 0 then tget 0 (portOf s p).noise ((o - 0x40) / 4) else 0

/-- One channel's haptic registers (14); VHAP_LOW stands in channel 0's. -/
def hapticReg (s : State) (c o : Nat) : Nat :=
  if o = 0x00 then hpStatus s c
  else if o = 0x04 then eventWord s (srcHaptic c 0) 2 + (if c = 0 then 4 * eventWord s srcVhap 1 else 0) else 0

/-- The audio registers (15). -/
def audioReg (s : State) (o : Nat) : Nat :=
  if o = 0x00 || o = 0x04 then adJack s (o / 4) else if o = 0x10 then eventWord s (srcAudioBlock 0) 4
  else if o = 0x14 then s.audio.syncLosts else 0

/-- One channel's DMA registers (16). -/
def dmaReg (s : State) (k o : Nat) : Nat :=
  let v := chanOf s k
  if o = 0x00 then dmStatus s k else if o = 0x04 then eventWord s (srcDma k) 1
  else if o = 0x08 then v.failAddr % 2 ^ 32 else if o = 0x0C then v.failAddr / 2 ^ 32
  else if o = 0x10 then v.moved % 2 ^ 32 else if o = 0x14 then v.moved / 2 ^ 32 % 16 else 0

/-- The event controller's registers (18). -/
def eventReg (s : State) (o : Nat) : Nat :=
  if 0x400 ≤ o && o < 0x800 && o % 4 = 0 then evRingReg s ((o - 0x400) / 4)
  else if o = 0x800 then s.ev.gdis
  else if 0x1000 ≤ o && o < 0x2000 && o % 4 = 0 then evSrcReg s ((o - 0x1000) / 4) else 0

/-- The power block (21 PW_EVENTS). -/
def powerReg (s : State) (o : Nat) : Nat := if o = 0 then (evSrc s srcPower).cause % 64 else 0

/-- A register of a block named by its apprentice, or of the telltale block (19 REG_READ). Apprentice 10 writes the power
block, whose one register lies at 0x00, and the Timeline (log entry 37). -/
def blockReg (s : State) (b o : Nat) : Nat :=
  if b = 2 then assayReg s o
  else if b = 4 then (if o < 0x800 then touchReg s (o / 0x100) (o % 0x100) else 0)
  else if b = 5 then (if o < 0x100 then hapticReg s (o / 0x10) (o % 0x10) else 0)
  else if b = 6 then audioReg s o
  else if b = 7 then (if o < 0x800 then dmaReg s (o / 0x20) (o % 0x20) else 0)
  else if b = 8 then memoryReg s o
  else if b = 9 then eventReg s o
  else if b = 10 then (if o = 0 then powerReg s 0 else timelineReg s o)
  else if b = 11 then stockroomReg s o
  else if b = 12 then telltaleReg s o
  else 0

/-- A read of TL_TICK_LO latches the high half (02 R38). -/
def latchTick (s : State) : State := s.modTl fun t => { t with tickHi := t.tick / 2 ^ 32 }

/-! ### Writes -/

/-- A write of 32 bits to the Timeline block: what TIMELINE_CONFIG writes at an epoch start. -/
def timelineWrite (s : State) (o v : Nat) : State :=
  if o = 0x00 then
    (selectSource s (bits v 0 3)).modTl fun t =>
      { t with edge := v.testBit 3, align := v.testBit 4, lossCount := bits v 8 4, holdPpm := bits v 16 8,
               stepDue := v.testBit 4 && decide (bits v 0 3 ≠ 0) && !t.seenEdge }
  else if o = 0x04 then s.modTl fun t => { t with epochTicks := bits v 0 29 }
  else if o = 0x08 then
    (installSync s (v % 2 ^ 32) (tlSyncOfs s)).modTl fun t => { t with soNext := [] }
  else if o = 0x0C then s.modTl fun t =>
    { t with soOfs := bits v 0 29, soNext := t.soNext.map fun n => (n.1, bits v 0 29, n.2.2) }
  else if o = 0x2C then clearEventWord s (srcTimeline 0) 5 v
  else s

/-- The watermark, ignored outside 16 to 256 and once locked (03 R96, R97). -/
def writeSrMark (s : State) (v : Nat) : State :=
  if s.sr.lock || v < 16 || v > 256 then s else s.modSr fun r => { r with wm := v }

/-- The DRAM watermark, ignored above 1,024 and once locked (17 R704). -/
def writeDramMark (s : State) (v : Nat) : State :=
  if s.dram.lock || v > 1024 then s else s.modDram fun d => { d with wm := v }

/-- The LOCK bit of a block that has one is set (01 R11). -/
def setLock (s : State) (b : Block) : State :=
  match b with
  | .stockroom => s.modSr fun r => { r with lock := true }
  | .memory => s.modDram fun d => { d with lock := true }
  | .ledger => s.modLg fun l => { l with lock := true }
  | .fnPage _ => s
  | .bar2 _ => s
  | .config _ => s
  | .boot => s
  | .timeline => s
  | .heads => s
  | .integrity => s
  | .touch _ => s
  | .haptic => s
  | .audio => s
  | .dma => s
  | .events => s
  | .power => s
  | .supervisor => s
  | .wardenStockroom => s

/-- A 32-bit write of SR_RETAIN's half at 0x08 or 0x0C. -/
def retainHalf (s : State) (warden : Bool) (o v : Nat) : State :=
  if o = 0x08 then writeRetain s warden (s.sr.retain / 2 ^ 32 * 2 ^ 32 + v % 2 ^ 32)
  else if o = 0x0C then writeRetain s warden (s.sr.retain % 2 ^ 32 + v % 2 ^ 16 * 2 ^ 32)
  else s

/-- A write to the Stockroom block of `width` bits; an ownership entry is one byte wide. -/
def stockroomWrite (s : State) (o v width : Nat) : State :=
  if o = 0x00 then
    let s := writeSrMark s (bits v 0 10)
    if v.testBit 31 then setLock s .stockroom else s
  else if o = 0x08 || o = 0x0C then retainHalf s false o v
  else if o = 0x18 then clearEventWord s (srcStockroom 0) 5 v
  else if 0x80 ≤ o && o < 0xB0 && o % 4 = 0 then
    setStager s ((o - 0x80) / 4) { stagerOf s ((o - 0x80) / 4) with warn := v % 2 ^ 21 }
  else if 0x1000 ≤ o && o < 0x1300 then
    (List.range (min 4 (width / 8))).foldl (fun s i => setShelfOwner s (o - 0x1000 + i) (v / 2 ^ (8 * i) % 32)) s
  else s

/-- A write to the memory controller block. -/
def memoryWrite (s : State) (o v width : Nat) : State :=
  if o = 0x00 then
    let s := writeDramMark s (bits v 0 13)
    if v.testBit 31 then setLock s .memory else s
  else if o = 0x04 then clearEventWord s (srcMemory 0) 7 v
  else if o = 0x24 then s.modDram fun d => { d with pdIdle := v % 2 ^ 19 }
  else if 0x100 ≤ o && o < 0x180 && o % 4 = 0 then
    s.modDram fun d => { d with latency := tset 4000 d.latency ((o - 0x100) / 4) (v % 2 ^ 19) }
  else if 0x10000 ≤ o && o < 0x18000 then
    (List.range (min 4 (width / 8))).foldl (fun s i => setPlotOwner s (o - 0x10000 + i) (v / 2 ^ (8 * i) % 32)) s
  else s

/-- A write to the integrity block: the assay units', and the telltale registers, which the Warden writes (10 R479). -/
def integrityWrite (s : State) (o v : Nat) : State :=
  let v := v % 2 ^ 32
  if o < 0xC00 then
    let u := o / 0x40
    let k := o % 0x40
    if k = 0x00 then modAssay s u fun a => { a with
        enable := v.testBit 31, c1 := v.testBit 30, expect := bits v 28 2, algo := bits v 26 2, snoop := bits v 23 3,
        owner := bits v 16 5, region := bits v 8 8, target := bits v 0 8 }
    else if k = 0x04 then modAssay s u fun a => { a with xy := v }
    else if k = 0x08 then modAssay s u fun a => { a with wh := v }
    else if k = 0x10 then modAssay s u fun a => { a with base := a.base / 2 ^ 32 * 2 ^ 32 + v }
    else if k = 0x14 then modAssay s u fun a => { a with base := a.base % 2 ^ 32 + v * 2 ^ 32 }
    else s
  else if 0x1000 ≤ o && o < 0x4000 && o % 4 = 0 then
    let h := (o - 0x1000) / 0x400
    let n := (o - 0x1000) % 0x400 / 16
    let w := setAt (spriteWords (spriteOf s h n)) (o % 16 / 4) v
    setSprite s h n (spriteOfWords (w.getD 0 0) (w.getD 1 0) (w.getD 2 0) (w.getD 3 0))
  else if 0x4000 ≤ o && o < 0x4300 && o % 4 = 0 && o % 0x40 ≠ 0 then setPalette s ((o - 0x4000) / 0x40) (o % 0x40 / 4) v
  else s

/-- A write to the haptic block. -/
def hapticWrite (s : State) (o v : Nat) : State :=
  if o < 0x100 && o % 16 = 4 then
    let s := clearEventWord s (srcHaptic (o / 16) 0) 2 v
    if o = 4 then clearEventWord s srcVhap 1 (v / 4) else s
  else s

/-- A write to the event controller: a source's target is a ring of its own tenancy (18 R736). -/
def eventWrite (s : State) (o v : Nat) : State :=
  if 0x400 ≤ o && o < 0x800 && o % 4 = 0 then
    let p := (o - 0x400) / 4
    setEvRing s p { evRing s p with loc := bits v 0 8, owner := bits v 8 5, enable := v.testBit 31 }
  else if o = 0x800 then s.modEv fun e => { e with gdis := v % 2 ^ 17 }
  else if 0x1000 ≤ o && o < 0x2000 && o % 4 = 0 then
    let n := (o - 0x1000) / 4
    setEvSrc s n { evSrc s n with mask := v.testBit 28, target := .fields (v.testBit 24) (bits v 16 8) }
  else s

/-- A write to a register as its access code states (01 R9). -/
def registerWriteOf (s : State) (b : Block) (o v width : Nat) : State :=
  match b with
  | .fnPage f => if f ≤ 16 then pageWrite s f o v width else s
  | .bar2 f => if f > 16 then s else if f = 0 && decide (0x1100 ≤ o) && decide (o ≤ 0x110C) then bootWrite s o v else msixWrite s f o v
  | .config f => if width = 32 then configWrite s f o v else s
  | .boot => bootWrite s o v
  | .timeline => timelineWrite s o v
  | .stockroom => stockroomWrite s o v width
  | .memory => memoryWrite s o v width
  | .heads => s
  | .integrity => integrityWrite s o v
  | .touch p => if o = 4 && decide (p < 8) then clearEventWord s (srcTouchPort p 0) 5 v else s
  | .haptic => hapticWrite s o v
  | .audio => if o = 0x10 then clearEventWord s (srcAudioBlock 0) 4 v else s
  | .dma => if o < 0x800 && o % 0x20 = 4 then clearEventWord s (srcDma (o / 0x20)) 1 v else s
  | .events => eventWrite s o v
  | .power => if o = 0 then lower s srcPower (v % 64) else s
  | .ledger => ledgerWrite s o v
  | .wardenStockroom => retainHalf s true o v
  | .supervisor => if 0x100 ≤ o && o ≤ 0x1FF then supervisorWrite s (o - 0x100) v else s

end Sys2Proof.Machine
end

