-- ==== Sys2Proof/Machine/SupOps.lean ====
section
/-! DEFINITION. The supervisor port (19 R782 to R786): its frames, its registers, and the messages its mailbox carries
to the Warden. -/

namespace Sys2Proof.Machine

/-- SV_STATUS. -/
def svStatus (s : State) : Nat :=
  b2n s.wd.restarting.isNone + 2 * b2n s.wd.restarting.isSome + 4 * b2n s.wd.inbox.isSome + 8 * b2n s.wd.reply.isSome +
  16 * b2n (sessionActive s)

/-- Whether a supervisor register lies at an offset. -/
def svHas (o : Nat) : Bool := decide (o < 0x10) || (decide (0x100 ≤ o) && decide (o < 0x200))

def svReg (s : State) (o : Nat) : Nat :=
  if o = 0 then 0x12164230 else if o = 4 then svStatus s else if o = 8 then s.wd.beats else if o = 12 then s.wd.errors
  else ledgerReg s (o - 0x100)

/-- The device's half of a frame (19 R783): STATUS, the echoed SEQ, the data and a CRC-16 over all of it. -/
def svAnswer (s : State) (status seq : Nat) (data : List Byte) : State :=
  let bs := leBytes 1 status ++ leBytes 1 seq ++ data
  s.modWd fun w => { w with sent := bs ++ leBytes 2 (crcOf (crcAlgo 2) bs) }

/-- A frame in error: SV_ERRORS counts it, saturating. -/
def svError (s : State) : State := s.modWd fun w => { w with errors := min 0xFFFFFFFF (w.errors + 1) }

/-- A frame that is not answered OK has no effect; the data bytes of its answer are free (log entry 3). -/
def svRefuse (s : State) (status seq len : Nat) : State :=
  let (bs, s) := freshBytes s len
  svAnswer s status seq bs

/-- The checks every frame meets (19 R782, R784); `good` says what an OK frame does. -/
def svFrame (s : State) (seq len : Nat) (crcGood : Bool) (refusal : Option Nat) (good : State → State) : State :=
  if !clockRuns s then s
  else if !s.wd.fuses.svEnable then svRefuse s 5 seq len
  else if !crcGood then svRefuse (svError s) 1 seq len
  else match refusal with
    | some 2 => svRefuse (svError s) 2 seq len
    | some r => svRefuse s r seq len
    | none => good s

/-- Whether a register range can be read or written: whole words, each with a register. -/
def svRange (addr len : Nat) : Bool :=
  decide (addr % 4 = 0) && decide (len % 4 = 0) && decide (4 ≤ len) && decide (len ≤ 256) &&
  (List.range (len / 4)).all fun i => svHas (addr + 4 * i)

def svReadOf (s : State) (seq addr len : Nat) (crcGood : Bool) : State :=
  svFrame s seq len crcGood (if svRange addr len then none else some 2) fun s =>
    svAnswer s 0 seq ((List.range (len / 4)).flatMap fun i => leBytes 4 (svReg s (addr + 4 * i)))

def svWriteOf (s : State) (seq addr : Nat) (data : List Byte) (crcGood : Bool) : State :=
  svFrame s seq 0 crcGood (if svRange addr data.length then none else some 2) fun s =>
    let s := (List.range (data.length / 4)).foldl (fun (s : State) (i : Nat) =>
      registerWriteOf s .supervisor (addr + 4 * i) (fieldOf data (4 * i) 4) 32) s
    svAnswer s 0 seq []

/-- MBOX_SEND: BUSY while the Warden still has a message (19 R785). -/
def mboxSendOf (s : State) (seq : Nat) (msg : List Byte) (crcGood : Bool) : State :=
  svFrame s seq 0 crcGood (if s.wd.inbox.isSome then some 3 else none) fun s =>
    svAnswer (s.modWd fun w => { w with inbox := some msg }) 0 seq []

/-- MBOX_RECV: EMPTY without a reply; a frame longer than the reply ends in free bytes. -/
def mboxRecvOf (s : State) (seq len : Nat) (crcGood : Bool) : State :=
  svFrame s seq len crcGood (if s.wd.reply.isNone then some 4 else none) fun s =>
    let r := s.wd.reply.getD []
    let (bs, s) := freshBytes s (len - r.length)
    svAnswer (s.modWd fun w => { w with reply := none }) 0 seq (r.take len ++ bs)

def frameCut (s : State) : State := if clockRuns s then svError s else s

/-! ### Messages (19 R785, R786) -/

/-- The Warden has a message's reply body ready. -/
def prepare (s : State) (body : List Byte) : State := s.modWd fun w => { w with prepared := some body }

/-- What a message asks is done where its test allows, and its STATUS prepared; between t_r and resumption the Warden
handles none. -/
def onMessage (s : State) (good : Bool) (f : State → State) : State :=
  if s.wd.restarting.isSome || !clockRuns s then s
  else if good then prepare (f s) [0] else prepare s [1]

/-- TT_SPRITE: head, sprite, then the words of TT_POS, TT_SIZE, TT_IMAGE and TT_CRC (log entry 36). -/
def ttSpriteOf (s : State) (msg : List Byte) : State :=
  let b := msg.drop 4
  let h := fieldOf b 0 1
  let n := fieldOf b 1 1
  onMessage s (decide (b.length = 18) && decide (h < 12) && decide (n < 64)) fun s =>
    setSprite s h n (spriteOfWords (fieldOf b 2 4) (fieldOf b 6 4) (fieldOf b 10 4) (fieldOf b 14 4))

/-- TT_PALETTE: head, first index, count, then the entries. -/
def ttPaletteOf (s : State) (msg : List Byte) : State :=
  let b := msg.drop 4
  let h := fieldOf b 0 1
  let first := fieldOf b 1 1
  let n := fieldOf b 2 1
  onMessage s (decide (b.length = 3 + 4 * n) && decide (h < 12) && decide (1 ≤ first) && decide (first + n ≤ 16)) fun s =>
    (List.range n).foldl (fun (s : State) (i : Nat) => setPalette s h (first + i) (fieldOf b (3 + 4 * i) 4)) s

/-- TT_IMAGE: a byte offset in bay 0, then the bytes; they go through port 31 (01 R26). -/
def ttImageOf (s : State) (msg : List Byte) : State :=
  let b := msg.drop 4
  let o := fieldOf b 0 4
  let n := b.length - 4
  onMessage s (decide (4 ≤ b.length) && decide (n ≤ 248) && decide (o + n ≤ 2 ^ 22)) fun s =>
    portWrite s { port := 31, owner := 0x1D, addr := o, write := some (b.drop 4), poison := false, len := 0, found := .sound } (b.drop 4)

/-- REG_READ: a block's apprentice, or 12 for the telltale block, and a 32-bit offset. -/
def regReadOf (s : State) (msg : List Byte) : State :=
  let b := msg.drop 4
  let k := fieldOf b 0 1
  let o := fieldOf b 1 4
  if s.wd.restarting.isSome || !clockRuns s then s
  else if b.length ≠ 5 || k > 12 || o % 4 ≠ 0 then prepare s [1]
  else
    let v := blockReg s k o
    prepare (if k = 10 && o = 0x18 then latchTick s else s) (0 :: leBytes 4 v)

/-- DEBUG_UNLOCK: a token that verifies opens debug access once every applet has ended, every key is destroyed and the
secure memory is being zeroised (19 R786). -/
def debugUnlockOf (s : State) (valid : Bool) : State :=
  onMessage s (valid && !s.wd.fuses.debugLock) fun s =>
    let s := (List.range 8).foldl (fun s n => endApplet s n (aborted 0)) s
    let s := s.modWd fun w => { w with keys := [], debugOpen := true }
    zeroiseSecure s ((List.range s.sr.wm).filter fun n => decide (16 ≤ n)) (List.range s.dram.wm)

/-- The types of message there are. -/
def knownType (t : Nat) : Bool := decide (1 ≤ t) && decide (t ≤ 5)

/-- The Warden posts the reply to the message it holds: the one it prepared, or a refusal of a type it does not know. -/
def postReply (s : State) : State :=
  match s.wd.inbox with
  | none => s
  | some m =>
    let t := fieldOf m 0 1
    let body := match s.wd.prepared with | some b => some b | none => if knownType t then none else some [1]
    match body with
    | none => s
    | some b =>
      if s.wd.restarting.isSome then s else
      let r := leBytes 1 (t % 128 + 128) ++ leBytes 1 (fieldOf m 1 1) ++ leBytes 2 b.length ++ b
      s.modWd fun w => { w with inbox := none, prepared := none, reply := some r }

end Sys2Proof.Machine
end

