-- ==== Sys2Proof/Machine/WheelOps.lean ====
section
/-! DEFINITION. What a wheel turn and an epoch start do (02 R41, R47, R70 to R72; 03 R126, R138, R155; 05 R222; 17 R710,
R715; 20 R799), and the commands that take hold at an epoch start. -/

namespace Sys2Proof.Machine

/-! ### Turns -/

/-- The owner of a wheel's entry. -/
def entryOwner (s : State) (wheel entry : Nat) : Nat := ((s.wheels.active.getD wheel []).drop entry).headD 0x1F

/-- The lending tenancies with a request pending at a wheel. -/
def lenders (s : State) (wheel : Nat) (waiting : List (Nat × Nat)) : List Nat :=
  (List.range 17).filter fun t => (tenOf s t).grants.lending && waiting.contains (wheel, t)

/-- Whom a wheel serves in a turn (02 R70, R226): its entry's owner; in a spare turn, or in a tenancy's turn with none of its
requests pending at the first cycle, a lending tenancy, of which the choice is a free value. A spare turn that no tenancy
borrows serves none. -/
def serveWheel (entry : Nat) (waiting : List (Nat × Nat)) (acc : List Nat × State) (wheel : Nat) : List Nat × State :=
  let (l, s) := acc
  let o := entryOwner s wheel entry
  let ls := lenders s wheel waiting
  let idle := decide (o = 0x1F) || (decide (o ≤ 16) && !waiting.contains (wheel, o))
  if !idle || ls.isEmpty then (l ++ [o], s)
  else
    let (v, s) := freshValue s
    (l ++ [ls.getD (v.toNat % ls.length) o], s)

/-- The turns in which data moved are counted, but for those of a Warden secure session (03 R155, R157; 17 R729). -/
def countTurn (s : State) : State :=
  let on := !sessionActive s
  let s := s.modSr fun r => { r with
    busyNow := (List.range 8).map fun g => r.busyNow.getD g 0 + b2n (on && r.moved.testBit g), moved := 0 }
  s.modDram fun d => { d with busyNow := d.busyNow + b2n (on && d.moved), moved := false }

/-- What waits at the wheels at a turn's first cycle: the requests the command names, and those the state holds. -/
def waitingAt (s : State) (named : List (Nat × Nat)) : List (Nat × Nat) :=
  named ++ s.sr.waiting.map (fun r => (r.port / 4, portOwner r)) ++ s.dram.queued.map (fun r => (7, r.owner)) ++
    [7, 8, 9].flatMap fun w => ((List.range 17).filter fun t => (xferTurn s w t).isSome).map fun t => (w, t)

/-- A turn with a given entry begins. -/
def enterTurn (s : State) (entry : Nat) (waiting : List (Nat × Nat)) : State :=
  let (l, s) := (List.range 11).foldl (serveWheel entry waiting) ([], s)
  s.modWheels fun w => { w with entry := entry, served := l, turnAt := now s, restart := false }

/-- The start of a turn: of entry 0 after an epoch start, else of the next entry (02 R71). The requests that waited for it
are served; the scrubber reads one beat in it; the patrol scrubber and the copy of a migration run in system turns of the
DRAM scheduler wheel, the mixer's reads in system turns of group 6. -/
def turnStartOf (s : State) (t : Turn) : State :=
  if !clockRuns s then s else
  let s := countTurn s
  let s := enterTurn s (if s.wheels.restart then 0 else (s.wheels.entry + 1) % 512) (waitingAt s t.waiting)
  let s := [7, 8, 9].foldl serveXfer s
  let s := serveDramTurn (serveTurn feedWrite s)
  let s := scrubBeat s t.scrub
  let s := if s.wheels.served.getD 7 0x1F = 0x1E then copyBytes (patrolBeat s t.patrol) t.copied else s
  if s.wheels.served.getD 6 0x1F = 0x1E then prefetchAll s else s

/-! ### Epoch starts -/

def epochDue (s : State) : Bool := clockRuns s && decide (s.tl.offset ≥ s.tl.epochLen)

/-- A command that takes hold at an epoch start does so, and is DONE. -/
def applyAtEpoch (s : State) (f : Flight) : State :=
  if f.op = 0x04 then finishDone (applyTimelineConfig s f.desc) f
  else if f.op = 0x32 then applyLayerFree s f
  else if f.op = 0x40 then finishDone (applyHeadConfig s f.desc) f
  else if f.op = 0x46 then finishDone (applyHeadDsc s f.desc) f
  else if f.op = 0x90 then finishDone (applyPortConfig s f.desc) f
  else if f.op = 0xC2 then finishDone (applyPowerGate s f.desc) f
  else if f.op = 0xD3 then finishDone (applyMemLatency s f.desc) f
  else s

/-- Charges of epochs that have passed are dropped; when the epoch count wraps, every epoch they name is counted from the
new zero. -/
def turnCharges (s : State) (wrapped : Bool) : State :=
  let back := fun (n : Nat) => if wrapped then n - 2 ^ 32 else n
  s.modCharges fun l =>
    (l.map fun c => { c with fromEpoch := back c.fromEpoch, toEpoch := c.toEpoch.map back }).filter
      fun c => match c.toEpoch with | some e => decide (e ≥ s.tl.epoch) | none => decide (c.amount ≠ 0) || decide (c.fromEpoch ≥ s.tl.epoch)

/-- BUSY and BUSY_TURNS of the epoch that has ended (03 R155, 17 R728). -/
def turnBusy (s : State) : State :=
  if sessionActive s then s else
  (s.modSr fun r => { r with busy := r.busyNow, busyNow := [0, 0, 0, 0, 0, 0, 0, 0] }).modDram
    fun d => { d with busy := d.busyNow, busyNow := 0 }

/-- An epoch start: the Timeline turns, the wheels go to entry 0 with the tables written in time, what is pending takes
effect, and what is sampled once an epoch is sampled. -/
def epochStartOf (s : State) (sampled : Bool) : State :=
  if !epochDue s then s else
  let wrapped := decide (s.tl.epoch + 1 ≥ 2 ^ 32)
  let s := turnCharges (turnEpoch s) wrapped
  let s := (List.range 12).foldl stagerEpoch s
  let s := turnBusy (countTurn s)
  let s := applyTables (applyLoads s.loads.length s)
  let s := syncEvent s 0
  let s := (s.flights.filter fun f => decide (f.phase = .epoch)).foldl applyAtEpoch s
  let s := s.modWheels fun w => { w with
    entry := 0, restart := true, served := (List.range 11).map fun k => entryOwner s k 0, turnAt := now s }
  epochSample s sampled

/-! ### Edges that do not come (02 R49) -/

/-- An expected reference edge is absent (02 R49): in LOCKED once the window of R46 around the boundary has passed, in
ACQUIRE at the end of an epoch without an accepted edge. -/
def edgeAbsent (s : State) : Bool :=
  let w := s.tl.epochTicks / 8
  decide (1 ≤ s.tl.src) && decide (s.tl.src ≤ 3) &&
  ((decide (s.tl.state = .locked) && decide (s.tl.offset = w + 1) && decide (now s - s.tl.lastEdge > 2 * w + 1)) ||
   (decide (s.tl.state = .acquire) && epochDue s && !s.tl.edgeHere))

def edgeMissing (s : State) : State :=
  if clockRuns s && decide (1 ≤ s.tl.src) && decide (s.tl.src ≤ 3) &&
      (decide (s.tl.state = .locked) || decide (s.tl.state = .acquire)) then missEdge s else s

/-- 1,024 epochs without a TIMELINE_STEER in HOST mode: the last came at steerOfs of the epoch 1,024 epochs ago, or earlier. -/
def steerDue (s : State) : Bool :=
  decide (s.tl.src = 4) && decide (s.tl.steerAge ≥ 1024) && (decide (s.tl.steerAge > 1024) || decide (s.tl.offset ≥ s.tl.steerOfs)) && (decide (s.tl.state = .locked) || decide (s.tl.state = .acquire))

def steerLate (s : State) : State := if steerDue s then enterHoldover s else s

end Sys2Proof.Machine
end

