-- ==== Sys2Proof/Machine/CmdOps.lean ====
section
/-! DEFINITION. The path of a command (04 R163 to R170; 06 R273 to R280; 07 R301 to R309, R322, R863): taken at its
admission instant and checked against what the tenancy's earlier commands leave, its first completion at a_k + 8,000,
what it then starts, the host data it reads and the answer of the Warden it waits for. -/

namespace Sys2Proof.Machine

/-! ### NOP and DEVICE_IDENTIFY (07 R317, R318) -/

def checkNop (_s : State) (c : Cmd) : Ruling := ruling [lowest [reserved [] c.d]] (yes .f)
def startNop (s : State) (f : Flight) : State := finishDone s f

def checkDeviceIdentify (s : State) (c : Cmd) : Ruling :=
  ruling (recordChecks s c.t (dget c.d 16 8) 64 0x10 [reserved [(16, 0, 64)] c.d]) (yes .f)

/-- The identification record (07 R318). GRADE and DEVICE_ID are the part's own (Config). -/
def identifyRecord (s : State) (t : Nat) : List Byte :=
  let own := decide (t = 0)
  leBytes 2 0x1216 ++ leBytes 2 0x4230 ++ leBytes 1 (if Config.gradeIn then 2 else 1) ++ leBytes 1 (b2n s.pw.patched) ++ leBytes 1 t ++ zeros 1 ++
  leBytes 4 0x00010000 ++ leBytes 4 (if s.pw.patched then s.pw.patchVersion else 0) ++ leBytes 1 12 ++ leBytes 1 8 ++ leBytes 1 16 ++
  leBytes 1 4 ++ leBytes 2 128 ++ zeros 2 ++ leBytes 4 (if own then plotsInstalled s.dram else 0) ++
  leBytes 4 (if own then s.dram.wm else 0) ++ leBytes 8 (if own then Config.deviceId.toNat else 0) ++ zeros 24

def startDeviceIdentify (s : State) (f : Flight) : State :=
  finishDone (hostWrite s (dget f.desc 16 8) (identifyRecord s f.src.fn)) f

/-! ### What a command does after its first completion -/

def awaitEpoch (s : State) (f : Flight) : State := await s f .epoch
def awaitData (s : State) (f : Flight) : State := await s f .data
def awaitUnit (s : State) (f : Flight) : State := await s f .unit

/-- The effects, by opcode. -/
def effects : List (Nat × (State → Flight → State)) :=
  [(0x00, startNop), (0x01, startDeviceIdentify), (0x02, startHostSuspend), (0x03, startResourceQuery), (0x04, awaitEpoch),
   (0x05, startTimelineSteer), (0x06, startTimelineStatus), (0x10, awaitData), (0x11, awaitData), (0x12, awaitData),
   (0x13, startQuiesce), (0x14, startResume), (0x15, startReset), (0x16, startRemove), (0x17, startFreeze), (0x18, startSave),
   (0x19, startRestore), (0x1A, startTenancyQuery), (0x1B, startAperture)] ++
  [(0x30, startLayerAlloc), (0x31, startLayerUpdate), (0x32, startLayerFree), (0x33, startLayerMove), (0x34, startLayerClut),
   (0x35, startLayerPolicy), (0x36, startLayerStatus), (0x40, awaitEpoch), (0x41, startHeadEnable), (0x42, startHeadDisable),
   (0x43, startHeadPush), (0x44, startHeadUnderrun), (0x45, startHeadQuiet), (0x46, awaitEpoch), (0x47, startHeadStatus),
   (0x48, startHeadLink)] ++
  [(0x50, startAssayAlloc), (0x51, startAssay), (0x52, startAssay), (0x53, startAssay), (0x54, startAssayRead), (0x55, startAssay),
   (0x60, startContextCreate), (0x61, startContextDestroy), (0x62, startShaderLoad), (0x63, awaitUnit), (0x64, startJobKill),
   (0x65, startContextQuery), (0x70, startTouchPortConfig), (0x71, startScanConfig), (0x72, startBaselineLoad),
   (0x73, startBaselineSave), (0x74, startSelftest), (0x78, startCalibration), (0x79, startTouchKeys), (0x7A, startReportRing)] ++
  [(0x80, startHapticConfig), (0x81, startHapticTimed), (0x82, startHapticTimed), (0x83, startTriggerMap), (0x84, startHapticStatus),
   (0x90, awaitEpoch), (0x91, startStreamConfig), (0x92, startStreamStart), (0x93, startStreamStop), (0x94, startTimedChange),
   (0x95, startTimedChange), (0x96, startTimedChange), (0x97, startAudioTone), (0x98, startJackStatus),
   (0xA0, startChannelConfig), (0xA1, startXfer), (0xA2, startXfer), (0xA3, startXfer), (0xA4, startXfer), (0xA5, startDmaResume),
   (0xA6, startDmaAbort foldDma)] ++
  [(0xB0, startEventRingConfig), (0xB1, startEventTarget), (0xB2, startEventMask), (0xB3, startEventPendSet),
   (0xB4, startEventGlobalDisable), (0xB5, startEventStatus), (0xC0, startPowerState), (0xC1, startPowerRetain), (0xC2, awaitEpoch),
   (0xC3, startWakeConfig), (0xD0, startMemSpare), (0xD1, startMemStatus), (0xD2, startMemPowerdown), (0xD3, awaitEpoch),
   (0xD4, startMemRetire), (0xD8, startStockroomStager), (0xD9, startStockroomQuery), (0xE0, startMeasurements), (0xE1, startAppletLoad),
   (0xE2, startAppletStart), (0xE3, startAppletStop), (0xE4, startSecureLayer), (0xE5, startKeyOffer), (0xE6, startKeyAccept),
   (0xE7, startKeyDestroy), (0xF0, startLedgerRead), (0xF1, startFaultLogRead), (0xF2, startLedgerClear), (0xF3, startFaultInject)]

/-- What a command starts, by its opcode. -/
def effectOf (s : State) (f : Flight) : State :=
  match effects.find? fun e => e.1 == f.op with
  | some e => e.2 s f
  | none => s

/-- The host data a command reads: address and length (07 R322; 05 R249; 08 R397; 11 R523; 12 R567, R570; 19 R762, R779). -/
def hostData (op : Nat) (d : Descriptor) : Option (Nat × Nat) :=
  if op = 0x10 || op = 0x11 || op = 0x12 then some (dget d 16 8, dget d 24 4)
  else if op = 0x19 || op = 0x72 || op = 0xE1 then some (dget d 24 8, dget d 32 4)
  else if op = 0x34 then some (dget d 24 8, if dget d 17 1 = 1 then 1792 else 8 * dget d 20 2)
  else if op = 0x62 then some (dget d 24 8, dget d 20 4)
  else if op = 0x70 then some (dget d 24 8, 256)
  else if op = 0xE6 then some (dget d 24 8, 512)
  else none

/-- A command goes on with the data it waited for, or ends for want of it. -/
def useData (s : State) (f : Flight) : State :=
  if f.phase ≠ .data then s
  else if f.op = 0xE1 || f.op = 0xE6 then (if f.data.isSome || f.dataErr ≠ 0 then await s f .warden else s)
  else match dataFault f, f.data with
    | some v, _ => finish s f v
    | none, none => s
    | none, some b => if f.op = 0x19 then restoreRead s f b else if f.op = 0x62 then loadShader s f b else partitionRead s f b

/-- A command's work begins; data that has arrived already is used at once. -/
def beginWork (s : State) (f : Flight) : State :=
  let s := effectOf s f
  match flightBy s fun g => g.id == f.id with
  | some g => useData s g
  | none => s

/-- What the first completion finds wrong with host data, for the commands that say it there. -/
def firstFault (s : State) (f : Flight) : Option Verdict :=
  if f.op = 0x34 then clutDataFault s f else if f.op = 0x70 then portConfigFault s f
  else if f.op = 0x72 && dget f.desc 32 4 ≠ 0 then baselineFault s f else none

/-- What goes before the first completion of a quiesce: the commands it has stopped complete, and it counts them
(05 R234). -/
def beforeFirst (s : State) (f : Flight) : State × Flight :=
  if f.op ≠ 0x13 then (s, f) else
  let (s, n) := endStopped s f
  let f := (flightBy s fun g => g.id == f.id && g.op == 0x13).getD f
  let f' := { f with aux := [f.aux.headD 0 + n, f.aux.getD 1 0] }
  if n = 0 then (s, f) else (setFlight s f', f')

/-- At its first completion a command has the host's copy of its data: that is fixed from the ACCEPT on (07 R322, R336), and
LAYER_CLUT has read it (08 R397). -/
def withCopy (s : State) (f : Flight) : Flight :=
  match hostData f.op f.desc with
  | some (a, n) =>
    if f.data.isSome || f.dataErr ≠ 0 then f
    else if f.op = 0x34 then { f with data := some (hostRead s a n) } else { f with copy := some (hostRead s a n) }
  | none => f

/-- The first completion of a command (07 R301, R305, R863). -/
def completeFirst (s : State) (f : Flight) : State :=
  if !accepted f then finish s f f.verdict else
  let (s, f) := beforeFirst s f
  match firstFault s f with
    | some v => finish s f v
    | none =>
      let waits := fenced s f
      let f := withCopy s f
      let s := setFlight s f
      if f.verdict.status = 0 && !waits then beginWork s f
      else
        let s := accept s f f.verdict.inst f.verdict.value
        match flightBy s fun g => g.id == f.id with
        | some g => if waits then await s g .fence else beginWork s g
        | none => s

/-- Commands with FENCE set whose earlier commands have all ended begin their work (06 R278, 07 R305). -/
def settleFences (s : State) : State :=
  (s.flights.filter fun f => decide (f.phase = .fence)).foldl (fun s f =>
    if earlierInRing s f then s else match flightBy s fun g => g.id == f.id with | some g => beginWork s g | none => s) s

/-! ### Checking against what is admitted (07 R306) -/

/-- An admitted command looked at as if its work had begun, and a setting as if its epoch start had come. A tenancy command
counts as unfinished until its final completion (07 R333); any other that the view has ended stays in flight there, under an
opcode no command has (07 R339). -/
def foresee (s : State) (f : Flight) : State :=
  let early := decide (f.phase = .first) || decide (f.phase = .fence)
  if 0x13 ≤ f.op && f.op ≤ 0x1B then
    (if early && (f.op == 0x14 || f.op == 0x17 || f.op == 0x1B) then (effectOf s f).modFlights fun _ => s.flights else s) else
  let r := if early then effectOf s f else s
  let r := match flightBy r fun g => g.id == f.id with
    | some g => if g.phase = .epoch then (if g.op = 0x04 then finishDone (foreseeTimeline r g) g else applyAtEpoch r g) else r
    | none => r
  if r.flights.any fun g => g.id == f.id then r
  else r.modFlights fun l => l ++ [{ f with op := f.op + 0x100, phase := .unit, aux := [] }]

/-- The state a tenancy's next command is checked against. -/
def viewOfNext (s : State) (t : Nat) : State :=
  (s.flights.filter fun f => decide (f.src.fn = t) && accepted f).foldl foresee s

/-- The state with what a pending partition change grants a tenancy and leaves of its objects, and its tables. -/
def withLoad (s : State) (t : Nat) (l : PendingLoad) : State :=
  let s := match l.records.find? fun r => r.1 == t with
    | some r => fitObjects (modTen s t fun v => { v with grants := r.2 }) t r.2
    | none => s
  match l.wheels with | some w => s.modWheels fun x => { x with active := w } | none => s

/-- While a partition change is pending, a command passes against the old and the new grants of its tenancy (05 R223). -/
def underLoads (check : State → Cmd → Ruling) (s : State) (c : Cmd) : Ruling :=
  let r := check s c
  if r.verdict.status > 1 then r
  else match (s.loads.map fun l => check (withLoad s c.t l) c).find? fun x => decide (x.verdict.status > 1) with
    | some x => x
    | none => r

/-- A command that needs a gated block is refused in step 9 of the checks, before pool capacity and admission (21 R834,
07 R309). -/
def withGates (op : Nat) (check : State → Cmd → Ruling) (s : State) (c : Cmd) : Ruling :=
  let r := underLoads check s c
  if r.verdict.status ≤ 3 || r.verdict.status = 11 then match gatedFault s op c.d with | some v => no v | none => r else r

/-- No effect at the admission instant. -/
def noCommit (s : State) (_f : Flight) : State := s

/-- A descriptor with its OPCODE byte. -/
def withOp (op : Nat) (d : Descriptor) : Descriptor := BitVec.ofNat 512 (d.toNat / 256 * 256 + op % 256)

/-- The state in which a command's descriptor counts as fetched. -/
def fetchedAs (s : State) (src : CmdSrc) (d : Descriptor) : State :=
  match entryOf s src d with
  | some v => if v.desc.isNone then fetched s src fun v => { v with desc := some d } else s
  | none => s

/-- A command of a ring, at its admission instant: its descriptor counts as fetched, it is checked, and an accepted one
commits what it holds from then on. Function pages that do not answer take no command. -/
def ringCommand (op : Nat) (check : State → Cmd → Ruling) (commit : State → Flight → State) (src : CmdSrc) (d : Descriptor)
    (s : State) : State :=
  if !serving s || decide (src.fn > 16) || decide (src.ring > 3) then s else
  let d := withOp op d
  let s := fetchedAs s src d
  let (f, s) := takeCommand op src d (viewOfNext s src.fn) (withGates op check) s
  if accepted f then commit s f else s

/-- The commands whose OPCODE no row has: they are refused (07 R309). -/
def unknownOp (d : Descriptor) : Bool := (opRow (opcodeOf d)).isNone

def takeUnknown (s : State) (v : Visible) (d : Descriptor) : State :=
  let (f, s) := takeCommand (opcodeOf d) v.src d s (fun _ _ => no (unsupported 0)) s
  completeFirst s f

/-- FIRST_COMPLETION of a slot, where one is due. -/
def firstCompletionOf (s : State) (src : CmdSrc) : State :=
  match s.visible.find? fun v => decide (v.src = src) && decide (now s ≥ v.admitted + 8000) &&
      (decide (v.failed ≠ 0) || (match v.desc with | some d => unknownOp d | none => false)) with
  | some v => match v.desc with
    | some d => if v.failed ≠ 0 then failedCompletion s v else takeUnknown s v d
    | none => failedCompletion s v
  | none => match flightAt s src fun f => decide (f.phase = .first) && decide (now s ≥ f.admitted + 8000) with
    | some f => completeFirst s f
    | none => match (stoppedOf s src.fn).find? fun e => decide (e.flight.src = src) && decide (e.flight.phase = .first) with
      | some e => stoppedFirst s e
      | none => s

/-- HOST_DATA_ARRIVAL, of the data as it stood at the ACCEPT where that has been written (07 R322, R336). An error names PCIE_FATAL's Ledger bit in VALUE (log entry 40). -/
def hostDataOf (s : State) (src : CmdSrc) (how : Arrival) : State :=
  match flightAt s src fun f => (hostData f.op f.desc).isSome && f.data.isNone && decide (f.dataErr = 0) with
  | none => s
  | some f =>
    let (a, n) := (hostData f.op f.desc).getD (0, 0)
    let g := match how with
      | .good => { f with data := some (f.copy.getD (hostRead s a n)) }
      | .error => { f with dataErr := 32 + 38 }
      | .poisoned => { f with dataErr := 14 }
    let s := match how with | .good => s | .error => noteAer s src.fn 14 | .poisoned => noteAer s src.fn 12
    useData (setFlight s g) g

/-- TIMED_FINAL_COMPLETION of a slot (19 R760, R764). -/
def timedFinalOf (s : State) (src : CmdSrc) : State :=
  match flightAt s src fun f => (f.op == 0xE0 || f.op == 0xE3) && (match f.phase with | .timed t => decide (t ≤ now s) | _ => false) with
  | some f => if f.op = 0xE0 then endMeasurements s f else finishDone (endApplet s (dget f.desc 16 1) (aborted 2)) f
  | none => s

/-- What the Warden has finished (19 R753). -/
def wardenDone (s : State) (f : Flight) (good : Bool) (body : List Byte) : State :=
  if f.op = 0x18 then endSave s f
  else if f.op = 0x19 then endRestore s f good body
  else if f.op = 0xE1 then endAppletLoad s f good
  else if f.op = 0xE5 then endKeyOffer s f body
  else if f.op = 0xE6 then endKeyAccept s f good body
  else if f.op = 0xE7 then endKeyDestroy s f
  else s

def wardenReplyOf (s : State) (r : WardenReply) : State :=
  match r.src with
  | none => postReply s
  | some src => match flightAt s src fun f => decide (f.phase = .warden) with
    | some f => wardenDone s f r.good r.body
    | none => s

/-! ### What the integrity block sees of samples and writes (10 R455, R456, R467) -/

/-- Every sample of a sink is fed to its audio assay units; a change of one takes effect with the first sample of its block. -/
def unitSampleOf (s : State) (u : Nat) (ins : List Nat) : State :=
  if u < 0x100 && sampleDue s u then
    let n := (unitOf s u).count
    feedAudio (sampleStartOf (applyAudioAssay s u n) u ins) u n
  else sampleStartOf s u ins

/-- The same for a frame sync edge of a target-mode port. -/
def portEdgeOf (s : State) (u : Nat) (ins : List Nat) : State :=
  let v := unitOf s u
  if !isPort u || !v.enable || !v.target then s
  else feedAudio (syncEdge (applyAudioAssay s u v.count) u ins) u v.count

/-- A port request, whose write the SR_WRITE units see (03 R103, 10 R456). -/
def servePortFed (s : State) (r : PortRequest) : Answer := servePort feedWrite s r

end Sys2Proof.Machine
end

