-- ==== Sys2Proof/Machine/TickOps.lean ====
section
/-! DEFINITION. Time (02 R39). On an empty queue the block lets one TIMELINE tick pass, and queues the events whose
instants the state itself gives; what only the world outside knows (arrivals, measurements, the end of a unit's work)
comes as a command (log entry 1). -/

namespace Sys2Proof.Machine

/-! ### What follows within a tick -/

/-- What follows at once from what has happened: commands behind a fence begin, jobs whose context or grove is gone end,
tenancies finish what they wait for, wheel tables are written, and a HALT goes on holding the outputs. -/
def settle (s : State) : State := holdHalt (writeTables (settleTenancies (dropDeadChanges (settleGpu (settleFences s)))))

/-! ### The commands that fall due -/

def ifDue (c : Bool) (i : Instr) : List Instr := if c then [i] else []

/-- The units of a range that are due, each as its command. -/
def eachDue (n : Nat) (due : Nat → Bool) (i : Nat → Instr) : List Instr := ((List.range n).filter due).map i

/-- A flight's instant has come. -/
def instantCome (s : State) (f : Flight) : Bool := match f.phase with | .timed t => decide (t ≤ now s) | _ => false

def windowDue (s : State) (w : Option Nat) : Bool := match w with | some t => decide (t ≤ now s) | none => false

/-- The Timeline, moderation and the Warden. -/
def dueService (s : State) : List Instr :=
  ifDue (s.tl.soEdges.any fun e => decide (e.1 ≤ now s)) .syncOutPulse ++
  ifDue (edgeAbsent s) .referenceEdgeMissing ++ ifDue (steerDue s) .steerTimeout ++ ifDue (epochDue s) (.epochStart true) ++
  ((s.crs.filter fun e => windowDue s e.2.sig.window).map fun e => Instr.moderationTimeout (e.1 / 4) (e.1 % 4)) ++
  ((s.evr.filter fun e => windowDue s e.2.sig.window && decide (e.2.owner ≤ 16)).map fun e => Instr.moderationTimeout e.2.owner (4 + e.2.loc)) ++
  ifDue (inRun s && beatLost s) .hbTimeout ++ eachDue 8 (limitDue s) .limitMs

/-- What issues records in completion ring r: first completions, and the final ones whose instant has come (06 R283). -/
def dueRecords (s : State) (r : Nat) : List Instr :=
  ((s.visible.filter fun v => decide (min v.src.ring 3 = r) && decide (now s ≥ v.admitted + 8000) &&
      (decide (v.failed ≠ 0) || (match v.desc with | some d => unknownOp d | none => false))).map fun v => Instr.firstCompletion v.src) ++
  ((s.flights.filter fun f => decide (min f.src.ring 3 = r) && decide (f.phase = .first) && decide (now s ≥ f.admitted + 8000)).map
    fun f => Instr.firstCompletion f.src) ++
  ((s.tens.flatMap fun t => t.2.stopped.filter fun e =>
      decide (min e.flight.src.ring 3 = r) && decide (e.flight.phase = .first) && decide (now s ≥ e.flight.admitted + 8000)).map
    fun e => Instr.firstCompletion e.flight.src) ++
  ((s.flights.filter fun f => decide (min f.src.ring 3 = r) && instantCome s f && (f.op == 0xE0 || f.op == 0xE3)).map
    fun f => Instr.timedFinalCompletion f.src) ++
  ((s.flights.filter fun f => decide (min f.src.ring 3 = r) && instantCome s f && (f.op == 0x81 || f.op == 0x82)).map
    fun f => Instr.workOrderExecute f.src)

/-- Commands: fetches that time out, first completions, and instants of final completions. -/
def dueCommands (s : State) : List Instr :=
  ((s.visible.filter fun v => v.desc.isNone && decide (v.failed = 0) && decide (now s ≥ v.admitted + 4000)).map
    fun v => Instr.descriptorFetchTimeout v.src) ++
  ((List.range 4).flatMap (dueRecords s)) ++
  ((s.flights.filter fun f => instantCome s f && f.op == 0x13).map fun f => Instr.limitInstant (dget f.desc 16 1)) ++
  ifDue (s.flights.any fun f => instantCome s f && f.op == 0xC0) .entryInstant ++ ifDue (l2Due s) .l2WaitTimeout

/-- OPCODEs of the general, Timeline and tenancy commands, and the first of the layers. -/
def opcodesGeneral : List (Nat × (CmdSrc → Descriptor → Instr)) :=
  [(0x00, Instr.nop), (0x01, Instr.deviceIdentify), (0x02, Instr.hostSuspend), (0x03, Instr.resourceQuery), (0x04, Instr.timelineConfig), (0x05, Instr.timelineSteer),
   (0x06, Instr.timelineStatus), (0x10, Instr.karbobinLoad), (0x11, Instr.tenancyCreate), (0x12, Instr.tenancyGrant), (0x13, Instr.tenancyQuiesce),
   (0x14, Instr.tenancyResume), (0x15, Instr.tenancyReset), (0x16, Instr.tenancyRemove), (0x17, Instr.tenancyFreeze), (0x18, Instr.tenancySave),
   (0x19, Instr.tenancyRestore), (0x1A, Instr.tenancyQuery), (0x1B, Instr.tenancyAperture), (0x30, Instr.layerAlloc), (0x31, Instr.layerUpdate)]

/-- OPCODEs of the layers, heads, integrity and graphics. -/
def opcodesDisplay : List (Nat × (CmdSrc → Descriptor → Instr)) :=
  [(0x32, Instr.layerFree), (0x33, Instr.layerMove), (0x34, Instr.layerClut), (0x35, Instr.layerPolicy), (0x36, Instr.layerStatus), (0x40, Instr.headConfig),
   (0x41, Instr.headEnable), (0x42, Instr.headDisable), (0x43, Instr.headPush), (0x44, Instr.headUnderrun), (0x45, Instr.headQuiet), (0x46, Instr.headDsc),
   (0x47, Instr.headStatus), (0x48, Instr.headLink), (0x50, Instr.assayAlloc), (0x51, Instr.assayConfig), (0x52, Instr.assayExpect), (0x53, Instr.assayFree),
   (0x54, Instr.assayRead), (0x55, Instr.shadowRegion), (0x60, Instr.gpuContextCreate), (0x61, Instr.gpuContextDestroy), (0x62, Instr.gpuShaderLoad)]

/-- OPCODEs of the graphics, touch, haptics and audio. -/
def opcodesStations : List (Nat × (CmdSrc → Descriptor → Instr)) :=
  [(0x63, Instr.gpuJobSubmit), (0x64, Instr.gpuJobKill), (0x65, Instr.gpuContextQuery), (0x70, Instr.touchPortConfig), (0x71, Instr.touchScanConfig),
   (0x72, Instr.touchBaselineLoad), (0x73, Instr.touchBaselineSave), (0x74, Instr.touchSelftest), (0x78, Instr.touchCalibration), (0x79, Instr.touchKeys),
   (0x7A, Instr.touchReportRing), (0x80, Instr.hapticConfig), (0x81, Instr.hapticPlay), (0x82, Instr.hapticStop), (0x83, Instr.hapticTriggerMap),
   (0x84, Instr.hapticStatus), (0x90, Instr.audioPortConfig), (0x91, Instr.audioStreamConfig), (0x92, Instr.audioStreamStart), (0x93, Instr.audioStreamStop)]

/-- OPCODEs of the audio, DMA, events and power. -/
def opcodesSound : List (Nat × (CmdSrc → Descriptor → Instr)) :=
  [(0x94, Instr.audioRoute), (0x95, Instr.audioGain), (0x96, Instr.audioFilter), (0x97, Instr.audioTone), (0x98, Instr.audioJackStatus),
   (0xA0, Instr.dmaChannelConfig), (0xA1, Instr.dmaCopy), (0xA2, Instr.dmaFill), (0xA3, Instr.dmaCompare), (0xA4, Instr.dmaCopy2d), (0xA5, Instr.dmaResume),
   (0xA6, Instr.dmaAbort), (0xB0, Instr.eventRingConfig), (0xB1, Instr.eventTarget), (0xB2, Instr.eventMask), (0xB3, Instr.eventPendSet),
   (0xB4, Instr.eventGlobalDisable), (0xB5, Instr.eventStatus), (0xC0, Instr.powerState), (0xC1, Instr.powerRetain), (0xC2, Instr.powerGate)]

/-- OPCODEs of the memory, the Stockroom, the Warden and diagnosis. -/
def opcodesSystem : List (Nat × (CmdSrc → Descriptor → Instr)) :=
  [(0xC3, Instr.powerWakeConfig), (0xD0, Instr.memSpare), (0xD1, Instr.memStatus), (0xD2, Instr.memPowerdown), (0xD3, Instr.memLatency), (0xD4, Instr.memRetire),
   (0xD8, Instr.stockroomStager), (0xD9, Instr.stockroomQuery), (0xE0, Instr.secureMeasurements), (0xE1, Instr.secureAppletLoad), (0xE2, Instr.secureAppletStart),
   (0xE3, Instr.secureAppletStop), (0xE4, Instr.secureLayer), (0xE5, Instr.migrationKeyOffer), (0xE6, Instr.migrationKeyAccept),
   (0xE7, Instr.migrationKeyDestroy), (0xF0, Instr.diagLedgerRead), (0xF1, Instr.diagFaultLogRead), (0xF2, Instr.diagLedgerClear), (0xF3, Instr.diagFaultInject)]

/-- The ring command a fetched descriptor stands for, by its OPCODE. -/
def ringInstr (src : CmdSrc) (d : Descriptor) : Option Instr :=
  ((List.flatten [opcodesGeneral, opcodesDisplay, opcodesStations, opcodesSound, opcodesSystem]).find? fun e => e.1 == opcodeOf d).map
    fun e => e.2 src d

/-- The fetched descriptors whose admission instant has come, T0's first (log entry 10). -/
def dueRings (s : State) : List Instr :=
  (List.range 17).flatMap fun t =>
    (s.visible.filter fun v => decide (v.src.fn = t) && decide (v.failed = 0) && decide (v.admitted ≤ now s)).filterMap
      fun v => v.desc.bind (ringInstr v.src)

/-- The stager's next request falls due (03 R115). -/
def requestDue (s : State) (h : Nat) : Bool := decide ((headOf s h).state ≠ .disabled) && (requestLine s h).isSome

/-- The stager's switch falls due (03 R121). -/
def stageSwitchDue (s : State) (h : Nat) : Bool :=
  decide ((headOf s h).state ≠ .disabled) && (headOf s h).cfg.isSome && !switched s h && decide ((now s : Int) ≥ switchTick s h)

/-- The heads. -/
def dueHeads (s : State) : List Instr :=
  eachDue 12 (stageSwitchDue s) .stagerSwitch ++ eachDue 12 (requestDue s) (fun h => .stagerRequest h ((requestLine s h).getD 0)) ++
  eachDue 12 (underrunDue s) .underrun ++ eachDue 12 (lineDue s) .lineStart ++ eachDue 12 (pushEndDue s) .pushEnd ++
  eachDue 12 (teMissedDue s) .teMissed ++ eachDue 12 (attemptIsDue s) .retrainAttempt

/-- A running job has reached its limit (11 R517). -/
def limitReached (s : State) (g : Nat) : Bool :=
  let gr := groveOf s g
  match flightBy s fun f => decide (some f.id = gr.job) with
  | some f => gr.job.isSome && gr.resetAt.isNone && decide (now s ≥ gr.since + 400 * jobLimit f)
  | none => false

/-- A grove's reset has not completed in time (11 R522). -/
def resetLate (s : State) (g : Nat) : Bool :=
  match (groveOf s g).resetAt with | some t => !(groveOf s g).out && decide (now s ≥ t + 20000) | none => false

/-- A jack's insertion has held (15 R666). -/
def debounceDue (s : State) (j : Nat) : Bool :=
  match (jackOf s j).debounce with | some t => (jackOf s j).inserted && decide (now s ≥ t + 40000000) && decide ((jackOf s j).type = 0) | none => false

/-- The stations: groves, the memory controller, audio, haptics and touch. -/
def dueStations (s : State) : List Instr :=
  eachDue 4 (fun g => inRun s && groveIdle s g && (chooseContext s g).isSome) .jobStart ++ eachDue 4 (limitReached s) .timeLimit ++
  eachDue 4 (resetLate s) .grReset ++ eachDue 16 (powerDownDue s) .powerDownEntry ++
  eachDue 0x22 (sampleDue s) (fun u => .sampleStart u []) ++ eachDue 64 (fun n => sampleDue s (0x100 + n)) (fun n => .sampleStart (0x100 + n) []) ++
  eachDue 64 (fun b => inRun s && sampleDue s (0x200 + b)) (fun b => .sampleStart (0x200 + b) []) ++
  eachDue 6 (syncLostDue s) .syncLost ++ eachDue 64 (periodDue s) .audioPeriod ++ eachDue 0x22 (audioCompareDue s) .audioCompare ++
  eachDue 2 (debounceDue s) .jackDebounce ++ eachDue 16 (trigDue s) .triggerAccept ++ eachDue 16 (segmentDue s) .segmentEnd ++
  eachDue 16 (brakeDue s) .brakeEnd ++ eachDue 16 (riseDue s) .onSegmentRise ++ eachDue 8 (scanDue s) .scanStart ++
  eachDue 8 (productsDue s) .scanProductsDone ++ eachDue 8 (reportDue s) .reportWrite ++ eachDue 8 (keyDue s) .keyTrigger ++
  ((List.range 8).flatMap fun p => ((portOf s p).contacts.filter fun c => staleDue s p c.id).map fun c => Instr.touchStale p c.id)

/-- The Ledger's reaction. -/
def dueLedger (s : State) : List Instr :=
  (s.lg.reactions.filter fun r => !r.started && decide (now s ≥ r.since + 4000)).map (fun _ => Instr.reactionStart) ++
  (s.lg.reactions.filter fun r => r.started && decide (now s ≥ r.since + 40000)).map (fun _ => Instr.reactionComplete)

/-- The event rings with something to claim, by ring number (06 R283). -/
def dueClaims (s : State) : List Instr :=
  let l := s.evr.filter fun e => (claimable s e.1).isSome
  if l.isEmpty then [] else (List.range 256).flatMap fun n => (l.filter fun e => decide (e.2.loc = n)).map fun e => Instr.eventClaim e.1

/-- Everything that falls due at this tick: the event records come behind the completion records (06 R283; log entry 44). -/
def due (s : State) : List Instr :=
  dueService s ++ dueStations s ++ dueHeads s ++ dueLedger s ++ dueCommands s ++ dueRings s ++ dueClaims s

/-- The link after a tick in which nothing left the device: where ASPM L1 is enabled it goes to L1, or to the deepest
substate that is enabled (06 R254, R290; the instant of entry is the model's, log entry 125). -/
def restingLink (s : State) : Link :=
  let c := (fnOf s 0).cfg
  if s.pcie.linkDown || !c.aspm.testBit 1 || !s.pcie.out.isEmpty then .l0
  else if c.l1ss.testBit 2 then .l12 else if c.l1ss.testBit 3 then .l11 else .l1

/-- A function whose PME_Status stays set sends its PME again every 100 ms (06 R293; the PCIe PME service time, log
entry 125). -/
def resendPme (s : State) : State :=
  (List.range 17).foldl (fun s f =>
    let fn := fnOf s f
    match fn.pmeAt with
    | none => s
    | some t =>
      if !fn.pmeStatus || !fn.pmeEn || fn.dstate ≠ .d3hot || now s < t + 40000000 then s
      else (modFn s f fun x => { x with pmeAt := some (now s) }).modPcie fun p => exitL1 { p with out := p.out ++ [.pme f] }) s

/-- One tick: the counters move, and what left the device in the tick before is gone. -/
def advance (s : State) : State :=
  (s.modTl fun t => { t with tick := (t.tick + 1) % 2 ^ 64, offset := t.offset + 1 }).modPcie
    fun p => { p with out := [], link := restingLink s }

/-- The block on an empty queue: where the TIMELINE clock is stopped it idles (21 R807); else a tick passes. -/
def idle (s : State) : State :=
  if !clockRuns s then s else
  let s := resendPme (advance (countTicks (settle s)))
  s.modPending fun _ => due s

end Sys2Proof.Machine
end

