-- ==== Sys2Proof/Machine/AssayRows.lean ====
section
/-! DEFINITION. The integrity commands (10): one meaning per row. -/

namespace Sys2Proof.Machine

/-- ASSAY_ALLOC (R482): command that takes an assay unit from the tenancy's grant. -/
def execAssayAlloc (src : CmdSrc) (d : Descriptor) (s : State) : Answer := .next (ringCommand 0x50 checkAssayAlloc noCommit src d s)

/-- ASSAY_CONFIG (R483): command that configures an assay unit's snoop point, algorithm and region. -/
def execAssayConfig (src : CmdSrc) (d : Descriptor) (s : State) : Answer := .next (ringCommand 0x51 checkAssayConfig commitAssayEnd src d s)

/-- ASSAY_EXPECT (R461): command that supplies an assay unit's EXPECT_BASE for a frame, block or transfer. -/
def execAssayExpect (src : CmdSrc) (d : Descriptor) (s : State) : Answer := .next (ringCommand 0x52 checkAssayExpect noCommit src d s)

/-- ASSAY_FREE (R486): command that stops an assay unit and returns it to the pool. -/
def execAssayFree (src : CmdSrc) (d : Descriptor) (s : State) : Answer := .next (ringCommand 0x53 checkAssayFree commitAssayEnd src d s)

/-- ASSAY_READ (R487): command that writes the 64-byte assay record. -/
def execAssayRead (src : CmdSrc) (d : Descriptor) (s : State) : Answer := .next (ringCommand 0x54 checkAssayRead noCommit src d s)

/-- SHADOW_REGION (R485): command that binds or unbinds an assay unit to the shadow pipe as a C1 region. -/
def execShadowRegion (src : CmdSrc) (d : Descriptor) (s : State) : Answer :=
  .next (ringCommand 0x55 checkShadowRegion commitShadowRegion src d s)

/-- AUDIO_COMPARE (R462): assay comparison 2,000 ticks after an audio block's last sample. -/
def execAudioCompare (sink : Nat) (s : State) : Answer := .next (if audioCompareDue s sink then compareAudio s sink else s)

end Sys2Proof.Machine
end

