-- ==== Sys2Proof/Machine/AudioRows.lean ====
section
/-! DEFINITION. The audio commands and events (15): one meaning per row. -/

namespace Sys2Proof.Machine

/-- AUDIO_PORT_CONFIG (R671): command that configures a TDM port, converter, jack, tone generator owner or the audio family. -/
def execAudioPortConfig (src : CmdSrc) (d : Descriptor) (s : State) : Answer := .next (ringCommand 0x90 checkPortConfig noCommit src d s)

/-- AUDIO_STREAM_CONFIG (R661): command that configures a playback or capture stream and its ring. -/
def execAudioStreamConfig (src : CmdSrc) (d : Descriptor) (s : State) : Answer :=
  .next (ringCommand 0x91 checkStreamConfig noCommit src d s)

/-- AUDIO_STREAM_START (R662): command that starts a stream, tying frame 0 to its effect sample. -/
def execAudioStreamStart (src : CmdSrc) (d : Descriptor) (s : State) : Answer :=
  .next (ringCommand 0x92 (checkStreamTimed true) noCommit src d s)

/-- AUDIO_STREAM_STOP (R654): command that makes a stream's inputs read zero from its effect sample. -/
def execAudioStreamStop (src : CmdSrc) (d : Descriptor) (s : State) : Answer :=
  .next (ringCommand 0x93 (checkStreamTimed false) noCommit src d s)

/-- AUDIO_ROUTE (R651): command that sets a path gain with crossfade, binds an input source, or binds and masks a bus. -/
def execAudioRoute (src : CmdSrc) (d : Descriptor) (s : State) : Answer := .next (ringCommand 0x94 checkAudioRoute commitAudioRoute src d s)

/-- AUDIO_GAIN (R645): command that ramps an input gain or bus gain. -/
def execAudioGain (src : CmdSrc) (d : Descriptor) (s : State) : Answer := .next (ringCommand 0x95 checkAudioGain noCommit src d s)

/-- AUDIO_FILTER (R646): command that sets a bus's biquad band or limiter. -/
def execAudioFilter (src : CmdSrc) (d : Descriptor) (s : State) : Answer := .next (ringCommand 0x96 checkAudioFilter noCommit src d s)

/-- AUDIO_TONE (R657): command that starts or stops a tone generator's bursts. -/
def execAudioTone (src : CmdSrc) (d : Descriptor) (s : State) : Answer := .next (ringCommand 0x97 checkAudioTone commitAudioTone src d s)

/-- AUDIO_JACK_STATUS (R672): command that writes the 64-byte jack record. -/
def execAudioJackStatus (src : CmdSrc) (d : Descriptor) (s : State) : Answer := .next (ringCommand 0x98 checkJackStatus noCommit src d s)

/-- SAMPLE_START (R641): start of a sink or bus sample, applying timed audio changes and ramps. -/
def execSampleStart (unit : Nat) (ins : List Nat) (s : State) : Answer := .next (unitSampleOf s unit ins)

/-- FRAME_SYNC_EDGE (R642): frame sync edge on a target-mode TDM port, stamped every 64th. -/
def execFrameSyncEdge (port : Nat) (ins : List Nat) (s : State) : Answer := .next (portEdgeOf s port ins)

/-- SYNC_LOST (R643): no frame sync for two periods, stopping the port and faulting its promises. -/
def execSyncLost (port : Nat) (s : State) : Answer := .next (syncLostOf s port)

/-- AUDIO_PERIOD (R663): position record written after PERIOD_FRAMES frames of a stream. -/
def execAudioPeriod (stream : Nat) (s : State) : Answer := .next (audioPeriodOf s stream)

/-- JACK_INSERTION (R666): change of a jack's insertion switch, starting its debounce. -/
def execJackInsertion (jack : Nat) (closed : Bool) (s : State) : Answer := .next (jackSwitch s jack closed)

/-- JACK_DEBOUNCE (R666): insertion change held 100 ms, starting classification. -/
def execJackDebounce (jack : Nat) (s : State) : Answer := .next (jackDebounced s jack)

/-- JACK_CLASSIFIED (R666): classification done, switches set and AUDIO_JACK fired. -/
def execJackClassified (jack type load : Nat) (s : State) : Answer := .next (jackFound s jack type load)

/-- JACK_REMOVAL (R666): removal detected, ramping the headphone driver off. -/
def execJackRemoval (jack : Nat) (s : State) : Answer := .next (jackRemoved s jack)

/-- AUDIO_BUTTON (R667): headset button state held 20 ms and counted. -/
def execAudioButton (jack ohms : Nat) (s : State) : Answer := .next (buttonHeld s jack ohms)

/-- AUDIO_DRIVER (R668): DAC or headphone output current above 250 mA, ramping the driver off. -/
def execAudioDriver (object : Nat) (s : State) : Answer := .next (driverTrip s object)

end Sys2Proof.Machine
end

