-- ==== Sys2Proof/Machine/DmaRows.lean ====
section
/-! DEFINITION. The DMA commands and events (16): one meaning per row. -/

namespace Sys2Proof.Machine

/-- DMA_CHANNEL_CONFIG (R696): command that configures or unconfigures a DMA channel and its status address. -/
def execDmaChannelConfig (src : CmdSrc) (d : Descriptor) (s : State) : Answer :=
  .next (ringCommand 0xA0 checkChannelConfig noCommit src d s)

/-- DMA_COPY (R678): command that copies LEN bytes between spaces on a channel. -/
def execDmaCopy (src : CmdSrc) (d : Descriptor) (s : State) : Answer := .next (ringCommand 0xA1 checkXfer noCommit src d s)

/-- DMA_FILL (R680): command that writes a repeated pattern to a destination range. -/
def execDmaFill (src : CmdSrc) (d : Descriptor) (s : State) : Answer := .next (ringCommand 0xA2 checkXfer noCommit src d s)

/-- DMA_COMPARE (R695): command that compares two ranges and reports the first difference. -/
def execDmaCompare (src : CmdSrc) (d : Descriptor) (s : State) : Answer := .next (ringCommand 0xA3 checkXfer noCommit src d s)

/-- DMA_COPY_2D (R681): command that copies ROWS rows of LEN bytes with source and destination strides. -/
def execDmaCopy2d (src : CmdSrc) (d : Descriptor) (s : State) : Answer := .next (ringCommand 0xA4 checkXfer noCommit src d s)

/-- DMA_RESUME (R689): command that takes a channel out of HALTED and restarts the failing transfer at MOVED. -/
def execDmaResume (src : CmdSrc) (d : Descriptor) (s : State) : Answer := .next (ringCommand 0xA5 checkDmaResume commitDmaResume src d s)

/-- DMA_ABORT (R690): command that stops a channel and aborts all its unfinished transfers. -/
def execDmaAbort (src : CmdSrc) (d : Descriptor) (s : State) : Answer := .next (ringCommand 0xA6 checkDmaAbort commitDmaAbort src d s)

/-- DMA_TRANSFER_DONE (R685): last byte of a transfer visible, writing its DONE. -/
def execDmaTransferDone (src : CmdSrc) (s : State) : Answer :=
  .next (match xferAt s src with | some f => transferDone foldDma s f | none => s)

/-- COMPLETION_TIMEOUT (R686): host read reaching Completion Timeout, halting the channel. -/
def execCompletionTimeout (src : CmdSrc) (addr moved : Nat) (s : State) : Answer := .next (failAccess 1 s (src, false, addr, moved))

/-- UR_CA (R686): host read completing with Unsupported Request or Completer Abort, halting the channel. -/
def execUrCa (src : CmdSrc) (addr moved : Nat) (s : State) : Answer := .next (failAccess 2 s (src, false, addr, moved))

/-- NO_MASTER (R686): host access due while Bus Master Enable is clear or the function sleeps, halting the channel. -/
def execNoMaster (src : CmdSrc) (write : Bool) (addr moved : Nat) (s : State) : Answer := .next (failAccess 3 s (src, write, addr, moved))

/-- POISONED_COMPLETION (R686): poisoned PCIe completion passed on as poison. -/
def execPoisonedCompletion (src : CmdSrc) (ofs len : Nat) (s : State) : Answer :=
  .next (match xferAt s src with | some f => markPoisoned s f ofs len | none => s)

end Sys2Proof.Machine
end

