-- ==== Sys2Proof/Machine/EventRows.lean ====
section
/-! DEFINITION. The event commands, and the claiming of events (18): one meaning per row. -/

namespace Sys2Proof.Machine

/-- EVENT_RING_CONFIG (R749): command that enables, disables or re-moderates an event ring. -/
def execEventRingConfig (src : CmdSrc) (d : Descriptor) (s : State) : Answer :=
  .next (ringCommand 0xB0 checkEventRingConfig noCommit src d s)

/-- EVENT_TARGET (R750): command that sets a tenancy's default event ring or one source's target ring. -/
def execEventTarget (src : CmdSrc) (d : Descriptor) (s : State) : Answer := .next (ringCommand 0xB1 checkEventTarget noCommit src d s)

/-- EVENT_MASK (R744): command that masks or unmasks one or every source of the issuer. -/
def execEventMask (src : CmdSrc) (d : Descriptor) (s : State) : Answer := .next (ringCommand 0xB2 checkEventMask noCommit src d s)

/-- EVENT_PEND_SET (R746): command that sets a source's soft pending bit or clears it and every cause latch. -/
def execEventPendSet (src : CmdSrc) (d : Descriptor) (s : State) : Answer := .next (ringCommand 0xB3 checkEventPendSet noCommit src d s)

/-- EVENT_GLOBAL_DISABLE (R748): command that sets or clears the global disable of the issuer's function. -/
def execEventGlobalDisable (src : CmdSrc) (d : Descriptor) (s : State) : Answer :=
  .next (ringCommand 0xB4 checkEventGlobalDisable noCommit src d s)

/-- EVENT_STATUS (R751): command that writes the 64-byte event status record of a source. -/
def execEventStatus (src : CmdSrc) (d : Descriptor) (s : State) : Answer := .next (ringCommand 0xB5 checkEventStatus noCommit src d s)

/-- EVENT_CLAIM (R738): event ring claiming an eligible source and issuing its record. -/
def execEventClaim (ring : Nat) (s : State) : Answer := .next (claimEvent s ring)

end Sys2Proof.Machine
end

