-- ==== Sys2Proof/Machine/GeneralRows.lean ====
section
/-! DEFINITION. The general and Timeline commands (07 R296, R317 to R320; 02 R80 to R86): one meaning per row. -/

namespace Sys2Proof.Machine

/-- NOP (R317): command that does nothing and completes with DONE. -/
def execNop (src : CmdSrc) (d : Descriptor) (s : State) : Answer := .next (ringCommand 0x00 checkNop noCommit src d s)

/-- DEVICE_IDENTIFY (R318): command that writes the 64-byte identification record to host memory. -/
def execDeviceIdentify (src : CmdSrc) (d : Descriptor) (s : State) : Answer := .next (ringCommand 0x01 checkDeviceIdentify noCommit src d s)

/-- HOST_SUSPEND (R296): command that writes its DONE and then at once sends the message of every ring of the function holding unsignalled records. -/
def execHostSuspend (src : CmdSrc) (d : Descriptor) (s : State) : Answer := .next (ringCommand 0x02 checkHostSuspend noCommit src d s)

/-- RESOURCE_QUERY (R320): command that writes the tenancy query record for the issuing tenancy. -/
def execResourceQuery (src : CmdSrc) (d : Descriptor) (s : State) : Answer := .next (ringCommand 0x03 checkResourceQuery noCommit src d s)

/-- TIMELINE_CONFIG (R80): command that sets the reference source, alignment, loss count, holdover ppm, EPOCH_TICKS and SYNC_OUT from the next epoch start. -/
def execTimelineConfig (src : CmdSrc) (d : Descriptor) (s : State) : Answer := .next (ringCommand 0x04 checkTimelineConfig noCommit src d s)

/-- TIMELINE_STEER (R85): command that applies a phase and frequency adjustment to the Timeline in HOST mode. -/
def execTimelineSteer (src : CmdSrc) (d : Descriptor) (s : State) : Answer := .next (ringCommand 0x05 checkTimelineSteer noCommit src d s)

/-- TIMELINE_STATUS (R86): command that writes the 64-byte Timeline snapshot to host memory. -/
def execTimelineStatus (src : CmdSrc) (d : Descriptor) (s : State) : Answer := .next (ringCommand 0x06 checkTimelineStatus noCommit src d s)

end Sys2Proof.Machine
end

