-- ==== Sys2Proof/Machine/GpuRows.lean ====
section
/-! DEFINITION. The GPU commands and events (11): one meaning per row. -/

namespace Sys2Proof.Machine

/-- GPU_CONTEXT_CREATE (R496): command that creates a GPU context on a grove with its pool, cache and shader area. -/
def execGpuContextCreate (src : CmdSrc) (d : Descriptor) (s : State) : Answer :=
  .next (ringCommand 0x60 checkContextCreate noCommit src d s)

/-- GPU_CONTEXT_DESTROY (R497): command that aborts a context's jobs and returns it to its pool. -/
def execGpuContextDestroy (src : CmdSrc) (d : Descriptor) (s : State) : Answer :=
  .next (ringCommand 0x61 checkContextDestroy noCommit src d s)

/-- GPU_SHADER_LOAD (R523): command that reads, checks and places a shader container in a slot. -/
def execGpuShaderLoad (src : CmdSrc) (d : Descriptor) (s : State) : Answer := .next (ringCommand 0x62 checkShaderLoad noCommit src d s)

/-- GPU_JOB_SUBMIT (R499): command that queues a render or compute job in a context and issues its job number. -/
def execGpuJobSubmit (src : CmdSrc) (d : Descriptor) (s : State) : Answer := .next (ringCommand 0x63 checkJobSubmit commitJobSubmit src d s)

/-- GPU_JOB_KILL (R519): command that aborts one or every unfinished job of a context. -/
def execGpuJobKill (src : CmdSrc) (d : Descriptor) (s : State) : Answer := .next (ringCommand 0x64 checkJobKill noCommit src d s)

/-- GPU_CONTEXT_QUERY (R526): command that writes the 64-byte context record. -/
def execGpuContextQuery (src : CmdSrc) (d : Descriptor) (s : State) : Answer := .next (ringCommand 0x65 checkContextQuery noCommit src d s)

/-- JOB_START (R493): idle grove choosing and starting its next candidate job. -/
def execJobStart (grove : Nat) (s : State) : Answer := .next (startJob s grove)

/-- JOB_COMPLETE (R503): job finishing with all writes in bulk memory and its final completion written. -/
def execJobComplete (grove : Nat) (used : RenderPass) (poisoned : Bool) (writes : List (Nat × List Byte)) (s : State) : Answer :=
  .next (completeJob s grove used poisoned writes)

/-- TIME_LIMIT (R517): job reaching its time limit, stopping and resetting the grove. -/
def execTimeLimit (grove : Nat) (s : State) : Answer := .next (limitJob s grove)

/-- TILE_LIST_POOL_OVERFLOW (R515): binning that would overflow the pool, flushing or failing the job. -/
def execTileListPoolOverflow (grove : Nat) (used : RenderPass) (s : State) : Answer := .next (overflowPool s grove used)

/-- SHADER_ACCESS_FAULT (R504): run-time shader access outside the tenancy's plots, aborting the job. -/
def execShaderAccessFault (grove : Nat) (s : State) : Answer := .next (accessFault s grove)

/-- JOB_RUN_TIME_FAULT (R504): A grove finding a malformed draw record, a binding mismatch at a draw, a workgroup above WG_MAX or a flush without spill area, ending the job ABORTED. -/
def execJobRunTimeFault (grove : Nat) (oversize : Bool) (s : State) : Answer := .next (runFault s grove oversize)

/-- GR_TILE_UE (R521): uncorrectable tile memory or register file error stopping and resetting the grove. -/
def execGrTileUe (grove : Nat) (s : State) : Answer := .next (tileUe s grove)

/-- GROVE_RESET_DONE (R518): completion of a grove reset, firing GPU_RESET. -/
def execGroveResetDone (grove : Nat) (s : State) : Answer := .next (resetDone s grove)

/-- GR_RESET (R522): grove reset not complete within 20,000 ticks, taking the grove out of service. -/
def execGrReset (grove : Nat) (s : State) : Answer := .next (resetOverrun s grove)

end Sys2Proof.Machine
end

