-- ==== Sys2Proof/Machine/HapticRows.lean ====
section
/-! DEFINITION. The haptic commands and events (14): one meaning per row. -/

namespace Sys2Proof.Machine

/-- HAPTIC_CONFIG (R629): command that configures a haptic channel and clears its fault. -/
def execHapticConfig (src : CmdSrc) (d : Descriptor) (s : State) : Answer := .next (ringCommand 0x80 checkHapticConfig noCommit src d s)

/-- HAPTIC_PLAY (R622): command that starts an effect on a channel at its instant. -/
def execHapticPlay (src : CmdSrc) (d : Descriptor) (s : State) : Answer := .next (ringCommand 0x81 (checkHapticTimed true) noCommit src d s)

/-- HAPTIC_STOP (R630): command that stops a channel's effect with braking at its instant. -/
def execHapticStop (src : CmdSrc) (d : Descriptor) (s : State) : Answer :=
  .next (ringCommand 0x82 (checkHapticTimed false) noCommit src d s)

/-- HAPTIC_TRIGGER_MAP (R620): command that maps a channel's HAP_TRIG pin edge to an effect. -/
def execHapticTriggerMap (src : CmdSrc) (d : Descriptor) (s : State) : Answer := .next (ringCommand 0x83 checkTriggerMap noCommit src d s)

/-- HAPTIC_STATUS (R631): command that writes the 64-byte haptic status record. -/
def execHapticStatus (src : CmdSrc) (d : Descriptor) (s : State) : Answer := .next (ringCommand 0x84 checkHapticStatus noCommit src d s)

/-- WORK_ORDER_EXECUTE (R75): apprentice executing a work order when its instant is reached. -/
def execWorkOrderExecute (src : CmdSrc) (s : State) : Answer :=
  .next (match flightAt s src fun f => instantCome s f with | some f => executeOrder s f | none => s)

/-- WORK_ORDER_LATE (R25): work order reaching its apprentice after its instant, discarded as late. -/
def execWorkOrderLate (src : CmdSrc) (s : State) : Answer :=
  .next (match flightAt s src fun f => (orderInstant s f).isSome with | some f => lateOrder s f | none => s)

/-- HAP_TRIG_EDGE (R620): edge on a HAP_TRIG pin, filtered for 2 µs. -/
def execHapTrigEdge (chan : Nat) (rising : Bool) (s : State) : Answer := .next (trigEdge s chan rising)

/-- TRIGGER_ACCEPT (R620): trigger edge held 2 µs, starting the mapped effect. -/
def execTriggerAccept (chan : Nat) (s : State) : Answer := .next (acceptTrigger s chan)

/-- HAP_TRIG_WAKE (R814): HAP_TRIG rising edge held 2 AON cycles in WATCH waking the device. -/
def execHapTrigWake (chan : Nat) (s : State) : Answer := .next (trigWake s chan)

/-- ZERO_CROSSING (R611): back-EMF zero-crossing or its absence in a sense window, reversing drive. -/
def execZeroCrossing (chan : Nat) (half : Option Nat) (bemf ma : Nat) (s : State) : Answer := .next (crossZero s chan half bemf ma)

/-- SEGMENT_END (R614): on-segment ending at a drive zero-crossing and braking starting. -/
def execSegmentEnd (chan : Nat) (s : State) : Answer := .next (endSegment s chan)

/-- BRAKE_END (R616): braking ending when back-EMF falls below 5 % or BRAKE_MAX passes. -/
def execBrakeEnd (chan : Nat) (s : State) : Answer := .next (endBrake s chan)

/-- ON_SEGMENT_RISE (R615): end of an effect's gap, starting its next on-segment with overdrive or as a retrigger. -/
def execOnSegmentRise (chan : Nat) (s : State) : Answer := .next (riseSegment s chan)

/-- ACTUATOR_FAULT (R627): open, stall or short detected, putting the channel in FAULT. -/
def execActuatorFault (chan cause : Nat) (s : State) : Answer := .next (hapFault s chan cause)

/-- VHAP_LOW (R610): VHAP below 2.8 V, forcing bridges to high impedance. -/
def execVhapLow (mv : Nat) (s : State) : Answer := .next (vhapFell s mv)

/-- VHAP_RECOVER (R610): VHAP rising above 3.0 V, ending dropping of triggers. -/
def execVhapRecover (mv : Nat) (s : State) : Answer := .next (vhapRose s mv)

end Sys2Proof.Machine
end

