-- ==== Sys2Proof/Machine/HeadRows.lean ====
section
/-! DEFINITION. The head commands, and the events of rasters, pushes, stagers and links (09, 03): one meaning per row. -/

namespace Sys2Proof.Machine

/-- HEAD_CONFIG (R444): command that configures a DISABLED head's port, pipe, timing and output. -/
def execHeadConfig (src : CmdSrc) (d : Descriptor) (s : State) : Answer := .next (ringCommand 0x40 checkHeadConfig noCommit src d s)

/-- HEAD_ENABLE (R445): command that trains the head's link and starts its raster. -/
def execHeadEnable (src : CmdSrc) (d : Descriptor) (s : State) : Answer := .next (ringCommand 0x41 checkHeadEnable noCommit src d s)

/-- HEAD_DISABLE (R447): command that stops a head at the end of the frame or push in progress. -/
def execHeadDisable (src : CmdSrc) (d : Descriptor) (s : State) : Answer := .next (ringCommand 0x42 checkHeadDisable noCommit src d s)

/-- HEAD_PUSH (R421): command that declares damage rectangles of a layer for a push. -/
def execHeadPush (src : CmdSrc) (d : Descriptor) (s : State) : Answer := .next (ringCommand 0x43 (checkHeadPush assayOk) noCommit src d s)

/-- HEAD_UNDERRUN (R448): command that sets a head's underrun policy. -/
def execHeadUnderrun (src : CmdSrc) (d : Descriptor) (s : State) : Answer := .next (ringCommand 0x44 checkHeadUnderrun noCommit src d s)

/-- HEAD_QUIET (R449): command that sets a head's quiet windows from its next frame or push slot. -/
def execHeadQuiet (src : CmdSrc) (d : Descriptor) (s : State) : Answer := .next (ringCommand 0x45 checkHeadQuiet noCommit src d s)

/-- HEAD_DSC (R450): command that assigns or releases a DSC encoder and its settings for a DISABLED head. -/
def execHeadDsc (src : CmdSrc) (d : Descriptor) (s : State) : Answer := .next (ringCommand 0x46 checkHeadDsc noCommit src d s)

/-- HEAD_STATUS (R452): command that writes the 64-byte head status record. -/
def execHeadStatus (src : CmdSrc) (d : Descriptor) (s : State) : Answer := .next (ringCommand 0x47 checkHeadStatus noCommit src d s)

/-- HEAD_LINK (R451): command that retrains the link or performs an AUX or DCS read or write. -/
def execHeadLink (src : CmdSrc) (d : Descriptor) (s : State) : Answer := .next (ringCommand 0x48 checkHeadLink noCommit src d s)

/-- LINE_START (R412): A head's pixel pacer starting a line slot and stamping it. -/
def execLineStart (head : Nat) (s : State) : Answer := .next (lineStartOf s head)

/-- STAGER_SWITCH (R121): apprentice 11 switching a head's stager to the next frame's layer state. -/
def execStagerSwitch (head : Nat) (s : State) : Answer := .next (stagerSwitchOf s head)

/-- STAGER_REQUEST (R115): stager issuing its request for a line's source data LEAD ticks ahead. -/
def execStagerRequest (head line : Nat) (s : State) : Answer := .next (stagerRequestOf s head line)

/-- STAGING_ARRIVAL (R125): arrival of a head line's source data, recording its margin. -/
def execStagingArrival (head line : Nat) (s : State) : Answer := .next (stagingArrivalOf s head line)

/-- UNDERRUN (R427): compose pipe needing a staging beat that has not arrived, handled by the head's policy. -/
def execUnderrun (head : Nat) (s : State) : Answer := .next (underrunOf s head)

/-- TE_EDGE (R418): active DSI_TE edge starting a command-mode push. -/
def execTeEdge (head : Nat) (rising : Bool) (s : State) : Answer := .next (teEdgeOf s head rising)

/-- TE_MISSED (R419): no TE edge within TE_WAIT of the latch point, carrying damage forward. -/
def execTeMissed (head : Nat) (s : State) : Answer := .next (teMissedOf s head)

/-- PUSH_END (R462): end of a push, where assay units compare. -/
def execPushEnd (head : Nat) (s : State) : Answer := .next (pushEndOf s head)

/-- LINK_LOST (R443): sink dropping HPD, reporting link failure, or DSI failing to leave ULPS. -/
def execLinkLost (head : Nat) (s : State) : Answer := .next (linkLostOf s head)

/-- HPD_RISE (R870): rising edge of the sink's HPD, restarting retraining. -/
def execHpdRise (head : Nat) (s : State) : Answer := .next (hpdOf s head)

/-- HPD_IRQ (R443): HPD IRQ from the sink, restarting retraining. -/
def execHpdIrq (head : Nat) (s : State) : Answer := .next (hpdOf s head)

/-- RETRAIN_ATTEMPT (R443): 100 ms after the previous attempt, the link layer starting a further retrain. -/
def execRetrainAttempt (head : Nat) (s : State) : Answer := .next (retrainOf s head)

/-- LINK_TRAINING_DONE (R445): end of link training or retraining, success or failure. -/
def execLinkTrainingDone (head : Nat) (success : Bool) (s : State) : Answer := .next (trainingDoneOf s head success)

/-- AUX_DCS_REPLY (R451): the sink's answer, NACK or timeout to a HEAD_LINK AUX or DCS operation, completing the command. -/
def execAuxDcsReply (head : Nat) (reply : Option (List Byte)) (s : State) : Answer := .next (linkReplyOf s head reply)

end Sys2Proof.Machine
end

