-- ==== Sys2Proof/Machine/HostRows.lean ====
section
/-! DEFINITION. Doorbells, ring enables, fetches, completions and messages (06, 07): one meaning per row. -/

namespace Sys2Proof.Machine

/-- CR_TAIL (R270): doorbell write that hands descriptors of a command ring to the device. -/
def execCrTail (fn ring v : Nat) (s : State) : Answer :=
  .next (if s.pw.state = .watch && fn = 0 then keepTail s ring (v % 65536)
    else if holdsRing s fn ring then ringDoorbell s fn ring (v % 65536) else s)

/-- CC_HEAD (R274): doorbell write that returns completion slots, arms the ring and may make waiting descriptors visible. -/
def execCcHead (fn ring v : Nat) (s : State) : Answer := .next (if holdsRing s fn ring then completionDoorbell s fn ring (v % 65536) else s)

/-- EV_HEAD (R741): doorbell write that acknowledges event records, clearing their reported cause latches and arming the ring. -/
def execEvHead (fn ring v : Nat) (s : State) : Answer :=
  .next (match holdsEvRing s fn ring with | some p => eventDoorbell s fn ring p (v % 65536) | none => s)

/-- CR_CFG_ENABLE (R262): write setting ENABLE of a command ring, which resets its indices or sets CFG_ERR. -/
def execCrCfgEnable (fn ring v : Nat) (s : State) : Answer := .next (if holdsRing s fn ring then enableCommandRing s fn ring v else s)

/-- CR_CFG_DISABLE (R265): write clearing ENABLE of a command ring, effective when nothing of it is in flight. -/
def execCrCfgDisable (fn ring v : Nat) (s : State) : Answer := .next (if holdsRing s fn ring then disableCommandRing s fn ring v else s)

/-- CC_CFG_ENABLE (R263): write setting ENABLE of a completion ring, resetting its indices and phase. -/
def execCcCfgEnable (fn ring v : Nat) (s : State) : Answer := .next (if holdsRing s fn ring then enableCompletionRing s fn ring v else s)

/-- CC_CFG_DISABLE (R266): write clearing ENABLE of a completion ring, ignored while its command ring is enabled. -/
def execCcCfgDisable (fn ring v : Nat) (s : State) : Answer := .next (if holdsRing s fn ring then disableCompletionRing s fn ring v else s)

/-- TLC_TICK_LO (R258): read of TLC_TICK_LO that latches the high tick bits, epoch and offset. -/
def execTlcTickLo (fn : Nat) (s : State) : Answer := .next (latchTlc s fn)

/-- DESCRIPTOR_ARRIVAL (R275): arrival of a descriptor's data, advancing CR_HEAD. -/
def execDescriptorArrival (src : CmdSrc) (how : Arrival) (s : State) : Answer := .next (descriptorArrives s src how)

/-- DESCRIPTOR_FETCH_TIMEOUT (R276): descriptor data not arrived 4,000 ticks after admission, faulting the command. -/
def execDescriptorFetchTimeout (src : CmdSrc) (s : State) : Answer := .next (descriptorLate s src)

/-- FIRST_COMPLETION (R301): writing of a command's ACCEPT or refusal at exactly a_k + 8,000. -/
def execFirstCompletion (src : CmdSrc) (s : State) : Answer := .next (firstCompletionOf s src)

/-- HOST_DATA_ARRIVAL (R322): arrival of host data read by a command, such as an image, grant block or record. -/
def execHostDataArrival (src : CmdSrc) (how : Arrival) (s : State) : Answer := .next (hostDataOf s src how)

/-- MODERATION_TIMEOUT (R286): MOD_TIME expiring on an open moderation window, sending the ring's message. -/
def execModerationTimeout (fn vector : Nat) (s : State) : Answer := .next (windowEnds s fn vector)

/-- D3HOT_ENTRY (R295): function entering D3hot, closing its moderation windows. -/
def execD3hotEntry (fn : Nat) (s : State) : Answer := .next (enterD3 s fn)

/-- D0_RETURN (R294): function returning to D0 with Bus Master Enable set, writing held records and sending messages. -/
def execD0Return (fn : Nat) (s : State) : Answer := .next (returnToD0 s fn)

/-- BUS_MASTER_ENABLE_CLEAR (R291): bus Master Enable cleared, making the device hold the function's records. -/
def execBusMasterEnableClear (fn : Nat) (s : State) : Answer := .next (clearMaster s fn)

/-- BUS_MASTER_ENABLE_SET (R294): host setting Bus Master Enable of a function in D0, which writes its held records and sends its messages. -/
def execBusMasterEnableSet (fn : Nat) (s : State) : Answer := .next (setMaster s fn)

/-- VECTOR_UNMASK (R289): clearing of an MSI-X vector or function mask, sending a pending message. -/
def execVectorUnmask (fn : Nat) (vector : Option Nat) (s : State) : Answer := .next (if fn ≤ 16 then unmask s fn vector else s)

/-- PCIE_LINK_DOWN (R686): PCIe link going down, halting channels with host accesses due. -/
def execPcieLinkDown (fails : List (CmdSrc × Bool × Nat × Nat)) (s : State) : Answer := .next (loseLink s fails)

end Sys2Proof.Machine
end

