-- ==== Sys2Proof/Machine/LayerRows.lean ====
section
/-! DEFINITION. The layer commands (08): one meaning per row. -/

namespace Sys2Proof.Machine

/-- LAYER_ALLOC (R342): command that binds a layer slot of the tenancy to a head. -/
def execLayerAlloc (src : CmdSrc) (d : Descriptor) (s : State) : Answer := .next (ringCommand 0x30 checkLayerAlloc noCommit src d s)

/-- LAYER_UPDATE (R383): command that replaces a layer's whole state at a latch line. -/
def execLayerUpdate (src : CmdSrc) (d : Descriptor) (s : State) : Answer :=
  .next (ringCommand 0x31 (checkLayerUpdate assayOk latestJob shadowRise) commitLayerUpdate src d s)

/-- LAYER_FREE (R394): command that disables a layer at its latch line and returns the slot. -/
def execLayerFree (src : CmdSrc) (d : Descriptor) (s : State) : Answer := .next (ringCommand 0x32 checkLayerFree commitLayerFree src d s)

/-- LAYER_MOVE (R438): command that takes a layer off its head and binds it to another head. -/
def execLayerMove (src : CmdSrc) (d : Descriptor) (s : State) : Answer := .next (ringCommand 0x33 checkLayerMove commitLayerMove src d s)

/-- LAYER_CLUT (R397): command that loads a layer's colour table or filter table for a latch line. -/
def execLayerClut (src : CmdSrc) (d : Descriptor) (s : State) : Answer := .next (ringCommand 0x34 checkLayerClut noCommit src d s)

/-- LAYER_POLICY (R398): command that sets a head's per-tenancy z range and cover mask or its background. -/
def execLayerPolicy (src : CmdSrc) (d : Descriptor) (s : State) : Answer := .next (ringCommand 0x35 checkLayerPolicy noCommit src d s)

/-- LAYER_STATUS (R399): command that writes the 64-byte layer status record. -/
def execLayerStatus (src : CmdSrc) (d : Descriptor) (s : State) : Answer := .next (ringCommand 0x36 checkLayerStatus noCommit src d s)

end Sys2Proof.Machine
end

