-- ==== Sys2Proof/Machine/LedgerRows.lean ====
section
/-! DEFINITION. The diagnostic commands, the error lines and the reactions of the Ledger (20, 01): one meaning per row. -/

namespace Sys2Proof.Machine

/-- DIAG_LEDGER_READ (R800): command that writes the 1,088-byte Ledger record. -/
def execDiagLedgerRead (src : CmdSrc) (d : Descriptor) (s : State) : Answer := .next (ringCommand 0xF0 checkLedgerRead noCommit src d s)

/-- DIAG_FAULT_LOG_READ (R799): command that writes a range of fault log entries to host memory. -/
def execDiagFaultLogRead (src : CmdSrc) (d : Descriptor) (s : State) : Answer := .next (ringCommand 0xF1 checkFaultLogRead noCommit src d s)

/-- DIAG_LEDGER_CLEAR (R801): command that logs and then clears the Ledger bits named by MASK. -/
def execDiagLedgerClear (src : CmdSrc) (d : Descriptor) (s : State) : Answer := .next (ringCommand 0xF2 checkLedgerClear noCommit src d s)

/-- DIAG_FAULT_INJECT (R802): command that asserts a Ledger source's error line with a chosen tag. -/
def execDiagFaultInject (src : CmdSrc) (d : Descriptor) (s : State) : Answer := .next (ringCommand 0xF3 checkFaultInject noCommit src d s)

/-- LG_STATUS_CLEAR (R803): supervisor write of 1 to an LG_STATUS bit that clears it as DIAG_LEDGER_CLEAR does. -/
def execLgStatusClear (mask : BitVec 64) (s : State) : Answer := .next (clearLedger s mask.toNat).2

/-- FORCE_HALT (R803): supervisor write of FORCE_HALT that fires SV_HALT_REQ. -/
def execForceHalt (s : State) : Answer := .next (if clockRuns s then forceHaltNow s else s)

/-- CP_LOCKSTEP (R22): lockstep comparator finding the CP cores' outputs differ. -/
def execCpLockstep (s : State) : Answer := .next (faultLine s 0 deviceMask)

/-- CP_SRAM_UE (R789): uncorrectable error in the CP's tightly coupled SRAM, firing Ledger source CP_SRAM_UE. -/
def execCpSramUe (s : State) : Answer := .next (faultLine s 2 deviceMask)

/-- CLOCK (R789): REF stopping or a PLL losing lock. -/
def execClockFail (s : State) : Answer := .next (faultLine s 9 deviceMask)

/-- TEMP_HIGH (R789): junction temperature above the grade's upper limit. -/
def execTempHigh (s : State) : Answer := .next (faultLine s 10 (everyTenancy s))

/-- TEMP_CRIT (R789): junction temperature 10 °C above the grade's upper limit. -/
def execTempCrit (s : State) : Answer := .next (faultLine s 11 deviceMask)

/-- SUPPLY (R789): A core or I/O supply monitor leaving its window. -/
def execSupplyFault (s : State) : Answer := .next (faultLine s 12 deviceMask)

/-- PARITY_ERROR (R789): parity error in a wheel, ownership, event, apprentice, fuse or pipe structure. -/
def execParityError (what : Parity) (affect : Nat) (s : State) : Answer := .next (parityFault s what affect)

/-- PCIE_FATAL (R789): fatal uncorrectable PCIe error at the host interface. -/
def execPcieFatal (s : State) : Answer := .next (faultLine s 38 0)

/-- REACTION_START (R793): chroulakor starting a CONTAIN or DEGRADE reaction. -/
def execReactionStart (s : State) : Answer := .next (startReaction s)

/-- REACTION_COMPLETE (R793): chroulakor completing a reaction, quiescing or degrading tenancies. -/
def execReactionComplete (s : State) : Answer := .next (completeReaction s)

/-- D2D_LINK_LOSS (R18): no valid link frame for 800 ticks, making Hokusa outputs safe. -/
def execD2dLinkLoss (s : State) : Answer := .next (loseD2d s)

/-- D2D_LINK_RETRAINED (R18): die-to-die link retrained after a Torva link-layer reset. -/
def execD2dLinkRetrained (s : State) : Answer := .next (regainD2d s)

end Sys2Proof.Machine
end

