-- ==== Sys2Proof/Machine/MemoryRows.lean ====
section
/-! DEFINITION. The commands and events of the Stockroom and of bulk memory (03, 17): one meaning per row. -/

namespace Sys2Proof.Machine

/-- MEM_SPARE (R724): command that designates or releases a spare rank in row 1. -/
def execMemSpare (src : CmdSrc) (d : Descriptor) (s : State) : Answer := .next (ringCommand 0xD0 checkMemSpare noCommit src d s)

/-- MEM_STATUS (R728): command that writes the 128-byte memory status record. -/
def execMemStatus (src : CmdSrc) (d : Descriptor) (s : State) : Answer := .next (ringCommand 0xD1 checkMemStatus noCommit src d s)

/-- MEM_POWERDOWN (R725): command that sets the rank power-down idle time. -/
def execMemPowerdown (src : CmdSrc) (d : Descriptor) (s : State) : Answer := .next (ringCommand 0xD2 checkMemPowerdown noCommit src d s)

/-- MEM_LATENCY (R726): command that sets a Stockroom port's latency target from the next epoch start. -/
def execMemLatency (src : CmdSrc) (d : Descriptor) (s : State) : Answer := .next (ringCommand 0xD3 checkMemLatency noCommit src d s)

/-- MEM_RETIRE (R727): command that retires a rank and starts its migration to a spare. -/
def execMemRetire (src : CmdSrc) (d : Descriptor) (s : State) : Answer := .next (ringCommand 0xD4 checkMemRetire commitMemRetire src d s)

/-- STOCKROOM_STAGER (R149): command that sets a head's staging lead and margin warning and resizes its rings. -/
def execStockroomStager (src : CmdSrc) (d : Descriptor) (s : State) : Answer :=
  .next (ringCommand 0xD8 checkStockroomStager commitStockroomStager src d s)

/-- STOCKROOM_QUERY (R152): command that writes the 128-byte Stockroom query record. -/
def execStockroomQuery (src : CmdSrc) (d : Descriptor) (s : State) : Answer := .next (ringCommand 0xD9 checkStockroomQuery noCommit src d s)

/-- STOCKROOM_REQUEST (R103): port request checked against shelf ownership and served with ECC checking. -/
def execStockroomRequest (r : PortRequest) (s : State) : Answer := servePortFed s r

/-- SHELF_ZEROISED (R106): zeroiser finishing a shelf, which takes its new owner. -/
def execShelfZeroised (shelf : Nat) (s : State) : Answer := .next (shelfDone s shelf)

/-- DRAM_REQUEST (R721): request to bulk memory ordered by urgency and served with inline ECC. -/
def execDramRequest (rs : List DramRequest) (s : State) : Answer := .next (serveDram s rs)

/-- PLOT_ZEROISED (R217): memory controller finishing a plot's zeroising, which takes its new owner. -/
def execPlotZeroised (plot : Nat) (s : State) : Answer := .next (plotDone s plot)

/-- FIRST_PAUSE_END (R714): first migration pause ending with mirroring on and copy starting. -/
def execFirstPauseEnd (s : State) : Answer := .next (endFirstPause s)

/-- COPY_END (R713): last payload line of the retiring rank copied, starting the second pause. -/
def execCopyEnd (s : State) : Answer := .next (endCopy s)

/-- MIGRATE_DONE (R713): second pause ending with the spare in the slot table. -/
def execMigrateDone (s : State) : Answer := .next (endMigration s)

/-- MR4_POLL (R717): every 8 ms reading MR4 of each rank and setting its refresh rate. -/
def execMr4Poll (readings : List Nat) (s : State) : Answer := .next (pollMr4 s readings)

/-- REFRESH (R718): per-bank refresh of a rank. -/
def execRefresh (rank : Nat) (s : State) : Answer := .next (useRank s rank)

/-- POWER_DOWN_ENTRY (R719): rank idle for PD_IDLE entering power-down. -/
def execPowerDownEntry (rank : Nat) (s : State) : Answer := .next (powerDownRank s rank)

/-- TRAINING_DONE (R723): rank training at boot ending, marking failed ranks. -/
def execTrainingDone (gib present good : Nat) (s : State) : Answer := .next (trainingEnds s gib present good)

end Sys2Proof.Machine
end

