-- ==== Sys2Proof/Machine/PowerRows.lean ====
section
/-! DEFINITION. The power commands, sleep, wake and boot (21, 22): one meaning per row. -/

namespace Sys2Proof.Machine

/-- POWER_STATE (R808): command that checks and schedules entry to WATCH, KEEP or OFF. -/
def execPowerState (src : CmdSrc) (d : Descriptor) (s : State) : Answer := .next (ringCommand 0xC0 checkPowerState noCommit src d s)

/-- POWER_RETAIN (R833): command that writes the bay retention bits. -/
def execPowerRetain (src : CmdSrc) (d : Descriptor) (s : State) : Answer := .next (ringCommand 0xC1 checkPowerRetain noCommit src d s)

/-- POWER_GATE (R834): command that gates or ungates a block's clock and power at an epoch start. -/
def execPowerGate (src : CmdSrc) (d : Descriptor) (s : State) : Answer := .next (ringCommand 0xC2 checkPowerGate noCommit src d s)

/-- POWER_WAKE_CONFIG (R835): command that sets the wake address, wake port and wake sources in the AON domain. -/
def execPowerWakeConfig (src : CmdSrc) (d : Descriptor) (s : State) : Answer := .next (ringCommand 0xC3 checkWakeConfig noCommit src d s)

/-- ENTRY_INSTANT (R810): POWER_STATE entry instant, writing DONE and starting the entry steps. -/
def execEntryInstant (s : State) : Answer := .next (enterState s)

/-- L2_L3_READY (R810): PCIe link reaching L2/L3 Ready, letting the endpoint be powered off. -/
def execL2L3Ready (s : State) : Answer := .next (endL2Wait s)

/-- L2_WAIT_TIMEOUT (R811): 100 ms passing without L2/L3 Ready, cutting the link. -/
def execL2WaitTimeout (s : State) : Answer := .next (if l2Due s then endL2Wait s else s)

/-- I2C_ADDRESS_MATCH (R817): I2C write transaction addressing WAKE_ADDR, which is ACKed and starts a wake or cold boot. -/
def execI2cAddressMatch (addr : Nat) (data : List Byte) (s : State) : Answer := .next (i2cWrite s addr data)

/-- WAKE_READ (R853): I2C read transaction of the wake registers from the stored pointer. -/
def execWakeRead (len : Nat) (s : State) : Answer := .next (i2cRead s len)

/-- STAGE_READY (R820): A wake stage's ready signal rising, moving to the next stage. -/
def execStageReady (s : State) : Answer := .next (stageUp s)

/-- STAGE_TIMEOUT (R821): A wake stage not ready at its timeout, retried or failing the wake. -/
def execStageTimeout (s : State) : Answer := .next (stageLate s)

/-- PWR_REQ_REASSERT (R821): after a regulator-stage retry holds PWR_REQ low for 32 AON cycles, PWR_REQ is asserted again and the stage timeout restarts. -/
def execPwrReqReassert (s : State) : Answer := .next (raisePwrReq s)

/-- PGOOD_FALL (R823): fall of PGOOD while PWR_REQ is asserted. -/
def execPgoodFall (s : State) : Answer := .next (losePgood s)

/-- RESUMPTION (R825): resumption after wake completing with the resume record restored and functions answering. -/
def execResumption (good patched : Bool) (s : State) : Answer := .next (resume (fun s ring v => ringDoorbell s 0 ring v) s good patched)

/-- BOOT_IMAGE_LOAD (R830): boot image slot read and verified, accepted or failed. -/
def execBootImageLoad (slot : Nat) (image : List Byte) (good : List Bool) (s : State) : Answer := .next (loadImage s slot image good)

/-- BOOT_CTRL_GO (R832): write of GO that starts loading a boot image from host memory. -/
def execBootCtrlGo (v : Nat) (s : State) : Answer := .next (bootGo s v)

/-- RESET_RELEASE (R828): release of RESET_N, which samples BOOT_SEL and starts a cold boot. -/
def execResetRelease (bootSel : Nat) (s : State) : Answer := .next (releaseReset s bootSel)

/-- RESET_ASSERTION (R856): RESET_N driven low for 1 µs or more, putting the device into reset with its balls in the RESET_N-low states. -/
def execResetAssertion (s : State) : Answer := .next (assertReset s)

/-- AON_SUPPLY_RISE (R818): rise of the AON supply, which starts the AON domain with its reset values. -/
def execAonSupplyRise (s : State) : Answer := .next (aonRise s)

/-- AON_SUPPLY_FALL (R843): fall of VDD_AON below the power-on threshold, clearing the HALT latch and ending WAKE_FAILED. -/
def execAonSupplyFall (s : State) : Answer := .next (aonFall s)

/-- RC_FALLBACK (R29): the AON domain switching to its internal RC oscillator when no crystal oscillation is detected. -/
def execRcFallback (s : State) : Answer := .next (s.modPw fun p => { p with rc := true })

end Sys2Proof.Machine
end

