-- ==== Sys2Proof/Machine/RegisterRows.lean ====
section
/-! DEFINITION. Register writes and the latching read (01, 03, 17; 02 R38): one meaning per row. -/

namespace Sys2Proof.Machine

/-- TL_TICK_LO (R38): read of TL_TICK_LO that latches tick bits 63:32 into TL_TICK_HI. -/
def execTlTickLo (s : State) : Answer := .next (latchTick s)

/-- SECURE_WM_WRITE (R97): warden write of the Stockroom watermark W, ignored when out of range or locked. -/
def execSecureWmWrite (v : Nat) (s : State) : Answer := .next (writeSrMark s v)

/-- DRAM_WM_WRITE (R704): warden write of the DRAM watermark WM, ignored above 1,024 or when locked. -/
def execDramWmWrite (v : Nat) (s : State) : Answer := .next (writeDramMark s v)

/-- LOCK (R11): write of 1 to a block's LOCK bit, which fixes its RWL fields until reset. -/
def execLockSet (block : Block) (s : State) : Answer := .next (setLock s block)

/-- REGISTER_WRITE (R9): write to a register field without a row of its own, acting as its access code states. -/
def execRegisterWrite (block : Block) (ofs v width : Nat) (s : State) : Answer := .next (registerWriteOf s block ofs v width)

end Sys2Proof.Machine
end

