-- ==== Sys2Proof/Machine/SupervisorRows.lean ====
section
/-! DEFINITION. The supervisor port and its messages (19 R783 to R786): one meaning per row. -/

namespace Sys2Proof.Machine

/-- READ (R783): supervisor SPI frame that reads LEN bytes of supervisor registers. -/
def execSvRead (seq addr len : Nat) (crcGood : Bool) (s : State) : Answer := .next (svReadOf s seq addr len crcGood)

/-- WRITE (R783): supervisor SPI frame that writes LEN bytes of supervisor registers. -/
def execSvWrite (seq addr : Nat) (data : List Byte) (crcGood : Bool) (s : State) : Answer := .next (svWriteOf s seq addr data crcGood)

/-- MBOX_SEND (R785): supervisor SPI frame that sends a message to the Warden's mailbox. -/
def execMboxSend (seq : Nat) (msg : List Byte) (crcGood : Bool) (s : State) : Answer := .next (mboxSendOf s seq msg crcGood)

/-- MBOX_RECV (R785): supervisor SPI frame that fetches the Warden's reply. -/
def execMboxRecv (seq len : Nat) (crcGood : Bool) (s : State) : Answer := .next (mboxRecvOf s seq len crcGood)

/-- FRAME_CUT_SHORT (R784): SUP_CS_N rising mid-frame, which discards the frame and counts SV_ERRORS. -/
def execFrameCutShort (s : State) : Answer := .next (frameCut s)

/-- TT_SPRITE (R785): supervisor message that sets one telltale sprite of a head. -/
def execTtSprite (msg : List Byte) (s : State) : Answer := .next (ttSpriteOf s msg)

/-- TT_PALETTE (R785): supervisor message that sets telltale palette entries of a head. -/
def execTtPalette (msg : List Byte) (s : State) : Answer := .next (ttPaletteOf s msg)

/-- TT_IMAGE (R785): supervisor message that writes telltale image bytes into bay 0. -/
def execTtImage (msg : List Byte) (s : State) : Answer := .next (ttImageOf s msg)

/-- REG_READ (R785): supervisor message that reads a block register for the supervisor. -/
def execRegRead (msg : List Byte) (s : State) : Answer := .next (regReadOf s msg)

/-- DEBUG_UNLOCK (R786): supervisor message that verifies an unlock token and opens debug access after clearing secrets. -/
def execDebugUnlock (_msg : List Byte) (valid : Bool) (s : State) : Answer := .next (debugUnlockOf s valid)

end Sys2Proof.Machine
end

