-- ==== Sys2Proof/Machine/TenancyRows.lean ====
section
/-! DEFINITION. The tenancy commands and events (05): one meaning per row. -/

namespace Sys2Proof.Machine

/-- KARBOBIN_LOAD (R220): command that reads and checks a partition image and applies it at an epoch start once changed shelves and plots are zeroised. -/
def execKarbobinLoad (src : CmdSrc) (d : Descriptor) (s : State) : Answer := .next (ringCommand 0x10 checkKarbobinLoad noCommit src d s)

/-- TENANCY_CREATE (R325): command that creates an ABSENT tenancy from a grant block. -/
def execTenancyCreate (src : CmdSrc) (d : Descriptor) (s : State) : Answer := .next (ringCommand 0x11 checkGrantBlock noCommit src d s)

/-- TENANCY_GRANT (R326): command that replaces a tenancy's grants, shelves and plots from a grant block. -/
def execTenancyGrant (src : CmdSrc) (d : Descriptor) (s : State) : Answer := .next (ringCommand 0x12 checkGrantBlock noCommit src d s)

/-- TENANCY_QUIESCE (R231): command that stops a tenancy's new work and drains or aborts its work in flight. -/
def execTenancyQuiesce (src : CmdSrc) (d : Descriptor) (s : State) : Answer := .next (ringCommand 0x13 checkQuiesce commitQuiesce src d s)

/-- TENANCY_RESUME (R237): command that returns a QUIESCED or restored FROZEN tenancy to LIVE. -/
def execTenancyResume (src : CmdSrc) (d : Descriptor) (s : State) : Answer := .next (ringCommand 0x14 checkResume noCommit src d s)

/-- TENANCY_RESET (R238): command that returns every object of a QUIESCED tenancy to its creation state, optionally zeroising its memory. -/
def execTenancyReset (src : CmdSrc) (d : Descriptor) (s : State) : Answer := .next (ringCommand 0x15 checkReset noCommit src d s)

/-- TENANCY_REMOVE (R240): command that returns every object and grant of a QUIESCED or FROZEN tenancy to its pool and makes it ABSENT. -/
def execTenancyRemove (src : CmdSrc) (d : Descriptor) (s : State) : Answer := .next (ringCommand 0x16 checkRemove noCommit src d s)

/-- TENANCY_FREEZE (R242): command that moves a QUIESCED tenancy to FROZEN with export. -/
def execTenancyFreeze (src : CmdSrc) (d : Descriptor) (s : State) : Answer := .next (ringCommand 0x17 checkFreeze noCommit src d s)

/-- TENANCY_SAVE (R243): command that writes the sealed state record of a FROZEN tenancy to host memory. -/
def execTenancySave (src : CmdSrc) (d : Descriptor) (s : State) : Answer := .next (ringCommand 0x18 checkSave noCommit src d s)

/-- TENANCY_RESTORE (R249): command that opens a state record into a reserved ABSENT tenancy, leaving it FROZEN with import. -/
def execTenancyRestore (src : CmdSrc) (d : Descriptor) (s : State) : Answer := .next (ringCommand 0x19 checkRestore noCommit src d s)

/-- TENANCY_QUERY (R340): command that writes the 512-byte tenancy query record for a named tenancy. -/
def execTenancyQuery (src : CmdSrc) (d : Descriptor) (s : State) : Answer := .next (ringCommand 0x1A checkTenancyQuery noCommit src d s)

/-- TENANCY_APERTURE (R339): command that sets, shrinks or removes one host aperture of a tenancy. -/
def execTenancyAperture (src : CmdSrc) (d : Descriptor) (s : State) : Answer := .next (ringCommand 0x1B checkAperture noCommit src d s)

/-- LIMIT_INSTANT (R233): DRAIN limit instant of a quiesce, aborting unstarted work. -/
def execLimitInstant (target : Nat) (s : State) : Answer := .next (limitOf s target)

/-- FUNCTION_LEVEL_RESET (R241): function-level reset of a VF, aborting and resetting its tenancy. -/
def execFunctionLevelReset (vf : Nat) (s : State) : Answer := .next (resetFunction s vf)

/-- PF0_FUNCTION_LEVEL_RESET (R864): function-level reset of PF0, resetting its function page and discarding held records. -/
def execPf0FunctionLevelReset (s : State) : Answer := .next (resetPf0 s)

/-- VF_ENABLE_SET (R864): host setting VF Enable again after a PF0 reset, ending the treatment of every VF as having Bus Master Enable clear. -/
def execVfEnableSet (s : State) : Answer := .next (setVfEnable s)

end Sys2Proof.Machine
end

