-- ==== Sys2Proof/Machine/TimelineRows.lean ====
section
/-! DEFINITION. The Timeline, its reference and the wheels (02): one meaning per row. -/

namespace Sys2Proof.Machine

/-- REFERENCE_EDGE (R46): edge on SYNC_IN, accepted or rejected and fed to the Timeline phase detector. -/
def execReferenceEdge (rising : Bool) (interval : Nat) (s : State) : Answer :=
  .next (if clockRuns s then referenceEdgeOf s rising interval else s)

/-- REFERENCE_EDGE_MISSING (R49): expected reference edge absent, counted toward LOSS_COUNT. -/
def execReferenceEdgeMissing (s : State) : Answer := .next (edgeMissing s)

/-- STEER_TIMEOUT (R49): 1,024 epochs without TIMELINE_STEER in HOST mode, entering HOLDOVER. -/
def execSteerTimeout (s : State) : Answer := .next (steerLate s)

/-- SYNC_OUT_PULSE (R47): SYNC_OUT driven active OFFSET ticks after the selected event and inactive WIDTH ticks later. -/
def execSyncOutPulse (s : State) : Answer := .next (syncEdges s)

/-- EPOCH_START (R41): tick offset reaching EPOCH_TICKS, returning to zero and advancing the epoch count. -/
def execEpochStart (sampled : Bool) (s : State) : Answer := .next (epochStartOf s sampled)

/-- TURN_START (R70): start of a 64-cycle wheel turn, selecting the owner served by each wheel. -/
def execTurnStart (t : Turn) (s : State) : Answer := .next (turnStartOf s t)

end Sys2Proof.Machine
end

