-- ==== Sys2Proof/Machine/TouchRows.lean ====
section
/-! DEFINITION. The touch commands and events (12, 13): one meaning per row. -/

namespace Sys2Proof.Machine

/-- TOUCH_PORT_CONFIG (R570): command that sets a touch port's pin roles, head, line limits and thresholds. -/
def execTouchPortConfig (src : CmdSrc) (d : Descriptor) (s : State) : Answer :=
  .next (ringCommand 0x70 checkTouchPortConfig noCommit src d s)

/-- TOUCH_SCAN_CONFIG (R572): command that enables, disables or reconfigures a port's scanning. -/
def execTouchScanConfig (src : CmdSrc) (d : Descriptor) (s : State) : Answer := .next (ringCommand 0x71 checkScanConfig noCommit src d s)

/-- TOUCH_BASELINE_LOAD (R567): command that loads a stored baseline record into a port. -/
def execTouchBaselineLoad (src : CmdSrc) (d : Descriptor) (s : State) : Answer :=
  .next (ringCommand 0x72 checkBaselineLoad noCommit src d s)

/-- TOUCH_BASELINE_SAVE (R568): command that optionally captures and then writes a port's baseline record. -/
def execTouchBaselineSave (src : CmdSrc) (d : Descriptor) (s : State) : Answer :=
  .next (ringCommand 0x73 checkBaselineSave noCommit src d s)

/-- TOUCH_SELFTEST (R564): command that measures shorts and opens on a port and writes the self-test record. -/
def execTouchSelftest (src : CmdSrc) (d : Descriptor) (s : State) : Answer := .next (ringCommand 0x74 checkSelftest noCommit src d s)

/-- TOUCH_CALIBRATION (R603): command that sets a port's position matrix, blob threshold and tracking limits. -/
def execTouchCalibration (src : CmdSrc) (d : Descriptor) (s : State) : Answer := .next (ringCommand 0x78 checkCalibration noCommit src d s)

/-- TOUCH_KEYS (R604): command that configures or releases one key slot of a port. -/
def execTouchKeys (src : CmdSrc) (d : Descriptor) (s : State) : Answer := .next (ringCommand 0x79 checkTouchKeys noCommit src d s)

/-- TOUCH_REPORT_RING (R605): command that enables or disables the tenancy's report ring for a port. -/
def execTouchReportRing (src : CmdSrc) (d : Descriptor) (s : State) : Answer := .next (ringCommand 0x7A checkReportRing noCommit src d s)

/-- SCAN_START (R545): start of a touch scan at its line or period, or its skip. -/
def execScanStart (port : Nat) (s : State) : Answer := .next (scanStartOf s port)

/-- STEP_END (R542): scan step having counted INT_TICKS of open window, recording step stamps. -/
def execStepEnd (port first last : Nat) (iq : List (Int × Int)) (s : State) : Answer := .next (endStep s port first last iq)

/-- SCAN_PRODUCTS_DONE (R550): scan's raw and delta frames, baselines, drift, hops, blobs, contacts and keys completed. -/
def execScanProductsDone (port : Nat) (s : State) : Answer := .next (if productsDue s port then makeProducts s port else s)

/-- REPORT_WRITE (R600): writing a scan's reports and secure contacts 160,000 ticks after its last sample. -/
def execReportWrite (port : Nat) (s : State) : Answer := .next (writeReports s port)

/-- KEY_TRIGGER (R586): key haptic effect starting 160,000 ticks after the scan's last sample. -/
def execKeyTrigger (port : Nat) (s : State) : Answer := .next (triggerKeys s port)

/-- TOUCH_STALE (R597): STALE_S seconds without movement marking a contact STALE. -/
def execTouchStale (port id : Nat) (s : State) : Answer := .next (markStale s port id)

/-- TX_OVERCURRENT (R561): TX drive current above 25 mA, stopping the pin and marking it FAULT. -/
def execTxOvercurrent (port tx : Nat) (s : State) : Answer := .next (stopTx s port tx)

/-- SELFTEST_DONE (R565): end of a touch self-test's measurements, writing its record and DONE and clearing FAULT marks. -/
def execSelftestDone (port : Nat) (gnd sup next : List Nat) (opens : List Int) (s : State) : Answer :=
  .next (endSelftest s port gnd sup next opens)

/-- WATCH_SCAN (R815): wake port's scan in WATCH every 1,092 AON cycles. -/
def execWatchScan (iq : List (Int × Int)) (s : State) : Answer := .next (scanWatch s iq)

end Sys2Proof.Machine
end

