-- ==== Sys2Proof/Machine/WardenRows.lean ====
section
/-! DEFINITION. The secure and migration commands, and the events of the Warden (19): one meaning per row. -/

namespace Sys2Proof.Machine

/-- SECURE_MEASUREMENTS (R760): command that writes the signed measurement record at exactly 100 ms after admission. -/
def execSecureMeasurements (src : CmdSrc) (d : Descriptor) (s : State) : Answer :=
  .next (ringCommand 0xE0 checkMeasurements noCommit src d s)

/-- SECURE_APPLET_LOAD (R762): command that reads, verifies and loads or empties a secure applet slot. -/
def execSecureAppletLoad (src : CmdSrc) (d : Descriptor) (s : State) : Answer := .next (ringCommand 0xE1 checkAppletLoad noCommit src d s)

/-- SECURE_APPLET_START (R763): command that starts a LOADED applet with the issuer as client. -/
def execSecureAppletStart (src : CmdSrc) (d : Descriptor) (s : State) : Answer := .next (ringCommand 0xE2 checkAppletStart noCommit src d s)

/-- SECURE_APPLET_STOP (R764): command that ends a running applet and zeroises its secure memory. -/
def execSecureAppletStop (src : CmdSrc) (d : Descriptor) (s : State) : Answer := .next (ringCommand 0xE3 checkAppletStop noCommit src d s)

/-- SECURE_LAYER (R766): command that attaches a client's layer to an applet as a secure layer or releases it. -/
def execSecureLayer (src : CmdSrc) (d : Descriptor) (s : State) : Answer := .next (ringCommand 0xE4 checkSecureLayer noCommit src d s)

/-- MIGRATION_KEY_OFFER (R779): command that writes a signed offer blob and creates a pending migration key. -/
def execMigrationKeyOffer (src : CmdSrc) (d : Descriptor) (s : State) : Answer := .next (ringCommand 0xE5 checkKeyOffer noCommit src d s)

/-- MIGRATION_KEY_ACCEPT (R779): command that verifies a peer blob and derives the migration key, writing an answer on the target. -/
def execMigrationKeyAccept (src : CmdSrc) (d : Descriptor) (s : State) : Answer := .next (ringCommand 0xE6 checkKeyAccept noCommit src d s)

/-- MIGRATION_KEY_DESTROY (R781): command that destroys a named migration key. -/
def execMigrationKeyDestroy (src : CmdSrc) (d : Descriptor) (s : State) : Answer :=
  .next (ringCommand 0xE7 checkKeyDestroy noCommit src d s)

/-- WARDEN_REPLY (R753): the Warden finishing a forwarded command or supervisor message and posting its final completion or reply. -/
def execWardenReply (r : WardenReply) (s : State) : Answer := .next (wardenReplyOf s r)

/-- TIMED_FINAL_COMPLETION (R760): chroulakor writing a final completion at a fixed instant after admission, such as SECURE_MEASUREMENTS at a_k + 40,000,000 or SECURE_APPLET_STOP at a_k + 400,000. -/
def execTimedFinalCompletion (src : CmdSrc) (s : State) : Answer := .next (timedFinalOf s src)

/-- HEARTBEAT (R773): warden heartbeat written to its CP mailbox. -/
def execHeartbeat (s : State) : Answer := .next (heartbeat s)

/-- HB_TIMEOUT (R774): no Warden heartbeat for HB_TIMEOUT, restarting the Warden. -/
def execHbTimeout (s : State) : Answer := .next (if beatLost s then restartWarden s else s)

/-- WARDEN_SELF_RESTART (R773): illegal instruction, bad access or SRAM error restarting the Warden. -/
def execWardenSelfRestart (s : State) : Answer := .next (selfRestart s)

/-- SERVICE_RESUME (R778): warden resuming service with a new measurement log. -/
def execServiceResume (good : Bool) (applets : List (Nat × Bool)) (s : State) : Answer := .next (resumeWarden s good applets)

/-- APPLET_END (R763): running applet ending of itself and writing its result. -/
def execAppletEnd (slot code : Nat) (result : List Byte) (s : State) : Answer := .next (appletEnds s slot code result)

/-- LIMIT_MS (R764): applet's LIMIT_MS running out, ending it. -/
def execLimitMs (slot : Nat) (s : State) : Answer := .next (appletLimit s slot)

end Sys2Proof.Machine
end

