-- ==== Sys2Proof/Machine/Dispatch.lean ====
section
/-! DEFINITION. The dispatch of commands: one arm per row, each one call of its meaning. -/

namespace Sys2Proof.Machine

def exec (i : Instr) (s : State) : Host.Outcome State Fault Refusal :=
  match i with
  | .nop src d => Sys2Proof.Machine.execNop src d s
  | .deviceIdentify src d => Sys2Proof.Machine.execDeviceIdentify src d s
  | .hostSuspend src d => Sys2Proof.Machine.execHostSuspend src d s
  | .resourceQuery src d => Sys2Proof.Machine.execResourceQuery src d s
  | .timelineConfig src d => Sys2Proof.Machine.execTimelineConfig src d s
  | .timelineSteer src d => Sys2Proof.Machine.execTimelineSteer src d s
  | .timelineStatus src d => Sys2Proof.Machine.execTimelineStatus src d s
  | .karbobinLoad src d => Sys2Proof.Machine.execKarbobinLoad src d s
  | .tenancyCreate src d => Sys2Proof.Machine.execTenancyCreate src d s
  | .tenancyGrant src d => Sys2Proof.Machine.execTenancyGrant src d s
  | .tenancyQuiesce src d => Sys2Proof.Machine.execTenancyQuiesce src d s
  | .tenancyResume src d => Sys2Proof.Machine.execTenancyResume src d s
  | .tenancyReset src d => Sys2Proof.Machine.execTenancyReset src d s
  | .tenancyRemove src d => Sys2Proof.Machine.execTenancyRemove src d s
  | .tenancyFreeze src d => Sys2Proof.Machine.execTenancyFreeze src d s
  | .tenancySave src d => Sys2Proof.Machine.execTenancySave src d s
  | .tenancyRestore src d => Sys2Proof.Machine.execTenancyRestore src d s
  | .tenancyQuery src d => Sys2Proof.Machine.execTenancyQuery src d s
  | .tenancyAperture src d => Sys2Proof.Machine.execTenancyAperture src d s
  | .layerAlloc src d => Sys2Proof.Machine.execLayerAlloc src d s
  | .layerUpdate src d => Sys2Proof.Machine.execLayerUpdate src d s
  | .layerFree src d => Sys2Proof.Machine.execLayerFree src d s
  | .layerMove src d => Sys2Proof.Machine.execLayerMove src d s
  | .layerClut src d => Sys2Proof.Machine.execLayerClut src d s
  | .layerPolicy src d => Sys2Proof.Machine.execLayerPolicy src d s
  | .layerStatus src d => Sys2Proof.Machine.execLayerStatus src d s
  | .headConfig src d => Sys2Proof.Machine.execHeadConfig src d s
  | .headEnable src d => Sys2Proof.Machine.execHeadEnable src d s
  | .headDisable src d => Sys2Proof.Machine.execHeadDisable src d s
  | .headPush src d => Sys2Proof.Machine.execHeadPush src d s
  | .headUnderrun src d => Sys2Proof.Machine.execHeadUnderrun src d s
  | .headQuiet src d => Sys2Proof.Machine.execHeadQuiet src d s
  | .headDsc src d => Sys2Proof.Machine.execHeadDsc src d s
  | .headStatus src d => Sys2Proof.Machine.execHeadStatus src d s
  | .headLink src d => Sys2Proof.Machine.execHeadLink src d s
  | .assayAlloc src d => Sys2Proof.Machine.execAssayAlloc src d s
  | .assayConfig src d => Sys2Proof.Machine.execAssayConfig src d s
  | .assayExpect src d => Sys2Proof.Machine.execAssayExpect src d s
  | .assayFree src d => Sys2Proof.Machine.execAssayFree src d s
  | .assayRead src d => Sys2Proof.Machine.execAssayRead src d s
  | .shadowRegion src d => Sys2Proof.Machine.execShadowRegion src d s
  | .gpuContextCreate src d => Sys2Proof.Machine.execGpuContextCreate src d s
  | .gpuContextDestroy src d => Sys2Proof.Machine.execGpuContextDestroy src d s
  | .gpuShaderLoad src d => Sys2Proof.Machine.execGpuShaderLoad src d s
  | .gpuJobSubmit src d => Sys2Proof.Machine.execGpuJobSubmit src d s
  | .gpuJobKill src d => Sys2Proof.Machine.execGpuJobKill src d s
  | .gpuContextQuery src d => Sys2Proof.Machine.execGpuContextQuery src d s
  | .touchPortConfig src d => Sys2Proof.Machine.execTouchPortConfig src d s
  | .touchScanConfig src d => Sys2Proof.Machine.execTouchScanConfig src d s
  | .touchBaselineLoad src d => Sys2Proof.Machine.execTouchBaselineLoad src d s
  | .touchBaselineSave src d => Sys2Proof.Machine.execTouchBaselineSave src d s
  | .touchSelftest src d => Sys2Proof.Machine.execTouchSelftest src d s
  | .touchCalibration src d => Sys2Proof.Machine.execTouchCalibration src d s
  | .touchKeys src d => Sys2Proof.Machine.execTouchKeys src d s
  | .touchReportRing src d => Sys2Proof.Machine.execTouchReportRing src d s
  | .hapticConfig src d => Sys2Proof.Machine.execHapticConfig src d s
  | .hapticPlay src d => Sys2Proof.Machine.execHapticPlay src d s
  | .hapticStop src d => Sys2Proof.Machine.execHapticStop src d s
  | .hapticTriggerMap src d => Sys2Proof.Machine.execHapticTriggerMap src d s
  | .hapticStatus src d => Sys2Proof.Machine.execHapticStatus src d s
  | .audioPortConfig src d => Sys2Proof.Machine.execAudioPortConfig src d s
  | .audioStreamConfig src d => Sys2Proof.Machine.execAudioStreamConfig src d s
  | .audioStreamStart src d => Sys2Proof.Machine.execAudioStreamStart src d s
  | .audioStreamStop src d => Sys2Proof.Machine.execAudioStreamStop src d s
  | .audioRoute src d => Sys2Proof.Machine.execAudioRoute src d s
  | .audioGain src d => Sys2Proof.Machine.execAudioGain src d s
  | .audioFilter src d => Sys2Proof.Machine.execAudioFilter src d s
  | .audioTone src d => Sys2Proof.Machine.execAudioTone src d s
  | .audioJackStatus src d => Sys2Proof.Machine.execAudioJackStatus src d s
  | .dmaChannelConfig src d => Sys2Proof.Machine.execDmaChannelConfig src d s
  | .dmaCopy src d => Sys2Proof.Machine.execDmaCopy src d s
  | .dmaFill src d => Sys2Proof.Machine.execDmaFill src d s
  | .dmaCompare src d => Sys2Proof.Machine.execDmaCompare src d s
  | .dmaCopy2d src d => Sys2Proof.Machine.execDmaCopy2d src d s
  | .dmaResume src d => Sys2Proof.Machine.execDmaResume src d s
  | .dmaAbort src d => Sys2Proof.Machine.execDmaAbort src d s
  | .eventRingConfig src d => Sys2Proof.Machine.execEventRingConfig src d s
  | .eventTarget src d => Sys2Proof.Machine.execEventTarget src d s
  | .eventMask src d => Sys2Proof.Machine.execEventMask src d s
  | .eventPendSet src d => Sys2Proof.Machine.execEventPendSet src d s
  | .eventGlobalDisable src d => Sys2Proof.Machine.execEventGlobalDisable src d s
  | .eventStatus src d => Sys2Proof.Machine.execEventStatus src d s
  | .powerState src d => Sys2Proof.Machine.execPowerState src d s
  | .powerRetain src d => Sys2Proof.Machine.execPowerRetain src d s
  | .powerGate src d => Sys2Proof.Machine.execPowerGate src d s
  | .powerWakeConfig src d => Sys2Proof.Machine.execPowerWakeConfig src d s
  | .memSpare src d => Sys2Proof.Machine.execMemSpare src d s
  | .memStatus src d => Sys2Proof.Machine.execMemStatus src d s
  | .memPowerdown src d => Sys2Proof.Machine.execMemPowerdown src d s
  | .memLatency src d => Sys2Proof.Machine.execMemLatency src d s
  | .memRetire src d => Sys2Proof.Machine.execMemRetire src d s
  | .stockroomStager src d => Sys2Proof.Machine.execStockroomStager src d s
  | .stockroomQuery src d => Sys2Proof.Machine.execStockroomQuery src d s
  | .secureMeasurements src d => Sys2Proof.Machine.execSecureMeasurements src d s
  | .secureAppletLoad src d => Sys2Proof.Machine.execSecureAppletLoad src d s
  | .secureAppletStart src d => Sys2Proof.Machine.execSecureAppletStart src d s
  | .secureAppletStop src d => Sys2Proof.Machine.execSecureAppletStop src d s
  | .secureLayer src d => Sys2Proof.Machine.execSecureLayer src d s
  | .migrationKeyOffer src d => Sys2Proof.Machine.execMigrationKeyOffer src d s
  | .migrationKeyAccept src d => Sys2Proof.Machine.execMigrationKeyAccept src d s
  | .migrationKeyDestroy src d => Sys2Proof.Machine.execMigrationKeyDestroy src d s
  | .diagLedgerRead src d => Sys2Proof.Machine.execDiagLedgerRead src d s
  | .diagFaultLogRead src d => Sys2Proof.Machine.execDiagFaultLogRead src d s
  | .diagLedgerClear src d => Sys2Proof.Machine.execDiagLedgerClear src d s
  | .diagFaultInject src d => Sys2Proof.Machine.execDiagFaultInject src d s
  | .crTail fn ring v => Sys2Proof.Machine.execCrTail fn ring v s
  | .ccHead fn ring v => Sys2Proof.Machine.execCcHead fn ring v s
  | .evHead fn ring v => Sys2Proof.Machine.execEvHead fn ring v s
  | .crCfgEnable fn ring v => Sys2Proof.Machine.execCrCfgEnable fn ring v s
  | .crCfgDisable fn ring v => Sys2Proof.Machine.execCrCfgDisable fn ring v s
  | .ccCfgEnable fn ring v => Sys2Proof.Machine.execCcCfgEnable fn ring v s
  | .ccCfgDisable fn ring v => Sys2Proof.Machine.execCcCfgDisable fn ring v s
  | .tlcTickLo fn => Sys2Proof.Machine.execTlcTickLo fn s
  | .bootCtrlGo v => Sys2Proof.Machine.execBootCtrlGo v s
  | .secureWmWrite v => Sys2Proof.Machine.execSecureWmWrite v s
  | .dramWmWrite v => Sys2Proof.Machine.execDramWmWrite v s
  | .lockSet block => Sys2Proof.Machine.execLockSet block s
  | .lgStatusClear mask => Sys2Proof.Machine.execLgStatusClear mask s
  | .registerWrite block ofs v width => Sys2Proof.Machine.execRegisterWrite block ofs v width s
  | .svRead seq addr len crcGood => Sys2Proof.Machine.execSvRead seq addr len crcGood s
  | .svWrite seq addr data crcGood => Sys2Proof.Machine.execSvWrite seq addr data crcGood s
  | .mboxSend seq msg crcGood => Sys2Proof.Machine.execMboxSend seq msg crcGood s
  | .mboxRecv seq len crcGood => Sys2Proof.Machine.execMboxRecv seq len crcGood s
  | .ttSprite msg => Sys2Proof.Machine.execTtSprite msg s
  | .ttPalette msg => Sys2Proof.Machine.execTtPalette msg s
  | .ttImage msg => Sys2Proof.Machine.execTtImage msg s
  | .regRead msg => Sys2Proof.Machine.execRegRead msg s
  | .debugUnlock msg valid => Sys2Proof.Machine.execDebugUnlock msg valid s
  | .i2cAddressMatch addr data => Sys2Proof.Machine.execI2cAddressMatch addr data s
  | .wakeRead len => Sys2Proof.Machine.execWakeRead len s
  | .resetRelease bootSel => Sys2Proof.Machine.execResetRelease bootSel s
  | .referenceEdge rising interval => Sys2Proof.Machine.execReferenceEdge rising interval s
  | .epochStart sampled => Sys2Proof.Machine.execEpochStart sampled s
  | .turnStart t => Sys2Proof.Machine.execTurnStart t s
  | .descriptorArrival src how => Sys2Proof.Machine.execDescriptorArrival src how s
  | .descriptorFetchTimeout src => Sys2Proof.Machine.execDescriptorFetchTimeout src s
  | .firstCompletion src => Sys2Proof.Machine.execFirstCompletion src s
  | .hostDataArrival src how => Sys2Proof.Machine.execHostDataArrival src how s
  | .moderationTimeout fn vector => Sys2Proof.Machine.execModerationTimeout fn vector s
  | .eventClaim ring => Sys2Proof.Machine.execEventClaim ring s
  | .functionLevelReset vf => Sys2Proof.Machine.execFunctionLevelReset vf s
  | .d3hotEntry fn => Sys2Proof.Machine.execD3hotEntry fn s
  | .d0Return fn => Sys2Proof.Machine.execD0Return fn s
  | .busMasterEnableClear fn => Sys2Proof.Machine.execBusMasterEnableClear fn s
  | .vectorUnmask fn vector => Sys2Proof.Machine.execVectorUnmask fn vector s
  | .pcieLinkDown fails => Sys2Proof.Machine.execPcieLinkDown fails s
  | .workOrderExecute src => Sys2Proof.Machine.execWorkOrderExecute src s
  | .workOrderLate src => Sys2Proof.Machine.execWorkOrderLate src s
  | .lineStart head => Sys2Proof.Machine.execLineStart head s
  | .stagerSwitch head => Sys2Proof.Machine.execStagerSwitch head s
  | .stagerRequest head line => Sys2Proof.Machine.execStagerRequest head line s
  | .stagingArrival head line => Sys2Proof.Machine.execStagingArrival head line s
  | .underrun head => Sys2Proof.Machine.execUnderrun head s
  | .teEdge head rising => Sys2Proof.Machine.execTeEdge head rising s
  | .teMissed head => Sys2Proof.Machine.execTeMissed head s
  | .pushEnd head => Sys2Proof.Machine.execPushEnd head s
  | .linkLost head => Sys2Proof.Machine.execLinkLost head s
  | .hpdRise head => Sys2Proof.Machine.execHpdRise head s
  | .hpdIrq head => Sys2Proof.Machine.execHpdIrq head s
  | .retrainAttempt head => Sys2Proof.Machine.execRetrainAttempt head s
  | .linkTrainingDone head success => Sys2Proof.Machine.execLinkTrainingDone head success s
  | .limitInstant target => Sys2Proof.Machine.execLimitInstant target s
  | .jobStart grove => Sys2Proof.Machine.execJobStart grove s
  | .jobComplete grove used poisoned writes => Sys2Proof.Machine.execJobComplete grove used poisoned writes s
  | .timeLimit grove => Sys2Proof.Machine.execTimeLimit grove s
  | .tileListPoolOverflow grove used => Sys2Proof.Machine.execTileListPoolOverflow grove used s
  | .shaderAccessFault grove => Sys2Proof.Machine.execShaderAccessFault grove s
  | .grTileUe grove => Sys2Proof.Machine.execGrTileUe grove s
  | .groveResetDone grove => Sys2Proof.Machine.execGroveResetDone grove s
  | .grReset grove => Sys2Proof.Machine.execGrReset grove s
  | .scanStart port => Sys2Proof.Machine.execScanStart port s
  | .stepEnd port first last iq => Sys2Proof.Machine.execStepEnd port first last iq s
  | .scanProductsDone port => Sys2Proof.Machine.execScanProductsDone port s
  | .reportWrite port => Sys2Proof.Machine.execReportWrite port s
  | .keyTrigger port => Sys2Proof.Machine.execKeyTrigger port s
  | .touchStale port id => Sys2Proof.Machine.execTouchStale port id s
  | .txOvercurrent port tx => Sys2Proof.Machine.execTxOvercurrent port tx s
  | .watchScan iq => Sys2Proof.Machine.execWatchScan iq s
  | .hapTrigEdge chan rising => Sys2Proof.Machine.execHapTrigEdge chan rising s
  | .triggerAccept chan => Sys2Proof.Machine.execTriggerAccept chan s
  | .hapTrigWake chan => Sys2Proof.Machine.execHapTrigWake chan s
  | .zeroCrossing chan half bemf ma => Sys2Proof.Machine.execZeroCrossing chan half bemf ma s
  | .segmentEnd chan => Sys2Proof.Machine.execSegmentEnd chan s
  | .brakeEnd chan => Sys2Proof.Machine.execBrakeEnd chan s
  | .actuatorFault chan cause => Sys2Proof.Machine.execActuatorFault chan cause s
  | .vhapLow mv => Sys2Proof.Machine.execVhapLow mv s
  | .vhapRecover mv => Sys2Proof.Machine.execVhapRecover mv s
  | .sampleStart unit ins => Sys2Proof.Machine.execSampleStart unit ins s
  | .frameSyncEdge port ins => Sys2Proof.Machine.execFrameSyncEdge port ins s
  | .syncLost port => Sys2Proof.Machine.execSyncLost port s
  | .audioPeriod stream => Sys2Proof.Machine.execAudioPeriod stream s
  | .audioCompare sink => Sys2Proof.Machine.execAudioCompare sink s
  | .jackInsertion jack closed => Sys2Proof.Machine.execJackInsertion jack closed s
  | .jackDebounce jack => Sys2Proof.Machine.execJackDebounce jack s
  | .jackClassified jack type load => Sys2Proof.Machine.execJackClassified jack type load s
  | .jackRemoval jack => Sys2Proof.Machine.execJackRemoval jack s
  | .audioButton jack ohms => Sys2Proof.Machine.execAudioButton jack ohms s
  | .audioDriver object => Sys2Proof.Machine.execAudioDriver object s
  | .dmaTransferDone src => Sys2Proof.Machine.execDmaTransferDone src s
  | .completionTimeout src addr moved => Sys2Proof.Machine.execCompletionTimeout src addr moved s
  | .urCa src addr moved => Sys2Proof.Machine.execUrCa src addr moved s
  | .noMaster src write addr moved => Sys2Proof.Machine.execNoMaster src write addr moved s
  | .poisonedCompletion src ofs len => Sys2Proof.Machine.execPoisonedCompletion src ofs len s
  | .stockroomRequest r => Sys2Proof.Machine.execStockroomRequest r s
  | .shelfZeroised shelf => Sys2Proof.Machine.execShelfZeroised shelf s
  | .dramRequest rs => Sys2Proof.Machine.execDramRequest rs s
  | .plotZeroised plot => Sys2Proof.Machine.execPlotZeroised plot s
  | .mr4Poll readings => Sys2Proof.Machine.execMr4Poll readings s
  | .refresh rank => Sys2Proof.Machine.execRefresh rank s
  | .powerDownEntry rank => Sys2Proof.Machine.execPowerDownEntry rank s
  | .trainingDone gib present good => Sys2Proof.Machine.execTrainingDone gib present good s
  | .serviceResume good applets => Sys2Proof.Machine.execServiceResume good applets s
  | .appletEnd slot code result => Sys2Proof.Machine.execAppletEnd slot code result s
  | .limitMs slot => Sys2Proof.Machine.execLimitMs slot s
  | .parityError what affect => Sys2Proof.Machine.execParityError what affect s
  | .resumption good patched => Sys2Proof.Machine.execResumption good patched s
  | .bootImageLoad slot image good => Sys2Proof.Machine.execBootImageLoad slot image good s
  | .busMasterEnableSet fn => Sys2Proof.Machine.execBusMasterEnableSet fn s
  | .wardenReply r => Sys2Proof.Machine.execWardenReply r s
  | .selftestDone port gnd sup next opens => Sys2Proof.Machine.execSelftestDone port gnd sup next opens s
  | .auxDcsReply head reply => Sys2Proof.Machine.execAuxDcsReply head reply s
  | .jobRunTimeFault grove oversize => Sys2Proof.Machine.execJobRunTimeFault grove oversize s
  | .onSegmentRise chan => Sys2Proof.Machine.execOnSegmentRise chan s
  | .timedFinalCompletion src => Sys2Proof.Machine.execTimedFinalCompletion src s
  | .tlTickLo => Sys2Proof.Machine.execTlTickLo s
  | .forceHalt => Sys2Proof.Machine.execForceHalt s
  | .frameCutShort => Sys2Proof.Machine.execFrameCutShort s
  | .heartbeat => Sys2Proof.Machine.execHeartbeat s
  | .aonSupplyRise => Sys2Proof.Machine.execAonSupplyRise s
  | .aonSupplyFall => Sys2Proof.Machine.execAonSupplyFall s
  | .pgoodFall => Sys2Proof.Machine.execPgoodFall s
  | .referenceEdgeMissing => Sys2Proof.Machine.execReferenceEdgeMissing s
  | .steerTimeout => Sys2Proof.Machine.execSteerTimeout s
  | .pf0FunctionLevelReset => Sys2Proof.Machine.execPf0FunctionLevelReset s
  | .firstPauseEnd => Sys2Proof.Machine.execFirstPauseEnd s
  | .copyEnd => Sys2Proof.Machine.execCopyEnd s
  | .migrateDone => Sys2Proof.Machine.execMigrateDone s
  | .d2dLinkLoss => Sys2Proof.Machine.execD2dLinkLoss s
  | .d2dLinkRetrained => Sys2Proof.Machine.execD2dLinkRetrained s
  | .hbTimeout => Sys2Proof.Machine.execHbTimeout s
  | .wardenSelfRestart => Sys2Proof.Machine.execWardenSelfRestart s
  | .cpLockstep => Sys2Proof.Machine.execCpLockstep s
  | .clockFail => Sys2Proof.Machine.execClockFail s
  | .tempHigh => Sys2Proof.Machine.execTempHigh s
  | .tempCrit => Sys2Proof.Machine.execTempCrit s
  | .supplyFault => Sys2Proof.Machine.execSupplyFault s
  | .pcieFatal => Sys2Proof.Machine.execPcieFatal s
  | .reactionStart => Sys2Proof.Machine.execReactionStart s
  | .reactionComplete => Sys2Proof.Machine.execReactionComplete s
  | .entryInstant => Sys2Proof.Machine.execEntryInstant s
  | .l2L3Ready => Sys2Proof.Machine.execL2L3Ready s
  | .l2WaitTimeout => Sys2Proof.Machine.execL2WaitTimeout s
  | .stageReady => Sys2Proof.Machine.execStageReady s
  | .stageTimeout => Sys2Proof.Machine.execStageTimeout s
  | .resetAssertion => Sys2Proof.Machine.execResetAssertion s
  | .vfEnableSet => Sys2Proof.Machine.execVfEnableSet s
  | .cpSramUe => Sys2Proof.Machine.execCpSramUe s
  | .pwrReqReassert => Sys2Proof.Machine.execPwrReqReassert s
  | .rcFallback => Sys2Proof.Machine.execRcFallback s
  | .syncOutPulse => Sys2Proof.Machine.execSyncOutPulse s

end Sys2Proof.Machine
end

