-- ==== Sys2Proof/Safety.lean ====
section
/-! DEFINITION. What holds in every state the block can reach, in the terms the statements use. -/

namespace Sys2Proof.Machine

/-- The commands in flight are numbered in the order of their admission, below the next number (05 R232). -/
def FlightsOk (s : State) : Prop :=
  (s.flights.map fun f => f.id).Pairwise (· < ·) ∧ ∀ f ∈ s.flights, f.id < s.nextId

/-- Host memory, the shelves and bulk memory are in canonical form: addresses rising, no byte listed that reads as an
unwritten one. -/
def MemoryOk (s : State) : Prop :=
  Mem.wf s.host = true ∧ Mem.wf s.sr.mem = true ∧ Mem.wf s.dram.mem = true

/-- The Timeline's counters keep their widths, and those that saturate keep their bounds (02 R39, R41, R46, R49). -/
def TimelineOk (t : Timeline) : Prop :=
  t.tick < 2 ^ 64 ∧ t.epoch < 2 ^ 32 ∧ t.glitches ≤ 255 ∧ t.goodEdges ≤ 8 ∧ t.badEdges ≤ 15 ∧ t.lockedEpochs ≤ 64 ∧
    t.steerAge ≤ 1025

/-- The invariant of the block. -/
def Inv (s : State) : Prop := FlightsOk s ∧ MemoryOk s ∧ TimelineOk s.tl


/-- The parts of the state. -/
inductive Part where
  | tl | wheels | pcie | fns | crs | evr | ev | lg | tens | loads | visible | flights | charges | sr | comp
  | au | gpu | dma | dram | audio | touch | haptic | wd | pw | hokusaSafe | host | nextId | free | pending
  deriving DecidableEq, Repr

/-- A part is the same in two states. -/
def agree (p : Part) (s t : State) : Prop :=
  match p with
  | .tl => t.tl = s.tl
  | .wheels => t.wheels = s.wheels
  | .pcie => t.pcie = s.pcie
  | .fns => t.fns = s.fns
  | .crs => t.crs = s.crs
  | .evr => t.evr = s.evr
  | .ev => t.ev = s.ev
  | .lg => t.lg = s.lg
  | .tens => t.tens = s.tens
  | .loads => t.loads = s.loads
  | .visible => t.visible = s.visible
  | .flights => t.flights = s.flights
  | .charges => t.charges = s.charges
  | .sr => t.sr = s.sr
  | .comp => t.comp = s.comp
  | .au => t.au = s.au
  | .gpu => t.gpu = s.gpu
  | .dma => t.dma = s.dma
  | .dram => t.dram = s.dram
  | .audio => t.audio = s.audio
  | .touch => t.touch = s.touch
  | .haptic => t.haptic = s.haptic
  | .wd => t.wd = s.wd
  | .pw => t.pw = s.pw
  | .hokusaSafe => t.hokusaSafe = s.hokusaSafe
  | .host => t.host = s.host
  | .nextId => t.nextId = s.nextId
  | .free => t.free = s.free
  | .pending => t.pending = s.pending

/-- The parts of the state that a command may change; every other part it leaves alone. -/
def touches : Instr → List Part
  | .nop .. | .deviceIdentify .. | .hostSuspend .. | .resourceQuery .. | .timelineConfig .. | .timelineSteer .. |
    .timelineStatus .. | .karbobinLoad .. | .tenancyCreate .. | .tenancyGrant .. | .tenancyResume .. |
    .tenancyReset .. | .tenancyRemove .. | .tenancyFreeze .. | .tenancySave .. | .tenancyRestore .. |
    .tenancyQuery .. | .tenancyAperture .. | .layerAlloc .. | .layerClut .. | .layerPolicy .. | .layerStatus .. |
    .headConfig .. | .headEnable .. | .headDisable .. | .headPush .. | .headUnderrun .. | .headQuiet .. |
    .headDsc .. | .headStatus .. | .headLink .. | .assayAlloc .. | .assayExpect .. | .assayRead .. |
    .gpuContextCreate .. | .gpuContextDestroy .. | .gpuShaderLoad .. | .gpuJobKill .. | .gpuContextQuery .. |
    .touchPortConfig .. | .touchScanConfig .. | .touchBaselineLoad .. | .touchBaselineSave .. | .touchSelftest .. |
    .touchCalibration .. | .touchKeys .. | .touchReportRing .. | .hapticConfig .. | .hapticPlay .. | .hapticStop .. |
    .hapticTriggerMap .. | .hapticStatus .. | .audioPortConfig .. | .audioStreamConfig .. | .audioStreamStart .. |
    .audioStreamStop .. | .audioGain .. | .audioFilter .. | .audioJackStatus .. | .dmaChannelConfig .. |
    .dmaCopy .. | .dmaFill .. | .dmaCompare .. | .dmaCopy2d .. | .eventRingConfig .. | .eventTarget .. |
    .eventMask .. | .eventPendSet .. | .eventGlobalDisable .. | .eventStatus .. | .powerState .. | .powerRetain .. |
    .powerGate .. | .powerWakeConfig .. | .memSpare .. | .memStatus .. | .memPowerdown .. | .memLatency .. |
    .stockroomQuery .. | .secureMeasurements .. | .secureAppletLoad .. | .secureAppletStart .. |
    .secureAppletStop .. | .secureLayer .. | .migrationKeyOffer .. | .migrationKeyAccept .. |
    .migrationKeyDestroy .. | .diagLedgerRead .. | .diagFaultLogRead .. | .diagLedgerClear .. | .diagFaultInject .. =>
    [.crs, .tens, .visible, .flights, .nextId, .free]
  | .tenancyQuiesce .. =>
    [.pcie, .fns, .crs, .evr, .ev, .lg, .tens, .visible, .flights, .sr, .au, .gpu, .dram, .audio, .host, .nextId,
     .free]
  | .layerUpdate .. | .layerMove .. =>
    [.crs, .tens, .visible, .flights, .charges, .sr, .nextId, .free]
  | .layerFree .. | .assayConfig .. | .assayFree .. | .shadowRegion .. | .audioRoute .. | .audioTone .. =>
    [.crs, .tens, .visible, .flights, .charges, .nextId, .free]
  | .gpuJobSubmit .. =>
    [.crs, .tens, .visible, .flights, .gpu, .nextId, .free]
  | .dmaResume .. =>
    [.crs, .ev, .tens, .visible, .flights, .dma, .nextId, .free]
  | .dmaAbort .. =>
    [.pcie, .fns, .crs, .evr, .ev, .lg, .tens, .visible, .flights, .sr, .gpu, .dma, .dram, .host, .nextId, .free]
  | .memRetire .. =>
    [.pcie, .fns, .crs, .evr, .ev, .lg, .tens, .visible, .flights, .gpu, .dram, .host, .nextId, .free]
  | .stockroomStager .. =>
    [.crs, .tens, .visible, .flights, .sr, .nextId, .free]
  | .crTail .. | .i2cAddressMatch .. | .resetRelease .. | .watchScan .. | .hapTrigWake .. | .resumption .. |
    .aonSupplyRise | .aonSupplyFall | .l2L3Ready | .l2WaitTimeout | .resetAssertion =>
    [.tl, .wheels, .pcie, .fns, .crs, .evr, .ev, .lg, .tens, .loads, .visible, .flights, .charges, .sr, .comp,
     .au, .gpu, .dma, .dram, .audio, .touch, .haptic, .wd, .pw, .hokusaSafe]
  | .ccHead .. =>
    [.pcie, .fns, .crs, .tens, .visible]
  | .evHead .. =>
    [.pcie, .fns, .evr, .ev]
  | .crCfgEnable .. | .crCfgDisable .. | .ccCfgEnable .. | .ccCfgDisable .. =>
    [.crs]
  | .tlcTickLo .. | .busMasterEnableClear .. =>
    [.fns]
  | .bootCtrlGo .. | .wakeRead .. | .stageTimeout | .pwrReqReassert | .rcFallback =>
    [.pw]
  | .secureWmWrite .. | .stagerRequest .. | .shelfZeroised .. =>
    [.sr]
  | .dramWmWrite .. | .plotZeroised .. | .refresh .. | .powerDownEntry .. =>
    [.dram]
  | .lockSet .. =>
    [.lg, .sr, .dram]
  | .lgStatusClear .. | .grTileUe .. | .grReset .. | .forceHalt | .cpLockstep | .clockFail | .tempHigh | .tempCrit |
    .supplyFault | .pcieFatal | .cpSramUe =>
    [.pcie, .fns, .crs, .evr, .ev, .lg, .flights, .gpu, .host]
  | .registerWrite .. | .entryInstant =>
    [.tl, .wheels, .pcie, .fns, .crs, .evr, .ev, .lg, .tens, .loads, .visible, .flights, .charges, .sr, .comp,
     .au, .gpu, .dma, .dram, .audio, .touch, .haptic, .wd, .pw, .hokusaSafe, .host]
  | .svRead .. | .mboxSend .. | .mboxRecv .. =>
    [.wd, .free]
  | .svWrite .. | .bootImageLoad .. =>
    [.tl, .wheels, .pcie, .fns, .crs, .evr, .ev, .lg, .tens, .loads, .visible, .flights, .charges, .sr, .comp,
     .au, .gpu, .dma, .dram, .audio, .touch, .haptic, .wd, .pw, .hokusaSafe, .host, .free]
  | .ttSprite .. =>
    [.pcie, .fns, .crs, .evr, .ev, .lg, .flights, .sr, .au, .gpu, .wd, .host]
  | .ttPalette .. =>
    [.au, .wd]
  | .ttImage .. =>
    [.pcie, .fns, .crs, .evr, .ev, .lg, .flights, .sr, .gpu, .wd, .host]
  | .regRead .. =>
    [.tl, .wd]
  | .debugUnlock .. | .appletEnd .. | .limitMs .. =>
    [.pcie, .fns, .crs, .evr, .flights, .sr, .gpu, .dram, .wd, .host]
  | .referenceEdge .. =>
    [.tl, .pcie, .fns, .crs, .evr, .ev, .lg, .flights, .comp, .gpu, .host, .free]
  | .epochStart .. =>
    [.tl, .wheels, .pcie, .fns, .crs, .evr, .ev, .lg, .tens, .loads, .flights, .charges, .sr, .comp, .au, .gpu,
     .dma, .dram, .audio, .touch, .haptic, .pw, .host]
  | .turnStart .. =>
    [.wheels, .pcie, .fns, .crs, .evr, .ev, .lg, .flights, .sr, .au, .gpu, .dram, .audio, .host, .free]
  | .descriptorArrival .. =>
    [.fns, .crs, .visible]
  | .descriptorFetchTimeout .. =>
    [.crs, .visible]
  | .firstCompletion .. =>
    [.tl, .pcie, .fns, .crs, .evr, .ev, .lg, .tens, .loads, .visible, .flights, .charges, .sr, .comp, .au, .gpu,
     .dma, .dram, .audio, .touch, .haptic, .wd, .pw, .host, .nextId, .free]
  | .hostDataArrival .. =>
    [.pcie, .fns, .crs, .evr, .ev, .lg, .tens, .loads, .flights, .sr, .gpu, .dram, .host]
  | .moderationTimeout .. | .d3hotEntry .. =>
    [.pcie, .fns, .crs, .evr]
  | .eventClaim .. =>
    [.pcie, .fns, .crs, .evr, .ev, .host]
  | .functionLevelReset .. =>
    [.pcie, .fns, .crs, .evr, .ev, .lg, .tens, .visible, .flights, .charges, .sr, .comp, .au, .gpu, .dma, .dram,
     .audio, .touch, .haptic, .wd, .host, .free]
  | .d0Return .. | .busMasterEnableSet .. | .vfEnableSet =>
    [.pcie, .fns, .crs, .evr, .host]
  | .vectorUnmask .. =>
    [.pcie, .fns]
  | .pcieLinkDown .. | .completionTimeout .. | .urCa .. | .noMaster .. =>
    [.pcie, .fns, .crs, .evr, .ev, .lg, .flights, .sr, .gpu, .dma, .dram, .host, .free]
  | .workOrderExecute .. | .zeroCrossing .. | .actuatorFault .. =>
    [.pcie, .fns, .crs, .evr, .ev, .lg, .flights, .gpu, .haptic, .host]
  | .workOrderLate .. | .parityError .. =>
    [.pcie, .fns, .crs, .evr, .ev, .lg, .flights, .charges, .comp, .gpu, .host]
  | .lineStart .. =>
    [.tl, .pcie, .fns, .crs, .evr, .ev, .lg, .flights, .charges, .sr, .comp, .au, .gpu, .dram, .wd, .host]
  | .stagerSwitch .. =>
    [.pcie, .fns, .crs, .evr, .ev, .flights, .charges, .sr, .comp, .gpu, .dram, .host]
  | .stagingArrival .. =>
    [.pcie, .fns, .crs, .evr, .ev, .lg, .flights, .sr, .comp, .gpu, .dram, .host, .free]
  | .underrun .. =>
    [.tl, .pcie, .fns, .crs, .evr, .ev, .lg, .flights, .comp, .au, .gpu, .host, .free]
  | .teEdge .. | .hpdRise .. | .hpdIrq .. | .retrainAttempt .. =>
    [.comp]
  | .teMissed .. =>
    [.pcie, .fns, .crs, .evr, .ev, .lg, .flights, .comp, .au, .gpu, .host]
  | .pushEnd .. =>
    [.tl, .pcie, .fns, .crs, .evr, .ev, .lg, .flights, .sr, .comp, .au, .gpu, .host]
  | .linkLost .. =>
    [.pcie, .fns, .crs, .evr, .ev, .lg, .flights, .comp, .gpu, .host]
  | .linkTrainingDone .. =>
    [.pcie, .fns, .crs, .evr, .ev, .lg, .flights, .sr, .comp, .gpu, .host]
  | .limitInstant .. | .reactionComplete =>
    [.pcie, .fns, .crs, .evr, .ev, .lg, .tens, .flights, .charges, .sr, .comp, .au, .gpu, .dma, .dram, .audio,
     .wd, .host, .free]
  | .jobStart .. =>
    [.pcie, .fns, .crs, .evr, .ev, .lg, .flights, .sr, .gpu, .dram, .host]
  | .jobComplete .. | .tileListPoolOverflow .. =>
    [.pcie, .fns, .crs, .evr, .ev, .lg, .flights, .sr, .gpu, .dram, .host, .free]
  | .timeLimit .. =>
    [.ev, .gpu]
  | .shaderAccessFault .. | .auxDcsReply .. | .jobRunTimeFault .. =>
    [.pcie, .fns, .crs, .evr, .flights, .gpu, .host]
  | .groveResetDone .. =>
    [.pcie, .fns, .crs, .evr, .ev, .flights, .gpu, .host]
  | .scanStart .. =>
    [.pcie, .fns, .crs, .evr, .ev, .flights, .gpu, .touch, .host]
  | .stepEnd .. =>
    [.pcie, .fns, .crs, .evr, .flights, .sr, .gpu, .touch, .host]
  | .scanProductsDone .. =>
    [.pcie, .fns, .crs, .evr, .ev, .tens, .flights, .gpu, .touch, .host]
  | .reportWrite .. =>
    [.ev, .touch, .host]
  | .keyTrigger .. =>
    [.ev, .touch, .haptic]
  | .touchStale .. =>
    [.ev, .touch]
  | .txOvercurrent .. =>
    [.pcie, .fns, .crs, .evr, .ev, .lg, .flights, .gpu, .touch, .host]
  | .hapTrigEdge .. | .segmentEnd .. | .brakeEnd .. | .vhapRecover .. | .onSegmentRise .. =>
    [.haptic]
  | .triggerAccept .. | .vhapLow .. =>
    [.ev, .haptic]
  | .sampleStart .. =>
    [.pcie, .fns, .crs, .evr, .ev, .lg, .flights, .charges, .sr, .au, .gpu, .audio, .host, .free]
  | .frameSyncEdge .. =>
    [.pcie, .fns, .crs, .evr, .ev, .lg, .flights, .charges, .au, .gpu, .audio, .host, .free]
  | .syncLost .. | .audioDriver .. =>
    [.pcie, .fns, .crs, .evr, .ev, .lg, .flights, .gpu, .audio, .host]
  | .audioPeriod .. =>
    [.pcie, .fns, .crs, .evr, .ev, .audio, .host]
  | .audioCompare .. =>
    [.pcie, .fns, .crs, .evr, .ev, .lg, .flights, .au, .gpu, .host]
  | .jackInsertion .. | .jackDebounce .. =>
    [.audio]
  | .jackClassified .. | .jackRemoval .. | .audioButton .. =>
    [.ev, .audio]
  | .dmaTransferDone .. =>
    [.pcie, .fns, .crs, .evr, .ev, .lg, .flights, .sr, .au, .gpu, .dma, .dram, .host, .free]
  | .poisonedCompletion .. =>
    [.fns, .flights]
  | .stockroomRequest .. =>
    [.pcie, .fns, .crs, .evr, .ev, .lg, .flights, .sr, .au, .gpu, .host, .free]
  | .dramRequest .. | .firstPauseEnd | .migrateDone =>
    [.pcie, .fns, .crs, .evr, .ev, .lg, .flights, .gpu, .dram, .host, .free]
  | .mr4Poll .. | .copyEnd =>
    [.pcie, .fns, .crs, .evr, .ev, .lg, .flights, .gpu, .dram, .host]
  | .trainingDone .. =>
    [.pcie, .fns, .crs, .evr, .ev, .lg, .flights, .gpu, .dram, .wd, .pw, .host]
  | .serviceResume .. =>
    [.pcie, .fns, .crs, .evr, .ev, .lg, .flights, .sr, .gpu, .dram, .wd, .host]
  | .wardenReply .. =>
    [.pcie, .fns, .crs, .evr, .ev, .lg, .tens, .flights, .charges, .sr, .comp, .au, .gpu, .dma, .dram, .audio,
     .touch, .haptic, .wd, .host, .free]
  | .selftestDone .. =>
    [.pcie, .fns, .crs, .evr, .flights, .gpu, .touch, .host]
  | .timedFinalCompletion .. =>
    [.pcie, .fns, .crs, .evr, .flights, .sr, .gpu, .dram, .wd, .host, .free]
  | .tlTickLo | .syncOutPulse =>
    [.tl]
  | .frameCutShort | .heartbeat =>
    [.wd]
  | .pgoodFall =>
    [.pcie, .fns, .crs, .evr, .ev, .lg, .flights, .gpu, .pw, .host]
  | .referenceEdgeMissing | .steerTimeout =>
    [.tl, .pcie, .fns, .crs, .evr, .ev, .lg, .flights, .gpu, .host]
  | .pf0FunctionLevelReset =>
    [.pcie, .fns, .crs, .evr, .ev, .visible]
  | .d2dLinkLoss =>
    [.pcie, .fns, .crs, .evr, .ev, .lg, .flights, .gpu, .audio, .touch, .haptic, .hokusaSafe, .host]
  | .d2dLinkRetrained =>
    [.hokusaSafe]
  | .hbTimeout | .wardenSelfRestart =>
    [.pcie, .fns, .crs, .evr, .ev, .lg, .flights, .sr, .gpu, .dram, .touch, .wd, .host]
  | .reactionStart =>
    [.lg]
  | .stageReady =>
    [.pcie, .fns, .crs, .evr, .ev, .lg, .flights, .sr, .gpu, .dram, .touch, .pw, .host]

/-! ### How the statements speak of commands -/

/-- A command answers a next state, of which p holds. -/
def Gives (c : Instr) (s : State) (p : State → Prop) : Prop := ∃ t, exec c s = .next t ∧ p t

/-- A slot of a function's command ring, on function pages that answer. -/
def HasSlot (s : State) (src : CmdSrc) : Prop := serving s = true ∧ src.fn ≤ 16 ∧ src.ring ≤ 3

/-- The state in which a ring command's descriptor counts as fetched. -/
def withFetched (op : Nat) (src : CmdSrc) (d : Descriptor) (s : State) : State :=
  fetchedAs s src (withOp op d)

/-- What the checks of a ring command decide at its admission instant (07 R306, R309): the common checks first, then those
of its own chapter, with the link's among the budget reasons (01 R17), against what the tenancy's earlier commands leave; and
no C1 or C2 command is admitted under the boot partition (05 R200). -/
def rulingAt (op : Nat) (check : State → Cmd → Ruling) (src : CmdSrc) (d : Descriptor) (s : State) : Ruling :=
  let u := withFetched op src d s
  let view := viewOfNext u src.fn
  (barred view (withOp op d) (ruleOf op src (withOp op d) view (withGates op check) (admissionOf u src (withOp op d))) u).1

/-- A command has been taken in: it waits for its first completion, under the next number and with its admission instant. -/
def Taken (op : Nat) (src : CmdSrc) (d : Descriptor) (s t : State) (f : Flight) : Prop :=
  f ∈ t.flights ∧ f.id = s.nextId ∧ t.nextId = s.nextId + 1 ∧ f.src = src ∧ f.op = op ∧ f.desc = withOp op d ∧
    f.admitted = admissionOf (withFetched op src d s) src (withOp op d) ∧ f.phase = .first

/-- The first completion of a flight is due, its checks are passed, no FENCE holds it, and host data it names is good. For a
quiesce that has stopped commands the last two are looked at once those have completed, when it is itself still in flight. -/
def FirstDue (s : State) (f : Flight) : Prop :=
  (flightAt s f.src fun g => decide (g.phase = .first) && decide (now s ≥ g.admitted + 8000)) = some f ∧
    (∀ v ∈ s.visible, v.src ≠ f.src) ∧ accepted f = true ∧ fenced (beforeFirst s f).1 (beforeFirst s f).2 = false ∧
    firstFault (beforeFirst s f).1 (beforeFirst s f).2 = none ∧ (beforeFirst s f).2 ∈ (beforeFirst s f).1.flights

/-- The state after a flight's ACCEPT, where its form has one. -/
def afterAccept (s : State) (f : Flight) : State :=
  if f.verdict.status = 0 then s else accept s f f.verdict.inst f.verdict.value

/-- The flight as its ACCEPT leaves it. -/
def flightAfter (s : State) (f : Flight) : Flight :=
  if f.verdict.status = 0 then f else ((afterAccept s f).flights.find? fun g => g.id == f.id).getD f

/-- The state and the flight at its first completion: the commands a quiesce has stopped have completed, and the host's copy of
its data is kept (07 R322). -/
def firstFlight (s : State) (f : Flight) : Flight := withCopy (beforeFirst s f).1 (beforeFirst s f).2
def firstState (s : State) (f : Flight) : State := setFlight (beforeFirst s f).1 (firstFlight s f)

/-- The state in which a command's work begins: after its ACCEPT, where its form has one. -/
def acceptedState (s : State) (f : Flight) : State := afterAccept (firstState s f) (firstFlight s f)

/-- The flight as its work begins. -/
def acceptedFlight (s : State) (f : Flight) : Flight := flightAfter (firstState s f) (firstFlight s f)

/-- Host data that has arrived already is used at once. -/
def withData (s : State) (f : Flight) : State :=
  match s.flights.find? fun g => g.id == f.id with
  | some g => useData s g
  | none => s

/-- What a ring command does. At its admission instant it is taken in with what its checks decide; and at a_k + 8,000, where
they accepted it, `start` begins its work, after its ACCEPT where its form has one. -/
def Performs (row : CmdSrc → Descriptor → Instr) (op : Nat) (check : State → Cmd → Ruling) (start : State → Flight → State) : Prop :=
  (∀ src d s, HasSlot s src → Gives (row src d) s fun t => ∃ f, Taken op src d s t f ∧
    f.verdict = (rulingAt op check src d s).verdict ∧ f.promised = (rulingAt op check src d s).promised) ∧
  ∀ s f, f.op = op → FirstDue s f → Gives (.firstCompletion f.src) s fun t =>
    t = withData (start (acceptedState s f) (acceptedFlight s f)) (acceptedFlight s f)

/-- The same for a command that commits something at its admission instant, which can bear on flights: `commit` is what an
accepted one commits. -/
def PerformsAnd (row : CmdSrc → Descriptor → Instr) (op : Nat) (check : State → Cmd → Ruling)
    (commit start : State → Flight → State) : Prop :=
  (∀ src d s, HasSlot s src → Gives (row src d) s fun t => ∃ u f, Taken op src d s u f ∧
    f.verdict = (rulingAt op check src d s).verdict ∧ f.promised = (rulingAt op check src d s).promised ∧
    t = if accepted f then commit u f else u) ∧
  ∀ s f, f.op = op → FirstDue s f → Gives (.firstCompletion f.src) s fun t =>
    t = withData (start (acceptedState s f) (acceptedFlight s f)) (acceptedFlight s f)

end Sys2Proof.Machine
end

