-- ==== Sys2Proof/Certificates/Slice0/Obligations.lean ====
section
/-! DEFINITION. The statements about the block, each with the rules it formalises. -/

open Sys2Proof Sys2Proof.Machine

/-- A step performs the command at the front of the queue. For every command c and every state, a step of the state
whose queue is c followed by rest is exec of c on that state with the queue rest. (95_what_each_step_holds.md). -/
def Obligations.StepRunsTheFrontCommand : Prop :=
  ∀ (s : State) (c : Instr) (rest : List Instr), step { s with pending := c :: rest } = exec c { s with pending := rest }

/-- With an empty queue a step is one TIMELINE tick where the clock runs, and nothing where it is stopped. On an
empty queue a step answers a next state. Where the TIMELINE clock is stopped the state is unchanged. Where it
runs, the tick count advances by one modulo 2^64, and the queue then holds exactly the commands that are due at
that tick. That a tick passes on an empty queue, and which commands it queues, is the model's choice (log entry
1). (R39, R807). -/
def Obligations.IdleStepCountsOneTick : Prop :=
  ∀ s : State, s.pending = [] → ∃ t, step s = .next t ∧ (clockRuns s = false → t = s) ∧
    (clockRuns s = true → t.tl.tick = (s.tl.tick + 1) % 2 ^ 64 ∧ t.pending = due { t with pending := [] })

/-- What the block holds right after reset. Right after reset: the tick count, the epoch count and the tick offset
are zero, EPOCH_TICKS is 25,000,000 and the Timeline is FREE; no HALT is latched, no Ledger bit is set and no
command is visible, in flight or waiting; T0 is LIVE with ring 0 and every other tenancy is ABSENT; host memory,
the Stockroom and bulk memory list nothing. That the block stands right after the release of RESET_N, in stage 1
of a cold boot, is the model's choice (log entry 26). (R39, R200, R828). -/
def Obligations.ResetState : Prop :=
  State.reset.tl.tick = 0 ∧ State.reset.tl.epoch = 0 ∧ State.reset.tl.offset = 0 ∧ State.reset.tl.epochTicks = 25000000 ∧
    State.reset.tl.state = .free ∧ State.reset.lg.haltSrc = none ∧ State.reset.lg.src = [] ∧ State.reset.visible = [] ∧
    State.reset.flights = [] ∧ State.reset.pending = [] ∧ (tenOf State.reset 0).state = .live ∧ (tenOf State.reset 0).rings = [0] ∧
    (∀ t, 1 ≤ t → (tenOf State.reset t).state = .absent) ∧ State.reset.host = [] ∧ State.reset.sr.mem = [] ∧
    State.reset.dram.mem = [] ∧ State.reset.pw.state = .booting ∧ State.reset.pw.stage = 1

/-- The invariant holds right after reset. State.reset meets Inv: flights are numbered in admission order below the
next number, the three memories are in canonical form, and the Timeline's counters lie within their widths. (R39, R41, R232). -/
def Obligations.InvariantAtReset : Prop := Inv State.reset

/-- Every step keeps the invariant. For every state that meets Inv and every step of it, whichever command stands at
the front of the queue or none, the next state meets Inv: the flights stay numbered in the order of their
admission below the next number, host memory, the Stockroom and bulk memory keep their canonical form, the tick
count stays below 2^64 and the epoch count below 2^32, and the counters that saturate keep their bounds. (R39, R41, R46, R49, R232). -/
def Obligations.InvariantKept : Prop := ∀ s t : State, Inv s → step s = .next t → Inv t

/-- Every command leaves alone every part of the state but those its row touches. For each of the 260 commands:
where exec answers a next state, every part of the state that the list touches does not name for that command is
what it was. The parts are the Timeline, the wheels, the PCIe side, the function pages, the command rings, the
event rings, the event sources, the Ledger, the tenancies, the pending partition changes, the visible
descriptors, the flights, the charges, the Stockroom, the heads and layers, the integrity units, the GPU, the
DMA channels, bulk memory, audio, touch, haptics, the Warden, power, the Hokusa safe state, host memory, the
command number, the free-value counter and the queue. No command touches the queue. (95_what_each_step_holds.md). -/
def Obligations.CommandFrame : Prop :=
  ∀ (c : Instr) (s t : State), exec c s = .next t →
    t.pending = s.pending ∧ ∀ p : Part, p ∉ touches c → agree p s t

/-- Only a fall of the AON supply clears the latched HALT bit. Where a HALT bit is latched and a step answers a next
state, the same bit is latched in it, unless the step performed AON_SUPPLY_FALL; and AON_SUPPLY_FALL answers a
next state in which no HALT bit is latched. The first HALT bit is the one that stays latched: a later HALT does
not replace it. (R797). -/
def Obligations.HaltLatchKept : Prop :=
  (∀ (s t : State) (b : Nat), s.lg.haltSrc = some b → step s = .next t → s.pending.head? ≠ some .aonSupplyFall → t.lg.haltSrc = some b) ∧
    (∀ s : State, ∃ t, exec .aonSupplyFall s = .next t ∧ t.lg.haltSrc = none)

/-- The tick count starts at zero, advances by one and is never set otherwise. RESET_RELEASE with the AON supply up
leaves the tick count at zero. A step with nothing waiting advances it by one modulo 2^64 where the clock runs
(that such a step is one tick is the model's choice, log entry 1). Every command but RESET_RELEASE,
RESET_ASSERTION, AON_SUPPLY_RISE and AON_SUPPLY_FALL leaves it as it was: no edge, steer, selection, wake or
register write steps or reloads it. (R39, R807). -/
def Obligations.TickCount : Prop :=
  (∀ (s : State) (v : Nat), s.pw.aonDown = false → Gives (.resetRelease v) s fun t => t.tl.tick = 0) ∧
  (∀ s : State, s.pending = [] → clockRuns s = true → ∃ t, step s = .next t ∧ t.tl.tick = (s.tl.tick + 1) % 2 ^ 64) ∧
  ∀ (c : Instr) (s t : State), (∀ v, c ≠ .resetRelease v) → c ≠ .resetAssertion → c ≠ .aonSupplyRise → c ≠ .aonSupplyFall →
    exec c s = .next t → t.tl.tick = s.tl.tick

/-- Every step answers a next state, but for a port request into the Stockroom's hole. Every step of every state
answers a next state, unless the command at the front of the queue is a STOCKROOM_REQUEST that reaches beyond
address 0xC00_0000, which stops with stockroomHole. No step is refused. (R92, R97, R103). -/
def Obligations.EveryStepAnswers : Prop :=
  ∀ s : State,
    let beyond := ∃ r rest, s.pending = Instr.stockroomRequest r :: rest ∧
      0xC000000 < r.addr + (match r.write with | some bs => bs.length | none => r.len)
    (¬ beyond → ∃ t, step s = .next t) ∧ (beyond → step s = .fault .stockroomHole) ∧ ∀ e, step s ≠ .refused e

/-- The general, Timeline, tenancy, secure and diagnostic commands are taken in at admission and begin their work at
a_k + 8,000. Covers NOP, DEVICE_IDENTIFY, HOST_SUSPEND, RESOURCE_QUERY, TIMELINE_CONFIG, TIMELINE_STEER,
TIMELINE_STATUS, KARBOBIN_LOAD, TENANCY_CREATE, TENANCY_GRANT, TENANCY_QUIESCE, TENANCY_RESUME, TENANCY_RESET,
TENANCY_REMOVE, TENANCY_FREEZE, TENANCY_SAVE, TENANCY_RESTORE, TENANCY_QUERY, TENANCY_APERTURE,
SECURE_MEASUREMENTS, SECURE_APPLET_LOAD, SECURE_APPLET_START, SECURE_APPLET_STOP, SECURE_LAYER,
MIGRATION_KEY_OFFER, MIGRATION_KEY_ACCEPT, MIGRATION_KEY_DESTROY, DIAG_LEDGER_READ, DIAG_FAULT_LOG_READ,
DIAG_LEDGER_CLEAR, DIAG_FAULT_INJECT. For each: on function pages that answer, exec answers a next state in
which the command is in flight under the next number, with its descriptor, its admission instant and exactly
what its checks decide (the common checks first, then those of its own chapter, against the state the tenancy's
earlier commands leave); and at a_k + 8,000 FIRST_COMPLETION of an accepted one answers the next state in which
the ACCEPT is issued, where its form has one, and the command's own work begins: the general commands: a NOP
completes, DEVICE_IDENTIFY writes the identification record, HOST_SUSPEND sends the messages its rings owe and
RESOURCE_QUERY writes the tenancy query record; the Timeline commands: TIMELINE_CONFIG waits for the next epoch
start, TIMELINE_STEER steers the Timeline and TIMELINE_STATUS writes its snapshot; the tenancy commands: the
loading commands wait for their host data, and every other command starts its own work; the secure, migration
and diagnostic commands: every command starts its own work. (R301, R306, R80, R85, R220, R249, R317, R318, R320, R760, R764, R799). -/
def Obligations.ControlCommands : Prop :=
  Performs .nop 0x00 checkNop startNop ∧
    Performs .deviceIdentify 0x01 checkDeviceIdentify startDeviceIdentify ∧
    Performs .hostSuspend 0x02 checkHostSuspend startHostSuspend ∧
    Performs .resourceQuery 0x03 checkResourceQuery startResourceQuery ∧
    Performs .timelineConfig 0x04 checkTimelineConfig awaitEpoch ∧
    Performs .timelineSteer 0x05 checkTimelineSteer startTimelineSteer ∧
    Performs .timelineStatus 0x06 checkTimelineStatus startTimelineStatus ∧
    Performs .karbobinLoad 0x10 checkKarbobinLoad awaitData ∧
    Performs .tenancyCreate 0x11 checkGrantBlock awaitData ∧
    Performs .tenancyGrant 0x12 checkGrantBlock awaitData ∧
    PerformsAnd .tenancyQuiesce 0x13 checkQuiesce commitQuiesce startQuiesce ∧
    Performs .tenancyResume 0x14 checkResume startResume ∧
    Performs .tenancyReset 0x15 checkReset startReset ∧
    Performs .tenancyRemove 0x16 checkRemove startRemove ∧
    Performs .tenancyFreeze 0x17 checkFreeze startFreeze ∧
    Performs .tenancySave 0x18 checkSave startSave ∧
    Performs .tenancyRestore 0x19 checkRestore startRestore ∧
    Performs .tenancyQuery 0x1A checkTenancyQuery startTenancyQuery ∧
    Performs .tenancyAperture 0x1B checkAperture startAperture ∧
    Performs .secureMeasurements 0xE0 checkMeasurements startMeasurements ∧
    Performs .secureAppletLoad 0xE1 checkAppletLoad startAppletLoad ∧
    Performs .secureAppletStart 0xE2 checkAppletStart startAppletStart ∧
    Performs .secureAppletStop 0xE3 checkAppletStop startAppletStop ∧
    Performs .secureLayer 0xE4 checkSecureLayer startSecureLayer ∧
    Performs .migrationKeyOffer 0xE5 checkKeyOffer startKeyOffer ∧
    Performs .migrationKeyAccept 0xE6 checkKeyAccept startKeyAccept ∧
    Performs .migrationKeyDestroy 0xE7 checkKeyDestroy startKeyDestroy ∧
    Performs .diagLedgerRead 0xF0 checkLedgerRead startLedgerRead ∧
    Performs .diagFaultLogRead 0xF1 checkFaultLogRead startFaultLogRead ∧
    Performs .diagLedgerClear 0xF2 checkLedgerClear startLedgerClear ∧
    Performs .diagFaultInject 0xF3 checkFaultInject startFaultInject

/-- The layer, head and integrity commands are taken in at admission and begin their work at a_k + 8,000. Covers
LAYER_ALLOC, LAYER_UPDATE, LAYER_FREE, LAYER_MOVE, LAYER_CLUT, LAYER_POLICY, LAYER_STATUS, HEAD_CONFIG,
HEAD_ENABLE, HEAD_DISABLE, HEAD_PUSH, HEAD_UNDERRUN, HEAD_QUIET, HEAD_DSC, HEAD_STATUS, HEAD_LINK, ASSAY_ALLOC,
ASSAY_CONFIG, ASSAY_EXPECT, ASSAY_FREE, ASSAY_READ, SHADOW_REGION. For each: on function pages that answer, exec
answers a next state in which the command is in flight under the next number, with its descriptor, its admission
instant and exactly what its checks decide (the common checks first, then those of its own chapter, against the
state the tenancy's earlier commands leave); and at a_k + 8,000 FIRST_COMPLETION of an accepted one answers the
next state in which the ACCEPT is issued, where its form has one, and the command's own work begins: the layer
commands: LAYER_UPDATE, LAYER_FREE and LAYER_MOVE commit their charges at admission, and every command starts
its own work; the head commands: HEAD_CONFIG and HEAD_DSC wait for the next epoch start, and every other command
starts its own work; the integrity commands: SHADOW_REGION commits its charge and ASSAY_CONFIG and ASSAY_FREE
the end of their unit's shadow charges at admission, and every command starts its own work. (R301, R306, R389, R444, R445, R447, R450). -/
def Obligations.DisplayCommands : Prop :=
  Performs .layerAlloc 0x30 checkLayerAlloc startLayerAlloc ∧
    PerformsAnd .layerUpdate 0x31 (checkLayerUpdate assayOk latestJob shadowRise) commitLayerUpdate startLayerUpdate ∧
    PerformsAnd .layerFree 0x32 checkLayerFree commitLayerFree startLayerFree ∧
    PerformsAnd .layerMove 0x33 checkLayerMove commitLayerMove startLayerMove ∧
    Performs .layerClut 0x34 checkLayerClut startLayerClut ∧
    Performs .layerPolicy 0x35 checkLayerPolicy startLayerPolicy ∧
    Performs .layerStatus 0x36 checkLayerStatus startLayerStatus ∧
    Performs .headConfig 0x40 checkHeadConfig awaitEpoch ∧
    Performs .headEnable 0x41 checkHeadEnable startHeadEnable ∧
    Performs .headDisable 0x42 checkHeadDisable startHeadDisable ∧
    Performs .headPush 0x43 (checkHeadPush assayOk) startHeadPush ∧
    Performs .headUnderrun 0x44 checkHeadUnderrun startHeadUnderrun ∧
    Performs .headQuiet 0x45 checkHeadQuiet startHeadQuiet ∧
    Performs .headDsc 0x46 checkHeadDsc awaitEpoch ∧
    Performs .headStatus 0x47 checkHeadStatus startHeadStatus ∧
    Performs .headLink 0x48 checkHeadLink startHeadLink ∧
    Performs .assayAlloc 0x50 checkAssayAlloc startAssayAlloc ∧
    PerformsAnd .assayConfig 0x51 checkAssayConfig commitAssayEnd startAssay ∧
    Performs .assayExpect 0x52 checkAssayExpect startAssay ∧
    PerformsAnd .assayFree 0x53 checkAssayFree commitAssayEnd startAssay ∧
    Performs .assayRead 0x54 checkAssayRead startAssayRead ∧
    PerformsAnd .shadowRegion 0x55 checkShadowRegion commitShadowRegion startAssay

/-- The GPU, touch, haptic, audio and DMA commands are taken in at admission and begin their work at a_k + 8,000.
Covers GPU_CONTEXT_CREATE, GPU_CONTEXT_DESTROY, GPU_SHADER_LOAD, GPU_JOB_SUBMIT, GPU_JOB_KILL,
GPU_CONTEXT_QUERY, TOUCH_PORT_CONFIG, TOUCH_SCAN_CONFIG, TOUCH_BASELINE_LOAD, TOUCH_BASELINE_SAVE,
TOUCH_SELFTEST, TOUCH_CALIBRATION, TOUCH_KEYS, TOUCH_REPORT_RING, HAPTIC_CONFIG, HAPTIC_PLAY, HAPTIC_STOP,
HAPTIC_TRIGGER_MAP, HAPTIC_STATUS, AUDIO_PORT_CONFIG, AUDIO_STREAM_CONFIG, AUDIO_STREAM_START,
AUDIO_STREAM_STOP, AUDIO_ROUTE, AUDIO_GAIN, AUDIO_FILTER, AUDIO_TONE, AUDIO_JACK_STATUS, DMA_CHANNEL_CONFIG,
DMA_COPY, DMA_FILL, DMA_COMPARE, DMA_COPY_2D, DMA_RESUME, DMA_ABORT. For each: on function pages that answer,
exec answers a next state in which the command is in flight under the next number, with its descriptor, its
admission instant and exactly what its checks decide (the common checks first, then those of its own chapter,
against the state the tenancy's earlier commands leave); and at a_k + 8,000 FIRST_COMPLETION of an accepted one
answers the next state in which the ACCEPT is issued, where its form has one, and the command's own work begins:
the GPU commands: GPU_JOB_SUBMIT issues its job number at admission and waits for its grove, and every other
command starts its own work; the touch commands: every command starts its own work; the haptic commands:
HAPTIC_PLAY and HAPTIC_STOP wait for their instants, and every other command starts its own work; the audio
commands: AUDIO_PORT_CONFIG waits for the next epoch start, AUDIO_ROUTE and AUDIO_TONE commit their charges at
admission, and every command starts its own work; the DMA commands: the four transfers are queued on their
channels, and DMA_CHANNEL_CONFIG, DMA_RESUME and DMA_ABORT act on a channel. (R301, R306, R499, R681, R689, R690, R695). -/
def Obligations.EngineCommands : Prop :=
  Performs .gpuContextCreate 0x60 checkContextCreate startContextCreate ∧
    Performs .gpuContextDestroy 0x61 checkContextDestroy startContextDestroy ∧
    Performs .gpuShaderLoad 0x62 checkShaderLoad startShaderLoad ∧
    PerformsAnd .gpuJobSubmit 0x63 checkJobSubmit commitJobSubmit awaitUnit ∧
    Performs .gpuJobKill 0x64 checkJobKill startJobKill ∧
    Performs .gpuContextQuery 0x65 checkContextQuery startContextQuery ∧
    Performs .touchPortConfig 0x70 checkTouchPortConfig startTouchPortConfig ∧
    Performs .touchScanConfig 0x71 checkScanConfig startScanConfig ∧
    Performs .touchBaselineLoad 0x72 checkBaselineLoad startBaselineLoad ∧
    Performs .touchBaselineSave 0x73 checkBaselineSave startBaselineSave ∧
    Performs .touchSelftest 0x74 checkSelftest startSelftest ∧
    Performs .touchCalibration 0x78 checkCalibration startCalibration ∧
    Performs .touchKeys 0x79 checkTouchKeys startTouchKeys ∧
    Performs .touchReportRing 0x7A checkReportRing startReportRing ∧
    Performs .hapticConfig 0x80 checkHapticConfig startHapticConfig ∧
    Performs .hapticPlay 0x81 (checkHapticTimed true) startHapticTimed ∧
    Performs .hapticStop 0x82 (checkHapticTimed false) startHapticTimed ∧
    Performs .hapticTriggerMap 0x83 checkTriggerMap startTriggerMap ∧
    Performs .hapticStatus 0x84 checkHapticStatus startHapticStatus ∧
    Performs .audioPortConfig 0x90 checkPortConfig awaitEpoch ∧
    Performs .audioStreamConfig 0x91 checkStreamConfig startStreamConfig ∧
    Performs .audioStreamStart 0x92 (checkStreamTimed true) startStreamStart ∧
    Performs .audioStreamStop 0x93 (checkStreamTimed false) startStreamStop ∧
    PerformsAnd .audioRoute 0x94 checkAudioRoute commitAudioRoute startTimedChange ∧
    Performs .audioGain 0x95 checkAudioGain startTimedChange ∧
    Performs .audioFilter 0x96 checkAudioFilter startTimedChange ∧
    PerformsAnd .audioTone 0x97 checkAudioTone commitAudioTone startAudioTone ∧
    Performs .audioJackStatus 0x98 checkJackStatus startJackStatus ∧
    Performs .dmaChannelConfig 0xA0 checkChannelConfig startChannelConfig ∧
    Performs .dmaCopy 0xA1 checkXfer startXfer ∧
    Performs .dmaFill 0xA2 checkXfer startXfer ∧
    Performs .dmaCompare 0xA3 checkXfer startXfer ∧
    Performs .dmaCopy2d 0xA4 checkXfer startXfer ∧
    PerformsAnd .dmaResume 0xA5 checkDmaResume commitDmaResume startDmaResume ∧
    PerformsAnd .dmaAbort 0xA6 checkDmaAbort commitDmaAbort (startDmaAbort foldDma)

/-- The event, power, memory and Stockroom commands are taken in at admission and begin their work at a_k + 8,000.
Covers EVENT_RING_CONFIG, EVENT_TARGET, EVENT_MASK, EVENT_PEND_SET, EVENT_GLOBAL_DISABLE, EVENT_STATUS,
POWER_STATE, POWER_RETAIN, POWER_GATE, POWER_WAKE_CONFIG, MEM_SPARE, MEM_STATUS, MEM_POWERDOWN, MEM_LATENCY,
MEM_RETIRE, STOCKROOM_STAGER, STOCKROOM_QUERY. For each: on function pages that answer, exec answers a next
state in which the command is in flight under the next number, with its descriptor, its admission instant and
exactly what its checks decide (the common checks first, then those of its own chapter, against the state the
tenancy's earlier commands leave); and at a_k + 8,000 FIRST_COMPLETION of an accepted one answers the next state
in which the ACCEPT is issued, where its form has one, and the command's own work begins: the event and power
commands: POWER_GATE waits for the next epoch start, and every other command starts its own work; the memory and
Stockroom commands: MEM_RETIRE acts and STOCKROOM_STAGER enters its change at admission, MEM_LATENCY waits for
the next epoch start, and every other command starts its own work. (R301, R306, R149, R724, R726, R728, R744, R746, R748, R808, R833, R835). -/
def Obligations.SystemCommands : Prop :=
  Performs .eventRingConfig 0xB0 checkEventRingConfig startEventRingConfig ∧
    Performs .eventTarget 0xB1 checkEventTarget startEventTarget ∧
    Performs .eventMask 0xB2 checkEventMask startEventMask ∧
    Performs .eventPendSet 0xB3 checkEventPendSet startEventPendSet ∧
    Performs .eventGlobalDisable 0xB4 checkEventGlobalDisable startEventGlobalDisable ∧
    Performs .eventStatus 0xB5 checkEventStatus startEventStatus ∧
    Performs .powerState 0xC0 checkPowerState startPowerState ∧
    Performs .powerRetain 0xC1 checkPowerRetain startPowerRetain ∧
    Performs .powerGate 0xC2 checkPowerGate awaitEpoch ∧
    Performs .powerWakeConfig 0xC3 checkWakeConfig startWakeConfig ∧
    Performs .memSpare 0xD0 checkMemSpare startMemSpare ∧
    Performs .memStatus 0xD1 checkMemStatus startMemStatus ∧
    Performs .memPowerdown 0xD2 checkMemPowerdown startMemPowerdown ∧
    Performs .memLatency 0xD3 checkMemLatency awaitEpoch ∧
    PerformsAnd .memRetire 0xD4 checkMemRetire commitMemRetire startMemRetire ∧
    PerformsAnd .stockroomStager 0xD8 checkStockroomStager commitStockroomStager startStockroomStager ∧
    Performs .stockroomQuery 0xD9 checkStockroomQuery startStockroomQuery

/-- A descriptor that becomes visible is admitted 4,000 ticks or more after the tenancy's last admission. A CR_TAIL
write that hands over one descriptor, on an enabled ring with room for its completions, in the ring and among
the records the device can hold (06 R292; how that room is counted is the model's choice, log entry 124), and
with no other descriptor of the function made visible in this tick, makes it visible with the present tick as
its doorbell instant and the later of that tick and a_(k-1) + 4,000 as its admission instant (the doorbell
instant itself for a tenancy's first command), and that instant is then the tenancy's last admission. (R164). -/
def Obligations.AdmissionInstant : Prop :=
  ∀ (s : State) (f r v : Nat), holdsRing s f r = true → s.pw.state ≠ .watch → v < 2 ^ 16 →
    (crOf s f r).enable = true → (crOf s f r).disablePending = false → (crOf s f r).ccEnable = true →
    v < 2 ^ (crOf s f r).sizeLog2 → (crOf s f r).tail < 2 ^ (crOf s f r).sizeLog2 →
    v = (nextIndex (crOf s f r).tail (crOf s f r).sizeLog2).1 → (crOf s f r).sizeLog2 ≥ 4 → (crOf s f r).handed = 0 →
    (crOf s f r).ccUsed + (crOf s f r).ccReserved + 2 ≤ 2 ^ (crOf s f r).ccSizeLog2 →
    heldRoom (setCr s f r { crOf s f r with tail := v, handed := 1 }) 64 = true →
    (∀ x ∈ s.visible, x.src.fn = f → x.doorbell ≠ now s) →
    let a := match (tenOf s f).lastAdmission with | some l => max (now s) (l + 4000) | none => now s
    Gives (.crTail f r v) s fun t =>
      t.visible = s.visible ++ [{ src := ⟨f, r, (crOf s f r).taken⟩, doorbell := now s, admitted := a, addr := (crOf s f r).base + 64 * (crOf s f r).taken }] ∧
      (tenOf t f).lastAdmission = some a

/-- A first completion is written at a_k + 8,000 and not before. FIRST_COMPLETION of a slot whose command has not
reached a_k + 8,000 leaves the state as it is. At a tick at or after a_k + 8,000 a command that waits for its
first completion, be it in flight or stopped by a quiesce, is among the commands that are due, and the idle step
that reaches that tick queues it for a command in flight. (R301). -/
def Obligations.FirstCompletionInstant : Prop :=
  (∀ (s : State) (src : CmdSrc), (∀ f ∈ s.flights, f.src = src → f.phase = .first → now s < f.admitted + 8000) →
    (∀ v ∈ s.visible, v.src = src → now s < v.admitted + 8000) →
    (∀ e ∈ stoppedOf s src.fn, e.flight.src = src → e.flight.phase = .first → now s < e.flight.admitted + 8000) → Gives (.firstCompletion src) s fun t => t = s) ∧
  (∀ (s : State) (f : Flight), f ∈ s.flights → f.phase = .first → f.admitted + 8000 ≤ now s → .firstCompletion f.src ∈ due s) ∧
  (∀ (s : State) (n : Nat) (e : Stopped), e ∈ (tenOf s n).stopped → e.flight.phase = .first → e.flight.admitted + 8000 ≤ now s →
    .firstCompletion e.flight.src ∈ due s) ∧
  (∀ (s t : State) (f : Flight), s.pending = [] → clockRuns s = true → step s = .next t → f ∈ t.flights → f.phase = .first →
    f.admitted + 8000 ≤ now t → .firstCompletion f.src ∈ t.pending)

/-- A refused or withdrawn command ends with one final completion and has no other effect. At a_k + 8,000
FIRST_COMPLETION of a command whose checks refused it, or that was withdrawn before, answers a next state in
which the command is no longer in flight, every other flight is what it was, and nothing has changed but the
PCIe side, the function pages, the command rings, the kept GPU outcomes and host memory, through which its one
final completion goes. (R279, R301, R863). -/
def Obligations.RefusedCommandDoesNothing : Prop :=
  ∀ (s : State) (f : Flight),
    (flightAt s f.src fun g => decide (g.phase = .first) && decide (now s ≥ g.admitted + 8000)) = some f →
    (∀ v ∈ s.visible, v.src ≠ f.src) → accepted f = false →
    Gives (.firstCompletion f.src) s fun t =>
      t.flights = s.flights.filter (fun g => g.id ≠ f.id) ∧
      ∀ p : Part, p ∉ [Part.pcie, .fns, .crs, .flights, .gpu, .host] → agree p s t

/-- A command with FENCE set is accepted and waits while an earlier command of its ring is in flight. At a_k + 8,000
FIRST_COMPLETION of an accepted command with FENCE set, an earlier command of whose ring still lacks its final
completion (after the commands that a quiesce has stopped have completed with it), answers a next state in which
the command is in flight and waits behind its fence, with one completion slot fewer reserved; its work has not
begun: after those completions nothing has changed but the PCIe side, the function pages, the command rings, the
flights and host memory, through which its ACCEPT goes. (R278, R305). -/
def Obligations.FenceHoldsWork : Prop :=
  ∀ (s : State) (f : Flight),
    (flightAt s f.src fun g => decide (g.phase = .first) && decide (now s ≥ g.admitted + 8000)) = some f →
    (∀ v ∈ s.visible, v.src ≠ f.src) → accepted f = true →
    let u := (beforeFirst s f).1
    let g := firstFlight s f
    firstFault u (beforeFirst s f).2 = none → fenced u (beforeFirst s f).2 = true → (beforeFirst s f).2 ∈ u.flights →
    Gives (.firstCompletion f.src) s fun t =>
      { g with slots := g.slots - 1, phase := .fence } ∈ t.flights ∧
      ∀ p : Part, p ∉ [Part.pcie, .fns, .crs, .flights, .host] → agree p u t

/-- NOP does nothing and completes with DONE. At a_k + 8,000 FIRST_COMPLETION of an accepted NOP that no fence
holds, on a function that takes its records and holds none, answers a next state in which the NOP is no longer
in flight and its DONE stands in the next slot of the completion ring: TAG and USER from the descriptor, STATUS
0, FINAL set, the ring's phase, the slot, CR_HEAD, opcode 0, the ring and the present instant, the other fields
zero. Every other byte of host memory is what it was, and so is every part of the state but the PCIe side, the
function pages, the command rings, the flights and host memory. A NOP whose payload is not zero anywhere is
refused with BAD_PARAM. (R317). -/
def Obligations.NopCompletesWithDone : Prop :=
  (∀ (s : State) (f : Flight), FirstDue s f → (∀ g ∈ s.flights, g.id = f.id → g = f) → f.op = 0x00 → f.verdict.status = 0 → canWrite s f.src.fn = true →
    (fnOf s f.src.fn).held = [] → (crOf s f.src.fn f.src.ring).ccEnable = true →
    let c := crOf s f.src.fn f.src.ring
    let a := c.ccBase + 32 * c.ccTail
    Gives (.firstCompletion f.src) s fun t =>
      t.flights = s.flights.filter (fun g => g.id ≠ f.id) ∧
      Mem.rds t.host a 32 =
        leBytes 2 (tagOf f.desc) ++ leBytes 1 0 ++ leBytes 1 (2 + b2n c.sig.phase) ++ leBytes 2 0 ++ leBytes 2 f.src.slot ++
        leBytes 2 c.head ++ leBytes 1 0x00 ++ leBytes 1 f.src.ring ++ leBytes 4 (instantOfTick s (now s)).1 ++
        leBytes 4 (instantOfTick s (now s)).2 ++ leBytes 4 0 ++ leBytes 8 (userOf f.desc) ∧
      (∀ x, x < a ∨ a + 32 ≤ x → Mem.rd t.host x = Mem.rd s.host x) ∧
      ∀ p : Part, p ∉ [Part.pcie, .fns, .crs, .flights, .host] → agree p s t) ∧
  ∀ (s : State) (c : Cmd) (o : Nat), 16 ≤ o → o < 64 → dget c.d o 1 ≠ 0 → (checkNop s c).verdict.status = (badParam o).status

/-- A HALT, the issuer, the class and the tenancy's state refuse any command of a ring, in that order. For each of
the 105 ring commands, on function pages that answer, exec answers a next state in which the command is in
flight with this verdict. Under HALT: FAULTED, reason 0x32, VALUE the first HALT bit, but for NOP,
DEVICE_IDENTIFY, TIMELINE_STATUS, DIAG_LEDGER_READ and DIAG_FAULT_LOG_READ. Without HALT and with the boot image
accepted: a command that only T0 may issue, from another function, is refused with NOT_OWNER and reason 0; any
other whose class its opcode does not allow, with BAD_PARAM and reason 1. A HALT is looked at before the issuer,
and the issuer before the class. (R299, R309, R796, R232). -/
def Obligations.ChecksInOrder : Prop :=
  ∀ (s : State) (src : CmdSrc) (d : Descriptor) (c : Instr) (r : OpRow), HasSlot s src → ringInstr src d = some c → opRow (opcodeOf d) = some r →
    let view := viewOfNext (withFetched (opcodeOf d) src d s) src.fn
    let ends := fun (v : Verdict) => Gives c s fun t => ∃ f ∈ t.flights, f.id = s.nextId ∧ f.src = src ∧ f.verdict = v
    (∀ b, view.lg.haltSrc = some b → haltExempt (opcodeOf d) = false → ends (refuse 13 0x32 0 b)) ∧
    (view.lg.haltSrc = none → noImage view = false → r.t0 = true → src.fn ≠ 0 → ends (notOwner 0)) ∧
    (view.lg.haltSrc = none → noImage view = false → (r.t0 = true → src.fn = 0) → r.classes.contains (classOf d) = false → ends (badParam 1))

/-- Doorbells of a command ring hand over descriptors and return completion slots, or set DB_ERR. On a ring that
answers, for CR_TAIL outside WATCH: on an enabled ring with no disable pending, a value below the ring's size
becomes CR_TAIL, and (value - old CR_TAIL) modulo size descriptors are handed over: each of them is then visible
or still waits. On a disabled ring, or for a value at or above the size, DB_ERR is set, with the tick of its
setting, and nothing else changes; while a disable is pending nothing changes at all. For CC_HEAD: on an enabled
completion ring a value below the size becomes CC_HEAD, the slots it passes are free again, and the descriptors
handed over are each visible or still wait; otherwise DB_ERR is set likewise and nothing else changes. On a ring
that does not answer neither write changes anything, but for a CR_TAIL of T0 in WATCH, which is kept for the
wake. (R265, R270, R271, R274). -/
def Obligations.DoorbellsHandDescriptors : Prop :=
  ∀ (s : State) (f r v : Nat), v < 2 ^ 16 →
    let c := crOf s f r
    let errs := fun (t : State) => t = setCr s f r { c with dbErr := true, errNew := (crOf t f r).errNew, errAt := now s }
    (holdsRing s f r = true → s.pw.state ≠ .watch → c.enable = true → c.disablePending = false → v < 2 ^ c.sizeLog2 →
      Gives (.crTail f r v) s fun t => (crOf t f r).tail = v ∧
        (crOf t f r).handed + t.visible.length = c.handed + (v + 2 ^ c.sizeLog2 - c.tail) % 2 ^ c.sizeLog2 + s.visible.length) ∧
    (holdsRing s f r = true → s.pw.state ≠ .watch → c.disablePending = false → c.enable = false ∨ 2 ^ c.sizeLog2 ≤ v →
      Gives (.crTail f r v) s errs) ∧
    (holdsRing s f r = true → s.pw.state ≠ .watch → c.disablePending = true → Gives (.crTail f r v) s fun t => t = s) ∧
    (holdsRing s f r = true → c.ccEnable = true → v < 2 ^ c.ccSizeLog2 → Gives (.ccHead f r v) s fun t =>
      (crOf t f r).ccHead = v ∧ (crOf t f r).ccUsed = c.ccUsed - (v + 2 ^ c.ccSizeLog2 - c.ccHead) % 2 ^ c.ccSizeLog2 ∧
        (crOf t f r).handed + t.visible.length = c.handed + s.visible.length) ∧
    (holdsRing s f r = true → c.ccEnable = false ∨ 2 ^ c.ccSizeLog2 ≤ v → Gives (.ccHead f r v) s errs) ∧
    (holdsRing s f r = false → Gives (.ccHead f r v) s (fun t => t = s) ∧
      (s.pw.state ≠ .watch ∨ f ≠ 0 → Gives (.crTail f r v) s fun t => t = s)) ∧
    (s.pw.state = .watch → Gives (.crTail 0 r v) s fun t => t = keepTail s r v)

/-- What enabling and disabling a command ring and its completion ring does. On a ring that answers. Setting ENABLE
of a disabled command or completion ring with a SIZE_LOG2 outside 4 to 16, or on a ring that does not lie within
the tenancy's apertures, or of a command ring whose completion ring is not enabled, leaves ENABLE 0 and sets
CFG_ERR, with the tick of its setting (the size field, and a completion ring's moderation fields, hold what was
written); otherwise the ring is enabled with that size and with its head and tail at 0, and a completion ring
with phase 1 (R263). A write of ENABLE 1 while a disable is pending sets CFG_ERR, with the tick of its setting,
and changes nothing else; on an enabled command ring with none pending it changes nothing, and on an enabled
completion ring its moderation fields only. Clearing ENABLE of an enabled command ring takes effect when none of
its commands is visible, in flight or stopped by a quiesce; until then ENABLE and DISABLE_PENDING read 1 (R265);
on a disabled ring it writes SIZE_LOG2. Clearing ENABLE of a completion ring leaves it enabled while its command
ring is enabled, and otherwise disables it, and writes its moderation fields; on a disabled one it writes its
size and moderation fields. On a ring that does not answer none of the four writes changes anything. (R262, R266). -/
def Obligations.RingEnables : Prop :=
  ∀ (s : State) (f r v : Nat),
    let c := crOf s f r
    let k := bits v 0 5
    let busy := (s.flights.any fun g => sameRing g.src ⟨f, r, 0⟩) || ((stoppedOf s f).any fun e => sameRing e.flight.src ⟨f, r, 0⟩) ||
      s.visible.any fun g => sameRing g.src ⟨f, r, 0⟩
    (holdsRing s f r = true →
      (c.enable = false → k < 4 ∨ 16 < k ∨ inApertures s f c.base (64 * 2 ^ k) = false ∨ c.ccEnable = false →
        Gives (.crCfgEnable f r v) s fun t =>
          crOf t f r = { c with sizeLog2 := k, cfgErr := true, errNew := (crOf t f r).errNew, errAt := now s }) ∧
      (c.enable = false → 4 ≤ k → k ≤ 16 → inApertures s f c.base (64 * 2 ^ k) = true → c.ccEnable = true →
        Gives (.crCfgEnable f r v) s fun t =>
          t = setCr s f r { c with sizeLog2 := k, enable := true, tail := 0, head := 0, taken := 0, handed := 0 }) ∧
      (c.enable = true → c.disablePending = true → Gives (.crCfgEnable f r v) s fun t =>
        t = setCr s f r { c with cfgErr := true, errNew := (crOf t f r).errNew, errAt := now s }) ∧
      (c.enable = true → c.disablePending = false → Gives (.crCfgEnable f r v) s fun t => t = s) ∧
      (c.enable = true → Gives (.crCfgDisable f r v) s fun t =>
        (crOf t f r).enable = busy ∧ (crOf t f r).disablePending = busy) ∧
      (c.enable = false → Gives (.crCfgDisable f r v) s fun t => t = setCr s f r { c with sizeLog2 := k }) ∧
      (c.ccEnable = false → k < 4 ∨ 16 < k ∨ inApertures s f c.ccBase (32 * 2 ^ k) = false →
        Gives (.ccCfgEnable f r v) s fun t =>
          crOf t f r = { withModeration c v with ccSizeLog2 := k, cfgErr := true, errNew := (crOf t f r).errNew, errAt := now s }) ∧
      (c.ccEnable = false → 4 ≤ k → k ≤ 16 → inApertures s f c.ccBase (32 * 2 ^ k) = true →
        Gives (.ccCfgEnable f r v) s fun t => (crOf t f r).ccEnable = true ∧ (crOf t f r).ccSizeLog2 = k ∧
          (crOf t f r).ccHead = 0 ∧ (crOf t f r).ccTail = 0 ∧ (crOf t f r).sig.phase = true) ∧
      (c.ccEnable = true → Gives (.ccCfgEnable f r v) s fun t => t = setCr s f r (withModeration c v)) ∧
      (c.ccEnable = true → Gives (.ccCfgDisable f r v) s fun t => t = setCr s f r { withModeration c v with ccEnable := c.enable }) ∧
      (c.ccEnable = false → Gives (.ccCfgDisable f r v) s fun t => t = setCr s f r { withModeration c v with ccSizeLog2 := k })) ∧
    (holdsRing s f r = false →
      Gives (.crCfgEnable f r v) s (fun t => t = s) ∧ Gives (.crCfgDisable f r v) s (fun t => t = s) ∧
      Gives (.ccCfgEnable f r v) s (fun t => t = s) ∧ Gives (.ccCfgDisable f r v) s fun t => t = s)

/-- A ring claims its first eligible source, and EV_HEAD acknowledges its records. EVENT_CLAIM: where a ring can
take a record and a source is eligible for it, the source of the lowest number that the source table lists as
eligible (claimable) is in service, its soft pending bit is clear, its causes stay, and its causes and soft bit
stand in the ring's newest unacknowledged record; every other source is what it was. Where none is, nothing
changes. EV_HEAD on an enabled event ring with a value below its size: the head takes the value and the records
it passes are no longer unacknowledged; where it passes one record, that record's source leaves service and
exactly the cause latches the record reports are cleared, but for those set again in the same tick. On a
disabled ring, or for a value at or above the size, EV_DB_ERR is set with the ring's number and the tick, and
nothing else changes. EV_HEAD of a ring that does not answer changes nothing. (R271, R738, R741). -/
def Obligations.EventsClaimedAndAcknowledged : Prop :=
  (∀ (s : State) (p n : Nat), claimable s p = some n → Gives (.eventClaim p) s fun t =>
    (evSrc t n).inService = true ∧ (evSrc t n).soft = false ∧ (evSrc t n).cause = (evSrc s n).cause ∧
      (∀ m, m ≠ n → evSrc t m = evSrc s m) ∧
      (evRing t p).records = (evRing s p).records ++ [(n, (evSrc s n).cause, (evSrc s n).soft)]) ∧
  (∀ (s : State) (p : Nat), claimable s p = none → Gives (.eventClaim p) s fun t => t = s) ∧
  (∀ (s : State) (f n v : Nat), holdsEvRing s f n = none → Gives (.evHead f n v) s fun t => t = s) ∧
  ∀ (s : State) (f n p v : Nat), holdsEvRing s f n = some p → v < 2 ^ 16 →
    let e := evRing s p
    let moved := (v + 2 ^ e.sizeLog2 - e.head) % 2 ^ e.sizeLog2
    (e.enable = true → v < 2 ^ e.sizeLog2 → Gives (.evHead f n v) s fun t =>
      (evRing t p).head = v ∧ (evRing t p).records = e.records.drop moved) ∧
    (e.enable = true → v < 2 ^ e.sizeLog2 → moved = 1 → ∀ x l, e.records = x :: l → x.1 < 1024 →
      Gives (.evHead f n v) s fun t => (evSrc t x.1).inService = false ∧
        (evSrc t x.1).cause =
          w1c (evSrc s x.1).cause (maskOff x.2.1 (if (evSrc s x.1).againAt = now s then (evSrc s x.1).again else 0))) ∧
    (e.enable = false ∨ 2 ^ e.sizeLog2 ≤ v → Gives (.evHead f n v) s fun t =>
      t = modFn s f fun x => { x with evDbErr := true, evDbRing := n, evDbAt := some (now s) })

/-- The latching reads of the tick count. A read of TL_TICK_LO latches the tick count's upper half, and nothing else
changes. A read of a function's TLC_TICK_LO, on a function whose page answers, latches the upper half of the
tick count, the epoch count and the tick offset, all of the same tick, and nothing else changes; on any other
function it changes nothing; the read itself returns the lower half of the tick count. (R38, R258). -/
def Obligations.LatchingReads : Prop :=
  (∀ s : State, Gives .tlTickLo s fun t => t.tl.tickHi = s.tl.tick / 2 ^ 32 ∧ t = s.modTl fun x => { x with tickHi := s.tl.tick / 2 ^ 32 }) ∧
  (∀ (s : State) (f : Nat), f ≤ 16 → serving s = true → (tenOf s f).state ≠ .absent → Gives (.tlcTickLo f) s fun t =>
    t = modFn s f fun x => { x with tlcHi := s.tl.tick / 2 ^ 32, tlcEpoch := s.tl.epoch, tlcOffset := s.tl.offset }) ∧
  (∀ (s : State) (f : Nat), 16 < f ∨ serving s = false ∨ (tenOf s f).state = .absent → Gives (.tlcTickLo f) s fun t => t = s) ∧
  ∀ (s : State) (f : Nat), f ≤ 16 → serving s = true → (tenOf s f).state ≠ .absent → pageReg s f 0x10 = s.tl.tick % 2 ^ 32

/-- A descriptor's data arrives, or its fetch fails. For the one visible descriptor of a slot that still waits for
its data. DESCRIPTOR_ARRIVAL up to a_k + 4,000 with good data: the slot's entry holds the 64 bytes that stand in
the slot, at the address that the ring gave it. With data that carries a completion error, the fetch has failed
as FAULTED, and with poisoned data as POISONED, and FETCH_ERR is set. After a_k + 4,000 data that arrives is
discarded: nothing changes. DESCRIPTOR_FETCH_TIMEOUT from a_k + 4,000 on makes the fetch fail as FAULTED with
FETCH_ERR set; before a_k + 4,000 it changes nothing. That data of the very tick a_k + 4,000 is in time where
the fetch has not failed yet is the model's choice (log entry 148). (R275, R276). -/
def Obligations.DescriptorFetch : Prop :=
  ∀ (s : State) (v : Visible), v ∈ s.visible → v.desc = none → v.failed = 0 → (∀ w ∈ s.visible, w.src = v.src → w = v) →
    (now s ≤ v.admitted + 4000 → Gives (.descriptorArrival v.src .good) s fun t =>
      ∃ x ∈ t.visible, x.src = v.src ∧ x.admitted = v.admitted ∧ x.desc = some (slotBytes s v) ∧ x.failed = 0) ∧
    (now s ≤ v.admitted + 4000 → Gives (.descriptorArrival v.src .error) s fun t =>
      (crOf t v.src.fn v.src.ring).fetchErr = true ∧ ∃ x ∈ t.visible, x.src = v.src ∧ x.admitted = v.admitted ∧ x.failed = 13) ∧
    (now s ≤ v.admitted + 4000 → Gives (.descriptorArrival v.src .poisoned) s fun t =>
      (crOf t v.src.fn v.src.ring).fetchErr = true ∧ ∃ x ∈ t.visible, x.src = v.src ∧ x.admitted = v.admitted ∧ x.failed = 14) ∧
    (v.admitted + 4000 < now s → ∀ how, Gives (.descriptorArrival v.src how) s fun t => t = s) ∧
    (v.admitted + 4000 ≤ now s → Gives (.descriptorFetchTimeout v.src) s fun t =>
      (crOf t v.src.fn v.src.ring).fetchErr = true ∧ ∃ x ∈ t.visible, x.src = v.src ∧ x.admitted = v.admitted ∧ x.failed = 13) ∧
    (now s < v.admitted + 4000 → Gives (.descriptorFetchTimeout v.src) s fun t => t = s)

/-- Host data arrives for a command, and a timed final completion is written at its instant. HOST_DATA_ARRIVAL for
the oldest command of a slot that reads host data and has none yet: before its first completion the data is kept
with it as host memory holds it then, or as the copy kept at the ACCEPT holds it (a later change of the host's
copy has no effect), or else the error is kept, and noted among the function's AER errors (their layout is the
PCIe specification's, log entry 125); a command that already waits for the data and does not go to the Warden
ends on an error with FAULTED, reason 0x33 and the Ledger bit in VALUE, and on poisoned data with POISONED,
reason 0x34. That an error of host data names PCIE_FATAL's bit is the model's choice (log entry 40).
TIMED_FINAL_COMPLETION at or after the instant of SECURE_APPLET_STOP ends the applet and writes its DONE, and
before that instant changes nothing. (R310, R322, R760, R764). -/
def Obligations.DataAndTimedCompletions : Prop :=
  (∀ (s : State) (src : CmdSrc) (f : Flight),
    (flightAt s src fun g => (hostData g.op g.desc).isSome && g.data.isNone && decide (g.dataErr = 0)) = some f →
    (f.phase = .first → Gives (.hostDataArrival src .good) s fun t =>
      t = setFlight s { f with data := some (f.copy.getD (hostRead s ((hostData f.op f.desc).getD (0, 0)).1 ((hostData f.op f.desc).getD (0, 0)).2)) }) ∧
    (f.phase = .first → Gives (.hostDataArrival src .error) s fun t => t = setFlight (noteAer s src.fn 14) { f with dataErr := 70 }) ∧
    (f.phase = .data → f.op ≠ 0xE1 → f.op ≠ 0xE6 → Gives (.hostDataArrival src .error) s fun t =>
      t.flights = s.flights.filter fun g => g.id ≠ f.id) ∧
    (f.phase = .data → f.op ≠ 0xE1 → f.op ≠ 0xE6 → Gives (.hostDataArrival src .poisoned) s fun t =>
      t = finish (setFlight (noteAer s src.fn 12) { f with dataErr := 14 }) { f with dataErr := 14 } (refuse 14 0x34)) ∧
    (f.phase = .data → f.op ≠ 0xE1 → f.op ≠ 0xE6 → Gives (.hostDataArrival src .error) s fun t =>
      t = finish (setFlight (noteAer s src.fn 14) { f with dataErr := 70 }) { f with dataErr := 70 } (refuse 13 0x33 0 38))) ∧
  (∀ (s : State) (src : CmdSrc) (f : Flight) (a : Nat),
    (flightAt s src fun g => (g.op == 0xE0 || g.op == 0xE3) && instantCome s g) = some f →
    f.op = 0xE3 → f.phase = .timed a → Gives (.timedFinalCompletion src) s fun t => t = finishDone (endApplet s (dget f.desc 16 1) (aborted 2)) f) ∧
  ∀ (s : State) (src : CmdSrc), (∀ f ∈ s.flights, f.src = src → f.op = 0xE0 ∨ f.op = 0xE3 → ∀ a, f.phase = .timed a → now s < a) →
    Gives (.timedFinalCompletion src) s fun t => t = s

/-- A moderation window ends with its message, and an unmasked vector sends what it owes. MODERATION_TIMEOUT of a
completion ring whose window has ended: the ring is disarmed, its window is closed, no record of it is
unsignalled, and its message leaves the device, or its vector's PBA bit is set while the vector or the function
is masked or MSI-X Enable is clear (that this masks is the model's choice, log entry 125). While no window of
the ring has ended nothing changes. VECTOR_UNMASK of a vector with its PBA bit set, on a function with MSI-X
Enable set that is not masked as a whole: the vector's mask and its PBA bit are clear and its message leaves the
device. VECTOR_UNMASK of the function clears the function mask. (R286, R289). -/
def Obligations.MessagesAndMasks : Prop :=
  (∀ (s : State) (f r t0 : Nat), r < 4 → (crOf s f r).sig.window = some t0 → t0 ≤ now s → Gives (.moderationTimeout f r) s fun t =>
    (crOf t f r).sig.armed = false ∧ (crOf t f r).sig.window = none ∧ (crOf t f r).sig.unsignalled = 0 ∧
      let e := tget {} (fnOf s f).msix r
      if (fnOf s f).fnMask || !(fnOf s f).cfg.msixEnable || e.mask then r ∈ (fnOf t f).pba else t.pcie.out = s.pcie.out ++ [.message f r e.addr e.data]) ∧
  (∀ (s : State) (f r : Nat), r < 4 → (∀ t0, (crOf s f r).sig.window = some t0 → now s < t0) →
    Gives (.moderationTimeout f r) s fun t => t = s) ∧
  (∀ (s : State) (f v : Nat), f ≤ 16 → v < 260 → (fnOf s f).fnMask = false → (fnOf s f).cfg.msixEnable = true → v ∈ (fnOf s f).pba →
    Gives (.vectorUnmask f (some v)) s fun t =>
      (tget {} (fnOf t f).msix v).mask = false ∧ v ∉ (fnOf t f).pba ∧
      t.pcie.out = s.pcie.out ++ [.message f v (tget {} (fnOf s f).msix v).addr (tget {} (fnOf s f).msix v).data]) ∧
  ∀ (s : State) (f : Nat), f ≤ 16 → Gives (.vectorUnmask f none) s fun t => (fnOf t f).fnMask = false

/-- Entering D3hot, returning to D0, Bus Master Enable, VF Enable and the link. D3HOT_ENTRY of a function that is
not in D3hot: it is in D3hot and none of its rings has an open moderation window. D0_RETURN: the function is in
D0 with its WAKE# request gone, and where the device may write its records it holds none.
BUS_MASTER_ENABLE_CLEAR clears Bus Master Enable and changes nothing else. BUS_MASTER_ENABLE_SET sets it, and
where the device may then write the function's records it holds none. VF_ENABLE_SET sets VF Enable, and the same
holds for every VF. PCIE_LINK_DOWN without failing accesses takes the link down; a function in D3hot is then in
D3cold, in a stay of its own, and every other function, and every part but the PCIe side and the function pages,
is what it was. That a configuration access shows the link up again (log entry 39), that a function in D3hot
goes to D3cold with the link, and that a link coming up starts in L0 (log entry 125) are the model's choices. (R291, R293, R294, R295, R686, R864). -/
def Obligations.FunctionsSleepAndWake : Prop :=
  (∀ (s : State) (f : Nat), f ≤ 16 → (fnOf s f).dstate ≠ .d3hot → Gives (.d3hotEntry f) s fun t =>
    (fnOf t f).dstate = .d3hot ∧ (∀ r, r < 4 → (crOf t f r).sig.window = none) ∧
      ∀ p, p < 256 → (evRing s p).owner = f → (evRing t p).sig.window = none) ∧
  (∀ (s : State) (f : Nat), f ≤ 16 → Gives (.d0Return f) s fun t =>
    (fnOf t f).dstate = .d0 ∧ (fnOf t f).wakeAsserted = false ∧ (canWrite t f = true → (fnOf t f).held = [])) ∧
  (∀ (s : State) (f : Nat), f ≤ 16 → Gives (.busMasterEnableClear f) s fun t => t = modFn s f fun x => { x with busMaster := false }) ∧
  (∀ (s : State) (f : Nat), f ≤ 16 → Gives (.busMasterEnableSet f) s fun t =>
    (fnOf t f).busMaster = true ∧ t.pcie.linkDown = false ∧ (canWrite t f = true → (fnOf t f).held = [])) ∧
  (∀ s : State, Gives .vfEnableSet s fun t =>
    t.pcie.vfEnable = true ∧ t.pcie.linkDown = false ∧ ∀ f, 1 ≤ f → f ≤ 16 → canWrite t f = true → (fnOf t f).held = []) ∧
  ∀ s : State, Gives (.pcieLinkDown []) s fun t => t.pcie = { s.pcie with linkDown := true, link := .l0 } ∧
    (∀ f, f ≤ 16 → (fnOf s f).dstate = .d3hot → fnOf t f = { fnOf s f with dstate := .d3cold, heldInStay := false }) ∧
    (∀ f, 16 < f ∨ (fnOf s f).dstate ≠ .d3hot → fnOf t f = fnOf s f) ∧
    ∀ p : Part, p ∉ [Part.pcie, .fns] → agree p s t

/-- A function-level reset of a VF resets its page and tenancy; one of PF0 leaves every tenancy as it was.
FUNCTION_LEVEL_RESET of a VF whose tenancy is LIVE, QUIESCING or QUIESCED: its command and completion rings are
disabled, it has no visible descriptor, and its tenancy is QUIESCED. Of one whose tenancy is FROZEN or ABSENT,
and of function 0, nothing changes. PF0_FUNCTION_LEVEL_RESET: PF0's page, rings and MSI-X table are at their
reset values, but for the completion slots that its commands in flight and its descriptors still visible have
reserved; it holds no record, no descriptor of its rings is visible but those whose admission instant has come,
and VF Enable is clear; every tenancy and every flight, and bulk memory, the Stockroom and host memory, are what
they were. That the reset also clears PF0's Bus Master Enable is taken from the PCIe specification (log entry
6). (R241, R297, R864). -/
def Obligations.FunctionLevelResets : Prop :=
  (∀ (s : State) (f : Nat), 1 ≤ f → f ≤ 16 → (tenOf s f).state ≠ .absent → (tenOf s f).state ≠ .frozen →
    Gives (.functionLevelReset f) s fun t =>
      (∀ r, r < 4 → (crOf t f r).enable = false ∧ (crOf t f r).ccEnable = false) ∧ (∀ v ∈ t.visible, v.src.fn ≠ f) ∧
      (tenOf t f).state = .quiesced) ∧
  (∀ (s : State) (f : Nat), f = 0 ∨ 16 < f ∨ (tenOf s f).state = .absent ∨ (tenOf s f).state = .frozen →
    Gives (.functionLevelReset f) s fun t => t = s) ∧
  ∀ s : State, Gives .pf0FunctionLevelReset s fun t =>
    fnOf t 0 = {} ∧ (∀ r, r < 4 → crOf t 0 r = { ccReserved := slotsOwed t ⟨0, r, 0⟩ }) ∧ (∀ v ∈ t.visible, v.src.fn ≠ 0 ∨ v.admitted ≤ now s) ∧ t.pcie.vfEnable = false ∧
      t.tens = s.tens ∧ t.flights = s.flights ∧ t.dram = s.dram ∧ t.sr = s.sr ∧ t.host = s.host

/-- A failed access halts the channel of its transfer, with its cause. For a transfer that moves, an access that
fails answers a next state in which its channel is halted, with the direction and address of the access and the
cause: 1 for COMPLETION_TIMEOUT, 2 for UR_CA, both of a read; 3 for NO_MASTER; 4 where PCIE_LINK_DOWN names it.
For a slot without a transfer that moves nothing changes, but for the link. POISONED_COMPLETION of a transfer
that is under way marks the range of its data as poisoned, notes Poisoned TLP Received (bit 12) among the
function's AER errors (their layout is the PCIe specification's, log entry 125), and changes nothing else. (R685, R686, R687). -/
def Obligations.DmaAccessFails : Prop :=
  (∀ (s : State) (f : Flight) (a m : Nat), xferAt s f.src = some f → moving s f = true →
    let halts := fun (cause : Nat) (w : Bool) (t : State) =>
      (chanOf t (xferChan f)).halted = true ∧ (chanOf t (xferChan f)).cause = cause ∧ (chanOf t (xferChan f)).write = w ∧
        (chanOf t (xferChan f)).failAddr = a
    Gives (.completionTimeout f.src a m) s (halts 1 false) ∧ Gives (.urCa f.src a m) s (halts 2 false) ∧
    (∀ w, Gives (.noMaster f.src w a m) s (halts 3 w)) ∧
    ∀ w, Gives (.pcieLinkDown [(f.src, w, a, m)]) s fun t => halts 4 w t ∧ t.pcie.linkDown = true) ∧
  (∀ (s : State) (src : CmdSrc) (w : Bool) (a m : Nat), xferAt s src = none →
    Gives (.completionTimeout src a m) s (fun t => t = s) ∧ Gives (.urCa src a m) s (fun t => t = s) ∧
    Gives (.noMaster src w a m) s fun t => t = s) ∧
  ∀ (s : State) (f : Flight) (o n : Nat), xferAt s f.src = some f → f.phase = .unit →
    Gives (.poisonedCompletion f.src o n) s fun t => 
      t = setFlight (noteAer s f.src.fn 12) { f with aux := f.aux ++ [o, n] }

/-- A watermark out of range or locked is ignored, and a legal one is stored. SECURE_WM_WRITE, and a REGISTER_WRITE
of the Stockroom's control register without its LOCK bit: a value from 16 to 256 becomes the watermark while the
block is not locked, and nothing else changes; a value outside that range, or any value once the block is
locked, changes nothing. DRAM_WM_WRITE does the same with a value up to 1,024 and the memory controller's LOCK
bit. Every shelf below the watermark is secure; with the watermark at 16, the shelves that take a tenancy as
their owner are exactly shelves 16 to 719. (R97). -/
def Obligations.Watermarks : Prop :=
  (∀ (s : State) (v : Nat), s.sr.lock = false → 16 ≤ v → v ≤ 256 → Gives (.secureWmWrite v) s fun t => t = s.modSr fun r => { r with wm := v }) ∧
  (∀ (s : State) (v : Nat), s.sr.lock = true ∨ v < 16 ∨ 256 < v → Gives (.secureWmWrite v) s fun t => t = s) ∧
  (∀ (s : State) (v : Nat), s.sr.lock = false → 16 ≤ v → v ≤ 256 → Gives (.registerWrite .stockroom 0x00 v 32) s fun t =>
    t = s.modSr fun r => { r with wm := v }) ∧
  (∀ (s : State) (v : Nat), v < 2 ^ 10 → s.sr.lock = true ∨ v < 16 ∨ 256 < v → Gives (.registerWrite .stockroom 0x00 v 32) s fun t => t = s) ∧
  (∀ (s : State) (v : Nat), s.dram.lock = false → v ≤ 1024 → Gives (.dramWmWrite v) s fun t => t = s.modDram fun d => { d with wm := v }) ∧
  (∀ (s : State) (v : Nat), s.dram.lock = true ∨ 1024 < v → Gives (.dramWmWrite v) s fun t => t = s) ∧
  (∀ (s : State) (n : Nat), n < s.sr.wm → shelfOwner s n = 0x1D) ∧
  ∀ (s : State) (n v : Nat), s.sr.wm = 16 → n < 768 → v ≤ 16 →
    (n < 16 → shelfOwner s n = 0x1D) ∧
    (shelfOwner (setShelfOwner s n v) n = v ↔ 16 ≤ n ∧ n ≤ 719)

/-- Writes to LOCK bits, event words, the Ledger and the boot registers. LOCK sets the LOCK bit of the Stockroom,
the memory controller or the Ledger, and nothing else changes. A REGISTER_WRITE of 32 bits to an event word of
the Timeline, the Stockroom, the memory controller, the audio block, a touch port, a DMA channel or a haptic
channel (whose first word has the supply's bit 2 as well) clears exactly the latches of the bits written as
ones, but for those set again in the same tick, and leaves the block's other latches as they were. A
REGISTER_WRITE of the Ledger (the Warden's): once the Ledger is locked, its class words and INJECT_HALT stay;
before, a class word is stored; its selection register stores the selection. LG_STATUS_CLEAR clears each bit of
the mask that is set and whose class is not HALT, unless the bit was set or asserted again in this very tick,
and leaves every other bit as it was. That a tick stands for the cycle in which a set wins over a clear is the
model's choice (log entry 47). FORCE_HALT, where the device is clocked, sets source 14 and latches a HALT, of
that source unless one is latched already; where it is not clocked nothing changes. GO starts a load of a range
within the apertures of T0 while the boot registers answer and none is in progress; a range outside them is
REJECTED (the model's choice, log entry 153); otherwise GO changes nothing. A write of SR_RETAIN leaves the bits
of bays below the watermark as they were; the Warden's writes exactly those. (R9, R10, R11, R23, R80, R732, R790, R801, R803, R832). -/
def Obligations.RegisterWrites : Prop :=
  let cleared := fun (s t : State) (n : Nat) (one : Bool) => (evSrc t n).cause =
    if one then w1c (evSrc s n).cause (maskOff 1 (if (evSrc s n).againAt = now s then (evSrc s n).again else 0)) else (evSrc s n).cause
  (∀ s : State, Gives (.lockSet .stockroom) s (fun t => t = s.modSr fun r => { r with lock := true }) ∧
    Gives (.lockSet .memory) s (fun t => t = s.modDram fun d => { d with lock := true }) ∧
    Gives (.lockSet .ledger) s fun t => t = s.modLg fun l => { l with lock := true }) ∧
  (∀ (s : State) (v : Nat),
    Gives (.registerWrite .timeline 0x2C v 32) s (fun t => ∀ b, b < 5 → cleared s t (srcTimeline b) (v.testBit b)) ∧
    Gives (.registerWrite .stockroom 0x18 v 32) s (fun t => ∀ b, b < 5 → cleared s t (0x008 + b) (v.testBit b)) ∧
    Gives (.registerWrite .memory 0x04 v 32) s (fun t => ∀ b, b < 7 → cleared s t (0x010 + b) (v.testBit b)) ∧
    Gives (.registerWrite .audio 0x10 v 32) s (fun t => ∀ b, b < 4 → cleared s t (0x018 + b) (v.testBit b)) ∧
    (∀ p, p < 8 → Gives (.registerWrite (.touch p) 0x04 v 32) s fun t => ∀ b, b < 5 → cleared s t (srcTouchPort p b) (v.testBit b)) ∧
    (∀ c, c < 64 → Gives (.registerWrite .dma (0x20 * c + 4) v 32) s fun t => cleared s t (srcDma c) (v.testBit 0)) ∧
    ∀ c, c < 16 → Gives (.registerWrite .haptic (16 * c + 4) v 32) s fun t =>
      (∀ b, b < 2 → cleared s t (srcHaptic c b) (v.testBit b)) ∧ cleared s t srcVhap (decide (c = 0) && v.testBit 2)) ∧
  (∀ (s : State) (v : Nat), s.lg.lock = true → Gives (.registerWrite .ledger 0x18 v 32) s (fun t => t = s) ∧
    ∀ i, i < 4 → Gives (.registerWrite .ledger (8 + 4 * i) v 32) s fun t => t = s) ∧
  (∀ (s : State) (v : Nat), s.lg.lock = false → Gives (.registerWrite .ledger 0x08 v 32) s fun t => t = s.modLg fun l => { l with cls0 := v % 2 ^ 32 }) ∧
  (∀ (s : State) (v : Nat), Gives (.registerWrite .ledger 0x20 v 32) s fun t => t = s.modLg fun l => { l with sel := v % 64 }) ∧
  (∀ (s : State) (m : BitVec 64) (b : Nat), b < 40 → Gives (.lgStatusClear m) s fun t =>
    (lgSrc t b).on = ((lgSrc s b).on && !(m.toNat.testBit b && decide (lgClass s b ≠ 3) && decide ((lgSrc s b).stamp ≠ now s) &&
      decide ((lgSrc s b).setAt ≠ some (now s))))) ∧
  (∀ s : State, clockRuns s = true → Gives .forceHalt s fun t =>
    (lgSrc t 14).on = true ∧ t.lg.haltSrc = some (s.lg.haltSrc.getD 14) ∧ t.lg.forceHalt = true) ∧
  (∀ s : State, clockRuns s = false → Gives .forceHalt s fun t => t = s) ∧
  (∀ (s : State) (v : Nat), bootOpen s = true → v.testBit 31 = true → s.pw.bootStatus ≠ 1 → Gives (.bootCtrlGo v) s fun t =>
    t = s.modPw fun p => { p with bootStatus := if inApertures s 0 s.pw.bootAddr s.pw.bootLen then 1 else 3 }) ∧
  (∀ (s : State) (v b : Nat), b < 32 →
    (Gives (.registerWrite .stockroom 0x08 v 32) s fun t => t.sr.retain.testBit b =
      if 16 * b < s.sr.wm then s.sr.retain.testBit b else v.testBit b) ∧
    Gives (.registerWrite .wardenStockroom 0x08 v 32) s fun t => t.sr.retain.testBit b =
      if 16 * b < s.sr.wm then v.testBit b else s.sr.retain.testBit b) ∧
  ∀ (s : State) (v : Nat), bootOpen s = false ∨ v.testBit 31 = false ∨ s.pw.bootStatus = 1 → Gives (.bootCtrlGo v) s fun t => t = s

/-- Frames of the supervisor port. With the device clocked and the port enabled by its fuse, and a frame whose CRC
is good. READ of whole words that all have a register answers OK with their values, and changes nothing but the
answer. WRITE of such a range writes its words in ascending order and answers OK; one of LG_SEL stores the
selection, one of FORCE_HALT (bit 30 of LG_CTRL) latches a HALT, of source 14 unless one is latched, one of
LG_CTRL without that bit, and one of words below 0x10, changes nothing but the answer. READ or WRITE of any
other range is answered BAD_ADDR (2) and counted by SV_ERRORS. MBOX_SEND with the mailbox empty puts the message
there and answers OK; with a message in it, it answers BUSY (3). MBOX_RECV with a reply answers OK with its
first bytes and the reply is gone; bytes asked for beyond the reply are free; without a reply it answers EMPTY
(4). Of a frame of these four whose CRC is wrong the answer is CRC_ERR (1), and it is counted; with the port
disabled by its fuse every answer is status 5. FRAME_CUT_SHORT only counts. An answer that is not OK carries the
status, the sequence number and free data of the length asked for, and has no other effect than the count named
(log entry 3). While the device is not clocked no frame does anything. (R23, R782, R783, R784, R785, R803). -/
def Obligations.SupervisorFrames : Prop :=
  ∀ s : State,
    let error := fun (u : State) => u.modWd fun w => { w with errors := min 0xFFFFFFFF (w.errors + 1) }
    let refused := fun (u : State) (status seq n : Nat) (t : State) => ∃ bs : List Byte, bs.length = n ∧ t = svAnswer (u.modFree (· + n)) status seq bs
    (clockRuns s = true → s.wd.fuses.svEnable = true →
      (∀ seq a n, svRange a n = true → Gives (.svRead seq a n true) s fun t =>
        t = svAnswer s 0 seq ((List.range (n / 4)).flatMap fun i => leBytes 4 (svReg s (a + 4 * i)))) ∧
      (∀ seq a n, svRange a n = false → Gives (.svRead seq a n true) s (refused (error s) 2 seq n)) ∧
      (∀ seq a d, svRange a d.length = true → Gives (.svWrite seq a d true) s fun t =>
        t = svAnswer ((List.range (d.length / 4)).foldl (fun u i => registerWriteOf u .supervisor (a + 4 * i) (fieldOf d (4 * i) 4) 32) s) 0 seq []) ∧
      (∀ seq d, d.length = 4 → Gives (.svWrite seq 0x120 d true) s (fun t =>
          t = svAnswer (s.modLg fun l => { l with sel := leNat d % 64 }) 0 seq []) ∧
        ((leNat d).testBit 30 = true → Gives (.svWrite seq 0x118 d true) s fun t =>
          t.lg.forceHalt = true ∧ (lgSrc t 14).on = true ∧ t.lg.haltSrc = some (s.lg.haltSrc.getD 14)) ∧
        ((leNat d).testBit 30 = false → Gives (.svWrite seq 0x118 d true) s fun t => t = svAnswer s 0 seq [])) ∧
      (∀ seq a d, svRange a d.length = true → a + d.length ≤ 0x10 → Gives (.svWrite seq a d true) s fun t => t = svAnswer s 0 seq []) ∧
      (∀ seq a d, svRange a d.length = false → Gives (.svWrite seq a d true) s (refused (error s) 2 seq 0)) ∧
      (∀ seq m, s.wd.inbox = none → Gives (.mboxSend seq m true) s fun t =>
        t = svAnswer (s.modWd fun w => { w with inbox := some m }) 0 seq []) ∧
      (∀ seq m k, s.wd.inbox = some k → Gives (.mboxSend seq m true) s (refused s 3 seq 0)) ∧
      (∀ seq n r, s.wd.reply = some r → n ≤ r.length → Gives (.mboxRecv seq n true) s fun t =>
        t = svAnswer (s.modWd fun w => { w with reply := none }) 0 seq (r.take n)) ∧
      (∀ seq n r, s.wd.reply = some r → r.length < n → Gives (.mboxRecv seq n true) s fun t =>
        ∃ bs : List Byte, bs.length = n - r.length ∧
          t = svAnswer ((s.modFree (· + (n - r.length))).modWd fun w => { w with reply := none }) 0 seq (r ++ bs)) ∧
      (∀ seq n, s.wd.reply = none → Gives (.mboxRecv seq n true) s (refused s 4 seq n)) ∧
      (∀ seq a n d m, Gives (.svRead seq a n false) s (refused (error s) 1 seq n) ∧ Gives (.svWrite seq a d false) s (refused (error s) 1 seq 0) ∧
        Gives (.mboxSend seq m false) s (refused (error s) 1 seq 0) ∧ Gives (.mboxRecv seq n false) s (refused (error s) 1 seq n))) ∧
    (clockRuns s = true → s.wd.fuses.svEnable = false → ∀ seq a n d m g,
      Gives (.svRead seq a n g) s (refused s 5 seq n) ∧ Gives (.svWrite seq a d g) s (refused s 5 seq 0) ∧
      Gives (.mboxSend seq m g) s (refused s 5 seq 0) ∧ Gives (.mboxRecv seq n g) s (refused s 5 seq n)) ∧
    (clockRuns s = true → Gives .frameCutShort s fun t => t = error s) ∧
    (clockRuns s = false → ∀ seq a n d m g,
      Gives (.svRead seq a n g) s (fun t => t = s) ∧ Gives (.svWrite seq a d g) s (fun t => t = s) ∧
      Gives (.mboxSend seq m g) s (fun t => t = s) ∧ Gives (.mboxRecv seq n g) s (fun t => t = s) ∧
      Gives .frameCutShort s fun t => t = s)

/-- What the supervisor's messages to the Warden do. With the device clocked and the Warden not restarting.
TT_PALETTE with one entry of a head sets that palette entry and prepares status 0; TT_IMAGE within bay 0 is
written through port 31, as the same write of the telltale image, and prepares status 0; TT_SPRITE of 18 bytes
naming a head and a sprite sets the sprite the message spells and prepares status 0; REG_READ of a block
register at a whole word prepares status 0 and its value, with no other effect but the latch of TL_TICK_LO's
read; DEBUG_UNLOCK with a token that verifies, where the fuses allow it, destroys every migration key and opens
debug access. A message of the wrong length or naming no head, sprite, palette entry, byte of bay 0 or register,
and a token that does not verify or that the fuses lock out, only prepares status 1. HEARTBEAT of a Warden that
is not dead counts a beat and notes its instant. While the Warden restarts or the device is not clocked none of
the five messages does anything. The byte layout of the messages is the model's choice (log entry 36). (R785, R786). -/
def Obligations.SupervisorMessages : Prop :=
  (∀ s : State, s.wd.restarting = none → clockRuns s = true →
    (∀ h i e : Nat, h < 12 → 1 ≤ i → i < 16 → Gives (.ttPalette (leBytes 4 2 ++ (leBytes 1 h ++ leBytes 1 i ++ leBytes 1 1 ++ leBytes 4 e))) s fun t =>
      t = prepare (setPalette s h i (e % 2 ^ 32)) [0]) ∧
    (∀ m : List Byte, (m.drop 4).length ≠ 3 + 4 * fieldOf (m.drop 4) 2 1 ∨ 12 ≤ fieldOf (m.drop 4) 0 1 ∨ fieldOf (m.drop 4) 1 1 = 0 ∨
      16 < fieldOf (m.drop 4) 1 1 + fieldOf (m.drop 4) 2 1 → Gives (.ttPalette m) s fun t => t = prepare s [1]) ∧
    (∀ m : List Byte, (m.drop 4).length = 18 → fieldOf (m.drop 4) 0 1 < 12 → fieldOf (m.drop 4) 1 1 < 64 → Gives (.ttSprite m) s fun t =>
      t = prepare (setSprite s (fieldOf (m.drop 4) 0 1) (fieldOf (m.drop 4) 1 1) (spriteOfWords (fieldOf (m.drop 4) 2 4)
        (fieldOf (m.drop 4) 6 4) (fieldOf (m.drop 4) 10 4) (fieldOf (m.drop 4) 14 4))) [0]) ∧
    (∀ m : List Byte, (m.drop 4).length ≠ 18 ∨ 12 ≤ fieldOf (m.drop 4) 0 1 ∨ 64 ≤ fieldOf (m.drop 4) 1 1 →
      Gives (.ttSprite m) s fun t => t = prepare s [1]) ∧
    (∀ (o : Nat) (bs : List Byte), bs.length ≤ 248 → o + bs.length ≤ 2 ^ 22 → Gives (.ttImage (leBytes 4 3 ++ (leBytes 4 o ++ bs))) s fun t =>
      t = prepare (portWrite s { port := 31, owner := 0x1D, addr := o, write := some bs, poison := false, len := 0, found := .sound } bs) [0]) ∧
    (∀ (o : Nat) (bs : List Byte), o < 2 ^ 32 → 248 < bs.length ∨ 2 ^ 22 < o + bs.length →
      Gives (.ttImage (leBytes 4 3 ++ (leBytes 4 o ++ bs))) s fun t => t = prepare s [1]) ∧
    (∀ m : List Byte, (m.drop 4).length < 4 → Gives (.ttImage m) s fun t => t = prepare s [1]) ∧
    (∀ k o : Nat, k ≤ 12 → o < 2 ^ 32 → o % 4 = 0 → Gives (.regRead (leBytes 4 4 ++ (leBytes 1 k ++ leBytes 4 o))) s fun t =>
      t.wd.prepared = some (0 :: leBytes 4 (blockReg s k o)) ∧ ∀ p : Part, p ∉ [Part.tl, .wd] → agree p s t) ∧
    (∀ m : List Byte, (m.drop 4).length ≠ 5 ∨ 12 < fieldOf (m.drop 4) 0 1 ∨ fieldOf (m.drop 4) 1 4 % 4 ≠ 0 →
      Gives (.regRead m) s fun t => t = prepare s [1]) ∧
    (∀ m : List Byte, s.wd.fuses.debugLock = false → Gives (.debugUnlock m true) s fun t =>
      t.wd.keys = [] ∧ t.wd.debugOpen = true ∧ t.wd.prepared = some [0]) ∧
    (∀ (m : List Byte) (g : Bool), g = false ∨ s.wd.fuses.debugLock = true → Gives (.debugUnlock m g) s fun t => t = prepare s [1]) ∧
    (s.wd.dead = false → Gives .heartbeat s fun t => t = s.modWd fun w => { w with beats := (w.beats + 1) % 2 ^ 32, lastBeat := now s })) ∧
  ∀ s : State, s.wd.restarting.isSome = true ∨ clockRuns s = false → ∀ (m : List Byte) (g : Bool),
    Gives (.ttPalette m) s (fun t => t = s) ∧ Gives (.ttSprite m) s (fun t => t = s) ∧ Gives (.ttImage m) s (fun t => t = s) ∧
    Gives (.regRead m) s (fun t => t = s) ∧ Gives (.debugUnlock m g) s fun t => t = s

/-- The entry instant of POWER_STATE, and reaching WATCH, KEEP and OFF. ENTRY_INSTANT of a POWER_STATE whose instant
has come writes its DONE: the command is no longer in flight. For WATCH the state is reached at once; for KEEP
and OFF it is being entered, and the wait for L2/L3 Ready ends 40,000,000 ticks later. L2_L3_READY, and
L2_WAIT_TIMEOUT once that wait is over, reach the state being entered. In the state reached no cause latch and
no soft pending bit is set, no function holds a record and no Ledger bit is set. All this where no wake source
fired during the entry. Without a POWER_STATE due, and without an entry in progress, nothing changes; nor at
L2_WAIT_TIMEOUT before the wait is over or without one. (R807, R810, R811, R813). -/
def Obligations.LowPowerEntry : Prop :=
  let reached := fun (st : PwState) (t : State) => t.pw.state = st ∧ t.pw.entering = none ∧
    (∀ n, n < 1024 → (evSrc t n).cause = 0 ∧ (evSrc t n).soft = false) ∧ (∀ f, f ≤ 16 → (fnOf t f).held = []) ∧ t.lg.src = []
  (∀ (s : State) (f : Flight) (st : PwState), s.pw.wakeDue = false →
    (s.flights.find? fun g => g.op == 0xC0 && instantCome s g) = some f → pwTarget (dget f.desc 16 1) = st →
    Gives .entryInstant s fun t => t.flights = s.flights.filter (fun g => g.id ≠ f.id) ∧
      if st = .watch then reached .watch t else t.pw.entering = some st ∧ t.pw.l2By = some (now s + 40000000)) ∧
  (∀ s : State, (∀ g ∈ s.flights, g.op = 0xC0 → instantCome s g = false) → Gives .entryInstant s fun t => t = s) ∧
  (∀ (s : State) (st : PwState), s.pw.wakeDue = false → s.pw.entering = some st → Gives .l2L3Ready s (reached st)) ∧
  (∀ s : State, s.pw.entering = none → Gives .l2L3Ready s fun t => t = s) ∧
  (∀ (s : State) (st : PwState) (w : Nat), s.pw.wakeDue = false → s.pw.entering = some st → s.pw.l2By = some w → w ≤ now s →
    Gives .l2WaitTimeout s (reached st)) ∧
  (∀ s : State, s.pw.entering = none ∨ s.pw.l2By = none → Gives .l2WaitTimeout s fun t => t = s) ∧
  ∀ (s : State) (w : Nat), s.pw.l2By = some w → now s < w → Gives .l2WaitTimeout s fun t => t = s

/-- What wakes the device, and the wake target's transactions. While no state is being entered. An I2C write
transaction to the wake address wakes the device from WATCH and KEEP (WAKING, stage 1) and cold-boots it from
OFF (BOOTING, stage 1), with WK_CAUSE.I2C set; to any other address it changes nothing. A HAP_TRIG pin whose bit
is set wakes it from WATCH with WK_CAUSE.HAP_TRIG set; with its bit clear nothing changes. A scan of the wake
port in WATCH with touch wake enabled either leaves the device in WATCH, with the count of consecutive scans at
0 or one higher (at most 15), or wakes it with WK_CAUSE.TOUCH set, and then the count would have reached
WAKE_SCANS; outside WATCH, or with touch wake disabled, nothing changes. An I2C read transaction returns the
wake registers from the stored pointer on and advances the pointer. (R814, R815, R816, R817, R819, R853). -/
def Obligations.WakeSources : Prop :=
  (∀ (s : State) (data : List Byte), s.pw.aonDown = false → s.pw.entering = none →
    (s.pw.state = .watch ∨ s.pw.state = .keep → Gives (.i2cAddressMatch s.pw.wakeAddr data) s fun t =>
      t.pw.state = .waking ∧ t.pw.stage = 1 ∧ t.pw.cause.testBit 0 = true) ∧
    (s.pw.state = .off → Gives (.i2cAddressMatch s.pw.wakeAddr data) s fun t =>
      t.pw.state = .booting ∧ t.pw.stage = 1 ∧ t.pw.cause.testBit 0 = true)) ∧
  (∀ (s : State) (a : Nat) (data : List Byte), a ≠ s.pw.wakeAddr → Gives (.i2cAddressMatch a data) s fun t => t = s) ∧
  (∀ (s : State) (c : Nat), s.pw.entering = none → s.pw.state = .watch → s.pw.trigMask.testBit c = true → Gives (.hapTrigWake c) s fun t =>
    t.pw.state = .waking ∧ t.pw.stage = 1 ∧ t.pw.cause.testBit 2 = true) ∧
  (∀ (s : State) (c : Nat), s.pw.trigMask.testBit c = false → Gives (.hapTrigWake c) s fun t => t = s) ∧
  (∀ (s : State) (iq : List (Int × Int)), s.pw.entering = none → s.pw.state = .watch → s.pw.touchEn = true →
    (portOf s s.pw.watchPort).configured = true → Gives (.watchScan iq) s fun t =>
      (t.pw.state = .watch ∧ (t.pw.hits = 0 ∨ t.pw.hits = min 15 (s.pw.hits + 1) ∧ min 15 (s.pw.hits + 1) < s.pw.wakeScans)) ∨
      (t.pw.state = .waking ∧ t.pw.cause.testBit 1 = true ∧ s.pw.wakeScans ≤ min 15 (s.pw.hits + 1))) ∧
  (∀ (s : State) (iq : List (Int × Int)), s.pw.state ≠ .watch ∨ s.pw.touchEn = false → Gives (.watchScan iq) s fun t => t = s) ∧
  ∀ (s : State) (n : Nat), s.pw.aonDown = false → Gives (.wakeRead n) s fun t =>
    t = s.modPw fun w => { w with wakeOut := (List.range n).map fun i => BitVec.ofNat 8 (wakeReg s ((s.pw.pointer + i) % 256)),
                                  pointer := (w.pointer + n) % 256 }

/-- The stages of the wake sequence, their retries and their failures. In a stage of the wake sequence. STAGE_READY:
the next stage runs with its retry unused; after stage 4 of a cold boot the ROM looks for slot A, or waits for a
PCIe image where BOOT_SEL was 2. Where PGOOD has fallen in the stage it changes nothing. STAGE_TIMEOUT: the
first time, the stage is at its retry, which its WK_STATUS bit shows, and PWR_REQ is low where it was the
regulator stage; at the retry, the device is in WAKE_FAILED and FAILED_STAGE names the stage. Outside the stages
both change nothing. PWR_REQ_REASSERT ends the low phase of PWR_REQ. PGOOD_FALL in RUN asserts source 12; in
stages 2 to 4 it makes the stage not ready. RC_FALLBACK puts the AON domain on its RC oscillator and changes
nothing else. (R29, R820, R821, R822, R823, R828). -/
def Obligations.WakeSequence : Prop :=
  (∀ s : State, inStage s = true → s.pw.notReady = false → Gives .stageReady s fun t =>
    t.pw.stage = s.pw.stage + 1 ∧ t.pw.retrying = false ∧ t.pw.state = s.pw.state ∧
      (s.pw.stage = 4 → s.pw.state = .booting → t.pw.boot = if s.pw.bootSel = 2 then .pcie else .slotA)) ∧
  (∀ s : State, inStage s = false ∨ s.pw.notReady = true → Gives .stageReady s fun t => t = s) ∧
  (∀ s : State, inStage s = true → s.pw.retrying = false → Gives .stageTimeout s fun t =>
    t.pw.stage = s.pw.stage ∧ t.pw.retrying = true ∧ t.pw.retries.testBit (s.pw.stage - 1) = true ∧
      t.pw.pwrLow = decide (s.pw.stage = 1) ∧ t.pw.state = s.pw.state) ∧
  (∀ s : State, inStage s = true → s.pw.retrying = true → Gives .stageTimeout s fun t =>
    t = s.modPw fun p => { p with state := .wakeFailed, failedStage := s.pw.stage }) ∧
  (∀ s : State, inStage s = false → Gives .stageTimeout s fun t => t = s) ∧
  (∀ s : State, s.pw.state = .waking ∨ s.pw.state = .booting → s.pw.pwrLow = true → Gives .pwrReqReassert s fun t =>
    t = s.modPw fun p => { p with pwrLow := false }) ∧
  (∀ s : State, s.pw.pwrLow = false → Gives .pwrReqReassert s fun t => t = s) ∧
  (∀ s : State, inRun s = true → Gives .pgoodFall s fun t => (lgSrc t 12).on = true) ∧
  (∀ s : State, inStage s = true → 2 ≤ s.pw.stage → Gives .pgoodFall s fun t => t = s.modPw fun p => { p with notReady := true }) ∧
  ∀ s : State, Gives .rcFallback s fun t => t = s.modPw fun p => { p with rc := true }

/-- RESET_N and the AON supply. With the AON supply up. RESET_RELEASE: the tick count, the epoch count and the tick
offset are zero, BOOT_SEL is sampled, stage 1 of a cold boot runs, nothing is visible or in flight, only T0 is
LIVE, and the event sources, the heads, audio, touch and haptics are at their reset values; what the AON domain
keeps (WAKE_ADDR, the wake settings, the pointer), host memory and the latched HALT bit stay, and where a bit is
latched exactly that Ledger bit is set. RESET_ASSERTION: RESET_N is low and no stage runs, and WAKE_ADDR and the
latched HALT bit stay. Both change nothing while the AON supply is down. AON_SUPPLY_RISE: WAKE_ADDR is 0x5A, no
wake source is enabled and RESET_N is low. AON_SUPPLY_FALL: the supply is down and no HALT bit is latched. (R39, R797, R818, R828, R835, R843). -/
def Obligations.ResetAndSupply : Prop :=
  (∀ (s : State) (v : Nat), s.pw.aonDown = false → Gives (.resetRelease v) s fun t =>
    t.tl.tick = 0 ∧ t.tl.epoch = 0 ∧ t.tl.offset = 0 ∧ t.pw.bootSel = v % 4 ∧ t.pw.state = .booting ∧ t.pw.stage = 1 ∧
      t.pw.resetLow = false ∧ t.visible = [] ∧ t.flights = [] ∧ t.tens = State.reset.tens ∧ t.ev = State.reset.ev ∧
      t.comp = State.reset.comp ∧ t.audio = State.reset.audio ∧ t.touch = State.reset.touch ∧ t.haptic = State.reset.haptic ∧
      t.pw.wakeAddr = s.pw.wakeAddr ∧ t.pw.touchEn = s.pw.touchEn ∧ t.pw.hostEn = s.pw.hostEn ∧ t.pw.trigMask = s.pw.trigMask ∧
      t.pw.pointer = s.pw.pointer ∧ t.host = s.host ∧ t.lg.haltSrc = s.lg.haltSrc ∧
      ∀ b, (lgSrc t b).on = decide (s.lg.haltSrc = some b)) ∧
  (∀ s : State, s.pw.aonDown = false → Gives .resetAssertion s fun t =>
    t.pw.resetLow = true ∧ t.pw.stage = 0 ∧ t.pw.wakeAddr = s.pw.wakeAddr ∧ t.lg.haltSrc = s.lg.haltSrc) ∧
  (∀ (s : State) (v : Nat), s.pw.aonDown = true → Gives (.resetRelease v) s (fun t => t = s) ∧ Gives .resetAssertion s fun t => t = s) ∧
  (∀ s : State, Gives .aonSupplyRise s fun t =>
    t.pw.wakeAddr = 0x5A ∧ t.pw.touchEn = false ∧ t.pw.hostEn = false ∧ t.pw.trigMask = 0 ∧ t.pw.resetLow = true ∧ t.pw.aonDown = false) ∧
  ∀ s : State, Gives .aonSupplyFall s fun t => t.pw.aonDown = true ∧ t.lg.haltSrc = none

/-- Boot images, training and resumption. In stage 5 of a boot with the AON supply up. An image that passes its
checks, in the slot being read or supplied over PCIe once GO is written, is accepted: training follows, and the
security block has locked the Stockroom, the memory controller and the Ledger; a PCIe image is then ACCEPTED.
One that fails: after slot A slot B is read; after slot B the device waits for a PCIe image where BOOT_SEL is 1,
and otherwise the boot has failed with source 37 set. A PCIe image that fails is REJECTED and the device waits
on. TRAINING_DONE after an accepted image of a cold boot: the device is in RUN; in stage 3 of a wake, where
every rank is found good, nothing changes; elsewhere nothing changes. RESUMPTION of a wake whose blocks verify
and whose resume record can be read: the device is in RUN and the doorbells kept in WATCH are used up; otherwise
the wake goes on as a cold boot in stage 5. (R825, R826, R830, R831, R832). -/
def Obligations.BootAndResumption : Prop :=
  (∀ (s : State) (b : List Byte) (g : List Bool), s.pw.stage = 5 → s.pw.aonDown = false → s.pw.state = .booting →
    let trains := fun (t : State) => t.pw.boot = .trained ∧ t.sr.lock = true ∧ t.dram.lock = true ∧ t.lg.lock = true
    (s.pw.boot = .slotA → imageGood s b g = true → Gives (.bootImageLoad 0 b g) s trains) ∧
    (s.pw.boot = .slotB → imageGood s b g = true → Gives (.bootImageLoad 1 b g) s trains) ∧
    (s.pw.boot = .pcie → s.pw.bootStatus = 1 → imageGood s b g = true → Gives (.bootImageLoad 2 b g) s fun t => trains t ∧ t.pw.bootStatus = 2) ∧
    (s.pw.boot = .slotA → imageGood s b g = false → Gives (.bootImageLoad 0 b g) s fun t => t.pw.boot = .slotB ∧ t.pw.bootFault = true) ∧
    (s.pw.boot = .slotB → imageGood s b g = false → s.pw.bootSel = 1 → Gives (.bootImageLoad 1 b g) s fun t => t.pw.boot = .pcie) ∧
    (s.pw.boot = .slotB → imageGood s b g = false → s.pw.bootSel ≠ 1 → Gives (.bootImageLoad 1 b g) s fun t =>
      t.pw.boot = .failed ∧ (lgSrc t 37).on = true) ∧
    (s.pw.boot = .pcie → s.pw.bootStatus = 1 → imageGood s b g = false → Gives (.bootImageLoad 2 b g) s fun t =>
      t = s.modPw fun p => { p with bootStatus := 3 })) ∧
  (∀ (s : State) (gib present good : Nat), s.pw.state = .booting → s.pw.boot = .trained →
    Gives (.trainingDone gib present good) s fun t => t.pw.state = .run) ∧
  (∀ (s : State) (gib present good : Nat), s.pw.state = .waking → s.pw.stage = 3 → (∀ n, n < 16 → good.testBit n = true) →
    Gives (.trainingDone gib present good) s fun t => t = s) ∧
  (∀ (s : State) (gib present good : Nat), s.pw.state ≠ .booting ∨ s.pw.boot ≠ .trained → s.pw.state ≠ .waking ∨ s.pw.stage ≠ 3 →
    Gives (.trainingDone gib present good) s fun t => t = s) ∧
  ∀ (s : State) (good patched : Bool), s.pw.state = .waking → s.pw.stage = 5 → s.pw.boot = .trained →
    (good = true → resumeLost s = false → Gives (.resumption good patched) s fun t => t.pw.state = .run ∧ t.pw.tails = []) ∧
    (good = false ∨ resumeLost s = true → Gives (.resumption good patched) s fun t =>
      t.pw.state = .booting ∧ t.pw.stage = 5 ∧ t.pw.coldWake = true)

/-- An epoch start returns the tick offset to zero and counts the epoch. Where the clock runs: at the tick at which
the tick offset has reached the length of the current epoch (EPOCH_TICKS, but for an epoch that an alignment has
lengthened or shortened), EPOCH_START answers a next state with offset zero and the epoch count one higher,
wrapping from 0xFFFF_FFFF to 0; the wheels are at entry 0, whose turn is the next to start, and serve its
owners. Before that tick it changes nothing. A tick that passes advances the offset by one. An edge of the
reference moves neither the epoch count nor the offset nor the tick count: it only feeds the phase detector. (R41). -/
def Obligations.EpochStarts : Prop :=
  (∀ (s : State) (x : Bool), clockRuns s = true → s.tl.offset = s.tl.epochLen → s.tl.epoch < 2 ^ 32 → Gives (.epochStart x) s fun t =>
    t.tl.offset = 0 ∧ t.tl.epoch = (s.tl.epoch + 1) % 2 ^ 32 ∧ t.tl.tick = s.tl.tick ∧ t.wheels.entry = 0 ∧ t.wheels.restart = true ∧
    t.wheels.served = (List.range 11).map fun w => entryOwner t w 0) ∧
  (∀ (s : State) (x : Bool), s.tl.offset < s.tl.epochLen → Gives (.epochStart x) s fun t => t = s) ∧
  (∀ s : State, (advance s).tl.offset = s.tl.offset + 1 ∧ (advance s).tl.epoch = s.tl.epoch) ∧
  ∀ (s : State) (r : Bool) (n : Nat), Gives (.referenceEdge r n) s fun t =>
    t.tl.epoch = s.tl.epoch ∧ t.tl.offset = s.tl.offset ∧ t.tl.tick = s.tl.tick

/-- Reference edges, missing edges and late steers move the Timeline between its states. Where the clock runs. An
edge that is not of the selected source's kind (with INTERNAL, HOST and the reserved sources none is; with MAINS
none within EPOCH_TICKS / 4 of the last edge) changes nothing. In LOCKED, an edge of its kind further than
EPOCH_TICKS / 8 from the epoch boundary is counted in GLITCHES (saturating) and raises the GLITCH event; that it
counts for no expected edge is the model's choice (log entry 122). Otherwise an edge of its kind that is the
first since the selection or lies in the lock range is accepted: its phase error (zero where an alignment is
due, log entry 123) and instant are noted and OUT_OF_RANGE is 0; LOCKED stays; in ACQUIRE the eighth consecutive
one within 40 ticks locks the Timeline and raises TL_LOCKED, and in HOLDOVER it leads to ACQUIRE; the frequency
followed is a free value within 250 ppm, and in ACQUIRE within 50 ppm of the one held at its start (log entry
12). One outside the lock range sets OUT_OF_RANGE and leaves LOCKED and ACQUIRE for HOLDOVER, where HOLDOVER
stays. A missing edge in LOCKED or ACQUIRE is counted, and the LOSS_COUNT-th leads to HOLDOVER; from LOCKED that
raises LOST; one before it leaves the run of accepted edges as it was (log entry 122). In the other states and
with the other sources it changes nothing. In HOST mode 1,024 epochs without a TIMELINE_STEER, counted from the
offset of the last, lead from LOCKED or ACQUIRE to HOLDOVER; else STEER_TIMEOUT changes nothing. (R44, R46, R49, R50, R51). -/
def Obligations.ReferenceEdges : Prop :=
  ∀ s : State, clockRuns s = true →
    let kind := fun (rising : Bool) => (s.tl.src = 1 ∧ rising = !s.tl.edge) ∨ (s.tl.src = 2 ∧ rising = true) ∨
      (s.tl.src = 3 ∧ rising = true ∧ (s.tl.seenEdge = false ∨ s.tl.epochTicks < 4 * (now s - s.tl.lastEdge)))
    let inWindow := s.tl.state ≠ .locked ∨ 8 * (phaseError s).natAbs ≤ s.tl.epochTicks
    let err := if s.tl.stepDue then 0 else phaseError s
    (∀ r n, ¬ kind r → Gives (.referenceEdge r n) s fun t => t = s) ∧
    (∀ r n, kind r → ¬ inWindow → Gives (.referenceEdge r n) s fun t =>
      t.tl.glitches = min 255 (s.tl.glitches + 1) ∧ (evSrc t 2).cause.testBit 0 = true ∧ t.tl.badEdges = s.tl.badEdges ∧ t.tl.state = .locked) ∧
    (∀ r n, kind r → inWindow → s.tl.seenEdge = false ∨ inLockRange s.tl.epochTicks n = true → Gives (.referenceEdge r n) s fun t =>
      t.tl.phaseErr = err ∧ t.tl.lastEdge = now s ∧ t.tl.seenEdge = true ∧ t.tl.outOfRange = false ∧
        (s.tl.state = .locked → t.tl.state = .locked) ∧
        (s.tl.state = .acquire → s.tl.goodEdges = 7 → err.natAbs ≤ 40 → t.tl.state = .locked ∧ (evSrc t 0).cause.testBit 0 = true) ∧
        (s.tl.state = .acquire → s.tl.goodEdges < 7 ∨ 40 < err.natAbs → t.tl.state = .acquire) ∧
        (s.tl.state = .holdover → t.tl.state = .acquire ∧ t.tl.acquireFreq = s.tl.freqOfs) ∧
        t.tl.freqOfs.natAbs ≤ 250000 ∧
        (t.tl.state = .acquire → t.tl.acquireFreq.natAbs ≤ 250000 → (t.tl.freqOfs - t.tl.acquireFreq).natAbs ≤ 50000)) ∧
    (∀ r n, kind r → inWindow → s.tl.seenEdge = true → inLockRange s.tl.epochTicks n = false → Gives (.referenceEdge r n) s fun t =>
      t.tl.outOfRange = true ∧ (s.tl.state ≠ .free → t.tl.state = .holdover)) ∧
    (1 ≤ s.tl.src → s.tl.src ≤ 3 → s.tl.state = .locked ∨ s.tl.state = .acquire →
      Gives .referenceEdgeMissing s fun t =>
        if s.tl.lossCount ≤ min 15 (s.tl.badEdges + 1) then
          t.tl.state = .holdover ∧ (s.tl.state = .locked → (evSrc t 1).cause.testBit 0 = true)
        else t.tl.state = s.tl.state ∧ t.tl.badEdges = min 15 (s.tl.badEdges + 1) ∧ t.tl.goodEdges = s.tl.goodEdges) ∧
    (s.tl.src = 0 ∨ 4 ≤ s.tl.src ∨ s.tl.state = .free ∨ s.tl.state = .holdover → Gives .referenceEdgeMissing s fun t => t = s) ∧
    (s.tl.src = 4 → 1024 < s.tl.steerAge ∨ s.tl.steerAge = 1024 ∧ s.tl.steerOfs ≤ s.tl.offset → s.tl.state = .locked ∨ s.tl.state = .acquire → Gives .steerTimeout s fun t =>
      t.tl.state = .holdover) ∧
    (s.tl.src ≠ 4 ∨ s.tl.steerAge < 1024 ∨ (s.tl.steerAge = 1024 ∧ s.tl.offset < s.tl.steerOfs) ∨ s.tl.state = .free ∨ s.tl.state = .holdover → Gives .steerTimeout s fun t => t = s)

/-- SYNC_OUT drives the edges it owes, and a turn serves the wheel's owners. SYNC_OUT_PULSE: the edges whose
instants have come are no longer owed, those to come still are, and the output's level is that of the latest
edge that came, or what it was; nothing else changes. TURN_START, where the clock runs: the wheels move to the
next of 512 entries, or to entry 0 where an epoch has started, and each of the eleven wheels serves one owner:
system in a system turn, which is never lent; in a tenancy's turn that tenancy where a request of its waits; in
any other turn the entry's owner, or a lending tenancy with a request that waits; and where no lending tenancy
has one, the entry's owner. What waits is what the command names and what the state holds for the wheel (log
entry 127); which lender is a free value (log entry 3). Where the clock does not run nothing changes. (R47, R70, R71). -/
def Obligations.SyncOutAndTurns : Prop :=
  (∀ s : State, Gives .syncOutPulse s fun t =>
    (∀ e, e ∈ t.tl.soEdges ↔ e ∈ s.tl.soEdges ∧ s.tl.tick < e.1) ∧
    (∀ l a b, s.tl.soEdges = l ++ [(a, b)] → a ≤ s.tl.tick → t.tl.soActive = b) ∧
    ((∀ e ∈ s.tl.soEdges, s.tl.tick < e.1) → t.tl.soActive = s.tl.soActive) ∧ t = s.modTl fun _ => t.tl) ∧
  (∀ (s : State) (x : Turn), clockRuns s = true → Gives (.turnStart x) s fun t =>
    let e := if s.wheels.restart then 0 else (s.wheels.entry + 1) % 512
    let waits := waitingAt s x.waiting
    t.wheels.entry = e ∧ t.wheels.restart = false ∧ t.wheels.served.length = 11 ∧ t.wheels.active = s.wheels.active ∧
    ∀ w, w < 11 →
      let o := entryOwner s w e
      let served := t.wheels.served.getD w 0x1F
      (o = 0x1E → served = 0x1E) ∧
      (o ≤ 16 → (w, o) ∈ waits → served = o) ∧
      (o ≤ 16 ∨ o = 0x1F → served = o ∨ served ≤ 16 ∧ (tenOf s served).grants.lending = true ∧ (w, served) ∈ waits) ∧
      ((∀ l, l ≤ 16 → (tenOf s l).grants.lending = true → (w, l) ∉ waits) → served = o)) ∧
  ∀ (s : State) (x : Turn), clockRuns s = false → Gives (.turnStart x) s fun t => t = s

/-- LINE_START begins the lines and frames of a head. For a head whose next line slot starts at tick t. Before t, or
on a head with no slot to come, LINE_START changes nothing. At or after t, on a video head with no frame to
start anew: in the middle of a frame that was not given up, the line counter goes to the next line, the slot
count advances and the slot is dated t, for each line that is an active one; after the last line of the frame,
with no recovery line owed and no HEAD_DISABLE waiting, the frame number advances by one, wrapping, and line 0
begins at t. A disabled video head whose first frame is due at t starts running at line 0. (R412, R428, R429, R446). -/
def Obligations.HeadLines : Prop :=
  ∀ (s : State) (h : Nat),
    (nextSlotAt s h = none → Gives (.lineStart h) s fun t => t = s) ∧
    (∀ b, nextSlotAt s h = some b → now s < b → Gives (.lineStart h) s fun t => t = s) ∧
    ∀ b c, nextSlotAt s h = some b → b ≤ now s → (headOf s h).cfg = some c → c.kind = .video →
      ((headOf s h).startDue = none → (headOf s h).slot = .line ∨ (headOf s h).slot = .black → (headOf s h).aborting = false →
        (headOf s h).line + 1 < c.vTotal → (headOf s h).line + 1 < c.vActive → Gives (.lineStart h) s fun t =>
          (headOf t h).line = (headOf s h).line + 1 ∧ (headOf t h).slots = (headOf s h).slots + 1 ∧ (headOf t h).lineAt = b ∧
            (headOf t h).frame = (headOf s h).frame) ∧
      ((headOf s h).startDue = none → (headOf s h).slot = .line ∨ (headOf s h).slot = .black → (headOf s h).aborting = false →
        (headOf s h).extra = 0 → (headOf s h).stopDue = none → (headOf s h).line + 1 = c.vTotal → Gives (.lineStart h) s fun t =>
          (headOf t h).frame = ((headOf s h).frame + 1) % 2 ^ 32 ∧ (headOf t h).line = 0 ∧ (headOf t h).slots = 1 ∧ (headOf t h).lineAt = b) ∧
      ((headOf s h).state = .disabled → (headOf s h).startDue = some b → (headOf s h).newCfg = none → Gives (.lineStart h) s fun t =>
        (headOf t h).state = .running ∧ (headOf t h).startDue = none ∧ (headOf t h).line = 0 ∧ (headOf t h).slots = 1)

/-- The stager switches, requests and receives lines, and a line it lacks is an underrun. STAGER_SWITCH at or after
the switch instant of a configured head that is not disabled and has not switched for the frame in progress: the
stager turns to the next frame, with no line arrived, on a video head none requested but line 0 where that is
due with the switch; the lines of the frame in progress that had arrived and were requested are kept as such,
with the LEAD that frame is staged with. Before that instant, when already switched, or on a disabled head, it
changes nothing. STAGER_REQUEST: a line of the frame in progress that the switch left unrequested comes first,
when its start less that LEAD has come; else the next line of the frame staged, when its start less LEAD has
come. That line is requested, and the next one drawn is to come (on a push head those without damage are passed
over); any other line changes nothing. STAGING_ARRIVAL of an active line that is drawn and was requested, for
the frame in progress where that still lacks it, else for the frame staged: the line counts as arrived for that
frame, and the least margin of the epoch becomes the smaller of itself and the ticks left before the line's
start; any other arrival changes nothing. UNDERRUN, while a head draws a line whose data is not in the rings:
the underrun counter advances (saturating), event HEAD_UNDERRUN and source 24 of the Ledger are set, and a video
head either blanks the rest of the frame or ends it early, as its BLANK_REST says; where the line is there, or
none is drawn, it changes nothing. The pixel at which the data is missing is a free value (log entry 3), and
when a frame behind an aborted one is expected is the model's choice (log entry 147). (R115, R121, R125, R426, R427). -/
def Obligations.StagingAndUnderruns : Prop :=
  ∀ (s : State) (h : Nat),
    ((headOf s h).state = .disabled ∨ switched s h = true ∨ (now s : Int) < switchTick s h → Gives (.stagerSwitch h) s fun t => t = s) ∧
    (∀ c, (headOf s h).cfg = some c → (headOf s h).state ≠ .disabled → switched s h = false → switchTick s h ≤ (now s : Int) →
      Gives (.stagerSwitch h) s fun t => (stagerOf t h).frame = ((headOf s h).frame + 1) % 2 ^ 32 ∧
        (c.kind = .video → (stagerOf t h).line ≤ 1) ∧ (stagerOf t h).arrived = 0 ∧ (stagerOf t h).older = (stagerOf s h).arrived ∧
        (stagerOf t h).oldLine = (stagerOf s h).line ∧ (stagerOf t h).oldLead = (stagerOf s h).lead) ∧
    (∀ c l, (headOf s h).cfg = some c →
      let st := stagerOf s h
      let n := (st.frame + 2 ^ 32 - (headOf s h).frame) % 2 ^ 32
      let next := fun (ahead : Bool) => nextDrawn c (drawnArea s h ahead) (l + 1)
      let oldIsDue := olderOpen s h c = true ∧ st.oldLine < c.vActive ∧ lineTick s h 0 st.oldLine - (st.oldLead : Int) ≤ (now s : Int)
      let newIsDue := st.line < c.vActive ∧ stagedTick s h n st.line - (st.lead : Int) ≤ (now s : Int)
      (c.kind = .video → ∀ ahead, next ahead = l + 1) ∧
      (oldIsDue → l = st.oldLine → Gives (.stagerRequest h l) s fun t => t = setStager s h { st with oldLine := next false }) ∧
      (¬ oldIsDue → newIsDue → l = st.line → Gives (.stagerRequest h l) s fun t =>
        t = setStager s h { st with line := next (stagesAhead s h) }) ∧
      ((oldIsDue → l ≠ st.oldLine) → (¬ oldIsDue → newIsDue → l ≠ st.line) → Gives (.stagerRequest h l) s fun t => t = s)) ∧
    (∀ c l, (headOf s h).cfg = some c →
      let st := stagerOf s h
      let older := olderOpen s h c = true ∧ st.older ≤ l ∧ l < st.oldLine
      let drawn := fun (ahead : Bool) => rowDrawn (drawnArea s h ahead) l = true
      (l < c.vActive → ¬ older → l < st.line → drawn (stagesAhead s h) → Gives (.stagingArrival h l) s fun t =>
        stagerOf t h = { st with
          arrived := max st.arrived (l + 1), least := min st.least (stagedTick s h ((st.frame + 2 ^ 32 - (headOf s h).frame) % 2 ^ 32) l - now s).toNat }) ∧
      (l < c.vActive → older → drawn false → Gives (.stagingArrival h l) s fun t =>
        stagerOf t h = { st with older := l + 1, least := min st.least (stagedTick s h 0 l - now s).toNat }) ∧
      (c.vActive ≤ l ∨ (¬ older ∧ (st.line ≤ l ∨ ¬ drawn (stagesAhead s h))) ∨ (older ∧ ¬ drawn false) →
        Gives (.stagingArrival h l) s fun t => t = s)) ∧
    (∀ y, drawnLine s h = some y → lineHeld s h y = false → Gives (.underrun h) s fun t =>
      (headOf t h).underruns = min 0xFFFFFFFF ((headOf s h).underruns + 1) ∧ (evSrc t (srcHead h 0)).cause.testBit 0 = true ∧
      (lgSrc t 24).on = true ∧
      ∀ c, (headOf s h).cfg = some c → c.kind = .video →
        (headOf t h).blanking = c.blankRest ∧ (headOf t h).aborting = !c.blankRest) ∧
    ((∀ y, drawnLine s h = some y → lineHeld s h y = true) → Gives (.underrun h) s fun t => t = s)

/-- A push starts at the tearing edge, is missed without one, and ends. TE_EDGE: on a command-mode head with a
latched push that has not started, the active edge starts the push: its tick is kept with its number for touch,
and none of its lines is sent. While a push is being sent, or none is latched by now, the active edge is noted,
with its tick, for the head's quiet window, and for the pushes latched behind, which need no other (the model's
choice, log entry 147). The other edge, and any edge of another head, changes nothing. TE_MISSED, later than
TE_WAIT after the latch with no edge come: the missed-edge counter advances (saturating) and its event is set. A
push at the front goes: where no further push is latched none is waiting, and its damage is kept for the push to
come; else the next one is at the front, and has started where its edge has come. A push missed behind one that
is being sent leaves the queue, and the one being sent goes on. While no push has waited longer than TE_WAIT for
its edge it changes nothing. PUSH_END, once every line of the push has been sent, on a head with no further push
latched: no push is in progress; before every line is sent it changes nothing. (R418, R419, R421, R462). -/
def Obligations.PushesAndTheTearingEdge : Prop :=
  ∀ (s : State) (h : Nat),
    (∀ c p b, (headOf s h).cfg = some c → c.kind = .command → (headOf s h).push = some p → (headOf s h).pushing = false →
      p.latched ≤ now s → (b = !c.tePol) → Gives (.teEdge h b) s fun t =>
        (headOf t h).pushing = true ∧ (∀ m ∈ (headOf t h).maps, m.frame = p.number → m.start = some (now s)) ∧ (headOf t h).sent = 0 ∧
          (headOf t h).push = some { p with edge := true } ∧ now s ∈ (headOf t h).teEdges) ∧
    (∀ c b, (headOf s h).cfg = some c → c.kind = .command → (b = !c.tePol) →
      (headOf s h).pushing = true ∨ (∀ p, (headOf s h).push = some p → now s < p.latched ∧ p.edge = false) → Gives (.teEdge h b) s fun t =>
        t = modHead s h fun x => { x with
          teEdges := now s :: x.teEdges.filter fun e => decide (now s < e + x.quiet.teOfs + x.quiet.teLen)
          queued := x.queued.map fun p => if p.latched ≤ now s then { p with edge := true } else p }) ∧
    (∀ c b, (headOf s h).cfg = some c → c.kind ≠ .command ∨ b = c.tePol → Gives (.teEdge h b) s fun t => t = s) ∧
    (teMissedDue s h = true → Gives (.teMissed h) s fun t =>
      (headOf t h).teMissed = min 0xFFFFFFFF ((headOf s h).teMissed + 1) ∧ (evSrc t (srcHead h 2)).cause.testBit 0 = true ∧
        ((headOf s h).pushing = true → (headOf t h).pushing = true ∧ (headOf t h).push = (headOf s h).push ∧
          (headOf t h).queued.length < (headOf s h).queued.length) ∧
        (∀ p, (headOf s h).pushing = false → (headOf s h).push = some p →
          ((headOf s h).queued = [] → (headOf t h).push = none ∧ (headOf t h).pushing = false ∧
            (headOf t h).carried = (headOf s h).carried ++ p.damage) ∧
          ∀ q l, (headOf s h).queued = q :: l → (headOf t h).queued = l ∧ (headOf t h).pushing = q.edge ∧
            ∃ x, (headOf t h).push = some x ∧ x.number = q.number)) ∧
    (∀ c, (headOf s h).cfg = some c → c.kind = .command →
      (∀ p, (if (headOf s h).pushing = true then p ∈ (headOf s h).queued else (headOf s h).push = some p) →
        p.edge = true ∨ now s ≤ p.latched + 4 * c.teWait) → Gives (.teMissed h) s fun t => t = s) ∧
    (pushSent s h = true → (headOf s h).queued = [] → Gives (.pushEnd h) s fun t =>
      (headOf t h).push = none ∧ (headOf t h).pushing = false ∧ (headOf t h).pixels = []) ∧
    (pushSent s h = false → Gives (.pushEnd h) s fun t => t = s)

/-- A lost link is trained again, and the sink answers HEAD_LINK. LINK_LOST on a head that is not disabled and whose
link is up: the link is down and lost, its first retraining attempt begins and is counted, and the event and
source 25 of the Ledger are set; otherwise nothing changes. HPD_RISE and HPD_IRQ on a DisplayPort head that is
not disabled, while the link is down: a new first attempt begins; on a DSI head, or with the link up, nothing
changes. RETRAIN_ATTEMPT when a further attempt is due: the attempt is counted and training, and a next one is
due 40,000,000 ticks later unless it is the third; otherwise nothing changes. LINK_TRAINING_DONE of a training
link with success: the link is up, no attempt is left over, and a link that was lost sets its event; with a
failure: it is no longer training and stays as it was. That every attempt is counted is the model's reading (log
entry 34). AUX_DCS_REPLY for the oldest HEAD_LINK that moves bytes: its answer completes it with DONE, a read
writing the answer to the host buffer in 64 bytes; no answer, or a refusing one, ends it with FAULTED, reason
0x33, and VALUE 25 (the model's choice, log entry 35); with no such command nothing changes. (R443, R445, R451, R870). -/
def Obligations.LinkEvents : Prop :=
  ∀ (s : State) (h : Nat),
    ((headOf s h).linkUp = true → (headOf s h).state ≠ .disabled → Gives (.linkLost h) s fun t =>
      (headOf t h).linkUp = false ∧ (headOf t h).lost = true ∧ (headOf t h).training = true ∧ (headOf t h).attempts = 1 ∧
        (headOf t h).retrains = min 0xFFFFFFFF ((headOf s h).retrains + 1) ∧
        (evSrc t (srcHead h 3)).cause.testBit 0 = true ∧ (lgSrc t 25).on = true) ∧
    ((headOf s h).linkUp = false ∨ (headOf s h).state = .disabled → Gives (.linkLost h) s fun t => t = s) ∧
    (∀ i ∈ [Instr.hpdRise h, .hpdIrq h],
      (∀ c, (headOf s h).cfg = some c → isDsi c.port = false → (headOf s h).linkUp = false → (headOf s h).state ≠ .disabled →
        Gives i s fun t => t = restartTraining s h) ∧
      ((headOf s h).linkUp = true ∨ (headOf s h).state = .disabled ∨ (∃ c, (headOf s h).cfg = some c ∧ isDsi c.port = true) →
        Gives i s fun t => t = s)) ∧
    (attemptIsDue s h = true → Gives (.retrainAttempt h) s fun t =>
      (headOf t h).training = true ∧ (headOf t h).attempts = (headOf s h).attempts + 1 ∧
        (headOf t h).attemptDue = if (headOf s h).attempts < 2 then some (now s + 40000000) else none) ∧
    (attemptIsDue s h = false → Gives (.retrainAttempt h) s fun t => t = s) ∧
    ((headOf s h).training = true → Gives (.linkTrainingDone h true) s fun t =>
      (headOf t h).linkUp = true ∧ (headOf t h).training = false ∧ (headOf t h).attempts = 0 ∧
        ((headOf s h).lost = true → (evSrc t (srcHead h 4)).cause.testBit 0 = true)) ∧
    ((headOf s h).training = true → Gives (.linkTrainingDone h false) s fun t =>
      (headOf t h).linkUp = (headOf s h).linkUp ∧ (headOf t h).training = false) ∧
    (∀ b, (headOf s h).training = false → Gives (.linkTrainingDone h b) s fun t => t = s) ∧
    (∀ f, (flightBy s fun f => f.op == 0x48 && decide (f.phase = .unit) && decide (dget f.desc 17 1 ≠ 0) && f.aux.head? == some h) = some f →
      (∀ bs, dget f.desc 17 1 = 1 ∨ dget f.desc 17 1 = 4 → Gives (.auxDcsReply h (some bs)) s fun t =>
        t = finishDone (hostWrite s (dget f.desc 24 8) ((bs ++ zeros 16).take (dget f.desc 18 1) ++ zeros (64 - dget f.desc 18 1))) f) ∧
      (∀ bs, dget f.desc 17 1 ≠ 1 → dget f.desc 17 1 ≠ 4 → Gives (.auxDcsReply h (some bs)) s fun t => t = finishDone s f) ∧
      Gives (.auxDcsReply h none) s fun t => t = finish s f (refuse 13 0x33 0 25)) ∧
    ∀ r, (∀ f ∈ s.flights, f.op = 0x48 → f.phase ≠ .unit ∨ dget f.desc 17 1 = 0 ∨ f.aux.head? ≠ some h) →
      Gives (.auxDcsReply h r) s fun t => t = s

/-- A grove starts, completes and aborts its jobs. JOB_START on a grove that is free, in service and not halted,
with a context to serve and a job of it that may run: where the descriptor is good, the grove runs that job of
that context from now on, with its descriptor as memory holds it (a poisoned byte counts as zero), and the job
is still in flight (but where reading it met an error of class HALT, which ends every command); where the
descriptor is faulty, the grove is free again and the job is ended ABORTED with the cause in VALUE. With no such
job, or on another grove, nothing changes. For a job that runs on a grove that is not being reset: JOB_COMPLETE
ends it with DONE, its run time and the instant, or, where the row says so or the job has read poison, with
POISONED, reason 0x34, cause 0x0E, or, where one of its draws is faulty, ABORTED with cause 6 and the draw's
detail, as JOB_RUN_TIME_FAULT does; SHADER_ACCESS_FAULT ends it ABORTED with cause 4, detail 2;
JOB_RUN_TIME_FAULT of a workgroup that is too large ends a compute job ABORTED with cause 6, detail 2;
TILE_LIST_POOL_OVERFLOW sets the context's event, and ends the job of a context that fails on overflow ABORTED
with cause 4, detail 3. On a grove without a job, or one being reset, none of the four changes anything. (R493, R494, R500, R503, R504, R515, R516). -/
def Obligations.GroveJobs : Prop :=
  ∀ (s : State) (g : Nat),
    (∀ c f, groveIdle s g = true → chooseContext s g = some c → candidate s c = some f →
      let d := (bulkBytes s (ctxOf s c).owner (ctxOf s c).owner (jobAddr f) 128).map fun b => if b.2 then (0 : Byte) else b.1
      (startFault s (ctxOf s c) d = none → Gives (.jobStart g) s fun t =>
        (groveOf t g).job = some f.id ∧ (groveOf t g).ctx = c ∧ (groveOf t g).since = now s ∧ (groveOf t g).desc = d ∧
          (t.lg.haltSrc = none → t.flights = s.flights)) ∧
      (∀ k, startFault s (ctxOf s c) d = some k → Gives (.jobStart g) s fun t =>
        (groveOf t g).job = none ∧ (∀ x ∈ t.flights, x.id ≠ f.id) ∧
          (t.lg.haltSrc = none → t.flights = s.flights.filter fun x => x.id ≠ f.id))) ∧
    (groveIdle s g = false ∨ chooseContext s g = none → Gives (.jobStart g) s fun t => t = s) ∧
    (∀ f, (flightBy s fun x => decide (some x.id = (groveOf s g).job)) = some f → (groveOf s g).resetAt = none →
      let ends := fun (v : Verdict) (t : State) => (groveOf t g).job = none ∧ (∀ x ∈ t.flights, x.id ≠ f.id) ∧
        (t.lg.haltSrc = none → ∃ u, u.flights = s.flights ∧ t = finish u f v)
      let aborted := fun (cause detail : Nat) => ({ status := 12, value := jobCause cause detail + runTime s g } : Verdict)
      (∀ used ws, faultyDraw s g = none → jobPoison s g used.frags = false → Gives (.jobComplete g used false ws) s fun t =>
        ends { status := 0, value := 0 + runTime s g, inst := some (now s) } t) ∧
      (∀ used ws p, faultyDraw s g = none → p = true ∨ jobPoison s g used.frags = true → Gives (.jobComplete g used p ws) s fun t =>
        ends { status := 14, reason := 0x34, value := jobCause 0x0E 0 + runTime s g } t) ∧
      (∀ used ws p k, faultyDraw s g = some k → Gives (.jobComplete g used p ws) s (fun t => ends (aborted 6 k) t) ∧
        Gives (.jobRunTimeFault g false) s fun t => ends (aborted 6 k) t) ∧
      Gives (.shaderAccessFault g) s (fun t => ends (aborted 4 2) t) ∧
      (jobCompute (groveOf s g).desc = true → Gives (.jobRunTimeFault g true) s fun t => ends (aborted 6 2) t) ∧
      (∀ used, Gives (.tileListPoolOverflow g used) s fun t => (evSrc t (srcContext (groveOf s g).ctx)).cause.testBit 0 = true) ∧
      (∀ used, (ctxOf s (groveOf s g).ctx).fail = true → Gives (.tileListPoolOverflow g used) s fun t => ends (aborted 4 3) t)) ∧
    ((groveOf s g).job = none ∨ (groveOf s g).resetAt.isSome = true →
      ∀ i, (∃ used p ws, i = Instr.jobComplete g used p ws) ∨ i = .shaderAccessFault g ∨ (∃ b, i = .jobRunTimeFault g b) ∨
        (∃ used, i = .tileListPoolOverflow g used) → Gives i s fun t => t = s)

/-- A grove is stopped, reset and taken out of service. TIME_LIMIT for a job that has run its limit on a grove not
yet being reset: the context's count of kills advances, its event is set, and the grove's reset begins with the
outcome ABORTED, cause 0x0C, detail 1, kept until the reset is complete; before the limit nothing changes.
GR_TILE_UE sets source 30 of the Ledger; on a grove in service and not being reset the reset begins, with the
outcome FAULTED, reason 0x33, VALUE 30, for a job that runs. GROVE_RESET_DONE: the grove has no job and no reset
in progress, its event is set, and the job that was stopped is no longer in flight; with no reset in progress
nothing changes. GR_RESET, 20,000 ticks after a reset began: the grove is out of service with no job and no
reset, and source 31 is set; before that nothing changes. (R517, R518, R521, R522). -/
def Obligations.GroveResets : Prop :=
  ∀ (s : State) (g : Nat),
    (∀ f, (flightBy s fun x => decide (some x.id = (groveOf s g).job)) = some f →
      (groveOf s g).resetAt = none → (groveOf s g).since + 400 * jobLimit f ≤ now s → Gives (.timeLimit g) s fun t =>
        (groveOf t g).resetAt = some (now s) ∧ (groveOf t g).ending = some (12, 0, jobCause 0x0C 1) ∧
        (groveOf t g).job = (groveOf s g).job ∧ (evSrc t (srcContext (groveOf s g).ctx)).cause.testBit 1 = true ∧
        (ctxOf t (groveOf s g).ctx).limitKills = min 0xFFFFFFFF ((ctxOf s (groveOf s g).ctx).limitKills + 1)) ∧
    (∀ f, (flightBy s fun x => decide (some x.id = (groveOf s g).job)) = some f →
      now s < (groveOf s g).since + 400 * jobLimit f ∨ (groveOf s g).resetAt.isSome = true → Gives (.timeLimit g) s fun t => t = s) ∧
    Gives (.grTileUe g) s (fun t => (lgSrc t 30).on = true ∧
      ((groveOf s g).resetAt = none → (groveOf s g).out = false → (groveOf t g).resetAt = some (now s) ∧
        ((groveOf s g).job.isSome = true → (groveOf t g).ending = some (13, 0x33, 30)))) ∧
    ((groveOf s g).resetAt.isSome = true → (groveOf s g).out = false → Gives (.groveResetDone g) s fun t =>
      (groveOf t g).job = none ∧ (groveOf t g).resetAt = none ∧ (groveOf t g).ending = none ∧
        (evSrc t (srcGrove g)).cause.testBit 0 = true ∧ ∀ x ∈ t.flights, some x.id ≠ (groveOf s g).job) ∧
    ((groveOf s g).resetAt = none ∨ (groveOf s g).out = true → Gives (.groveResetDone g) s fun t => t = s) ∧
    (∀ a, (groveOf s g).resetAt = some a → (groveOf s g).out = false → a + 20000 ≤ now s → Gives (.grReset g) s fun t =>
      (groveOf t g).out = true ∧ (groveOf t g).job = none ∧ (groveOf t g).resetAt = none ∧ (lgSrc t 31).on = true) ∧
    (∀ a, (groveOf s g).resetAt = some a → now s < a + 20000 → Gives (.grReset g) s fun t => t = s)

/-- A touch port scans, makes its products and tests itself. SCAN_START when a scan start is due: a port that is
still scanning counts a skip and sets its event, and one that is not starts a scan at step 0; otherwise nothing
changes. STEP_END once the step has settled and the ticks it counts in the quiet windows of the port's head are
enough (R542; on a port without a head every tick counts, and where the head is disabled what was counted is
enough, log entry 141): the step's stamps are kept and the next step begins with none counted, or, at the last
step, the scan ends with its last sample noted; earlier, with no scan, or in the safe state, nothing changes.
SCAN_PRODUCTS_DONE 120,000 ticks after the last sample, with no baseline capture: the scan counter advances and
the report is owed; otherwise nothing changes. TX_OVERCURRENT of a driven line during a scan marks the line
faulty, sets the event and source 32 of the Ledger; otherwise nothing changes. SELFTEST_DONE ends the waiting
TOUCH_SELFTEST, and no line is marked faulty any more; with none waiting nothing changes. (R541, R542, R544, R545, R547, R550, R561, R564). -/
def Obligations.TouchScans : Prop :=
  ∀ (s : State) (p : Nat),
    (scanDue s p = false → Gives (.scanStart p) s fun t => t = s) ∧
    (scanDue s p = true → (portOf s p).scan.isSome = true → Gives (.scanStart p) s fun t =>
      (portOf t p).skips = min 0xFFFFFFFF ((portOf s p).skips + 1) ∧ (portOf t p).scan = (portOf s p).scan ∧
        (evSrc t (srcTouchPort p 1)).cause.testBit 0 = true) ∧
    (scanDue s p = true → (portOf s p).scan = none → Gives (.scanStart p) s fun t =>
      ∃ c, (portOf t p).scan = some c ∧ c.started = now s ∧ c.step = 0 ∧ c.stamps = []) ∧
    (∀ a b iq, (portOf s p).scan = none → Gives (.stepEnd p a b iq) s fun t => t = s) ∧
    (∀ c a b iq, (portOf s p).scan = some c →
      (s.hokusaSafe = true ∨ now s < c.stepAt + c.cfg.settle ∨ stepCounted s (portOf s p) c = false → Gives (.stepEnd p a b iq) s fun t => t = s) ∧
      (s.hokusaSafe = false → c.stepAt + c.cfg.settle ≤ now s → stepCounted s (portOf s p) c = true →
        (c.step + 1 < stepCount (portOf s p) c.cfg → Gives (.stepEnd p a b iq) s fun t =>
          ∃ x, (portOf t p).scan = some x ∧ x.step = c.step + 1 ∧ x.stepAt = now s ∧ x.counted = 0 ∧ x.stamps = c.stamps ++ [(a, b)]) ∧
        (stepCount (portOf s p) c.cfg ≤ c.step + 1 → Gives (.stepEnd p a b iq) s fun t =>
          (portOf t p).scan = none ∧ (portOf t p).endedAt = some b))) ∧
    (productsDue s p = false → Gives (.scanProductsDone p) s fun t => t = s) ∧
    (∀ last c, (portOf s p).endedAt = some last → (portOf s p).ended = some c → last + 120000 ≤ now s → (portOf s p).capture = none →
      Gives (.scanProductsDone p) s fun t => (portOf t p).scans = ((portOf s p).scans + 1) % 2 ^ 32 ∧
        (portOf t p).reportAt = some last ∧ (portOf t p).endedAt = none) ∧
    (∀ x, (portOf s p).scan = none ∨ tCnt (portOf s p) ≤ x → Gives (.txOvercurrent p x) s fun t => t = s) ∧
    (∀ x, (portOf s p).scan.isSome = true → x < tCnt (portOf s p) → Gives (.txOvercurrent p x) s fun t =>
      tget false (portOf t p).faultTx x = true ∧ (evSrc t (srcTouchPort p 3)).cause.testBit 0 = true ∧ (lgSrc t 32).on = true) ∧
    (∀ a b n o, portFlight s p 0x74 = none → Gives (.selftestDone p a b n o) s fun t => t = s) ∧
    (∀ f a b n o, portFlight s p 0x74 = some f → Gives (.selftestDone p a b n o) s fun t =>
      (portOf t p).selftest = false ∧ (portOf t p).faultTx = [] ∧ t.flights = s.flights.filter fun x => x.id ≠ f.id)

/-- A touch port reports, triggers keys' effects and marks contacts stale. REPORT_WRITE when a report is due: no
report is owed any more, and for each tenancy whose ring was enabled before the scan's last sample, the ring
index advances, going back to 0 at the ring's size, or, where the function may not write host memory, the report
is counted as skipped (saturating) and the index stays; otherwise nothing changes. KEY_TRIGGER: the effects
whose instant has come are no longer owed, and one that comes alone has reached its haptic channel. TOUCH_STALE
of a contact that has rested for STALE_S: it is stale and every other contact is as it was; otherwise nothing
changes. (R586, R597, R598, R602). -/
def Obligations.TouchReports : Prop :=
  ∀ (s : State) (p : Nat),
    (reportDue s p = false → Gives (.reportWrite p) s fun t => t = s) ∧
    (∀ last, (portOf s p).reportAt = some last → last + 160000 ≤ now s → halted s = false → Gives (.reportWrite p) s fun t =>
      (portOf t p).reportAt = none ∧ ∀ n, n ≤ 16 → (ringOf (portOf s p) n).enable = true → (ringOf (portOf s p) n).since < last →
        (canWrite s n = false → ringOf (portOf t p) n =
          { ringOf (portOf s p) n with skipped := min 0xFFFFFFFF ((ringOf (portOf s p) n).skipped + 1) }) ∧
        (canWrite s n = true → (ringOf (portOf t p) n).index =
          if 2 ^ (ringOf (portOf s p) n).sizeLog2 ≤ (ringOf (portOf s p) n).index + 1 then 0 else (ringOf (portOf s p) n).index + 1)) ∧
    Gives (.keyTrigger p) s (fun t =>
      (portOf t p).keyDue = ((portOf s p).keyDue.filter fun k => decide (now s < k.2.2)) ∧
      ∀ k, ((portOf s p).keyDue.filter fun k => decide (k.2.2 ≤ now s)) = [k] →
        hapOf t k.1 = hapOf (triggerEffect s k.1 k.2.1 0) k.1) ∧
    (∀ i, staleDue s p i = false → Gives (.touchStale p i) s fun t => t = s) ∧
    ∀ i, staleDue s p i = true → Gives (.touchStale p i) s fun t =>
      (portOf t p).contacts = (portOf s p).contacts.map fun c => if c.id = i then { c with stale := true } else c

/-- A haptic channel drives, brakes, faults and follows its supply. ZERO_CROSSING on a channel that is not driven
and not braking changes nothing; on one without tracking it keeps the measured back-EMF, and an effect that
waits begins at once, or else a brake half-cycle is counted; the eighth miss in a row of a tracked, driven
channel is a FAULT of cause 2 (STALL). SEGMENT_END when the on-segment is over: the channel brakes at the brake
amplitude, clipped by VHAP, and the next segment is to come. BRAKE_END when the brake is over: a gap where a
segment remains, else idle, with no drive. ON_SEGMENT_RISE when the next on-segment's start has come, from a gap
or at a zero crossing: the channel drives and the segment starts. Each of the three changes nothing where it is
not due. ACTUATOR_FAULT on a channel that is configured and not in FAULT: FAULT with that cause, no drive, its
event and source 33 of the Ledger; otherwise nothing changes. VHAP_LOW below 2.8 V ends every effect without
braking, latches LOW and sets its event; at or above 2.8 V it only notes the voltage, and VHAP_RECOVER clears
LOW above 3.0 V. (R610, R614, R616, R618, R627). -/
def Obligations.HapticDrive : Prop :=
  ∀ (s : State) (c : Nat),
    (∀ m b a, (hapOf s c).stage ≠ .driving → (hapOf s c).stage ≠ .braking → Gives (.zeroCrossing c m b a) s fun t => t = s) ∧
    (∀ m b a n, (hapOf s c).stage = .driving ∨ (hapOf s c).stage = .braking → (hapOf s c).track = false → (hapOf s c).waiting = some n →
      Gives (.zeroCrossing c m b a) s fun t => (hapOf t c).stage = .driving ∧ (hapOf t c).effect = n ∧ (hapOf t c).waiting = none ∧
        (hapOf t c).started = now s ∧ (hapOf t c).bemf = b) ∧
    (∀ m b a, (hapOf s c).stage = .braking → (hapOf s c).track = false → (hapOf s c).waiting = none →
      Gives (.zeroCrossing c m b a) s fun t => (hapOf t c).stage = .braking ∧ (hapOf t c).brakes = (hapOf s c).brakes + 1 ∧
        (hapOf t c).bemf = b) ∧
    (∀ b a, (hapOf s c).stage = .driving → (hapOf s c).track = true → 7 ≤ (hapOf s c).missRun →
      Gives (.zeroCrossing c none b a) s fun t => (hapOf t c).stage = .fault ∧ (hapOf t c).cause = 2 ∧ (lgSrc t 33).on = true) ∧
    (segmentDue s c = true → Gives (.segmentEnd c) s fun t => (hapOf t c).stage = .braking ∧
      (hapOf t c).segment = (hapOf s c).segment + 1 ∧ (hapOf t c).drive = min (hapOf s c).brakeMv (driveLimit s)) ∧
    (segmentDue s c = false → Gives (.segmentEnd c) s fun t => t = s) ∧
    (brakeDue s c = true → Gives (.brakeEnd c) s fun t => (hapOf t c).drive = 0 ∧
      (hapOf t c).stage = if (segmentAt (hapOf s c)).isSome then .gap else .idle) ∧
    (brakeDue s c = false → Gives (.brakeEnd c) s fun t => t = s) ∧
    (riseDue s c = true → (hapOf s c).stage = .gap ∨ (hapOf s c).crossed = now s → Gives (.onSegmentRise c) s fun t =>
      (hapOf t c).stage = .driving ∧ (hapOf t c).segAt = now s) ∧
    (riseDue s c = false → Gives (.onSegmentRise c) s fun t => t = s) ∧
    (∀ k, (hapOf s c).stage ≠ .fault → (hapOf s c).stage ≠ .unconfigured → Gives (.actuatorFault c k) s fun t =>
      (hapOf t c).stage = .fault ∧ (hapOf t c).cause = k ∧ (hapOf t c).drive = 0 ∧
        (evSrc t (srcHaptic c 0)).cause.testBit 0 = true ∧ (lgSrc t 33).on = true) ∧
    (∀ k, (hapOf s c).stage = .fault ∨ (hapOf s c).stage = .unconfigured → Gives (.actuatorFault c k) s fun t => t = s) ∧
    (∀ mv, mv < 2800 → Gives (.vhapLow mv) s fun t => t.haptic.low = true ∧ t.haptic.vhap = some mv ∧
      (evSrc t srcVhap).cause.testBit 0 = true ∧
      (c < 16 → (hapOf t c).stage ≠ .driving ∧ (hapOf t c).stage ≠ .braking ∧ (hapOf t c).stage ≠ .gap)) ∧
    (∀ mv, 2800 ≤ mv → Gives (.vhapLow mv) s fun t => t = s.modHaptic fun h => { h with vhap := some mv }) ∧
    ∀ mv, Gives (.vhapRecover mv) s fun t => t = s.modHaptic fun h => { h with vhap := some mv, low := h.low && decide (mv ≤ 3000) }

/-- Triggers and commanded starts of haptic effects, and work orders that come late. HAP_TRIG_EDGE keeps the pin's
level, and an edge of the mapped kind, past the re-arm time, begins to be filtered; any other edge ends the
filtering. TRIGGER_ACCEPT once an edge has held for 800 ticks: the re-arm time starts; on a configured channel
whose holder is quiesced or frozen the trigger is dropped and counted, and on one that is ready, has taken
nothing in this HAPTIC cycle and is neither driven nor braking the mapped effect begins now; before that nothing
changes. WORK_ORDER_EXECUTE of a HAPTIC_PLAY whose instant has come, on such a channel and not superseded by a
later command of the same instant: its effect begins, or waits for the zero crossing while the channel is driven
or braking, and the command is no longer in flight; a superseded one only completes, with bit 31 of VALUE
(outside Hokusa's safe state); with no instant come, or for a command of another kind than HAPTIC_PLAY and
HAPTIC_STOP, nothing changes. WORK_ORDER_LATE of the oldest command of a slot that waits for a work order (a C3
HAPTIC_PLAY or HAPTIC_STOP from its a_k + 8,000 on) whose instant has come: it is no longer in flight, with or
without a promise, and source 23 of the Ledger is set; where no command of the slot has one, or its instant lies
ahead, nothing changes. (R25, R75, R620, R622, R623, R625). -/
def Obligations.TriggersAndWorkOrders : Prop :=
  ∀ (s : State) (c : Nat) (src : CmdSrc),
    let unTaken := ∀ k r, (hapOf s c).taken = some (k, r) → k ≠ hapCycle (now s)
    let quiet := (hapOf s c).stage = .idle ∨ (hapOf s c).stage = .gap
    (∀ b, Gives (.hapTrigEdge c b) s fun t => (hapOf t c).pin = b ∧ (hapOf t c).edgeAt =
      if (hapOf s c).map.enable = true ∧ ((hapOf s c).map.edge = 2 ∨ (hapOf s c).map.edge = b2n (!b)) ∧ (hapOf s c).rearmAt ≤ now s
      then some (now s) else none) ∧
    (trigDue s c = false → Gives (.triggerAccept c) s fun t => t = s) ∧
    (trigDue s c = true → Gives (.triggerAccept c) s fun t => (hapOf t c).edgeAt = none ∧
      (hapOf t c).rearmAt = now s + 400 * (hapOf s c).map.rearm ∧
      (holderStill s c = true → (hapOf s c).stage ≠ .unconfigured →
        (hapOf t c).dropped = min 0xFFFFFFFF ((hapOf s c).dropped + 1) ∧ (hapOf t c).stage = (hapOf s c).stage) ∧
      (holderStill s c = false → hapReady s c = true → unTaken → quiet →
        (hapOf t c).stage = .driving ∧ (hapOf t c).effect = (hapOf s c).map.effect ∧ (hapOf t c).started = now s)) ∧
    ((∀ f ∈ s.flights, f.src = src → instantCome s f = false) → Gives (.workOrderExecute src) s fun t => t = s) ∧
    (∀ f, (flightAt s src fun x => instantCome s x) = some f → f.op ≠ 0x81 → f.op ≠ 0x82 → Gives (.workOrderExecute src) s fun t => t = s) ∧
    (∀ f, (flightAt s src fun x => instantCome s x) = some f → f.op = 0x81 → f.aux.headD 16 = c → (f.aux.drop 2).headD 0 ≠ 1 → s.flights.any (supersedes s f) = false →
      hapReady s c = true → unTaken →
      Gives (.workOrderExecute src) s fun t => (t.flights = s.flights.filter fun x => x.id ≠ f.id) ∧
        (quiet → (hapOf t c).stage = .driving ∧ (hapOf t c).effect = dget f.desc 17 1 ∧ (hapOf t c).started = now s) ∧
        ((hapOf s c).stage = .driving ∨ (hapOf s c).stage = .braking → (hapOf t c).waiting = some (dget f.desc 17 1))) ∧
    (∀ f, (flightAt s src fun x => instantCome s x) = some f → f.op = 0x81 ∨ f.op = 0x82 →
      ((f.aux.drop 2).headD 0 = 1 ∨ s.flights.any (supersedes s f) = true) → s.hokusaSafe = false → Gives (.workOrderExecute src) s fun t => t = finishDone s f (2 ^ 31)) ∧
    (∀ f b, (flightAt s src fun x => (orderInstant s x).isSome) = some f → orderInstant s f = some b →
      (b ≤ now s → Gives (.workOrderLate src) s fun t => (lgSrc t 23).on = true ∧ ∀ x ∈ t.flights, x.id ≠ f.id) ∧
      (now s < b → Gives (.workOrderLate src) s fun t => t = s)) ∧
    ((∀ f ∈ s.flights, f.src = src → orderInstant s f = none) → Gives (.workOrderLate src) s fun t => t = s)

/-- Audio units, streams and comparisons take their samples. SAMPLE_START of a unit, stream or unbound bus whose
sample is not due changes nothing. Where it is due: a sink or converter counts one sample, and while a HALT is
latched every channel it sends is zero; a playback stream with no change waiting goes to its next frame.
FRAME_SYNC_EDGE on an enabled port in target mode: the edge's instant is noted, the sync is no longer lost, the
port counts one sample, and every 64th edge is stamped with its tick and sample; on any other unit nothing
changes. SYNC_LOST, two nominal periods after the last edge: the port's sync is lost with no stamp left, the
count of losses advances (saturating) and the event is set; otherwise nothing changes. AUDIO_PERIOD once a
stream has passed the end of a period: the period and SEQ advance and the stream's event is set; otherwise
nothing changes. AUDIO_COMPARE for a sink with a unit to compare: every such unit has compared once more
(saturating), under the next sequence number; with none, nothing changes. (R641, R642, R643, R662, R663, R796). -/
def Obligations.AudioSamples : Prop :=
  ∀ (s : State) (u : Nat) (ins : List Nat),
    (sampleDue s u = false → Gives (.sampleStart u ins) s fun t => t = s) ∧
    (u < 0x100 → sampleDue s u = true → Gives (.sampleStart u ins) s fun t =>
      (unitOf t u).count = (unitOf s u).count + 1 ∧ (halted s = true → ∀ x ∈ (unitOf t u).out, x = 0)) ∧
    (∀ n, u = 0x100 + n → n < 64 → sampleDue s u = true → (streamOf s n).capture = false → s.audio.changes = [] →
      Gives (.sampleStart u ins) s fun t => (streamOf t n).next = (streamOf s n).next + 1 ∧ (streamOf t n).running = true) ∧
    (isPort u = true → (unitOf s u).enable = true → (unitOf s u).target = true → Gives (.frameSyncEdge u ins) s fun t =>
      (unitOf t u).lastEdge = now s ∧ (unitOf t u).lost = false ∧ (unitOf t u).count = (unitOf s u).count + 1 ∧
        ((unitOf s u).count % 64 = 0 → (unitOf t u).stamp = some (now s) ∧ (unitOf t u).stampNo = (unitOf s u).count)) ∧
    (isPort u = false ∨ (unitOf s u).enable = false ∨ (unitOf s u).target = false → Gives (.frameSyncEdge u ins) s fun t => t = s) ∧
    (syncLostDue s u = true → Gives (.syncLost u) s fun t =>
      (unitOf t u).lost = true ∧ (unitOf t u).stamp = none ∧ t.audio.syncLosts = min 0xFFFFFFFF (s.audio.syncLosts + 1) ∧
        (evSrc t (srcAudioBlock 2)).cause.testBit 0 = true) ∧
    (syncLostDue s u = false → Gives (.syncLost u) s fun t => t = s) ∧
    (∀ n, periodDue s n = true → Gives (.audioPeriod n) s fun t =>
      (streamOf t n).periods = (streamOf s n).periods + 1 ∧ (streamOf t n).seq = ((streamOf s n).seq + 1) % 2 ^ 32 ∧
        (evSrc t (srcStream n)).cause.testBit 0 = true) ∧
    (∀ n, periodDue s n = false → Gives (.audioPeriod n) s fun t => t = s) ∧
    (∀ k a, k < 48 → (assayOf s k).owner ≠ 0x1F → (assayOf s k).enable = true → (assayOf s k).snoop = 3 → (assayOf s k).target = u →
      (assayOf s k).compareAt = some a → a ≤ now s → Gives (.audioCompare u) s fun t =>
        (assayOf t k).compareAt = none ∧ (assayOf t k).compares = min 0xFFFFFFFF ((assayOf s k).compares + 1) ∧
          (assayOf t k).lastSeq = (assayOf s k).seq ∧ (assayOf t k).seq = ((assayOf s k).seq + 1) % 2 ^ 32) ∧
    (audioCompareDue s u = false → Gives (.audioCompare u) s fun t => t = s)

/-- A jack is debounced, classified and removed, its buttons count and its driver trips. JACK_INSERTION keeps the
switch's level; a closing switch starts its debounce, and an opening one ends debounce and classification.
JACK_DEBOUNCE 40,000,000 ticks after an empty jack's switch closed: the insertion is counted (saturating) and
classification is under way; earlier, or with the switch open, nothing changes. JACK_CLASSIFIED with a type of 1
to 5: a jack that was of another type takes it with its load and the instant of the change, and its event is
set; without classification under way, or with another type, nothing changes. JACK_REMOVAL with the switch open:
the jack is EMPTY, with its event where it was not; with the switch closed nothing changes. AUDIO_BUTTON on a
headset jack with microphone bias whose line selects another button: the button counts and its event is set;
otherwise nothing changes. AUDIO_DRIVER on a DAC or a jack: the driver is off, and its event and source 34 of
the Ledger are set; on any other object nothing changes. (R666, R667, R668, R672). -/
def Obligations.JacksAndDrivers : Prop :=
  ∀ (s : State) (j : Nat),
    (∀ b, Gives (.jackInsertion j b) s fun t => (jackOf t j).inserted = b ∧
      (b = true → (jackOf s j).debounce = none → (jackOf t j).debounce = some (now s)) ∧
      (b = false → (jackOf t j).debounce = none ∧ (jackOf t j).classify = false)) ∧
    (∀ a, (jackOf s j).debounce = some a → (jackOf s j).inserted = true → (jackOf s j).type = 0 → a + 40000000 ≤ now s →
      Gives (.jackDebounce j) s fun t => (jackOf t j).classify = true ∧ (jackOf t j).debounce = none ∧
        (jackOf t j).inserts = min 0xFFFFFFFF ((jackOf s j).inserts + 1)) ∧
    ((jackOf s j).debounce = none ∨ (jackOf s j).inserted = false ∨ (∃ a, (jackOf s j).debounce = some a ∧ now s < a + 40000000) →
      Gives (.jackDebounce j) s fun t => t = s) ∧
    (∀ y l, (jackOf s j).classify = true → 1 ≤ y → y ≤ 5 → (jackOf s j).type ≠ y → Gives (.jackClassified j y l) s fun t =>
      (jackOf t j).type = y ∧ (jackOf t j).load = l ∧ (jackOf t j).changeTick = now s ∧ (jackOf t j).classify = false ∧
        (evSrc t (srcAudioBlock 0)).cause.testBit 0 = true) ∧
    (∀ y l, (jackOf s j).classify = false ∨ y = 0 ∨ 5 < y → Gives (.jackClassified j y l) s fun t => t = s) ∧
    ((jackOf s j).inserted = false → Gives (.jackRemoval j) s fun t => (jackOf t j).type = 0 ∧ (jackOf t j).classify = false ∧
      (jackOf t j).debounce = none ∧ ((jackOf s j).type ≠ 0 → (jackOf t j).changeTick = now s ∧ (jackOf t j).buttons = 0 ∧
        (evSrc t (srcAudioBlock 0)).cause.testBit 0 = true)) ∧
    ((jackOf s j).inserted = true → Gives (.jackRemoval j) s fun t => t = s) ∧
    (∀ r, let acts := j ≤ 1 ∧ ((jackOf s j).type = 2 ∨ (jackOf s j).type = 3) ∧ (unitOf s (0x20 + j)).bias = true ∧
        (jackOf s j).buttons ≠ buttonOf r
      (acts → Gives (.audioButton j r) s fun t => (jackOf t j).buttons = buttonOf r ∧
        (evSrc t (srcAudioBlock 1)).cause.testBit 0 = true) ∧
      (¬ acts → Gives (.audioButton j r) s fun t => t = s)) ∧
    (∀ u, isDac u = true ∨ isJack u = true → Gives (.audioDriver u) s fun t => (unitOf t u).driver = false ∧
      (evSrc t (srcAudioBlock 3)).cause.testBit 0 = true ∧ (lgSrc t 34).on = true) ∧
    ∀ u, isDac u = false → isJack u = false → Gives (.audioDriver u) s fun t => t = s

/-- A Stockroom port reads and writes the shelves its owner may touch, and the zeroiser hands a shelf on.
STOCKROOM_REQUEST that reaches beyond address 0xC00_0000 stops with stockroomHole. Within it, a request for a
shelf its owner may not touch leaves every byte as it was, sets SR_ACCESS and source 17 of the Ledger, and a
read answers zeros with every word poisoned. A permitted request that the turn in progress does not serve waits
for a turn of its owner, and nothing else changes: a turn serves the requests it finds at its start (log entry
127). A served write by a port other than 28 stores its bytes at its address and leaves every other byte as it
was. A served read of sound words by a port other than 28 answers the bytes that stand there, none poisoned, and
leaves the shelves as they were. SHELF_ZEROISED of a shelf that waits for the zeroiser: every byte of it is
zero, it no longer waits, and, where it is neither a fixed bay nor secure, the tenancy it was meant for owns it;
of any other shelf, nothing changes. (R92, R103, R104, R105, R106, R131, R134). -/
def Obligations.StockroomPorts : Prop :=
  (∀ (s : State) (r : PortRequest),
    let len := match r.write with | some bs => bs.length | none => r.len
    (0xC000000 < r.addr + len → exec (.stockroomRequest r) s = .fault .stockroomHole) ∧
    (r.addr + len ≤ 0xC000000 → portPermits s r len = false → Gives (.stockroomRequest r) s fun t =>
      t.sr.mem = s.sr.mem ∧ (evSrc t (srcStockroom 4)).cause.testBit 0 = true ∧ (lgSrc t 17).on = true ∧
        (r.write = none → t.sr.answer.bytes = zeros r.len ∧ t.sr.answer.poisoned = List.range (wordsOf r.addr r.len).length)) ∧
    (r.addr + len ≤ 0xC000000 → portPermits s r len = true → turnServes s r = false → Gives (.stockroomRequest r) s fun t =>
      t = s.modSr fun x => { x with waiting := x.waiting ++ [r] })) ∧
  (∀ (s : State) (r : PortRequest) (bs : List Byte), r.write = some bs → r.addr + bs.length ≤ 0xC000000 →
    portPermits s r bs.length = true → turnServes s r = true → r.port ≠ 28 → Gives (.stockroomRequest r) s fun t =>
      Mem.rds t.sr.mem r.addr bs.length = bs ∧
        ∀ a, a < r.addr ∨ r.addr + bs.length ≤ a → Mem.rd t.sr.mem a = Mem.rd s.sr.mem a) ∧
  (∀ (s : State) (r : PortRequest), r.write = none → r.addr + r.len ≤ 0xC000000 → portPermits s r r.len = true → turnServes s r = true →
    r.port ≠ 28 → r.found = .sound → (∀ a ∈ wordsOf r.addr r.len, srWord s a = .sound) → Gives (.stockroomRequest r) s fun t =>
      t.sr.mem = s.sr.mem ∧ t.sr.answer.bytes = Mem.rds s.sr.mem r.addr r.len ∧ t.sr.answer.poisoned = []) ∧
  (∀ (s : State) (n : Nat), (∀ z ∈ s.sr.zeroise, z.unit ≠ n) → Gives (.shelfZeroised n) s fun t => t = s) ∧
  ∀ (s : State) (n v : Nat), (s.sr.zeroise.find? fun z => z.unit == n) = some { unit := n, next := v } → Gives (.shelfZeroised n) s fun t =>
    (∀ i, i < 2 ^ 18 → Mem.rd t.sr.mem (n * 2 ^ 18 + i) = 0) ∧
    (∀ a, a / 2 ^ 18 ≠ n → Mem.rd t.sr.mem a = Mem.rd s.sr.mem a) ∧
    t.sr.zeroise = (s.sr.zeroise.eraseP fun z => z.unit == n) ∧
    (max 16 s.sr.wm ≤ n → n < 720 → v ≤ 16 → shelfOwner t n = v)

/-- Bulk memory serves requests, refreshes, powers down and retires a rank. DRAM_REQUEST of one request: where the
turn in progress does not serve it, it waits for one that does (log entry 127); served, outside its owner's
plots or on plots that a freeze holds it leaves every byte as it was and sets its event and source 22 of the
Ledger; to a rank that a migration's pause holds, it waits behind the others; a permitted write that is not held
stores its bytes and leaves every other byte as it was. Of two that are served, the more urgent goes first.
PLOT_ZEROISED of the plot whose turn it is, with no migration in progress: its bytes are zero and the next
plot's turn comes; otherwise nothing changes. FIRST_PAUSE_END, COPY_END and MIGRATE_DONE lead a migration from
its first pause to the copy, with nothing held, on to the second pause, and to its end, where the spare has
taken the slot of the retired rank and the event is set; in any other phase each changes nothing. MR4_POLL sets
the refresh level of each rank in service, with the event of a doubled rate or, above it, the event and source
20. REFRESH counts as a use of its rank and ends its power-down. POWER_DOWN_ENTRY of a rank idle for PD_IDLE
powers it down; otherwise it changes nothing. (R213, R215, R217, R712, R713, R714, R717, R718, R719, R721). -/
def Obligations.BulkMemory : Prop :=
  ∀ s : State,
    (∀ r : DramRequest, dramTurn s r = false → Gives (.dramRequest [r]) s fun t => t = s.modDram fun d => { d with queued := d.queued ++ [r] }) ∧
    (∀ r : DramRequest, dramTurn s r = true → dramPermits s r = false → Gives (.dramRequest [r]) s fun t =>
      t.dram.mem = s.dram.mem ∧ (evSrc t (srcMemory 6)).cause.testBit 0 = true ∧ (lgSrc t 22).on = true) ∧
    (∀ r : DramRequest, dramTurn s r = true → dramPermits s r = true →
      (heldByPause s r = true → Gives (.dramRequest [r]) s fun t => t = s.modDram fun d => { d with held := d.held ++ [r] }) ∧
      (heldByPause s r = false → ∀ bs, r.write = some bs → Gives (.dramRequest [r]) s fun t =>
        Mem.rds t.dram.mem r.addr bs.length = bs ∧
          ∀ a, a < r.addr ∨ r.addr + bs.length ≤ a → Mem.rd t.dram.mem a = Mem.rd s.dram.mem a)) ∧
    (∀ a b, dramTurn s a = true → dramTurn s b = true → urgency s a < urgency s b → Gives (.dramRequest [a, b]) s fun t => t = dramServe (dramServe s b) a) ∧
    (∀ p, s.dram.zeroise = [] ∨ s.dram.migration.isSome = true → Gives (.plotZeroised p) s fun t => t = s) ∧
    (∀ p v rest, s.dram.zeroise = { plot := p, next := v } :: rest → s.dram.migration = none →
      (Gives (.plotZeroised p) s fun t => (∀ i, i < 2 ^ 21 → Mem.rd t.dram.mem (p * 2 ^ 21 + i) = 0) ∧ t.dram.zeroise = rest) ∧
      ∀ q, q ≠ p → Gives (.plotZeroised q) s fun t => t = s) ∧
    (∀ m, s.dram.migration = some m →
      (m.phase = .firstPause → (Gives .firstPauseEnd s fun t => t.dram.migration = some { m with phase := .copy } ∧ t.dram.held = [])) ∧
      (m.phase ≠ .firstPause → Gives .firstPauseEnd s fun t => t = s) ∧
      (m.phase = .copy → Gives .copyEnd s fun t => ∃ x, t.dram.migration = some x ∧ x.phase = .secondPause ∧ x.src = m.src ∧ x.dst = m.dst) ∧
      (m.phase ≠ .copy → Gives .copyEnd s fun t => t = s) ∧
      (m.phase = .secondPause → m.src ≠ m.dst → Gives .migrateDone s fun t =>
        (rankOf' t m.src).state = .retired ∧ t.dram.slots0 = (s.dram.slots0.map fun n => if n = m.src then m.dst else n) ∧
          t.dram.slots1 = (s.dram.slots1.map fun n => if n = m.src then m.dst else n) ∧
          (evSrc t (srcMemory 2)).cause.testBit 0 = true) ∧
      (m.phase ≠ .secondPause → Gives .migrateDone s fun t => t = s)) ∧
    (s.dram.migration = none → ∀ i ∈ [Instr.firstPauseEnd, .copyEnd, .migrateDone], Gives i s fun t => t = s) ∧
    (∀ (l : List Nat) (n x : Nat), n < 16 → l[n]? = some x → (rankOf' s n).state ≠ .absent → (rankOf' s n).state ≠ .failedTraining →
      Gives (.mr4Poll l) s fun t => (rankOf' t n).refresh = min 2 x ∧
        (x = 1 → (rankOf' s n).refresh ≠ 1 → (evSrc t (srcMemory 3)).cause.testBit 0 = true) ∧
        (2 ≤ x → (evSrc t (srcMemory 4)).cause.testBit 0 = true ∧ (lgSrc t 20).on = true)) ∧
    (∀ n, Gives (.refresh n) s fun t => (rankOf' t n).lastUse = now s ∧ (rankOf' t n).powerDown = false ∧
      (rankOf' t n).state = (rankOf' s n).state) ∧
    (∀ n, powerDownDue s n = true → Gives (.powerDownEntry n) s fun t => (rankOf' t n).powerDown = true) ∧
    ∀ n, powerDownDue s n = false → Gives (.powerDownEntry n) s fun t => t = s

/-- A DMA transfer ends. DMA_TRANSFER_DONE for the oldest transfer of a slot: where it moves (started, on a channel
that is not halted, and not named by a DMA_ABORT), every turn its bytes take has been served on every wheel it
uses, and its function can reach the host where a side of it lies there: the command is no longer in flight;
bulk memory and the Stockroom are what moving its bytes row by row in ascending destination order leaves; of a
comparison that finds no difference the channel's compare offset is 2^36 - 1. Where the function cannot reach
the host, its host access is due and fails: a comparison halts its channel with cause 3, or 4 while the link is
down, and any other transfer does so with the bytes its turns moved (which number is free, log entries 3 and
149). Where no transfer of the slot is in flight, or the oldest does not move or lacks a turn, nothing changes. (R188, R677, R678, R690, R691, R695). -/
def Obligations.DmaTransfersEnd : Prop :=
  ∀ (s : State) (src : CmdSrc),
    ((∀ f ∈ s.flights, f.src = src → isXfer f = false) → Gives (.dmaTransferDone src) s fun t => t = s) ∧
    ∀ f, xferAt s src = some f →
      (xferReady s f = false → Gives (.dmaTransferDone src) s fun t => t = s) ∧
      (xferReady s f = true ↔ moving s f = true ∧ ∀ w, w = 7 ∨ w = 8 ∨ w = 9 → chargeOn w (xferCharges f.desc (xferSize f.desc)) ≠ 0 → turnsLeft f w = 0) ∧
      (xferReady s f = true → hostBarred s f = true → Gives (.dmaTransferDone src) s fun t => t = haltBarred s f ∧
        (isCompare f.desc = true → (∀ g ∈ s.flights, g.id = f.id → g = f) →
          (chanOf t (xferChan f)).halted = true ∧ (chanOf t (xferChan f)).cause = if s.pcie.linkDown then 4 else 3)) ∧
      (xferReady s f = true → hostBarred s f = false → Gives (.dmaTransferDone src) s fun t => ∀ x ∈ t.flights, x.id ≠ f.id) ∧
      (xferReady s f = true → hostBarred s f = false → isCompare f.desc = false → Gives (.dmaTransferDone src) s fun t =>
        t.dram.mem = (moveBytes s f (xferSize f.desc)).1.dram.mem ∧ t.sr.mem = (moveBytes s f (xferSize f.desc)).1.sr.mem) ∧
      (xferReady s f = true → hostBarred s f = false → isCompare f.desc = true →
        (let a := sourceRow s f 0 0 (xferSize f.desc)
         compareScan f.desc a.1 (spaceRead a.2 f.src.fn (viewOf f.src.fn f.desc) (dstSpace f.desc) (dstAddr f.desc) (xferSize f.desc)).1 0) = none →
        Gives (.dmaTransferDone src) s fun t => (chanOf t (xferChan f)).compareOfs = 2 ^ 36 - 1)

/-- An error line sets its source, and its class decides between a HALT and a reaction. CP_LOCKSTEP, CP_SRAM_UE,
CLOCK, TEMP_HIGH, TEMP_CRIT, SUPPLY and PCIE_FATAL set their Ledger sources 0, 2, 9, 10, 11, 12 and 38 where the
device is clocked, and change nothing where it is not. A source that was clear is stamped with the tick, and the
Ledger's event gets its class's cause. At class HALT the first HALT bit is latched and no reaction is left; at
any other class the latch and the commands in flight stay as they were, and at class CONTAIN or DEGRADE, with no
reaction in progress, a new reaction of that source and class waits. PARITY_ERROR sets the source of the
structure it names. D2D_LINK_LOSS of a clocked device makes the Hokusa die safe and sets source 4, and changes
nothing where it is safe already or not clocked; D2D_LINK_RETRAINED ends the safe state and changes nothing
else. (R18, R789, R790, R791, R793, R796). -/
def Obligations.ErrorLines : Prop :=
  ∀ s : State,
    (∀ p ∈ [(Instr.cpLockstep, 0), (.cpSramUe, 2), (.clockFail, 9), (.tempHigh, 10), (.tempCrit, 11), (.supplyFault, 12), (.pcieFatal, 38)],
      (clockRuns s = false → Gives p.1 s fun t => t = s) ∧
      (clockRuns s = true → Gives p.1 s fun t => (lgSrc t p.2).on = true ∧
        ((lgSrc s p.2).on = false → (lgSrc t p.2).stamp = now s ∧ (evSrc t srcLedger).cause.testBit (lgClass s p.2) = true) ∧
        (lgClass s p.2 = 3 → t.lg.haltSrc = some (s.lg.haltSrc.getD p.2) ∧ t.lg.reactions = []) ∧
        (lgClass s p.2 ≠ 3 → t.lg.haltSrc = s.lg.haltSrc ∧ t.flights = s.flights) ∧
        (lgClass s p.2 = 1 ∨ lgClass s p.2 = 2 → (lgSrc s p.2).on = false → (lgSrc s p.2).raised = 0 → inProgress s.lg.reactions = none →
          ∃ r ∈ t.lg.reactions, r.source = p.2 ∧ r.cls = lgClass s p.2 ∧ r.started = false))) ∧
    (∀ p ∈ [(Parity.apprentice, 3), (.wheel, 5), (.owner, 6), (.event, 15), (.fuse, 13), (.shadow, 28), (.compose, 29)], ∀ n,
      Gives (.parityError p.1 n) s fun t => (lgSrc t p.2).on = true) ∧
    (clockRuns s = true → s.hokusaSafe = false → Gives .d2dLinkLoss s fun t => t.hokusaSafe = true ∧ (lgSrc t 4).on = true) ∧
    (clockRuns s = false ∨ s.hokusaSafe = true → Gives .d2dLinkLoss s fun t => t = s) ∧
    Gives .d2dLinkRetrained s fun t => t = s.modHokusaSafe fun _ => false

/-- The CP starts and completes reactions, and a quiesce reaches its limit instant. REACTION_START starts the oldest
reaction that has not started, now, and leaves the others as they were; with none to start nothing changes.
REACTION_COMPLETE completes the oldest reaction in progress: every guest tenancy it contains that was LIVE is
QUIESCED, and every tenancy it degrades that is not ABSENT is notified of it; with none in progress nothing
changes. LIMIT_INSTANT of a target with a quiesce whose limit has come and nothing in flight, stopped or
visible: the target is QUIESCED and the quiesce is no longer in flight; with no such quiesce nothing changes. (R231, R233, R793, R795, R871). -/
def Obligations.ReactionsAndLimits : Prop :=
  ∀ s : State,
    (∀ l r m, s.lg.reactions = l ++ r :: m → (∀ x ∈ l, x.started = true) → r.started = false → Gives .reactionStart s fun t =>
      t = s.modLg fun x => { x with reactions := l ++ { r with started := true, since := now s } :: m }) ∧
    ((∀ x ∈ s.lg.reactions, x.started = true) → Gives .reactionStart s fun t => t = s) ∧
    ((∀ x ∈ s.lg.reactions, x.started = false) → Gives .reactionComplete s fun t => t = s) ∧
    (∀ r n, (s.lg.reactions.find? fun x => x.started) = some r →
      (1 ≤ n → n ≤ 16 → r.contain.testBit n = true → (tenOf s n).state = .live → Gives .reactionComplete s fun t =>
        (tenOf t n).state = .quiesced) ∧
      (n ≤ 16 → r.degrade.testBit n = true → (tenOf s n).state ≠ .absent → Gives .reactionComplete s fun t =>
        (evSrc t (srcNotice n)).cause.testBit 1 = true)) ∧
    ∀ n, let mine := flightBy s fun f => f.op == 0x13 && decide (dget f.desc 16 1 = n) && instantCome s f
      (mine = none → Gives (.limitInstant n) s fun t => t = s) ∧
      ∀ f, mine = some f → inFlight s n = [] → (tenOf s n).stopped = [] → (∀ v ∈ s.visible, v.src.fn ≠ n) → Gives (.limitInstant n) s fun t =>
        (tenOf t n).state = .quiesced ∧ ∀ x ∈ t.flights, x.id ≠ f.id

/-- The Warden restarts, resumes, ends its applets and answers. HB_TIMEOUT once no heartbeat has come for
HB_TIMEOUT, and WARDEN_SELF_RESTART in RUN of a Warden that serves: the Warden restarts now, every migration key
is gone, debug access is closed, no applet runs, and its event and source 36 of the Ledger are set; otherwise
nothing changes. SERVICE_RESUME of a restarting Warden: with good firmware it serves again, the restart is
counted and its event is set; else it is dead, with its event and source 37; of one that is not restarting
nothing changes. APPLET_END and LIMIT_MS (once the limit has come) of a running applet: it is LOADED again, has
no client, and its START is no longer in flight; otherwise nothing changes. WARDEN_REPLY without a slot: the
message in the mailbox is answered with the prepared body and the mailbox is empty again; with no message
nothing changes. WARDEN_REPLY for the oldest command of a slot that waits for the Warden: a TENANCY_SAVE,
TENANCY_RESTORE, SECURE_APPLET_LOAD, MIGRATION_KEY_ACCEPT or MIGRATION_KEY_DESTROY is no longer in flight, and
the destroyed key is gone. (R753, R763, R764, R773, R774, R777, R778, R785). -/
def Obligations.WardenRestarts : Prop :=
  ∀ s : State,
    let restarted := fun (t : State) => t.wd.restarting = some (now s) ∧ t.wd.keys = [] ∧ t.wd.debugOpen = false ∧
      (∀ n, n < 8 → (appletOf t n).state ≠ .running) ∧ (evSrc t srcWarden).cause.testBit 0 = true ∧ (lgSrc t 36).on = true
    (beatLost s = true → Gives .hbTimeout s restarted) ∧
    (beatLost s = false → Gives .hbTimeout s fun t => t = s) ∧
    (s.pw.state = .run → s.wd.restarting = none → s.wd.dead = false → Gives .wardenSelfRestart s restarted) ∧
    (s.pw.state ≠ .run ∨ s.wd.restarting.isSome = true ∨ s.wd.dead = true → Gives .wardenSelfRestart s fun t => t = s) ∧
    (∀ g a, s.wd.restarting = none → Gives (.serviceResume g a) s fun t => t = s) ∧
    (s.wd.restarting.isSome = true → ∀ a,
      (Gives (.serviceResume true a) s fun t => t.wd.restarting = none ∧ t.wd.restarts = s.wd.restarts + 1 ∧ t.wd.lastBeat = now s ∧
        (evSrc t srcWarden).cause.testBit 1 = true) ∧
      Gives (.serviceResume false a) s fun t => t.wd.restarting = none ∧ t.wd.dead = true ∧
        (evSrc t srcWarden).cause.testBit 2 = true ∧ (lgSrc t 37).on = true) ∧
    (∀ (n : Nat) (i : Instr), (∃ c r, i = .appletEnd n c r) ∨ (i = .limitMs n ∧ limitDue s n = true) → (appletOf s n).state = .running →
      Gives i s fun t => (appletOf t n).state = .loaded ∧ (appletOf t n).client = 0x1F ∧
        ∀ x ∈ t.flights, some x.id ≠ (appletOf s n).start) ∧
    (∀ n c r, (appletOf s n).state ≠ .running → Gives (.appletEnd n c r) s fun t => t = s) ∧
    (∀ n, limitDue s n = false → Gives (.limitMs n) s fun t => t = s) ∧
    (∀ g b, s.wd.inbox = none → Gives (.wardenReply ⟨none, g, b⟩) s fun t => t = s) ∧
    (∀ g b m y, s.wd.inbox = some m → s.wd.prepared = some y → s.wd.restarting = none → Gives (.wardenReply ⟨none, g, b⟩) s fun t =>
      t.wd.inbox = none ∧ t.wd.prepared = none ∧
        t.wd.reply = some (leBytes 1 (fieldOf m 0 1 % 128 + 128) ++ leBytes 1 (fieldOf m 1 1) ++ leBytes 2 y.length ++ y)) ∧
    (∀ src g b, (∀ f ∈ s.flights, f.src = src → f.phase ≠ .warden) → Gives (.wardenReply ⟨some src, g, b⟩) s fun t => t = s) ∧
    ∀ src g b f, (flightAt s src fun x => decide (x.phase = .warden)) = some f →
      (f.op ∈ [0x18, 0x19, 0xE1, 0xE6, 0xE7] → Gives (.wardenReply ⟨some src, g, b⟩) s fun t => ∀ x ∈ t.flights, x.id ≠ f.id) ∧
      (f.op = 0xE7 → Gives (.wardenReply ⟨some src, g, b⟩) s fun t => ∀ k ∈ t.wd.keys, k.id ≠ dget f.desc 16 4)

/-- What some commands leave once their work begins. For an accepted command whose first completion is due, with no
fence, and whose number no other command bears. EVENT_MASK of one source sets its mask as MASK says.
EVENT_PEND_SET sets the soft pending bit, or with CLEAR clears it and the causes, but for those set again in
this tick. EVENT_GLOBAL_DISABLE sets or clears the function's global disable. HEAD_UNDERRUN sets the policy of a
configured head. HAPTIC_CONFIG leaves the channel idle, with no fault, at the configured values. MEM_POWERDOWN
sets PD_IDLE. POWER_RETAIN sets the retention bits of the bays that lie at or above the watermark.
POWER_WAKE_CONFIG sets the wake configuration. DIAG_LEDGER_CLEAR clears each bit the mask names that is set and
whose class is not HALT, but for one set or asserted again in this tick, and no other (that a tick stands for
the cycle of R10 is the model's choice, log entry 47). DIAG_FAULT_INJECT sets the source it names. But for
DIAG_FAULT_INJECT, whose reaction follows, each is then no longer in flight. (R427, R725, R744, R746, R748, R801, R802, R833, R835). -/
def Obligations.CommandEffects : Prop :=
  ∀ (s : State) (f : Flight), FirstDue s f → (∀ g ∈ s.flights, g.id = f.id → g = f) →
    let d := f.desc
    let after := fun (p : State → Prop) => Gives (.firstCompletion f.src) s fun t => p t ∧ ∀ g ∈ t.flights, g.id ≠ f.id
    (f.op = 0xB2 → dbit d 18 1 = false → ∀ n, sourceOf s f.src.fn (dget d 16 2) = some n → after fun t =>
      (evSrc t n).mask = dbit d 18 0 ∧ (evSrc t n).cause = (evSrc s n).cause) ∧
    (f.op = 0xB3 → ∀ n, sourceOf s f.src.fn (dget d 16 2) = some n → after fun t =>
      (dget d 18 1 = 0 → (evSrc t n).soft = true ∧ (evSrc t n).cause = (evSrc s n).cause) ∧
      (dget d 18 1 ≠ 0 → (evSrc t n).soft = false ∧ (evSrc t n).cause =
        w1c (evSrc s n).cause (maskOff 0xFFFF (if (evSrc s n).againAt = now s then (evSrc s n).again else 0)))) ∧
    (f.op = 0xB4 → after fun t => t.ev.gdis.testBit f.src.fn = dbit d 16 0) ∧
    (f.op = 0x44 → ∀ c, (headOf s (dget d 16 1)).cfg = some c → after fun t =>
      (headOf t (dget d 16 1)).cfg = some { c with blankRest := decide (dget d 17 1 = 1) }) ∧
    (f.op = 0x80 → after fun t => let v := hapOf t (f.aux.headD 16)
      v.stage = .idle ∧ v.cause = 0 ∧ v.clip = false ∧ v.rated = dget d 20 2 ∧ v.brakeMv = dget d 26 2 ∧ v.maxMa = dget d 28 2 ∧
        v.half = halfOf (dget d 18 2) ∧ v.waiting = none) ∧
    (f.op = 0xD2 → after fun t => t.dram.pdIdle = dget d 16 4) ∧
    (f.op = 0xC1 → after fun t => ∀ b, b < 48 → t.sr.retain.testBit b =
      if 16 * b < s.sr.wm then s.sr.retain.testBit b else (dget d 16 6).testBit b) ∧
    (f.op = 0xC3 → after fun t => t.pw.wakeAddr = dbits d 16 0 7 ∧ t.pw.watchPort = dbits d 17 0 3 ∧ t.pw.touchEn = dbit d 17 3 ∧
      t.pw.hostEn = dbit d 17 4 ∧ t.pw.wakeScans = dbits d 18 0 4 ∧ t.pw.wakeThresh = dget d 20 2 ∧ t.pw.trigMask = dget d 22 2) ∧
    (f.op = 0xF2 → after fun t => ∀ b, b < 40 →
      (lgSrc t b).on = ((lgSrc s b).on && !((dget d 16 8).testBit b && decide (lgClass s b ≠ 3) &&
        decide ((lgSrc s b).stamp ≠ now s) && decide ((lgSrc s b).setAt ≠ some (now s))))) ∧
    (f.op = 0xF3 → dget d 16 1 < 40 → Gives (.firstCompletion f.src) s fun t => (lgSrc t (dget d 16 1)).on = true)
end

