-- ==== Sys2Proof/Laws/State.lean ====
section
/-! SUPPORT. What each update of a part leaves of every other part. -/

namespace Sys2Proof.Machine

variable (s : State)

@[simp] theorem modTl_tl (f : Timeline → Timeline) : (s.modTl f).tl = f s.tl := rfl
@[simp] theorem modTl_wheels (f : Timeline → Timeline) : (s.modTl f).wheels = s.wheels := rfl
@[simp] theorem modTl_pcie (f : Timeline → Timeline) : (s.modTl f).pcie = s.pcie := rfl
@[simp] theorem modTl_fns (f : Timeline → Timeline) : (s.modTl f).fns = s.fns := rfl
@[simp] theorem modTl_crs (f : Timeline → Timeline) : (s.modTl f).crs = s.crs := rfl
@[simp] theorem modTl_evr (f : Timeline → Timeline) : (s.modTl f).evr = s.evr := rfl
@[simp] theorem modTl_ev (f : Timeline → Timeline) : (s.modTl f).ev = s.ev := rfl
@[simp] theorem modTl_lg (f : Timeline → Timeline) : (s.modTl f).lg = s.lg := rfl
@[simp] theorem modTl_tens (f : Timeline → Timeline) : (s.modTl f).tens = s.tens := rfl
@[simp] theorem modTl_loads (f : Timeline → Timeline) : (s.modTl f).loads = s.loads := rfl
@[simp] theorem modTl_visible (f : Timeline → Timeline) : (s.modTl f).visible = s.visible := rfl
@[simp] theorem modTl_flights (f : Timeline → Timeline) : (s.modTl f).flights = s.flights := rfl
@[simp] theorem modTl_charges (f : Timeline → Timeline) : (s.modTl f).charges = s.charges := rfl
@[simp] theorem modTl_sr (f : Timeline → Timeline) : (s.modTl f).sr = s.sr := rfl
@[simp] theorem modTl_comp (f : Timeline → Timeline) : (s.modTl f).comp = s.comp := rfl
@[simp] theorem modTl_au (f : Timeline → Timeline) : (s.modTl f).au = s.au := rfl
@[simp] theorem modTl_gpu (f : Timeline → Timeline) : (s.modTl f).gpu = s.gpu := rfl
@[simp] theorem modTl_dma (f : Timeline → Timeline) : (s.modTl f).dma = s.dma := rfl
@[simp] theorem modTl_dram (f : Timeline → Timeline) : (s.modTl f).dram = s.dram := rfl
@[simp] theorem modTl_audio (f : Timeline → Timeline) : (s.modTl f).audio = s.audio := rfl
@[simp] theorem modTl_touch (f : Timeline → Timeline) : (s.modTl f).touch = s.touch := rfl
@[simp] theorem modTl_haptic (f : Timeline → Timeline) : (s.modTl f).haptic = s.haptic := rfl
@[simp] theorem modTl_wd (f : Timeline → Timeline) : (s.modTl f).wd = s.wd := rfl
@[simp] theorem modTl_pw (f : Timeline → Timeline) : (s.modTl f).pw = s.pw := rfl
@[simp] theorem modTl_hokusaSafe (f : Timeline → Timeline) : (s.modTl f).hokusaSafe = s.hokusaSafe := rfl
@[simp] theorem modTl_host (f : Timeline → Timeline) : (s.modTl f).host = s.host := rfl
@[simp] theorem modTl_nextId (f : Timeline → Timeline) : (s.modTl f).nextId = s.nextId := rfl
@[simp] theorem modTl_free (f : Timeline → Timeline) : (s.modTl f).free = s.free := rfl
@[simp] theorem modTl_pending (f : Timeline → Timeline) : (s.modTl f).pending = s.pending := rfl

@[simp] theorem modWheels_tl (f : Wheels → Wheels) : (s.modWheels f).tl = s.tl := rfl
@[simp] theorem modWheels_wheels (f : Wheels → Wheels) : (s.modWheels f).wheels = f s.wheels := rfl
@[simp] theorem modWheels_pcie (f : Wheels → Wheels) : (s.modWheels f).pcie = s.pcie := rfl
@[simp] theorem modWheels_fns (f : Wheels → Wheels) : (s.modWheels f).fns = s.fns := rfl
@[simp] theorem modWheels_crs (f : Wheels → Wheels) : (s.modWheels f).crs = s.crs := rfl
@[simp] theorem modWheels_evr (f : Wheels → Wheels) : (s.modWheels f).evr = s.evr := rfl
@[simp] theorem modWheels_ev (f : Wheels → Wheels) : (s.modWheels f).ev = s.ev := rfl
@[simp] theorem modWheels_lg (f : Wheels → Wheels) : (s.modWheels f).lg = s.lg := rfl
@[simp] theorem modWheels_tens (f : Wheels → Wheels) : (s.modWheels f).tens = s.tens := rfl
@[simp] theorem modWheels_loads (f : Wheels → Wheels) : (s.modWheels f).loads = s.loads := rfl
@[simp] theorem modWheels_visible (f : Wheels → Wheels) : (s.modWheels f).visible = s.visible := rfl
@[simp] theorem modWheels_flights (f : Wheels → Wheels) : (s.modWheels f).flights = s.flights := rfl
@[simp] theorem modWheels_charges (f : Wheels → Wheels) : (s.modWheels f).charges = s.charges := rfl
@[simp] theorem modWheels_sr (f : Wheels → Wheels) : (s.modWheels f).sr = s.sr := rfl
@[simp] theorem modWheels_comp (f : Wheels → Wheels) : (s.modWheels f).comp = s.comp := rfl
@[simp] theorem modWheels_au (f : Wheels → Wheels) : (s.modWheels f).au = s.au := rfl
@[simp] theorem modWheels_gpu (f : Wheels → Wheels) : (s.modWheels f).gpu = s.gpu := rfl
@[simp] theorem modWheels_dma (f : Wheels → Wheels) : (s.modWheels f).dma = s.dma := rfl
@[simp] theorem modWheels_dram (f : Wheels → Wheels) : (s.modWheels f).dram = s.dram := rfl
@[simp] theorem modWheels_audio (f : Wheels → Wheels) : (s.modWheels f).audio = s.audio := rfl
@[simp] theorem modWheels_touch (f : Wheels → Wheels) : (s.modWheels f).touch = s.touch := rfl
@[simp] theorem modWheels_haptic (f : Wheels → Wheels) : (s.modWheels f).haptic = s.haptic := rfl
@[simp] theorem modWheels_wd (f : Wheels → Wheels) : (s.modWheels f).wd = s.wd := rfl
@[simp] theorem modWheels_pw (f : Wheels → Wheels) : (s.modWheels f).pw = s.pw := rfl
@[simp] theorem modWheels_hokusaSafe (f : Wheels → Wheels) : (s.modWheels f).hokusaSafe = s.hokusaSafe := rfl
@[simp] theorem modWheels_host (f : Wheels → Wheels) : (s.modWheels f).host = s.host := rfl
@[simp] theorem modWheels_nextId (f : Wheels → Wheels) : (s.modWheels f).nextId = s.nextId := rfl
@[simp] theorem modWheels_free (f : Wheels → Wheels) : (s.modWheels f).free = s.free := rfl
@[simp] theorem modWheels_pending (f : Wheels → Wheels) : (s.modWheels f).pending = s.pending := rfl

@[simp] theorem modPcie_tl (f : Pcie → Pcie) : (s.modPcie f).tl = s.tl := rfl
@[simp] theorem modPcie_wheels (f : Pcie → Pcie) : (s.modPcie f).wheels = s.wheels := rfl
@[simp] theorem modPcie_pcie (f : Pcie → Pcie) : (s.modPcie f).pcie = f s.pcie := rfl
@[simp] theorem modPcie_fns (f : Pcie → Pcie) : (s.modPcie f).fns = s.fns := rfl
@[simp] theorem modPcie_crs (f : Pcie → Pcie) : (s.modPcie f).crs = s.crs := rfl
@[simp] theorem modPcie_evr (f : Pcie → Pcie) : (s.modPcie f).evr = s.evr := rfl
@[simp] theorem modPcie_ev (f : Pcie → Pcie) : (s.modPcie f).ev = s.ev := rfl
@[simp] theorem modPcie_lg (f : Pcie → Pcie) : (s.modPcie f).lg = s.lg := rfl
@[simp] theorem modPcie_tens (f : Pcie → Pcie) : (s.modPcie f).tens = s.tens := rfl
@[simp] theorem modPcie_loads (f : Pcie → Pcie) : (s.modPcie f).loads = s.loads := rfl
@[simp] theorem modPcie_visible (f : Pcie → Pcie) : (s.modPcie f).visible = s.visible := rfl
@[simp] theorem modPcie_flights (f : Pcie → Pcie) : (s.modPcie f).flights = s.flights := rfl
@[simp] theorem modPcie_charges (f : Pcie → Pcie) : (s.modPcie f).charges = s.charges := rfl
@[simp] theorem modPcie_sr (f : Pcie → Pcie) : (s.modPcie f).sr = s.sr := rfl
@[simp] theorem modPcie_comp (f : Pcie → Pcie) : (s.modPcie f).comp = s.comp := rfl
@[simp] theorem modPcie_au (f : Pcie → Pcie) : (s.modPcie f).au = s.au := rfl
@[simp] theorem modPcie_gpu (f : Pcie → Pcie) : (s.modPcie f).gpu = s.gpu := rfl
@[simp] theorem modPcie_dma (f : Pcie → Pcie) : (s.modPcie f).dma = s.dma := rfl
@[simp] theorem modPcie_dram (f : Pcie → Pcie) : (s.modPcie f).dram = s.dram := rfl
@[simp] theorem modPcie_audio (f : Pcie → Pcie) : (s.modPcie f).audio = s.audio := rfl
@[simp] theorem modPcie_touch (f : Pcie → Pcie) : (s.modPcie f).touch = s.touch := rfl
@[simp] theorem modPcie_haptic (f : Pcie → Pcie) : (s.modPcie f).haptic = s.haptic := rfl
@[simp] theorem modPcie_wd (f : Pcie → Pcie) : (s.modPcie f).wd = s.wd := rfl
@[simp] theorem modPcie_pw (f : Pcie → Pcie) : (s.modPcie f).pw = s.pw := rfl
@[simp] theorem modPcie_hokusaSafe (f : Pcie → Pcie) : (s.modPcie f).hokusaSafe = s.hokusaSafe := rfl
@[simp] theorem modPcie_host (f : Pcie → Pcie) : (s.modPcie f).host = s.host := rfl
@[simp] theorem modPcie_nextId (f : Pcie → Pcie) : (s.modPcie f).nextId = s.nextId := rfl
@[simp] theorem modPcie_free (f : Pcie → Pcie) : (s.modPcie f).free = s.free := rfl
@[simp] theorem modPcie_pending (f : Pcie → Pcie) : (s.modPcie f).pending = s.pending := rfl

@[simp] theorem modFns_tl (f : Tab Fn → Tab Fn) : (s.modFns f).tl = s.tl := rfl
@[simp] theorem modFns_wheels (f : Tab Fn → Tab Fn) : (s.modFns f).wheels = s.wheels := rfl
@[simp] theorem modFns_pcie (f : Tab Fn → Tab Fn) : (s.modFns f).pcie = s.pcie := rfl
@[simp] theorem modFns_fns (f : Tab Fn → Tab Fn) : (s.modFns f).fns = f s.fns := rfl
@[simp] theorem modFns_crs (f : Tab Fn → Tab Fn) : (s.modFns f).crs = s.crs := rfl
@[simp] theorem modFns_evr (f : Tab Fn → Tab Fn) : (s.modFns f).evr = s.evr := rfl
@[simp] theorem modFns_ev (f : Tab Fn → Tab Fn) : (s.modFns f).ev = s.ev := rfl
@[simp] theorem modFns_lg (f : Tab Fn → Tab Fn) : (s.modFns f).lg = s.lg := rfl
@[simp] theorem modFns_tens (f : Tab Fn → Tab Fn) : (s.modFns f).tens = s.tens := rfl
@[simp] theorem modFns_loads (f : Tab Fn → Tab Fn) : (s.modFns f).loads = s.loads := rfl
@[simp] theorem modFns_visible (f : Tab Fn → Tab Fn) : (s.modFns f).visible = s.visible := rfl
@[simp] theorem modFns_flights (f : Tab Fn → Tab Fn) : (s.modFns f).flights = s.flights := rfl
@[simp] theorem modFns_charges (f : Tab Fn → Tab Fn) : (s.modFns f).charges = s.charges := rfl
@[simp] theorem modFns_sr (f : Tab Fn → Tab Fn) : (s.modFns f).sr = s.sr := rfl
@[simp] theorem modFns_comp (f : Tab Fn → Tab Fn) : (s.modFns f).comp = s.comp := rfl
@[simp] theorem modFns_au (f : Tab Fn → Tab Fn) : (s.modFns f).au = s.au := rfl
@[simp] theorem modFns_gpu (f : Tab Fn → Tab Fn) : (s.modFns f).gpu = s.gpu := rfl
@[simp] theorem modFns_dma (f : Tab Fn → Tab Fn) : (s.modFns f).dma = s.dma := rfl
@[simp] theorem modFns_dram (f : Tab Fn → Tab Fn) : (s.modFns f).dram = s.dram := rfl
@[simp] theorem modFns_audio (f : Tab Fn → Tab Fn) : (s.modFns f).audio = s.audio := rfl
@[simp] theorem modFns_touch (f : Tab Fn → Tab Fn) : (s.modFns f).touch = s.touch := rfl
@[simp] theorem modFns_haptic (f : Tab Fn → Tab Fn) : (s.modFns f).haptic = s.haptic := rfl
@[simp] theorem modFns_wd (f : Tab Fn → Tab Fn) : (s.modFns f).wd = s.wd := rfl
@[simp] theorem modFns_pw (f : Tab Fn → Tab Fn) : (s.modFns f).pw = s.pw := rfl
@[simp] theorem modFns_hokusaSafe (f : Tab Fn → Tab Fn) : (s.modFns f).hokusaSafe = s.hokusaSafe := rfl
@[simp] theorem modFns_host (f : Tab Fn → Tab Fn) : (s.modFns f).host = s.host := rfl
@[simp] theorem modFns_nextId (f : Tab Fn → Tab Fn) : (s.modFns f).nextId = s.nextId := rfl
@[simp] theorem modFns_free (f : Tab Fn → Tab Fn) : (s.modFns f).free = s.free := rfl
@[simp] theorem modFns_pending (f : Tab Fn → Tab Fn) : (s.modFns f).pending = s.pending := rfl

@[simp] theorem modCrs_tl (f : Tab CmdRing → Tab CmdRing) : (s.modCrs f).tl = s.tl := rfl
@[simp] theorem modCrs_wheels (f : Tab CmdRing → Tab CmdRing) : (s.modCrs f).wheels = s.wheels := rfl
@[simp] theorem modCrs_pcie (f : Tab CmdRing → Tab CmdRing) : (s.modCrs f).pcie = s.pcie := rfl
@[simp] theorem modCrs_fns (f : Tab CmdRing → Tab CmdRing) : (s.modCrs f).fns = s.fns := rfl
@[simp] theorem modCrs_crs (f : Tab CmdRing → Tab CmdRing) : (s.modCrs f).crs = f s.crs := rfl
@[simp] theorem modCrs_evr (f : Tab CmdRing → Tab CmdRing) : (s.modCrs f).evr = s.evr := rfl
@[simp] theorem modCrs_ev (f : Tab CmdRing → Tab CmdRing) : (s.modCrs f).ev = s.ev := rfl
@[simp] theorem modCrs_lg (f : Tab CmdRing → Tab CmdRing) : (s.modCrs f).lg = s.lg := rfl
@[simp] theorem modCrs_tens (f : Tab CmdRing → Tab CmdRing) : (s.modCrs f).tens = s.tens := rfl
@[simp] theorem modCrs_loads (f : Tab CmdRing → Tab CmdRing) : (s.modCrs f).loads = s.loads := rfl
@[simp] theorem modCrs_visible (f : Tab CmdRing → Tab CmdRing) : (s.modCrs f).visible = s.visible := rfl
@[simp] theorem modCrs_flights (f : Tab CmdRing → Tab CmdRing) : (s.modCrs f).flights = s.flights := rfl
@[simp] theorem modCrs_charges (f : Tab CmdRing → Tab CmdRing) : (s.modCrs f).charges = s.charges := rfl
@[simp] theorem modCrs_sr (f : Tab CmdRing → Tab CmdRing) : (s.modCrs f).sr = s.sr := rfl
@[simp] theorem modCrs_comp (f : Tab CmdRing → Tab CmdRing) : (s.modCrs f).comp = s.comp := rfl
@[simp] theorem modCrs_au (f : Tab CmdRing → Tab CmdRing) : (s.modCrs f).au = s.au := rfl
@[simp] theorem modCrs_gpu (f : Tab CmdRing → Tab CmdRing) : (s.modCrs f).gpu = s.gpu := rfl
@[simp] theorem modCrs_dma (f : Tab CmdRing → Tab CmdRing) : (s.modCrs f).dma = s.dma := rfl
@[simp] theorem modCrs_dram (f : Tab CmdRing → Tab CmdRing) : (s.modCrs f).dram = s.dram := rfl
@[simp] theorem modCrs_audio (f : Tab CmdRing → Tab CmdRing) : (s.modCrs f).audio = s.audio := rfl
@[simp] theorem modCrs_touch (f : Tab CmdRing → Tab CmdRing) : (s.modCrs f).touch = s.touch := rfl
@[simp] theorem modCrs_haptic (f : Tab CmdRing → Tab CmdRing) : (s.modCrs f).haptic = s.haptic := rfl
@[simp] theorem modCrs_wd (f : Tab CmdRing → Tab CmdRing) : (s.modCrs f).wd = s.wd := rfl
@[simp] theorem modCrs_pw (f : Tab CmdRing → Tab CmdRing) : (s.modCrs f).pw = s.pw := rfl
@[simp] theorem modCrs_hokusaSafe (f : Tab CmdRing → Tab CmdRing) : (s.modCrs f).hokusaSafe = s.hokusaSafe := rfl
@[simp] theorem modCrs_host (f : Tab CmdRing → Tab CmdRing) : (s.modCrs f).host = s.host := rfl
@[simp] theorem modCrs_nextId (f : Tab CmdRing → Tab CmdRing) : (s.modCrs f).nextId = s.nextId := rfl
@[simp] theorem modCrs_free (f : Tab CmdRing → Tab CmdRing) : (s.modCrs f).free = s.free := rfl
@[simp] theorem modCrs_pending (f : Tab CmdRing → Tab CmdRing) : (s.modCrs f).pending = s.pending := rfl

@[simp] theorem modEvr_tl (f : Tab EvRing → Tab EvRing) : (s.modEvr f).tl = s.tl := rfl
@[simp] theorem modEvr_wheels (f : Tab EvRing → Tab EvRing) : (s.modEvr f).wheels = s.wheels := rfl
@[simp] theorem modEvr_pcie (f : Tab EvRing → Tab EvRing) : (s.modEvr f).pcie = s.pcie := rfl
@[simp] theorem modEvr_fns (f : Tab EvRing → Tab EvRing) : (s.modEvr f).fns = s.fns := rfl
@[simp] theorem modEvr_crs (f : Tab EvRing → Tab EvRing) : (s.modEvr f).crs = s.crs := rfl
@[simp] theorem modEvr_evr (f : Tab EvRing → Tab EvRing) : (s.modEvr f).evr = f s.evr := rfl
@[simp] theorem modEvr_ev (f : Tab EvRing → Tab EvRing) : (s.modEvr f).ev = s.ev := rfl
@[simp] theorem modEvr_lg (f : Tab EvRing → Tab EvRing) : (s.modEvr f).lg = s.lg := rfl
@[simp] theorem modEvr_tens (f : Tab EvRing → Tab EvRing) : (s.modEvr f).tens = s.tens := rfl
@[simp] theorem modEvr_loads (f : Tab EvRing → Tab EvRing) : (s.modEvr f).loads = s.loads := rfl
@[simp] theorem modEvr_visible (f : Tab EvRing → Tab EvRing) : (s.modEvr f).visible = s.visible := rfl
@[simp] theorem modEvr_flights (f : Tab EvRing → Tab EvRing) : (s.modEvr f).flights = s.flights := rfl
@[simp] theorem modEvr_charges (f : Tab EvRing → Tab EvRing) : (s.modEvr f).charges = s.charges := rfl
@[simp] theorem modEvr_sr (f : Tab EvRing → Tab EvRing) : (s.modEvr f).sr = s.sr := rfl
@[simp] theorem modEvr_comp (f : Tab EvRing → Tab EvRing) : (s.modEvr f).comp = s.comp := rfl
@[simp] theorem modEvr_au (f : Tab EvRing → Tab EvRing) : (s.modEvr f).au = s.au := rfl
@[simp] theorem modEvr_gpu (f : Tab EvRing → Tab EvRing) : (s.modEvr f).gpu = s.gpu := rfl
@[simp] theorem modEvr_dma (f : Tab EvRing → Tab EvRing) : (s.modEvr f).dma = s.dma := rfl
@[simp] theorem modEvr_dram (f : Tab EvRing → Tab EvRing) : (s.modEvr f).dram = s.dram := rfl
@[simp] theorem modEvr_audio (f : Tab EvRing → Tab EvRing) : (s.modEvr f).audio = s.audio := rfl
@[simp] theorem modEvr_touch (f : Tab EvRing → Tab EvRing) : (s.modEvr f).touch = s.touch := rfl
@[simp] theorem modEvr_haptic (f : Tab EvRing → Tab EvRing) : (s.modEvr f).haptic = s.haptic := rfl
@[simp] theorem modEvr_wd (f : Tab EvRing → Tab EvRing) : (s.modEvr f).wd = s.wd := rfl
@[simp] theorem modEvr_pw (f : Tab EvRing → Tab EvRing) : (s.modEvr f).pw = s.pw := rfl
@[simp] theorem modEvr_hokusaSafe (f : Tab EvRing → Tab EvRing) : (s.modEvr f).hokusaSafe = s.hokusaSafe := rfl
@[simp] theorem modEvr_host (f : Tab EvRing → Tab EvRing) : (s.modEvr f).host = s.host := rfl
@[simp] theorem modEvr_nextId (f : Tab EvRing → Tab EvRing) : (s.modEvr f).nextId = s.nextId := rfl
@[simp] theorem modEvr_free (f : Tab EvRing → Tab EvRing) : (s.modEvr f).free = s.free := rfl
@[simp] theorem modEvr_pending (f : Tab EvRing → Tab EvRing) : (s.modEvr f).pending = s.pending := rfl

@[simp] theorem modEv_tl (f : Events → Events) : (s.modEv f).tl = s.tl := rfl
@[simp] theorem modEv_wheels (f : Events → Events) : (s.modEv f).wheels = s.wheels := rfl
@[simp] theorem modEv_pcie (f : Events → Events) : (s.modEv f).pcie = s.pcie := rfl
@[simp] theorem modEv_fns (f : Events → Events) : (s.modEv f).fns = s.fns := rfl
@[simp] theorem modEv_crs (f : Events → Events) : (s.modEv f).crs = s.crs := rfl
@[simp] theorem modEv_evr (f : Events → Events) : (s.modEv f).evr = s.evr := rfl
@[simp] theorem modEv_ev (f : Events → Events) : (s.modEv f).ev = f s.ev := rfl
@[simp] theorem modEv_lg (f : Events → Events) : (s.modEv f).lg = s.lg := rfl
@[simp] theorem modEv_tens (f : Events → Events) : (s.modEv f).tens = s.tens := rfl
@[simp] theorem modEv_loads (f : Events → Events) : (s.modEv f).loads = s.loads := rfl
@[simp] theorem modEv_visible (f : Events → Events) : (s.modEv f).visible = s.visible := rfl
@[simp] theorem modEv_flights (f : Events → Events) : (s.modEv f).flights = s.flights := rfl
@[simp] theorem modEv_charges (f : Events → Events) : (s.modEv f).charges = s.charges := rfl
@[simp] theorem modEv_sr (f : Events → Events) : (s.modEv f).sr = s.sr := rfl
@[simp] theorem modEv_comp (f : Events → Events) : (s.modEv f).comp = s.comp := rfl
@[simp] theorem modEv_au (f : Events → Events) : (s.modEv f).au = s.au := rfl
@[simp] theorem modEv_gpu (f : Events → Events) : (s.modEv f).gpu = s.gpu := rfl
@[simp] theorem modEv_dma (f : Events → Events) : (s.modEv f).dma = s.dma := rfl
@[simp] theorem modEv_dram (f : Events → Events) : (s.modEv f).dram = s.dram := rfl
@[simp] theorem modEv_audio (f : Events → Events) : (s.modEv f).audio = s.audio := rfl
@[simp] theorem modEv_touch (f : Events → Events) : (s.modEv f).touch = s.touch := rfl
@[simp] theorem modEv_haptic (f : Events → Events) : (s.modEv f).haptic = s.haptic := rfl
@[simp] theorem modEv_wd (f : Events → Events) : (s.modEv f).wd = s.wd := rfl
@[simp] theorem modEv_pw (f : Events → Events) : (s.modEv f).pw = s.pw := rfl
@[simp] theorem modEv_hokusaSafe (f : Events → Events) : (s.modEv f).hokusaSafe = s.hokusaSafe := rfl
@[simp] theorem modEv_host (f : Events → Events) : (s.modEv f).host = s.host := rfl
@[simp] theorem modEv_nextId (f : Events → Events) : (s.modEv f).nextId = s.nextId := rfl
@[simp] theorem modEv_free (f : Events → Events) : (s.modEv f).free = s.free := rfl
@[simp] theorem modEv_pending (f : Events → Events) : (s.modEv f).pending = s.pending := rfl

@[simp] theorem modLg_tl (f : Ledger → Ledger) : (s.modLg f).tl = s.tl := rfl
@[simp] theorem modLg_wheels (f : Ledger → Ledger) : (s.modLg f).wheels = s.wheels := rfl
@[simp] theorem modLg_pcie (f : Ledger → Ledger) : (s.modLg f).pcie = s.pcie := rfl
@[simp] theorem modLg_fns (f : Ledger → Ledger) : (s.modLg f).fns = s.fns := rfl
@[simp] theorem modLg_crs (f : Ledger → Ledger) : (s.modLg f).crs = s.crs := rfl
@[simp] theorem modLg_evr (f : Ledger → Ledger) : (s.modLg f).evr = s.evr := rfl
@[simp] theorem modLg_ev (f : Ledger → Ledger) : (s.modLg f).ev = s.ev := rfl
@[simp] theorem modLg_lg (f : Ledger → Ledger) : (s.modLg f).lg = f s.lg := rfl
@[simp] theorem modLg_tens (f : Ledger → Ledger) : (s.modLg f).tens = s.tens := rfl
@[simp] theorem modLg_loads (f : Ledger → Ledger) : (s.modLg f).loads = s.loads := rfl
@[simp] theorem modLg_visible (f : Ledger → Ledger) : (s.modLg f).visible = s.visible := rfl
@[simp] theorem modLg_flights (f : Ledger → Ledger) : (s.modLg f).flights = s.flights := rfl
@[simp] theorem modLg_charges (f : Ledger → Ledger) : (s.modLg f).charges = s.charges := rfl
@[simp] theorem modLg_sr (f : Ledger → Ledger) : (s.modLg f).sr = s.sr := rfl
@[simp] theorem modLg_comp (f : Ledger → Ledger) : (s.modLg f).comp = s.comp := rfl
@[simp] theorem modLg_au (f : Ledger → Ledger) : (s.modLg f).au = s.au := rfl
@[simp] theorem modLg_gpu (f : Ledger → Ledger) : (s.modLg f).gpu = s.gpu := rfl
@[simp] theorem modLg_dma (f : Ledger → Ledger) : (s.modLg f).dma = s.dma := rfl
@[simp] theorem modLg_dram (f : Ledger → Ledger) : (s.modLg f).dram = s.dram := rfl
@[simp] theorem modLg_audio (f : Ledger → Ledger) : (s.modLg f).audio = s.audio := rfl
@[simp] theorem modLg_touch (f : Ledger → Ledger) : (s.modLg f).touch = s.touch := rfl
@[simp] theorem modLg_haptic (f : Ledger → Ledger) : (s.modLg f).haptic = s.haptic := rfl
@[simp] theorem modLg_wd (f : Ledger → Ledger) : (s.modLg f).wd = s.wd := rfl
@[simp] theorem modLg_pw (f : Ledger → Ledger) : (s.modLg f).pw = s.pw := rfl
@[simp] theorem modLg_hokusaSafe (f : Ledger → Ledger) : (s.modLg f).hokusaSafe = s.hokusaSafe := rfl
@[simp] theorem modLg_host (f : Ledger → Ledger) : (s.modLg f).host = s.host := rfl
@[simp] theorem modLg_nextId (f : Ledger → Ledger) : (s.modLg f).nextId = s.nextId := rfl
@[simp] theorem modLg_free (f : Ledger → Ledger) : (s.modLg f).free = s.free := rfl
@[simp] theorem modLg_pending (f : Ledger → Ledger) : (s.modLg f).pending = s.pending := rfl

@[simp] theorem modTens_tl (f : Tab Tenancy → Tab Tenancy) : (s.modTens f).tl = s.tl := rfl
@[simp] theorem modTens_wheels (f : Tab Tenancy → Tab Tenancy) : (s.modTens f).wheels = s.wheels := rfl
@[simp] theorem modTens_pcie (f : Tab Tenancy → Tab Tenancy) : (s.modTens f).pcie = s.pcie := rfl
@[simp] theorem modTens_fns (f : Tab Tenancy → Tab Tenancy) : (s.modTens f).fns = s.fns := rfl
@[simp] theorem modTens_crs (f : Tab Tenancy → Tab Tenancy) : (s.modTens f).crs = s.crs := rfl
@[simp] theorem modTens_evr (f : Tab Tenancy → Tab Tenancy) : (s.modTens f).evr = s.evr := rfl
@[simp] theorem modTens_ev (f : Tab Tenancy → Tab Tenancy) : (s.modTens f).ev = s.ev := rfl
@[simp] theorem modTens_lg (f : Tab Tenancy → Tab Tenancy) : (s.modTens f).lg = s.lg := rfl
@[simp] theorem modTens_tens (f : Tab Tenancy → Tab Tenancy) : (s.modTens f).tens = f s.tens := rfl
@[simp] theorem modTens_loads (f : Tab Tenancy → Tab Tenancy) : (s.modTens f).loads = s.loads := rfl
@[simp] theorem modTens_visible (f : Tab Tenancy → Tab Tenancy) : (s.modTens f).visible = s.visible := rfl
@[simp] theorem modTens_flights (f : Tab Tenancy → Tab Tenancy) : (s.modTens f).flights = s.flights := rfl
@[simp] theorem modTens_charges (f : Tab Tenancy → Tab Tenancy) : (s.modTens f).charges = s.charges := rfl
@[simp] theorem modTens_sr (f : Tab Tenancy → Tab Tenancy) : (s.modTens f).sr = s.sr := rfl
@[simp] theorem modTens_comp (f : Tab Tenancy → Tab Tenancy) : (s.modTens f).comp = s.comp := rfl
@[simp] theorem modTens_au (f : Tab Tenancy → Tab Tenancy) : (s.modTens f).au = s.au := rfl
@[simp] theorem modTens_gpu (f : Tab Tenancy → Tab Tenancy) : (s.modTens f).gpu = s.gpu := rfl
@[simp] theorem modTens_dma (f : Tab Tenancy → Tab Tenancy) : (s.modTens f).dma = s.dma := rfl
@[simp] theorem modTens_dram (f : Tab Tenancy → Tab Tenancy) : (s.modTens f).dram = s.dram := rfl
@[simp] theorem modTens_audio (f : Tab Tenancy → Tab Tenancy) : (s.modTens f).audio = s.audio := rfl
@[simp] theorem modTens_touch (f : Tab Tenancy → Tab Tenancy) : (s.modTens f).touch = s.touch := rfl
@[simp] theorem modTens_haptic (f : Tab Tenancy → Tab Tenancy) : (s.modTens f).haptic = s.haptic := rfl
@[simp] theorem modTens_wd (f : Tab Tenancy → Tab Tenancy) : (s.modTens f).wd = s.wd := rfl
@[simp] theorem modTens_pw (f : Tab Tenancy → Tab Tenancy) : (s.modTens f).pw = s.pw := rfl
@[simp] theorem modTens_hokusaSafe (f : Tab Tenancy → Tab Tenancy) : (s.modTens f).hokusaSafe = s.hokusaSafe := rfl
@[simp] theorem modTens_host (f : Tab Tenancy → Tab Tenancy) : (s.modTens f).host = s.host := rfl
@[simp] theorem modTens_nextId (f : Tab Tenancy → Tab Tenancy) : (s.modTens f).nextId = s.nextId := rfl
@[simp] theorem modTens_free (f : Tab Tenancy → Tab Tenancy) : (s.modTens f).free = s.free := rfl
@[simp] theorem modTens_pending (f : Tab Tenancy → Tab Tenancy) : (s.modTens f).pending = s.pending := rfl

@[simp] theorem modLoads_tl (f : List PendingLoad → List PendingLoad) : (s.modLoads f).tl = s.tl := rfl
@[simp] theorem modLoads_wheels (f : List PendingLoad → List PendingLoad) : (s.modLoads f).wheels = s.wheels := rfl
@[simp] theorem modLoads_pcie (f : List PendingLoad → List PendingLoad) : (s.modLoads f).pcie = s.pcie := rfl
@[simp] theorem modLoads_fns (f : List PendingLoad → List PendingLoad) : (s.modLoads f).fns = s.fns := rfl
@[simp] theorem modLoads_crs (f : List PendingLoad → List PendingLoad) : (s.modLoads f).crs = s.crs := rfl
@[simp] theorem modLoads_evr (f : List PendingLoad → List PendingLoad) : (s.modLoads f).evr = s.evr := rfl
@[simp] theorem modLoads_ev (f : List PendingLoad → List PendingLoad) : (s.modLoads f).ev = s.ev := rfl
@[simp] theorem modLoads_lg (f : List PendingLoad → List PendingLoad) : (s.modLoads f).lg = s.lg := rfl
@[simp] theorem modLoads_tens (f : List PendingLoad → List PendingLoad) : (s.modLoads f).tens = s.tens := rfl
@[simp] theorem modLoads_loads (f : List PendingLoad → List PendingLoad) : (s.modLoads f).loads = f s.loads := rfl
@[simp] theorem modLoads_visible (f : List PendingLoad → List PendingLoad) : (s.modLoads f).visible = s.visible := rfl
@[simp] theorem modLoads_flights (f : List PendingLoad → List PendingLoad) : (s.modLoads f).flights = s.flights := rfl
@[simp] theorem modLoads_charges (f : List PendingLoad → List PendingLoad) : (s.modLoads f).charges = s.charges := rfl
@[simp] theorem modLoads_sr (f : List PendingLoad → List PendingLoad) : (s.modLoads f).sr = s.sr := rfl
@[simp] theorem modLoads_comp (f : List PendingLoad → List PendingLoad) : (s.modLoads f).comp = s.comp := rfl
@[simp] theorem modLoads_au (f : List PendingLoad → List PendingLoad) : (s.modLoads f).au = s.au := rfl
@[simp] theorem modLoads_gpu (f : List PendingLoad → List PendingLoad) : (s.modLoads f).gpu = s.gpu := rfl
@[simp] theorem modLoads_dma (f : List PendingLoad → List PendingLoad) : (s.modLoads f).dma = s.dma := rfl
@[simp] theorem modLoads_dram (f : List PendingLoad → List PendingLoad) : (s.modLoads f).dram = s.dram := rfl
@[simp] theorem modLoads_audio (f : List PendingLoad → List PendingLoad) : (s.modLoads f).audio = s.audio := rfl
@[simp] theorem modLoads_touch (f : List PendingLoad → List PendingLoad) : (s.modLoads f).touch = s.touch := rfl
@[simp] theorem modLoads_haptic (f : List PendingLoad → List PendingLoad) : (s.modLoads f).haptic = s.haptic := rfl
@[simp] theorem modLoads_wd (f : List PendingLoad → List PendingLoad) : (s.modLoads f).wd = s.wd := rfl
@[simp] theorem modLoads_pw (f : List PendingLoad → List PendingLoad) : (s.modLoads f).pw = s.pw := rfl
@[simp] theorem modLoads_hokusaSafe (f : List PendingLoad → List PendingLoad) : (s.modLoads f).hokusaSafe = s.hokusaSafe := rfl
@[simp] theorem modLoads_host (f : List PendingLoad → List PendingLoad) : (s.modLoads f).host = s.host := rfl
@[simp] theorem modLoads_nextId (f : List PendingLoad → List PendingLoad) : (s.modLoads f).nextId = s.nextId := rfl
@[simp] theorem modLoads_free (f : List PendingLoad → List PendingLoad) : (s.modLoads f).free = s.free := rfl
@[simp] theorem modLoads_pending (f : List PendingLoad → List PendingLoad) : (s.modLoads f).pending = s.pending := rfl

@[simp] theorem modVisible_tl (f : List Visible → List Visible) : (s.modVisible f).tl = s.tl := rfl
@[simp] theorem modVisible_wheels (f : List Visible → List Visible) : (s.modVisible f).wheels = s.wheels := rfl
@[simp] theorem modVisible_pcie (f : List Visible → List Visible) : (s.modVisible f).pcie = s.pcie := rfl
@[simp] theorem modVisible_fns (f : List Visible → List Visible) : (s.modVisible f).fns = s.fns := rfl
@[simp] theorem modVisible_crs (f : List Visible → List Visible) : (s.modVisible f).crs = s.crs := rfl
@[simp] theorem modVisible_evr (f : List Visible → List Visible) : (s.modVisible f).evr = s.evr := rfl
@[simp] theorem modVisible_ev (f : List Visible → List Visible) : (s.modVisible f).ev = s.ev := rfl
@[simp] theorem modVisible_lg (f : List Visible → List Visible) : (s.modVisible f).lg = s.lg := rfl
@[simp] theorem modVisible_tens (f : List Visible → List Visible) : (s.modVisible f).tens = s.tens := rfl
@[simp] theorem modVisible_loads (f : List Visible → List Visible) : (s.modVisible f).loads = s.loads := rfl
@[simp] theorem modVisible_visible (f : List Visible → List Visible) : (s.modVisible f).visible = f s.visible := rfl
@[simp] theorem modVisible_flights (f : List Visible → List Visible) : (s.modVisible f).flights = s.flights := rfl
@[simp] theorem modVisible_charges (f : List Visible → List Visible) : (s.modVisible f).charges = s.charges := rfl
@[simp] theorem modVisible_sr (f : List Visible → List Visible) : (s.modVisible f).sr = s.sr := rfl
@[simp] theorem modVisible_comp (f : List Visible → List Visible) : (s.modVisible f).comp = s.comp := rfl
@[simp] theorem modVisible_au (f : List Visible → List Visible) : (s.modVisible f).au = s.au := rfl
@[simp] theorem modVisible_gpu (f : List Visible → List Visible) : (s.modVisible f).gpu = s.gpu := rfl
@[simp] theorem modVisible_dma (f : List Visible → List Visible) : (s.modVisible f).dma = s.dma := rfl
@[simp] theorem modVisible_dram (f : List Visible → List Visible) : (s.modVisible f).dram = s.dram := rfl
@[simp] theorem modVisible_audio (f : List Visible → List Visible) : (s.modVisible f).audio = s.audio := rfl
@[simp] theorem modVisible_touch (f : List Visible → List Visible) : (s.modVisible f).touch = s.touch := rfl
@[simp] theorem modVisible_haptic (f : List Visible → List Visible) : (s.modVisible f).haptic = s.haptic := rfl
@[simp] theorem modVisible_wd (f : List Visible → List Visible) : (s.modVisible f).wd = s.wd := rfl
@[simp] theorem modVisible_pw (f : List Visible → List Visible) : (s.modVisible f).pw = s.pw := rfl
@[simp] theorem modVisible_hokusaSafe (f : List Visible → List Visible) : (s.modVisible f).hokusaSafe = s.hokusaSafe := rfl
@[simp] theorem modVisible_host (f : List Visible → List Visible) : (s.modVisible f).host = s.host := rfl
@[simp] theorem modVisible_nextId (f : List Visible → List Visible) : (s.modVisible f).nextId = s.nextId := rfl
@[simp] theorem modVisible_free (f : List Visible → List Visible) : (s.modVisible f).free = s.free := rfl
@[simp] theorem modVisible_pending (f : List Visible → List Visible) : (s.modVisible f).pending = s.pending := rfl

@[simp] theorem modFlights_tl (f : List Flight → List Flight) : (s.modFlights f).tl = s.tl := rfl
@[simp] theorem modFlights_wheels (f : List Flight → List Flight) : (s.modFlights f).wheels = s.wheels := rfl
@[simp] theorem modFlights_pcie (f : List Flight → List Flight) : (s.modFlights f).pcie = s.pcie := rfl
@[simp] theorem modFlights_fns (f : List Flight → List Flight) : (s.modFlights f).fns = s.fns := rfl
@[simp] theorem modFlights_crs (f : List Flight → List Flight) : (s.modFlights f).crs = s.crs := rfl
@[simp] theorem modFlights_evr (f : List Flight → List Flight) : (s.modFlights f).evr = s.evr := rfl
@[simp] theorem modFlights_ev (f : List Flight → List Flight) : (s.modFlights f).ev = s.ev := rfl
@[simp] theorem modFlights_lg (f : List Flight → List Flight) : (s.modFlights f).lg = s.lg := rfl
@[simp] theorem modFlights_tens (f : List Flight → List Flight) : (s.modFlights f).tens = s.tens := rfl
@[simp] theorem modFlights_loads (f : List Flight → List Flight) : (s.modFlights f).loads = s.loads := rfl
@[simp] theorem modFlights_visible (f : List Flight → List Flight) : (s.modFlights f).visible = s.visible := rfl
@[simp] theorem modFlights_flights (f : List Flight → List Flight) : (s.modFlights f).flights = f s.flights := rfl
@[simp] theorem modFlights_charges (f : List Flight → List Flight) : (s.modFlights f).charges = s.charges := rfl
@[simp] theorem modFlights_sr (f : List Flight → List Flight) : (s.modFlights f).sr = s.sr := rfl
@[simp] theorem modFlights_comp (f : List Flight → List Flight) : (s.modFlights f).comp = s.comp := rfl
@[simp] theorem modFlights_au (f : List Flight → List Flight) : (s.modFlights f).au = s.au := rfl
@[simp] theorem modFlights_gpu (f : List Flight → List Flight) : (s.modFlights f).gpu = s.gpu := rfl
@[simp] theorem modFlights_dma (f : List Flight → List Flight) : (s.modFlights f).dma = s.dma := rfl
@[simp] theorem modFlights_dram (f : List Flight → List Flight) : (s.modFlights f).dram = s.dram := rfl
@[simp] theorem modFlights_audio (f : List Flight → List Flight) : (s.modFlights f).audio = s.audio := rfl
@[simp] theorem modFlights_touch (f : List Flight → List Flight) : (s.modFlights f).touch = s.touch := rfl
@[simp] theorem modFlights_haptic (f : List Flight → List Flight) : (s.modFlights f).haptic = s.haptic := rfl
@[simp] theorem modFlights_wd (f : List Flight → List Flight) : (s.modFlights f).wd = s.wd := rfl
@[simp] theorem modFlights_pw (f : List Flight → List Flight) : (s.modFlights f).pw = s.pw := rfl
@[simp] theorem modFlights_hokusaSafe (f : List Flight → List Flight) : (s.modFlights f).hokusaSafe = s.hokusaSafe := rfl
@[simp] theorem modFlights_host (f : List Flight → List Flight) : (s.modFlights f).host = s.host := rfl
@[simp] theorem modFlights_nextId (f : List Flight → List Flight) : (s.modFlights f).nextId = s.nextId := rfl
@[simp] theorem modFlights_free (f : List Flight → List Flight) : (s.modFlights f).free = s.free := rfl
@[simp] theorem modFlights_pending (f : List Flight → List Flight) : (s.modFlights f).pending = s.pending := rfl

@[simp] theorem modCharges_tl (f : List Charge → List Charge) : (s.modCharges f).tl = s.tl := rfl
@[simp] theorem modCharges_wheels (f : List Charge → List Charge) : (s.modCharges f).wheels = s.wheels := rfl
@[simp] theorem modCharges_pcie (f : List Charge → List Charge) : (s.modCharges f).pcie = s.pcie := rfl
@[simp] theorem modCharges_fns (f : List Charge → List Charge) : (s.modCharges f).fns = s.fns := rfl
@[simp] theorem modCharges_crs (f : List Charge → List Charge) : (s.modCharges f).crs = s.crs := rfl
@[simp] theorem modCharges_evr (f : List Charge → List Charge) : (s.modCharges f).evr = s.evr := rfl
@[simp] theorem modCharges_ev (f : List Charge → List Charge) : (s.modCharges f).ev = s.ev := rfl
@[simp] theorem modCharges_lg (f : List Charge → List Charge) : (s.modCharges f).lg = s.lg := rfl
@[simp] theorem modCharges_tens (f : List Charge → List Charge) : (s.modCharges f).tens = s.tens := rfl
@[simp] theorem modCharges_loads (f : List Charge → List Charge) : (s.modCharges f).loads = s.loads := rfl
@[simp] theorem modCharges_visible (f : List Charge → List Charge) : (s.modCharges f).visible = s.visible := rfl
@[simp] theorem modCharges_flights (f : List Charge → List Charge) : (s.modCharges f).flights = s.flights := rfl
@[simp] theorem modCharges_charges (f : List Charge → List Charge) : (s.modCharges f).charges = f s.charges := rfl
@[simp] theorem modCharges_sr (f : List Charge → List Charge) : (s.modCharges f).sr = s.sr := rfl
@[simp] theorem modCharges_comp (f : List Charge → List Charge) : (s.modCharges f).comp = s.comp := rfl
@[simp] theorem modCharges_au (f : List Charge → List Charge) : (s.modCharges f).au = s.au := rfl
@[simp] theorem modCharges_gpu (f : List Charge → List Charge) : (s.modCharges f).gpu = s.gpu := rfl
@[simp] theorem modCharges_dma (f : List Charge → List Charge) : (s.modCharges f).dma = s.dma := rfl
@[simp] theorem modCharges_dram (f : List Charge → List Charge) : (s.modCharges f).dram = s.dram := rfl
@[simp] theorem modCharges_audio (f : List Charge → List Charge) : (s.modCharges f).audio = s.audio := rfl
@[simp] theorem modCharges_touch (f : List Charge → List Charge) : (s.modCharges f).touch = s.touch := rfl
@[simp] theorem modCharges_haptic (f : List Charge → List Charge) : (s.modCharges f).haptic = s.haptic := rfl
@[simp] theorem modCharges_wd (f : List Charge → List Charge) : (s.modCharges f).wd = s.wd := rfl
@[simp] theorem modCharges_pw (f : List Charge → List Charge) : (s.modCharges f).pw = s.pw := rfl
@[simp] theorem modCharges_hokusaSafe (f : List Charge → List Charge) : (s.modCharges f).hokusaSafe = s.hokusaSafe := rfl
@[simp] theorem modCharges_host (f : List Charge → List Charge) : (s.modCharges f).host = s.host := rfl
@[simp] theorem modCharges_nextId (f : List Charge → List Charge) : (s.modCharges f).nextId = s.nextId := rfl
@[simp] theorem modCharges_free (f : List Charge → List Charge) : (s.modCharges f).free = s.free := rfl
@[simp] theorem modCharges_pending (f : List Charge → List Charge) : (s.modCharges f).pending = s.pending := rfl

@[simp] theorem modSr_tl (f : Stockroom → Stockroom) : (s.modSr f).tl = s.tl := rfl
@[simp] theorem modSr_wheels (f : Stockroom → Stockroom) : (s.modSr f).wheels = s.wheels := rfl
@[simp] theorem modSr_pcie (f : Stockroom → Stockroom) : (s.modSr f).pcie = s.pcie := rfl
@[simp] theorem modSr_fns (f : Stockroom → Stockroom) : (s.modSr f).fns = s.fns := rfl
@[simp] theorem modSr_crs (f : Stockroom → Stockroom) : (s.modSr f).crs = s.crs := rfl
@[simp] theorem modSr_evr (f : Stockroom → Stockroom) : (s.modSr f).evr = s.evr := rfl
@[simp] theorem modSr_ev (f : Stockroom → Stockroom) : (s.modSr f).ev = s.ev := rfl
@[simp] theorem modSr_lg (f : Stockroom → Stockroom) : (s.modSr f).lg = s.lg := rfl
@[simp] theorem modSr_tens (f : Stockroom → Stockroom) : (s.modSr f).tens = s.tens := rfl
@[simp] theorem modSr_loads (f : Stockroom → Stockroom) : (s.modSr f).loads = s.loads := rfl
@[simp] theorem modSr_visible (f : Stockroom → Stockroom) : (s.modSr f).visible = s.visible := rfl
@[simp] theorem modSr_flights (f : Stockroom → Stockroom) : (s.modSr f).flights = s.flights := rfl
@[simp] theorem modSr_charges (f : Stockroom → Stockroom) : (s.modSr f).charges = s.charges := rfl
@[simp] theorem modSr_sr (f : Stockroom → Stockroom) : (s.modSr f).sr = f s.sr := rfl
@[simp] theorem modSr_comp (f : Stockroom → Stockroom) : (s.modSr f).comp = s.comp := rfl
@[simp] theorem modSr_au (f : Stockroom → Stockroom) : (s.modSr f).au = s.au := rfl
@[simp] theorem modSr_gpu (f : Stockroom → Stockroom) : (s.modSr f).gpu = s.gpu := rfl
@[simp] theorem modSr_dma (f : Stockroom → Stockroom) : (s.modSr f).dma = s.dma := rfl
@[simp] theorem modSr_dram (f : Stockroom → Stockroom) : (s.modSr f).dram = s.dram := rfl
@[simp] theorem modSr_audio (f : Stockroom → Stockroom) : (s.modSr f).audio = s.audio := rfl
@[simp] theorem modSr_touch (f : Stockroom → Stockroom) : (s.modSr f).touch = s.touch := rfl
@[simp] theorem modSr_haptic (f : Stockroom → Stockroom) : (s.modSr f).haptic = s.haptic := rfl
@[simp] theorem modSr_wd (f : Stockroom → Stockroom) : (s.modSr f).wd = s.wd := rfl
@[simp] theorem modSr_pw (f : Stockroom → Stockroom) : (s.modSr f).pw = s.pw := rfl
@[simp] theorem modSr_hokusaSafe (f : Stockroom → Stockroom) : (s.modSr f).hokusaSafe = s.hokusaSafe := rfl
@[simp] theorem modSr_host (f : Stockroom → Stockroom) : (s.modSr f).host = s.host := rfl
@[simp] theorem modSr_nextId (f : Stockroom → Stockroom) : (s.modSr f).nextId = s.nextId := rfl
@[simp] theorem modSr_free (f : Stockroom → Stockroom) : (s.modSr f).free = s.free := rfl
@[simp] theorem modSr_pending (f : Stockroom → Stockroom) : (s.modSr f).pending = s.pending := rfl

@[simp] theorem modComp_tl (f : Compose → Compose) : (s.modComp f).tl = s.tl := rfl
@[simp] theorem modComp_wheels (f : Compose → Compose) : (s.modComp f).wheels = s.wheels := rfl
@[simp] theorem modComp_pcie (f : Compose → Compose) : (s.modComp f).pcie = s.pcie := rfl
@[simp] theorem modComp_fns (f : Compose → Compose) : (s.modComp f).fns = s.fns := rfl
@[simp] theorem modComp_crs (f : Compose → Compose) : (s.modComp f).crs = s.crs := rfl
@[simp] theorem modComp_evr (f : Compose → Compose) : (s.modComp f).evr = s.evr := rfl
@[simp] theorem modComp_ev (f : Compose → Compose) : (s.modComp f).ev = s.ev := rfl
@[simp] theorem modComp_lg (f : Compose → Compose) : (s.modComp f).lg = s.lg := rfl
@[simp] theorem modComp_tens (f : Compose → Compose) : (s.modComp f).tens = s.tens := rfl
@[simp] theorem modComp_loads (f : Compose → Compose) : (s.modComp f).loads = s.loads := rfl
@[simp] theorem modComp_visible (f : Compose → Compose) : (s.modComp f).visible = s.visible := rfl
@[simp] theorem modComp_flights (f : Compose → Compose) : (s.modComp f).flights = s.flights := rfl
@[simp] theorem modComp_charges (f : Compose → Compose) : (s.modComp f).charges = s.charges := rfl
@[simp] theorem modComp_sr (f : Compose → Compose) : (s.modComp f).sr = s.sr := rfl
@[simp] theorem modComp_comp (f : Compose → Compose) : (s.modComp f).comp = f s.comp := rfl
@[simp] theorem modComp_au (f : Compose → Compose) : (s.modComp f).au = s.au := rfl
@[simp] theorem modComp_gpu (f : Compose → Compose) : (s.modComp f).gpu = s.gpu := rfl
@[simp] theorem modComp_dma (f : Compose → Compose) : (s.modComp f).dma = s.dma := rfl
@[simp] theorem modComp_dram (f : Compose → Compose) : (s.modComp f).dram = s.dram := rfl
@[simp] theorem modComp_audio (f : Compose → Compose) : (s.modComp f).audio = s.audio := rfl
@[simp] theorem modComp_touch (f : Compose → Compose) : (s.modComp f).touch = s.touch := rfl
@[simp] theorem modComp_haptic (f : Compose → Compose) : (s.modComp f).haptic = s.haptic := rfl
@[simp] theorem modComp_wd (f : Compose → Compose) : (s.modComp f).wd = s.wd := rfl
@[simp] theorem modComp_pw (f : Compose → Compose) : (s.modComp f).pw = s.pw := rfl
@[simp] theorem modComp_hokusaSafe (f : Compose → Compose) : (s.modComp f).hokusaSafe = s.hokusaSafe := rfl
@[simp] theorem modComp_host (f : Compose → Compose) : (s.modComp f).host = s.host := rfl
@[simp] theorem modComp_nextId (f : Compose → Compose) : (s.modComp f).nextId = s.nextId := rfl
@[simp] theorem modComp_free (f : Compose → Compose) : (s.modComp f).free = s.free := rfl
@[simp] theorem modComp_pending (f : Compose → Compose) : (s.modComp f).pending = s.pending := rfl

@[simp] theorem modAu_tl (f : Integrity → Integrity) : (s.modAu f).tl = s.tl := rfl
@[simp] theorem modAu_wheels (f : Integrity → Integrity) : (s.modAu f).wheels = s.wheels := rfl
@[simp] theorem modAu_pcie (f : Integrity → Integrity) : (s.modAu f).pcie = s.pcie := rfl
@[simp] theorem modAu_fns (f : Integrity → Integrity) : (s.modAu f).fns = s.fns := rfl
@[simp] theorem modAu_crs (f : Integrity → Integrity) : (s.modAu f).crs = s.crs := rfl
@[simp] theorem modAu_evr (f : Integrity → Integrity) : (s.modAu f).evr = s.evr := rfl
@[simp] theorem modAu_ev (f : Integrity → Integrity) : (s.modAu f).ev = s.ev := rfl
@[simp] theorem modAu_lg (f : Integrity → Integrity) : (s.modAu f).lg = s.lg := rfl
@[simp] theorem modAu_tens (f : Integrity → Integrity) : (s.modAu f).tens = s.tens := rfl
@[simp] theorem modAu_loads (f : Integrity → Integrity) : (s.modAu f).loads = s.loads := rfl
@[simp] theorem modAu_visible (f : Integrity → Integrity) : (s.modAu f).visible = s.visible := rfl
@[simp] theorem modAu_flights (f : Integrity → Integrity) : (s.modAu f).flights = s.flights := rfl
@[simp] theorem modAu_charges (f : Integrity → Integrity) : (s.modAu f).charges = s.charges := rfl
@[simp] theorem modAu_sr (f : Integrity → Integrity) : (s.modAu f).sr = s.sr := rfl
@[simp] theorem modAu_comp (f : Integrity → Integrity) : (s.modAu f).comp = s.comp := rfl
@[simp] theorem modAu_au (f : Integrity → Integrity) : (s.modAu f).au = f s.au := rfl
@[simp] theorem modAu_gpu (f : Integrity → Integrity) : (s.modAu f).gpu = s.gpu := rfl
@[simp] theorem modAu_dma (f : Integrity → Integrity) : (s.modAu f).dma = s.dma := rfl
@[simp] theorem modAu_dram (f : Integrity → Integrity) : (s.modAu f).dram = s.dram := rfl
@[simp] theorem modAu_audio (f : Integrity → Integrity) : (s.modAu f).audio = s.audio := rfl
@[simp] theorem modAu_touch (f : Integrity → Integrity) : (s.modAu f).touch = s.touch := rfl
@[simp] theorem modAu_haptic (f : Integrity → Integrity) : (s.modAu f).haptic = s.haptic := rfl
@[simp] theorem modAu_wd (f : Integrity → Integrity) : (s.modAu f).wd = s.wd := rfl
@[simp] theorem modAu_pw (f : Integrity → Integrity) : (s.modAu f).pw = s.pw := rfl
@[simp] theorem modAu_hokusaSafe (f : Integrity → Integrity) : (s.modAu f).hokusaSafe = s.hokusaSafe := rfl
@[simp] theorem modAu_host (f : Integrity → Integrity) : (s.modAu f).host = s.host := rfl
@[simp] theorem modAu_nextId (f : Integrity → Integrity) : (s.modAu f).nextId = s.nextId := rfl
@[simp] theorem modAu_free (f : Integrity → Integrity) : (s.modAu f).free = s.free := rfl
@[simp] theorem modAu_pending (f : Integrity → Integrity) : (s.modAu f).pending = s.pending := rfl

@[simp] theorem modGpu_tl (f : Gpu → Gpu) : (s.modGpu f).tl = s.tl := rfl
@[simp] theorem modGpu_wheels (f : Gpu → Gpu) : (s.modGpu f).wheels = s.wheels := rfl
@[simp] theorem modGpu_pcie (f : Gpu → Gpu) : (s.modGpu f).pcie = s.pcie := rfl
@[simp] theorem modGpu_fns (f : Gpu → Gpu) : (s.modGpu f).fns = s.fns := rfl
@[simp] theorem modGpu_crs (f : Gpu → Gpu) : (s.modGpu f).crs = s.crs := rfl
@[simp] theorem modGpu_evr (f : Gpu → Gpu) : (s.modGpu f).evr = s.evr := rfl
@[simp] theorem modGpu_ev (f : Gpu → Gpu) : (s.modGpu f).ev = s.ev := rfl
@[simp] theorem modGpu_lg (f : Gpu → Gpu) : (s.modGpu f).lg = s.lg := rfl
@[simp] theorem modGpu_tens (f : Gpu → Gpu) : (s.modGpu f).tens = s.tens := rfl
@[simp] theorem modGpu_loads (f : Gpu → Gpu) : (s.modGpu f).loads = s.loads := rfl
@[simp] theorem modGpu_visible (f : Gpu → Gpu) : (s.modGpu f).visible = s.visible := rfl
@[simp] theorem modGpu_flights (f : Gpu → Gpu) : (s.modGpu f).flights = s.flights := rfl
@[simp] theorem modGpu_charges (f : Gpu → Gpu) : (s.modGpu f).charges = s.charges := rfl
@[simp] theorem modGpu_sr (f : Gpu → Gpu) : (s.modGpu f).sr = s.sr := rfl
@[simp] theorem modGpu_comp (f : Gpu → Gpu) : (s.modGpu f).comp = s.comp := rfl
@[simp] theorem modGpu_au (f : Gpu → Gpu) : (s.modGpu f).au = s.au := rfl
@[simp] theorem modGpu_gpu (f : Gpu → Gpu) : (s.modGpu f).gpu = f s.gpu := rfl
@[simp] theorem modGpu_dma (f : Gpu → Gpu) : (s.modGpu f).dma = s.dma := rfl
@[simp] theorem modGpu_dram (f : Gpu → Gpu) : (s.modGpu f).dram = s.dram := rfl
@[simp] theorem modGpu_audio (f : Gpu → Gpu) : (s.modGpu f).audio = s.audio := rfl
@[simp] theorem modGpu_touch (f : Gpu → Gpu) : (s.modGpu f).touch = s.touch := rfl
@[simp] theorem modGpu_haptic (f : Gpu → Gpu) : (s.modGpu f).haptic = s.haptic := rfl
@[simp] theorem modGpu_wd (f : Gpu → Gpu) : (s.modGpu f).wd = s.wd := rfl
@[simp] theorem modGpu_pw (f : Gpu → Gpu) : (s.modGpu f).pw = s.pw := rfl
@[simp] theorem modGpu_hokusaSafe (f : Gpu → Gpu) : (s.modGpu f).hokusaSafe = s.hokusaSafe := rfl
@[simp] theorem modGpu_host (f : Gpu → Gpu) : (s.modGpu f).host = s.host := rfl
@[simp] theorem modGpu_nextId (f : Gpu → Gpu) : (s.modGpu f).nextId = s.nextId := rfl
@[simp] theorem modGpu_free (f : Gpu → Gpu) : (s.modGpu f).free = s.free := rfl
@[simp] theorem modGpu_pending (f : Gpu → Gpu) : (s.modGpu f).pending = s.pending := rfl

@[simp] theorem modDma_tl (f : Dma → Dma) : (s.modDma f).tl = s.tl := rfl
@[simp] theorem modDma_wheels (f : Dma → Dma) : (s.modDma f).wheels = s.wheels := rfl
@[simp] theorem modDma_pcie (f : Dma → Dma) : (s.modDma f).pcie = s.pcie := rfl
@[simp] theorem modDma_fns (f : Dma → Dma) : (s.modDma f).fns = s.fns := rfl
@[simp] theorem modDma_crs (f : Dma → Dma) : (s.modDma f).crs = s.crs := rfl
@[simp] theorem modDma_evr (f : Dma → Dma) : (s.modDma f).evr = s.evr := rfl
@[simp] theorem modDma_ev (f : Dma → Dma) : (s.modDma f).ev = s.ev := rfl
@[simp] theorem modDma_lg (f : Dma → Dma) : (s.modDma f).lg = s.lg := rfl
@[simp] theorem modDma_tens (f : Dma → Dma) : (s.modDma f).tens = s.tens := rfl
@[simp] theorem modDma_loads (f : Dma → Dma) : (s.modDma f).loads = s.loads := rfl
@[simp] theorem modDma_visible (f : Dma → Dma) : (s.modDma f).visible = s.visible := rfl
@[simp] theorem modDma_flights (f : Dma → Dma) : (s.modDma f).flights = s.flights := rfl
@[simp] theorem modDma_charges (f : Dma → Dma) : (s.modDma f).charges = s.charges := rfl
@[simp] theorem modDma_sr (f : Dma → Dma) : (s.modDma f).sr = s.sr := rfl
@[simp] theorem modDma_comp (f : Dma → Dma) : (s.modDma f).comp = s.comp := rfl
@[simp] theorem modDma_au (f : Dma → Dma) : (s.modDma f).au = s.au := rfl
@[simp] theorem modDma_gpu (f : Dma → Dma) : (s.modDma f).gpu = s.gpu := rfl
@[simp] theorem modDma_dma (f : Dma → Dma) : (s.modDma f).dma = f s.dma := rfl
@[simp] theorem modDma_dram (f : Dma → Dma) : (s.modDma f).dram = s.dram := rfl
@[simp] theorem modDma_audio (f : Dma → Dma) : (s.modDma f).audio = s.audio := rfl
@[simp] theorem modDma_touch (f : Dma → Dma) : (s.modDma f).touch = s.touch := rfl
@[simp] theorem modDma_haptic (f : Dma → Dma) : (s.modDma f).haptic = s.haptic := rfl
@[simp] theorem modDma_wd (f : Dma → Dma) : (s.modDma f).wd = s.wd := rfl
@[simp] theorem modDma_pw (f : Dma → Dma) : (s.modDma f).pw = s.pw := rfl
@[simp] theorem modDma_hokusaSafe (f : Dma → Dma) : (s.modDma f).hokusaSafe = s.hokusaSafe := rfl
@[simp] theorem modDma_host (f : Dma → Dma) : (s.modDma f).host = s.host := rfl
@[simp] theorem modDma_nextId (f : Dma → Dma) : (s.modDma f).nextId = s.nextId := rfl
@[simp] theorem modDma_free (f : Dma → Dma) : (s.modDma f).free = s.free := rfl
@[simp] theorem modDma_pending (f : Dma → Dma) : (s.modDma f).pending = s.pending := rfl

@[simp] theorem modDram_tl (f : Dram → Dram) : (s.modDram f).tl = s.tl := rfl
@[simp] theorem modDram_wheels (f : Dram → Dram) : (s.modDram f).wheels = s.wheels := rfl
@[simp] theorem modDram_pcie (f : Dram → Dram) : (s.modDram f).pcie = s.pcie := rfl
@[simp] theorem modDram_fns (f : Dram → Dram) : (s.modDram f).fns = s.fns := rfl
@[simp] theorem modDram_crs (f : Dram → Dram) : (s.modDram f).crs = s.crs := rfl
@[simp] theorem modDram_evr (f : Dram → Dram) : (s.modDram f).evr = s.evr := rfl
@[simp] theorem modDram_ev (f : Dram → Dram) : (s.modDram f).ev = s.ev := rfl
@[simp] theorem modDram_lg (f : Dram → Dram) : (s.modDram f).lg = s.lg := rfl
@[simp] theorem modDram_tens (f : Dram → Dram) : (s.modDram f).tens = s.tens := rfl
@[simp] theorem modDram_loads (f : Dram → Dram) : (s.modDram f).loads = s.loads := rfl
@[simp] theorem modDram_visible (f : Dram → Dram) : (s.modDram f).visible = s.visible := rfl
@[simp] theorem modDram_flights (f : Dram → Dram) : (s.modDram f).flights = s.flights := rfl
@[simp] theorem modDram_charges (f : Dram → Dram) : (s.modDram f).charges = s.charges := rfl
@[simp] theorem modDram_sr (f : Dram → Dram) : (s.modDram f).sr = s.sr := rfl
@[simp] theorem modDram_comp (f : Dram → Dram) : (s.modDram f).comp = s.comp := rfl
@[simp] theorem modDram_au (f : Dram → Dram) : (s.modDram f).au = s.au := rfl
@[simp] theorem modDram_gpu (f : Dram → Dram) : (s.modDram f).gpu = s.gpu := rfl
@[simp] theorem modDram_dma (f : Dram → Dram) : (s.modDram f).dma = s.dma := rfl
@[simp] theorem modDram_dram (f : Dram → Dram) : (s.modDram f).dram = f s.dram := rfl
@[simp] theorem modDram_audio (f : Dram → Dram) : (s.modDram f).audio = s.audio := rfl
@[simp] theorem modDram_touch (f : Dram → Dram) : (s.modDram f).touch = s.touch := rfl
@[simp] theorem modDram_haptic (f : Dram → Dram) : (s.modDram f).haptic = s.haptic := rfl
@[simp] theorem modDram_wd (f : Dram → Dram) : (s.modDram f).wd = s.wd := rfl
@[simp] theorem modDram_pw (f : Dram → Dram) : (s.modDram f).pw = s.pw := rfl
@[simp] theorem modDram_hokusaSafe (f : Dram → Dram) : (s.modDram f).hokusaSafe = s.hokusaSafe := rfl
@[simp] theorem modDram_host (f : Dram → Dram) : (s.modDram f).host = s.host := rfl
@[simp] theorem modDram_nextId (f : Dram → Dram) : (s.modDram f).nextId = s.nextId := rfl
@[simp] theorem modDram_free (f : Dram → Dram) : (s.modDram f).free = s.free := rfl
@[simp] theorem modDram_pending (f : Dram → Dram) : (s.modDram f).pending = s.pending := rfl

@[simp] theorem modAudio_tl (f : Audio → Audio) : (s.modAudio f).tl = s.tl := rfl
@[simp] theorem modAudio_wheels (f : Audio → Audio) : (s.modAudio f).wheels = s.wheels := rfl
@[simp] theorem modAudio_pcie (f : Audio → Audio) : (s.modAudio f).pcie = s.pcie := rfl
@[simp] theorem modAudio_fns (f : Audio → Audio) : (s.modAudio f).fns = s.fns := rfl
@[simp] theorem modAudio_crs (f : Audio → Audio) : (s.modAudio f).crs = s.crs := rfl
@[simp] theorem modAudio_evr (f : Audio → Audio) : (s.modAudio f).evr = s.evr := rfl
@[simp] theorem modAudio_ev (f : Audio → Audio) : (s.modAudio f).ev = s.ev := rfl
@[simp] theorem modAudio_lg (f : Audio → Audio) : (s.modAudio f).lg = s.lg := rfl
@[simp] theorem modAudio_tens (f : Audio → Audio) : (s.modAudio f).tens = s.tens := rfl
@[simp] theorem modAudio_loads (f : Audio → Audio) : (s.modAudio f).loads = s.loads := rfl
@[simp] theorem modAudio_visible (f : Audio → Audio) : (s.modAudio f).visible = s.visible := rfl
@[simp] theorem modAudio_flights (f : Audio → Audio) : (s.modAudio f).flights = s.flights := rfl
@[simp] theorem modAudio_charges (f : Audio → Audio) : (s.modAudio f).charges = s.charges := rfl
@[simp] theorem modAudio_sr (f : Audio → Audio) : (s.modAudio f).sr = s.sr := rfl
@[simp] theorem modAudio_comp (f : Audio → Audio) : (s.modAudio f).comp = s.comp := rfl
@[simp] theorem modAudio_au (f : Audio → Audio) : (s.modAudio f).au = s.au := rfl
@[simp] theorem modAudio_gpu (f : Audio → Audio) : (s.modAudio f).gpu = s.gpu := rfl
@[simp] theorem modAudio_dma (f : Audio → Audio) : (s.modAudio f).dma = s.dma := rfl
@[simp] theorem modAudio_dram (f : Audio → Audio) : (s.modAudio f).dram = s.dram := rfl
@[simp] theorem modAudio_audio (f : Audio → Audio) : (s.modAudio f).audio = f s.audio := rfl
@[simp] theorem modAudio_touch (f : Audio → Audio) : (s.modAudio f).touch = s.touch := rfl
@[simp] theorem modAudio_haptic (f : Audio → Audio) : (s.modAudio f).haptic = s.haptic := rfl
@[simp] theorem modAudio_wd (f : Audio → Audio) : (s.modAudio f).wd = s.wd := rfl
@[simp] theorem modAudio_pw (f : Audio → Audio) : (s.modAudio f).pw = s.pw := rfl
@[simp] theorem modAudio_hokusaSafe (f : Audio → Audio) : (s.modAudio f).hokusaSafe = s.hokusaSafe := rfl
@[simp] theorem modAudio_host (f : Audio → Audio) : (s.modAudio f).host = s.host := rfl
@[simp] theorem modAudio_nextId (f : Audio → Audio) : (s.modAudio f).nextId = s.nextId := rfl
@[simp] theorem modAudio_free (f : Audio → Audio) : (s.modAudio f).free = s.free := rfl
@[simp] theorem modAudio_pending (f : Audio → Audio) : (s.modAudio f).pending = s.pending := rfl

@[simp] theorem modTouch_tl (f : Touch → Touch) : (s.modTouch f).tl = s.tl := rfl
@[simp] theorem modTouch_wheels (f : Touch → Touch) : (s.modTouch f).wheels = s.wheels := rfl
@[simp] theorem modTouch_pcie (f : Touch → Touch) : (s.modTouch f).pcie = s.pcie := rfl
@[simp] theorem modTouch_fns (f : Touch → Touch) : (s.modTouch f).fns = s.fns := rfl
@[simp] theorem modTouch_crs (f : Touch → Touch) : (s.modTouch f).crs = s.crs := rfl
@[simp] theorem modTouch_evr (f : Touch → Touch) : (s.modTouch f).evr = s.evr := rfl
@[simp] theorem modTouch_ev (f : Touch → Touch) : (s.modTouch f).ev = s.ev := rfl
@[simp] theorem modTouch_lg (f : Touch → Touch) : (s.modTouch f).lg = s.lg := rfl
@[simp] theorem modTouch_tens (f : Touch → Touch) : (s.modTouch f).tens = s.tens := rfl
@[simp] theorem modTouch_loads (f : Touch → Touch) : (s.modTouch f).loads = s.loads := rfl
@[simp] theorem modTouch_visible (f : Touch → Touch) : (s.modTouch f).visible = s.visible := rfl
@[simp] theorem modTouch_flights (f : Touch → Touch) : (s.modTouch f).flights = s.flights := rfl
@[simp] theorem modTouch_charges (f : Touch → Touch) : (s.modTouch f).charges = s.charges := rfl
@[simp] theorem modTouch_sr (f : Touch → Touch) : (s.modTouch f).sr = s.sr := rfl
@[simp] theorem modTouch_comp (f : Touch → Touch) : (s.modTouch f).comp = s.comp := rfl
@[simp] theorem modTouch_au (f : Touch → Touch) : (s.modTouch f).au = s.au := rfl
@[simp] theorem modTouch_gpu (f : Touch → Touch) : (s.modTouch f).gpu = s.gpu := rfl
@[simp] theorem modTouch_dma (f : Touch → Touch) : (s.modTouch f).dma = s.dma := rfl
@[simp] theorem modTouch_dram (f : Touch → Touch) : (s.modTouch f).dram = s.dram := rfl
@[simp] theorem modTouch_audio (f : Touch → Touch) : (s.modTouch f).audio = s.audio := rfl
@[simp] theorem modTouch_touch (f : Touch → Touch) : (s.modTouch f).touch = f s.touch := rfl
@[simp] theorem modTouch_haptic (f : Touch → Touch) : (s.modTouch f).haptic = s.haptic := rfl
@[simp] theorem modTouch_wd (f : Touch → Touch) : (s.modTouch f).wd = s.wd := rfl
@[simp] theorem modTouch_pw (f : Touch → Touch) : (s.modTouch f).pw = s.pw := rfl
@[simp] theorem modTouch_hokusaSafe (f : Touch → Touch) : (s.modTouch f).hokusaSafe = s.hokusaSafe := rfl
@[simp] theorem modTouch_host (f : Touch → Touch) : (s.modTouch f).host = s.host := rfl
@[simp] theorem modTouch_nextId (f : Touch → Touch) : (s.modTouch f).nextId = s.nextId := rfl
@[simp] theorem modTouch_free (f : Touch → Touch) : (s.modTouch f).free = s.free := rfl
@[simp] theorem modTouch_pending (f : Touch → Touch) : (s.modTouch f).pending = s.pending := rfl

@[simp] theorem modHaptic_tl (f : Haptic → Haptic) : (s.modHaptic f).tl = s.tl := rfl
@[simp] theorem modHaptic_wheels (f : Haptic → Haptic) : (s.modHaptic f).wheels = s.wheels := rfl
@[simp] theorem modHaptic_pcie (f : Haptic → Haptic) : (s.modHaptic f).pcie = s.pcie := rfl
@[simp] theorem modHaptic_fns (f : Haptic → Haptic) : (s.modHaptic f).fns = s.fns := rfl
@[simp] theorem modHaptic_crs (f : Haptic → Haptic) : (s.modHaptic f).crs = s.crs := rfl
@[simp] theorem modHaptic_evr (f : Haptic → Haptic) : (s.modHaptic f).evr = s.evr := rfl
@[simp] theorem modHaptic_ev (f : Haptic → Haptic) : (s.modHaptic f).ev = s.ev := rfl
@[simp] theorem modHaptic_lg (f : Haptic → Haptic) : (s.modHaptic f).lg = s.lg := rfl
@[simp] theorem modHaptic_tens (f : Haptic → Haptic) : (s.modHaptic f).tens = s.tens := rfl
@[simp] theorem modHaptic_loads (f : Haptic → Haptic) : (s.modHaptic f).loads = s.loads := rfl
@[simp] theorem modHaptic_visible (f : Haptic → Haptic) : (s.modHaptic f).visible = s.visible := rfl
@[simp] theorem modHaptic_flights (f : Haptic → Haptic) : (s.modHaptic f).flights = s.flights := rfl
@[simp] theorem modHaptic_charges (f : Haptic → Haptic) : (s.modHaptic f).charges = s.charges := rfl
@[simp] theorem modHaptic_sr (f : Haptic → Haptic) : (s.modHaptic f).sr = s.sr := rfl
@[simp] theorem modHaptic_comp (f : Haptic → Haptic) : (s.modHaptic f).comp = s.comp := rfl
@[simp] theorem modHaptic_au (f : Haptic → Haptic) : (s.modHaptic f).au = s.au := rfl
@[simp] theorem modHaptic_gpu (f : Haptic → Haptic) : (s.modHaptic f).gpu = s.gpu := rfl
@[simp] theorem modHaptic_dma (f : Haptic → Haptic) : (s.modHaptic f).dma = s.dma := rfl
@[simp] theorem modHaptic_dram (f : Haptic → Haptic) : (s.modHaptic f).dram = s.dram := rfl
@[simp] theorem modHaptic_audio (f : Haptic → Haptic) : (s.modHaptic f).audio = s.audio := rfl
@[simp] theorem modHaptic_touch (f : Haptic → Haptic) : (s.modHaptic f).touch = s.touch := rfl
@[simp] theorem modHaptic_haptic (f : Haptic → Haptic) : (s.modHaptic f).haptic = f s.haptic := rfl
@[simp] theorem modHaptic_wd (f : Haptic → Haptic) : (s.modHaptic f).wd = s.wd := rfl
@[simp] theorem modHaptic_pw (f : Haptic → Haptic) : (s.modHaptic f).pw = s.pw := rfl
@[simp] theorem modHaptic_hokusaSafe (f : Haptic → Haptic) : (s.modHaptic f).hokusaSafe = s.hokusaSafe := rfl
@[simp] theorem modHaptic_host (f : Haptic → Haptic) : (s.modHaptic f).host = s.host := rfl
@[simp] theorem modHaptic_nextId (f : Haptic → Haptic) : (s.modHaptic f).nextId = s.nextId := rfl
@[simp] theorem modHaptic_free (f : Haptic → Haptic) : (s.modHaptic f).free = s.free := rfl
@[simp] theorem modHaptic_pending (f : Haptic → Haptic) : (s.modHaptic f).pending = s.pending := rfl

@[simp] theorem modWd_tl (f : Warden → Warden) : (s.modWd f).tl = s.tl := rfl
@[simp] theorem modWd_wheels (f : Warden → Warden) : (s.modWd f).wheels = s.wheels := rfl
@[simp] theorem modWd_pcie (f : Warden → Warden) : (s.modWd f).pcie = s.pcie := rfl
@[simp] theorem modWd_fns (f : Warden → Warden) : (s.modWd f).fns = s.fns := rfl
@[simp] theorem modWd_crs (f : Warden → Warden) : (s.modWd f).crs = s.crs := rfl
@[simp] theorem modWd_evr (f : Warden → Warden) : (s.modWd f).evr = s.evr := rfl
@[simp] theorem modWd_ev (f : Warden → Warden) : (s.modWd f).ev = s.ev := rfl
@[simp] theorem modWd_lg (f : Warden → Warden) : (s.modWd f).lg = s.lg := rfl
@[simp] theorem modWd_tens (f : Warden → Warden) : (s.modWd f).tens = s.tens := rfl
@[simp] theorem modWd_loads (f : Warden → Warden) : (s.modWd f).loads = s.loads := rfl
@[simp] theorem modWd_visible (f : Warden → Warden) : (s.modWd f).visible = s.visible := rfl
@[simp] theorem modWd_flights (f : Warden → Warden) : (s.modWd f).flights = s.flights := rfl
@[simp] theorem modWd_charges (f : Warden → Warden) : (s.modWd f).charges = s.charges := rfl
@[simp] theorem modWd_sr (f : Warden → Warden) : (s.modWd f).sr = s.sr := rfl
@[simp] theorem modWd_comp (f : Warden → Warden) : (s.modWd f).comp = s.comp := rfl
@[simp] theorem modWd_au (f : Warden → Warden) : (s.modWd f).au = s.au := rfl
@[simp] theorem modWd_gpu (f : Warden → Warden) : (s.modWd f).gpu = s.gpu := rfl
@[simp] theorem modWd_dma (f : Warden → Warden) : (s.modWd f).dma = s.dma := rfl
@[simp] theorem modWd_dram (f : Warden → Warden) : (s.modWd f).dram = s.dram := rfl
@[simp] theorem modWd_audio (f : Warden → Warden) : (s.modWd f).audio = s.audio := rfl
@[simp] theorem modWd_touch (f : Warden → Warden) : (s.modWd f).touch = s.touch := rfl
@[simp] theorem modWd_haptic (f : Warden → Warden) : (s.modWd f).haptic = s.haptic := rfl
@[simp] theorem modWd_wd (f : Warden → Warden) : (s.modWd f).wd = f s.wd := rfl
@[simp] theorem modWd_pw (f : Warden → Warden) : (s.modWd f).pw = s.pw := rfl
@[simp] theorem modWd_hokusaSafe (f : Warden → Warden) : (s.modWd f).hokusaSafe = s.hokusaSafe := rfl
@[simp] theorem modWd_host (f : Warden → Warden) : (s.modWd f).host = s.host := rfl
@[simp] theorem modWd_nextId (f : Warden → Warden) : (s.modWd f).nextId = s.nextId := rfl
@[simp] theorem modWd_free (f : Warden → Warden) : (s.modWd f).free = s.free := rfl
@[simp] theorem modWd_pending (f : Warden → Warden) : (s.modWd f).pending = s.pending := rfl

@[simp] theorem modPw_tl (f : Power → Power) : (s.modPw f).tl = s.tl := rfl
@[simp] theorem modPw_wheels (f : Power → Power) : (s.modPw f).wheels = s.wheels := rfl
@[simp] theorem modPw_pcie (f : Power → Power) : (s.modPw f).pcie = s.pcie := rfl
@[simp] theorem modPw_fns (f : Power → Power) : (s.modPw f).fns = s.fns := rfl
@[simp] theorem modPw_crs (f : Power → Power) : (s.modPw f).crs = s.crs := rfl
@[simp] theorem modPw_evr (f : Power → Power) : (s.modPw f).evr = s.evr := rfl
@[simp] theorem modPw_ev (f : Power → Power) : (s.modPw f).ev = s.ev := rfl
@[simp] theorem modPw_lg (f : Power → Power) : (s.modPw f).lg = s.lg := rfl
@[simp] theorem modPw_tens (f : Power → Power) : (s.modPw f).tens = s.tens := rfl
@[simp] theorem modPw_loads (f : Power → Power) : (s.modPw f).loads = s.loads := rfl
@[simp] theorem modPw_visible (f : Power → Power) : (s.modPw f).visible = s.visible := rfl
@[simp] theorem modPw_flights (f : Power → Power) : (s.modPw f).flights = s.flights := rfl
@[simp] theorem modPw_charges (f : Power → Power) : (s.modPw f).charges = s.charges := rfl
@[simp] theorem modPw_sr (f : Power → Power) : (s.modPw f).sr = s.sr := rfl
@[simp] theorem modPw_comp (f : Power → Power) : (s.modPw f).comp = s.comp := rfl
@[simp] theorem modPw_au (f : Power → Power) : (s.modPw f).au = s.au := rfl
@[simp] theorem modPw_gpu (f : Power → Power) : (s.modPw f).gpu = s.gpu := rfl
@[simp] theorem modPw_dma (f : Power → Power) : (s.modPw f).dma = s.dma := rfl
@[simp] theorem modPw_dram (f : Power → Power) : (s.modPw f).dram = s.dram := rfl
@[simp] theorem modPw_audio (f : Power → Power) : (s.modPw f).audio = s.audio := rfl
@[simp] theorem modPw_touch (f : Power → Power) : (s.modPw f).touch = s.touch := rfl
@[simp] theorem modPw_haptic (f : Power → Power) : (s.modPw f).haptic = s.haptic := rfl
@[simp] theorem modPw_wd (f : Power → Power) : (s.modPw f).wd = s.wd := rfl
@[simp] theorem modPw_pw (f : Power → Power) : (s.modPw f).pw = f s.pw := rfl
@[simp] theorem modPw_hokusaSafe (f : Power → Power) : (s.modPw f).hokusaSafe = s.hokusaSafe := rfl
@[simp] theorem modPw_host (f : Power → Power) : (s.modPw f).host = s.host := rfl
@[simp] theorem modPw_nextId (f : Power → Power) : (s.modPw f).nextId = s.nextId := rfl
@[simp] theorem modPw_free (f : Power → Power) : (s.modPw f).free = s.free := rfl
@[simp] theorem modPw_pending (f : Power → Power) : (s.modPw f).pending = s.pending := rfl

@[simp] theorem modHokusaSafe_tl (f : Bool → Bool) : (s.modHokusaSafe f).tl = s.tl := rfl
@[simp] theorem modHokusaSafe_wheels (f : Bool → Bool) : (s.modHokusaSafe f).wheels = s.wheels := rfl
@[simp] theorem modHokusaSafe_pcie (f : Bool → Bool) : (s.modHokusaSafe f).pcie = s.pcie := rfl
@[simp] theorem modHokusaSafe_fns (f : Bool → Bool) : (s.modHokusaSafe f).fns = s.fns := rfl
@[simp] theorem modHokusaSafe_crs (f : Bool → Bool) : (s.modHokusaSafe f).crs = s.crs := rfl
@[simp] theorem modHokusaSafe_evr (f : Bool → Bool) : (s.modHokusaSafe f).evr = s.evr := rfl
@[simp] theorem modHokusaSafe_ev (f : Bool → Bool) : (s.modHokusaSafe f).ev = s.ev := rfl
@[simp] theorem modHokusaSafe_lg (f : Bool → Bool) : (s.modHokusaSafe f).lg = s.lg := rfl
@[simp] theorem modHokusaSafe_tens (f : Bool → Bool) : (s.modHokusaSafe f).tens = s.tens := rfl
@[simp] theorem modHokusaSafe_loads (f : Bool → Bool) : (s.modHokusaSafe f).loads = s.loads := rfl
@[simp] theorem modHokusaSafe_visible (f : Bool → Bool) : (s.modHokusaSafe f).visible = s.visible := rfl
@[simp] theorem modHokusaSafe_flights (f : Bool → Bool) : (s.modHokusaSafe f).flights = s.flights := rfl
@[simp] theorem modHokusaSafe_charges (f : Bool → Bool) : (s.modHokusaSafe f).charges = s.charges := rfl
@[simp] theorem modHokusaSafe_sr (f : Bool → Bool) : (s.modHokusaSafe f).sr = s.sr := rfl
@[simp] theorem modHokusaSafe_comp (f : Bool → Bool) : (s.modHokusaSafe f).comp = s.comp := rfl
@[simp] theorem modHokusaSafe_au (f : Bool → Bool) : (s.modHokusaSafe f).au = s.au := rfl
@[simp] theorem modHokusaSafe_gpu (f : Bool → Bool) : (s.modHokusaSafe f).gpu = s.gpu := rfl
@[simp] theorem modHokusaSafe_dma (f : Bool → Bool) : (s.modHokusaSafe f).dma = s.dma := rfl
@[simp] theorem modHokusaSafe_dram (f : Bool → Bool) : (s.modHokusaSafe f).dram = s.dram := rfl
@[simp] theorem modHokusaSafe_audio (f : Bool → Bool) : (s.modHokusaSafe f).audio = s.audio := rfl
@[simp] theorem modHokusaSafe_touch (f : Bool → Bool) : (s.modHokusaSafe f).touch = s.touch := rfl
@[simp] theorem modHokusaSafe_haptic (f : Bool → Bool) : (s.modHokusaSafe f).haptic = s.haptic := rfl
@[simp] theorem modHokusaSafe_wd (f : Bool → Bool) : (s.modHokusaSafe f).wd = s.wd := rfl
@[simp] theorem modHokusaSafe_pw (f : Bool → Bool) : (s.modHokusaSafe f).pw = s.pw := rfl
@[simp] theorem modHokusaSafe_hokusaSafe (f : Bool → Bool) : (s.modHokusaSafe f).hokusaSafe = f s.hokusaSafe := rfl
@[simp] theorem modHokusaSafe_host (f : Bool → Bool) : (s.modHokusaSafe f).host = s.host := rfl
@[simp] theorem modHokusaSafe_nextId (f : Bool → Bool) : (s.modHokusaSafe f).nextId = s.nextId := rfl
@[simp] theorem modHokusaSafe_free (f : Bool → Bool) : (s.modHokusaSafe f).free = s.free := rfl
@[simp] theorem modHokusaSafe_pending (f : Bool → Bool) : (s.modHokusaSafe f).pending = s.pending := rfl

@[simp] theorem modHost_tl (f : Mem → Mem) : (s.modHost f).tl = s.tl := rfl
@[simp] theorem modHost_wheels (f : Mem → Mem) : (s.modHost f).wheels = s.wheels := rfl
@[simp] theorem modHost_pcie (f : Mem → Mem) : (s.modHost f).pcie = s.pcie := rfl
@[simp] theorem modHost_fns (f : Mem → Mem) : (s.modHost f).fns = s.fns := rfl
@[simp] theorem modHost_crs (f : Mem → Mem) : (s.modHost f).crs = s.crs := rfl
@[simp] theorem modHost_evr (f : Mem → Mem) : (s.modHost f).evr = s.evr := rfl
@[simp] theorem modHost_ev (f : Mem → Mem) : (s.modHost f).ev = s.ev := rfl
@[simp] theorem modHost_lg (f : Mem → Mem) : (s.modHost f).lg = s.lg := rfl
@[simp] theorem modHost_tens (f : Mem → Mem) : (s.modHost f).tens = s.tens := rfl
@[simp] theorem modHost_loads (f : Mem → Mem) : (s.modHost f).loads = s.loads := rfl
@[simp] theorem modHost_visible (f : Mem → Mem) : (s.modHost f).visible = s.visible := rfl
@[simp] theorem modHost_flights (f : Mem → Mem) : (s.modHost f).flights = s.flights := rfl
@[simp] theorem modHost_charges (f : Mem → Mem) : (s.modHost f).charges = s.charges := rfl
@[simp] theorem modHost_sr (f : Mem → Mem) : (s.modHost f).sr = s.sr := rfl
@[simp] theorem modHost_comp (f : Mem → Mem) : (s.modHost f).comp = s.comp := rfl
@[simp] theorem modHost_au (f : Mem → Mem) : (s.modHost f).au = s.au := rfl
@[simp] theorem modHost_gpu (f : Mem → Mem) : (s.modHost f).gpu = s.gpu := rfl
@[simp] theorem modHost_dma (f : Mem → Mem) : (s.modHost f).dma = s.dma := rfl
@[simp] theorem modHost_dram (f : Mem → Mem) : (s.modHost f).dram = s.dram := rfl
@[simp] theorem modHost_audio (f : Mem → Mem) : (s.modHost f).audio = s.audio := rfl
@[simp] theorem modHost_touch (f : Mem → Mem) : (s.modHost f).touch = s.touch := rfl
@[simp] theorem modHost_haptic (f : Mem → Mem) : (s.modHost f).haptic = s.haptic := rfl
@[simp] theorem modHost_wd (f : Mem → Mem) : (s.modHost f).wd = s.wd := rfl
@[simp] theorem modHost_pw (f : Mem → Mem) : (s.modHost f).pw = s.pw := rfl
@[simp] theorem modHost_hokusaSafe (f : Mem → Mem) : (s.modHost f).hokusaSafe = s.hokusaSafe := rfl
@[simp] theorem modHost_host (f : Mem → Mem) : (s.modHost f).host = f s.host := rfl
@[simp] theorem modHost_nextId (f : Mem → Mem) : (s.modHost f).nextId = s.nextId := rfl
@[simp] theorem modHost_free (f : Mem → Mem) : (s.modHost f).free = s.free := rfl
@[simp] theorem modHost_pending (f : Mem → Mem) : (s.modHost f).pending = s.pending := rfl

@[simp] theorem modNextId_tl (f : Nat → Nat) : (s.modNextId f).tl = s.tl := rfl
@[simp] theorem modNextId_wheels (f : Nat → Nat) : (s.modNextId f).wheels = s.wheels := rfl
@[simp] theorem modNextId_pcie (f : Nat → Nat) : (s.modNextId f).pcie = s.pcie := rfl
@[simp] theorem modNextId_fns (f : Nat → Nat) : (s.modNextId f).fns = s.fns := rfl
@[simp] theorem modNextId_crs (f : Nat → Nat) : (s.modNextId f).crs = s.crs := rfl
@[simp] theorem modNextId_evr (f : Nat → Nat) : (s.modNextId f).evr = s.evr := rfl
@[simp] theorem modNextId_ev (f : Nat → Nat) : (s.modNextId f).ev = s.ev := rfl
@[simp] theorem modNextId_lg (f : Nat → Nat) : (s.modNextId f).lg = s.lg := rfl
@[simp] theorem modNextId_tens (f : Nat → Nat) : (s.modNextId f).tens = s.tens := rfl
@[simp] theorem modNextId_loads (f : Nat → Nat) : (s.modNextId f).loads = s.loads := rfl
@[simp] theorem modNextId_visible (f : Nat → Nat) : (s.modNextId f).visible = s.visible := rfl
@[simp] theorem modNextId_flights (f : Nat → Nat) : (s.modNextId f).flights = s.flights := rfl
@[simp] theorem modNextId_charges (f : Nat → Nat) : (s.modNextId f).charges = s.charges := rfl
@[simp] theorem modNextId_sr (f : Nat → Nat) : (s.modNextId f).sr = s.sr := rfl
@[simp] theorem modNextId_comp (f : Nat → Nat) : (s.modNextId f).comp = s.comp := rfl
@[simp] theorem modNextId_au (f : Nat → Nat) : (s.modNextId f).au = s.au := rfl
@[simp] theorem modNextId_gpu (f : Nat → Nat) : (s.modNextId f).gpu = s.gpu := rfl
@[simp] theorem modNextId_dma (f : Nat → Nat) : (s.modNextId f).dma = s.dma := rfl
@[simp] theorem modNextId_dram (f : Nat → Nat) : (s.modNextId f).dram = s.dram := rfl
@[simp] theorem modNextId_audio (f : Nat → Nat) : (s.modNextId f).audio = s.audio := rfl
@[simp] theorem modNextId_touch (f : Nat → Nat) : (s.modNextId f).touch = s.touch := rfl
@[simp] theorem modNextId_haptic (f : Nat → Nat) : (s.modNextId f).haptic = s.haptic := rfl
@[simp] theorem modNextId_wd (f : Nat → Nat) : (s.modNextId f).wd = s.wd := rfl
@[simp] theorem modNextId_pw (f : Nat → Nat) : (s.modNextId f).pw = s.pw := rfl
@[simp] theorem modNextId_hokusaSafe (f : Nat → Nat) : (s.modNextId f).hokusaSafe = s.hokusaSafe := rfl
@[simp] theorem modNextId_host (f : Nat → Nat) : (s.modNextId f).host = s.host := rfl
@[simp] theorem modNextId_nextId (f : Nat → Nat) : (s.modNextId f).nextId = f s.nextId := rfl
@[simp] theorem modNextId_free (f : Nat → Nat) : (s.modNextId f).free = s.free := rfl
@[simp] theorem modNextId_pending (f : Nat → Nat) : (s.modNextId f).pending = s.pending := rfl

@[simp] theorem modFree_tl (f : Nat → Nat) : (s.modFree f).tl = s.tl := rfl
@[simp] theorem modFree_wheels (f : Nat → Nat) : (s.modFree f).wheels = s.wheels := rfl
@[simp] theorem modFree_pcie (f : Nat → Nat) : (s.modFree f).pcie = s.pcie := rfl
@[simp] theorem modFree_fns (f : Nat → Nat) : (s.modFree f).fns = s.fns := rfl
@[simp] theorem modFree_crs (f : Nat → Nat) : (s.modFree f).crs = s.crs := rfl
@[simp] theorem modFree_evr (f : Nat → Nat) : (s.modFree f).evr = s.evr := rfl
@[simp] theorem modFree_ev (f : Nat → Nat) : (s.modFree f).ev = s.ev := rfl
@[simp] theorem modFree_lg (f : Nat → Nat) : (s.modFree f).lg = s.lg := rfl
@[simp] theorem modFree_tens (f : Nat → Nat) : (s.modFree f).tens = s.tens := rfl
@[simp] theorem modFree_loads (f : Nat → Nat) : (s.modFree f).loads = s.loads := rfl
@[simp] theorem modFree_visible (f : Nat → Nat) : (s.modFree f).visible = s.visible := rfl
@[simp] theorem modFree_flights (f : Nat → Nat) : (s.modFree f).flights = s.flights := rfl
@[simp] theorem modFree_charges (f : Nat → Nat) : (s.modFree f).charges = s.charges := rfl
@[simp] theorem modFree_sr (f : Nat → Nat) : (s.modFree f).sr = s.sr := rfl
@[simp] theorem modFree_comp (f : Nat → Nat) : (s.modFree f).comp = s.comp := rfl
@[simp] theorem modFree_au (f : Nat → Nat) : (s.modFree f).au = s.au := rfl
@[simp] theorem modFree_gpu (f : Nat → Nat) : (s.modFree f).gpu = s.gpu := rfl
@[simp] theorem modFree_dma (f : Nat → Nat) : (s.modFree f).dma = s.dma := rfl
@[simp] theorem modFree_dram (f : Nat → Nat) : (s.modFree f).dram = s.dram := rfl
@[simp] theorem modFree_audio (f : Nat → Nat) : (s.modFree f).audio = s.audio := rfl
@[simp] theorem modFree_touch (f : Nat → Nat) : (s.modFree f).touch = s.touch := rfl
@[simp] theorem modFree_haptic (f : Nat → Nat) : (s.modFree f).haptic = s.haptic := rfl
@[simp] theorem modFree_wd (f : Nat → Nat) : (s.modFree f).wd = s.wd := rfl
@[simp] theorem modFree_pw (f : Nat → Nat) : (s.modFree f).pw = s.pw := rfl
@[simp] theorem modFree_hokusaSafe (f : Nat → Nat) : (s.modFree f).hokusaSafe = s.hokusaSafe := rfl
@[simp] theorem modFree_host (f : Nat → Nat) : (s.modFree f).host = s.host := rfl
@[simp] theorem modFree_nextId (f : Nat → Nat) : (s.modFree f).nextId = s.nextId := rfl
@[simp] theorem modFree_free (f : Nat → Nat) : (s.modFree f).free = f s.free := rfl
@[simp] theorem modFree_pending (f : Nat → Nat) : (s.modFree f).pending = s.pending := rfl

@[simp] theorem modPending_tl (f : List Instr → List Instr) : (s.modPending f).tl = s.tl := rfl
@[simp] theorem modPending_wheels (f : List Instr → List Instr) : (s.modPending f).wheels = s.wheels := rfl
@[simp] theorem modPending_pcie (f : List Instr → List Instr) : (s.modPending f).pcie = s.pcie := rfl
@[simp] theorem modPending_fns (f : List Instr → List Instr) : (s.modPending f).fns = s.fns := rfl
@[simp] theorem modPending_crs (f : List Instr → List Instr) : (s.modPending f).crs = s.crs := rfl
@[simp] theorem modPending_evr (f : List Instr → List Instr) : (s.modPending f).evr = s.evr := rfl
@[simp] theorem modPending_ev (f : List Instr → List Instr) : (s.modPending f).ev = s.ev := rfl
@[simp] theorem modPending_lg (f : List Instr → List Instr) : (s.modPending f).lg = s.lg := rfl
@[simp] theorem modPending_tens (f : List Instr → List Instr) : (s.modPending f).tens = s.tens := rfl
@[simp] theorem modPending_loads (f : List Instr → List Instr) : (s.modPending f).loads = s.loads := rfl
@[simp] theorem modPending_visible (f : List Instr → List Instr) : (s.modPending f).visible = s.visible := rfl
@[simp] theorem modPending_flights (f : List Instr → List Instr) : (s.modPending f).flights = s.flights := rfl
@[simp] theorem modPending_charges (f : List Instr → List Instr) : (s.modPending f).charges = s.charges := rfl
@[simp] theorem modPending_sr (f : List Instr → List Instr) : (s.modPending f).sr = s.sr := rfl
@[simp] theorem modPending_comp (f : List Instr → List Instr) : (s.modPending f).comp = s.comp := rfl
@[simp] theorem modPending_au (f : List Instr → List Instr) : (s.modPending f).au = s.au := rfl
@[simp] theorem modPending_gpu (f : List Instr → List Instr) : (s.modPending f).gpu = s.gpu := rfl
@[simp] theorem modPending_dma (f : List Instr → List Instr) : (s.modPending f).dma = s.dma := rfl
@[simp] theorem modPending_dram (f : List Instr → List Instr) : (s.modPending f).dram = s.dram := rfl
@[simp] theorem modPending_audio (f : List Instr → List Instr) : (s.modPending f).audio = s.audio := rfl
@[simp] theorem modPending_touch (f : List Instr → List Instr) : (s.modPending f).touch = s.touch := rfl
@[simp] theorem modPending_haptic (f : List Instr → List Instr) : (s.modPending f).haptic = s.haptic := rfl
@[simp] theorem modPending_wd (f : List Instr → List Instr) : (s.modPending f).wd = s.wd := rfl
@[simp] theorem modPending_pw (f : List Instr → List Instr) : (s.modPending f).pw = s.pw := rfl
@[simp] theorem modPending_hokusaSafe (f : List Instr → List Instr) : (s.modPending f).hokusaSafe = s.hokusaSafe := rfl
@[simp] theorem modPending_host (f : List Instr → List Instr) : (s.modPending f).host = s.host := rfl
@[simp] theorem modPending_nextId (f : List Instr → List Instr) : (s.modPending f).nextId = s.nextId := rfl
@[simp] theorem modPending_free (f : List Instr → List Instr) : (s.modPending f).free = s.free := rfl
@[simp] theorem modPending_pending (f : List Instr → List Instr) : (s.modPending f).pending = f s.pending := rfl

end Sys2Proof.Machine
end

