-- ==== Sys2Proof/Laws/Table.lean ====
section
/-! SUPPORT. The laws of the sparse tables and byte memories: a read after a write, and the canonical form. -/

namespace Sys2Proof.Machine

variable {α : Type}

@[simp] theorem tget_tput_same (d : α) (t : Tab α) (k : Nat) (v : α) : tget d (tput t k v) k = v := by
  induction t with
  | nil => simp [tput, tget]
  | cons p t ih =>
    obtain ⟨j, w⟩ := p
    unfold tput
    split
    · simp [tget]
    · split
      · simp [tget]
      · rename_i h _; simp [tget, h, ih]

theorem tget_tput_other (d : α) (t : Tab α) (k k' : Nat) (v : α) (h : k' ≠ k) :
    tget d (tput t k v) k' = tget d t k' := by
  induction t with
  | nil => simp [tput, tget, Ne.symm h]
  | cons p t ih =>
    obtain ⟨j, w⟩ := p
    unfold tput
    split
    · rename_i hj; subst hj; simp [tget, Ne.symm h]
    · split
      · simp [tget, Ne.symm h]
      · simp [tget, ih]

@[simp] theorem tget_tdel_same (d : α) (t : Tab α) (k : Nat) : tget d (tdel t k) k = d := by
  induction t with
  | nil => rfl
  | cons p t ih =>
    obtain ⟨j, w⟩ := p
    unfold tdel
    split
    · exact ih
    · rename_i h; simp [tget, h, ih]

theorem tget_tdel_other (d : α) (t : Tab α) (k k' : Nat) (h : k' ≠ k) :
    tget d (tdel t k) k' = tget d t k' := by
  induction t with
  | nil => rfl
  | cons p t ih =>
    obtain ⟨j, w⟩ := p
    unfold tdel
    split
    · rename_i hj; subst hj; simp [tget, Ne.symm h, ih]
    · simp [tget, ih]

/-- A read after a write of the same key gives the value written. -/
@[simp] theorem tget_tset_same [DecidableEq α] (d : α) (t : Tab α) (k : Nat) (v : α) :
    tget d (tset d t k v) k = v := by
  unfold tset; split
  · rename_i h; simp [h]
  · simp

/-- A write leaves every other key alone. -/
theorem tget_tset_other [DecidableEq α] (d : α) (t : Tab α) (k k' : Nat) (v : α) (h : k' ≠ k) :
    tget d (tset d t k v) k' = tget d t k' := by
  unfold tset; split
  · exact tget_tdel_other d t k k' h
  · exact tget_tput_other d t k k' v h

theorem twfFrom_mono [DecidableEq α] (d : α) {lo lo' : Nat} (t : Tab α) (h : lo' ≤ lo)
    (w : twfFrom d lo t = true) : twfFrom d lo' t = true := by
  cases t with
  | nil => rfl
  | cons p t =>
    simp only [twfFrom, Bool.and_eq_true, decide_eq_true_eq] at *
    exact ⟨⟨by omega, w.1.2⟩, w.2⟩

theorem twfFrom_tput [DecidableEq α] (d : α) (lo : Nat) (t : Tab α) (k : Nat) (v : α) (hv : v ≠ d)
    (hk : lo ≤ k) (w : twfFrom d lo t = true) : twfFrom d lo (tput t k v) = true := by
  induction t generalizing lo with
  | nil => simp [tput, twfFrom, hv, hk]
  | cons p t ih =>
    obtain ⟨j, x⟩ := p
    simp only [twfFrom, Bool.and_eq_true, decide_eq_true_eq] at w
    unfold tput
    split
    · rename_i hj; subst hj; simp [twfFrom, hv, hk, w.2]
    · split
      · rename_i hlt; simp [twfFrom, hv, hk, w.1.2, w.2]; omega
      · rename_i hne hlt
        simp only [twfFrom, Bool.and_eq_true, decide_eq_true_eq]
        exact ⟨w.1, ih (j + 1) (by omega) w.2⟩

theorem twfFrom_tdel [DecidableEq α] (d : α) (lo : Nat) (t : Tab α) (k : Nat)
    (w : twfFrom d lo t = true) : twfFrom d lo (tdel t k) = true := by
  induction t generalizing lo with
  | nil => rfl
  | cons p t ih =>
    obtain ⟨j, x⟩ := p
    simp only [twfFrom, Bool.and_eq_true, decide_eq_true_eq] at w
    unfold tdel
    split
    · exact twfFrom_mono d _ (by omega) (ih (j + 1) w.2)
    · simp only [twfFrom, Bool.and_eq_true, decide_eq_true_eq]
      exact ⟨w.1, ih (j + 1) w.2⟩

/-- Every write keeps the canonical form. -/
theorem twf_tset [DecidableEq α] (d : α) (t : Tab α) (k : Nat) (v : α) (w : twf d t = true) :
    twf d (tset d t k v) = true := by
  unfold tset; split
  · exact twfFrom_tdel d 0 t k w
  · rename_i h; exact twfFrom_tput d 0 t k v h (Nat.zero_le k) w

theorem twf_tmod [DecidableEq α] (d : α) (t : Tab α) (k : Nat) (f : α → α) (w : twf d t = true) :
    twf d (tmod d t k f) = true := twf_tset d t k _ w

@[simp] theorem Mem.rd_wr_same (m : Mem) (a : Nat) (b : Byte) : Mem.rd (Mem.wr m a b) a = b :=
  tget_tset_same _ m a b

theorem Mem.rd_wr_other (m : Mem) (a a' : Nat) (b : Byte) (h : a' ≠ a) :
    Mem.rd (Mem.wr m a b) a' = Mem.rd m a' := tget_tset_other _ m a a' b h

/-- A write of consecutive bytes leaves every byte outside them alone. -/
theorem Mem.rd_wrs_outside (m : Mem) (a : Nat) (bs : List Byte) (a' : Nat)
    (h : a' < a ∨ a + bs.length ≤ a') : Mem.rd (Mem.wrs m a bs) a' = Mem.rd m a' := by
  induction bs generalizing m a with
  | nil => rfl
  | cons b bs ih =>
    simp only [List.length_cons] at h
    rw [Mem.wrs, ih _ _ (by omega), Mem.rd_wr_other _ _ _ _ (by omega)]

theorem Mem.wf_wr (m : Mem) (a : Nat) (b : Byte) (w : Mem.wf m = true) : Mem.wf (Mem.wr m a b) = true :=
  twf_tset _ m a b w

theorem Mem.wf_wrs (m : Mem) (a : Nat) (bs : List Byte) (w : Mem.wf m = true) :
    Mem.wf (Mem.wrs m a bs) = true := by
  induction bs generalizing m a with
  | nil => exact w
  | cons b bs ih => exact ih _ _ (Mem.wf_wr m a b w)

theorem twfFrom_filter [DecidableEq α] (d : α) (lo : Nat) (t : Tab α) (p : Nat × α → Bool)
    (w : twfFrom d lo t = true) : twfFrom d lo (t.filter p) = true := by
  induction t generalizing lo with
  | nil => rfl
  | cons e t ih =>
    obtain ⟨j, x⟩ := e
    simp only [twfFrom, Bool.and_eq_true, decide_eq_true_eq] at w
    rw [List.filter_cons]
    split
    · simp only [twfFrom, Bool.and_eq_true, decide_eq_true_eq]
      exact ⟨w.1, ih _ w.2⟩
    · exact twfFrom_mono d _ (by omega) (ih _ w.2)

theorem twf_twipe [DecidableEq α] (d : α) (t : Tab α) (a n : Nat) (w : twf d t = true) : twf d (twipe t a n) = true :=
  twfFrom_filter d 0 t _ w

/-- Wiping a range keeps the canonical form. -/
theorem Mem.wf_wipe (m : Mem) (a n : Nat) (w : Mem.wf m = true) : Mem.wf (Mem.wipe m a n) = true :=
  twfFrom_filter _ 0 m _ w

/-- A wiped byte reads as an unwritten one; every other is left alone. -/
theorem Mem.rd_wipe (m : Mem) (a n b : Nat) :
    Mem.rd (Mem.wipe m a n) b = if a ≤ b ∧ b < a + n then 0 else Mem.rd m b := by
  unfold Mem.rd Mem.wipe
  induction m with
  | nil => simp [tget]
  | cons e m ih =>
    obtain ⟨j, x⟩ := e
    rw [List.filter_cons]
    by_cases hj : j = b
    · subst hj
      by_cases hin : a ≤ j ∧ j < a + n
      · rw [if_neg (by simp; omega), ih]; simp [hin]
      · rw [if_pos (by simp; omega)]; simp [tget, hin]
    · split
      · rw [tget, if_neg hj, ih, tget, if_neg hj]
      · rw [ih, tget, if_neg hj]

@[simp] theorem Mem.rds_length (m : Mem) (a n : Nat) : (Mem.rds m a n).length = n := by
  induction n generalizing a with
  | zero => rfl
  | succ n ih => simp [Mem.rds, ih]

@[simp] theorem leBytes_length (n v : Nat) : (leBytes n v).length = n := by
  induction n generalizing v with
  | zero => rfl
  | succ n ih => simp [leBytes, ih]

end Sys2Proof.Machine
end

