-- ==== Sys2Proof/Laws/Access.lean ====
section
/-! SUPPORT. What reading a numbered unit gives after a write of it, and after a write of another. -/

namespace Sys2Proof.Machine

@[simp] theorem assayOf_setAssay_same (s : State) (k : Nat) (v : Assay) : assayOf (setAssay s k v) k = v := by
  simp [setAssay, assayOf]

theorem assayOf_setAssay_other (s : State) (k j : Nat) (v : Assay) (h : j ≠ k) : assayOf (setAssay s k v) j = assayOf s j := by
  simp [setAssay, assayOf, tget_tset_other _ _ _ _ _ h]

@[simp] theorem assayOf_modAssay_same (s : State) (k : Nat) (f : Assay → Assay) : assayOf (modAssay s k f) k = f (assayOf s k) := by
  simp [modAssay, setAssay, assayOf]

theorem assayOf_modAssay_other (s : State) (k j : Nat) (f : Assay → Assay) (h : j ≠ k) : assayOf (modAssay s k f) j = assayOf s j := by
  simp [modAssay, setAssay, assayOf, tget_tset_other _ _ _ _ _ h]

@[simp] theorem unitOf_modUnit_same (s : State) (k : Nat) (f : AudioUnit → AudioUnit) : unitOf (modUnit s k f) k = f (unitOf s k) := by
  simp [modUnit, unitOf, tmod]

theorem unitOf_modUnit_other (s : State) (k j : Nat) (f : AudioUnit → AudioUnit) (h : j ≠ k) : unitOf (modUnit s k f) j = unitOf s j := by
  simp [modUnit, unitOf, tmod, tget_tset_other _ _ _ _ _ h]

@[simp] theorem busOf_modBus_same (s : State) (k : Nat) (f : Bus → Bus) : busOf (modBus s k f) k = f (busOf s k) := by
  simp [modBus, busOf, tmod]

theorem busOf_modBus_other (s : State) (k j : Nat) (f : Bus → Bus) (h : j ≠ k) : busOf (modBus s k f) j = busOf s j := by
  simp [modBus, busOf, tmod, tget_tset_other _ _ _ _ _ h]

@[simp] theorem inputOf_modInput_same (s : State) (k : Nat) (f : Input → Input) : inputOf (modInput s k f) k = f (inputOf s k) := by
  simp [modInput, inputOf, tmod]

theorem inputOf_modInput_other (s : State) (k j : Nat) (f : Input → Input) (h : j ≠ k) : inputOf (modInput s k f) j = inputOf s j := by
  simp [modInput, inputOf, tmod, tget_tset_other _ _ _ _ _ h]

@[simp] theorem toneOf_modTone_same (s : State) (k : Nat) (f : Tone → Tone) : toneOf (modTone s k f) k = f (toneOf s k) := by
  simp [modTone, toneOf, tmod]

theorem toneOf_modTone_other (s : State) (k j : Nat) (f : Tone → Tone) (h : j ≠ k) : toneOf (modTone s k f) j = toneOf s j := by
  simp [modTone, toneOf, tmod, tget_tset_other _ _ _ _ _ h]

@[simp] theorem streamOf_modStream_same (s : State) (k : Nat) (f : AudioStream → AudioStream) : streamOf (modStream s k f) k = f (streamOf s k) := by
  simp [modStream, streamOf, tmod]

theorem streamOf_modStream_other (s : State) (k j : Nat) (f : AudioStream → AudioStream) (h : j ≠ k) : streamOf (modStream s k f) j = streamOf s j := by
  simp [modStream, streamOf, tmod, tget_tset_other _ _ _ _ _ h]

@[simp] theorem jackOf_modJack_same (s : State) (k : Nat) (f : Jack → Jack) : jackOf (modJack s k f) k = f (jackOf s k) := by
  simp [modJack, jackOf, tmod]

theorem jackOf_modJack_other (s : State) (k j : Nat) (f : Jack → Jack) (h : j ≠ k) : jackOf (modJack s k f) j = jackOf s j := by
  simp [modJack, jackOf, tmod, tget_tset_other _ _ _ _ _ h]

@[simp] theorem chanOf_setChan_same (s : State) (k : Nat) (v : DmaChan) : chanOf (setChan s k v) k = v := by
  simp [setChan, chanOf]

theorem chanOf_setChan_other (s : State) (k j : Nat) (v : DmaChan) (h : j ≠ k) : chanOf (setChan s k v) j = chanOf s j := by
  simp [setChan, chanOf, tget_tset_other _ _ _ _ _ h]

@[simp] theorem chanOf_modChan_same (s : State) (k : Nat) (f : DmaChan → DmaChan) : chanOf (modChan s k f) k = f (chanOf s k) := by
  simp [modChan, setChan, chanOf]

theorem chanOf_modChan_other (s : State) (k j : Nat) (f : DmaChan → DmaChan) (h : j ≠ k) : chanOf (modChan s k f) j = chanOf s j := by
  simp [modChan, setChan, chanOf, tget_tset_other _ _ _ _ _ h]

@[simp] theorem rankOf_setRank_same (s : State) (k : Nat) (v : Rank) : rankOf' (setRank s k v) k = v := by
  simp [setRank, rankOf']

theorem rankOf_setRank_other (s : State) (k j : Nat) (v : Rank) (h : j ≠ k) : rankOf' (setRank s k v) j = rankOf' s j := by
  simp [setRank, rankOf', tget_tset_other _ _ _ _ _ h]

@[simp] theorem rankOf_modRank_same (s : State) (k : Nat) (f : Rank → Rank) : rankOf' (modRank s k f) k = f (rankOf' s k) := by
  simp [modRank, setRank, rankOf']

theorem rankOf_modRank_other (s : State) (k j : Nat) (f : Rank → Rank) (h : j ≠ k) : rankOf' (modRank s k f) j = rankOf' s j := by
  simp [modRank, setRank, rankOf', tget_tset_other _ _ _ _ _ h]

@[simp] theorem evSrc_setEvSrc_same (s : State) (k : Nat) (v : EvSrc) : evSrc (setEvSrc s k v) k = v := by
  simp [setEvSrc, evSrc]

theorem evSrc_setEvSrc_other (s : State) (k j : Nat) (v : EvSrc) (h : j ≠ k) : evSrc (setEvSrc s k v) j = evSrc s j := by
  simp [setEvSrc, evSrc, tget_tset_other _ _ _ _ _ h]

@[simp] theorem groveOf_setGrove_same (s : State) (k : Nat) (v : Grove) : groveOf (setGrove s k v) k = v := by
  simp [setGrove, groveOf]

theorem groveOf_setGrove_other (s : State) (k j : Nat) (v : Grove) (h : j ≠ k) : groveOf (setGrove s k v) j = groveOf s j := by
  simp [setGrove, groveOf, tget_tset_other _ _ _ _ _ h]

@[simp] theorem groveOf_modGrove_same (s : State) (k : Nat) (f : Grove → Grove) : groveOf (modGrove s k f) k = f (groveOf s k) := by
  simp [modGrove, setGrove, groveOf]

theorem groveOf_modGrove_other (s : State) (k j : Nat) (f : Grove → Grove) (h : j ≠ k) : groveOf (modGrove s k f) j = groveOf s j := by
  simp [modGrove, setGrove, groveOf, tget_tset_other _ _ _ _ _ h]

@[simp] theorem ctxOf_setCtx_same (s : State) (k : Nat) (v : Context) : ctxOf (setCtx s k v) k = v := by
  simp [setCtx, ctxOf]

theorem ctxOf_setCtx_other (s : State) (k j : Nat) (v : Context) (h : j ≠ k) : ctxOf (setCtx s k v) j = ctxOf s j := by
  simp [setCtx, ctxOf, tget_tset_other _ _ _ _ _ h]

@[simp] theorem ctxOf_modCtx_same (s : State) (k : Nat) (f : Context → Context) : ctxOf (modCtx s k f) k = f (ctxOf s k) := by
  simp [modCtx, setCtx, ctxOf]

theorem ctxOf_modCtx_other (s : State) (k j : Nat) (f : Context → Context) (h : j ≠ k) : ctxOf (modCtx s k f) j = ctxOf s j := by
  simp [modCtx, setCtx, ctxOf, tget_tset_other _ _ _ _ _ h]

@[simp] theorem hapOf_modHap_same (s : State) (k : Nat) (f : HapChan → HapChan) : hapOf (modHap s k f) k = f (hapOf s k) := by
  simp [modHap, hapOf, tmod]

theorem hapOf_modHap_other (s : State) (k j : Nat) (f : HapChan → HapChan) (h : j ≠ k) : hapOf (modHap s k f) j = hapOf s j := by
  simp [modHap, hapOf, tmod, tget_tset_other _ _ _ _ _ h]

@[simp] theorem headOf_setHead_same (s : State) (k : Nat) (v : Head) : headOf (setHead s k v) k = v := by
  simp [setHead, headOf]

theorem headOf_setHead_other (s : State) (k j : Nat) (v : Head) (h : j ≠ k) : headOf (setHead s k v) j = headOf s j := by
  simp [setHead, headOf, tget_tset_other _ _ _ _ _ h]

@[simp] theorem headOf_modHead_same (s : State) (k : Nat) (f : Head → Head) : headOf (modHead s k f) k = f (headOf s k) := by
  simp [modHead, setHead, headOf]

theorem headOf_modHead_other (s : State) (k j : Nat) (f : Head → Head) (h : j ≠ k) : headOf (modHead s k f) j = headOf s j := by
  simp [modHead, setHead, headOf, tget_tset_other _ _ _ _ _ h]

@[simp] theorem slotOf_setSlot_same (s : State) (k : Nat) (v : Slot) : slotOf (setSlot s k v) k = v := by
  simp [setSlot, slotOf]

theorem slotOf_setSlot_other (s : State) (k j : Nat) (v : Slot) (h : j ≠ k) : slotOf (setSlot s k v) j = slotOf s j := by
  simp [setSlot, slotOf, tget_tset_other _ _ _ _ _ h]

@[simp] theorem slotOf_modSlot_same (s : State) (k : Nat) (f : Slot → Slot) : slotOf (modSlot s k f) k = f (slotOf s k) := by
  simp [modSlot, setSlot, slotOf]

theorem slotOf_modSlot_other (s : State) (k j : Nat) (f : Slot → Slot) (h : j ≠ k) : slotOf (modSlot s k f) j = slotOf s j := by
  simp [modSlot, setSlot, slotOf, tget_tset_other _ _ _ _ _ h]

@[simp] theorem stagerOf_setStager_same (s : State) (k : Nat) (v : Stager) : stagerOf (setStager s k v) k = v := by
  simp [setStager, stagerOf]

theorem stagerOf_setStager_other (s : State) (k j : Nat) (v : Stager) (h : j ≠ k) : stagerOf (setStager s k v) j = stagerOf s j := by
  simp [setStager, stagerOf, tget_tset_other _ _ _ _ _ h]

@[simp] theorem tenOf_setTen_same (s : State) (k : Nat) (v : Tenancy) : tenOf (setTen s k v) k = v := by
  simp [setTen, tenOf]

theorem tenOf_setTen_other (s : State) (k j : Nat) (v : Tenancy) (h : j ≠ k) : tenOf (setTen s k v) j = tenOf s j := by
  simp [setTen, tenOf, tget_tset_other _ _ _ _ _ h]

@[simp] theorem tenOf_modTen_same (s : State) (k : Nat) (f : Tenancy → Tenancy) : tenOf (modTen s k f) k = f (tenOf s k) := by
  simp [modTen, setTen, tenOf]

theorem tenOf_modTen_other (s : State) (k j : Nat) (f : Tenancy → Tenancy) (h : j ≠ k) : tenOf (modTen s k f) j = tenOf s j := by
  simp [modTen, setTen, tenOf, tget_tset_other _ _ _ _ _ h]

@[simp] theorem fnOf_setFn_same (s : State) (k : Nat) (v : Fn) : fnOf (setFn s k v) k = v := by
  simp [setFn, fnOf]

theorem fnOf_setFn_other (s : State) (k j : Nat) (v : Fn) (h : j ≠ k) : fnOf (setFn s k v) j = fnOf s j := by
  simp [setFn, fnOf, tget_tset_other _ _ _ _ _ h]

@[simp] theorem fnOf_modFn_same (s : State) (k : Nat) (f : Fn → Fn) : fnOf (modFn s k f) k = f (fnOf s k) := by
  simp [modFn, setFn, fnOf]

theorem fnOf_modFn_other (s : State) (k j : Nat) (f : Fn → Fn) (h : j ≠ k) : fnOf (modFn s k f) j = fnOf s j := by
  simp [modFn, setFn, fnOf, tget_tset_other _ _ _ _ _ h]

@[simp] theorem evRing_setEvRing_same (s : State) (k : Nat) (v : EvRing) : evRing (setEvRing s k v) k = v := by
  simp [setEvRing, evRing]

theorem evRing_setEvRing_other (s : State) (k j : Nat) (v : EvRing) (h : j ≠ k) : evRing (setEvRing s k v) j = evRing s j := by
  simp [setEvRing, evRing, tget_tset_other _ _ _ _ _ h]

@[simp] theorem lgSrc_setLgSrc_same (s : State) (k : Nat) (v : LgSrc) : lgSrc (setLgSrc s k v) k = v := by
  simp [setLgSrc, lgSrc]

theorem lgSrc_setLgSrc_other (s : State) (k j : Nat) (v : LgSrc) (h : j ≠ k) : lgSrc (setLgSrc s k v) j = lgSrc s j := by
  simp [setLgSrc, lgSrc, tget_tset_other _ _ _ _ _ h]

@[simp] theorem portOf_modPort_same (s : State) (k : Nat) (f : TouchPort → TouchPort) : portOf (modPort s k f) k = f (portOf s k) := by
  simp [modPort, portOf, tmod]

theorem portOf_modPort_other (s : State) (k j : Nat) (f : TouchPort → TouchPort) (h : j ≠ k) : portOf (modPort s k f) j = portOf s j := by
  simp [modPort, portOf, tmod, tget_tset_other _ _ _ _ _ h]

@[simp] theorem appletOf_setApplet_same (s : State) (k : Nat) (v : Applet) : appletOf (setApplet s k v) k = v := by
  simp [setApplet, appletOf]

theorem appletOf_setApplet_other (s : State) (k j : Nat) (v : Applet) (h : j ≠ k) : appletOf (setApplet s k v) j = appletOf s j := by
  simp [setApplet, appletOf, tget_tset_other _ _ _ _ _ h]

@[simp] theorem crOf_setCr_same (s : State) (f r : Nat) (v : CmdRing) : crOf (setCr s f r v) f r = v := by
  simp [setCr, crOf]

theorem crOf_setCr_other (s : State) (f r g q : Nat) (v : CmdRing) (h : 4 * g + q ≠ 4 * f + r) :
    crOf (setCr s f r v) g q = crOf s g q := by
  simp [setCr, crOf, tget_tset_other _ _ _ _ _ h]

@[simp] theorem crOf_modCr_same (s : State) (f r : Nat) (g : CmdRing → CmdRing) : crOf (modCr s f r g) f r = g (crOf s f r) := by
  simp [modCr]

theorem crOf_modCr_other (s : State) (f r g q : Nat) (k : CmdRing → CmdRing) (h : 4 * g + q ≠ 4 * f + r) :
    crOf (modCr s f r k) g q = crOf s g q := by
  simp [modCr, crOf_setCr_other _ _ _ _ _ _ h]

end Sys2Proof.Machine
end

