-- ==== Sys2Proof/Laws/Kept.lean ====
section
/-! SUPPORT. What every operation keeps: the queue, a latched HALT, the tick count, and the invariant; and the lemmas for
the updates of one part, which the operations' own lemmas cite. -/

namespace Sys2Proof.Machine

/-- The queue is q; the latched HALT source is h, where one is named; the tick count is k, where one is named; and, where
ok, the invariant holds. -/
structure Kept (q : List Instr) (h k : Option Nat) (ok : Bool) (s : State) : Prop where
  queue : s.pending = q
  latch : ∀ b, h = some b → s.lg.haltSrc = some b
  tick : ∀ n, k = some n → s.tl.tick = n
  inv : ok = true → Inv s

variable {q : List Instr} {h k : Option Nat} {ok : Bool} {s : State}

theorem Kept.weaken (w : Kept q h k ok s) : Kept q none none ok s :=
  ⟨w.queue, fun _ e => by simp at e, fun _ e => by simp at e, w.inv⟩

theorem kept_ite {c : Prop} [Decidable c] {a b : State} (x : Kept q h k ok a) (y : Kept q h k ok b) : Kept q h k ok (if c then a else b) := by
  split <;> assumption

theorem kept_bite {c : Bool} {a b : State} (x : Kept q h k ok a) (y : Kept q h k ok b) : Kept q h k ok (if c = true then a else b) := by
  split <;> assumption

theorem kept_foldl {α : Type} {f : State → α → State} {l : List α} (hf : ∀ t x, Kept q h k ok t → Kept q h k ok (f t x))
    (w : Kept q h k ok s) : Kept q h k ok (l.foldl f s) := by
  induction l generalizing s with
  | nil => exact w
  | cons x l ih => exact ih (hf _ _ w)

/-- A fold that carries the state beside other things: g is where it carries it. -/
theorem kept_foldl_at {α β : Type} (g : β → State) {f : β → α → β} {l : List α} {b : β}
    (hf : ∀ t x, Kept q h k ok (g t) → Kept q h k ok (g (f t x))) (w : Kept q h k ok (g b)) : Kept q h k ok (g (l.foldl f b)) := by
  induction l generalizing b with
  | nil => exact w
  | cons x l ih => exact ih (hf _ _ w)

theorem kept_foldl_1 {α β : Type} {f : State × β → α → State × β} {l : List α} {b : State × β}
    (hf : ∀ t x, Kept q h k ok t.1 → Kept q h k ok (f t x).1) (w : Kept q h k ok b.1) : Kept q h k ok (l.foldl f b).1 :=
  kept_foldl_at (fun t : State × β => t.1) hf w

theorem kept_foldl_2 {α β : Type} {f : β × State → α → β × State} {l : List α} {b : β × State}
    (hf : ∀ t x, Kept q h k ok t.2 → Kept q h k ok (f t x).2) (w : Kept q h k ok b.2) : Kept q h k ok (l.foldl f b).2 :=
  kept_foldl_at (fun t : β × State => t.2) hf w

theorem kept_foldl_22 {α β γ : Type} {f : β × γ × State → α → β × γ × State} {l : List α} {b : β × γ × State}
    (hf : ∀ t x, Kept q h k ok t.2.2 → Kept q h k ok (f t x).2.2) (w : Kept q h k ok b.2.2) : Kept q h k ok (l.foldl f b).2.2 :=
  kept_foldl_at (fun t : β × γ × State => t.2.2) hf w

theorem kept_modWheels {f : Wheels → Wheels} (w : Kept q h k ok s) : Kept q h k ok (s.modWheels f) := ⟨w.queue, w.latch, w.tick, w.inv⟩
theorem kept_modPcie {f : Pcie → Pcie} (w : Kept q h k ok s) : Kept q h k ok (s.modPcie f) := ⟨w.queue, w.latch, w.tick, w.inv⟩
theorem kept_modFns {f : Tab Fn → Tab Fn} (w : Kept q h k ok s) : Kept q h k ok (s.modFns f) := ⟨w.queue, w.latch, w.tick, w.inv⟩
theorem kept_modCrs {f : Tab CmdRing → Tab CmdRing} (w : Kept q h k ok s) : Kept q h k ok (s.modCrs f) := ⟨w.queue, w.latch, w.tick, w.inv⟩
theorem kept_modEvr {f : Tab EvRing → Tab EvRing} (w : Kept q h k ok s) : Kept q h k ok (s.modEvr f) := ⟨w.queue, w.latch, w.tick, w.inv⟩
theorem kept_modEv {f : Events → Events} (w : Kept q h k ok s) : Kept q h k ok (s.modEv f) := ⟨w.queue, w.latch, w.tick, w.inv⟩
theorem kept_modTens {f : Tab Tenancy → Tab Tenancy} (w : Kept q h k ok s) : Kept q h k ok (s.modTens f) := ⟨w.queue, w.latch, w.tick, w.inv⟩
theorem kept_modLoads {f : List PendingLoad → List PendingLoad} (w : Kept q h k ok s) : Kept q h k ok (s.modLoads f) := ⟨w.queue, w.latch, w.tick, w.inv⟩
theorem kept_modVisible {f : List Visible → List Visible} (w : Kept q h k ok s) : Kept q h k ok (s.modVisible f) := ⟨w.queue, w.latch, w.tick, w.inv⟩
theorem kept_modCharges {f : List Charge → List Charge} (w : Kept q h k ok s) : Kept q h k ok (s.modCharges f) := ⟨w.queue, w.latch, w.tick, w.inv⟩
theorem kept_modComp {f : Compose → Compose} (w : Kept q h k ok s) : Kept q h k ok (s.modComp f) := ⟨w.queue, w.latch, w.tick, w.inv⟩
theorem kept_modAu {f : Integrity → Integrity} (w : Kept q h k ok s) : Kept q h k ok (s.modAu f) := ⟨w.queue, w.latch, w.tick, w.inv⟩
theorem kept_modGpu {f : Gpu → Gpu} (w : Kept q h k ok s) : Kept q h k ok (s.modGpu f) := ⟨w.queue, w.latch, w.tick, w.inv⟩
theorem kept_modDma {f : Dma → Dma} (w : Kept q h k ok s) : Kept q h k ok (s.modDma f) := ⟨w.queue, w.latch, w.tick, w.inv⟩
theorem kept_modAudio {f : Audio → Audio} (w : Kept q h k ok s) : Kept q h k ok (s.modAudio f) := ⟨w.queue, w.latch, w.tick, w.inv⟩
theorem kept_modTouch {f : Touch → Touch} (w : Kept q h k ok s) : Kept q h k ok (s.modTouch f) := ⟨w.queue, w.latch, w.tick, w.inv⟩
theorem kept_modHaptic {f : Haptic → Haptic} (w : Kept q h k ok s) : Kept q h k ok (s.modHaptic f) := ⟨w.queue, w.latch, w.tick, w.inv⟩
theorem kept_modWd {f : Warden → Warden} (w : Kept q h k ok s) : Kept q h k ok (s.modWd f) := ⟨w.queue, w.latch, w.tick, w.inv⟩
theorem kept_modPw {f : Power → Power} (w : Kept q h k ok s) : Kept q h k ok (s.modPw f) := ⟨w.queue, w.latch, w.tick, w.inv⟩
theorem kept_modHokusaSafe {f : Bool → Bool} (w : Kept q h k ok s) : Kept q h k ok (s.modHokusaSafe f) := ⟨w.queue, w.latch, w.tick, w.inv⟩
theorem kept_modFree {f : Nat → Nat} (w : Kept q h k ok s) : Kept q h k ok (s.modFree f) := ⟨w.queue, w.latch, w.tick, w.inv⟩

theorem kept_modLg {f : Ledger → Ledger} (hf : ∀ l b, l.haltSrc = some b → (f l).haltSrc = some b) (w : Kept q h k ok s) :
    Kept q h k ok (s.modLg f) := ⟨w.queue, fun b e => hf _ _ (w.latch b e), w.tick, w.inv⟩

theorem kept_modSr {f : Stockroom → Stockroom} (hf : ∀ r, Mem.wf r.mem = true → Mem.wf (f r).mem = true) (w : Kept q h k ok s) :
    Kept q h k ok (s.modSr f) := ⟨w.queue, w.latch, w.tick, fun e => ⟨(w.inv e).1, ⟨(w.inv e).2.1.1, hf _ (w.inv e).2.1.2.1, (w.inv e).2.1.2.2⟩, (w.inv e).2.2⟩⟩

theorem kept_modDram {f : Dram → Dram} (hf : ∀ r, Mem.wf r.mem = true → Mem.wf (f r).mem = true) (w : Kept q h k ok s) :
    Kept q h k ok (s.modDram f) := ⟨w.queue, w.latch, w.tick, fun e => ⟨(w.inv e).1, ⟨(w.inv e).2.1.1, (w.inv e).2.1.2.1, hf _ (w.inv e).2.1.2.2⟩, (w.inv e).2.2⟩⟩

theorem kept_modHost {f : Mem → Mem} (hf : ∀ m, Mem.wf m = true → Mem.wf (f m) = true) (w : Kept q h k ok s) :
    Kept q h k ok (s.modHost f) := ⟨w.queue, w.latch, w.tick, fun e => ⟨(w.inv e).1, ⟨hf _ (w.inv e).2.1.1, (w.inv e).2.1.2⟩, (w.inv e).2.2⟩⟩

theorem kept_modTl {f : Timeline → Timeline} (ht : ∀ t, TimelineOk t → TimelineOk (f t)) (hk : ∀ t, (f t).tick = t.tick)
    (w : Kept q h k ok s) : Kept q h k ok (s.modTl f) :=
  ⟨w.queue, w.latch, fun n e => (hk _).trans (w.tick n e), fun e => ⟨(w.inv e).1, (w.inv e).2.1, ht _ (w.inv e).2.2⟩⟩

/-- A change of flights one by one that keeps their numbers. -/
theorem kept_mapFlights {f : Flight → Flight} (hf : ∀ g, (f g).id = g.id) (w : Kept q h k ok s) :
    Kept q h k ok (s.modFlights fun l => l.map f) := by
  refine ⟨w.queue, w.latch, w.tick, fun ok => ⟨⟨?_, ?_⟩, (w.inv ok).2.1, (w.inv ok).2.2⟩⟩
  · have e : ((s.flights.map f).map fun g => g.id) = s.flights.map fun g => g.id := by
      rw [List.map_map]; exact List.map_congr_left fun g _ => hf g
    show ((s.flights.map f).map fun g => g.id).Pairwise _
    rw [e]; exact (w.inv ok).1.1
  · intro g hg
    obtain ⟨x, hx, rfl⟩ := List.mem_map.1 hg
    rw [hf]; exact (w.inv ok).1.2 x hx

/-- Flights that leave. -/
theorem kept_filterFlights {p : Flight → Bool} (w : Kept q h k ok s) : Kept q h k ok (s.modFlights fun l => l.filter p) :=
  ⟨w.queue, w.latch, w.tick, fun e => ⟨⟨(w.inv e).1.1.sublist ((List.filter_sublist ..).map _),
    fun g hg => (w.inv e).1.2 g (List.mem_filter.1 hg).1⟩, (w.inv e).2.1, (w.inv e).2.2⟩⟩

/-- A new flight with the next number. -/
theorem kept_newFlight {f : Flight} (hf : f.id = s.nextId) (w : Kept q h k ok s) :
    Kept q h k ok ((s.modNextId (· + 1)).modFlights (· ++ [f])) := by
  refine ⟨w.queue, w.latch, w.tick, fun ok => ⟨⟨?_, ?_⟩, (w.inv ok).2.1, (w.inv ok).2.2⟩⟩
  · show ((s.flights ++ [f]).map fun g => g.id).Pairwise _
    rw [List.map_append, List.pairwise_append]
    refine ⟨(w.inv ok).1.1, by simp, ?_⟩
    intro a ha b hb
    obtain ⟨x, hx, rfl⟩ := List.mem_map.1 ha
    simp only [List.map_cons, List.map_nil, List.mem_singleton] at hb
    rw [hb, hf]; exact (w.inv ok).1.2 x hx
  · intro g hg
    show g.id < s.nextId + 1
    rcases List.mem_append.1 hg with hg | hg
    · exact Nat.lt_succ_of_lt ((w.inv ok).1.2 g hg)
    · rw [List.mem_singleton.1 hg, hf]; exact Nat.lt_succ_self _

end Sys2Proof.Machine
end

