-- ==== Sys2Proof/Laws/KeptOperands.lean ====
section
/-! SUPPORT. What the operations of Machine/Operands.lean keep. -/

namespace Sys2Proof.Machine

theorem kept_setTen {q : List Instr} {h k : Option Nat} {ok : Bool} (s : State) (t : Nat) (v : Tenancy) (hw : Kept q h k ok s) :
    Kept q h k ok (setTen s t v) := by
  unfold setTen
  try dsimp only
  repeat' (first
    | with_reducible assumption | with_reducible refine kept_modTens ?_ | with_reducible refine kept_ite ?_ ?_
    | (intro _) | split | dsimp only)

theorem kept_modTen {q : List Instr} {h k : Option Nat} {ok : Bool} (s : State) (t : Nat) (f : Tenancy → Tenancy) (hw : Kept q h k ok s) :
    Kept q h k ok (modTen s t f) := by
  unfold modTen
  try dsimp only
  repeat' (first
    | with_reducible assumption | with_reducible apply kept_setTen | with_reducible refine kept_ite ?_ ?_ | (intro _)
    | split | dsimp only)

theorem kept_realign {q : List Instr} {h k : Option Nat} {ok : Bool} (z s : State) (hw : Kept q h k ok s) :
    Kept q h k ok (realign z s) := kept_modComp hw

end Sys2Proof.Machine
end

