-- ==== Sys2Proof/Laws/KeptFlags.lean ====
section
/-! SUPPORT. What the operations of Machine/Flags.lean keep. -/

namespace Sys2Proof.Machine

theorem kept_setEvSrc {q : List Instr} {h k : Option Nat} {ok : Bool} (s : State) (n : Nat) (v : EvSrc) (hw : Kept q h k ok s) :
    Kept q h k ok (setEvSrc s n v) := by
  unfold setEvSrc
  try dsimp only
  repeat' (first
    | with_reducible assumption | with_reducible refine kept_modEv ?_ | with_reducible refine kept_ite ?_ ?_ | (intro _)
    | split | dsimp only)

theorem kept_raise {q : List Instr} {h k : Option Nat} {ok : Bool} (s : State) (n bit : Nat) (hw : Kept q h k ok s) :
    Kept q h k ok (raise s n bit) := by
  unfold raise
  try dsimp only
  repeat' (first
    | with_reducible assumption | with_reducible apply kept_setEvSrc | with_reducible refine kept_ite ?_ ?_ | (intro _)
    | split | dsimp only)

theorem kept_renewSource {q : List Instr} {h k : Option Nat} {ok : Bool} (s : State) (n : Nat) (hw : Kept q h k ok s) :
    Kept q h k ok (renewSource s n) := by
  unfold renewSource
  try dsimp only
  repeat' (first
    | with_reducible assumption | with_reducible apply kept_setEvSrc | with_reducible refine kept_modEvr ?_
    | with_reducible refine kept_ite ?_ ?_ | (intro _) | split | dsimp only)

theorem kept_lower {q : List Instr} {h k : Option Nat} {ok : Bool} (s : State) (n mask : Nat) (hw : Kept q h k ok s) :
    Kept q h k ok (lower s n mask) := by
  unfold lower
  try dsimp only
  repeat' (first
    | with_reducible assumption | with_reducible apply kept_setEvSrc | with_reducible refine kept_ite ?_ ?_ | (intro _)
    | split | dsimp only)

theorem kept_clearEventWord {q : List Instr} {h k : Option Nat} {ok : Bool} (s : State) (base n w : Nat) (hw : Kept q h k ok s) :
    Kept q h k ok (clearEventWord s base n w) := by
  unfold clearEventWord
  try dsimp only
  repeat' (first
    | with_reducible assumption | with_reducible apply kept_lower | with_reducible refine kept_foldl ?_ ?_
    | with_reducible refine kept_ite ?_ ?_ | (intro _) | split | dsimp only)

end Sys2Proof.Machine
end

