-- ==== Sys2Proof/Laws/KeptOps.lean ====
section
/-! SUPPORT. What the operations of Machine/Ops.lean keep. -/

namespace Sys2Proof.Machine

theorem kept_setFn {q : List Instr} {h k : Option Nat} {ok : Bool} (s : State) (n : Nat) (v : Fn) (hw : Kept q h k ok s) :
    Kept q h k ok (setFn s n v) := by
  unfold setFn
  try dsimp only
  repeat' (first
    | with_reducible assumption | with_reducible refine kept_modFns ?_ | with_reducible refine kept_ite ?_ ?_
    | (intro _) | split | dsimp only)

theorem kept_modFn {q : List Instr} {h k : Option Nat} {ok : Bool} (s : State) (n : Nat) (f : Fn → Fn) (hw : Kept q h k ok s) :
    Kept q h k ok (modFn s n f) := by
  unfold modFn
  try dsimp only
  repeat' (first
    | with_reducible assumption | with_reducible apply kept_setFn | with_reducible refine kept_ite ?_ ?_ | (intro _)
    | split | dsimp only)

theorem kept_setCr {q : List Instr} {h k : Option Nat} {ok : Bool} (s : State) (f r : Nat) (v : CmdRing) (hw : Kept q h k ok s) :
    Kept q h k ok (setCr s f r v) := by
  unfold setCr
  try dsimp only
  repeat' (first
    | with_reducible assumption | with_reducible refine kept_modCrs ?_ | with_reducible refine kept_ite ?_ ?_
    | (intro _) | split | dsimp only)

theorem kept_modCr {q : List Instr} {h k : Option Nat} {ok : Bool} (s : State) (f r : Nat) (g : CmdRing → CmdRing) (hw : Kept q h k ok s) :
    Kept q h k ok (modCr s f r g) := by
  unfold modCr
  try dsimp only
  repeat' (first
    | with_reducible assumption | with_reducible apply kept_setCr | with_reducible refine kept_ite ?_ ?_ | (intro _)
    | split | dsimp only)

theorem kept_setEvRing {q : List Instr} {h k : Option Nat} {ok : Bool} (s : State) (p : Nat) (v : EvRing) (hw : Kept q h k ok s) :
    Kept q h k ok (setEvRing s p v) := by
  unfold setEvRing
  try dsimp only
  repeat' (first
    | with_reducible assumption | with_reducible refine kept_modEvr ?_ | with_reducible refine kept_ite ?_ ?_
    | (intro _) | split | dsimp only)

theorem kept_freshValue {q : List Instr} {h k : Option Nat} {ok : Bool} (s : State) (hw : Kept q h k ok s) : Kept q h k ok (freshValue s).2 := kept_modFree hw

theorem kept_freshBytes {q : List Instr} {h k : Option Nat} {ok : Bool} (s : State) (n : Nat) (hw : Kept q h k ok s) : Kept q h k ok (freshBytes s n).2 := by
  induction n generalizing s with
  | zero => exact hw
  | succ n ih => exact ih _ (kept_modFree hw)

theorem kept_hostWrite {q : List Instr} {h k : Option Nat} {ok : Bool} (s : State) (a : Nat) (bs : List Byte) (hw : Kept q h k ok s) :
    Kept q h k ok (hostWrite s a bs) := by
  unfold hostWrite
  try dsimp only
  repeat' (first
    | with_reducible assumption | with_reducible refine kept_modHost ?_ ?_ | with_reducible refine kept_ite ?_ ?_
    | exact Mem.wf_wrs _ _ _ (by assumption) | (intro _) | split | dsimp only)

theorem kept_noteAer {q : List Instr} {h k : Option Nat} {ok : Bool} (s : State) (f bit : Nat) (hw : Kept q h k ok s) :
    Kept q h k ok (noteAer s f bit) := by
  unfold noteAer
  try dsimp only
  repeat' (first
    | with_reducible assumption | with_reducible apply kept_modFn | with_reducible refine kept_ite ?_ ?_ | (intro _)
    | split | dsimp only)

theorem kept_sendMessage {q : List Instr} {h k : Option Nat} {ok : Bool} (s : State) (f vec : Nat) (hw : Kept q h k ok s) :
    Kept q h k ok (sendMessage s f vec) := by
  unfold sendMessage
  try dsimp only
  repeat' (first
    | with_reducible assumption | with_reducible apply kept_modFn | with_reducible refine kept_modPcie ?_
    | with_reducible refine kept_ite ?_ ?_ | (intro _) | split | dsimp only)

theorem kept_putCompletion {q : List Instr} {h k : Option Nat} {ok : Bool} (s : State) (f r : Nat) (bs : List Byte) (hw : Kept q h k ok s) :
    Kept q h k ok (putCompletion s f r bs) := by
  unfold putCompletion
  try dsimp only
  repeat' (first
    | with_reducible assumption | with_reducible apply kept_hostWrite | with_reducible apply kept_setCr
    | with_reducible apply kept_sendMessage | with_reducible refine kept_ite ?_ ?_ | (intro _) | split | dsimp only)

theorem kept_putEvent {q : List Instr} {h k : Option Nat} {ok : Bool} (s : State) (f n : Nat) (bs : List Byte) (hw : Kept q h k ok s) :
    Kept q h k ok (putEvent s f n bs) := by
  unfold putEvent
  try dsimp only
  repeat' (first
    | with_reducible assumption | with_reducible apply kept_hostWrite | with_reducible apply kept_setEvRing
    | with_reducible apply kept_sendMessage | with_reducible refine kept_ite ?_ ?_ | (intro _) | split | dsimp only)

theorem kept_putRecord {q : List Instr} {h k : Option Nat} {ok : Bool} (s : State) (f : Nat) (hd' : Held) (hw : Kept q h k ok s) :
    Kept q h k ok (putRecord s f hd') := by
  unfold putRecord
  try dsimp only
  repeat' (first
    | with_reducible assumption | with_reducible refine kept_modPcie ?_ | with_reducible apply kept_hostWrite
    | with_reducible apply kept_putCompletion | with_reducible apply kept_putEvent
    | with_reducible refine kept_ite ?_ ?_ | (intro _) | split | dsimp only)

theorem kept_signalHeld {q : List Instr} {h k : Option Nat} {ok : Bool} (s : State) (f : Nat) (hw : Kept q h k ok s) :
    Kept q h k ok (signalHeld s f) := by
  unfold signalHeld
  try dsimp only
  repeat' (first
    | with_reducible assumption | with_reducible apply kept_setFn | with_reducible refine kept_modPcie ?_
    | with_reducible refine kept_ite ?_ ?_ | (intro _) | split | dsimp only)

theorem kept_holdRecord {q : List Instr} {h k : Option Nat} {ok : Bool} (s : State) (f : Nat) (hd' : Held) (hw : Kept q h k ok s) :
    Kept q h k ok (holdRecord s f hd') := by
  unfold holdRecord
  try dsimp only
  repeat' (first
    | with_reducible assumption | with_reducible apply kept_signalHeld | with_reducible apply kept_modFn
    | with_reducible refine kept_ite ?_ ?_ | (intro _) | split | dsimp only)

theorem kept_issueRecord {q : List Instr} {h k : Option Nat} {ok : Bool} (s : State) (f : Nat) (hd' : Held) (hw : Kept q h k ok s) :
    Kept q h k ok (issueRecord s f hd') := by
  unfold issueRecord
  try dsimp only
  repeat' (first
    | with_reducible assumption | with_reducible apply kept_modCr | with_reducible apply kept_putRecord
    | with_reducible apply kept_holdRecord | with_reducible refine kept_ite ?_ ?_ | (intro _) | split | dsimp only)

theorem kept_flushMessages {q : List Instr} {h k : Option Nat} {ok : Bool} (s : State) (f : Nat) (hw : Kept q h k ok s) :
    Kept q h k ok (flushMessages s f) := by
  unfold flushMessages
  try dsimp only
  repeat' (first
    | with_reducible assumption | with_reducible apply kept_sendMessage | with_reducible apply kept_setCr
    | with_reducible apply kept_setEvRing | with_reducible refine kept_foldl ?_ ?_
    | with_reducible refine kept_ite ?_ ?_ | (intro _) | split | dsimp only)

theorem kept_settleRing {q : List Instr} {h k : Option Nat} {ok : Bool} (s : State) (f r : Nat) (hw : Kept q h k ok s) :
    Kept q h k ok (settleRing s f r) := by
  unfold settleRing
  try dsimp only
  repeat' (first
    | with_reducible assumption | with_reducible apply kept_setCr | with_reducible refine kept_ite ?_ ?_ | (intro _)
    | split | dsimp only)

theorem kept_setFlight {q : List Instr} {h k : Option Nat} {ok : Bool} (s : State) (f : Flight) (hw : Kept q h k ok s) :
    Kept q h k ok (setFlight s f) := by
  unfold setFlight
  try dsimp only
  repeat' (first
    | with_reducible assumption | with_reducible refine kept_mapFlights ?_ ?_
    | with_reducible refine kept_filterFlights ?_ | with_reducible refine kept_ite ?_ ?_ | (exact fun _ => rfl) | rfl
    | exact Eq.symm (by assumption) | (intro _) | split | dsimp only)

theorem kept_accept {q : List Instr} {h k : Option Nat} {ok : Bool} (s : State) (f : Flight) (inst : Option Nat) (value : Nat) (hw : Kept q h k ok s) :
    Kept q h k ok (accept s f inst value) := by
  unfold accept
  try dsimp only
  repeat' (first
    | with_reducible assumption | with_reducible apply kept_modCr | with_reducible apply kept_setFlight
    | with_reducible apply kept_issueRecord | with_reducible refine kept_ite ?_ ?_ | (intro _) | split | dsimp only)

theorem kept_noteOutcome {q : List Instr} {h k : Option Nat} {ok : Bool} (s : State) (f : Flight) (v : Verdict) (hw : Kept q h k ok s) :
    Kept q h k ok (noteOutcome s f v) := by
  unfold noteOutcome
  try dsimp only
  repeat' (first
    | with_reducible assumption | with_reducible refine kept_modGpu ?_ | with_reducible refine kept_ite ?_ ?_
    | (intro _) | split | dsimp only)

theorem kept_finish {q : List Instr} {h k : Option Nat} {ok : Bool} (s : State) (f : Flight) (v : Verdict) (hw : Kept q h k ok s) :
    Kept q h k ok (finish s f v) := by
  unfold finish
  try dsimp only
  repeat' (first
    | with_reducible assumption | with_reducible apply kept_noteOutcome | with_reducible apply kept_modCr
    | with_reducible refine kept_mapFlights ?_ ?_ | with_reducible refine kept_filterFlights ?_
    | with_reducible apply kept_issueRecord | with_reducible apply kept_settleRing
    | with_reducible refine kept_ite ?_ ?_ | (exact fun _ => rfl) | rfl | exact Eq.symm (by assumption) | (intro _)
    | split | dsimp only)

theorem kept_finishDone {q : List Instr} {h k : Option Nat} {ok : Bool} (s : State) (f : Flight) (value : Nat) (hw : Kept q h k ok s) :
    Kept q h k ok (finishDone s f value) := by
  unfold finishDone
  try dsimp only
  repeat' (first
    | with_reducible assumption | with_reducible apply kept_finish | with_reducible refine kept_ite ?_ ?_ | (intro _)
    | split | dsimp only)

theorem kept_finishWith {q : List Instr} {h k : Option Nat} {ok : Bool} (s : State) (f : Flight) (status reason : Nat) (value : Nat) (hw : Kept q h k ok s) :
    Kept q h k ok (finishWith s f status reason value) := by
  unfold finishWith
  try dsimp only
  repeat' (first
    | with_reducible assumption | with_reducible apply kept_finish | with_reducible refine kept_ite ?_ ?_ | (intro _)
    | split | dsimp only)

theorem kept_finishAborted {q : List Instr} {h k : Option Nat} {ok : Bool} (s : State) (f : Flight) (hw : Kept q h k ok s) :
    Kept q h k ok (finishAborted s f) := by
  unfold finishAborted
  try dsimp only
  repeat' (first
    | with_reducible assumption | with_reducible apply kept_finishWith | with_reducible refine kept_ite ?_ ?_
    | (intro _) | split | dsimp only)

theorem kept_withdraw {q : List Instr} {h k : Option Nat} {ok : Bool} (s : State) (f : Flight) (v : Verdict) (hw : Kept q h k ok s) :
    Kept q h k ok (withdraw s f v) := by
  unfold withdraw
  try dsimp only
  repeat' (first
    | with_reducible assumption | with_reducible apply kept_finish | with_reducible apply kept_setFlight
    | with_reducible apply kept_accept | with_reducible refine kept_ite ?_ ?_ | (intro _) | split | dsimp only)

theorem kept_await {q : List Instr} {h k : Option Nat} {ok : Bool} (s : State) (f : Flight) (p : Phase) (hw : Kept q h k ok s) :
    Kept q h k ok (await s f p) := by
  unfold await
  try dsimp only
  repeat' (first
    | with_reducible assumption | with_reducible apply kept_setFlight | with_reducible refine kept_ite ?_ ?_ | (intro _)
    | split | dsimp only)

theorem kept_setLgSrc {q : List Instr} {h k : Option Nat} {ok : Bool} (s : State) (b : Nat) (v : LgSrc) (hw : Kept q h k ok s) :
    Kept q h k ok (setLgSrc s b v) := by
  unfold setLgSrc
  try dsimp only
  repeat' (first
    | with_reducible assumption | with_reducible refine kept_modLg ?_ ?_ | with_reducible refine kept_ite ?_ ?_
    | (exact fun _ _ e => e) | (intro _) | split | dsimp only)

theorem kept_halt {q : List Instr} {h k : Option Nat} {ok : Bool} (s : State) (b : Nat) (hw : Kept q h k ok s) : Kept q h k ok (halt s b) := by
  unfold halt
  refine kept_foldl (fun t x w => kept_ite w (kept_withdraw _ _ _ w)) ⟨hw.queue, fun c e => ?_, hw.tick, hw.inv⟩
  show some (s.lg.haltSrc.getD b) = some c
  rw [hw.latch c e]; rfl

theorem kept_assert {q : List Instr} {h k : Option Nat} {ok : Bool} (s : State) (b affect : Nat) (injected : Bool) (hw : Kept q h k ok s) :
    Kept q h k ok (assert s b affect injected) := by
  unfold assert
  try dsimp only
  repeat' (first
    | with_reducible assumption | with_reducible apply kept_setLgSrc | with_reducible apply kept_raise
    | with_reducible apply kept_halt | with_reducible refine kept_modLg ?_ ?_ | with_reducible refine kept_ite ?_ ?_
    | (exact fun _ _ e => e) | (intro _) | split | dsimp only)

theorem kept_missNote {q : List Instr} {h k : Option Nat} {ok : Bool} (s : State) (f : Flight) (hw : Kept q h k ok s) :
    Kept q h k ok (missNote s f) := by
  unfold missNote
  try dsimp only
  repeat' (first
    | with_reducible assumption | with_reducible apply kept_assert | with_reducible refine kept_ite ?_ ?_ | (intro _)
    | split | dsimp only)

theorem kept_beforeQuiesce {q : List Instr} {h k : Option Nat} {ok : Bool} (s : State) (t a : Nat) (hw : Kept q h k ok s) :
    Kept q h k ok (beforeQuiesce s t a) := by
  unfold beforeQuiesce
  try dsimp only
  repeat' (first
    | with_reducible assumption | with_reducible apply kept_modTen | with_reducible refine kept_ite ?_ ?_ | (intro _)
    | split | dsimp only)

theorem kept_barred {q : List Instr} {h k : Option Nat} {ok : Bool} (view : State) (d : Descriptor) (r : Ruling) (s : State)
    (hw : Kept q h k ok s) : Kept q h k ok (barred view d r s).2 := by
  unfold barred
  split
  · exact kept_freshValue s hw
  · exact hw

theorem kept_takeCommand {q : List Instr} {h k : Option Nat} {ok : Bool} (op : Nat) (src : CmdSrc) (d : Descriptor) (view : State)
    (check : State → Cmd → Ruling) (s : State) (hw : Kept q h k ok s) : Kept q h k ok (takeCommand op src d view check s).2 := by
  have w := kept_barred view d (ruleOf op src d view check (admissionOf s src d)) s hw
  unfold takeCommand
  refine kept_newFlight ?_ (kept_ite (kept_modVisible w) (kept_modTen _ _ _ (kept_modVisible w)))
  dsimp only
  split <;> rfl

end Sys2Proof.Machine
end

