-- ==== Sys2Proof/Laws/KeptTimelineOps.lean ====
section
/-! SUPPORT. What the operations of Machine/TimelineOps.lean keep. -/

namespace Sys2Proof.Machine

theorem kept_quietSync {q : List Instr} {h k : Option Nat} {ok : Bool} (s : State) (hw : Kept q h k ok s) :
    Kept q h k ok (quietSync s) := by
  unfold quietSync
  try dsimp only
  repeat' (first
    | with_reducible assumption | with_reducible refine kept_modTl ?_ ?_ ?_ | with_reducible refine kept_ite ?_ ?_ | rfl
    | (unfold TimelineOk at *; dsimp only at *; omega) | (intro _) | split | dsimp only)

theorem kept_installSync {q : List Instr} {h k : Option Nat} {ok : Bool} (s : State) (w o : Nat) (hw : Kept q h k ok s) :
    Kept q h k ok (installSync s w o) := by
  unfold installSync
  try dsimp only
  repeat' (first
    | with_reducible assumption | with_reducible apply kept_quietSync | with_reducible refine kept_modTl ?_ ?_ ?_
    | with_reducible refine kept_ite ?_ ?_ | rfl | (unfold TimelineOk at *; dsimp only at *; omega) | (intro _) | split
    | dsimp only)

theorem kept_enterHoldover {q : List Instr} {h k : Option Nat} {ok : Bool} (s : State) (hw : Kept q h k ok s) :
    Kept q h k ok (enterHoldover s) := by
  unfold enterHoldover
  try dsimp only
  repeat' (first
    | with_reducible assumption | with_reducible refine kept_modTl ?_ ?_ ?_ | with_reducible apply kept_assert
    | with_reducible apply kept_raise | with_reducible refine kept_ite ?_ ?_ | rfl
    | (unfold TimelineOk at *; dsimp only at *; omega) | (intro _) | split | dsimp only)

theorem kept_enterLocked {q : List Instr} {h k : Option Nat} {ok : Bool} (s : State) (hw : Kept q h k ok s) :
    Kept q h k ok (enterLocked s) := by
  unfold enterLocked
  try dsimp only
  repeat' (first
    | with_reducible assumption | with_reducible refine kept_modTl ?_ ?_ ?_ | with_reducible apply kept_raise
    | with_reducible apply kept_assert | with_reducible refine kept_ite ?_ ?_ | rfl
    | (unfold TimelineOk at *; dsimp only at *; omega) | (intro _) | split | dsimp only)

theorem kept_enterAcquire {q : List Instr} {h k : Option Nat} {ok : Bool} (s : State) (hw : Kept q h k ok s) :
    Kept q h k ok (enterAcquire s) := by
  unfold enterAcquire
  try dsimp only
  repeat' (first
    | with_reducible assumption | with_reducible refine kept_modTl ?_ ?_ ?_ | with_reducible refine kept_ite ?_ ?_ | rfl
    | (unfold TimelineOk at *; dsimp only at *; omega) | (intro _) | split | dsimp only)

theorem kept_enterFree {q : List Instr} {h k : Option Nat} {ok : Bool} (s : State) (hw : Kept q h k ok s) :
    Kept q h k ok (enterFree s) := by
  unfold enterFree
  try dsimp only
  repeat' (first
    | with_reducible assumption | with_reducible refine kept_modTl ?_ ?_ ?_ | with_reducible apply kept_raise
    | with_reducible refine kept_ite ?_ ?_ | rfl | (unfold TimelineOk at *; dsimp only at *; omega) | (intro _) | split
    | dsimp only)

theorem kept_selectSource {q : List Instr} {h k : Option Nat} {ok : Bool} (s : State) (src : Nat) (hw : Kept q h k ok s) :
    Kept q h k ok (selectSource s src) := by
  unfold selectSource
  try dsimp only
  repeat' (first
    | with_reducible assumption | with_reducible refine kept_modTl ?_ ?_ ?_ | with_reducible apply kept_enterFree
    | with_reducible apply kept_enterAcquire | with_reducible apply kept_raise | with_reducible refine kept_ite ?_ ?_
    | rfl | (unfold TimelineOk at *; dsimp only at *; omega) | (intro _) | split | dsimp only)

theorem kept_acceptEdge {q : List Instr} {h k : Option Nat} {ok : Bool} (s : State) (err : Int) (hw : Kept q h k ok s) :
    Kept q h k ok (acceptEdge s err) := by
  unfold acceptEdge
  try dsimp only
  repeat' (first
    | with_reducible assumption | with_reducible apply kept_enterAcquire | with_reducible refine kept_modTl ?_ ?_ ?_
    | with_reducible apply kept_enterLocked | with_reducible refine kept_ite ?_ ?_ | rfl
    | (unfold TimelineOk at *; dsimp only at *; omega) | (intro _) | split | dsimp only)

theorem kept_rejectRange {q : List Instr} {h k : Option Nat} {ok : Bool} (s : State) (hw : Kept q h k ok s) :
    Kept q h k ok (rejectRange s) := by
  unfold rejectRange
  try dsimp only
  repeat' (first
    | with_reducible assumption | with_reducible apply kept_raise | with_reducible refine kept_modTl ?_ ?_ ?_
    | with_reducible apply kept_enterHoldover | with_reducible refine kept_ite ?_ ?_ | rfl
    | (unfold TimelineOk at *; dsimp only at *; omega) | (intro _) | split | dsimp only)

theorem kept_missEdge {q : List Instr} {h k : Option Nat} {ok : Bool} (s : State) (hw : Kept q h k ok s) :
    Kept q h k ok (missEdge s) := by
  unfold missEdge
  try dsimp only
  repeat' (first
    | with_reducible assumption | with_reducible refine kept_modTl ?_ ?_ ?_ | with_reducible apply kept_enterHoldover
    | with_reducible refine kept_ite ?_ ?_ | rfl | (unfold TimelineOk at *; dsimp only at *; omega) | (intro _) | split
    | dsimp only)

theorem kept_stepAlign {q : List Instr} {h k : Option Nat} {ok : Bool} (s : State) (hw : Kept q h k ok s) :
    Kept q h k ok (stepAlign s) := by
  unfold stepAlign
  try dsimp only
  repeat' (first
    | with_reducible assumption | with_reducible apply kept_realign | with_reducible refine kept_modTl ?_ ?_ ?_
    | with_reducible refine kept_ite ?_ ?_ | rfl | (unfold TimelineOk at *; dsimp only at *; omega) | (intro _) | split
    | dsimp only)

theorem kept_referenceEdgeOf {q : List Instr} {h k : Option Nat} {ok : Bool} (s : State) (rising : Bool) (interval : Nat) (hw : Kept q h k ok s) :
    Kept q h k ok (referenceEdgeOf s rising interval) := by
  unfold referenceEdgeOf
  try dsimp only
  repeat' (first
    | with_reducible assumption | with_reducible apply kept_raise | with_reducible refine kept_modTl ?_ ?_ ?_
    | with_reducible apply kept_rejectRange | with_reducible apply kept_acceptEdge
    | with_reducible apply kept_freshValue | with_reducible apply kept_stepAlign | with_reducible refine kept_ite ?_ ?_
    | rfl | (unfold TimelineOk at *; dsimp only at *; omega) | (intro _) | split | dsimp only)

theorem kept_syncEdges {q : List Instr} {h k : Option Nat} {ok : Bool} (s : State) (hw : Kept q h k ok s) :
    Kept q h k ok (syncEdges s) := by
  unfold syncEdges
  try dsimp only
  repeat' (first
    | with_reducible assumption | with_reducible refine kept_modTl ?_ ?_ ?_ | with_reducible refine kept_ite ?_ ?_ | rfl
    | (unfold TimelineOk at *; dsimp only at *; omega) | (intro _) | split | dsimp only)

theorem kept_syncEvent {q : List Instr} {h k : Option Nat} {ok : Bool} (s : State) (sel : Nat) (hw : Kept q h k ok s) :
    Kept q h k ok (syncEvent s sel) := by
  unfold syncEvent
  try dsimp only
  repeat' (first
    | with_reducible assumption | with_reducible apply kept_installSync | with_reducible refine kept_modTl ?_ ?_ ?_
    | with_reducible apply kept_syncEdges | with_reducible refine kept_ite ?_ ?_ | rfl
    | (unfold TimelineOk at *; dsimp only at *; omega) | (intro _) | split | dsimp only)

theorem kept_applyTimelineConfig {q : List Instr} {h k : Option Nat} {ok : Bool} (s : State) (d : Descriptor) (hw : Kept q h k ok s) :
    Kept q h k ok (applyTimelineConfig s d) := by
  unfold applyTimelineConfig
  try dsimp only
  repeat' (first
    | with_reducible assumption | with_reducible apply kept_selectSource | with_reducible refine kept_modTl ?_ ?_ ?_
    | with_reducible refine kept_ite ?_ ?_ | rfl | (unfold TimelineOk at *; dsimp only at *; omega) | (intro _) | split
    | dsimp only)

theorem kept_foreseeTimeline {q : List Instr} {h k : Option Nat} {ok : Bool} (s : State) (f : Flight) (hw : Kept q h k ok s) :
    Kept q h k ok (foreseeTimeline s f) := by
  unfold foreseeTimeline
  try dsimp only
  repeat' (first
    | with_reducible assumption | with_reducible apply kept_applyTimelineConfig
    | with_reducible refine kept_modTl ?_ ?_ ?_ | with_reducible refine kept_ite ?_ ?_ | rfl
    | (unfold TimelineOk at *; dsimp only at *; omega) | (intro _) | split | dsimp only)

theorem kept_startTimelineSteer {q : List Instr} {h k : Option Nat} {ok : Bool} (s : State) (f : Flight) (hw : Kept q h k ok s) :
    Kept q h k ok (startTimelineSteer s f) := by
  unfold startTimelineSteer
  try dsimp only
  repeat' (first
    | with_reducible assumption | with_reducible apply kept_acceptEdge | with_reducible apply kept_realign
    | with_reducible refine kept_modTl ?_ ?_ ?_ | with_reducible apply kept_finishDone
    | with_reducible refine kept_ite ?_ ?_ | rfl | (unfold TimelineOk at *; dsimp only at *; omega) | (intro _) | split
    | dsimp only)

theorem kept_startTimelineStatus {q : List Instr} {h k : Option Nat} {ok : Bool} (s : State) (f : Flight) (hw : Kept q h k ok s) :
    Kept q h k ok (startTimelineStatus s f) := by
  unfold startTimelineStatus
  try dsimp only
  repeat' (first
    | with_reducible assumption | with_reducible apply kept_finishDone | with_reducible apply kept_hostWrite
    | with_reducible refine kept_ite ?_ ?_ | (intro _) | split | dsimp only)

theorem kept_turnEpoch {q : List Instr} {h k : Option Nat} {ok : Bool} (s : State) (hw : Kept q h k ok s) : Kept q h k ok (turnEpoch s) := by
  have e : ∀ u : State, u.tl = s.tl → Kept q h k ok u → Kept q h k ok (u.modTl fun t =>
    { t with offset := t.offset - t.epochLen, epoch := if decide (s.tl.epoch + 1 ≥ 2 ^ 32) then 0 else t.epoch + 1,
             epochLen := ((t.epochTicks : Int) + t.stepAdj).toNat, stepAdj := 0,
             lockedEpochs := if t.state = .locked then min 64 (t.lockedEpochs + 1) else t.lockedEpochs,
             lockedFreqs := if t.state = .locked then (t.freqOfs :: t.lockedFreqs).take 64 else t.lockedFreqs,
             edgeHere := t.edgeNext, edgeNext := false,
             steerAge := if t.src = 4 then min 1025 (t.steerAge + 1) else t.steerAge }) := by
    intro u hu hw
    refine ⟨hw.queue, hw.latch, hw.tick, fun i => ⟨(hw.inv i).1, (hw.inv i).2.1, ?_⟩⟩
    have o := (hw.inv i).2.2
    rw [← hu]
    unfold TimelineOk State.modTl at *
    simp only [decide_eq_true_eq]
    refine ⟨o.1, ?_, o.2.2.1, o.2.2.2.1, o.2.2.2.2.1, ?_, ?_⟩ <;> split <;> omega
  have w := e (s.modComp fun c => { c with heads := c.heads.map fun h =>
    (h.1, { h.2 with sched := if h.2.sched < s.tl.tick - s.tl.offset + s.tl.epochLen then
      (h.2.sched + ((s.tl.epochLen : Int) - s.tl.epochTicks)).toNat else h.2.sched }) }) rfl (kept_modComp hw)
  exact kept_ite (kept_raise _ _ _ w) w

end Sys2Proof.Machine
end

