-- ==== Sys2Proof/Laws/KeptHeadTime.lean ====
section
/-! SUPPORT. What the operations of Machine/HeadTime.lean keep. -/

namespace Sys2Proof.Machine

theorem kept_setHead {q : List Instr} {h k : Option Nat} {ok : Bool} (s : State) (hd' : Nat) (v : Head) (hw : Kept q h k ok s) :
    Kept q h k ok (setHead s hd' v) := by
  unfold setHead
  try dsimp only
  repeat' (first
    | with_reducible assumption | with_reducible refine kept_modComp ?_ | with_reducible refine kept_ite ?_ ?_
    | (intro _) | split | dsimp only)

theorem kept_modHead {q : List Instr} {h k : Option Nat} {ok : Bool} (s : State) (hd' : Nat) (f : Head → Head) (hw : Kept q h k ok s) :
    Kept q h k ok (modHead s hd' f) := by
  unfold modHead
  try dsimp only
  repeat' (first
    | with_reducible assumption | with_reducible apply kept_setHead | with_reducible refine kept_ite ?_ ?_ | (intro _)
    | split | dsimp only)

theorem kept_setSlot {q : List Instr} {h k : Option Nat} {ok : Bool} (s : State) (n : Nat) (v : Slot) (hw : Kept q h k ok s) :
    Kept q h k ok (setSlot s n v) := by
  unfold setSlot
  try dsimp only
  repeat' (first
    | with_reducible assumption | with_reducible refine kept_modComp ?_ | with_reducible refine kept_ite ?_ ?_
    | (intro _) | split | dsimp only)

theorem kept_modSlot {q : List Instr} {h k : Option Nat} {ok : Bool} (s : State) (n : Nat) (f : Slot → Slot) (hw : Kept q h k ok s) :
    Kept q h k ok (modSlot s n f) := by
  unfold modSlot
  try dsimp only
  repeat' (first
    | with_reducible assumption | with_reducible apply kept_setSlot | with_reducible refine kept_ite ?_ ?_ | (intro _)
    | split | dsimp only)

theorem kept_setStager {q : List Instr} {h k : Option Nat} {ok : Bool} (s : State) (hd' : Nat) (v : Stager) (hw : Kept q h k ok s) :
    Kept q h k ok (setStager s hd' v) := by
  unfold setStager
  try dsimp only
  repeat' (first
    | with_reducible assumption | with_reducible refine kept_modSr ?_ ?_ | with_reducible refine kept_ite ?_ ?_
    | (exact fun _ e => e) | exact Mem.wf_wrs _ _ _ (by assumption) | exact Mem.wf_wipe _ _ _ (by assumption)
    | (intro _) | split | dsimp only)

end Sys2Proof.Machine
end

