-- ==== Sys2Proof/Laws/KeptXferOps.lean ====
section
/-! SUPPORT. What the operations of Machine/XferOps.lean keep. -/

namespace Sys2Proof.Machine

theorem kept_setChan {q : List Instr} {h k : Option Nat} {ok : Bool} (s : State) (k' : Nat) (v : DmaChan) (hw : Kept q h k ok s) :
    Kept q h k ok (setChan s k' v) := by
  unfold setChan
  try dsimp only
  repeat' (first
    | with_reducible assumption | with_reducible refine kept_modDma ?_ | with_reducible refine kept_ite ?_ ?_
    | (intro _) | split | dsimp only)

theorem kept_modChan {q : List Instr} {h k : Option Nat} {ok : Bool} (s : State) (k' : Nat) (f : DmaChan → DmaChan) (hw : Kept q h k ok s) :
    Kept q h k ok (modChan s k' f) := by
  unfold modChan
  try dsimp only
  repeat' (first
    | with_reducible assumption | with_reducible apply kept_setChan | with_reducible refine kept_ite ?_ ?_ | (intro _)
    | split | dsimp only)

end Sys2Proof.Machine
end

