-- ==== Sys2Proof/Laws/KeptStockroomOps.lean ====
section
/-! SUPPORT. What the operations of Machine/StockroomOps.lean keep. -/

namespace Sys2Proof.Machine

theorem kept_setShelfOwner {q : List Instr} {h k : Option Nat} {ok : Bool} (s : State) (n v : Nat) (hw : Kept q h k ok s) :
    Kept q h k ok (setShelfOwner s n v) := by
  unfold setShelfOwner
  try dsimp only
  repeat' (first
    | with_reducible assumption | with_reducible refine kept_modSr ?_ ?_ | with_reducible refine kept_ite ?_ ?_
    | (exact fun _ e => e) | exact Mem.wf_wrs _ _ _ (by assumption) | exact Mem.wf_wipe _ _ _ (by assumption)
    | (intro _) | split | dsimp only)

theorem kept_setSrWord {q : List Instr} {h k : Option Nat} {ok : Bool} (s : State) (a : Nat) (w : WordFault) (hw : Kept q h k ok s) :
    Kept q h k ok (setSrWord s a w) := by
  unfold setSrWord
  try dsimp only
  repeat' (first
    | with_reducible assumption | with_reducible refine kept_modSr ?_ ?_ | with_reducible refine kept_ite ?_ ?_
    | (exact fun _ e => e) | exact Mem.wf_wrs _ _ _ (by assumption) | exact Mem.wf_wipe _ _ _ (by assumption)
    | (intro _) | split | dsimp only)

theorem kept_countCe {q : List Instr} {h k : Option Nat} {ok : Bool} (s : State) (hw : Kept q h k ok s) :
    Kept q h k ok (countCe s) := by
  unfold countCe
  try dsimp only
  repeat' (first
    | with_reducible assumption | with_reducible apply kept_raise | with_reducible refine kept_modSr ?_ ?_
    | with_reducible refine kept_ite ?_ ?_ | (exact fun _ e => e) | exact Mem.wf_wrs _ _ _ (by assumption)
    | exact Mem.wf_wipe _ _ _ (by assumption) | (intro _) | split | dsimp only)

theorem kept_countUe {q : List Instr} {h k : Option Nat} {ok : Bool} (s : State) (a : Nat) (hw : Kept q h k ok s) :
    Kept q h k ok (countUe s a) := by
  unfold countUe
  try dsimp only
  repeat' (first
    | with_reducible assumption | with_reducible apply kept_assert | with_reducible apply kept_raise
    | with_reducible refine kept_modSr ?_ ?_ | with_reducible refine kept_ite ?_ ?_ | (exact fun _ e => e)
    | exact Mem.wf_wrs _ _ _ (by assumption) | exact Mem.wf_wipe _ _ _ (by assumption) | (intro _) | split | dsimp only)

theorem kept_noteFault {q : List Instr} {h k : Option Nat} {ok : Bool} (s : State) (a : Nat) (w : WordFault) (hw : Kept q h k ok s) :
    Kept q h k ok (noteFault s a w) := by
  unfold noteFault
  try dsimp only
  repeat' (first
    | with_reducible assumption | with_reducible apply kept_countCe | with_reducible apply kept_countUe
    | with_reducible refine kept_ite ?_ ?_ | (intro _) | split | dsimp only)

theorem kept_noteWord {q : List Instr} {h k : Option Nat} {ok : Bool} (s : State) (a : Nat) (hw : Kept q h k ok s) :
    Kept q h k ok (noteWord s a) := by
  unfold noteWord
  try dsimp only
  repeat' (first
    | with_reducible assumption | with_reducible apply kept_noteFault | with_reducible refine kept_ite ?_ ?_ | (intro _)
    | split | dsimp only)

theorem kept_mendRecord {q : List Instr} {h k : Option Nat} {ok : Bool} (s : State) (a : Nat) (hw : Kept q h k ok s) :
    Kept q h k ok (mendRecord s a) := by
  unfold mendRecord
  try dsimp only
  repeat' (first
    | with_reducible assumption | with_reducible apply kept_setSrWord | with_reducible refine kept_modSr ?_ ?_
    | with_reducible refine kept_ite ?_ ?_ | (exact fun _ e => e) | exact Mem.wf_wrs _ _ _ (by assumption)
    | exact Mem.wf_wipe _ _ _ (by assumption) | (intro _) | split | dsimp only)

theorem kept_readFault {q : List Instr} {h k : Option Nat} {ok : Bool} (s : State) (a : Nat) (w : WordFault) (hw : Kept q h k ok s) :
    Kept q h k ok ((readFault s a w).2.2) := by
  unfold readFault
  try dsimp only
  repeat' (first
    | with_reducible assumption | with_reducible apply kept_noteFault | with_reducible apply kept_freshBytes
    | with_reducible refine kept_ite ?_ ?_ | (intro _) | split | dsimp only)

theorem kept_readWord {q : List Instr} {h k : Option Nat} {ok : Bool} (port : Nat) (s : State) (a : Nat) (w : WordFault) (hw : Kept q h k ok s) :
    Kept q h k ok ((readWord port s a w).2.2) := by
  unfold readWord
  try dsimp only
  repeat' (first
    | with_reducible assumption | with_reducible apply kept_mendRecord | with_reducible apply kept_noteWord
    | with_reducible apply kept_noteFault | with_reducible apply kept_freshBytes | with_reducible apply kept_readFault
    | with_reducible refine kept_ite ?_ ?_ | (intro _) | split | dsimp only)

theorem kept_portRead {q : List Instr} {h k : Option Nat} {ok : Bool} (s : State) (r : PortRequest) (hw : Kept q h k ok s) :
    Kept q h k ok (portRead s r) := by
  unfold portRead
  try dsimp only
  repeat' (first
    | with_reducible assumption | with_reducible apply kept_setSrWord | with_reducible apply kept_readWord
    | with_reducible apply kept_noteWord | with_reducible refine kept_modSr ?_ ?_ | with_reducible apply kept_assert
    | with_reducible refine kept_foldl ?_ ?_ | with_reducible refine kept_foldl_1 ?_ ?_
    | with_reducible refine kept_foldl_2 ?_ ?_ | with_reducible refine kept_foldl_22 ?_ ?_
    | with_reducible refine kept_ite ?_ ?_ | (exact fun _ e => e) | exact Mem.wf_wrs _ _ _ (by assumption)
    | exact Mem.wf_wipe _ _ _ (by assumption) | (intro _) | split | dsimp only)

theorem kept_writeWord {q : List Instr} {h k : Option Nat} {ok : Bool} (poison : Bool) (addr len : Nat) (s : State) (a : Nat) (hw : Kept q h k ok s) :
    Kept q h k ok (writeWord poison addr len s a) := by
  unfold writeWord
  try dsimp only
  repeat' (first
    | with_reducible assumption | with_reducible apply kept_setSrWord | with_reducible apply kept_noteWord
    | with_reducible refine kept_ite ?_ ?_ | (intro _) | split | dsimp only)

theorem kept_writeBytes {q : List Instr} {h k : Option Nat} {ok : Bool} (s : State) (poison : Bool) (addr : Nat) (bs : List Byte) (hw : Kept q h k ok s) :
    Kept q h k ok (writeBytes s poison addr bs) := by
  unfold writeBytes
  try dsimp only
  repeat' (first
    | with_reducible assumption | with_reducible apply kept_writeWord | with_reducible refine kept_modSr ?_ ?_
    | with_reducible refine kept_foldl ?_ ?_ | with_reducible refine kept_ite ?_ ?_ | (exact fun _ e => e)
    | exact Mem.wf_wrs _ _ _ (by assumption) | exact Mem.wf_wipe _ _ _ (by assumption) | (intro _) | split | dsimp only)

theorem kept_foundByWrite {q : List Instr} {h k : Option Nat} {ok : Bool} (s : State) (r : PortRequest) (n : Nat) (hw : Kept q h k ok s) :
    Kept q h k ok (foundByWrite s r n) := by
  unfold foundByWrite
  try dsimp only
  repeat' (first
    | with_reducible assumption | with_reducible apply kept_setSrWord | with_reducible refine kept_ite ?_ ?_ | (intro _)
    | split | dsimp only)

theorem kept_portWrite {q : List Instr} {h k : Option Nat} {ok : Bool} (s : State) (r : PortRequest) (bs : List Byte) (hw : Kept q h k ok s) :
    Kept q h k ok (portWrite s r bs) := by
  unfold portWrite
  try dsimp only
  repeat' (first
    | with_reducible assumption | with_reducible apply kept_foundByWrite | with_reducible apply kept_writeBytes
    | with_reducible refine kept_ite ?_ ?_ | (intro _) | split | dsimp only)

theorem kept_noteMoved {q : List Instr} {h k : Option Nat} {ok : Bool} (s : State) (group : Nat) (hw : Kept q h k ok s) :
    Kept q h k ok (noteMoved s group) := by
  unfold noteMoved
  try dsimp only
  repeat' (first
    | with_reducible assumption | with_reducible refine kept_modSr ?_ ?_ | with_reducible refine kept_ite ?_ ?_
    | (exact fun _ e => e) | exact Mem.wf_wrs _ _ _ (by assumption) | exact Mem.wf_wipe _ _ _ (by assumption)
    | (intro _) | split | dsimp only)

theorem kept_noteRead {q : List Instr} {h k : Option Nat} {ok : Bool} (s : State) (group a n : Nat) (hw : Kept q h k ok s) :
    Kept q h k ok (noteRead s group a n) := by
  unfold noteRead
  try dsimp only
  repeat' (first
    | with_reducible assumption | with_reducible apply kept_noteWord | with_reducible apply kept_noteMoved
    | with_reducible refine kept_foldl ?_ ?_ | with_reducible refine kept_ite ?_ ?_ | (intro _) | split | dsimp only)

theorem kept_countSrBytes {q : List Instr} {h k : Option Nat} {ok : Bool} (s : State) (o len : Nat) (write : Bool) (hw : Kept q h k ok s) :
    Kept q h k ok (countSrBytes s o len write) := by
  unfold countSrBytes
  try dsimp only
  repeat' (first
    | with_reducible assumption | with_reducible refine kept_modSr ?_ ?_ | with_reducible refine kept_ite ?_ ?_
    | (exact fun _ e => e) | exact Mem.wf_wrs _ _ _ (by assumption) | exact Mem.wf_wipe _ _ _ (by assumption)
    | (intro _) | split | dsimp only)

theorem kept_countBytes {q : List Instr} {h k : Option Nat} {ok : Bool} (s : State) (r : PortRequest) (len : Nat) (hw : Kept q h k ok s) :
    Kept q h k ok (countBytes s r len) := by
  unfold countBytes
  try dsimp only
  repeat' (first
    | with_reducible assumption | with_reducible apply kept_countSrBytes | with_reducible apply kept_noteMoved
    | with_reducible refine kept_ite ?_ ?_ | (intro _) | split | dsimp only)

theorem kept_srAccessFault {q : List Instr} {h k : Option Nat} {ok : Bool} (s : State) (o : Nat) (hw : Kept q h k ok s) :
    Kept q h k ok (srAccessFault s o) := by
  unfold srAccessFault
  try dsimp only
  repeat' (first
    | with_reducible assumption | with_reducible apply kept_assert | with_reducible apply kept_raise
    | with_reducible refine kept_ite ?_ ?_ | (intro _) | split | dsimp only)

theorem kept_portRefuse {q : List Instr} {h k : Option Nat} {ok : Bool} (s : State) (r : PortRequest) (hw : Kept q h k ok s) :
    Kept q h k ok (portRefuse s r) := by
  unfold portRefuse
  try dsimp only
  repeat' (first
    | with_reducible assumption | with_reducible refine kept_modSr ?_ ?_ | with_reducible apply kept_srAccessFault
    | with_reducible refine kept_ite ?_ ?_ | (exact fun _ e => e) | exact Mem.wf_wrs _ _ _ (by assumption)
    | exact Mem.wf_wipe _ _ _ (by assumption) | (intro _) | split | dsimp only)

theorem kept_movePort {q : List Instr} {h k : Option Nat} {ok : Bool} (feed : State → Nat → List Byte → State) (s : State) (r : PortRequest) (hfeed : ∀ (x0 : State) (x1 : Nat) (x2 : List Byte), Kept q h k ok x0 → Kept q h k ok (feed x0 x1 x2)) (hw : Kept q h k ok s) :
    Kept q h k ok (movePort feed s r) := by
  unfold movePort
  try dsimp only
  repeat' (first
    | with_reducible assumption | with_reducible apply kept_countBytes | with_reducible apply kept_portWrite
    | with_reducible apply kept_portRead | with_reducible apply hfeed | with_reducible refine kept_ite ?_ ?_ | (intro _)
    | split | dsimp only)

theorem kept_servePort {q : List Instr} {h k : Option Nat} {ok : Bool} (feed : State → Nat → List Byte → State) (s : State) (r : PortRequest) {t : State} (hfeed : ∀ (x0 : State) (x1 : Nat) (x2 : List Byte), Kept q h k ok x0 → Kept q h k ok (feed x0 x1 x2)) (e : servePort feed s r = .next t) (hw : Kept q h k ok s) :
    Kept q h k ok t := by
  unfold servePort at e
  split at e
  · cases e
  · split at e
    · cases e; exact kept_portRefuse _ _ hw
    · split at e
      · cases e; exact kept_modSr (fun _ e => e) hw
      · cases e; exact kept_movePort feed _ _ hfeed hw

theorem kept_serveWaiting {q : List Instr} {h k : Option Nat} {ok : Bool} (feed : State → Nat → List Byte → State) (s : State) (r : PortRequest) (hfeed : ∀ (x0 : State) (x1 : Nat) (x2 : List Byte), Kept q h k ok x0 → Kept q h k ok (feed x0 x1 x2)) (hw : Kept q h k ok s) :
    Kept q h k ok (serveWaiting feed s r) := by
  unfold serveWaiting
  try dsimp only
  repeat' (first
    | with_reducible assumption | with_reducible refine kept_modSr ?_ ?_ | with_reducible apply kept_movePort
    | with_reducible apply kept_portRefuse | with_reducible apply hfeed | with_reducible refine kept_ite ?_ ?_
    | (exact fun _ e => e) | exact Mem.wf_wrs _ _ _ (by assumption) | exact Mem.wf_wipe _ _ _ (by assumption)
    | (intro _) | split | dsimp only)

theorem kept_serveTurn {q : List Instr} {h k : Option Nat} {ok : Bool} (feed : State → Nat → List Byte → State) (s : State) (hfeed : ∀ (x0 : State) (x1 : Nat) (x2 : List Byte), Kept q h k ok x0 → Kept q h k ok (feed x0 x1 x2)) (hw : Kept q h k ok s) :
    Kept q h k ok (serveTurn feed s) := by
  unfold serveTurn
  try dsimp only
  repeat' (first
    | with_reducible assumption | with_reducible apply kept_serveWaiting | with_reducible refine kept_modSr ?_ ?_
    | with_reducible refine kept_foldl ?_ ?_ | with_reducible apply hfeed | with_reducible refine kept_ite ?_ ?_
    | (exact fun _ e => e) | exact Mem.wf_wrs _ _ _ (by assumption) | exact Mem.wf_wipe _ _ _ (by assumption)
    | (intro _) | split | dsimp only)

theorem kept_wipeShelf {q : List Instr} {h k : Option Nat} {ok : Bool} (s : State) (n : Nat) (hw : Kept q h k ok s) :
    Kept q h k ok (wipeShelf s n) := by
  unfold wipeShelf
  try dsimp only
  repeat' (first
    | with_reducible assumption | with_reducible refine kept_modSr ?_ ?_ | with_reducible refine kept_ite ?_ ?_
    | (exact fun _ e => e) | exact Mem.wf_wrs _ _ _ (by assumption) | exact Mem.wf_wipe _ _ _ (by assumption)
    | (intro _) | split | dsimp only)

theorem kept_zeroiseShelf {q : List Instr} {h k : Option Nat} {ok : Bool} (s : State) (n next : Nat) (hw : Kept q h k ok s) :
    Kept q h k ok (zeroiseShelf s n next) := by
  unfold zeroiseShelf
  try dsimp only
  repeat' (first
    | with_reducible assumption | with_reducible apply kept_setShelfOwner | with_reducible refine kept_modSr ?_ ?_
    | with_reducible refine kept_ite ?_ ?_ | (exact fun _ e => e) | exact Mem.wf_wrs _ _ _ (by assumption)
    | exact Mem.wf_wipe _ _ _ (by assumption) | (intro _) | split | dsimp only)

theorem kept_shelfDone {q : List Instr} {h k : Option Nat} {ok : Bool} (s : State) (n : Nat) (hw : Kept q h k ok s) :
    Kept q h k ok (shelfDone s n) := by
  unfold shelfDone
  try dsimp only
  repeat' (first
    | with_reducible assumption | with_reducible apply kept_wipeShelf | with_reducible apply kept_noteMoved
    | with_reducible refine kept_modSr ?_ ?_ | with_reducible apply kept_setShelfOwner
    | with_reducible refine kept_ite ?_ ?_ | (exact fun _ e => e) | exact Mem.wf_wrs _ _ _ (by assumption)
    | exact Mem.wf_wipe _ _ _ (by assumption) | (intro _) | split | dsimp only)

theorem kept_scrubWord {q : List Instr} {h k : Option Nat} {ok : Bool} (ue : Bool) (s : State) (w : Nat) (hw : Kept q h k ok s) :
    Kept q h k ok (scrubWord ue s w) := by
  unfold scrubWord
  try dsimp only
  repeat' (first
    | with_reducible assumption | with_reducible apply kept_setSrWord | with_reducible apply kept_countCe
    | with_reducible refine kept_ite ?_ ?_ | (intro _) | split | dsimp only)

theorem kept_scrubBeat {q : List Instr} {h k : Option Nat} {ok : Bool} (s : State) (found : WordFault) (hw : Kept q h k ok s) :
    Kept q h k ok (scrubBeat s found) := by
  unfold scrubBeat
  try dsimp only
  repeat' (first
    | with_reducible assumption | with_reducible apply kept_noteMoved | with_reducible apply kept_setSrWord
    | with_reducible apply kept_countUe | with_reducible apply kept_scrubWord | with_reducible refine kept_modSr ?_ ?_
    | with_reducible apply kept_raise | with_reducible refine kept_foldl ?_ ?_ | with_reducible refine kept_ite ?_ ?_
    | (exact fun _ e => e) | exact Mem.wf_wrs _ _ _ (by assumption) | exact Mem.wf_wipe _ _ _ (by assumption)
    | (intro _) | split | dsimp only)

theorem kept_startStockroomQuery {q : List Instr} {h k : Option Nat} {ok : Bool} (s : State) (f : Flight) (hw : Kept q h k ok s) :
    Kept q h k ok (startStockroomQuery s f) := by
  unfold startStockroomQuery
  try dsimp only
  repeat' (first
    | with_reducible assumption | with_reducible apply kept_finishDone | with_reducible apply kept_hostWrite
    | with_reducible refine kept_ite ?_ ?_ | (intro _) | split | dsimp only)

end Sys2Proof.Machine
end

