-- ==== Sys2Proof/Laws/KeptDramOps.lean ====
section
/-! SUPPORT. What the operations of Machine/DramOps.lean keep. -/

namespace Sys2Proof.Machine

theorem kept_setRank {q : List Instr} {h k : Option Nat} {ok : Bool} (s : State) (n : Nat) (v : Rank) (hw : Kept q h k ok s) :
    Kept q h k ok (setRank s n v) := by
  unfold setRank
  try dsimp only
  repeat' (first
    | with_reducible assumption | with_reducible refine kept_modDram ?_ ?_ | with_reducible refine kept_ite ?_ ?_
    | (exact fun _ e => e) | exact Mem.wf_wrs _ _ _ (by assumption) | exact Mem.wf_wipe _ _ _ (by assumption)
    | (intro _) | split | dsimp only)

theorem kept_modRank {q : List Instr} {h k : Option Nat} {ok : Bool} (s : State) (n : Nat) (f : Rank → Rank) (hw : Kept q h k ok s) :
    Kept q h k ok (modRank s n f) := by
  unfold modRank
  try dsimp only
  repeat' (first
    | with_reducible assumption | with_reducible apply kept_setRank | with_reducible refine kept_ite ?_ ?_ | (intro _)
    | split | dsimp only)

theorem kept_setPlotOwner {q : List Instr} {h k : Option Nat} {ok : Bool} (s : State) (p v : Nat) (hw : Kept q h k ok s) :
    Kept q h k ok (setPlotOwner s p v) := by
  unfold setPlotOwner
  try dsimp only
  repeat' (first
    | with_reducible assumption | with_reducible refine kept_modDram ?_ ?_ | with_reducible refine kept_ite ?_ ?_
    | (exact fun _ e => e) | exact Mem.wf_wrs _ _ _ (by assumption) | exact Mem.wf_wipe _ _ _ (by assumption)
    | (intro _) | split | dsimp only)

theorem kept_beginMigration {q : List Instr} {h k : Option Nat} {ok : Bool} (s : State) (n sp : Nat) (hw : Kept q h k ok s) :
    Kept q h k ok (beginMigration s n sp) := by
  unfold beginMigration
  try dsimp only
  repeat' (first
    | with_reducible assumption | with_reducible apply kept_modRank | with_reducible refine kept_modDram ?_ ?_
    | with_reducible refine kept_ite ?_ ?_ | (exact fun _ e => e) | exact Mem.wf_wrs _ _ _ (by assumption)
    | exact Mem.wf_wipe _ _ _ (by assumption) | (intro _) | split | dsimp only)

theorem kept_retire {q : List Instr} {h k : Option Nat} {ok : Bool} (s : State) (n : Nat) (hw : Kept q h k ok s) :
    Kept q h k ok (retire s n) := by
  unfold retire
  try dsimp only
  repeat' (first
    | with_reducible assumption | with_reducible refine kept_modDram ?_ ?_ | with_reducible apply kept_beginMigration
    | with_reducible apply kept_assert | with_reducible apply kept_modRank | with_reducible refine kept_ite ?_ ?_
    | (exact fun _ e => e) | exact Mem.wf_wrs _ _ _ (by assumption) | exact Mem.wf_wipe _ _ _ (by assumption)
    | (intro _) | split | dsimp only)

theorem kept_setDrWord {q : List Instr} {h k : Option Nat} {ok : Bool} (s : State) (a : Nat) (w : WordFault) (hw : Kept q h k ok s) :
    Kept q h k ok (setDrWord s a w) := by
  unfold setDrWord
  try dsimp only
  repeat' (first
    | with_reducible assumption | with_reducible refine kept_modDram ?_ ?_ | with_reducible refine kept_ite ?_ ?_
    | (exact fun _ e => e) | exact Mem.wf_wrs _ _ _ (by assumption) | exact Mem.wf_wipe _ _ _ (by assumption)
    | (intro _) | split | dsimp only)

theorem kept_noteDrWord {q : List Instr} {h k : Option Nat} {ok : Bool} (s : State) (a : Nat) (hw : Kept q h k ok s) :
    Kept q h k ok (noteDrWord s a) := by
  unfold noteDrWord
  try dsimp only
  repeat' (first
    | with_reducible assumption | with_reducible apply kept_modRank | with_reducible apply kept_raise
    | with_reducible refine kept_modDram ?_ ?_ | with_reducible apply kept_setDrWord | with_reducible apply kept_retire
    | with_reducible apply kept_assert | with_reducible refine kept_ite ?_ ?_ | (exact fun _ e => e)
    | exact Mem.wf_wrs _ _ _ (by assumption) | exact Mem.wf_wipe _ _ _ (by assumption) | (intro _) | split | dsimp only)

theorem kept_readDrWord {q : List Instr} {h k : Option Nat} {ok : Bool} (s : State) (a : Nat) (hw : Kept q h k ok s) :
    Kept q h k ok ((readDrWord s a).2.2) := by
  unfold readDrWord
  try dsimp only
  repeat' (first
    | with_reducible assumption | with_reducible apply kept_noteDrWord | with_reducible apply kept_freshBytes
    | with_reducible refine kept_ite ?_ ?_ | (intro _) | split | dsimp only)

theorem kept_writeDrWord {q : List Instr} {h k : Option Nat} {ok : Bool} (poison : Bool) (addr len : Nat) (s : State) (a : Nat) (hw : Kept q h k ok s) :
    Kept q h k ok (writeDrWord poison addr len s a) := by
  unfold writeDrWord
  try dsimp only
  repeat' (first
    | with_reducible assumption | with_reducible apply kept_setDrWord | with_reducible apply kept_noteDrWord
    | with_reducible refine kept_ite ?_ ?_ | (intro _) | split | dsimp only)

theorem kept_writeDram {q : List Instr} {h k : Option Nat} {ok : Bool} (s : State) (addr : Nat) (bs : List Byte) (poison : Bool) (hw : Kept q h k ok s) :
    Kept q h k ok (writeDram s addr bs poison) := by
  unfold writeDram
  try dsimp only
  repeat' (first
    | with_reducible assumption | with_reducible apply kept_writeDrWord | with_reducible refine kept_modDram ?_ ?_
    | with_reducible refine kept_foldl ?_ ?_ | with_reducible refine kept_ite ?_ ?_ | (exact fun _ e => e)
    | exact Mem.wf_wrs _ _ _ (by assumption) | exact Mem.wf_wipe _ _ _ (by assumption) | (intro _) | split | dsimp only)

theorem kept_readDram {q : List Instr} {h k : Option Nat} {ok : Bool} (s : State) (addr len : Nat) (hw : Kept q h k ok s) :
    Kept q h k ok ((readDram s addr len).2.2) := by
  unfold readDram
  try dsimp only
  repeat' (first
    | with_reducible assumption | with_reducible apply kept_readDrWord | with_reducible refine kept_foldl ?_ ?_
    | with_reducible refine kept_foldl_1 ?_ ?_ | with_reducible refine kept_foldl_2 ?_ ?_
    | with_reducible refine kept_foldl_22 ?_ ?_ | with_reducible refine kept_ite ?_ ?_ | (intro _) | split | dsimp only)

theorem kept_useRank {q : List Instr} {h k : Option Nat} {ok : Bool} (s : State) (n : Nat) (hw : Kept q h k ok s) :
    Kept q h k ok (useRank s n) := by
  unfold useRank
  try dsimp only
  repeat' (first
    | with_reducible assumption | with_reducible apply kept_modRank | with_reducible refine kept_ite ?_ ?_ | (intro _)
    | split | dsimp only)

theorem kept_mcAccessFault {q : List Instr} {h k : Option Nat} {ok : Bool} (s : State) (o : Nat) (hw : Kept q h k ok s) :
    Kept q h k ok (mcAccessFault s o) := by
  unfold mcAccessFault
  try dsimp only
  repeat' (first
    | with_reducible assumption | with_reducible apply kept_assert | with_reducible apply kept_raise
    | with_reducible refine kept_ite ?_ ?_ | (intro _) | split | dsimp only)

theorem kept_dramRefuse {q : List Instr} {h k : Option Nat} {ok : Bool} (s : State) (r : DramRequest) (hw : Kept q h k ok s) :
    Kept q h k ok (dramRefuse s r) := by
  unfold dramRefuse
  try dsimp only
  repeat' (first
    | with_reducible assumption | with_reducible refine kept_modDram ?_ ?_ | with_reducible apply kept_mcAccessFault
    | with_reducible refine kept_ite ?_ ?_ | (exact fun _ e => e) | exact Mem.wf_wrs _ _ _ (by assumption)
    | exact Mem.wf_wipe _ _ _ (by assumption) | (intro _) | split | dsimp only)

theorem kept_dramPerform {q : List Instr} {h k : Option Nat} {ok : Bool} (s : State) (r : DramRequest) (hw : Kept q h k ok s) :
    Kept q h k ok (dramPerform s r) := by
  unfold dramPerform
  try dsimp only
  repeat' (first
    | with_reducible assumption | with_reducible refine kept_modDram ?_ ?_ | with_reducible apply kept_useRank
    | with_reducible apply kept_setDrWord | with_reducible apply kept_writeDram | with_reducible apply kept_readDram
    | with_reducible refine kept_ite ?_ ?_ | (exact fun _ e => e) | exact Mem.wf_wrs _ _ _ (by assumption)
    | exact Mem.wf_wipe _ _ _ (by assumption) | (intro _) | split | dsimp only)

theorem kept_dramServe {q : List Instr} {h k : Option Nat} {ok : Bool} (s : State) (r : DramRequest) (hw : Kept q h k ok s) :
    Kept q h k ok (dramServe s r) := by
  unfold dramServe
  try dsimp only
  repeat' (first
    | with_reducible assumption | with_reducible apply kept_dramRefuse | with_reducible refine kept_modDram ?_ ?_
    | with_reducible apply kept_dramPerform | with_reducible refine kept_ite ?_ ?_ | (exact fun _ e => e)
    | exact Mem.wf_wrs _ _ _ (by assumption) | exact Mem.wf_wipe _ _ _ (by assumption) | (intro _) | split | dsimp only)

theorem kept_serveDram {q : List Instr} {h k : Option Nat} {ok : Bool} (s : State) (rs : List DramRequest) (hw : Kept q h k ok s) :
    Kept q h k ok (serveDram s rs) := by
  unfold serveDram
  try dsimp only
  repeat' (first
    | with_reducible assumption | with_reducible apply kept_dramServe | with_reducible refine kept_modDram ?_ ?_
    | with_reducible refine kept_foldl ?_ ?_ | with_reducible refine kept_ite ?_ ?_ | (exact fun _ e => e)
    | exact Mem.wf_wrs _ _ _ (by assumption) | exact Mem.wf_wipe _ _ _ (by assumption) | (intro _) | split | dsimp only)

theorem kept_serveDramTurn {q : List Instr} {h k : Option Nat} {ok : Bool} (s : State) (hw : Kept q h k ok s) :
    Kept q h k ok (serveDramTurn s) := by
  unfold serveDramTurn
  try dsimp only
  repeat' (first
    | with_reducible assumption | with_reducible apply kept_serveDram | with_reducible refine kept_modDram ?_ ?_
    | with_reducible refine kept_ite ?_ ?_ | (exact fun _ e => e) | exact Mem.wf_wrs _ _ _ (by assumption)
    | exact Mem.wf_wipe _ _ _ (by assumption) | (intro _) | split | dsimp only)

theorem kept_releaseHeld {q : List Instr} {h k : Option Nat} {ok : Bool} (s : State) (hw : Kept q h k ok s) :
    Kept q h k ok (releaseHeld s) := by
  unfold releaseHeld
  try dsimp only
  repeat' (first
    | with_reducible assumption | with_reducible apply kept_dramServe | with_reducible refine kept_modDram ?_ ?_
    | with_reducible refine kept_foldl ?_ ?_ | with_reducible refine kept_ite ?_ ?_ | (exact fun _ e => e)
    | exact Mem.wf_wrs _ _ _ (by assumption) | exact Mem.wf_wipe _ _ _ (by assumption) | (intro _) | split | dsimp only)

theorem kept_copyWords {q : List Instr} {h k : Option Nat} {ok : Bool} (s : State) (n : Nat) (hw : Kept q h k ok s) :
    Kept q h k ok (copyWords s n) := by
  unfold copyWords
  try dsimp only
  repeat' (first
    | with_reducible assumption | with_reducible apply kept_noteDrWord | with_reducible refine kept_modDram ?_ ?_
    | with_reducible refine kept_foldl ?_ ?_ | with_reducible refine kept_foldl_1 ?_ ?_
    | with_reducible refine kept_foldl_2 ?_ ?_ | with_reducible refine kept_foldl_22 ?_ ?_
    | with_reducible refine kept_ite ?_ ?_ | (exact fun _ e => e) | exact Mem.wf_wrs _ _ _ (by assumption)
    | exact Mem.wf_wipe _ _ _ (by assumption) | (intro _) | split | dsimp only)

theorem kept_endFirstPause {q : List Instr} {h k : Option Nat} {ok : Bool} (s : State) (hw : Kept q h k ok s) :
    Kept q h k ok (endFirstPause s) := by
  unfold endFirstPause
  try dsimp only
  repeat' (first
    | with_reducible assumption | with_reducible apply kept_releaseHeld | with_reducible refine kept_modDram ?_ ?_
    | with_reducible refine kept_ite ?_ ?_ | (exact fun _ e => e) | exact Mem.wf_wrs _ _ _ (by assumption)
    | exact Mem.wf_wipe _ _ _ (by assumption) | (intro _) | split | dsimp only)

theorem kept_endCopy {q : List Instr} {h k : Option Nat} {ok : Bool} (s : State) (hw : Kept q h k ok s) :
    Kept q h k ok (endCopy s) := by
  unfold endCopy
  try dsimp only
  repeat' (first
    | with_reducible assumption | with_reducible apply kept_copyWords | with_reducible refine kept_modDram ?_ ?_
    | with_reducible refine kept_ite ?_ ?_ | (exact fun _ e => e) | exact Mem.wf_wrs _ _ _ (by assumption)
    | exact Mem.wf_wipe _ _ _ (by assumption) | (intro _) | split | dsimp only)

theorem kept_endMigration {q : List Instr} {h k : Option Nat} {ok : Bool} (s : State) (hw : Kept q h k ok s) :
    Kept q h k ok (endMigration s) := by
  unfold endMigration
  try dsimp only
  repeat' (first
    | with_reducible assumption | with_reducible refine kept_modDram ?_ ?_ | with_reducible apply kept_modRank
    | with_reducible apply kept_raise | with_reducible apply kept_finishDone | with_reducible apply kept_releaseHeld
    | with_reducible apply kept_retire | with_reducible refine kept_foldl ?_ ?_ | with_reducible refine kept_ite ?_ ?_
    | (exact fun _ e => e) | exact Mem.wf_wrs _ _ _ (by assumption) | exact Mem.wf_wipe _ _ _ (by assumption)
    | (intro _) | split | dsimp only)

theorem kept_pollRank {q : List Instr} {h k : Option Nat} {ok : Bool} (s : State) (n reading : Nat) (hw : Kept q h k ok s) :
    Kept q h k ok (pollRank s n reading) := by
  unfold pollRank
  try dsimp only
  repeat' (first
    | with_reducible assumption | with_reducible apply kept_setRank | with_reducible apply kept_raise
    | with_reducible apply kept_assert | with_reducible refine kept_ite ?_ ?_ | (intro _) | split | dsimp only)

theorem kept_pollMr4 {q : List Instr} {h k : Option Nat} {ok : Bool} (s : State) (readings : List Nat) (hw : Kept q h k ok s) :
    Kept q h k ok (pollMr4 s readings) := by
  unfold pollMr4
  try dsimp only
  repeat' (first
    | with_reducible assumption | with_reducible apply kept_pollRank | with_reducible refine kept_foldl ?_ ?_
    | with_reducible refine kept_foldl_1 ?_ ?_ | with_reducible refine kept_foldl_2 ?_ ?_
    | with_reducible refine kept_foldl_22 ?_ ?_ | with_reducible refine kept_ite ?_ ?_ | (intro _) | split | dsimp only)

theorem kept_powerDownRank {q : List Instr} {h k : Option Nat} {ok : Bool} (s : State) (n : Nat) (hw : Kept q h k ok s) :
    Kept q h k ok (powerDownRank s n) := by
  unfold powerDownRank
  try dsimp only
  repeat' (first
    | with_reducible assumption | with_reducible apply kept_modRank | with_reducible refine kept_ite ?_ ?_ | (intro _)
    | split | dsimp only)

theorem kept_endTraining {q : List Instr} {h k : Option Nat} {ok : Bool} (s : State) (gib present good named : Nat) (hw : Kept q h k ok s) :
    Kept q h k ok (endTraining s gib present good named) := by
  unfold endTraining
  try dsimp only
  repeat' (first
    | with_reducible assumption | with_reducible refine kept_modDram ?_ ?_ | with_reducible apply kept_assert
    | with_reducible apply kept_raise | with_reducible refine kept_foldl ?_ ?_ | with_reducible refine kept_ite ?_ ?_
    | (exact fun _ e => e) | exact Mem.wf_wrs _ _ _ (by assumption) | exact Mem.wf_wipe _ _ _ (by assumption)
    | (intro _) | split | dsimp only)

theorem kept_wipePlot {q : List Instr} {h k : Option Nat} {ok : Bool} (s : State) (p : Nat) (hw : Kept q h k ok s) :
    Kept q h k ok (wipePlot s p) := by
  unfold wipePlot
  try dsimp only
  repeat' (first
    | with_reducible assumption | with_reducible refine kept_modDram ?_ ?_ | with_reducible refine kept_ite ?_ ?_
    | (exact fun _ e => e) | exact Mem.wf_wrs _ _ _ (by assumption) | exact Mem.wf_wipe _ _ _ (by assumption)
    | (intro _) | split | dsimp only)

theorem kept_zeroisePlot {q : List Instr} {h k : Option Nat} {ok : Bool} (s : State) (p next : Nat) (hw : Kept q h k ok s) :
    Kept q h k ok (zeroisePlot s p next) := by
  unfold zeroisePlot
  try dsimp only
  repeat' (first
    | with_reducible assumption | with_reducible apply kept_setPlotOwner | with_reducible refine kept_modDram ?_ ?_
    | with_reducible refine kept_ite ?_ ?_ | (exact fun _ e => e) | exact Mem.wf_wrs _ _ _ (by assumption)
    | exact Mem.wf_wipe _ _ _ (by assumption) | (intro _) | split | dsimp only)

theorem kept_plotDone {q : List Instr} {h k : Option Nat} {ok : Bool} (s : State) (p : Nat) (hw : Kept q h k ok s) :
    Kept q h k ok (plotDone s p) := by
  unfold plotDone
  try dsimp only
  repeat' (first
    | with_reducible assumption | with_reducible apply kept_wipePlot | with_reducible refine kept_modDram ?_ ?_
    | with_reducible apply kept_setPlotOwner | with_reducible refine kept_ite ?_ ?_ | (exact fun _ e => e)
    | exact Mem.wf_wrs _ _ _ (by assumption) | exact Mem.wf_wipe _ _ _ (by assumption) | (intro _) | split | dsimp only)

theorem kept_patrolBeat {q : List Instr} {h k : Option Nat} {ok : Bool} (s : State) (found : WordFault) (hw : Kept q h k ok s) :
    Kept q h k ok (patrolBeat s found) := by
  unfold patrolBeat
  try dsimp only
  repeat' (first
    | with_reducible assumption | with_reducible apply kept_setDrWord | with_reducible apply kept_noteDrWord
    | with_reducible refine kept_modDram ?_ ?_ | with_reducible refine kept_foldl ?_ ?_
    | with_reducible refine kept_ite ?_ ?_ | (exact fun _ e => e) | exact Mem.wf_wrs _ _ _ (by assumption)
    | exact Mem.wf_wipe _ _ _ (by assumption) | (intro _) | split | dsimp only)

theorem kept_copyBytes {q : List Instr} {h k : Option Nat} {ok : Bool} (s : State) (n : Nat) (hw : Kept q h k ok s) :
    Kept q h k ok (copyBytes s n) := by
  unfold copyBytes
  try dsimp only
  repeat' (first
    | with_reducible assumption | with_reducible refine kept_modDram ?_ ?_ | with_reducible refine kept_ite ?_ ?_
    | (exact fun _ e => e) | exact Mem.wf_wrs _ _ _ (by assumption) | exact Mem.wf_wipe _ _ _ (by assumption)
    | (intro _) | split | dsimp only)

theorem kept_useDram {q : List Instr} {h k : Option Nat} {ok : Bool} (s : State) (a : Nat) (hw : Kept q h k ok s) :
    Kept q h k ok (useDram s a) := by
  unfold useDram
  try dsimp only
  repeat' (first
    | with_reducible assumption | with_reducible apply kept_useRank | with_reducible refine kept_modDram ?_ ?_
    | with_reducible refine kept_ite ?_ ?_ | (exact fun _ e => e) | exact Mem.wf_wrs _ _ _ (by assumption)
    | exact Mem.wf_wipe _ _ _ (by assumption) | (intro _) | split | dsimp only)

theorem kept_noteBulk {q : List Instr} {h k : Option Nat} {ok : Bool} (s : State) (o t addr n : Nat) (hw : Kept q h k ok s) :
    Kept q h k ok (noteBulk s o t addr n) := by
  unfold noteBulk
  try dsimp only
  repeat' (first
    | with_reducible assumption | with_reducible apply kept_mcAccessFault | with_reducible apply kept_noteDrWord
    | with_reducible apply kept_useDram | with_reducible refine kept_foldl ?_ ?_
    | with_reducible refine kept_foldl_1 ?_ ?_ | with_reducible refine kept_foldl_2 ?_ ?_
    | with_reducible refine kept_foldl_22 ?_ ?_ | with_reducible refine kept_ite ?_ ?_ | (intro _) | split | dsimp only)

theorem kept_bulkRead {q : List Instr} {h k : Option Nat} {ok : Bool} (s : State) (o t addr n : Nat) (hw : Kept q h k ok s) :
    Kept q h k ok ((bulkRead s o t addr n).2) := by
  unfold bulkRead
  try dsimp only
  repeat' (first
    | with_reducible assumption | with_reducible apply kept_noteBulk | with_reducible refine kept_ite ?_ ?_ | (intro _)
    | split | dsimp only)

theorem kept_bulkPut {q : List Instr} {h k : Option Nat} {ok : Bool} (s : State) (o t addr : Nat) (l : List (Byte × Bool)) (hw : Kept q h k ok s) :
    Kept q h k ok (bulkPut s o t addr l) := by
  unfold bulkPut
  try dsimp only
  repeat' (first
    | with_reducible assumption | with_reducible apply kept_mcAccessFault | with_reducible apply kept_noteDrWord
    | with_reducible apply kept_useDram | with_reducible apply kept_setDrWord | with_reducible refine kept_modDram ?_ ?_
    | with_reducible refine kept_foldl ?_ ?_ | with_reducible refine kept_foldl_1 ?_ ?_
    | with_reducible refine kept_foldl_2 ?_ ?_ | with_reducible refine kept_foldl_22 ?_ ?_
    | with_reducible refine kept_ite ?_ ?_ | (exact fun _ e => e) | exact Mem.wf_wrs _ _ _ (by assumption)
    | exact Mem.wf_wipe _ _ _ (by assumption) | (intro _) | split | dsimp only)

theorem kept_countBulk {q : List Instr} {h k : Option Nat} {ok : Bool} (s : State) (o n : Nat) (write : Bool) (hw : Kept q h k ok s) :
    Kept q h k ok (countBulk s o n write) := by
  unfold countBulk
  try dsimp only
  repeat' (first
    | with_reducible assumption | with_reducible refine kept_modDram ?_ ?_ | with_reducible refine kept_ite ?_ ?_
    | (exact fun _ e => e) | exact Mem.wf_wrs _ _ _ (by assumption) | exact Mem.wf_wipe _ _ _ (by assumption)
    | (intro _) | split | dsimp only)

theorem kept_groveRead {q : List Instr} {h k : Option Nat} {ok : Bool} (s : State) (t addr n : Nat) (hw : Kept q h k ok s) :
    Kept q h k ok (groveRead s t addr n) := by
  unfold groveRead
  try dsimp only
  repeat' (first
    | with_reducible assumption | with_reducible apply kept_countBulk | with_reducible apply kept_noteBulk
    | with_reducible apply kept_noteMoved | with_reducible refine kept_ite ?_ ?_ | (intro _) | split | dsimp only)

theorem kept_grovePut {q : List Instr} {h k : Option Nat} {ok : Bool} (s : State) (t addr : Nat) (bs : List Byte) (hw : Kept q h k ok s) :
    Kept q h k ok (grovePut s t addr bs) := by
  unfold grovePut
  try dsimp only
  repeat' (first
    | with_reducible assumption | with_reducible apply kept_countBulk | with_reducible apply kept_bulkPut
    | with_reducible apply kept_noteMoved | with_reducible refine kept_ite ?_ ?_ | (intro _) | split | dsimp only)

theorem kept_srPut {q : List Instr} {h k : Option Nat} {ok : Bool} (s : State) (group o t addr : Nat) (l : List (Byte × Bool)) (hw : Kept q h k ok s) :
    Kept q h k ok (srPut s group o t addr l) := by
  unfold srPut
  try dsimp only
  repeat' (first
    | with_reducible assumption | with_reducible apply kept_srAccessFault | with_reducible apply kept_noteWord
    | with_reducible apply kept_noteMoved | with_reducible apply kept_setSrWord | with_reducible refine kept_modSr ?_ ?_
    | with_reducible refine kept_foldl ?_ ?_ | with_reducible refine kept_foldl_1 ?_ ?_
    | with_reducible refine kept_foldl_2 ?_ ?_ | with_reducible refine kept_foldl_22 ?_ ?_
    | with_reducible refine kept_ite ?_ ?_ | (exact fun _ e => e) | exact Mem.wf_wrs _ _ _ (by assumption)
    | exact Mem.wf_wipe _ _ _ (by assumption) | (intro _) | split | dsimp only)

theorem kept_srRead {q : List Instr} {h k : Option Nat} {ok : Bool} (s : State) (group o t addr n : Nat) (hw : Kept q h k ok s) :
    Kept q h k ok ((srRead s group o t addr n).2) := by
  unfold srRead
  try dsimp only
  repeat' (first
    | with_reducible assumption | with_reducible apply kept_srAccessFault | with_reducible apply kept_noteRead
    | with_reducible refine kept_foldl ?_ ?_ | with_reducible refine kept_foldl_1 ?_ ?_
    | with_reducible refine kept_foldl_2 ?_ ?_ | with_reducible refine kept_foldl_22 ?_ ?_
    | with_reducible refine kept_ite ?_ ?_ | (intro _) | split | dsimp only)

theorem kept_startMemSpare {q : List Instr} {h k : Option Nat} {ok : Bool} (s : State) (f : Flight) (hw : Kept q h k ok s) :
    Kept q h k ok (startMemSpare s f) := by
  unfold startMemSpare
  try dsimp only
  repeat' (first
    | with_reducible assumption | with_reducible apply kept_modRank | with_reducible apply kept_finishDone
    | with_reducible refine kept_modDram ?_ ?_ | with_reducible refine kept_ite ?_ ?_ | (exact fun _ e => e)
    | exact Mem.wf_wrs _ _ _ (by assumption) | exact Mem.wf_wipe _ _ _ (by assumption) | (intro _) | split | dsimp only)

theorem kept_startMemPowerdown {q : List Instr} {h k : Option Nat} {ok : Bool} (s : State) (f : Flight) (hw : Kept q h k ok s) :
    Kept q h k ok (startMemPowerdown s f) := by
  unfold startMemPowerdown
  try dsimp only
  repeat' (first
    | with_reducible assumption | with_reducible apply kept_finishDone | with_reducible refine kept_modDram ?_ ?_
    | with_reducible refine kept_ite ?_ ?_ | (exact fun _ e => e) | exact Mem.wf_wrs _ _ _ (by assumption)
    | exact Mem.wf_wipe _ _ _ (by assumption) | (intro _) | split | dsimp only)

theorem kept_applyMemLatency {q : List Instr} {h k : Option Nat} {ok : Bool} (s : State) (d : Descriptor) (hw : Kept q h k ok s) :
    Kept q h k ok (applyMemLatency s d) := by
  unfold applyMemLatency
  try dsimp only
  repeat' (first
    | with_reducible assumption | with_reducible refine kept_modDram ?_ ?_ | with_reducible refine kept_ite ?_ ?_
    | (exact fun _ e => e) | exact Mem.wf_wrs _ _ _ (by assumption) | exact Mem.wf_wipe _ _ _ (by assumption)
    | (intro _) | split | dsimp only)

theorem kept_retireNamed {q : List Instr} {h k : Option Nat} {ok : Bool} (s : State) (n : Nat) (hw : Kept q h k ok s) :
    Kept q h k ok (retireNamed s n) := by
  unfold retireNamed
  try dsimp only
  repeat' (first
    | with_reducible assumption | with_reducible apply kept_retire | with_reducible apply kept_modRank
    | with_reducible refine kept_ite ?_ ?_ | (intro _) | split | dsimp only)

theorem kept_commitMemRetire {q : List Instr} {h k : Option Nat} {ok : Bool} (s : State) (f : Flight) (hw : Kept q h k ok s) :
    Kept q h k ok (commitMemRetire s f) := by
  unfold commitMemRetire
  try dsimp only
  repeat' (first
    | with_reducible assumption | with_reducible apply kept_retireNamed | with_reducible refine kept_ite ?_ ?_
    | (intro _) | split | dsimp only)

theorem kept_startMemRetire {q : List Instr} {h k : Option Nat} {ok : Bool} (s : State) (f : Flight) (hw : Kept q h k ok s) :
    Kept q h k ok (startMemRetire s f) := by
  unfold startMemRetire
  try dsimp only
  repeat' (first
    | with_reducible assumption | with_reducible apply kept_retireNamed | with_reducible apply kept_finishDone
    | with_reducible apply kept_await | with_reducible refine kept_ite ?_ ?_ | (intro _) | split | dsimp only)

theorem kept_startMemStatus {q : List Instr} {h k : Option Nat} {ok : Bool} (s : State) (f : Flight) (hw : Kept q h k ok s) :
    Kept q h k ok (startMemStatus s f) := by
  unfold startMemStatus
  try dsimp only
  repeat' (first
    | with_reducible assumption | with_reducible apply kept_finishDone | with_reducible apply kept_hostWrite
    | with_reducible refine kept_ite ?_ ?_ | (intro _) | split | dsimp only)

end Sys2Proof.Machine
end

