-- ==== Sys2Proof/Laws/KeptAudioOps.lean ====
section
/-! SUPPORT. What the operations of Machine/AudioOps.lean keep. -/

namespace Sys2Proof.Machine

theorem kept_modUnit {q : List Instr} {h k : Option Nat} {ok : Bool} (s : State) (u : Nat) (f : AudioUnit → AudioUnit) (hw : Kept q h k ok s) :
    Kept q h k ok (modUnit s u f) := by
  unfold modUnit
  try dsimp only
  repeat' (first
    | with_reducible assumption | with_reducible refine kept_modAudio ?_ | with_reducible refine kept_ite ?_ ?_
    | (intro _) | split | dsimp only)

theorem kept_modBus {q : List Instr} {h k : Option Nat} {ok : Bool} (s : State) (b : Nat) (f : Bus → Bus) (hw : Kept q h k ok s) :
    Kept q h k ok (modBus s b f) := by
  unfold modBus
  try dsimp only
  repeat' (first
    | with_reducible assumption | with_reducible refine kept_modAudio ?_ | with_reducible refine kept_ite ?_ ?_
    | (intro _) | split | dsimp only)

theorem kept_modInput {q : List Instr} {h k : Option Nat} {ok : Bool} (s : State) (n : Nat) (f : Input → Input) (hw : Kept q h k ok s) :
    Kept q h k ok (modInput s n f) := by
  unfold modInput
  try dsimp only
  repeat' (first
    | with_reducible assumption | with_reducible refine kept_modAudio ?_ | with_reducible refine kept_ite ?_ ?_
    | (intro _) | split | dsimp only)

theorem kept_modPath {q : List Instr} {h k : Option Nat} {ok : Bool} (s : State) (n b : Nat) (f : Path → Path) (hw : Kept q h k ok s) :
    Kept q h k ok (modPath s n b f) := by
  unfold modPath
  try dsimp only
  repeat' (first
    | with_reducible assumption | with_reducible refine kept_modAudio ?_ | with_reducible refine kept_ite ?_ ?_
    | (intro _) | split | dsimp only)

theorem kept_modTone {q : List Instr} {h k : Option Nat} {ok : Bool} (s : State) (g : Nat) (f : Tone → Tone) (hw : Kept q h k ok s) :
    Kept q h k ok (modTone s g f) := by
  unfold modTone
  try dsimp only
  repeat' (first
    | with_reducible assumption | with_reducible refine kept_modAudio ?_ | with_reducible refine kept_ite ?_ ?_
    | (intro _) | split | dsimp only)

theorem kept_modStream {q : List Instr} {h k : Option Nat} {ok : Bool} (s : State) (n : Nat) (f : AudioStream → AudioStream) (hw : Kept q h k ok s) :
    Kept q h k ok (modStream s n f) := by
  unfold modStream
  try dsimp only
  repeat' (first
    | with_reducible assumption | with_reducible refine kept_modAudio ?_ | with_reducible refine kept_ite ?_ ?_
    | (intro _) | split | dsimp only)

theorem kept_modJack {q : List Instr} {h k : Option Nat} {ok : Bool} (s : State) (j : Nat) (f : Jack → Jack) (hw : Kept q h k ok s) :
    Kept q h k ok (modJack s j f) := by
  unfold modJack
  try dsimp only
  repeat' (first
    | with_reducible assumption | with_reducible refine kept_modAudio ?_ | with_reducible refine kept_ite ?_ ?_
    | (intro _) | split | dsimp only)

theorem kept_readFrame {q : List Instr} {h k : Option Nat} {ok : Bool} (s : State) (n f : Nat) (hw : Kept q h k ok s) :
    Kept q h k ok ((readFrame s n f).2) := by
  unfold readFrame
  try dsimp only
  repeat' (first
    | with_reducible assumption | with_reducible apply kept_srRead | with_reducible apply kept_freshValue
    | with_reducible refine kept_foldl ?_ ?_ | with_reducible refine kept_foldl_1 ?_ ?_
    | with_reducible refine kept_foldl_2 ?_ ?_ | with_reducible refine kept_foldl_22 ?_ ?_
    | with_reducible refine kept_ite ?_ ?_ | (intro _) | split | dsimp only)

theorem kept_fetchFrame {q : List Instr} {h k : Option Nat} {ok : Bool} (s : State) (n f : Nat) (hw : Kept q h k ok s) :
    Kept q h k ok (fetchFrame s n f) := by
  unfold fetchFrame
  try dsimp only
  repeat' (first
    | with_reducible assumption | with_reducible apply kept_readFrame | with_reducible apply kept_modStream
    | with_reducible refine kept_ite ?_ ?_ | (intro _) | split | dsimp only)

theorem kept_prefetchStream {q : List Instr} {h k : Option Nat} {ok : Bool} (s : State) (n t0 : Nat) (hw : Kept q h k ok s) :
    Kept q h k ok (prefetchStream s n t0) := by
  unfold prefetchStream
  try dsimp only
  repeat' (first
    | with_reducible assumption | with_reducible apply kept_fetchFrame | with_reducible refine kept_foldl ?_ ?_
    | with_reducible refine kept_foldl_1 ?_ ?_ | with_reducible refine kept_foldl_2 ?_ ?_
    | with_reducible refine kept_foldl_22 ?_ ?_ | with_reducible refine kept_ite ?_ ?_ | (intro _) | split | dsimp only)

theorem kept_prefetchAll {q : List Instr} {h k : Option Nat} {ok : Bool} (s : State) (hw : Kept q h k ok s) :
    Kept q h k ok (prefetchAll s) := by
  unfold prefetchAll
  try dsimp only
  repeat' (first
    | with_reducible assumption | with_reducible apply kept_prefetchStream | with_reducible refine kept_foldl ?_ ?_
    | with_reducible refine kept_ite ?_ ?_ | (intro _) | split | dsimp only)

theorem kept_pathSample {q : List Instr} {h k : Option Nat} {ok : Bool} (s : State) (i b : Nat) (hw : Kept q h k ok s) :
    Kept q h k ok ((pathSample s i b).2) := by
  unfold pathSample
  try dsimp only
  repeat' (first
    | with_reducible assumption | with_reducible apply kept_freshValue | with_reducible apply kept_finishDone
    | with_reducible apply kept_modPath | with_reducible refine kept_ite ?_ ?_ | (intro _) | split | dsimp only)

theorem kept_busStep {q : List Instr} {h k : Option Nat} {ok : Bool} (s : State) (b : Nat) (hw : Kept q h k ok s) :
    Kept q h k ok (busStep s b) := by
  unfold busStep
  try dsimp only
  repeat' (first
    | with_reducible assumption | with_reducible apply kept_pathSample | with_reducible apply kept_modBus
    | with_reducible refine kept_foldl ?_ ?_ | with_reducible refine kept_foldl_1 ?_ ?_
    | with_reducible refine kept_foldl_2 ?_ ?_ | with_reducible refine kept_foldl_22 ?_ ?_
    | with_reducible refine kept_ite ?_ ?_ | (intro _) | split | dsimp only)

theorem kept_applyPath {q : List Instr} {h k : Option Nat} {ok : Bool} (s : State) (c : Change) (hw : Kept q h k ok s) :
    Kept q h k ok (applyPath s c) := by
  unfold applyPath
  try dsimp only
  repeat' (first
    | with_reducible assumption | with_reducible apply kept_finishDone | with_reducible apply kept_modPath
    | with_reducible refine kept_ite ?_ ?_ | (intro _) | split | dsimp only)

theorem kept_applySource {q : List Instr} {h k : Option Nat} {ok : Bool} (s : State) (c : Change) (hw : Kept q h k ok s) :
    Kept q h k ok (applySource s c) := by
  unfold applySource
  try dsimp only
  repeat' (first
    | with_reducible assumption | with_reducible apply kept_modInput | with_reducible refine kept_ite ?_ ?_ | (intro _)
    | split | dsimp only)

theorem kept_applyBus {q : List Instr} {h k : Option Nat} {ok : Bool} (s : State) (c : Change) (hw : Kept q h k ok s) :
    Kept q h k ok (applyBus s c) := by
  unfold applyBus
  try dsimp only
  repeat' (first
    | with_reducible assumption | with_reducible apply kept_modBus | with_reducible refine kept_ite ?_ ?_ | (intro _)
    | split | dsimp only)

theorem kept_applyFilter {q : List Instr} {h k : Option Nat} {ok : Bool} (s : State) (c : Change) (hw : Kept q h k ok s) :
    Kept q h k ok (applyFilter s c) := by
  unfold applyFilter
  try dsimp only
  repeat' (first
    | with_reducible assumption | with_reducible apply kept_modBus | with_reducible refine kept_ite ?_ ?_ | (intro _)
    | split | dsimp only)

theorem kept_applyTone {q : List Instr} {h k : Option Nat} {ok : Bool} (s : State) (c : Change) (hw : Kept q h k ok s) :
    Kept q h k ok (applyTone s c) := by
  unfold applyTone
  try dsimp only
  repeat' (first
    | with_reducible assumption | with_reducible apply kept_modTone | with_reducible refine kept_ite ?_ ?_ | (intro _)
    | split | dsimp only)

theorem kept_applyChange {q : List Instr} {h k : Option Nat} {ok : Bool} (s : State) (c : Change) (hw : Kept q h k ok s) :
    Kept q h k ok (applyChange s c) := by
  unfold applyChange
  try dsimp only
  repeat' (first
    | with_reducible assumption | with_reducible apply kept_modStream | with_reducible apply kept_applyPath
    | with_reducible apply kept_applySource | with_reducible apply kept_applyBus | with_reducible apply kept_modInput
    | with_reducible apply kept_modBus | with_reducible apply kept_applyFilter | with_reducible apply kept_applyTone
    | with_reducible refine kept_ite ?_ ?_ | (intro _) | split | dsimp only)

theorem kept_applyDue {q : List Instr} {h k : Option Nat} {ok : Bool} (s : State) (u : Option Nat) (hw : Kept q h k ok s) :
    Kept q h k ok (applyDue s u) := by
  unfold applyDue
  try dsimp only
  repeat' (first
    | with_reducible assumption | with_reducible apply kept_applyChange | with_reducible refine kept_modAudio ?_
    | with_reducible apply kept_finishDone | with_reducible refine kept_foldl ?_ ?_
    | with_reducible refine kept_ite ?_ ?_ | (intro _) | split | dsimp only)

theorem kept_dropDeadChanges {q : List Instr} {h k : Option Nat} {ok : Bool} (s : State) (hw : Kept q h k ok s) :
    Kept q h k ok (dropDeadChanges s) := by
  unfold dropDeadChanges
  try dsimp only
  repeat' (first
    | with_reducible assumption | with_reducible refine kept_modAudio ?_ | with_reducible refine kept_ite ?_ ?_
    | (intro _) | split | dsimp only)

theorem kept_fireSample {q : List Instr} {h k : Option Nat} {ok : Bool} (s : State) (u n : Nat) (hw : Kept q h k ok s) :
    Kept q h k ok (fireSample s u n) := by
  unfold fireSample
  try dsimp only
  repeat' (first
    | with_reducible assumption | with_reducible apply kept_finish | with_reducible apply kept_missNote
    | with_reducible refine kept_modAudio ?_ | with_reducible apply kept_finishDone
    | with_reducible refine kept_foldl ?_ ?_ | with_reducible refine kept_ite ?_ ?_ | (intro _) | split | dsimp only)

theorem kept_soundTone {q : List Instr} {h k : Option Nat} {ok : Bool} (s : State) (g fs : Nat) (hw : Kept q h k ok s) :
    Kept q h k ok (soundTone s g fs) := by
  unfold soundTone
  try dsimp only
  repeat' (first
    | with_reducible assumption | with_reducible apply kept_modTone | with_reducible refine kept_modCharges ?_
    | with_reducible refine kept_ite ?_ ?_ | (intro _) | split | dsimp only)

theorem kept_stepInputs {q : List Instr} {h k : Option Nat} {ok : Bool} (s : State) (u : Nat) (hw : Kept q h k ok s) :
    Kept q h k ok (stepInputs s u) := by
  unfold stepInputs
  try dsimp only
  repeat' (first
    | with_reducible assumption | with_reducible apply kept_modInput | with_reducible refine kept_foldl ?_ ?_
    | with_reducible refine kept_ite ?_ ?_ | (intro _) | split | dsimp only)

theorem kept_takeInputs {q : List Instr} {h k : Option Nat} {ok : Bool} (s : State) (u : Nat) (ins : List Nat) (hw : Kept q h k ok s) :
    Kept q h k ok (takeInputs s u ins) := by
  unfold takeInputs
  try dsimp only
  repeat' (first
    | with_reducible assumption | with_reducible apply kept_freshValue | with_reducible apply kept_modInput
    | with_reducible refine kept_foldl ?_ ?_ | with_reducible refine kept_ite ?_ ?_ | (intro _) | split | dsimp only)

theorem kept_unitSample {q : List Instr} {h k : Option Nat} {ok : Bool} (s : State) (u : Nat) (ins : List Nat) (hw : Kept q h k ok s) :
    Kept q h k ok (unitSample s u ins) := by
  unfold unitSample
  try dsimp only
  repeat' (first
    | with_reducible assumption | with_reducible refine kept_modAudio ?_ | with_reducible apply kept_stepInputs
    | with_reducible apply kept_applyDue | with_reducible apply kept_takeInputs | with_reducible apply kept_soundTone
    | with_reducible apply kept_busStep | with_reducible apply kept_modUnit | with_reducible apply kept_fireSample
    | with_reducible refine kept_foldl ?_ ?_ | with_reducible refine kept_ite ?_ ?_ | (intro _) | split | dsimp only)

theorem kept_looseBusSample {q : List Instr} {h k : Option Nat} {ok : Bool} (s : State) (b : Nat) (hw : Kept q h k ok s) :
    Kept q h k ok (looseBusSample s b) := by
  unfold looseBusSample
  try dsimp only
  repeat' (first
    | with_reducible assumption | with_reducible apply kept_applyDue | with_reducible apply kept_soundTone
    | with_reducible apply kept_modBus | with_reducible apply kept_busStep | with_reducible refine kept_foldl ?_ ?_
    | with_reducible refine kept_ite ?_ ?_ | (intro _) | split | dsimp only)

theorem kept_streamSample {q : List Instr} {h k : Option Nat} {ok : Bool} (s : State) (n : Nat) (hw : Kept q h k ok s) :
    Kept q h k ok (streamSample s n) := by
  unfold streamSample
  try dsimp only
  repeat' (first
    | with_reducible assumption | with_reducible apply kept_stepInputs | with_reducible apply kept_applyDue
    | with_reducible apply kept_modStream | with_reducible apply kept_fetchFrame | with_reducible apply kept_freshValue
    | with_reducible apply kept_srPut | with_reducible refine kept_foldl ?_ ?_
    | with_reducible refine kept_foldl_1 ?_ ?_ | with_reducible refine kept_foldl_2 ?_ ?_
    | with_reducible refine kept_foldl_22 ?_ ?_ | with_reducible refine kept_ite ?_ ?_ | (intro _) | split | dsimp only)

theorem kept_sampleStartOf {q : List Instr} {h k : Option Nat} {ok : Bool} (s : State) (u : Nat) (ins : List Nat) (hw : Kept q h k ok s) :
    Kept q h k ok (sampleStartOf s u ins) := by
  unfold sampleStartOf
  try dsimp only
  repeat' (first
    | with_reducible assumption | with_reducible apply kept_unitSample | with_reducible apply kept_streamSample
    | with_reducible apply kept_looseBusSample | with_reducible refine kept_ite ?_ ?_ | (intro _) | split | dsimp only)

theorem kept_syncEdge {q : List Instr} {h k : Option Nat} {ok : Bool} (s : State) (u : Nat) (ins : List Nat) (hw : Kept q h k ok s) :
    Kept q h k ok (syncEdge s u ins) := by
  unfold syncEdge
  try dsimp only
  repeat' (first
    | with_reducible assumption | with_reducible apply kept_modUnit | with_reducible apply kept_unitSample
    | with_reducible refine kept_ite ?_ ?_ | (intro _) | split | dsimp only)

theorem kept_syncLostOf {q : List Instr} {h k : Option Nat} {ok : Bool} (s : State) (u : Nat) (hw : Kept q h k ok s) :
    Kept q h k ok (syncLostOf s u) := by
  unfold syncLostOf
  try dsimp only
  repeat' (first
    | with_reducible assumption | with_reducible apply kept_modUnit | with_reducible apply kept_modInput
    | with_reducible apply kept_raise | with_reducible refine kept_modAudio ?_ | with_reducible apply kept_withdraw
    | with_reducible apply kept_missNote | with_reducible refine kept_foldl ?_ ?_ | with_reducible refine kept_ite ?_ ?_
    | (intro _) | split | dsimp only)

theorem kept_audioPeriodOf {q : List Instr} {h k : Option Nat} {ok : Bool} (s : State) (n : Nat) (hw : Kept q h k ok s) :
    Kept q h k ok (audioPeriodOf s n) := by
  unfold audioPeriodOf
  try dsimp only
  repeat' (first
    | with_reducible assumption | with_reducible apply kept_issueRecord | with_reducible apply kept_modStream
    | with_reducible apply kept_raise | with_reducible refine kept_ite ?_ ?_ | (intro _) | split | dsimp only)

theorem kept_setJackType {q : List Instr} {h k : Option Nat} {ok : Bool} (s : State) (j ty load : Nat) (hw : Kept q h k ok s) :
    Kept q h k ok (setJackType s j ty load) := by
  unfold setJackType
  try dsimp only
  repeat' (first
    | with_reducible assumption | with_reducible apply kept_modJack | with_reducible apply kept_raise
    | with_reducible refine kept_ite ?_ ?_ | (intro _) | split | dsimp only)

theorem kept_jackSwitch {q : List Instr} {h k : Option Nat} {ok : Bool} (s : State) (j : Nat) (closed : Bool) (hw : Kept q h k ok s) :
    Kept q h k ok (jackSwitch s j closed) := by
  unfold jackSwitch
  try dsimp only
  repeat' (first
    | with_reducible assumption | with_reducible apply kept_modJack | with_reducible refine kept_ite ?_ ?_ | (intro _)
    | split | dsimp only)

theorem kept_jackDebounced {q : List Instr} {h k : Option Nat} {ok : Bool} (s : State) (j : Nat) (hw : Kept q h k ok s) :
    Kept q h k ok (jackDebounced s j) := by
  unfold jackDebounced
  try dsimp only
  repeat' (first
    | with_reducible assumption | with_reducible apply kept_modJack | with_reducible refine kept_ite ?_ ?_ | (intro _)
    | split | dsimp only)

theorem kept_jackFound {q : List Instr} {h k : Option Nat} {ok : Bool} (s : State) (j ty load : Nat) (hw : Kept q h k ok s) :
    Kept q h k ok (jackFound s j ty load) := by
  unfold jackFound
  try dsimp only
  repeat' (first
    | with_reducible assumption | with_reducible apply kept_setJackType | with_reducible apply kept_modJack
    | with_reducible refine kept_ite ?_ ?_ | (intro _) | split | dsimp only)

theorem kept_jackRemoved {q : List Instr} {h k : Option Nat} {ok : Bool} (s : State) (j : Nat) (hw : Kept q h k ok s) :
    Kept q h k ok (jackRemoved s j) := by
  unfold jackRemoved
  try dsimp only
  repeat' (first
    | with_reducible assumption | with_reducible apply kept_setJackType | with_reducible apply kept_modJack
    | with_reducible refine kept_ite ?_ ?_ | (intro _) | split | dsimp only)

theorem kept_buttonHeld {q : List Instr} {h k : Option Nat} {ok : Bool} (s : State) (j ohms : Nat) (hw : Kept q h k ok s) :
    Kept q h k ok (buttonHeld s j ohms) := by
  unfold buttonHeld
  try dsimp only
  repeat' (first
    | with_reducible assumption | with_reducible apply kept_raise | with_reducible apply kept_modJack
    | with_reducible refine kept_ite ?_ ?_ | (intro _) | split | dsimp only)

theorem kept_driverTrip {q : List Instr} {h k : Option Nat} {ok : Bool} (s : State) (u : Nat) (hw : Kept q h k ok s) :
    Kept q h k ok (driverTrip s u) := by
  unfold driverTrip
  try dsimp only
  repeat' (first
    | with_reducible assumption | with_reducible apply kept_assert | with_reducible apply kept_raise
    | with_reducible apply kept_modUnit | with_reducible refine kept_ite ?_ ?_ | (intro _) | split | dsimp only)

theorem kept_weighInputs {q : List Instr} {h k : Option Nat} {ok : Bool} (s : State) (t : Nat) (full : Bool) (hw : Kept q h k ok s) :
    Kept q h k ok (weighInputs s t full) := by
  unfold weighInputs
  try dsimp only
  repeat' (first
    | with_reducible assumption | with_reducible apply kept_modInput | with_reducible refine kept_foldl ?_ ?_
    | with_reducible refine kept_ite ?_ ?_ | (intro _) | split | dsimp only)

theorem kept_holdSound {q : List Instr} {h k : Option Nat} {ok : Bool} (s : State) (t : Nat) (hw : Kept q h k ok s) :
    Kept q h k ok (holdSound s t) := by
  unfold holdSound
  try dsimp only
  repeat' (first
    | with_reducible assumption | with_reducible apply kept_modTone | with_reducible apply kept_weighInputs
    | with_reducible refine kept_foldl ?_ ?_ | with_reducible refine kept_ite ?_ ?_ | (intro _) | split | dsimp only)

theorem kept_startTimedChange {q : List Instr} {h k : Option Nat} {ok : Bool} (s : State) (f : Flight) (hw : Kept q h k ok s) :
    Kept q h k ok (startTimedChange s f) := by
  unfold startTimedChange
  try dsimp only
  repeat' (first
    | with_reducible assumption | with_reducible refine kept_mapFlights ?_ ?_
    | with_reducible refine kept_filterFlights ?_ | with_reducible apply kept_await
    | with_reducible refine kept_modAudio ?_ | with_reducible refine kept_foldl ?_ ?_
    | with_reducible refine kept_ite ?_ ?_ | (exact fun _ => rfl) | rfl | exact Eq.symm (by assumption) | (intro _)
    | split | dsimp only)

theorem kept_startStreamStart {q : List Instr} {h k : Option Nat} {ok : Bool} (s : State) (f : Flight) (hw : Kept q h k ok s) :
    Kept q h k ok (startStreamStart s f) := by
  unfold startStreamStart
  try dsimp only
  repeat' (first
    | with_reducible assumption | with_reducible apply kept_startTimedChange | with_reducible apply kept_modStream
    | with_reducible refine kept_ite ?_ ?_ | (intro _) | split | dsimp only)

theorem kept_startStreamStop {q : List Instr} {h k : Option Nat} {ok : Bool} (s : State) (f : Flight) (hw : Kept q h k ok s) :
    Kept q h k ok (startStreamStop s f) := by
  unfold startStreamStop
  try dsimp only
  repeat' (first
    | with_reducible assumption | with_reducible apply kept_finishDone | with_reducible apply kept_startTimedChange
    | with_reducible refine kept_ite ?_ ?_ | (intro _) | split | dsimp only)

theorem kept_commitAudioRoute {q : List Instr} {h k : Option Nat} {ok : Bool} (s : State) (f : Flight) (hw : Kept q h k ok s) :
    Kept q h k ok (commitAudioRoute s f) := by
  unfold commitAudioRoute
  try dsimp only
  repeat' (first
    | with_reducible assumption | with_reducible refine kept_modCharges ?_ | with_reducible refine kept_ite ?_ ?_
    | (intro _) | split | dsimp only)

theorem kept_startAudioTone {q : List Instr} {h k : Option Nat} {ok : Bool} (s : State) (f : Flight) (hw : Kept q h k ok s) :
    Kept q h k ok (startAudioTone s f) := by
  unfold startAudioTone
  try dsimp only
  repeat' (first
    | with_reducible assumption | with_reducible apply kept_finishDone | with_reducible apply kept_startTimedChange
    | with_reducible refine kept_ite ?_ ?_ | (intro _) | split | dsimp only)

theorem kept_commitAudioTone {q : List Instr} {h k : Option Nat} {ok : Bool} (s : State) (f : Flight) (hw : Kept q h k ok s) :
    Kept q h k ok (commitAudioTone s f) := by
  unfold commitAudioTone
  try dsimp only
  repeat' (first
    | with_reducible assumption | with_reducible refine kept_modCharges ?_ | with_reducible refine kept_ite ?_ ?_
    | (intro _) | split | dsimp only)

theorem kept_configureStream {q : List Instr} {h k : Option Nat} {ok : Bool} (s : State) (t n : Nat) (d : Descriptor) (hw : Kept q h k ok s) :
    Kept q h k ok (configureStream s t n d) := by
  unfold configureStream
  try dsimp only
  repeat' (first
    | with_reducible assumption | with_reducible apply kept_modStream | with_reducible refine kept_modSr ?_ ?_
    | with_reducible refine kept_ite ?_ ?_ | (exact fun _ e => e) | exact Mem.wf_wrs _ _ _ (by assumption)
    | exact Mem.wf_wipe _ _ _ (by assumption) | (intro _) | split | dsimp only)

theorem kept_startStreamConfig {q : List Instr} {h k : Option Nat} {ok : Bool} (s : State) (f : Flight) (hw : Kept q h k ok s) :
    Kept q h k ok (startStreamConfig s f) := by
  unfold startStreamConfig
  try dsimp only
  repeat' (first
    | with_reducible assumption | with_reducible apply kept_finishDone | with_reducible apply kept_configureStream
    | with_reducible refine kept_ite ?_ ?_ | (intro _) | split | dsimp only)

theorem kept_applyPortConfig {q : List Instr} {h k : Option Nat} {ok : Bool} (s : State) (d : Descriptor) (hw : Kept q h k ok s) :
    Kept q h k ok (applyPortConfig s d) := by
  unfold applyPortConfig
  try dsimp only
  repeat' (first
    | with_reducible assumption | with_reducible refine kept_modAudio ?_ | with_reducible apply kept_modUnit
    | with_reducible refine kept_ite ?_ ?_ | (intro _) | split | dsimp only)

theorem kept_startJackStatus {q : List Instr} {h k : Option Nat} {ok : Bool} (s : State) (f : Flight) (hw : Kept q h k ok s) :
    Kept q h k ok (startJackStatus s f) := by
  unfold startJackStatus
  try dsimp only
  repeat' (first
    | with_reducible assumption | with_reducible apply kept_finishDone | with_reducible apply kept_hostWrite
    | with_reducible refine kept_ite ?_ ?_ | (intro _) | split | dsimp only)

end Sys2Proof.Machine
end

