-- ==== Sys2Proof/Laws/KeptLayerOps.lean ====
section
/-! SUPPORT. What the operations of Machine/LayerOps.lean keep. -/

namespace Sys2Proof.Machine

theorem kept_setRing {q : List Instr} {h k : Option Nat} {ok : Bool} (s : State) (g : Ring) (hw : Kept q h k ok s) :
    Kept q h k ok (setRing s g) := by
  unfold setRing
  try dsimp only
  repeat' (first
    | with_reducible assumption | with_reducible refine kept_modSr ?_ ?_ | with_reducible refine kept_ite ?_ ?_
    | (exact fun _ e => e) | exact Mem.wf_wrs _ _ _ (by assumption) | exact Mem.wf_wipe _ _ _ (by assumption)
    | (intro _) | split | dsimp only)

theorem kept_reserveRing {q : List Instr} {h k : Option Nat} {ok : Bool} (s : State) (slot t n id : Nat) (hw : Kept q h k ok s) :
    Kept q h k ok (reserveRing s slot t n id) := by
  unfold reserveRing
  try dsimp only
  repeat' (first
    | with_reducible assumption | with_reducible apply kept_setRing | with_reducible refine kept_ite ?_ ?_ | (intro _)
    | split | dsimp only)

theorem kept_placeRing {q : List Instr} {h k : Option Nat} {ok : Bool} (s : State) (slot t n : Nat) (hw : Kept q h k ok s) :
    Kept q h k ok (placeRing s slot t n) := by
  unfold placeRing
  try dsimp only
  repeat' (first
    | with_reducible assumption | with_reducible apply kept_setRing | with_reducible refine kept_ite ?_ ?_ | (intro _)
    | split | dsimp only)

theorem kept_commitLayerUpdate {q : List Instr} {h k : Option Nat} {ok : Bool} (s : State) (f : Flight) (hw : Kept q h k ok s) :
    Kept q h k ok (commitLayerUpdate s f) := by
  unfold commitLayerUpdate
  try dsimp only
  repeat' (first
    | with_reducible assumption | with_reducible apply kept_reserveRing | with_reducible refine kept_modCharges ?_
    | with_reducible refine kept_ite ?_ ?_ | (intro _) | split | dsimp only)

theorem kept_startLayerAlloc {q : List Instr} {h k : Option Nat} {ok : Bool} (s : State) (f : Flight) (hw : Kept q h k ok s) :
    Kept q h k ok (startLayerAlloc s f) := by
  unfold startLayerAlloc
  try dsimp only
  repeat' (first
    | with_reducible assumption | with_reducible apply kept_finishWith | with_reducible apply kept_setSlot
    | with_reducible apply kept_renewSource | with_reducible apply kept_finishDone
    | with_reducible refine kept_ite ?_ ?_ | (intro _) | split | dsimp only)

theorem kept_commitLayerFree {q : List Instr} {h k : Option Nat} {ok : Bool} (s : State) (f : Flight) (hw : Kept q h k ok s) :
    Kept q h k ok (commitLayerFree s f) := by
  unfold commitLayerFree
  try dsimp only
  repeat' (first
    | with_reducible assumption | with_reducible refine kept_modCharges ?_ | with_reducible refine kept_ite ?_ ?_
    | (intro _) | split | dsimp only)

theorem kept_releaseSlot {q : List Instr} {h k : Option Nat} {ok : Bool} (s : State) (sl : Nat) (hw : Kept q h k ok s) :
    Kept q h k ok (releaseSlot s sl) := by
  unfold releaseSlot
  try dsimp only
  repeat' (first
    | with_reducible assumption | with_reducible refine kept_modSr ?_ ?_ | with_reducible apply kept_renewSource
    | with_reducible apply kept_setSlot | with_reducible refine kept_ite ?_ ?_ | (exact fun _ e => e)
    | exact Mem.wf_wrs _ _ _ (by assumption) | exact Mem.wf_wipe _ _ _ (by assumption) | (intro _) | split | dsimp only)

theorem kept_applyClut {q : List Instr} {h k : Option Nat} {ok : Bool} (s : State) (f : Flight) (bs : List Byte) (hw : Kept q h k ok s) :
    Kept q h k ok (applyClut s f bs) := by
  unfold applyClut
  try dsimp only
  repeat' (first
    | with_reducible assumption | with_reducible apply kept_modSlot | with_reducible refine kept_foldl ?_ ?_
    | with_reducible refine kept_foldl_1 ?_ ?_ | with_reducible refine kept_foldl_2 ?_ ?_
    | with_reducible refine kept_foldl_22 ?_ ?_ | with_reducible refine kept_ite ?_ ?_ | (intro _) | split | dsimp only)

theorem kept_applyPolicy {q : List Instr} {h k : Option Nat} {ok : Bool} (s : State) (d : Descriptor) (hw : Kept q h k ok s) :
    Kept q h k ok (applyPolicy s d) := by
  unfold applyPolicy
  try dsimp only
  repeat' (first
    | with_reducible assumption | with_reducible apply kept_modHead | with_reducible refine kept_ite ?_ ?_ | (intro _)
    | split | dsimp only)

theorem kept_startLayerStatus {q : List Instr} {h k : Option Nat} {ok : Bool} (s : State) (f : Flight) (hw : Kept q h k ok s) :
    Kept q h k ok (startLayerStatus s f) := by
  unfold startLayerStatus
  try dsimp only
  repeat' (first
    | with_reducible assumption | with_reducible apply kept_finishDone | with_reducible apply kept_hostWrite
    | with_reducible refine kept_ite ?_ ?_ | (intro _) | split | dsimp only)

end Sys2Proof.Machine
end

