-- ==== Sys2Proof/Laws/KeptJobOps.lean ====
section
/-! SUPPORT. What the operations of Machine/JobOps.lean keep. -/

namespace Sys2Proof.Machine

theorem kept_setGrove {q : List Instr} {h k : Option Nat} {ok : Bool} (s : State) (g : Nat) (v : Grove) (hw : Kept q h k ok s) :
    Kept q h k ok (setGrove s g v) := by
  unfold setGrove
  try dsimp only
  repeat' (first
    | with_reducible assumption | with_reducible refine kept_modGpu ?_ | with_reducible refine kept_ite ?_ ?_
    | (intro _) | split | dsimp only)

theorem kept_modGrove {q : List Instr} {h k : Option Nat} {ok : Bool} (s : State) (g : Nat) (f : Grove → Grove) (hw : Kept q h k ok s) :
    Kept q h k ok (modGrove s g f) := by
  unfold modGrove
  try dsimp only
  repeat' (first
    | with_reducible assumption | with_reducible apply kept_setGrove | with_reducible refine kept_ite ?_ ?_ | (intro _)
    | split | dsimp only)

theorem kept_setCtx {q : List Instr} {h k : Option Nat} {ok : Bool} (s : State) (c : Nat) (v : Context) (hw : Kept q h k ok s) :
    Kept q h k ok (setCtx s c v) := by
  unfold setCtx
  try dsimp only
  repeat' (first
    | with_reducible assumption | with_reducible refine kept_modGpu ?_ | with_reducible refine kept_ite ?_ ?_
    | (intro _) | split | dsimp only)

theorem kept_modCtx {q : List Instr} {h k : Option Nat} {ok : Bool} (s : State) (c : Nat) (f : Context → Context) (hw : Kept q h k ok s) :
    Kept q h k ok (modCtx s c f) := by
  unfold modCtx
  try dsimp only
  repeat' (first
    | with_reducible assumption | with_reducible apply kept_setCtx | with_reducible refine kept_ite ?_ ?_ | (intro _)
    | split | dsimp only)

end Sys2Proof.Machine
end

