-- ==== Sys2Proof/Laws/KeptRenderOps.lean ====
section
/-! SUPPORT. What the operations of Machine/RenderOps.lean keep. -/

namespace Sys2Proof.Machine

theorem kept_storeSpan {q : List Instr} {h k : Option Nat} {ok : Bool} (s : State) (t : Nat) (d : List Byte) (a : Attachment) (ltc : Bool) (x w y : Nat) (hw : Kept q h k ok s) :
    Kept q h k ok (storeSpan s t d a ltc x w y) := by
  unfold storeSpan
  try dsimp only
  repeat' (first
    | with_reducible assumption | with_reducible apply kept_grovePut | with_reducible apply kept_freshBytes
    | with_reducible refine kept_ite ?_ ?_ | (intro _) | split | dsimp only)

theorem kept_storeSpans {q : List Instr} {h k : Option Nat} {ok : Bool} (s : State) (t : Nat) (d : List Byte) (spans : List (Nat × Nat × Nat)) (hw : Kept q h k ok s) :
    Kept q h k ok (storeSpans s t d spans) := by
  unfold storeSpans
  try dsimp only
  repeat' (first
    | with_reducible assumption | with_reducible apply kept_storeSpan | with_reducible refine kept_foldl ?_ ?_
    | with_reducible refine kept_foldl_1 ?_ ?_ | with_reducible refine kept_foldl_2 ?_ ?_
    | with_reducible refine kept_foldl_22 ?_ ?_ | with_reducible refine kept_ite ?_ ?_ | (intro _) | split | dsimp only)

theorem kept_storeWords {q : List Instr} {h k : Option Nat} {ok : Bool} (s : State) (t : Nat) (d : List Byte) (tile : Tab (Option Nat)) (hw : Kept q h k ok s) :
    Kept q h k ok (storeWords s t d tile) := by
  unfold storeWords
  try dsimp only
  repeat' (first
    | with_reducible assumption | with_reducible apply kept_grovePut | with_reducible refine kept_foldl ?_ ?_
    | with_reducible refine kept_foldl_1 ?_ ?_ | with_reducible refine kept_foldl_2 ?_ ?_
    | with_reducible refine kept_foldl_22 ?_ ?_ | with_reducible refine kept_ite ?_ ?_ | (intro _) | split | dsimp only)

theorem kept_passReads {q : List Instr} {h k : Option Nat} {ok : Bool} (s : State) (c : Context) (d : List Byte) (frags : List Fragment) (hw : Kept q h k ok s) :
    Kept q h k ok (passReads s c d frags) := by
  unfold passReads
  try dsimp only
  repeat' (first
    | with_reducible assumption | with_reducible apply kept_groveRead | with_reducible apply kept_countSrBytes
    | with_reducible apply kept_srRead | with_reducible refine kept_foldl ?_ ?_
    | with_reducible refine kept_foldl_1 ?_ ?_ | with_reducible refine kept_foldl_2 ?_ ?_
    | with_reducible refine kept_foldl_22 ?_ ?_ | with_reducible refine kept_ite ?_ ?_ | (intro _) | split | dsimp only)

theorem kept_renderPass {q : List Instr} {h k : Option Nat} {ok : Bool} (s : State) (g : Nat) (frags : List Fragment) (last : Bool) (hw : Kept q h k ok s) :
    Kept q h k ok (renderPass s g frags last) := by
  unfold renderPass
  try dsimp only
  repeat' (first
    | with_reducible assumption | with_reducible apply kept_modGrove | with_reducible apply kept_passReads
    | with_reducible apply kept_storeWords | with_reducible apply kept_storeSpans | with_reducible apply kept_freshBytes
    | with_reducible apply kept_grovePut | with_reducible refine kept_ite ?_ ?_ | (intro _) | split | dsimp only)

end Sys2Proof.Machine
end

