-- ==== Sys2Proof/Laws/KeptGpuOps.lean ====
section
/-! SUPPORT. What the operations of Machine/GpuOps.lean keep. -/

namespace Sys2Proof.Machine

theorem kept_freeGrove {q : List Instr} {h k : Option Nat} {ok : Bool} (s : State) (g : Nat) (hw : Kept q h k ok s) :
    Kept q h k ok (freeGrove s g) := by
  unfold freeGrove
  try dsimp only
  repeat' (first
    | with_reducible assumption | with_reducible apply kept_modCtx | with_reducible apply kept_setGrove
    | with_reducible refine kept_ite ?_ ?_ | (intro _) | split | dsimp only)

theorem kept_endRun {q : List Instr} {h k : Option Nat} {ok : Bool} (s : State) (g status reason value : Nat) (hw : Kept q h k ok s) :
    Kept q h k ok (endRun s g status reason value) := by
  unfold endRun
  try dsimp only
  repeat' (first
    | with_reducible assumption | with_reducible apply kept_freeGrove | with_reducible apply kept_finish
    | with_reducible refine kept_ite ?_ ?_ | (intro _) | split | dsimp only)

theorem kept_stopRun {q : List Instr} {h k : Option Nat} {ok : Bool} (s : State) (g status reason value : Nat) (hw : Kept q h k ok s) :
    Kept q h k ok (stopRun s g status reason value) := by
  unfold stopRun
  try dsimp only
  repeat' (first
    | with_reducible assumption | with_reducible apply kept_modGrove | with_reducible refine kept_ite ?_ ?_ | (intro _)
    | split | dsimp only)

theorem kept_startJob {q : List Instr} {h k : Option Nat} {ok : Bool} (s : State) (g : Nat) (hw : Kept q h k ok s) :
    Kept q h k ok (startJob s g) := by
  unfold startJob
  try dsimp only
  repeat' (first
    | with_reducible assumption | with_reducible apply kept_modGrove | with_reducible apply kept_groveRead
    | with_reducible apply kept_endRun | with_reducible refine kept_ite ?_ ?_ | (intro _) | split | dsimp only)

theorem kept_completeJob {q : List Instr} {h k : Option Nat} {ok : Bool} (s : State) (g : Nat) (p : RenderPass) (poisoned : Bool) (writes : List (Nat × List Byte)) (hw : Kept q h k ok s) :
    Kept q h k ok (completeJob s g p poisoned writes) := by
  unfold completeJob
  try dsimp only
  repeat' (first
    | with_reducible assumption | with_reducible apply kept_endRun | with_reducible apply kept_modCtx
    | with_reducible apply kept_grovePut | with_reducible apply kept_renderPass | with_reducible refine kept_foldl ?_ ?_
    | with_reducible refine kept_foldl_1 ?_ ?_ | with_reducible refine kept_foldl_2 ?_ ?_
    | with_reducible refine kept_foldl_22 ?_ ?_ | with_reducible refine kept_ite ?_ ?_ | (intro _) | split | dsimp only)

theorem kept_limitJob {q : List Instr} {h k : Option Nat} {ok : Bool} (s : State) (g : Nat) (hw : Kept q h k ok s) :
    Kept q h k ok (limitJob s g) := by
  unfold limitJob
  try dsimp only
  repeat' (first
    | with_reducible assumption | with_reducible apply kept_modCtx | with_reducible apply kept_stopRun
    | with_reducible apply kept_raise | with_reducible refine kept_ite ?_ ?_ | (intro _) | split | dsimp only)

theorem kept_overflowPool {q : List Instr} {h k : Option Nat} {ok : Bool} (s : State) (g : Nat) (p : RenderPass) (hw : Kept q h k ok s) :
    Kept q h k ok (overflowPool s g p) := by
  unfold overflowPool
  try dsimp only
  repeat' (first
    | with_reducible assumption | with_reducible apply kept_modCtx | with_reducible apply kept_raise
    | with_reducible apply kept_endRun | with_reducible apply kept_renderPass | with_reducible refine kept_ite ?_ ?_
    | (intro _) | split | dsimp only)

theorem kept_accessFault {q : List Instr} {h k : Option Nat} {ok : Bool} (s : State) (g : Nat) (hw : Kept q h k ok s) :
    Kept q h k ok (accessFault s g) := by
  unfold accessFault
  try dsimp only
  repeat' (first
    | with_reducible assumption | with_reducible apply kept_endRun | with_reducible refine kept_ite ?_ ?_ | (intro _)
    | split | dsimp only)

theorem kept_runFault {q : List Instr} {h k : Option Nat} {ok : Bool} (s : State) (g : Nat) (oversize : Bool) (hw : Kept q h k ok s) :
    Kept q h k ok (runFault s g oversize) := by
  unfold runFault
  try dsimp only
  repeat' (first
    | with_reducible assumption | with_reducible apply kept_endRun | with_reducible refine kept_ite ?_ ?_ | (intro _)
    | split | dsimp only)

theorem kept_tileUe {q : List Instr} {h k : Option Nat} {ok : Bool} (s : State) (g : Nat) (hw : Kept q h k ok s) :
    Kept q h k ok (tileUe s g) := by
  unfold tileUe
  try dsimp only
  repeat' (first
    | with_reducible assumption | with_reducible apply kept_assert | with_reducible apply kept_stopRun
    | with_reducible apply kept_modGrove | with_reducible refine kept_ite ?_ ?_ | (intro _) | split | dsimp only)

theorem kept_resetDone {q : List Instr} {h k : Option Nat} {ok : Bool} (s : State) (g : Nat) (hw : Kept q h k ok s) :
    Kept q h k ok (resetDone s g) := by
  unfold resetDone
  try dsimp only
  repeat' (first
    | with_reducible assumption | with_reducible apply kept_raise | with_reducible apply kept_freeGrove
    | with_reducible apply kept_modGrove | with_reducible apply kept_finish | with_reducible refine kept_ite ?_ ?_
    | (intro _) | split | dsimp only)

theorem kept_uncount {q : List Instr} {h k : Option Nat} {ok : Bool} (s : State) (id : Nat) (hw : Kept q h k ok s) :
    Kept q h k ok (uncount s id) := by
  unfold uncount
  try dsimp only
  repeat' (first
    | with_reducible assumption | with_reducible refine kept_mapFlights ?_ ?_
    | with_reducible refine kept_filterFlights ?_ | with_reducible refine kept_ite ?_ ?_ | (exact fun _ => rfl) | rfl
    | exact Eq.symm (by assumption) | (intro _) | split | dsimp only)

theorem kept_resetOverrun {q : List Instr} {h k : Option Nat} {ok : Bool} (s : State) (g : Nat) (hw : Kept q h k ok s) :
    Kept q h k ok (resetOverrun s g) := by
  unfold resetOverrun
  try dsimp only
  repeat' (first
    | with_reducible assumption | with_reducible apply kept_freeGrove | with_reducible apply kept_modGrove
    | with_reducible apply kept_assert | with_reducible apply kept_withdraw | with_reducible apply kept_uncount
    | with_reducible refine kept_foldl ?_ ?_ | with_reducible refine kept_ite ?_ ?_ | (intro _) | split | dsimp only)

theorem kept_settleGroves {q : List Instr} {h k : Option Nat} {ok : Bool} (s : State) (hw : Kept q h k ok s) :
    Kept q h k ok (settleGroves s) := by
  unfold settleGroves
  try dsimp only
  repeat' (first
    | with_reducible assumption | with_reducible apply kept_freeGrove | with_reducible apply kept_modGrove
    | with_reducible refine kept_foldl ?_ ?_ | with_reducible refine kept_ite ?_ ?_ | (intro _) | split | dsimp only)

theorem kept_settleWaits {q : List Instr} {h k : Option Nat} {ok : Bool} (s : State) (hw : Kept q h k ok s) :
    Kept q h k ok (settleWaits s) := by
  unfold settleWaits
  try dsimp only
  repeat' (first
    | with_reducible assumption | with_reducible apply kept_finishWith | with_reducible refine kept_foldl ?_ ?_
    | with_reducible refine kept_ite ?_ ?_ | (intro _) | split | dsimp only)

theorem kept_keepOutcomes {q : List Instr} {h k : Option Nat} {ok : Bool} (s : State) (c : Nat) (hw : Kept q h k ok s) :
    Kept q h k ok (keepOutcomes s c) := by
  unfold keepOutcomes
  try dsimp only
  repeat' (first
    | with_reducible assumption | with_reducible apply kept_setFlight | with_reducible refine kept_foldl ?_ ?_
    | with_reducible refine kept_ite ?_ ?_ | (intro _) | split | dsimp only)

theorem kept_releaseContext {q : List Instr} {h k : Option Nat} {ok : Bool} (s : State) (c : Nat) (hw : Kept q h k ok s) :
    Kept q h k ok (releaseContext s c) := by
  unfold releaseContext
  try dsimp only
  repeat' (first
    | with_reducible assumption | with_reducible apply kept_keepOutcomes | with_reducible refine kept_modSr ?_ ?_
    | with_reducible apply kept_renewSource | with_reducible apply kept_setCtx | with_reducible refine kept_ite ?_ ?_
    | (exact fun _ e => e) | exact Mem.wf_wrs _ _ _ (by assumption) | exact Mem.wf_wipe _ _ _ (by assumption)
    | (intro _) | split | dsimp only)

theorem kept_settleKills {q : List Instr} {h k : Option Nat} {ok : Bool} (s : State) (hw : Kept q h k ok s) :
    Kept q h k ok (settleKills s) := by
  unfold settleKills
  try dsimp only
  repeat' (first
    | with_reducible assumption | with_reducible apply kept_finishDone | with_reducible apply kept_releaseContext
    | with_reducible refine kept_foldl ?_ ?_ | with_reducible refine kept_ite ?_ ?_ | (intro _) | split | dsimp only)

theorem kept_settleGpu {q : List Instr} {h k : Option Nat} {ok : Bool} (s : State) (hw : Kept q h k ok s) :
    Kept q h k ok (settleGpu s) := by
  unfold settleGpu
  try dsimp only
  repeat' (first
    | with_reducible assumption | with_reducible apply kept_settleKills | with_reducible apply kept_settleWaits
    | with_reducible apply kept_settleGroves | with_reducible refine kept_ite ?_ ?_ | (intro _) | split | dsimp only)

theorem kept_startContextCreate {q : List Instr} {h k : Option Nat} {ok : Bool} (s : State) (f : Flight) (hw : Kept q h k ok s) :
    Kept q h k ok (startContextCreate s f) := by
  unfold startContextCreate
  try dsimp only
  repeat' (first
    | with_reducible assumption | with_reducible apply kept_finishWith | with_reducible apply kept_setCtx
    | with_reducible refine kept_modSr ?_ ?_ | with_reducible apply kept_finishDone
    | with_reducible apply kept_renewSource | with_reducible refine kept_ite ?_ ?_ | (exact fun _ e => e)
    | exact Mem.wf_wrs _ _ _ (by assumption) | exact Mem.wf_wipe _ _ _ (by assumption) | (intro _) | split | dsimp only)

theorem kept_killJobs {q : List Instr} {h k : Option Nat} {ok : Bool} (s : State) (f : Flight) (named : Flight → Bool) (hw : Kept q h k ok s) :
    Kept q h k ok (killJobs s f named) := by
  unfold killJobs
  try dsimp only
  repeat' (first
    | with_reducible assumption | with_reducible apply kept_finishWith | with_reducible apply kept_stopRun
    | with_reducible apply kept_setFlight | with_reducible refine kept_foldl ?_ ?_
    | with_reducible refine kept_ite ?_ ?_ | (intro _) | split | dsimp only)

theorem kept_startContextDestroy {q : List Instr} {h k : Option Nat} {ok : Bool} (s : State) (f : Flight) (hw : Kept q h k ok s) :
    Kept q h k ok (startContextDestroy s f) := by
  unfold startContextDestroy
  try dsimp only
  repeat' (first
    | with_reducible assumption | with_reducible apply kept_killJobs | with_reducible refine kept_ite ?_ ?_ | (intro _)
    | split | dsimp only)

theorem kept_startJobKill {q : List Instr} {h k : Option Nat} {ok : Bool} (s : State) (f : Flight) (hw : Kept q h k ok s) :
    Kept q h k ok (startJobKill s f) := by
  unfold startJobKill
  try dsimp only
  repeat' (first
    | with_reducible assumption | with_reducible apply kept_killJobs | with_reducible refine kept_ite ?_ ?_ | (intro _)
    | split | dsimp only)

theorem kept_commitJobSubmit {q : List Instr} {h k : Option Nat} {ok : Bool} (s : State) (f : Flight) (hw : Kept q h k ok s) :
    Kept q h k ok (commitJobSubmit s f) := by
  unfold commitJobSubmit
  try dsimp only
  repeat' (first
    | with_reducible assumption | with_reducible apply kept_modCtx | with_reducible refine kept_ite ?_ ?_ | (intro _)
    | split | dsimp only)

theorem kept_startShaderLoad {q : List Instr} {h k : Option Nat} {ok : Bool} (s : State) (f : Flight) (hw : Kept q h k ok s) :
    Kept q h k ok (startShaderLoad s f) := by
  unfold startShaderLoad
  try dsimp only
  repeat' (first
    | with_reducible assumption | with_reducible apply kept_await | with_reducible apply kept_modCtx
    | with_reducible apply kept_finishDone | with_reducible refine kept_ite ?_ ?_ | (intro _) | split | dsimp only)

theorem kept_loadShader {q : List Instr} {h k : Option Nat} {ok : Bool} (s : State) (f : Flight) (b : List Byte) (hw : Kept q h k ok s) :
    Kept q h k ok (loadShader s f b) := by
  unfold loadShader
  try dsimp only
  repeat' (first
    | with_reducible assumption | with_reducible apply kept_finish | with_reducible apply kept_setCtx
    | with_reducible apply kept_srPut | with_reducible apply kept_finishDone | with_reducible refine kept_ite ?_ ?_
    | (intro _) | split | dsimp only)

theorem kept_startContextQuery {q : List Instr} {h k : Option Nat} {ok : Bool} (s : State) (f : Flight) (hw : Kept q h k ok s) :
    Kept q h k ok (startContextQuery s f) := by
  unfold startContextQuery
  try dsimp only
  repeat' (first
    | with_reducible assumption | with_reducible apply kept_finishDone | with_reducible apply kept_hostWrite
    | with_reducible refine kept_ite ?_ ?_ | (intro _) | split | dsimp only)

end Sys2Proof.Machine
end

