-- ==== Sys2Proof/Laws/KeptDmaOps.lean ====
section
/-! SUPPORT. What the operations of Machine/DmaOps.lean keep. -/

namespace Sys2Proof.Machine

theorem kept_spaceRead {q : List Instr} {h k : Option Nat} {ok : Bool} (s : State) (t view : Nat) (sp : Space) (a n : Nat) (hw : Kept q h k ok s) :
    Kept q h k ok ((spaceRead s t view sp a n).2) := by
  unfold spaceRead
  try dsimp only
  repeat' (first
    | with_reducible assumption | with_reducible apply kept_noteMoved | with_reducible apply kept_bulkRead
    | with_reducible apply kept_srRead | with_reducible refine kept_ite ?_ ?_ | (intro _) | split | dsimp only)

theorem kept_spacePut {q : List Instr} {h k : Option Nat} {ok : Bool} (s : State) (t view : Nat) (sp : Space) (a : Nat) (l : List (Byte × Bool)) (hw : Kept q h k ok s) :
    Kept q h k ok (spacePut s t view sp a l) := by
  unfold spacePut
  try dsimp only
  repeat' (first
    | with_reducible assumption | with_reducible apply kept_freshBytes | with_reducible apply kept_hostWrite
    | with_reducible apply kept_noteMoved | with_reducible apply kept_bulkPut | with_reducible apply kept_srPut
    | with_reducible refine kept_foldl ?_ ?_ | with_reducible refine kept_foldl_1 ?_ ?_
    | with_reducible refine kept_foldl_2 ?_ ?_ | with_reducible refine kept_foldl_22 ?_ ?_
    | with_reducible refine kept_ite ?_ ?_ | (intro _) | split | dsimp only)

theorem kept_sourceRow {q : List Instr} {h k : Option Nat} {ok : Bool} (s : State) (f : Flight) (r o n : Nat) (hw : Kept q h k ok s) :
    Kept q h k ok ((sourceRow s f r o n).2) := by
  unfold sourceRow
  try dsimp only
  repeat' (first
    | with_reducible assumption | with_reducible apply kept_spaceRead | with_reducible refine kept_ite ?_ ?_ | (intro _)
    | split | dsimp only)

theorem kept_countMoved {q : List Instr} {h k : Option Nat} {ok : Bool} (s : State) (t : Nat) (sp : Space) (write : Bool) (n : Nat) (hw : Kept q h k ok s) :
    Kept q h k ok (countMoved s t sp write n) := by
  unfold countMoved
  try dsimp only
  repeat' (first
    | with_reducible assumption | with_reducible apply kept_countBulk | with_reducible refine kept_modSr ?_ ?_
    | with_reducible refine kept_ite ?_ ?_ | (exact fun _ e => e) | exact Mem.wf_wrs _ _ _ (by assumption)
    | exact Mem.wf_wipe _ _ _ (by assumption) | (intro _) | split | dsimp only)

theorem kept_moveBytes {q : List Instr} {h k : Option Nat} {ok : Bool} (s : State) (f : Flight) (upto : Nat) (hw : Kept q h k ok s) :
    Kept q h k ok ((moveBytes s f upto).1) := by
  unfold moveBytes
  try dsimp only
  repeat' (first
    | with_reducible assumption | with_reducible apply kept_sourceRow | with_reducible apply kept_spacePut
    | with_reducible apply kept_countMoved | with_reducible refine kept_foldl ?_ ?_
    | with_reducible refine kept_foldl_1 ?_ ?_ | with_reducible refine kept_foldl_2 ?_ ?_
    | with_reducible refine kept_foldl_22 ?_ ?_ | with_reducible refine kept_ite ?_ ?_ | (intro _) | split | dsimp only)

theorem kept_writeStatus {q : List Instr} {h k : Option Nat} {ok : Bool} (s : State) (k' : Nat) (d : Descriptor) (hw : Kept q h k ok s) :
    Kept q h k ok (writeStatus s k' d) := by
  unfold writeStatus
  try dsimp only
  repeat' (first
    | with_reducible assumption | with_reducible apply kept_issueRecord | with_reducible refine kept_ite ?_ ?_
    | (intro _) | split | dsimp only)

theorem kept_leaveHalt {q : List Instr} {h k : Option Nat} {ok : Bool} (s : State) (k' : Nat) (hw : Kept q h k ok s) :
    Kept q h k ok (leaveHalt s k') := by
  unfold leaveHalt
  try dsimp only
  repeat' (first
    | with_reducible assumption | with_reducible apply kept_lower | with_reducible apply kept_modChan
    | with_reducible refine kept_ite ?_ ?_ | (intro _) | split | dsimp only)

theorem kept_serveXfer {q : List Instr} {h k : Option Nat} {ok : Bool} (s : State) (wheel : Nat) (hw : Kept q h k ok s) :
    Kept q h k ok (serveXfer s wheel) := by
  unfold serveXfer
  try dsimp only
  repeat' (first
    | with_reducible assumption | with_reducible apply kept_setFlight | with_reducible refine kept_ite ?_ ?_ | (intro _)
    | split | dsimp only)

theorem kept_stopXfer {q : List Instr} {h k : Option Nat} {ok : Bool} (s : State) (f : Flight) (hw : Kept q h k ok s) :
    Kept q h k ok (stopXfer s f) := by
  unfold stopXfer
  try dsimp only
  repeat' (first
    | with_reducible assumption | with_reducible apply kept_freshValue | with_reducible apply kept_moveBytes
    | with_reducible apply kept_setFlight | with_reducible refine kept_ite ?_ ?_ | (intro _) | split | dsimp only)

theorem kept_haltChannel {q : List Instr} {h k : Option Nat} {ok : Bool} (s : State) (f : Flight) (cause : Nat) (write : Bool) (addr moved : Nat) (hw : Kept q h k ok s) :
    Kept q h k ok (haltChannel s f cause write addr moved) := by
  unfold haltChannel
  try dsimp only
  repeat' (first
    | with_reducible assumption | with_reducible apply kept_stopXfer | with_reducible apply kept_moveBytes
    | with_reducible apply kept_setFlight | with_reducible refine kept_mapFlights ?_ ?_
    | with_reducible refine kept_filterFlights ?_ | with_reducible apply kept_modChan
    | with_reducible apply kept_writeStatus | with_reducible apply kept_noteAer | with_reducible apply kept_assert
    | with_reducible apply kept_raise | with_reducible apply kept_withdraw | with_reducible refine kept_foldl ?_ ?_
    | with_reducible refine kept_ite ?_ ?_ | (exact fun _ => rfl) | rfl | exact Eq.symm (by assumption) | (intro _)
    | split | dsimp only)

theorem kept_endXfer {q : List Instr} {h k : Option Nat} {ok : Bool} (s : State) (f : Flight) (v : Verdict) (hw : Kept q h k ok s) :
    Kept q h k ok (endXfer s f v) := by
  unfold endXfer
  try dsimp only
  repeat' (first
    | with_reducible assumption | with_reducible apply kept_writeStatus | with_reducible apply kept_finish
    | with_reducible apply kept_finishDone | with_reducible refine kept_ite ?_ ?_ | (intro _) | split | dsimp only)

theorem kept_endXferAt {q : List Instr} {h k : Option Nat} {ok : Bool} (s : State) (f : Flight) (v : Verdict) (hw : Kept q h k ok s) :
    Kept q h k ok (endXferAt s f v) := by
  unfold endXferAt
  try dsimp only
  repeat' (first
    | with_reducible assumption | with_reducible apply kept_endXfer | with_reducible apply kept_missNote
    | with_reducible refine kept_ite ?_ ?_ | (intro _) | split | dsimp only)

theorem kept_haltBarred {q : List Instr} {h k : Option Nat} {ok : Bool} (s : State) (f : Flight) (hw : Kept q h k ok s) :
    Kept q h k ok (haltBarred s f) := by
  unfold haltBarred
  try dsimp only
  repeat' (first
    | with_reducible assumption | with_reducible apply kept_stopXfer | with_reducible apply kept_haltChannel
    | with_reducible refine kept_ite ?_ ?_ | (intro _) | split | dsimp only)

theorem kept_transferDone {q : List Instr} {h k : Option Nat} {ok : Bool} (fold : State → Nat → Option (List Byte) → Flight → State) (s : State) (f : Flight) (hfold : ∀ (x0 : State) (x1 : Nat) (x2 : Option (List Byte)) (x3 : Flight), Kept q h k ok x0 → Kept q h k ok (fold x0 x1 x2 x3)) (hw : Kept q h k ok s) :
    Kept q h k ok (transferDone fold s f) := by
  unfold transferDone
  try dsimp only
  repeat' (first
    | with_reducible assumption | with_reducible apply kept_haltBarred | with_reducible apply kept_sourceRow
    | with_reducible apply kept_spaceRead | with_reducible apply kept_countMoved | with_reducible apply kept_writeStatus
    | with_reducible apply kept_modChan | with_reducible apply kept_endXferAt | with_reducible apply kept_moveBytes
    | with_reducible apply hfold | with_reducible refine kept_ite ?_ ?_ | (intro _) | split | dsimp only)

theorem kept_markPoisoned {q : List Instr} {h k : Option Nat} {ok : Bool} (s : State) (f : Flight) (ofs len : Nat) (hw : Kept q h k ok s) :
    Kept q h k ok (markPoisoned s f ofs len) := by
  unfold markPoisoned
  try dsimp only
  repeat' (first
    | with_reducible assumption | with_reducible apply kept_setFlight | with_reducible apply kept_noteAer
    | with_reducible refine kept_ite ?_ ?_ | (intro _) | split | dsimp only)

theorem kept_startXfer {q : List Instr} {h k : Option Nat} {ok : Bool} (s : State) (f : Flight) (hw : Kept q h k ok s) :
    Kept q h k ok (startXfer s f) := by
  unfold startXfer
  try dsimp only
  repeat' (first
    | with_reducible assumption | with_reducible apply kept_finishDone | with_reducible apply kept_await
    | with_reducible refine kept_ite ?_ ?_ | (intro _) | split | dsimp only)

theorem kept_startChannelConfig {q : List Instr} {h k : Option Nat} {ok : Bool} (s : State) (f : Flight) (hw : Kept q h k ok s) :
    Kept q h k ok (startChannelConfig s f) := by
  unfold startChannelConfig
  try dsimp only
  repeat' (first
    | with_reducible assumption | with_reducible apply kept_finishDone | with_reducible apply kept_modChan
    | with_reducible refine kept_ite ?_ ?_ | (intro _) | split | dsimp only)

theorem kept_restartChannel {q : List Instr} {h k : Option Nat} {ok : Bool} (s : State) (f : Flight) (hw : Kept q h k ok s) :
    Kept q h k ok (restartChannel s f) := by
  unfold restartChannel
  try dsimp only
  repeat' (first
    | with_reducible assumption | with_reducible apply kept_setFlight | with_reducible apply kept_leaveHalt
    | with_reducible refine kept_ite ?_ ?_ | (intro _) | split | dsimp only)

theorem kept_commitDmaResume {q : List Instr} {h k : Option Nat} {ok : Bool} (s : State) (f : Flight) (hw : Kept q h k ok s) :
    Kept q h k ok (commitDmaResume s f) := by
  unfold commitDmaResume
  try dsimp only
  repeat' (first
    | with_reducible assumption | with_reducible apply kept_restartChannel | with_reducible refine kept_ite ?_ ?_
    | (intro _) | split | dsimp only)

theorem kept_startDmaResume {q : List Instr} {h k : Option Nat} {ok : Bool} (s : State) (f : Flight) (hw : Kept q h k ok s) :
    Kept q h k ok (startDmaResume s f) := by
  unfold startDmaResume
  try dsimp only
  repeat' (first
    | with_reducible assumption | with_reducible apply kept_restartChannel | with_reducible apply kept_await
    | with_reducible apply kept_finishDone | with_reducible refine kept_ite ?_ ?_ | (intro _) | split | dsimp only)

theorem kept_stopEngines {q : List Instr} {h k : Option Nat} {ok : Bool} (s : State) (f : Flight) (hw : Kept q h k ok s) :
    Kept q h k ok (stopEngines s f) := by
  unfold stopEngines
  try dsimp only
  repeat' (first
    | with_reducible assumption | with_reducible apply kept_stopXfer | with_reducible apply kept_leaveHalt
    | with_reducible apply kept_setFlight | with_reducible refine kept_foldl ?_ ?_
    | with_reducible refine kept_ite ?_ ?_ | (intro _) | split | dsimp only)

theorem kept_commitDmaAbort {q : List Instr} {h k : Option Nat} {ok : Bool} (s : State) (f : Flight) (hw : Kept q h k ok s) :
    Kept q h k ok (commitDmaAbort s f) := by
  unfold commitDmaAbort
  try dsimp only
  repeat' (first
    | with_reducible assumption | with_reducible apply kept_stopEngines | with_reducible refine kept_ite ?_ ?_
    | (intro _) | split | dsimp only)

theorem kept_startDmaAbort {q : List Instr} {h k : Option Nat} {ok : Bool} (fold : State → Nat → Option (List Byte) → Flight → State) (s : State) (f : Flight) (hfold : ∀ (x0 : State) (x1 : Nat) (x2 : Option (List Byte)) (x3 : Flight), Kept q h k ok x0 → Kept q h k ok (fold x0 x1 x2 x3)) (hw : Kept q h k ok s) :
    Kept q h k ok (startDmaAbort fold s f) := by
  unfold startDmaAbort
  try dsimp only
  repeat' (first
    | with_reducible assumption | with_reducible apply kept_stopEngines | with_reducible apply kept_endXfer
    | with_reducible apply kept_writeStatus | with_reducible apply kept_finishDone
    | with_reducible refine kept_foldl ?_ ?_ | with_reducible apply hfold | with_reducible refine kept_ite ?_ ?_
    | (intro _) | split | dsimp only)

end Sys2Proof.Machine
end

