-- ==== Sys2Proof/Laws/KeptHeadOps.lean ====
section
/-! SUPPORT. What the operations of Machine/HeadOps.lean keep. -/

namespace Sys2Proof.Machine

theorem kept_applyHeadConfig {q : List Instr} {h k : Option Nat} {ok : Bool} (s : State) (d : Descriptor) (hw : Kept q h k ok s) :
    Kept q h k ok (applyHeadConfig s d) := by
  unfold applyHeadConfig
  try dsimp only
  repeat' (first
    | with_reducible assumption | with_reducible apply kept_modHead | with_reducible refine kept_ite ?_ ?_ | (intro _)
    | split | dsimp only)

theorem kept_beginTraining {q : List Instr} {h k : Option Nat} {ok : Bool} (s : State) (hd' : Nat) (hw : Kept q h k ok s) :
    Kept q h k ok (beginTraining s hd') := by
  unfold beginTraining
  try dsimp only
  repeat' (first
    | with_reducible assumption | with_reducible apply kept_modHead | with_reducible refine kept_ite ?_ ?_ | (intro _)
    | split | dsimp only)

theorem kept_stopHead {q : List Instr} {h k : Option Nat} {ok : Bool} (s : State) (hd' : Nat) (hw : Kept q h k ok s) :
    Kept q h k ok (stopHead s hd') := by
  unfold stopHead
  try dsimp only
  repeat' (first
    | with_reducible assumption | with_reducible apply kept_quietSync | with_reducible apply kept_modHead
    | with_reducible refine kept_ite ?_ ?_ | (intro _) | split | dsimp only)

theorem kept_startHeadEnable {q : List Instr} {h k : Option Nat} {ok : Bool} (s : State) (f : Flight) (hw : Kept q h k ok s) :
    Kept q h k ok (startHeadEnable s f) := by
  unfold startHeadEnable
  try dsimp only
  repeat' (first
    | with_reducible assumption | with_reducible apply kept_modHead | with_reducible apply kept_await
    | with_reducible apply kept_stopHead | with_reducible refine kept_modAu ?_ | with_reducible apply kept_beginTraining
    | with_reducible refine kept_ite ?_ ?_ | (intro _) | split | dsimp only)

theorem kept_startHeadDisable {q : List Instr} {h k : Option Nat} {ok : Bool} (s : State) (f : Flight) (hw : Kept q h k ok s) :
    Kept q h k ok (startHeadDisable s f) := by
  unfold startHeadDisable
  try dsimp only
  repeat' (first
    | with_reducible assumption | with_reducible apply kept_finishDone | with_reducible apply kept_stopHead
    | with_reducible apply kept_await | with_reducible apply kept_modHead | with_reducible refine kept_ite ?_ ?_
    | (intro _) | split | dsimp only)

theorem kept_startHeadUnderrun {q : List Instr} {h k : Option Nat} {ok : Bool} (s : State) (f : Flight) (hw : Kept q h k ok s) :
    Kept q h k ok (startHeadUnderrun s f) := by
  unfold startHeadUnderrun
  try dsimp only
  repeat' (first
    | with_reducible assumption | with_reducible apply kept_finishDone | with_reducible apply kept_modHead
    | with_reducible refine kept_ite ?_ ?_ | (intro _) | split | dsimp only)

theorem kept_applyHeadDsc {q : List Instr} {h k : Option Nat} {ok : Bool} (s : State) (d : Descriptor) (hw : Kept q h k ok s) :
    Kept q h k ok (applyHeadDsc s d) := by
  unfold applyHeadDsc
  try dsimp only
  repeat' (first
    | with_reducible assumption | with_reducible apply kept_modHead | with_reducible refine kept_ite ?_ ?_ | (intro _)
    | split | dsimp only)

theorem kept_startHeadStatus {q : List Instr} {h k : Option Nat} {ok : Bool} (s : State) (f : Flight) (hw : Kept q h k ok s) :
    Kept q h k ok (startHeadStatus s f) := by
  unfold startHeadStatus
  try dsimp only
  repeat' (first
    | with_reducible assumption | with_reducible apply kept_finishDone | with_reducible apply kept_hostWrite
    | with_reducible refine kept_ite ?_ ?_ | (intro _) | split | dsimp only)

theorem kept_restartTraining {q : List Instr} {h k : Option Nat} {ok : Bool} (s : State) (hd' : Nat) (hw : Kept q h k ok s) :
    Kept q h k ok (restartTraining s hd') := by
  unfold restartTraining
  try dsimp only
  repeat' (first
    | with_reducible assumption | with_reducible apply kept_modHead | with_reducible apply kept_beginTraining
    | with_reducible refine kept_ite ?_ ?_ | (intro _) | split | dsimp only)

theorem kept_startHeadLink {q : List Instr} {h k : Option Nat} {ok : Bool} (s : State) (f : Flight) (hw : Kept q h k ok s) :
    Kept q h k ok (startHeadLink s f) := by
  unfold startHeadLink
  try dsimp only
  repeat' (first
    | with_reducible assumption | with_reducible apply kept_restartTraining | with_reducible apply kept_await
    | with_reducible refine kept_ite ?_ ?_ | (intro _) | split | dsimp only)

theorem kept_commitLayerMove {q : List Instr} {h k : Option Nat} {ok : Bool} (s : State) (f : Flight) (hw : Kept q h k ok s) :
    Kept q h k ok (commitLayerMove s f) := by
  unfold commitLayerMove
  try dsimp only
  repeat' (first
    | with_reducible assumption | with_reducible apply kept_reserveRing | with_reducible refine kept_modCharges ?_
    | with_reducible refine kept_ite ?_ ?_ | (intro _) | split | dsimp only)

end Sys2Proof.Machine
end

