-- ==== Sys2Proof/Laws/KeptLedgerOps.lean ====
section
/-! SUPPORT. What the operations of Machine/LedgerOps.lean keep. -/

namespace Sys2Proof.Machine

theorem kept_endDegraded {q : List Instr} {h k : Option Nat} {ok : Bool} (s : State) (hw : Kept q h k ok s) :
    Kept q h k ok (endDegraded s) := by
  unfold endDegraded
  try dsimp only
  repeat' (first
    | with_reducible assumption | with_reducible apply kept_raise | with_reducible refine kept_modLg ?_ ?_
    | with_reducible refine kept_foldl ?_ ?_ | with_reducible refine kept_ite ?_ ?_ | (exact fun _ _ e => e) | (intro _)
    | split | dsimp only)

theorem kept_logBit {q : List Instr} {h k : Option Nat} {ok : Bool} (s : State) (b : Nat) (hw : Kept q h k ok s) :
    Kept q h k ok (logBit s b) := by
  unfold logBit
  try dsimp only
  repeat' (first
    | with_reducible assumption | with_reducible refine kept_modLg ?_ ?_ | with_reducible apply kept_setLgSrc
    | with_reducible refine kept_ite ?_ ?_ | (exact fun _ _ e => e) | (intro _) | split | dsimp only)

theorem kept_sampleLedger {q : List Instr} {h k : Option Nat} {ok : Bool} (s : State) (hw : Kept q h k ok s) :
    Kept q h k ok (sampleLedger s) := by
  unfold sampleLedger
  try dsimp only
  repeat' (first
    | with_reducible assumption | with_reducible apply kept_logBit | with_reducible refine kept_foldl ?_ ?_
    | with_reducible refine kept_ite ?_ ?_ | (intro _) | split | dsimp only)

theorem kept_epochSample {q : List Instr} {h k : Option Nat} {ok : Bool} (s : State) (sampled : Bool) (hw : Kept q h k ok s) :
    Kept q h k ok (epochSample s sampled) := by
  unfold epochSample
  try dsimp only
  repeat' (first
    | with_reducible assumption | with_reducible apply kept_sampleLedger | with_reducible refine kept_modLg ?_ ?_
    | with_reducible apply kept_assert | with_reducible refine kept_ite ?_ ?_ | (exact fun _ _ e => e) | (intro _)
    | split | dsimp only)

theorem kept_clearBit {q : List Instr} {h k : Option Nat} {ok : Bool} (s : State) (b : Nat) (hw : Kept q h k ok s) :
    Kept q h k ok (clearBit s b) := by
  unfold clearBit
  try dsimp only
  repeat' (first
    | with_reducible assumption | with_reducible apply kept_setLgSrc | with_reducible apply kept_assert
    | with_reducible refine kept_ite ?_ ?_ | (intro _) | split | dsimp only)

theorem kept_clearLedger {q : List Instr} {h k : Option Nat} {ok : Bool} (s : State) (mask : Nat) (hw : Kept q h k ok s) :
    Kept q h k ok ((clearLedger s mask).2) := by
  unfold clearLedger
  try dsimp only
  repeat' (first
    | with_reducible assumption | with_reducible apply kept_sampleLedger | with_reducible apply kept_endDegraded
    | with_reducible apply kept_clearBit | with_reducible refine kept_foldl ?_ ?_
    | with_reducible refine kept_foldl_1 ?_ ?_ | with_reducible refine kept_foldl_2 ?_ ?_
    | with_reducible refine kept_foldl_22 ?_ ?_ | with_reducible refine kept_ite ?_ ?_ | (intro _) | split | dsimp only)

theorem kept_forceHaltNow {q : List Instr} {h k : Option Nat} {ok : Bool} (s : State) (hw : Kept q h k ok s) :
    Kept q h k ok (forceHaltNow s) := by
  unfold forceHaltNow
  try dsimp only
  repeat' (first
    | with_reducible assumption | with_reducible apply kept_assert | with_reducible refine kept_modLg ?_ ?_
    | with_reducible refine kept_ite ?_ ?_ | (exact fun _ _ e => e) | (intro _) | split | dsimp only)

theorem kept_writeClass {q : List Instr} {h k : Option Nat} {ok : Bool} (s : State) (i v : Nat) (hw : Kept q h k ok s) :
    Kept q h k ok (writeClass s i v) := by
  unfold writeClass
  try dsimp only
  repeat' (first
    | with_reducible assumption | with_reducible refine kept_modLg ?_ ?_ | with_reducible refine kept_ite ?_ ?_
    | (exact fun _ _ e => e) | (intro _) | split | dsimp only)

theorem kept_ledgerShared {q : List Instr} {h k : Option Nat} {ok : Bool} (s : State) (ofs v : Nat) (hw : Kept q h k ok s) :
    Kept q h k ok (ledgerShared s ofs v) := by
  unfold ledgerShared
  try dsimp only
  repeat' (first
    | with_reducible assumption | with_reducible apply kept_clearLedger | with_reducible refine kept_modLg ?_ ?_
    | with_reducible refine kept_ite ?_ ?_ | (exact fun _ _ e => e) | (intro _) | split | dsimp only)

theorem kept_ledgerWrite {q : List Instr} {h k : Option Nat} {ok : Bool} (s : State) (ofs v : Nat) (hw : Kept q h k ok s) :
    Kept q h k ok (ledgerWrite s ofs v) := by
  unfold ledgerWrite
  try dsimp only
  repeat' (first
    | with_reducible assumption | with_reducible apply kept_writeClass | with_reducible refine kept_modLg ?_ ?_
    | with_reducible apply kept_ledgerShared | with_reducible refine kept_ite ?_ ?_ | (exact fun _ _ e => e) | (intro _)
    | split | dsimp only)

theorem kept_supervisorWrite {q : List Instr} {h k : Option Nat} {ok : Bool} (s : State) (ofs v : Nat) (hw : Kept q h k ok s) :
    Kept q h k ok (supervisorWrite s ofs v) := by
  unfold supervisorWrite
  try dsimp only
  repeat' (first
    | with_reducible assumption | with_reducible apply kept_forceHaltNow | with_reducible apply kept_ledgerShared
    | with_reducible refine kept_ite ?_ ?_ | (intro _) | split | dsimp only)

theorem kept_startLedgerRead {q : List Instr} {h k : Option Nat} {ok : Bool} (s : State) (f : Flight) (hw : Kept q h k ok s) :
    Kept q h k ok (startLedgerRead s f) := by
  unfold startLedgerRead
  try dsimp only
  repeat' (first
    | with_reducible assumption | with_reducible apply kept_finishDone | with_reducible apply kept_hostWrite
    | with_reducible refine kept_ite ?_ ?_ | (intro _) | split | dsimp only)

theorem kept_startFaultLogRead {q : List Instr} {h k : Option Nat} {ok : Bool} (s : State) (f : Flight) (hw : Kept q h k ok s) :
    Kept q h k ok (startFaultLogRead s f) := by
  unfold startFaultLogRead
  try dsimp only
  repeat' (first
    | with_reducible assumption | with_reducible apply kept_finishDone | with_reducible apply kept_hostWrite
    | with_reducible refine kept_ite ?_ ?_ | (intro _) | split | dsimp only)

theorem kept_startLedgerClear {q : List Instr} {h k : Option Nat} {ok : Bool} (s : State) (f : Flight) (hw : Kept q h k ok s) :
    Kept q h k ok (startLedgerClear s f) := by
  unfold startLedgerClear
  try dsimp only
  repeat' (first
    | with_reducible assumption | with_reducible apply kept_clearLedger | with_reducible apply kept_finishDone
    | with_reducible refine kept_ite ?_ ?_ | (intro _) | split | dsimp only)

theorem kept_startFaultInject {q : List Instr} {h k : Option Nat} {ok : Bool} (s : State) (f : Flight) (hw : Kept q h k ok s) :
    Kept q h k ok (startFaultInject s f) := by
  unfold startFaultInject
  try dsimp only
  repeat' (first
    | with_reducible assumption | with_reducible apply kept_assert | with_reducible apply kept_finishDone
    | with_reducible refine kept_ite ?_ ?_ | (intro _) | split | dsimp only)

end Sys2Proof.Machine
end

