-- ==== Sys2Proof/Laws/KeptHapticOps.lean ====
section
/-! SUPPORT. What the operations of Machine/HapticOps.lean keep. -/

namespace Sys2Proof.Machine

theorem kept_modHap {q : List Instr} {h k : Option Nat} {ok : Bool} (s : State) (c : Nat) (f : HapChan → HapChan) (hw : Kept q h k ok s) :
    Kept q h k ok (modHap s c f) := by
  unfold modHap
  try dsimp only
  repeat' (first
    | with_reducible assumption | with_reducible refine kept_modHaptic ?_ | with_reducible refine kept_ite ?_ ?_
    | (intro _) | split | dsimp only)

theorem kept_beginHalf {q : List Instr} {h k : Option Nat} {ok : Bool} (s : State) (c : Nat) (hw : Kept q h k ok s) :
    Kept q h k ok (beginHalf s c) := by
  unfold beginHalf
  try dsimp only
  repeat' (first
    | with_reducible assumption | with_reducible apply kept_modHap | with_reducible refine kept_ite ?_ ?_ | (intro _)
    | split | dsimp only)

theorem kept_beginSegment {q : List Instr} {h k : Option Nat} {ok : Bool} (s : State) (c : Nat) (quiet : Bool) (hw : Kept q h k ok s) :
    Kept q h k ok (beginSegment s c quiet) := by
  unfold beginSegment
  try dsimp only
  repeat' (first
    | with_reducible assumption | with_reducible apply kept_modHap | with_reducible apply kept_beginHalf
    | with_reducible refine kept_ite ?_ ?_ | (intro _) | split | dsimp only)

theorem kept_beginEffect {q : List Instr} {h k : Option Nat} {ok : Bool} (s : State) (c n : Nat) (quiet : Bool) (hw : Kept q h k ok s) :
    Kept q h k ok (beginEffect s c n quiet) := by
  unfold beginEffect
  try dsimp only
  repeat' (first
    | with_reducible assumption | with_reducible apply kept_modHap | with_reducible apply kept_beginSegment
    | with_reducible refine kept_ite ?_ ?_ | (intro _) | split | dsimp only)

theorem kept_dropStart {q : List Instr} {h k : Option Nat} {ok : Bool} (s : State) (c : Nat) (hw : Kept q h k ok s) :
    Kept q h k ok (dropStart s c) := by
  unfold dropStart
  try dsimp only
  repeat' (first
    | with_reducible assumption | with_reducible apply kept_raise | with_reducible apply kept_modHap
    | with_reducible refine kept_ite ?_ ?_ | (intro _) | split | dsimp only)

theorem kept_takeTurn {q : List Instr} {h k : Option Nat} {ok : Bool} (s : State) (c rank : Nat) {t : State} (e : takeTurn s c rank = some t)
    (hw : Kept q h k ok s) : Kept q h k ok t := by
  unfold takeTurn at e
  dsimp only at e
  split at e
  · split at e
    · exact Option.some.inj e ▸ kept_modHap _ _ _ hw
    · split at e
      · exact Option.some.inj e ▸ kept_dropStart _ _ (kept_modHap _ _ _ hw)
      · exact absurd e (by simp)
  · exact Option.some.inj e ▸ kept_modHap _ _ _ hw

theorem kept_startEffect {q : List Instr} {h k : Option Nat} {ok : Bool} (s : State) (c n rank : Nat) (hw : Kept q h k ok s) :
    Kept q h k ok (startEffect s c n rank).1 := by
  unfold startEffect
  dsimp only
  split
  · exact kept_dropStart _ _ hw
  · split
    · exact kept_dropStart _ _ hw
    · rename_i e
      have w := kept_modHap _ c (fun v => { v with starts := min 0xFFFFFFFF (v.starts + 1) }) (kept_takeTurn _ _ _ e hw)
      split
      · exact kept_modHap _ _ _ w
      · exact kept_beginEffect _ _ _ _ w

theorem kept_beginBrake {q : List Instr} {h k : Option Nat} {ok : Bool} (s : State) (c : Nat) (hw : Kept q h k ok s) :
    Kept q h k ok (beginBrake s c) := by
  unfold beginBrake
  try dsimp only
  repeat' (first
    | with_reducible assumption | with_reducible apply kept_modHap | with_reducible refine kept_ite ?_ ?_ | (intro _)
    | split | dsimp only)

theorem kept_stopEffect {q : List Instr} {h k : Option Nat} {ok : Bool} (s : State) (c : Nat) (hw : Kept q h k ok s) :
    Kept q h k ok (stopEffect s c) := by
  unfold stopEffect
  try dsimp only
  repeat' (first
    | with_reducible assumption | with_reducible apply kept_beginBrake | with_reducible apply kept_modHap
    | with_reducible refine kept_ite ?_ ?_ | (intro _) | split | dsimp only)

theorem kept_hapFault {q : List Instr} {h k : Option Nat} {ok : Bool} (s : State) (c cause : Nat) (hw : Kept q h k ok s) :
    Kept q h k ok (hapFault s c cause) := by
  unfold hapFault
  try dsimp only
  repeat' (first
    | with_reducible assumption | with_reducible apply kept_modHap | with_reducible apply kept_assert
    | with_reducible apply kept_raise | with_reducible refine kept_ite ?_ ?_ | (intro _) | split | dsimp only)

theorem kept_cutEffects {q : List Instr} {h k : Option Nat} {ok : Bool} (s : State) (hw : Kept q h k ok s) :
    Kept q h k ok (cutEffects s) := by
  unfold cutEffects
  try dsimp only
  repeat' (first
    | with_reducible assumption | with_reducible apply kept_modHap | with_reducible refine kept_foldl ?_ ?_
    | with_reducible refine kept_ite ?_ ?_ | (intro _) | split | dsimp only)

theorem kept_vhapFell {q : List Instr} {h k : Option Nat} {ok : Bool} (s : State) (mv : Nat) (hw : Kept q h k ok s) :
    Kept q h k ok (vhapFell s mv) := by
  unfold vhapFell
  try dsimp only
  repeat' (first
    | with_reducible assumption | with_reducible refine kept_modHaptic ?_ | with_reducible apply kept_raise
    | with_reducible apply kept_cutEffects | with_reducible refine kept_ite ?_ ?_ | (intro _) | split | dsimp only)

theorem kept_vhapRose {q : List Instr} {h k : Option Nat} {ok : Bool} (s : State) (mv : Nat) (hw : Kept q h k ok s) :
    Kept q h k ok (vhapRose s mv) := by
  unfold vhapRose
  try dsimp only
  repeat' (first
    | with_reducible assumption | with_reducible refine kept_modHaptic ?_ | with_reducible refine kept_ite ?_ ?_
    | (intro _) | split | dsimp only)

theorem kept_crossZero {q : List Instr} {h k : Option Nat} {ok : Bool} (s : State) (c : Nat) (m : Option Nat) (bemf ma : Nat) (hw : Kept q h k ok s) :
    Kept q h k ok (crossZero s c m bemf ma) := by
  unfold crossZero
  try dsimp only
  repeat' (first
    | with_reducible assumption | with_reducible apply kept_modHap | with_reducible apply kept_hapFault
    | with_reducible apply kept_beginEffect | with_reducible apply kept_beginHalf | with_reducible refine kept_ite ?_ ?_
    | (intro _) | split | dsimp only)

theorem kept_endSegment {q : List Instr} {h k : Option Nat} {ok : Bool} (s : State) (c : Nat) (hw : Kept q h k ok s) :
    Kept q h k ok (endSegment s c) := by
  unfold endSegment
  try dsimp only
  repeat' (first
    | with_reducible assumption | with_reducible apply kept_beginBrake | with_reducible apply kept_modHap
    | with_reducible refine kept_ite ?_ ?_ | (intro _) | split | dsimp only)

theorem kept_endBrake {q : List Instr} {h k : Option Nat} {ok : Bool} (s : State) (c : Nat) (hw : Kept q h k ok s) :
    Kept q h k ok (endBrake s c) := by
  unfold endBrake
  try dsimp only
  repeat' (first
    | with_reducible assumption | with_reducible apply kept_modHap | with_reducible refine kept_ite ?_ ?_ | (intro _)
    | split | dsimp only)

theorem kept_riseSegment {q : List Instr} {h k : Option Nat} {ok : Bool} (s : State) (c : Nat) (hw : Kept q h k ok s) :
    Kept q h k ok (riseSegment s c) := by
  unfold riseSegment
  try dsimp only
  repeat' (first
    | with_reducible assumption | with_reducible apply kept_beginSegment | with_reducible refine kept_ite ?_ ?_
    | (intro _) | split | dsimp only)

theorem kept_trigEdge {q : List Instr} {h k : Option Nat} {ok : Bool} (s : State) (c : Nat) (rising : Bool) (hw : Kept q h k ok s) :
    Kept q h k ok (trigEdge s c rising) := by
  unfold trigEdge
  try dsimp only
  repeat' (first
    | with_reducible assumption | with_reducible apply kept_modHap | with_reducible refine kept_ite ?_ ?_ | (intro _)
    | split | dsimp only)

theorem kept_triggerEffect {q : List Instr} {h k : Option Nat} {ok : Bool} (s : State) (c n rank : Nat) (hw : Kept q h k ok s) :
    Kept q h k ok (triggerEffect s c n rank) := by
  unfold triggerEffect
  try dsimp only
  repeat' (first
    | with_reducible assumption | with_reducible apply kept_dropStart | with_reducible apply kept_startEffect
    | with_reducible refine kept_ite ?_ ?_ | (intro _) | split | dsimp only)

theorem kept_acceptTrigger {q : List Instr} {h k : Option Nat} {ok : Bool} (s : State) (c : Nat) (hw : Kept q h k ok s) :
    Kept q h k ok (acceptTrigger s c) := by
  unfold acceptTrigger
  try dsimp only
  repeat' (first
    | with_reducible assumption | with_reducible apply kept_modHap | with_reducible apply kept_triggerEffect
    | with_reducible refine kept_ite ?_ ?_ | (intro _) | split | dsimp only)

theorem kept_configureHaptic {q : List Instr} {h k : Option Nat} {ok : Bool} (s : State) (c : Nat) (d : Descriptor) (hw : Kept q h k ok s) :
    Kept q h k ok (configureHaptic s c d) := by
  unfold configureHaptic
  try dsimp only
  repeat' (first
    | with_reducible assumption | with_reducible apply kept_modHap | with_reducible refine kept_ite ?_ ?_ | (intro _)
    | split | dsimp only)

theorem kept_startHapticConfig {q : List Instr} {h k : Option Nat} {ok : Bool} (s : State) (f : Flight) (hw : Kept q h k ok s) :
    Kept q h k ok (startHapticConfig s f) := by
  unfold startHapticConfig
  try dsimp only
  repeat' (first
    | with_reducible assumption | with_reducible apply kept_finishDone | with_reducible apply kept_configureHaptic
    | with_reducible refine kept_ite ?_ ?_ | (intro _) | split | dsimp only)

theorem kept_performHaptic {q : List Instr} {h k : Option Nat} {ok : Bool} (s : State) (f : Flight) (hw : Kept q h k ok s) :
    Kept q h k ok (performHaptic s f) := by
  unfold performHaptic
  try dsimp only
  repeat' (first
    | with_reducible assumption | with_reducible apply kept_finish | with_reducible apply kept_missNote
    | with_reducible apply kept_finishDone | with_reducible apply kept_startEffect
    | refine kept_takeTurn _ _ _ (by assumption) ?_ | with_reducible apply kept_stopEffect
    | with_reducible apply kept_dropStart | with_reducible refine kept_ite ?_ ?_ | (intro _) | split | dsimp only)

theorem kept_startHapticTimed {q : List Instr} {h k : Option Nat} {ok : Bool} (s : State) (f : Flight) (hw : Kept q h k ok s) :
    Kept q h k ok (startHapticTimed s f) := by
  unfold startHapticTimed
  try dsimp only
  repeat' (first
    | with_reducible assumption | with_reducible refine kept_mapFlights ?_ ?_
    | with_reducible refine kept_filterFlights ?_ | with_reducible apply kept_performHaptic
    | with_reducible apply kept_await | with_reducible refine kept_ite ?_ ?_ | (exact fun _ => rfl) | rfl
    | exact Eq.symm (by assumption) | (intro _) | split | dsimp only)

theorem kept_startTriggerMap {q : List Instr} {h k : Option Nat} {ok : Bool} (s : State) (f : Flight) (hw : Kept q h k ok s) :
    Kept q h k ok (startTriggerMap s f) := by
  unfold startTriggerMap
  try dsimp only
  repeat' (first
    | with_reducible assumption | with_reducible apply kept_finishDone | with_reducible apply kept_modHap
    | with_reducible refine kept_ite ?_ ?_ | (intro _) | split | dsimp only)

theorem kept_startHapticStatus {q : List Instr} {h k : Option Nat} {ok : Bool} (s : State) (f : Flight) (hw : Kept q h k ok s) :
    Kept q h k ok (startHapticStatus s f) := by
  unfold startHapticStatus
  try dsimp only
  repeat' (first
    | with_reducible assumption | with_reducible apply kept_finishDone | with_reducible apply kept_hostWrite
    | with_reducible refine kept_ite ?_ ?_ | (intro _) | split | dsimp only)

end Sys2Proof.Machine
end

