-- ==== Sys2Proof/Laws/KeptTouchOps.lean ====
section
/-! SUPPORT. What the operations of Machine/TouchOps.lean keep. -/

namespace Sys2Proof.Machine

theorem kept_modPort {q : List Instr} {h k : Option Nat} {ok : Bool} (s : State) (p : Nat) (f : TouchPort → TouchPort) (hw : Kept q h k ok s) :
    Kept q h k ok (modPort s p f) := by
  unfold modPort
  try dsimp only
  repeat' (first
    | with_reducible assumption | with_reducible refine kept_modTouch ?_ | with_reducible refine kept_ite ?_ ?_
    | (intro _) | split | dsimp only)

theorem kept_countTicks {q : List Instr} {h k : Option Nat} {ok : Bool} (s : State) (hw : Kept q h k ok s) :
    Kept q h k ok (countTicks s) := by
  unfold countTicks
  try dsimp only
  repeat' (first
    | with_reducible assumption | with_reducible apply kept_modPort | with_reducible refine kept_foldl ?_ ?_
    | with_reducible refine kept_ite ?_ ?_ | (intro _) | split | dsimp only)

theorem kept_beginScan {q : List Instr} {h k : Option Nat} {ok : Bool} (s : State) (p : Nat) (hw : Kept q h k ok s) :
    Kept q h k ok (beginScan s p) := by
  unfold beginScan
  try dsimp only
  repeat' (first
    | with_reducible assumption | with_reducible apply kept_raise | with_reducible apply kept_modPort
    | with_reducible refine kept_ite ?_ ?_ | (intro _) | split | dsimp only)

theorem kept_finishSave {q : List Instr} {h k : Option Nat} {ok : Bool} (s : State) (f : Flight) (hw : Kept q h k ok s) :
    Kept q h k ok (finishSave s f) := by
  unfold finishSave
  try dsimp only
  repeat' (first
    | with_reducible assumption | with_reducible apply kept_finishDone | with_reducible apply kept_hostWrite
    | with_reducible refine kept_ite ?_ ?_ | (intro _) | split | dsimp only)

theorem kept_captureScan {q : List Instr} {h k : Option Nat} {ok : Bool} (s : State) (p : Nat) (c : Scan) (hw : Kept q h k ok s) :
    Kept q h k ok (captureScan s p c) := by
  unfold captureScan
  try dsimp only
  repeat' (first
    | with_reducible assumption | with_reducible apply kept_modPort | with_reducible apply kept_finishSave
    | with_reducible refine kept_foldl ?_ ?_ | with_reducible refine kept_ite ?_ ?_ | (intro _) | split | dsimp only)

theorem kept_endScan {q : List Instr} {h k : Option Nat} {ok : Bool} (s : State) (p last : Nat) (c : Scan) (hw : Kept q h k ok s) :
    Kept q h k ok (endScan s p last c) := by
  unfold endScan
  try dsimp only
  repeat' (first
    | with_reducible assumption | with_reducible apply kept_modPort | with_reducible apply kept_noteMoved
    | with_reducible apply kept_finishDone | with_reducible refine kept_ite ?_ ?_ | (intro _) | split | dsimp only)

theorem kept_endStep {q : List Instr} {h k : Option Nat} {ok : Bool} (s : State) (p first last : Nat) (iq : List (Int × Int)) (hw : Kept q h k ok s) :
    Kept q h k ok (endStep s p first last iq) := by
  unfold endStep
  try dsimp only
  repeat' (first
    | with_reducible assumption | with_reducible apply kept_modPort | with_reducible apply kept_endScan
    | with_reducible refine kept_foldl ?_ ?_ | with_reducible refine kept_foldl_1 ?_ ?_
    | with_reducible refine kept_foldl_2 ?_ ?_ | with_reducible refine kept_foldl_22 ?_ ?_
    | with_reducible refine kept_ite ?_ ?_ | (intro _) | split | dsimp only)

theorem kept_stopTx {q : List Instr} {h k : Option Nat} {ok : Bool} (s : State) (p tx : Nat) (hw : Kept q h k ok s) :
    Kept q h k ok (stopTx s p tx) := by
  unfold stopTx
  try dsimp only
  repeat' (first
    | with_reducible assumption | with_reducible apply kept_assert | with_reducible apply kept_raise
    | with_reducible apply kept_modPort | with_reducible refine kept_ite ?_ ?_ | (intro _) | split | dsimp only)

theorem kept_abortScans {q : List Instr} {h k : Option Nat} {ok : Bool} (s : State) (hw : Kept q h k ok s) :
    Kept q h k ok (abortScans s) := by
  unfold abortScans
  try dsimp only
  repeat' (first
    | with_reducible assumption | with_reducible apply kept_raise | with_reducible apply kept_modPort
    | with_reducible refine kept_foldl ?_ ?_ | with_reducible refine kept_ite ?_ ?_ | (intro _) | split | dsimp only)

theorem kept_endSelftest {q : List Instr} {h k : Option Nat} {ok : Bool} (s : State) (p : Nat) (gnd sup next : List Nat) (opens : List Int) (hw : Kept q h k ok s) :
    Kept q h k ok (endSelftest s p gnd sup next opens) := by
  unfold endSelftest
  try dsimp only
  repeat' (first
    | with_reducible assumption | with_reducible apply kept_modPort | with_reducible apply kept_finishDone
    | with_reducible apply kept_hostWrite | with_reducible refine kept_ite ?_ ?_ | (intro _) | split | dsimp only)

theorem kept_startTouchPortConfig {q : List Instr} {h k : Option Nat} {ok : Bool} (s : State) (f : Flight) (hw : Kept q h k ok s) :
    Kept q h k ok (startTouchPortConfig s f) := by
  unfold startTouchPortConfig
  try dsimp only
  repeat' (first
    | with_reducible assumption | with_reducible apply kept_finishDone | with_reducible apply kept_modPort
    | with_reducible refine kept_ite ?_ ?_ | (intro _) | split | dsimp only)

theorem kept_startScanConfig {q : List Instr} {h k : Option Nat} {ok : Bool} (s : State) (f : Flight) (hw : Kept q h k ok s) :
    Kept q h k ok (startScanConfig s f) := by
  unfold startScanConfig
  try dsimp only
  repeat' (first
    | with_reducible assumption | with_reducible apply kept_await | with_reducible apply kept_finishDone
    | with_reducible apply kept_modPort | with_reducible refine kept_ite ?_ ?_ | (intro _) | split | dsimp only)

theorem kept_startBaselineLoad {q : List Instr} {h k : Option Nat} {ok : Bool} (s : State) (f : Flight) (hw : Kept q h k ok s) :
    Kept q h k ok (startBaselineLoad s f) := by
  unfold startBaselineLoad
  try dsimp only
  repeat' (first
    | with_reducible assumption | with_reducible apply kept_finishDone | with_reducible apply kept_setFlight
    | with_reducible apply kept_modPort | with_reducible refine kept_ite ?_ ?_ | (intro _) | split | dsimp only)

theorem kept_startBaselineSave {q : List Instr} {h k : Option Nat} {ok : Bool} (s : State) (f : Flight) (hw : Kept q h k ok s) :
    Kept q h k ok (startBaselineSave s f) := by
  unfold startBaselineSave
  try dsimp only
  repeat' (first
    | with_reducible assumption | with_reducible apply kept_await | with_reducible apply kept_finishSave
    | with_reducible refine kept_ite ?_ ?_ | (intro _) | split | dsimp only)

theorem kept_startSelftest {q : List Instr} {h k : Option Nat} {ok : Bool} (s : State) (f : Flight) (hw : Kept q h k ok s) :
    Kept q h k ok (startSelftest s f) := by
  unfold startSelftest
  try dsimp only
  repeat' (first
    | with_reducible assumption | with_reducible apply kept_await | with_reducible apply kept_modPort
    | with_reducible refine kept_ite ?_ ?_ | (intro _) | split | dsimp only)

theorem kept_startScan {q : List Instr} {h k : Option Nat} {ok : Bool} (calibrate keys : State → Flight → State) (s : State) (p : Nat) (hcalibrate : ∀ (x0 : State) (x1 : Flight), Kept q h k ok x0 → Kept q h k ok (calibrate x0 x1)) (hkeys : ∀ (x0 : State) (x1 : Flight), Kept q h k ok x0 → Kept q h k ok (keys x0 x1)) (hw : Kept q h k ok s) :
    Kept q h k ok (startScan calibrate keys s p) := by
  unfold startScan
  try dsimp only
  repeat' (first
    | with_reducible assumption | with_reducible apply kept_modPort | with_reducible apply kept_raise
    | with_reducible apply kept_finishDone | with_reducible apply kept_beginScan
    | with_reducible refine kept_foldl ?_ ?_ | with_reducible apply hcalibrate | with_reducible apply hkeys
    | with_reducible refine kept_ite ?_ ?_ | (intro _) | split | dsimp only)

end Sys2Proof.Machine
end

