-- ==== Sys2Proof/Laws/KeptWardenOps.lean ====
section
/-! SUPPORT. What the operations of Machine/WardenOps.lean keep. -/

namespace Sys2Proof.Machine

theorem kept_setApplet {q : List Instr} {h k : Option Nat} {ok : Bool} (s : State) (n : Nat) (v : Applet) (hw : Kept q h k ok s) :
    Kept q h k ok (setApplet s n v) := by
  unfold setApplet
  try dsimp only
  repeat' (first
    | with_reducible assumption | with_reducible refine kept_modWd ?_ | with_reducible refine kept_ite ?_ ?_ | (intro _)
    | split | dsimp only)

theorem kept_zeroiseSecure {q : List Instr} {h k : Option Nat} {ok : Bool} (s : State) (shelves plots : List Nat) (hw : Kept q h k ok s) :
    Kept q h k ok (zeroiseSecure s shelves plots) := by
  unfold zeroiseSecure
  try dsimp only
  repeat' (first
    | with_reducible assumption | with_reducible apply kept_zeroiseShelf | with_reducible apply kept_zeroisePlot
    | with_reducible refine kept_foldl ?_ ?_ | with_reducible refine kept_ite ?_ ?_ | (intro _) | split | dsimp only)

theorem kept_measurementRecord {q : List Instr} {h k : Option Nat} {ok : Bool} (s : State) (guest : Bool) (nonce : List Byte)
    (hw : Kept q h k ok s) : Kept q h k ok (measurementRecord s guest nonce).2 := by
  unfold measurementRecord
  exact kept_freshBytes s 96 hw

theorem kept_startMeasurements {q : List Instr} {h k : Option Nat} {ok : Bool} (s : State) (f : Flight) (hw : Kept q h k ok s) :
    Kept q h k ok (startMeasurements s f) := by
  unfold startMeasurements
  try dsimp only
  repeat' (first
    | with_reducible assumption | with_reducible apply kept_await | with_reducible refine kept_ite ?_ ?_ | (intro _)
    | split | dsimp only)

theorem kept_endMeasurements {q : List Instr} {h k : Option Nat} {ok : Bool} (s : State) (f : Flight) (hw : Kept q h k ok s) :
    Kept q h k ok (endMeasurements s f) := by
  unfold endMeasurements
  try dsimp only
  repeat' (first
    | with_reducible assumption | with_reducible apply kept_measurementRecord | with_reducible apply kept_finishDone
    | with_reducible apply kept_hostWrite | with_reducible refine kept_ite ?_ ?_ | (intro _) | split | dsimp only)

theorem kept_startAppletLoad {q : List Instr} {h k : Option Nat} {ok : Bool} (s : State) (f : Flight) (hw : Kept q h k ok s) :
    Kept q h k ok (startAppletLoad s f) := by
  unfold startAppletLoad
  try dsimp only
  repeat' (first
    | with_reducible assumption | with_reducible apply kept_await | with_reducible refine kept_ite ?_ ?_ | (intro _)
    | split | dsimp only)

theorem kept_emptyApplet {q : List Instr} {h k : Option Nat} {ok : Bool} (s : State) (n : Nat) (hw : Kept q h k ok s) :
    Kept q h k ok (emptyApplet s n) := by
  unfold emptyApplet
  try dsimp only
  repeat' (first
    | with_reducible assumption | with_reducible apply kept_setApplet | with_reducible apply kept_zeroiseSecure
    | with_reducible refine kept_ite ?_ ?_ | (intro _) | split | dsimp only)

theorem kept_placeApplet {q : List Instr} {h k : Option Nat} {ok : Bool} (s : State) (n : Nat) (b : List Byte) (addr len : Nat) (hw : Kept q h k ok s) :
    Kept q h k ok (placeApplet s n b addr len) := by
  unfold placeApplet
  try dsimp only
  repeat' (first
    | with_reducible assumption | with_reducible apply kept_emptyApplet | with_reducible apply kept_setApplet
    | with_reducible refine kept_ite ?_ ?_ | (intro _) | split | dsimp only)

theorem kept_endAppletLoad {q : List Instr} {h k : Option Nat} {ok : Bool} (s : State) (f : Flight) (good : Bool) (hw : Kept q h k ok s) :
    Kept q h k ok (endAppletLoad s f good) := by
  unfold endAppletLoad
  try dsimp only
  repeat' (first
    | with_reducible assumption | with_reducible apply kept_finishWith | with_reducible apply kept_finishDone
    | with_reducible apply kept_emptyApplet | with_reducible apply kept_finish | with_reducible apply kept_placeApplet
    | with_reducible refine kept_ite ?_ ?_ | (intro _) | split | dsimp only)

theorem kept_startAppletStart {q : List Instr} {h k : Option Nat} {ok : Bool} (s : State) (f : Flight) (hw : Kept q h k ok s) :
    Kept q h k ok (startAppletStart s f) := by
  unfold startAppletStart
  try dsimp only
  repeat' (first
    | with_reducible assumption | with_reducible apply kept_setApplet | with_reducible apply kept_await
    | with_reducible refine kept_ite ?_ ?_ | (intro _) | split | dsimp only)

theorem kept_modSecure {q : List Instr} {h k : Option Nat} {ok : Bool} (s : State) (f : SecureLayer → SecureLayer) (hw : Kept q h k ok s) :
    Kept q h k ok (modSecure s f) := by
  unfold modSecure
  try dsimp only
  repeat' (first
    | with_reducible assumption | with_reducible refine kept_modWd ?_ | with_reducible refine kept_ite ?_ ?_ | (intro _)
    | split | dsimp only)

theorem kept_leaveFrom {q : List Instr} {h k : Option Nat} {ok : Bool} (s : State) (at' : Nat) (p : SecureLayer → Bool) (hw : Kept q h k ok s) :
    Kept q h k ok (leaveFrom s at' p) := by
  unfold leaveFrom
  try dsimp only
  repeat' (first
    | with_reducible assumption | with_reducible apply kept_modSecure | with_reducible refine kept_ite ?_ ?_ | (intro _)
    | split | dsimp only)

theorem kept_endApplet {q : List Instr} {h k : Option Nat} {ok : Bool} (s : State) (n : Nat) (v : Verdict) (leave : Bool) (hw : Kept q h k ok s) :
    Kept q h k ok (endApplet s n v leave) := by
  unfold endApplet
  try dsimp only
  repeat' (first
    | with_reducible assumption | with_reducible apply kept_finish | with_reducible apply kept_setApplet
    | with_reducible apply kept_zeroiseSecure | with_reducible apply kept_leaveFrom
    | with_reducible refine kept_ite ?_ ?_ | (intro _) | split | dsimp only)

theorem kept_appletEnds {q : List Instr} {h k : Option Nat} {ok : Bool} (s : State) (n code : Nat) (result : List Byte) (hw : Kept q h k ok s) :
    Kept q h k ok (appletEnds s n code result) := by
  unfold appletEnds
  try dsimp only
  repeat' (first
    | with_reducible assumption | with_reducible apply kept_hostWrite | with_reducible apply kept_endApplet
    | with_reducible refine kept_ite ?_ ?_ | (intro _) | split | dsimp only)

theorem kept_appletLimit {q : List Instr} {h k : Option Nat} {ok : Bool} (s : State) (n : Nat) (hw : Kept q h k ok s) :
    Kept q h k ok (appletLimit s n) := by
  unfold appletLimit
  try dsimp only
  repeat' (first
    | with_reducible assumption | with_reducible apply kept_endApplet | with_reducible refine kept_ite ?_ ?_ | (intro _)
    | split | dsimp only)

theorem kept_startAppletStop {q : List Instr} {h k : Option Nat} {ok : Bool} (s : State) (f : Flight) (hw : Kept q h k ok s) :
    Kept q h k ok (startAppletStop s f) := by
  unfold startAppletStop
  try dsimp only
  repeat' (first
    | with_reducible assumption | with_reducible apply kept_await | with_reducible refine kept_ite ?_ ?_ | (intro _)
    | split | dsimp only)

theorem kept_endClientApplets {q : List Instr} {h k : Option Nat} {ok : Bool} (s : State) (t : Nat) (hw : Kept q h k ok s) :
    Kept q h k ok (endClientApplets s t) := by
  unfold endClientApplets
  try dsimp only
  repeat' (first
    | with_reducible assumption | with_reducible apply kept_endApplet | with_reducible refine kept_foldl ?_ ?_
    | with_reducible refine kept_ite ?_ ?_ | (intro _) | split | dsimp only)

theorem kept_placeSecureRing {q : List Instr} {h k : Option Nat} {ok : Bool} (s : State) (sl n : Nat) (hw : Kept q h k ok s) :
    Kept q h k ok (placeSecureRing s sl n) := by
  unfold placeSecureRing
  try dsimp only
  repeat' (first
    | with_reducible assumption | with_reducible apply kept_setRing | with_reducible apply kept_zeroiseSecure
    | with_reducible refine kept_ite ?_ ?_ | (intro _) | split | dsimp only)

theorem kept_startSecureLayer {q : List Instr} {h k : Option Nat} {ok : Bool} (s : State) (f : Flight) (hw : Kept q h k ok s) :
    Kept q h k ok (startSecureLayer s f) := by
  unfold startSecureLayer
  try dsimp only
  repeat' (first
    | with_reducible assumption | with_reducible apply kept_modSecure | with_reducible apply kept_await
    | with_reducible refine kept_ite ?_ ?_ | (intro _) | split | dsimp only)

theorem kept_attachLayer {q : List Instr} {h k : Option Nat} {ok : Bool} (s : State) (f : Flight) (hw : Kept q h k ok s) :
    Kept q h k ok (attachLayer s f) := by
  unfold attachLayer
  try dsimp only
  repeat' (first
    | with_reducible assumption | with_reducible apply kept_finishAborted | with_reducible apply kept_placeSecureRing
    | with_reducible apply kept_modSlot | with_reducible apply kept_finishDone | with_reducible refine kept_modWd ?_
    | with_reducible refine kept_ite ?_ ?_ | (intro _) | split | dsimp only)

theorem kept_returnLayer {q : List Instr} {h k : Option Nat} {ok : Bool} (s : State) (sl : Nat) (hw : Kept q h k ok s) :
    Kept q h k ok (returnLayer s sl) := by
  unfold returnLayer
  try dsimp only
  repeat' (first
    | with_reducible assumption | with_reducible refine kept_modSr ?_ ?_ | with_reducible apply kept_zeroiseSecure
    | with_reducible apply kept_modSlot | with_reducible refine kept_modWd ?_ | with_reducible refine kept_ite ?_ ?_
    | (exact fun _ e => e) | exact Mem.wf_wrs _ _ _ (by assumption) | exact Mem.wf_wipe _ _ _ (by assumption)
    | (intro _) | split | dsimp only)

theorem kept_latchSecure {q : List Instr} {h k : Option Nat} {ok : Bool} (s : State) (hd' : Nat) (hw : Kept q h k ok s) :
    Kept q h k ok (latchSecure s hd') := by
  unfold latchSecure
  try dsimp only
  repeat' (first
    | with_reducible assumption | with_reducible apply kept_returnLayer | with_reducible apply kept_attachLayer
    | with_reducible apply kept_finishDone | with_reducible refine kept_foldl ?_ ?_
    | with_reducible refine kept_ite ?_ ?_ | (intro _) | split | dsimp only)

theorem kept_fallBack {q : List Instr} {h k : Option Nat} {ok : Bool} (s : State) (hd' : Nat) (hw : Kept q h k ok s) :
    Kept q h k ok (fallBack s hd') := by
  unfold fallBack
  try dsimp only
  repeat' (first
    | with_reducible assumption | with_reducible apply kept_raise | with_reducible apply kept_modSecure
    | with_reducible refine kept_foldl ?_ ?_ | with_reducible refine kept_ite ?_ ?_ | (intro _) | split | dsimp only)

theorem kept_dropKey {q : List Instr} {h k : Option Nat} {ok : Bool} (s : State) (id : Nat) (hw : Kept q h k ok s) :
    Kept q h k ok (dropKey s id) := by
  unfold dropKey
  try dsimp only
  repeat' (first
    | with_reducible assumption | with_reducible refine kept_modWd ?_ | with_reducible refine kept_ite ?_ ?_ | (intro _)
    | split | dsimp only)

theorem kept_startKeyOffer {q : List Instr} {h k : Option Nat} {ok : Bool} (s : State) (f : Flight) (hw : Kept q h k ok s) :
    Kept q h k ok (startKeyOffer s f) := by
  unfold startKeyOffer
  try dsimp only
  repeat' (first
    | with_reducible assumption | with_reducible apply kept_await | with_reducible refine kept_ite ?_ ?_ | (intro _)
    | split | dsimp only)

theorem kept_endKeyOffer {q : List Instr} {h k : Option Nat} {ok : Bool} (s : State) (f : Flight) (body : List Byte) (hw : Kept q h k ok s) :
    Kept q h k ok (endKeyOffer s f body) := by
  unfold endKeyOffer
  try dsimp only
  repeat' (first
    | with_reducible assumption | with_reducible apply kept_hostWrite | with_reducible apply kept_finishDone
    | with_reducible refine kept_modWd ?_ | with_reducible refine kept_ite ?_ ?_ | (intro _) | split | dsimp only)

theorem kept_startKeyAccept {q : List Instr} {h k : Option Nat} {ok : Bool} (s : State) (f : Flight) (hw : Kept q h k ok s) :
    Kept q h k ok (startKeyAccept s f) := by
  unfold startKeyAccept
  try dsimp only
  repeat' (first
    | with_reducible assumption | with_reducible apply kept_await | with_reducible refine kept_ite ?_ ?_ | (intro _)
    | split | dsimp only)

theorem kept_endKeyAccept {q : List Instr} {h k : Option Nat} {ok : Bool} (s : State) (f : Flight) (good : Bool) (body : List Byte) (hw : Kept q h k ok s) :
    Kept q h k ok (endKeyAccept s f good body) := by
  unfold endKeyAccept
  try dsimp only
  repeat' (first
    | with_reducible assumption | with_reducible apply kept_finish | with_reducible apply kept_finishDone
    | with_reducible refine kept_modWd ?_ | with_reducible apply kept_finishWith | with_reducible apply kept_hostWrite
    | with_reducible refine kept_ite ?_ ?_ | (intro _) | split | dsimp only)

theorem kept_startKeyDestroy {q : List Instr} {h k : Option Nat} {ok : Bool} (s : State) (f : Flight) (hw : Kept q h k ok s) :
    Kept q h k ok (startKeyDestroy s f) := by
  unfold startKeyDestroy
  try dsimp only
  repeat' (first
    | with_reducible assumption | with_reducible apply kept_await | with_reducible refine kept_ite ?_ ?_ | (intro _)
    | split | dsimp only)

theorem kept_endKeyDestroy {q : List Instr} {h k : Option Nat} {ok : Bool} (s : State) (f : Flight) (hw : Kept q h k ok s) :
    Kept q h k ok (endKeyDestroy s f) := by
  unfold endKeyDestroy
  try dsimp only
  repeat' (first
    | with_reducible assumption | with_reducible apply kept_finishDone | with_reducible apply kept_dropKey
    | with_reducible refine kept_ite ?_ ?_ | (intro _) | split | dsimp only)

theorem kept_dropSecureContacts {q : List Instr} {h k : Option Nat} {ok : Bool} (s : State) (hw : Kept q h k ok s) :
    Kept q h k ok (dropSecureContacts s) := by
  unfold dropSecureContacts
  try dsimp only
  repeat' (first
    | with_reducible assumption | with_reducible refine kept_modTouch ?_ | with_reducible refine kept_ite ?_ ?_
    | (intro _) | split | dsimp only)

theorem kept_restartWarden {q : List Instr} {h k : Option Nat} {ok : Bool} (s : State) (hw : Kept q h k ok s) :
    Kept q h k ok (restartWarden s) := by
  unfold restartWarden
  try dsimp only
  repeat' (first
    | with_reducible assumption | with_reducible apply kept_endApplet | with_reducible apply kept_withdraw
    | with_reducible apply kept_dropSecureContacts | with_reducible refine kept_modWd ?_
    | with_reducible apply kept_zeroiseSecure | with_reducible apply kept_assert | with_reducible apply kept_raise
    | with_reducible refine kept_foldl ?_ ?_ | with_reducible refine kept_ite ?_ ?_ | (intro _) | split | dsimp only)

theorem kept_selfRestart {q : List Instr} {h k : Option Nat} {ok : Bool} (s : State) (hw : Kept q h k ok s) :
    Kept q h k ok (selfRestart s) := by
  unfold selfRestart
  try dsimp only
  repeat' (first
    | with_reducible assumption | with_reducible apply kept_restartWarden | with_reducible refine kept_ite ?_ ?_
    | (intro _) | split | dsimp only)

theorem kept_heartbeat {q : List Instr} {h k : Option Nat} {ok : Bool} (s : State) (hw : Kept q h k ok s) :
    Kept q h k ok (heartbeat s) := by
  unfold heartbeat
  try dsimp only
  repeat' (first
    | with_reducible assumption | with_reducible refine kept_modWd ?_ | with_reducible refine kept_ite ?_ ?_ | (intro _)
    | split | dsimp only)

theorem kept_reloadApplet {q : List Instr} {h k : Option Nat} {ok : Bool} (applets : List (Nat × Bool)) (s : State) (n : Nat) (hw : Kept q h k ok s) :
    Kept q h k ok (reloadApplet applets s n) := by
  unfold reloadApplet
  try dsimp only
  repeat' (first
    | with_reducible assumption | with_reducible apply kept_placeApplet | with_reducible apply kept_raise
    | with_reducible apply kept_emptyApplet | with_reducible refine kept_ite ?_ ?_ | (intro _) | split | dsimp only)

theorem kept_resumeWarden {q : List Instr} {h k : Option Nat} {ok : Bool} (s : State) (good : Bool) (applets : List (Nat × Bool)) (hw : Kept q h k ok s) :
    Kept q h k ok (resumeWarden s good applets) := by
  unfold resumeWarden
  try dsimp only
  repeat' (first
    | with_reducible assumption | with_reducible apply kept_assert | with_reducible apply kept_raise
    | with_reducible refine kept_modWd ?_ | with_reducible apply kept_reloadApplet | with_reducible apply kept_leaveFrom
    | with_reducible refine kept_foldl ?_ ?_ | with_reducible refine kept_ite ?_ ?_ | (intro _) | split | dsimp only)

end Sys2Proof.Machine
end

