-- ==== Sys2Proof/Laws/KeptAssayOps.lean ====
section
/-! SUPPORT. What the operations of Machine/AssayOps.lean keep. -/

namespace Sys2Proof.Machine

theorem kept_setAssay {q : List Instr} {h k : Option Nat} {ok : Bool} (s : State) (u : Nat) (v : Assay) (hw : Kept q h k ok s) :
    Kept q h k ok (setAssay s u v) := by
  unfold setAssay
  try dsimp only
  repeat' (first
    | with_reducible assumption | with_reducible refine kept_modAu ?_ | with_reducible refine kept_ite ?_ ?_ | (intro _)
    | split | dsimp only)

theorem kept_modAssay {q : List Instr} {h k : Option Nat} {ok : Bool} (s : State) (u : Nat) (f : Assay → Assay) (hw : Kept q h k ok s) :
    Kept q h k ok (modAssay s u f) := by
  unfold modAssay
  try dsimp only
  repeat' (first
    | with_reducible assumption | with_reducible apply kept_setAssay | with_reducible refine kept_ite ?_ ?_ | (intro _)
    | split | dsimp only)

theorem kept_landLine {q : List Instr} {h k : Option Nat} {ok : Bool} (frame u i : Nat) (second : Bool) (s : State) (m : Nat) (hw : Kept q h k ok s) :
    Kept q h k ok (landLine frame u i second s m) := by
  unfold landLine
  try dsimp only
  repeat' (first
    | with_reducible assumption | with_reducible apply kept_countBulk | with_reducible apply kept_noteBulk
    | with_reducible apply kept_noteMoved | with_reducible refine kept_modSr ?_ ?_ | with_reducible apply kept_setSrWord
    | with_reducible refine kept_modAu ?_ | with_reducible refine kept_foldl ?_ ?_
    | with_reducible refine kept_foldl_1 ?_ ?_ | with_reducible refine kept_foldl_2 ?_ ?_
    | with_reducible refine kept_foldl_22 ?_ ?_ | with_reducible refine kept_ite ?_ ?_ | (exact fun _ e => e)
    | exact Mem.wf_wrs _ _ _ (by assumption) | exact Mem.wf_wipe _ _ _ (by assumption) | (intro _) | split | dsimp only)

theorem kept_readLanded {q : List Instr} {h k : Option Nat} {ok : Bool} (frame u i : Nat) (second : Bool) (s : State) (m : Nat) (hw : Kept q h k ok s) :
    Kept q h k ok (readLanded frame u i second s m) := by
  unfold readLanded
  try dsimp only
  repeat' (first
    | with_reducible assumption | with_reducible apply kept_noteRead | with_reducible refine kept_ite ?_ ?_ | (intro _)
    | split | dsimp only)

theorem kept_conclude {q : List Instr} {h k : Option Nat} {ok : Bool} (s : State) (u : Nat) (hidden whole : Bool) (actual : Nat) (expect : Option Nat) (seq next : Nat) (hw : Kept q h k ok s) :
    Kept q h k ok (conclude s u hidden whole actual expect seq next) := by
  unfold conclude
  try dsimp only
  repeat' (first
    | with_reducible assumption | with_reducible apply kept_setAssay | with_reducible apply kept_raise
    | with_reducible apply kept_assert | with_reducible refine kept_ite ?_ ?_ | (intro _) | split | dsimp only)

theorem kept_landRow {q : List Instr} {h k : Option Nat} {ok : Bool} (s : State) (hd' y : Nat) (sees : Assay → Bool) (hw : Kept q h k ok s) :
    Kept q h k ok (landRow s hd' y sees) := by
  unfold landRow
  try dsimp only
  repeat' (first
    | with_reducible assumption | with_reducible apply kept_landLine | with_reducible refine kept_foldl ?_ ?_
    | with_reducible refine kept_ite ?_ ?_ | (intro _) | split | dsimp only)

theorem kept_readRow {q : List Instr} {h k : Option Nat} {ok : Bool} (s : State) (hd' : Nat) (c : HeadCfg) (frame u y : Nat) (hw : Kept q h k ok s) :
    Kept q h k ok (readRow s hd' c frame u y) := by
  unfold readRow
  try dsimp only
  repeat' (first
    | with_reducible assumption | with_reducible apply kept_readLanded | with_reducible refine kept_foldl ?_ ?_
    | with_reducible refine kept_ite ?_ ?_ | (intro _) | split | dsimp only)

theorem kept_forgetFrame {q : List Instr} {h k : Option Nat} {ok : Bool} (s : State) (u frame : Nat) (hw : Kept q h k ok s) :
    Kept q h k ok (forgetFrame s u frame) := by
  unfold forgetFrame
  try dsimp only
  repeat' (first
    | with_reducible assumption | with_reducible refine kept_modAu ?_ | with_reducible refine kept_ite ?_ ?_ | (intro _)
    | split | dsimp only)

theorem kept_forgetLanded {q : List Instr} {h k : Option Nat} {ok : Bool} (s : State) (u : Nat) (hw : Kept q h k ok s) :
    Kept q h k ok (forgetLanded s u) := by
  unfold forgetLanded
  try dsimp only
  repeat' (first
    | with_reducible assumption | with_reducible refine kept_modAu ?_ | with_reducible refine kept_ite ?_ ?_ | (intro _)
    | split | dsimp only)

theorem kept_feedLine {q : List Instr} {h k : Option Nat} {ok : Bool} (s : State) (hd' y frame : Nat) (plain drawn : List Nat) (sees : Assay → Bool) (hw : Kept q h k ok s) :
    Kept q h k ok (feedLine s hd' y frame plain drawn sees) := by
  unfold feedLine
  try dsimp only
  repeat' (first
    | with_reducible assumption | with_reducible apply kept_setAssay | with_reducible apply kept_readRow
    | with_reducible apply kept_noteMoved | with_reducible refine kept_foldl ?_ ?_
    | with_reducible refine kept_foldl_1 ?_ ?_ | with_reducible refine kept_foldl_2 ?_ ?_
    | with_reducible refine kept_foldl_22 ?_ ?_ | with_reducible refine kept_ite ?_ ?_ | (intro _) | split | dsimp only)

theorem kept_compareHead {q : List Instr} {h k : Option Nat} {ok : Bool} (s : State) (hd' : Nat) (hw : Kept q h k ok s) :
    Kept q h k ok (compareHead s hd') := by
  unfold compareHead
  try dsimp only
  repeat' (first
    | with_reducible assumption | with_reducible apply kept_forgetFrame | with_reducible apply kept_conclude
    | with_reducible apply kept_setAssay | with_reducible refine kept_foldl ?_ ?_
    | with_reducible refine kept_foldl_1 ?_ ?_ | with_reducible refine kept_foldl_2 ?_ ?_
    | with_reducible refine kept_foldl_22 ?_ ?_ | with_reducible refine kept_ite ?_ ?_ | (intro _) | split | dsimp only)

theorem kept_foldDma {q : List Instr} {h k : Option Nat} {ok : Bool} (s : State) (k' : Nat) (data : Option (List Byte)) (f : Flight) (hw : Kept q h k ok s) :
    Kept q h k ok (foldDma s k' data f) := by
  unfold foldDma
  try dsimp only
  repeat' (first
    | with_reducible assumption | with_reducible apply kept_setAssay | with_reducible apply kept_conclude
    | with_reducible refine kept_foldl ?_ ?_ | with_reducible refine kept_ite ?_ ?_ | (intro _) | split | dsimp only)

theorem kept_windowPiece {q : List Instr} {h k : Option Nat} {ok : Bool} (u : Nat) (s : State) (p : Nat × List Byte) (hw : Kept q h k ok s) :
    Kept q h k ok (windowPiece u s p) := by
  unfold windowPiece
  try dsimp only
  repeat' (first
    | with_reducible assumption | with_reducible apply kept_conclude | with_reducible apply kept_setAssay
    | with_reducible refine kept_ite ?_ ?_ | (intro _) | split | dsimp only)

theorem kept_feedWrite {q : List Instr} {h k : Option Nat} {ok : Bool} (s : State) (a : Nat) (bs : List Byte) (hw : Kept q h k ok s) :
    Kept q h k ok (feedWrite s a bs) := by
  unfold feedWrite
  try dsimp only
  repeat' (first
    | with_reducible assumption | with_reducible apply kept_windowPiece | with_reducible refine kept_foldl ?_ ?_
    | with_reducible refine kept_ite ?_ ?_ | (intro _) | split | dsimp only)

theorem kept_feedAudio {q : List Instr} {h k : Option Nat} {ok : Bool} (s : State) (k' n : Nat) (hw : Kept q h k ok s) :
    Kept q h k ok (feedAudio s k' n) := by
  unfold feedAudio
  try dsimp only
  repeat' (first
    | with_reducible assumption | with_reducible apply kept_setAssay | with_reducible refine kept_foldl ?_ ?_
    | with_reducible refine kept_foldl_1 ?_ ?_ | with_reducible refine kept_foldl_2 ?_ ?_
    | with_reducible refine kept_foldl_22 ?_ ?_ | with_reducible refine kept_ite ?_ ?_ | (intro _) | split | dsimp only)

theorem kept_compareAudio {q : List Instr} {h k : Option Nat} {ok : Bool} (s : State) (k' : Nat) (hw : Kept q h k ok s) :
    Kept q h k ok (compareAudio s k') := by
  unfold compareAudio
  try dsimp only
  repeat' (first
    | with_reducible assumption | with_reducible apply kept_conclude | with_reducible refine kept_foldl ?_ ?_
    | with_reducible refine kept_foldl_1 ?_ ?_ | with_reducible refine kept_foldl_2 ?_ ?_
    | with_reducible refine kept_foldl_22 ?_ ?_ | with_reducible refine kept_ite ?_ ?_ | (intro _) | split | dsimp only)

theorem kept_readSprite {q : List Instr} {h k : Option Nat} {ok : Bool} (s : State) (v : Sprite) (hw : Kept q h k ok s) :
    Kept q h k ok (readSprite s v) := by
  unfold readSprite
  try dsimp only
  repeat' (first
    | with_reducible assumption | with_reducible apply kept_noteRead | with_reducible apply kept_srAccessFault
    | with_reducible refine kept_foldl ?_ ?_ | with_reducible refine kept_foldl_1 ?_ ?_
    | with_reducible refine kept_foldl_2 ?_ ?_ | with_reducible refine kept_foldl_22 ?_ ?_
    | with_reducible refine kept_ite ?_ ?_ | (intro _) | split | dsimp only)

theorem kept_ttFault {q : List Instr} {h k : Option Nat} {ok : Bool} (s : State) (hw : Kept q h k ok s) :
    Kept q h k ok (ttFault s) := by
  unfold ttFault
  try dsimp only
  repeat' (first
    | with_reducible assumption | with_reducible apply kept_assert | with_reducible apply kept_raise
    | with_reducible refine kept_ite ?_ ?_ | (intro _) | split | dsimp only)

theorem kept_setSprite {q : List Instr} {h k : Option Nat} {ok : Bool} (s : State) (hd' n : Nat) (v : Sprite) (hw : Kept q h k ok s) :
    Kept q h k ok (setSprite s hd' n v) := by
  unfold setSprite
  try dsimp only
  repeat' (first
    | with_reducible assumption | with_reducible apply kept_readSprite | with_reducible refine kept_modAu ?_
    | with_reducible apply kept_ttFault | with_reducible refine kept_ite ?_ ?_ | (intro _) | split | dsimp only)

theorem kept_setPalette {q : List Instr} {h k : Option Nat} {ok : Bool} (s : State) (hd' i v : Nat) (hw : Kept q h k ok s) :
    Kept q h k ok (setPalette s hd' i v) := by
  unfold setPalette
  try dsimp only
  repeat' (first
    | with_reducible assumption | with_reducible refine kept_modAu ?_ | with_reducible refine kept_ite ?_ ?_ | (intro _)
    | split | dsimp only)

theorem kept_showTelltales {q : List Instr} {h k : Option Nat} {ok : Bool} (s : State) (hd' : Nat) (hw : Kept q h k ok s) :
    Kept q h k ok (showTelltales s hd') := by
  unfold showTelltales
  try dsimp only
  repeat' (first
    | with_reducible assumption | with_reducible apply kept_readSprite | with_reducible refine kept_modAu ?_
    | with_reducible apply kept_ttFault | with_reducible refine kept_foldl ?_ ?_ | with_reducible refine kept_ite ?_ ?_
    | (intro _) | split | dsimp only)

theorem kept_startAssayAlloc {q : List Instr} {h k : Option Nat} {ok : Bool} (s : State) (f : Flight) (hw : Kept q h k ok s) :
    Kept q h k ok (startAssayAlloc s f) := by
  unfold startAssayAlloc
  try dsimp only
  repeat' (first
    | with_reducible assumption | with_reducible apply kept_finishWith | with_reducible apply kept_setAssay
    | with_reducible apply kept_finishDone | with_reducible apply kept_renewSource
    | with_reducible refine kept_ite ?_ ?_ | (intro _) | split | dsimp only)

theorem kept_commitShadowRegion {q : List Instr} {h k : Option Nat} {ok : Bool} (s : State) (f : Flight) (hw : Kept q h k ok s) :
    Kept q h k ok (commitShadowRegion s f) := by
  unfold commitShadowRegion
  try dsimp only
  repeat' (first
    | with_reducible assumption | with_reducible refine kept_modCharges ?_ | with_reducible refine kept_ite ?_ ?_
    | (intro _) | split | dsimp only)

theorem kept_commitAssayEnd {q : List Instr} {h k : Option Nat} {ok : Bool} (s : State) (f : Flight) (hw : Kept q h k ok s) :
    Kept q h k ok (commitAssayEnd s f) := by
  unfold commitAssayEnd
  try dsimp only
  repeat' (first
    | with_reducible assumption | with_reducible refine kept_modCharges ?_ | with_reducible refine kept_ite ?_ ?_
    | (intro _) | split | dsimp only)

theorem kept_endBinding {q : List Instr} {h k : Option Nat} {ok : Bool} (s : State) (u : Nat) (hw : Kept q h k ok s) :
    Kept q h k ok (endBinding s u) := by
  unfold endBinding
  try dsimp only
  repeat' (first
    | with_reducible assumption | with_reducible refine kept_modCharges ?_ | with_reducible refine kept_ite ?_ ?_
    | (intro _) | split | dsimp only)

theorem kept_applyAssay {q : List Instr} {h k : Option Nat} {ok : Bool} (s : State) (f : Flight) (hw : Kept q h k ok s) :
    Kept q h k ok (applyAssay s f) := by
  unfold applyAssay
  try dsimp only
  repeat' (first
    | with_reducible assumption | with_reducible apply kept_modAssay | with_reducible apply kept_forgetLanded
    | with_reducible apply kept_renewSource | with_reducible apply kept_setAssay | with_reducible apply kept_endBinding
    | with_reducible refine kept_ite ?_ ?_ | (intro _) | split | dsimp only)

theorem kept_startAssay {q : List Instr} {h k : Option Nat} {ok : Bool} (s : State) (f : Flight) (hw : Kept q h k ok s) :
    Kept q h k ok (startAssay s f) := by
  unfold startAssay
  try dsimp only
  repeat' (first
    | with_reducible assumption | with_reducible apply kept_finishDone | with_reducible apply kept_applyAssay
    | with_reducible apply kept_await | with_reducible refine kept_ite ?_ ?_ | (intro _) | split | dsimp only)

theorem kept_applyAudioAssay {q : List Instr} {h k : Option Nat} {ok : Bool} (s : State) (k' n : Nat) (hw : Kept q h k ok s) :
    Kept q h k ok (applyAudioAssay s k' n) := by
  unfold applyAudioAssay
  try dsimp only
  repeat' (first
    | with_reducible assumption | with_reducible apply kept_finish | with_reducible apply kept_missNote
    | with_reducible apply kept_finishDone | with_reducible apply kept_applyAssay
    | with_reducible refine kept_foldl ?_ ?_ | with_reducible refine kept_ite ?_ ?_ | (intro _) | split | dsimp only)

theorem kept_startAssayRead {q : List Instr} {h k : Option Nat} {ok : Bool} (s : State) (f : Flight) (hw : Kept q h k ok s) :
    Kept q h k ok (startAssayRead s f) := by
  unfold startAssayRead
  try dsimp only
  repeat' (first
    | with_reducible assumption | with_reducible apply kept_finishDone | with_reducible apply kept_hostWrite
    | with_reducible refine kept_ite ?_ ?_ | (intro _) | split | dsimp only)

end Sys2Proof.Machine
end

