-- ==== Sys2Proof/Laws/KeptContactOps.lean ====
section
/-! SUPPORT. What the operations of Machine/ContactOps.lean keep. -/

namespace Sys2Proof.Machine

theorem kept_trackScan {q : List Instr} {h k : Option Nat} {ok : Bool} (s : State) (p : Nat) (c : Scan) (ds : List Int) (hw : Kept q h k ok s) :
    Kept q h k ok (trackScan s p c ds) := by
  unfold trackScan
  try dsimp only
  repeat' (first
    | with_reducible assumption | with_reducible apply kept_modTen | with_reducible apply kept_raise
    | with_reducible apply kept_modPort | with_reducible refine kept_foldl ?_ ?_
    | with_reducible refine kept_foldl_1 ?_ ?_ | with_reducible refine kept_foldl_2 ?_ ?_
    | with_reducible refine kept_foldl_22 ?_ ?_ | with_reducible refine kept_ite ?_ ?_ | (intro _) | split | dsimp only)

theorem kept_triggerKeys {q : List Instr} {h k : Option Nat} {ok : Bool} (s : State) (p : Nat) (hw : Kept q h k ok s) :
    Kept q h k ok (triggerKeys s p) := by
  unfold triggerKeys
  try dsimp only
  repeat' (first
    | with_reducible assumption | with_reducible apply kept_modPort | with_reducible apply kept_triggerEffect
    | with_reducible refine kept_foldl ?_ ?_ | with_reducible refine kept_foldl_1 ?_ ?_
    | with_reducible refine kept_foldl_2 ?_ ?_ | with_reducible refine kept_foldl_22 ?_ ?_
    | with_reducible refine kept_ite ?_ ?_ | (intro _) | split | dsimp only)

theorem kept_makeProducts {q : List Instr} {h k : Option Nat} {ok : Bool} (s : State) (p : Nat) (hw : Kept q h k ok s) :
    Kept q h k ok (makeProducts s p) := by
  unfold makeProducts
  try dsimp only
  repeat' (first
    | with_reducible assumption | with_reducible apply kept_modPort | with_reducible apply kept_captureScan
    | with_reducible apply kept_raise | with_reducible apply kept_trackScan | with_reducible refine kept_foldl ?_ ?_
    | with_reducible refine kept_ite ?_ ?_ | (intro _) | split | dsimp only)

theorem kept_markStale {q : List Instr} {h k : Option Nat} {ok : Bool} (s : State) (p id : Nat) (hw : Kept q h k ok s) :
    Kept q h k ok (markStale s p id) := by
  unfold markStale
  try dsimp only
  repeat' (first
    | with_reducible assumption | with_reducible apply kept_modPort | with_reducible apply kept_raise
    | with_reducible refine kept_ite ?_ ?_ | (intro _) | split | dsimp only)

theorem kept_writeReport {q : List Instr} {h k : Option Nat} {ok : Bool} (s : State) (p t last : Nat) (first : Bool) (hw : Kept q h k ok s) :
    Kept q h k ok (writeReport s p t last first) := by
  unfold writeReport
  try dsimp only
  repeat' (first
    | with_reducible assumption | with_reducible apply kept_modPort | with_reducible apply kept_hostWrite
    | with_reducible apply kept_raise | with_reducible refine kept_ite ?_ ?_ | (intro _) | split | dsimp only)

theorem kept_writeReports {q : List Instr} {h k : Option Nat} {ok : Bool} (s : State) (p : Nat) (hw : Kept q h k ok s) :
    Kept q h k ok (writeReports s p) := by
  unfold writeReports
  try dsimp only
  repeat' (first
    | with_reducible assumption | with_reducible apply kept_modPort | with_reducible refine kept_modTouch ?_
    | with_reducible apply kept_writeReport | with_reducible refine kept_foldl ?_ ?_
    | with_reducible refine kept_ite ?_ ?_ | (intro _) | split | dsimp only)

theorem kept_startCalibration {q : List Instr} {h k : Option Nat} {ok : Bool} (s : State) (f : Flight) (hw : Kept q h k ok s) :
    Kept q h k ok (startCalibration s f) := by
  unfold startCalibration
  try dsimp only
  repeat' (first
    | with_reducible assumption | with_reducible apply kept_await | with_reducible refine kept_ite ?_ ?_ | (intro _)
    | split | dsimp only)

theorem kept_applyCalibration {q : List Instr} {h k : Option Nat} {ok : Bool} (s : State) (f : Flight) (hw : Kept q h k ok s) :
    Kept q h k ok (applyCalibration s f) := by
  unfold applyCalibration
  try dsimp only
  repeat' (first
    | with_reducible assumption | with_reducible apply kept_finishDone | with_reducible apply kept_modPort
    | with_reducible refine kept_ite ?_ ?_ | (intro _) | split | dsimp only)

theorem kept_startTouchKeys {q : List Instr} {h k : Option Nat} {ok : Bool} (s : State) (f : Flight) (hw : Kept q h k ok s) :
    Kept q h k ok (startTouchKeys s f) := by
  unfold startTouchKeys
  try dsimp only
  repeat' (first
    | with_reducible assumption | with_reducible apply kept_await | with_reducible refine kept_ite ?_ ?_ | (intro _)
    | split | dsimp only)

theorem kept_applyTouchKeys {q : List Instr} {h k : Option Nat} {ok : Bool} (s : State) (f : Flight) (hw : Kept q h k ok s) :
    Kept q h k ok (applyTouchKeys s f) := by
  unfold applyTouchKeys
  try dsimp only
  repeat' (first
    | with_reducible assumption | with_reducible apply kept_finishDone | with_reducible apply kept_modPort
    | with_reducible refine kept_ite ?_ ?_ | (intro _) | split | dsimp only)

theorem kept_startReportRing {q : List Instr} {h k : Option Nat} {ok : Bool} (s : State) (f : Flight) (hw : Kept q h k ok s) :
    Kept q h k ok (startReportRing s f) := by
  unfold startReportRing
  try dsimp only
  repeat' (first
    | with_reducible assumption | with_reducible apply kept_finishDone | with_reducible apply kept_modPort
    | with_reducible refine kept_ite ?_ ?_ | (intro _) | split | dsimp only)

theorem kept_scanStartOf {q : List Instr} {h k : Option Nat} {ok : Bool} (s : State) (p : Nat) (hw : Kept q h k ok s) :
    Kept q h k ok (scanStartOf s p) := by
  unfold scanStartOf
  try dsimp only
  repeat' (first
    | with_reducible assumption | with_reducible apply kept_startScan | with_reducible apply kept_applyCalibration
    | with_reducible apply kept_applyTouchKeys | with_reducible refine kept_ite ?_ ?_ | (intro _) | split | dsimp only)

end Sys2Proof.Machine
end

