-- ==== Sys2Proof/Laws/KeptPowerOps.lean ====
section
/-! SUPPORT. What the operations of Machine/PowerOps.lean keep. -/

namespace Sys2Proof.Machine

theorem kept_writeRetain {q : List Instr} {h k : Option Nat} {ok : Bool} (s : State) (warden : Bool) (v : Nat) (hw : Kept q h k ok s) :
    Kept q h k ok (writeRetain s warden v) := by
  unfold writeRetain
  try dsimp only
  repeat' (first
    | with_reducible assumption | with_reducible refine kept_modSr ?_ ?_ | with_reducible refine kept_foldl ?_ ?_
    | with_reducible refine kept_ite ?_ ?_ | (exact fun _ e => e) | exact Mem.wf_wrs _ _ _ (by assumption)
    | exact Mem.wf_wipe _ _ _ (by assumption) | (intro _) | split | dsimp only)

/-- A reset keeps the latched HALT, and the tick count when RESET_N is not what caused it. -/
theorem kept_coldState {q : List Instr} {h k : Option Nat} {ok : Bool} (s : State) (released : Bool) (p : Power) (hw : Kept q h k ok s) :
    Kept q h (if released then none else k) ok (coldState s released p) := by
  refine ⟨hw.queue, ?_, ?_, fun i => ⟨⟨List.Pairwise.nil, fun f e => by cases e⟩, ⟨(hw.inv i).2.1.1, rfl, rfl⟩, ?_⟩⟩
  · intro b e
    have l := hw.latch b e
    show (coldLedger s.lg).haltSrc = some b
    unfold coldLedger
    rw [l]
  · intro n e
    cases released
    · exact hw.tick n e
    · cases e
  · have o := (hw.inv i).2.2
    unfold TimelineOk at o
    unfold TimelineOk coldState
    cases released <;> simp <;> omega

theorem kept_releaseReset {q : List Instr} {h k : Option Nat} {ok : Bool} (s : State) (bootSel : Nat) (hw : Kept q h k ok s) : Kept q h none ok (releaseReset s bootSel) :=
  kept_ite ⟨hw.queue, hw.latch, fun _ e => (by cases e), hw.inv⟩ (kept_coldState s true _ hw)

theorem kept_assertReset {q : List Instr} {h k : Option Nat} {ok : Bool} (s : State) (hw : Kept q h k ok s) : Kept q h none ok (assertReset s) :=
  kept_ite ⟨hw.queue, hw.latch, fun _ e => (by cases e), hw.inv⟩ (kept_coldState s true _ hw)

theorem kept_aonRise {q : List Instr} {h k : Option Nat} {ok : Bool} (s : State) (hw : Kept q h k ok s) : Kept q h none ok (aonRise s) := kept_coldState s true _ hw

theorem kept_aonFall {q : List Instr} {h k : Option Nat} {ok : Bool} (s : State) (hw : Kept q h k ok s) : Kept q none none ok (aonFall s) := by
  have w : Kept q none none ok (s.modLg fun _ => {}) := ⟨hw.queue, fun _ e => (by cases e), fun _ e => (by cases e), hw.inv⟩
  exact kept_coldState _ true _ w

theorem kept_coldWake {q : List Instr} {h k : Option Nat} {ok : Bool} (s : State) (stage : Nat) (p : Power → Power) (hw : Kept q h k ok s) :
    Kept q h k ok (coldWake s stage p) := kept_coldState s false _ hw

theorem kept_beginWake {q : List Instr} {h k : Option Nat} {ok : Bool} (s : State) (hw : Kept q h k ok s) :
    Kept q h k ok (beginWake s) := by
  unfold beginWake
  try dsimp only
  repeat' (first
    | with_reducible assumption | with_reducible refine kept_modPw ?_ | with_reducible apply kept_coldWake
    | with_reducible refine kept_ite ?_ ?_ | (intro _) | split | dsimp only)

theorem kept_noteWake {q : List Instr} {h k : Option Nat} {ok : Bool} (s : State) (n : Nat) (hw : Kept q h k ok s) :
    Kept q h k ok (noteWake s n) := by
  unfold noteWake
  try dsimp only
  repeat' (first
    | with_reducible assumption | with_reducible refine kept_modPw ?_ | with_reducible refine kept_ite ?_ ?_ | (intro _)
    | split | dsimp only)

theorem kept_fireWake {q : List Instr} {h k : Option Nat} {ok : Bool} (s : State) (src : Nat) (hw : Kept q h k ok s) :
    Kept q h k ok (fireWake s src) := by
  unfold fireWake
  try dsimp only
  repeat' (first
    | with_reducible assumption | with_reducible apply kept_noteWake | with_reducible refine kept_modPw ?_
    | with_reducible apply kept_beginWake | with_reducible refine kept_ite ?_ ?_ | (intro _) | split | dsimp only)

theorem kept_dropVolatile {q : List Instr} {h k : Option Nat} {ok : Bool} (s : State) (hw : Kept q h k ok s) :
    Kept q h k ok (dropVolatile s) := by
  unfold dropVolatile
  try dsimp only
  repeat' (first
    | with_reducible assumption | with_reducible refine kept_modEv ?_ | with_reducible refine kept_modFns ?_
    | with_reducible refine kept_modLg ?_ ?_ | with_reducible apply kept_cutEffects
    | with_reducible refine kept_foldl ?_ ?_ | with_reducible refine kept_ite ?_ ?_ | (exact fun _ _ e => e) | (intro _)
    | split | dsimp only)

theorem kept_endpointLost {q : List Instr} {h k : Option Nat} {ok : Bool} (s : State) (hw : Kept q h k ok s) :
    Kept q h k ok (endpointLost s) := by
  unfold endpointLost
  try dsimp only
  repeat' (first
    | with_reducible assumption | with_reducible refine kept_modFns ?_ | with_reducible refine kept_modPcie ?_
    | with_reducible refine kept_foldl ?_ ?_ | with_reducible refine kept_ite ?_ ?_ | (intro _) | split | dsimp only)

theorem kept_reachState {q : List Instr} {h k : Option Nat} {ok : Bool} (s : State) (st : PwState) (hw : Kept q h k ok s) :
    Kept q h k ok (reachState s st) := by
  unfold reachState
  try dsimp only
  repeat' (first
    | with_reducible assumption | with_reducible apply kept_dropVolatile | with_reducible apply kept_endpointLost
    | with_reducible refine kept_modPw ?_ | with_reducible apply kept_beginWake | with_reducible refine kept_ite ?_ ?_
    | (intro _) | split | dsimp only)

theorem kept_enterState {q : List Instr} {h k : Option Nat} {ok : Bool} (s : State) (hw : Kept q h k ok s) :
    Kept q h k ok (enterState s) := by
  unfold enterState
  try dsimp only
  repeat' (first
    | with_reducible assumption | with_reducible apply kept_flushMessages | with_reducible apply kept_finishDone
    | with_reducible apply kept_reachState | with_reducible refine kept_modPw ?_ | with_reducible refine kept_ite ?_ ?_
    | (intro _) | split | dsimp only)

theorem kept_endL2Wait {q : List Instr} {h k : Option Nat} {ok : Bool} (s : State) (hw : Kept q h k ok s) :
    Kept q h k ok (endL2Wait s) := by
  unfold endL2Wait
  try dsimp only
  repeat' (first
    | with_reducible assumption | with_reducible apply kept_reachState | with_reducible refine kept_ite ?_ ?_
    | (intro _) | split | dsimp only)

theorem kept_wipeBay {q : List Instr} {h k : Option Nat} {ok : Bool} (s : State) (b : Nat) (hw : Kept q h k ok s) :
    Kept q h k ok (wipeBay s b) := by
  unfold wipeBay
  try dsimp only
  repeat' (first
    | with_reducible assumption | with_reducible refine kept_modSr ?_ ?_ | with_reducible refine kept_ite ?_ ?_
    | (exact fun _ e => e) | exact Mem.wf_wrs _ _ _ (by assumption) | exact Mem.wf_wipe _ _ _ (by assumption)
    | (intro _) | split | dsimp only)

theorem kept_clearBays {q : List Instr} {h k : Option Nat} {ok : Bool} (s : State) (hw : Kept q h k ok s) :
    Kept q h k ok (clearBays s) := by
  unfold clearBays
  try dsimp only
  repeat' (first
    | with_reducible assumption | with_reducible apply kept_wipeBay | with_reducible refine kept_modTouch ?_
    | with_reducible refine kept_foldl ?_ ?_ | with_reducible refine kept_ite ?_ ?_ | (intro _) | split | dsimp only)

theorem kept_applySecurity {q : List Instr} {h k : Option Nat} {ok : Bool} (s : State) (body : List Byte) (hw : Kept q h k ok s) :
    Kept q h k ok (applySecurity s body) := by
  unfold applySecurity
  try dsimp only
  repeat' (first
    | with_reducible assumption | with_reducible refine kept_modSr ?_ ?_ | with_reducible refine kept_modDram ?_ ?_
    | with_reducible refine kept_modLg ?_ ?_ | with_reducible refine kept_modWd ?_
    | with_reducible refine kept_ite ?_ ?_ | (exact fun _ _ e => e) | (exact fun _ e => e)
    | exact Mem.wf_wrs _ _ _ (by assumption) | exact Mem.wf_wipe _ _ _ (by assumption) | (intro _) | split | dsimp only)

theorem kept_clearLocks {q : List Instr} {h k : Option Nat} {ok : Bool} (s : State) (hw : Kept q h k ok s) :
    Kept q h k ok (clearLocks s) := by
  unfold clearLocks
  try dsimp only
  repeat' (first
    | with_reducible assumption | with_reducible refine kept_modSr ?_ ?_ | with_reducible refine kept_modDram ?_ ?_
    | with_reducible refine kept_modLg ?_ ?_ | with_reducible refine kept_ite ?_ ?_ | (exact fun _ _ e => e)
    | (exact fun _ e => e) | exact Mem.wf_wrs _ _ _ (by assumption) | exact Mem.wf_wipe _ _ _ (by assumption)
    | (intro _) | split | dsimp only)

theorem kept_relock {q : List Instr} {h k : Option Nat} {ok : Bool} (s : State) (hw : Kept q h k ok s) :
    Kept q h k ok (relock s) := by
  unfold relock
  try dsimp only
  repeat' (first
    | with_reducible assumption | with_reducible refine kept_modSr ?_ ?_ | with_reducible refine kept_modDram ?_ ?_
    | with_reducible refine kept_modLg ?_ ?_ | with_reducible apply kept_applySecurity
    | with_reducible refine kept_ite ?_ ?_ | (exact fun _ _ e => e) | (exact fun _ e => e)
    | exact Mem.wf_wrs _ _ _ (by assumption) | exact Mem.wf_wipe _ _ _ (by assumption) | (intro _) | split | dsimp only)

theorem kept_endLogic {q : List Instr} {h k : Option Nat} {ok : Bool} (s : State) (hw : Kept q h k ok s) :
    Kept q h k ok (endLogic s) := by
  unfold endLogic
  try dsimp only
  repeat' (first
    | with_reducible assumption | with_reducible apply kept_assert | with_reducible apply kept_clearLocks
    | with_reducible refine kept_modPw ?_ | with_reducible refine kept_ite ?_ ?_ | (intro _) | split | dsimp only)

theorem kept_stageUp {q : List Instr} {h k : Option Nat} {ok : Bool} (s : State) (hw : Kept q h k ok s) :
    Kept q h k ok (stageUp s) := by
  unfold stageUp
  try dsimp only
  repeat' (first
    | with_reducible assumption | with_reducible apply kept_clearBays | with_reducible refine kept_modPw ?_
    | with_reducible apply kept_endLogic | with_reducible refine kept_ite ?_ ?_ | (intro _) | split | dsimp only)

theorem kept_stageLate {q : List Instr} {h k : Option Nat} {ok : Bool} (s : State) (hw : Kept q h k ok s) :
    Kept q h k ok (stageLate s) := by
  unfold stageLate
  try dsimp only
  repeat' (first
    | with_reducible assumption | with_reducible apply kept_noteWake | with_reducible refine kept_modPw ?_
    | with_reducible refine kept_ite ?_ ?_ | (intro _) | split | dsimp only)

theorem kept_raisePwrReq {q : List Instr} {h k : Option Nat} {ok : Bool} (s : State) (hw : Kept q h k ok s) :
    Kept q h k ok (raisePwrReq s) := by
  unfold raisePwrReq
  try dsimp only
  repeat' (first
    | with_reducible assumption | with_reducible refine kept_modPw ?_ | with_reducible refine kept_ite ?_ ?_ | (intro _)
    | split | dsimp only)

theorem kept_losePgood {q : List Instr} {h k : Option Nat} {ok : Bool} (s : State) (hw : Kept q h k ok s) :
    Kept q h k ok (losePgood s) := by
  unfold losePgood
  try dsimp only
  repeat' (first
    | with_reducible assumption | with_reducible apply kept_assert | with_reducible refine kept_modPw ?_
    | with_reducible refine kept_ite ?_ ?_ | (intro _) | split | dsimp only)

theorem kept_raisePower {q : List Instr} {h k : Option Nat} {ok : Bool} (s : State) (cold : Bool) (hw : Kept q h k ok s) :
    Kept q h k ok (raisePower s cold) := by
  unfold raisePower
  try dsimp only
  repeat' (first
    | with_reducible assumption | with_reducible apply kept_raise | with_reducible refine kept_foldl ?_ ?_
    | with_reducible refine kept_ite ?_ ?_ | (intro _) | split | dsimp only)

theorem kept_restartLog {q : List Instr} {h k : Option Nat} {ok : Bool} (s : State) (patched : Bool) (hw : Kept q h k ok s) :
    Kept q h k ok (restartLog s patched) := by
  unfold restartLog
  try dsimp only
  repeat' (first
    | with_reducible assumption | with_reducible apply kept_setApplet | with_reducible refine kept_modWd ?_
    | with_reducible refine kept_foldl ?_ ?_ | with_reducible refine kept_ite ?_ ?_ | (intro _) | split | dsimp only)

theorem kept_goCold {q : List Instr} {h k : Option Nat} {ok : Bool} (s : State) (hw : Kept q h k ok s) :
    Kept q h k ok (goCold s) := by
  unfold goCold
  have w := kept_coldWake s 5 (fun p => { p with coldWake := true, boot := if s.pw.bootSel = 2 then .pcie else .slotA }) hw
  exact ⟨w.queue, w.latch, w.tick, fun i => ⟨(w.inv i).1, ⟨(w.inv i).2.1.1, (hw.inv i).2.1.2.1, (w.inv i).2.1.2.2⟩, (w.inv i).2.2⟩⟩

theorem kept_resume {q : List Instr} {h k : Option Nat} {ok : Bool} (bell : State → Nat → Nat → State) (s : State) (good patched : Bool) (hbell : ∀ (x0 : State) (x1 : Nat) (x2 : Nat), Kept q h k ok x0 → Kept q h k ok (bell x0 x1 x2)) (hw : Kept q h k ok s) :
    Kept q h k ok (resume bell s good patched) := by
  unfold resume
  try dsimp only
  repeat' (first
    | with_reducible assumption | with_reducible apply kept_goCold | with_reducible apply kept_restartLog
    | with_reducible apply kept_relock | with_reducible refine kept_modPw ?_ | with_reducible apply kept_enterFree
    | with_reducible apply kept_enterAcquire | with_reducible refine kept_modTl ?_ ?_ ?_
    | with_reducible apply kept_raisePower | with_reducible refine kept_foldl ?_ ?_
    | with_reducible refine kept_foldl_1 ?_ ?_ | with_reducible refine kept_foldl_2 ?_ ?_
    | with_reducible refine kept_foldl_22 ?_ ?_ | with_reducible apply hbell | with_reducible refine kept_ite ?_ ?_
    | rfl | (unfold TimelineOk at *; dsimp only at *; omega) | (intro _) | split | dsimp only)

theorem kept_openDevice {q : List Instr} {h k : Option Nat} {ok : Bool} (s : State) (hw : Kept q h k ok s) :
    Kept q h k ok (openDevice s) := by
  unfold openDevice
  try dsimp only
  repeat' (first
    | with_reducible assumption | with_reducible apply kept_coldWake | with_reducible refine kept_modPw ?_
    | with_reducible apply kept_raisePower | with_reducible refine kept_modWd ?_ | with_reducible refine kept_ite ?_ ?_
    | (intro _) | split | dsimp only)

theorem kept_keepTail {q : List Instr} {h k : Option Nat} {ok : Bool} (s : State) (ring v : Nat) (hw : Kept q h k ok s) :
    Kept q h k ok (keepTail s ring v) := by
  unfold keepTail
  try dsimp only
  repeat' (first
    | with_reducible assumption | with_reducible refine kept_modPw ?_ | with_reducible apply kept_fireWake
    | with_reducible refine kept_ite ?_ ?_ | (intro _) | split | dsimp only)

theorem kept_scanWatch {q : List Instr} {h k : Option Nat} {ok : Bool} (s : State) (iq : List (Int × Int)) (hw : Kept q h k ok s) :
    Kept q h k ok (scanWatch s iq) := by
  unfold scanWatch
  try dsimp only
  repeat' (first
    | with_reducible assumption | with_reducible apply kept_modPort | with_reducible refine kept_modPw ?_
    | with_reducible apply kept_fireWake | with_reducible refine kept_foldl ?_ ?_
    | with_reducible refine kept_foldl_1 ?_ ?_ | with_reducible refine kept_foldl_2 ?_ ?_
    | with_reducible refine kept_foldl_22 ?_ ?_ | with_reducible refine kept_ite ?_ ?_ | (intro _) | split | dsimp only)

theorem kept_trigWake {q : List Instr} {h k : Option Nat} {ok : Bool} (s : State) (c : Nat) (hw : Kept q h k ok s) :
    Kept q h k ok (trigWake s c) := by
  unfold trigWake
  try dsimp only
  repeat' (first
    | with_reducible assumption | with_reducible apply kept_fireWake | with_reducible refine kept_ite ?_ ?_ | (intro _)
    | split | dsimp only)

theorem kept_wakeWrite {q : List Instr} {h k : Option Nat} {ok : Bool} (s : State) (p : Nat) (b : Byte) (hw : Kept q h k ok s) :
    Kept q h k ok (wakeWrite s p b) := by
  unfold wakeWrite
  try dsimp only
  repeat' (first
    | with_reducible assumption | with_reducible refine kept_modPw ?_ | with_reducible refine kept_ite ?_ ?_ | (intro _)
    | split | dsimp only)

theorem kept_wakeWrites {q : List Instr} {h k : Option Nat} {ok : Bool} (s : State) (p : Nat) (l : List Byte) (hw : Kept q h k ok s) : Kept q h k ok (wakeWrites s p l) := by
  induction l generalizing s p with
  | nil => exact hw
  | cons b l ih => exact ih _ _ (kept_wakeWrite _ _ _ hw)

theorem kept_i2cWrite {q : List Instr} {h k : Option Nat} {ok : Bool} (s : State) (addr : Nat) (data : List Byte) (hw : Kept q h k ok s) :
    Kept q h k ok (i2cWrite s addr data) := by
  unfold i2cWrite
  try dsimp only
  repeat' (first
    | with_reducible assumption | with_reducible refine kept_modPw ?_ | with_reducible apply kept_wakeWrites
    | with_reducible apply kept_fireWake | with_reducible refine kept_ite ?_ ?_ | (intro _) | split | dsimp only)

theorem kept_i2cRead {q : List Instr} {h k : Option Nat} {ok : Bool} (s : State) (n : Nat) (hw : Kept q h k ok s) :
    Kept q h k ok (i2cRead s n) := by
  unfold i2cRead
  try dsimp only
  repeat' (first
    | with_reducible assumption | with_reducible refine kept_modPw ?_ | with_reducible refine kept_ite ?_ ?_ | (intro _)
    | split | dsimp only)

theorem kept_startPowerState {q : List Instr} {h k : Option Nat} {ok : Bool} (s : State) (f : Flight) (hw : Kept q h k ok s) :
    Kept q h k ok (startPowerState s f) := by
  unfold startPowerState
  try dsimp only
  repeat' (first
    | with_reducible assumption | with_reducible apply kept_await | with_reducible refine kept_ite ?_ ?_ | (intro _)
    | split | dsimp only)

theorem kept_startPowerRetain {q : List Instr} {h k : Option Nat} {ok : Bool} (s : State) (f : Flight) (hw : Kept q h k ok s) :
    Kept q h k ok (startPowerRetain s f) := by
  unfold startPowerRetain
  try dsimp only
  repeat' (first
    | with_reducible assumption | with_reducible apply kept_finishDone | with_reducible apply kept_writeRetain
    | with_reducible refine kept_ite ?_ ?_ | (intro _) | split | dsimp only)

theorem kept_applyPowerGate {q : List Instr} {h k : Option Nat} {ok : Bool} (s : State) (d : Descriptor) (hw : Kept q h k ok s) :
    Kept q h k ok (applyPowerGate s d) := by
  unfold applyPowerGate
  try dsimp only
  repeat' (first
    | with_reducible assumption | with_reducible refine kept_modPw ?_ | with_reducible refine kept_ite ?_ ?_ | (intro _)
    | split | dsimp only)

theorem kept_startWakeConfig {q : List Instr} {h k : Option Nat} {ok : Bool} (s : State) (f : Flight) (hw : Kept q h k ok s) :
    Kept q h k ok (startWakeConfig s f) := by
  unfold startWakeConfig
  try dsimp only
  repeat' (first
    | with_reducible assumption | with_reducible apply kept_finishDone | with_reducible refine kept_modPw ?_
    | with_reducible refine kept_ite ?_ ?_ | (intro _) | split | dsimp only)

end Sys2Proof.Machine
end

