-- ==== Sys2Proof/Laws/KeptBootOps.lean ====
section
/-! SUPPORT. What the operations of Machine/BootOps.lean keep. -/

namespace Sys2Proof.Machine

theorem kept_applyTelltales {q : List Instr} {h k : Option Nat} {ok : Bool} (s : State) (body : List Byte) (hw : Kept q h k ok s) :
    Kept q h k ok (applyTelltales s body) := by
  unfold applyTelltales
  try dsimp only
  repeat' (first
    | with_reducible assumption | with_reducible apply kept_writeBytes | with_reducible apply kept_noteMoved
    | with_reducible apply kept_setPalette | with_reducible apply kept_setSprite
    | with_reducible apply kept_beginTraining | with_reducible apply kept_modHead | with_reducible refine kept_modAu ?_
    | with_reducible refine kept_foldl ?_ ?_ | with_reducible refine kept_ite ?_ ?_ | (intro _) | split | dsimp only)

theorem kept_acceptImage {q : List Instr} {h k : Option Nat} {ok : Bool} (s : State) (b : List Byte) (good : List Bool) (pcie : Bool) (hw : Kept q h k ok s) :
    Kept q h k ok (acceptImage s b good pcie) := by
  unfold acceptImage
  try dsimp only
  repeat' (first
    | with_reducible assumption | with_reducible apply kept_freshValue | with_reducible apply kept_applySecurity
    | with_reducible apply kept_applyTelltales | with_reducible refine kept_modDram ?_ ?_
    | with_reducible refine kept_modWd ?_ | with_reducible refine kept_modPw ?_ | with_reducible apply kept_assert
    | with_reducible apply kept_openDevice | with_reducible refine kept_ite ?_ ?_ | (exact fun _ e => e)
    | exact Mem.wf_wrs _ _ _ (by assumption) | exact Mem.wf_wipe _ _ _ (by assumption) | (intro _) | split | dsimp only)

theorem kept_failSlot {q : List Instr} {h k : Option Nat} {ok : Bool} (s : State) (slot : Nat) (hw : Kept q h k ok s) :
    Kept q h k ok (failSlot s slot) := by
  unfold failSlot
  try dsimp only
  repeat' (first
    | with_reducible assumption | with_reducible refine kept_modPw ?_ | with_reducible apply kept_assert
    | with_reducible refine kept_ite ?_ ?_ | (intro _) | split | dsimp only)

theorem kept_loadImage {q : List Instr} {h k : Option Nat} {ok : Bool} (s : State) (slot : Nat) (b : List Byte) (good : List Bool) (hw : Kept q h k ok s) :
    Kept q h k ok (loadImage s slot b good) := by
  unfold loadImage
  try dsimp only
  repeat' (first
    | with_reducible assumption | with_reducible apply kept_acceptImage | with_reducible apply kept_failSlot
    | with_reducible refine kept_modPw ?_ | with_reducible apply kept_goCold | with_reducible refine kept_ite ?_ ?_
    | (intro _) | split | dsimp only)

theorem kept_bootGo {q : List Instr} {h k : Option Nat} {ok : Bool} (s : State) (v : Nat) (hw : Kept q h k ok s) :
    Kept q h k ok (bootGo s v) := by
  unfold bootGo
  try dsimp only
  repeat' (first
    | with_reducible assumption | with_reducible refine kept_modPw ?_ | with_reducible refine kept_ite ?_ ?_ | (intro _)
    | split | dsimp only)

theorem kept_bootWrite {q : List Instr} {h k : Option Nat} {ok : Bool} (s : State) (ofs v : Nat) (hw : Kept q h k ok s) :
    Kept q h k ok (bootWrite s ofs v) := by
  unfold bootWrite
  try dsimp only
  repeat' (first
    | with_reducible assumption | with_reducible refine kept_modPw ?_ | with_reducible apply kept_bootGo
    | with_reducible refine kept_ite ?_ ?_ | (intro _) | split | dsimp only)

theorem kept_checkRanks {q : List Instr} {h k : Option Nat} {ok : Bool} (s : State) (good : Nat) (hw : Kept q h k ok s) :
    Kept q h k ok (checkRanks s good) := by
  unfold checkRanks
  try dsimp only
  repeat' (first
    | with_reducible assumption | with_reducible apply kept_modRank | with_reducible refine kept_modDram ?_ ?_
    | with_reducible apply kept_assert | with_reducible apply kept_raise | with_reducible refine kept_foldl ?_ ?_
    | with_reducible refine kept_foldl_1 ?_ ?_ | with_reducible refine kept_foldl_2 ?_ ?_
    | with_reducible refine kept_foldl_22 ?_ ?_ | with_reducible refine kept_ite ?_ ?_ | (exact fun _ e => e)
    | exact Mem.wf_wrs _ _ _ (by assumption) | exact Mem.wf_wipe _ _ _ (by assumption) | (intro _) | split | dsimp only)

theorem kept_trainingEnds {q : List Instr} {h k : Option Nat} {ok : Bool} (s : State) (gib present good : Nat) (hw : Kept q h k ok s) :
    Kept q h k ok (trainingEnds s gib present good) := by
  unfold trainingEnds
  try dsimp only
  repeat' (first
    | with_reducible assumption | with_reducible apply kept_openDevice | with_reducible apply kept_endTraining
    | with_reducible apply kept_checkRanks | with_reducible refine kept_ite ?_ ?_ | (intro _) | split | dsimp only)

end Sys2Proof.Machine
end

