-- ==== Sys2Proof/Laws/KeptEventOps.lean ====
section
/-! SUPPORT. What the operations of Machine/EventOps.lean keep. -/

namespace Sys2Proof.Machine

theorem kept_claimEvent {q : List Instr} {h k : Option Nat} {ok : Bool} (s : State) (p : Nat) (hw : Kept q h k ok s) :
    Kept q h k ok (claimEvent s p) := by
  unfold claimEvent
  try dsimp only
  repeat' (first
    | with_reducible assumption | with_reducible apply kept_setEvSrc | with_reducible apply kept_setEvRing
    | with_reducible apply kept_issueRecord | with_reducible refine kept_ite ?_ ?_ | (intro _) | split | dsimp only)

theorem kept_ackRecord {q : List Instr} {h k : Option Nat} {ok : Bool} (s : State) (r : Nat × Nat × Bool) (hw : Kept q h k ok s) :
    Kept q h k ok (ackRecord s r) := by
  unfold ackRecord
  try dsimp only
  repeat' (first
    | with_reducible assumption | with_reducible apply kept_setEvSrc | with_reducible refine kept_ite ?_ ?_ | (intro _)
    | split | dsimp only)

theorem kept_dropRecord {q : List Instr} {h k : Option Nat} {ok : Bool} (s : State) (r : Nat × Nat × Bool) (hw : Kept q h k ok s) :
    Kept q h k ok (dropRecord s r) := by
  unfold dropRecord
  try dsimp only
  repeat' (first
    | with_reducible assumption | with_reducible apply kept_setEvSrc | with_reducible refine kept_ite ?_ ?_ | (intro _)
    | split | dsimp only)

theorem kept_disableEvRing {q : List Instr} {h k : Option Nat} {ok : Bool} (s : State) (p : Nat) (hw : Kept q h k ok s) :
    Kept q h k ok (disableEvRing s p) := by
  unfold disableEvRing
  try dsimp only
  repeat' (first
    | with_reducible assumption | with_reducible apply kept_dropRecord | with_reducible apply kept_modFn
    | with_reducible apply kept_setEvRing | with_reducible refine kept_foldl ?_ ?_
    | with_reducible refine kept_ite ?_ ?_ | (intro _) | split | dsimp only)

theorem kept_startEventRingConfig {q : List Instr} {h k : Option Nat} {ok : Bool} (s : State) (f : Flight) (hw : Kept q h k ok s) :
    Kept q h k ok (startEventRingConfig s f) := by
  unfold startEventRingConfig
  try dsimp only
  repeat' (first
    | with_reducible assumption | with_reducible apply kept_finishDone | with_reducible apply kept_disableEvRing
    | with_reducible apply kept_setEvRing | with_reducible refine kept_ite ?_ ?_ | (intro _) | split | dsimp only)

theorem kept_startEventTarget {q : List Instr} {h k : Option Nat} {ok : Bool} (s : State) (f : Flight) (hw : Kept q h k ok s) :
    Kept q h k ok (startEventTarget s f) := by
  unfold startEventTarget
  try dsimp only
  repeat' (first
    | with_reducible assumption | with_reducible apply kept_finishDone | with_reducible apply kept_modTen
    | with_reducible apply kept_setEvSrc | with_reducible refine kept_ite ?_ ?_ | (intro _) | split | dsimp only)

theorem kept_startEventMask {q : List Instr} {h k : Option Nat} {ok : Bool} (s : State) (f : Flight) (hw : Kept q h k ok s) :
    Kept q h k ok (startEventMask s f) := by
  unfold startEventMask
  try dsimp only
  repeat' (first
    | with_reducible assumption | with_reducible apply kept_setEvSrc | with_reducible apply kept_finishDone
    | with_reducible refine kept_foldl ?_ ?_ | with_reducible refine kept_ite ?_ ?_ | (intro _) | split | dsimp only)

theorem kept_startEventPendSet {q : List Instr} {h k : Option Nat} {ok : Bool} (s : State) (f : Flight) (hw : Kept q h k ok s) :
    Kept q h k ok (startEventPendSet s f) := by
  unfold startEventPendSet
  try dsimp only
  repeat' (first
    | with_reducible assumption | with_reducible apply kept_finishDone | with_reducible apply kept_setEvSrc
    | with_reducible refine kept_ite ?_ ?_ | (intro _) | split | dsimp only)

theorem kept_startEventGlobalDisable {q : List Instr} {h k : Option Nat} {ok : Bool} (s : State) (f : Flight) (hw : Kept q h k ok s) :
    Kept q h k ok (startEventGlobalDisable s f) := by
  unfold startEventGlobalDisable
  try dsimp only
  repeat' (first
    | with_reducible assumption | with_reducible apply kept_finishDone | with_reducible refine kept_modEv ?_
    | with_reducible refine kept_ite ?_ ?_ | (intro _) | split | dsimp only)

theorem kept_startEventStatus {q : List Instr} {h k : Option Nat} {ok : Bool} (s : State) (f : Flight) (hw : Kept q h k ok s) :
    Kept q h k ok (startEventStatus s f) := by
  unfold startEventStatus
  try dsimp only
  repeat' (first
    | with_reducible assumption | with_reducible apply kept_finishDone | with_reducible apply kept_hostWrite
    | with_reducible refine kept_ite ?_ ?_ | (intro _) | split | dsimp only)

end Sys2Proof.Machine
end

