-- ==== Sys2Proof/Laws/KeptHostOps.lean ====
section
/-! SUPPORT. What the operations of Machine/HostOps.lean keep. -/

namespace Sys2Proof.Machine

theorem kept_resequence {q : List Instr} {h k : Option Nat} {ok : Bool} (s : State) (f : Nat) (hw : Kept q h k ok s) :
    Kept q h k ok (resequence s f) := by
  unfold resequence
  try dsimp only
  repeat' (first
    | with_reducible assumption | with_reducible refine kept_modVisible ?_ | with_reducible refine kept_foldl ?_ ?_
    | with_reducible refine kept_foldl_1 ?_ ?_ | with_reducible refine kept_foldl_2 ?_ ?_
    | with_reducible refine kept_foldl_22 ?_ ?_ | with_reducible refine kept_ite ?_ ?_ | (intro _) | split | dsimp only)

theorem kept_makeVisible {q : List Instr} {h k : Option Nat} {ok : Bool} (f r n : Nat) (s : State) (hw : Kept q h k ok s) : Kept q h k ok (makeVisible f r n s) := by
  induction n generalizing s with
  | zero => exact hw
  | succ n ih =>
    unfold makeVisible
    dsimp only
    refine kept_ite hw (ih _ (kept_setCr _ _ _ _ (kept_modTen _ _ _ (kept_modVisible hw))))

theorem kept_showDescriptors {q : List Instr} {h k : Option Nat} {ok : Bool} (s : State) (f r : Nat) (hw : Kept q h k ok s) :
    Kept q h k ok (showDescriptors s f r) := by
  unfold showDescriptors
  try dsimp only
  repeat' (first
    | with_reducible assumption | with_reducible apply kept_resequence | with_reducible apply kept_makeVisible
    | with_reducible refine kept_ite ?_ ?_ | (intro _) | split | dsimp only)

theorem kept_markErr {q : List Instr} {h k : Option Nat} {ok : Bool} (s : State) (f r bit : Nat) (hw : Kept q h k ok s) :
    Kept q h k ok (markErr s f r bit) := by
  unfold markErr
  try dsimp only
  repeat' (first
    | with_reducible assumption | with_reducible apply kept_modCr | with_reducible refine kept_ite ?_ ?_ | (intro _)
    | split | dsimp only)

theorem kept_clearErr {q : List Instr} {h k : Option Nat} {ok : Bool} (s : State) (f r v : Nat) (hw : Kept q h k ok s) :
    Kept q h k ok (clearErr s f r v) := by
  unfold clearErr
  try dsimp only
  repeat' (first
    | with_reducible assumption | with_reducible apply kept_modCr | with_reducible refine kept_ite ?_ ?_ | (intro _)
    | split | dsimp only)

theorem kept_dbError {q : List Instr} {h k : Option Nat} {ok : Bool} (s : State) (f r : Nat) (hw : Kept q h k ok s) :
    Kept q h k ok (dbError s f r) := by
  unfold dbError
  try dsimp only
  repeat' (first
    | with_reducible assumption | with_reducible apply kept_markErr | with_reducible refine kept_ite ?_ ?_ | (intro _)
    | split | dsimp only)

theorem kept_ringDoorbell {q : List Instr} {h k : Option Nat} {ok : Bool} (s : State) (f r v : Nat) (hw : Kept q h k ok s) :
    Kept q h k ok (ringDoorbell s f r v) := by
  unfold ringDoorbell
  try dsimp only
  repeat' (first
    | with_reducible assumption | with_reducible apply kept_dbError | with_reducible apply kept_setCr
    | with_reducible apply kept_showDescriptors | with_reducible refine kept_ite ?_ ?_ | (intro _) | split | dsimp only)

theorem kept_completionDoorbell {q : List Instr} {h k : Option Nat} {ok : Bool} (s : State) (f r v : Nat) (hw : Kept q h k ok s) :
    Kept q h k ok (completionDoorbell s f r v) := by
  unfold completionDoorbell
  try dsimp only
  repeat' (first
    | with_reducible assumption | with_reducible apply kept_dbError | with_reducible apply kept_setCr
    | with_reducible apply kept_sendMessage | with_reducible apply kept_showDescriptors
    | with_reducible refine kept_ite ?_ ?_ | (intro _) | split | dsimp only)

theorem kept_eventDoorbell {q : List Instr} {h k : Option Nat} {ok : Bool} (s : State) (f n p v : Nat) (hw : Kept q h k ok s) :
    Kept q h k ok (eventDoorbell s f n p v) := by
  unfold eventDoorbell
  try dsimp only
  repeat' (first
    | with_reducible assumption | with_reducible apply kept_modFn | with_reducible apply kept_ackRecord
    | with_reducible apply kept_setEvRing | with_reducible apply kept_sendMessage
    | with_reducible refine kept_foldl ?_ ?_ | with_reducible refine kept_ite ?_ ?_ | (intro _) | split | dsimp only)

theorem kept_passHead {q : List Instr} {h k : Option Nat} {ok : Bool} (f r n : Nat) (s : State) (hw : Kept q h k ok s) : Kept q h k ok (passHead f r n s) := by
  induction n generalizing s with
  | zero => exact hw
  | succ n ih =>
    unfold passHead
    dsimp only
    split
    · exact kept_ite (ih _ (kept_setCr _ _ _ _ (kept_modVisible hw))) hw
    · exact hw

theorem kept_passHeads {q : List Instr} {h k : Option Nat} {ok : Bool} (s : State) (f r : Nat) (hw : Kept q h k ok s) :
    Kept q h k ok (passHeads s f r) := by
  unfold passHeads
  try dsimp only
  repeat' (first
    | with_reducible assumption | with_reducible apply kept_passHead | with_reducible refine kept_ite ?_ ?_ | (intro _)
    | split | dsimp only)

theorem kept_fetched {q : List Instr} {h k : Option Nat} {ok : Bool} (s : State) (src : CmdSrc) (g : Visible → Visible) (hw : Kept q h k ok s) :
    Kept q h k ok (fetched s src g) := by
  unfold fetched
  try dsimp only
  repeat' (first
    | with_reducible assumption | with_reducible refine kept_modVisible ?_ | with_reducible apply kept_passHeads
    | with_reducible refine kept_ite ?_ ?_ | (intro _) | split | dsimp only)

theorem kept_fetchFailed {q : List Instr} {h k : Option Nat} {ok : Bool} (s : State) (src : CmdSrc) (status : Nat) (hw : Kept q h k ok s) :
    Kept q h k ok (fetchFailed s src status) := by
  unfold fetchFailed
  try dsimp only
  repeat' (first
    | with_reducible assumption | with_reducible apply kept_fetched | with_reducible apply kept_markErr
    | with_reducible refine kept_ite ?_ ?_ | (intro _) | split | dsimp only)

theorem kept_descriptorArrives {q : List Instr} {h k : Option Nat} {ok : Bool} (s : State) (src : CmdSrc) (how : Arrival) (hw : Kept q h k ok s) :
    Kept q h k ok (descriptorArrives s src how) := by
  unfold descriptorArrives
  try dsimp only
  repeat' (first
    | with_reducible assumption | with_reducible apply kept_fetched | with_reducible apply kept_fetchFailed
    | with_reducible apply kept_noteAer | with_reducible refine kept_ite ?_ ?_ | (intro _) | split | dsimp only)

theorem kept_descriptorLate {q : List Instr} {h k : Option Nat} {ok : Bool} (s : State) (src : CmdSrc) (hw : Kept q h k ok s) :
    Kept q h k ok (descriptorLate s src) := by
  unfold descriptorLate
  try dsimp only
  repeat' (first
    | with_reducible assumption | with_reducible apply kept_fetchFailed | with_reducible refine kept_ite ?_ ?_
    | (intro _) | split | dsimp only)

theorem kept_failedCompletion {q : List Instr} {h k : Option Nat} {ok : Bool} (s : State) (v : Visible) (hw : Kept q h k ok s) :
    Kept q h k ok (failedCompletion s v) := by
  unfold failedCompletion
  try dsimp only
  repeat' (first
    | with_reducible assumption | with_reducible refine kept_modVisible ?_ | with_reducible apply kept_modCr
    | with_reducible apply kept_issueRecord | with_reducible apply kept_settleRing
    | with_reducible refine kept_ite ?_ ?_ | (intro _) | split | dsimp only)

theorem kept_cfgError {q : List Instr} {h k : Option Nat} {ok : Bool} (s : State) (f r : Nat) (hw : Kept q h k ok s) :
    Kept q h k ok (cfgError s f r) := by
  unfold cfgError
  try dsimp only
  repeat' (first
    | with_reducible assumption | with_reducible apply kept_markErr | with_reducible refine kept_ite ?_ ?_ | (intro _)
    | split | dsimp only)

theorem kept_enableCommandRing {q : List Instr} {h k : Option Nat} {ok : Bool} (s : State) (f r v : Nat) (hw : Kept q h k ok s) :
    Kept q h k ok (enableCommandRing s f r v) := by
  unfold enableCommandRing
  try dsimp only
  repeat' (first
    | with_reducible assumption | with_reducible apply kept_cfgError | with_reducible apply kept_setCr
    | with_reducible refine kept_ite ?_ ?_ | (intro _) | split | dsimp only)

theorem kept_disableCommandRing {q : List Instr} {h k : Option Nat} {ok : Bool} (s : State) (f r v : Nat) (hw : Kept q h k ok s) :
    Kept q h k ok (disableCommandRing s f r v) := by
  unfold disableCommandRing
  try dsimp only
  repeat' (first
    | with_reducible assumption | with_reducible apply kept_settleRing | with_reducible apply kept_setCr
    | with_reducible refine kept_ite ?_ ?_ | (intro _) | split | dsimp only)

theorem kept_enableCompletionRing {q : List Instr} {h k : Option Nat} {ok : Bool} (s : State) (f r v : Nat) (hw : Kept q h k ok s) :
    Kept q h k ok (enableCompletionRing s f r v) := by
  unfold enableCompletionRing
  try dsimp only
  repeat' (first
    | with_reducible assumption | with_reducible apply kept_setCr | with_reducible apply kept_cfgError
    | with_reducible refine kept_ite ?_ ?_ | (intro _) | split | dsimp only)

theorem kept_disableCompletionRing {q : List Instr} {h k : Option Nat} {ok : Bool} (s : State) (f r v : Nat) (hw : Kept q h k ok s) :
    Kept q h k ok (disableCompletionRing s f r v) := by
  unfold disableCompletionRing
  try dsimp only
  repeat' (first
    | with_reducible assumption | with_reducible apply kept_setCr | with_reducible refine kept_ite ?_ ?_ | (intro _)
    | split | dsimp only)

theorem kept_latchTlc {q : List Instr} {h k : Option Nat} {ok : Bool} (s : State) (f : Nat) (hw : Kept q h k ok s) :
    Kept q h k ok (latchTlc s f) := by
  unfold latchTlc
  try dsimp only
  repeat' (first
    | with_reducible assumption | with_reducible apply kept_modFn | with_reducible refine kept_ite ?_ ?_ | (intro _)
    | split | dsimp only)

theorem kept_windowEnds {q : List Instr} {h k : Option Nat} {ok : Bool} (s : State) (f vec : Nat) (hw : Kept q h k ok s) :
    Kept q h k ok (windowEnds s f vec) := by
  unfold windowEnds
  try dsimp only
  repeat' (first
    | with_reducible assumption | with_reducible apply kept_sendMessage | with_reducible apply kept_setCr
    | with_reducible apply kept_setEvRing | with_reducible refine kept_ite ?_ ?_ | (intro _) | split | dsimp only)

theorem kept_sendPending {q : List Instr} {h k : Option Nat} {ok : Bool} (f : Nat) (s : State) (vec : Nat) (hw : Kept q h k ok s) :
    Kept q h k ok (sendPending f s vec) := by
  unfold sendPending
  try dsimp only
  repeat' (first
    | with_reducible assumption | with_reducible apply kept_setFn | with_reducible refine kept_modPcie ?_
    | with_reducible refine kept_ite ?_ ?_ | (intro _) | split | dsimp only)

theorem kept_unmask {q : List Instr} {h k : Option Nat} {ok : Bool} (s : State) (f : Nat) (vec : Option Nat) (hw : Kept q h k ok s) :
    Kept q h k ok (unmask s f vec) := by
  unfold unmask
  try dsimp only
  repeat' (first
    | with_reducible assumption | with_reducible apply kept_sendPending | with_reducible apply kept_modFn
    | with_reducible refine kept_foldl ?_ ?_ | with_reducible refine kept_ite ?_ ?_ | (intro _) | split | dsimp only)

theorem kept_releaseHeldRecords {q : List Instr} {h k : Option Nat} {ok : Bool} (s : State) (f : Nat) (hw : Kept q h k ok s) :
    Kept q h k ok (releaseHeldRecords s f) := by
  unfold releaseHeldRecords
  try dsimp only
  repeat' (first
    | with_reducible assumption | with_reducible apply kept_modFn | with_reducible apply kept_putRecord
    | with_reducible refine kept_foldl ?_ ?_ | with_reducible refine kept_ite ?_ ?_ | (intro _) | split | dsimp only)

theorem kept_settleWake {q : List Instr} {h k : Option Nat} {ok : Bool} (s : State) (hw : Kept q h k ok s) :
    Kept q h k ok (settleWake s) := by
  unfold settleWake
  try dsimp only
  repeat' (first
    | with_reducible assumption | with_reducible refine kept_modPcie ?_ | with_reducible refine kept_ite ?_ ?_
    | (intro _) | split | dsimp only)

theorem kept_enterD3 {q : List Instr} {h k : Option Nat} {ok : Bool} (s : State) (f : Nat) (hw : Kept q h k ok s) :
    Kept q h k ok (enterD3 s f) := by
  unfold enterD3
  try dsimp only
  repeat' (first
    | with_reducible assumption | with_reducible apply kept_modFn | with_reducible apply kept_modCr
    | with_reducible apply kept_setEvRing | with_reducible apply kept_signalHeld
    | with_reducible refine kept_foldl ?_ ?_ | with_reducible refine kept_ite ?_ ?_ | (intro _) | split | dsimp only)

theorem kept_wakeFunction {q : List Instr} {h k : Option Nat} {ok : Bool} (s : State) (f : Nat) (hw : Kept q h k ok s) :
    Kept q h k ok (wakeFunction s f) := by
  unfold wakeFunction
  try dsimp only
  repeat' (first
    | with_reducible assumption | with_reducible apply kept_releaseHeldRecords | with_reducible apply kept_flushMessages
    | with_reducible refine kept_ite ?_ ?_ | (intro _) | split | dsimp only)

theorem kept_returnD0 {q : List Instr} {h k : Option Nat} {ok : Bool} (s : State) (f : Nat) (hw : Kept q h k ok s) :
    Kept q h k ok (returnD0 s f) := by
  unfold returnD0
  try dsimp only
  repeat' (first
    | with_reducible assumption | with_reducible apply kept_wakeFunction | with_reducible apply kept_settleWake
    | with_reducible apply kept_modFn | with_reducible refine kept_ite ?_ ?_ | (intro _) | split | dsimp only)

theorem kept_ringWrite {q : List Instr} {h k : Option Nat} {ok : Bool} (s : State) (f r o v : Nat) (hw : Kept q h k ok s) :
    Kept q h k ok (ringWrite s f r o v) := by
  unfold ringWrite
  try dsimp only
  repeat' (first
    | with_reducible assumption | with_reducible apply kept_setCr | with_reducible apply kept_enableCommandRing
    | with_reducible apply kept_disableCommandRing | with_reducible apply kept_ringDoorbell
    | with_reducible apply kept_clearErr | with_reducible apply kept_enableCompletionRing
    | with_reducible apply kept_disableCompletionRing | with_reducible apply kept_completionDoorbell
    | with_reducible refine kept_ite ?_ ?_ | (intro _) | split | dsimp only)

theorem kept_pageWrite {q : List Instr} {h k : Option Nat} {ok : Bool} (s : State) (f o v width : Nat) (hw : Kept q h k ok s) :
    Kept q h k ok (pageWrite s f o v width) := by
  unfold pageWrite
  try dsimp only
  repeat' (first
    | with_reducible assumption | with_reducible apply kept_keepTail | with_reducible apply kept_modFn
    | with_reducible apply kept_ringWrite | with_reducible apply kept_eventDoorbell
    | with_reducible refine kept_ite ?_ ?_ | (intro _) | split | dsimp only)

theorem kept_msixWrite {q : List Instr} {h k : Option Nat} {ok : Bool} (s : State) (f o v : Nat) (hw : Kept q h k ok s) :
    Kept q h k ok (msixWrite s f o v) := by
  unfold msixWrite
  try dsimp only
  repeat' (first
    | with_reducible assumption | with_reducible apply kept_modFn | with_reducible apply kept_sendPending
    | with_reducible refine kept_ite ?_ ?_ | (intro _) | split | dsimp only)

theorem kept_startHostSuspend {q : List Instr} {h k : Option Nat} {ok : Bool} (s : State) (f : Flight) (hw : Kept q h k ok s) :
    Kept q h k ok (startHostSuspend s f) := by
  unfold startHostSuspend
  try dsimp only
  repeat' (first
    | with_reducible assumption | with_reducible apply kept_finishDone | with_reducible apply kept_flushMessages
    | with_reducible refine kept_ite ?_ ?_ | (intro _) | split | dsimp only)

end Sys2Proof.Machine
end

