-- ==== Sys2Proof/Laws/KeptKarbobinOps.lean ====
section
/-! SUPPORT. What the operations of Machine/KarbobinOps.lean keep. -/

namespace Sys2Proof.Machine

theorem kept_beginZeroise {q : List Instr} {h k : Option Nat} {ok : Bool} (s : State) (shelves plots : List Nat) (hw : Kept q h k ok s) :
    Kept q h k ok (beginZeroise s shelves plots) := by
  unfold beginZeroise
  try dsimp only
  repeat' (first
    | with_reducible assumption | with_reducible apply kept_zeroiseShelf | with_reducible apply kept_zeroisePlot
    | with_reducible refine kept_foldl ?_ ?_ | with_reducible refine kept_ite ?_ ?_ | (intro _) | split | dsimp only)

theorem kept_withdrawUnits {q : List Instr} {h k : Option Nat} {ok : Bool} (s : State) (r : Nat × Grants) (hw : Kept q h k ok s) :
    Kept q h k ok (withdrawUnits s r) := by
  unfold withdrawUnits
  try dsimp only
  repeat' (first
    | with_reducible assumption | with_reducible apply kept_modTen | with_reducible refine kept_ite ?_ ?_ | (intro _)
    | split | dsimp only)

theorem kept_acceptLoad {q : List Instr} {h k : Option Nat} {ok : Bool} (s : State) (f : Flight) (whole : Bool) (recs : List (Nat × Grants)) (ws : Option (List (List Nat))) (hw : Kept q h k ok s) :
    Kept q h k ok (acceptLoad s f whole recs ws) := by
  unfold acceptLoad
  try dsimp only
  repeat' (first
    | with_reducible assumption | with_reducible refine kept_modLoads ?_ | with_reducible apply kept_modTen
    | with_reducible apply kept_beginZeroise | with_reducible apply kept_withdrawUnits | with_reducible apply kept_await
    | with_reducible refine kept_foldl ?_ ?_ | with_reducible refine kept_foldl_1 ?_ ?_
    | with_reducible refine kept_foldl_2 ?_ ?_ | with_reducible refine kept_foldl_22 ?_ ?_
    | with_reducible refine kept_ite ?_ ?_ | (intro _) | split | dsimp only)

theorem kept_partitionRead {q : List Instr} {h k : Option Nat} {ok : Bool} (s : State) (f : Flight) (b : List Byte) (hw : Kept q h k ok s) :
    Kept q h k ok (partitionRead s f b) := by
  unfold partitionRead
  try dsimp only
  repeat' (first
    | with_reducible assumption | with_reducible apply kept_finish | with_reducible apply kept_acceptLoad
    | with_reducible refine kept_ite ?_ ?_ | (intro _) | split | dsimp only)

theorem kept_dropStream {q : List Instr} {h k : Option Nat} {ok : Bool} (s : State) (n : Nat) (hw : Kept q h k ok s) :
    Kept q h k ok (dropStream s n) := by
  unfold dropStream
  try dsimp only
  repeat' (first
    | with_reducible assumption | with_reducible refine kept_modSr ?_ ?_ | with_reducible refine kept_ite ?_ ?_
    | (exact fun _ e => e) | exact Mem.wf_wrs _ _ _ (by assumption) | exact Mem.wf_wipe _ _ _ (by assumption)
    | (intro _) | split | dsimp only)

theorem kept_dropInput {q : List Instr} {h k : Option Nat} {ok : Bool} (s : State) (i : Nat) (hw : Kept q h k ok s) :
    Kept q h k ok (dropInput s i) := by
  unfold dropInput
  try dsimp only
  repeat' (first
    | with_reducible assumption | with_reducible refine kept_modAudio ?_ | with_reducible refine kept_modCharges ?_
    | with_reducible refine kept_foldl ?_ ?_ | with_reducible refine kept_foldl_1 ?_ ?_
    | with_reducible refine kept_foldl_2 ?_ ?_ | with_reducible refine kept_foldl_22 ?_ ?_
    | with_reducible refine kept_ite ?_ ?_ | (intro _) | split | dsimp only)

/-- A pool whose objects come and go without touching what is kept. -/
structure KeepsPool (q : List Instr) (h k : Option Nat) (ok : Bool) (p : Pool) : Prop where
  give : ∀ s o t n, Kept q h k ok s → Kept q h k ok (p.give s o t n)
  free : ∀ s o, Kept q h k ok s → Kept q h k ok (p.free s o)

theorem evPool_keeps {q : List Instr} {h k : Option Nat} {ok : Bool} : KeepsPool q h k ok evPool :=
  ⟨fun _ _ _ _ w => kept_setEvRing _ _ _ w, fun _ _ w => kept_setEvRing _ _ _ (kept_ite (kept_disableEvRing _ _ w) w)⟩

theorem chanPool_keeps {q : List Instr} {h k : Option Nat} {ok : Bool} : KeepsPool q h k ok chanPool :=
  ⟨fun _ _ _ _ w => kept_renewSource _ _ (kept_setChan _ _ _ w), fun _ _ w => kept_renewSource _ _ (kept_setChan _ _ _ w)⟩

theorem streamPool_keeps {q : List Instr} {h k : Option Nat} {ok : Bool} : KeepsPool q h k ok streamPool :=
  ⟨fun _ _ _ _ w => kept_renewSource _ _ (kept_modStream _ _ _ (kept_dropStream _ _ w)),
    fun _ _ w => kept_renewSource _ _ (kept_modStream _ _ _ (kept_dropStream _ _ w))⟩

theorem inputPool_keeps {q : List Instr} {h k : Option Nat} {ok : Bool} : KeepsPool q h k ok inputPool :=
  ⟨fun _ _ _ _ w => kept_modInput _ _ _ (kept_dropInput _ _ w), fun _ _ w => kept_modInput _ _ _ (kept_dropInput _ _ w)⟩

theorem slotPool_keeps {q : List Instr} {h k : Option Nat} {ok : Bool} : KeepsPool q h k ok slotPool := ⟨fun _ _ _ _ w => w, fun _ _ w => kept_releaseSlot _ _ (kept_modCharges w)⟩

theorem ctxPool_keeps {q : List Instr} {h k : Option Nat} {ok : Bool} : KeepsPool q h k ok ctxPool := ⟨fun _ _ _ _ w => w, fun _ _ w => kept_releaseContext _ _ w⟩

theorem assayPool_keeps {q : List Instr} {h k : Option Nat} {ok : Bool} : KeepsPool q h k ok assayPool :=
  ⟨fun _ _ _ _ w => w, fun _ _ w => kept_renewSource _ _ (kept_setAssay _ _ _ (kept_endBinding _ _ w))⟩

theorem kept_trimPool {q : List Instr} {h k : Option Nat} {ok : Bool} {p : Pool} (hp : KeepsPool q h k ok p) (s : State) (t n : Nat) (hw : Kept q h k ok s) :
    Kept q h k ok (trimPool p s t n) := kept_foldl (fun _ _ w => hp.free _ _ w) hw

theorem kept_growPool {q : List Instr} {h k : Option Nat} {ok : Bool} {p : Pool} (hp : KeepsPool q h k ok p) (s : State) (t : Nat) (hw : Kept q h k ok s) :
    Kept q h k ok (growPool p s t) := by
  unfold growPool
  split
  · exact hp.give _ _ _ _ hw
  · exact hw

theorem kept_fillPool {q : List Instr} {h k : Option Nat} {ok : Bool} {p : Pool} (hp : KeepsPool q h k ok p) (s : State) (t n : Nat) (hw : Kept q h k ok s) :
    Kept q h k ok (fillPool p s t n) := kept_foldl (fun _ _ w => kept_growPool hp _ _ w) hw

theorem kept_fitRings {q : List Instr} {h k : Option Nat} {ok : Bool} (s : State) (t n : Nat) (hw : Kept q h k ok s) :
    Kept q h k ok (fitRings s t n) := by
  unfold fitRings
  try dsimp only
  repeat' (first
    | with_reducible assumption | with_reducible apply kept_setCr | with_reducible apply kept_modTen
    | with_reducible refine kept_foldl ?_ ?_ | with_reducible refine kept_ite ?_ ?_ | (intro _) | split | dsimp only)

theorem kept_fitHaptic {q : List Instr} {h k : Option Nat} {ok : Bool} (s : State) (t mask : Nat) (hw : Kept q h k ok s) :
    Kept q h k ok (fitHaptic s t mask) := by
  unfold fitHaptic
  try dsimp only
  repeat' (first
    | with_reducible assumption | with_reducible apply kept_renewSource | with_reducible apply kept_modHap
    | with_reducible refine kept_foldl ?_ ?_ | with_reducible refine kept_ite ?_ ?_ | (intro _) | split | dsimp only)

theorem kept_dropTouch {q : List Instr} {h k : Option Nat} {ok : Bool} (s : State) (t p : Nat) (hw : Kept q h k ok s) :
    Kept q h k ok (dropTouch s t p) := by
  unfold dropTouch
  try dsimp only
  repeat' (first
    | with_reducible assumption | with_reducible apply kept_modPort | with_reducible refine kept_ite ?_ ?_ | (intro _)
    | split | dsimp only)

theorem kept_fitTouch {q : List Instr} {h k : Option Nat} {ok : Bool} (s : State) (t mask : Nat) (hw : Kept q h k ok s) :
    Kept q h k ok (fitTouch s t mask) := by
  unfold fitTouch
  try dsimp only
  repeat' (first
    | with_reducible assumption | with_reducible apply kept_dropTouch | with_reducible refine kept_foldl ?_ ?_
    | with_reducible refine kept_ite ?_ ?_ | (intro _) | split | dsimp only)

theorem kept_fitObjects {q : List Instr} {h k : Option Nat} {ok : Bool} (s : State) (t : Nat) (g : Grants) (hw : Kept q h k ok s) : Kept q h k ok (fitObjects s t g) := by
  have w := kept_trimPool slotPool_keeps _ t g.layerSlots (kept_trimPool ctxPool_keeps _ t g.gpuContexts
    (kept_trimPool assayPool_keeps _ t g.assayUnits (kept_foldl (f := releaseContext) (l := strayContexts s t g) (fun _ _ w => kept_releaseContext _ _ w) (kept_fitRings s t g.cmdRings hw))))
  have one : ∀ (p : Pool), KeepsPool q h k ok p → ∀ (n : Nat) (s : State), Kept q h k ok s → Kept q h k ok (fillPool p (trimPool p s t n) t n) :=
    fun p hp n s w => kept_fillPool hp _ _ _ (kept_trimPool hp _ _ _ w)
  exact kept_fitTouch _ _ _ (kept_fitHaptic _ _ _ (one _ inputPool_keeps _ _ (one _ streamPool_keeps _ _ (one _ chanPool_keeps _ _ (one _ evPool_keeps _ _ w)))))

theorem kept_vanish {q : List Instr} {h k : Option Nat} {ok : Bool} (s : State) (t : Nat) (hw : Kept q h k ok s) :
    Kept q h k ok (vanish s t) := by
  unfold vanish
  try dsimp only
  repeat' (first
    | with_reducible assumption | with_reducible refine kept_modCharges ?_ | with_reducible apply kept_fitObjects
    | with_reducible refine kept_modSr ?_ ?_ | with_reducible apply kept_modTone | with_reducible apply kept_renewSource
    | with_reducible refine kept_modLg ?_ ?_ | with_reducible apply kept_modFn | with_reducible apply kept_setTen
    | with_reducible refine kept_foldl ?_ ?_ | with_reducible refine kept_ite ?_ ?_ | (exact fun _ _ e => e)
    | (exact fun _ e => e) | exact Mem.wf_wrs _ _ _ (by assumption) | exact Mem.wf_wipe _ _ _ (by assumption)
    | (intro _) | split | dsimp only)

theorem kept_applyRecord {q : List Instr} {h k : Option Nat} {ok : Bool} (s : State) (r : Nat × Grants) (hw : Kept q h k ok s) :
    Kept q h k ok (applyRecord s r) := by
  unfold applyRecord
  try dsimp only
  repeat' (first
    | with_reducible assumption | with_reducible apply kept_setTen | with_reducible apply kept_modTen
    | with_reducible apply kept_fitObjects | with_reducible apply kept_vanish | with_reducible refine kept_ite ?_ ?_
    | (intro _) | split | dsimp only)

theorem kept_writeTables {q : List Instr} {h k : Option Nat} {ok : Bool} (s : State) (hw : Kept q h k ok s) :
    Kept q h k ok (writeTables s) := by
  unfold writeTables
  try dsimp only
  repeat' (first
    | with_reducible assumption | with_reducible refine kept_modWheels ?_ | with_reducible refine kept_ite ?_ ?_
    | (intro _) | split | dsimp only)

theorem kept_swapTables {q : List Instr} {h k : Option Nat} {ok : Bool} (s : State) (hw : Kept q h k ok s) :
    Kept q h k ok (swapTables s) := by
  unfold swapTables
  try dsimp only
  repeat' (first
    | with_reducible assumption | with_reducible refine kept_modWheels ?_ | with_reducible refine kept_ite ?_ ?_
    | (intro _) | split | dsimp only)

theorem kept_applyLoad {q : List Instr} {h k : Option Nat} {ok : Bool} (s : State) (l : PendingLoad) (hw : Kept q h k ok s) :
    Kept q h k ok (applyLoad s l) := by
  unfold applyLoad
  try dsimp only
  repeat' (first
    | with_reducible assumption | with_reducible refine kept_modLoads ?_ | with_reducible apply kept_swapTables
    | with_reducible refine kept_modWheels ?_ | with_reducible apply kept_applyRecord
    | with_reducible apply kept_finishDone | with_reducible refine kept_foldl ?_ ?_
    | with_reducible refine kept_foldl_1 ?_ ?_ | with_reducible refine kept_foldl_2 ?_ ?_
    | with_reducible refine kept_foldl_22 ?_ ?_ | with_reducible refine kept_ite ?_ ?_ | (intro _) | split | dsimp only)

theorem kept_applyLoads {q : List Instr} {h k : Option Nat} {ok : Bool} (n : Nat) (s : State) (hw : Kept q h k ok s) : Kept q h k ok (applyLoads n s) := by
  induction n generalizing s with
  | zero => exact hw
  | succ n ih =>
    unfold applyLoads
    split
    · exact kept_ite (ih _ (kept_applyLoad _ _ hw)) hw
    · exact hw

theorem kept_settleGoers {q : List Instr} {h k : Option Nat} {ok : Bool} (s : State) (hw : Kept q h k ok s) :
    Kept q h k ok (settleGoers s) := by
  unfold settleGoers
  try dsimp only
  repeat' (first
    | with_reducible assumption | with_reducible apply kept_beginZeroise | with_reducible apply kept_modTen
    | with_reducible refine kept_modLoads ?_ | with_reducible refine kept_foldl ?_ ?_
    | with_reducible refine kept_ite ?_ ?_ | (intro _) | split | dsimp only)

theorem kept_applyTables {q : List Instr} {h k : Option Nat} {ok : Bool} (s : State) (hw : Kept q h k ok s) :
    Kept q h k ok (applyTables s) := by
  unfold applyTables
  try dsimp only
  repeat' (first
    | with_reducible assumption | with_reducible apply kept_swapTables | with_reducible refine kept_ite ?_ ?_
    | (intro _) | split | dsimp only)

end Sys2Proof.Machine
end

