-- ==== Sys2Proof/Laws/KeptTenancyOps.lean ====
section
/-! SUPPORT. What the operations of Machine/TenancyOps.lean keep. -/

namespace Sys2Proof.Machine

theorem kept_endFlight {q : List Instr} {h k : Option Nat} {ok : Bool} (v : Flight → Verdict) (s : State) (f : Flight) (hw : Kept q h k ok s) :
    Kept q h k ok (endFlight v s f) := by
  unfold endFlight
  try dsimp only
  repeat' (first
    | with_reducible assumption | with_reducible apply kept_stopXfer | with_reducible apply kept_endXfer
    | with_reducible apply kept_foldDma | with_reducible apply kept_withdraw | with_reducible refine kept_ite ?_ ?_
    | (intro _) | split | dsimp only)

theorem kept_afterAborts {q : List Instr} {h k : Option Nat} {ok : Bool} (s : State) (t : Nat) (hw : Kept q h k ok s) :
    Kept q h k ok (afterAborts s t) := by
  unfold afterAborts
  try dsimp only
  repeat' (first
    | with_reducible assumption | with_reducible apply kept_modSlot | with_reducible refine kept_modCharges ?_
    | with_reducible apply kept_settleGpu | with_reducible apply kept_dropDeadChanges
    | with_reducible refine kept_foldl ?_ ?_ | with_reducible refine kept_ite ?_ ?_ | (intro _) | split | dsimp only)

theorem kept_endWork {q : List Instr} {h k : Option Nat} {ok : Bool} (s : State) (t : Nat) (p : Flight → Bool) (v : Flight → Verdict) (hw : Kept q h k ok s) :
    Kept q h k ok ((endWork s t p v).1) := by
  unfold endWork
  try dsimp only
  repeat' (first
    | with_reducible assumption | with_reducible apply kept_endClientApplets | with_reducible apply kept_endFlight
    | with_reducible apply kept_leaveHalt | with_reducible refine kept_foldl ?_ ?_
    | with_reducible refine kept_foldl_1 ?_ ?_ | with_reducible refine kept_foldl_2 ?_ ?_
    | with_reducible refine kept_foldl_22 ?_ ?_ | with_reducible refine kept_ite ?_ ?_ | (intro _) | split | dsimp only)

theorem kept_stopWork {q : List Instr} {h k : Option Nat} {ok : Bool} (s : State) (q' : Flight) (hw : Kept q h k ok s) :
    Kept q h k ok (stopWork s q') := by
  unfold stopWork
  try dsimp only
  repeat' (first
    | with_reducible assumption | with_reducible apply kept_stopXfer | with_reducible apply kept_foldDma
    | with_reducible apply kept_modTen | with_reducible refine kept_mapFlights ?_ ?_
    | with_reducible refine kept_filterFlights ?_ | with_reducible apply kept_settleGpu
    | with_reducible apply kept_dropDeadChanges | with_reducible refine kept_foldl ?_ ?_
    | with_reducible refine kept_ite ?_ ?_ | (exact fun _ => rfl) | rfl | exact Eq.symm (by assumption) | (intro _)
    | split | dsimp only)

theorem kept_stoppedFirst {q : List Instr} {h k : Option Nat} {ok : Bool} (s : State) (e : Stopped) (hw : Kept q h k ok s) :
    Kept q h k ok (stoppedFirst s e) := by
  unfold stoppedFirst
  try dsimp only
  repeat' (first
    | with_reducible assumption | with_reducible apply kept_modTen | with_reducible apply kept_finish
    | with_reducible refine kept_mapFlights ?_ ?_ | with_reducible refine kept_filterFlights ?_
    | with_reducible apply kept_accept | with_reducible refine kept_ite ?_ ?_ | (exact fun _ => rfl) | rfl
    | exact Eq.symm (by assumption) | (intro _) | split | dsimp only)

theorem kept_endStopped {q : List Instr} {h k : Option Nat} {ok : Bool} (s : State) (q' : Flight) (hw : Kept q h k ok s) :
    Kept q h k ok ((endStopped s q').1) := by
  unfold endStopped
  try dsimp only
  repeat' (first
    | with_reducible assumption | with_reducible apply kept_stoppedFirst | with_reducible apply kept_modTen
    | with_reducible apply kept_finish | with_reducible refine kept_foldl ?_ ?_
    | with_reducible refine kept_foldl_1 ?_ ?_ | with_reducible refine kept_foldl_2 ?_ ?_
    | with_reducible refine kept_foldl_22 ?_ ?_ | with_reducible refine kept_ite ?_ ?_ | (intro _) | split | dsimp only)

theorem kept_commitQuiesce {q : List Instr} {h k : Option Nat} {ok : Bool} (s : State) (f : Flight) (hw : Kept q h k ok s) :
    Kept q h k ok (commitQuiesce s f) := by
  unfold commitQuiesce
  try dsimp only
  repeat' (first
    | with_reducible assumption | with_reducible apply kept_stopWork | with_reducible refine kept_mapFlights ?_ ?_
    | with_reducible refine kept_filterFlights ?_ | with_reducible apply kept_modTen
    | with_reducible refine kept_ite ?_ ?_ | (exact fun _ => rfl) | rfl | exact Eq.symm (by assumption) | (intro _)
    | split | dsimp only)

theorem kept_holdTenancy {q : List Instr} {h k : Option Nat} {ok : Bool} (s : State) (t : Nat) (hw : Kept q h k ok s) :
    Kept q h k ok (holdTenancy s t) := by
  unfold holdTenancy
  try dsimp only
  repeat' (first
    | with_reducible assumption | with_reducible apply kept_modTen | with_reducible apply kept_holdSound
    | with_reducible apply kept_endClientApplets | with_reducible apply kept_afterAborts
    | with_reducible refine kept_ite ?_ ?_ | (intro _) | split | dsimp only)

theorem kept_settleQuiesce {q : List Instr} {h k : Option Nat} {ok : Bool} (s : State) (f : Flight) (hw : Kept q h k ok s) :
    Kept q h k ok (settleQuiesce s f) := by
  unfold settleQuiesce
  try dsimp only
  repeat' (first
    | with_reducible assumption | with_reducible apply kept_finishDone | with_reducible apply kept_holdTenancy
    | with_reducible refine kept_ite ?_ ?_ | (intro _) | split | dsimp only)

theorem kept_drainLimit {q : List Instr} {h k : Option Nat} {ok : Bool} (s : State) (f : Flight) (hw : Kept q h k ok s) :
    Kept q h k ok (drainLimit s f) := by
  unfold drainLimit
  try dsimp only
  repeat' (first
    | with_reducible assumption | with_reducible apply kept_endWork | with_reducible apply kept_afterAborts
    | with_reducible apply kept_settleQuiesce | with_reducible apply kept_setFlight
    | with_reducible refine kept_ite ?_ ?_ | (intro _) | split | dsimp only)

theorem kept_startQuiesce {q : List Instr} {h k : Option Nat} {ok : Bool} (s : State) (f : Flight) (hw : Kept q h k ok s) :
    Kept q h k ok (startQuiesce s f) := by
  unfold startQuiesce
  try dsimp only
  repeat' (first
    | with_reducible assumption | with_reducible apply kept_finishDone | with_reducible apply kept_endWork
    | with_reducible apply kept_settleQuiesce | with_reducible apply kept_setFlight
    | with_reducible apply kept_afterAborts | with_reducible apply kept_drainLimit
    | with_reducible refine kept_ite ?_ ?_ | (intro _) | split | dsimp only)

theorem kept_limitOf {q : List Instr} {h k : Option Nat} {ok : Bool} (s : State) (t : Nat) (hw : Kept q h k ok s) :
    Kept q h k ok (limitOf s t) := by
  unfold limitOf
  try dsimp only
  repeat' (first
    | with_reducible assumption | with_reducible apply kept_drainLimit | with_reducible refine kept_ite ?_ ?_
    | (intro _) | split | dsimp only)

theorem kept_containTenancy {q : List Instr} {h k : Option Nat} {ok : Bool} (s : State) (t b : Nat) (hw : Kept q h k ok s) :
    Kept q h k ok (containTenancy s t b) := by
  unfold containTenancy
  try dsimp only
  repeat' (first
    | with_reducible assumption | with_reducible apply kept_modTen | with_reducible apply kept_endWork
    | with_reducible apply kept_holdTenancy | with_reducible apply kept_finishDone
    | with_reducible refine kept_ite ?_ ?_ | (intro _) | split | dsimp only)

theorem kept_startResume {q : List Instr} {h k : Option Nat} {ok : Bool} (s : State) (f : Flight) (hw : Kept q h k ok s) :
    Kept q h k ok (startResume s f) := by
  unfold startResume
  try dsimp only
  repeat' (first
    | with_reducible assumption | with_reducible apply kept_modTen | with_reducible apply kept_weighInputs
    | with_reducible apply kept_raise | with_reducible apply kept_await | with_reducible apply kept_finishDone
    | with_reducible refine kept_ite ?_ ?_ | (intro _) | split | dsimp only)

theorem kept_joinLayer {q : List Instr} {h k : Option Nat} {ok : Bool} (s : State) (hd' i : Nat) (hw : Kept q h k ok s) :
    Kept q h k ok (joinLayer s hd' i) := by
  unfold joinLayer
  try dsimp only
  repeat' (first
    | with_reducible assumption | with_reducible apply kept_modSlot | with_reducible apply kept_placeRing
    | with_reducible refine kept_ite ?_ ?_ | (intro _) | split | dsimp only)

theorem kept_joinLayers {q : List Instr} {h k : Option Nat} {ok : Bool} (s : State) (hd' : Nat) (hw : Kept q h k ok s) :
    Kept q h k ok (joinLayers s hd') := by
  unfold joinLayers
  try dsimp only
  repeat' (first
    | with_reducible assumption | with_reducible apply kept_joinLayer | with_reducible refine kept_foldl ?_ ?_
    | with_reducible refine kept_ite ?_ ?_ | (intro _) | split | dsimp only)

theorem kept_settleResume {q : List Instr} {h k : Option Nat} {ok : Bool} (s : State) (f : Flight) (hw : Kept q h k ok s) :
    Kept q h k ok (settleResume s f) := by
  unfold settleResume
  try dsimp only
  repeat' (first
    | with_reducible assumption | with_reducible apply kept_modSlot | with_reducible apply kept_finishDone
    | with_reducible apply kept_modTen | with_reducible refine kept_foldl ?_ ?_ | with_reducible refine kept_ite ?_ ?_
    | (intro _) | split | dsimp only)

theorem kept_clearSource {q : List Instr} {h k : Option Nat} {ok : Bool} (s : State) (n : Nat) (hw : Kept q h k ok s) :
    Kept q h k ok (clearSource s n) := by
  unfold clearSource
  try dsimp only
  repeat' (first
    | with_reducible assumption | with_reducible apply kept_setEvSrc | with_reducible refine kept_ite ?_ ?_ | (intro _)
    | split | dsimp only)

theorem kept_renewPool {q : List Instr} {h k : Option Nat} {ok : Bool} {p : Pool} (hp : KeepsPool q h k ok p) (src : Option (Nat → Nat)) (s : State) (t : Nat)
    (hw : Kept q h k ok s) : Kept q h k ok (renewPool p src s t) := by
  refine kept_foldl (fun _ _ w => ?_) hw
  dsimp only
  split
  · exact kept_setEvSrc _ _ _ (hp.give _ _ _ _ (hp.free _ _ w))
  · exact hp.give _ _ _ _ (hp.free _ _ w)

theorem kept_endTenancyCharges {q : List Instr} {h k : Option Nat} {ok : Bool} (s : State) (t : Nat) (hw : Kept q h k ok s) :
    Kept q h k ok (endTenancyCharges s t) := by
  unfold endTenancyCharges
  try dsimp only
  repeat' (first
    | with_reducible assumption | with_reducible refine kept_modCharges ?_ | with_reducible refine kept_ite ?_ ?_
    | (intro _) | split | dsimp only)

theorem kept_renewObjects {q : List Instr} {h k : Option Nat} {ok : Bool} (s : State) (t : Nat) (hw : Kept q h k ok s) :
    Kept q h k ok (renewObjects s t) := by
  unfold renewObjects
  try dsimp only
  repeat' (first
    | with_reducible assumption | with_reducible apply kept_setCr | with_reducible refine kept_modVisible ?_
    | with_reducible apply kept_renewPool | with_reducible apply kept_clearSource | with_reducible apply kept_modCtx
    | with_reducible apply kept_setAssay | with_reducible apply kept_modTone | with_reducible apply kept_modHap
    | with_reducible apply kept_dropTouch | with_reducible apply kept_modFn | with_reducible refine kept_modCharges ?_
    | with_reducible refine kept_foldl ?_ ?_ | exact evPool_keeps | exact chanPool_keeps | exact streamPool_keeps
    | exact inputPool_keeps | exact slotPool_keeps | exact ctxPool_keeps | exact assayPool_keeps
    | with_reducible refine kept_ite ?_ ?_ | (intro _) | split | dsimp only)

theorem kept_leaveLayer {q : List Instr} {h k : Option Nat} {ok : Bool} (s : State) (i : Nat) (hw : Kept q h k ok s) :
    Kept q h k ok (leaveLayer s i) := by
  unfold leaveLayer
  try dsimp only
  repeat' (first
    | with_reducible assumption | with_reducible apply kept_clearSource | with_reducible refine kept_modCharges ?_
    | with_reducible refine kept_modSr ?_ ?_ | with_reducible apply kept_modSlot | with_reducible refine kept_ite ?_ ?_
    | (exact fun _ e => e) | exact Mem.wf_wrs _ _ _ (by assumption) | exact Mem.wf_wipe _ _ _ (by assumption)
    | (intro _) | split | dsimp only)

theorem kept_beginLeave {q : List Instr} {h k : Option Nat} {ok : Bool} (s : State) (t a : Nat) (hw : Kept q h k ok s) :
    Kept q h k ok (beginLeave s t a) := by
  unfold beginLeave
  try dsimp only
  repeat' (first
    | with_reducible assumption | with_reducible apply kept_leaveLayer | with_reducible apply kept_modTen
    | with_reducible refine kept_foldl ?_ ?_ | with_reducible refine kept_ite ?_ ?_ | (intro _) | split | dsimp only)

theorem kept_leaveAtLatch {q : List Instr} {h k : Option Nat} {ok : Bool} (s : State) (hd' : Nat) (hw : Kept q h k ok s) :
    Kept q h k ok (leaveAtLatch s hd') := by
  unfold leaveAtLatch
  try dsimp only
  repeat' (first
    | with_reducible assumption | with_reducible apply kept_leaveLayer | with_reducible refine kept_foldl ?_ ?_
    | with_reducible refine kept_ite ?_ ?_ | (intro _) | split | dsimp only)

theorem kept_leaveDisabled {q : List Instr} {h k : Option Nat} {ok : Bool} (s : State) (hw : Kept q h k ok s) :
    Kept q h k ok (leaveDisabled s) := by
  unfold leaveDisabled
  try dsimp only
  repeat' (first
    | with_reducible assumption | with_reducible apply kept_leaveAtLatch | with_reducible refine kept_foldl ?_ ?_
    | with_reducible refine kept_ite ?_ ?_ | (intro _) | split | dsimp only)

theorem kept_zeroiseAll {q : List Instr} {h k : Option Nat} {ok : Bool} (s : State) (t next : Nat) (hw : Kept q h k ok s) :
    Kept q h k ok (zeroiseAll s t next) := by
  unfold zeroiseAll
  try dsimp only
  repeat' (first
    | with_reducible assumption | with_reducible apply kept_zeroiseShelf | with_reducible apply kept_zeroisePlot
    | with_reducible refine kept_foldl ?_ ?_ | with_reducible refine kept_ite ?_ ?_ | (intro _) | split | dsimp only)

theorem kept_startReset {q : List Instr} {h k : Option Nat} {ok : Bool} (s : State) (f : Flight) (hw : Kept q h k ok s) :
    Kept q h k ok (startReset s f) := by
  unfold startReset
  try dsimp only
  repeat' (first
    | with_reducible assumption | with_reducible apply kept_await | with_reducible apply kept_beginLeave
    | with_reducible apply kept_renewObjects | with_reducible refine kept_ite ?_ ?_ | (intro _) | split | dsimp only)

theorem kept_settleReset {q : List Instr} {h k : Option Nat} {ok : Bool} (s : State) (f : Flight) (hw : Kept q h k ok s) :
    Kept q h k ok (settleReset s f) := by
  unfold settleReset
  try dsimp only
  repeat' (first
    | with_reducible assumption | with_reducible apply kept_endTenancyCharges | with_reducible apply kept_setFlight
    | with_reducible apply kept_zeroiseAll | with_reducible apply kept_modTen | with_reducible apply kept_finishDone
    | with_reducible refine kept_ite ?_ ?_ | (intro _) | split | dsimp only)

theorem kept_startRemove {q : List Instr} {h k : Option Nat} {ok : Bool} (s : State) (f : Flight) (hw : Kept q h k ok s) :
    Kept q h k ok (startRemove s f) := by
  unfold startRemove
  try dsimp only
  repeat' (first
    | with_reducible assumption | with_reducible apply kept_await | with_reducible apply kept_beginLeave
    | with_reducible apply kept_renewObjects | with_reducible refine kept_ite ?_ ?_ | (intro _) | split | dsimp only)

theorem kept_spareEntries {q : List Instr} {h k : Option Nat} {ok : Bool} (s : State) (t : Nat) (hw : Kept q h k ok s) :
    Kept q h k ok (spareEntries s t) := by
  unfold spareEntries
  try dsimp only
  repeat' (first
    | with_reducible assumption | with_reducible refine kept_modWheels ?_ | with_reducible refine kept_ite ?_ ?_
    | (intro _) | split | dsimp only)

theorem kept_settleRemove {q : List Instr} {h k : Option Nat} {ok : Bool} (s : State) (f : Flight) (hw : Kept q h k ok s) :
    Kept q h k ok (settleRemove s f) := by
  unfold settleRemove
  try dsimp only
  repeat' (first
    | with_reducible assumption | with_reducible apply kept_endTenancyCharges | with_reducible apply kept_setFlight
    | with_reducible apply kept_zeroiseAll | with_reducible apply kept_spareEntries | with_reducible apply kept_modTen
    | with_reducible apply kept_finishDone | with_reducible apply kept_vanish | with_reducible refine kept_ite ?_ ?_
    | (intro _) | split | dsimp only)

theorem kept_resetPage {q : List Instr} {h k : Option Nat} {ok : Bool} (s : State) (f : Nat) (hw : Kept q h k ok s) :
    Kept q h k ok (resetPage s f) := by
  unfold resetPage
  try dsimp only
  repeat' (first
    | with_reducible assumption | with_reducible apply kept_setCr | with_reducible apply kept_disableEvRing
    | with_reducible apply kept_setFn | with_reducible refine kept_foldl ?_ ?_ | with_reducible refine kept_ite ?_ ?_
    | (intro _) | split | dsimp only)

theorem kept_resetFunction {q : List Instr} {h k : Option Nat} {ok : Bool} (s : State) (t : Nat) (hw : Kept q h k ok s) :
    Kept q h k ok (resetFunction s t) := by
  unfold resetFunction
  try dsimp only
  repeat' (first
    | with_reducible assumption | with_reducible apply kept_settleWake | with_reducible apply kept_resetPage
    | with_reducible refine kept_modVisible ?_ | with_reducible apply kept_modTen | with_reducible apply kept_endFlight
    | with_reducible apply kept_await | with_reducible apply kept_afterAborts | with_reducible apply kept_holdTenancy
    | with_reducible apply kept_setFlight | with_reducible apply kept_finishDone | with_reducible apply kept_beginLeave
    | with_reducible apply kept_renewObjects | with_reducible refine kept_foldl ?_ ?_
    | with_reducible refine kept_foldl_1 ?_ ?_ | with_reducible refine kept_foldl_2 ?_ ?_
    | with_reducible refine kept_foldl_22 ?_ ?_ | with_reducible refine kept_ite ?_ ?_ | (intro _) | split | dsimp only)

theorem kept_settleFlr {q : List Instr} {h k : Option Nat} {ok : Bool} (s : State) (t : Nat) (hw : Kept q h k ok s) :
    Kept q h k ok (settleFlr s t) := by
  unfold settleFlr
  try dsimp only
  repeat' (first
    | with_reducible assumption | with_reducible apply kept_modTen | with_reducible apply kept_endTenancyCharges
    | with_reducible refine kept_ite ?_ ?_ | (intro _) | split | dsimp only)

theorem kept_resetPf0 {q : List Instr} {h k : Option Nat} {ok : Bool} (s : State) (hw : Kept q h k ok s) :
    Kept q h k ok (resetPf0 s) := by
  unfold resetPf0
  try dsimp only
  repeat' (first
    | with_reducible assumption | with_reducible apply kept_resetPage | with_reducible refine kept_modVisible ?_
    | with_reducible apply kept_modCr | with_reducible apply kept_settleWake | with_reducible refine kept_modPcie ?_
    | with_reducible refine kept_foldl ?_ ?_ | with_reducible refine kept_ite ?_ ?_ | (intro _) | split | dsimp only)

theorem kept_startFreeze {q : List Instr} {h k : Option Nat} {ok : Bool} (s : State) (f : Flight) (hw : Kept q h k ok s) :
    Kept q h k ok (startFreeze s f) := by
  unfold startFreeze
  try dsimp only
  repeat' (first
    | with_reducible assumption | with_reducible apply kept_finishDone | with_reducible apply kept_modTen
    | with_reducible refine kept_ite ?_ ?_ | (intro _) | split | dsimp only)

theorem kept_setAperture {q : List Instr} {h k : Option Nat} {ok : Bool} (s : State) (d : Descriptor) (hw : Kept q h k ok s) :
    Kept q h k ok (setAperture s d) := by
  unfold setAperture
  try dsimp only
  repeat' (first
    | with_reducible assumption | with_reducible apply kept_modTen | with_reducible refine kept_ite ?_ ?_ | (intro _)
    | split | dsimp only)

theorem kept_startAperture {q : List Instr} {h k : Option Nat} {ok : Bool} (s : State) (f : Flight) (hw : Kept q h k ok s) :
    Kept q h k ok (startAperture s f) := by
  unfold startAperture
  try dsimp only
  repeat' (first
    | with_reducible assumption | with_reducible apply kept_finishDone | with_reducible apply kept_setAperture
    | with_reducible refine kept_ite ?_ ?_ | (intro _) | split | dsimp only)

theorem kept_startTenancyQuery {q : List Instr} {h k : Option Nat} {ok : Bool} (s : State) (f : Flight) (hw : Kept q h k ok s) :
    Kept q h k ok (startTenancyQuery s f) := by
  unfold startTenancyQuery
  try dsimp only
  repeat' (first
    | with_reducible assumption | with_reducible apply kept_finishDone | with_reducible apply kept_hostWrite
    | with_reducible refine kept_ite ?_ ?_ | (intro _) | split | dsimp only)

theorem kept_startResourceQuery {q : List Instr} {h k : Option Nat} {ok : Bool} (s : State) (f : Flight) (hw : Kept q h k ok s) :
    Kept q h k ok (startResourceQuery s f) := by
  unfold startResourceQuery
  try dsimp only
  repeat' (first
    | with_reducible assumption | with_reducible apply kept_finishDone | with_reducible apply kept_hostWrite
    | with_reducible refine kept_ite ?_ ?_ | (intro _) | split | dsimp only)

theorem kept_settleTenancies {q : List Instr} {h k : Option Nat} {ok : Bool} (s : State) (hw : Kept q h k ok s) :
    Kept q h k ok (settleTenancies s) := by
  unfold settleTenancies
  try dsimp only
  repeat' (first
    | with_reducible assumption | with_reducible apply kept_settleGoers | with_reducible apply kept_leaveDisabled
    | with_reducible apply kept_settleRemove | with_reducible apply kept_settleReset
    | with_reducible apply kept_settleResume | with_reducible apply kept_settleQuiesce
    | with_reducible apply kept_settleFlr | with_reducible refine kept_foldl ?_ ?_
    | with_reducible refine kept_ite ?_ ?_ | (intro _) | split | dsimp only)

end Sys2Proof.Machine
end

