-- ==== Sys2Proof/Laws/KeptStageOps.lean ====
section
/-! SUPPORT. What the operations of Machine/StageOps.lean keep. -/

namespace Sys2Proof.Machine

theorem kept_restoreCharges {q : List Instr} {h k : Option Nat} {ok : Bool} (s : State) (sl : Nat) (hw : Kept q h k ok s) :
    Kept q h k ok (restoreCharges s sl) := by
  unfold restoreCharges
  try dsimp only
  repeat' (first
    | with_reducible assumption | with_reducible refine kept_modCharges ?_ | with_reducible refine kept_ite ?_ ?_
    | (intro _) | split | dsimp only)

theorem kept_holdUpdate {q : List Instr} {h k : Option Nat} {ok : Bool} (s : State) (f : Flight) (hw : Kept q h k ok s) :
    Kept q h k ok (holdUpdate s f) := by
  unfold holdUpdate
  try dsimp only
  repeat' (first
    | with_reducible assumption | with_reducible apply kept_setFlight | with_reducible apply kept_modSlot
    | with_reducible refine kept_modCharges ?_ | with_reducible apply kept_raise | with_reducible refine kept_ite ?_ ?_
    | (intro _) | split | dsimp only)

theorem kept_testUpdate {q : List Instr} {h k : Option Nat} {ok : Bool} (s : State) (f : Flight) (hw : Kept q h k ok s) :
    Kept q h k ok (testUpdate s f) := by
  unfold testUpdate
  try dsimp only
  repeat' (first
    | with_reducible assumption | with_reducible apply kept_setFlight | with_reducible apply kept_restoreCharges
    | with_reducible apply kept_finishAborted | with_reducible apply kept_holdUpdate
    | with_reducible refine kept_ite ?_ ?_ | (intro _) | split | dsimp only)

theorem kept_missOrder {q : List Instr} {h k : Option Nat} {ok : Bool} (s : State) (f : Flight) (t : Nat) (hw : Kept q h k ok s) :
    Kept q h k ok (missOrder s f t) := by
  unfold missOrder
  try dsimp only
  repeat' (first
    | with_reducible assumption | with_reducible apply kept_assert | with_reducible apply kept_accept
    | with_reducible apply kept_modHead | with_reducible apply kept_finish | with_reducible apply kept_restoreCharges
    | with_reducible refine kept_ite ?_ ?_ | (intro _) | split | dsimp only)

theorem kept_renewCharges {q : List Instr} {h k : Option Nat} {ok : Bool} (s : State) (sl : Nat) (hw : Kept q h k ok s) :
    Kept q h k ok (renewCharges s sl) := by
  unfold renewCharges
  try dsimp only
  repeat' (first
    | with_reducible assumption | with_reducible refine kept_modCharges ?_ | with_reducible apply kept_commitLayerUpdate
    | with_reducible apply kept_commitLayerFree | with_reducible apply kept_commitLayerMove
    | with_reducible refine kept_foldl ?_ ?_ | with_reducible refine kept_foldl_1 ?_ ?_
    | with_reducible refine kept_foldl_2 ?_ ?_ | with_reducible refine kept_foldl_22 ?_ ?_
    | with_reducible refine kept_ite ?_ ?_ | (intro _) | split | dsimp only)

theorem kept_resizeRings {q : List Instr} {h k : Option Nat} {ok : Bool} (s : State) (hd' : Nat) (hw : Kept q h k ok s) :
    Kept q h k ok (resizeRings s hd') := by
  unfold resizeRings
  try dsimp only
  repeat' (first
    | with_reducible assumption | with_reducible apply kept_placeSecureRing | with_reducible apply kept_renewCharges
    | with_reducible apply kept_placeRing | with_reducible refine kept_foldl ?_ ?_
    | with_reducible refine kept_ite ?_ ?_ | (intro _) | split | dsimp only)

theorem kept_commitStockroomStager {q : List Instr} {h k : Option Nat} {ok : Bool} (s : State) (f : Flight) (hw : Kept q h k ok s) :
    Kept q h k ok (commitStockroomStager s f) := by
  unfold commitStockroomStager
  try dsimp only
  repeat' (first
    | with_reducible assumption | with_reducible apply kept_reserveRing | with_reducible refine kept_foldl ?_ ?_
    | with_reducible refine kept_ite ?_ ?_ | (intro _) | split | dsimp only)

theorem kept_applyStager {q : List Instr} {h k : Option Nat} {ok : Bool} (s : State) (f : Flight) (hw : Kept q h k ok s) :
    Kept q h k ok (applyStager s f) := by
  unfold applyStager
  try dsimp only
  repeat' (first
    | with_reducible assumption | with_reducible apply kept_setStager | with_reducible apply kept_finishDone
    | with_reducible apply kept_resizeRings | with_reducible refine kept_ite ?_ ?_ | (intro _) | split | dsimp only)

theorem kept_startStockroomStager {q : List Instr} {h k : Option Nat} {ok : Bool} (s : State) (f : Flight) (hw : Kept q h k ok s) :
    Kept q h k ok (startStockroomStager s f) := by
  unfold startStockroomStager
  try dsimp only
  repeat' (first
    | with_reducible assumption | with_reducible apply kept_applyStager | with_reducible apply kept_await
    | with_reducible refine kept_ite ?_ ?_ | (intro _) | split | dsimp only)

theorem kept_requestNew {q : List Instr} {h k : Option Nat} {ok : Bool} (s : State) (hd' : Nat) (c : HeadCfg) (hw : Kept q h k ok s) :
    Kept q h k ok (requestNew s hd' c) := by
  unfold requestNew
  try dsimp only
  repeat' (first
    | with_reducible assumption | with_reducible apply kept_setStager | with_reducible refine kept_ite ?_ ?_ | (intro _)
    | split | dsimp only)

theorem kept_stagerRequestOf {q : List Instr} {h k : Option Nat} {ok : Bool} (s : State) (hd' line : Nat) (hw : Kept q h k ok s) :
    Kept q h k ok (stagerRequestOf s hd' line) := by
  unfold stagerRequestOf
  try dsimp only
  repeat' (first
    | with_reducible assumption | with_reducible apply kept_setStager | with_reducible apply kept_requestNew
    | with_reducible refine kept_ite ?_ ?_ | (intro _) | split | dsimp only)

theorem kept_switchStager {q : List Instr} {h k : Option Nat} {ok : Bool} (s : State) (hd' : Nat) (hw : Kept q h k ok s) :
    Kept q h k ok (switchStager s hd') := by
  unfold switchStager
  try dsimp only
  repeat' (first
    | with_reducible assumption | with_reducible apply kept_testUpdate | with_reducible apply kept_applyStager
    | with_reducible apply kept_modHead | with_reducible apply kept_requestNew | with_reducible apply kept_setStager
    | with_reducible refine kept_foldl ?_ ?_ | with_reducible refine kept_ite ?_ ?_ | (intro _) | split | dsimp only)

theorem kept_stagerSwitchOf {q : List Instr} {h k : Option Nat} {ok : Bool} (s : State) (hd' : Nat) (hw : Kept q h k ok s) :
    Kept q h k ok (stagerSwitchOf s hd') := by
  unfold stagerSwitchOf
  try dsimp only
  repeat' (first
    | with_reducible assumption | with_reducible apply kept_switchStager | with_reducible refine kept_ite ?_ ?_
    | (intro _) | split | dsimp only)

theorem kept_ensureSwitch {q : List Instr} {h k : Option Nat} {ok : Bool} (s : State) (hd' : Nat) (hw : Kept q h k ok s) :
    Kept q h k ok (ensureSwitch s hd') := by
  unfold ensureSwitch
  try dsimp only
  repeat' (first
    | with_reducible assumption | with_reducible apply kept_switchStager | with_reducible refine kept_ite ?_ ?_
    | (intro _) | split | dsimp only)

theorem kept_secureLine {q : List Instr} {h k : Option Nat} {ok : Bool} (s : State) (st : LayerState) (hw : Kept q h k ok s) :
    Kept q h k ok ((secureLine s st).2) := by
  unfold secureLine
  try dsimp only
  repeat' (first
    | with_reducible assumption | with_reducible apply kept_freshBytes | with_reducible refine kept_ite ?_ ?_
    | (intro _) | split | dsimp only)

theorem kept_writeRing {q : List Instr} {h k : Option Nat} {ok : Bool} (s : State) (g : Ring) (st : LayerState) (j : Nat) (hw : Kept q h k ok s) :
    Kept q h k ok (writeRing s g st j) := by
  unfold writeRing
  try dsimp only
  repeat' (first
    | with_reducible assumption | with_reducible refine kept_modSr ?_ ?_ | with_reducible apply kept_noteMoved
    | with_reducible refine kept_foldl ?_ ?_ | with_reducible refine kept_foldl_1 ?_ ?_
    | with_reducible refine kept_foldl_2 ?_ ?_ | with_reducible refine kept_foldl_22 ?_ ?_
    | with_reducible refine kept_ite ?_ ?_ | (exact fun _ e => e) | exact Mem.wf_wrs _ _ _ (by assumption)
    | exact Mem.wf_wipe _ _ _ (by assumption) | (intro _) | split | dsimp only)

theorem kept_markRing {q : List Instr} {h k : Option Nat} {ok : Bool} (s : State) (g : Ring) (st : LayerState) (second : Bool) (m : Nat) (bad : List Nat) (hw : Kept q h k ok s) :
    Kept q h k ok (markRing s g st second m bad) := by
  unfold markRing
  try dsimp only
  repeat' (first
    | with_reducible assumption | with_reducible apply kept_setSrWord | with_reducible refine kept_foldl ?_ ?_
    | with_reducible refine kept_foldl_1 ?_ ?_ | with_reducible refine kept_foldl_2 ?_ ?_
    | with_reducible refine kept_foldl_22 ?_ ?_ | with_reducible refine kept_ite ?_ ?_ | (intro _) | split | dsimp only)

theorem kept_stagePlane {q : List Instr} {h k : Option Nat} {ok : Bool} (c : HeadCfg) (arr : List (Nat × Nat × LayerState)) (area : Option (List Rect)) (cull : Bool) (e : Nat × Nat × LayerState) (g : Ring) (j : Nat) (second : Bool) (uses : Nat → Bool) (s : State) (m : Nat) (hw : Kept q h k ok s) :
    Kept q h k ok (stagePlane c arr area cull e g j second uses s m) := by
  unfold stagePlane
  try dsimp only
  repeat' (first
    | with_reducible assumption | with_reducible apply kept_countBulk | with_reducible apply kept_noteBulk
    | with_reducible apply kept_srAccessFault | with_reducible apply kept_markRing | with_reducible apply kept_writeRing
    | with_reducible refine kept_modComp ?_ | with_reducible refine kept_foldl ?_ ?_
    | with_reducible refine kept_foldl_1 ?_ ?_ | with_reducible refine kept_foldl_2 ?_ ?_
    | with_reducible refine kept_foldl_22 ?_ ?_ | with_reducible refine kept_ite ?_ ?_ | (intro _) | split | dsimp only)

theorem kept_stageLayer {q : List Instr} {h k : Option Nat} {ok : Bool} (c : HeadCfg) (arr : List (Nat × Nat × LayerState)) (area : Option (List Rect)) (y : Nat) (s : State) (e : Nat × Nat × LayerState) (hw : Kept q h k ok s) :
    Kept q h k ok (stageLayer c arr area y s e) := by
  unfold stageLayer
  try dsimp only
  repeat' (first
    | with_reducible assumption | with_reducible apply kept_srAccessFault | with_reducible apply kept_secureLine
    | with_reducible apply kept_writeRing | with_reducible refine kept_modComp ?_ | with_reducible apply kept_stagePlane
    | with_reducible refine kept_foldl ?_ ?_ | with_reducible refine kept_foldl_1 ?_ ?_
    | with_reducible refine kept_foldl_2 ?_ ?_ | with_reducible refine kept_foldl_22 ?_ ?_
    | with_reducible refine kept_ite ?_ ?_ | (intro _) | split | dsimp only)

theorem kept_stagingArrivalOf {q : List Instr} {h k : Option Nat} {ok : Bool} (s : State) (hd' line : Nat) (hw : Kept q h k ok s) :
    Kept q h k ok (stagingArrivalOf s hd' line) := by
  unfold stagingArrivalOf
  try dsimp only
  repeat' (first
    | with_reducible assumption | with_reducible apply kept_stageLayer | with_reducible apply kept_setStager
    | with_reducible refine kept_foldl ?_ ?_ | with_reducible refine kept_foldl_1 ?_ ?_
    | with_reducible refine kept_foldl_2 ?_ ?_ | with_reducible refine kept_foldl_22 ?_ ?_
    | with_reducible refine kept_ite ?_ ?_ | (intro _) | split | dsimp only)

theorem kept_stagerEpoch {q : List Instr} {h k : Option Nat} {ok : Bool} (s : State) (hd' : Nat) (hw : Kept q h k ok s) :
    Kept q h k ok (stagerEpoch s hd') := by
  unfold stagerEpoch
  try dsimp only
  repeat' (first
    | with_reducible assumption | with_reducible apply kept_setStager | with_reducible apply kept_raise
    | with_reducible refine kept_ite ?_ ?_ | (intro _) | split | dsimp only)

theorem kept_noteDamage {q : List Instr} {h k : Option Nat} {ok : Bool} (s : State) (hd' : Nat) (rs : List Rect) (hw : Kept q h k ok s) :
    Kept q h k ok (noteDamage s hd' rs) := by
  unfold noteDamage
  try dsimp only
  repeat' (first
    | with_reducible assumption | with_reducible apply kept_modHead | with_reducible refine kept_ite ?_ ?_ | (intro _)
    | split | dsimp only)

theorem kept_takeState {q : List Instr} {h k : Option Nat} {ok : Bool} (s : State) (hd' sl : Nat) (st : LayerState) (c1 : Bool) (hw : Kept q h k ok s) :
    Kept q h k ok (takeState s hd' sl st c1) := by
  unfold takeState
  try dsimp only
  repeat' (first
    | with_reducible assumption | with_reducible apply kept_modSlot | with_reducible apply kept_noteDamage
    | with_reducible apply kept_placeRing | with_reducible refine kept_foldl ?_ ?_
    | with_reducible refine kept_ite ?_ ?_ | (intro _) | split | dsimp only)

theorem kept_latchUpdate {q : List Instr} {h k : Option Nat} {ok : Bool} (s : State) (hd' : Nat) (f : Flight) (hw : Kept q h k ok s) :
    Kept q h k ok (latchUpdate s hd' f) := by
  unfold latchUpdate
  try dsimp only
  repeat' (first
    | with_reducible assumption | with_reducible apply kept_takeState | with_reducible apply kept_renewCharges
    | with_reducible apply kept_finishDone | with_reducible refine kept_foldl ?_ ?_
    | with_reducible refine kept_ite ?_ ?_ | (intro _) | split | dsimp only)

theorem kept_latchFree {q : List Instr} {h k : Option Nat} {ok : Bool} (s : State) (hd' : Nat) (f : Flight) (hw : Kept q h k ok s) :
    Kept q h k ok (latchFree s hd' f) := by
  unfold latchFree
  try dsimp only
  repeat' (first
    | with_reducible assumption | with_reducible apply kept_noteDamage | with_reducible apply kept_releaseSlot
    | with_reducible apply kept_finishDone | with_reducible refine kept_ite ?_ ?_ | (intro _) | split | dsimp only)

theorem kept_departMove {q : List Instr} {h k : Option Nat} {ok : Bool} (s : State) (f : Flight) (hw : Kept q h k ok s) :
    Kept q h k ok (departMove s f) := by
  unfold departMove
  try dsimp only
  repeat' (first
    | with_reducible assumption | with_reducible apply kept_noteDamage | with_reducible apply kept_setRing
    | with_reducible apply kept_await | with_reducible apply kept_modSlot | with_reducible refine kept_ite ?_ ?_
    | (intro _) | split | dsimp only)

theorem kept_arriveMove {q : List Instr} {h k : Option Nat} {ok : Bool} (s : State) (hd' : Nat) (f : Flight) (hw : Kept q h k ok s) :
    Kept q h k ok (arriveMove s hd' f) := by
  unfold arriveMove
  try dsimp only
  repeat' (first
    | with_reducible assumption | with_reducible apply kept_departMove | with_reducible apply kept_noteDamage
    | with_reducible apply kept_modSlot | with_reducible apply kept_finishDone | with_reducible apply kept_placeRing
    | with_reducible refine kept_ite ?_ ?_ | (intro _) | split | dsimp only)

theorem kept_latchPush {q : List Instr} {h k : Option Nat} {ok : Bool} (s : State) (hd' : Nat) (f : Flight) (hw : Kept q h k ok s) :
    Kept q h k ok (latchPush s hd' f) := by
  unfold latchPush
  try dsimp only
  repeat' (first
    | with_reducible assumption | with_reducible apply kept_finishDone | with_reducible apply kept_noteDamage
    | with_reducible refine kept_ite ?_ ?_ | (intro _) | split | dsimp only)

theorem kept_startAtLatch {q : List Instr} {h k : Option Nat} {ok : Bool} (s : State) (f : Flight) (hw : Kept q h k ok s) :
    Kept q h k ok (startAtLatch s f) := by
  unfold startAtLatch
  try dsimp only
  repeat' (first
    | with_reducible assumption | with_reducible apply kept_await | with_reducible refine kept_ite ?_ ?_ | (intro _)
    | split | dsimp only)

theorem kept_startLayerClut {q : List Instr} {h k : Option Nat} {ok : Bool} (s : State) (f : Flight) (hw : Kept q h k ok s) :
    Kept q h k ok (startLayerClut s f) := by
  unfold startLayerClut
  try dsimp only
  repeat' (first
    | with_reducible assumption | with_reducible apply kept_finishDone | with_reducible apply kept_applyClut
    | with_reducible apply kept_startAtLatch | with_reducible apply kept_setFlight
    | with_reducible refine kept_ite ?_ ?_ | (intro _) | split | dsimp only)

theorem kept_startFenced {q : List Instr} {h k : Option Nat} {ok : Bool} (s : State) (hd' : Nat) (f : Flight) (hw : Kept q h k ok s) :
    Kept q h k ok (startFenced s hd' f) := by
  unfold startFenced
  try dsimp only
  repeat' (first
    | with_reducible assumption | with_reducible apply kept_startLayerClut | with_reducible apply kept_startAtLatch
    | with_reducible refine kept_ite ?_ ?_ | (intro _) | split | dsimp only)

theorem kept_latchOne {q : List Instr} {h k : Option Nat} {ok : Bool} (hd' : Nat) (s : State) (g : Flight) (hw : Kept q h k ok s) :
    Kept q h k ok (latchOne hd' s g) := by
  unfold latchOne
  try dsimp only
  repeat' (first
    | with_reducible assumption | with_reducible apply kept_startFenced | with_reducible apply kept_departMove
    | with_reducible apply kept_missOrder | with_reducible apply kept_arriveMove | with_reducible apply kept_setFlight
    | with_reducible apply kept_latchUpdate | with_reducible apply kept_latchFree | with_reducible apply kept_finishDone
    | with_reducible apply kept_applyClut | with_reducible apply kept_applyPolicy | with_reducible apply kept_latchPush
    | with_reducible apply kept_applyAssay | with_reducible refine kept_ite ?_ ?_ | (intro _) | split | dsimp only)

theorem kept_endPoison {q : List Instr} {h k : Option Nat} {ok : Bool} (s : State) (hd' : Nat) (hw : Kept q h k ok s) :
    Kept q h k ok (endPoison s hd') := by
  unfold endPoison
  try dsimp only
  repeat' (first
    | with_reducible assumption | with_reducible apply kept_raise | with_reducible apply kept_modSlot
    | with_reducible refine kept_foldl ?_ ?_ | with_reducible refine kept_ite ?_ ?_ | (intro _) | split | dsimp only)

theorem kept_latchHead {q : List Instr} {h k : Option Nat} {ok : Bool} (s : State) (hd' : Nat) (hw : Kept q h k ok s) :
    Kept q h k ok (latchHead s hd') := by
  unfold latchHead
  try dsimp only
  repeat' (first
    | with_reducible assumption | with_reducible apply kept_joinLayers | with_reducible apply kept_leaveAtLatch
    | with_reducible apply kept_latchSecure | with_reducible apply kept_latchOne
    | with_reducible refine kept_foldl ?_ ?_ | with_reducible refine kept_ite ?_ ?_ | (intro _) | split | dsimp only)

theorem kept_startLayerUpdate {q : List Instr} {h k : Option Nat} {ok : Bool} (s : State) (f : Flight) (hw : Kept q h k ok s) :
    Kept q h k ok (startLayerUpdate s f) := by
  unfold startLayerUpdate
  try dsimp only
  repeat' (first
    | with_reducible assumption | with_reducible apply kept_startAtLatch | with_reducible refine kept_ite ?_ ?_
    | (intro _) | split | dsimp only)

theorem kept_startLayerFree {q : List Instr} {h k : Option Nat} {ok : Bool} (s : State) (f : Flight) (hw : Kept q h k ok s) :
    Kept q h k ok (startLayerFree s f) := by
  unfold startLayerFree
  try dsimp only
  repeat' (first
    | with_reducible assumption | with_reducible apply kept_await | with_reducible apply kept_startAtLatch
    | with_reducible refine kept_ite ?_ ?_ | (intro _) | split | dsimp only)

theorem kept_applyLayerFree {q : List Instr} {h k : Option Nat} {ok : Bool} (s : State) (f : Flight) (hw : Kept q h k ok s) :
    Kept q h k ok (applyLayerFree s f) := by
  unfold applyLayerFree
  try dsimp only
  repeat' (first
    | with_reducible assumption | with_reducible apply kept_releaseSlot | with_reducible apply kept_finishDone
    | with_reducible refine kept_ite ?_ ?_ | (intro _) | split | dsimp only)

theorem kept_startLayerMove {q : List Instr} {h k : Option Nat} {ok : Bool} (s : State) (f : Flight) (hw : Kept q h k ok s) :
    Kept q h k ok (startLayerMove s f) := by
  unfold startLayerMove
  try dsimp only
  repeat' (first
    | with_reducible assumption | with_reducible apply kept_await | with_reducible refine kept_ite ?_ ?_ | (intro _)
    | split | dsimp only)

theorem kept_startLayerPolicy {q : List Instr} {h k : Option Nat} {ok : Bool} (s : State) (f : Flight) (hw : Kept q h k ok s) :
    Kept q h k ok (startLayerPolicy s f) := by
  unfold startLayerPolicy
  try dsimp only
  repeat' (first
    | with_reducible assumption | with_reducible apply kept_finishDone | with_reducible apply kept_applyPolicy
    | with_reducible apply kept_startAtLatch | with_reducible refine kept_ite ?_ ?_ | (intro _) | split | dsimp only)

theorem kept_startHeadPush {q : List Instr} {h k : Option Nat} {ok : Bool} (s : State) (f : Flight) (hw : Kept q h k ok s) :
    Kept q h k ok (startHeadPush s f) := by
  unfold startHeadPush
  try dsimp only
  repeat' (first
    | with_reducible assumption | with_reducible apply kept_startAtLatch | with_reducible refine kept_ite ?_ ?_
    | (intro _) | split | dsimp only)

theorem kept_startHeadQuiet {q : List Instr} {h k : Option Nat} {ok : Bool} (s : State) (f : Flight) (hw : Kept q h k ok s) :
    Kept q h k ok (startHeadQuiet s f) := by
  unfold startHeadQuiet
  try dsimp only
  repeat' (first
    | with_reducible assumption | with_reducible apply kept_await | with_reducible refine kept_ite ?_ ?_ | (intro _)
    | split | dsimp only)

end Sys2Proof.Machine
end

