-- ==== Sys2Proof/Laws/KeptRasterOps.lean ====
section
/-! SUPPORT. What the operations of Machine/RasterOps.lean keep. -/

namespace Sys2Proof.Machine

theorem kept_noteLine {q : List Instr} {h k : Option Nat} {ok : Bool} (s : State) (e : Nat × Nat × Bool) (hw : Kept q h k ok s) :
    Kept q h k ok (noteLine s e) := by
  unfold noteLine
  try dsimp only
  repeat' (first
    | with_reducible assumption | with_reducible apply kept_modSlot | with_reducible apply kept_raise
    | with_reducible refine kept_ite ?_ ?_ | (intro _) | split | dsimp only)

theorem kept_readRings {q : List Instr} {h k : Option Nat} {ok : Bool} (s : State) (hd' : Nat) (c : HeadCfg) (y : Nat) (after : Bool) (hw : Kept q h k ok s) :
    Kept q h k ok (readRings s hd' c y after) := by
  unfold readRings
  try dsimp only
  repeat' (first
    | with_reducible assumption | with_reducible apply kept_countSrBytes | with_reducible apply kept_noteRead
    | with_reducible apply kept_srAccessFault | with_reducible refine kept_foldl ?_ ?_
    | with_reducible refine kept_foldl_1 ?_ ?_ | with_reducible refine kept_foldl_2 ?_ ?_
    | with_reducible refine kept_foldl_22 ?_ ?_ | with_reducible refine kept_ite ?_ ?_ | (intro _) | split | dsimp only)

theorem kept_beginLine {q : List Instr} {h k : Option Nat} {ok : Bool} (s : State) (hd' : Nat) (c : HeadCfg) (y : Nat) (hw : Kept q h k ok s) :
    Kept q h k ok (beginLine s hd' c y) := by
  unfold beginLine
  try dsimp only
  repeat' (first
    | with_reducible assumption | with_reducible apply kept_landRow | with_reducible apply kept_fallBack
    | with_reducible apply kept_readRings | with_reducible apply kept_noteLine | with_reducible apply kept_modHead
    | with_reducible refine kept_foldl ?_ ?_ | with_reducible refine kept_ite ?_ ?_ | (intro _) | split | dsimp only)

theorem kept_pushView {q : List Instr} {h k : Option Nat} {ok : Bool} (s : State) (hd' : Nat) (p : Push) (hw : Kept q h k ok s) :
    Kept q h k ok (pushView s hd' p) := by
  unfold pushView
  try dsimp only
  repeat' (first
    | with_reducible assumption | with_reducible apply kept_setSlot | with_reducible apply kept_modHead
    | with_reducible refine kept_foldl ?_ ?_ | with_reducible refine kept_foldl_1 ?_ ?_
    | with_reducible refine kept_foldl_2 ?_ ?_ | with_reducible refine kept_foldl_22 ?_ ?_
    | with_reducible refine kept_ite ?_ ?_ | (intro _) | split | dsimp only)

theorem kept_inPush {q : List Instr} {h k : Option Nat} {ok : Bool} (s : State) (hd' : Nat) (p : Push) (f : State → State) (hf : ∀ (x0 : State), Kept q h k ok x0 → Kept q h k ok (f x0)) (hw : Kept q h k ok s) :
    Kept q h k ok (inPush s hd' p f) := by
  unfold inPush
  try dsimp only
  repeat' (first
    | with_reducible assumption | with_reducible apply kept_pushView | with_reducible refine kept_modComp ?_
    | with_reducible apply hf | with_reducible refine kept_ite ?_ ?_ | (intro _) | split | dsimp only)

theorem kept_landPushes {q : List Instr} {h k : Option Nat} {ok : Bool} (s : State) (hd' : Nat) (hw : Kept q h k ok s) :
    Kept q h k ok (landPushes s hd') := by
  unfold landPushes
  try dsimp only
  repeat' (first
    | with_reducible assumption | with_reducible apply kept_inPush | with_reducible apply kept_landRow
    | with_reducible refine kept_foldl ?_ ?_ | with_reducible refine kept_foldl_1 ?_ ?_
    | with_reducible refine kept_foldl_2 ?_ ?_ | with_reducible refine kept_foldl_22 ?_ ?_
    | with_reducible refine kept_ite ?_ ?_ | (intro _) | split | dsimp only)

theorem kept_beginPushLine {q : List Instr} {h k : Option Nat} {ok : Bool} (s : State) (hd' : Nat) (c : HeadCfg) (hw : Kept q h k ok s) :
    Kept q h k ok (beginPushLine s hd' c) := by
  unfold beginPushLine
  try dsimp only
  repeat' (first
    | with_reducible assumption | with_reducible apply kept_inPush | with_reducible apply kept_fallBack
    | with_reducible apply kept_landRow | with_reducible apply kept_pushView | with_reducible apply kept_readRings
    | with_reducible apply kept_noteLine | with_reducible apply kept_modHead | with_reducible refine kept_foldl ?_ ?_
    | with_reducible refine kept_foldl_1 ?_ ?_ | with_reducible refine kept_foldl_2 ?_ ?_
    | with_reducible refine kept_foldl_22 ?_ ?_ | with_reducible refine kept_ite ?_ ?_ | (intro _) | split | dsimp only)

theorem kept_endLine {q : List Instr} {h k : Option Nat} {ok : Bool} (s : State) (hd' : Nat) (hw : Kept q h k ok s) :
    Kept q h k ok (endLine s hd') := by
  unfold endLine
  try dsimp only
  repeat' (first
    | with_reducible assumption | with_reducible apply kept_feedLine | with_reducible apply kept_inPush
    | with_reducible apply kept_modHead | with_reducible refine kept_ite ?_ ?_ | (intro _) | split | dsimp only)

theorem kept_startPush {q : List Instr} {h k : Option Nat} {ok : Bool} (s : State) (hd' t : Nat) (hw : Kept q h k ok s) :
    Kept q h k ok (startPush s hd' t) := by
  unfold startPush
  try dsimp only
  repeat' (first
    | with_reducible assumption | with_reducible apply kept_modHead | with_reducible refine kept_ite ?_ ?_ | (intro _)
    | split | dsimp only)

theorem kept_afterPush {q : List Instr} {h k : Option Nat} {ok : Bool} (s : State) (hd' : Nat) (hw : Kept q h k ok s) :
    Kept q h k ok (afterPush s hd') := by
  unfold afterPush
  try dsimp only
  repeat' (first
    | with_reducible assumption | with_reducible apply kept_modHead | with_reducible apply kept_startPush
    | with_reducible refine kept_ite ?_ ?_ | (intro _) | split | dsimp only)

theorem kept_carryOn {q : List Instr} {h k : Option Nat} {ok : Bool} (s : State) (hd' : Nat) (rs : List Rect) (hw : Kept q h k ok s) :
    Kept q h k ok (carryOn s hd' rs) := by
  unfold carryOn
  try dsimp only
  repeat' (first
    | with_reducible assumption | with_reducible apply kept_modHead | with_reducible refine kept_ite ?_ ?_ | (intro _)
    | split | dsimp only)

theorem kept_stopAtEnd {q : List Instr} {h k : Option Nat} {ok : Bool} (s : State) (hd' : Nat) (hw : Kept q h k ok s) :
    Kept q h k ok (stopAtEnd s hd') := by
  unfold stopAtEnd
  try dsimp only
  repeat' (first
    | with_reducible assumption | with_reducible apply kept_stopHead | with_reducible apply kept_finishDone
    | with_reducible refine kept_ite ?_ ?_ | (intro _) | split | dsimp only)

theorem kept_pushEndOf {q : List Instr} {h k : Option Nat} {ok : Bool} (s : State) (hd' : Nat) (hw : Kept q h k ok s) :
    Kept q h k ok (pushEndOf s hd') := by
  unfold pushEndOf
  try dsimp only
  repeat' (first
    | with_reducible assumption | with_reducible apply kept_inPush | with_reducible apply kept_endLine
    | with_reducible apply kept_compareHead | with_reducible apply kept_stopAtEnd | with_reducible apply kept_afterPush
    | with_reducible apply kept_endPoison | with_reducible refine kept_ite ?_ ?_ | (intro _) | split | dsimp only)

theorem kept_losePush {q : List Instr} {h k : Option Nat} {ok : Bool} (s : State) (hd' : Nat) (p : Push) (hw : Kept q h k ok s) :
    Kept q h k ok (losePush s hd' p) := by
  unfold losePush
  try dsimp only
  repeat' (first
    | with_reducible assumption | with_reducible apply kept_inPush | with_reducible apply kept_compareHead
    | with_reducible apply kept_modAssay | with_reducible refine kept_foldl ?_ ?_ | with_reducible refine kept_ite ?_ ?_
    | (intro _) | split | dsimp only)

theorem kept_teEdgeOf {q : List Instr} {h k : Option Nat} {ok : Bool} (s : State) (hd' : Nat) (rising : Bool) (hw : Kept q h k ok s) :
    Kept q h k ok (teEdgeOf s hd' rising) := by
  unfold teEdgeOf
  try dsimp only
  repeat' (first
    | with_reducible assumption | with_reducible apply kept_modHead | with_reducible apply kept_startPush
    | with_reducible refine kept_ite ?_ ?_ | (intro _) | split | dsimp only)

theorem kept_countMissed {q : List Instr} {h k : Option Nat} {ok : Bool} (s : State) (hd' : Nat) (p : Push) (hw : Kept q h k ok s) :
    Kept q h k ok (countMissed s hd' p) := by
  unfold countMissed
  try dsimp only
  repeat' (first
    | with_reducible assumption | with_reducible apply kept_raise | with_reducible apply kept_modHead
    | with_reducible apply kept_losePush | with_reducible apply kept_assert | with_reducible refine kept_ite ?_ ?_
    | (intro _) | split | dsimp only)

theorem kept_teMissedOf {q : List Instr} {h k : Option Nat} {ok : Bool} (s : State) (hd' : Nat) (hw : Kept q h k ok s) :
    Kept q h k ok (teMissedOf s hd') := by
  unfold teMissedOf
  try dsimp only
  repeat' (first
    | with_reducible assumption | with_reducible apply kept_modHead | with_reducible apply kept_countMissed
    | with_reducible apply kept_afterPush | with_reducible apply kept_carryOn | with_reducible refine kept_ite ?_ ?_
    | (intro _) | split | dsimp only)

theorem kept_pushSlot {q : List Instr} {h k : Option Nat} {ok : Bool} (s : State) (hd' t : Nat) (c : HeadCfg) (hw : Kept q h k ok s) :
    Kept q h k ok (pushSlot s hd' t c) := by
  unfold pushSlot
  try dsimp only
  repeat' (first
    | with_reducible assumption | with_reducible apply kept_latchHead | with_reducible apply kept_landPushes
    | with_reducible apply kept_modHead | with_reducible apply kept_beginPushLine | with_reducible apply kept_startPush
    | with_reducible refine kept_ite ?_ ?_ | (intro _) | split | dsimp only)

theorem kept_keepMap {q : List Instr} {h k : Option Nat} {ok : Bool} (s : State) (hd' t : Nat) (c : HeadCfg) (hw : Kept q h k ok s) :
    Kept q h k ok (keepMap s hd' t c) := by
  unfold keepMap
  try dsimp only
  repeat' (first
    | with_reducible assumption | with_reducible apply kept_modHead | with_reducible refine kept_ite ?_ ?_ | (intro _)
    | split | dsimp only)

theorem kept_beginFrame {q : List Instr} {h k : Option Nat} {ok : Bool} (s : State) (hd' t : Nat) (hw : Kept q h k ok s) :
    Kept q h k ok (beginFrame s hd' t) := by
  unfold beginFrame
  try dsimp only
  repeat' (first
    | with_reducible assumption | with_reducible apply kept_modHead | with_reducible apply kept_showTelltales
    | with_reducible apply kept_finishDone | with_reducible apply kept_syncEvent | with_reducible apply kept_keepMap
    | with_reducible apply kept_beginLine | with_reducible apply kept_pushSlot | with_reducible refine kept_foldl ?_ ?_
    | with_reducible refine kept_foldl_1 ?_ ?_ | with_reducible refine kept_foldl_2 ?_ ?_
    | with_reducible refine kept_foldl_22 ?_ ?_ | with_reducible refine kept_ite ?_ ?_ | (intro _) | split | dsimp only)

theorem kept_firstFrame {q : List Instr} {h k : Option Nat} {ok : Bool} (s : State) (hd' t : Nat) (hw : Kept q h k ok s) :
    Kept q h k ok (firstFrame s hd' t) := by
  unfold firstFrame
  try dsimp only
  repeat' (first
    | with_reducible assumption | with_reducible refine kept_modAu ?_ | with_reducible apply kept_modHead
    | with_reducible apply kept_setStager | with_reducible apply kept_beginFrame | with_reducible apply kept_finishDone
    | with_reducible refine kept_ite ?_ ?_ | (intro _) | split | dsimp only)

theorem kept_nextFrame {q : List Instr} {h k : Option Nat} {ok : Bool} (s : State) (hd' t : Nat) (c : HeadCfg) (hw : Kept q h k ok s) :
    Kept q h k ok (nextFrame s hd' t c) := by
  unfold nextFrame
  try dsimp only
  repeat' (first
    | with_reducible assumption | with_reducible apply kept_stopAtEnd | with_reducible apply kept_ensureSwitch
    | with_reducible apply kept_pushEndOf | with_reducible apply kept_modHead | with_reducible apply kept_raise
    | with_reducible apply kept_beginFrame | with_reducible refine kept_ite ?_ ?_ | (intro _) | split | dsimp only)

theorem kept_nextLine {q : List Instr} {h k : Option Nat} {ok : Bool} (s : State) (hd' t l : Nat) (c : HeadCfg) (hw : Kept q h k ok s) :
    Kept q h k ok (nextLine s hd' t l c) := by
  unfold nextLine
  try dsimp only
  repeat' (first
    | with_reducible assumption | with_reducible apply kept_modHead | with_reducible apply kept_beginPushLine
    | with_reducible apply kept_beginLine | with_reducible apply kept_latchHead | with_reducible apply kept_compareHead
    | with_reducible apply kept_endPoison | with_reducible apply kept_ensureSwitch
    | with_reducible refine kept_ite ?_ ?_ | (intro _) | split | dsimp only)

theorem kept_bareLine {q : List Instr} {h k : Option Nat} {ok : Bool} (s : State) (hd' t : Nat) (kind : SlotKind) (hw : Kept q h k ok s) :
    Kept q h k ok (bareLine s hd' t kind) := by
  unfold bareLine
  try dsimp only
  repeat' (first
    | with_reducible assumption | with_reducible apply kept_modHead | with_reducible refine kept_ite ?_ ?_ | (intro _)
    | split | dsimp only)

theorem kept_abandonOlder {q : List Instr} {h k : Option Nat} {ok : Bool} (s : State) (hd' : Nat) (c : HeadCfg) (hw : Kept q h k ok s) :
    Kept q h k ok (abandonOlder s hd' c) := by
  unfold abandonOlder
  try dsimp only
  repeat' (first
    | with_reducible assumption | with_reducible apply kept_setStager | with_reducible refine kept_ite ?_ ?_ | (intro _)
    | split | dsimp only)

theorem kept_nextSlot {q : List Instr} {h k : Option Nat} {ok : Bool} (s : State) (hd' t : Nat) (c : HeadCfg) (hw : Kept q h k ok s) :
    Kept q h k ok (nextSlot s hd' t c) := by
  unfold nextSlot
  try dsimp only
  repeat' (first
    | with_reducible assumption | with_reducible apply kept_modHead | with_reducible apply kept_nextLine
    | with_reducible apply kept_abandonOlder | with_reducible apply kept_ensureSwitch
    | with_reducible apply kept_nextFrame | with_reducible apply kept_bareLine | with_reducible refine kept_ite ?_ ?_
    | (intro _) | split | dsimp only)

theorem kept_lineStartOf {q : List Instr} {h k : Option Nat} {ok : Bool} (s : State) (hd' : Nat) (hw : Kept q h k ok s) :
    Kept q h k ok (lineStartOf s hd') := by
  unfold lineStartOf
  try dsimp only
  repeat' (first
    | with_reducible assumption | with_reducible apply kept_endLine | with_reducible apply kept_firstFrame
    | with_reducible apply kept_nextSlot | with_reducible refine kept_ite ?_ ?_ | (intro _) | split | dsimp only)

theorem kept_underrunOf {q : List Instr} {h k : Option Nat} {ok : Bool} (s : State) (hd' : Nat) (hw : Kept q h k ok s) :
    Kept q h k ok (underrunOf s hd') := by
  unfold underrunOf
  try dsimp only
  repeat' (first
    | with_reducible assumption | with_reducible apply kept_freshValue | with_reducible apply kept_modHead
    | with_reducible apply kept_assert | with_reducible apply kept_raise | with_reducible apply kept_losePush
    | with_reducible apply kept_stopAtEnd | with_reducible apply kept_afterPush | with_reducible apply kept_carryOn
    | with_reducible refine kept_ite ?_ ?_ | (intro _) | split | dsimp only)

theorem kept_linkLostOf {q : List Instr} {h k : Option Nat} {ok : Bool} (s : State) (hd' : Nat) (hw : Kept q h k ok s) :
    Kept q h k ok (linkLostOf s hd') := by
  unfold linkLostOf
  try dsimp only
  repeat' (first
    | with_reducible assumption | with_reducible apply kept_modHead | with_reducible apply kept_beginTraining
    | with_reducible apply kept_assert | with_reducible apply kept_raise | with_reducible refine kept_ite ?_ ?_
    | (intro _) | split | dsimp only)

theorem kept_hpdOf {q : List Instr} {h k : Option Nat} {ok : Bool} (s : State) (hd' : Nat) (hw : Kept q h k ok s) :
    Kept q h k ok (hpdOf s hd') := by
  unfold hpdOf
  try dsimp only
  repeat' (first
    | with_reducible assumption | with_reducible apply kept_restartTraining | with_reducible refine kept_ite ?_ ?_
    | (intro _) | split | dsimp only)

theorem kept_retrainOf {q : List Instr} {h k : Option Nat} {ok : Bool} (s : State) (hd' : Nat) (hw : Kept q h k ok s) :
    Kept q h k ok (retrainOf s hd') := by
  unfold retrainOf
  try dsimp only
  repeat' (first
    | with_reducible assumption | with_reducible apply kept_modHead | with_reducible refine kept_ite ?_ ?_ | (intro _)
    | split | dsimp only)

theorem kept_scheduleStart {q : List Instr} {h k : Option Nat} {ok : Bool} (s : State) (hd' : Nat) (after : Nat) (hw : Kept q h k ok s) :
    Kept q h k ok (scheduleStart s hd' after) := by
  unfold scheduleStart
  try dsimp only
  repeat' (first
    | with_reducible assumption | with_reducible apply kept_modHead | with_reducible apply kept_setStager
    | with_reducible refine kept_ite ?_ ?_ | (intro _) | split | dsimp only)

theorem kept_trainingDoneOf {q : List Instr} {h k : Option Nat} {ok : Bool} (s : State) (hd' : Nat) (success : Bool) (hw : Kept q h k ok s) :
    Kept q h k ok (trainingDoneOf s hd' success) := by
  unfold trainingDoneOf
  try dsimp only
  repeat' (first
    | with_reducible assumption | with_reducible apply kept_modHead | with_reducible apply kept_raise
    | with_reducible apply kept_finishDone | with_reducible apply kept_scheduleStart | with_reducible apply kept_finish
    | with_reducible apply kept_assert | with_reducible refine kept_foldl ?_ ?_ | with_reducible refine kept_ite ?_ ?_
    | (intro _) | split | dsimp only)

theorem kept_linkReplyOf {q : List Instr} {h k : Option Nat} {ok : Bool} (s : State) (hd' : Nat) (reply : Option (List Byte)) (hw : Kept q h k ok s) :
    Kept q h k ok (linkReplyOf s hd' reply) := by
  unfold linkReplyOf
  try dsimp only
  repeat' (first
    | with_reducible assumption | with_reducible apply kept_finish | with_reducible apply kept_finishDone
    | with_reducible apply kept_hostWrite | with_reducible refine kept_ite ?_ ?_ | (intro _) | split | dsimp only)

theorem kept_lateOrder {q : List Instr} {h k : Option Nat} {ok : Bool} (s : State) (f : Flight) (hw : Kept q h k ok s) :
    Kept q h k ok (lateOrder s f) := by
  unfold lateOrder
  try dsimp only
  repeat' (first
    | with_reducible assumption | with_reducible apply kept_missOrder | with_reducible refine kept_ite ?_ ?_ | (intro _)
    | split | dsimp only)

theorem kept_executeOrder {q : List Instr} {h k : Option Nat} {ok : Bool} (s : State) (f : Flight) (hw : Kept q h k ok s) :
    Kept q h k ok (executeOrder s f) := by
  unfold executeOrder
  try dsimp only
  repeat' (first
    | with_reducible assumption | with_reducible apply kept_performHaptic | with_reducible refine kept_ite ?_ ?_
    | (intro _) | split | dsimp only)

end Sys2Proof.Machine
end

