-- ==== Sys2Proof/Laws/KeptSaveOps.lean ====
section
/-! SUPPORT. What the operations of Machine/SaveOps.lean keep. -/

namespace Sys2Proof.Machine

theorem kept_startSave {q : List Instr} {h k : Option Nat} {ok : Bool} (s : State) (f : Flight) (hw : Kept q h k ok s) :
    Kept q h k ok (startSave s f) := by
  unfold startSave
  try dsimp only
  repeat' (first
    | with_reducible assumption | with_reducible apply kept_finishDone | with_reducible apply kept_await
    | with_reducible refine kept_ite ?_ ?_ | (intro _) | split | dsimp only)

theorem kept_endSave {q : List Instr} {h k : Option Nat} {ok : Bool} (s : State) (f : Flight) (hw : Kept q h k ok s) :
    Kept q h k ok (endSave s f) := by
  unfold endSave
  try dsimp only
  repeat' (first
    | with_reducible assumption | with_reducible apply kept_finish | with_reducible apply kept_freshBytes
    | with_reducible apply kept_finishDone | with_reducible apply kept_dropKey | with_reducible apply kept_hostWrite
    | with_reducible refine kept_ite ?_ ?_ | (intro _) | split | dsimp only)

theorem kept_startRestore {q : List Instr} {h k : Option Nat} {ok : Bool} (s : State) (f : Flight) (hw : Kept q h k ok s) :
    Kept q h k ok (startRestore s f) := by
  unfold startRestore
  try dsimp only
  repeat' (first
    | with_reducible assumption | with_reducible apply kept_await | with_reducible refine kept_ite ?_ ?_ | (intro _)
    | split | dsimp only)

theorem kept_restoreRead {q : List Instr} {h k : Option Nat} {ok : Bool} (s : State) (f : Flight) (b : List Byte) (hw : Kept q h k ok s) :
    Kept q h k ok (restoreRead s f b) := by
  unfold restoreRead
  try dsimp only
  repeat' (first
    | with_reducible assumption | with_reducible apply kept_finish | with_reducible apply kept_await
    | with_reducible refine kept_ite ?_ ?_ | (intro _) | split | dsimp only)

theorem kept_putSource {q : List Instr} {h k : Option Nat} {ok : Bool} (b : List Byte) (s : State) (x : Nat × Nat) (hw : Kept q h k ok s) :
    Kept q h k ok (putSource b s x) := by
  unfold putSource
  try dsimp only
  repeat' (first
    | with_reducible assumption | with_reducible apply kept_setEvSrc | with_reducible refine kept_ite ?_ ?_ | (intro _)
    | split | dsimp only)

theorem kept_putUnacked {q : List Instr} {h k : Option Nat} {ok : Bool} (b : List Byte) (t : Nat) (s : State) (x : Nat × Nat) (hw : Kept q h k ok s) :
    Kept q h k ok (putUnacked b t s x) := by
  unfold putUnacked
  try dsimp only
  repeat' (first
    | with_reducible assumption | with_reducible apply kept_setEvRing | with_reducible refine kept_ite ?_ ?_ | (intro _)
    | split | dsimp only)

theorem kept_restoreSources {q : List Instr} {h k : Option Nat} {ok : Bool} (s : State) (t : Nat) (want : Grants) (b : List Byte) (hw : Kept q h k ok s) :
    Kept q h k ok (restoreSources s t want b) := by
  unfold restoreSources
  try dsimp only
  repeat' (first
    | with_reducible assumption | with_reducible apply kept_putUnacked | with_reducible apply kept_putSource
    | with_reducible refine kept_foldl ?_ ?_ | with_reducible refine kept_foldl_1 ?_ ?_
    | with_reducible refine kept_foldl_2 ?_ ?_ | with_reducible refine kept_foldl_22 ?_ ?_
    | with_reducible refine kept_ite ?_ ?_ | (intro _) | split | dsimp only)

theorem kept_restoreRing {q : List Instr} {h k : Option Nat} {ok : Bool} (s : State) (t : Nat) (b : List Byte) (o r : Nat) (hw : Kept q h k ok s) :
    Kept q h k ok (restoreRing s t b o r) := by
  unfold restoreRing
  try dsimp only
  repeat' (first
    | with_reducible assumption | with_reducible apply kept_setCr | with_reducible apply kept_modFn
    | with_reducible refine kept_ite ?_ ?_ | (intro _) | split | dsimp only)

theorem kept_restoreEvRing {q : List Instr} {h k : Option Nat} {ok : Bool} (s : State) (t : Nat) (b : List Byte) (o n : Nat) (hw : Kept q h k ok s) :
    Kept q h k ok (restoreEvRing s t b o n) := by
  unfold restoreEvRing
  try dsimp only
  repeat' (first
    | with_reducible assumption | with_reducible apply kept_setEvRing | with_reducible apply kept_modFn
    | with_reducible refine kept_ite ?_ ?_ | (intro _) | split | dsimp only)

theorem kept_restoreLayer {q : List Instr} {h k : Option Nat} {ok : Bool} (s : State) (t : Nat) (b : List Byte) (o n : Nat) (hw : Kept q h k ok s) :
    Kept q h k ok (restoreLayer s t b o n) := by
  unfold restoreLayer
  try dsimp only
  repeat' (first
    | with_reducible assumption | with_reducible apply kept_setSlot | with_reducible refine kept_ite ?_ ?_ | (intro _)
    | split | dsimp only)

theorem kept_restoreContext {q : List Instr} {h k : Option Nat} {ok : Bool} (s : State) (t : Nat) (b : List Byte) (o n : Nat) (hw : Kept q h k ok s) :
    Kept q h k ok (restoreContext s t b o n) := by
  unfold restoreContext
  try dsimp only
  repeat' (first
    | with_reducible assumption | with_reducible apply kept_setCtx | with_reducible refine kept_modSr ?_ ?_
    | with_reducible refine kept_ite ?_ ?_ | (exact fun _ e => e) | exact Mem.wf_wrs _ _ _ (by assumption)
    | exact Mem.wf_wipe _ _ _ (by assumption) | (intro _) | split | dsimp only)

theorem kept_restoreAssay {q : List Instr} {h k : Option Nat} {ok : Bool} (s : State) (t : Nat) (b : List Byte) (o n : Nat) (hw : Kept q h k ok s) :
    Kept q h k ok (restoreAssay s t b o n) := by
  unfold restoreAssay
  try dsimp only
  repeat' (first
    | with_reducible assumption | with_reducible apply kept_setAssay | with_reducible refine kept_ite ?_ ?_ | (intro _)
    | split | dsimp only)

theorem kept_restoreKey {q : List Instr} {h k : Option Nat} {ok : Bool} (s : State) (t : Nat) (b : List Byte) (p o k' : Nat) (hw : Kept q h k ok s) :
    Kept q h k ok (restoreKey s t b p o k') := by
  unfold restoreKey
  try dsimp only
  repeat' (first
    | with_reducible assumption | with_reducible apply kept_modPort | with_reducible refine kept_ite ?_ ?_ | (intro _)
    | split | dsimp only)

theorem kept_restoreReports {q : List Instr} {h k : Option Nat} {ok : Bool} (b : List Byte) (t : Nat) (s : State) (p : Nat) (hw : Kept q h k ok s) :
    Kept q h k ok (restoreReports b t s p) := by
  unfold restoreReports
  try dsimp only
  repeat' (first
    | with_reducible assumption | with_reducible apply kept_modPort | with_reducible refine kept_ite ?_ ?_ | (intro _)
    | split | dsimp only)

theorem kept_restoreBody {q : List Instr} {h k : Option Nat} {ok : Bool} (s : State) (t : Nat) (want : Grants) (b : List Byte) (hw : Kept q h k ok s) :
    Kept q h k ok (restoreBody s t want b) := by
  unfold restoreBody
  try dsimp only
  repeat' (first
    | with_reducible assumption | with_reducible apply kept_modTen | with_reducible apply kept_restoreReports
    | with_reducible refine kept_modSr ?_ ?_ | with_reducible refine kept_modDram ?_ ?_
    | with_reducible apply kept_restoreRing | with_reducible apply kept_restoreEvRing
    | with_reducible apply kept_restoreLayer | with_reducible apply kept_restoreContext
    | with_reducible apply kept_modChan | with_reducible apply kept_configureStream | with_reducible apply kept_modInput
    | with_reducible apply kept_modPath | with_reducible apply kept_modHap | with_reducible apply kept_configureHaptic
    | with_reducible apply kept_restoreKey | with_reducible apply kept_restoreSources
    | with_reducible apply kept_restoreAssay | with_reducible refine kept_foldl ?_ ?_
    | with_reducible refine kept_ite ?_ ?_ | (exact fun _ e => e) | exact Mem.wf_wrs _ _ _ (by assumption)
    | exact Mem.wf_wipe _ _ _ (by assumption) | (intro _) | split | dsimp only)

theorem kept_endRestore {q : List Instr} {h k : Option Nat} {ok : Bool} (s : State) (f : Flight) (good : Bool) (body : List Byte) (hw : Kept q h k ok s) :
    Kept q h k ok (endRestore s f good body) := by
  unfold endRestore
  try dsimp only
  repeat' (first
    | with_reducible assumption | with_reducible apply kept_freshValue | with_reducible apply kept_finish
    | with_reducible apply kept_dropKey | with_reducible apply kept_applyRecord | with_reducible apply kept_modTen
    | with_reducible apply kept_restoreBody | with_reducible apply kept_finishDone
    | with_reducible refine kept_modCharges ?_ | with_reducible refine kept_ite ?_ ?_ | (intro _) | split | dsimp only)

end Sys2Proof.Machine
end

