-- ==== Sys2Proof/Laws/KeptReactionOps.lean ====
section
/-! SUPPORT. What the operations of Machine/ReactionOps.lean keep. -/

namespace Sys2Proof.Machine

theorem kept_startReaction {q : List Instr} {h k : Option Nat} {ok : Bool} (s : State) (hw : Kept q h k ok s) :
    Kept q h k ok (startReaction s) := by
  unfold startReaction
  try dsimp only
  repeat' (first
    | with_reducible assumption | with_reducible refine kept_modLg ?_ ?_ | with_reducible refine kept_ite ?_ ?_
    | (exact fun _ _ e => e) | (intro _) | split | dsimp only)

theorem kept_containOne {q : List Instr} {h k : Option Nat} {ok : Bool} (r : Reaction) (s : State) (t : Nat) (hw : Kept q h k ok s) :
    Kept q h k ok (containOne r s t) := by
  unfold containOne
  try dsimp only
  repeat' (first
    | with_reducible assumption | with_reducible apply kept_containTenancy | with_reducible apply kept_modTen
    | with_reducible apply kept_raise | with_reducible refine kept_foldl ?_ ?_
    | with_reducible refine kept_foldl_1 ?_ ?_ | with_reducible refine kept_foldl_2 ?_ ?_
    | with_reducible refine kept_foldl_22 ?_ ?_ | with_reducible refine kept_ite ?_ ?_ | (intro _) | split | dsimp only)

theorem kept_degradeOne {q : List Instr} {h k : Option Nat} {ok : Bool} (s : State) (t : Nat) (hw : Kept q h k ok s) :
    Kept q h k ok (degradeOne s t) := by
  unfold degradeOne
  try dsimp only
  repeat' (first
    | with_reducible assumption | with_reducible refine kept_modLg ?_ ?_ | with_reducible refine kept_mapFlights ?_ ?_
    | with_reducible refine kept_filterFlights ?_ | with_reducible apply kept_raise
    | with_reducible refine kept_ite ?_ ?_ | (exact fun _ _ e => e) | (exact fun _ => rfl) | rfl
    | exact Eq.symm (by assumption) | (intro _) | split | dsimp only)

theorem kept_completeReaction {q : List Instr} {h k : Option Nat} {ok : Bool} (s : State) (hw : Kept q h k ok s) :
    Kept q h k ok (completeReaction s) := by
  unfold completeReaction
  try dsimp only
  repeat' (first
    | with_reducible assumption | with_reducible apply kept_containOne | with_reducible apply kept_degradeOne
    | with_reducible apply kept_endDegraded | with_reducible refine kept_modLg ?_ ?_
    | with_reducible refine kept_foldl ?_ ?_ | with_reducible refine kept_ite ?_ ?_ | (exact fun _ _ e => e) | (intro _)
    | split | dsimp only)

theorem kept_parityFault {q : List Instr} {h k : Option Nat} {ok : Bool} (s : State) (what : Parity) (n : Nat) (hw : Kept q h k ok s) :
    Kept q h k ok (parityFault s what n) := by
  unfold parityFault
  try dsimp only
  repeat' (first
    | with_reducible assumption | with_reducible apply kept_assert | with_reducible apply kept_missOrder
    | with_reducible refine kept_ite ?_ ?_ | (intro _) | split | dsimp only)

end Sys2Proof.Machine
end

