-- ==== Sys2Proof/Laws/KeptServiceOps.lean ====
section
/-! SUPPORT. What the operations of Machine/ServiceOps.lean keep. -/

namespace Sys2Proof.Machine

theorem kept_linkUpAgain {q : List Instr} {h k : Option Nat} {ok : Bool} (s : State) (hw : Kept q h k ok s) :
    Kept q h k ok (linkUpAgain s) := by
  unfold linkUpAgain
  try dsimp only
  repeat' (first
    | with_reducible assumption | with_reducible apply kept_wakeFunction | with_reducible refine kept_modPcie ?_
    | with_reducible refine kept_foldl ?_ ?_ | with_reducible refine kept_ite ?_ ?_ | (intro _) | split | dsimp only)

theorem kept_setMaster {q : List Instr} {h k : Option Nat} {ok : Bool} (s : State) (f : Nat) (hw : Kept q h k ok s) :
    Kept q h k ok (setMaster s f) := by
  unfold setMaster
  try dsimp only
  repeat' (first
    | with_reducible assumption | with_reducible apply kept_wakeFunction | with_reducible apply kept_linkUpAgain
    | with_reducible apply kept_modFn | with_reducible refine kept_ite ?_ ?_ | (intro _) | split | dsimp only)

theorem kept_clearMaster {q : List Instr} {h k : Option Nat} {ok : Bool} (s : State) (f : Nat) (hw : Kept q h k ok s) :
    Kept q h k ok (clearMaster s f) := by
  unfold clearMaster
  try dsimp only
  repeat' (first
    | with_reducible assumption | with_reducible apply kept_modFn | with_reducible refine kept_ite ?_ ?_ | (intro _)
    | split | dsimp only)

theorem kept_returnToD0 {q : List Instr} {h k : Option Nat} {ok : Bool} (s : State) (f : Nat) (hw : Kept q h k ok s) :
    Kept q h k ok (returnToD0 s f) := by
  unfold returnToD0
  try dsimp only
  repeat' (first
    | with_reducible assumption | with_reducible apply kept_returnD0 | with_reducible apply kept_linkUpAgain
    | with_reducible refine kept_ite ?_ ?_ | (intro _) | split | dsimp only)

theorem kept_setVfEnable {q : List Instr} {h k : Option Nat} {ok : Bool} (s : State) (hw : Kept q h k ok s) :
    Kept q h k ok (setVfEnable s) := by
  unfold setVfEnable
  try dsimp only
  repeat' (first
    | with_reducible assumption | with_reducible apply kept_wakeFunction | with_reducible apply kept_linkUpAgain
    | with_reducible refine kept_modPcie ?_ | with_reducible refine kept_foldl ?_ ?_
    | with_reducible refine kept_ite ?_ ?_ | (intro _) | split | dsimp only)

theorem kept_failAccess {q : List Instr} {h k : Option Nat} {ok : Bool} (cause : Nat) (s : State) (e : CmdSrc × Bool × Nat × Nat) (hw : Kept q h k ok s) :
    Kept q h k ok (failAccess cause s e) := by
  unfold failAccess
  try dsimp only
  repeat' (first
    | with_reducible assumption | with_reducible apply kept_haltChannel | with_reducible refine kept_ite ?_ ?_
    | (intro _) | split | dsimp only)

theorem kept_coldFunctions {q : List Instr} {h k : Option Nat} {ok : Bool} (s : State) (hw : Kept q h k ok s) :
    Kept q h k ok (coldFunctions s) := by
  unfold coldFunctions
  try dsimp only
  repeat' (first
    | with_reducible assumption | with_reducible refine kept_modFns ?_ | with_reducible refine kept_foldl ?_ ?_
    | with_reducible refine kept_ite ?_ ?_ | (intro _) | split | dsimp only)

theorem kept_loseLink {q : List Instr} {h k : Option Nat} {ok : Bool} (s : State) (fails : List (CmdSrc × Bool × Nat × Nat)) (hw : Kept q h k ok s) :
    Kept q h k ok (loseLink s fails) := by
  unfold loseLink
  try dsimp only
  repeat' (first
    | with_reducible assumption | with_reducible apply kept_failAccess | with_reducible apply kept_coldFunctions
    | with_reducible refine kept_modPcie ?_ | with_reducible refine kept_foldl ?_ ?_
    | with_reducible refine kept_ite ?_ ?_ | (intro _) | split | dsimp only)

theorem kept_zeroOutputs {q : List Instr} {h k : Option Nat} {ok : Bool} (s : State) (p : Nat → Bool) (hw : Kept q h k ok s) :
    Kept q h k ok (zeroOutputs s p) := by
  unfold zeroOutputs
  try dsimp only
  repeat' (first
    | with_reducible assumption | with_reducible apply kept_modUnit | with_reducible refine kept_foldl ?_ ?_
    | with_reducible refine kept_ite ?_ ?_ | (intro _) | split | dsimp only)

theorem kept_loseD2d {q : List Instr} {h k : Option Nat} {ok : Bool} (s : State) (hw : Kept q h k ok s) :
    Kept q h k ok (loseD2d s) := by
  unfold loseD2d
  try dsimp only
  repeat' (first
    | with_reducible assumption | with_reducible refine kept_modHokusaSafe ?_ | with_reducible apply kept_assert
    | with_reducible apply kept_zeroOutputs | with_reducible apply kept_abortScans
    | with_reducible apply kept_cutEffects | with_reducible refine kept_ite ?_ ?_ | (intro _) | split | dsimp only)

theorem kept_regainD2d {q : List Instr} {h k : Option Nat} {ok : Bool} (s : State) (hw : Kept q h k ok s) :
    Kept q h k ok (regainD2d s) := by
  unfold regainD2d
  try dsimp only
  repeat' (first
    | with_reducible assumption | with_reducible refine kept_modHokusaSafe ?_ | with_reducible refine kept_ite ?_ ?_
    | (intro _) | split | dsimp only)

theorem kept_faultLine {q : List Instr} {h k : Option Nat} {ok : Bool} (s : State) (b parties : Nat) (hw : Kept q h k ok s) :
    Kept q h k ok (faultLine s b parties) := by
  unfold faultLine
  try dsimp only
  repeat' (first
    | with_reducible assumption | with_reducible apply kept_assert | with_reducible refine kept_ite ?_ ?_ | (intro _)
    | split | dsimp only)

theorem kept_holdHalt {q : List Instr} {h k : Option Nat} {ok : Bool} (s : State) (hw : Kept q h k ok s) :
    Kept q h k ok (holdHalt s) := by
  unfold holdHalt
  try dsimp only
  repeat' (first
    | with_reducible assumption | with_reducible apply kept_modPort | with_reducible apply kept_cutEffects
    | with_reducible apply kept_zeroOutputs | with_reducible refine kept_foldl ?_ ?_
    | with_reducible refine kept_ite ?_ ?_ | (intro _) | split | dsimp only)

end Sys2Proof.Machine
end

