-- ==== Sys2Proof/Laws/KeptConfigOps.lean ====
section
/-! SUPPORT. What the operations of Machine/ConfigOps.lean keep. -/

namespace Sys2Proof.Machine

theorem kept_modCfg {q : List Instr} {h k : Option Nat} {ok : Bool} (s : State) (f : Nat) (g : PciSpace → PciSpace) (hw : Kept q h k ok s) :
    Kept q h k ok (modCfg s f g) := by
  unfold modCfg
  try dsimp only
  repeat' (first
    | with_reducible assumption | with_reducible apply kept_modFn | with_reducible refine kept_ite ?_ ?_ | (intro _)
    | split | dsimp only)

theorem kept_writeVfEnable {q : List Instr} {h k : Option Nat} {ok : Bool} (s : State) (on : Bool) (hw : Kept q h k ok s) :
    Kept q h k ok (writeVfEnable s on) := by
  unfold writeVfEnable
  try dsimp only
  repeat' (first
    | with_reducible assumption | with_reducible apply kept_setVfEnable | with_reducible apply kept_settleWake
    | with_reducible refine kept_modPcie ?_ | with_reducible refine kept_ite ?_ ?_ | (intro _) | split | dsimp only)

theorem kept_sriovWrite {q : List Instr} {h k : Option Nat} {ok : Bool} (s : State) (o v : Nat) (hw : Kept q h k ok s) :
    Kept q h k ok (sriovWrite s o v) := by
  unfold sriovWrite
  try dsimp only
  repeat' (first
    | with_reducible assumption | with_reducible apply kept_writeVfEnable | with_reducible refine kept_modPcie ?_
    | with_reducible refine kept_ite ?_ ?_ | (intro _) | split | dsimp only)

theorem kept_powerWrite {q : List Instr} {h k : Option Nat} {ok : Bool} (s : State) (f v : Nat) (hw : Kept q h k ok s) :
    Kept q h k ok (powerWrite s f v) := by
  unfold powerWrite
  try dsimp only
  repeat' (first
    | with_reducible assumption | with_reducible apply kept_modFn | with_reducible apply kept_enterD3
    | with_reducible apply kept_returnToD0 | with_reducible refine kept_ite ?_ ?_ | (intro _) | split | dsimp only)

theorem kept_msixControl {q : List Instr} {h k : Option Nat} {ok : Bool} (s : State) (f v : Nat) (hw : Kept q h k ok s) :
    Kept q h k ok (msixControl s f v) := by
  unfold msixControl
  try dsimp only
  repeat' (first
    | with_reducible assumption | with_reducible apply kept_modCfg | with_reducible apply kept_modFn
    | with_reducible apply kept_unmask | with_reducible refine kept_ite ?_ ?_ | (intro _) | split | dsimp only)

theorem kept_commandWrite {q : List Instr} {h k : Option Nat} {ok : Bool} (s : State) (f v : Nat) (hw : Kept q h k ok s) :
    Kept q h k ok (commandWrite s f v) := by
  unfold commandWrite
  try dsimp only
  repeat' (first
    | with_reducible assumption | with_reducible apply kept_modCfg | with_reducible apply kept_setMaster
    | with_reducible apply kept_clearMaster | with_reducible refine kept_ite ?_ ?_ | (intro _) | split | dsimp only)

theorem kept_configWrite {q : List Instr} {h k : Option Nat} {ok : Bool} (s : State) (f o v : Nat) (hw : Kept q h k ok s) :
    Kept q h k ok (configWrite s f o v) := by
  unfold configWrite
  try dsimp only
  repeat' (first
    | with_reducible assumption | with_reducible apply kept_commandWrite | with_reducible apply kept_modCfg
    | with_reducible apply kept_powerWrite | with_reducible apply kept_msixControl
    | with_reducible apply kept_sriovWrite | with_reducible refine kept_ite ?_ ?_ | (intro _) | split | dsimp only)

end Sys2Proof.Machine
end

