-- ==== Sys2Proof/Laws/KeptRegOps.lean ====
section
/-! SUPPORT. What the operations of Machine/RegOps.lean keep. -/

namespace Sys2Proof.Machine

theorem kept_latchTick {q : List Instr} {h k : Option Nat} {ok : Bool} (s : State) (hw : Kept q h k ok s) :
    Kept q h k ok (latchTick s) := by
  unfold latchTick
  try dsimp only
  repeat' (first
    | with_reducible assumption | with_reducible refine kept_modTl ?_ ?_ ?_ | with_reducible refine kept_ite ?_ ?_ | rfl
    | (unfold TimelineOk at *; dsimp only at *; omega) | (intro _) | split | dsimp only)

theorem kept_timelineWrite {q : List Instr} {h k : Option Nat} {ok : Bool} (s : State) (o v : Nat) (hw : Kept q h k ok s) :
    Kept q h k ok (timelineWrite s o v) := by
  unfold timelineWrite
  try dsimp only
  repeat' (first
    | with_reducible assumption | with_reducible apply kept_selectSource | with_reducible refine kept_modTl ?_ ?_ ?_
    | with_reducible apply kept_installSync | with_reducible apply kept_clearEventWord
    | with_reducible refine kept_ite ?_ ?_ | rfl | (unfold TimelineOk at *; dsimp only at *; omega) | (intro _) | split
    | dsimp only)

theorem kept_writeSrMark {q : List Instr} {h k : Option Nat} {ok : Bool} (s : State) (v : Nat) (hw : Kept q h k ok s) :
    Kept q h k ok (writeSrMark s v) := by
  unfold writeSrMark
  try dsimp only
  repeat' (first
    | with_reducible assumption | with_reducible refine kept_modSr ?_ ?_ | with_reducible refine kept_ite ?_ ?_
    | (exact fun _ e => e) | exact Mem.wf_wrs _ _ _ (by assumption) | exact Mem.wf_wipe _ _ _ (by assumption)
    | (intro _) | split | dsimp only)

theorem kept_writeDramMark {q : List Instr} {h k : Option Nat} {ok : Bool} (s : State) (v : Nat) (hw : Kept q h k ok s) :
    Kept q h k ok (writeDramMark s v) := by
  unfold writeDramMark
  try dsimp only
  repeat' (first
    | with_reducible assumption | with_reducible refine kept_modDram ?_ ?_ | with_reducible refine kept_ite ?_ ?_
    | (exact fun _ e => e) | exact Mem.wf_wrs _ _ _ (by assumption) | exact Mem.wf_wipe _ _ _ (by assumption)
    | (intro _) | split | dsimp only)

theorem kept_setLock {q : List Instr} {h k : Option Nat} {ok : Bool} (s : State) (b : Block) (hw : Kept q h k ok s) :
    Kept q h k ok (setLock s b) := by
  unfold setLock
  try dsimp only
  repeat' (first
    | with_reducible assumption | with_reducible refine kept_modSr ?_ ?_ | with_reducible refine kept_modDram ?_ ?_
    | with_reducible refine kept_modLg ?_ ?_ | with_reducible refine kept_ite ?_ ?_ | (exact fun _ _ e => e)
    | (exact fun _ e => e) | exact Mem.wf_wrs _ _ _ (by assumption) | exact Mem.wf_wipe _ _ _ (by assumption)
    | (intro _) | split | dsimp only)

theorem kept_retainHalf {q : List Instr} {h k : Option Nat} {ok : Bool} (s : State) (warden : Bool) (o v : Nat) (hw : Kept q h k ok s) :
    Kept q h k ok (retainHalf s warden o v) := by
  unfold retainHalf
  try dsimp only
  repeat' (first
    | with_reducible assumption | with_reducible apply kept_writeRetain | with_reducible refine kept_ite ?_ ?_
    | (intro _) | split | dsimp only)

theorem kept_stockroomWrite {q : List Instr} {h k : Option Nat} {ok : Bool} (s : State) (o v width : Nat) (hw : Kept q h k ok s) :
    Kept q h k ok (stockroomWrite s o v width) := by
  unfold stockroomWrite
  try dsimp only
  repeat' (first
    | with_reducible assumption | with_reducible apply kept_writeSrMark | with_reducible apply kept_setLock
    | with_reducible apply kept_retainHalf | with_reducible apply kept_clearEventWord
    | with_reducible apply kept_setStager | with_reducible apply kept_setShelfOwner
    | with_reducible refine kept_foldl ?_ ?_ | with_reducible refine kept_ite ?_ ?_ | (intro _) | split | dsimp only)

theorem kept_memoryWrite {q : List Instr} {h k : Option Nat} {ok : Bool} (s : State) (o v width : Nat) (hw : Kept q h k ok s) :
    Kept q h k ok (memoryWrite s o v width) := by
  unfold memoryWrite
  try dsimp only
  repeat' (first
    | with_reducible assumption | with_reducible apply kept_writeDramMark | with_reducible apply kept_setLock
    | with_reducible apply kept_clearEventWord | with_reducible refine kept_modDram ?_ ?_
    | with_reducible apply kept_setPlotOwner | with_reducible refine kept_foldl ?_ ?_
    | with_reducible refine kept_ite ?_ ?_ | (exact fun _ e => e) | exact Mem.wf_wrs _ _ _ (by assumption)
    | exact Mem.wf_wipe _ _ _ (by assumption) | (intro _) | split | dsimp only)

theorem kept_integrityWrite {q : List Instr} {h k : Option Nat} {ok : Bool} (s : State) (o v : Nat) (hw : Kept q h k ok s) :
    Kept q h k ok (integrityWrite s o v) := by
  unfold integrityWrite
  try dsimp only
  repeat' (first
    | with_reducible assumption | with_reducible apply kept_modAssay | with_reducible apply kept_setSprite
    | with_reducible apply kept_setPalette | with_reducible refine kept_ite ?_ ?_ | (intro _) | split | dsimp only)

theorem kept_hapticWrite {q : List Instr} {h k : Option Nat} {ok : Bool} (s : State) (o v : Nat) (hw : Kept q h k ok s) :
    Kept q h k ok (hapticWrite s o v) := by
  unfold hapticWrite
  try dsimp only
  repeat' (first
    | with_reducible assumption | with_reducible apply kept_clearEventWord | with_reducible refine kept_ite ?_ ?_
    | (intro _) | split | dsimp only)

theorem kept_eventWrite {q : List Instr} {h k : Option Nat} {ok : Bool} (s : State) (o v : Nat) (hw : Kept q h k ok s) :
    Kept q h k ok (eventWrite s o v) := by
  unfold eventWrite
  try dsimp only
  repeat' (first
    | with_reducible assumption | with_reducible apply kept_setEvRing | with_reducible refine kept_modEv ?_
    | with_reducible apply kept_setEvSrc | with_reducible refine kept_ite ?_ ?_ | (intro _) | split | dsimp only)

theorem kept_registerWriteOf {q : List Instr} {h k : Option Nat} {ok : Bool} (s : State) (b : Block) (o v width : Nat) (hw : Kept q h k ok s) :
    Kept q h k ok (registerWriteOf s b o v width) := by
  unfold registerWriteOf
  try dsimp only
  repeat' (first
    | with_reducible assumption | with_reducible apply kept_pageWrite | with_reducible apply kept_bootWrite
    | with_reducible apply kept_msixWrite | with_reducible apply kept_configWrite
    | with_reducible apply kept_timelineWrite | with_reducible apply kept_stockroomWrite
    | with_reducible apply kept_memoryWrite | with_reducible apply kept_integrityWrite
    | with_reducible apply kept_clearEventWord | with_reducible apply kept_hapticWrite
    | with_reducible apply kept_eventWrite | with_reducible apply kept_lower | with_reducible apply kept_ledgerWrite
    | with_reducible apply kept_retainHalf | with_reducible apply kept_supervisorWrite
    | with_reducible refine kept_ite ?_ ?_ | (intro _) | split | dsimp only)

end Sys2Proof.Machine
end

