-- ==== Sys2Proof/Laws/KeptSupOps.lean ====
section
/-! SUPPORT. What the operations of Machine/SupOps.lean keep. -/

namespace Sys2Proof.Machine

theorem kept_svAnswer {q : List Instr} {h k : Option Nat} {ok : Bool} (s : State) (status seq : Nat) (data : List Byte) (hw : Kept q h k ok s) :
    Kept q h k ok (svAnswer s status seq data) := by
  unfold svAnswer
  try dsimp only
  repeat' (first
    | with_reducible assumption | with_reducible refine kept_modWd ?_ | with_reducible refine kept_ite ?_ ?_ | (intro _)
    | split | dsimp only)

theorem kept_svError {q : List Instr} {h k : Option Nat} {ok : Bool} (s : State) (hw : Kept q h k ok s) :
    Kept q h k ok (svError s) := by
  unfold svError
  try dsimp only
  repeat' (first
    | with_reducible assumption | with_reducible refine kept_modWd ?_ | with_reducible refine kept_ite ?_ ?_ | (intro _)
    | split | dsimp only)

theorem kept_svRefuse {q : List Instr} {h k : Option Nat} {ok : Bool} (s : State) (status seq len : Nat) (hw : Kept q h k ok s) :
    Kept q h k ok (svRefuse s status seq len) := by
  unfold svRefuse
  try dsimp only
  repeat' (first
    | with_reducible assumption | with_reducible apply kept_freshBytes | with_reducible apply kept_svAnswer
    | with_reducible refine kept_ite ?_ ?_ | (intro _) | split | dsimp only)

theorem kept_svFrame {q : List Instr} {h k : Option Nat} {ok : Bool} (s : State) (seq len : Nat) (crcGood : Bool) (refusal : Option Nat) (good : State → State) (hgood : ∀ (x0 : State), Kept q h k ok x0 → Kept q h k ok (good x0)) (hw : Kept q h k ok s) :
    Kept q h k ok (svFrame s seq len crcGood refusal good) := by
  unfold svFrame
  try dsimp only
  repeat' (first
    | with_reducible assumption | with_reducible apply kept_svRefuse | with_reducible apply kept_svError
    | with_reducible apply hgood | with_reducible refine kept_ite ?_ ?_ | (intro _) | split | dsimp only)

theorem kept_svReadOf {q : List Instr} {h k : Option Nat} {ok : Bool} (s : State) (seq addr len : Nat) (crcGood : Bool) (hw : Kept q h k ok s) :
    Kept q h k ok (svReadOf s seq addr len crcGood) := by
  unfold svReadOf
  try dsimp only
  repeat' (first
    | with_reducible assumption | with_reducible apply kept_svFrame | with_reducible apply kept_svAnswer
    | with_reducible refine kept_ite ?_ ?_ | (intro _) | split | dsimp only)

theorem kept_svWriteOf {q : List Instr} {h k : Option Nat} {ok : Bool} (s : State) (seq addr : Nat) (data : List Byte) (crcGood : Bool) (hw : Kept q h k ok s) :
    Kept q h k ok (svWriteOf s seq addr data crcGood) := by
  unfold svWriteOf
  try dsimp only
  repeat' (first
    | with_reducible assumption | with_reducible apply kept_svFrame | with_reducible apply kept_registerWriteOf
    | with_reducible apply kept_svAnswer | with_reducible refine kept_foldl ?_ ?_ | with_reducible refine kept_ite ?_ ?_
    | (intro _) | split | dsimp only)

theorem kept_mboxSendOf {q : List Instr} {h k : Option Nat} {ok : Bool} (s : State) (seq : Nat) (msg : List Byte) (crcGood : Bool) (hw : Kept q h k ok s) :
    Kept q h k ok (mboxSendOf s seq msg crcGood) := by
  unfold mboxSendOf
  try dsimp only
  repeat' (first
    | with_reducible assumption | with_reducible apply kept_svFrame | with_reducible apply kept_svAnswer
    | with_reducible refine kept_modWd ?_ | with_reducible refine kept_ite ?_ ?_ | (intro _) | split | dsimp only)

theorem kept_mboxRecvOf {q : List Instr} {h k : Option Nat} {ok : Bool} (s : State) (seq len : Nat) (crcGood : Bool) (hw : Kept q h k ok s) :
    Kept q h k ok (mboxRecvOf s seq len crcGood) := by
  unfold mboxRecvOf
  try dsimp only
  repeat' (first
    | with_reducible assumption | with_reducible apply kept_svFrame | with_reducible apply kept_freshBytes
    | with_reducible apply kept_svAnswer | with_reducible refine kept_modWd ?_ | with_reducible refine kept_ite ?_ ?_
    | (intro _) | split | dsimp only)

theorem kept_frameCut {q : List Instr} {h k : Option Nat} {ok : Bool} (s : State) (hw : Kept q h k ok s) :
    Kept q h k ok (frameCut s) := by
  unfold frameCut
  try dsimp only
  repeat' (first
    | with_reducible assumption | with_reducible apply kept_svError | with_reducible refine kept_ite ?_ ?_ | (intro _)
    | split | dsimp only)

theorem kept_prepare {q : List Instr} {h k : Option Nat} {ok : Bool} (s : State) (body : List Byte) (hw : Kept q h k ok s) :
    Kept q h k ok (prepare s body) := by
  unfold prepare
  try dsimp only
  repeat' (first
    | with_reducible assumption | with_reducible refine kept_modWd ?_ | with_reducible refine kept_ite ?_ ?_ | (intro _)
    | split | dsimp only)

theorem kept_onMessage {q : List Instr} {h k : Option Nat} {ok : Bool} (s : State) (good : Bool) (f : State → State) (hf : ∀ (x0 : State), Kept q h k ok x0 → Kept q h k ok (f x0)) (hw : Kept q h k ok s) :
    Kept q h k ok (onMessage s good f) := by
  unfold onMessage
  try dsimp only
  repeat' (first
    | with_reducible assumption | with_reducible apply kept_prepare | with_reducible apply hf
    | with_reducible refine kept_ite ?_ ?_ | (intro _) | split | dsimp only)

theorem kept_ttSpriteOf {q : List Instr} {h k : Option Nat} {ok : Bool} (s : State) (msg : List Byte) (hw : Kept q h k ok s) :
    Kept q h k ok (ttSpriteOf s msg) := by
  unfold ttSpriteOf
  try dsimp only
  repeat' (first
    | with_reducible assumption | with_reducible apply kept_onMessage | with_reducible apply kept_setSprite
    | with_reducible refine kept_ite ?_ ?_ | (intro _) | split | dsimp only)

theorem kept_ttPaletteOf {q : List Instr} {h k : Option Nat} {ok : Bool} (s : State) (msg : List Byte) (hw : Kept q h k ok s) :
    Kept q h k ok (ttPaletteOf s msg) := by
  unfold ttPaletteOf
  try dsimp only
  repeat' (first
    | with_reducible assumption | with_reducible apply kept_onMessage | with_reducible apply kept_setPalette
    | with_reducible refine kept_foldl ?_ ?_ | with_reducible refine kept_ite ?_ ?_ | (intro _) | split | dsimp only)

theorem kept_ttImageOf {q : List Instr} {h k : Option Nat} {ok : Bool} (s : State) (msg : List Byte) (hw : Kept q h k ok s) :
    Kept q h k ok (ttImageOf s msg) := by
  unfold ttImageOf
  try dsimp only
  repeat' (first
    | with_reducible assumption | with_reducible apply kept_onMessage | with_reducible apply kept_portWrite
    | with_reducible refine kept_ite ?_ ?_ | (intro _) | split | dsimp only)

theorem kept_regReadOf {q : List Instr} {h k : Option Nat} {ok : Bool} (s : State) (msg : List Byte) (hw : Kept q h k ok s) :
    Kept q h k ok (regReadOf s msg) := by
  unfold regReadOf
  try dsimp only
  repeat' (first
    | with_reducible assumption | with_reducible apply kept_prepare | with_reducible apply kept_latchTick
    | with_reducible refine kept_ite ?_ ?_ | (intro _) | split | dsimp only)

theorem kept_debugUnlockOf {q : List Instr} {h k : Option Nat} {ok : Bool} (s : State) (valid : Bool) (hw : Kept q h k ok s) :
    Kept q h k ok (debugUnlockOf s valid) := by
  unfold debugUnlockOf
  try dsimp only
  repeat' (first
    | with_reducible assumption | with_reducible apply kept_onMessage | with_reducible apply kept_endApplet
    | with_reducible refine kept_modWd ?_ | with_reducible apply kept_zeroiseSecure
    | with_reducible refine kept_foldl ?_ ?_ | with_reducible refine kept_ite ?_ ?_ | (intro _) | split | dsimp only)

theorem kept_postReply {q : List Instr} {h k : Option Nat} {ok : Bool} (s : State) (hw : Kept q h k ok s) :
    Kept q h k ok (postReply s) := by
  unfold postReply
  try dsimp only
  repeat' (first
    | with_reducible assumption | with_reducible refine kept_modWd ?_ | with_reducible refine kept_ite ?_ ?_ | (intro _)
    | split | dsimp only)

end Sys2Proof.Machine
end

