-- ==== Sys2Proof/Laws/KeptWheelOps.lean ====
section
/-! SUPPORT. What the operations of Machine/WheelOps.lean keep. -/

namespace Sys2Proof.Machine

theorem kept_serveWheel {q : List Instr} {h k : Option Nat} {ok : Bool} (entry : Nat) (waiting : List (Nat × Nat)) (acc : List Nat × State) (wheel : Nat)
    (hw : Kept q h k ok acc.2) : Kept q h k ok (serveWheel entry waiting acc wheel).2 := by
  unfold serveWheel
  dsimp only
  split
  · exact hw
  · exact kept_freshValue _ hw

theorem kept_countTurn {q : List Instr} {h k : Option Nat} {ok : Bool} (s : State) (hw : Kept q h k ok s) :
    Kept q h k ok (countTurn s) := by
  unfold countTurn
  try dsimp only
  repeat' (first
    | with_reducible assumption | with_reducible refine kept_modSr ?_ ?_ | with_reducible refine kept_modDram ?_ ?_
    | with_reducible refine kept_ite ?_ ?_ | (exact fun _ e => e) | exact Mem.wf_wrs _ _ _ (by assumption)
    | exact Mem.wf_wipe _ _ _ (by assumption) | (intro _) | split | dsimp only)

theorem kept_enterTurn {q : List Instr} {h k : Option Nat} {ok : Bool} (s : State) (entry : Nat) (waiting : List (Nat × Nat)) (hw : Kept q h k ok s) :
    Kept q h k ok (enterTurn s entry waiting) := by
  unfold enterTurn
  try dsimp only
  repeat' (first
    | with_reducible assumption | with_reducible apply kept_serveWheel | with_reducible refine kept_modWheels ?_
    | with_reducible refine kept_foldl ?_ ?_ | with_reducible refine kept_foldl_1 ?_ ?_
    | with_reducible refine kept_foldl_2 ?_ ?_ | with_reducible refine kept_foldl_22 ?_ ?_
    | with_reducible refine kept_ite ?_ ?_ | (intro _) | split | dsimp only)

theorem kept_turnStartOf {q : List Instr} {h k : Option Nat} {ok : Bool} (s : State) (t : Turn) (hw : Kept q h k ok s) :
    Kept q h k ok (turnStartOf s t) := by
  unfold turnStartOf
  try dsimp only
  repeat' (first
    | with_reducible assumption | with_reducible apply kept_countTurn | with_reducible apply kept_enterTurn
    | with_reducible apply kept_serveXfer | with_reducible apply kept_serveDramTurn
    | with_reducible apply kept_serveTurn | with_reducible apply kept_feedWrite | with_reducible apply kept_scrubBeat
    | with_reducible apply kept_copyBytes | with_reducible apply kept_patrolBeat | with_reducible apply kept_prefetchAll
    | with_reducible refine kept_foldl ?_ ?_ | with_reducible refine kept_ite ?_ ?_ | (intro _) | split | dsimp only)

theorem kept_applyAtEpoch {q : List Instr} {h k : Option Nat} {ok : Bool} (s : State) (f : Flight) (hw : Kept q h k ok s) :
    Kept q h k ok (applyAtEpoch s f) := by
  unfold applyAtEpoch
  try dsimp only
  repeat' (first
    | with_reducible assumption | with_reducible apply kept_finishDone | with_reducible apply kept_applyTimelineConfig
    | with_reducible apply kept_applyLayerFree | with_reducible apply kept_applyHeadConfig
    | with_reducible apply kept_applyHeadDsc | with_reducible apply kept_applyPortConfig
    | with_reducible apply kept_applyPowerGate | with_reducible apply kept_applyMemLatency
    | with_reducible refine kept_ite ?_ ?_ | (intro _) | split | dsimp only)

theorem kept_turnCharges {q : List Instr} {h k : Option Nat} {ok : Bool} (s : State) (wrapped : Bool) (hw : Kept q h k ok s) :
    Kept q h k ok (turnCharges s wrapped) := by
  unfold turnCharges
  try dsimp only
  repeat' (first
    | with_reducible assumption | with_reducible refine kept_modCharges ?_ | with_reducible refine kept_ite ?_ ?_
    | (intro _) | split | dsimp only)

theorem kept_turnBusy {q : List Instr} {h k : Option Nat} {ok : Bool} (s : State) (hw : Kept q h k ok s) :
    Kept q h k ok (turnBusy s) := by
  unfold turnBusy
  try dsimp only
  repeat' (first
    | with_reducible assumption | with_reducible refine kept_modSr ?_ ?_ | with_reducible refine kept_modDram ?_ ?_
    | with_reducible refine kept_ite ?_ ?_ | (exact fun _ e => e) | exact Mem.wf_wrs _ _ _ (by assumption)
    | exact Mem.wf_wipe _ _ _ (by assumption) | (intro _) | split | dsimp only)

theorem kept_epochStartOf {q : List Instr} {h k : Option Nat} {ok : Bool} (s : State) (sampled : Bool) (hw : Kept q h k ok s) :
    Kept q h k ok (epochStartOf s sampled) := by
  unfold epochStartOf
  try dsimp only
  repeat' (first
    | with_reducible assumption | with_reducible apply kept_turnCharges | with_reducible apply kept_turnEpoch
    | with_reducible apply kept_stagerEpoch | with_reducible apply kept_turnBusy | with_reducible apply kept_countTurn
    | with_reducible apply kept_applyTables | with_reducible apply kept_applyLoads | with_reducible apply kept_syncEvent
    | with_reducible apply kept_applyAtEpoch | with_reducible refine kept_modWheels ?_
    | with_reducible apply kept_epochSample | with_reducible refine kept_foldl ?_ ?_
    | with_reducible refine kept_ite ?_ ?_ | (intro _) | split | dsimp only)

theorem kept_edgeMissing {q : List Instr} {h k : Option Nat} {ok : Bool} (s : State) (hw : Kept q h k ok s) :
    Kept q h k ok (edgeMissing s) := by
  unfold edgeMissing
  try dsimp only
  repeat' (first
    | with_reducible assumption | with_reducible apply kept_missEdge | with_reducible refine kept_ite ?_ ?_ | (intro _)
    | split | dsimp only)

theorem kept_steerLate {q : List Instr} {h k : Option Nat} {ok : Bool} (s : State) (hw : Kept q h k ok s) :
    Kept q h k ok (steerLate s) := by
  unfold steerLate
  try dsimp only
  repeat' (first
    | with_reducible assumption | with_reducible apply kept_enterHoldover | with_reducible refine kept_ite ?_ ?_
    | (intro _) | split | dsimp only)

end Sys2Proof.Machine
end

