-- ==== Sys2Proof/Laws/KeptCmdOps.lean ====
section
/-! SUPPORT. What the operations of Machine/CmdOps.lean keep. -/

namespace Sys2Proof.Machine

theorem kept_startNop {q : List Instr} {h k : Option Nat} {ok : Bool} (s : State) (f : Flight) (hw : Kept q h k ok s) :
    Kept q h k ok (startNop s f) := by
  unfold startNop
  try dsimp only
  repeat' (first
    | with_reducible assumption | with_reducible apply kept_finishDone | with_reducible refine kept_ite ?_ ?_
    | (intro _) | split | dsimp only)

theorem kept_startDeviceIdentify {q : List Instr} {h k : Option Nat} {ok : Bool} (s : State) (f : Flight) (hw : Kept q h k ok s) :
    Kept q h k ok (startDeviceIdentify s f) := by
  unfold startDeviceIdentify
  try dsimp only
  repeat' (first
    | with_reducible assumption | with_reducible apply kept_finishDone | with_reducible apply kept_hostWrite
    | with_reducible refine kept_ite ?_ ?_ | (intro _) | split | dsimp only)

theorem kept_awaitEpoch {q : List Instr} {h k : Option Nat} {ok : Bool} (s : State) (f : Flight) (hw : Kept q h k ok s) :
    Kept q h k ok (awaitEpoch s f) := by
  unfold awaitEpoch
  try dsimp only
  repeat' (first
    | with_reducible assumption | with_reducible apply kept_await | with_reducible refine kept_ite ?_ ?_ | (intro _)
    | split | dsimp only)

theorem kept_awaitData {q : List Instr} {h k : Option Nat} {ok : Bool} (s : State) (f : Flight) (hw : Kept q h k ok s) :
    Kept q h k ok (awaitData s f) := by
  unfold awaitData
  try dsimp only
  repeat' (first
    | with_reducible assumption | with_reducible apply kept_await | with_reducible refine kept_ite ?_ ?_ | (intro _)
    | split | dsimp only)

theorem kept_awaitUnit {q : List Instr} {h k : Option Nat} {ok : Bool} (s : State) (f : Flight) (hw : Kept q h k ok s) :
    Kept q h k ok (awaitUnit s f) := by
  unfold awaitUnit
  try dsimp only
  repeat' (first
    | with_reducible assumption | with_reducible apply kept_await | with_reducible refine kept_ite ?_ ?_ | (intro _)
    | split | dsimp only)

theorem kept_effects {q : List Instr} {h k : Option Nat} {ok : Bool} : ∀ e ∈ effects, ∀ s f, Kept q h k ok s → Kept q h k ok (e.2 s f) := by
  unfold effects
  simp only [List.forall_mem_append, List.forall_mem_cons, List.not_mem_nil, false_imp_iff, implies_true, and_true]
  exact ⟨⟨⟨⟨⟨kept_startNop, kept_startDeviceIdentify, kept_startHostSuspend, kept_startResourceQuery, kept_awaitEpoch,
      kept_startTimelineSteer, kept_startTimelineStatus, kept_awaitData, kept_awaitData, kept_awaitData,
      kept_startQuiesce, kept_startResume, kept_startReset, kept_startRemove, kept_startFreeze, kept_startSave,
      kept_startRestore, kept_startTenancyQuery, kept_startAperture⟩,
     ⟨kept_startLayerAlloc, kept_startLayerUpdate, kept_startLayerFree, kept_startLayerMove, kept_startLayerClut,
      kept_startLayerPolicy, kept_startLayerStatus, kept_awaitEpoch, kept_startHeadEnable, kept_startHeadDisable,
      kept_startHeadPush, kept_startHeadUnderrun, kept_startHeadQuiet, kept_awaitEpoch, kept_startHeadStatus,
      kept_startHeadLink⟩⟩,
     ⟨kept_startAssayAlloc, kept_startAssay, kept_startAssay, kept_startAssay, kept_startAssayRead, kept_startAssay,
      kept_startContextCreate, kept_startContextDestroy, kept_startShaderLoad, kept_awaitUnit, kept_startJobKill,
      kept_startContextQuery, kept_startTouchPortConfig, kept_startScanConfig, kept_startBaselineLoad,
      kept_startBaselineSave, kept_startSelftest, kept_startCalibration, kept_startTouchKeys, kept_startReportRing⟩⟩,
     ⟨kept_startHapticConfig, kept_startHapticTimed, kept_startHapticTimed, kept_startTriggerMap,
      kept_startHapticStatus, kept_awaitEpoch, kept_startStreamConfig, kept_startStreamStart, kept_startStreamStop,
      kept_startTimedChange, kept_startTimedChange, kept_startTimedChange, kept_startAudioTone, kept_startJackStatus,
      kept_startChannelConfig, kept_startXfer, kept_startXfer, kept_startXfer, kept_startXfer, kept_startDmaResume,
      fun s f => kept_startDmaAbort _ s f kept_foldDma⟩⟩,
     ⟨kept_startEventRingConfig, kept_startEventTarget, kept_startEventMask, kept_startEventPendSet,
      kept_startEventGlobalDisable, kept_startEventStatus, kept_startPowerState, kept_startPowerRetain,
      kept_awaitEpoch, kept_startWakeConfig, kept_startMemSpare, kept_startMemStatus, kept_startMemPowerdown,
      kept_awaitEpoch, kept_startMemRetire, kept_startStockroomStager, kept_startStockroomQuery,
      kept_startMeasurements, kept_startAppletLoad, kept_startAppletStart, kept_startAppletStop,
      kept_startSecureLayer, kept_startKeyOffer, kept_startKeyAccept, kept_startKeyDestroy, kept_startLedgerRead,
      kept_startFaultLogRead, kept_startLedgerClear, kept_startFaultInject⟩⟩

theorem kept_effectOf {q : List Instr} {h k : Option Nat} {ok : Bool} (s : State) (f : Flight) (hw : Kept q h k ok s) : Kept q h k ok (effectOf s f) := by
  unfold effectOf
  split
  · rename_i e
    exact kept_effects _ (List.mem_of_find?_eq_some e) _ _ hw
  · exact hw

theorem kept_useData {q : List Instr} {h k : Option Nat} {ok : Bool} (s : State) (f : Flight) (hw : Kept q h k ok s) :
    Kept q h k ok (useData s f) := by
  unfold useData
  try dsimp only
  repeat' (first
    | with_reducible assumption | with_reducible apply kept_await | with_reducible apply kept_finish
    | with_reducible apply kept_restoreRead | with_reducible apply kept_loadShader
    | with_reducible apply kept_partitionRead | with_reducible refine kept_ite ?_ ?_ | (intro _) | split | dsimp only)

theorem kept_beginWork {q : List Instr} {h k : Option Nat} {ok : Bool} (s : State) (f : Flight) (hw : Kept q h k ok s) :
    Kept q h k ok (beginWork s f) := by
  unfold beginWork
  try dsimp only
  repeat' (first
    | with_reducible assumption | with_reducible apply kept_effectOf | with_reducible apply kept_useData
    | with_reducible refine kept_ite ?_ ?_ | (intro _) | split | dsimp only)

theorem kept_beforeFirst {q : List Instr} {h k : Option Nat} {ok : Bool} (s : State) (f : Flight) (hw : Kept q h k ok s) :
    Kept q h k ok ((beforeFirst s f).1) := by
  unfold beforeFirst
  try dsimp only
  repeat' (first
    | with_reducible assumption | with_reducible apply kept_endStopped | with_reducible apply kept_setFlight
    | with_reducible refine kept_ite ?_ ?_ | (intro _) | split | dsimp only)

theorem kept_completeFirst {q : List Instr} {h k : Option Nat} {ok : Bool} (s : State) (f : Flight) (hw : Kept q h k ok s) :
    Kept q h k ok (completeFirst s f) := by
  unfold completeFirst
  try dsimp only
  repeat' (first
    | with_reducible assumption | with_reducible apply kept_finish | with_reducible apply kept_beforeFirst
    | with_reducible apply kept_setFlight | with_reducible apply kept_beginWork | with_reducible apply kept_accept
    | with_reducible apply kept_await | with_reducible refine kept_ite ?_ ?_ | (intro _) | split | dsimp only)

theorem kept_settleFences {q : List Instr} {h k : Option Nat} {ok : Bool} (s : State) (hw : Kept q h k ok s) :
    Kept q h k ok (settleFences s) := by
  unfold settleFences
  try dsimp only
  repeat' (first
    | with_reducible assumption | with_reducible apply kept_beginWork | with_reducible refine kept_foldl ?_ ?_
    | with_reducible refine kept_ite ?_ ?_ | (intro _) | split | dsimp only)

theorem kept_withLoad {q : List Instr} {h k : Option Nat} {ok : Bool} (s : State) (t : Nat) (l : PendingLoad) (hw : Kept q h k ok s) :
    Kept q h k ok (withLoad s t l) := by
  unfold withLoad
  try dsimp only
  repeat' (first
    | with_reducible assumption | with_reducible apply kept_fitObjects | with_reducible apply kept_modTen
    | with_reducible refine kept_modWheels ?_ | with_reducible refine kept_ite ?_ ?_ | (intro _) | split | dsimp only)

theorem kept_noCommit {q : List Instr} {h k : Option Nat} {ok : Bool} (s : State) (_f : Flight) (hw : Kept q h k ok s) :
    Kept q h k ok (noCommit s _f) := by
  unfold noCommit
  try dsimp only
  repeat' (first
    | with_reducible assumption | with_reducible refine kept_ite ?_ ?_ | (intro _) | split | dsimp only)

theorem kept_fetchedAs {q : List Instr} {h k : Option Nat} {ok : Bool} (s : State) (src : CmdSrc) (d : Descriptor) (hw : Kept q h k ok s) :
    Kept q h k ok (fetchedAs s src d) := by
  unfold fetchedAs
  try dsimp only
  repeat' (first
    | with_reducible assumption | with_reducible apply kept_fetched | with_reducible refine kept_ite ?_ ?_ | (intro _)
    | split | dsimp only)

theorem kept_ringCommand {q : List Instr} {h k : Option Nat} {ok : Bool} (op : Nat) (check : State → Cmd → Ruling) (commit : State → Flight → State) (src : CmdSrc) (d : Descriptor) (s : State) (hcommit : ∀ (x0 : State) (x1 : Flight), Kept q h k ok x0 → Kept q h k ok (commit x0 x1)) (hw : Kept q h k ok s) :
    Kept q h k ok (ringCommand op check commit src d s) := by
  unfold ringCommand
  try dsimp only
  repeat' (first
    | with_reducible assumption | with_reducible apply kept_fetchedAs | with_reducible apply kept_takeCommand
    | with_reducible apply hcommit | with_reducible refine kept_ite ?_ ?_ | (intro _) | split | dsimp only)

theorem kept_takeUnknown {q : List Instr} {h k : Option Nat} {ok : Bool} (s : State) (v : Visible) (d : Descriptor) (hw : Kept q h k ok s) :
    Kept q h k ok (takeUnknown s v d) := by
  unfold takeUnknown
  try dsimp only
  repeat' (first
    | with_reducible assumption | with_reducible apply kept_takeCommand | with_reducible apply kept_completeFirst
    | with_reducible refine kept_ite ?_ ?_ | (intro _) | split | dsimp only)

theorem kept_firstCompletionOf {q : List Instr} {h k : Option Nat} {ok : Bool} (s : State) (src : CmdSrc) (hw : Kept q h k ok s) :
    Kept q h k ok (firstCompletionOf s src) := by
  unfold firstCompletionOf
  try dsimp only
  repeat' (first
    | with_reducible assumption | with_reducible apply kept_failedCompletion | with_reducible apply kept_takeUnknown
    | with_reducible apply kept_completeFirst | with_reducible apply kept_stoppedFirst
    | with_reducible refine kept_ite ?_ ?_ | (intro _) | split | dsimp only)

theorem kept_hostDataOf {q : List Instr} {h k : Option Nat} {ok : Bool} (s : State) (src : CmdSrc) (how : Arrival) (hw : Kept q h k ok s) :
    Kept q h k ok (hostDataOf s src how) := by
  unfold hostDataOf
  try dsimp only
  repeat' (first
    | with_reducible assumption | with_reducible apply kept_noteAer | with_reducible apply kept_useData
    | with_reducible apply kept_setFlight | with_reducible refine kept_ite ?_ ?_ | (intro _) | split | dsimp only)

theorem kept_timedFinalOf {q : List Instr} {h k : Option Nat} {ok : Bool} (s : State) (src : CmdSrc) (hw : Kept q h k ok s) :
    Kept q h k ok (timedFinalOf s src) := by
  unfold timedFinalOf
  try dsimp only
  repeat' (first
    | with_reducible assumption | with_reducible apply kept_endMeasurements | with_reducible apply kept_finishDone
    | with_reducible apply kept_endApplet | with_reducible refine kept_ite ?_ ?_ | (intro _) | split | dsimp only)

theorem kept_wardenDone {q : List Instr} {h k : Option Nat} {ok : Bool} (s : State) (f : Flight) (good : Bool) (body : List Byte) (hw : Kept q h k ok s) :
    Kept q h k ok (wardenDone s f good body) := by
  unfold wardenDone
  try dsimp only
  repeat' (first
    | with_reducible assumption | with_reducible apply kept_endSave | with_reducible apply kept_endRestore
    | with_reducible apply kept_endAppletLoad | with_reducible apply kept_endKeyOffer
    | with_reducible apply kept_endKeyAccept | with_reducible apply kept_endKeyDestroy
    | with_reducible refine kept_ite ?_ ?_ | (intro _) | split | dsimp only)

theorem kept_wardenReplyOf {q : List Instr} {h k : Option Nat} {ok : Bool} (s : State) (r : WardenReply) (hw : Kept q h k ok s) :
    Kept q h k ok (wardenReplyOf s r) := by
  unfold wardenReplyOf
  try dsimp only
  repeat' (first
    | with_reducible assumption | with_reducible apply kept_postReply | with_reducible apply kept_wardenDone
    | with_reducible refine kept_ite ?_ ?_ | (intro _) | split | dsimp only)

theorem kept_unitSampleOf {q : List Instr} {h k : Option Nat} {ok : Bool} (s : State) (u : Nat) (ins : List Nat) (hw : Kept q h k ok s) :
    Kept q h k ok (unitSampleOf s u ins) := by
  unfold unitSampleOf
  try dsimp only
  repeat' (first
    | with_reducible assumption | with_reducible apply kept_feedAudio | with_reducible apply kept_sampleStartOf
    | with_reducible apply kept_applyAudioAssay | with_reducible refine kept_ite ?_ ?_ | (intro _) | split | dsimp only)

theorem kept_portEdgeOf {q : List Instr} {h k : Option Nat} {ok : Bool} (s : State) (u : Nat) (ins : List Nat) (hw : Kept q h k ok s) :
    Kept q h k ok (portEdgeOf s u ins) := by
  unfold portEdgeOf
  try dsimp only
  repeat' (first
    | with_reducible assumption | with_reducible apply kept_feedAudio | with_reducible apply kept_syncEdge
    | with_reducible apply kept_applyAudioAssay | with_reducible refine kept_ite ?_ ?_ | (intro _) | split | dsimp only)

theorem kept_servePortFed {q : List Instr} {h k : Option Nat} {ok : Bool} (s : State) (r : PortRequest) {t : State} (e : servePortFed s r = .next t) (hw : Kept q h k ok s) :
    Kept q h k ok t := kept_servePort feedWrite s r (fun _ _ _ w => kept_feedWrite _ _ _ w) e hw

end Sys2Proof.Machine
end

