-- ==== Sys2Proof/Laws/KeptTickOps.lean ====
section
/-! SUPPORT. What the operations of Machine/TickOps.lean keep. -/

namespace Sys2Proof.Machine

theorem kept_settle {q : List Instr} {h k : Option Nat} {ok : Bool} (s : State) (hw : Kept q h k ok s) :
    Kept q h k ok (settle s) := by
  unfold settle
  try dsimp only
  repeat' (first
    | with_reducible assumption | with_reducible apply kept_holdHalt | with_reducible apply kept_writeTables
    | with_reducible apply kept_settleTenancies | with_reducible apply kept_dropDeadChanges
    | with_reducible apply kept_settleGpu | with_reducible apply kept_settleFences
    | with_reducible refine kept_ite ?_ ?_ | (intro _) | split | dsimp only)

theorem kept_resendPme {q : List Instr} {h k : Option Nat} {ok : Bool} (s : State) (hw : Kept q h k ok s) :
    Kept q h k ok (resendPme s) := by
  unfold resendPme
  try dsimp only
  repeat' (first
    | with_reducible assumption | with_reducible apply kept_modFn | with_reducible refine kept_modPcie ?_
    | with_reducible refine kept_foldl ?_ ?_ | with_reducible refine kept_ite ?_ ?_ | (intro _) | split | dsimp only)

/-- A tick passes: the count goes up by one. -/
theorem kept_advance {q : List Instr} {h k : Option Nat} {ok : Bool} (s : State) (hw : Kept q h k ok s) :
    Kept q h (k.map fun n => (n + 1) % 2 ^ 64) ok (advance s) := by
  refine ⟨hw.queue, hw.latch, ?_, fun i => ⟨(hw.inv i).1, (hw.inv i).2.1, ?_⟩⟩
  · intro n e
    cases k with
    | none => cases e
    | some m =>
      show (s.tl.tick + 1) % 2 ^ 64 = n
      rw [hw.tick m rfl]
      exact Option.some.inj e
  · have o := (hw.inv i).2.2
    unfold TimelineOk at *
    exact ⟨Nat.mod_lt _ (by decide), o.2⟩

end Sys2Proof.Machine
end

