-- ==== Sys2Proof/Laws/Same.lean ====
section
/-! SUPPORT. Which parts of the state an operation leaves alone: a set of parts is a number, one bit for each, and an
operation that touches the parts T leaves the parts ps alone wherever the two have none in common. -/

namespace Sys2Proof.Machine

/-- The bit of a part. -/
def Part.bit : Part → Nat
  | .tl => 0x1
  | .wheels => 0x2
  | .pcie => 0x4
  | .fns => 0x8
  | .crs => 0x10
  | .evr => 0x20
  | .ev => 0x40
  | .lg => 0x80
  | .tens => 0x100
  | .loads => 0x200
  | .visible => 0x400
  | .flights => 0x800
  | .charges => 0x1000
  | .sr => 0x2000
  | .comp => 0x4000
  | .au => 0x8000
  | .gpu => 0x10000
  | .dma => 0x20000
  | .dram => 0x40000
  | .audio => 0x80000
  | .touch => 0x100000
  | .haptic => 0x200000
  | .wd => 0x400000
  | .pw => 0x800000
  | .hokusaSafe => 0x1000000
  | .host => 0x2000000
  | .nextId => 0x4000000
  | .free => 0x8000000
  | .pending => 0x10000000

/-- The parts ps of s are those of z. -/
structure Same (ps : Nat) (z s : State) : Prop where
  get : ∀ p : Part, ps &&& p.bit ≠ 0 → agree p z s

variable {ps : Nat} {z s : State}

theorem same_refl : Same ps s s := ⟨fun p _ => by cases p <;> rfl⟩

theorem avoid {a b : Nat} (h : ps &&& b = 0) (e : b ||| a = b) : ps &&& a = 0 := by
  have x : ps &&& (b ||| a) = 0 := by rw [e]; exact h
  rw [Nat.and_or_distrib_left] at x
  exact (Nat.or_eq_zero_iff.1 x).2

theorem same_ite {c : Prop} [Decidable c] {a b : State} (x : Same ps z a) (y : Same ps z b) : Same ps z (if c then a else b) := by
  split <;> assumption

theorem same_foldl {α : Type} {f : State → α → State} {l : List α} (hf : ∀ t x, Same ps z t → Same ps z (f t x))
    (w : Same ps z s) : Same ps z (l.foldl f s) := by
  induction l generalizing s with
  | nil => exact w
  | cons x l ih => exact ih (hf _ _ w)

/-- A fold that carries the state beside other things: g is where it carries it. -/
theorem same_foldl_at {α β : Type} (g : β → State) {f : β → α → β} {l : List α} {b : β}
    (hf : ∀ t x, Same ps z (g t) → Same ps z (g (f t x))) (w : Same ps z (g b)) : Same ps z (g (l.foldl f b)) := by
  induction l generalizing b with
  | nil => exact w
  | cons x l ih => exact ih (hf _ _ w)

theorem same_foldl_1 {α β : Type} {f : State × β → α → State × β} {l : List α} {b : State × β}
    (hf : ∀ t x, Same ps z t.1 → Same ps z (f t x).1) (w : Same ps z b.1) : Same ps z (l.foldl f b).1 :=
  same_foldl_at (fun t : State × β => t.1) hf w

theorem same_foldl_2 {α β : Type} {f : β × State → α → β × State} {l : List α} {b : β × State}
    (hf : ∀ t x, Same ps z t.2 → Same ps z (f t x).2) (w : Same ps z b.2) : Same ps z (l.foldl f b).2 :=
  same_foldl_at (fun t : β × State => t.2) hf w

theorem same_foldl_22 {α β γ : Type} {f : β × γ × State → α → β × γ × State} {l : List α} {b : β × γ × State}
    (hf : ∀ t x, Same ps z t.2.2 → Same ps z (f t x).2.2) (w : Same ps z b.2.2) : Same ps z (l.foldl f b).2.2 :=
  same_foldl_at (fun t : β × γ × State => t.2.2) hf w

theorem same_modTl {f : Timeline → Timeline} (hd : ps &&& 0x1 = 0) (w : Same ps z s) : Same ps z (s.modTl f) :=
  ⟨fun p hp => by cases p <;> first | exact absurd hd hp | exact w.get _ hp⟩

theorem same_modWheels {f : Wheels → Wheels} (hd : ps &&& 0x2 = 0) (w : Same ps z s) : Same ps z (s.modWheels f) :=
  ⟨fun p hp => by cases p <;> first | exact absurd hd hp | exact w.get _ hp⟩

theorem same_modPcie {f : Pcie → Pcie} (hd : ps &&& 0x4 = 0) (w : Same ps z s) : Same ps z (s.modPcie f) :=
  ⟨fun p hp => by cases p <;> first | exact absurd hd hp | exact w.get _ hp⟩

theorem same_modFns {f : Tab Fn → Tab Fn} (hd : ps &&& 0x8 = 0) (w : Same ps z s) : Same ps z (s.modFns f) :=
  ⟨fun p hp => by cases p <;> first | exact absurd hd hp | exact w.get _ hp⟩

theorem same_modCrs {f : Tab CmdRing → Tab CmdRing} (hd : ps &&& 0x10 = 0) (w : Same ps z s) : Same ps z (s.modCrs f) :=
  ⟨fun p hp => by cases p <;> first | exact absurd hd hp | exact w.get _ hp⟩

theorem same_modEvr {f : Tab EvRing → Tab EvRing} (hd : ps &&& 0x20 = 0) (w : Same ps z s) : Same ps z (s.modEvr f) :=
  ⟨fun p hp => by cases p <;> first | exact absurd hd hp | exact w.get _ hp⟩

theorem same_modEv {f : Events → Events} (hd : ps &&& 0x40 = 0) (w : Same ps z s) : Same ps z (s.modEv f) :=
  ⟨fun p hp => by cases p <;> first | exact absurd hd hp | exact w.get _ hp⟩

theorem same_modLg {f : Ledger → Ledger} (hd : ps &&& 0x80 = 0) (w : Same ps z s) : Same ps z (s.modLg f) :=
  ⟨fun p hp => by cases p <;> first | exact absurd hd hp | exact w.get _ hp⟩

theorem same_modTens {f : Tab Tenancy → Tab Tenancy} (hd : ps &&& 0x100 = 0) (w : Same ps z s) : Same ps z (s.modTens f) :=
  ⟨fun p hp => by cases p <;> first | exact absurd hd hp | exact w.get _ hp⟩

theorem same_modLoads {f : List PendingLoad → List PendingLoad} (hd : ps &&& 0x200 = 0) (w : Same ps z s) : Same ps z (s.modLoads f) :=
  ⟨fun p hp => by cases p <;> first | exact absurd hd hp | exact w.get _ hp⟩

theorem same_modVisible {f : List Visible → List Visible} (hd : ps &&& 0x400 = 0) (w : Same ps z s) : Same ps z (s.modVisible f) :=
  ⟨fun p hp => by cases p <;> first | exact absurd hd hp | exact w.get _ hp⟩

theorem same_modFlights {f : List Flight → List Flight} (hd : ps &&& 0x800 = 0) (w : Same ps z s) : Same ps z (s.modFlights f) :=
  ⟨fun p hp => by cases p <;> first | exact absurd hd hp | exact w.get _ hp⟩

theorem same_modCharges {f : List Charge → List Charge} (hd : ps &&& 0x1000 = 0) (w : Same ps z s) : Same ps z (s.modCharges f) :=
  ⟨fun p hp => by cases p <;> first | exact absurd hd hp | exact w.get _ hp⟩

theorem same_modSr {f : Stockroom → Stockroom} (hd : ps &&& 0x2000 = 0) (w : Same ps z s) : Same ps z (s.modSr f) :=
  ⟨fun p hp => by cases p <;> first | exact absurd hd hp | exact w.get _ hp⟩

theorem same_modComp {f : Compose → Compose} (hd : ps &&& 0x4000 = 0) (w : Same ps z s) : Same ps z (s.modComp f) :=
  ⟨fun p hp => by cases p <;> first | exact absurd hd hp | exact w.get _ hp⟩

theorem same_modAu {f : Integrity → Integrity} (hd : ps &&& 0x8000 = 0) (w : Same ps z s) : Same ps z (s.modAu f) :=
  ⟨fun p hp => by cases p <;> first | exact absurd hd hp | exact w.get _ hp⟩

theorem same_modGpu {f : Gpu → Gpu} (hd : ps &&& 0x10000 = 0) (w : Same ps z s) : Same ps z (s.modGpu f) :=
  ⟨fun p hp => by cases p <;> first | exact absurd hd hp | exact w.get _ hp⟩

theorem same_modDma {f : Dma → Dma} (hd : ps &&& 0x20000 = 0) (w : Same ps z s) : Same ps z (s.modDma f) :=
  ⟨fun p hp => by cases p <;> first | exact absurd hd hp | exact w.get _ hp⟩

theorem same_modDram {f : Dram → Dram} (hd : ps &&& 0x40000 = 0) (w : Same ps z s) : Same ps z (s.modDram f) :=
  ⟨fun p hp => by cases p <;> first | exact absurd hd hp | exact w.get _ hp⟩

theorem same_modAudio {f : Audio → Audio} (hd : ps &&& 0x80000 = 0) (w : Same ps z s) : Same ps z (s.modAudio f) :=
  ⟨fun p hp => by cases p <;> first | exact absurd hd hp | exact w.get _ hp⟩

theorem same_modTouch {f : Touch → Touch} (hd : ps &&& 0x100000 = 0) (w : Same ps z s) : Same ps z (s.modTouch f) :=
  ⟨fun p hp => by cases p <;> first | exact absurd hd hp | exact w.get _ hp⟩

theorem same_modHaptic {f : Haptic → Haptic} (hd : ps &&& 0x200000 = 0) (w : Same ps z s) : Same ps z (s.modHaptic f) :=
  ⟨fun p hp => by cases p <;> first | exact absurd hd hp | exact w.get _ hp⟩

theorem same_modWd {f : Warden → Warden} (hd : ps &&& 0x400000 = 0) (w : Same ps z s) : Same ps z (s.modWd f) :=
  ⟨fun p hp => by cases p <;> first | exact absurd hd hp | exact w.get _ hp⟩

theorem same_modPw {f : Power → Power} (hd : ps &&& 0x800000 = 0) (w : Same ps z s) : Same ps z (s.modPw f) :=
  ⟨fun p hp => by cases p <;> first | exact absurd hd hp | exact w.get _ hp⟩

theorem same_modHokusaSafe {f : Bool → Bool} (hd : ps &&& 0x1000000 = 0) (w : Same ps z s) : Same ps z (s.modHokusaSafe f) :=
  ⟨fun p hp => by cases p <;> first | exact absurd hd hp | exact w.get _ hp⟩

theorem same_modHost {f : Mem → Mem} (hd : ps &&& 0x2000000 = 0) (w : Same ps z s) : Same ps z (s.modHost f) :=
  ⟨fun p hp => by cases p <;> first | exact absurd hd hp | exact w.get _ hp⟩

theorem same_modNextId {f : Nat → Nat} (hd : ps &&& 0x4000000 = 0) (w : Same ps z s) : Same ps z (s.modNextId f) :=
  ⟨fun p hp => by cases p <;> first | exact absurd hd hp | exact w.get _ hp⟩

theorem same_modFree {f : Nat → Nat} (hd : ps &&& 0x8000000 = 0) (w : Same ps z s) : Same ps z (s.modFree f) :=
  ⟨fun p hp => by cases p <;> first | exact absurd hd hp | exact w.get _ hp⟩

theorem same_modPending {f : List Instr → List Instr} (hd : ps &&& 0x10000000 = 0) (w : Same ps z s) : Same ps z (s.modPending f) :=
  ⟨fun p hp => by cases p <;> first | exact absurd hd hp | exact w.get _ hp⟩

end Sys2Proof.Machine
end

