-- ==== Sys2Proof/Laws/SameOperands.lean ====
section
/-! SUPPORT. What the operations of Machine/Operands.lean leave alone. -/

namespace Sys2Proof.Machine

theorem same_setTen {ps : Nat} {z : State} (s : State) (t : Nat) (v : Tenancy) (hd : ps &&& 0x100 = 0) (hw : Same ps z s) :
    Same ps z (setTen s t v) := by
  unfold setTen
  try dsimp only
  repeat' (first
    | with_reducible assumption | with_reducible refine same_modTens ?_ ?_ | with_reducible refine same_ite ?_ ?_
    | exact avoid hd rfl | (intro _) | split | dsimp only)

theorem same_modTen {ps : Nat} {z : State} (s : State) (t : Nat) (f : Tenancy → Tenancy) (hd : ps &&& 0x100 = 0) (hw : Same ps z s) :
    Same ps z (modTen s t f) := by
  unfold modTen
  try dsimp only
  repeat' (first
    | with_reducible assumption | with_reducible apply same_setTen | with_reducible refine same_ite ?_ ?_
    | exact avoid hd rfl | (intro _) | split | dsimp only)

theorem same_realign {ps : Nat} {z : State} (y s : State) (hd : ps &&& 0x4000 = 0) (hw : Same ps z s) :
    Same ps z (realign y s) := same_modComp (avoid hd rfl) hw

end Sys2Proof.Machine
end

