-- ==== Sys2Proof/Laws/SameFlags.lean ====
section
/-! SUPPORT. What the operations of Machine/Flags.lean leave alone. -/

namespace Sys2Proof.Machine

theorem same_setEvSrc {ps : Nat} {z : State} (s : State) (n : Nat) (v : EvSrc) (hd : ps &&& 0x40 = 0) (hw : Same ps z s) :
    Same ps z (setEvSrc s n v) := by
  unfold setEvSrc
  try dsimp only
  repeat' (first
    | with_reducible assumption | with_reducible refine same_modEv ?_ ?_ | with_reducible refine same_ite ?_ ?_
    | exact avoid hd rfl | (intro _) | split | dsimp only)

theorem same_raise {ps : Nat} {z : State} (s : State) (n bit : Nat) (hd : ps &&& 0x40 = 0) (hw : Same ps z s) :
    Same ps z (raise s n bit) := by
  unfold raise
  try dsimp only
  repeat' (first
    | with_reducible assumption | with_reducible apply same_setEvSrc | with_reducible refine same_ite ?_ ?_
    | exact avoid hd rfl | (intro _) | split | dsimp only)

theorem same_renewSource {ps : Nat} {z : State} (s : State) (n : Nat) (hd : ps &&& 0x60 = 0) (hw : Same ps z s) :
    Same ps z (renewSource s n) := by
  unfold renewSource
  try dsimp only
  repeat' (first
    | with_reducible assumption | with_reducible apply same_setEvSrc | with_reducible refine same_modEvr ?_ ?_
    | with_reducible refine same_ite ?_ ?_ | exact avoid hd rfl | (intro _) | split | dsimp only)

theorem same_lower {ps : Nat} {z : State} (s : State) (n mask : Nat) (hd : ps &&& 0x40 = 0) (hw : Same ps z s) :
    Same ps z (lower s n mask) := by
  unfold lower
  try dsimp only
  repeat' (first
    | with_reducible assumption | with_reducible apply same_setEvSrc | with_reducible refine same_ite ?_ ?_
    | exact avoid hd rfl | (intro _) | split | dsimp only)

theorem same_clearEventWord {ps : Nat} {z : State} (s : State) (base n w : Nat) (hd : ps &&& 0x40 = 0) (hw : Same ps z s) :
    Same ps z (clearEventWord s base n w) := by
  unfold clearEventWord
  try dsimp only
  repeat' (first
    | with_reducible assumption | with_reducible apply same_lower | with_reducible refine same_foldl ?_ ?_
    | with_reducible refine same_ite ?_ ?_ | exact avoid hd rfl | (intro _) | split | dsimp only)

end Sys2Proof.Machine
end

