-- ==== Sys2Proof/Laws/SameOps.lean ====
section
/-! SUPPORT. What the operations of Machine/Ops.lean leave alone. -/

namespace Sys2Proof.Machine

theorem same_setFn {ps : Nat} {z : State} (s : State) (n : Nat) (v : Fn) (hd : ps &&& 0x8 = 0) (hw : Same ps z s) :
    Same ps z (setFn s n v) := by
  unfold setFn
  try dsimp only
  repeat' (first
    | with_reducible assumption | with_reducible refine same_modFns ?_ ?_ | with_reducible refine same_ite ?_ ?_
    | exact avoid hd rfl | (intro _) | split | dsimp only)

theorem same_modFn {ps : Nat} {z : State} (s : State) (n : Nat) (f : Fn → Fn) (hd : ps &&& 0x8 = 0) (hw : Same ps z s) :
    Same ps z (modFn s n f) := by
  unfold modFn
  try dsimp only
  repeat' (first
    | with_reducible assumption | with_reducible apply same_setFn | with_reducible refine same_ite ?_ ?_
    | exact avoid hd rfl | (intro _) | split | dsimp only)

theorem same_setCr {ps : Nat} {z : State} (s : State) (f r : Nat) (v : CmdRing) (hd : ps &&& 0x10 = 0) (hw : Same ps z s) :
    Same ps z (setCr s f r v) := by
  unfold setCr
  try dsimp only
  repeat' (first
    | with_reducible assumption | with_reducible refine same_modCrs ?_ ?_ | with_reducible refine same_ite ?_ ?_
    | exact avoid hd rfl | (intro _) | split | dsimp only)

theorem same_modCr {ps : Nat} {z : State} (s : State) (f r : Nat) (g : CmdRing → CmdRing) (hd : ps &&& 0x10 = 0) (hw : Same ps z s) :
    Same ps z (modCr s f r g) := by
  unfold modCr
  try dsimp only
  repeat' (first
    | with_reducible assumption | with_reducible apply same_setCr | with_reducible refine same_ite ?_ ?_
    | exact avoid hd rfl | (intro _) | split | dsimp only)

theorem same_setEvRing {ps : Nat} {z : State} (s : State) (p : Nat) (v : EvRing) (hd : ps &&& 0x20 = 0) (hw : Same ps z s) :
    Same ps z (setEvRing s p v) := by
  unfold setEvRing
  try dsimp only
  repeat' (first
    | with_reducible assumption | with_reducible refine same_modEvr ?_ ?_ | with_reducible refine same_ite ?_ ?_
    | exact avoid hd rfl | (intro _) | split | dsimp only)

theorem same_freshValue {ps : Nat} {z : State} (s : State) (hd : ps &&& 0x8000000 = 0) (hw : Same ps z s) :
    Same ps z ((freshValue s).2) := by
  unfold freshValue
  try dsimp only
  repeat' (first
    | with_reducible assumption | with_reducible refine same_modFree ?_ ?_ | with_reducible refine same_ite ?_ ?_
    | exact avoid hd rfl | (intro _) | split | dsimp only)

theorem same_freshBytes {ps : Nat} {z : State} (s : State) (n : Nat) (hd : ps &&& 0x8000000 = 0) (hw : Same ps z s) : Same ps z (freshBytes s n).2 := by
  induction n generalizing s with
  | zero => exact hw
  | succ n ih => exact ih _ (same_modFree (avoid hd rfl) hw)

theorem same_hostWrite {ps : Nat} {z : State} (s : State) (a : Nat) (bs : List Byte) (hd : ps &&& 0x2000000 = 0) (hw : Same ps z s) :
    Same ps z (hostWrite s a bs) := by
  unfold hostWrite
  try dsimp only
  repeat' (first
    | with_reducible assumption | with_reducible refine same_modHost ?_ ?_ | with_reducible refine same_ite ?_ ?_
    | exact avoid hd rfl | (intro _) | split | dsimp only)

theorem same_noteAer {ps : Nat} {z : State} (s : State) (f bit : Nat) (hd : ps &&& 0x8 = 0) (hw : Same ps z s) :
    Same ps z (noteAer s f bit) := by
  unfold noteAer
  try dsimp only
  repeat' (first
    | with_reducible assumption | with_reducible apply same_modFn | with_reducible refine same_ite ?_ ?_
    | exact avoid hd rfl | (intro _) | split | dsimp only)

theorem same_sendMessage {ps : Nat} {z : State} (s : State) (f vec : Nat) (hd : ps &&& 0xC = 0) (hw : Same ps z s) :
    Same ps z (sendMessage s f vec) := by
  unfold sendMessage
  try dsimp only
  repeat' (first
    | with_reducible assumption | with_reducible apply same_modFn | with_reducible refine same_modPcie ?_ ?_
    | with_reducible refine same_ite ?_ ?_ | exact avoid hd rfl | (intro _) | split | dsimp only)

theorem same_putCompletion {ps : Nat} {z : State} (s : State) (f r : Nat) (bs : List Byte) (hd : ps &&& 0x200001C = 0) (hw : Same ps z s) :
    Same ps z (putCompletion s f r bs) := by
  unfold putCompletion
  try dsimp only
  repeat' (first
    | with_reducible assumption | with_reducible apply same_hostWrite | with_reducible apply same_setCr
    | with_reducible apply same_sendMessage | with_reducible refine same_ite ?_ ?_ | exact avoid hd rfl | (intro _)
    | split | dsimp only)

theorem same_putEvent {ps : Nat} {z : State} (s : State) (f n : Nat) (bs : List Byte) (hd : ps &&& 0x200002C = 0) (hw : Same ps z s) :
    Same ps z (putEvent s f n bs) := by
  unfold putEvent
  try dsimp only
  repeat' (first
    | with_reducible assumption | with_reducible apply same_hostWrite | with_reducible apply same_setEvRing
    | with_reducible apply same_sendMessage | with_reducible refine same_ite ?_ ?_ | exact avoid hd rfl | (intro _)
    | split | dsimp only)

theorem same_putRecord {ps : Nat} {z : State} (s : State) (f : Nat) (h : Held) (hd : ps &&& 0x200003C = 0) (hw : Same ps z s) :
    Same ps z (putRecord s f h) := by
  unfold putRecord
  try dsimp only
  repeat' (first
    | with_reducible assumption | with_reducible refine same_modPcie ?_ ?_ | with_reducible apply same_hostWrite
    | with_reducible apply same_putCompletion | with_reducible apply same_putEvent
    | with_reducible refine same_ite ?_ ?_ | exact avoid hd rfl | (intro _) | split | dsimp only)

theorem same_signalHeld {ps : Nat} {z : State} (s : State) (f : Nat) (hd : ps &&& 0xC = 0) (hw : Same ps z s) :
    Same ps z (signalHeld s f) := by
  unfold signalHeld
  try dsimp only
  repeat' (first
    | with_reducible assumption | with_reducible apply same_setFn | with_reducible refine same_modPcie ?_ ?_
    | with_reducible refine same_ite ?_ ?_ | exact avoid hd rfl | (intro _) | split | dsimp only)

theorem same_holdRecord {ps : Nat} {z : State} (s : State) (f : Nat) (h : Held) (hd : ps &&& 0xC = 0) (hw : Same ps z s) :
    Same ps z (holdRecord s f h) := by
  unfold holdRecord
  try dsimp only
  repeat' (first
    | with_reducible assumption | with_reducible apply same_signalHeld | with_reducible apply same_modFn
    | with_reducible refine same_ite ?_ ?_ | exact avoid hd rfl | (intro _) | split | dsimp only)

theorem same_issueRecord {ps : Nat} {z : State} (s : State) (f : Nat) (h : Held) (hd : ps &&& 0x200003C = 0) (hw : Same ps z s) :
    Same ps z (issueRecord s f h) := by
  unfold issueRecord
  try dsimp only
  repeat' (first
    | with_reducible assumption | with_reducible apply same_modCr | with_reducible apply same_putRecord
    | with_reducible apply same_holdRecord | with_reducible refine same_ite ?_ ?_ | exact avoid hd rfl | (intro _)
    | split | dsimp only)

theorem same_flushMessages {ps : Nat} {z : State} (s : State) (f : Nat) (hd : ps &&& 0x3C = 0) (hw : Same ps z s) :
    Same ps z (flushMessages s f) := by
  unfold flushMessages
  try dsimp only
  repeat' (first
    | with_reducible assumption | with_reducible apply same_sendMessage | with_reducible apply same_setCr
    | with_reducible apply same_setEvRing | with_reducible refine same_foldl ?_ ?_
    | with_reducible refine same_ite ?_ ?_ | exact avoid hd rfl | (intro _) | split | dsimp only)

theorem same_settleRing {ps : Nat} {z : State} (s : State) (f r : Nat) (hd : ps &&& 0x10 = 0) (hw : Same ps z s) :
    Same ps z (settleRing s f r) := by
  unfold settleRing
  try dsimp only
  repeat' (first
    | with_reducible assumption | with_reducible apply same_setCr | with_reducible refine same_ite ?_ ?_
    | exact avoid hd rfl | (intro _) | split | dsimp only)

theorem same_setFlight {ps : Nat} {z : State} (s : State) (f : Flight) (hd : ps &&& 0x800 = 0) (hw : Same ps z s) :
    Same ps z (setFlight s f) := by
  unfold setFlight
  try dsimp only
  repeat' (first
    | with_reducible assumption | with_reducible refine same_modFlights ?_ ?_ | with_reducible refine same_ite ?_ ?_
    | exact avoid hd rfl | (intro _) | split | dsimp only)

theorem same_accept {ps : Nat} {z : State} (s : State) (f : Flight) (inst : Option Nat) (value : Nat) (hd : ps &&& 0x200083C = 0) (hw : Same ps z s) :
    Same ps z (accept s f inst value) := by
  unfold accept
  try dsimp only
  repeat' (first
    | with_reducible assumption | with_reducible apply same_modCr | with_reducible apply same_setFlight
    | with_reducible apply same_issueRecord | with_reducible refine same_ite ?_ ?_ | exact avoid hd rfl | (intro _)
    | split | dsimp only)

theorem same_noteOutcome {ps : Nat} {z : State} (s : State) (f : Flight) (v : Verdict) (hd : ps &&& 0x10000 = 0) (hw : Same ps z s) :
    Same ps z (noteOutcome s f v) := by
  unfold noteOutcome
  try dsimp only
  repeat' (first
    | with_reducible assumption | with_reducible refine same_modGpu ?_ ?_ | with_reducible refine same_ite ?_ ?_
    | exact avoid hd rfl | (intro _) | split | dsimp only)

theorem same_finish {ps : Nat} {z : State} (s : State) (f : Flight) (v : Verdict) (hd : ps &&& 0x201083C = 0) (hw : Same ps z s) :
    Same ps z (finish s f v) := by
  unfold finish
  try dsimp only
  repeat' (first
    | with_reducible assumption | with_reducible apply same_noteOutcome | with_reducible apply same_modCr
    | with_reducible refine same_modFlights ?_ ?_ | with_reducible apply same_issueRecord
    | with_reducible apply same_settleRing | with_reducible refine same_ite ?_ ?_ | exact avoid hd rfl | (intro _)
    | split | dsimp only)

theorem same_finishDone {ps : Nat} {z : State} (s : State) (f : Flight) (value : Nat) (hd : ps &&& 0x201083C = 0) (hw : Same ps z s) :
    Same ps z (finishDone s f value) := by
  unfold finishDone
  try dsimp only
  repeat' (first
    | with_reducible assumption | with_reducible apply same_finish | with_reducible refine same_ite ?_ ?_
    | exact avoid hd rfl | (intro _) | split | dsimp only)

theorem same_finishWith {ps : Nat} {z : State} (s : State) (f : Flight) (status reason : Nat) (value : Nat) (hd : ps &&& 0x201083C = 0) (hw : Same ps z s) :
    Same ps z (finishWith s f status reason value) := by
  unfold finishWith
  try dsimp only
  repeat' (first
    | with_reducible assumption | with_reducible apply same_finish | with_reducible refine same_ite ?_ ?_
    | exact avoid hd rfl | (intro _) | split | dsimp only)

theorem same_finishAborted {ps : Nat} {z : State} (s : State) (f : Flight) (hd : ps &&& 0x201083C = 0) (hw : Same ps z s) :
    Same ps z (finishAborted s f) := by
  unfold finishAborted
  try dsimp only
  repeat' (first
    | with_reducible assumption | with_reducible apply same_finishWith | with_reducible refine same_ite ?_ ?_
    | exact avoid hd rfl | (intro _) | split | dsimp only)

theorem same_withdraw {ps : Nat} {z : State} (s : State) (f : Flight) (v : Verdict) (hd : ps &&& 0x201083C = 0) (hw : Same ps z s) :
    Same ps z (withdraw s f v) := by
  unfold withdraw
  try dsimp only
  repeat' (first
    | with_reducible assumption | with_reducible apply same_finish | with_reducible apply same_setFlight
    | with_reducible apply same_accept | with_reducible refine same_ite ?_ ?_ | exact avoid hd rfl | (intro _) | split
    | dsimp only)

theorem same_await {ps : Nat} {z : State} (s : State) (f : Flight) (p : Phase) (hd : ps &&& 0x800 = 0) (hw : Same ps z s) :
    Same ps z (await s f p) := by
  unfold await
  try dsimp only
  repeat' (first
    | with_reducible assumption | with_reducible apply same_setFlight | with_reducible refine same_ite ?_ ?_
    | exact avoid hd rfl | (intro _) | split | dsimp only)

theorem same_setLgSrc {ps : Nat} {z : State} (s : State) (b : Nat) (v : LgSrc) (hd : ps &&& 0x80 = 0) (hw : Same ps z s) :
    Same ps z (setLgSrc s b v) := by
  unfold setLgSrc
  try dsimp only
  repeat' (first
    | with_reducible assumption | with_reducible refine same_modLg ?_ ?_ | with_reducible refine same_ite ?_ ?_
    | exact avoid hd rfl | (intro _) | split | dsimp only)

theorem same_halt {ps : Nat} {z : State} (s : State) (b : Nat) (hd : ps &&& 0x20108BC = 0) (hw : Same ps z s) :
    Same ps z (halt s b) := by
  unfold halt
  try dsimp only
  repeat' (first
    | with_reducible assumption | with_reducible refine same_modLg ?_ ?_ | with_reducible apply same_withdraw
    | with_reducible refine same_foldl ?_ ?_ | with_reducible refine same_ite ?_ ?_ | exact avoid hd rfl | (intro _)
    | split | dsimp only)

theorem same_assert {ps : Nat} {z : State} (s : State) (b affect : Nat) (injected : Bool) (hd : ps &&& 0x20108FC = 0) (hw : Same ps z s) :
    Same ps z (assert s b affect injected) := by
  unfold assert
  try dsimp only
  repeat' (first
    | with_reducible assumption | with_reducible apply same_setLgSrc | with_reducible apply same_raise
    | with_reducible apply same_halt | with_reducible refine same_modLg ?_ ?_ | with_reducible refine same_ite ?_ ?_
    | exact avoid hd rfl | (intro _) | split | dsimp only)

theorem same_missNote {ps : Nat} {z : State} (s : State) (f : Flight) (hd : ps &&& 0x20108FC = 0) (hw : Same ps z s) :
    Same ps z (missNote s f) := by
  unfold missNote
  try dsimp only
  repeat' (first
    | with_reducible assumption | with_reducible apply same_assert | with_reducible refine same_ite ?_ ?_
    | exact avoid hd rfl | (intro _) | split | dsimp only)

theorem same_beforeQuiesce {ps : Nat} {z : State} (s : State) (t a : Nat) (hd : ps &&& 0x100 = 0) (hw : Same ps z s) :
    Same ps z (beforeQuiesce s t a) := by
  unfold beforeQuiesce
  try dsimp only
  repeat' (first
    | with_reducible assumption | with_reducible apply same_modTen | with_reducible refine same_ite ?_ ?_
    | exact avoid hd rfl | (intro _) | split | dsimp only)

theorem same_barred {ps : Nat} {z : State} (view : State) (d : Descriptor) (r : Ruling) (s : State)
    (hd : ps &&& 0x8000000 = 0) (hw : Same ps z s) : Same ps z (barred view d r s).2 := by
  unfold barred
  split
  · exact same_freshValue s (avoid hd rfl) hw
  · exact hw

theorem same_takeCommand {ps : Nat} {z : State} (op : Nat) (src : CmdSrc) (d : Descriptor) (view : State)
    (check : State → Cmd → Ruling) (s : State) (hd : ps &&& 0xC000D00 = 0) (hw : Same ps z s) :
    Same ps z (takeCommand op src d view check s).2 := by
  unfold takeCommand
  dsimp only
  refine same_modFlights (avoid hd rfl) (same_modNextId (avoid hd rfl) ?_)
  have w := same_modVisible (f := fun l => l.eraseP fun v => decide (some v = entryOf s src d)) (avoid hd rfl)
    (same_barred view d (ruleOf op src d view check (admissionOf s src d)) s (avoid hd rfl) hw)
  exact same_ite w (same_modTen _ _ _ (avoid hd rfl) w)

end Sys2Proof.Machine
end

