-- ==== Sys2Proof/Laws/SameTimelineOps.lean ====
section
/-! SUPPORT. What the operations of Machine/TimelineOps.lean leave alone. -/

namespace Sys2Proof.Machine

theorem same_quietSync {ps : Nat} {z : State} (s : State) (hd : ps &&& 0x1 = 0) (hw : Same ps z s) :
    Same ps z (quietSync s) := by
  unfold quietSync
  try dsimp only
  repeat' (first
    | with_reducible assumption | with_reducible refine same_modTl ?_ ?_ | with_reducible refine same_ite ?_ ?_
    | exact avoid hd rfl | (intro _) | split | dsimp only)

theorem same_installSync {ps : Nat} {z : State} (s : State) (w o : Nat) (hd : ps &&& 0x1 = 0) (hw : Same ps z s) :
    Same ps z (installSync s w o) := by
  unfold installSync
  try dsimp only
  repeat' (first
    | with_reducible assumption | with_reducible apply same_quietSync | with_reducible refine same_modTl ?_ ?_
    | with_reducible refine same_ite ?_ ?_ | exact avoid hd rfl | (intro _) | split | dsimp only)

theorem same_enterHoldover {ps : Nat} {z : State} (s : State) (hd : ps &&& 0x20108FD = 0) (hw : Same ps z s) :
    Same ps z (enterHoldover s) := by
  unfold enterHoldover
  try dsimp only
  repeat' (first
    | with_reducible assumption | with_reducible refine same_modTl ?_ ?_ | with_reducible apply same_assert
    | with_reducible apply same_raise | with_reducible refine same_ite ?_ ?_ | exact avoid hd rfl | (intro _) | split
    | dsimp only)

theorem same_enterLocked {ps : Nat} {z : State} (s : State) (hd : ps &&& 0x20108FD = 0) (hw : Same ps z s) :
    Same ps z (enterLocked s) := by
  unfold enterLocked
  try dsimp only
  repeat' (first
    | with_reducible assumption | with_reducible refine same_modTl ?_ ?_ | with_reducible apply same_raise
    | with_reducible apply same_assert | with_reducible refine same_ite ?_ ?_ | exact avoid hd rfl | (intro _) | split
    | dsimp only)

theorem same_enterAcquire {ps : Nat} {z : State} (s : State) (hd : ps &&& 0x1 = 0) (hw : Same ps z s) :
    Same ps z (enterAcquire s) := by
  unfold enterAcquire
  try dsimp only
  repeat' (first
    | with_reducible assumption | with_reducible refine same_modTl ?_ ?_ | with_reducible refine same_ite ?_ ?_
    | exact avoid hd rfl | (intro _) | split | dsimp only)

theorem same_enterFree {ps : Nat} {z : State} (s : State) (hd : ps &&& 0x41 = 0) (hw : Same ps z s) :
    Same ps z (enterFree s) := by
  unfold enterFree
  try dsimp only
  repeat' (first
    | with_reducible assumption | with_reducible refine same_modTl ?_ ?_ | with_reducible apply same_raise
    | with_reducible refine same_ite ?_ ?_ | exact avoid hd rfl | (intro _) | split | dsimp only)

theorem same_selectSource {ps : Nat} {z : State} (s : State) (src : Nat) (hd : ps &&& 0x41 = 0) (hw : Same ps z s) :
    Same ps z (selectSource s src) := by
  unfold selectSource
  try dsimp only
  repeat' (first
    | with_reducible assumption | with_reducible refine same_modTl ?_ ?_ | with_reducible apply same_enterFree
    | with_reducible apply same_enterAcquire | with_reducible apply same_raise | with_reducible refine same_ite ?_ ?_
    | exact avoid hd rfl | (intro _) | split | dsimp only)

theorem same_acceptEdge {ps : Nat} {z : State} (s : State) (err : Int) (hd : ps &&& 0x20108FD = 0) (hw : Same ps z s) :
    Same ps z (acceptEdge s err) := by
  unfold acceptEdge
  try dsimp only
  repeat' (first
    | with_reducible assumption | with_reducible apply same_enterAcquire | with_reducible refine same_modTl ?_ ?_
    | with_reducible apply same_enterLocked | with_reducible refine same_ite ?_ ?_ | exact avoid hd rfl | (intro _)
    | split | dsimp only)

theorem same_rejectRange {ps : Nat} {z : State} (s : State) (hd : ps &&& 0x20108FD = 0) (hw : Same ps z s) :
    Same ps z (rejectRange s) := by
  unfold rejectRange
  try dsimp only
  repeat' (first
    | with_reducible assumption | with_reducible apply same_raise | with_reducible refine same_modTl ?_ ?_
    | with_reducible apply same_enterHoldover | with_reducible refine same_ite ?_ ?_ | exact avoid hd rfl | (intro _)
    | split | dsimp only)

theorem same_missEdge {ps : Nat} {z : State} (s : State) (hd : ps &&& 0x20108FD = 0) (hw : Same ps z s) :
    Same ps z (missEdge s) := by
  unfold missEdge
  try dsimp only
  repeat' (first
    | with_reducible assumption | with_reducible refine same_modTl ?_ ?_ | with_reducible apply same_enterHoldover
    | with_reducible refine same_ite ?_ ?_ | exact avoid hd rfl | (intro _) | split | dsimp only)

theorem same_stepAlign {ps : Nat} {z : State} (s : State) (hd : ps &&& 0x4001 = 0) (hw : Same ps z s) :
    Same ps z (stepAlign s) := by
  unfold stepAlign
  try dsimp only
  repeat' (first
    | with_reducible assumption | with_reducible apply same_realign | with_reducible refine same_modTl ?_ ?_
    | with_reducible refine same_ite ?_ ?_ | exact avoid hd rfl | (intro _) | split | dsimp only)

theorem same_referenceEdgeOf {ps : Nat} {z : State} (s : State) (rising : Bool) (interval : Nat) (hd : ps &&& 0xA0148FD = 0) (hw : Same ps z s) :
    Same ps z (referenceEdgeOf s rising interval) := by
  unfold referenceEdgeOf
  try dsimp only
  repeat' (first
    | with_reducible assumption | with_reducible apply same_raise | with_reducible refine same_modTl ?_ ?_
    | with_reducible apply same_rejectRange | with_reducible apply same_acceptEdge
    | with_reducible apply same_freshValue | with_reducible apply same_stepAlign | with_reducible refine same_ite ?_ ?_
    | exact avoid hd rfl | (intro _) | split | dsimp only)

theorem same_syncEdges {ps : Nat} {z : State} (s : State) (hd : ps &&& 0x1 = 0) (hw : Same ps z s) :
    Same ps z (syncEdges s) := by
  unfold syncEdges
  try dsimp only
  repeat' (first
    | with_reducible assumption | with_reducible refine same_modTl ?_ ?_ | with_reducible refine same_ite ?_ ?_
    | exact avoid hd rfl | (intro _) | split | dsimp only)

theorem same_syncEvent {ps : Nat} {z : State} (s : State) (sel : Nat) (hd : ps &&& 0x1 = 0) (hw : Same ps z s) :
    Same ps z (syncEvent s sel) := by
  unfold syncEvent
  try dsimp only
  repeat' (first
    | with_reducible assumption | with_reducible apply same_installSync | with_reducible refine same_modTl ?_ ?_
    | with_reducible apply same_syncEdges | with_reducible refine same_ite ?_ ?_ | exact avoid hd rfl | (intro _)
    | split | dsimp only)

theorem same_applyTimelineConfig {ps : Nat} {z : State} (s : State) (d : Descriptor) (hd : ps &&& 0x41 = 0) (hw : Same ps z s) :
    Same ps z (applyTimelineConfig s d) := by
  unfold applyTimelineConfig
  try dsimp only
  repeat' (first
    | with_reducible assumption | with_reducible apply same_selectSource | with_reducible refine same_modTl ?_ ?_
    | with_reducible refine same_ite ?_ ?_ | exact avoid hd rfl | (intro _) | split | dsimp only)

theorem same_foreseeTimeline {ps : Nat} {z : State} (s : State) (f : Flight) (hd : ps &&& 0x41 = 0) (hw : Same ps z s) :
    Same ps z (foreseeTimeline s f) := by
  unfold foreseeTimeline
  try dsimp only
  repeat' (first
    | with_reducible assumption | with_reducible apply same_applyTimelineConfig | with_reducible refine same_modTl ?_ ?_
    | with_reducible refine same_ite ?_ ?_ | exact avoid hd rfl | (intro _) | split | dsimp only)

theorem same_startTimelineSteer {ps : Nat} {z : State} (s : State) (f : Flight) (hd : ps &&& 0x20148FD = 0) (hw : Same ps z s) :
    Same ps z (startTimelineSteer s f) := by
  unfold startTimelineSteer
  try dsimp only
  repeat' (first
    | with_reducible assumption | with_reducible apply same_acceptEdge | with_reducible apply same_realign
    | with_reducible refine same_modTl ?_ ?_ | with_reducible apply same_finishDone
    | with_reducible refine same_ite ?_ ?_ | exact avoid hd rfl | (intro _) | split | dsimp only)

theorem same_startTimelineStatus {ps : Nat} {z : State} (s : State) (f : Flight) (hd : ps &&& 0x201083C = 0) (hw : Same ps z s) :
    Same ps z (startTimelineStatus s f) := by
  unfold startTimelineStatus
  try dsimp only
  repeat' (first
    | with_reducible assumption | with_reducible apply same_finishDone | with_reducible apply same_hostWrite
    | with_reducible refine same_ite ?_ ?_ | exact avoid hd rfl | (intro _) | split | dsimp only)

theorem same_turnEpoch {ps : Nat} {z : State} (s : State) (hd : ps &&& 0x4041 = 0) (hw : Same ps z s) :
    Same ps z (turnEpoch s) := by
  unfold turnEpoch
  try dsimp only
  repeat' (first
    | with_reducible assumption | with_reducible refine same_modComp ?_ ?_ | with_reducible refine same_modTl ?_ ?_
    | with_reducible apply same_raise | with_reducible refine same_ite ?_ ?_ | exact avoid hd rfl | (intro _) | split
    | dsimp only)

end Sys2Proof.Machine
end

