-- ==== Sys2Proof/Laws/SameHeadTime.lean ====
section
/-! SUPPORT. What the operations of Machine/HeadTime.lean leave alone. -/

namespace Sys2Proof.Machine

theorem same_setHead {ps : Nat} {z : State} (s : State) (h : Nat) (v : Head) (hd : ps &&& 0x4000 = 0) (hw : Same ps z s) :
    Same ps z (setHead s h v) := by
  unfold setHead
  try dsimp only
  repeat' (first
    | with_reducible assumption | with_reducible refine same_modComp ?_ ?_ | with_reducible refine same_ite ?_ ?_
    | exact avoid hd rfl | (intro _) | split | dsimp only)

theorem same_modHead {ps : Nat} {z : State} (s : State) (h : Nat) (f : Head → Head) (hd : ps &&& 0x4000 = 0) (hw : Same ps z s) :
    Same ps z (modHead s h f) := by
  unfold modHead
  try dsimp only
  repeat' (first
    | with_reducible assumption | with_reducible apply same_setHead | with_reducible refine same_ite ?_ ?_
    | exact avoid hd rfl | (intro _) | split | dsimp only)

theorem same_setSlot {ps : Nat} {z : State} (s : State) (n : Nat) (v : Slot) (hd : ps &&& 0x4000 = 0) (hw : Same ps z s) :
    Same ps z (setSlot s n v) := by
  unfold setSlot
  try dsimp only
  repeat' (first
    | with_reducible assumption | with_reducible refine same_modComp ?_ ?_ | with_reducible refine same_ite ?_ ?_
    | exact avoid hd rfl | (intro _) | split | dsimp only)

theorem same_modSlot {ps : Nat} {z : State} (s : State) (n : Nat) (f : Slot → Slot) (hd : ps &&& 0x4000 = 0) (hw : Same ps z s) :
    Same ps z (modSlot s n f) := by
  unfold modSlot
  try dsimp only
  repeat' (first
    | with_reducible assumption | with_reducible apply same_setSlot | with_reducible refine same_ite ?_ ?_
    | exact avoid hd rfl | (intro _) | split | dsimp only)

theorem same_setStager {ps : Nat} {z : State} (s : State) (h : Nat) (v : Stager) (hd : ps &&& 0x2000 = 0) (hw : Same ps z s) :
    Same ps z (setStager s h v) := by
  unfold setStager
  try dsimp only
  repeat' (first
    | with_reducible assumption | with_reducible refine same_modSr ?_ ?_ | with_reducible refine same_ite ?_ ?_
    | exact avoid hd rfl | (intro _) | split | dsimp only)

end Sys2Proof.Machine
end

