-- ==== Sys2Proof/Laws/SameXferOps.lean ====
section
/-! SUPPORT. What the operations of Machine/XferOps.lean leave alone. -/

namespace Sys2Proof.Machine

theorem same_setChan {ps : Nat} {z : State} (s : State) (k : Nat) (v : DmaChan) (hd : ps &&& 0x20000 = 0) (hw : Same ps z s) :
    Same ps z (setChan s k v) := by
  unfold setChan
  try dsimp only
  repeat' (first
    | with_reducible assumption | with_reducible refine same_modDma ?_ ?_ | with_reducible refine same_ite ?_ ?_
    | exact avoid hd rfl | (intro _) | split | dsimp only)

theorem same_modChan {ps : Nat} {z : State} (s : State) (k : Nat) (f : DmaChan → DmaChan) (hd : ps &&& 0x20000 = 0) (hw : Same ps z s) :
    Same ps z (modChan s k f) := by
  unfold modChan
  try dsimp only
  repeat' (first
    | with_reducible assumption | with_reducible apply same_setChan | with_reducible refine same_ite ?_ ?_
    | exact avoid hd rfl | (intro _) | split | dsimp only)

end Sys2Proof.Machine
end

