-- ==== Sys2Proof/Laws/SameStockroomOps.lean ====
section
/-! SUPPORT. What the operations of Machine/StockroomOps.lean leave alone. -/

namespace Sys2Proof.Machine

theorem same_setShelfOwner {ps : Nat} {z : State} (s : State) (n v : Nat) (hd : ps &&& 0x2000 = 0) (hw : Same ps z s) :
    Same ps z (setShelfOwner s n v) := by
  unfold setShelfOwner
  try dsimp only
  repeat' (first
    | with_reducible assumption | with_reducible refine same_modSr ?_ ?_ | with_reducible refine same_ite ?_ ?_
    | exact avoid hd rfl | (intro _) | split | dsimp only)

theorem same_setSrWord {ps : Nat} {z : State} (s : State) (a : Nat) (w : WordFault) (hd : ps &&& 0x2000 = 0) (hw : Same ps z s) :
    Same ps z (setSrWord s a w) := by
  unfold setSrWord
  try dsimp only
  repeat' (first
    | with_reducible assumption | with_reducible refine same_modSr ?_ ?_ | with_reducible refine same_ite ?_ ?_
    | exact avoid hd rfl | (intro _) | split | dsimp only)

theorem same_countCe {ps : Nat} {z : State} (s : State) (hd : ps &&& 0x2040 = 0) (hw : Same ps z s) :
    Same ps z (countCe s) := by
  unfold countCe
  try dsimp only
  repeat' (first
    | with_reducible assumption | with_reducible apply same_raise | with_reducible refine same_modSr ?_ ?_
    | with_reducible refine same_ite ?_ ?_ | exact avoid hd rfl | (intro _) | split | dsimp only)

theorem same_countUe {ps : Nat} {z : State} (s : State) (a : Nat) (hd : ps &&& 0x20128FC = 0) (hw : Same ps z s) :
    Same ps z (countUe s a) := by
  unfold countUe
  try dsimp only
  repeat' (first
    | with_reducible assumption | with_reducible apply same_assert | with_reducible apply same_raise
    | with_reducible refine same_modSr ?_ ?_ | with_reducible refine same_ite ?_ ?_ | exact avoid hd rfl | (intro _)
    | split | dsimp only)

theorem same_noteFault {ps : Nat} {z : State} (s : State) (a : Nat) (w : WordFault) (hd : ps &&& 0x20128FC = 0) (hw : Same ps z s) :
    Same ps z (noteFault s a w) := by
  unfold noteFault
  try dsimp only
  repeat' (first
    | with_reducible assumption | with_reducible apply same_countCe | with_reducible apply same_countUe
    | with_reducible refine same_ite ?_ ?_ | exact avoid hd rfl | (intro _) | split | dsimp only)

theorem same_noteWord {ps : Nat} {z : State} (s : State) (a : Nat) (hd : ps &&& 0x20128FC = 0) (hw : Same ps z s) :
    Same ps z (noteWord s a) := by
  unfold noteWord
  try dsimp only
  repeat' (first
    | with_reducible assumption | with_reducible apply same_noteFault | with_reducible refine same_ite ?_ ?_
    | exact avoid hd rfl | (intro _) | split | dsimp only)

theorem same_mendRecord {ps : Nat} {z : State} (s : State) (a : Nat) (hd : ps &&& 0x2000 = 0) (hw : Same ps z s) :
    Same ps z (mendRecord s a) := by
  unfold mendRecord
  try dsimp only
  repeat' (first
    | with_reducible assumption | with_reducible apply same_setSrWord | with_reducible refine same_modSr ?_ ?_
    | with_reducible refine same_ite ?_ ?_ | exact avoid hd rfl | (intro _) | split | dsimp only)

theorem same_readFault {ps : Nat} {z : State} (s : State) (a : Nat) (w : WordFault) (hd : ps &&& 0xA0128FC = 0) (hw : Same ps z s) :
    Same ps z ((readFault s a w).2.2) := by
  unfold readFault
  try dsimp only
  repeat' (first
    | with_reducible assumption | with_reducible apply same_noteFault | with_reducible apply same_freshBytes
    | with_reducible refine same_ite ?_ ?_ | exact avoid hd rfl | (intro _) | split | dsimp only)

theorem same_readWord {ps : Nat} {z : State} (port : Nat) (s : State) (a : Nat) (w : WordFault) (hd : ps &&& 0xA0128FC = 0) (hw : Same ps z s) :
    Same ps z ((readWord port s a w).2.2) := by
  unfold readWord
  try dsimp only
  repeat' (first
    | with_reducible assumption | with_reducible apply same_mendRecord | with_reducible apply same_noteWord
    | with_reducible apply same_noteFault | with_reducible apply same_freshBytes | with_reducible apply same_readFault
    | with_reducible refine same_ite ?_ ?_ | exact avoid hd rfl | (intro _) | split | dsimp only)

theorem same_portRead {ps : Nat} {z : State} (s : State) (r : PortRequest) (hd : ps &&& 0xA0128FC = 0) (hw : Same ps z s) :
    Same ps z (portRead s r) := by
  unfold portRead
  try dsimp only
  repeat' (first
    | with_reducible assumption | with_reducible apply same_setSrWord | with_reducible apply same_readWord
    | with_reducible apply same_noteWord | with_reducible refine same_modSr ?_ ?_ | with_reducible apply same_assert
    | with_reducible refine same_foldl ?_ ?_ | with_reducible refine same_foldl_1 ?_ ?_
    | with_reducible refine same_foldl_2 ?_ ?_ | with_reducible refine same_foldl_22 ?_ ?_
    | with_reducible refine same_ite ?_ ?_ | exact avoid hd rfl | (intro _) | split | dsimp only)

theorem same_writeWord {ps : Nat} {z : State} (poison : Bool) (addr len : Nat) (s : State) (a : Nat) (hd : ps &&& 0x20128FC = 0) (hw : Same ps z s) :
    Same ps z (writeWord poison addr len s a) := by
  unfold writeWord
  try dsimp only
  repeat' (first
    | with_reducible assumption | with_reducible apply same_setSrWord | with_reducible apply same_noteWord
    | with_reducible refine same_ite ?_ ?_ | exact avoid hd rfl | (intro _) | split | dsimp only)

theorem same_writeBytes {ps : Nat} {z : State} (s : State) (poison : Bool) (addr : Nat) (bs : List Byte) (hd : ps &&& 0x20128FC = 0) (hw : Same ps z s) :
    Same ps z (writeBytes s poison addr bs) := by
  unfold writeBytes
  try dsimp only
  repeat' (first
    | with_reducible assumption | with_reducible apply same_writeWord | with_reducible refine same_modSr ?_ ?_
    | with_reducible refine same_foldl ?_ ?_ | with_reducible refine same_ite ?_ ?_ | exact avoid hd rfl | (intro _)
    | split | dsimp only)

theorem same_foundByWrite {ps : Nat} {z : State} (s : State) (r : PortRequest) (n : Nat) (hd : ps &&& 0x2000 = 0) (hw : Same ps z s) :
    Same ps z (foundByWrite s r n) := by
  unfold foundByWrite
  try dsimp only
  repeat' (first
    | with_reducible assumption | with_reducible apply same_setSrWord | with_reducible refine same_ite ?_ ?_
    | exact avoid hd rfl | (intro _) | split | dsimp only)

theorem same_portWrite {ps : Nat} {z : State} (s : State) (r : PortRequest) (bs : List Byte) (hd : ps &&& 0x20128FC = 0) (hw : Same ps z s) :
    Same ps z (portWrite s r bs) := by
  unfold portWrite
  try dsimp only
  repeat' (first
    | with_reducible assumption | with_reducible apply same_foundByWrite | with_reducible apply same_writeBytes
    | with_reducible refine same_ite ?_ ?_ | exact avoid hd rfl | (intro _) | split | dsimp only)

theorem same_noteMoved {ps : Nat} {z : State} (s : State) (group : Nat) (hd : ps &&& 0x2000 = 0) (hw : Same ps z s) :
    Same ps z (noteMoved s group) := by
  unfold noteMoved
  try dsimp only
  repeat' (first
    | with_reducible assumption | with_reducible refine same_modSr ?_ ?_ | with_reducible refine same_ite ?_ ?_
    | exact avoid hd rfl | (intro _) | split | dsimp only)

theorem same_noteRead {ps : Nat} {z : State} (s : State) (group a n : Nat) (hd : ps &&& 0x20128FC = 0) (hw : Same ps z s) :
    Same ps z (noteRead s group a n) := by
  unfold noteRead
  try dsimp only
  repeat' (first
    | with_reducible assumption | with_reducible apply same_noteWord | with_reducible apply same_noteMoved
    | with_reducible refine same_foldl ?_ ?_ | with_reducible refine same_ite ?_ ?_ | exact avoid hd rfl | (intro _)
    | split | dsimp only)

theorem same_countSrBytes {ps : Nat} {z : State} (s : State) (o len : Nat) (write : Bool) (hd : ps &&& 0x2000 = 0) (hw : Same ps z s) :
    Same ps z (countSrBytes s o len write) := by
  unfold countSrBytes
  try dsimp only
  repeat' (first
    | with_reducible assumption | with_reducible refine same_modSr ?_ ?_ | with_reducible refine same_ite ?_ ?_
    | exact avoid hd rfl | (intro _) | split | dsimp only)

theorem same_countBytes {ps : Nat} {z : State} (s : State) (r : PortRequest) (len : Nat) (hd : ps &&& 0x2000 = 0) (hw : Same ps z s) :
    Same ps z (countBytes s r len) := by
  unfold countBytes
  try dsimp only
  repeat' (first
    | with_reducible assumption | with_reducible apply same_countSrBytes | with_reducible apply same_noteMoved
    | with_reducible refine same_ite ?_ ?_ | exact avoid hd rfl | (intro _) | split | dsimp only)

theorem same_srAccessFault {ps : Nat} {z : State} (s : State) (o : Nat) (hd : ps &&& 0x20108FC = 0) (hw : Same ps z s) :
    Same ps z (srAccessFault s o) := by
  unfold srAccessFault
  try dsimp only
  repeat' (first
    | with_reducible assumption | with_reducible apply same_assert | with_reducible apply same_raise
    | with_reducible refine same_ite ?_ ?_ | exact avoid hd rfl | (intro _) | split | dsimp only)

theorem same_portRefuse {ps : Nat} {z : State} (s : State) (r : PortRequest) (hd : ps &&& 0x20128FC = 0) (hw : Same ps z s) :
    Same ps z (portRefuse s r) := by
  unfold portRefuse
  try dsimp only
  repeat' (first
    | with_reducible assumption | with_reducible refine same_modSr ?_ ?_ | with_reducible apply same_srAccessFault
    | with_reducible refine same_ite ?_ ?_ | exact avoid hd rfl | (intro _) | split | dsimp only)

theorem same_movePort {ps : Nat} {z : State} (feed : State → Nat → List Byte → State) (s : State) (r : PortRequest) (hfeed : ∀ (x0 : State) (x1 : Nat) (x2 : List Byte), Same ps z x0 → Same ps z (feed x0 x1 x2)) (hd : ps &&& 0xA0128FC = 0) (hw : Same ps z s) :
    Same ps z (movePort feed s r) := by
  unfold movePort
  try dsimp only
  repeat' (first
    | with_reducible assumption | with_reducible apply same_countBytes | with_reducible apply same_portWrite
    | with_reducible apply same_portRead | with_reducible apply hfeed | with_reducible refine same_ite ?_ ?_
    | exact avoid hd rfl | (intro _) | split | dsimp only)

theorem same_servePort {ps : Nat} {z : State} (feed : State → Nat → List Byte → State) (s : State) (r : PortRequest) {t : State} (hfeed : ∀ (x0 : State) (x1 : Nat) (x2 : List Byte), Same ps z x0 → Same ps z (feed x0 x1 x2)) (e : servePort feed s r = .next t) (hd : ps &&& 0xA0128FC = 0) (hw : Same ps z s) :
    Same ps z t := by
  unfold servePort at e
  split at e
  · cases e
  · split at e
    · cases e; exact same_portRefuse _ _ (avoid hd rfl) hw
    · split at e
      · cases e; exact same_modSr (avoid hd rfl) hw
      · cases e; exact same_movePort feed _ _ hfeed (avoid hd rfl) hw

theorem same_serveWaiting {ps : Nat} {z : State} (feed : State → Nat → List Byte → State) (s : State) (r : PortRequest) (hfeed : ∀ (x0 : State) (x1 : Nat) (x2 : List Byte), Same ps z x0 → Same ps z (feed x0 x1 x2)) (hd : ps &&& 0xA0128FC = 0) (hw : Same ps z s) :
    Same ps z (serveWaiting feed s r) := by
  unfold serveWaiting
  try dsimp only
  repeat' (first
    | with_reducible assumption | with_reducible refine same_modSr ?_ ?_ | with_reducible apply same_movePort
    | with_reducible apply same_portRefuse | with_reducible apply hfeed | with_reducible refine same_ite ?_ ?_
    | exact avoid hd rfl | (intro _) | split | dsimp only)

theorem same_serveTurn {ps : Nat} {z : State} (feed : State → Nat → List Byte → State) (s : State) (hfeed : ∀ (x0 : State) (x1 : Nat) (x2 : List Byte), Same ps z x0 → Same ps z (feed x0 x1 x2)) (hd : ps &&& 0xA0128FC = 0) (hw : Same ps z s) :
    Same ps z (serveTurn feed s) := by
  unfold serveTurn
  try dsimp only
  repeat' (first
    | with_reducible assumption | with_reducible apply same_serveWaiting | with_reducible refine same_modSr ?_ ?_
    | with_reducible refine same_foldl ?_ ?_ | with_reducible apply hfeed | with_reducible refine same_ite ?_ ?_
    | exact avoid hd rfl | (intro _) | split | dsimp only)

theorem same_wipeShelf {ps : Nat} {z : State} (s : State) (n : Nat) (hd : ps &&& 0x2000 = 0) (hw : Same ps z s) :
    Same ps z (wipeShelf s n) := by
  unfold wipeShelf
  try dsimp only
  repeat' (first
    | with_reducible assumption | with_reducible refine same_modSr ?_ ?_ | with_reducible refine same_ite ?_ ?_
    | exact avoid hd rfl | (intro _) | split | dsimp only)

theorem same_zeroiseShelf {ps : Nat} {z : State} (s : State) (n next : Nat) (hd : ps &&& 0x2000 = 0) (hw : Same ps z s) :
    Same ps z (zeroiseShelf s n next) := by
  unfold zeroiseShelf
  try dsimp only
  repeat' (first
    | with_reducible assumption | with_reducible apply same_setShelfOwner | with_reducible refine same_modSr ?_ ?_
    | with_reducible refine same_ite ?_ ?_ | exact avoid hd rfl | (intro _) | split | dsimp only)

theorem same_shelfDone {ps : Nat} {z : State} (s : State) (n : Nat) (hd : ps &&& 0x2000 = 0) (hw : Same ps z s) :
    Same ps z (shelfDone s n) := by
  unfold shelfDone
  try dsimp only
  repeat' (first
    | with_reducible assumption | with_reducible apply same_wipeShelf | with_reducible apply same_noteMoved
    | with_reducible refine same_modSr ?_ ?_ | with_reducible apply same_setShelfOwner
    | with_reducible refine same_ite ?_ ?_ | exact avoid hd rfl | (intro _) | split | dsimp only)

theorem same_scrubWord {ps : Nat} {z : State} (ue : Bool) (s : State) (w : Nat) (hd : ps &&& 0x2040 = 0) (hw : Same ps z s) :
    Same ps z (scrubWord ue s w) := by
  unfold scrubWord
  try dsimp only
  repeat' (first
    | with_reducible assumption | with_reducible apply same_setSrWord | with_reducible apply same_countCe
    | with_reducible refine same_ite ?_ ?_ | exact avoid hd rfl | (intro _) | split | dsimp only)

theorem same_scrubBeat {ps : Nat} {z : State} (s : State) (found : WordFault) (hd : ps &&& 0x20128FC = 0) (hw : Same ps z s) :
    Same ps z (scrubBeat s found) := by
  unfold scrubBeat
  try dsimp only
  repeat' (first
    | with_reducible assumption | with_reducible apply same_noteMoved | with_reducible apply same_setSrWord
    | with_reducible apply same_countUe | with_reducible apply same_scrubWord | with_reducible refine same_modSr ?_ ?_
    | with_reducible apply same_raise | with_reducible refine same_foldl ?_ ?_ | with_reducible refine same_ite ?_ ?_
    | exact avoid hd rfl | (intro _) | split | dsimp only)

theorem same_startStockroomQuery {ps : Nat} {z : State} (s : State) (f : Flight) (hd : ps &&& 0x201083C = 0) (hw : Same ps z s) :
    Same ps z (startStockroomQuery s f) := by
  unfold startStockroomQuery
  try dsimp only
  repeat' (first
    | with_reducible assumption | with_reducible apply same_finishDone | with_reducible apply same_hostWrite
    | with_reducible refine same_ite ?_ ?_ | exact avoid hd rfl | (intro _) | split | dsimp only)

end Sys2Proof.Machine
end

