-- ==== Sys2Proof/Laws/SameDramOps.lean ====
section
/-! SUPPORT. What the operations of Machine/DramOps.lean leave alone. -/

namespace Sys2Proof.Machine

theorem same_setRank {ps : Nat} {z : State} (s : State) (n : Nat) (v : Rank) (hd : ps &&& 0x40000 = 0) (hw : Same ps z s) :
    Same ps z (setRank s n v) := by
  unfold setRank
  try dsimp only
  repeat' (first
    | with_reducible assumption | with_reducible refine same_modDram ?_ ?_ | with_reducible refine same_ite ?_ ?_
    | exact avoid hd rfl | (intro _) | split | dsimp only)

theorem same_modRank {ps : Nat} {z : State} (s : State) (n : Nat) (f : Rank → Rank) (hd : ps &&& 0x40000 = 0) (hw : Same ps z s) :
    Same ps z (modRank s n f) := by
  unfold modRank
  try dsimp only
  repeat' (first
    | with_reducible assumption | with_reducible apply same_setRank | with_reducible refine same_ite ?_ ?_
    | exact avoid hd rfl | (intro _) | split | dsimp only)

theorem same_setPlotOwner {ps : Nat} {z : State} (s : State) (p v : Nat) (hd : ps &&& 0x40000 = 0) (hw : Same ps z s) :
    Same ps z (setPlotOwner s p v) := by
  unfold setPlotOwner
  try dsimp only
  repeat' (first
    | with_reducible assumption | with_reducible refine same_modDram ?_ ?_ | with_reducible refine same_ite ?_ ?_
    | exact avoid hd rfl | (intro _) | split | dsimp only)

theorem same_beginMigration {ps : Nat} {z : State} (s : State) (n sp : Nat) (hd : ps &&& 0x40000 = 0) (hw : Same ps z s) :
    Same ps z (beginMigration s n sp) := by
  unfold beginMigration
  try dsimp only
  repeat' (first
    | with_reducible assumption | with_reducible apply same_modRank | with_reducible refine same_modDram ?_ ?_
    | with_reducible refine same_ite ?_ ?_ | exact avoid hd rfl | (intro _) | split | dsimp only)

theorem same_retire {ps : Nat} {z : State} (s : State) (n : Nat) (hd : ps &&& 0x20508FC = 0) (hw : Same ps z s) :
    Same ps z (retire s n) := by
  unfold retire
  try dsimp only
  repeat' (first
    | with_reducible assumption | with_reducible refine same_modDram ?_ ?_ | with_reducible apply same_beginMigration
    | with_reducible apply same_assert | with_reducible apply same_modRank | with_reducible refine same_ite ?_ ?_
    | exact avoid hd rfl | (intro _) | split | dsimp only)

theorem same_setDrWord {ps : Nat} {z : State} (s : State) (a : Nat) (w : WordFault) (hd : ps &&& 0x40000 = 0) (hw : Same ps z s) :
    Same ps z (setDrWord s a w) := by
  unfold setDrWord
  try dsimp only
  repeat' (first
    | with_reducible assumption | with_reducible refine same_modDram ?_ ?_ | with_reducible refine same_ite ?_ ?_
    | exact avoid hd rfl | (intro _) | split | dsimp only)

theorem same_noteDrWord {ps : Nat} {z : State} (s : State) (a : Nat) (hd : ps &&& 0x20508FC = 0) (hw : Same ps z s) :
    Same ps z (noteDrWord s a) := by
  unfold noteDrWord
  try dsimp only
  repeat' (first
    | with_reducible assumption | with_reducible apply same_modRank | with_reducible apply same_raise
    | with_reducible refine same_modDram ?_ ?_ | with_reducible apply same_setDrWord | with_reducible apply same_retire
    | with_reducible apply same_assert | with_reducible refine same_ite ?_ ?_ | exact avoid hd rfl | (intro _) | split
    | dsimp only)

theorem same_readDrWord {ps : Nat} {z : State} (s : State) (a : Nat) (hd : ps &&& 0xA0508FC = 0) (hw : Same ps z s) :
    Same ps z ((readDrWord s a).2.2) := by
  unfold readDrWord
  try dsimp only
  repeat' (first
    | with_reducible assumption | with_reducible apply same_noteDrWord | with_reducible apply same_freshBytes
    | with_reducible refine same_ite ?_ ?_ | exact avoid hd rfl | (intro _) | split | dsimp only)

theorem same_writeDrWord {ps : Nat} {z : State} (poison : Bool) (addr len : Nat) (s : State) (a : Nat) (hd : ps &&& 0x20508FC = 0) (hw : Same ps z s) :
    Same ps z (writeDrWord poison addr len s a) := by
  unfold writeDrWord
  try dsimp only
  repeat' (first
    | with_reducible assumption | with_reducible apply same_setDrWord | with_reducible apply same_noteDrWord
    | with_reducible refine same_ite ?_ ?_ | exact avoid hd rfl | (intro _) | split | dsimp only)

theorem same_writeDram {ps : Nat} {z : State} (s : State) (addr : Nat) (bs : List Byte) (poison : Bool) (hd : ps &&& 0x20508FC = 0) (hw : Same ps z s) :
    Same ps z (writeDram s addr bs poison) := by
  unfold writeDram
  try dsimp only
  repeat' (first
    | with_reducible assumption | with_reducible apply same_writeDrWord | with_reducible refine same_modDram ?_ ?_
    | with_reducible refine same_foldl ?_ ?_ | with_reducible refine same_ite ?_ ?_ | exact avoid hd rfl | (intro _)
    | split | dsimp only)

theorem same_readDram {ps : Nat} {z : State} (s : State) (addr len : Nat) (hd : ps &&& 0xA0508FC = 0) (hw : Same ps z s) :
    Same ps z ((readDram s addr len).2.2) := by
  unfold readDram
  try dsimp only
  repeat' (first
    | with_reducible assumption | with_reducible apply same_readDrWord | with_reducible refine same_foldl ?_ ?_
    | with_reducible refine same_foldl_1 ?_ ?_ | with_reducible refine same_foldl_2 ?_ ?_
    | with_reducible refine same_foldl_22 ?_ ?_ | with_reducible refine same_ite ?_ ?_ | exact avoid hd rfl | (intro _)
    | split | dsimp only)

theorem same_useRank {ps : Nat} {z : State} (s : State) (n : Nat) (hd : ps &&& 0x40000 = 0) (hw : Same ps z s) :
    Same ps z (useRank s n) := by
  unfold useRank
  try dsimp only
  repeat' (first
    | with_reducible assumption | with_reducible apply same_modRank | with_reducible refine same_ite ?_ ?_
    | exact avoid hd rfl | (intro _) | split | dsimp only)

theorem same_mcAccessFault {ps : Nat} {z : State} (s : State) (o : Nat) (hd : ps &&& 0x20108FC = 0) (hw : Same ps z s) :
    Same ps z (mcAccessFault s o) := by
  unfold mcAccessFault
  try dsimp only
  repeat' (first
    | with_reducible assumption | with_reducible apply same_assert | with_reducible apply same_raise
    | with_reducible refine same_ite ?_ ?_ | exact avoid hd rfl | (intro _) | split | dsimp only)

theorem same_dramRefuse {ps : Nat} {z : State} (s : State) (r : DramRequest) (hd : ps &&& 0x20508FC = 0) (hw : Same ps z s) :
    Same ps z (dramRefuse s r) := by
  unfold dramRefuse
  try dsimp only
  repeat' (first
    | with_reducible assumption | with_reducible refine same_modDram ?_ ?_ | with_reducible apply same_mcAccessFault
    | with_reducible refine same_ite ?_ ?_ | exact avoid hd rfl | (intro _) | split | dsimp only)

theorem same_dramPerform {ps : Nat} {z : State} (s : State) (r : DramRequest) (hd : ps &&& 0xA0508FC = 0) (hw : Same ps z s) :
    Same ps z (dramPerform s r) := by
  unfold dramPerform
  try dsimp only
  repeat' (first
    | with_reducible assumption | with_reducible refine same_modDram ?_ ?_ | with_reducible apply same_useRank
    | with_reducible apply same_setDrWord | with_reducible apply same_writeDram | with_reducible apply same_readDram
    | with_reducible refine same_ite ?_ ?_ | exact avoid hd rfl | (intro _) | split | dsimp only)

theorem same_dramServe {ps : Nat} {z : State} (s : State) (r : DramRequest) (hd : ps &&& 0xA0508FC = 0) (hw : Same ps z s) :
    Same ps z (dramServe s r) := by
  unfold dramServe
  try dsimp only
  repeat' (first
    | with_reducible assumption | with_reducible apply same_dramRefuse | with_reducible refine same_modDram ?_ ?_
    | with_reducible apply same_dramPerform | with_reducible refine same_ite ?_ ?_ | exact avoid hd rfl | (intro _)
    | split | dsimp only)

theorem same_serveDram {ps : Nat} {z : State} (s : State) (rs : List DramRequest) (hd : ps &&& 0xA0508FC = 0) (hw : Same ps z s) :
    Same ps z (serveDram s rs) := by
  unfold serveDram
  try dsimp only
  repeat' (first
    | with_reducible assumption | with_reducible apply same_dramServe | with_reducible refine same_modDram ?_ ?_
    | with_reducible refine same_foldl ?_ ?_ | with_reducible refine same_ite ?_ ?_ | exact avoid hd rfl | (intro _)
    | split | dsimp only)

theorem same_serveDramTurn {ps : Nat} {z : State} (s : State) (hd : ps &&& 0xA0508FC = 0) (hw : Same ps z s) :
    Same ps z (serveDramTurn s) := by
  unfold serveDramTurn
  try dsimp only
  repeat' (first
    | with_reducible assumption | with_reducible apply same_serveDram | with_reducible refine same_modDram ?_ ?_
    | with_reducible refine same_ite ?_ ?_ | exact avoid hd rfl | (intro _) | split | dsimp only)

theorem same_releaseHeld {ps : Nat} {z : State} (s : State) (hd : ps &&& 0xA0508FC = 0) (hw : Same ps z s) :
    Same ps z (releaseHeld s) := by
  unfold releaseHeld
  try dsimp only
  repeat' (first
    | with_reducible assumption | with_reducible apply same_dramServe | with_reducible refine same_modDram ?_ ?_
    | with_reducible refine same_foldl ?_ ?_ | with_reducible refine same_ite ?_ ?_ | exact avoid hd rfl | (intro _)
    | split | dsimp only)

theorem same_copyWords {ps : Nat} {z : State} (s : State) (n : Nat) (hd : ps &&& 0x20508FC = 0) (hw : Same ps z s) :
    Same ps z (copyWords s n) := by
  unfold copyWords
  try dsimp only
  repeat' (first
    | with_reducible assumption | with_reducible apply same_noteDrWord | with_reducible refine same_modDram ?_ ?_
    | with_reducible refine same_foldl ?_ ?_ | with_reducible refine same_foldl_1 ?_ ?_
    | with_reducible refine same_foldl_2 ?_ ?_ | with_reducible refine same_foldl_22 ?_ ?_
    | with_reducible refine same_ite ?_ ?_ | exact avoid hd rfl | (intro _) | split | dsimp only)

theorem same_endFirstPause {ps : Nat} {z : State} (s : State) (hd : ps &&& 0xA0508FC = 0) (hw : Same ps z s) :
    Same ps z (endFirstPause s) := by
  unfold endFirstPause
  try dsimp only
  repeat' (first
    | with_reducible assumption | with_reducible apply same_releaseHeld | with_reducible refine same_modDram ?_ ?_
    | with_reducible refine same_ite ?_ ?_ | exact avoid hd rfl | (intro _) | split | dsimp only)

theorem same_endCopy {ps : Nat} {z : State} (s : State) (hd : ps &&& 0x20508FC = 0) (hw : Same ps z s) :
    Same ps z (endCopy s) := by
  unfold endCopy
  try dsimp only
  repeat' (first
    | with_reducible assumption | with_reducible apply same_copyWords | with_reducible refine same_modDram ?_ ?_
    | with_reducible refine same_ite ?_ ?_ | exact avoid hd rfl | (intro _) | split | dsimp only)

theorem same_endMigration {ps : Nat} {z : State} (s : State) (hd : ps &&& 0xA0508FC = 0) (hw : Same ps z s) :
    Same ps z (endMigration s) := by
  unfold endMigration
  try dsimp only
  repeat' (first
    | with_reducible assumption | with_reducible refine same_modDram ?_ ?_ | with_reducible apply same_modRank
    | with_reducible apply same_raise | with_reducible apply same_finishDone | with_reducible apply same_releaseHeld
    | with_reducible apply same_retire | with_reducible refine same_foldl ?_ ?_ | with_reducible refine same_ite ?_ ?_
    | exact avoid hd rfl | (intro _) | split | dsimp only)

theorem same_pollRank {ps : Nat} {z : State} (s : State) (n reading : Nat) (hd : ps &&& 0x20508FC = 0) (hw : Same ps z s) :
    Same ps z (pollRank s n reading) := by
  unfold pollRank
  try dsimp only
  repeat' (first
    | with_reducible assumption | with_reducible apply same_setRank | with_reducible apply same_raise
    | with_reducible apply same_assert | with_reducible refine same_ite ?_ ?_ | exact avoid hd rfl | (intro _) | split
    | dsimp only)

theorem same_pollMr4 {ps : Nat} {z : State} (s : State) (readings : List Nat) (hd : ps &&& 0x20508FC = 0) (hw : Same ps z s) :
    Same ps z (pollMr4 s readings) := by
  unfold pollMr4
  try dsimp only
  repeat' (first
    | with_reducible assumption | with_reducible apply same_pollRank | with_reducible refine same_foldl ?_ ?_
    | with_reducible refine same_foldl_1 ?_ ?_ | with_reducible refine same_foldl_2 ?_ ?_
    | with_reducible refine same_foldl_22 ?_ ?_ | with_reducible refine same_ite ?_ ?_ | exact avoid hd rfl | (intro _)
    | split | dsimp only)

theorem same_powerDownRank {ps : Nat} {z : State} (s : State) (n : Nat) (hd : ps &&& 0x40000 = 0) (hw : Same ps z s) :
    Same ps z (powerDownRank s n) := by
  unfold powerDownRank
  try dsimp only
  repeat' (first
    | with_reducible assumption | with_reducible apply same_modRank | with_reducible refine same_ite ?_ ?_
    | exact avoid hd rfl | (intro _) | split | dsimp only)

theorem same_endTraining {ps : Nat} {z : State} (s : State) (gib present good named : Nat) (hd : ps &&& 0x20508FC = 0) (hw : Same ps z s) :
    Same ps z (endTraining s gib present good named) := by
  unfold endTraining
  try dsimp only
  repeat' (first
    | with_reducible assumption | with_reducible refine same_modDram ?_ ?_ | with_reducible apply same_assert
    | with_reducible apply same_raise | with_reducible refine same_foldl ?_ ?_ | with_reducible refine same_ite ?_ ?_
    | exact avoid hd rfl | (intro _) | split | dsimp only)

theorem same_wipePlot {ps : Nat} {z : State} (s : State) (p : Nat) (hd : ps &&& 0x40000 = 0) (hw : Same ps z s) :
    Same ps z (wipePlot s p) := by
  unfold wipePlot
  try dsimp only
  repeat' (first
    | with_reducible assumption | with_reducible refine same_modDram ?_ ?_ | with_reducible refine same_ite ?_ ?_
    | exact avoid hd rfl | (intro _) | split | dsimp only)

theorem same_zeroisePlot {ps : Nat} {z : State} (s : State) (p next : Nat) (hd : ps &&& 0x40000 = 0) (hw : Same ps z s) :
    Same ps z (zeroisePlot s p next) := by
  unfold zeroisePlot
  try dsimp only
  repeat' (first
    | with_reducible assumption | with_reducible apply same_setPlotOwner | with_reducible refine same_modDram ?_ ?_
    | with_reducible refine same_ite ?_ ?_ | exact avoid hd rfl | (intro _) | split | dsimp only)

theorem same_plotDone {ps : Nat} {z : State} (s : State) (p : Nat) (hd : ps &&& 0x40000 = 0) (hw : Same ps z s) :
    Same ps z (plotDone s p) := by
  unfold plotDone
  try dsimp only
  repeat' (first
    | with_reducible assumption | with_reducible apply same_wipePlot | with_reducible refine same_modDram ?_ ?_
    | with_reducible apply same_setPlotOwner | with_reducible refine same_ite ?_ ?_ | exact avoid hd rfl | (intro _)
    | split | dsimp only)

theorem same_patrolBeat {ps : Nat} {z : State} (s : State) (found : WordFault) (hd : ps &&& 0x20508FC = 0) (hw : Same ps z s) :
    Same ps z (patrolBeat s found) := by
  unfold patrolBeat
  try dsimp only
  repeat' (first
    | with_reducible assumption | with_reducible apply same_setDrWord | with_reducible apply same_noteDrWord
    | with_reducible refine same_modDram ?_ ?_ | with_reducible refine same_foldl ?_ ?_
    | with_reducible refine same_ite ?_ ?_ | exact avoid hd rfl | (intro _) | split | dsimp only)

theorem same_copyBytes {ps : Nat} {z : State} (s : State) (n : Nat) (hd : ps &&& 0x40000 = 0) (hw : Same ps z s) :
    Same ps z (copyBytes s n) := by
  unfold copyBytes
  try dsimp only
  repeat' (first
    | with_reducible assumption | with_reducible refine same_modDram ?_ ?_ | with_reducible refine same_ite ?_ ?_
    | exact avoid hd rfl | (intro _) | split | dsimp only)

theorem same_useDram {ps : Nat} {z : State} (s : State) (a : Nat) (hd : ps &&& 0x40000 = 0) (hw : Same ps z s) :
    Same ps z (useDram s a) := by
  unfold useDram
  try dsimp only
  repeat' (first
    | with_reducible assumption | with_reducible apply same_useRank | with_reducible refine same_modDram ?_ ?_
    | with_reducible refine same_ite ?_ ?_ | exact avoid hd rfl | (intro _) | split | dsimp only)

theorem same_noteBulk {ps : Nat} {z : State} (s : State) (o t addr n : Nat) (hd : ps &&& 0x20508FC = 0) (hw : Same ps z s) :
    Same ps z (noteBulk s o t addr n) := by
  unfold noteBulk
  try dsimp only
  repeat' (first
    | with_reducible assumption | with_reducible apply same_mcAccessFault | with_reducible apply same_noteDrWord
    | with_reducible apply same_useDram | with_reducible refine same_foldl ?_ ?_
    | with_reducible refine same_foldl_1 ?_ ?_ | with_reducible refine same_foldl_2 ?_ ?_
    | with_reducible refine same_foldl_22 ?_ ?_ | with_reducible refine same_ite ?_ ?_ | exact avoid hd rfl | (intro _)
    | split | dsimp only)

theorem same_bulkRead {ps : Nat} {z : State} (s : State) (o t addr n : Nat) (hd : ps &&& 0x20508FC = 0) (hw : Same ps z s) :
    Same ps z ((bulkRead s o t addr n).2) := by
  unfold bulkRead
  try dsimp only
  repeat' (first
    | with_reducible assumption | with_reducible apply same_noteBulk | with_reducible refine same_ite ?_ ?_
    | exact avoid hd rfl | (intro _) | split | dsimp only)

theorem same_bulkPut {ps : Nat} {z : State} (s : State) (o t addr : Nat) (l : List (Byte × Bool)) (hd : ps &&& 0x20508FC = 0) (hw : Same ps z s) :
    Same ps z (bulkPut s o t addr l) := by
  unfold bulkPut
  try dsimp only
  repeat' (first
    | with_reducible assumption | with_reducible apply same_mcAccessFault | with_reducible apply same_noteDrWord
    | with_reducible apply same_useDram | with_reducible apply same_setDrWord | with_reducible refine same_modDram ?_ ?_
    | with_reducible refine same_foldl ?_ ?_ | with_reducible refine same_foldl_1 ?_ ?_
    | with_reducible refine same_foldl_2 ?_ ?_ | with_reducible refine same_foldl_22 ?_ ?_
    | with_reducible refine same_ite ?_ ?_ | exact avoid hd rfl | (intro _) | split | dsimp only)

theorem same_countBulk {ps : Nat} {z : State} (s : State) (o n : Nat) (write : Bool) (hd : ps &&& 0x40000 = 0) (hw : Same ps z s) :
    Same ps z (countBulk s o n write) := by
  unfold countBulk
  try dsimp only
  repeat' (first
    | with_reducible assumption | with_reducible refine same_modDram ?_ ?_ | with_reducible refine same_ite ?_ ?_
    | exact avoid hd rfl | (intro _) | split | dsimp only)

theorem same_groveRead {ps : Nat} {z : State} (s : State) (t addr n : Nat) (hd : ps &&& 0x20528FC = 0) (hw : Same ps z s) :
    Same ps z (groveRead s t addr n) := by
  unfold groveRead
  try dsimp only
  repeat' (first
    | with_reducible assumption | with_reducible apply same_countBulk | with_reducible apply same_noteBulk
    | with_reducible apply same_noteMoved | with_reducible refine same_ite ?_ ?_ | exact avoid hd rfl | (intro _)
    | split | dsimp only)

theorem same_grovePut {ps : Nat} {z : State} (s : State) (t addr : Nat) (bs : List Byte) (hd : ps &&& 0x20528FC = 0) (hw : Same ps z s) :
    Same ps z (grovePut s t addr bs) := by
  unfold grovePut
  try dsimp only
  repeat' (first
    | with_reducible assumption | with_reducible apply same_countBulk | with_reducible apply same_bulkPut
    | with_reducible apply same_noteMoved | with_reducible refine same_ite ?_ ?_ | exact avoid hd rfl | (intro _)
    | split | dsimp only)

theorem same_srPut {ps : Nat} {z : State} (s : State) (group o t addr : Nat) (l : List (Byte × Bool)) (hd : ps &&& 0x20128FC = 0) (hw : Same ps z s) :
    Same ps z (srPut s group o t addr l) := by
  unfold srPut
  try dsimp only
  repeat' (first
    | with_reducible assumption | with_reducible apply same_srAccessFault | with_reducible apply same_noteWord
    | with_reducible apply same_noteMoved | with_reducible apply same_setSrWord | with_reducible refine same_modSr ?_ ?_
    | with_reducible refine same_foldl ?_ ?_ | with_reducible refine same_foldl_1 ?_ ?_
    | with_reducible refine same_foldl_2 ?_ ?_ | with_reducible refine same_foldl_22 ?_ ?_
    | with_reducible refine same_ite ?_ ?_ | exact avoid hd rfl | (intro _) | split | dsimp only)

theorem same_srRead {ps : Nat} {z : State} (s : State) (group o t addr n : Nat) (hd : ps &&& 0x20128FC = 0) (hw : Same ps z s) :
    Same ps z ((srRead s group o t addr n).2) := by
  unfold srRead
  try dsimp only
  repeat' (first
    | with_reducible assumption | with_reducible apply same_srAccessFault | with_reducible apply same_noteRead
    | with_reducible refine same_foldl ?_ ?_ | with_reducible refine same_foldl_1 ?_ ?_
    | with_reducible refine same_foldl_2 ?_ ?_ | with_reducible refine same_foldl_22 ?_ ?_
    | with_reducible refine same_ite ?_ ?_ | exact avoid hd rfl | (intro _) | split | dsimp only)

theorem same_startMemSpare {ps : Nat} {z : State} (s : State) (f : Flight) (hd : ps &&& 0x205083C = 0) (hw : Same ps z s) :
    Same ps z (startMemSpare s f) := by
  unfold startMemSpare
  try dsimp only
  repeat' (first
    | with_reducible assumption | with_reducible apply same_modRank | with_reducible apply same_finishDone
    | with_reducible refine same_modDram ?_ ?_ | with_reducible refine same_ite ?_ ?_ | exact avoid hd rfl | (intro _)
    | split | dsimp only)

theorem same_startMemPowerdown {ps : Nat} {z : State} (s : State) (f : Flight) (hd : ps &&& 0x205083C = 0) (hw : Same ps z s) :
    Same ps z (startMemPowerdown s f) := by
  unfold startMemPowerdown
  try dsimp only
  repeat' (first
    | with_reducible assumption | with_reducible apply same_finishDone | with_reducible refine same_modDram ?_ ?_
    | with_reducible refine same_ite ?_ ?_ | exact avoid hd rfl | (intro _) | split | dsimp only)

theorem same_applyMemLatency {ps : Nat} {z : State} (s : State) (d : Descriptor) (hd : ps &&& 0x40000 = 0) (hw : Same ps z s) :
    Same ps z (applyMemLatency s d) := by
  unfold applyMemLatency
  try dsimp only
  repeat' (first
    | with_reducible assumption | with_reducible refine same_modDram ?_ ?_ | with_reducible refine same_ite ?_ ?_
    | exact avoid hd rfl | (intro _) | split | dsimp only)

theorem same_retireNamed {ps : Nat} {z : State} (s : State) (n : Nat) (hd : ps &&& 0x20508FC = 0) (hw : Same ps z s) :
    Same ps z (retireNamed s n) := by
  unfold retireNamed
  try dsimp only
  repeat' (first
    | with_reducible assumption | with_reducible apply same_retire | with_reducible apply same_modRank
    | with_reducible refine same_ite ?_ ?_ | exact avoid hd rfl | (intro _) | split | dsimp only)

theorem same_commitMemRetire {ps : Nat} {z : State} (s : State) (f : Flight) (hd : ps &&& 0x20508FC = 0) (hw : Same ps z s) :
    Same ps z (commitMemRetire s f) := by
  unfold commitMemRetire
  try dsimp only
  repeat' (first
    | with_reducible assumption | with_reducible apply same_retireNamed | with_reducible refine same_ite ?_ ?_
    | exact avoid hd rfl | (intro _) | split | dsimp only)

theorem same_startMemRetire {ps : Nat} {z : State} (s : State) (f : Flight) (hd : ps &&& 0x20508FC = 0) (hw : Same ps z s) :
    Same ps z (startMemRetire s f) := by
  unfold startMemRetire
  try dsimp only
  repeat' (first
    | with_reducible assumption | with_reducible apply same_retireNamed | with_reducible apply same_finishDone
    | with_reducible apply same_await | with_reducible refine same_ite ?_ ?_ | exact avoid hd rfl | (intro _) | split
    | dsimp only)

theorem same_startMemStatus {ps : Nat} {z : State} (s : State) (f : Flight) (hd : ps &&& 0x201083C = 0) (hw : Same ps z s) :
    Same ps z (startMemStatus s f) := by
  unfold startMemStatus
  try dsimp only
  repeat' (first
    | with_reducible assumption | with_reducible apply same_finishDone | with_reducible apply same_hostWrite
    | with_reducible refine same_ite ?_ ?_ | exact avoid hd rfl | (intro _) | split | dsimp only)

end Sys2Proof.Machine
end

