-- ==== Sys2Proof/Laws/SameAudioOps.lean ====
section
/-! SUPPORT. What the operations of Machine/AudioOps.lean leave alone. -/

namespace Sys2Proof.Machine

theorem same_modUnit {ps : Nat} {z : State} (s : State) (u : Nat) (f : AudioUnit → AudioUnit) (hd : ps &&& 0x80000 = 0) (hw : Same ps z s) :
    Same ps z (modUnit s u f) := by
  unfold modUnit
  try dsimp only
  repeat' (first
    | with_reducible assumption | with_reducible refine same_modAudio ?_ ?_ | with_reducible refine same_ite ?_ ?_
    | exact avoid hd rfl | (intro _) | split | dsimp only)

theorem same_modBus {ps : Nat} {z : State} (s : State) (b : Nat) (f : Bus → Bus) (hd : ps &&& 0x80000 = 0) (hw : Same ps z s) :
    Same ps z (modBus s b f) := by
  unfold modBus
  try dsimp only
  repeat' (first
    | with_reducible assumption | with_reducible refine same_modAudio ?_ ?_ | with_reducible refine same_ite ?_ ?_
    | exact avoid hd rfl | (intro _) | split | dsimp only)

theorem same_modInput {ps : Nat} {z : State} (s : State) (n : Nat) (f : Input → Input) (hd : ps &&& 0x80000 = 0) (hw : Same ps z s) :
    Same ps z (modInput s n f) := by
  unfold modInput
  try dsimp only
  repeat' (first
    | with_reducible assumption | with_reducible refine same_modAudio ?_ ?_ | with_reducible refine same_ite ?_ ?_
    | exact avoid hd rfl | (intro _) | split | dsimp only)

theorem same_modPath {ps : Nat} {z : State} (s : State) (n b : Nat) (f : Path → Path) (hd : ps &&& 0x80000 = 0) (hw : Same ps z s) :
    Same ps z (modPath s n b f) := by
  unfold modPath
  try dsimp only
  repeat' (first
    | with_reducible assumption | with_reducible refine same_modAudio ?_ ?_ | with_reducible refine same_ite ?_ ?_
    | exact avoid hd rfl | (intro _) | split | dsimp only)

theorem same_modTone {ps : Nat} {z : State} (s : State) (g : Nat) (f : Tone → Tone) (hd : ps &&& 0x80000 = 0) (hw : Same ps z s) :
    Same ps z (modTone s g f) := by
  unfold modTone
  try dsimp only
  repeat' (first
    | with_reducible assumption | with_reducible refine same_modAudio ?_ ?_ | with_reducible refine same_ite ?_ ?_
    | exact avoid hd rfl | (intro _) | split | dsimp only)

theorem same_modStream {ps : Nat} {z : State} (s : State) (n : Nat) (f : AudioStream → AudioStream) (hd : ps &&& 0x80000 = 0) (hw : Same ps z s) :
    Same ps z (modStream s n f) := by
  unfold modStream
  try dsimp only
  repeat' (first
    | with_reducible assumption | with_reducible refine same_modAudio ?_ ?_ | with_reducible refine same_ite ?_ ?_
    | exact avoid hd rfl | (intro _) | split | dsimp only)

theorem same_modJack {ps : Nat} {z : State} (s : State) (j : Nat) (f : Jack → Jack) (hd : ps &&& 0x80000 = 0) (hw : Same ps z s) :
    Same ps z (modJack s j f) := by
  unfold modJack
  try dsimp only
  repeat' (first
    | with_reducible assumption | with_reducible refine same_modAudio ?_ ?_ | with_reducible refine same_ite ?_ ?_
    | exact avoid hd rfl | (intro _) | split | dsimp only)

theorem same_readFrame {ps : Nat} {z : State} (s : State) (n f : Nat) (hd : ps &&& 0xA0128FC = 0) (hw : Same ps z s) :
    Same ps z ((readFrame s n f).2) := by
  unfold readFrame
  try dsimp only
  repeat' (first
    | with_reducible assumption | with_reducible apply same_srRead | with_reducible apply same_freshValue
    | with_reducible refine same_foldl ?_ ?_ | with_reducible refine same_foldl_1 ?_ ?_
    | with_reducible refine same_foldl_2 ?_ ?_ | with_reducible refine same_foldl_22 ?_ ?_
    | with_reducible refine same_ite ?_ ?_ | exact avoid hd rfl | (intro _) | split | dsimp only)

theorem same_fetchFrame {ps : Nat} {z : State} (s : State) (n f : Nat) (hd : ps &&& 0xA0928FC = 0) (hw : Same ps z s) :
    Same ps z (fetchFrame s n f) := by
  unfold fetchFrame
  try dsimp only
  repeat' (first
    | with_reducible assumption | with_reducible apply same_readFrame | with_reducible apply same_modStream
    | with_reducible refine same_ite ?_ ?_ | exact avoid hd rfl | (intro _) | split | dsimp only)

theorem same_prefetchStream {ps : Nat} {z : State} (s : State) (n t0 : Nat) (hd : ps &&& 0xA0928FC = 0) (hw : Same ps z s) :
    Same ps z (prefetchStream s n t0) := by
  unfold prefetchStream
  try dsimp only
  repeat' (first
    | with_reducible assumption | with_reducible apply same_fetchFrame | with_reducible refine same_foldl ?_ ?_
    | with_reducible refine same_foldl_1 ?_ ?_ | with_reducible refine same_foldl_2 ?_ ?_
    | with_reducible refine same_foldl_22 ?_ ?_ | with_reducible refine same_ite ?_ ?_ | exact avoid hd rfl | (intro _)
    | split | dsimp only)

theorem same_prefetchAll {ps : Nat} {z : State} (s : State) (hd : ps &&& 0xA0928FC = 0) (hw : Same ps z s) :
    Same ps z (prefetchAll s) := by
  unfold prefetchAll
  try dsimp only
  repeat' (first
    | with_reducible assumption | with_reducible apply same_prefetchStream | with_reducible refine same_foldl ?_ ?_
    | with_reducible refine same_ite ?_ ?_ | exact avoid hd rfl | (intro _) | split | dsimp only)

theorem same_pathSample {ps : Nat} {z : State} (s : State) (i b : Nat) (hd : ps &&& 0xA09083C = 0) (hw : Same ps z s) :
    Same ps z ((pathSample s i b).2) := by
  unfold pathSample
  try dsimp only
  repeat' (first
    | with_reducible assumption | with_reducible apply same_freshValue | with_reducible apply same_finishDone
    | with_reducible apply same_modPath | with_reducible refine same_ite ?_ ?_ | exact avoid hd rfl | (intro _) | split
    | dsimp only)

theorem same_busStep {ps : Nat} {z : State} (s : State) (b : Nat) (hd : ps &&& 0xA09083C = 0) (hw : Same ps z s) :
    Same ps z (busStep s b) := by
  unfold busStep
  try dsimp only
  repeat' (first
    | with_reducible assumption | with_reducible apply same_pathSample | with_reducible apply same_modBus
    | with_reducible refine same_foldl ?_ ?_ | with_reducible refine same_foldl_1 ?_ ?_
    | with_reducible refine same_foldl_2 ?_ ?_ | with_reducible refine same_foldl_22 ?_ ?_
    | with_reducible refine same_ite ?_ ?_ | exact avoid hd rfl | (intro _) | split | dsimp only)

theorem same_applyPath {ps : Nat} {z : State} (s : State) (c : Change) (hd : ps &&& 0x209083C = 0) (hw : Same ps z s) :
    Same ps z (applyPath s c) := by
  unfold applyPath
  try dsimp only
  repeat' (first
    | with_reducible assumption | with_reducible apply same_finishDone | with_reducible apply same_modPath
    | with_reducible refine same_ite ?_ ?_ | exact avoid hd rfl | (intro _) | split | dsimp only)

theorem same_applySource {ps : Nat} {z : State} (s : State) (c : Change) (hd : ps &&& 0x80000 = 0) (hw : Same ps z s) :
    Same ps z (applySource s c) := by
  unfold applySource
  try dsimp only
  repeat' (first
    | with_reducible assumption | with_reducible apply same_modInput | with_reducible refine same_ite ?_ ?_
    | exact avoid hd rfl | (intro _) | split | dsimp only)

theorem same_applyBus {ps : Nat} {z : State} (s : State) (c : Change) (hd : ps &&& 0x80000 = 0) (hw : Same ps z s) :
    Same ps z (applyBus s c) := by
  unfold applyBus
  try dsimp only
  repeat' (first
    | with_reducible assumption | with_reducible apply same_modBus | with_reducible refine same_ite ?_ ?_
    | exact avoid hd rfl | (intro _) | split | dsimp only)

theorem same_applyFilter {ps : Nat} {z : State} (s : State) (c : Change) (hd : ps &&& 0x80000 = 0) (hw : Same ps z s) :
    Same ps z (applyFilter s c) := by
  unfold applyFilter
  try dsimp only
  repeat' (first
    | with_reducible assumption | with_reducible apply same_modBus | with_reducible refine same_ite ?_ ?_
    | exact avoid hd rfl | (intro _) | split | dsimp only)

theorem same_applyTone {ps : Nat} {z : State} (s : State) (c : Change) (hd : ps &&& 0x80000 = 0) (hw : Same ps z s) :
    Same ps z (applyTone s c) := by
  unfold applyTone
  try dsimp only
  repeat' (first
    | with_reducible assumption | with_reducible apply same_modTone | with_reducible refine same_ite ?_ ?_
    | exact avoid hd rfl | (intro _) | split | dsimp only)

theorem same_applyChange {ps : Nat} {z : State} (s : State) (c : Change) (hd : ps &&& 0x209083C = 0) (hw : Same ps z s) :
    Same ps z (applyChange s c) := by
  unfold applyChange
  try dsimp only
  repeat' (first
    | with_reducible assumption | with_reducible apply same_modStream | with_reducible apply same_applyPath
    | with_reducible apply same_applySource | with_reducible apply same_applyBus | with_reducible apply same_modInput
    | with_reducible apply same_modBus | with_reducible apply same_applyFilter | with_reducible apply same_applyTone
    | with_reducible refine same_ite ?_ ?_ | exact avoid hd rfl | (intro _) | split | dsimp only)

theorem same_applyDue {ps : Nat} {z : State} (s : State) (u : Option Nat) (hd : ps &&& 0x209083C = 0) (hw : Same ps z s) :
    Same ps z (applyDue s u) := by
  unfold applyDue
  try dsimp only
  repeat' (first
    | with_reducible assumption | with_reducible apply same_applyChange | with_reducible refine same_modAudio ?_ ?_
    | with_reducible apply same_finishDone | with_reducible refine same_foldl ?_ ?_
    | with_reducible refine same_ite ?_ ?_ | exact avoid hd rfl | (intro _) | split | dsimp only)

theorem same_dropDeadChanges {ps : Nat} {z : State} (s : State) (hd : ps &&& 0x80000 = 0) (hw : Same ps z s) :
    Same ps z (dropDeadChanges s) := by
  unfold dropDeadChanges
  try dsimp only
  repeat' (first
    | with_reducible assumption | with_reducible refine same_modAudio ?_ ?_ | with_reducible refine same_ite ?_ ?_
    | exact avoid hd rfl | (intro _) | split | dsimp only)

theorem same_fireSample {ps : Nat} {z : State} (s : State) (u n : Nat) (hd : ps &&& 0x20908FC = 0) (hw : Same ps z s) :
    Same ps z (fireSample s u n) := by
  unfold fireSample
  try dsimp only
  repeat' (first
    | with_reducible assumption | with_reducible apply same_finish | with_reducible apply same_missNote
    | with_reducible refine same_modAudio ?_ ?_ | with_reducible apply same_finishDone
    | with_reducible refine same_foldl ?_ ?_ | with_reducible refine same_ite ?_ ?_ | exact avoid hd rfl | (intro _)
    | split | dsimp only)

theorem same_soundTone {ps : Nat} {z : State} (s : State) (g fs : Nat) (hd : ps &&& 0x81000 = 0) (hw : Same ps z s) :
    Same ps z (soundTone s g fs) := by
  unfold soundTone
  try dsimp only
  repeat' (first
    | with_reducible assumption | with_reducible apply same_modTone | with_reducible refine same_modCharges ?_ ?_
    | with_reducible refine same_ite ?_ ?_ | exact avoid hd rfl | (intro _) | split | dsimp only)

theorem same_stepInputs {ps : Nat} {z : State} (s : State) (u : Nat) (hd : ps &&& 0x80000 = 0) (hw : Same ps z s) :
    Same ps z (stepInputs s u) := by
  unfold stepInputs
  try dsimp only
  repeat' (first
    | with_reducible assumption | with_reducible apply same_modInput | with_reducible refine same_foldl ?_ ?_
    | with_reducible refine same_ite ?_ ?_ | exact avoid hd rfl | (intro _) | split | dsimp only)

theorem same_takeInputs {ps : Nat} {z : State} (s : State) (u : Nat) (ins : List Nat) (hd : ps &&& 0x8080000 = 0) (hw : Same ps z s) :
    Same ps z (takeInputs s u ins) := by
  unfold takeInputs
  try dsimp only
  repeat' (first
    | with_reducible assumption | with_reducible apply same_freshValue | with_reducible apply same_modInput
    | with_reducible refine same_foldl ?_ ?_ | with_reducible refine same_ite ?_ ?_ | exact avoid hd rfl | (intro _)
    | split | dsimp only)

theorem same_unitSample {ps : Nat} {z : State} (s : State) (u : Nat) (ins : List Nat) (hd : ps &&& 0xA0918FC = 0) (hw : Same ps z s) :
    Same ps z (unitSample s u ins) := by
  unfold unitSample
  try dsimp only
  repeat' (first
    | with_reducible assumption | with_reducible refine same_modAudio ?_ ?_ | with_reducible apply same_stepInputs
    | with_reducible apply same_applyDue | with_reducible apply same_takeInputs | with_reducible apply same_soundTone
    | with_reducible apply same_busStep | with_reducible apply same_modUnit | with_reducible apply same_fireSample
    | with_reducible refine same_foldl ?_ ?_ | with_reducible refine same_ite ?_ ?_ | exact avoid hd rfl | (intro _)
    | split | dsimp only)

theorem same_looseBusSample {ps : Nat} {z : State} (s : State) (b : Nat) (hd : ps &&& 0xA09183C = 0) (hw : Same ps z s) :
    Same ps z (looseBusSample s b) := by
  unfold looseBusSample
  try dsimp only
  repeat' (first
    | with_reducible assumption | with_reducible apply same_applyDue | with_reducible apply same_soundTone
    | with_reducible apply same_modBus | with_reducible apply same_busStep | with_reducible refine same_foldl ?_ ?_
    | with_reducible refine same_ite ?_ ?_ | exact avoid hd rfl | (intro _) | split | dsimp only)

theorem same_streamSample {ps : Nat} {z : State} (s : State) (n : Nat) (hd : ps &&& 0xA0928FC = 0) (hw : Same ps z s) :
    Same ps z (streamSample s n) := by
  unfold streamSample
  try dsimp only
  repeat' (first
    | with_reducible assumption | with_reducible apply same_stepInputs | with_reducible apply same_applyDue
    | with_reducible apply same_modStream | with_reducible apply same_fetchFrame | with_reducible apply same_freshValue
    | with_reducible apply same_srPut | with_reducible refine same_foldl ?_ ?_
    | with_reducible refine same_foldl_1 ?_ ?_ | with_reducible refine same_foldl_2 ?_ ?_
    | with_reducible refine same_foldl_22 ?_ ?_ | with_reducible refine same_ite ?_ ?_ | exact avoid hd rfl | (intro _)
    | split | dsimp only)

theorem same_sampleStartOf {ps : Nat} {z : State} (s : State) (u : Nat) (ins : List Nat) (hd : ps &&& 0xA0938FC = 0) (hw : Same ps z s) :
    Same ps z (sampleStartOf s u ins) := by
  unfold sampleStartOf
  try dsimp only
  repeat' (first
    | with_reducible assumption | with_reducible apply same_unitSample | with_reducible apply same_streamSample
    | with_reducible apply same_looseBusSample | with_reducible refine same_ite ?_ ?_ | exact avoid hd rfl | (intro _)
    | split | dsimp only)

theorem same_syncEdge {ps : Nat} {z : State} (s : State) (u : Nat) (ins : List Nat) (hd : ps &&& 0xA0918FC = 0) (hw : Same ps z s) :
    Same ps z (syncEdge s u ins) := by
  unfold syncEdge
  try dsimp only
  repeat' (first
    | with_reducible assumption | with_reducible apply same_modUnit | with_reducible apply same_unitSample
    | with_reducible refine same_ite ?_ ?_ | exact avoid hd rfl | (intro _) | split | dsimp only)

theorem same_syncLostOf {ps : Nat} {z : State} (s : State) (u : Nat) (hd : ps &&& 0x20908FC = 0) (hw : Same ps z s) :
    Same ps z (syncLostOf s u) := by
  unfold syncLostOf
  try dsimp only
  repeat' (first
    | with_reducible assumption | with_reducible apply same_modUnit | with_reducible apply same_modInput
    | with_reducible apply same_raise | with_reducible refine same_modAudio ?_ ?_ | with_reducible apply same_withdraw
    | with_reducible apply same_missNote | with_reducible refine same_foldl ?_ ?_ | with_reducible refine same_ite ?_ ?_
    | exact avoid hd rfl | (intro _) | split | dsimp only)

theorem same_audioPeriodOf {ps : Nat} {z : State} (s : State) (n : Nat) (hd : ps &&& 0x208007C = 0) (hw : Same ps z s) :
    Same ps z (audioPeriodOf s n) := by
  unfold audioPeriodOf
  try dsimp only
  repeat' (first
    | with_reducible assumption | with_reducible apply same_issueRecord | with_reducible apply same_modStream
    | with_reducible apply same_raise | with_reducible refine same_ite ?_ ?_ | exact avoid hd rfl | (intro _) | split
    | dsimp only)

theorem same_setJackType {ps : Nat} {z : State} (s : State) (j ty load : Nat) (hd : ps &&& 0x80040 = 0) (hw : Same ps z s) :
    Same ps z (setJackType s j ty load) := by
  unfold setJackType
  try dsimp only
  repeat' (first
    | with_reducible assumption | with_reducible apply same_modJack | with_reducible apply same_raise
    | with_reducible refine same_ite ?_ ?_ | exact avoid hd rfl | (intro _) | split | dsimp only)

theorem same_jackSwitch {ps : Nat} {z : State} (s : State) (j : Nat) (closed : Bool) (hd : ps &&& 0x80000 = 0) (hw : Same ps z s) :
    Same ps z (jackSwitch s j closed) := by
  unfold jackSwitch
  try dsimp only
  repeat' (first
    | with_reducible assumption | with_reducible apply same_modJack | with_reducible refine same_ite ?_ ?_
    | exact avoid hd rfl | (intro _) | split | dsimp only)

theorem same_jackDebounced {ps : Nat} {z : State} (s : State) (j : Nat) (hd : ps &&& 0x80000 = 0) (hw : Same ps z s) :
    Same ps z (jackDebounced s j) := by
  unfold jackDebounced
  try dsimp only
  repeat' (first
    | with_reducible assumption | with_reducible apply same_modJack | with_reducible refine same_ite ?_ ?_
    | exact avoid hd rfl | (intro _) | split | dsimp only)

theorem same_jackFound {ps : Nat} {z : State} (s : State) (j ty load : Nat) (hd : ps &&& 0x80040 = 0) (hw : Same ps z s) :
    Same ps z (jackFound s j ty load) := by
  unfold jackFound
  try dsimp only
  repeat' (first
    | with_reducible assumption | with_reducible apply same_setJackType | with_reducible apply same_modJack
    | with_reducible refine same_ite ?_ ?_ | exact avoid hd rfl | (intro _) | split | dsimp only)

theorem same_jackRemoved {ps : Nat} {z : State} (s : State) (j : Nat) (hd : ps &&& 0x80040 = 0) (hw : Same ps z s) :
    Same ps z (jackRemoved s j) := by
  unfold jackRemoved
  try dsimp only
  repeat' (first
    | with_reducible assumption | with_reducible apply same_setJackType | with_reducible apply same_modJack
    | with_reducible refine same_ite ?_ ?_ | exact avoid hd rfl | (intro _) | split | dsimp only)

theorem same_buttonHeld {ps : Nat} {z : State} (s : State) (j ohms : Nat) (hd : ps &&& 0x80040 = 0) (hw : Same ps z s) :
    Same ps z (buttonHeld s j ohms) := by
  unfold buttonHeld
  try dsimp only
  repeat' (first
    | with_reducible assumption | with_reducible apply same_raise | with_reducible apply same_modJack
    | with_reducible refine same_ite ?_ ?_ | exact avoid hd rfl | (intro _) | split | dsimp only)

theorem same_driverTrip {ps : Nat} {z : State} (s : State) (u : Nat) (hd : ps &&& 0x20908FC = 0) (hw : Same ps z s) :
    Same ps z (driverTrip s u) := by
  unfold driverTrip
  try dsimp only
  repeat' (first
    | with_reducible assumption | with_reducible apply same_assert | with_reducible apply same_raise
    | with_reducible apply same_modUnit | with_reducible refine same_ite ?_ ?_ | exact avoid hd rfl | (intro _) | split
    | dsimp only)

theorem same_weighInputs {ps : Nat} {z : State} (s : State) (t : Nat) (full : Bool) (hd : ps &&& 0x80000 = 0) (hw : Same ps z s) :
    Same ps z (weighInputs s t full) := by
  unfold weighInputs
  try dsimp only
  repeat' (first
    | with_reducible assumption | with_reducible apply same_modInput | with_reducible refine same_foldl ?_ ?_
    | with_reducible refine same_ite ?_ ?_ | exact avoid hd rfl | (intro _) | split | dsimp only)

theorem same_holdSound {ps : Nat} {z : State} (s : State) (t : Nat) (hd : ps &&& 0x80000 = 0) (hw : Same ps z s) :
    Same ps z (holdSound s t) := by
  unfold holdSound
  try dsimp only
  repeat' (first
    | with_reducible assumption | with_reducible apply same_modTone | with_reducible apply same_weighInputs
    | with_reducible refine same_foldl ?_ ?_ | with_reducible refine same_ite ?_ ?_ | exact avoid hd rfl | (intro _)
    | split | dsimp only)

theorem same_startTimedChange {ps : Nat} {z : State} (s : State) (f : Flight) (hd : ps &&& 0x80800 = 0) (hw : Same ps z s) :
    Same ps z (startTimedChange s f) := by
  unfold startTimedChange
  try dsimp only
  repeat' (first
    | with_reducible assumption | with_reducible refine same_modFlights ?_ ?_ | with_reducible apply same_await
    | with_reducible refine same_modAudio ?_ ?_ | with_reducible refine same_foldl ?_ ?_
    | with_reducible refine same_ite ?_ ?_ | exact avoid hd rfl | (intro _) | split | dsimp only)

theorem same_startStreamStart {ps : Nat} {z : State} (s : State) (f : Flight) (hd : ps &&& 0x80800 = 0) (hw : Same ps z s) :
    Same ps z (startStreamStart s f) := by
  unfold startStreamStart
  try dsimp only
  repeat' (first
    | with_reducible assumption | with_reducible apply same_startTimedChange | with_reducible apply same_modStream
    | with_reducible refine same_ite ?_ ?_ | exact avoid hd rfl | (intro _) | split | dsimp only)

theorem same_startStreamStop {ps : Nat} {z : State} (s : State) (f : Flight) (hd : ps &&& 0x209083C = 0) (hw : Same ps z s) :
    Same ps z (startStreamStop s f) := by
  unfold startStreamStop
  try dsimp only
  repeat' (first
    | with_reducible assumption | with_reducible apply same_finishDone | with_reducible apply same_startTimedChange
    | with_reducible refine same_ite ?_ ?_ | exact avoid hd rfl | (intro _) | split | dsimp only)

theorem same_commitAudioRoute {ps : Nat} {z : State} (s : State) (f : Flight) (hd : ps &&& 0x1000 = 0) (hw : Same ps z s) :
    Same ps z (commitAudioRoute s f) := by
  unfold commitAudioRoute
  try dsimp only
  repeat' (first
    | with_reducible assumption | with_reducible refine same_modCharges ?_ ?_ | with_reducible refine same_ite ?_ ?_
    | exact avoid hd rfl | (intro _) | split | dsimp only)

theorem same_startAudioTone {ps : Nat} {z : State} (s : State) (f : Flight) (hd : ps &&& 0x209083C = 0) (hw : Same ps z s) :
    Same ps z (startAudioTone s f) := by
  unfold startAudioTone
  try dsimp only
  repeat' (first
    | with_reducible assumption | with_reducible apply same_finishDone | with_reducible apply same_startTimedChange
    | with_reducible refine same_ite ?_ ?_ | exact avoid hd rfl | (intro _) | split | dsimp only)

theorem same_commitAudioTone {ps : Nat} {z : State} (s : State) (f : Flight) (hd : ps &&& 0x1000 = 0) (hw : Same ps z s) :
    Same ps z (commitAudioTone s f) := by
  unfold commitAudioTone
  try dsimp only
  repeat' (first
    | with_reducible assumption | with_reducible refine same_modCharges ?_ ?_ | with_reducible refine same_ite ?_ ?_
    | exact avoid hd rfl | (intro _) | split | dsimp only)

theorem same_configureStream {ps : Nat} {z : State} (s : State) (t n : Nat) (d : Descriptor) (hd : ps &&& 0x82000 = 0) (hw : Same ps z s) :
    Same ps z (configureStream s t n d) := by
  unfold configureStream
  try dsimp only
  repeat' (first
    | with_reducible assumption | with_reducible apply same_modStream | with_reducible refine same_modSr ?_ ?_
    | with_reducible refine same_ite ?_ ?_ | exact avoid hd rfl | (intro _) | split | dsimp only)

theorem same_startStreamConfig {ps : Nat} {z : State} (s : State) (f : Flight) (hd : ps &&& 0x209283C = 0) (hw : Same ps z s) :
    Same ps z (startStreamConfig s f) := by
  unfold startStreamConfig
  try dsimp only
  repeat' (first
    | with_reducible assumption | with_reducible apply same_finishDone | with_reducible apply same_configureStream
    | with_reducible refine same_ite ?_ ?_ | exact avoid hd rfl | (intro _) | split | dsimp only)

theorem same_applyPortConfig {ps : Nat} {z : State} (s : State) (d : Descriptor) (hd : ps &&& 0x80000 = 0) (hw : Same ps z s) :
    Same ps z (applyPortConfig s d) := by
  unfold applyPortConfig
  try dsimp only
  repeat' (first
    | with_reducible assumption | with_reducible refine same_modAudio ?_ ?_ | with_reducible apply same_modUnit
    | with_reducible refine same_ite ?_ ?_ | exact avoid hd rfl | (intro _) | split | dsimp only)

theorem same_startJackStatus {ps : Nat} {z : State} (s : State) (f : Flight) (hd : ps &&& 0x201083C = 0) (hw : Same ps z s) :
    Same ps z (startJackStatus s f) := by
  unfold startJackStatus
  try dsimp only
  repeat' (first
    | with_reducible assumption | with_reducible apply same_finishDone | with_reducible apply same_hostWrite
    | with_reducible refine same_ite ?_ ?_ | exact avoid hd rfl | (intro _) | split | dsimp only)

end Sys2Proof.Machine
end

