-- ==== Sys2Proof/Laws/SameLayerOps.lean ====
section
/-! SUPPORT. What the operations of Machine/LayerOps.lean leave alone. -/

namespace Sys2Proof.Machine

theorem same_withUpdate {ps : Nat} {z : State} (s : State) (c : Cmd) (sl h n : Nat) (hd : ps &&& 0x800 = 0) (hw : Same ps z s) :
    Same ps z (withUpdate s c sl h n) := by
  unfold withUpdate
  try dsimp only
  repeat' (first
    | with_reducible assumption | with_reducible refine same_modFlights ?_ ?_ | with_reducible refine same_ite ?_ ?_
    | exact avoid hd rfl | (intro _) | split | dsimp only)

theorem same_setRing {ps : Nat} {z : State} (s : State) (g : Ring) (hd : ps &&& 0x2000 = 0) (hw : Same ps z s) :
    Same ps z (setRing s g) := by
  unfold setRing
  try dsimp only
  repeat' (first
    | with_reducible assumption | with_reducible refine same_modSr ?_ ?_ | with_reducible refine same_ite ?_ ?_
    | exact avoid hd rfl | (intro _) | split | dsimp only)

theorem same_reserveRing {ps : Nat} {z : State} (s : State) (slot t n id : Nat) (hd : ps &&& 0x2000 = 0) (hw : Same ps z s) :
    Same ps z (reserveRing s slot t n id) := by
  unfold reserveRing
  try dsimp only
  repeat' (first
    | with_reducible assumption | with_reducible apply same_setRing | with_reducible refine same_ite ?_ ?_
    | exact avoid hd rfl | (intro _) | split | dsimp only)

theorem same_placeRing {ps : Nat} {z : State} (s : State) (slot t n : Nat) (hd : ps &&& 0x2000 = 0) (hw : Same ps z s) :
    Same ps z (placeRing s slot t n) := by
  unfold placeRing
  try dsimp only
  repeat' (first
    | with_reducible assumption | with_reducible apply same_setRing | with_reducible refine same_ite ?_ ?_
    | exact avoid hd rfl | (intro _) | split | dsimp only)

theorem same_commitLayerUpdate {ps : Nat} {z : State} (s : State) (f : Flight) (hd : ps &&& 0x3000 = 0) (hw : Same ps z s) :
    Same ps z (commitLayerUpdate s f) := by
  unfold commitLayerUpdate
  try dsimp only
  repeat' (first
    | with_reducible assumption | with_reducible apply same_reserveRing | with_reducible refine same_modCharges ?_ ?_
    | with_reducible refine same_ite ?_ ?_ | exact avoid hd rfl | (intro _) | split | dsimp only)

theorem same_startLayerAlloc {ps : Nat} {z : State} (s : State) (f : Flight) (hd : ps &&& 0x201487C = 0) (hw : Same ps z s) :
    Same ps z (startLayerAlloc s f) := by
  unfold startLayerAlloc
  try dsimp only
  repeat' (first
    | with_reducible assumption | with_reducible apply same_finishWith | with_reducible apply same_setSlot
    | with_reducible apply same_renewSource | with_reducible apply same_finishDone
    | with_reducible refine same_ite ?_ ?_ | exact avoid hd rfl | (intro _) | split | dsimp only)

theorem same_commitLayerFree {ps : Nat} {z : State} (s : State) (f : Flight) (hd : ps &&& 0x1000 = 0) (hw : Same ps z s) :
    Same ps z (commitLayerFree s f) := by
  unfold commitLayerFree
  try dsimp only
  repeat' (first
    | with_reducible assumption | with_reducible refine same_modCharges ?_ ?_ | with_reducible refine same_ite ?_ ?_
    | exact avoid hd rfl | (intro _) | split | dsimp only)

theorem same_releaseSlot {ps : Nat} {z : State} (s : State) (sl : Nat) (hd : ps &&& 0x6060 = 0) (hw : Same ps z s) :
    Same ps z (releaseSlot s sl) := by
  unfold releaseSlot
  try dsimp only
  repeat' (first
    | with_reducible assumption | with_reducible refine same_modSr ?_ ?_ | with_reducible apply same_renewSource
    | with_reducible apply same_setSlot | with_reducible refine same_ite ?_ ?_ | exact avoid hd rfl | (intro _) | split
    | dsimp only)

theorem same_applyClut {ps : Nat} {z : State} (s : State) (f : Flight) (bs : List Byte) (hd : ps &&& 0x4000 = 0) (hw : Same ps z s) :
    Same ps z (applyClut s f bs) := by
  unfold applyClut
  try dsimp only
  repeat' (first
    | with_reducible assumption | with_reducible apply same_modSlot | with_reducible refine same_foldl ?_ ?_
    | with_reducible refine same_foldl_1 ?_ ?_ | with_reducible refine same_foldl_2 ?_ ?_
    | with_reducible refine same_foldl_22 ?_ ?_ | with_reducible refine same_ite ?_ ?_ | exact avoid hd rfl | (intro _)
    | split | dsimp only)

theorem same_applyPolicy {ps : Nat} {z : State} (s : State) (d : Descriptor) (hd : ps &&& 0x4000 = 0) (hw : Same ps z s) :
    Same ps z (applyPolicy s d) := by
  unfold applyPolicy
  try dsimp only
  repeat' (first
    | with_reducible assumption | with_reducible apply same_modHead | with_reducible refine same_ite ?_ ?_
    | exact avoid hd rfl | (intro _) | split | dsimp only)

theorem same_startLayerStatus {ps : Nat} {z : State} (s : State) (f : Flight) (hd : ps &&& 0x201083C = 0) (hw : Same ps z s) :
    Same ps z (startLayerStatus s f) := by
  unfold startLayerStatus
  try dsimp only
  repeat' (first
    | with_reducible assumption | with_reducible apply same_finishDone | with_reducible apply same_hostWrite
    | with_reducible refine same_ite ?_ ?_ | exact avoid hd rfl | (intro _) | split | dsimp only)

end Sys2Proof.Machine
end

