-- ==== Sys2Proof/Laws/SameJobOps.lean ====
section
/-! SUPPORT. What the operations of Machine/JobOps.lean leave alone. -/

namespace Sys2Proof.Machine

theorem same_setGrove {ps : Nat} {z : State} (s : State) (g : Nat) (v : Grove) (hd : ps &&& 0x10000 = 0) (hw : Same ps z s) :
    Same ps z (setGrove s g v) := by
  unfold setGrove
  try dsimp only
  repeat' (first
    | with_reducible assumption | with_reducible refine same_modGpu ?_ ?_ | with_reducible refine same_ite ?_ ?_
    | exact avoid hd rfl | (intro _) | split | dsimp only)

theorem same_modGrove {ps : Nat} {z : State} (s : State) (g : Nat) (f : Grove → Grove) (hd : ps &&& 0x10000 = 0) (hw : Same ps z s) :
    Same ps z (modGrove s g f) := by
  unfold modGrove
  try dsimp only
  repeat' (first
    | with_reducible assumption | with_reducible apply same_setGrove | with_reducible refine same_ite ?_ ?_
    | exact avoid hd rfl | (intro _) | split | dsimp only)

theorem same_setCtx {ps : Nat} {z : State} (s : State) (c : Nat) (v : Context) (hd : ps &&& 0x10000 = 0) (hw : Same ps z s) :
    Same ps z (setCtx s c v) := by
  unfold setCtx
  try dsimp only
  repeat' (first
    | with_reducible assumption | with_reducible refine same_modGpu ?_ ?_ | with_reducible refine same_ite ?_ ?_
    | exact avoid hd rfl | (intro _) | split | dsimp only)

theorem same_modCtx {ps : Nat} {z : State} (s : State) (c : Nat) (f : Context → Context) (hd : ps &&& 0x10000 = 0) (hw : Same ps z s) :
    Same ps z (modCtx s c f) := by
  unfold modCtx
  try dsimp only
  repeat' (first
    | with_reducible assumption | with_reducible apply same_setCtx | with_reducible refine same_ite ?_ ?_
    | exact avoid hd rfl | (intro _) | split | dsimp only)

end Sys2Proof.Machine
end

