-- ==== Sys2Proof/Laws/SameRenderOps.lean ====
section
/-! SUPPORT. What the operations of Machine/RenderOps.lean leave alone. -/

namespace Sys2Proof.Machine

theorem same_storeSpan {ps : Nat} {z : State} (s : State) (t : Nat) (d : List Byte) (a : Attachment) (ltc : Bool) (x w y : Nat) (hd : ps &&& 0xA0528FC = 0) (hw : Same ps z s) :
    Same ps z (storeSpan s t d a ltc x w y) := by
  unfold storeSpan
  try dsimp only
  repeat' (first
    | with_reducible assumption | with_reducible apply same_grovePut | with_reducible apply same_freshBytes
    | with_reducible refine same_ite ?_ ?_ | exact avoid hd rfl | (intro _) | split | dsimp only)

theorem same_storeSpans {ps : Nat} {z : State} (s : State) (t : Nat) (d : List Byte) (spans : List (Nat × Nat × Nat)) (hd : ps &&& 0xA0528FC = 0) (hw : Same ps z s) :
    Same ps z (storeSpans s t d spans) := by
  unfold storeSpans
  try dsimp only
  repeat' (first
    | with_reducible assumption | with_reducible apply same_storeSpan | with_reducible refine same_foldl ?_ ?_
    | with_reducible refine same_foldl_1 ?_ ?_ | with_reducible refine same_foldl_2 ?_ ?_
    | with_reducible refine same_foldl_22 ?_ ?_ | with_reducible refine same_ite ?_ ?_ | exact avoid hd rfl | (intro _)
    | split | dsimp only)

theorem same_storeWords {ps : Nat} {z : State} (s : State) (t : Nat) (d : List Byte) (tile : Tab (Option Nat)) (hd : ps &&& 0x20528FC = 0) (hw : Same ps z s) :
    Same ps z (storeWords s t d tile) := by
  unfold storeWords
  try dsimp only
  repeat' (first
    | with_reducible assumption | with_reducible apply same_grovePut | with_reducible refine same_foldl ?_ ?_
    | with_reducible refine same_foldl_1 ?_ ?_ | with_reducible refine same_foldl_2 ?_ ?_
    | with_reducible refine same_foldl_22 ?_ ?_ | with_reducible refine same_ite ?_ ?_ | exact avoid hd rfl | (intro _)
    | split | dsimp only)

theorem same_passReads {ps : Nat} {z : State} (s : State) (c : Context) (d : List Byte) (frags : List Fragment) (hd : ps &&& 0x20528FC = 0) (hw : Same ps z s) :
    Same ps z (passReads s c d frags) := by
  unfold passReads
  try dsimp only
  repeat' (first
    | with_reducible assumption | with_reducible apply same_groveRead | with_reducible apply same_countSrBytes
    | with_reducible apply same_srRead | with_reducible refine same_foldl ?_ ?_
    | with_reducible refine same_foldl_1 ?_ ?_ | with_reducible refine same_foldl_2 ?_ ?_
    | with_reducible refine same_foldl_22 ?_ ?_ | with_reducible refine same_ite ?_ ?_ | exact avoid hd rfl | (intro _)
    | split | dsimp only)

theorem same_renderPass {ps : Nat} {z : State} (s : State) (g : Nat) (frags : List Fragment) (last : Bool) (hd : ps &&& 0xA0528FC = 0) (hw : Same ps z s) :
    Same ps z (renderPass s g frags last) := by
  unfold renderPass
  try dsimp only
  repeat' (first
    | with_reducible assumption | with_reducible apply same_modGrove | with_reducible apply same_passReads
    | with_reducible apply same_storeWords | with_reducible apply same_storeSpans | with_reducible apply same_freshBytes
    | with_reducible apply same_grovePut | with_reducible refine same_ite ?_ ?_ | exact avoid hd rfl | (intro _) | split
    | dsimp only)

end Sys2Proof.Machine
end

