-- ==== Sys2Proof/Laws/SameGpuOps.lean ====
section
/-! SUPPORT. What the operations of Machine/GpuOps.lean leave alone. -/

namespace Sys2Proof.Machine

theorem same_freeGrove {ps : Nat} {z : State} (s : State) (g : Nat) (hd : ps &&& 0x10000 = 0) (hw : Same ps z s) :
    Same ps z (freeGrove s g) := by
  unfold freeGrove
  try dsimp only
  repeat' (first
    | with_reducible assumption | with_reducible apply same_modCtx | with_reducible apply same_setGrove
    | with_reducible refine same_ite ?_ ?_ | exact avoid hd rfl | (intro _) | split | dsimp only)

theorem same_endRun {ps : Nat} {z : State} (s : State) (g status reason value : Nat) (hd : ps &&& 0x201083C = 0) (hw : Same ps z s) :
    Same ps z (endRun s g status reason value) := by
  unfold endRun
  try dsimp only
  repeat' (first
    | with_reducible assumption | with_reducible apply same_freeGrove | with_reducible apply same_finish
    | with_reducible refine same_ite ?_ ?_ | exact avoid hd rfl | (intro _) | split | dsimp only)

theorem same_stopRun {ps : Nat} {z : State} (s : State) (g status reason value : Nat) (hd : ps &&& 0x10000 = 0) (hw : Same ps z s) :
    Same ps z (stopRun s g status reason value) := by
  unfold stopRun
  try dsimp only
  repeat' (first
    | with_reducible assumption | with_reducible apply same_modGrove | with_reducible refine same_ite ?_ ?_
    | exact avoid hd rfl | (intro _) | split | dsimp only)

theorem same_startJob {ps : Nat} {z : State} (s : State) (g : Nat) (hd : ps &&& 0x20528FC = 0) (hw : Same ps z s) :
    Same ps z (startJob s g) := by
  unfold startJob
  try dsimp only
  repeat' (first
    | with_reducible assumption | with_reducible apply same_modGrove | with_reducible apply same_groveRead
    | with_reducible apply same_endRun | with_reducible refine same_ite ?_ ?_ | exact avoid hd rfl | (intro _) | split
    | dsimp only)

theorem same_completeJob {ps : Nat} {z : State} (s : State) (g : Nat) (p : RenderPass) (poisoned : Bool) (writes : List (Nat × List Byte)) (hd : ps &&& 0xA0528FC = 0) (hw : Same ps z s) :
    Same ps z (completeJob s g p poisoned writes) := by
  unfold completeJob
  try dsimp only
  repeat' (first
    | with_reducible assumption | with_reducible apply same_endRun | with_reducible apply same_modCtx
    | with_reducible apply same_grovePut | with_reducible apply same_renderPass | with_reducible refine same_foldl ?_ ?_
    | with_reducible refine same_foldl_1 ?_ ?_ | with_reducible refine same_foldl_2 ?_ ?_
    | with_reducible refine same_foldl_22 ?_ ?_ | with_reducible refine same_ite ?_ ?_ | exact avoid hd rfl | (intro _)
    | split | dsimp only)

theorem same_limitJob {ps : Nat} {z : State} (s : State) (g : Nat) (hd : ps &&& 0x10040 = 0) (hw : Same ps z s) :
    Same ps z (limitJob s g) := by
  unfold limitJob
  try dsimp only
  repeat' (first
    | with_reducible assumption | with_reducible apply same_modCtx | with_reducible apply same_stopRun
    | with_reducible apply same_raise | with_reducible refine same_ite ?_ ?_ | exact avoid hd rfl | (intro _) | split
    | dsimp only)

theorem same_overflowPool {ps : Nat} {z : State} (s : State) (g : Nat) (p : RenderPass) (hd : ps &&& 0xA0528FC = 0) (hw : Same ps z s) :
    Same ps z (overflowPool s g p) := by
  unfold overflowPool
  try dsimp only
  repeat' (first
    | with_reducible assumption | with_reducible apply same_modCtx | with_reducible apply same_raise
    | with_reducible apply same_endRun | with_reducible apply same_renderPass | with_reducible refine same_ite ?_ ?_
    | exact avoid hd rfl | (intro _) | split | dsimp only)

theorem same_accessFault {ps : Nat} {z : State} (s : State) (g : Nat) (hd : ps &&& 0x201083C = 0) (hw : Same ps z s) :
    Same ps z (accessFault s g) := by
  unfold accessFault
  try dsimp only
  repeat' (first
    | with_reducible assumption | with_reducible apply same_endRun | with_reducible refine same_ite ?_ ?_
    | exact avoid hd rfl | (intro _) | split | dsimp only)

theorem same_runFault {ps : Nat} {z : State} (s : State) (g : Nat) (oversize : Bool) (hd : ps &&& 0x201083C = 0) (hw : Same ps z s) :
    Same ps z (runFault s g oversize) := by
  unfold runFault
  try dsimp only
  repeat' (first
    | with_reducible assumption | with_reducible apply same_endRun | with_reducible refine same_ite ?_ ?_
    | exact avoid hd rfl | (intro _) | split | dsimp only)

theorem same_tileUe {ps : Nat} {z : State} (s : State) (g : Nat) (hd : ps &&& 0x20108FC = 0) (hw : Same ps z s) :
    Same ps z (tileUe s g) := by
  unfold tileUe
  try dsimp only
  repeat' (first
    | with_reducible assumption | with_reducible apply same_assert | with_reducible apply same_stopRun
    | with_reducible apply same_modGrove | with_reducible refine same_ite ?_ ?_ | exact avoid hd rfl | (intro _) | split
    | dsimp only)

theorem same_resetDone {ps : Nat} {z : State} (s : State) (g : Nat) (hd : ps &&& 0x201087C = 0) (hw : Same ps z s) :
    Same ps z (resetDone s g) := by
  unfold resetDone
  try dsimp only
  repeat' (first
    | with_reducible assumption | with_reducible apply same_raise | with_reducible apply same_freeGrove
    | with_reducible apply same_modGrove | with_reducible apply same_finish | with_reducible refine same_ite ?_ ?_
    | exact avoid hd rfl | (intro _) | split | dsimp only)

theorem same_uncount {ps : Nat} {z : State} (s : State) (id : Nat) (hd : ps &&& 0x800 = 0) (hw : Same ps z s) :
    Same ps z (uncount s id) := by
  unfold uncount
  try dsimp only
  repeat' (first
    | with_reducible assumption | with_reducible refine same_modFlights ?_ ?_ | with_reducible refine same_ite ?_ ?_
    | exact avoid hd rfl | (intro _) | split | dsimp only)

theorem same_resetOverrun {ps : Nat} {z : State} (s : State) (g : Nat) (hd : ps &&& 0x20108FC = 0) (hw : Same ps z s) :
    Same ps z (resetOverrun s g) := by
  unfold resetOverrun
  try dsimp only
  repeat' (first
    | with_reducible assumption | with_reducible apply same_freeGrove | with_reducible apply same_modGrove
    | with_reducible apply same_assert | with_reducible apply same_withdraw | with_reducible apply same_uncount
    | with_reducible refine same_foldl ?_ ?_ | with_reducible refine same_ite ?_ ?_ | exact avoid hd rfl | (intro _)
    | split | dsimp only)

theorem same_settleGroves {ps : Nat} {z : State} (s : State) (hd : ps &&& 0x10000 = 0) (hw : Same ps z s) :
    Same ps z (settleGroves s) := by
  unfold settleGroves
  try dsimp only
  repeat' (first
    | with_reducible assumption | with_reducible apply same_freeGrove | with_reducible apply same_modGrove
    | with_reducible refine same_foldl ?_ ?_ | with_reducible refine same_ite ?_ ?_ | exact avoid hd rfl | (intro _)
    | split | dsimp only)

theorem same_settleWaits {ps : Nat} {z : State} (s : State) (hd : ps &&& 0x201083C = 0) (hw : Same ps z s) :
    Same ps z (settleWaits s) := by
  unfold settleWaits
  try dsimp only
  repeat' (first
    | with_reducible assumption | with_reducible apply same_finishWith | with_reducible refine same_foldl ?_ ?_
    | with_reducible refine same_ite ?_ ?_ | exact avoid hd rfl | (intro _) | split | dsimp only)

theorem same_keepOutcomes {ps : Nat} {z : State} (s : State) (c : Nat) (hd : ps &&& 0x800 = 0) (hw : Same ps z s) :
    Same ps z (keepOutcomes s c) := by
  unfold keepOutcomes
  try dsimp only
  repeat' (first
    | with_reducible assumption | with_reducible apply same_setFlight | with_reducible refine same_foldl ?_ ?_
    | with_reducible refine same_ite ?_ ?_ | exact avoid hd rfl | (intro _) | split | dsimp only)

theorem same_releaseContext {ps : Nat} {z : State} (s : State) (c : Nat) (hd : ps &&& 0x12860 = 0) (hw : Same ps z s) :
    Same ps z (releaseContext s c) := by
  unfold releaseContext
  try dsimp only
  repeat' (first
    | with_reducible assumption | with_reducible apply same_keepOutcomes | with_reducible refine same_modSr ?_ ?_
    | with_reducible apply same_renewSource | with_reducible apply same_setCtx | with_reducible refine same_ite ?_ ?_
    | exact avoid hd rfl | (intro _) | split | dsimp only)

theorem same_settleKills {ps : Nat} {z : State} (s : State) (hd : ps &&& 0x201287C = 0) (hw : Same ps z s) :
    Same ps z (settleKills s) := by
  unfold settleKills
  try dsimp only
  repeat' (first
    | with_reducible assumption | with_reducible apply same_finishDone | with_reducible apply same_releaseContext
    | with_reducible refine same_foldl ?_ ?_ | with_reducible refine same_ite ?_ ?_ | exact avoid hd rfl | (intro _)
    | split | dsimp only)

theorem same_settleGpu {ps : Nat} {z : State} (s : State) (hd : ps &&& 0x201287C = 0) (hw : Same ps z s) :
    Same ps z (settleGpu s) := by
  unfold settleGpu
  try dsimp only
  repeat' (first
    | with_reducible assumption | with_reducible apply same_settleKills | with_reducible apply same_settleWaits
    | with_reducible apply same_settleGroves | with_reducible refine same_ite ?_ ?_ | exact avoid hd rfl | (intro _)
    | split | dsimp only)

theorem same_startContextCreate {ps : Nat} {z : State} (s : State) (f : Flight) (hd : ps &&& 0x201287C = 0) (hw : Same ps z s) :
    Same ps z (startContextCreate s f) := by
  unfold startContextCreate
  try dsimp only
  repeat' (first
    | with_reducible assumption | with_reducible apply same_finishWith | with_reducible apply same_setCtx
    | with_reducible refine same_modSr ?_ ?_ | with_reducible apply same_finishDone
    | with_reducible apply same_renewSource | with_reducible refine same_ite ?_ ?_ | exact avoid hd rfl | (intro _)
    | split | dsimp only)

theorem same_killJobs {ps : Nat} {z : State} (s : State) (f : Flight) (named : Flight → Bool) (hd : ps &&& 0x201083C = 0) (hw : Same ps z s) :
    Same ps z (killJobs s f named) := by
  unfold killJobs
  try dsimp only
  repeat' (first
    | with_reducible assumption | with_reducible apply same_finishWith | with_reducible apply same_stopRun
    | with_reducible apply same_setFlight | with_reducible refine same_foldl ?_ ?_
    | with_reducible refine same_ite ?_ ?_ | exact avoid hd rfl | (intro _) | split | dsimp only)

theorem same_startContextDestroy {ps : Nat} {z : State} (s : State) (f : Flight) (hd : ps &&& 0x201083C = 0) (hw : Same ps z s) :
    Same ps z (startContextDestroy s f) := by
  unfold startContextDestroy
  try dsimp only
  repeat' (first
    | with_reducible assumption | with_reducible apply same_killJobs | with_reducible refine same_ite ?_ ?_
    | exact avoid hd rfl | (intro _) | split | dsimp only)

theorem same_startJobKill {ps : Nat} {z : State} (s : State) (f : Flight) (hd : ps &&& 0x201083C = 0) (hw : Same ps z s) :
    Same ps z (startJobKill s f) := by
  unfold startJobKill
  try dsimp only
  repeat' (first
    | with_reducible assumption | with_reducible apply same_killJobs | with_reducible refine same_ite ?_ ?_
    | exact avoid hd rfl | (intro _) | split | dsimp only)

theorem same_commitJobSubmit {ps : Nat} {z : State} (s : State) (f : Flight) (hd : ps &&& 0x10000 = 0) (hw : Same ps z s) :
    Same ps z (commitJobSubmit s f) := by
  unfold commitJobSubmit
  try dsimp only
  repeat' (first
    | with_reducible assumption | with_reducible apply same_modCtx | with_reducible refine same_ite ?_ ?_
    | exact avoid hd rfl | (intro _) | split | dsimp only)

theorem same_startShaderLoad {ps : Nat} {z : State} (s : State) (f : Flight) (hd : ps &&& 0x201083C = 0) (hw : Same ps z s) :
    Same ps z (startShaderLoad s f) := by
  unfold startShaderLoad
  try dsimp only
  repeat' (first
    | with_reducible assumption | with_reducible apply same_await | with_reducible apply same_modCtx
    | with_reducible apply same_finishDone | with_reducible refine same_ite ?_ ?_ | exact avoid hd rfl | (intro _)
    | split | dsimp only)

theorem same_loadShader {ps : Nat} {z : State} (s : State) (f : Flight) (b : List Byte) (hd : ps &&& 0x20128FC = 0) (hw : Same ps z s) :
    Same ps z (loadShader s f b) := by
  unfold loadShader
  try dsimp only
  repeat' (first
    | with_reducible assumption | with_reducible apply same_finish | with_reducible apply same_setCtx
    | with_reducible apply same_srPut | with_reducible apply same_finishDone | with_reducible refine same_ite ?_ ?_
    | exact avoid hd rfl | (intro _) | split | dsimp only)

theorem same_startContextQuery {ps : Nat} {z : State} (s : State) (f : Flight) (hd : ps &&& 0x201083C = 0) (hw : Same ps z s) :
    Same ps z (startContextQuery s f) := by
  unfold startContextQuery
  try dsimp only
  repeat' (first
    | with_reducible assumption | with_reducible apply same_finishDone | with_reducible apply same_hostWrite
    | with_reducible refine same_ite ?_ ?_ | exact avoid hd rfl | (intro _) | split | dsimp only)

end Sys2Proof.Machine
end

