-- ==== Sys2Proof/Laws/SameDmaOps.lean ====
section
/-! SUPPORT. What the operations of Machine/DmaOps.lean leave alone. -/

namespace Sys2Proof.Machine

theorem same_spaceRead {ps : Nat} {z : State} (s : State) (t view : Nat) (sp : Space) (a n : Nat) (hd : ps &&& 0x20528FC = 0) (hw : Same ps z s) :
    Same ps z ((spaceRead s t view sp a n).2) := by
  unfold spaceRead
  try dsimp only
  repeat' (first
    | with_reducible assumption | with_reducible apply same_noteMoved | with_reducible apply same_bulkRead
    | with_reducible apply same_srRead | with_reducible refine same_ite ?_ ?_ | exact avoid hd rfl | (intro _) | split
    | dsimp only)

theorem same_spacePut {ps : Nat} {z : State} (s : State) (t view : Nat) (sp : Space) (a : Nat) (l : List (Byte × Bool)) (hd : ps &&& 0xA0528FC = 0) (hw : Same ps z s) :
    Same ps z (spacePut s t view sp a l) := by
  unfold spacePut
  try dsimp only
  repeat' (first
    | with_reducible assumption | with_reducible apply same_freshBytes | with_reducible apply same_hostWrite
    | with_reducible apply same_noteMoved | with_reducible apply same_bulkPut | with_reducible apply same_srPut
    | with_reducible refine same_foldl ?_ ?_ | with_reducible refine same_foldl_1 ?_ ?_
    | with_reducible refine same_foldl_2 ?_ ?_ | with_reducible refine same_foldl_22 ?_ ?_
    | with_reducible refine same_ite ?_ ?_ | exact avoid hd rfl | (intro _) | split | dsimp only)

theorem same_sourceRow {ps : Nat} {z : State} (s : State) (f : Flight) (r o n : Nat) (hd : ps &&& 0x20528FC = 0) (hw : Same ps z s) :
    Same ps z ((sourceRow s f r o n).2) := by
  unfold sourceRow
  try dsimp only
  repeat' (first
    | with_reducible assumption | with_reducible apply same_spaceRead | with_reducible refine same_ite ?_ ?_
    | exact avoid hd rfl | (intro _) | split | dsimp only)

theorem same_countMoved {ps : Nat} {z : State} (s : State) (t : Nat) (sp : Space) (write : Bool) (n : Nat) (hd : ps &&& 0x42000 = 0) (hw : Same ps z s) :
    Same ps z (countMoved s t sp write n) := by
  unfold countMoved
  try dsimp only
  repeat' (first
    | with_reducible assumption | with_reducible apply same_countBulk | with_reducible refine same_modSr ?_ ?_
    | with_reducible refine same_ite ?_ ?_ | exact avoid hd rfl | (intro _) | split | dsimp only)

theorem same_moveBytes {ps : Nat} {z : State} (s : State) (f : Flight) (upto : Nat) (hd : ps &&& 0xA0528FC = 0) (hw : Same ps z s) :
    Same ps z ((moveBytes s f upto).1) := by
  unfold moveBytes
  try dsimp only
  repeat' (first
    | with_reducible assumption | with_reducible apply same_sourceRow | with_reducible apply same_spacePut
    | with_reducible apply same_countMoved | with_reducible refine same_foldl ?_ ?_
    | with_reducible refine same_foldl_1 ?_ ?_ | with_reducible refine same_foldl_2 ?_ ?_
    | with_reducible refine same_foldl_22 ?_ ?_ | with_reducible refine same_ite ?_ ?_ | exact avoid hd rfl | (intro _)
    | split | dsimp only)

theorem same_writeStatus {ps : Nat} {z : State} (s : State) (k : Nat) (d : Descriptor) (hd : ps &&& 0x200003C = 0) (hw : Same ps z s) :
    Same ps z (writeStatus s k d) := by
  unfold writeStatus
  try dsimp only
  repeat' (first
    | with_reducible assumption | with_reducible apply same_issueRecord | with_reducible refine same_ite ?_ ?_
    | exact avoid hd rfl | (intro _) | split | dsimp only)

theorem same_leaveHalt {ps : Nat} {z : State} (s : State) (k : Nat) (hd : ps &&& 0x20040 = 0) (hw : Same ps z s) :
    Same ps z (leaveHalt s k) := by
  unfold leaveHalt
  try dsimp only
  repeat' (first
    | with_reducible assumption | with_reducible apply same_lower | with_reducible apply same_modChan
    | with_reducible refine same_ite ?_ ?_ | exact avoid hd rfl | (intro _) | split | dsimp only)

theorem same_serveXfer {ps : Nat} {z : State} (s : State) (wheel : Nat) (hd : ps &&& 0x800 = 0) (hw : Same ps z s) :
    Same ps z (serveXfer s wheel) := by
  unfold serveXfer
  try dsimp only
  repeat' (first
    | with_reducible assumption | with_reducible apply same_setFlight | with_reducible refine same_ite ?_ ?_
    | exact avoid hd rfl | (intro _) | split | dsimp only)

theorem same_stopXfer {ps : Nat} {z : State} (s : State) (f : Flight) (hd : ps &&& 0xA0528FC = 0) (hw : Same ps z s) :
    Same ps z (stopXfer s f) := by
  unfold stopXfer
  try dsimp only
  repeat' (first
    | with_reducible assumption | with_reducible apply same_freshValue | with_reducible apply same_moveBytes
    | with_reducible apply same_setFlight | with_reducible refine same_ite ?_ ?_ | exact avoid hd rfl | (intro _)
    | split | dsimp only)

theorem same_haltChannel {ps : Nat} {z : State} (s : State) (f : Flight) (cause : Nat) (write : Bool) (addr moved : Nat) (hd : ps &&& 0xA0728FC = 0) (hw : Same ps z s) :
    Same ps z (haltChannel s f cause write addr moved) := by
  unfold haltChannel
  try dsimp only
  repeat' (first
    | with_reducible assumption | with_reducible apply same_stopXfer | with_reducible apply same_moveBytes
    | with_reducible apply same_setFlight | with_reducible refine same_modFlights ?_ ?_
    | with_reducible apply same_modChan | with_reducible apply same_writeStatus | with_reducible apply same_noteAer
    | with_reducible apply same_assert | with_reducible apply same_raise | with_reducible apply same_withdraw
    | with_reducible refine same_foldl ?_ ?_ | with_reducible refine same_ite ?_ ?_ | exact avoid hd rfl | (intro _)
    | split | dsimp only)

theorem same_endXfer {ps : Nat} {z : State} (s : State) (f : Flight) (v : Verdict) (hd : ps &&& 0x201083C = 0) (hw : Same ps z s) :
    Same ps z (endXfer s f v) := by
  unfold endXfer
  try dsimp only
  repeat' (first
    | with_reducible assumption | with_reducible apply same_writeStatus | with_reducible apply same_finish
    | with_reducible apply same_finishDone | with_reducible refine same_ite ?_ ?_ | exact avoid hd rfl | (intro _)
    | split | dsimp only)

theorem same_endXferAt {ps : Nat} {z : State} (s : State) (f : Flight) (v : Verdict) (hd : ps &&& 0x20108FC = 0) (hw : Same ps z s) :
    Same ps z (endXferAt s f v) := by
  unfold endXferAt
  try dsimp only
  repeat' (first
    | with_reducible assumption | with_reducible apply same_endXfer | with_reducible apply same_missNote
    | with_reducible refine same_ite ?_ ?_ | exact avoid hd rfl | (intro _) | split | dsimp only)

theorem same_haltBarred {ps : Nat} {z : State} (s : State) (f : Flight) (hd : ps &&& 0xA0728FC = 0) (hw : Same ps z s) :
    Same ps z (haltBarred s f) := by
  unfold haltBarred
  try dsimp only
  repeat' (first
    | with_reducible assumption | with_reducible apply same_stopXfer | with_reducible apply same_haltChannel
    | with_reducible refine same_ite ?_ ?_ | exact avoid hd rfl | (intro _) | split | dsimp only)

theorem same_transferDone {ps : Nat} {z : State} (fold : State → Nat → Option (List Byte) → Flight → State) (s : State) (f : Flight) (hfold : ∀ (x0 : State) (x1 : Nat) (x2 : Option (List Byte)) (x3 : Flight), Same ps z x0 → Same ps z (fold x0 x1 x2 x3)) (hd : ps &&& 0xA0728FC = 0) (hw : Same ps z s) :
    Same ps z (transferDone fold s f) := by
  unfold transferDone
  try dsimp only
  repeat' (first
    | with_reducible assumption | with_reducible apply same_haltBarred | with_reducible apply same_sourceRow
    | with_reducible apply same_spaceRead | with_reducible apply same_countMoved | with_reducible apply same_writeStatus
    | with_reducible apply same_modChan | with_reducible apply same_endXferAt | with_reducible apply same_moveBytes
    | with_reducible apply hfold | with_reducible refine same_ite ?_ ?_ | exact avoid hd rfl | (intro _) | split
    | dsimp only)

theorem same_markPoisoned {ps : Nat} {z : State} (s : State) (f : Flight) (ofs len : Nat) (hd : ps &&& 0x808 = 0) (hw : Same ps z s) :
    Same ps z (markPoisoned s f ofs len) := by
  unfold markPoisoned
  try dsimp only
  repeat' (first
    | with_reducible assumption | with_reducible apply same_setFlight | with_reducible apply same_noteAer
    | with_reducible refine same_ite ?_ ?_ | exact avoid hd rfl | (intro _) | split | dsimp only)

theorem same_startXfer {ps : Nat} {z : State} (s : State) (f : Flight) (hd : ps &&& 0x201083C = 0) (hw : Same ps z s) :
    Same ps z (startXfer s f) := by
  unfold startXfer
  try dsimp only
  repeat' (first
    | with_reducible assumption | with_reducible apply same_finishDone | with_reducible apply same_await
    | with_reducible refine same_ite ?_ ?_ | exact avoid hd rfl | (intro _) | split | dsimp only)

theorem same_startChannelConfig {ps : Nat} {z : State} (s : State) (f : Flight) (hd : ps &&& 0x203083C = 0) (hw : Same ps z s) :
    Same ps z (startChannelConfig s f) := by
  unfold startChannelConfig
  try dsimp only
  repeat' (first
    | with_reducible assumption | with_reducible apply same_finishDone | with_reducible apply same_modChan
    | with_reducible refine same_ite ?_ ?_ | exact avoid hd rfl | (intro _) | split | dsimp only)

theorem same_restartChannel {ps : Nat} {z : State} (s : State) (f : Flight) (hd : ps &&& 0x20840 = 0) (hw : Same ps z s) :
    Same ps z (restartChannel s f) := by
  unfold restartChannel
  try dsimp only
  repeat' (first
    | with_reducible assumption | with_reducible apply same_setFlight | with_reducible apply same_leaveHalt
    | with_reducible refine same_ite ?_ ?_ | exact avoid hd rfl | (intro _) | split | dsimp only)

theorem same_commitDmaResume {ps : Nat} {z : State} (s : State) (f : Flight) (hd : ps &&& 0x20840 = 0) (hw : Same ps z s) :
    Same ps z (commitDmaResume s f) := by
  unfold commitDmaResume
  try dsimp only
  repeat' (first
    | with_reducible assumption | with_reducible apply same_restartChannel | with_reducible refine same_ite ?_ ?_
    | exact avoid hd rfl | (intro _) | split | dsimp only)

theorem same_startDmaResume {ps : Nat} {z : State} (s : State) (f : Flight) (hd : ps &&& 0x203087C = 0) (hw : Same ps z s) :
    Same ps z (startDmaResume s f) := by
  unfold startDmaResume
  try dsimp only
  repeat' (first
    | with_reducible assumption | with_reducible apply same_restartChannel | with_reducible apply same_await
    | with_reducible apply same_finishDone | with_reducible refine same_ite ?_ ?_ | exact avoid hd rfl | (intro _)
    | split | dsimp only)

theorem same_stopEngines {ps : Nat} {z : State} (s : State) (f : Flight) (hd : ps &&& 0xA0728FC = 0) (hw : Same ps z s) :
    Same ps z (stopEngines s f) := by
  unfold stopEngines
  try dsimp only
  repeat' (first
    | with_reducible assumption | with_reducible apply same_stopXfer | with_reducible apply same_leaveHalt
    | with_reducible apply same_setFlight | with_reducible refine same_foldl ?_ ?_
    | with_reducible refine same_ite ?_ ?_ | exact avoid hd rfl | (intro _) | split | dsimp only)

theorem same_commitDmaAbort {ps : Nat} {z : State} (s : State) (f : Flight) (hd : ps &&& 0xA0728FC = 0) (hw : Same ps z s) :
    Same ps z (commitDmaAbort s f) := by
  unfold commitDmaAbort
  try dsimp only
  repeat' (first
    | with_reducible assumption | with_reducible apply same_stopEngines | with_reducible refine same_ite ?_ ?_
    | exact avoid hd rfl | (intro _) | split | dsimp only)

theorem same_startDmaAbort {ps : Nat} {z : State} (fold : State → Nat → Option (List Byte) → Flight → State) (s : State) (f : Flight) (hfold : ∀ (x0 : State) (x1 : Nat) (x2 : Option (List Byte)) (x3 : Flight), Same ps z x0 → Same ps z (fold x0 x1 x2 x3)) (hd : ps &&& 0xA0728FC = 0) (hw : Same ps z s) :
    Same ps z (startDmaAbort fold s f) := by
  unfold startDmaAbort
  try dsimp only
  repeat' (first
    | with_reducible assumption | with_reducible apply same_stopEngines | with_reducible apply same_endXfer
    | with_reducible apply same_writeStatus | with_reducible apply same_finishDone
    | with_reducible refine same_foldl ?_ ?_ | with_reducible apply hfold | with_reducible refine same_ite ?_ ?_
    | exact avoid hd rfl | (intro _) | split | dsimp only)

end Sys2Proof.Machine
end

