-- ==== Sys2Proof/Laws/SameHeadOps.lean ====
section
/-! SUPPORT. What the operations of Machine/HeadOps.lean leave alone. -/

namespace Sys2Proof.Machine

theorem same_applyHeadConfig {ps : Nat} {z : State} (s : State) (d : Descriptor) (hd : ps &&& 0x4000 = 0) (hw : Same ps z s) :
    Same ps z (applyHeadConfig s d) := by
  unfold applyHeadConfig
  try dsimp only
  repeat' (first
    | with_reducible assumption | with_reducible apply same_modHead | with_reducible refine same_ite ?_ ?_
    | exact avoid hd rfl | (intro _) | split | dsimp only)

theorem same_beginTraining {ps : Nat} {z : State} (s : State) (h : Nat) (hd : ps &&& 0x4000 = 0) (hw : Same ps z s) :
    Same ps z (beginTraining s h) := by
  unfold beginTraining
  try dsimp only
  repeat' (first
    | with_reducible assumption | with_reducible apply same_modHead | with_reducible refine same_ite ?_ ?_
    | exact avoid hd rfl | (intro _) | split | dsimp only)

theorem same_stopHead {ps : Nat} {z : State} (s : State) (h : Nat) (hd : ps &&& 0x4001 = 0) (hw : Same ps z s) :
    Same ps z (stopHead s h) := by
  unfold stopHead
  try dsimp only
  repeat' (first
    | with_reducible assumption | with_reducible apply same_quietSync | with_reducible apply same_modHead
    | with_reducible refine same_ite ?_ ?_ | exact avoid hd rfl | (intro _) | split | dsimp only)

theorem same_startHeadEnable {ps : Nat} {z : State} (s : State) (f : Flight) (hd : ps &&& 0xC801 = 0) (hw : Same ps z s) :
    Same ps z (startHeadEnable s f) := by
  unfold startHeadEnable
  try dsimp only
  repeat' (first
    | with_reducible assumption | with_reducible apply same_modHead | with_reducible apply same_await
    | with_reducible apply same_stopHead | with_reducible refine same_modAu ?_ ?_
    | with_reducible apply same_beginTraining | with_reducible refine same_ite ?_ ?_ | exact avoid hd rfl | (intro _)
    | split | dsimp only)

theorem same_startHeadDisable {ps : Nat} {z : State} (s : State) (f : Flight) (hd : ps &&& 0x201483D = 0) (hw : Same ps z s) :
    Same ps z (startHeadDisable s f) := by
  unfold startHeadDisable
  try dsimp only
  repeat' (first
    | with_reducible assumption | with_reducible apply same_finishDone | with_reducible apply same_stopHead
    | with_reducible apply same_await | with_reducible apply same_modHead | with_reducible refine same_ite ?_ ?_
    | exact avoid hd rfl | (intro _) | split | dsimp only)

theorem same_startHeadUnderrun {ps : Nat} {z : State} (s : State) (f : Flight) (hd : ps &&& 0x201483C = 0) (hw : Same ps z s) :
    Same ps z (startHeadUnderrun s f) := by
  unfold startHeadUnderrun
  try dsimp only
  repeat' (first
    | with_reducible assumption | with_reducible apply same_finishDone | with_reducible apply same_modHead
    | with_reducible refine same_ite ?_ ?_ | exact avoid hd rfl | (intro _) | split | dsimp only)

theorem same_applyHeadDsc {ps : Nat} {z : State} (s : State) (d : Descriptor) (hd : ps &&& 0x4000 = 0) (hw : Same ps z s) :
    Same ps z (applyHeadDsc s d) := by
  unfold applyHeadDsc
  try dsimp only
  repeat' (first
    | with_reducible assumption | with_reducible apply same_modHead | with_reducible refine same_ite ?_ ?_
    | exact avoid hd rfl | (intro _) | split | dsimp only)

theorem same_startHeadStatus {ps : Nat} {z : State} (s : State) (f : Flight) (hd : ps &&& 0x201083C = 0) (hw : Same ps z s) :
    Same ps z (startHeadStatus s f) := by
  unfold startHeadStatus
  try dsimp only
  repeat' (first
    | with_reducible assumption | with_reducible apply same_finishDone | with_reducible apply same_hostWrite
    | with_reducible refine same_ite ?_ ?_ | exact avoid hd rfl | (intro _) | split | dsimp only)

theorem same_restartTraining {ps : Nat} {z : State} (s : State) (h : Nat) (hd : ps &&& 0x4000 = 0) (hw : Same ps z s) :
    Same ps z (restartTraining s h) := by
  unfold restartTraining
  try dsimp only
  repeat' (first
    | with_reducible assumption | with_reducible apply same_modHead | with_reducible apply same_beginTraining
    | with_reducible refine same_ite ?_ ?_ | exact avoid hd rfl | (intro _) | split | dsimp only)

theorem same_startHeadLink {ps : Nat} {z : State} (s : State) (f : Flight) (hd : ps &&& 0x4800 = 0) (hw : Same ps z s) :
    Same ps z (startHeadLink s f) := by
  unfold startHeadLink
  try dsimp only
  repeat' (first
    | with_reducible assumption | with_reducible apply same_restartTraining | with_reducible apply same_await
    | with_reducible refine same_ite ?_ ?_ | exact avoid hd rfl | (intro _) | split | dsimp only)

theorem same_commitLayerMove {ps : Nat} {z : State} (s : State) (f : Flight) (hd : ps &&& 0x3000 = 0) (hw : Same ps z s) :
    Same ps z (commitLayerMove s f) := by
  unfold commitLayerMove
  try dsimp only
  repeat' (first
    | with_reducible assumption | with_reducible apply same_reserveRing | with_reducible refine same_modCharges ?_ ?_
    | with_reducible refine same_ite ?_ ?_ | exact avoid hd rfl | (intro _) | split | dsimp only)

end Sys2Proof.Machine
end

