-- ==== Sys2Proof/Laws/SameLedgerOps.lean ====
section
/-! SUPPORT. What the operations of Machine/LedgerOps.lean leave alone. -/

namespace Sys2Proof.Machine

theorem same_endDegraded {ps : Nat} {z : State} (s : State) (hd : ps &&& 0xC0 = 0) (hw : Same ps z s) :
    Same ps z (endDegraded s) := by
  unfold endDegraded
  try dsimp only
  repeat' (first
    | with_reducible assumption | with_reducible apply same_raise | with_reducible refine same_modLg ?_ ?_
    | with_reducible refine same_foldl ?_ ?_ | with_reducible refine same_ite ?_ ?_ | exact avoid hd rfl | (intro _)
    | split | dsimp only)

theorem same_logBit {ps : Nat} {z : State} (s : State) (b : Nat) (hd : ps &&& 0x80 = 0) (hw : Same ps z s) :
    Same ps z (logBit s b) := by
  unfold logBit
  try dsimp only
  repeat' (first
    | with_reducible assumption | with_reducible refine same_modLg ?_ ?_ | with_reducible apply same_setLgSrc
    | with_reducible refine same_ite ?_ ?_ | exact avoid hd rfl | (intro _) | split | dsimp only)

theorem same_sampleLedger {ps : Nat} {z : State} (s : State) (hd : ps &&& 0x80 = 0) (hw : Same ps z s) :
    Same ps z (sampleLedger s) := by
  unfold sampleLedger
  try dsimp only
  repeat' (first
    | with_reducible assumption | with_reducible apply same_logBit | with_reducible refine same_foldl ?_ ?_
    | with_reducible refine same_ite ?_ ?_ | exact avoid hd rfl | (intro _) | split | dsimp only)

theorem same_epochSample {ps : Nat} {z : State} (s : State) (sampled : Bool) (hd : ps &&& 0x20108FC = 0) (hw : Same ps z s) :
    Same ps z (epochSample s sampled) := by
  unfold epochSample
  try dsimp only
  repeat' (first
    | with_reducible assumption | with_reducible apply same_sampleLedger | with_reducible refine same_modLg ?_ ?_
    | with_reducible apply same_assert | with_reducible refine same_ite ?_ ?_ | exact avoid hd rfl | (intro _) | split
    | dsimp only)

theorem same_clearBit {ps : Nat} {z : State} (s : State) (b : Nat) (hd : ps &&& 0x20108FC = 0) (hw : Same ps z s) :
    Same ps z (clearBit s b) := by
  unfold clearBit
  try dsimp only
  repeat' (first
    | with_reducible assumption | with_reducible apply same_setLgSrc | with_reducible apply same_assert
    | with_reducible refine same_ite ?_ ?_ | exact avoid hd rfl | (intro _) | split | dsimp only)

theorem same_clearLedger {ps : Nat} {z : State} (s : State) (mask : Nat) (hd : ps &&& 0x20108FC = 0) (hw : Same ps z s) :
    Same ps z ((clearLedger s mask).2) := by
  unfold clearLedger
  try dsimp only
  repeat' (first
    | with_reducible assumption | with_reducible apply same_sampleLedger | with_reducible apply same_endDegraded
    | with_reducible apply same_clearBit | with_reducible refine same_foldl ?_ ?_
    | with_reducible refine same_foldl_1 ?_ ?_ | with_reducible refine same_foldl_2 ?_ ?_
    | with_reducible refine same_foldl_22 ?_ ?_ | with_reducible refine same_ite ?_ ?_ | exact avoid hd rfl | (intro _)
    | split | dsimp only)

theorem same_forceHaltNow {ps : Nat} {z : State} (s : State) (hd : ps &&& 0x20108FC = 0) (hw : Same ps z s) :
    Same ps z (forceHaltNow s) := by
  unfold forceHaltNow
  try dsimp only
  repeat' (first
    | with_reducible assumption | with_reducible apply same_assert | with_reducible refine same_modLg ?_ ?_
    | with_reducible refine same_ite ?_ ?_ | exact avoid hd rfl | (intro _) | split | dsimp only)

theorem same_writeClass {ps : Nat} {z : State} (s : State) (i v : Nat) (hd : ps &&& 0x80 = 0) (hw : Same ps z s) :
    Same ps z (writeClass s i v) := by
  unfold writeClass
  try dsimp only
  repeat' (first
    | with_reducible assumption | with_reducible refine same_modLg ?_ ?_ | with_reducible refine same_ite ?_ ?_
    | exact avoid hd rfl | (intro _) | split | dsimp only)

theorem same_ledgerShared {ps : Nat} {z : State} (s : State) (ofs v : Nat) (hd : ps &&& 0x20108FC = 0) (hw : Same ps z s) :
    Same ps z (ledgerShared s ofs v) := by
  unfold ledgerShared
  try dsimp only
  repeat' (first
    | with_reducible assumption | with_reducible apply same_clearLedger | with_reducible refine same_modLg ?_ ?_
    | with_reducible refine same_ite ?_ ?_ | exact avoid hd rfl | (intro _) | split | dsimp only)

theorem same_ledgerWrite {ps : Nat} {z : State} (s : State) (ofs v : Nat) (hd : ps &&& 0x20108FC = 0) (hw : Same ps z s) :
    Same ps z (ledgerWrite s ofs v) := by
  unfold ledgerWrite
  try dsimp only
  repeat' (first
    | with_reducible assumption | with_reducible apply same_writeClass | with_reducible refine same_modLg ?_ ?_
    | with_reducible apply same_ledgerShared | with_reducible refine same_ite ?_ ?_ | exact avoid hd rfl | (intro _)
    | split | dsimp only)

theorem same_supervisorWrite {ps : Nat} {z : State} (s : State) (ofs v : Nat) (hd : ps &&& 0x20108FC = 0) (hw : Same ps z s) :
    Same ps z (supervisorWrite s ofs v) := by
  unfold supervisorWrite
  try dsimp only
  repeat' (first
    | with_reducible assumption | with_reducible apply same_forceHaltNow | with_reducible apply same_ledgerShared
    | with_reducible refine same_ite ?_ ?_ | exact avoid hd rfl | (intro _) | split | dsimp only)

theorem same_startLedgerRead {ps : Nat} {z : State} (s : State) (f : Flight) (hd : ps &&& 0x201083C = 0) (hw : Same ps z s) :
    Same ps z (startLedgerRead s f) := by
  unfold startLedgerRead
  try dsimp only
  repeat' (first
    | with_reducible assumption | with_reducible apply same_finishDone | with_reducible apply same_hostWrite
    | with_reducible refine same_ite ?_ ?_ | exact avoid hd rfl | (intro _) | split | dsimp only)

theorem same_startFaultLogRead {ps : Nat} {z : State} (s : State) (f : Flight) (hd : ps &&& 0x201083C = 0) (hw : Same ps z s) :
    Same ps z (startFaultLogRead s f) := by
  unfold startFaultLogRead
  try dsimp only
  repeat' (first
    | with_reducible assumption | with_reducible apply same_finishDone | with_reducible apply same_hostWrite
    | with_reducible refine same_ite ?_ ?_ | exact avoid hd rfl | (intro _) | split | dsimp only)

theorem same_startLedgerClear {ps : Nat} {z : State} (s : State) (f : Flight) (hd : ps &&& 0x20108FC = 0) (hw : Same ps z s) :
    Same ps z (startLedgerClear s f) := by
  unfold startLedgerClear
  try dsimp only
  repeat' (first
    | with_reducible assumption | with_reducible apply same_clearLedger | with_reducible apply same_finishDone
    | with_reducible refine same_ite ?_ ?_ | exact avoid hd rfl | (intro _) | split | dsimp only)

theorem same_startFaultInject {ps : Nat} {z : State} (s : State) (f : Flight) (hd : ps &&& 0x20108FC = 0) (hw : Same ps z s) :
    Same ps z (startFaultInject s f) := by
  unfold startFaultInject
  try dsimp only
  repeat' (first
    | with_reducible assumption | with_reducible apply same_assert | with_reducible apply same_finishDone
    | with_reducible refine same_ite ?_ ?_ | exact avoid hd rfl | (intro _) | split | dsimp only)

end Sys2Proof.Machine
end

