-- ==== Sys2Proof/Laws/SameHapticOps.lean ====
section
/-! SUPPORT. What the operations of Machine/HapticOps.lean leave alone. -/

namespace Sys2Proof.Machine

theorem same_modHap {ps : Nat} {z : State} (s : State) (c : Nat) (f : HapChan → HapChan) (hd : ps &&& 0x200000 = 0) (hw : Same ps z s) :
    Same ps z (modHap s c f) := by
  unfold modHap
  try dsimp only
  repeat' (first
    | with_reducible assumption | with_reducible refine same_modHaptic ?_ ?_ | with_reducible refine same_ite ?_ ?_
    | exact avoid hd rfl | (intro _) | split | dsimp only)

theorem same_beginHalf {ps : Nat} {z : State} (s : State) (c : Nat) (hd : ps &&& 0x200000 = 0) (hw : Same ps z s) :
    Same ps z (beginHalf s c) := by
  unfold beginHalf
  try dsimp only
  repeat' (first
    | with_reducible assumption | with_reducible apply same_modHap | with_reducible refine same_ite ?_ ?_
    | exact avoid hd rfl | (intro _) | split | dsimp only)

theorem same_beginSegment {ps : Nat} {z : State} (s : State) (c : Nat) (quiet : Bool) (hd : ps &&& 0x200000 = 0) (hw : Same ps z s) :
    Same ps z (beginSegment s c quiet) := by
  unfold beginSegment
  try dsimp only
  repeat' (first
    | with_reducible assumption | with_reducible apply same_modHap | with_reducible apply same_beginHalf
    | with_reducible refine same_ite ?_ ?_ | exact avoid hd rfl | (intro _) | split | dsimp only)

theorem same_beginEffect {ps : Nat} {z : State} (s : State) (c n : Nat) (quiet : Bool) (hd : ps &&& 0x200000 = 0) (hw : Same ps z s) :
    Same ps z (beginEffect s c n quiet) := by
  unfold beginEffect
  try dsimp only
  repeat' (first
    | with_reducible assumption | with_reducible apply same_modHap | with_reducible apply same_beginSegment
    | with_reducible refine same_ite ?_ ?_ | exact avoid hd rfl | (intro _) | split | dsimp only)

theorem same_dropStart {ps : Nat} {z : State} (s : State) (c : Nat) (hd : ps &&& 0x200040 = 0) (hw : Same ps z s) :
    Same ps z (dropStart s c) := by
  unfold dropStart
  try dsimp only
  repeat' (first
    | with_reducible assumption | with_reducible apply same_raise | with_reducible apply same_modHap
    | with_reducible refine same_ite ?_ ?_ | exact avoid hd rfl | (intro _) | split | dsimp only)

theorem same_takeTurn {ps : Nat} {z : State} (s : State) (c rank : Nat) {t : State} (e : takeTurn s c rank = some t)
    (hd : ps &&& 0x200040 = 0) (hw : Same ps z s) : Same ps z t := by
  unfold takeTurn at e
  dsimp only at e
  split at e
  · split at e
    · exact Option.some.inj e ▸ same_modHap _ _ _ (avoid hd rfl) hw
    · split at e
      · exact Option.some.inj e ▸ same_dropStart _ _ (avoid hd rfl) (same_modHap _ _ _ (avoid hd rfl) hw)
      · exact absurd e (by simp)
  · exact Option.some.inj e ▸ same_modHap _ _ _ (avoid hd rfl) hw

theorem same_startEffect {ps : Nat} {z : State} (s : State) (c n rank : Nat) (hd : ps &&& 0x200040 = 0) (hw : Same ps z s) :
    Same ps z (startEffect s c n rank).1 := by
  unfold startEffect
  dsimp only
  split
  · exact same_dropStart _ _ (avoid hd rfl) hw
  · split
    · exact same_dropStart _ _ (avoid hd rfl) hw
    · rename_i e
      have w := same_modHap _ c (fun v => { v with starts := min 0xFFFFFFFF (v.starts + 1) }) (avoid hd rfl) (same_takeTurn _ _ _ e (avoid hd rfl) hw)
      split
      · exact same_modHap _ _ _ (avoid hd rfl) w
      · exact same_beginEffect _ _ _ _ (avoid hd rfl) w

theorem same_beginBrake {ps : Nat} {z : State} (s : State) (c : Nat) (hd : ps &&& 0x200000 = 0) (hw : Same ps z s) :
    Same ps z (beginBrake s c) := by
  unfold beginBrake
  try dsimp only
  repeat' (first
    | with_reducible assumption | with_reducible apply same_modHap | with_reducible refine same_ite ?_ ?_
    | exact avoid hd rfl | (intro _) | split | dsimp only)

theorem same_stopEffect {ps : Nat} {z : State} (s : State) (c : Nat) (hd : ps &&& 0x200000 = 0) (hw : Same ps z s) :
    Same ps z (stopEffect s c) := by
  unfold stopEffect
  try dsimp only
  repeat' (first
    | with_reducible assumption | with_reducible apply same_beginBrake | with_reducible apply same_modHap
    | with_reducible refine same_ite ?_ ?_ | exact avoid hd rfl | (intro _) | split | dsimp only)

theorem same_hapFault {ps : Nat} {z : State} (s : State) (c cause : Nat) (hd : ps &&& 0x22108FC = 0) (hw : Same ps z s) :
    Same ps z (hapFault s c cause) := by
  unfold hapFault
  try dsimp only
  repeat' (first
    | with_reducible assumption | with_reducible apply same_modHap | with_reducible apply same_assert
    | with_reducible apply same_raise | with_reducible refine same_ite ?_ ?_ | exact avoid hd rfl | (intro _) | split
    | dsimp only)

theorem same_cutEffects {ps : Nat} {z : State} (s : State) (hd : ps &&& 0x200000 = 0) (hw : Same ps z s) :
    Same ps z (cutEffects s) := by
  unfold cutEffects
  try dsimp only
  repeat' (first
    | with_reducible assumption | with_reducible apply same_modHap | with_reducible refine same_foldl ?_ ?_
    | with_reducible refine same_ite ?_ ?_ | exact avoid hd rfl | (intro _) | split | dsimp only)

theorem same_vhapFell {ps : Nat} {z : State} (s : State) (mv : Nat) (hd : ps &&& 0x200040 = 0) (hw : Same ps z s) :
    Same ps z (vhapFell s mv) := by
  unfold vhapFell
  try dsimp only
  repeat' (first
    | with_reducible assumption | with_reducible refine same_modHaptic ?_ ?_ | with_reducible apply same_raise
    | with_reducible apply same_cutEffects | with_reducible refine same_ite ?_ ?_ | exact avoid hd rfl | (intro _)
    | split | dsimp only)

theorem same_vhapRose {ps : Nat} {z : State} (s : State) (mv : Nat) (hd : ps &&& 0x200000 = 0) (hw : Same ps z s) :
    Same ps z (vhapRose s mv) := by
  unfold vhapRose
  try dsimp only
  repeat' (first
    | with_reducible assumption | with_reducible refine same_modHaptic ?_ ?_ | with_reducible refine same_ite ?_ ?_
    | exact avoid hd rfl | (intro _) | split | dsimp only)

theorem same_crossZero {ps : Nat} {z : State} (s : State) (c : Nat) (m : Option Nat) (bemf ma : Nat) (hd : ps &&& 0x22108FC = 0) (hw : Same ps z s) :
    Same ps z (crossZero s c m bemf ma) := by
  unfold crossZero
  try dsimp only
  repeat' (first
    | with_reducible assumption | with_reducible apply same_modHap | with_reducible apply same_hapFault
    | with_reducible apply same_beginEffect | with_reducible apply same_beginHalf | with_reducible refine same_ite ?_ ?_
    | exact avoid hd rfl | (intro _) | split | dsimp only)

theorem same_endSegment {ps : Nat} {z : State} (s : State) (c : Nat) (hd : ps &&& 0x200000 = 0) (hw : Same ps z s) :
    Same ps z (endSegment s c) := by
  unfold endSegment
  try dsimp only
  repeat' (first
    | with_reducible assumption | with_reducible apply same_beginBrake | with_reducible apply same_modHap
    | with_reducible refine same_ite ?_ ?_ | exact avoid hd rfl | (intro _) | split | dsimp only)

theorem same_endBrake {ps : Nat} {z : State} (s : State) (c : Nat) (hd : ps &&& 0x200000 = 0) (hw : Same ps z s) :
    Same ps z (endBrake s c) := by
  unfold endBrake
  try dsimp only
  repeat' (first
    | with_reducible assumption | with_reducible apply same_modHap | with_reducible refine same_ite ?_ ?_
    | exact avoid hd rfl | (intro _) | split | dsimp only)

theorem same_riseSegment {ps : Nat} {z : State} (s : State) (c : Nat) (hd : ps &&& 0x200000 = 0) (hw : Same ps z s) :
    Same ps z (riseSegment s c) := by
  unfold riseSegment
  try dsimp only
  repeat' (first
    | with_reducible assumption | with_reducible apply same_beginSegment | with_reducible refine same_ite ?_ ?_
    | exact avoid hd rfl | (intro _) | split | dsimp only)

theorem same_trigEdge {ps : Nat} {z : State} (s : State) (c : Nat) (rising : Bool) (hd : ps &&& 0x200000 = 0) (hw : Same ps z s) :
    Same ps z (trigEdge s c rising) := by
  unfold trigEdge
  try dsimp only
  repeat' (first
    | with_reducible assumption | with_reducible apply same_modHap | with_reducible refine same_ite ?_ ?_
    | exact avoid hd rfl | (intro _) | split | dsimp only)

theorem same_triggerEffect {ps : Nat} {z : State} (s : State) (c n rank : Nat) (hd : ps &&& 0x200040 = 0) (hw : Same ps z s) :
    Same ps z (triggerEffect s c n rank) := by
  unfold triggerEffect
  try dsimp only
  repeat' (first
    | with_reducible assumption | with_reducible apply same_dropStart | with_reducible apply same_startEffect
    | with_reducible refine same_ite ?_ ?_ | exact avoid hd rfl | (intro _) | split | dsimp only)

theorem same_acceptTrigger {ps : Nat} {z : State} (s : State) (c : Nat) (hd : ps &&& 0x200040 = 0) (hw : Same ps z s) :
    Same ps z (acceptTrigger s c) := by
  unfold acceptTrigger
  try dsimp only
  repeat' (first
    | with_reducible assumption | with_reducible apply same_modHap | with_reducible apply same_triggerEffect
    | with_reducible refine same_ite ?_ ?_ | exact avoid hd rfl | (intro _) | split | dsimp only)

theorem same_configureHaptic {ps : Nat} {z : State} (s : State) (c : Nat) (d : Descriptor) (hd : ps &&& 0x200000 = 0) (hw : Same ps z s) :
    Same ps z (configureHaptic s c d) := by
  unfold configureHaptic
  try dsimp only
  repeat' (first
    | with_reducible assumption | with_reducible apply same_modHap | with_reducible refine same_ite ?_ ?_
    | exact avoid hd rfl | (intro _) | split | dsimp only)

theorem same_startHapticConfig {ps : Nat} {z : State} (s : State) (f : Flight) (hd : ps &&& 0x221083C = 0) (hw : Same ps z s) :
    Same ps z (startHapticConfig s f) := by
  unfold startHapticConfig
  try dsimp only
  repeat' (first
    | with_reducible assumption | with_reducible apply same_finishDone | with_reducible apply same_configureHaptic
    | with_reducible refine same_ite ?_ ?_ | exact avoid hd rfl | (intro _) | split | dsimp only)

theorem same_performHaptic {ps : Nat} {z : State} (s : State) (f : Flight) (hd : ps &&& 0x22108FC = 0) (hw : Same ps z s) :
    Same ps z (performHaptic s f) := by
  unfold performHaptic
  try dsimp only
  repeat' (first
    | with_reducible assumption | with_reducible apply same_finish | with_reducible apply same_missNote
    | with_reducible apply same_finishDone | with_reducible apply same_startEffect
    | refine same_takeTurn _ _ _ (by assumption) (avoid hd rfl) ?_ | with_reducible apply same_stopEffect
    | with_reducible apply same_dropStart | with_reducible refine same_ite ?_ ?_ | exact avoid hd rfl | (intro _)
    | split | dsimp only)

theorem same_startHapticTimed {ps : Nat} {z : State} (s : State) (f : Flight) (hd : ps &&& 0x22108FC = 0) (hw : Same ps z s) :
    Same ps z (startHapticTimed s f) := by
  unfold startHapticTimed
  try dsimp only
  repeat' (first
    | with_reducible assumption | with_reducible refine same_modFlights ?_ ?_ | with_reducible apply same_performHaptic
    | with_reducible apply same_await | with_reducible refine same_ite ?_ ?_ | exact avoid hd rfl | (intro _) | split
    | dsimp only)

theorem same_startTriggerMap {ps : Nat} {z : State} (s : State) (f : Flight) (hd : ps &&& 0x221083C = 0) (hw : Same ps z s) :
    Same ps z (startTriggerMap s f) := by
  unfold startTriggerMap
  try dsimp only
  repeat' (first
    | with_reducible assumption | with_reducible apply same_finishDone | with_reducible apply same_modHap
    | with_reducible refine same_ite ?_ ?_ | exact avoid hd rfl | (intro _) | split | dsimp only)

theorem same_startHapticStatus {ps : Nat} {z : State} (s : State) (f : Flight) (hd : ps &&& 0x201083C = 0) (hw : Same ps z s) :
    Same ps z (startHapticStatus s f) := by
  unfold startHapticStatus
  try dsimp only
  repeat' (first
    | with_reducible assumption | with_reducible apply same_finishDone | with_reducible apply same_hostWrite
    | with_reducible refine same_ite ?_ ?_ | exact avoid hd rfl | (intro _) | split | dsimp only)

end Sys2Proof.Machine
end

