-- ==== Sys2Proof/Laws/SameTouchOps.lean ====
section
/-! SUPPORT. What the operations of Machine/TouchOps.lean leave alone. -/

namespace Sys2Proof.Machine

theorem same_modPort {ps : Nat} {z : State} (s : State) (p : Nat) (f : TouchPort → TouchPort) (hd : ps &&& 0x100000 = 0) (hw : Same ps z s) :
    Same ps z (modPort s p f) := by
  unfold modPort
  try dsimp only
  repeat' (first
    | with_reducible assumption | with_reducible refine same_modTouch ?_ ?_ | with_reducible refine same_ite ?_ ?_
    | exact avoid hd rfl | (intro _) | split | dsimp only)

theorem same_countTicks {ps : Nat} {z : State} (s : State) (hd : ps &&& 0x100000 = 0) (hw : Same ps z s) :
    Same ps z (countTicks s) := by
  unfold countTicks
  try dsimp only
  repeat' (first
    | with_reducible assumption | with_reducible apply same_modPort | with_reducible refine same_foldl ?_ ?_
    | with_reducible refine same_ite ?_ ?_ | exact avoid hd rfl | (intro _) | split | dsimp only)

theorem same_beginScan {ps : Nat} {z : State} (s : State) (p : Nat) (hd : ps &&& 0x100040 = 0) (hw : Same ps z s) :
    Same ps z (beginScan s p) := by
  unfold beginScan
  try dsimp only
  repeat' (first
    | with_reducible assumption | with_reducible apply same_raise | with_reducible apply same_modPort
    | with_reducible refine same_ite ?_ ?_ | exact avoid hd rfl | (intro _) | split | dsimp only)

theorem same_finishSave {ps : Nat} {z : State} (s : State) (f : Flight) (hd : ps &&& 0x201083C = 0) (hw : Same ps z s) :
    Same ps z (finishSave s f) := by
  unfold finishSave
  try dsimp only
  repeat' (first
    | with_reducible assumption | with_reducible apply same_finishDone | with_reducible apply same_hostWrite
    | with_reducible refine same_ite ?_ ?_ | exact avoid hd rfl | (intro _) | split | dsimp only)

theorem same_captureScan {ps : Nat} {z : State} (s : State) (p : Nat) (c : Scan) (hd : ps &&& 0x211083C = 0) (hw : Same ps z s) :
    Same ps z (captureScan s p c) := by
  unfold captureScan
  try dsimp only
  repeat' (first
    | with_reducible assumption | with_reducible apply same_modPort | with_reducible apply same_finishSave
    | with_reducible refine same_foldl ?_ ?_ | with_reducible refine same_ite ?_ ?_ | exact avoid hd rfl | (intro _)
    | split | dsimp only)

theorem same_endScan {ps : Nat} {z : State} (s : State) (p last : Nat) (c : Scan) (hd : ps &&& 0x211283C = 0) (hw : Same ps z s) :
    Same ps z (endScan s p last c) := by
  unfold endScan
  try dsimp only
  repeat' (first
    | with_reducible assumption | with_reducible apply same_modPort | with_reducible apply same_noteMoved
    | with_reducible apply same_finishDone | with_reducible refine same_ite ?_ ?_ | exact avoid hd rfl | (intro _)
    | split | dsimp only)

theorem same_endStep {ps : Nat} {z : State} (s : State) (p first last : Nat) (iq : List (Int × Int)) (hd : ps &&& 0x211283C = 0) (hw : Same ps z s) :
    Same ps z (endStep s p first last iq) := by
  unfold endStep
  try dsimp only
  repeat' (first
    | with_reducible assumption | with_reducible apply same_modPort | with_reducible apply same_endScan
    | with_reducible refine same_foldl ?_ ?_ | with_reducible refine same_foldl_1 ?_ ?_
    | with_reducible refine same_foldl_2 ?_ ?_ | with_reducible refine same_foldl_22 ?_ ?_
    | with_reducible refine same_ite ?_ ?_ | exact avoid hd rfl | (intro _) | split | dsimp only)

theorem same_stopTx {ps : Nat} {z : State} (s : State) (p tx : Nat) (hd : ps &&& 0x21108FC = 0) (hw : Same ps z s) :
    Same ps z (stopTx s p tx) := by
  unfold stopTx
  try dsimp only
  repeat' (first
    | with_reducible assumption | with_reducible apply same_assert | with_reducible apply same_raise
    | with_reducible apply same_modPort | with_reducible refine same_ite ?_ ?_ | exact avoid hd rfl | (intro _) | split
    | dsimp only)

theorem same_abortScans {ps : Nat} {z : State} (s : State) (hd : ps &&& 0x100040 = 0) (hw : Same ps z s) :
    Same ps z (abortScans s) := by
  unfold abortScans
  try dsimp only
  repeat' (first
    | with_reducible assumption | with_reducible apply same_raise | with_reducible apply same_modPort
    | with_reducible refine same_foldl ?_ ?_ | with_reducible refine same_ite ?_ ?_ | exact avoid hd rfl | (intro _)
    | split | dsimp only)

theorem same_endSelftest {ps : Nat} {z : State} (s : State) (p : Nat) (gnd sup next : List Nat) (opens : List Int) (hd : ps &&& 0x211083C = 0) (hw : Same ps z s) :
    Same ps z (endSelftest s p gnd sup next opens) := by
  unfold endSelftest
  try dsimp only
  repeat' (first
    | with_reducible assumption | with_reducible apply same_modPort | with_reducible apply same_finishDone
    | with_reducible apply same_hostWrite | with_reducible refine same_ite ?_ ?_ | exact avoid hd rfl | (intro _)
    | split | dsimp only)

theorem same_startTouchPortConfig {ps : Nat} {z : State} (s : State) (f : Flight) (hd : ps &&& 0x211083C = 0) (hw : Same ps z s) :
    Same ps z (startTouchPortConfig s f) := by
  unfold startTouchPortConfig
  try dsimp only
  repeat' (first
    | with_reducible assumption | with_reducible apply same_finishDone | with_reducible apply same_modPort
    | with_reducible refine same_ite ?_ ?_ | exact avoid hd rfl | (intro _) | split | dsimp only)

theorem same_startScanConfig {ps : Nat} {z : State} (s : State) (f : Flight) (hd : ps &&& 0x211083C = 0) (hw : Same ps z s) :
    Same ps z (startScanConfig s f) := by
  unfold startScanConfig
  try dsimp only
  repeat' (first
    | with_reducible assumption | with_reducible apply same_await | with_reducible apply same_finishDone
    | with_reducible apply same_modPort | with_reducible refine same_ite ?_ ?_ | exact avoid hd rfl | (intro _) | split
    | dsimp only)

theorem same_startBaselineLoad {ps : Nat} {z : State} (s : State) (f : Flight) (hd : ps &&& 0x211083C = 0) (hw : Same ps z s) :
    Same ps z (startBaselineLoad s f) := by
  unfold startBaselineLoad
  try dsimp only
  repeat' (first
    | with_reducible assumption | with_reducible apply same_finishDone | with_reducible apply same_setFlight
    | with_reducible apply same_modPort | with_reducible refine same_ite ?_ ?_ | exact avoid hd rfl | (intro _) | split
    | dsimp only)

theorem same_startBaselineSave {ps : Nat} {z : State} (s : State) (f : Flight) (hd : ps &&& 0x201083C = 0) (hw : Same ps z s) :
    Same ps z (startBaselineSave s f) := by
  unfold startBaselineSave
  try dsimp only
  repeat' (first
    | with_reducible assumption | with_reducible apply same_await | with_reducible apply same_finishSave
    | with_reducible refine same_ite ?_ ?_ | exact avoid hd rfl | (intro _) | split | dsimp only)

theorem same_startSelftest {ps : Nat} {z : State} (s : State) (f : Flight) (hd : ps &&& 0x100800 = 0) (hw : Same ps z s) :
    Same ps z (startSelftest s f) := by
  unfold startSelftest
  try dsimp only
  repeat' (first
    | with_reducible assumption | with_reducible apply same_await | with_reducible apply same_modPort
    | with_reducible refine same_ite ?_ ?_ | exact avoid hd rfl | (intro _) | split | dsimp only)

theorem same_startScan {ps : Nat} {z : State} (calibrate keys : State → Flight → State) (s : State) (p : Nat) (hcalibrate : ∀ (x0 : State) (x1 : Flight), Same ps z x0 → Same ps z (calibrate x0 x1)) (hkeys : ∀ (x0 : State) (x1 : Flight), Same ps z x0 → Same ps z (keys x0 x1)) (hd : ps &&& 0x211087C = 0) (hw : Same ps z s) :
    Same ps z (startScan calibrate keys s p) := by
  unfold startScan
  try dsimp only
  repeat' (first
    | with_reducible assumption | with_reducible apply same_modPort | with_reducible apply same_raise
    | with_reducible apply same_finishDone | with_reducible apply same_beginScan
    | with_reducible refine same_foldl ?_ ?_ | with_reducible apply hcalibrate | with_reducible apply hkeys
    | with_reducible refine same_ite ?_ ?_ | exact avoid hd rfl | (intro _) | split | dsimp only)

end Sys2Proof.Machine
end

