-- ==== Sys2Proof/Laws/SameWardenOps.lean ====
section
/-! SUPPORT. What the operations of Machine/WardenOps.lean leave alone. -/

namespace Sys2Proof.Machine

theorem same_setApplet {ps : Nat} {z : State} (s : State) (n : Nat) (v : Applet) (hd : ps &&& 0x400000 = 0) (hw : Same ps z s) :
    Same ps z (setApplet s n v) := by
  unfold setApplet
  try dsimp only
  repeat' (first
    | with_reducible assumption | with_reducible refine same_modWd ?_ ?_ | with_reducible refine same_ite ?_ ?_
    | exact avoid hd rfl | (intro _) | split | dsimp only)

theorem same_zeroiseSecure {ps : Nat} {z : State} (s : State) (shelves plots : List Nat) (hd : ps &&& 0x42000 = 0) (hw : Same ps z s) :
    Same ps z (zeroiseSecure s shelves plots) := by
  unfold zeroiseSecure
  try dsimp only
  repeat' (first
    | with_reducible assumption | with_reducible apply same_zeroiseShelf | with_reducible apply same_zeroisePlot
    | with_reducible refine same_foldl ?_ ?_ | with_reducible refine same_ite ?_ ?_ | exact avoid hd rfl | (intro _)
    | split | dsimp only)

theorem same_measurementRecord {ps : Nat} {z : State} (s : State) (guest : Bool) (nonce : List Byte) (hd : ps &&& 0x8000000 = 0)
    (hw : Same ps z s) : Same ps z (measurementRecord s guest nonce).2 := by
  unfold measurementRecord
  exact same_freshBytes s 96 (avoid hd rfl) hw

theorem same_startMeasurements {ps : Nat} {z : State} (s : State) (f : Flight) (hd : ps &&& 0x800 = 0) (hw : Same ps z s) :
    Same ps z (startMeasurements s f) := by
  unfold startMeasurements
  try dsimp only
  repeat' (first
    | with_reducible assumption | with_reducible apply same_await | with_reducible refine same_ite ?_ ?_
    | exact avoid hd rfl | (intro _) | split | dsimp only)

theorem same_endMeasurements {ps : Nat} {z : State} (s : State) (f : Flight) (hd : ps &&& 0xA01083C = 0) (hw : Same ps z s) :
    Same ps z (endMeasurements s f) := by
  unfold endMeasurements
  try dsimp only
  repeat' (first
    | with_reducible assumption | with_reducible apply same_measurementRecord | with_reducible apply same_finishDone
    | with_reducible apply same_hostWrite | with_reducible refine same_ite ?_ ?_ | exact avoid hd rfl | (intro _)
    | split | dsimp only)

theorem same_startAppletLoad {ps : Nat} {z : State} (s : State) (f : Flight) (hd : ps &&& 0x800 = 0) (hw : Same ps z s) :
    Same ps z (startAppletLoad s f) := by
  unfold startAppletLoad
  try dsimp only
  repeat' (first
    | with_reducible assumption | with_reducible apply same_await | with_reducible refine same_ite ?_ ?_
    | exact avoid hd rfl | (intro _) | split | dsimp only)

theorem same_emptyApplet {ps : Nat} {z : State} (s : State) (n : Nat) (hd : ps &&& 0x442000 = 0) (hw : Same ps z s) :
    Same ps z (emptyApplet s n) := by
  unfold emptyApplet
  try dsimp only
  repeat' (first
    | with_reducible assumption | with_reducible apply same_setApplet | with_reducible apply same_zeroiseSecure
    | with_reducible refine same_ite ?_ ?_ | exact avoid hd rfl | (intro _) | split | dsimp only)

theorem same_placeApplet {ps : Nat} {z : State} (s : State) (n : Nat) (b : List Byte) (addr len : Nat) (hd : ps &&& 0x442000 = 0) (hw : Same ps z s) :
    Same ps z (placeApplet s n b addr len) := by
  unfold placeApplet
  try dsimp only
  repeat' (first
    | with_reducible assumption | with_reducible apply same_emptyApplet | with_reducible apply same_setApplet
    | with_reducible refine same_ite ?_ ?_ | exact avoid hd rfl | (intro _) | split | dsimp only)

theorem same_endAppletLoad {ps : Nat} {z : State} (s : State) (f : Flight) (good : Bool) (hd : ps &&& 0x245283C = 0) (hw : Same ps z s) :
    Same ps z (endAppletLoad s f good) := by
  unfold endAppletLoad
  try dsimp only
  repeat' (first
    | with_reducible assumption | with_reducible apply same_finishWith | with_reducible apply same_finishDone
    | with_reducible apply same_emptyApplet | with_reducible apply same_finish | with_reducible apply same_placeApplet
    | with_reducible refine same_ite ?_ ?_ | exact avoid hd rfl | (intro _) | split | dsimp only)

theorem same_startAppletStart {ps : Nat} {z : State} (s : State) (f : Flight) (hd : ps &&& 0x400800 = 0) (hw : Same ps z s) :
    Same ps z (startAppletStart s f) := by
  unfold startAppletStart
  try dsimp only
  repeat' (first
    | with_reducible assumption | with_reducible apply same_setApplet | with_reducible apply same_await
    | with_reducible refine same_ite ?_ ?_ | exact avoid hd rfl | (intro _) | split | dsimp only)

theorem same_modSecure {ps : Nat} {z : State} (s : State) (f : SecureLayer → SecureLayer) (hd : ps &&& 0x400000 = 0) (hw : Same ps z s) :
    Same ps z (modSecure s f) := by
  unfold modSecure
  try dsimp only
  repeat' (first
    | with_reducible assumption | with_reducible refine same_modWd ?_ ?_ | with_reducible refine same_ite ?_ ?_
    | exact avoid hd rfl | (intro _) | split | dsimp only)

theorem same_leaveFrom {ps : Nat} {z : State} (s : State) (at' : Nat) (p : SecureLayer → Bool) (hd : ps &&& 0x400000 = 0) (hw : Same ps z s) :
    Same ps z (leaveFrom s at' p) := by
  unfold leaveFrom
  try dsimp only
  repeat' (first
    | with_reducible assumption | with_reducible apply same_modSecure | with_reducible refine same_ite ?_ ?_
    | exact avoid hd rfl | (intro _) | split | dsimp only)

theorem same_endApplet {ps : Nat} {z : State} (s : State) (n : Nat) (v : Verdict) (leave : Bool) (hd : ps &&& 0x245283C = 0) (hw : Same ps z s) :
    Same ps z (endApplet s n v leave) := by
  unfold endApplet
  try dsimp only
  repeat' (first
    | with_reducible assumption | with_reducible apply same_finish | with_reducible apply same_setApplet
    | with_reducible apply same_zeroiseSecure | with_reducible apply same_leaveFrom
    | with_reducible refine same_ite ?_ ?_ | exact avoid hd rfl | (intro _) | split | dsimp only)

theorem same_appletEnds {ps : Nat} {z : State} (s : State) (n code : Nat) (result : List Byte) (hd : ps &&& 0x245283C = 0) (hw : Same ps z s) :
    Same ps z (appletEnds s n code result) := by
  unfold appletEnds
  try dsimp only
  repeat' (first
    | with_reducible assumption | with_reducible apply same_hostWrite | with_reducible apply same_endApplet
    | with_reducible refine same_ite ?_ ?_ | exact avoid hd rfl | (intro _) | split | dsimp only)

theorem same_appletLimit {ps : Nat} {z : State} (s : State) (n : Nat) (hd : ps &&& 0x245283C = 0) (hw : Same ps z s) :
    Same ps z (appletLimit s n) := by
  unfold appletLimit
  try dsimp only
  repeat' (first
    | with_reducible assumption | with_reducible apply same_endApplet | with_reducible refine same_ite ?_ ?_
    | exact avoid hd rfl | (intro _) | split | dsimp only)

theorem same_startAppletStop {ps : Nat} {z : State} (s : State) (f : Flight) (hd : ps &&& 0x800 = 0) (hw : Same ps z s) :
    Same ps z (startAppletStop s f) := by
  unfold startAppletStop
  try dsimp only
  repeat' (first
    | with_reducible assumption | with_reducible apply same_await | with_reducible refine same_ite ?_ ?_
    | exact avoid hd rfl | (intro _) | split | dsimp only)

theorem same_endClientApplets {ps : Nat} {z : State} (s : State) (t : Nat) (hd : ps &&& 0x245283C = 0) (hw : Same ps z s) :
    Same ps z (endClientApplets s t) := by
  unfold endClientApplets
  try dsimp only
  repeat' (first
    | with_reducible assumption | with_reducible apply same_endApplet | with_reducible refine same_foldl ?_ ?_
    | with_reducible refine same_ite ?_ ?_ | exact avoid hd rfl | (intro _) | split | dsimp only)

theorem same_placeSecureRing {ps : Nat} {z : State} (s : State) (sl n : Nat) (hd : ps &&& 0x42000 = 0) (hw : Same ps z s) :
    Same ps z (placeSecureRing s sl n) := by
  unfold placeSecureRing
  try dsimp only
  repeat' (first
    | with_reducible assumption | with_reducible apply same_setRing | with_reducible apply same_zeroiseSecure
    | with_reducible refine same_ite ?_ ?_ | exact avoid hd rfl | (intro _) | split | dsimp only)

theorem same_startSecureLayer {ps : Nat} {z : State} (s : State) (f : Flight) (hd : ps &&& 0x400800 = 0) (hw : Same ps z s) :
    Same ps z (startSecureLayer s f) := by
  unfold startSecureLayer
  try dsimp only
  repeat' (first
    | with_reducible assumption | with_reducible apply same_modSecure | with_reducible apply same_await
    | with_reducible refine same_ite ?_ ?_ | exact avoid hd rfl | (intro _) | split | dsimp only)

theorem same_attachLayer {ps : Nat} {z : State} (s : State) (f : Flight) (hd : ps &&& 0x245683C = 0) (hw : Same ps z s) :
    Same ps z (attachLayer s f) := by
  unfold attachLayer
  try dsimp only
  repeat' (first
    | with_reducible assumption | with_reducible apply same_finishAborted | with_reducible apply same_placeSecureRing
    | with_reducible apply same_modSlot | with_reducible apply same_finishDone | with_reducible refine same_modWd ?_ ?_
    | with_reducible refine same_ite ?_ ?_ | exact avoid hd rfl | (intro _) | split | dsimp only)

theorem same_returnLayer {ps : Nat} {z : State} (s : State) (sl : Nat) (hd : ps &&& 0x446000 = 0) (hw : Same ps z s) :
    Same ps z (returnLayer s sl) := by
  unfold returnLayer
  try dsimp only
  repeat' (first
    | with_reducible assumption | with_reducible refine same_modSr ?_ ?_ | with_reducible apply same_zeroiseSecure
    | with_reducible apply same_modSlot | with_reducible refine same_modWd ?_ ?_ | with_reducible refine same_ite ?_ ?_
    | exact avoid hd rfl | (intro _) | split | dsimp only)

theorem same_latchSecure {ps : Nat} {z : State} (s : State) (h : Nat) (hd : ps &&& 0x245683C = 0) (hw : Same ps z s) :
    Same ps z (latchSecure s h) := by
  unfold latchSecure
  try dsimp only
  repeat' (first
    | with_reducible assumption | with_reducible apply same_returnLayer | with_reducible apply same_attachLayer
    | with_reducible apply same_finishDone | with_reducible refine same_foldl ?_ ?_
    | with_reducible refine same_ite ?_ ?_ | exact avoid hd rfl | (intro _) | split | dsimp only)

theorem same_fallBack {ps : Nat} {z : State} (s : State) (h : Nat) (hd : ps &&& 0x400040 = 0) (hw : Same ps z s) :
    Same ps z (fallBack s h) := by
  unfold fallBack
  try dsimp only
  repeat' (first
    | with_reducible assumption | with_reducible apply same_raise | with_reducible apply same_modSecure
    | with_reducible refine same_foldl ?_ ?_ | with_reducible refine same_ite ?_ ?_ | exact avoid hd rfl | (intro _)
    | split | dsimp only)

theorem same_dropKey {ps : Nat} {z : State} (s : State) (id : Nat) (hd : ps &&& 0x400000 = 0) (hw : Same ps z s) :
    Same ps z (dropKey s id) := by
  unfold dropKey
  try dsimp only
  repeat' (first
    | with_reducible assumption | with_reducible refine same_modWd ?_ ?_ | with_reducible refine same_ite ?_ ?_
    | exact avoid hd rfl | (intro _) | split | dsimp only)

theorem same_startKeyOffer {ps : Nat} {z : State} (s : State) (f : Flight) (hd : ps &&& 0x800 = 0) (hw : Same ps z s) :
    Same ps z (startKeyOffer s f) := by
  unfold startKeyOffer
  try dsimp only
  repeat' (first
    | with_reducible assumption | with_reducible apply same_await | with_reducible refine same_ite ?_ ?_
    | exact avoid hd rfl | (intro _) | split | dsimp only)

theorem same_endKeyOffer {ps : Nat} {z : State} (s : State) (f : Flight) (body : List Byte) (hd : ps &&& 0x241083C = 0) (hw : Same ps z s) :
    Same ps z (endKeyOffer s f body) := by
  unfold endKeyOffer
  try dsimp only
  repeat' (first
    | with_reducible assumption | with_reducible apply same_hostWrite | with_reducible apply same_finishDone
    | with_reducible refine same_modWd ?_ ?_ | with_reducible refine same_ite ?_ ?_ | exact avoid hd rfl | (intro _)
    | split | dsimp only)

theorem same_startKeyAccept {ps : Nat} {z : State} (s : State) (f : Flight) (hd : ps &&& 0x800 = 0) (hw : Same ps z s) :
    Same ps z (startKeyAccept s f) := by
  unfold startKeyAccept
  try dsimp only
  repeat' (first
    | with_reducible assumption | with_reducible apply same_await | with_reducible refine same_ite ?_ ?_
    | exact avoid hd rfl | (intro _) | split | dsimp only)

theorem same_endKeyAccept {ps : Nat} {z : State} (s : State) (f : Flight) (good : Bool) (body : List Byte) (hd : ps &&& 0x241083C = 0) (hw : Same ps z s) :
    Same ps z (endKeyAccept s f good body) := by
  unfold endKeyAccept
  try dsimp only
  repeat' (first
    | with_reducible assumption | with_reducible apply same_finish | with_reducible apply same_finishDone
    | with_reducible refine same_modWd ?_ ?_ | with_reducible apply same_finishWith
    | with_reducible apply same_hostWrite | with_reducible refine same_ite ?_ ?_ | exact avoid hd rfl | (intro _)
    | split | dsimp only)

theorem same_startKeyDestroy {ps : Nat} {z : State} (s : State) (f : Flight) (hd : ps &&& 0x800 = 0) (hw : Same ps z s) :
    Same ps z (startKeyDestroy s f) := by
  unfold startKeyDestroy
  try dsimp only
  repeat' (first
    | with_reducible assumption | with_reducible apply same_await | with_reducible refine same_ite ?_ ?_
    | exact avoid hd rfl | (intro _) | split | dsimp only)

theorem same_endKeyDestroy {ps : Nat} {z : State} (s : State) (f : Flight) (hd : ps &&& 0x241083C = 0) (hw : Same ps z s) :
    Same ps z (endKeyDestroy s f) := by
  unfold endKeyDestroy
  try dsimp only
  repeat' (first
    | with_reducible assumption | with_reducible apply same_finishDone | with_reducible apply same_dropKey
    | with_reducible refine same_ite ?_ ?_ | exact avoid hd rfl | (intro _) | split | dsimp only)

theorem same_dropSecureContacts {ps : Nat} {z : State} (s : State) (hd : ps &&& 0x100000 = 0) (hw : Same ps z s) :
    Same ps z (dropSecureContacts s) := by
  unfold dropSecureContacts
  try dsimp only
  repeat' (first
    | with_reducible assumption | with_reducible refine same_modTouch ?_ ?_ | with_reducible refine same_ite ?_ ?_
    | exact avoid hd rfl | (intro _) | split | dsimp only)

theorem same_restartWarden {ps : Nat} {z : State} (s : State) (hd : ps &&& 0x25528FC = 0) (hw : Same ps z s) :
    Same ps z (restartWarden s) := by
  unfold restartWarden
  try dsimp only
  repeat' (first
    | with_reducible assumption | with_reducible apply same_endApplet | with_reducible apply same_withdraw
    | with_reducible apply same_dropSecureContacts | with_reducible refine same_modWd ?_ ?_
    | with_reducible apply same_zeroiseSecure | with_reducible apply same_assert | with_reducible apply same_raise
    | with_reducible refine same_foldl ?_ ?_ | with_reducible refine same_ite ?_ ?_ | exact avoid hd rfl | (intro _)
    | split | dsimp only)

theorem same_selfRestart {ps : Nat} {z : State} (s : State) (hd : ps &&& 0x25528FC = 0) (hw : Same ps z s) :
    Same ps z (selfRestart s) := by
  unfold selfRestart
  try dsimp only
  repeat' (first
    | with_reducible assumption | with_reducible apply same_restartWarden | with_reducible refine same_ite ?_ ?_
    | exact avoid hd rfl | (intro _) | split | dsimp only)

theorem same_heartbeat {ps : Nat} {z : State} (s : State) (hd : ps &&& 0x400000 = 0) (hw : Same ps z s) :
    Same ps z (heartbeat s) := by
  unfold heartbeat
  try dsimp only
  repeat' (first
    | with_reducible assumption | with_reducible refine same_modWd ?_ ?_ | with_reducible refine same_ite ?_ ?_
    | exact avoid hd rfl | (intro _) | split | dsimp only)

theorem same_reloadApplet {ps : Nat} {z : State} (applets : List (Nat × Bool)) (s : State) (n : Nat) (hd : ps &&& 0x442040 = 0) (hw : Same ps z s) :
    Same ps z (reloadApplet applets s n) := by
  unfold reloadApplet
  try dsimp only
  repeat' (first
    | with_reducible assumption | with_reducible apply same_placeApplet | with_reducible apply same_raise
    | with_reducible apply same_emptyApplet | with_reducible refine same_ite ?_ ?_ | exact avoid hd rfl | (intro _)
    | split | dsimp only)

theorem same_resumeWarden {ps : Nat} {z : State} (s : State) (good : Bool) (applets : List (Nat × Bool)) (hd : ps &&& 0x24528FC = 0) (hw : Same ps z s) :
    Same ps z (resumeWarden s good applets) := by
  unfold resumeWarden
  try dsimp only
  repeat' (first
    | with_reducible assumption | with_reducible apply same_assert | with_reducible apply same_raise
    | with_reducible refine same_modWd ?_ ?_ | with_reducible apply same_reloadApplet
    | with_reducible apply same_leaveFrom | with_reducible refine same_foldl ?_ ?_
    | with_reducible refine same_ite ?_ ?_ | exact avoid hd rfl | (intro _) | split | dsimp only)

end Sys2Proof.Machine
end

