-- ==== Sys2Proof/Laws/SameAssayOps.lean ====
section
/-! SUPPORT. What the operations of Machine/AssayOps.lean leave alone. -/

namespace Sys2Proof.Machine

theorem same_setAssay {ps : Nat} {z : State} (s : State) (u : Nat) (v : Assay) (hd : ps &&& 0x8000 = 0) (hw : Same ps z s) :
    Same ps z (setAssay s u v) := by
  unfold setAssay
  try dsimp only
  repeat' (first
    | with_reducible assumption | with_reducible refine same_modAu ?_ ?_ | with_reducible refine same_ite ?_ ?_
    | exact avoid hd rfl | (intro _) | split | dsimp only)

theorem same_modAssay {ps : Nat} {z : State} (s : State) (u : Nat) (f : Assay → Assay) (hd : ps &&& 0x8000 = 0) (hw : Same ps z s) :
    Same ps z (modAssay s u f) := by
  unfold modAssay
  try dsimp only
  repeat' (first
    | with_reducible assumption | with_reducible apply same_setAssay | with_reducible refine same_ite ?_ ?_
    | exact avoid hd rfl | (intro _) | split | dsimp only)

theorem same_landLine {ps : Nat} {z : State} (frame u i : Nat) (second : Bool) (s : State) (m : Nat) (hd : ps &&& 0x205A8FC = 0) (hw : Same ps z s) :
    Same ps z (landLine frame u i second s m) := by
  unfold landLine
  try dsimp only
  repeat' (first
    | with_reducible assumption | with_reducible apply same_countBulk | with_reducible apply same_noteBulk
    | with_reducible apply same_noteMoved | with_reducible refine same_modSr ?_ ?_ | with_reducible apply same_setSrWord
    | with_reducible refine same_modAu ?_ ?_ | with_reducible refine same_foldl ?_ ?_
    | with_reducible refine same_foldl_1 ?_ ?_ | with_reducible refine same_foldl_2 ?_ ?_
    | with_reducible refine same_foldl_22 ?_ ?_ | with_reducible refine same_ite ?_ ?_ | exact avoid hd rfl | (intro _)
    | split | dsimp only)

theorem same_readLanded {ps : Nat} {z : State} (frame u i : Nat) (second : Bool) (s : State) (m : Nat) (hd : ps &&& 0x20128FC = 0) (hw : Same ps z s) :
    Same ps z (readLanded frame u i second s m) := by
  unfold readLanded
  try dsimp only
  repeat' (first
    | with_reducible assumption | with_reducible apply same_noteRead | with_reducible refine same_ite ?_ ?_
    | exact avoid hd rfl | (intro _) | split | dsimp only)

theorem same_conclude {ps : Nat} {z : State} (s : State) (u : Nat) (hidden whole : Bool) (actual : Nat) (expect : Option Nat) (seq next : Nat) (hd : ps &&& 0x20188FC = 0) (hw : Same ps z s) :
    Same ps z (conclude s u hidden whole actual expect seq next) := by
  unfold conclude
  try dsimp only
  repeat' (first
    | with_reducible assumption | with_reducible apply same_setAssay | with_reducible apply same_raise
    | with_reducible apply same_assert | with_reducible refine same_ite ?_ ?_ | exact avoid hd rfl | (intro _) | split
    | dsimp only)

theorem same_landRow {ps : Nat} {z : State} (s : State) (h y : Nat) (sees : Assay → Bool) (hd : ps &&& 0x205A8FC = 0) (hw : Same ps z s) :
    Same ps z (landRow s h y sees) := by
  unfold landRow
  try dsimp only
  repeat' (first
    | with_reducible assumption | with_reducible apply same_landLine | with_reducible refine same_foldl ?_ ?_
    | with_reducible refine same_ite ?_ ?_ | exact avoid hd rfl | (intro _) | split | dsimp only)

theorem same_readRow {ps : Nat} {z : State} (s : State) (h : Nat) (c : HeadCfg) (frame u y : Nat) (hd : ps &&& 0x20128FC = 0) (hw : Same ps z s) :
    Same ps z (readRow s h c frame u y) := by
  unfold readRow
  try dsimp only
  repeat' (first
    | with_reducible assumption | with_reducible apply same_readLanded | with_reducible refine same_foldl ?_ ?_
    | with_reducible refine same_ite ?_ ?_ | exact avoid hd rfl | (intro _) | split | dsimp only)

theorem same_forgetFrame {ps : Nat} {z : State} (s : State) (u frame : Nat) (hd : ps &&& 0x8000 = 0) (hw : Same ps z s) :
    Same ps z (forgetFrame s u frame) := by
  unfold forgetFrame
  try dsimp only
  repeat' (first
    | with_reducible assumption | with_reducible refine same_modAu ?_ ?_ | with_reducible refine same_ite ?_ ?_
    | exact avoid hd rfl | (intro _) | split | dsimp only)

theorem same_forgetLanded {ps : Nat} {z : State} (s : State) (u : Nat) (hd : ps &&& 0x8000 = 0) (hw : Same ps z s) :
    Same ps z (forgetLanded s u) := by
  unfold forgetLanded
  try dsimp only
  repeat' (first
    | with_reducible assumption | with_reducible refine same_modAu ?_ ?_ | with_reducible refine same_ite ?_ ?_
    | exact avoid hd rfl | (intro _) | split | dsimp only)

theorem same_feedLine {ps : Nat} {z : State} (s : State) (h y frame : Nat) (plain drawn : List Nat) (sees : Assay → Bool) (hd : ps &&& 0x201A8FC = 0) (hw : Same ps z s) :
    Same ps z (feedLine s h y frame plain drawn sees) := by
  unfold feedLine
  try dsimp only
  repeat' (first
    | with_reducible assumption | with_reducible apply same_setAssay | with_reducible apply same_readRow
    | with_reducible apply same_noteMoved | with_reducible refine same_foldl ?_ ?_
    | with_reducible refine same_foldl_1 ?_ ?_ | with_reducible refine same_foldl_2 ?_ ?_
    | with_reducible refine same_foldl_22 ?_ ?_ | with_reducible refine same_ite ?_ ?_ | exact avoid hd rfl | (intro _)
    | split | dsimp only)

theorem same_compareHead {ps : Nat} {z : State} (s : State) (h : Nat) (hd : ps &&& 0x20188FC = 0) (hw : Same ps z s) :
    Same ps z (compareHead s h) := by
  unfold compareHead
  try dsimp only
  repeat' (first
    | with_reducible assumption | with_reducible apply same_forgetFrame | with_reducible apply same_conclude
    | with_reducible apply same_setAssay | with_reducible refine same_foldl ?_ ?_
    | with_reducible refine same_foldl_1 ?_ ?_ | with_reducible refine same_foldl_2 ?_ ?_
    | with_reducible refine same_foldl_22 ?_ ?_ | with_reducible refine same_ite ?_ ?_ | exact avoid hd rfl | (intro _)
    | split | dsimp only)

theorem same_foldDma {ps : Nat} {z : State} (s : State) (k : Nat) (data : Option (List Byte)) (f : Flight) (hd : ps &&& 0x20188FC = 0) (hw : Same ps z s) :
    Same ps z (foldDma s k data f) := by
  unfold foldDma
  try dsimp only
  repeat' (first
    | with_reducible assumption | with_reducible apply same_setAssay | with_reducible apply same_conclude
    | with_reducible refine same_foldl ?_ ?_ | with_reducible refine same_ite ?_ ?_ | exact avoid hd rfl | (intro _)
    | split | dsimp only)

theorem same_windowPiece {ps : Nat} {z : State} (u : Nat) (s : State) (p : Nat × List Byte) (hd : ps &&& 0x20188FC = 0) (hw : Same ps z s) :
    Same ps z (windowPiece u s p) := by
  unfold windowPiece
  try dsimp only
  repeat' (first
    | with_reducible assumption | with_reducible apply same_conclude | with_reducible apply same_setAssay
    | with_reducible refine same_ite ?_ ?_ | exact avoid hd rfl | (intro _) | split | dsimp only)

theorem same_feedWrite {ps : Nat} {z : State} (s : State) (a : Nat) (bs : List Byte) (hd : ps &&& 0x20188FC = 0) (hw : Same ps z s) :
    Same ps z (feedWrite s a bs) := by
  unfold feedWrite
  try dsimp only
  repeat' (first
    | with_reducible assumption | with_reducible apply same_windowPiece | with_reducible refine same_foldl ?_ ?_
    | with_reducible refine same_ite ?_ ?_ | exact avoid hd rfl | (intro _) | split | dsimp only)

theorem same_feedAudio {ps : Nat} {z : State} (s : State) (k n : Nat) (hd : ps &&& 0x8000 = 0) (hw : Same ps z s) :
    Same ps z (feedAudio s k n) := by
  unfold feedAudio
  try dsimp only
  repeat' (first
    | with_reducible assumption | with_reducible apply same_setAssay | with_reducible refine same_foldl ?_ ?_
    | with_reducible refine same_foldl_1 ?_ ?_ | with_reducible refine same_foldl_2 ?_ ?_
    | with_reducible refine same_foldl_22 ?_ ?_ | with_reducible refine same_ite ?_ ?_ | exact avoid hd rfl | (intro _)
    | split | dsimp only)

theorem same_compareAudio {ps : Nat} {z : State} (s : State) (k : Nat) (hd : ps &&& 0x20188FC = 0) (hw : Same ps z s) :
    Same ps z (compareAudio s k) := by
  unfold compareAudio
  try dsimp only
  repeat' (first
    | with_reducible assumption | with_reducible apply same_conclude | with_reducible refine same_foldl ?_ ?_
    | with_reducible refine same_foldl_1 ?_ ?_ | with_reducible refine same_foldl_2 ?_ ?_
    | with_reducible refine same_foldl_22 ?_ ?_ | with_reducible refine same_ite ?_ ?_ | exact avoid hd rfl | (intro _)
    | split | dsimp only)

theorem same_readSprite {ps : Nat} {z : State} (s : State) (v : Sprite) (hd : ps &&& 0x20128FC = 0) (hw : Same ps z s) :
    Same ps z (readSprite s v) := by
  unfold readSprite
  try dsimp only
  repeat' (first
    | with_reducible assumption | with_reducible apply same_noteRead | with_reducible apply same_srAccessFault
    | with_reducible refine same_foldl ?_ ?_ | with_reducible refine same_foldl_1 ?_ ?_
    | with_reducible refine same_foldl_2 ?_ ?_ | with_reducible refine same_foldl_22 ?_ ?_
    | with_reducible refine same_ite ?_ ?_ | exact avoid hd rfl | (intro _) | split | dsimp only)

theorem same_ttFault {ps : Nat} {z : State} (s : State) (hd : ps &&& 0x20108FC = 0) (hw : Same ps z s) :
    Same ps z (ttFault s) := by
  unfold ttFault
  try dsimp only
  repeat' (first
    | with_reducible assumption | with_reducible apply same_assert | with_reducible apply same_raise
    | with_reducible refine same_ite ?_ ?_ | exact avoid hd rfl | (intro _) | split | dsimp only)

theorem same_setSprite {ps : Nat} {z : State} (s : State) (h n : Nat) (v : Sprite) (hd : ps &&& 0x201A8FC = 0) (hw : Same ps z s) :
    Same ps z (setSprite s h n v) := by
  unfold setSprite
  try dsimp only
  repeat' (first
    | with_reducible assumption | with_reducible apply same_readSprite | with_reducible refine same_modAu ?_ ?_
    | with_reducible apply same_ttFault | with_reducible refine same_ite ?_ ?_ | exact avoid hd rfl | (intro _) | split
    | dsimp only)

theorem same_setPalette {ps : Nat} {z : State} (s : State) (h i v : Nat) (hd : ps &&& 0x8000 = 0) (hw : Same ps z s) :
    Same ps z (setPalette s h i v) := by
  unfold setPalette
  try dsimp only
  repeat' (first
    | with_reducible assumption | with_reducible refine same_modAu ?_ ?_ | with_reducible refine same_ite ?_ ?_
    | exact avoid hd rfl | (intro _) | split | dsimp only)

theorem same_showTelltales {ps : Nat} {z : State} (s : State) (h : Nat) (hd : ps &&& 0x201A8FC = 0) (hw : Same ps z s) :
    Same ps z (showTelltales s h) := by
  unfold showTelltales
  try dsimp only
  repeat' (first
    | with_reducible assumption | with_reducible apply same_readSprite | with_reducible refine same_modAu ?_ ?_
    | with_reducible apply same_ttFault | with_reducible refine same_foldl ?_ ?_ | with_reducible refine same_ite ?_ ?_
    | exact avoid hd rfl | (intro _) | split | dsimp only)

theorem same_startAssayAlloc {ps : Nat} {z : State} (s : State) (f : Flight) (hd : ps &&& 0x201887C = 0) (hw : Same ps z s) :
    Same ps z (startAssayAlloc s f) := by
  unfold startAssayAlloc
  try dsimp only
  repeat' (first
    | with_reducible assumption | with_reducible apply same_finishWith | with_reducible apply same_setAssay
    | with_reducible apply same_finishDone | with_reducible apply same_renewSource
    | with_reducible refine same_ite ?_ ?_ | exact avoid hd rfl | (intro _) | split | dsimp only)

theorem same_commitShadowRegion {ps : Nat} {z : State} (s : State) (f : Flight) (hd : ps &&& 0x1000 = 0) (hw : Same ps z s) :
    Same ps z (commitShadowRegion s f) := by
  unfold commitShadowRegion
  try dsimp only
  repeat' (first
    | with_reducible assumption | with_reducible refine same_modCharges ?_ ?_ | with_reducible refine same_ite ?_ ?_
    | exact avoid hd rfl | (intro _) | split | dsimp only)

theorem same_commitAssayEnd {ps : Nat} {z : State} (s : State) (f : Flight) (hd : ps &&& 0x1000 = 0) (hw : Same ps z s) :
    Same ps z (commitAssayEnd s f) := by
  unfold commitAssayEnd
  try dsimp only
  repeat' (first
    | with_reducible assumption | with_reducible refine same_modCharges ?_ ?_ | with_reducible refine same_ite ?_ ?_
    | exact avoid hd rfl | (intro _) | split | dsimp only)

theorem same_endBinding {ps : Nat} {z : State} (s : State) (u : Nat) (hd : ps &&& 0x1000 = 0) (hw : Same ps z s) :
    Same ps z (endBinding s u) := by
  unfold endBinding
  try dsimp only
  repeat' (first
    | with_reducible assumption | with_reducible refine same_modCharges ?_ ?_ | with_reducible refine same_ite ?_ ?_
    | exact avoid hd rfl | (intro _) | split | dsimp only)

theorem same_applyAssay {ps : Nat} {z : State} (s : State) (f : Flight) (hd : ps &&& 0x9060 = 0) (hw : Same ps z s) :
    Same ps z (applyAssay s f) := by
  unfold applyAssay
  try dsimp only
  repeat' (first
    | with_reducible assumption | with_reducible apply same_modAssay | with_reducible apply same_forgetLanded
    | with_reducible apply same_renewSource | with_reducible apply same_setAssay | with_reducible apply same_endBinding
    | with_reducible refine same_ite ?_ ?_ | exact avoid hd rfl | (intro _) | split | dsimp only)

theorem same_startAssay {ps : Nat} {z : State} (s : State) (f : Flight) (hd : ps &&& 0x201987C = 0) (hw : Same ps z s) :
    Same ps z (startAssay s f) := by
  unfold startAssay
  try dsimp only
  repeat' (first
    | with_reducible assumption | with_reducible apply same_finishDone | with_reducible apply same_applyAssay
    | with_reducible apply same_await | with_reducible refine same_ite ?_ ?_ | exact avoid hd rfl | (intro _) | split
    | dsimp only)

theorem same_applyAudioAssay {ps : Nat} {z : State} (s : State) (k n : Nat) (hd : ps &&& 0x20198FC = 0) (hw : Same ps z s) :
    Same ps z (applyAudioAssay s k n) := by
  unfold applyAudioAssay
  try dsimp only
  repeat' (first
    | with_reducible assumption | with_reducible apply same_finish | with_reducible apply same_missNote
    | with_reducible apply same_finishDone | with_reducible apply same_applyAssay
    | with_reducible refine same_foldl ?_ ?_ | with_reducible refine same_ite ?_ ?_ | exact avoid hd rfl | (intro _)
    | split | dsimp only)

theorem same_startAssayRead {ps : Nat} {z : State} (s : State) (f : Flight) (hd : ps &&& 0x201083C = 0) (hw : Same ps z s) :
    Same ps z (startAssayRead s f) := by
  unfold startAssayRead
  try dsimp only
  repeat' (first
    | with_reducible assumption | with_reducible apply same_finishDone | with_reducible apply same_hostWrite
    | with_reducible refine same_ite ?_ ?_ | exact avoid hd rfl | (intro _) | split | dsimp only)

end Sys2Proof.Machine
end

