-- ==== Sys2Proof/Laws/SameEventOps.lean ====
section
/-! SUPPORT. What the operations of Machine/EventOps.lean leave alone. -/

namespace Sys2Proof.Machine

theorem same_claimEvent {ps : Nat} {z : State} (s : State) (p : Nat) (hd : ps &&& 0x200007C = 0) (hw : Same ps z s) :
    Same ps z (claimEvent s p) := by
  unfold claimEvent
  try dsimp only
  repeat' (first
    | with_reducible assumption | with_reducible apply same_setEvSrc | with_reducible apply same_setEvRing
    | with_reducible apply same_issueRecord | with_reducible refine same_ite ?_ ?_ | exact avoid hd rfl | (intro _)
    | split | dsimp only)

theorem same_ackRecord {ps : Nat} {z : State} (s : State) (r : Nat × Nat × Bool) (hd : ps &&& 0x40 = 0) (hw : Same ps z s) :
    Same ps z (ackRecord s r) := by
  unfold ackRecord
  try dsimp only
  repeat' (first
    | with_reducible assumption | with_reducible apply same_setEvSrc | with_reducible refine same_ite ?_ ?_
    | exact avoid hd rfl | (intro _) | split | dsimp only)

theorem same_dropRecord {ps : Nat} {z : State} (s : State) (r : Nat × Nat × Bool) (hd : ps &&& 0x40 = 0) (hw : Same ps z s) :
    Same ps z (dropRecord s r) := by
  unfold dropRecord
  try dsimp only
  repeat' (first
    | with_reducible assumption | with_reducible apply same_setEvSrc | with_reducible refine same_ite ?_ ?_
    | exact avoid hd rfl | (intro _) | split | dsimp only)

theorem same_disableEvRing {ps : Nat} {z : State} (s : State) (p : Nat) (hd : ps &&& 0x68 = 0) (hw : Same ps z s) :
    Same ps z (disableEvRing s p) := by
  unfold disableEvRing
  try dsimp only
  repeat' (first
    | with_reducible assumption | with_reducible apply same_dropRecord | with_reducible apply same_modFn
    | with_reducible apply same_setEvRing | with_reducible refine same_foldl ?_ ?_
    | with_reducible refine same_ite ?_ ?_ | exact avoid hd rfl | (intro _) | split | dsimp only)

theorem same_startEventRingConfig {ps : Nat} {z : State} (s : State) (f : Flight) (hd : ps &&& 0x201087C = 0) (hw : Same ps z s) :
    Same ps z (startEventRingConfig s f) := by
  unfold startEventRingConfig
  try dsimp only
  repeat' (first
    | with_reducible assumption | with_reducible apply same_finishDone | with_reducible apply same_disableEvRing
    | with_reducible apply same_setEvRing | with_reducible refine same_ite ?_ ?_ | exact avoid hd rfl | (intro _)
    | split | dsimp only)

theorem same_startEventTarget {ps : Nat} {z : State} (s : State) (f : Flight) (hd : ps &&& 0x201097C = 0) (hw : Same ps z s) :
    Same ps z (startEventTarget s f) := by
  unfold startEventTarget
  try dsimp only
  repeat' (first
    | with_reducible assumption | with_reducible apply same_finishDone | with_reducible apply same_modTen
    | with_reducible apply same_setEvSrc | with_reducible refine same_ite ?_ ?_ | exact avoid hd rfl | (intro _) | split
    | dsimp only)

theorem same_startEventMask {ps : Nat} {z : State} (s : State) (f : Flight) (hd : ps &&& 0x201087C = 0) (hw : Same ps z s) :
    Same ps z (startEventMask s f) := by
  unfold startEventMask
  try dsimp only
  repeat' (first
    | with_reducible assumption | with_reducible apply same_setEvSrc | with_reducible apply same_finishDone
    | with_reducible refine same_foldl ?_ ?_ | with_reducible refine same_ite ?_ ?_ | exact avoid hd rfl | (intro _)
    | split | dsimp only)

theorem same_startEventPendSet {ps : Nat} {z : State} (s : State) (f : Flight) (hd : ps &&& 0x201087C = 0) (hw : Same ps z s) :
    Same ps z (startEventPendSet s f) := by
  unfold startEventPendSet
  try dsimp only
  repeat' (first
    | with_reducible assumption | with_reducible apply same_finishDone | with_reducible apply same_setEvSrc
    | with_reducible refine same_ite ?_ ?_ | exact avoid hd rfl | (intro _) | split | dsimp only)

theorem same_startEventGlobalDisable {ps : Nat} {z : State} (s : State) (f : Flight) (hd : ps &&& 0x201087C = 0) (hw : Same ps z s) :
    Same ps z (startEventGlobalDisable s f) := by
  unfold startEventGlobalDisable
  try dsimp only
  repeat' (first
    | with_reducible assumption | with_reducible apply same_finishDone | with_reducible refine same_modEv ?_ ?_
    | with_reducible refine same_ite ?_ ?_ | exact avoid hd rfl | (intro _) | split | dsimp only)

theorem same_startEventStatus {ps : Nat} {z : State} (s : State) (f : Flight) (hd : ps &&& 0x201083C = 0) (hw : Same ps z s) :
    Same ps z (startEventStatus s f) := by
  unfold startEventStatus
  try dsimp only
  repeat' (first
    | with_reducible assumption | with_reducible apply same_finishDone | with_reducible apply same_hostWrite
    | with_reducible refine same_ite ?_ ?_ | exact avoid hd rfl | (intro _) | split | dsimp only)

end Sys2Proof.Machine
end

