-- ==== Sys2Proof/Laws/SameContactOps.lean ====
section
/-! SUPPORT. What the operations of Machine/ContactOps.lean leave alone. -/

namespace Sys2Proof.Machine

theorem same_trackScan {ps : Nat} {z : State} (s : State) (p : Nat) (c : Scan) (ds : List Int) (hd : ps &&& 0x100140 = 0) (hw : Same ps z s) :
    Same ps z (trackScan s p c ds) := by
  unfold trackScan
  try dsimp only
  repeat' (first
    | with_reducible assumption | with_reducible apply same_modTen | with_reducible apply same_raise
    | with_reducible apply same_modPort | with_reducible refine same_foldl ?_ ?_
    | with_reducible refine same_foldl_1 ?_ ?_ | with_reducible refine same_foldl_2 ?_ ?_
    | with_reducible refine same_foldl_22 ?_ ?_ | with_reducible refine same_ite ?_ ?_ | exact avoid hd rfl | (intro _)
    | split | dsimp only)

theorem same_triggerKeys {ps : Nat} {z : State} (s : State) (p : Nat) (hd : ps &&& 0x300040 = 0) (hw : Same ps z s) :
    Same ps z (triggerKeys s p) := by
  unfold triggerKeys
  try dsimp only
  repeat' (first
    | with_reducible assumption | with_reducible apply same_modPort | with_reducible apply same_triggerEffect
    | with_reducible refine same_foldl ?_ ?_ | with_reducible refine same_foldl_1 ?_ ?_
    | with_reducible refine same_foldl_2 ?_ ?_ | with_reducible refine same_foldl_22 ?_ ?_
    | with_reducible refine same_ite ?_ ?_ | exact avoid hd rfl | (intro _) | split | dsimp only)

theorem same_makeProducts {ps : Nat} {z : State} (s : State) (p : Nat) (hd : ps &&& 0x211097C = 0) (hw : Same ps z s) :
    Same ps z (makeProducts s p) := by
  unfold makeProducts
  try dsimp only
  repeat' (first
    | with_reducible assumption | with_reducible apply same_modPort | with_reducible apply same_captureScan
    | with_reducible apply same_raise | with_reducible apply same_trackScan | with_reducible refine same_foldl ?_ ?_
    | with_reducible refine same_ite ?_ ?_ | exact avoid hd rfl | (intro _) | split | dsimp only)

theorem same_markStale {ps : Nat} {z : State} (s : State) (p id : Nat) (hd : ps &&& 0x100040 = 0) (hw : Same ps z s) :
    Same ps z (markStale s p id) := by
  unfold markStale
  try dsimp only
  repeat' (first
    | with_reducible assumption | with_reducible apply same_modPort | with_reducible apply same_raise
    | with_reducible refine same_ite ?_ ?_ | exact avoid hd rfl | (intro _) | split | dsimp only)

theorem same_writeReport {ps : Nat} {z : State} (s : State) (p t last : Nat) (first : Bool) (hd : ps &&& 0x2100040 = 0) (hw : Same ps z s) :
    Same ps z (writeReport s p t last first) := by
  unfold writeReport
  try dsimp only
  repeat' (first
    | with_reducible assumption | with_reducible apply same_modPort | with_reducible apply same_hostWrite
    | with_reducible apply same_raise | with_reducible refine same_ite ?_ ?_ | exact avoid hd rfl | (intro _) | split
    | dsimp only)

theorem same_writeReports {ps : Nat} {z : State} (s : State) (p : Nat) (hd : ps &&& 0x2100040 = 0) (hw : Same ps z s) :
    Same ps z (writeReports s p) := by
  unfold writeReports
  try dsimp only
  repeat' (first
    | with_reducible assumption | with_reducible apply same_modPort | with_reducible refine same_modTouch ?_ ?_
    | with_reducible apply same_writeReport | with_reducible refine same_foldl ?_ ?_
    | with_reducible refine same_ite ?_ ?_ | exact avoid hd rfl | (intro _) | split | dsimp only)

theorem same_startCalibration {ps : Nat} {z : State} (s : State) (f : Flight) (hd : ps &&& 0x800 = 0) (hw : Same ps z s) :
    Same ps z (startCalibration s f) := by
  unfold startCalibration
  try dsimp only
  repeat' (first
    | with_reducible assumption | with_reducible apply same_await | with_reducible refine same_ite ?_ ?_
    | exact avoid hd rfl | (intro _) | split | dsimp only)

theorem same_applyCalibration {ps : Nat} {z : State} (s : State) (f : Flight) (hd : ps &&& 0x211083C = 0) (hw : Same ps z s) :
    Same ps z (applyCalibration s f) := by
  unfold applyCalibration
  try dsimp only
  repeat' (first
    | with_reducible assumption | with_reducible apply same_finishDone | with_reducible apply same_modPort
    | with_reducible refine same_ite ?_ ?_ | exact avoid hd rfl | (intro _) | split | dsimp only)

theorem same_startTouchKeys {ps : Nat} {z : State} (s : State) (f : Flight) (hd : ps &&& 0x800 = 0) (hw : Same ps z s) :
    Same ps z (startTouchKeys s f) := by
  unfold startTouchKeys
  try dsimp only
  repeat' (first
    | with_reducible assumption | with_reducible apply same_await | with_reducible refine same_ite ?_ ?_
    | exact avoid hd rfl | (intro _) | split | dsimp only)

theorem same_applyTouchKeys {ps : Nat} {z : State} (s : State) (f : Flight) (hd : ps &&& 0x211083C = 0) (hw : Same ps z s) :
    Same ps z (applyTouchKeys s f) := by
  unfold applyTouchKeys
  try dsimp only
  repeat' (first
    | with_reducible assumption | with_reducible apply same_finishDone | with_reducible apply same_modPort
    | with_reducible refine same_ite ?_ ?_ | exact avoid hd rfl | (intro _) | split | dsimp only)

theorem same_startReportRing {ps : Nat} {z : State} (s : State) (f : Flight) (hd : ps &&& 0x211083C = 0) (hw : Same ps z s) :
    Same ps z (startReportRing s f) := by
  unfold startReportRing
  try dsimp only
  repeat' (first
    | with_reducible assumption | with_reducible apply same_finishDone | with_reducible apply same_modPort
    | with_reducible refine same_ite ?_ ?_ | exact avoid hd rfl | (intro _) | split | dsimp only)

theorem same_scanStartOf {ps : Nat} {z : State} (s : State) (p : Nat) (hd : ps &&& 0x211087C = 0) (hw : Same ps z s) :
    Same ps z (scanStartOf s p) := by
  unfold scanStartOf
  try dsimp only
  repeat' (first
    | with_reducible assumption | with_reducible apply same_startScan | with_reducible apply same_applyCalibration
    | with_reducible apply same_applyTouchKeys | with_reducible refine same_ite ?_ ?_ | exact avoid hd rfl | (intro _)
    | split | dsimp only)

end Sys2Proof.Machine
end

