-- ==== Sys2Proof/Laws/SamePowerOps.lean ====
section
/-! SUPPORT. What the operations of Machine/PowerOps.lean leave alone. -/

namespace Sys2Proof.Machine

theorem same_writeRetain {ps : Nat} {z : State} (s : State) (warden : Bool) (v : Nat) (hd : ps &&& 0x2000 = 0) (hw : Same ps z s) :
    Same ps z (writeRetain s warden v) := by
  unfold writeRetain
  try dsimp only
  repeat' (first
    | with_reducible assumption | with_reducible refine same_modSr ?_ ?_ | with_reducible refine same_foldl ?_ ?_
    | with_reducible refine same_ite ?_ ?_ | exact avoid hd rfl | (intro _) | split | dsimp only)

theorem same_coldState {ps : Nat} {z : State} (s : State) (released : Bool) (p : Power) (hd : ps &&& 0x1FFFFFF = 0) (hw : Same ps z s) :
    Same ps z (coldState s released p) :=
  ⟨fun p hp => by cases p <;> first | exact hw.get _ hp | exact absurd (avoid hd rfl) hp⟩

theorem same_releaseReset {ps : Nat} {z : State} (s : State) (bootSel : Nat) (hd : ps &&& 0x1FFFFFF = 0) (hw : Same ps z s) :
    Same ps z (releaseReset s bootSel) := by
  unfold releaseReset
  try dsimp only
  repeat' (first
    | with_reducible assumption | with_reducible apply same_coldState | with_reducible refine same_ite ?_ ?_
    | exact avoid hd rfl | (intro _) | split | dsimp only)

theorem same_assertReset {ps : Nat} {z : State} (s : State) (hd : ps &&& 0x1FFFFFF = 0) (hw : Same ps z s) :
    Same ps z (assertReset s) := by
  unfold assertReset
  try dsimp only
  repeat' (first
    | with_reducible assumption | with_reducible apply same_coldState | with_reducible refine same_ite ?_ ?_
    | exact avoid hd rfl | (intro _) | split | dsimp only)

theorem same_aonRise {ps : Nat} {z : State} (s : State) (hd : ps &&& 0x1FFFFFF = 0) (hw : Same ps z s) :
    Same ps z (aonRise s) := by
  unfold aonRise
  try dsimp only
  repeat' (first
    | with_reducible assumption | with_reducible apply same_coldState | with_reducible refine same_ite ?_ ?_
    | exact avoid hd rfl | (intro _) | split | dsimp only)

theorem same_aonFall {ps : Nat} {z : State} (s : State) (hd : ps &&& 0x1FFFFFF = 0) (hw : Same ps z s) :
    Same ps z (aonFall s) := by
  unfold aonFall
  try dsimp only
  repeat' (first
    | with_reducible assumption | with_reducible apply same_coldState | with_reducible refine same_modLg ?_ ?_
    | with_reducible refine same_ite ?_ ?_ | exact avoid hd rfl | (intro _) | split | dsimp only)

theorem same_coldWake {ps : Nat} {z : State} (s : State) (stage : Nat) (p : Power → Power) (hd : ps &&& 0x1FFFFFF = 0) (hw : Same ps z s) :
    Same ps z (coldWake s stage p) := by
  unfold coldWake
  try dsimp only
  repeat' (first
    | with_reducible assumption | with_reducible apply same_coldState | with_reducible refine same_ite ?_ ?_
    | exact avoid hd rfl | (intro _) | split | dsimp only)

theorem same_beginWake {ps : Nat} {z : State} (s : State) (hd : ps &&& 0x1FFFFFF = 0) (hw : Same ps z s) :
    Same ps z (beginWake s) := by
  unfold beginWake
  try dsimp only
  repeat' (first
    | with_reducible assumption | with_reducible refine same_modPw ?_ ?_ | with_reducible apply same_coldWake
    | with_reducible refine same_ite ?_ ?_ | exact avoid hd rfl | (intro _) | split | dsimp only)

theorem same_noteWake {ps : Nat} {z : State} (s : State) (n : Nat) (hd : ps &&& 0x800000 = 0) (hw : Same ps z s) :
    Same ps z (noteWake s n) := by
  unfold noteWake
  try dsimp only
  repeat' (first
    | with_reducible assumption | with_reducible refine same_modPw ?_ ?_ | with_reducible refine same_ite ?_ ?_
    | exact avoid hd rfl | (intro _) | split | dsimp only)

theorem same_fireWake {ps : Nat} {z : State} (s : State) (src : Nat) (hd : ps &&& 0x1FFFFFF = 0) (hw : Same ps z s) :
    Same ps z (fireWake s src) := by
  unfold fireWake
  try dsimp only
  repeat' (first
    | with_reducible assumption | with_reducible apply same_noteWake | with_reducible refine same_modPw ?_ ?_
    | with_reducible apply same_beginWake | with_reducible refine same_ite ?_ ?_ | exact avoid hd rfl | (intro _)
    | split | dsimp only)

theorem same_dropVolatile {ps : Nat} {z : State} (s : State) (hd : ps &&& 0x2000C8 = 0) (hw : Same ps z s) :
    Same ps z (dropVolatile s) := by
  unfold dropVolatile
  try dsimp only
  repeat' (first
    | with_reducible assumption | with_reducible refine same_modEv ?_ ?_ | with_reducible refine same_modFns ?_ ?_
    | with_reducible refine same_modLg ?_ ?_ | with_reducible apply same_cutEffects
    | with_reducible refine same_foldl ?_ ?_ | with_reducible refine same_ite ?_ ?_ | exact avoid hd rfl | (intro _)
    | split | dsimp only)

theorem same_endpointLost {ps : Nat} {z : State} (s : State) (hd : ps &&& 0xC = 0) (hw : Same ps z s) :
    Same ps z (endpointLost s) := by
  unfold endpointLost
  try dsimp only
  repeat' (first
    | with_reducible assumption | with_reducible refine same_modFns ?_ ?_ | with_reducible refine same_modPcie ?_ ?_
    | with_reducible refine same_foldl ?_ ?_ | with_reducible refine same_ite ?_ ?_ | exact avoid hd rfl | (intro _)
    | split | dsimp only)

theorem same_reachState {ps : Nat} {z : State} (s : State) (st : PwState) (hd : ps &&& 0x1FFFFFF = 0) (hw : Same ps z s) :
    Same ps z (reachState s st) := by
  unfold reachState
  try dsimp only
  repeat' (first
    | with_reducible assumption | with_reducible apply same_dropVolatile | with_reducible apply same_endpointLost
    | with_reducible refine same_modPw ?_ ?_ | with_reducible apply same_beginWake
    | with_reducible refine same_ite ?_ ?_ | exact avoid hd rfl | (intro _) | split | dsimp only)

theorem same_enterState {ps : Nat} {z : State} (s : State) (hd : ps &&& 0x3FFFFFF = 0) (hw : Same ps z s) :
    Same ps z (enterState s) := by
  unfold enterState
  try dsimp only
  repeat' (first
    | with_reducible assumption | with_reducible apply same_flushMessages | with_reducible apply same_finishDone
    | with_reducible apply same_reachState | with_reducible refine same_modPw ?_ ?_
    | with_reducible refine same_ite ?_ ?_ | exact avoid hd rfl | (intro _) | split | dsimp only)

theorem same_endL2Wait {ps : Nat} {z : State} (s : State) (hd : ps &&& 0x1FFFFFF = 0) (hw : Same ps z s) :
    Same ps z (endL2Wait s) := by
  unfold endL2Wait
  try dsimp only
  repeat' (first
    | with_reducible assumption | with_reducible apply same_reachState | with_reducible refine same_ite ?_ ?_
    | exact avoid hd rfl | (intro _) | split | dsimp only)

theorem same_wipeBay {ps : Nat} {z : State} (s : State) (b : Nat) (hd : ps &&& 0x2000 = 0) (hw : Same ps z s) :
    Same ps z (wipeBay s b) := by
  unfold wipeBay
  try dsimp only
  repeat' (first
    | with_reducible assumption | with_reducible refine same_modSr ?_ ?_ | with_reducible refine same_ite ?_ ?_
    | exact avoid hd rfl | (intro _) | split | dsimp only)

theorem same_clearBays {ps : Nat} {z : State} (s : State) (hd : ps &&& 0x102000 = 0) (hw : Same ps z s) :
    Same ps z (clearBays s) := by
  unfold clearBays
  try dsimp only
  repeat' (first
    | with_reducible assumption | with_reducible apply same_wipeBay | with_reducible refine same_modTouch ?_ ?_
    | with_reducible refine same_foldl ?_ ?_ | with_reducible refine same_ite ?_ ?_ | exact avoid hd rfl | (intro _)
    | split | dsimp only)

theorem same_applySecurity {ps : Nat} {z : State} (s : State) (body : List Byte) (hd : ps &&& 0x442080 = 0) (hw : Same ps z s) :
    Same ps z (applySecurity s body) := by
  unfold applySecurity
  try dsimp only
  repeat' (first
    | with_reducible assumption | with_reducible refine same_modSr ?_ ?_ | with_reducible refine same_modDram ?_ ?_
    | with_reducible refine same_modLg ?_ ?_ | with_reducible refine same_modWd ?_ ?_
    | with_reducible refine same_ite ?_ ?_ | exact avoid hd rfl | (intro _) | split | dsimp only)

theorem same_clearLocks {ps : Nat} {z : State} (s : State) (hd : ps &&& 0x42080 = 0) (hw : Same ps z s) :
    Same ps z (clearLocks s) := by
  unfold clearLocks
  try dsimp only
  repeat' (first
    | with_reducible assumption | with_reducible refine same_modSr ?_ ?_ | with_reducible refine same_modDram ?_ ?_
    | with_reducible refine same_modLg ?_ ?_ | with_reducible refine same_ite ?_ ?_ | exact avoid hd rfl | (intro _)
    | split | dsimp only)

theorem same_relock {ps : Nat} {z : State} (s : State) (hd : ps &&& 0x442080 = 0) (hw : Same ps z s) :
    Same ps z (relock s) := by
  unfold relock
  try dsimp only
  repeat' (first
    | with_reducible assumption | with_reducible refine same_modSr ?_ ?_ | with_reducible refine same_modDram ?_ ?_
    | with_reducible refine same_modLg ?_ ?_ | with_reducible apply same_applySecurity
    | with_reducible refine same_ite ?_ ?_ | exact avoid hd rfl | (intro _) | split | dsimp only)

theorem same_endLogic {ps : Nat} {z : State} (s : State) (hd : ps &&& 0x28528FC = 0) (hw : Same ps z s) :
    Same ps z (endLogic s) := by
  unfold endLogic
  try dsimp only
  repeat' (first
    | with_reducible assumption | with_reducible apply same_assert | with_reducible apply same_clearLocks
    | with_reducible refine same_modPw ?_ ?_ | with_reducible refine same_ite ?_ ?_ | exact avoid hd rfl | (intro _)
    | split | dsimp only)

theorem same_stageUp {ps : Nat} {z : State} (s : State) (hd : ps &&& 0x29528FC = 0) (hw : Same ps z s) :
    Same ps z (stageUp s) := by
  unfold stageUp
  try dsimp only
  repeat' (first
    | with_reducible assumption | with_reducible apply same_clearBays | with_reducible refine same_modPw ?_ ?_
    | with_reducible apply same_endLogic | with_reducible refine same_ite ?_ ?_ | exact avoid hd rfl | (intro _) | split
    | dsimp only)

theorem same_stageLate {ps : Nat} {z : State} (s : State) (hd : ps &&& 0x800000 = 0) (hw : Same ps z s) :
    Same ps z (stageLate s) := by
  unfold stageLate
  try dsimp only
  repeat' (first
    | with_reducible assumption | with_reducible apply same_noteWake | with_reducible refine same_modPw ?_ ?_
    | with_reducible refine same_ite ?_ ?_ | exact avoid hd rfl | (intro _) | split | dsimp only)

theorem same_raisePwrReq {ps : Nat} {z : State} (s : State) (hd : ps &&& 0x800000 = 0) (hw : Same ps z s) :
    Same ps z (raisePwrReq s) := by
  unfold raisePwrReq
  try dsimp only
  repeat' (first
    | with_reducible assumption | with_reducible refine same_modPw ?_ ?_ | with_reducible refine same_ite ?_ ?_
    | exact avoid hd rfl | (intro _) | split | dsimp only)

theorem same_losePgood {ps : Nat} {z : State} (s : State) (hd : ps &&& 0x28108FC = 0) (hw : Same ps z s) :
    Same ps z (losePgood s) := by
  unfold losePgood
  try dsimp only
  repeat' (first
    | with_reducible assumption | with_reducible apply same_assert | with_reducible refine same_modPw ?_ ?_
    | with_reducible refine same_ite ?_ ?_ | exact avoid hd rfl | (intro _) | split | dsimp only)

theorem same_raisePower {ps : Nat} {z : State} (s : State) (cold : Bool) (hd : ps &&& 0x40 = 0) (hw : Same ps z s) :
    Same ps z (raisePower s cold) := by
  unfold raisePower
  try dsimp only
  repeat' (first
    | with_reducible assumption | with_reducible apply same_raise | with_reducible refine same_foldl ?_ ?_
    | with_reducible refine same_ite ?_ ?_ | exact avoid hd rfl | (intro _) | split | dsimp only)

theorem same_restartLog {ps : Nat} {z : State} (s : State) (patched : Bool) (hd : ps &&& 0x400000 = 0) (hw : Same ps z s) :
    Same ps z (restartLog s patched) := by
  unfold restartLog
  try dsimp only
  repeat' (first
    | with_reducible assumption | with_reducible apply same_setApplet | with_reducible refine same_modWd ?_ ?_
    | with_reducible refine same_foldl ?_ ?_ | with_reducible refine same_ite ?_ ?_ | exact avoid hd rfl | (intro _)
    | split | dsimp only)

theorem same_goCold {ps : Nat} {z : State} (s : State) (hd : ps &&& 0x1FFFFFF = 0) (hw : Same ps z s) :
    Same ps z (goCold s) := by
  unfold goCold
  try dsimp only
  repeat' (first
    | with_reducible assumption | with_reducible apply same_coldWake | with_reducible refine same_modSr ?_ ?_
    | with_reducible refine same_ite ?_ ?_ | exact avoid hd rfl | (intro _) | split | dsimp only)

theorem same_resume {ps : Nat} {z : State} (bell : State → Nat → Nat → State) (s : State) (good patched : Bool) (hbell : ∀ (x0 : State) (x1 : Nat) (x2 : Nat), Same ps z x0 → Same ps z (bell x0 x1 x2)) (hd : ps &&& 0x1FFFFFF = 0) (hw : Same ps z s) :
    Same ps z (resume bell s good patched) := by
  unfold resume
  try dsimp only
  repeat' (first
    | with_reducible assumption | with_reducible apply same_goCold | with_reducible apply same_restartLog
    | with_reducible apply same_relock | with_reducible refine same_modPw ?_ ?_ | with_reducible apply same_enterFree
    | with_reducible apply same_enterAcquire | with_reducible refine same_modTl ?_ ?_
    | with_reducible apply same_raisePower | with_reducible refine same_foldl ?_ ?_
    | with_reducible refine same_foldl_1 ?_ ?_ | with_reducible refine same_foldl_2 ?_ ?_
    | with_reducible refine same_foldl_22 ?_ ?_ | with_reducible apply hbell | with_reducible refine same_ite ?_ ?_
    | exact avoid hd rfl | (intro _) | split | dsimp only)

theorem same_openDevice {ps : Nat} {z : State} (s : State) (hd : ps &&& 0xC00040 = 0) (hw : Same ps z s) :
    Same ps z (openDevice s) := by
  unfold openDevice
  try dsimp only
  repeat' (first
    | with_reducible assumption | with_reducible apply same_coldWake | with_reducible refine same_modPw ?_ ?_
    | with_reducible apply same_raisePower | with_reducible refine same_modWd ?_ ?_
    | with_reducible refine same_ite ?_ ?_ | exact avoid hd rfl | (intro _) | split | dsimp only)

theorem same_keepTail {ps : Nat} {z : State} (s : State) (ring v : Nat) (hd : ps &&& 0x1FFFFFF = 0) (hw : Same ps z s) :
    Same ps z (keepTail s ring v) := by
  unfold keepTail
  try dsimp only
  repeat' (first
    | with_reducible assumption | with_reducible refine same_modPw ?_ ?_ | with_reducible apply same_fireWake
    | with_reducible refine same_ite ?_ ?_ | exact avoid hd rfl | (intro _) | split | dsimp only)

theorem same_scanWatch {ps : Nat} {z : State} (s : State) (iq : List (Int × Int)) (hd : ps &&& 0x1FFFFFF = 0) (hw : Same ps z s) :
    Same ps z (scanWatch s iq) := by
  unfold scanWatch
  try dsimp only
  repeat' (first
    | with_reducible assumption | with_reducible apply same_modPort | with_reducible refine same_modPw ?_ ?_
    | with_reducible apply same_fireWake | with_reducible refine same_foldl ?_ ?_
    | with_reducible refine same_foldl_1 ?_ ?_ | with_reducible refine same_foldl_2 ?_ ?_
    | with_reducible refine same_foldl_22 ?_ ?_ | with_reducible refine same_ite ?_ ?_ | exact avoid hd rfl | (intro _)
    | split | dsimp only)

theorem same_trigWake {ps : Nat} {z : State} (s : State) (c : Nat) (hd : ps &&& 0x1FFFFFF = 0) (hw : Same ps z s) :
    Same ps z (trigWake s c) := by
  unfold trigWake
  try dsimp only
  repeat' (first
    | with_reducible assumption | with_reducible apply same_fireWake | with_reducible refine same_ite ?_ ?_
    | exact avoid hd rfl | (intro _) | split | dsimp only)

theorem same_wakeWrite {ps : Nat} {z : State} (s : State) (p : Nat) (b : Byte) (hd : ps &&& 0x800000 = 0) (hw : Same ps z s) :
    Same ps z (wakeWrite s p b) := by
  unfold wakeWrite
  try dsimp only
  repeat' (first
    | with_reducible assumption | with_reducible refine same_modPw ?_ ?_ | with_reducible refine same_ite ?_ ?_
    | exact avoid hd rfl | (intro _) | split | dsimp only)

theorem same_wakeWrites {ps : Nat} {z : State} (s : State) (p : Nat) (l : List Byte) (hd : ps &&& 0x800000 = 0) (hw : Same ps z s) :
    Same ps z (wakeWrites s p l) := by
  induction l generalizing s p with
  | nil => exact hw
  | cons b l ih => exact ih _ _ (same_wakeWrite _ _ _ (avoid hd rfl) hw)

theorem same_i2cWrite {ps : Nat} {z : State} (s : State) (addr : Nat) (data : List Byte) (hd : ps &&& 0x1FFFFFF = 0) (hw : Same ps z s) :
    Same ps z (i2cWrite s addr data) := by
  unfold i2cWrite
  try dsimp only
  repeat' (first
    | with_reducible assumption | with_reducible refine same_modPw ?_ ?_ | with_reducible apply same_wakeWrites
    | with_reducible apply same_fireWake | with_reducible refine same_ite ?_ ?_ | exact avoid hd rfl | (intro _) | split
    | dsimp only)

theorem same_i2cRead {ps : Nat} {z : State} (s : State) (n : Nat) (hd : ps &&& 0x800000 = 0) (hw : Same ps z s) :
    Same ps z (i2cRead s n) := by
  unfold i2cRead
  try dsimp only
  repeat' (first
    | with_reducible assumption | with_reducible refine same_modPw ?_ ?_ | with_reducible refine same_ite ?_ ?_
    | exact avoid hd rfl | (intro _) | split | dsimp only)

theorem same_startPowerState {ps : Nat} {z : State} (s : State) (f : Flight) (hd : ps &&& 0x800 = 0) (hw : Same ps z s) :
    Same ps z (startPowerState s f) := by
  unfold startPowerState
  try dsimp only
  repeat' (first
    | with_reducible assumption | with_reducible apply same_await | with_reducible refine same_ite ?_ ?_
    | exact avoid hd rfl | (intro _) | split | dsimp only)

theorem same_startPowerRetain {ps : Nat} {z : State} (s : State) (f : Flight) (hd : ps &&& 0x201283C = 0) (hw : Same ps z s) :
    Same ps z (startPowerRetain s f) := by
  unfold startPowerRetain
  try dsimp only
  repeat' (first
    | with_reducible assumption | with_reducible apply same_finishDone | with_reducible apply same_writeRetain
    | with_reducible refine same_ite ?_ ?_ | exact avoid hd rfl | (intro _) | split | dsimp only)

theorem same_applyPowerGate {ps : Nat} {z : State} (s : State) (d : Descriptor) (hd : ps &&& 0x800000 = 0) (hw : Same ps z s) :
    Same ps z (applyPowerGate s d) := by
  unfold applyPowerGate
  try dsimp only
  repeat' (first
    | with_reducible assumption | with_reducible refine same_modPw ?_ ?_ | with_reducible refine same_ite ?_ ?_
    | exact avoid hd rfl | (intro _) | split | dsimp only)

theorem same_startWakeConfig {ps : Nat} {z : State} (s : State) (f : Flight) (hd : ps &&& 0x281083C = 0) (hw : Same ps z s) :
    Same ps z (startWakeConfig s f) := by
  unfold startWakeConfig
  try dsimp only
  repeat' (first
    | with_reducible assumption | with_reducible apply same_finishDone | with_reducible refine same_modPw ?_ ?_
    | with_reducible refine same_ite ?_ ?_ | exact avoid hd rfl | (intro _) | split | dsimp only)

end Sys2Proof.Machine
end

