-- ==== Sys2Proof/Laws/SameHostOps.lean ====
section
/-! SUPPORT. What the operations of Machine/HostOps.lean leave alone. -/

namespace Sys2Proof.Machine

theorem same_resequence {ps : Nat} {z : State} (s : State) (f : Nat) (hd : ps &&& 0x400 = 0) (hw : Same ps z s) :
    Same ps z (resequence s f) := by
  unfold resequence
  try dsimp only
  repeat' (first
    | with_reducible assumption | with_reducible refine same_modVisible ?_ ?_ | with_reducible refine same_foldl ?_ ?_
    | with_reducible refine same_foldl_1 ?_ ?_ | with_reducible refine same_foldl_2 ?_ ?_
    | with_reducible refine same_foldl_22 ?_ ?_ | with_reducible refine same_ite ?_ ?_ | exact avoid hd rfl | (intro _)
    | split | dsimp only)

theorem same_makeVisible {ps : Nat} {z : State} (f r n : Nat) (s : State) (hd : ps &&& 0x510 = 0) (hw : Same ps z s) :
    Same ps z (makeVisible f r n s) := by
  induction n generalizing s with
  | zero => exact hw
  | succ n ih =>
    unfold makeVisible
    dsimp only
    exact same_ite hw (ih _ (same_setCr _ _ _ _ (avoid hd rfl) (same_modTen _ _ _ (avoid hd rfl) (same_modVisible (avoid hd rfl) hw))))

theorem same_showDescriptors {ps : Nat} {z : State} (s : State) (f r : Nat) (hd : ps &&& 0x510 = 0) (hw : Same ps z s) :
    Same ps z (showDescriptors s f r) := by
  unfold showDescriptors
  try dsimp only
  repeat' (first
    | with_reducible assumption | with_reducible apply same_resequence | with_reducible apply same_makeVisible
    | with_reducible refine same_ite ?_ ?_ | exact avoid hd rfl | (intro _) | split | dsimp only)

theorem same_markErr {ps : Nat} {z : State} (s : State) (f r bit : Nat) (hd : ps &&& 0x10 = 0) (hw : Same ps z s) :
    Same ps z (markErr s f r bit) := by
  unfold markErr
  try dsimp only
  repeat' (first
    | with_reducible assumption | with_reducible apply same_modCr | with_reducible refine same_ite ?_ ?_
    | exact avoid hd rfl | (intro _) | split | dsimp only)

theorem same_clearErr {ps : Nat} {z : State} (s : State) (f r v : Nat) (hd : ps &&& 0x10 = 0) (hw : Same ps z s) :
    Same ps z (clearErr s f r v) := by
  unfold clearErr
  try dsimp only
  repeat' (first
    | with_reducible assumption | with_reducible apply same_modCr | with_reducible refine same_ite ?_ ?_
    | exact avoid hd rfl | (intro _) | split | dsimp only)

theorem same_dbError {ps : Nat} {z : State} (s : State) (f r : Nat) (hd : ps &&& 0x10 = 0) (hw : Same ps z s) :
    Same ps z (dbError s f r) := by
  unfold dbError
  try dsimp only
  repeat' (first
    | with_reducible assumption | with_reducible apply same_markErr | with_reducible refine same_ite ?_ ?_
    | exact avoid hd rfl | (intro _) | split | dsimp only)

theorem same_ringDoorbell {ps : Nat} {z : State} (s : State) (f r v : Nat) (hd : ps &&& 0x510 = 0) (hw : Same ps z s) :
    Same ps z (ringDoorbell s f r v) := by
  unfold ringDoorbell
  try dsimp only
  repeat' (first
    | with_reducible assumption | with_reducible apply same_dbError | with_reducible apply same_setCr
    | with_reducible apply same_showDescriptors | with_reducible refine same_ite ?_ ?_ | exact avoid hd rfl | (intro _)
    | split | dsimp only)

theorem same_completionDoorbell {ps : Nat} {z : State} (s : State) (f r v : Nat) (hd : ps &&& 0x51C = 0) (hw : Same ps z s) :
    Same ps z (completionDoorbell s f r v) := by
  unfold completionDoorbell
  try dsimp only
  repeat' (first
    | with_reducible assumption | with_reducible apply same_dbError | with_reducible apply same_setCr
    | with_reducible apply same_sendMessage | with_reducible apply same_showDescriptors
    | with_reducible refine same_ite ?_ ?_ | exact avoid hd rfl | (intro _) | split | dsimp only)

theorem same_eventDoorbell {ps : Nat} {z : State} (s : State) (f n p v : Nat) (hd : ps &&& 0x6C = 0) (hw : Same ps z s) :
    Same ps z (eventDoorbell s f n p v) := by
  unfold eventDoorbell
  try dsimp only
  repeat' (first
    | with_reducible assumption | with_reducible apply same_modFn | with_reducible apply same_ackRecord
    | with_reducible apply same_setEvRing | with_reducible apply same_sendMessage
    | with_reducible refine same_foldl ?_ ?_ | with_reducible refine same_ite ?_ ?_ | exact avoid hd rfl | (intro _)
    | split | dsimp only)

theorem same_passHead {ps : Nat} {z : State} (f r n : Nat) (s : State) (hd : ps &&& 0x410 = 0) (hw : Same ps z s) : Same ps z (passHead f r n s) := by
  induction n generalizing s with
  | zero => exact hw
  | succ n ih =>
    unfold passHead
    dsimp only
    split
    · exact same_ite (ih _ (same_setCr _ _ _ _ (avoid hd rfl) (same_modVisible (avoid hd rfl) hw))) hw
    · exact hw

theorem same_passHeads {ps : Nat} {z : State} (s : State) (f r : Nat) (hd : ps &&& 0x410 = 0) (hw : Same ps z s) :
    Same ps z (passHeads s f r) := by
  unfold passHeads
  try dsimp only
  repeat' (first
    | with_reducible assumption | with_reducible apply same_passHead | with_reducible refine same_ite ?_ ?_
    | exact avoid hd rfl | (intro _) | split | dsimp only)

theorem same_fetched {ps : Nat} {z : State} (s : State) (src : CmdSrc) (g : Visible → Visible) (hd : ps &&& 0x410 = 0) (hw : Same ps z s) :
    Same ps z (fetched s src g) := by
  unfold fetched
  try dsimp only
  repeat' (first
    | with_reducible assumption | with_reducible refine same_modVisible ?_ ?_ | with_reducible apply same_passHeads
    | with_reducible refine same_ite ?_ ?_ | exact avoid hd rfl | (intro _) | split | dsimp only)

theorem same_fetchFailed {ps : Nat} {z : State} (s : State) (src : CmdSrc) (status : Nat) (hd : ps &&& 0x410 = 0) (hw : Same ps z s) :
    Same ps z (fetchFailed s src status) := by
  unfold fetchFailed
  try dsimp only
  repeat' (first
    | with_reducible assumption | with_reducible apply same_fetched | with_reducible apply same_markErr
    | with_reducible refine same_ite ?_ ?_ | exact avoid hd rfl | (intro _) | split | dsimp only)

theorem same_descriptorArrives {ps : Nat} {z : State} (s : State) (src : CmdSrc) (how : Arrival) (hd : ps &&& 0x418 = 0) (hw : Same ps z s) :
    Same ps z (descriptorArrives s src how) := by
  unfold descriptorArrives
  try dsimp only
  repeat' (first
    | with_reducible assumption | with_reducible apply same_fetched | with_reducible apply same_fetchFailed
    | with_reducible apply same_noteAer | with_reducible refine same_ite ?_ ?_ | exact avoid hd rfl | (intro _) | split
    | dsimp only)

theorem same_descriptorLate {ps : Nat} {z : State} (s : State) (src : CmdSrc) (hd : ps &&& 0x410 = 0) (hw : Same ps z s) :
    Same ps z (descriptorLate s src) := by
  unfold descriptorLate
  try dsimp only
  repeat' (first
    | with_reducible assumption | with_reducible apply same_fetchFailed | with_reducible refine same_ite ?_ ?_
    | exact avoid hd rfl | (intro _) | split | dsimp only)

theorem same_failedCompletion {ps : Nat} {z : State} (s : State) (v : Visible) (hd : ps &&& 0x200043C = 0) (hw : Same ps z s) :
    Same ps z (failedCompletion s v) := by
  unfold failedCompletion
  try dsimp only
  repeat' (first
    | with_reducible assumption | with_reducible refine same_modVisible ?_ ?_ | with_reducible apply same_modCr
    | with_reducible apply same_issueRecord | with_reducible apply same_settleRing
    | with_reducible refine same_ite ?_ ?_ | exact avoid hd rfl | (intro _) | split | dsimp only)

theorem same_cfgError {ps : Nat} {z : State} (s : State) (f r : Nat) (hd : ps &&& 0x10 = 0) (hw : Same ps z s) :
    Same ps z (cfgError s f r) := by
  unfold cfgError
  try dsimp only
  repeat' (first
    | with_reducible assumption | with_reducible apply same_markErr | with_reducible refine same_ite ?_ ?_
    | exact avoid hd rfl | (intro _) | split | dsimp only)

theorem same_enableCommandRing {ps : Nat} {z : State} (s : State) (f r v : Nat) (hd : ps &&& 0x10 = 0) (hw : Same ps z s) :
    Same ps z (enableCommandRing s f r v) := by
  unfold enableCommandRing
  try dsimp only
  repeat' (first
    | with_reducible assumption | with_reducible apply same_cfgError | with_reducible apply same_setCr
    | with_reducible refine same_ite ?_ ?_ | exact avoid hd rfl | (intro _) | split | dsimp only)

theorem same_disableCommandRing {ps : Nat} {z : State} (s : State) (f r v : Nat) (hd : ps &&& 0x10 = 0) (hw : Same ps z s) :
    Same ps z (disableCommandRing s f r v) := by
  unfold disableCommandRing
  try dsimp only
  repeat' (first
    | with_reducible assumption | with_reducible apply same_settleRing | with_reducible apply same_setCr
    | with_reducible refine same_ite ?_ ?_ | exact avoid hd rfl | (intro _) | split | dsimp only)

theorem same_enableCompletionRing {ps : Nat} {z : State} (s : State) (f r v : Nat) (hd : ps &&& 0x10 = 0) (hw : Same ps z s) :
    Same ps z (enableCompletionRing s f r v) := by
  unfold enableCompletionRing
  try dsimp only
  repeat' (first
    | with_reducible assumption | with_reducible apply same_setCr | with_reducible apply same_cfgError
    | with_reducible refine same_ite ?_ ?_ | exact avoid hd rfl | (intro _) | split | dsimp only)

theorem same_disableCompletionRing {ps : Nat} {z : State} (s : State) (f r v : Nat) (hd : ps &&& 0x10 = 0) (hw : Same ps z s) :
    Same ps z (disableCompletionRing s f r v) := by
  unfold disableCompletionRing
  try dsimp only
  repeat' (first
    | with_reducible assumption | with_reducible apply same_setCr | with_reducible refine same_ite ?_ ?_
    | exact avoid hd rfl | (intro _) | split | dsimp only)

theorem same_latchTlc {ps : Nat} {z : State} (s : State) (f : Nat) (hd : ps &&& 0x8 = 0) (hw : Same ps z s) :
    Same ps z (latchTlc s f) := by
  unfold latchTlc
  try dsimp only
  repeat' (first
    | with_reducible assumption | with_reducible apply same_modFn | with_reducible refine same_ite ?_ ?_
    | exact avoid hd rfl | (intro _) | split | dsimp only)

theorem same_windowEnds {ps : Nat} {z : State} (s : State) (f vec : Nat) (hd : ps &&& 0x3C = 0) (hw : Same ps z s) :
    Same ps z (windowEnds s f vec) := by
  unfold windowEnds
  try dsimp only
  repeat' (first
    | with_reducible assumption | with_reducible apply same_sendMessage | with_reducible apply same_setCr
    | with_reducible apply same_setEvRing | with_reducible refine same_ite ?_ ?_ | exact avoid hd rfl | (intro _)
    | split | dsimp only)

theorem same_sendPending {ps : Nat} {z : State} (f : Nat) (s : State) (vec : Nat) (hd : ps &&& 0xC = 0) (hw : Same ps z s) :
    Same ps z (sendPending f s vec) := by
  unfold sendPending
  try dsimp only
  repeat' (first
    | with_reducible assumption | with_reducible apply same_setFn | with_reducible refine same_modPcie ?_ ?_
    | with_reducible refine same_ite ?_ ?_ | exact avoid hd rfl | (intro _) | split | dsimp only)

theorem same_unmask {ps : Nat} {z : State} (s : State) (f : Nat) (vec : Option Nat) (hd : ps &&& 0xC = 0) (hw : Same ps z s) :
    Same ps z (unmask s f vec) := by
  unfold unmask
  try dsimp only
  repeat' (first
    | with_reducible assumption | with_reducible apply same_sendPending | with_reducible apply same_modFn
    | with_reducible refine same_foldl ?_ ?_ | with_reducible refine same_ite ?_ ?_ | exact avoid hd rfl | (intro _)
    | split | dsimp only)

theorem same_releaseHeldRecords {ps : Nat} {z : State} (s : State) (f : Nat) (hd : ps &&& 0x200003C = 0) (hw : Same ps z s) :
    Same ps z (releaseHeldRecords s f) := by
  unfold releaseHeldRecords
  try dsimp only
  repeat' (first
    | with_reducible assumption | with_reducible apply same_modFn | with_reducible apply same_putRecord
    | with_reducible refine same_foldl ?_ ?_ | with_reducible refine same_ite ?_ ?_ | exact avoid hd rfl | (intro _)
    | split | dsimp only)

theorem same_settleWake {ps : Nat} {z : State} (s : State) (hd : ps &&& 0x4 = 0) (hw : Same ps z s) :
    Same ps z (settleWake s) := by
  unfold settleWake
  try dsimp only
  repeat' (first
    | with_reducible assumption | with_reducible refine same_modPcie ?_ ?_ | with_reducible refine same_ite ?_ ?_
    | exact avoid hd rfl | (intro _) | split | dsimp only)

theorem same_enterD3 {ps : Nat} {z : State} (s : State) (f : Nat) (hd : ps &&& 0x3C = 0) (hw : Same ps z s) :
    Same ps z (enterD3 s f) := by
  unfold enterD3
  try dsimp only
  repeat' (first
    | with_reducible assumption | with_reducible apply same_modFn | with_reducible apply same_modCr
    | with_reducible apply same_setEvRing | with_reducible apply same_signalHeld
    | with_reducible refine same_foldl ?_ ?_ | with_reducible refine same_ite ?_ ?_ | exact avoid hd rfl | (intro _)
    | split | dsimp only)

theorem same_wakeFunction {ps : Nat} {z : State} (s : State) (f : Nat) (hd : ps &&& 0x200003C = 0) (hw : Same ps z s) :
    Same ps z (wakeFunction s f) := by
  unfold wakeFunction
  try dsimp only
  repeat' (first
    | with_reducible assumption | with_reducible apply same_releaseHeldRecords | with_reducible apply same_flushMessages
    | with_reducible refine same_ite ?_ ?_ | exact avoid hd rfl | (intro _) | split | dsimp only)

theorem same_returnD0 {ps : Nat} {z : State} (s : State) (f : Nat) (hd : ps &&& 0x200003C = 0) (hw : Same ps z s) :
    Same ps z (returnD0 s f) := by
  unfold returnD0
  try dsimp only
  repeat' (first
    | with_reducible assumption | with_reducible apply same_wakeFunction | with_reducible apply same_settleWake
    | with_reducible apply same_modFn | with_reducible refine same_ite ?_ ?_ | exact avoid hd rfl | (intro _) | split
    | dsimp only)

theorem same_ringWrite {ps : Nat} {z : State} (s : State) (f r o v : Nat) (hd : ps &&& 0x51C = 0) (hw : Same ps z s) :
    Same ps z (ringWrite s f r o v) := by
  unfold ringWrite
  try dsimp only
  repeat' (first
    | with_reducible assumption | with_reducible apply same_setCr | with_reducible apply same_enableCommandRing
    | with_reducible apply same_disableCommandRing | with_reducible apply same_ringDoorbell
    | with_reducible apply same_clearErr | with_reducible apply same_enableCompletionRing
    | with_reducible apply same_disableCompletionRing | with_reducible apply same_completionDoorbell
    | with_reducible refine same_ite ?_ ?_ | exact avoid hd rfl | (intro _) | split | dsimp only)

theorem same_pageWrite {ps : Nat} {z : State} (s : State) (f o v width : Nat) (hd : ps &&& 0x1FFFFFF = 0) (hw : Same ps z s) :
    Same ps z (pageWrite s f o v width) := by
  unfold pageWrite
  try dsimp only
  repeat' (first
    | with_reducible assumption | with_reducible apply same_keepTail | with_reducible apply same_modFn
    | with_reducible apply same_ringWrite | with_reducible apply same_eventDoorbell
    | with_reducible refine same_ite ?_ ?_ | exact avoid hd rfl | (intro _) | split | dsimp only)

theorem same_msixWrite {ps : Nat} {z : State} (s : State) (f o v : Nat) (hd : ps &&& 0xC = 0) (hw : Same ps z s) :
    Same ps z (msixWrite s f o v) := by
  unfold msixWrite
  try dsimp only
  repeat' (first
    | with_reducible assumption | with_reducible apply same_modFn | with_reducible apply same_sendPending
    | with_reducible refine same_ite ?_ ?_ | exact avoid hd rfl | (intro _) | split | dsimp only)

theorem same_startHostSuspend {ps : Nat} {z : State} (s : State) (f : Flight) (hd : ps &&& 0x201083C = 0) (hw : Same ps z s) :
    Same ps z (startHostSuspend s f) := by
  unfold startHostSuspend
  try dsimp only
  repeat' (first
    | with_reducible assumption | with_reducible apply same_finishDone | with_reducible apply same_flushMessages
    | with_reducible refine same_ite ?_ ?_ | exact avoid hd rfl | (intro _) | split | dsimp only)

end Sys2Proof.Machine
end

