-- ==== Sys2Proof/Laws/SameKarbobinOps.lean ====
section
/-! SUPPORT. What the operations of Machine/KarbobinOps.lean leave alone. -/

namespace Sys2Proof.Machine

theorem same_beginZeroise {ps : Nat} {z : State} (s : State) (shelves plots : List Nat) (hd : ps &&& 0x42000 = 0) (hw : Same ps z s) :
    Same ps z (beginZeroise s shelves plots) := by
  unfold beginZeroise
  try dsimp only
  repeat' (first
    | with_reducible assumption | with_reducible apply same_zeroiseShelf | with_reducible apply same_zeroisePlot
    | with_reducible refine same_foldl ?_ ?_ | with_reducible refine same_ite ?_ ?_ | exact avoid hd rfl | (intro _)
    | split | dsimp only)

theorem same_withdrawUnits {ps : Nat} {z : State} (s : State) (r : Nat × Grants) (hd : ps &&& 0x100 = 0) (hw : Same ps z s) :
    Same ps z (withdrawUnits s r) := by
  unfold withdrawUnits
  try dsimp only
  repeat' (first
    | with_reducible assumption | with_reducible apply same_modTen | with_reducible refine same_ite ?_ ?_
    | exact avoid hd rfl | (intro _) | split | dsimp only)

theorem same_acceptLoad {ps : Nat} {z : State} (s : State) (f : Flight) (whole : Bool) (recs : List (Nat × Grants)) (ws : Option (List (List Nat))) (hd : ps &&& 0x42B00 = 0) (hw : Same ps z s) :
    Same ps z (acceptLoad s f whole recs ws) := by
  unfold acceptLoad
  try dsimp only
  repeat' (first
    | with_reducible assumption | with_reducible refine same_modLoads ?_ ?_ | with_reducible apply same_modTen
    | with_reducible apply same_beginZeroise | with_reducible apply same_withdrawUnits | with_reducible apply same_await
    | with_reducible refine same_foldl ?_ ?_ | with_reducible refine same_foldl_1 ?_ ?_
    | with_reducible refine same_foldl_2 ?_ ?_ | with_reducible refine same_foldl_22 ?_ ?_
    | with_reducible refine same_ite ?_ ?_ | exact avoid hd rfl | (intro _) | split | dsimp only)

theorem same_partitionRead {ps : Nat} {z : State} (s : State) (f : Flight) (b : List Byte) (hd : ps &&& 0x2052B3C = 0) (hw : Same ps z s) :
    Same ps z (partitionRead s f b) := by
  unfold partitionRead
  try dsimp only
  repeat' (first
    | with_reducible assumption | with_reducible apply same_finish | with_reducible apply same_acceptLoad
    | with_reducible refine same_ite ?_ ?_ | exact avoid hd rfl | (intro _) | split | dsimp only)

theorem same_dropStream {ps : Nat} {z : State} (s : State) (n : Nat) (hd : ps &&& 0x2000 = 0) (hw : Same ps z s) :
    Same ps z (dropStream s n) := by
  unfold dropStream
  try dsimp only
  repeat' (first
    | with_reducible assumption | with_reducible refine same_modSr ?_ ?_ | with_reducible refine same_ite ?_ ?_
    | exact avoid hd rfl | (intro _) | split | dsimp only)

theorem same_dropInput {ps : Nat} {z : State} (s : State) (i : Nat) (hd : ps &&& 0x81000 = 0) (hw : Same ps z s) :
    Same ps z (dropInput s i) := by
  unfold dropInput
  try dsimp only
  repeat' (first
    | with_reducible assumption | with_reducible refine same_modAudio ?_ ?_
    | with_reducible refine same_modCharges ?_ ?_ | with_reducible refine same_foldl ?_ ?_
    | with_reducible refine same_foldl_1 ?_ ?_ | with_reducible refine same_foldl_2 ?_ ?_
    | with_reducible refine same_foldl_22 ?_ ?_ | with_reducible refine same_ite ?_ ?_ | exact avoid hd rfl | (intro _)
    | split | dsimp only)

/-- A pool whose objects come and go without touching the parts ps. -/
structure SparesPool (ps : Nat) (z : State) (p : Pool) : Prop where
  give : ∀ s o t n, Same ps z s → Same ps z (p.give s o t n)
  free : ∀ s o, Same ps z s → Same ps z (p.free s o)

theorem evPool_spares {ps : Nat} {z : State} (hd : ps &&& 0x68 = 0) : SparesPool ps z evPool :=
  ⟨fun _ _ _ _ w => same_setEvRing _ _ _ (avoid hd rfl) w, fun _ _ w => same_setEvRing _ _ _ (avoid hd rfl) (same_ite (same_disableEvRing _ _ (avoid hd rfl) w) w)⟩

theorem chanPool_spares {ps : Nat} {z : State} (hd : ps &&& 0x20060 = 0) : SparesPool ps z chanPool :=
  ⟨fun _ _ _ _ w => same_renewSource _ _ (avoid hd rfl) (same_setChan _ _ _ (avoid hd rfl) w),
    fun _ _ w => same_renewSource _ _ (avoid hd rfl) (same_setChan _ _ _ (avoid hd rfl) w)⟩

theorem streamPool_spares {ps : Nat} {z : State} (hd : ps &&& 0x82060 = 0) : SparesPool ps z streamPool :=
  ⟨fun _ _ _ _ w => same_renewSource _ _ (avoid hd rfl) (same_modStream _ _ _ (avoid hd rfl) (same_dropStream _ _ (avoid hd rfl) w)),
    fun _ _ w => same_renewSource _ _ (avoid hd rfl) (same_modStream _ _ _ (avoid hd rfl) (same_dropStream _ _ (avoid hd rfl) w))⟩

theorem inputPool_spares {ps : Nat} {z : State} (hd : ps &&& 0x81000 = 0) : SparesPool ps z inputPool :=
  ⟨fun _ _ _ _ w => same_modInput _ _ _ (avoid hd rfl) (same_dropInput _ _ (avoid hd rfl) w),
    fun _ _ w => same_modInput _ _ _ (avoid hd rfl) (same_dropInput _ _ (avoid hd rfl) w)⟩

theorem slotPool_spares {ps : Nat} {z : State} (hd : ps &&& 0x7060 = 0) : SparesPool ps z slotPool :=
  ⟨fun _ _ _ _ w => w, fun _ _ w => same_releaseSlot _ _ (avoid hd rfl) (same_modCharges (avoid hd rfl) w)⟩

theorem ctxPool_spares {ps : Nat} {z : State} (hd : ps &&& 0x12860 = 0) : SparesPool ps z ctxPool :=
  ⟨fun _ _ _ _ w => w, fun _ _ w => same_releaseContext _ _ (avoid hd rfl) w⟩

theorem assayPool_spares {ps : Nat} {z : State} (hd : ps &&& 0x9060 = 0) : SparesPool ps z assayPool :=
  ⟨fun _ _ _ _ w => w, fun _ _ w => same_renewSource _ _ (avoid hd rfl) (same_setAssay _ _ _ (avoid hd rfl) (same_endBinding _ _ (avoid hd rfl) w))⟩

theorem same_trimPool {ps : Nat} {z : State} {p : Pool} (hp : SparesPool ps z p) (s : State) (t n : Nat) (hw : Same ps z s) :
    Same ps z (trimPool p s t n) := same_foldl (fun _ _ w => hp.free _ _ w) hw

theorem same_growPool {ps : Nat} {z : State} {p : Pool} (hp : SparesPool ps z p) (s : State) (t : Nat) (hw : Same ps z s) :
    Same ps z (growPool p s t) := by
  unfold growPool
  split
  · exact hp.give _ _ _ _ hw
  · exact hw

theorem same_fillPool {ps : Nat} {z : State} {p : Pool} (hp : SparesPool ps z p) (s : State) (t n : Nat) (hw : Same ps z s) :
    Same ps z (fillPool p s t n) := same_foldl (fun _ _ w => same_growPool hp _ _ w) hw

theorem same_fitRings {ps : Nat} {z : State} (s : State) (t n : Nat) (hd : ps &&& 0x110 = 0) (hw : Same ps z s) :
    Same ps z (fitRings s t n) := by
  unfold fitRings
  try dsimp only
  repeat' (first
    | with_reducible assumption | with_reducible apply same_setCr | with_reducible apply same_modTen
    | with_reducible refine same_foldl ?_ ?_ | with_reducible refine same_ite ?_ ?_ | exact avoid hd rfl | (intro _)
    | split | dsimp only)

theorem same_fitHaptic {ps : Nat} {z : State} (s : State) (t mask : Nat) (hd : ps &&& 0x200060 = 0) (hw : Same ps z s) :
    Same ps z (fitHaptic s t mask) := by
  unfold fitHaptic
  try dsimp only
  repeat' (first
    | with_reducible assumption | with_reducible apply same_renewSource | with_reducible apply same_modHap
    | with_reducible refine same_foldl ?_ ?_ | with_reducible refine same_ite ?_ ?_ | exact avoid hd rfl | (intro _)
    | split | dsimp only)

theorem same_dropTouch {ps : Nat} {z : State} (s : State) (t p : Nat) (hd : ps &&& 0x100000 = 0) (hw : Same ps z s) :
    Same ps z (dropTouch s t p) := by
  unfold dropTouch
  try dsimp only
  repeat' (first
    | with_reducible assumption | with_reducible apply same_modPort | with_reducible refine same_ite ?_ ?_
    | exact avoid hd rfl | (intro _) | split | dsimp only)

theorem same_fitTouch {ps : Nat} {z : State} (s : State) (t mask : Nat) (hd : ps &&& 0x100000 = 0) (hw : Same ps z s) :
    Same ps z (fitTouch s t mask) := by
  unfold fitTouch
  try dsimp only
  repeat' (first
    | with_reducible assumption | with_reducible apply same_dropTouch | with_reducible refine same_foldl ?_ ?_
    | with_reducible refine same_ite ?_ ?_ | exact avoid hd rfl | (intro _) | split | dsimp only)

theorem same_fitObjects {ps : Nat} {z : State} (s : State) (t : Nat) (g : Grants) (hd : ps &&& 0x3BF978 = 0) (hw : Same ps z s) :
    Same ps z (fitObjects s t g) := by
  have w := same_trimPool (slotPool_spares (avoid hd rfl)) _ t g.layerSlots (same_trimPool (ctxPool_spares (avoid hd rfl)) _ t g.gpuContexts
    (same_trimPool (assayPool_spares (avoid hd rfl)) _ t g.assayUnits (same_foldl (f := releaseContext) (l := strayContexts s t g) (fun _ _ w => same_releaseContext _ _ (avoid hd rfl) w) (same_fitRings s t g.cmdRings (avoid hd rfl) hw))))
  have one : ∀ (p : Pool), SparesPool ps z p → ∀ (n : Nat) (s : State), Same ps z s → Same ps z (fillPool p (trimPool p s t n) t n) :=
    fun p hp n s w => same_fillPool hp _ _ _ (same_trimPool hp _ _ _ w)
  exact same_fitTouch _ _ _ (avoid hd rfl) (same_fitHaptic _ _ _ (avoid hd rfl) (one _ (inputPool_spares (avoid hd rfl)) _ _
    (one _ (streamPool_spares (avoid hd rfl)) _ _ (one _ (chanPool_spares (avoid hd rfl)) _ _ (one _ (evPool_spares (avoid hd rfl)) _ _ w)))))

theorem same_vanish {ps : Nat} {z : State} (s : State) (t : Nat) (hd : ps &&& 0x3BF9F8 = 0) (hw : Same ps z s) :
    Same ps z (vanish s t) := by
  unfold vanish
  try dsimp only
  repeat' (first
    | with_reducible assumption | with_reducible refine same_modCharges ?_ ?_ | with_reducible apply same_fitObjects
    | with_reducible refine same_modSr ?_ ?_ | with_reducible apply same_modTone | with_reducible apply same_renewSource
    | with_reducible refine same_modLg ?_ ?_ | with_reducible apply same_modFn | with_reducible apply same_setTen
    | with_reducible refine same_foldl ?_ ?_ | with_reducible refine same_ite ?_ ?_ | exact avoid hd rfl | (intro _)
    | split | dsimp only)

theorem same_applyRecord {ps : Nat} {z : State} (s : State) (r : Nat × Grants) (hd : ps &&& 0x3BF9F8 = 0) (hw : Same ps z s) :
    Same ps z (applyRecord s r) := by
  unfold applyRecord
  try dsimp only
  repeat' (first
    | with_reducible assumption | with_reducible apply same_setTen | with_reducible apply same_modTen
    | with_reducible apply same_fitObjects | with_reducible apply same_vanish | with_reducible refine same_ite ?_ ?_
    | exact avoid hd rfl | (intro _) | split | dsimp only)

theorem same_writeTables {ps : Nat} {z : State} (s : State) (hd : ps &&& 0x2 = 0) (hw : Same ps z s) :
    Same ps z (writeTables s) := by
  unfold writeTables
  try dsimp only
  repeat' (first
    | with_reducible assumption | with_reducible refine same_modWheels ?_ ?_ | with_reducible refine same_ite ?_ ?_
    | exact avoid hd rfl | (intro _) | split | dsimp only)

theorem same_swapTables {ps : Nat} {z : State} (s : State) (hd : ps &&& 0x2 = 0) (hw : Same ps z s) :
    Same ps z (swapTables s) := by
  unfold swapTables
  try dsimp only
  repeat' (first
    | with_reducible assumption | with_reducible refine same_modWheels ?_ ?_ | with_reducible refine same_ite ?_ ?_
    | exact avoid hd rfl | (intro _) | split | dsimp only)

theorem same_applyLoad {ps : Nat} {z : State} (s : State) (l : PendingLoad) (hd : ps &&& 0x23BFBFE = 0) (hw : Same ps z s) :
    Same ps z (applyLoad s l) := by
  unfold applyLoad
  try dsimp only
  repeat' (first
    | with_reducible assumption | with_reducible refine same_modLoads ?_ ?_ | with_reducible apply same_swapTables
    | with_reducible refine same_modWheels ?_ ?_ | with_reducible apply same_applyRecord
    | with_reducible apply same_finishDone | with_reducible refine same_foldl ?_ ?_
    | with_reducible refine same_foldl_1 ?_ ?_ | with_reducible refine same_foldl_2 ?_ ?_
    | with_reducible refine same_foldl_22 ?_ ?_ | with_reducible refine same_ite ?_ ?_ | exact avoid hd rfl | (intro _)
    | split | dsimp only)

theorem same_applyLoads {ps : Nat} {z : State} (n : Nat) (s : State) (hd : ps &&& 0x23BFBFE = 0) (hw : Same ps z s) : Same ps z (applyLoads n s) := by
  induction n generalizing s with
  | zero => exact hw
  | succ n ih =>
    unfold applyLoads
    split
    · exact same_ite (ih _ (same_applyLoad _ _ (avoid hd rfl) hw)) hw
    · exact hw

theorem same_settleGoers {ps : Nat} {z : State} (s : State) (hd : ps &&& 0x42300 = 0) (hw : Same ps z s) :
    Same ps z (settleGoers s) := by
  unfold settleGoers
  try dsimp only
  repeat' (first
    | with_reducible assumption | with_reducible apply same_beginZeroise | with_reducible apply same_modTen
    | with_reducible refine same_modLoads ?_ ?_ | with_reducible refine same_foldl ?_ ?_
    | with_reducible refine same_ite ?_ ?_ | exact avoid hd rfl | (intro _) | split | dsimp only)

theorem same_applyTables {ps : Nat} {z : State} (s : State) (hd : ps &&& 0x2 = 0) (hw : Same ps z s) :
    Same ps z (applyTables s) := by
  unfold applyTables
  try dsimp only
  repeat' (first
    | with_reducible assumption | with_reducible apply same_swapTables | with_reducible refine same_ite ?_ ?_
    | exact avoid hd rfl | (intro _) | split | dsimp only)

end Sys2Proof.Machine
end

