-- ==== Sys2Proof/Laws/SameTenancyOps.lean ====
section
/-! SUPPORT. What the operations of Machine/TenancyOps.lean leave alone. -/

namespace Sys2Proof.Machine

theorem same_endFlight {ps : Nat} {z : State} (v : Flight → Verdict) (s : State) (f : Flight) (hd : ps &&& 0xA05A8FC = 0) (hw : Same ps z s) :
    Same ps z (endFlight v s f) := by
  unfold endFlight
  try dsimp only
  repeat' (first
    | with_reducible assumption | with_reducible apply same_stopXfer | with_reducible apply same_endXfer
    | with_reducible apply same_foldDma | with_reducible apply same_withdraw | with_reducible refine same_ite ?_ ?_
    | exact avoid hd rfl | (intro _) | split | dsimp only)

theorem same_afterAborts {ps : Nat} {z : State} (s : State) (t : Nat) (hd : ps &&& 0x209787C = 0) (hw : Same ps z s) :
    Same ps z (afterAborts s t) := by
  unfold afterAborts
  try dsimp only
  repeat' (first
    | with_reducible assumption | with_reducible apply same_modSlot | with_reducible refine same_modCharges ?_ ?_
    | with_reducible apply same_settleGpu | with_reducible apply same_dropDeadChanges
    | with_reducible refine same_foldl ?_ ?_ | with_reducible refine same_ite ?_ ?_ | exact avoid hd rfl | (intro _)
    | split | dsimp only)

theorem same_endWork {ps : Nat} {z : State} (s : State) (t : Nat) (p : Flight → Bool) (v : Flight → Verdict) (hd : ps &&& 0xA47A8FC = 0) (hw : Same ps z s) :
    Same ps z ((endWork s t p v).1) := by
  unfold endWork
  try dsimp only
  repeat' (first
    | with_reducible assumption | with_reducible apply same_endClientApplets | with_reducible apply same_endFlight
    | with_reducible apply same_leaveHalt | with_reducible refine same_foldl ?_ ?_
    | with_reducible refine same_foldl_1 ?_ ?_ | with_reducible refine same_foldl_2 ?_ ?_
    | with_reducible refine same_foldl_22 ?_ ?_ | with_reducible refine same_ite ?_ ?_ | exact avoid hd rfl | (intro _)
    | split | dsimp only)

theorem same_stopWork {ps : Nat} {z : State} (s : State) (q : Flight) (hd : ps &&& 0xA0DA9FC = 0) (hw : Same ps z s) :
    Same ps z (stopWork s q) := by
  unfold stopWork
  try dsimp only
  repeat' (first
    | with_reducible assumption | with_reducible apply same_stopXfer | with_reducible apply same_foldDma
    | with_reducible apply same_modTen | with_reducible refine same_modFlights ?_ ?_
    | with_reducible apply same_settleGpu | with_reducible apply same_dropDeadChanges
    | with_reducible refine same_foldl ?_ ?_ | with_reducible refine same_ite ?_ ?_ | exact avoid hd rfl | (intro _)
    | split | dsimp only)

theorem same_stoppedFirst {ps : Nat} {z : State} (s : State) (e : Stopped) (hd : ps &&& 0x201093C = 0) (hw : Same ps z s) :
    Same ps z (stoppedFirst s e) := by
  unfold stoppedFirst
  try dsimp only
  repeat' (first
    | with_reducible assumption | with_reducible apply same_modTen | with_reducible apply same_finish
    | with_reducible refine same_modFlights ?_ ?_ | with_reducible apply same_accept
    | with_reducible refine same_ite ?_ ?_ | exact avoid hd rfl | (intro _) | split | dsimp only)

theorem same_endStopped {ps : Nat} {z : State} (s : State) (q : Flight) (hd : ps &&& 0x201093C = 0) (hw : Same ps z s) :
    Same ps z ((endStopped s q).1) := by
  unfold endStopped
  try dsimp only
  repeat' (first
    | with_reducible assumption | with_reducible apply same_stoppedFirst | with_reducible apply same_modTen
    | with_reducible apply same_finish | with_reducible refine same_foldl ?_ ?_
    | with_reducible refine same_foldl_1 ?_ ?_ | with_reducible refine same_foldl_2 ?_ ?_
    | with_reducible refine same_foldl_22 ?_ ?_ | with_reducible refine same_ite ?_ ?_ | exact avoid hd rfl | (intro _)
    | split | dsimp only)

theorem same_commitQuiesce {ps : Nat} {z : State} (s : State) (f : Flight) (hd : ps &&& 0xA0DA9FC = 0) (hw : Same ps z s) :
    Same ps z (commitQuiesce s f) := by
  unfold commitQuiesce
  try dsimp only
  repeat' (first
    | with_reducible assumption | with_reducible apply same_stopWork | with_reducible refine same_modFlights ?_ ?_
    | with_reducible apply same_modTen | with_reducible refine same_ite ?_ ?_ | exact avoid hd rfl | (intro _) | split
    | dsimp only)

theorem same_holdTenancy {ps : Nat} {z : State} (s : State) (t : Nat) (hd : ps &&& 0x24D797C = 0) (hw : Same ps z s) :
    Same ps z (holdTenancy s t) := by
  unfold holdTenancy
  try dsimp only
  repeat' (first
    | with_reducible assumption | with_reducible apply same_modTen | with_reducible apply same_holdSound
    | with_reducible apply same_endClientApplets | with_reducible apply same_afterAborts
    | with_reducible refine same_ite ?_ ?_ | exact avoid hd rfl | (intro _) | split | dsimp only)

theorem same_settleQuiesce {ps : Nat} {z : State} (s : State) (f : Flight) (hd : ps &&& 0x24D797C = 0) (hw : Same ps z s) :
    Same ps z (settleQuiesce s f) := by
  unfold settleQuiesce
  try dsimp only
  repeat' (first
    | with_reducible assumption | with_reducible apply same_finishDone | with_reducible apply same_holdTenancy
    | with_reducible refine same_ite ?_ ?_ | exact avoid hd rfl | (intro _) | split | dsimp only)

theorem same_drainLimit {ps : Nat} {z : State} (s : State) (f : Flight) (hd : ps &&& 0xA4FF9FC = 0) (hw : Same ps z s) :
    Same ps z (drainLimit s f) := by
  unfold drainLimit
  try dsimp only
  repeat' (first
    | with_reducible assumption | with_reducible apply same_endWork | with_reducible apply same_afterAborts
    | with_reducible apply same_settleQuiesce | with_reducible apply same_setFlight
    | with_reducible refine same_ite ?_ ?_ | exact avoid hd rfl | (intro _) | split | dsimp only)

theorem same_startQuiesce {ps : Nat} {z : State} (s : State) (f : Flight) (hd : ps &&& 0xA4FF9FC = 0) (hw : Same ps z s) :
    Same ps z (startQuiesce s f) := by
  unfold startQuiesce
  try dsimp only
  repeat' (first
    | with_reducible assumption | with_reducible apply same_finishDone | with_reducible apply same_endWork
    | with_reducible apply same_settleQuiesce | with_reducible apply same_setFlight
    | with_reducible apply same_afterAborts | with_reducible apply same_drainLimit
    | with_reducible refine same_ite ?_ ?_ | exact avoid hd rfl | (intro _) | split | dsimp only)

theorem same_limitOf {ps : Nat} {z : State} (s : State) (t : Nat) (hd : ps &&& 0xA4FF9FC = 0) (hw : Same ps z s) :
    Same ps z (limitOf s t) := by
  unfold limitOf
  try dsimp only
  repeat' (first
    | with_reducible assumption | with_reducible apply same_drainLimit | with_reducible refine same_ite ?_ ?_
    | exact avoid hd rfl | (intro _) | split | dsimp only)

theorem same_containTenancy {ps : Nat} {z : State} (s : State) (t b : Nat) (hd : ps &&& 0xA4FF9FC = 0) (hw : Same ps z s) :
    Same ps z (containTenancy s t b) := by
  unfold containTenancy
  try dsimp only
  repeat' (first
    | with_reducible assumption | with_reducible apply same_modTen | with_reducible apply same_endWork
    | with_reducible apply same_holdTenancy | with_reducible apply same_finishDone
    | with_reducible refine same_ite ?_ ?_ | exact avoid hd rfl | (intro _) | split | dsimp only)

theorem same_startResume {ps : Nat} {z : State} (s : State) (f : Flight) (hd : ps &&& 0x209097C = 0) (hw : Same ps z s) :
    Same ps z (startResume s f) := by
  unfold startResume
  try dsimp only
  repeat' (first
    | with_reducible assumption | with_reducible apply same_modTen | with_reducible apply same_weighInputs
    | with_reducible apply same_raise | with_reducible apply same_await | with_reducible apply same_finishDone
    | with_reducible refine same_ite ?_ ?_ | exact avoid hd rfl | (intro _) | split | dsimp only)

theorem same_joinLayer {ps : Nat} {z : State} (s : State) (h i : Nat) (hd : ps &&& 0x6000 = 0) (hw : Same ps z s) :
    Same ps z (joinLayer s h i) := by
  unfold joinLayer
  try dsimp only
  repeat' (first
    | with_reducible assumption | with_reducible apply same_modSlot | with_reducible apply same_placeRing
    | with_reducible refine same_ite ?_ ?_ | exact avoid hd rfl | (intro _) | split | dsimp only)

theorem same_joinLayers {ps : Nat} {z : State} (s : State) (h : Nat) (hd : ps &&& 0x6000 = 0) (hw : Same ps z s) :
    Same ps z (joinLayers s h) := by
  unfold joinLayers
  try dsimp only
  repeat' (first
    | with_reducible assumption | with_reducible apply same_joinLayer | with_reducible refine same_foldl ?_ ?_
    | with_reducible refine same_ite ?_ ?_ | exact avoid hd rfl | (intro _) | split | dsimp only)

theorem same_settleResume {ps : Nat} {z : State} (s : State) (f : Flight) (hd : ps &&& 0x201493C = 0) (hw : Same ps z s) :
    Same ps z (settleResume s f) := by
  unfold settleResume
  try dsimp only
  repeat' (first
    | with_reducible assumption | with_reducible apply same_modSlot | with_reducible apply same_finishDone
    | with_reducible apply same_modTen | with_reducible refine same_foldl ?_ ?_ | with_reducible refine same_ite ?_ ?_
    | exact avoid hd rfl | (intro _) | split | dsimp only)

theorem same_clearSource {ps : Nat} {z : State} (s : State) (n : Nat) (hd : ps &&& 0x40 = 0) (hw : Same ps z s) :
    Same ps z (clearSource s n) := by
  unfold clearSource
  try dsimp only
  repeat' (first
    | with_reducible assumption | with_reducible apply same_setEvSrc | with_reducible refine same_ite ?_ ?_
    | exact avoid hd rfl | (intro _) | split | dsimp only)

theorem same_renewPool {ps : Nat} {z : State} {p : Pool} (hp : SparesPool ps z p) (src : Option (Nat → Nat)) (s : State) (t : Nat)
    (hd : ps &&& 0x40 = 0) (hw : Same ps z s) : Same ps z (renewPool p src s t) := by
  refine same_foldl (fun _ _ w => ?_) hw
  dsimp only
  split
  · exact same_setEvSrc _ _ _ hd (hp.give _ _ _ _ (hp.free _ _ w))
  · exact hp.give _ _ _ _ (hp.free _ _ w)

theorem same_endTenancyCharges {ps : Nat} {z : State} (s : State) (t : Nat) (hd : ps &&& 0x1000 = 0) (hw : Same ps z s) :
    Same ps z (endTenancyCharges s t) := by
  unfold endTenancyCharges
  try dsimp only
  repeat' (first
    | with_reducible assumption | with_reducible refine same_modCharges ?_ ?_ | with_reducible refine same_ite ?_ ?_
    | exact avoid hd rfl | (intro _) | split | dsimp only)

theorem same_renewObjects {ps : Nat} {z : State} (s : State) (t : Nat) (hd : ps &&& 0x3BBC78 = 0) (hw : Same ps z s) :
    Same ps z (renewObjects s t) := by
  unfold renewObjects
  try dsimp only
  repeat' (first
    | with_reducible assumption | with_reducible apply same_setCr | with_reducible refine same_modVisible ?_ ?_
    | with_reducible apply same_renewPool | with_reducible apply same_clearSource | with_reducible apply same_modCtx
    | with_reducible apply same_setAssay | with_reducible apply same_modTone | with_reducible apply same_modHap
    | with_reducible apply same_dropTouch | with_reducible apply same_modFn
    | with_reducible refine same_modCharges ?_ ?_ | with_reducible refine same_foldl ?_ ?_
    | exact evPool_spares (avoid hd rfl) | exact chanPool_spares (avoid hd rfl) | exact streamPool_spares (avoid hd rfl)
    | exact inputPool_spares (avoid hd rfl) | exact slotPool_spares (avoid hd rfl) | exact ctxPool_spares (avoid hd rfl)
    | exact assayPool_spares (avoid hd rfl) | with_reducible refine same_ite ?_ ?_ | exact avoid hd rfl | (intro _)
    | split | dsimp only)

theorem same_leaveLayer {ps : Nat} {z : State} (s : State) (i : Nat) (hd : ps &&& 0x7040 = 0) (hw : Same ps z s) :
    Same ps z (leaveLayer s i) := by
  unfold leaveLayer
  try dsimp only
  repeat' (first
    | with_reducible assumption | with_reducible apply same_clearSource | with_reducible refine same_modCharges ?_ ?_
    | with_reducible refine same_modSr ?_ ?_ | with_reducible apply same_modSlot | with_reducible refine same_ite ?_ ?_
    | exact avoid hd rfl | (intro _) | split | dsimp only)

theorem same_beginLeave {ps : Nat} {z : State} (s : State) (t a : Nat) (hd : ps &&& 0x7140 = 0) (hw : Same ps z s) :
    Same ps z (beginLeave s t a) := by
  unfold beginLeave
  try dsimp only
  repeat' (first
    | with_reducible assumption | with_reducible apply same_leaveLayer | with_reducible apply same_modTen
    | with_reducible refine same_foldl ?_ ?_ | with_reducible refine same_ite ?_ ?_ | exact avoid hd rfl | (intro _)
    | split | dsimp only)

theorem same_leaveAtLatch {ps : Nat} {z : State} (s : State) (h : Nat) (hd : ps &&& 0x7040 = 0) (hw : Same ps z s) :
    Same ps z (leaveAtLatch s h) := by
  unfold leaveAtLatch
  try dsimp only
  repeat' (first
    | with_reducible assumption | with_reducible apply same_leaveLayer | with_reducible refine same_foldl ?_ ?_
    | with_reducible refine same_ite ?_ ?_ | exact avoid hd rfl | (intro _) | split | dsimp only)

theorem same_leaveDisabled {ps : Nat} {z : State} (s : State) (hd : ps &&& 0x7040 = 0) (hw : Same ps z s) :
    Same ps z (leaveDisabled s) := by
  unfold leaveDisabled
  try dsimp only
  repeat' (first
    | with_reducible assumption | with_reducible apply same_leaveAtLatch | with_reducible refine same_foldl ?_ ?_
    | with_reducible refine same_ite ?_ ?_ | exact avoid hd rfl | (intro _) | split | dsimp only)

theorem same_zeroiseAll {ps : Nat} {z : State} (s : State) (t next : Nat) (hd : ps &&& 0x42000 = 0) (hw : Same ps z s) :
    Same ps z (zeroiseAll s t next) := by
  unfold zeroiseAll
  try dsimp only
  repeat' (first
    | with_reducible assumption | with_reducible apply same_zeroiseShelf | with_reducible apply same_zeroisePlot
    | with_reducible refine same_foldl ?_ ?_ | with_reducible refine same_ite ?_ ?_ | exact avoid hd rfl | (intro _)
    | split | dsimp only)

theorem same_startReset {ps : Nat} {z : State} (s : State) (f : Flight) (hd : ps &&& 0x3BFD78 = 0) (hw : Same ps z s) :
    Same ps z (startReset s f) := by
  unfold startReset
  try dsimp only
  repeat' (first
    | with_reducible assumption | with_reducible apply same_await | with_reducible apply same_beginLeave
    | with_reducible apply same_renewObjects | with_reducible refine same_ite ?_ ?_ | exact avoid hd rfl | (intro _)
    | split | dsimp only)

theorem same_settleReset {ps : Nat} {z : State} (s : State) (f : Flight) (hd : ps &&& 0x205393C = 0) (hw : Same ps z s) :
    Same ps z (settleReset s f) := by
  unfold settleReset
  try dsimp only
  repeat' (first
    | with_reducible assumption | with_reducible apply same_endTenancyCharges | with_reducible apply same_setFlight
    | with_reducible apply same_zeroiseAll | with_reducible apply same_modTen | with_reducible apply same_finishDone
    | with_reducible refine same_ite ?_ ?_ | exact avoid hd rfl | (intro _) | split | dsimp only)

theorem same_startRemove {ps : Nat} {z : State} (s : State) (f : Flight) (hd : ps &&& 0x3BFD78 = 0) (hw : Same ps z s) :
    Same ps z (startRemove s f) := by
  unfold startRemove
  try dsimp only
  repeat' (first
    | with_reducible assumption | with_reducible apply same_await | with_reducible apply same_beginLeave
    | with_reducible apply same_renewObjects | with_reducible refine same_ite ?_ ?_ | exact avoid hd rfl | (intro _)
    | split | dsimp only)

theorem same_spareEntries {ps : Nat} {z : State} (s : State) (t : Nat) (hd : ps &&& 0x2 = 0) (hw : Same ps z s) :
    Same ps z (spareEntries s t) := by
  unfold spareEntries
  try dsimp only
  repeat' (first
    | with_reducible assumption | with_reducible refine same_modWheels ?_ ?_ | with_reducible refine same_ite ?_ ?_
    | exact avoid hd rfl | (intro _) | split | dsimp only)

theorem same_settleRemove {ps : Nat} {z : State} (s : State) (f : Flight) (hd : ps &&& 0x23FF9FE = 0) (hw : Same ps z s) :
    Same ps z (settleRemove s f) := by
  unfold settleRemove
  try dsimp only
  repeat' (first
    | with_reducible assumption | with_reducible apply same_endTenancyCharges | with_reducible apply same_setFlight
    | with_reducible apply same_zeroiseAll | with_reducible apply same_spareEntries | with_reducible apply same_modTen
    | with_reducible apply same_finishDone | with_reducible apply same_vanish | with_reducible refine same_ite ?_ ?_
    | exact avoid hd rfl | (intro _) | split | dsimp only)

theorem same_resetPage {ps : Nat} {z : State} (s : State) (f : Nat) (hd : ps &&& 0x78 = 0) (hw : Same ps z s) :
    Same ps z (resetPage s f) := by
  unfold resetPage
  try dsimp only
  repeat' (first
    | with_reducible assumption | with_reducible apply same_setCr | with_reducible apply same_disableEvRing
    | with_reducible apply same_setFn | with_reducible refine same_foldl ?_ ?_ | with_reducible refine same_ite ?_ ?_
    | exact avoid hd rfl | (intro _) | split | dsimp only)

theorem same_resetFunction {ps : Nat} {z : State} (s : State) (t : Nat) (hd : ps &&& 0xA7FFDFC = 0) (hw : Same ps z s) :
    Same ps z (resetFunction s t) := by
  unfold resetFunction
  try dsimp only
  repeat' (first
    | with_reducible assumption | with_reducible apply same_settleWake | with_reducible apply same_resetPage
    | with_reducible refine same_modVisible ?_ ?_ | with_reducible apply same_modTen
    | with_reducible apply same_endFlight | with_reducible apply same_await | with_reducible apply same_afterAborts
    | with_reducible apply same_holdTenancy | with_reducible apply same_setFlight | with_reducible apply same_finishDone
    | with_reducible apply same_beginLeave | with_reducible apply same_renewObjects
    | with_reducible refine same_foldl ?_ ?_ | with_reducible refine same_foldl_1 ?_ ?_
    | with_reducible refine same_foldl_2 ?_ ?_ | with_reducible refine same_foldl_22 ?_ ?_
    | with_reducible refine same_ite ?_ ?_ | exact avoid hd rfl | (intro _) | split | dsimp only)

theorem same_settleFlr {ps : Nat} {z : State} (s : State) (t : Nat) (hd : ps &&& 0x1100 = 0) (hw : Same ps z s) :
    Same ps z (settleFlr s t) := by
  unfold settleFlr
  try dsimp only
  repeat' (first
    | with_reducible assumption | with_reducible apply same_modTen | with_reducible apply same_endTenancyCharges
    | with_reducible refine same_ite ?_ ?_ | exact avoid hd rfl | (intro _) | split | dsimp only)

theorem same_resetPf0 {ps : Nat} {z : State} (s : State) (hd : ps &&& 0x47C = 0) (hw : Same ps z s) :
    Same ps z (resetPf0 s) := by
  unfold resetPf0
  try dsimp only
  repeat' (first
    | with_reducible assumption | with_reducible apply same_resetPage | with_reducible refine same_modVisible ?_ ?_
    | with_reducible apply same_modCr | with_reducible apply same_settleWake | with_reducible refine same_modPcie ?_ ?_
    | with_reducible refine same_foldl ?_ ?_ | with_reducible refine same_ite ?_ ?_ | exact avoid hd rfl | (intro _)
    | split | dsimp only)

theorem same_startFreeze {ps : Nat} {z : State} (s : State) (f : Flight) (hd : ps &&& 0x201093C = 0) (hw : Same ps z s) :
    Same ps z (startFreeze s f) := by
  unfold startFreeze
  try dsimp only
  repeat' (first
    | with_reducible assumption | with_reducible apply same_finishDone | with_reducible apply same_modTen
    | with_reducible refine same_ite ?_ ?_ | exact avoid hd rfl | (intro _) | split | dsimp only)

theorem same_setAperture {ps : Nat} {z : State} (s : State) (d : Descriptor) (hd : ps &&& 0x100 = 0) (hw : Same ps z s) :
    Same ps z (setAperture s d) := by
  unfold setAperture
  try dsimp only
  repeat' (first
    | with_reducible assumption | with_reducible apply same_modTen | with_reducible refine same_ite ?_ ?_
    | exact avoid hd rfl | (intro _) | split | dsimp only)

theorem same_startAperture {ps : Nat} {z : State} (s : State) (f : Flight) (hd : ps &&& 0x201093C = 0) (hw : Same ps z s) :
    Same ps z (startAperture s f) := by
  unfold startAperture
  try dsimp only
  repeat' (first
    | with_reducible assumption | with_reducible apply same_finishDone | with_reducible apply same_setAperture
    | with_reducible refine same_ite ?_ ?_ | exact avoid hd rfl | (intro _) | split | dsimp only)

theorem same_startTenancyQuery {ps : Nat} {z : State} (s : State) (f : Flight) (hd : ps &&& 0x201083C = 0) (hw : Same ps z s) :
    Same ps z (startTenancyQuery s f) := by
  unfold startTenancyQuery
  try dsimp only
  repeat' (first
    | with_reducible assumption | with_reducible apply same_finishDone | with_reducible apply same_hostWrite
    | with_reducible refine same_ite ?_ ?_ | exact avoid hd rfl | (intro _) | split | dsimp only)

theorem same_startResourceQuery {ps : Nat} {z : State} (s : State) (f : Flight) (hd : ps &&& 0x201083C = 0) (hw : Same ps z s) :
    Same ps z (startResourceQuery s f) := by
  unfold startResourceQuery
  try dsimp only
  repeat' (first
    | with_reducible assumption | with_reducible apply same_finishDone | with_reducible apply same_hostWrite
    | with_reducible refine same_ite ?_ ?_ | exact avoid hd rfl | (intro _) | split | dsimp only)

theorem same_settleTenancies {ps : Nat} {z : State} (s : State) (hd : ps &&& 0x27FFBFE = 0) (hw : Same ps z s) :
    Same ps z (settleTenancies s) := by
  unfold settleTenancies
  try dsimp only
  repeat' (first
    | with_reducible assumption | with_reducible apply same_settleGoers | with_reducible apply same_leaveDisabled
    | with_reducible apply same_settleRemove | with_reducible apply same_settleReset
    | with_reducible apply same_settleResume | with_reducible apply same_settleQuiesce
    | with_reducible apply same_settleFlr | with_reducible refine same_foldl ?_ ?_
    | with_reducible refine same_ite ?_ ?_ | exact avoid hd rfl | (intro _) | split | dsimp only)

end Sys2Proof.Machine
end

