-- ==== Sys2Proof/Laws/SameStageOps.lean ====
section
/-! SUPPORT. What the operations of Machine/StageOps.lean leave alone. -/

namespace Sys2Proof.Machine

theorem same_restoreCharges {ps : Nat} {z : State} (s : State) (sl : Nat) (hd : ps &&& 0x1000 = 0) (hw : Same ps z s) :
    Same ps z (restoreCharges s sl) := by
  unfold restoreCharges
  try dsimp only
  repeat' (first
    | with_reducible assumption | with_reducible refine same_modCharges ?_ ?_ | with_reducible refine same_ite ?_ ?_
    | exact avoid hd rfl | (intro _) | split | dsimp only)

theorem same_holdUpdate {ps : Nat} {z : State} (s : State) (f : Flight) (hd : ps &&& 0x5840 = 0) (hw : Same ps z s) :
    Same ps z (holdUpdate s f) := by
  unfold holdUpdate
  try dsimp only
  repeat' (first
    | with_reducible assumption | with_reducible apply same_setFlight | with_reducible apply same_modSlot
    | with_reducible refine same_modCharges ?_ ?_ | with_reducible apply same_raise
    | with_reducible refine same_ite ?_ ?_ | exact avoid hd rfl | (intro _) | split | dsimp only)

theorem same_testUpdate {ps : Nat} {z : State} (s : State) (f : Flight) (hd : ps &&& 0x201587C = 0) (hw : Same ps z s) :
    Same ps z (testUpdate s f) := by
  unfold testUpdate
  try dsimp only
  repeat' (first
    | with_reducible assumption | with_reducible apply same_setFlight | with_reducible apply same_restoreCharges
    | with_reducible apply same_finishAborted | with_reducible apply same_holdUpdate
    | with_reducible refine same_ite ?_ ?_ | exact avoid hd rfl | (intro _) | split | dsimp only)

theorem same_missOrder {ps : Nat} {z : State} (s : State) (f : Flight) (t : Nat) (hd : ps &&& 0x20158FC = 0) (hw : Same ps z s) :
    Same ps z (missOrder s f t) := by
  unfold missOrder
  try dsimp only
  repeat' (first
    | with_reducible assumption | with_reducible apply same_assert | with_reducible apply same_accept
    | with_reducible apply same_modHead | with_reducible apply same_finish | with_reducible apply same_restoreCharges
    | with_reducible refine same_ite ?_ ?_ | exact avoid hd rfl | (intro _) | split | dsimp only)

theorem same_renewCharges {ps : Nat} {z : State} (s : State) (sl : Nat) (hd : ps &&& 0x3000 = 0) (hw : Same ps z s) :
    Same ps z (renewCharges s sl) := by
  unfold renewCharges
  try dsimp only
  repeat' (first
    | with_reducible assumption | with_reducible refine same_modCharges ?_ ?_
    | with_reducible apply same_commitLayerUpdate | with_reducible apply same_commitLayerFree
    | with_reducible apply same_commitLayerMove | with_reducible refine same_foldl ?_ ?_
    | with_reducible refine same_foldl_1 ?_ ?_ | with_reducible refine same_foldl_2 ?_ ?_
    | with_reducible refine same_foldl_22 ?_ ?_ | with_reducible refine same_ite ?_ ?_ | exact avoid hd rfl | (intro _)
    | split | dsimp only)

theorem same_resizeRings {ps : Nat} {z : State} (s : State) (h : Nat) (hd : ps &&& 0x43000 = 0) (hw : Same ps z s) :
    Same ps z (resizeRings s h) := by
  unfold resizeRings
  try dsimp only
  repeat' (first
    | with_reducible assumption | with_reducible apply same_placeSecureRing | with_reducible apply same_renewCharges
    | with_reducible apply same_placeRing | with_reducible refine same_foldl ?_ ?_
    | with_reducible refine same_ite ?_ ?_ | exact avoid hd rfl | (intro _) | split | dsimp only)

theorem same_commitStockroomStager {ps : Nat} {z : State} (s : State) (f : Flight) (hd : ps &&& 0x2000 = 0) (hw : Same ps z s) :
    Same ps z (commitStockroomStager s f) := by
  unfold commitStockroomStager
  try dsimp only
  repeat' (first
    | with_reducible assumption | with_reducible apply same_reserveRing | with_reducible refine same_foldl ?_ ?_
    | with_reducible refine same_ite ?_ ?_ | exact avoid hd rfl | (intro _) | split | dsimp only)

theorem same_applyStager {ps : Nat} {z : State} (s : State) (f : Flight) (hd : ps &&& 0x205383C = 0) (hw : Same ps z s) :
    Same ps z (applyStager s f) := by
  unfold applyStager
  try dsimp only
  repeat' (first
    | with_reducible assumption | with_reducible apply same_setStager | with_reducible apply same_finishDone
    | with_reducible apply same_resizeRings | with_reducible refine same_ite ?_ ?_ | exact avoid hd rfl | (intro _)
    | split | dsimp only)

theorem same_startStockroomStager {ps : Nat} {z : State} (s : State) (f : Flight) (hd : ps &&& 0x205383C = 0) (hw : Same ps z s) :
    Same ps z (startStockroomStager s f) := by
  unfold startStockroomStager
  try dsimp only
  repeat' (first
    | with_reducible assumption | with_reducible apply same_applyStager | with_reducible apply same_await
    | with_reducible refine same_ite ?_ ?_ | exact avoid hd rfl | (intro _) | split | dsimp only)

theorem same_requestNew {ps : Nat} {z : State} (s : State) (h : Nat) (c : HeadCfg) (hd : ps &&& 0x2000 = 0) (hw : Same ps z s) :
    Same ps z (requestNew s h c) := by
  unfold requestNew
  try dsimp only
  repeat' (first
    | with_reducible assumption | with_reducible apply same_setStager | with_reducible refine same_ite ?_ ?_
    | exact avoid hd rfl | (intro _) | split | dsimp only)

theorem same_stagerRequestOf {ps : Nat} {z : State} (s : State) (h line : Nat) (hd : ps &&& 0x2000 = 0) (hw : Same ps z s) :
    Same ps z (stagerRequestOf s h line) := by
  unfold stagerRequestOf
  try dsimp only
  repeat' (first
    | with_reducible assumption | with_reducible apply same_setStager | with_reducible apply same_requestNew
    | with_reducible refine same_ite ?_ ?_ | exact avoid hd rfl | (intro _) | split | dsimp only)

theorem same_switchStager {ps : Nat} {z : State} (s : State) (h : Nat) (hd : ps &&& 0x205787C = 0) (hw : Same ps z s) :
    Same ps z (switchStager s h) := by
  unfold switchStager
  try dsimp only
  repeat' (first
    | with_reducible assumption | with_reducible apply same_testUpdate | with_reducible apply same_applyStager
    | with_reducible apply same_modHead | with_reducible apply same_requestNew | with_reducible apply same_setStager
    | with_reducible refine same_foldl ?_ ?_ | with_reducible refine same_ite ?_ ?_ | exact avoid hd rfl | (intro _)
    | split | dsimp only)

theorem same_stagerSwitchOf {ps : Nat} {z : State} (s : State) (h : Nat) (hd : ps &&& 0x205787C = 0) (hw : Same ps z s) :
    Same ps z (stagerSwitchOf s h) := by
  unfold stagerSwitchOf
  try dsimp only
  repeat' (first
    | with_reducible assumption | with_reducible apply same_switchStager | with_reducible refine same_ite ?_ ?_
    | exact avoid hd rfl | (intro _) | split | dsimp only)

theorem same_ensureSwitch {ps : Nat} {z : State} (s : State) (h : Nat) (hd : ps &&& 0x205787C = 0) (hw : Same ps z s) :
    Same ps z (ensureSwitch s h) := by
  unfold ensureSwitch
  try dsimp only
  repeat' (first
    | with_reducible assumption | with_reducible apply same_switchStager | with_reducible refine same_ite ?_ ?_
    | exact avoid hd rfl | (intro _) | split | dsimp only)

theorem same_secureLine {ps : Nat} {z : State} (s : State) (st : LayerState) (hd : ps &&& 0x8000000 = 0) (hw : Same ps z s) :
    Same ps z ((secureLine s st).2) := by
  unfold secureLine
  try dsimp only
  repeat' (first
    | with_reducible assumption | with_reducible apply same_freshBytes | with_reducible refine same_ite ?_ ?_
    | exact avoid hd rfl | (intro _) | split | dsimp only)

theorem same_writeRing {ps : Nat} {z : State} (s : State) (g : Ring) (st : LayerState) (j : Nat) (hd : ps &&& 0x2000 = 0) (hw : Same ps z s) :
    Same ps z (writeRing s g st j) := by
  unfold writeRing
  try dsimp only
  repeat' (first
    | with_reducible assumption | with_reducible refine same_modSr ?_ ?_ | with_reducible apply same_noteMoved
    | with_reducible refine same_foldl ?_ ?_ | with_reducible refine same_foldl_1 ?_ ?_
    | with_reducible refine same_foldl_2 ?_ ?_ | with_reducible refine same_foldl_22 ?_ ?_
    | with_reducible refine same_ite ?_ ?_ | exact avoid hd rfl | (intro _) | split | dsimp only)

theorem same_markRing {ps : Nat} {z : State} (s : State) (g : Ring) (st : LayerState) (second : Bool) (m : Nat) (bad : List Nat) (hd : ps &&& 0x2000 = 0) (hw : Same ps z s) :
    Same ps z (markRing s g st second m bad) := by
  unfold markRing
  try dsimp only
  repeat' (first
    | with_reducible assumption | with_reducible apply same_setSrWord | with_reducible refine same_foldl ?_ ?_
    | with_reducible refine same_foldl_1 ?_ ?_ | with_reducible refine same_foldl_2 ?_ ?_
    | with_reducible refine same_foldl_22 ?_ ?_ | with_reducible refine same_ite ?_ ?_ | exact avoid hd rfl | (intro _)
    | split | dsimp only)

theorem same_stagePlane {ps : Nat} {z : State} (c : HeadCfg) (arr : List (Nat × Nat × LayerState)) (area : Option (List Rect)) (cull : Bool) (e : Nat × Nat × LayerState) (g : Ring) (j : Nat) (second : Bool) (uses : Nat → Bool) (s : State) (m : Nat) (hd : ps &&& 0x20568FC = 0) (hw : Same ps z s) :
    Same ps z (stagePlane c arr area cull e g j second uses s m) := by
  unfold stagePlane
  try dsimp only
  repeat' (first
    | with_reducible assumption | with_reducible apply same_countBulk | with_reducible apply same_noteBulk
    | with_reducible apply same_srAccessFault | with_reducible apply same_markRing | with_reducible apply same_writeRing
    | with_reducible refine same_modComp ?_ ?_ | with_reducible refine same_foldl ?_ ?_
    | with_reducible refine same_foldl_1 ?_ ?_ | with_reducible refine same_foldl_2 ?_ ?_
    | with_reducible refine same_foldl_22 ?_ ?_ | with_reducible refine same_ite ?_ ?_ | exact avoid hd rfl | (intro _)
    | split | dsimp only)

theorem same_stageLayer {ps : Nat} {z : State} (c : HeadCfg) (arr : List (Nat × Nat × LayerState)) (area : Option (List Rect)) (y : Nat) (s : State) (e : Nat × Nat × LayerState) (hd : ps &&& 0xA0568FC = 0) (hw : Same ps z s) :
    Same ps z (stageLayer c arr area y s e) := by
  unfold stageLayer
  try dsimp only
  repeat' (first
    | with_reducible assumption | with_reducible apply same_srAccessFault | with_reducible apply same_secureLine
    | with_reducible apply same_writeRing | with_reducible refine same_modComp ?_ ?_
    | with_reducible apply same_stagePlane | with_reducible refine same_foldl ?_ ?_
    | with_reducible refine same_foldl_1 ?_ ?_ | with_reducible refine same_foldl_2 ?_ ?_
    | with_reducible refine same_foldl_22 ?_ ?_ | with_reducible refine same_ite ?_ ?_ | exact avoid hd rfl | (intro _)
    | split | dsimp only)

theorem same_stagingArrivalOf {ps : Nat} {z : State} (s : State) (h line : Nat) (hd : ps &&& 0xA0568FC = 0) (hw : Same ps z s) :
    Same ps z (stagingArrivalOf s h line) := by
  unfold stagingArrivalOf
  try dsimp only
  repeat' (first
    | with_reducible assumption | with_reducible apply same_stageLayer | with_reducible apply same_setStager
    | with_reducible refine same_foldl ?_ ?_ | with_reducible refine same_foldl_1 ?_ ?_
    | with_reducible refine same_foldl_2 ?_ ?_ | with_reducible refine same_foldl_22 ?_ ?_
    | with_reducible refine same_ite ?_ ?_ | exact avoid hd rfl | (intro _) | split | dsimp only)

theorem same_stagerEpoch {ps : Nat} {z : State} (s : State) (h : Nat) (hd : ps &&& 0x2040 = 0) (hw : Same ps z s) :
    Same ps z (stagerEpoch s h) := by
  unfold stagerEpoch
  try dsimp only
  repeat' (first
    | with_reducible assumption | with_reducible apply same_setStager | with_reducible apply same_raise
    | with_reducible refine same_ite ?_ ?_ | exact avoid hd rfl | (intro _) | split | dsimp only)

theorem same_noteDamage {ps : Nat} {z : State} (s : State) (h : Nat) (rs : List Rect) (hd : ps &&& 0x4000 = 0) (hw : Same ps z s) :
    Same ps z (noteDamage s h rs) := by
  unfold noteDamage
  try dsimp only
  repeat' (first
    | with_reducible assumption | with_reducible apply same_modHead | with_reducible refine same_ite ?_ ?_
    | exact avoid hd rfl | (intro _) | split | dsimp only)

theorem same_takeState {ps : Nat} {z : State} (s : State) (h sl : Nat) (st : LayerState) (c1 : Bool) (hd : ps &&& 0x6000 = 0) (hw : Same ps z s) :
    Same ps z (takeState s h sl st c1) := by
  unfold takeState
  try dsimp only
  repeat' (first
    | with_reducible assumption | with_reducible apply same_modSlot | with_reducible apply same_noteDamage
    | with_reducible apply same_placeRing | with_reducible refine same_foldl ?_ ?_
    | with_reducible refine same_ite ?_ ?_ | exact avoid hd rfl | (intro _) | split | dsimp only)

theorem same_latchUpdate {ps : Nat} {z : State} (s : State) (h : Nat) (f : Flight) (hd : ps &&& 0x201783C = 0) (hw : Same ps z s) :
    Same ps z (latchUpdate s h f) := by
  unfold latchUpdate
  try dsimp only
  repeat' (first
    | with_reducible assumption | with_reducible apply same_takeState | with_reducible apply same_renewCharges
    | with_reducible apply same_finishDone | with_reducible refine same_foldl ?_ ?_
    | with_reducible refine same_ite ?_ ?_ | exact avoid hd rfl | (intro _) | split | dsimp only)

theorem same_latchFree {ps : Nat} {z : State} (s : State) (h : Nat) (f : Flight) (hd : ps &&& 0x201687C = 0) (hw : Same ps z s) :
    Same ps z (latchFree s h f) := by
  unfold latchFree
  try dsimp only
  repeat' (first
    | with_reducible assumption | with_reducible apply same_noteDamage | with_reducible apply same_releaseSlot
    | with_reducible apply same_finishDone | with_reducible refine same_ite ?_ ?_ | exact avoid hd rfl | (intro _)
    | split | dsimp only)

theorem same_departMove {ps : Nat} {z : State} (s : State) (f : Flight) (hd : ps &&& 0x6800 = 0) (hw : Same ps z s) :
    Same ps z (departMove s f) := by
  unfold departMove
  try dsimp only
  repeat' (first
    | with_reducible assumption | with_reducible apply same_noteDamage | with_reducible apply same_setRing
    | with_reducible apply same_await | with_reducible apply same_modSlot | with_reducible refine same_ite ?_ ?_
    | exact avoid hd rfl | (intro _) | split | dsimp only)

theorem same_arriveMove {ps : Nat} {z : State} (s : State) (h : Nat) (f : Flight) (hd : ps &&& 0x201683C = 0) (hw : Same ps z s) :
    Same ps z (arriveMove s h f) := by
  unfold arriveMove
  try dsimp only
  repeat' (first
    | with_reducible assumption | with_reducible apply same_departMove | with_reducible apply same_noteDamage
    | with_reducible apply same_modSlot | with_reducible apply same_finishDone | with_reducible apply same_placeRing
    | with_reducible refine same_ite ?_ ?_ | exact avoid hd rfl | (intro _) | split | dsimp only)

theorem same_latchPush {ps : Nat} {z : State} (s : State) (h : Nat) (f : Flight) (hd : ps &&& 0x201483C = 0) (hw : Same ps z s) :
    Same ps z (latchPush s h f) := by
  unfold latchPush
  try dsimp only
  repeat' (first
    | with_reducible assumption | with_reducible apply same_finishDone | with_reducible apply same_noteDamage
    | with_reducible refine same_ite ?_ ?_ | exact avoid hd rfl | (intro _) | split | dsimp only)

theorem same_startAtLatch {ps : Nat} {z : State} (s : State) (f : Flight) (hd : ps &&& 0x800 = 0) (hw : Same ps z s) :
    Same ps z (startAtLatch s f) := by
  unfold startAtLatch
  try dsimp only
  repeat' (first
    | with_reducible assumption | with_reducible apply same_await | with_reducible refine same_ite ?_ ?_
    | exact avoid hd rfl | (intro _) | split | dsimp only)

theorem same_startLayerClut {ps : Nat} {z : State} (s : State) (f : Flight) (hd : ps &&& 0x201483C = 0) (hw : Same ps z s) :
    Same ps z (startLayerClut s f) := by
  unfold startLayerClut
  try dsimp only
  repeat' (first
    | with_reducible assumption | with_reducible apply same_finishDone | with_reducible apply same_applyClut
    | with_reducible apply same_startAtLatch | with_reducible apply same_setFlight
    | with_reducible refine same_ite ?_ ?_ | exact avoid hd rfl | (intro _) | split | dsimp only)

theorem same_startFenced {ps : Nat} {z : State} (s : State) (h : Nat) (f : Flight) (hd : ps &&& 0x201483C = 0) (hw : Same ps z s) :
    Same ps z (startFenced s h f) := by
  unfold startFenced
  try dsimp only
  repeat' (first
    | with_reducible assumption | with_reducible apply same_startLayerClut | with_reducible apply same_startAtLatch
    | with_reducible refine same_ite ?_ ?_ | exact avoid hd rfl | (intro _) | split | dsimp only)

theorem same_latchOne {ps : Nat} {z : State} (h : Nat) (s : State) (g : Flight) (hd : ps &&& 0x201F8FC = 0) (hw : Same ps z s) :
    Same ps z (latchOne h s g) := by
  unfold latchOne
  try dsimp only
  repeat' (first
    | with_reducible assumption | with_reducible apply same_startFenced | with_reducible apply same_departMove
    | with_reducible apply same_missOrder | with_reducible apply same_arriveMove | with_reducible apply same_setFlight
    | with_reducible apply same_latchUpdate | with_reducible apply same_latchFree | with_reducible apply same_finishDone
    | with_reducible apply same_applyClut | with_reducible apply same_applyPolicy | with_reducible apply same_latchPush
    | with_reducible apply same_applyAssay | with_reducible refine same_ite ?_ ?_ | exact avoid hd rfl | (intro _)
    | split | dsimp only)

theorem same_endPoison {ps : Nat} {z : State} (s : State) (h : Nat) (hd : ps &&& 0x4040 = 0) (hw : Same ps z s) :
    Same ps z (endPoison s h) := by
  unfold endPoison
  try dsimp only
  repeat' (first
    | with_reducible assumption | with_reducible apply same_raise | with_reducible apply same_modSlot
    | with_reducible refine same_foldl ?_ ?_ | with_reducible refine same_ite ?_ ?_ | exact avoid hd rfl | (intro _)
    | split | dsimp only)

theorem same_latchHead {ps : Nat} {z : State} (s : State) (h : Nat) (hd : ps &&& 0x245F8FC = 0) (hw : Same ps z s) :
    Same ps z (latchHead s h) := by
  unfold latchHead
  try dsimp only
  repeat' (first
    | with_reducible assumption | with_reducible apply same_joinLayers | with_reducible apply same_leaveAtLatch
    | with_reducible apply same_latchSecure | with_reducible apply same_latchOne
    | with_reducible refine same_foldl ?_ ?_ | with_reducible refine same_ite ?_ ?_ | exact avoid hd rfl | (intro _)
    | split | dsimp only)

theorem same_startLayerUpdate {ps : Nat} {z : State} (s : State) (f : Flight) (hd : ps &&& 0x800 = 0) (hw : Same ps z s) :
    Same ps z (startLayerUpdate s f) := by
  unfold startLayerUpdate
  try dsimp only
  repeat' (first
    | with_reducible assumption | with_reducible apply same_startAtLatch | with_reducible refine same_ite ?_ ?_
    | exact avoid hd rfl | (intro _) | split | dsimp only)

theorem same_startLayerFree {ps : Nat} {z : State} (s : State) (f : Flight) (hd : ps &&& 0x800 = 0) (hw : Same ps z s) :
    Same ps z (startLayerFree s f) := by
  unfold startLayerFree
  try dsimp only
  repeat' (first
    | with_reducible assumption | with_reducible apply same_await | with_reducible apply same_startAtLatch
    | with_reducible refine same_ite ?_ ?_ | exact avoid hd rfl | (intro _) | split | dsimp only)

theorem same_applyLayerFree {ps : Nat} {z : State} (s : State) (f : Flight) (hd : ps &&& 0x201687C = 0) (hw : Same ps z s) :
    Same ps z (applyLayerFree s f) := by
  unfold applyLayerFree
  try dsimp only
  repeat' (first
    | with_reducible assumption | with_reducible apply same_releaseSlot | with_reducible apply same_finishDone
    | with_reducible refine same_ite ?_ ?_ | exact avoid hd rfl | (intro _) | split | dsimp only)

theorem same_startLayerMove {ps : Nat} {z : State} (s : State) (f : Flight) (hd : ps &&& 0x800 = 0) (hw : Same ps z s) :
    Same ps z (startLayerMove s f) := by
  unfold startLayerMove
  try dsimp only
  repeat' (first
    | with_reducible assumption | with_reducible apply same_await | with_reducible refine same_ite ?_ ?_
    | exact avoid hd rfl | (intro _) | split | dsimp only)

theorem same_startLayerPolicy {ps : Nat} {z : State} (s : State) (f : Flight) (hd : ps &&& 0x201483C = 0) (hw : Same ps z s) :
    Same ps z (startLayerPolicy s f) := by
  unfold startLayerPolicy
  try dsimp only
  repeat' (first
    | with_reducible assumption | with_reducible apply same_finishDone | with_reducible apply same_applyPolicy
    | with_reducible apply same_startAtLatch | with_reducible refine same_ite ?_ ?_ | exact avoid hd rfl | (intro _)
    | split | dsimp only)

theorem same_startHeadPush {ps : Nat} {z : State} (s : State) (f : Flight) (hd : ps &&& 0x800 = 0) (hw : Same ps z s) :
    Same ps z (startHeadPush s f) := by
  unfold startHeadPush
  try dsimp only
  repeat' (first
    | with_reducible assumption | with_reducible apply same_startAtLatch | with_reducible refine same_ite ?_ ?_
    | exact avoid hd rfl | (intro _) | split | dsimp only)

theorem same_startHeadQuiet {ps : Nat} {z : State} (s : State) (f : Flight) (hd : ps &&& 0x800 = 0) (hw : Same ps z s) :
    Same ps z (startHeadQuiet s f) := by
  unfold startHeadQuiet
  try dsimp only
  repeat' (first
    | with_reducible assumption | with_reducible apply same_await | with_reducible refine same_ite ?_ ?_
    | exact avoid hd rfl | (intro _) | split | dsimp only)

end Sys2Proof.Machine
end

