-- ==== Sys2Proof/Laws/SameRasterOps.lean ====
section
/-! SUPPORT. What the operations of Machine/RasterOps.lean leave alone. -/

namespace Sys2Proof.Machine

theorem same_noteLine {ps : Nat} {z : State} (s : State) (e : Nat × Nat × Bool) (hd : ps &&& 0x4040 = 0) (hw : Same ps z s) :
    Same ps z (noteLine s e) := by
  unfold noteLine
  try dsimp only
  repeat' (first
    | with_reducible assumption | with_reducible apply same_modSlot | with_reducible apply same_raise
    | with_reducible refine same_ite ?_ ?_ | exact avoid hd rfl | (intro _) | split | dsimp only)

theorem same_readRings {ps : Nat} {z : State} (s : State) (h : Nat) (c : HeadCfg) (y : Nat) (after : Bool) (hd : ps &&& 0x20128FC = 0) (hw : Same ps z s) :
    Same ps z (readRings s h c y after) := by
  unfold readRings
  try dsimp only
  repeat' (first
    | with_reducible assumption | with_reducible apply same_countSrBytes | with_reducible apply same_noteRead
    | with_reducible apply same_srAccessFault | with_reducible refine same_foldl ?_ ?_
    | with_reducible refine same_foldl_1 ?_ ?_ | with_reducible refine same_foldl_2 ?_ ?_
    | with_reducible refine same_foldl_22 ?_ ?_ | with_reducible refine same_ite ?_ ?_ | exact avoid hd rfl | (intro _)
    | split | dsimp only)

theorem same_beginLine {ps : Nat} {z : State} (s : State) (h : Nat) (c : HeadCfg) (y : Nat) (hd : ps &&& 0x245E8FC = 0) (hw : Same ps z s) :
    Same ps z (beginLine s h c y) := by
  unfold beginLine
  try dsimp only
  repeat' (first
    | with_reducible assumption | with_reducible apply same_landRow | with_reducible apply same_fallBack
    | with_reducible apply same_readRings | with_reducible apply same_noteLine | with_reducible apply same_modHead
    | with_reducible refine same_foldl ?_ ?_ | with_reducible refine same_ite ?_ ?_ | exact avoid hd rfl | (intro _)
    | split | dsimp only)

theorem same_pushView {ps : Nat} {z : State} (s : State) (h : Nat) (p : Push) (hd : ps &&& 0x4000 = 0) (hw : Same ps z s) :
    Same ps z (pushView s h p) := by
  unfold pushView
  try dsimp only
  repeat' (first
    | with_reducible assumption | with_reducible apply same_setSlot | with_reducible apply same_modHead
    | with_reducible refine same_foldl ?_ ?_ | with_reducible refine same_foldl_1 ?_ ?_
    | with_reducible refine same_foldl_2 ?_ ?_ | with_reducible refine same_foldl_22 ?_ ?_
    | with_reducible refine same_ite ?_ ?_ | exact avoid hd rfl | (intro _) | split | dsimp only)

theorem same_inPush {ps : Nat} {z : State} (s : State) (h : Nat) (p : Push) (f : State → State) (hf : ∀ (x0 : State), Same ps z x0 → Same ps z (f x0)) (hd : ps &&& 0x4000 = 0) (hw : Same ps z s) :
    Same ps z (inPush s h p f) := by
  unfold inPush
  try dsimp only
  repeat' (first
    | with_reducible assumption | with_reducible apply same_pushView | with_reducible refine same_modComp ?_ ?_
    | with_reducible apply hf | with_reducible refine same_ite ?_ ?_ | exact avoid hd rfl | (intro _) | split
    | dsimp only)

theorem same_landPushes {ps : Nat} {z : State} (s : State) (h : Nat) (hd : ps &&& 0x205E8FC = 0) (hw : Same ps z s) :
    Same ps z (landPushes s h) := by
  unfold landPushes
  try dsimp only
  repeat' (first
    | with_reducible assumption | with_reducible apply same_inPush | with_reducible apply same_landRow
    | with_reducible refine same_foldl ?_ ?_ | with_reducible refine same_foldl_1 ?_ ?_
    | with_reducible refine same_foldl_2 ?_ ?_ | with_reducible refine same_foldl_22 ?_ ?_
    | with_reducible refine same_ite ?_ ?_ | exact avoid hd rfl | (intro _) | split | dsimp only)

theorem same_beginPushLine {ps : Nat} {z : State} (s : State) (h : Nat) (c : HeadCfg) (hd : ps &&& 0x245E8FC = 0) (hw : Same ps z s) :
    Same ps z (beginPushLine s h c) := by
  unfold beginPushLine
  try dsimp only
  repeat' (first
    | with_reducible assumption | with_reducible apply same_inPush | with_reducible apply same_fallBack
    | with_reducible apply same_landRow | with_reducible apply same_pushView | with_reducible apply same_readRings
    | with_reducible apply same_noteLine | with_reducible apply same_modHead | with_reducible refine same_foldl ?_ ?_
    | with_reducible refine same_foldl_1 ?_ ?_ | with_reducible refine same_foldl_2 ?_ ?_
    | with_reducible refine same_foldl_22 ?_ ?_ | with_reducible refine same_ite ?_ ?_ | exact avoid hd rfl | (intro _)
    | split | dsimp only)

theorem same_endLine {ps : Nat} {z : State} (s : State) (h : Nat) (hd : ps &&& 0x201E8FC = 0) (hw : Same ps z s) :
    Same ps z (endLine s h) := by
  unfold endLine
  try dsimp only
  repeat' (first
    | with_reducible assumption | with_reducible apply same_feedLine | with_reducible apply same_inPush
    | with_reducible apply same_modHead | with_reducible refine same_ite ?_ ?_ | exact avoid hd rfl | (intro _) | split
    | dsimp only)

theorem same_startPush {ps : Nat} {z : State} (s : State) (h t : Nat) (hd : ps &&& 0x4000 = 0) (hw : Same ps z s) :
    Same ps z (startPush s h t) := by
  unfold startPush
  try dsimp only
  repeat' (first
    | with_reducible assumption | with_reducible apply same_modHead | with_reducible refine same_ite ?_ ?_
    | exact avoid hd rfl | (intro _) | split | dsimp only)

theorem same_afterPush {ps : Nat} {z : State} (s : State) (h : Nat) (hd : ps &&& 0x4000 = 0) (hw : Same ps z s) :
    Same ps z (afterPush s h) := by
  unfold afterPush
  try dsimp only
  repeat' (first
    | with_reducible assumption | with_reducible apply same_modHead | with_reducible apply same_startPush
    | with_reducible refine same_ite ?_ ?_ | exact avoid hd rfl | (intro _) | split | dsimp only)

theorem same_carryOn {ps : Nat} {z : State} (s : State) (h : Nat) (rs : List Rect) (hd : ps &&& 0x4000 = 0) (hw : Same ps z s) :
    Same ps z (carryOn s h rs) := by
  unfold carryOn
  try dsimp only
  repeat' (first
    | with_reducible assumption | with_reducible apply same_modHead | with_reducible refine same_ite ?_ ?_
    | exact avoid hd rfl | (intro _) | split | dsimp only)

theorem same_stopAtEnd {ps : Nat} {z : State} (s : State) (h : Nat) (hd : ps &&& 0x201483D = 0) (hw : Same ps z s) :
    Same ps z (stopAtEnd s h) := by
  unfold stopAtEnd
  try dsimp only
  repeat' (first
    | with_reducible assumption | with_reducible apply same_stopHead | with_reducible apply same_finishDone
    | with_reducible refine same_ite ?_ ?_ | exact avoid hd rfl | (intro _) | split | dsimp only)

theorem same_pushEndOf {ps : Nat} {z : State} (s : State) (h : Nat) (hd : ps &&& 0x201E8FD = 0) (hw : Same ps z s) :
    Same ps z (pushEndOf s h) := by
  unfold pushEndOf
  try dsimp only
  repeat' (first
    | with_reducible assumption | with_reducible apply same_inPush | with_reducible apply same_endLine
    | with_reducible apply same_compareHead | with_reducible apply same_stopAtEnd | with_reducible apply same_afterPush
    | with_reducible apply same_endPoison | with_reducible refine same_ite ?_ ?_ | exact avoid hd rfl | (intro _)
    | split | dsimp only)

theorem same_losePush {ps : Nat} {z : State} (s : State) (h : Nat) (p : Push) (hd : ps &&& 0x201C8FC = 0) (hw : Same ps z s) :
    Same ps z (losePush s h p) := by
  unfold losePush
  try dsimp only
  repeat' (first
    | with_reducible assumption | with_reducible apply same_inPush | with_reducible apply same_compareHead
    | with_reducible apply same_modAssay | with_reducible refine same_foldl ?_ ?_ | with_reducible refine same_ite ?_ ?_
    | exact avoid hd rfl | (intro _) | split | dsimp only)

theorem same_teEdgeOf {ps : Nat} {z : State} (s : State) (h : Nat) (rising : Bool) (hd : ps &&& 0x4000 = 0) (hw : Same ps z s) :
    Same ps z (teEdgeOf s h rising) := by
  unfold teEdgeOf
  try dsimp only
  repeat' (first
    | with_reducible assumption | with_reducible apply same_modHead | with_reducible apply same_startPush
    | with_reducible refine same_ite ?_ ?_ | exact avoid hd rfl | (intro _) | split | dsimp only)

theorem same_countMissed {ps : Nat} {z : State} (s : State) (h : Nat) (p : Push) (hd : ps &&& 0x201C8FC = 0) (hw : Same ps z s) :
    Same ps z (countMissed s h p) := by
  unfold countMissed
  try dsimp only
  repeat' (first
    | with_reducible assumption | with_reducible apply same_raise | with_reducible apply same_modHead
    | with_reducible apply same_losePush | with_reducible apply same_assert | with_reducible refine same_ite ?_ ?_
    | exact avoid hd rfl | (intro _) | split | dsimp only)

theorem same_teMissedOf {ps : Nat} {z : State} (s : State) (h : Nat) (hd : ps &&& 0x201C8FC = 0) (hw : Same ps z s) :
    Same ps z (teMissedOf s h) := by
  unfold teMissedOf
  try dsimp only
  repeat' (first
    | with_reducible assumption | with_reducible apply same_modHead | with_reducible apply same_countMissed
    | with_reducible apply same_afterPush | with_reducible apply same_carryOn | with_reducible refine same_ite ?_ ?_
    | exact avoid hd rfl | (intro _) | split | dsimp only)

theorem same_pushSlot {ps : Nat} {z : State} (s : State) (h t : Nat) (c : HeadCfg) (hd : ps &&& 0x245F8FC = 0) (hw : Same ps z s) :
    Same ps z (pushSlot s h t c) := by
  unfold pushSlot
  try dsimp only
  repeat' (first
    | with_reducible assumption | with_reducible apply same_latchHead | with_reducible apply same_landPushes
    | with_reducible apply same_modHead | with_reducible apply same_beginPushLine | with_reducible apply same_startPush
    | with_reducible refine same_ite ?_ ?_ | exact avoid hd rfl | (intro _) | split | dsimp only)

theorem same_keepMap {ps : Nat} {z : State} (s : State) (h t : Nat) (c : HeadCfg) (hd : ps &&& 0x4000 = 0) (hw : Same ps z s) :
    Same ps z (keepMap s h t c) := by
  unfold keepMap
  try dsimp only
  repeat' (first
    | with_reducible assumption | with_reducible apply same_modHead | with_reducible refine same_ite ?_ ?_
    | exact avoid hd rfl | (intro _) | split | dsimp only)

theorem same_beginFrame {ps : Nat} {z : State} (s : State) (h t : Nat) (hd : ps &&& 0x245F8FD = 0) (hw : Same ps z s) :
    Same ps z (beginFrame s h t) := by
  unfold beginFrame
  try dsimp only
  repeat' (first
    | with_reducible assumption | with_reducible apply same_modHead | with_reducible apply same_showTelltales
    | with_reducible apply same_finishDone | with_reducible apply same_syncEvent | with_reducible apply same_keepMap
    | with_reducible apply same_beginLine | with_reducible apply same_pushSlot | with_reducible refine same_foldl ?_ ?_
    | with_reducible refine same_foldl_1 ?_ ?_ | with_reducible refine same_foldl_2 ?_ ?_
    | with_reducible refine same_foldl_22 ?_ ?_ | with_reducible refine same_ite ?_ ?_ | exact avoid hd rfl | (intro _)
    | split | dsimp only)

theorem same_firstFrame {ps : Nat} {z : State} (s : State) (h t : Nat) (hd : ps &&& 0x245F8FD = 0) (hw : Same ps z s) :
    Same ps z (firstFrame s h t) := by
  unfold firstFrame
  try dsimp only
  repeat' (first
    | with_reducible assumption | with_reducible refine same_modAu ?_ ?_ | with_reducible apply same_modHead
    | with_reducible apply same_setStager | with_reducible apply same_beginFrame | with_reducible apply same_finishDone
    | with_reducible refine same_ite ?_ ?_ | exact avoid hd rfl | (intro _) | split | dsimp only)

theorem same_nextFrame {ps : Nat} {z : State} (s : State) (h t : Nat) (c : HeadCfg) (hd : ps &&& 0x245F8FD = 0) (hw : Same ps z s) :
    Same ps z (nextFrame s h t c) := by
  unfold nextFrame
  try dsimp only
  repeat' (first
    | with_reducible assumption | with_reducible apply same_stopAtEnd | with_reducible apply same_ensureSwitch
    | with_reducible apply same_pushEndOf | with_reducible apply same_modHead | with_reducible apply same_raise
    | with_reducible apply same_beginFrame | with_reducible refine same_ite ?_ ?_ | exact avoid hd rfl | (intro _)
    | split | dsimp only)

theorem same_nextLine {ps : Nat} {z : State} (s : State) (h t l : Nat) (c : HeadCfg) (hd : ps &&& 0x245F8FC = 0) (hw : Same ps z s) :
    Same ps z (nextLine s h t l c) := by
  unfold nextLine
  try dsimp only
  repeat' (first
    | with_reducible assumption | with_reducible apply same_modHead | with_reducible apply same_beginPushLine
    | with_reducible apply same_beginLine | with_reducible apply same_latchHead | with_reducible apply same_compareHead
    | with_reducible apply same_endPoison | with_reducible apply same_ensureSwitch
    | with_reducible refine same_ite ?_ ?_ | exact avoid hd rfl | (intro _) | split | dsimp only)

theorem same_bareLine {ps : Nat} {z : State} (s : State) (h t : Nat) (kind : SlotKind) (hd : ps &&& 0x4000 = 0) (hw : Same ps z s) :
    Same ps z (bareLine s h t kind) := by
  unfold bareLine
  try dsimp only
  repeat' (first
    | with_reducible assumption | with_reducible apply same_modHead | with_reducible refine same_ite ?_ ?_
    | exact avoid hd rfl | (intro _) | split | dsimp only)

theorem same_abandonOlder {ps : Nat} {z : State} (s : State) (h : Nat) (c : HeadCfg) (hd : ps &&& 0x2000 = 0) (hw : Same ps z s) :
    Same ps z (abandonOlder s h c) := by
  unfold abandonOlder
  try dsimp only
  repeat' (first
    | with_reducible assumption | with_reducible apply same_setStager | with_reducible refine same_ite ?_ ?_
    | exact avoid hd rfl | (intro _) | split | dsimp only)

theorem same_nextSlot {ps : Nat} {z : State} (s : State) (h t : Nat) (c : HeadCfg) (hd : ps &&& 0x245F8FD = 0) (hw : Same ps z s) :
    Same ps z (nextSlot s h t c) := by
  unfold nextSlot
  try dsimp only
  repeat' (first
    | with_reducible assumption | with_reducible apply same_modHead | with_reducible apply same_nextLine
    | with_reducible apply same_abandonOlder | with_reducible apply same_ensureSwitch
    | with_reducible apply same_nextFrame | with_reducible apply same_bareLine | with_reducible refine same_ite ?_ ?_
    | exact avoid hd rfl | (intro _) | split | dsimp only)

theorem same_lineStartOf {ps : Nat} {z : State} (s : State) (h : Nat) (hd : ps &&& 0x245F8FD = 0) (hw : Same ps z s) :
    Same ps z (lineStartOf s h) := by
  unfold lineStartOf
  try dsimp only
  repeat' (first
    | with_reducible assumption | with_reducible apply same_endLine | with_reducible apply same_firstFrame
    | with_reducible apply same_nextSlot | with_reducible refine same_ite ?_ ?_ | exact avoid hd rfl | (intro _) | split
    | dsimp only)

theorem same_underrunOf {ps : Nat} {z : State} (s : State) (h : Nat) (hd : ps &&& 0xA01C8FD = 0) (hw : Same ps z s) :
    Same ps z (underrunOf s h) := by
  unfold underrunOf
  try dsimp only
  repeat' (first
    | with_reducible assumption | with_reducible apply same_freshValue | with_reducible apply same_modHead
    | with_reducible apply same_assert | with_reducible apply same_raise | with_reducible apply same_losePush
    | with_reducible apply same_stopAtEnd | with_reducible apply same_afterPush | with_reducible apply same_carryOn
    | with_reducible refine same_ite ?_ ?_ | exact avoid hd rfl | (intro _) | split | dsimp only)

theorem same_linkLostOf {ps : Nat} {z : State} (s : State) (h : Nat) (hd : ps &&& 0x20148FC = 0) (hw : Same ps z s) :
    Same ps z (linkLostOf s h) := by
  unfold linkLostOf
  try dsimp only
  repeat' (first
    | with_reducible assumption | with_reducible apply same_modHead | with_reducible apply same_beginTraining
    | with_reducible apply same_assert | with_reducible apply same_raise | with_reducible refine same_ite ?_ ?_
    | exact avoid hd rfl | (intro _) | split | dsimp only)

theorem same_hpdOf {ps : Nat} {z : State} (s : State) (h : Nat) (hd : ps &&& 0x4000 = 0) (hw : Same ps z s) :
    Same ps z (hpdOf s h) := by
  unfold hpdOf
  try dsimp only
  repeat' (first
    | with_reducible assumption | with_reducible apply same_restartTraining | with_reducible refine same_ite ?_ ?_
    | exact avoid hd rfl | (intro _) | split | dsimp only)

theorem same_retrainOf {ps : Nat} {z : State} (s : State) (h : Nat) (hd : ps &&& 0x4000 = 0) (hw : Same ps z s) :
    Same ps z (retrainOf s h) := by
  unfold retrainOf
  try dsimp only
  repeat' (first
    | with_reducible assumption | with_reducible apply same_modHead | with_reducible refine same_ite ?_ ?_
    | exact avoid hd rfl | (intro _) | split | dsimp only)

theorem same_scheduleStart {ps : Nat} {z : State} (s : State) (h : Nat) (after : Nat) (hd : ps &&& 0x6000 = 0) (hw : Same ps z s) :
    Same ps z (scheduleStart s h after) := by
  unfold scheduleStart
  try dsimp only
  repeat' (first
    | with_reducible assumption | with_reducible apply same_modHead | with_reducible apply same_setStager
    | with_reducible refine same_ite ?_ ?_ | exact avoid hd rfl | (intro _) | split | dsimp only)

theorem same_trainingDoneOf {ps : Nat} {z : State} (s : State) (h : Nat) (success : Bool) (hd : ps &&& 0x20168FC = 0) (hw : Same ps z s) :
    Same ps z (trainingDoneOf s h success) := by
  unfold trainingDoneOf
  try dsimp only
  repeat' (first
    | with_reducible assumption | with_reducible apply same_modHead | with_reducible apply same_raise
    | with_reducible apply same_finishDone | with_reducible apply same_scheduleStart | with_reducible apply same_finish
    | with_reducible apply same_assert | with_reducible refine same_foldl ?_ ?_ | with_reducible refine same_ite ?_ ?_
    | exact avoid hd rfl | (intro _) | split | dsimp only)

theorem same_linkReplyOf {ps : Nat} {z : State} (s : State) (h : Nat) (reply : Option (List Byte)) (hd : ps &&& 0x201083C = 0) (hw : Same ps z s) :
    Same ps z (linkReplyOf s h reply) := by
  unfold linkReplyOf
  try dsimp only
  repeat' (first
    | with_reducible assumption | with_reducible apply same_finish | with_reducible apply same_finishDone
    | with_reducible apply same_hostWrite | with_reducible refine same_ite ?_ ?_ | exact avoid hd rfl | (intro _)
    | split | dsimp only)

theorem same_lateOrder {ps : Nat} {z : State} (s : State) (f : Flight) (hd : ps &&& 0x20158FC = 0) (hw : Same ps z s) :
    Same ps z (lateOrder s f) := by
  unfold lateOrder
  try dsimp only
  repeat' (first
    | with_reducible assumption | with_reducible apply same_missOrder | with_reducible refine same_ite ?_ ?_
    | exact avoid hd rfl | (intro _) | split | dsimp only)

theorem same_executeOrder {ps : Nat} {z : State} (s : State) (f : Flight) (hd : ps &&& 0x22108FC = 0) (hw : Same ps z s) :
    Same ps z (executeOrder s f) := by
  unfold executeOrder
  try dsimp only
  repeat' (first
    | with_reducible assumption | with_reducible apply same_performHaptic | with_reducible refine same_ite ?_ ?_
    | exact avoid hd rfl | (intro _) | split | dsimp only)

end Sys2Proof.Machine
end

