-- ==== Sys2Proof/Laws/SameSaveOps.lean ====
section
/-! SUPPORT. What the operations of Machine/SaveOps.lean leave alone. -/

namespace Sys2Proof.Machine

theorem same_startSave {ps : Nat} {z : State} (s : State) (f : Flight) (hd : ps &&& 0x201083C = 0) (hw : Same ps z s) :
    Same ps z (startSave s f) := by
  unfold startSave
  try dsimp only
  repeat' (first
    | with_reducible assumption | with_reducible apply same_finishDone | with_reducible apply same_await
    | with_reducible refine same_ite ?_ ?_ | exact avoid hd rfl | (intro _) | split | dsimp only)

theorem same_endSave {ps : Nat} {z : State} (s : State) (f : Flight) (hd : ps &&& 0xA41083C = 0) (hw : Same ps z s) :
    Same ps z (endSave s f) := by
  unfold endSave
  try dsimp only
  repeat' (first
    | with_reducible assumption | with_reducible apply same_finish | with_reducible apply same_freshBytes
    | with_reducible apply same_finishDone | with_reducible apply same_dropKey | with_reducible apply same_hostWrite
    | with_reducible refine same_ite ?_ ?_ | exact avoid hd rfl | (intro _) | split | dsimp only)

theorem same_startRestore {ps : Nat} {z : State} (s : State) (f : Flight) (hd : ps &&& 0x800 = 0) (hw : Same ps z s) :
    Same ps z (startRestore s f) := by
  unfold startRestore
  try dsimp only
  repeat' (first
    | with_reducible assumption | with_reducible apply same_await | with_reducible refine same_ite ?_ ?_
    | exact avoid hd rfl | (intro _) | split | dsimp only)

theorem same_restoreRead {ps : Nat} {z : State} (s : State) (f : Flight) (b : List Byte) (hd : ps &&& 0x201083C = 0) (hw : Same ps z s) :
    Same ps z (restoreRead s f b) := by
  unfold restoreRead
  try dsimp only
  repeat' (first
    | with_reducible assumption | with_reducible apply same_finish | with_reducible apply same_await
    | with_reducible refine same_ite ?_ ?_ | exact avoid hd rfl | (intro _) | split | dsimp only)

theorem same_putSource {ps : Nat} {z : State} (b : List Byte) (s : State) (x : Nat × Nat) (hd : ps &&& 0x40 = 0) (hw : Same ps z s) :
    Same ps z (putSource b s x) := by
  unfold putSource
  try dsimp only
  repeat' (first
    | with_reducible assumption | with_reducible apply same_setEvSrc | with_reducible refine same_ite ?_ ?_
    | exact avoid hd rfl | (intro _) | split | dsimp only)

theorem same_putUnacked {ps : Nat} {z : State} (b : List Byte) (t : Nat) (s : State) (x : Nat × Nat) (hd : ps &&& 0x20 = 0) (hw : Same ps z s) :
    Same ps z (putUnacked b t s x) := by
  unfold putUnacked
  try dsimp only
  repeat' (first
    | with_reducible assumption | with_reducible apply same_setEvRing | with_reducible refine same_ite ?_ ?_
    | exact avoid hd rfl | (intro _) | split | dsimp only)

theorem same_restoreSources {ps : Nat} {z : State} (s : State) (t : Nat) (want : Grants) (b : List Byte) (hd : ps &&& 0x60 = 0) (hw : Same ps z s) :
    Same ps z (restoreSources s t want b) := by
  unfold restoreSources
  try dsimp only
  repeat' (first
    | with_reducible assumption | with_reducible apply same_putUnacked | with_reducible apply same_putSource
    | with_reducible refine same_foldl ?_ ?_ | with_reducible refine same_foldl_1 ?_ ?_
    | with_reducible refine same_foldl_2 ?_ ?_ | with_reducible refine same_foldl_22 ?_ ?_
    | with_reducible refine same_ite ?_ ?_ | exact avoid hd rfl | (intro _) | split | dsimp only)

theorem same_restoreRing {ps : Nat} {z : State} (s : State) (t : Nat) (b : List Byte) (o r : Nat) (hd : ps &&& 0x18 = 0) (hw : Same ps z s) :
    Same ps z (restoreRing s t b o r) := by
  unfold restoreRing
  try dsimp only
  repeat' (first
    | with_reducible assumption | with_reducible apply same_setCr | with_reducible apply same_modFn
    | with_reducible refine same_ite ?_ ?_ | exact avoid hd rfl | (intro _) | split | dsimp only)

theorem same_restoreEvRing {ps : Nat} {z : State} (s : State) (t : Nat) (b : List Byte) (o n : Nat) (hd : ps &&& 0x28 = 0) (hw : Same ps z s) :
    Same ps z (restoreEvRing s t b o n) := by
  unfold restoreEvRing
  try dsimp only
  repeat' (first
    | with_reducible assumption | with_reducible apply same_setEvRing | with_reducible apply same_modFn
    | with_reducible refine same_ite ?_ ?_ | exact avoid hd rfl | (intro _) | split | dsimp only)

theorem same_restoreLayer {ps : Nat} {z : State} (s : State) (t : Nat) (b : List Byte) (o n : Nat) (hd : ps &&& 0x4000 = 0) (hw : Same ps z s) :
    Same ps z (restoreLayer s t b o n) := by
  unfold restoreLayer
  try dsimp only
  repeat' (first
    | with_reducible assumption | with_reducible apply same_setSlot | with_reducible refine same_ite ?_ ?_
    | exact avoid hd rfl | (intro _) | split | dsimp only)

theorem same_restoreContext {ps : Nat} {z : State} (s : State) (t : Nat) (b : List Byte) (o n : Nat) (hd : ps &&& 0x12000 = 0) (hw : Same ps z s) :
    Same ps z (restoreContext s t b o n) := by
  unfold restoreContext
  try dsimp only
  repeat' (first
    | with_reducible assumption | with_reducible apply same_setCtx | with_reducible refine same_modSr ?_ ?_
    | with_reducible refine same_ite ?_ ?_ | exact avoid hd rfl | (intro _) | split | dsimp only)

theorem same_restoreAssay {ps : Nat} {z : State} (s : State) (t : Nat) (b : List Byte) (o n : Nat) (hd : ps &&& 0x8000 = 0) (hw : Same ps z s) :
    Same ps z (restoreAssay s t b o n) := by
  unfold restoreAssay
  try dsimp only
  repeat' (first
    | with_reducible assumption | with_reducible apply same_setAssay | with_reducible refine same_ite ?_ ?_
    | exact avoid hd rfl | (intro _) | split | dsimp only)

theorem same_restoreKey {ps : Nat} {z : State} (s : State) (t : Nat) (b : List Byte) (p o k : Nat) (hd : ps &&& 0x100000 = 0) (hw : Same ps z s) :
    Same ps z (restoreKey s t b p o k) := by
  unfold restoreKey
  try dsimp only
  repeat' (first
    | with_reducible assumption | with_reducible apply same_modPort | with_reducible refine same_ite ?_ ?_
    | exact avoid hd rfl | (intro _) | split | dsimp only)

theorem same_restoreReports {ps : Nat} {z : State} (b : List Byte) (t : Nat) (s : State) (p : Nat) (hd : ps &&& 0x100000 = 0) (hw : Same ps z s) :
    Same ps z (restoreReports b t s p) := by
  unfold restoreReports
  try dsimp only
  repeat' (first
    | with_reducible assumption | with_reducible apply same_modPort | with_reducible refine same_ite ?_ ?_
    | exact avoid hd rfl | (intro _) | split | dsimp only)

theorem same_restoreBody {ps : Nat} {z : State} (s : State) (t : Nat) (want : Grants) (b : List Byte) (hd : ps &&& 0x3FE178 = 0) (hw : Same ps z s) :
    Same ps z (restoreBody s t want b) := by
  unfold restoreBody
  try dsimp only
  repeat' (first
    | with_reducible assumption | with_reducible apply same_modTen | with_reducible apply same_restoreReports
    | with_reducible refine same_modSr ?_ ?_ | with_reducible refine same_modDram ?_ ?_
    | with_reducible apply same_restoreRing | with_reducible apply same_restoreEvRing
    | with_reducible apply same_restoreLayer | with_reducible apply same_restoreContext
    | with_reducible apply same_modChan | with_reducible apply same_configureStream | with_reducible apply same_modInput
    | with_reducible apply same_modPath | with_reducible apply same_modHap | with_reducible apply same_configureHaptic
    | with_reducible apply same_restoreKey | with_reducible apply same_restoreSources
    | with_reducible apply same_restoreAssay | with_reducible refine same_foldl ?_ ?_
    | with_reducible refine same_ite ?_ ?_ | exact avoid hd rfl | (intro _) | split | dsimp only)

theorem same_endRestore {ps : Nat} {z : State} (s : State) (f : Flight) (good : Bool) (body : List Byte) (hd : ps &&& 0xA7FF9FC = 0) (hw : Same ps z s) :
    Same ps z (endRestore s f good body) := by
  unfold endRestore
  try dsimp only
  repeat' (first
    | with_reducible assumption | with_reducible apply same_freshValue | with_reducible apply same_finish
    | with_reducible apply same_dropKey | with_reducible apply same_applyRecord | with_reducible apply same_modTen
    | with_reducible apply same_restoreBody | with_reducible apply same_finishDone
    | with_reducible refine same_modCharges ?_ ?_ | with_reducible refine same_ite ?_ ?_ | exact avoid hd rfl
    | (intro _) | split | dsimp only)

end Sys2Proof.Machine
end

