-- ==== Sys2Proof/Laws/SameReactionOps.lean ====
section
/-! SUPPORT. What the operations of Machine/ReactionOps.lean leave alone. -/

namespace Sys2Proof.Machine

theorem same_startReaction {ps : Nat} {z : State} (s : State) (hd : ps &&& 0x80 = 0) (hw : Same ps z s) :
    Same ps z (startReaction s) := by
  unfold startReaction
  try dsimp only
  repeat' (first
    | with_reducible assumption | with_reducible refine same_modLg ?_ ?_ | with_reducible refine same_ite ?_ ?_
    | exact avoid hd rfl | (intro _) | split | dsimp only)

theorem same_containOne {ps : Nat} {z : State} (r : Reaction) (s : State) (t : Nat) (hd : ps &&& 0xA4FF9FC = 0) (hw : Same ps z s) :
    Same ps z (containOne r s t) := by
  unfold containOne
  try dsimp only
  repeat' (first
    | with_reducible assumption | with_reducible apply same_containTenancy | with_reducible apply same_modTen
    | with_reducible apply same_raise | with_reducible refine same_foldl ?_ ?_
    | with_reducible refine same_foldl_1 ?_ ?_ | with_reducible refine same_foldl_2 ?_ ?_
    | with_reducible refine same_foldl_22 ?_ ?_ | with_reducible refine same_ite ?_ ?_ | exact avoid hd rfl | (intro _)
    | split | dsimp only)

theorem same_degradeOne {ps : Nat} {z : State} (s : State) (t : Nat) (hd : ps &&& 0x8C0 = 0) (hw : Same ps z s) :
    Same ps z (degradeOne s t) := by
  unfold degradeOne
  try dsimp only
  repeat' (first
    | with_reducible assumption | with_reducible refine same_modLg ?_ ?_ | with_reducible refine same_modFlights ?_ ?_
    | with_reducible apply same_raise | with_reducible refine same_ite ?_ ?_ | exact avoid hd rfl | (intro _) | split
    | dsimp only)

theorem same_completeReaction {ps : Nat} {z : State} (s : State) (hd : ps &&& 0xA4FF9FC = 0) (hw : Same ps z s) :
    Same ps z (completeReaction s) := by
  unfold completeReaction
  try dsimp only
  repeat' (first
    | with_reducible assumption | with_reducible apply same_containOne | with_reducible apply same_degradeOne
    | with_reducible apply same_endDegraded | with_reducible refine same_modLg ?_ ?_
    | with_reducible refine same_foldl ?_ ?_ | with_reducible refine same_ite ?_ ?_ | exact avoid hd rfl | (intro _)
    | split | dsimp only)

theorem same_parityFault {ps : Nat} {z : State} (s : State) (what : Parity) (n : Nat) (hd : ps &&& 0x20158FC = 0) (hw : Same ps z s) :
    Same ps z (parityFault s what n) := by
  unfold parityFault
  try dsimp only
  repeat' (first
    | with_reducible assumption | with_reducible apply same_assert | with_reducible apply same_missOrder
    | with_reducible refine same_ite ?_ ?_ | exact avoid hd rfl | (intro _) | split | dsimp only)

end Sys2Proof.Machine
end

