-- ==== Sys2Proof/Laws/SameServiceOps.lean ====
section
/-! SUPPORT. What the operations of Machine/ServiceOps.lean leave alone. -/

namespace Sys2Proof.Machine

theorem same_linkUpAgain {ps : Nat} {z : State} (s : State) (hd : ps &&& 0x200003C = 0) (hw : Same ps z s) :
    Same ps z (linkUpAgain s) := by
  unfold linkUpAgain
  try dsimp only
  repeat' (first
    | with_reducible assumption | with_reducible apply same_wakeFunction | with_reducible refine same_modPcie ?_ ?_
    | with_reducible refine same_foldl ?_ ?_ | with_reducible refine same_ite ?_ ?_ | exact avoid hd rfl | (intro _)
    | split | dsimp only)

theorem same_setMaster {ps : Nat} {z : State} (s : State) (f : Nat) (hd : ps &&& 0x200003C = 0) (hw : Same ps z s) :
    Same ps z (setMaster s f) := by
  unfold setMaster
  try dsimp only
  repeat' (first
    | with_reducible assumption | with_reducible apply same_wakeFunction | with_reducible apply same_linkUpAgain
    | with_reducible apply same_modFn | with_reducible refine same_ite ?_ ?_ | exact avoid hd rfl | (intro _) | split
    | dsimp only)

theorem same_clearMaster {ps : Nat} {z : State} (s : State) (f : Nat) (hd : ps &&& 0x8 = 0) (hw : Same ps z s) :
    Same ps z (clearMaster s f) := by
  unfold clearMaster
  try dsimp only
  repeat' (first
    | with_reducible assumption | with_reducible apply same_modFn | with_reducible refine same_ite ?_ ?_
    | exact avoid hd rfl | (intro _) | split | dsimp only)

theorem same_returnToD0 {ps : Nat} {z : State} (s : State) (f : Nat) (hd : ps &&& 0x200003C = 0) (hw : Same ps z s) :
    Same ps z (returnToD0 s f) := by
  unfold returnToD0
  try dsimp only
  repeat' (first
    | with_reducible assumption | with_reducible apply same_returnD0 | with_reducible apply same_linkUpAgain
    | with_reducible refine same_ite ?_ ?_ | exact avoid hd rfl | (intro _) | split | dsimp only)

theorem same_setVfEnable {ps : Nat} {z : State} (s : State) (hd : ps &&& 0x200003C = 0) (hw : Same ps z s) :
    Same ps z (setVfEnable s) := by
  unfold setVfEnable
  try dsimp only
  repeat' (first
    | with_reducible assumption | with_reducible apply same_wakeFunction | with_reducible apply same_linkUpAgain
    | with_reducible refine same_modPcie ?_ ?_ | with_reducible refine same_foldl ?_ ?_
    | with_reducible refine same_ite ?_ ?_ | exact avoid hd rfl | (intro _) | split | dsimp only)

theorem same_failAccess {ps : Nat} {z : State} (cause : Nat) (s : State) (e : CmdSrc × Bool × Nat × Nat) (hd : ps &&& 0xA0728FC = 0) (hw : Same ps z s) :
    Same ps z (failAccess cause s e) := by
  unfold failAccess
  try dsimp only
  repeat' (first
    | with_reducible assumption | with_reducible apply same_haltChannel | with_reducible refine same_ite ?_ ?_
    | exact avoid hd rfl | (intro _) | split | dsimp only)

theorem same_coldFunctions {ps : Nat} {z : State} (s : State) (hd : ps &&& 0x8 = 0) (hw : Same ps z s) :
    Same ps z (coldFunctions s) := by
  unfold coldFunctions
  try dsimp only
  repeat' (first
    | with_reducible assumption | with_reducible refine same_modFns ?_ ?_ | with_reducible refine same_foldl ?_ ?_
    | with_reducible refine same_ite ?_ ?_ | exact avoid hd rfl | (intro _) | split | dsimp only)

theorem same_loseLink {ps : Nat} {z : State} (s : State) (fails : List (CmdSrc × Bool × Nat × Nat)) (hd : ps &&& 0xA0728FC = 0) (hw : Same ps z s) :
    Same ps z (loseLink s fails) := by
  unfold loseLink
  try dsimp only
  repeat' (first
    | with_reducible assumption | with_reducible apply same_failAccess | with_reducible apply same_coldFunctions
    | with_reducible refine same_modPcie ?_ ?_ | with_reducible refine same_foldl ?_ ?_
    | with_reducible refine same_ite ?_ ?_ | exact avoid hd rfl | (intro _) | split | dsimp only)

theorem same_zeroOutputs {ps : Nat} {z : State} (s : State) (p : Nat → Bool) (hd : ps &&& 0x80000 = 0) (hw : Same ps z s) :
    Same ps z (zeroOutputs s p) := by
  unfold zeroOutputs
  try dsimp only
  repeat' (first
    | with_reducible assumption | with_reducible apply same_modUnit | with_reducible refine same_foldl ?_ ?_
    | with_reducible refine same_ite ?_ ?_ | exact avoid hd rfl | (intro _) | split | dsimp only)

theorem same_loseD2d {ps : Nat} {z : State} (s : State) (hd : ps &&& 0x33908FC = 0) (hw : Same ps z s) :
    Same ps z (loseD2d s) := by
  unfold loseD2d
  try dsimp only
  repeat' (first
    | with_reducible assumption | with_reducible refine same_modHokusaSafe ?_ ?_ | with_reducible apply same_assert
    | with_reducible apply same_zeroOutputs | with_reducible apply same_abortScans
    | with_reducible apply same_cutEffects | with_reducible refine same_ite ?_ ?_ | exact avoid hd rfl | (intro _)
    | split | dsimp only)

theorem same_regainD2d {ps : Nat} {z : State} (s : State) (hd : ps &&& 0x1000000 = 0) (hw : Same ps z s) :
    Same ps z (regainD2d s) := by
  unfold regainD2d
  try dsimp only
  repeat' (first
    | with_reducible assumption | with_reducible refine same_modHokusaSafe ?_ ?_ | with_reducible refine same_ite ?_ ?_
    | exact avoid hd rfl | (intro _) | split | dsimp only)

theorem same_faultLine {ps : Nat} {z : State} (s : State) (b parties : Nat) (hd : ps &&& 0x20108FC = 0) (hw : Same ps z s) :
    Same ps z (faultLine s b parties) := by
  unfold faultLine
  try dsimp only
  repeat' (first
    | with_reducible assumption | with_reducible apply same_assert | with_reducible refine same_ite ?_ ?_
    | exact avoid hd rfl | (intro _) | split | dsimp only)

theorem same_holdHalt {ps : Nat} {z : State} (s : State) (hd : ps &&& 0x380000 = 0) (hw : Same ps z s) :
    Same ps z (holdHalt s) := by
  unfold holdHalt
  try dsimp only
  repeat' (first
    | with_reducible assumption | with_reducible apply same_modPort | with_reducible apply same_cutEffects
    | with_reducible apply same_zeroOutputs | with_reducible refine same_foldl ?_ ?_
    | with_reducible refine same_ite ?_ ?_ | exact avoid hd rfl | (intro _) | split | dsimp only)

end Sys2Proof.Machine
end

