-- ==== Sys2Proof/Laws/SameBootOps.lean ====
section
/-! SUPPORT. What the operations of Machine/BootOps.lean leave alone. -/

namespace Sys2Proof.Machine

theorem same_applyTelltales {ps : Nat} {z : State} (s : State) (body : List Byte) (hd : ps &&& 0x201E8FC = 0) (hw : Same ps z s) :
    Same ps z (applyTelltales s body) := by
  unfold applyTelltales
  try dsimp only
  repeat' (first
    | with_reducible assumption | with_reducible apply same_writeBytes | with_reducible apply same_noteMoved
    | with_reducible apply same_setPalette | with_reducible apply same_setSprite
    | with_reducible apply same_beginTraining | with_reducible apply same_modHead
    | with_reducible refine same_modAu ?_ ?_ | with_reducible refine same_foldl ?_ ?_
    | with_reducible refine same_ite ?_ ?_ | exact avoid hd rfl | (intro _) | split | dsimp only)

theorem same_acceptImage {ps : Nat} {z : State} (s : State) (b : List Byte) (good : List Bool) (pcie : Bool) (hd : ps &&& 0xAC5E8FC = 0) (hw : Same ps z s) :
    Same ps z (acceptImage s b good pcie) := by
  unfold acceptImage
  try dsimp only
  repeat' (first
    | with_reducible assumption | with_reducible apply same_freshValue | with_reducible apply same_applySecurity
    | with_reducible apply same_applyTelltales | with_reducible refine same_modDram ?_ ?_
    | with_reducible refine same_modWd ?_ ?_ | with_reducible refine same_modPw ?_ ?_ | with_reducible apply same_assert
    | with_reducible apply same_openDevice | with_reducible refine same_ite ?_ ?_ | exact avoid hd rfl | (intro _)
    | split | dsimp only)

theorem same_failSlot {ps : Nat} {z : State} (s : State) (slot : Nat) (hd : ps &&& 0x28108FC = 0) (hw : Same ps z s) :
    Same ps z (failSlot s slot) := by
  unfold failSlot
  try dsimp only
  repeat' (first
    | with_reducible assumption | with_reducible refine same_modPw ?_ ?_ | with_reducible apply same_assert
    | with_reducible refine same_ite ?_ ?_ | exact avoid hd rfl | (intro _) | split | dsimp only)

theorem same_loadImage {ps : Nat} {z : State} (s : State) (slot : Nat) (b : List Byte) (good : List Bool) (hd : ps &&& 0xBFFFFFF = 0) (hw : Same ps z s) :
    Same ps z (loadImage s slot b good) := by
  unfold loadImage
  try dsimp only
  repeat' (first
    | with_reducible assumption | with_reducible apply same_acceptImage | with_reducible apply same_failSlot
    | with_reducible refine same_modPw ?_ ?_ | with_reducible apply same_goCold | with_reducible refine same_ite ?_ ?_
    | exact avoid hd rfl | (intro _) | split | dsimp only)

theorem same_bootGo {ps : Nat} {z : State} (s : State) (v : Nat) (hd : ps &&& 0x800000 = 0) (hw : Same ps z s) :
    Same ps z (bootGo s v) := by
  unfold bootGo
  try dsimp only
  repeat' (first
    | with_reducible assumption | with_reducible refine same_modPw ?_ ?_ | with_reducible refine same_ite ?_ ?_
    | exact avoid hd rfl | (intro _) | split | dsimp only)

theorem same_bootWrite {ps : Nat} {z : State} (s : State) (ofs v : Nat) (hd : ps &&& 0x800000 = 0) (hw : Same ps z s) :
    Same ps z (bootWrite s ofs v) := by
  unfold bootWrite
  try dsimp only
  repeat' (first
    | with_reducible assumption | with_reducible refine same_modPw ?_ ?_ | with_reducible apply same_bootGo
    | with_reducible refine same_ite ?_ ?_ | exact avoid hd rfl | (intro _) | split | dsimp only)

theorem same_checkRanks {ps : Nat} {z : State} (s : State) (good : Nat) (hd : ps &&& 0x20508FC = 0) (hw : Same ps z s) :
    Same ps z (checkRanks s good) := by
  unfold checkRanks
  try dsimp only
  repeat' (first
    | with_reducible assumption | with_reducible apply same_modRank | with_reducible refine same_modDram ?_ ?_
    | with_reducible apply same_assert | with_reducible apply same_raise | with_reducible refine same_foldl ?_ ?_
    | with_reducible refine same_foldl_1 ?_ ?_ | with_reducible refine same_foldl_2 ?_ ?_
    | with_reducible refine same_foldl_22 ?_ ?_ | with_reducible refine same_ite ?_ ?_ | exact avoid hd rfl | (intro _)
    | split | dsimp only)

theorem same_trainingEnds {ps : Nat} {z : State} (s : State) (gib present good : Nat) (hd : ps &&& 0x2C508FC = 0) (hw : Same ps z s) :
    Same ps z (trainingEnds s gib present good) := by
  unfold trainingEnds
  try dsimp only
  repeat' (first
    | with_reducible assumption | with_reducible apply same_openDevice | with_reducible apply same_endTraining
    | with_reducible apply same_checkRanks | with_reducible refine same_ite ?_ ?_ | exact avoid hd rfl | (intro _)
    | split | dsimp only)

end Sys2Proof.Machine
end

