-- ==== Sys2Proof/Laws/SameConfigOps.lean ====
section
/-! SUPPORT. What the operations of Machine/ConfigOps.lean leave alone. -/

namespace Sys2Proof.Machine

theorem same_modCfg {ps : Nat} {z : State} (s : State) (f : Nat) (g : PciSpace → PciSpace) (hd : ps &&& 0x8 = 0) (hw : Same ps z s) :
    Same ps z (modCfg s f g) := by
  unfold modCfg
  try dsimp only
  repeat' (first
    | with_reducible assumption | with_reducible apply same_modFn | with_reducible refine same_ite ?_ ?_
    | exact avoid hd rfl | (intro _) | split | dsimp only)

theorem same_writeVfEnable {ps : Nat} {z : State} (s : State) (on : Bool) (hd : ps &&& 0x200003C = 0) (hw : Same ps z s) :
    Same ps z (writeVfEnable s on) := by
  unfold writeVfEnable
  try dsimp only
  repeat' (first
    | with_reducible assumption | with_reducible apply same_setVfEnable | with_reducible apply same_settleWake
    | with_reducible refine same_modPcie ?_ ?_ | with_reducible refine same_ite ?_ ?_ | exact avoid hd rfl | (intro _)
    | split | dsimp only)

theorem same_sriovWrite {ps : Nat} {z : State} (s : State) (o v : Nat) (hd : ps &&& 0x200003C = 0) (hw : Same ps z s) :
    Same ps z (sriovWrite s o v) := by
  unfold sriovWrite
  try dsimp only
  repeat' (first
    | with_reducible assumption | with_reducible apply same_writeVfEnable | with_reducible refine same_modPcie ?_ ?_
    | with_reducible refine same_ite ?_ ?_ | exact avoid hd rfl | (intro _) | split | dsimp only)

theorem same_powerWrite {ps : Nat} {z : State} (s : State) (f v : Nat) (hd : ps &&& 0x200003C = 0) (hw : Same ps z s) :
    Same ps z (powerWrite s f v) := by
  unfold powerWrite
  try dsimp only
  repeat' (first
    | with_reducible assumption | with_reducible apply same_modFn | with_reducible apply same_enterD3
    | with_reducible apply same_returnToD0 | with_reducible refine same_ite ?_ ?_ | exact avoid hd rfl | (intro _)
    | split | dsimp only)

theorem same_msixControl {ps : Nat} {z : State} (s : State) (f v : Nat) (hd : ps &&& 0xC = 0) (hw : Same ps z s) :
    Same ps z (msixControl s f v) := by
  unfold msixControl
  try dsimp only
  repeat' (first
    | with_reducible assumption | with_reducible apply same_modCfg | with_reducible apply same_modFn
    | with_reducible apply same_unmask | with_reducible refine same_ite ?_ ?_ | exact avoid hd rfl | (intro _) | split
    | dsimp only)

theorem same_commandWrite {ps : Nat} {z : State} (s : State) (f v : Nat) (hd : ps &&& 0x200003C = 0) (hw : Same ps z s) :
    Same ps z (commandWrite s f v) := by
  unfold commandWrite
  try dsimp only
  repeat' (first
    | with_reducible assumption | with_reducible apply same_modCfg | with_reducible apply same_setMaster
    | with_reducible apply same_clearMaster | with_reducible refine same_ite ?_ ?_ | exact avoid hd rfl | (intro _)
    | split | dsimp only)

theorem same_configWrite {ps : Nat} {z : State} (s : State) (f o v : Nat) (hd : ps &&& 0x200003C = 0) (hw : Same ps z s) :
    Same ps z (configWrite s f o v) := by
  unfold configWrite
  try dsimp only
  repeat' (first
    | with_reducible assumption | with_reducible apply same_commandWrite | with_reducible apply same_modCfg
    | with_reducible apply same_powerWrite | with_reducible apply same_msixControl
    | with_reducible apply same_sriovWrite | with_reducible refine same_ite ?_ ?_ | exact avoid hd rfl | (intro _)
    | split | dsimp only)

end Sys2Proof.Machine
end

