-- ==== Sys2Proof/Laws/SameRegOps.lean ====
section
/-! SUPPORT. What the operations of Machine/RegOps.lean leave alone. -/

namespace Sys2Proof.Machine

theorem same_latchTick {ps : Nat} {z : State} (s : State) (hd : ps &&& 0x1 = 0) (hw : Same ps z s) :
    Same ps z (latchTick s) := by
  unfold latchTick
  try dsimp only
  repeat' (first
    | with_reducible assumption | with_reducible refine same_modTl ?_ ?_ | with_reducible refine same_ite ?_ ?_
    | exact avoid hd rfl | (intro _) | split | dsimp only)

theorem same_timelineWrite {ps : Nat} {z : State} (s : State) (o v : Nat) (hd : ps &&& 0x41 = 0) (hw : Same ps z s) :
    Same ps z (timelineWrite s o v) := by
  unfold timelineWrite
  try dsimp only
  repeat' (first
    | with_reducible assumption | with_reducible apply same_selectSource | with_reducible refine same_modTl ?_ ?_
    | with_reducible apply same_installSync | with_reducible apply same_clearEventWord
    | with_reducible refine same_ite ?_ ?_ | exact avoid hd rfl | (intro _) | split | dsimp only)

theorem same_writeSrMark {ps : Nat} {z : State} (s : State) (v : Nat) (hd : ps &&& 0x2000 = 0) (hw : Same ps z s) :
    Same ps z (writeSrMark s v) := by
  unfold writeSrMark
  try dsimp only
  repeat' (first
    | with_reducible assumption | with_reducible refine same_modSr ?_ ?_ | with_reducible refine same_ite ?_ ?_
    | exact avoid hd rfl | (intro _) | split | dsimp only)

theorem same_writeDramMark {ps : Nat} {z : State} (s : State) (v : Nat) (hd : ps &&& 0x40000 = 0) (hw : Same ps z s) :
    Same ps z (writeDramMark s v) := by
  unfold writeDramMark
  try dsimp only
  repeat' (first
    | with_reducible assumption | with_reducible refine same_modDram ?_ ?_ | with_reducible refine same_ite ?_ ?_
    | exact avoid hd rfl | (intro _) | split | dsimp only)

theorem same_setLock {ps : Nat} {z : State} (s : State) (b : Block) (hd : ps &&& 0x42080 = 0) (hw : Same ps z s) :
    Same ps z (setLock s b) := by
  unfold setLock
  try dsimp only
  repeat' (first
    | with_reducible assumption | with_reducible refine same_modSr ?_ ?_ | with_reducible refine same_modDram ?_ ?_
    | with_reducible refine same_modLg ?_ ?_ | with_reducible refine same_ite ?_ ?_ | exact avoid hd rfl | (intro _)
    | split | dsimp only)

theorem same_retainHalf {ps : Nat} {z : State} (s : State) (warden : Bool) (o v : Nat) (hd : ps &&& 0x2000 = 0) (hw : Same ps z s) :
    Same ps z (retainHalf s warden o v) := by
  unfold retainHalf
  try dsimp only
  repeat' (first
    | with_reducible assumption | with_reducible apply same_writeRetain | with_reducible refine same_ite ?_ ?_
    | exact avoid hd rfl | (intro _) | split | dsimp only)

theorem same_stockroomWrite {ps : Nat} {z : State} (s : State) (o v width : Nat) (hd : ps &&& 0x420C0 = 0) (hw : Same ps z s) :
    Same ps z (stockroomWrite s o v width) := by
  unfold stockroomWrite
  try dsimp only
  repeat' (first
    | with_reducible assumption | with_reducible apply same_writeSrMark | with_reducible apply same_setLock
    | with_reducible apply same_retainHalf | with_reducible apply same_clearEventWord
    | with_reducible apply same_setStager | with_reducible apply same_setShelfOwner
    | with_reducible refine same_foldl ?_ ?_ | with_reducible refine same_ite ?_ ?_ | exact avoid hd rfl | (intro _)
    | split | dsimp only)

theorem same_memoryWrite {ps : Nat} {z : State} (s : State) (o v width : Nat) (hd : ps &&& 0x420C0 = 0) (hw : Same ps z s) :
    Same ps z (memoryWrite s o v width) := by
  unfold memoryWrite
  try dsimp only
  repeat' (first
    | with_reducible assumption | with_reducible apply same_writeDramMark | with_reducible apply same_setLock
    | with_reducible apply same_clearEventWord | with_reducible refine same_modDram ?_ ?_
    | with_reducible apply same_setPlotOwner | with_reducible refine same_foldl ?_ ?_
    | with_reducible refine same_ite ?_ ?_ | exact avoid hd rfl | (intro _) | split | dsimp only)

theorem same_integrityWrite {ps : Nat} {z : State} (s : State) (o v : Nat) (hd : ps &&& 0x201A8FC = 0) (hw : Same ps z s) :
    Same ps z (integrityWrite s o v) := by
  unfold integrityWrite
  try dsimp only
  repeat' (first
    | with_reducible assumption | with_reducible apply same_modAssay | with_reducible apply same_setSprite
    | with_reducible apply same_setPalette | with_reducible refine same_ite ?_ ?_ | exact avoid hd rfl | (intro _)
    | split | dsimp only)

theorem same_hapticWrite {ps : Nat} {z : State} (s : State) (o v : Nat) (hd : ps &&& 0x40 = 0) (hw : Same ps z s) :
    Same ps z (hapticWrite s o v) := by
  unfold hapticWrite
  try dsimp only
  repeat' (first
    | with_reducible assumption | with_reducible apply same_clearEventWord | with_reducible refine same_ite ?_ ?_
    | exact avoid hd rfl | (intro _) | split | dsimp only)

theorem same_eventWrite {ps : Nat} {z : State} (s : State) (o v : Nat) (hd : ps &&& 0x60 = 0) (hw : Same ps z s) :
    Same ps z (eventWrite s o v) := by
  unfold eventWrite
  try dsimp only
  repeat' (first
    | with_reducible assumption | with_reducible apply same_setEvRing | with_reducible refine same_modEv ?_ ?_
    | with_reducible apply same_setEvSrc | with_reducible refine same_ite ?_ ?_ | exact avoid hd rfl | (intro _) | split
    | dsimp only)

theorem same_registerWriteOf {ps : Nat} {z : State} (s : State) (b : Block) (o v width : Nat) (hd : ps &&& 0x3FFFFFF = 0) (hw : Same ps z s) :
    Same ps z (registerWriteOf s b o v width) := by
  unfold registerWriteOf
  try dsimp only
  repeat' (first
    | with_reducible assumption | with_reducible apply same_pageWrite | with_reducible apply same_bootWrite
    | with_reducible apply same_msixWrite | with_reducible apply same_configWrite
    | with_reducible apply same_timelineWrite | with_reducible apply same_stockroomWrite
    | with_reducible apply same_memoryWrite | with_reducible apply same_integrityWrite
    | with_reducible apply same_clearEventWord | with_reducible apply same_hapticWrite
    | with_reducible apply same_eventWrite | with_reducible apply same_lower | with_reducible apply same_ledgerWrite
    | with_reducible apply same_retainHalf | with_reducible apply same_supervisorWrite
    | with_reducible refine same_ite ?_ ?_ | exact avoid hd rfl | (intro _) | split | dsimp only)

end Sys2Proof.Machine
end

