-- ==== Sys2Proof/Laws/SameSupOps.lean ====
section
/-! SUPPORT. What the operations of Machine/SupOps.lean leave alone. -/

namespace Sys2Proof.Machine

theorem same_svAnswer {ps : Nat} {z : State} (s : State) (status seq : Nat) (data : List Byte) (hd : ps &&& 0x400000 = 0) (hw : Same ps z s) :
    Same ps z (svAnswer s status seq data) := by
  unfold svAnswer
  try dsimp only
  repeat' (first
    | with_reducible assumption | with_reducible refine same_modWd ?_ ?_ | with_reducible refine same_ite ?_ ?_
    | exact avoid hd rfl | (intro _) | split | dsimp only)

theorem same_svError {ps : Nat} {z : State} (s : State) (hd : ps &&& 0x400000 = 0) (hw : Same ps z s) :
    Same ps z (svError s) := by
  unfold svError
  try dsimp only
  repeat' (first
    | with_reducible assumption | with_reducible refine same_modWd ?_ ?_ | with_reducible refine same_ite ?_ ?_
    | exact avoid hd rfl | (intro _) | split | dsimp only)

theorem same_svRefuse {ps : Nat} {z : State} (s : State) (status seq len : Nat) (hd : ps &&& 0x8400000 = 0) (hw : Same ps z s) :
    Same ps z (svRefuse s status seq len) := by
  unfold svRefuse
  try dsimp only
  repeat' (first
    | with_reducible assumption | with_reducible apply same_freshBytes | with_reducible apply same_svAnswer
    | with_reducible refine same_ite ?_ ?_ | exact avoid hd rfl | (intro _) | split | dsimp only)

theorem same_svFrame {ps : Nat} {z : State} (s : State) (seq len : Nat) (crcGood : Bool) (refusal : Option Nat) (good : State → State) (hgood : ∀ (x0 : State), Same ps z x0 → Same ps z (good x0)) (hd : ps &&& 0x8400000 = 0) (hw : Same ps z s) :
    Same ps z (svFrame s seq len crcGood refusal good) := by
  unfold svFrame
  try dsimp only
  repeat' (first
    | with_reducible assumption | with_reducible apply same_svRefuse | with_reducible apply same_svError
    | with_reducible apply hgood | with_reducible refine same_ite ?_ ?_ | exact avoid hd rfl | (intro _) | split
    | dsimp only)

theorem same_svReadOf {ps : Nat} {z : State} (s : State) (seq addr len : Nat) (crcGood : Bool) (hd : ps &&& 0x8400000 = 0) (hw : Same ps z s) :
    Same ps z (svReadOf s seq addr len crcGood) := by
  unfold svReadOf
  try dsimp only
  repeat' (first
    | with_reducible assumption | with_reducible apply same_svFrame | with_reducible apply same_svAnswer
    | with_reducible refine same_ite ?_ ?_ | exact avoid hd rfl | (intro _) | split | dsimp only)

theorem same_svWriteOf {ps : Nat} {z : State} (s : State) (seq addr : Nat) (data : List Byte) (crcGood : Bool) (hd : ps &&& 0xBFFFFFF = 0) (hw : Same ps z s) :
    Same ps z (svWriteOf s seq addr data crcGood) := by
  unfold svWriteOf
  try dsimp only
  repeat' (first
    | with_reducible assumption | with_reducible apply same_svFrame | with_reducible apply same_registerWriteOf
    | with_reducible apply same_svAnswer | with_reducible refine same_foldl ?_ ?_ | with_reducible refine same_ite ?_ ?_
    | exact avoid hd rfl | (intro _) | split | dsimp only)

theorem same_mboxSendOf {ps : Nat} {z : State} (s : State) (seq : Nat) (msg : List Byte) (crcGood : Bool) (hd : ps &&& 0x8400000 = 0) (hw : Same ps z s) :
    Same ps z (mboxSendOf s seq msg crcGood) := by
  unfold mboxSendOf
  try dsimp only
  repeat' (first
    | with_reducible assumption | with_reducible apply same_svFrame | with_reducible apply same_svAnswer
    | with_reducible refine same_modWd ?_ ?_ | with_reducible refine same_ite ?_ ?_ | exact avoid hd rfl | (intro _)
    | split | dsimp only)

theorem same_mboxRecvOf {ps : Nat} {z : State} (s : State) (seq len : Nat) (crcGood : Bool) (hd : ps &&& 0x8400000 = 0) (hw : Same ps z s) :
    Same ps z (mboxRecvOf s seq len crcGood) := by
  unfold mboxRecvOf
  try dsimp only
  repeat' (first
    | with_reducible assumption | with_reducible apply same_svFrame | with_reducible apply same_freshBytes
    | with_reducible apply same_svAnswer | with_reducible refine same_modWd ?_ ?_ | with_reducible refine same_ite ?_ ?_
    | exact avoid hd rfl | (intro _) | split | dsimp only)

theorem same_frameCut {ps : Nat} {z : State} (s : State) (hd : ps &&& 0x400000 = 0) (hw : Same ps z s) :
    Same ps z (frameCut s) := by
  unfold frameCut
  try dsimp only
  repeat' (first
    | with_reducible assumption | with_reducible apply same_svError | with_reducible refine same_ite ?_ ?_
    | exact avoid hd rfl | (intro _) | split | dsimp only)

theorem same_prepare {ps : Nat} {z : State} (s : State) (body : List Byte) (hd : ps &&& 0x400000 = 0) (hw : Same ps z s) :
    Same ps z (prepare s body) := by
  unfold prepare
  try dsimp only
  repeat' (first
    | with_reducible assumption | with_reducible refine same_modWd ?_ ?_ | with_reducible refine same_ite ?_ ?_
    | exact avoid hd rfl | (intro _) | split | dsimp only)

theorem same_onMessage {ps : Nat} {z : State} (s : State) (good : Bool) (f : State → State) (hf : ∀ (x0 : State), Same ps z x0 → Same ps z (f x0)) (hd : ps &&& 0x400000 = 0) (hw : Same ps z s) :
    Same ps z (onMessage s good f) := by
  unfold onMessage
  try dsimp only
  repeat' (first
    | with_reducible assumption | with_reducible apply same_prepare | with_reducible apply hf
    | with_reducible refine same_ite ?_ ?_ | exact avoid hd rfl | (intro _) | split | dsimp only)

theorem same_ttSpriteOf {ps : Nat} {z : State} (s : State) (msg : List Byte) (hd : ps &&& 0x241A8FC = 0) (hw : Same ps z s) :
    Same ps z (ttSpriteOf s msg) := by
  unfold ttSpriteOf
  try dsimp only
  repeat' (first
    | with_reducible assumption | with_reducible apply same_onMessage | with_reducible apply same_setSprite
    | with_reducible refine same_ite ?_ ?_ | exact avoid hd rfl | (intro _) | split | dsimp only)

theorem same_ttPaletteOf {ps : Nat} {z : State} (s : State) (msg : List Byte) (hd : ps &&& 0x408000 = 0) (hw : Same ps z s) :
    Same ps z (ttPaletteOf s msg) := by
  unfold ttPaletteOf
  try dsimp only
  repeat' (first
    | with_reducible assumption | with_reducible apply same_onMessage | with_reducible apply same_setPalette
    | with_reducible refine same_foldl ?_ ?_ | with_reducible refine same_ite ?_ ?_ | exact avoid hd rfl | (intro _)
    | split | dsimp only)

theorem same_ttImageOf {ps : Nat} {z : State} (s : State) (msg : List Byte) (hd : ps &&& 0x24128FC = 0) (hw : Same ps z s) :
    Same ps z (ttImageOf s msg) := by
  unfold ttImageOf
  try dsimp only
  repeat' (first
    | with_reducible assumption | with_reducible apply same_onMessage | with_reducible apply same_portWrite
    | with_reducible refine same_ite ?_ ?_ | exact avoid hd rfl | (intro _) | split | dsimp only)

theorem same_regReadOf {ps : Nat} {z : State} (s : State) (msg : List Byte) (hd : ps &&& 0x400001 = 0) (hw : Same ps z s) :
    Same ps z (regReadOf s msg) := by
  unfold regReadOf
  try dsimp only
  repeat' (first
    | with_reducible assumption | with_reducible apply same_prepare | with_reducible apply same_latchTick
    | with_reducible refine same_ite ?_ ?_ | exact avoid hd rfl | (intro _) | split | dsimp only)

theorem same_debugUnlockOf {ps : Nat} {z : State} (s : State) (valid : Bool) (hd : ps &&& 0x245283C = 0) (hw : Same ps z s) :
    Same ps z (debugUnlockOf s valid) := by
  unfold debugUnlockOf
  try dsimp only
  repeat' (first
    | with_reducible assumption | with_reducible apply same_onMessage | with_reducible apply same_endApplet
    | with_reducible refine same_modWd ?_ ?_ | with_reducible apply same_zeroiseSecure
    | with_reducible refine same_foldl ?_ ?_ | with_reducible refine same_ite ?_ ?_ | exact avoid hd rfl | (intro _)
    | split | dsimp only)

theorem same_postReply {ps : Nat} {z : State} (s : State) (hd : ps &&& 0x400000 = 0) (hw : Same ps z s) :
    Same ps z (postReply s) := by
  unfold postReply
  try dsimp only
  repeat' (first
    | with_reducible assumption | with_reducible refine same_modWd ?_ ?_ | with_reducible refine same_ite ?_ ?_
    | exact avoid hd rfl | (intro _) | split | dsimp only)

end Sys2Proof.Machine
end

