-- ==== Sys2Proof/Laws/SameWheelOps.lean ====
section
/-! SUPPORT. What the operations of Machine/WheelOps.lean leave alone. -/

namespace Sys2Proof.Machine

theorem same_serveWheel {ps : Nat} {z : State} (entry : Nat) (waiting : List (Nat × Nat)) (acc : List Nat × State) (wheel : Nat)
    (hd : ps &&& 0x8000000 = 0) (hw : Same ps z acc.2) : Same ps z (serveWheel entry waiting acc wheel).2 := by
  unfold serveWheel
  dsimp only
  split
  · exact hw
  · exact same_freshValue _ (avoid hd rfl) hw

theorem same_countTurn {ps : Nat} {z : State} (s : State) (hd : ps &&& 0x42000 = 0) (hw : Same ps z s) :
    Same ps z (countTurn s) := by
  unfold countTurn
  try dsimp only
  repeat' (first
    | with_reducible assumption | with_reducible refine same_modSr ?_ ?_ | with_reducible refine same_modDram ?_ ?_
    | with_reducible refine same_ite ?_ ?_ | exact avoid hd rfl | (intro _) | split | dsimp only)

theorem same_enterTurn {ps : Nat} {z : State} (s : State) (entry : Nat) (waiting : List (Nat × Nat)) (hd : ps &&& 0x8000002 = 0) (hw : Same ps z s) :
    Same ps z (enterTurn s entry waiting) := by
  unfold enterTurn
  try dsimp only
  repeat' (first
    | with_reducible assumption | with_reducible apply same_serveWheel | with_reducible refine same_modWheels ?_ ?_
    | with_reducible refine same_foldl ?_ ?_ | with_reducible refine same_foldl_1 ?_ ?_
    | with_reducible refine same_foldl_2 ?_ ?_ | with_reducible refine same_foldl_22 ?_ ?_
    | with_reducible refine same_ite ?_ ?_ | exact avoid hd rfl | (intro _) | split | dsimp only)

theorem same_turnStartOf {ps : Nat} {z : State} (s : State) (t : Turn) (hd : ps &&& 0xA0DA8FE = 0) (hw : Same ps z s) :
    Same ps z (turnStartOf s t) := by
  unfold turnStartOf
  try dsimp only
  repeat' (first
    | with_reducible assumption | with_reducible apply same_countTurn | with_reducible apply same_enterTurn
    | with_reducible apply same_serveXfer | with_reducible apply same_serveDramTurn
    | with_reducible apply same_serveTurn | with_reducible apply same_feedWrite | with_reducible apply same_scrubBeat
    | with_reducible apply same_copyBytes | with_reducible apply same_patrolBeat | with_reducible apply same_prefetchAll
    | with_reducible refine same_foldl ?_ ?_ | with_reducible refine same_ite ?_ ?_ | exact avoid hd rfl | (intro _)
    | split | dsimp only)

theorem same_applyAtEpoch {ps : Nat} {z : State} (s : State) (f : Flight) (hd : ps &&& 0x28D687D = 0) (hw : Same ps z s) :
    Same ps z (applyAtEpoch s f) := by
  unfold applyAtEpoch
  try dsimp only
  repeat' (first
    | with_reducible assumption | with_reducible apply same_finishDone | with_reducible apply same_applyTimelineConfig
    | with_reducible apply same_applyLayerFree | with_reducible apply same_applyHeadConfig
    | with_reducible apply same_applyHeadDsc | with_reducible apply same_applyPortConfig
    | with_reducible apply same_applyPowerGate | with_reducible apply same_applyMemLatency
    | with_reducible refine same_ite ?_ ?_ | exact avoid hd rfl | (intro _) | split | dsimp only)

theorem same_turnCharges {ps : Nat} {z : State} (s : State) (wrapped : Bool) (hd : ps &&& 0x1000 = 0) (hw : Same ps z s) :
    Same ps z (turnCharges s wrapped) := by
  unfold turnCharges
  try dsimp only
  repeat' (first
    | with_reducible assumption | with_reducible refine same_modCharges ?_ ?_ | with_reducible refine same_ite ?_ ?_
    | exact avoid hd rfl | (intro _) | split | dsimp only)

theorem same_turnBusy {ps : Nat} {z : State} (s : State) (hd : ps &&& 0x42000 = 0) (hw : Same ps z s) :
    Same ps z (turnBusy s) := by
  unfold turnBusy
  try dsimp only
  repeat' (first
    | with_reducible assumption | with_reducible refine same_modSr ?_ ?_ | with_reducible refine same_modDram ?_ ?_
    | with_reducible refine same_ite ?_ ?_ | exact avoid hd rfl | (intro _) | split | dsimp only)

theorem same_epochStartOf {ps : Nat} {z : State} (s : State) (sampled : Bool) (hd : ps &&& 0x2BFFBFF = 0) (hw : Same ps z s) :
    Same ps z (epochStartOf s sampled) := by
  unfold epochStartOf
  try dsimp only
  repeat' (first
    | with_reducible assumption | with_reducible apply same_turnCharges | with_reducible apply same_turnEpoch
    | with_reducible apply same_stagerEpoch | with_reducible apply same_turnBusy | with_reducible apply same_countTurn
    | with_reducible apply same_applyTables | with_reducible apply same_applyLoads | with_reducible apply same_syncEvent
    | with_reducible apply same_applyAtEpoch | with_reducible refine same_modWheels ?_ ?_
    | with_reducible apply same_epochSample | with_reducible refine same_foldl ?_ ?_
    | with_reducible refine same_ite ?_ ?_ | exact avoid hd rfl | (intro _) | split | dsimp only)

theorem same_edgeMissing {ps : Nat} {z : State} (s : State) (hd : ps &&& 0x20108FD = 0) (hw : Same ps z s) :
    Same ps z (edgeMissing s) := by
  unfold edgeMissing
  try dsimp only
  repeat' (first
    | with_reducible assumption | with_reducible apply same_missEdge | with_reducible refine same_ite ?_ ?_
    | exact avoid hd rfl | (intro _) | split | dsimp only)

theorem same_steerLate {ps : Nat} {z : State} (s : State) (hd : ps &&& 0x20108FD = 0) (hw : Same ps z s) :
    Same ps z (steerLate s) := by
  unfold steerLate
  try dsimp only
  repeat' (first
    | with_reducible assumption | with_reducible apply same_enterHoldover | with_reducible refine same_ite ?_ ?_
    | exact avoid hd rfl | (intro _) | split | dsimp only)

end Sys2Proof.Machine
end

