-- ==== Sys2Proof/Laws/SameCmdOps.lean ====
section
/-! SUPPORT. What the operations of Machine/CmdOps.lean leave alone. -/

namespace Sys2Proof.Machine

theorem same_startNop {ps : Nat} {z : State} (s : State) (f : Flight) (hd : ps &&& 0x201083C = 0) (hw : Same ps z s) :
    Same ps z (startNop s f) := by
  unfold startNop
  try dsimp only
  repeat' (first
    | with_reducible assumption | with_reducible apply same_finishDone | with_reducible refine same_ite ?_ ?_
    | exact avoid hd rfl | (intro _) | split | dsimp only)

theorem same_startDeviceIdentify {ps : Nat} {z : State} (s : State) (f : Flight) (hd : ps &&& 0x201083C = 0) (hw : Same ps z s) :
    Same ps z (startDeviceIdentify s f) := by
  unfold startDeviceIdentify
  try dsimp only
  repeat' (first
    | with_reducible assumption | with_reducible apply same_finishDone | with_reducible apply same_hostWrite
    | with_reducible refine same_ite ?_ ?_ | exact avoid hd rfl | (intro _) | split | dsimp only)

theorem same_awaitEpoch {ps : Nat} {z : State} (s : State) (f : Flight) (hd : ps &&& 0x800 = 0) (hw : Same ps z s) :
    Same ps z (awaitEpoch s f) := by
  unfold awaitEpoch
  try dsimp only
  repeat' (first
    | with_reducible assumption | with_reducible apply same_await | with_reducible refine same_ite ?_ ?_
    | exact avoid hd rfl | (intro _) | split | dsimp only)

theorem same_awaitData {ps : Nat} {z : State} (s : State) (f : Flight) (hd : ps &&& 0x800 = 0) (hw : Same ps z s) :
    Same ps z (awaitData s f) := by
  unfold awaitData
  try dsimp only
  repeat' (first
    | with_reducible assumption | with_reducible apply same_await | with_reducible refine same_ite ?_ ?_
    | exact avoid hd rfl | (intro _) | split | dsimp only)

theorem same_awaitUnit {ps : Nat} {z : State} (s : State) (f : Flight) (hd : ps &&& 0x800 = 0) (hw : Same ps z s) :
    Same ps z (awaitUnit s f) := by
  unfold awaitUnit
  try dsimp only
  repeat' (first
    | with_reducible assumption | with_reducible apply same_await | with_reducible refine same_ite ?_ ?_
    | exact avoid hd rfl | (intro _) | split | dsimp only)

theorem same_effects {ps : Nat} {z : State} (hd : ps &&& 0xAFFFDFD = 0) : ∀ e ∈ effects, ∀ s f, Same ps z s → Same ps z (e.2 s f) := by
  unfold effects
  simp only [List.forall_mem_append, List.forall_mem_cons, List.not_mem_nil, false_imp_iff, implies_true, and_true]
  exact ⟨⟨⟨⟨⟨fun _ _ => same_startNop _ _ (avoid hd rfl), fun _ _ => same_startDeviceIdentify _ _ (avoid hd rfl),
  fun _ _ => same_startHostSuspend _ _ (avoid hd rfl), fun _ _ => same_startResourceQuery _ _ (avoid hd rfl),
  fun _ _ => same_awaitEpoch _ _ (avoid hd rfl),
      fun _ _ => same_startTimelineSteer _ _ (avoid hd rfl), fun _ _ => same_startTimelineStatus _ _ (avoid hd rfl),
      fun _ _ => same_awaitData _ _ (avoid hd rfl), fun _ _ => same_awaitData _ _ (avoid hd rfl),
      fun _ _ => same_awaitData _ _ (avoid hd rfl),
      fun _ _ => same_startQuiesce _ _ (avoid hd rfl), fun _ _ => same_startResume _ _ (avoid hd rfl),
      fun _ _ => same_startReset _ _ (avoid hd rfl), fun _ _ => same_startRemove _ _ (avoid hd rfl),
      fun _ _ => same_startFreeze _ _ (avoid hd rfl), fun _ _ => same_startSave _ _ (avoid hd rfl),
      fun _ _ => same_startRestore _ _ (avoid hd rfl), fun _ _ => same_startTenancyQuery _ _ (avoid hd rfl),
      fun _ _ => same_startAperture _ _ (avoid hd rfl)⟩,
     ⟨fun _ _ => same_startLayerAlloc _ _ (avoid hd rfl), fun _ _ => same_startLayerUpdate _ _ (avoid hd rfl),
     fun _ _ => same_startLayerFree _ _ (avoid hd rfl), fun _ _ => same_startLayerMove _ _ (avoid hd rfl),
     fun _ _ => same_startLayerClut _ _ (avoid hd rfl),
      fun _ _ => same_startLayerPolicy _ _ (avoid hd rfl), fun _ _ => same_startLayerStatus _ _ (avoid hd rfl),
      fun _ _ => same_awaitEpoch _ _ (avoid hd rfl), fun _ _ => same_startHeadEnable _ _ (avoid hd rfl),
      fun _ _ => same_startHeadDisable _ _ (avoid hd rfl),
      fun _ _ => same_startHeadPush _ _ (avoid hd rfl), fun _ _ => same_startHeadUnderrun _ _ (avoid hd rfl),
      fun _ _ => same_startHeadQuiet _ _ (avoid hd rfl), fun _ _ => same_awaitEpoch _ _ (avoid hd rfl),
      fun _ _ => same_startHeadStatus _ _ (avoid hd rfl),
      fun _ _ => same_startHeadLink _ _ (avoid hd rfl)⟩⟩,
     ⟨fun _ _ => same_startAssayAlloc _ _ (avoid hd rfl), fun _ _ => same_startAssay _ _ (avoid hd rfl),
     fun _ _ => same_startAssay _ _ (avoid hd rfl), fun _ _ => same_startAssay _ _ (avoid hd rfl),
     fun _ _ => same_startAssayRead _ _ (avoid hd rfl), fun _ _ => same_startAssay _ _ (avoid hd rfl),
      fun _ _ => same_startContextCreate _ _ (avoid hd rfl), fun _ _ => same_startContextDestroy _ _ (avoid hd rfl),
      fun _ _ => same_startShaderLoad _ _ (avoid hd rfl), fun _ _ => same_awaitUnit _ _ (avoid hd rfl),
      fun _ _ => same_startJobKill _ _ (avoid hd rfl),
      fun _ _ => same_startContextQuery _ _ (avoid hd rfl), fun _ _ => same_startTouchPortConfig _ _ (avoid hd rfl),
      fun _ _ => same_startScanConfig _ _ (avoid hd rfl), fun _ _ => same_startBaselineLoad _ _ (avoid hd rfl),
      fun _ _ => same_startBaselineSave _ _ (avoid hd rfl), fun _ _ => same_startSelftest _ _ (avoid hd rfl),
      fun _ _ => same_startCalibration _ _ (avoid hd rfl), fun _ _ => same_startTouchKeys _ _ (avoid hd rfl),
      fun _ _ => same_startReportRing _ _ (avoid hd rfl)⟩⟩,
     ⟨fun _ _ => same_startHapticConfig _ _ (avoid hd rfl), fun _ _ => same_startHapticTimed _ _ (avoid hd rfl),
     fun _ _ => same_startHapticTimed _ _ (avoid hd rfl), fun _ _ => same_startTriggerMap _ _ (avoid hd rfl),
      fun _ _ => same_startHapticStatus _ _ (avoid hd rfl), fun _ _ => same_awaitEpoch _ _ (avoid hd rfl),
      fun _ _ => same_startStreamConfig _ _ (avoid hd rfl), fun _ _ => same_startStreamStart _ _ (avoid hd rfl),
      fun _ _ => same_startStreamStop _ _ (avoid hd rfl),
      fun _ _ => same_startTimedChange _ _ (avoid hd rfl), fun _ _ => same_startTimedChange _ _ (avoid hd rfl),
      fun _ _ => same_startTimedChange _ _ (avoid hd rfl), fun _ _ => same_startAudioTone _ _ (avoid hd rfl),
      fun _ _ => same_startJackStatus _ _ (avoid hd rfl),
      fun _ _ => same_startChannelConfig _ _ (avoid hd rfl), fun _ _ => same_startXfer _ _ (avoid hd rfl),
      fun _ _ => same_startXfer _ _ (avoid hd rfl), fun _ _ => same_startXfer _ _ (avoid hd rfl),
      fun _ _ => same_startXfer _ _ (avoid hd rfl), fun _ _ => same_startDmaResume _ _ (avoid hd rfl),
      fun s f => same_startDmaAbort _ s f (fun _ _ _ _ => same_foldDma _ _ _ _ (avoid hd rfl)) (avoid hd rfl)⟩⟩,
     ⟨fun _ _ => same_startEventRingConfig _ _ (avoid hd rfl), fun _ _ => same_startEventTarget _ _ (avoid hd rfl),
     fun _ _ => same_startEventMask _ _ (avoid hd rfl), fun _ _ => same_startEventPendSet _ _ (avoid hd rfl),
      fun _ _ => same_startEventGlobalDisable _ _ (avoid hd rfl), fun _ _ => same_startEventStatus _ _ (avoid hd rfl),
      fun _ _ => same_startPowerState _ _ (avoid hd rfl), fun _ _ => same_startPowerRetain _ _ (avoid hd rfl),
      fun _ _ => same_awaitEpoch _ _ (avoid hd rfl), fun _ _ => same_startWakeConfig _ _ (avoid hd rfl),
      fun _ _ => same_startMemSpare _ _ (avoid hd rfl), fun _ _ => same_startMemStatus _ _ (avoid hd rfl),
      fun _ _ => same_startMemPowerdown _ _ (avoid hd rfl),
      fun _ _ => same_awaitEpoch _ _ (avoid hd rfl), fun _ _ => same_startMemRetire _ _ (avoid hd rfl),
      fun _ _ => same_startStockroomStager _ _ (avoid hd rfl), fun _ _ => same_startStockroomQuery _ _ (avoid hd rfl),
      fun _ _ => same_startMeasurements _ _ (avoid hd rfl), fun _ _ => same_startAppletLoad _ _ (avoid hd rfl),
      fun _ _ => same_startAppletStart _ _ (avoid hd rfl), fun _ _ => same_startAppletStop _ _ (avoid hd rfl),
      fun _ _ => same_startSecureLayer _ _ (avoid hd rfl), fun _ _ => same_startKeyOffer _ _ (avoid hd rfl),
      fun _ _ => same_startKeyAccept _ _ (avoid hd rfl), fun _ _ => same_startKeyDestroy _ _ (avoid hd rfl),
      fun _ _ => same_startLedgerRead _ _ (avoid hd rfl),
      fun _ _ => same_startFaultLogRead _ _ (avoid hd rfl), fun _ _ => same_startLedgerClear _ _ (avoid hd rfl),
      fun _ _ => same_startFaultInject _ _ (avoid hd rfl)⟩⟩

theorem same_effectOf {ps : Nat} {z : State} (s : State) (f : Flight) (hd : ps &&& 0xAFFFDFD = 0) (hw : Same ps z s) : Same ps z (effectOf s f) := by
  unfold effectOf
  split
  · rename_i e
    exact same_effects (avoid hd rfl) _ (List.mem_of_find?_eq_some e) _ _ hw
  · exact hw

theorem same_useData {ps : Nat} {z : State} (s : State) (f : Flight) (hd : ps &&& 0x2052BFC = 0) (hw : Same ps z s) :
    Same ps z (useData s f) := by
  unfold useData
  try dsimp only
  repeat' (first
    | with_reducible assumption | with_reducible apply same_await | with_reducible apply same_finish
    | with_reducible apply same_restoreRead | with_reducible apply same_loadShader
    | with_reducible apply same_partitionRead | with_reducible refine same_ite ?_ ?_ | exact avoid hd rfl | (intro _)
    | split | dsimp only)

theorem same_beginWork {ps : Nat} {z : State} (s : State) (f : Flight) (hd : ps &&& 0xAFFFFFD = 0) (hw : Same ps z s) :
    Same ps z (beginWork s f) := by
  unfold beginWork
  try dsimp only
  repeat' (first
    | with_reducible assumption | with_reducible apply same_effectOf | with_reducible apply same_useData
    | with_reducible refine same_ite ?_ ?_ | exact avoid hd rfl | (intro _) | split | dsimp only)

theorem same_beforeFirst {ps : Nat} {z : State} (s : State) (f : Flight) (hd : ps &&& 0x201093C = 0) (hw : Same ps z s) :
    Same ps z ((beforeFirst s f).1) := by
  unfold beforeFirst
  try dsimp only
  repeat' (first
    | with_reducible assumption | with_reducible apply same_endStopped | with_reducible apply same_setFlight
    | with_reducible refine same_ite ?_ ?_ | exact avoid hd rfl | (intro _) | split | dsimp only)

theorem same_completeFirst {ps : Nat} {z : State} (s : State) (f : Flight) (hd : ps &&& 0xAFFFFFD = 0) (hw : Same ps z s) :
    Same ps z (completeFirst s f) := by
  unfold completeFirst
  try dsimp only
  repeat' (first
    | with_reducible assumption | with_reducible apply same_finish | with_reducible apply same_beforeFirst
    | with_reducible apply same_setFlight | with_reducible apply same_beginWork | with_reducible apply same_accept
    | with_reducible apply same_await | with_reducible refine same_ite ?_ ?_ | exact avoid hd rfl | (intro _) | split
    | dsimp only)

theorem same_settleFences {ps : Nat} {z : State} (s : State) (hd : ps &&& 0xAFFFFFD = 0) (hw : Same ps z s) :
    Same ps z (settleFences s) := by
  unfold settleFences
  try dsimp only
  repeat' (first
    | with_reducible assumption | with_reducible apply same_beginWork | with_reducible refine same_foldl ?_ ?_
    | with_reducible refine same_ite ?_ ?_ | exact avoid hd rfl | (intro _) | split | dsimp only)

theorem same_foresee {ps : Nat} {z : State} (s : State) (f : Flight) (hd : ps &&& 0xAFFFDFD = 0) (hw : Same ps z s) :
    Same ps z (foresee s f) := by
  unfold foresee
  try dsimp only
  repeat' (first
    | with_reducible assumption | with_reducible apply same_effectOf | with_reducible refine same_modFlights ?_ ?_
    | with_reducible apply same_finishDone | with_reducible apply same_foreseeTimeline
    | with_reducible apply same_applyAtEpoch | with_reducible refine same_ite ?_ ?_ | exact avoid hd rfl | (intro _)
    | split | dsimp only)

theorem same_viewOfNext {ps : Nat} {z : State} (s : State) (t : Nat) (hd : ps &&& 0xAFFFDFD = 0) (hw : Same ps z s) :
    Same ps z (viewOfNext s t) := by
  unfold viewOfNext
  try dsimp only
  repeat' (first
    | with_reducible assumption | with_reducible apply same_foresee | with_reducible refine same_foldl ?_ ?_
    | with_reducible refine same_foldl_1 ?_ ?_ | with_reducible refine same_foldl_2 ?_ ?_
    | with_reducible refine same_foldl_22 ?_ ?_ | with_reducible refine same_ite ?_ ?_ | exact avoid hd rfl | (intro _)
    | split | dsimp only)

theorem same_withLoad {ps : Nat} {z : State} (s : State) (t : Nat) (l : PendingLoad) (hd : ps &&& 0x3BF97A = 0) (hw : Same ps z s) :
    Same ps z (withLoad s t l) := by
  unfold withLoad
  try dsimp only
  repeat' (first
    | with_reducible assumption | with_reducible apply same_fitObjects | with_reducible apply same_modTen
    | with_reducible refine same_modWheels ?_ ?_ | with_reducible refine same_ite ?_ ?_ | exact avoid hd rfl | (intro _)
    | split | dsimp only)

theorem same_noCommit {ps : Nat} {z : State} (s : State) (_f : Flight) (hd : ps &&& 0x0 = 0) (hw : Same ps z s) :
    Same ps z (noCommit s _f) := by
  unfold noCommit
  try dsimp only
  repeat' (first
    | with_reducible assumption | with_reducible refine same_ite ?_ ?_ | exact avoid hd rfl | (intro _) | split
    | dsimp only)

theorem same_fetchedAs {ps : Nat} {z : State} (s : State) (src : CmdSrc) (d : Descriptor) (hd : ps &&& 0x410 = 0) (hw : Same ps z s) :
    Same ps z (fetchedAs s src d) := by
  unfold fetchedAs
  try dsimp only
  repeat' (first
    | with_reducible assumption | with_reducible apply same_fetched | with_reducible refine same_ite ?_ ?_
    | exact avoid hd rfl | (intro _) | split | dsimp only)

theorem same_ringCommand {ps : Nat} {z : State} (op : Nat) (check : State → Cmd → Ruling) (commit : State → Flight → State) (src : CmdSrc) (d : Descriptor) (s : State) (hcommit : ∀ (x0 : State) (x1 : Flight), Same ps z x0 → Same ps z (commit x0 x1)) (hd : ps &&& 0xC000D10 = 0) (hw : Same ps z s) :
    Same ps z (ringCommand op check commit src d s) := by
  unfold ringCommand
  try dsimp only
  repeat' (first
    | with_reducible assumption | with_reducible apply same_fetchedAs | with_reducible apply same_takeCommand
    | with_reducible apply same_viewOfNext | with_reducible apply hcommit | with_reducible refine same_ite ?_ ?_
    | exact avoid hd rfl | (intro _) | split | dsimp only)

theorem same_takeUnknown {ps : Nat} {z : State} (s : State) (v : Visible) (d : Descriptor) (hd : ps &&& 0xEFFFFFD = 0) (hw : Same ps z s) :
    Same ps z (takeUnknown s v d) := by
  unfold takeUnknown
  try dsimp only
  repeat' (first
    | with_reducible assumption | with_reducible apply same_takeCommand | with_reducible apply same_completeFirst
    | with_reducible refine same_ite ?_ ?_ | exact avoid hd rfl | (intro _) | split | dsimp only)

theorem same_firstCompletionOf {ps : Nat} {z : State} (s : State) (src : CmdSrc) (hd : ps &&& 0xEFFFFFD = 0) (hw : Same ps z s) :
    Same ps z (firstCompletionOf s src) := by
  unfold firstCompletionOf
  try dsimp only
  repeat' (first
    | with_reducible assumption | with_reducible apply same_failedCompletion | with_reducible apply same_takeUnknown
    | with_reducible apply same_completeFirst | with_reducible apply same_stoppedFirst
    | with_reducible refine same_ite ?_ ?_ | exact avoid hd rfl | (intro _) | split | dsimp only)

theorem same_hostDataOf {ps : Nat} {z : State} (s : State) (src : CmdSrc) (how : Arrival) (hd : ps &&& 0x2052BFC = 0) (hw : Same ps z s) :
    Same ps z (hostDataOf s src how) := by
  unfold hostDataOf
  try dsimp only
  repeat' (first
    | with_reducible assumption | with_reducible apply same_noteAer | with_reducible apply same_useData
    | with_reducible apply same_setFlight | with_reducible refine same_ite ?_ ?_ | exact avoid hd rfl | (intro _)
    | split | dsimp only)

theorem same_timedFinalOf {ps : Nat} {z : State} (s : State) (src : CmdSrc) (hd : ps &&& 0xA45283C = 0) (hw : Same ps z s) :
    Same ps z (timedFinalOf s src) := by
  unfold timedFinalOf
  try dsimp only
  repeat' (first
    | with_reducible assumption | with_reducible apply same_endMeasurements | with_reducible apply same_finishDone
    | with_reducible apply same_endApplet | with_reducible refine same_ite ?_ ?_ | exact avoid hd rfl | (intro _)
    | split | dsimp only)

theorem same_wardenDone {ps : Nat} {z : State} (s : State) (f : Flight) (good : Bool) (body : List Byte) (hd : ps &&& 0xA7FF9FC = 0) (hw : Same ps z s) :
    Same ps z (wardenDone s f good body) := by
  unfold wardenDone
  try dsimp only
  repeat' (first
    | with_reducible assumption | with_reducible apply same_endSave | with_reducible apply same_endRestore
    | with_reducible apply same_endAppletLoad | with_reducible apply same_endKeyOffer
    | with_reducible apply same_endKeyAccept | with_reducible apply same_endKeyDestroy
    | with_reducible refine same_ite ?_ ?_ | exact avoid hd rfl | (intro _) | split | dsimp only)

theorem same_wardenReplyOf {ps : Nat} {z : State} (s : State) (r : WardenReply) (hd : ps &&& 0xA7FF9FC = 0) (hw : Same ps z s) :
    Same ps z (wardenReplyOf s r) := by
  unfold wardenReplyOf
  try dsimp only
  repeat' (first
    | with_reducible assumption | with_reducible apply same_postReply | with_reducible apply same_wardenDone
    | with_reducible refine same_ite ?_ ?_ | exact avoid hd rfl | (intro _) | split | dsimp only)

theorem same_unitSampleOf {ps : Nat} {z : State} (s : State) (u : Nat) (ins : List Nat) (hd : ps &&& 0xA09B8FC = 0) (hw : Same ps z s) :
    Same ps z (unitSampleOf s u ins) := by
  unfold unitSampleOf
  try dsimp only
  repeat' (first
    | with_reducible assumption | with_reducible apply same_feedAudio | with_reducible apply same_sampleStartOf
    | with_reducible apply same_applyAudioAssay | with_reducible refine same_ite ?_ ?_ | exact avoid hd rfl | (intro _)
    | split | dsimp only)

theorem same_portEdgeOf {ps : Nat} {z : State} (s : State) (u : Nat) (ins : List Nat) (hd : ps &&& 0xA0998FC = 0) (hw : Same ps z s) :
    Same ps z (portEdgeOf s u ins) := by
  unfold portEdgeOf
  try dsimp only
  repeat' (first
    | with_reducible assumption | with_reducible apply same_feedAudio | with_reducible apply same_syncEdge
    | with_reducible apply same_applyAudioAssay | with_reducible refine same_ite ?_ ?_ | exact avoid hd rfl | (intro _)
    | split | dsimp only)

theorem same_servePortFed {ps : Nat} {z : State} (s : State) (r : PortRequest) {t : State} (e : servePortFed s r = .next t) (hd : ps &&& 0xA01A8FC = 0) (hw : Same ps z s) :
    Same ps z t := same_servePort feedWrite s r (fun _ _ _ w => same_feedWrite _ _ _ (avoid hd rfl) w) e (avoid hd rfl) hw

end Sys2Proof.Machine
end

