-- ==== Sys2Proof/Laws/SameTickOps.lean ====
section
/-! SUPPORT. What the operations of Machine/TickOps.lean leave alone. -/

namespace Sys2Proof.Machine

theorem same_settle {ps : Nat} {z : State} (s : State) (hd : ps &&& 0xAFFFFFF = 0) (hw : Same ps z s) :
    Same ps z (settle s) := by
  unfold settle
  try dsimp only
  repeat' (first
    | with_reducible assumption | with_reducible apply same_holdHalt | with_reducible apply same_writeTables
    | with_reducible apply same_settleTenancies | with_reducible apply same_dropDeadChanges
    | with_reducible apply same_settleGpu | with_reducible apply same_settleFences
    | with_reducible refine same_ite ?_ ?_ | exact avoid hd rfl | (intro _) | split | dsimp only)

theorem same_resendPme {ps : Nat} {z : State} (s : State) (hd : ps &&& 0xC = 0) (hw : Same ps z s) :
    Same ps z (resendPme s) := by
  unfold resendPme
  try dsimp only
  repeat' (first
    | with_reducible assumption | with_reducible apply same_modFn | with_reducible refine same_modPcie ?_ ?_
    | with_reducible refine same_foldl ?_ ?_ | with_reducible refine same_ite ?_ ?_ | exact avoid hd rfl | (intro _)
    | split | dsimp only)

theorem same_advance {ps : Nat} {z : State} (s : State) (hd : ps &&& 0x5 = 0) (hw : Same ps z s) :
    Same ps z (advance s) := by
  unfold advance
  try dsimp only
  repeat' (first
    | with_reducible assumption | with_reducible refine same_modTl ?_ ?_ | with_reducible refine same_modPcie ?_ ?_
    | with_reducible refine same_ite ?_ ?_ | exact avoid hd rfl | (intro _) | split | dsimp only)

end Sys2Proof.Machine
end

