-- ==== Sys2Proof/Laws/Path.lean ====
section
/-! SUPPORT. The path of a ring command: what its admission and its first completion do, and which parts of the state a
completion touches. -/

namespace Sys2Proof.Machine

theorem Same.flights_eq {z s : State} (h : Same 0x800 z s) : s.flights = z.flights := h.get .flights (by decide)

/-- A completion goes through the PCIe side, the function page, the command ring and host memory alone. -/
theorem same_issueCompletion {ps : Nat} {z : State} (s : State) (f : Nat) (h : Held) (hc : h.isCompletion = true) (ha : h.addr = none)
    (hd : ps &&& 0x200001C = 0) (hw : Same ps z s) : Same ps z (issueRecord s f h) := by
  have hp : ∀ u, Same ps z u → Same ps z (putRecord u f h) := by
    intro u hu
    unfold putRecord
    rw [ha, hc]
    exact same_putCompletion _ f _ _ (avoid hd rfl) (same_modPcie (avoid hd rfl) hu)
  have hm : Same ps z (modCr s f h.ring fun c => { c with ccUsed := c.ccUsed + 1 }) := same_modCr s f h.ring _ (avoid hd rfl) hw
  unfold issueRecord
  rw [if_pos hc]
  dsimp only
  split
  · exact hw
  split
  · exact hp _ hm
  · exact same_holdRecord _ f h (avoid hd rfl) hm

/-- A final completion touches no event ring. -/
theorem same_finished {ps : Nat} {z : State} (s : State) (f : Flight) (v : Verdict) (hd : ps &&& 0x201081C = 0) (hw : Same ps z s) :
    Same ps z (finish s f v) := by
  unfold finish
  dsimp only
  exact same_settleRing _ _ _ (avoid hd rfl) (same_issueCompletion _ _ _ rfl rfl (avoid hd rfl) (same_modFlights (avoid hd rfl)
    (same_modCr _ _ _ _ (avoid hd rfl) (same_noteOutcome s f v (avoid hd rfl) hw))))

/-- Nor does an ACCEPT. -/
theorem same_accepted {ps : Nat} {z : State} (s : State) (f : Flight) (i : Option Nat) (v : Nat) (hd : ps &&& 0x200081C = 0)
    (hw : Same ps z s) : Same ps z (accept s f i v) := by
  unfold accept
  dsimp only
  exact same_issueCompletion _ _ _ rfl rfl (avoid hd rfl) (same_setFlight _ _ (avoid hd rfl) (same_modCr _ _ _ _ (avoid hd rfl) hw))

/-- Nor does the withdrawal of a command. -/
theorem same_withdrawn {ps : Nat} {z : State} (s : State) (f : Flight) (v : Verdict) (hd : ps &&& 0x201081C = 0) (hw : Same ps z s) :
    Same ps z (withdraw s f v) := by
  have e : ∀ u g w, Same ps z u → Same ps z (finish u g w) := fun u g w hu => same_finished u g w hd hu
  unfold withdraw
  exact same_ite (e _ _ _ hw) (same_ite (same_ite hw (same_setFlight _ _ (avoid hd rfl) hw))
    (same_ite (e _ _ _ hw) (same_ite (e _ _ _ (same_accepted _ _ _ _ (avoid hd rfl) hw)) (e _ _ _ hw))))

theorem issueRecord_flights (s : State) (f : Nat) (h : Held) : (issueRecord s f h).flights = s.flights :=
  (same_issueRecord (ps := 0x800) s f h (by decide) same_refl).flights_eq

theorem accept_flights (s : State) (f : Flight) (i : Option Nat) (v : Nat) :
    (accept s f i v).flights = s.flights.map (fun g => if g.id = f.id then { f with slots := f.slots - 1 } else g) := by
  unfold accept
  dsimp only
  rw [issueRecord_flights]
  rfl

/-- A final completion takes its flight, and no other, out of the list. -/
theorem finish_flights (s : State) (f : Flight) (v : Verdict) :
    (finish s f v).flights = s.flights.filter fun g => g.id ≠ f.id := by
  have a : ∀ u r, (settleRing u f.src.fn r).flights = u.flights := fun u r =>
    (same_settleRing (ps := 0x800) u _ _ (by decide) same_refl).flights_eq
  have b : (noteOutcome s f v).flights = s.flights := (same_noteOutcome (ps := 0x800) s f _ (by decide) same_refl).flights_eq
  unfold finish
  dsimp only
  rw [a, issueRecord_flights]
  show List.filter _ (noteOutcome s f v).flights = _
  rw [b]

theorem flightAt_some {s : State} {src : CmdSrc} {p : Flight → Bool} {f : Flight} (h : flightAt s src p = some f) :
    f.src = src ∧ p f = true ∧ f ∈ s.flights := by
  unfold flightAt at h
  have h1 := List.find?_some h
  have h2 := List.mem_of_find?_eq_some h
  simp at h1
  exact ⟨h1.1, h1.2, h2⟩

theorem firstCompletionOf_eq {s : State} {f : Flight}
    (h1 : (flightAt s f.src fun g => decide (g.phase = .first) && decide (now s ≥ g.admitted + 8000)) = some f)
    (h2 : ∀ v ∈ s.visible, v.src ≠ f.src) : firstCompletionOf s f.src = completeFirst s f := by
  unfold firstCompletionOf
  split
  · next v hv =>
    exfalso
    have a := List.mem_of_find?_eq_some hv
    have b := List.find?_some hv
    simp [h2 v a] at b
  rw [h1]

theorem accept_finds {s : State} {f : Flight} (i : Option Nat) (v : Nat) (h : f ∈ s.flights) :
    (accept s f i v).flights.find? (fun g => g.id == f.id) = some { f with slots := f.slots - 1 } := by
  have : ((accept s f i v).flights.find? (fun g => g.id == f.id)).isSome := by
    rw [List.find?_isSome, accept_flights]
    exact ⟨_, List.mem_map.2 ⟨f, h, rfl⟩, by simp⟩
  obtain ⟨k, hk⟩ := Option.isSome_iff_exists.1 this
  rw [hk]
  have a := List.find?_some hk
  have b := List.mem_of_find?_eq_some hk
  rw [accept_flights] at b
  obtain ⟨j, hj, rfl⟩ := List.mem_map.1 b
  by_cases hi : j.id = f.id
  · rw [if_pos hi]
  · rw [if_neg hi] at a; simp [hi] at a

/-- Nothing goes before the first completion of a command that is no quiesce. -/
theorem beforeFirst_other {s : State} {f : Flight} (h : f.op ≠ 0x13) : beforeFirst s f = (s, f) := if_pos h

/-- A command with its host data copied is the same command. -/
@[simp] theorem withCopy_id (s : State) (f : Flight) : (withCopy s f).id = f.id := by
  unfold withCopy
  split
  · split
    · rfl
    · split <;> rfl
  · rfl

@[simp] theorem withCopy_op (s : State) (f : Flight) : (withCopy s f).op = f.op := by
  unfold withCopy
  split
  · split
    · rfl
    · split <;> rfl
  · rfl

/-- A flight that is set stands among the flights. -/
theorem setFlight_mem {s : State} {f g : Flight} (h : f ∈ s.flights) (e : g.id = f.id) : g ∈ (setFlight s g).flights :=
  List.mem_map.2 ⟨f, h, if_pos e.symm⟩

/-- The first completion of an accepted command begins its work. -/
theorem first_due {s : State} {f : Flight} (h : FirstDue s f) : exec (.firstCompletion f.src) s =
    .next (withData (effectOf (acceptedState s f) (acceptedFlight s f)) (acceptedFlight s f)) := by
  obtain ⟨h1, h2, h3, h4, h5, hm⟩ := h
  show Host.Outcome.next (firstCompletionOf s f.src) = _
  congr 1
  rw [firstCompletionOf_eq h1 h2]
  unfold completeFirst acceptedState acceptedFlight firstState firstFlight
  rw [h3]
  generalize beforeFirst s f = r at h4 h5 hm ⊢
  obtain ⟨u, g⟩ := r
  dsimp only at h4 h5 hm ⊢
  rw [h5, h4]
  have hk := setFlight_mem hm (withCopy_id u g)
  generalize withCopy u g = k at hk ⊢
  by_cases hs : k.verdict.status = 0
  · simp [hs, afterAccept, flightAfter, beginWork, withData, flightBy] <;> rfl
  · simp [hs, afterAccept, flightAfter, beginWork, withData, flightBy, accept_finds _ _ hk] <;> rfl

/-- A ring command is taken in with what its checks decide, and an accepted one commits. -/
theorem ring_taken (op : Nat) (check : State → Cmd → Ruling) (commit : State → Flight → State) (src : CmdSrc) (d : Descriptor)
    (s : State) (h : HasSlot s src) :
    ∃ u f, Taken op src d s u f ∧ f.verdict = (rulingAt op check src d s).verdict ∧ f.promised = (rulingAt op check src d s).promised ∧
      ringCommand op check commit src d s = if accepted f then commit u f else u := by
  obtain ⟨h1, h2, h3⟩ := h
  have hn : (withFetched op src d s).nextId = s.nextId :=
    (same_fetchedAs (ps := 0x4000000) s src _ (by decide) same_refl).get .nextId (by decide)
  have hb : (barred (viewOfNext (withFetched op src d s) src.fn) (withOp op d) (ruleOf op src (withOp op d)
      (viewOfNext (withFetched op src d s) src.fn) (withGates op check) (admissionOf (withFetched op src d s) src (withOp op d)))
      (withFetched op src d s)).2.nextId = s.nextId :=
    ((same_barred (ps := 0x4000000) _ _ _ (withFetched op src d s) (by decide) same_refl).get .nextId (by decide)).trans hn
  refine ⟨(takeCommand op src (withOp op d) (viewOfNext (withFetched op src d s) src.fn) (withGates op check) (withFetched op src d s)).2,
    (takeCommand op src (withOp op d) (viewOfNext (withFetched op src d s) src.fn) (withGates op check) (withFetched op src d s)).1,
    ⟨?_, hb, ?_, rfl, rfl, rfl, rfl, rfl⟩, ?_, ?_, ?_⟩
  · unfold takeCommand
    dsimp only
    simp
  · rw [← hb]
    unfold takeCommand
    dsimp only
    split <;> rfl
  · rfl
  · rfl
  · unfold ringCommand
    rw [h1]
    have a : ¬ src.fn > 16 := by omega
    have b : ¬ src.ring > 3 := by omega
    simp only [a, b, Bool.not_true, decide_false, Bool.or_self, Bool.false_eq_true, if_false]
    rfl

/-- A command waiting for its first completion falls due at a_k + 8,000. -/
theorem due_first (s : State) (f : Flight) (hf : f ∈ s.flights) (hp : f.phase = .first) (ha : f.admitted + 8000 ≤ now s) :
    .firstCompletion f.src ∈ due s := by
  have h : Instr.firstCompletion f.src ∈ dueRecords s (min f.src.ring 3) := by
    unfold dueRecords
    simp only [List.mem_append, List.mem_map, List.mem_filter]
    refine Or.inl (Or.inl (Or.inl (Or.inr ⟨f, ⟨hf, ?_⟩, rfl⟩)))
    simp [hp, ha]
  unfold due dueCommands
  simp only [List.mem_append, List.mem_flatMap, List.mem_range]
  exact Or.inl (Or.inl (Or.inr (Or.inl (Or.inl (Or.inl (Or.inr ⟨min f.src.ring 3, by omega, h⟩))))))

theorem withOp_self (d : Descriptor) : withOp (opcodeOf d) d = d := by
  unfold withOp opcodeOf dget
  have : d.toNat / 256 * 256 + d.toNat / 2 ^ (8 * 0) % 2 ^ (8 * 1) % 256 = d.toNat := by
    have := Nat.div_add_mod d.toNat 256
    simp; omega
  rw [this]; simp

end Sys2Proof.Machine
end

