-- ==== Sys2Proof/Laws/Shared.lean ====
section
/-! SUPPORT. What the shared operations on events, the Ledger and flights do, said once each. -/

namespace Sys2Proof.Machine

/-- Setting a bit sets that bit and no other. -/
theorem testBit_setBit (v b k : Nat) : (setBit v b).testBit k = (v.testBit k || decide (k = b)) := by
  unfold setBit
  split
  · next h => by_cases e : k = b <;> simp [e, h]
  · next h =>
    have hb : v.testBit b = false := by simpa using h
    have e1 : v = 2 ^ (b + 1) * (v / 2 ^ (b + 1)) + v % 2 ^ (b + 1) := (Nat.div_add_mod _ _).symm
    have hr : v % 2 ^ (b + 1) < 2 ^ b := by
      have hm : v % 2 ^ (b + 1) < 2 ^ (b + 1) := Nat.mod_lt _ (Nat.two_pow_pos _)
      have t : (v % 2 ^ (b + 1)).testBit b = false := by rw [Nat.testBit_mod_two_pow, hb]; simp
      rcases Nat.lt_or_ge (v % 2 ^ (b + 1)) (2 ^ b) with h' | h'
      · exact h'
      · exfalso
        have := Nat.testBit_of_two_pow_le_and_two_pow_add_one_gt h' hm
        rw [t] at this
        cases this
    have hs : 2 ^ b + v % 2 ^ (b + 1) < 2 ^ (b + 1) := by have := Nat.pow_succ 2 b; simp only [this] at *; omega
    have e2 : v + 2 ^ b = 2 ^ (b + 1) * (v / 2 ^ (b + 1)) + (2 ^ b + v % 2 ^ (b + 1)) := by omega
    rw [e2, Nat.testBit_two_pow_mul_add _ hs]
    have e3 : v.testBit k = if k < b + 1 then (v % 2 ^ (b + 1)).testBit k else (v / 2 ^ (b + 1)).testBit (k - (b + 1)) := by
      have := Nat.testBit_two_pow_mul_add (v / 2 ^ (b + 1)) (Nat.mod_lt v (Nat.two_pow_pos (b + 1))) k
      rw [← e1] at this
      exact this
    rw [e3]
    split
    · next hk =>
      rcases Nat.lt_or_ge k b with h' | h'
      · rw [Nat.testBit_two_pow_add_gt h']
        have : k ≠ b := by omega
        simp [this]
      · have : k = b := by omega
        subst this
        rw [Nat.testBit_two_pow_add_eq, Nat.testBit_lt_two_pow hr]
        simp
    · next hk =>
      have : k ≠ b := by omega
      simp [this]

/-! ### Events -/

/-- An occurrence sets its latch. -/
theorem raise_sets (s : State) (n b : Nat) : (evSrc (raise s n b) n).cause.testBit b = true := by
  unfold raise
  dsimp only
  rw [evSrc_setEvSrc_same]
  simp [testBit_setBit]

/-- It clears no latch of any source. -/
theorem raise_keeps (s : State) (m c n b : Nat) (h : (evSrc s n).cause.testBit b = true) :
    (evSrc (raise s m c) n).cause.testBit b = true := by
  by_cases e : n = m
  · subst e
    unfold raise
    dsimp only
    rw [evSrc_setEvSrc_same]
    simp [testBit_setBit, h]
  · unfold raise
    dsimp only
    rw [evSrc_setEvSrc_other _ _ _ _ e]
    exact h

theorem evSrc_of_ev {s t : State} (h : t.ev = s.ev) (n : Nat) : evSrc t n = evSrc s n := by unfold evSrc; rw [h]
theorem lgSrc_of_lg {s t : State} (h : t.lg = s.lg) (n : Nat) : lgSrc t n = lgSrc s n := by unfold lgSrc; rw [h]

/-- What holds of a state, and is kept by each step of a fold, holds at its end. -/
theorem fold_keeps {α : Type} {P : State → Prop} {f : State → α → State} {l : List α} {s : State} (hf : ∀ t x, P t → P (f t x))
    (h : P s) : P (l.foldl f s) := by
  induction l generalizing s with
  | nil => exact h
  | cons x l ih => exact ih (hf s x h)

/-! ### Completions leave events and the Ledger alone -/

theorem finish_ev (s : State) (f : Flight) (v : Verdict) : (finish s f v).ev = s.ev :=
  (same_finished (ps := 0x40) s f v (by decide) same_refl).get .ev (by decide)
theorem finish_lg (s : State) (f : Flight) (v : Verdict) : (finish s f v).lg = s.lg :=
  (same_finished (ps := 0x80) s f v (by decide) same_refl).get .lg (by decide)
theorem finish_tl (s : State) (f : Flight) (v : Verdict) : (finish s f v).tl = s.tl :=
  (same_finished (ps := 0x1) s f v (by decide) same_refl).get .tl (by decide)
theorem withdraw_ev (s : State) (f : Flight) (v : Verdict) : (withdraw s f v).ev = s.ev :=
  (same_withdrawn (ps := 0x40) s f v (by decide) same_refl).get .ev (by decide)
theorem withdraw_lg (s : State) (f : Flight) (v : Verdict) : (withdraw s f v).lg = s.lg :=
  (same_withdrawn (ps := 0x80) s f v (by decide) same_refl).get .lg (by decide)

/-! ### The Ledger -/

theorem halt_ev (s : State) (b : Nat) : (halt s b).ev = s.ev := by
  unfold halt
  dsimp only
  refine fold_keeps (P := fun t => t.ev = s.ev) ?_ rfl
  intro t x h
  split
  · exact h
  · rw [withdraw_ev]; exact h

/-- A HALT latches its source, unless one is latched, and ends the reactions; it changes nothing else of the Ledger. -/
theorem halt_lg (s : State) (b : Nat) : (halt s b).lg = { s.lg with haltSrc := some (s.lg.haltSrc.getD b), reactions := [] } := by
  unfold halt
  dsimp only
  refine fold_keeps (P := fun t => t.lg = { s.lg with haltSrc := some (s.lg.haltSrc.getD b), reactions := [] }) ?_ rfl
  intro t x h
  split
  · exact h
  · rw [withdraw_lg]; exact h

theorem halt_lgSrc (s : State) (b n : Nat) : lgSrc (halt s b) n = lgSrc s n := by
  unfold lgSrc
  rw [halt_lg]

/-- A choice between a state and the same state with other reactions. -/
theorem reactions_or (c : Prop) {_d : Decidable c} (u : State) (g : List Reaction → List Reaction) :
    (if c then u else u.modLg fun x => { x with reactions := g x.reactions }) = u ∨
      ∃ k : List Reaction → List Reaction, (if c then u else u.modLg fun x => { x with reactions := g x.reactions }) =
        u.modLg fun x => { x with reactions := k x.reactions } := by
  by_cases h : c
  · exact .inl (if_pos h)
  · exact .inr ⟨g, if_neg h⟩

/-- All that an error line can do: its source is set, with a new stamp where it was clear, and the Ledger's event with its
class's cause; at class HALT a HALT follows, and at another class the reactions alone may change. -/
theorem assert_cases (s : State) (b a : Nat) (i : Bool) (h : b < 40) :
    ∃ v u, v.on = true ∧ ((lgSrc s b).on = false → v.stamp = now s) ∧
      ((lgSrc s b).on = true ∧ u = setLgSrc s b v ∨ (lgSrc s b).on = false ∧ u = raise (setLgSrc s b v) srcLedger (lgClass s b)) ∧
      (lgClass s b = 3 ∧ assert s b a i = halt u b ∨
        lgClass s b ≠ 3 ∧ (assert s b a i = u ∨ ∃ k : List Reaction → List Reaction, assert s b a i = u.modLg fun x => { x with reactions := k x.reactions })) := by
  unfold assert
  rw [if_neg (by omega)]
  dsimp only
  have hc : (if lgClass s b = 3 then 3 else lgClass s b) = lgClass s b := by split <;> simp_all
  rw [hc]
  let rc := match inProgress s.lg.reactions with | some r => r.cls | none => 0
  let m := (inProgress s.lg.reactions).isSome && decide (lgClass s b ≠ 3)
  let v : LgSrc := { lgSrc s b with
    on := true, stamp := if (lgSrc s b).on then (lgSrc s b).stamp else now s, affect := (lgSrc s b).affect ||| a,
    injected := if (lgSrc s b).on then (lgSrc s b).injected else i,
    setAt := some (now s), setAffect := (if (lgSrc s b).setAt = some (now s) then (lgSrc s b).setAffect else 0) ||| a,
    raised := if m && decide (lgClass s b < rc) then max (lgSrc s b).raised rc else (lgSrc s b).raised }
  refine ⟨v, if (lgSrc s b).on = true then setLgSrc s b v else raise (setLgSrc s b v) srcLedger (lgClass s b), rfl, ?_, ?_, ?_⟩
  · intro e
    show (if (lgSrc s b).on = true then (lgSrc s b).stamp else now s) = now s
    simp [e]
  · by_cases e : (lgSrc s b).on = true
    · left; rw [if_pos e]; exact ⟨e, rfl⟩
    · right; rw [if_neg e]; exact ⟨by simpa using e, rfl⟩
  · by_cases e : lgClass s b = 3
    · left; rw [if_pos e]; exact ⟨e, rfl⟩
    · right
      refine ⟨e, ?_⟩
      rw [if_neg e]
      exact reactions_or _ _ (fun l => joinReaction l b _ _ _)

/-- An error line sets its source. -/
theorem assert_sets (s : State) (b a : Nat) (i : Bool) (h : b < 40) : (lgSrc (assert s b a i) b).on = true := by
  obtain ⟨v, u, hv, -, hu, hr⟩ := assert_cases s b a i h
  have e : (lgSrc u b).on = true := by
    rcases hu with ⟨-, rfl⟩ | ⟨-, rfl⟩
    · rw [lgSrc_setLgSrc_same]; exact hv
    · exact (congrArg LgSrc.on (lgSrc_setLgSrc_same s b v)).trans hv
  rcases hr with ⟨-, hr⟩ | ⟨-, hr | ⟨l, hr⟩⟩ <;> rw [hr]
  · rw [halt_lgSrc]; exact e
  · exact e
  · exact e

/-- It clears no source. -/
theorem assert_keeps_on (s : State) (b a : Nat) (i : Bool) (n : Nat) (h : (lgSrc s n).on = true) :
    (lgSrc (assert s b a i) n).on = true := by
  by_cases hb : b < 40
  · by_cases e : n = b
    · subst e; exact assert_sets s n a i hb
    obtain ⟨v, u, hv, -, hu, hr⟩ := assert_cases s b a i hb
    have e : (lgSrc u n).on = true := by
      rcases hu with ⟨-, rfl⟩ | ⟨-, rfl⟩
      · rw [lgSrc_setLgSrc_other _ _ _ _ e]; exact h
      · exact (congrArg LgSrc.on (lgSrc_setLgSrc_other s b n v e)).trans h
    rcases hr with ⟨-, hr⟩ | ⟨-, hr | ⟨l, hr⟩⟩ <;> rw [hr]
    · rw [halt_lgSrc]; exact e
    · exact e
    · exact e
  · unfold assert; rw [if_pos (by omega)]; exact h

/-- It clears no event latch. -/
theorem assert_keeps_cause (s : State) (b a : Nat) (i : Bool) (n k : Nat) (h : (evSrc s n).cause.testBit k = true) :
    (evSrc (assert s b a i) n).cause.testBit k = true := by
  by_cases hb : b < 40
  · obtain ⟨v, u, hv, -, hu, hr⟩ := assert_cases s b a i hb
    have e : (evSrc u n).cause.testBit k = true := by
      rcases hu with ⟨-, rfl⟩ | ⟨-, rfl⟩
      · exact h
      · exact raise_keeps (setLgSrc s b v) _ _ n k h
    rcases hr with ⟨-, hr⟩ | ⟨-, hr | ⟨l, hr⟩⟩ <;> rw [hr]
    · rw [evSrc_of_ev (halt_ev u b)]; exact e
    · exact e
    · exact e
  · unfold assert; rw [if_pos (by omega)]; exact h

end Sys2Proof.Machine
end

