-- ==== Sys2Proof/WellFormed.lean ====
section
/-! DEFINITION. Which terms of Instr are commands at all: the ranges of operands that name an object, and the OPCODE byte
of a descriptor, which is its row's. The checks of a descriptor's own fields are the device's (07 R309). -/

namespace Sys2Proof

/-- A slot of one of the four command rings of a function (06 R254, R259). -/
def srcWf (src : CmdSrc) : Bool := decide (src.fn ≤ 16) && decide (src.ring < 4) && decide (src.slot < 65536)

/-- A ring command: its slot, and its row's OPCODE (07 R301). -/
def ringWf (op : Nat) (src : CmdSrc) (d : Descriptor) : Bool := srcWf src && decide (Machine.opcodeOf d = op)

/-- A register of ring `ring` of a function page (06 R255). -/
def page (fn ring v : Nat) : Bool := decide (fn ≤ 16) && decide (ring < 4) && decide (v < 2 ^ 32)

/-- A register block that exists. -/
def blockWf : Block → Bool
  | .fnPage f => decide (f ≤ 16)
  | .bar2 f => decide (f ≤ 16)
  | .config f => decide (f ≤ 16)
  | .touch p => decide (p < 8)
  | .boot => true
  | .timeline => true
  | .stockroom => true
  | .memory => true
  | .heads => true
  | .integrity => true
  | .haptic => true
  | .audio => true
  | .dma => true
  | .events => true
  | .power => true
  | .ledger => true
  | .supervisor => true
  | .wardenStockroom => true

/-- A naturally aligned write of 8, 16, 32 or 64 bits. -/
def widthWf (ofs v width : Nat) : Bool :=
  (width == 8 || width == 16 || width == 32 || width == 64) && decide (v < 2 ^ width) && decide (8 * ofs % width = 0)

/-- Whether a term of Instr is a command. -/
def Instr.wf : Instr → Bool
  | .nop src d => ringWf 0x00 src d
  | .deviceIdentify src d => ringWf 0x01 src d
  | .hostSuspend src d => ringWf 0x02 src d
  | .resourceQuery src d => ringWf 0x03 src d
  | .timelineConfig src d => ringWf 0x04 src d
  | .timelineSteer src d => ringWf 0x05 src d
  | .timelineStatus src d => ringWf 0x06 src d
  | .karbobinLoad src d => ringWf 0x10 src d
  | .tenancyCreate src d => ringWf 0x11 src d
  | .tenancyGrant src d => ringWf 0x12 src d
  | .tenancyQuiesce src d => ringWf 0x13 src d
  | .tenancyResume src d => ringWf 0x14 src d
  | .tenancyReset src d => ringWf 0x15 src d
  | .tenancyRemove src d => ringWf 0x16 src d
  | .tenancyFreeze src d => ringWf 0x17 src d
  | .tenancySave src d => ringWf 0x18 src d
  | .tenancyRestore src d => ringWf 0x19 src d
  | .tenancyQuery src d => ringWf 0x1A src d
  | .tenancyAperture src d => ringWf 0x1B src d
  | .layerAlloc src d => ringWf 0x30 src d
  | .layerUpdate src d => ringWf 0x31 src d
  | .layerFree src d => ringWf 0x32 src d
  | .layerMove src d => ringWf 0x33 src d
  | .layerClut src d => ringWf 0x34 src d
  | .layerPolicy src d => ringWf 0x35 src d
  | .layerStatus src d => ringWf 0x36 src d
  | .headConfig src d => ringWf 0x40 src d
  | .headEnable src d => ringWf 0x41 src d
  | .headDisable src d => ringWf 0x42 src d
  | .headPush src d => ringWf 0x43 src d
  | .headUnderrun src d => ringWf 0x44 src d
  | .headQuiet src d => ringWf 0x45 src d
  | .headDsc src d => ringWf 0x46 src d
  | .headStatus src d => ringWf 0x47 src d
  | .headLink src d => ringWf 0x48 src d
  | .assayAlloc src d => ringWf 0x50 src d
  | .assayConfig src d => ringWf 0x51 src d
  | .assayExpect src d => ringWf 0x52 src d
  | .assayFree src d => ringWf 0x53 src d
  | .assayRead src d => ringWf 0x54 src d
  | .shadowRegion src d => ringWf 0x55 src d
  | .gpuContextCreate src d => ringWf 0x60 src d
  | .gpuContextDestroy src d => ringWf 0x61 src d
  | .gpuShaderLoad src d => ringWf 0x62 src d
  | .gpuJobSubmit src d => ringWf 0x63 src d
  | .gpuJobKill src d => ringWf 0x64 src d
  | .gpuContextQuery src d => ringWf 0x65 src d
  | .touchPortConfig src d => ringWf 0x70 src d
  | .touchScanConfig src d => ringWf 0x71 src d
  | .touchBaselineLoad src d => ringWf 0x72 src d
  | .touchBaselineSave src d => ringWf 0x73 src d
  | .touchSelftest src d => ringWf 0x74 src d
  | .touchCalibration src d => ringWf 0x78 src d
  | .touchKeys src d => ringWf 0x79 src d
  | .touchReportRing src d => ringWf 0x7A src d
  | .hapticConfig src d => ringWf 0x80 src d
  | .hapticPlay src d => ringWf 0x81 src d
  | .hapticStop src d => ringWf 0x82 src d
  | .hapticTriggerMap src d => ringWf 0x83 src d
  | .hapticStatus src d => ringWf 0x84 src d
  | .audioPortConfig src d => ringWf 0x90 src d
  | .audioStreamConfig src d => ringWf 0x91 src d
  | .audioStreamStart src d => ringWf 0x92 src d
  | .audioStreamStop src d => ringWf 0x93 src d
  | .audioRoute src d => ringWf 0x94 src d
  | .audioGain src d => ringWf 0x95 src d
  | .audioFilter src d => ringWf 0x96 src d
  | .audioTone src d => ringWf 0x97 src d
  | .audioJackStatus src d => ringWf 0x98 src d
  | .dmaChannelConfig src d => ringWf 0xA0 src d
  | .dmaCopy src d => ringWf 0xA1 src d
  | .dmaFill src d => ringWf 0xA2 src d
  | .dmaCompare src d => ringWf 0xA3 src d
  | .dmaCopy2d src d => ringWf 0xA4 src d
  | .dmaResume src d => ringWf 0xA5 src d
  | .dmaAbort src d => ringWf 0xA6 src d
  | .eventRingConfig src d => ringWf 0xB0 src d
  | .eventTarget src d => ringWf 0xB1 src d
  | .eventMask src d => ringWf 0xB2 src d
  | .eventPendSet src d => ringWf 0xB3 src d
  | .eventGlobalDisable src d => ringWf 0xB4 src d
  | .eventStatus src d => ringWf 0xB5 src d
  | .powerState src d => ringWf 0xC0 src d
  | .powerRetain src d => ringWf 0xC1 src d
  | .powerGate src d => ringWf 0xC2 src d
  | .powerWakeConfig src d => ringWf 0xC3 src d
  | .memSpare src d => ringWf 0xD0 src d
  | .memStatus src d => ringWf 0xD1 src d
  | .memPowerdown src d => ringWf 0xD2 src d
  | .memLatency src d => ringWf 0xD3 src d
  | .memRetire src d => ringWf 0xD4 src d
  | .stockroomStager src d => ringWf 0xD8 src d
  | .stockroomQuery src d => ringWf 0xD9 src d
  | .secureMeasurements src d => ringWf 0xE0 src d
  | .secureAppletLoad src d => ringWf 0xE1 src d
  | .secureAppletStart src d => ringWf 0xE2 src d
  | .secureAppletStop src d => ringWf 0xE3 src d
  | .secureLayer src d => ringWf 0xE4 src d
  | .migrationKeyOffer src d => ringWf 0xE5 src d
  | .migrationKeyAccept src d => ringWf 0xE6 src d
  | .migrationKeyDestroy src d => ringWf 0xE7 src d
  | .diagLedgerRead src d => ringWf 0xF0 src d
  | .diagFaultLogRead src d => ringWf 0xF1 src d
  | .diagLedgerClear src d => ringWf 0xF2 src d
  | .diagFaultInject src d => ringWf 0xF3 src d
  | .crTail fn ring v => page fn ring v
  | .ccHead fn ring v => page fn ring v
  | .evHead fn ring v => decide (fn ≤ 16) && decide (ring < 256) && decide (v < 2 ^ 32)
  | .crCfgEnable fn ring v => page fn ring v
  | .crCfgDisable fn ring v => page fn ring v
  | .ccCfgEnable fn ring v => page fn ring v
  | .ccCfgDisable fn ring v => page fn ring v
  | .tlcTickLo fn => decide (fn ≤ 16)
  | .bootCtrlGo v => decide (v < 2 ^ 32)
  | .secureWmWrite v => decide (v < 2 ^ 32)
  | .dramWmWrite v => decide (v < 2 ^ 32)
  | .lockSet block => blockWf block
  | .lgStatusClear _ => true
  | .registerWrite block ofs v width => blockWf block && widthWf ofs v width
  | .svRead seq addr len _ => decide (seq < 256) && decide (addr < 2 ^ 32) && decide (len < 65536)
  | .svWrite seq addr data _ => decide (seq < 256) && decide (addr < 2 ^ 32) && decide (data.length < 65536)
  | .mboxSend seq msg _ => decide (seq < 256) && decide (msg.length < 65536)
  | .mboxRecv seq len _ => decide (seq < 256) && decide (len < 65536)
  | .ttSprite msg => decide (msg.length < 65536)
  | .ttPalette msg => decide (msg.length < 65536)
  | .ttImage msg => decide (msg.length < 65536)
  | .regRead msg => decide (msg.length < 65536)
  | .debugUnlock msg _ => decide (msg.length < 65536)
  | .i2cAddressMatch addr _ => decide (addr < 128)
  | .wakeRead _ => true
  | .resetRelease bootSel => decide (bootSel < 4)
  | .referenceEdge _ _ => true
  | .epochStart _ => true
  | .turnStart t => t.waiting.all fun e => decide (e.1 < 11) && decide (e.2 ≤ 16)
  | .descriptorArrival src _ => srcWf src
  | .descriptorFetchTimeout src => srcWf src
  | .firstCompletion src => srcWf src
  | .hostDataArrival src _ => srcWf src
  | .moderationTimeout fn vector => decide (fn ≤ 16) && decide (vector < 260)
  | .eventClaim ring => decide (ring < 256)
  | .functionLevelReset vf => decide (1 ≤ vf) && decide (vf ≤ 16)
  | .d3hotEntry fn => decide (fn ≤ 16)
  | .d0Return fn => decide (fn ≤ 16)
  | .busMasterEnableClear fn => decide (fn ≤ 16)
  | .vectorUnmask fn vector => decide (fn ≤ 16) && vector.all fun v => decide (v < 260)
  | .pcieLinkDown fails => fails.all fun e => srcWf e.1
  | .workOrderExecute src => srcWf src
  | .workOrderLate src => srcWf src
  | .lineStart head => decide (head < 12)
  | .stagerSwitch head => decide (head < 12)
  | .stagerRequest head line => decide (head < 12) && decide (line < 65536)
  | .stagingArrival head line => decide (head < 12) && decide (line < 65536)
  | .underrun head => decide (head < 12)
  | .teEdge head _ => decide (head < 12)
  | .teMissed head => decide (head < 12)
  | .pushEnd head => decide (head < 12)
  | .linkLost head => decide (head < 12)
  | .hpdRise head => decide (head < 12)
  | .hpdIrq head => decide (head < 12)
  | .retrainAttempt head => decide (head < 12)
  | .linkTrainingDone head _ => decide (head < 12)
  | .limitInstant target => decide (target ≤ 16)
  | .jobStart grove => decide (grove < 4)
  | .jobComplete grove _ _ _ => decide (grove < 4)
  | .timeLimit grove => decide (grove < 4)
  | .tileListPoolOverflow grove _ => decide (grove < 4)
  | .shaderAccessFault grove => decide (grove < 4)
  | .grTileUe grove => decide (grove < 4)
  | .groveResetDone grove => decide (grove < 4)
  | .grReset grove => decide (grove < 4)
  | .scanStart port => decide (port < 8)
  | .stepEnd port _ _ _ => decide (port < 8)
  | .scanProductsDone port => decide (port < 8)
  | .reportWrite port => decide (port < 8)
  | .keyTrigger port => decide (port < 8)
  | .touchStale port _ => decide (port < 8)
  | .txOvercurrent port tx => decide (port < 8) && decide (tx < 128)
  | .watchScan _ => true
  | .hapTrigEdge chan _ => decide (chan < 16)
  | .triggerAccept chan => decide (chan < 16)
  | .hapTrigWake chan => decide (chan < 16)
  | .zeroCrossing chan _ _ _ => decide (chan < 16)
  | .segmentEnd chan => decide (chan < 16)
  | .brakeEnd chan => decide (chan < 16)
  | .actuatorFault chan _ => decide (chan < 16)
  | .vhapLow _ => true
  | .vhapRecover _ => true
  | .sampleStart unit _ => decide (unit < 0x22) || (decide (0x100 ≤ unit) && decide (unit < 0x140)) || (decide (0x200 ≤ unit) && decide (unit < 0x240))
  | .frameSyncEdge port _ => decide (port < 6)
  | .syncLost port => decide (port < 6)
  | .audioPeriod stream => decide (stream < 64)
  | .audioCompare sink => decide (sink < 0x22)
  | .jackInsertion jack _ => decide (jack < 2)
  | .jackDebounce jack => decide (jack < 2)
  | .jackClassified jack _ _ => decide (jack < 2)
  | .jackRemoval jack => decide (jack < 2)
  | .audioButton jack _ => decide (jack < 2)
  | .audioDriver object => decide (object < 0x22)
  | .dmaTransferDone src => srcWf src
  | .completionTimeout src _ _ => srcWf src
  | .urCa src _ _ => srcWf src
  | .noMaster src _ _ _ => srcWf src
  | .poisonedCompletion src _ _ => srcWf src
  | .stockroomRequest r => decide (r.port < 32) && decide (r.owner < 32)
  | .shelfZeroised shelf => decide (shelf < 768)
  | .dramRequest rs => rs.all fun r => decide (r.port < 32) && decide (r.owner < 32)
  | .plotZeroised plot => decide (plot < 2 ^ 16)
  | .mr4Poll readings => decide (readings.length ≤ 16)
  | .refresh rank => decide (rank < 16)
  | .powerDownEntry rank => decide (rank < 16)
  | .trainingDone _ present good => decide (present < 65536) && decide (good < 65536)
  | .serviceResume _ _ => true
  | .appletEnd slot _ _ => decide (slot < 8)
  | .limitMs slot => decide (slot < 8)
  | .parityError _ _ => true
  | .resumption _ _ => true
  | .bootImageLoad slot _ _ => decide (slot < 2)
  | .busMasterEnableSet fn => decide (fn ≤ 16)
  | .wardenReply r => r.src.all srcWf
  | .selftestDone port _ _ _ _ => decide (port < 8)
  | .auxDcsReply head _ => decide (head < 12)
  | .jobRunTimeFault grove _ => decide (grove < 4)
  | .onSegmentRise chan => decide (chan < 16)
  | .timedFinalCompletion src => srcWf src
  | .tlTickLo => true
  | .forceHalt => true
  | .frameCutShort => true
  | .heartbeat => true
  | .aonSupplyRise => true
  | .aonSupplyFall => true
  | .pgoodFall => true
  | .referenceEdgeMissing => true
  | .steerTimeout => true
  | .pf0FunctionLevelReset => true
  | .firstPauseEnd => true
  | .copyEnd => true
  | .migrateDone => true
  | .d2dLinkLoss => true
  | .d2dLinkRetrained => true
  | .hbTimeout => true
  | .wardenSelfRestart => true
  | .cpLockstep => true
  | .clockFail => true
  | .tempHigh => true
  | .tempCrit => true
  | .supplyFault => true
  | .pcieFatal => true
  | .reactionStart => true
  | .reactionComplete => true
  | .entryInstant => true
  | .l2L3Ready => true
  | .l2WaitTimeout => true
  | .stageReady => true
  | .stageTimeout => true
  | .resetAssertion => true
  | .vfEnableSet => true
  | .cpSramUe => true
  | .pwrReqReassert => true
  | .rcFallback => true
  | .syncOutPulse => true

end Sys2Proof
end

