-- ==== Sys2Proof/Tests/Slice0.lean ====
section
/-! SUPPORT. Tests of the model's own: commands that are no commands, single steps, and for every statement with hypotheses a
concrete state and operands that meet all of them together, clause by clause. -/

open Sys2Proof

namespace Sys2Proof.Machine.Tests

set_option Elab.async false

/-! ### Small states -/

/-- A descriptor: its opcode, and bytes by offset. -/
def descriptor (op : Nat) (l : List (Nat × Nat)) : Descriptor :=
  BitVec.ofNat 512 (l.foldl (fun n e => n + e.2 * 256 ^ e.1) op)

/-- The device in RUN at tick 1,000,000, with ring 0 of T0 and its completion ring of 16 entries enabled. -/
def running : State :=
  { State.reset with
    tl := { tick := 1000000, offset := 1000000 }, pw := { state := .run, stage := 5, boot := .trained },
    fns := [(0, { busMaster := true })], nextId := 9,
    crs := [(0, { base := 0x10000, enable := true, sizeLog2 := 4, ccBase := 0x20000, ccEnable := true, ccSizeLog2 := 4 })] }

/-- A command of T0's ring 0, slot 0, admitted at tick 900,000. -/
def flight (op : Nat) (l : List (Nat × Nat)) (p : Phase) : Flight :=
  { id := 4, src := ⟨0, 0, 0⟩, op := op, desc := descriptor op l, admitted := 900000, verdict := {}, phase := p, slots := 1 }

/-- One whose first completion is due. -/
def dueNow (op : Nat) : Flight := flight op [] .first

/-- The device with one command in flight. -/
def withFlight (f : Flight) : State := { running with flights := [f] }

/-- A TOUCH_PORT_CONFIG whose pin roles have arrived: one TX and one RX pin. -/
def portConfigDue : Flight := { dueNow 0x70 with data := some (leBytes 1 1 ++ leBytes 1 2 ++ zeros 254) }

/-- A read of the Stockroom by T0 at port 0. -/
def readAt (addr len : Nat) : PortRequest :=
  { port := 0, owner := 0, addr := addr, write := none, poison := false, len := len, found := .sound }

/-- Whether an answer is a next state of which p holds. -/
def answers (o : Host.Outcome State Fault Refusal) (p : State → Bool) : Bool := match o with | .next t => p t | _ => false

/-- A command in flight while the clock is stopped, with a command waiting. -/
def stopped : State := { withFlight (dueNow 0) with pw := { state := .watch }, host := [(5, 1)], pending := [.rcFallback] }

/-! ### The statements' hypotheses are met -/

theorem witness_IdleStepCountsOneTick :
    (running.pending = [] ∧ clockRuns running = true) ∧
    (State.reset.pending = [] ∧ clockRuns State.reset = false) := by decide +kernel

theorem witness_InvariantKept :
    Inv stopped ∧ ∃ t, step stopped = .next t := ⟨by unfold Inv FlightsOk MemoryOk TimelineOk; decide +kernel, _, rfl⟩

theorem witness_CommandFrame :
    ∃ t, exec .rcFallback running = .next t := ⟨_, rfl⟩

theorem witness_HaltLatchKept :
    ∃ t, (running.modLg fun l => { l with haltSrc := some 9 }).lg.haltSrc = some 9 ∧
      step { running with pending := [.rcFallback], lg := { haltSrc := some 9 } } = .next t ∧
      ([Instr.rcFallback]).head? ≠ some .aonSupplyFall := ⟨_, rfl, rfl, by decide⟩

theorem witness_TickCount :
    (running.pw.aonDown = false ∧ running.pending = [] ∧ clockRuns running = true) ∧
    ((∀ v, Instr.rcFallback ≠ .resetRelease v) ∧ Instr.rcFallback ≠ .resetAssertion ∧
      ∃ t, exec .rcFallback running = .next t) := ⟨(by decide +kernel), ⟨nofun, nofun, _, rfl⟩⟩

theorem witness_EveryStepAnswers :
    (∃ r rest, ({ running with pending := [.stockroomRequest (readAt 0xC000000 1)] } : State).pending = Instr.stockroomRequest r :: rest ∧ 0xC000000 < r.addr + (match r.write with | some bs => bs.length | none => r.len)) ∧
    (¬ ∃ r rest, ({ running with pending := [.stockroomRequest (readAt 0xBFFFFFF 1)] } : State).pending = Instr.stockroomRequest r :: rest ∧ 0xC000000 < r.addr + (match r.write with | some bs => bs.length | none => r.len)) := ⟨⟨_, _, rfl, by decide⟩, (by rintro ⟨r, rest, h, hlt⟩; cases h; revert hlt; decide)⟩

theorem witness_ControlCommands :
    (HasSlot running ⟨0, 0, 0⟩) ∧
    (∀ op ∈ [0x00, 0x01, 0x02, 0x03, 0x04, 0x05, 0x06, 0x10, 0x11, 0x12, 0x13, 0x14, 0x15, 0x16, 0x17, 0x18, 0x19, 0x1A, 0x1B], (dueNow op).op = op ∧ FirstDue (withFlight (dueNow op)) (dueNow op)) ∧
    (∀ op ∈ [0xE0, 0xE1, 0xE2, 0xE3, 0xE4, 0xE5, 0xE6, 0xE7, 0xF0, 0xF1, 0xF2, 0xF3], (dueNow op).op = op ∧ FirstDue (withFlight (dueNow op)) (dueNow op)) := ⟨(by unfold HasSlot; decide +kernel), (by unfold FirstDue; decide +kernel), (by unfold FirstDue; decide +kernel)⟩

theorem witness_DisplayCommands :
    (HasSlot running ⟨16, 3, 15⟩) ∧
    (∀ op ∈ [0x30, 0x31, 0x32, 0x33, 0x34, 0x35, 0x36, 0x40, 0x41, 0x42, 0x43, 0x44, 0x45, 0x46, 0x47, 0x48, 0x50, 0x51, 0x52, 0x53, 0x54, 0x55], (dueNow op).op = op ∧ FirstDue (withFlight (dueNow op)) (dueNow op)) := ⟨(by unfold HasSlot; decide +kernel), (by unfold FirstDue; decide +kernel)⟩

theorem witness_EngineCommands :
    (HasSlot running ⟨1, 0, 0⟩) ∧
    (∀ op ∈ [0x60, 0x61, 0x62, 0x63, 0x64, 0x65, 0x71, 0x72, 0x73, 0x74, 0x78, 0x79, 0x7A, 0x80, 0x81, 0x82, 0x83, 0x84], (dueNow op).op = op ∧ FirstDue (withFlight (dueNow op)) (dueNow op)) ∧
    (∀ op ∈ [0x90, 0x91, 0x92, 0x93, 0x94, 0x95, 0x96, 0x97, 0x98, 0xA0, 0xA1, 0xA2, 0xA3, 0xA4, 0xA5, 0xA6], (dueNow op).op = op ∧ FirstDue (withFlight (dueNow op)) (dueNow op)) ∧
    (portConfigDue.op = 0x70 ∧ FirstDue (withFlight portConfigDue) portConfigDue) := ⟨(by unfold HasSlot; decide +kernel), (by unfold FirstDue; decide +kernel), (by unfold FirstDue; decide +kernel), (by unfold FirstDue; decide +kernel)⟩

theorem witness_SystemCommands :
    (HasSlot running ⟨0, 3, 65535⟩) ∧
    (∀ op ∈ [0xB0, 0xB1, 0xB2, 0xB3, 0xB4, 0xB5, 0xC0, 0xC1, 0xC2, 0xC3, 0xD0, 0xD1, 0xD2, 0xD3, 0xD4, 0xD8, 0xD9], (dueNow op).op = op ∧ FirstDue (withFlight (dueNow op)) (dueNow op)) := ⟨(by unfold HasSlot; decide +kernel), (by unfold FirstDue; decide +kernel)⟩

theorem witness_AdmissionInstant :
    (holdsRing running 0 0 = true ∧ running.pw.state ≠ .watch ∧ (crOf running 0 0).enable = true ∧
      (crOf running 0 0).disablePending = false ∧ (crOf running 0 0).ccEnable = true ∧
      1 < 2 ^ (crOf running 0 0).sizeLog2 ∧ (crOf running 0 0).tail < 2 ^ (crOf running 0 0).sizeLog2 ∧
      1 = (nextIndex (crOf running 0 0).tail (crOf running 0 0).sizeLog2).1 ∧ (crOf running 0 0).sizeLog2 ≥ 4 ∧
      (crOf running 0 0).handed = 0 ∧
      (crOf running 0 0).ccUsed + (crOf running 0 0).ccReserved + 2 ≤ 2 ^ (crOf running 0 0).ccSizeLog2 ∧
      heldRoom (setCr running 0 0 { crOf running 0 0 with tail := 1, handed := 1 }) 64 = true ∧
      ∀ x ∈ running.visible, x.src.fn = 0 → x.doorbell ≠ now running) ∧
    (0 = (nextIndex 15 4).1) := by decide +kernel

/-- A command of T0 that a quiesce has stopped, admitted at a tick. -/
def stoppedAt (a : Nat) : Stopped := { flight := { flight 0 [] .first with admitted := a }, ends := aborted 0, byId := 9 }


/-- T0 with that command stopped. -/
def withStopped (a : Nat) : State := { running with tens := [(0, { bootT0 with stopped := [stoppedAt a] })] }


theorem witness_FirstCompletionInstant :
    (stoppedOf (withStopped 992001) 0 = [stoppedAt 992001] ∧ now (withStopped 992001) < 992001 + 8000) ∧
    (stoppedAt 992000 ∈ (tenOf (withStopped 992000) 0).stopped ∧ (stoppedAt 992000).flight.phase = .first ∧
      (stoppedAt 992000).flight.admitted + 8000 ≤ now (withStopped 992000)) ∧
    (let s := withFlight { flight 0 [] .first with admitted := 992001 }; (∀ f ∈ s.flights, f.src = ⟨0, 0, 0⟩ → f.phase = .first → now s < f.admitted + 8000) ∧ ∀ v ∈ s.visible, v.src = ⟨0, 0, 0⟩ → now s < v.admitted + 8000) ∧
    (let f := { flight 0 [] .first with admitted := 992000 }; f ∈ (withFlight f).flights ∧ f.phase = .first ∧
      f.admitted + 8000 ≤ now (withFlight f)) ∧
    (let f := { flight 0 [] .first with admitted := 992000 }; (withFlight f).pending = [] ∧
      clockRuns (withFlight f) = true ∧ answers (step (withFlight f)) fun t => decide (f ∈ t.flights ∧
      f.phase = .first ∧ f.admitted + 8000 ≤ now t)) := by decide +kernel

theorem witness_RefusedCommandDoesNothing :
    let f := { dueNow 0x30 with verdict := badState 0x10 }; (flightAt (withFlight f) f.src fun g => decide (g.phase = .first) && decide (now (withFlight f) ≥ g.admitted + 8000)) = some f ∧ (∀ v ∈ (withFlight f).visible, v.src ≠ f.src) ∧ accepted f = false := by decide +kernel

theorem witness_FenceHoldsWork :
    let f := flight 0 [(4, 1)] .first; let s := { withFlight f with flights := [{ flight 0x04 [] .epoch with id := 3, src := ⟨0, 0, 1⟩ }, f] }; (flightAt s f.src fun g => decide (g.phase = .first) && decide (now s ≥ g.admitted + 8000)) = some f ∧ (∀ v ∈ s.visible, v.src ≠ f.src) ∧ accepted f = true ∧ firstFault (beforeFirst s f).1 (beforeFirst s f).2 = none ∧
      fenced (beforeFirst s f).1 (beforeFirst s f).2 = true ∧ (beforeFirst s f).2 ∈ (beforeFirst s f).1.flights := by decide +kernel

theorem witness_NopCompletesWithDone :
    (FirstDue (withFlight (dueNow 0)) (dueNow 0)) ∧
    (let s := withFlight (dueNow 0); (∀ g ∈ s.flights, g.id = (dueNow 0).id → g = dueNow 0) ∧ (dueNow 0).verdict.status = 0 ∧ canWrite s 0 = true ∧ (fnOf s 0).held = [] ∧
      (crOf s 0 0).ccEnable = true) ∧
    (dget (descriptor 0 [(16, 1)]) 16 1 ≠ 0 ∧ dget (descriptor 0 [(63, 1)]) 63 1 ≠ 0 ∧ ∀ k < 63, 16 ≤ k → dget (descriptor 0 [(63, 1)]) k 1 = 0) := ⟨(by unfold FirstDue; decide +kernel), (by decide +kernel), (by decide +kernel)⟩

theorem witness_ChecksInOrder :
    (HasSlot running ⟨1, 0, 0⟩ ∧ HasSlot running ⟨0, 0, 0⟩) ∧
    ((ringInstr ⟨1, 0, 0⟩ (descriptor 0x04 [])).isSome = true ∧ (opRow 0x04).map (fun r => r.t0) = some true ∧
      opcodeOf (descriptor 0x04 []) = 0x04) ∧
    (haltExempt 0x04 = false ∧
      (viewOfNext (withFetched 0x04 ⟨0, 0, 0⟩ (descriptor 0x04 []) { running with lg := { haltSrc := some 9 } }) 0).lg.haltSrc = some 9) ∧
    ((viewOfNext (withFetched 0x04 ⟨1, 0, 0⟩ (descriptor 0x04 []) running) 1).lg.haltSrc = none ∧
      noImage (viewOfNext (withFetched 0x04 ⟨1, 0, 0⟩ (descriptor 0x04 []) running) 1) = false) ∧
    ((opRow 0x04).map (fun r => r.classes.contains (classOf (descriptor 0x04 [(1, 3)]))) = some false ∧ classOf (descriptor 0x04 [(1, 3)]) = 3) := ⟨(by unfold HasSlot; decide +kernel), (by decide +kernel), (by decide +kernel), (by decide +kernel), (by decide +kernel)⟩

theorem witness_DoorbellsHandDescriptors :
    (holdsRing running 0 0 = true ∧ running.pw.state ≠ .watch ∧ (15 : Nat) < 2 ^ 16 ∧
      (crOf running 0 0).enable = true ∧ (crOf running 0 0).disablePending = false ∧
      15 < 2 ^ (crOf running 0 0).sizeLog2) ∧
    ((crOf running 0 0).disablePending = false ∧ 2 ^ (crOf running 0 0).sizeLog2 ≤ 16) ∧
    (let s := modCr running 0 0 fun c => { c with disablePending := true }; holdsRing s 0 0 = true ∧
      s.pw.state ≠ .watch ∧ (crOf s 0 0).disablePending = true) ∧
    ((crOf running 0 0).ccEnable = true ∧ 15 < 2 ^ (crOf running 0 0).ccSizeLog2) ∧
    (2 ^ (crOf running 0 0).ccSizeLog2 ≤ 16 ∧ (16 : Nat) < 2 ^ 16) ∧
    (holdsRing running 16 0 = false ∧ running.pw.state ≠ .watch) ∧
    ((running.modPw fun p => { p with state := .watch }).pw.state = .watch) := by decide +kernel

theorem witness_RingEnables :
    (let s := modCr running 0 0 fun c => { c with enable := false }; holdsRing s 0 0 = true ∧
      (crOf s 0 0).enable = false ∧ bits 3 0 5 < 4 ∧ 16 < bits 17 0 5) ∧
    (let s := modCr running 0 0 fun c => { c with enable := false, base := 2 ^ 64 - 1024 }; (crOf s 0 0).enable = false ∧ 4 ≤ bits 4 0 5 ∧ bits 16 0 5 ≤ 16 ∧ inApertures s 0 (crOf s 0 0).base (64 * 2 ^ 4) = true ∧ inApertures s 0 (crOf s 0 0).base (64 * 2 ^ 5) = false ∧ (crOf s 0 0).ccEnable = true) ∧
    (let s := modCr running 0 0 fun c => { c with disablePending := true }; (crOf s 0 0).enable = true ∧
      (crOf s 0 0).disablePending = true) ∧
    (let s := modCr running 0 0 fun c => { c with ccEnable := false }; holdsRing s 0 0 = true ∧
      (crOf s 0 0).ccEnable = false ∧ bits 0x1F 0 5 = 31 ∧
      inApertures s 0 (crOf s 0 0).ccBase (32 * 2 ^ 16) = true) ∧
    (holdsRing running 0 0 = true ∧ (crOf running 0 0).enable = true ∧ (crOf running 0 0).disablePending = false ∧
      (crOf running 0 0).ccEnable = true ∧ holdsRing running 16 3 = false) := by decide +kernel

/-- The Ledger's event 0 pending for T0's ring 0, which is enabled. -/
def eventWaits : State := { running with ev := { src := [(srcLedger, { cause := 1 })] } }


/-- The same event delivered and not yet acknowledged. -/
def eventTaken : State :=
  { running with ev := { src := [(srcLedger, { cause := 1, inService := true })] },
                 evr := [(0, { enable := true, owner := 0, sizeLog2 := 2, tail := 1, records := [(srcLedger, 1, false)] })] }


theorem witness_EventsClaimedAndAcknowledged :
    (claimable eventWaits 0 = some srcLedger ∧ claimable running 0 = none ∧ holdsEvRing running 16 0 = none) ∧
    (holdsEvRing eventTaken 0 0 = some 0 ∧ (evRing eventTaken 0).enable = true ∧
      3 < 2 ^ (evRing eventTaken 0).sizeLog2 ∧ 2 ^ (evRing eventTaken 0).sizeLog2 ≤ 4) ∧
    ((evRing eventTaken 0).records = (srcLedger, 1, false) :: [] ∧ srcLedger < 1024 ∧
      (1 + 2 ^ (evRing eventTaken 0).sizeLog2 - (evRing eventTaken 0).head) % 2 ^ (evRing eventTaken 0).sizeLog2 = 1) := by decide +kernel

theorem witness_LatchingReads :
    (serving running = true ∧ (tenOf running 0).state ≠ .absent) ∧
    (let s := { running with tens := [(16, { state := .quiesced })] }; (16 : Nat) ≤ 16 ∧ serving s = true ∧
      (tenOf s 16).state ≠ .absent) ∧
    ((16 : Nat) < 17 ∧ serving State.reset = false ∧ (tenOf running 16).state = .absent) := by decide +kernel

/-- A descriptor made visible at tick 990,000 and not yet fetched. -/
def fetching (a : Nat) : State := { running with visible := [{ src := ⟨0, 0, 0⟩, doorbell := a, admitted := a }] }


theorem witness_DescriptorFetch :
    (let v : Visible := { src := ⟨0, 0, 0⟩, doorbell := 996001, admitted := 996001 }; v ∈ (fetching 996001).visible ∧
      v.desc = none ∧ v.failed = 0 ∧ (∀ w ∈ (fetching 996001).visible, w.src = v.src → w = v) ∧
      now (fetching 996001) < v.admitted + 4000) ∧
    (let v : Visible := { src := ⟨0, 0, 0⟩, doorbell := 996000, admitted := 996000 }; v ∈ (fetching 996000).visible ∧
      v.desc = none ∧ v.failed = 0 ∧ (∀ w ∈ (fetching 996000).visible, w.src = v.src → w = v) ∧
      now (fetching 996000) ≤ v.admitted + 4000 ∧ v.admitted + 4000 ≤ now (fetching 996000)) ∧
    (let v : Visible := { src := ⟨0, 0, 0⟩, doorbell := 995999, admitted := 995999 }; v ∈ (fetching 995999).visible ∧
      v.desc = none ∧ v.failed = 0 ∧ (∀ w ∈ (fetching 995999).visible, w.src = v.src → w = v) ∧
      v.admitted + 4000 < now (fetching 995999)) := by decide +kernel

theorem witness_DataAndTimedCompletions :
    (let f := flight 0x10 [] .first; (flightAt (withFlight f) f.src fun g => (hostData g.op g.desc).isSome && g.data.isNone && decide (g.dataErr = 0)) = some f ∧ f.phase = .first) ∧
    (let f := flight 0x10 [] .data; (flightAt (withFlight f) f.src fun g => (hostData g.op g.desc).isSome && g.data.isNone && decide (g.dataErr = 0)) = some f ∧ f.phase = .data ∧ f.op ≠ 0xE1 ∧ f.op ≠ 0xE6) ∧
    (let f := flight 0xE3 [] (.timed 1000000); (flightAt (withFlight f) f.src fun g => (g.op == 0xE0 || g.op == 0xE3) && instantCome (withFlight f) g) = some f ∧ f.op = 0xE3 ∧ f.phase = .timed 1000000) ∧
    (let f := flight 0xE3 [] (.timed 1000001); ∀ g ∈ (withFlight f).flights, g.src = f.src → g.op = 0xE0 ∨ g.op = 0xE3 → ∀ a, g.phase = .timed a → now (withFlight f) < a) := ⟨(by decide +kernel), (by decide +kernel), (by decide +kernel), (by intro f g hg _ _ a ha; cases List.mem_singleton.mp hg; cases ha; decide)⟩

theorem witness_MessagesAndMasks :
    (let s := modCr running 0 3 fun c => { c with sig := { armed := true, unsignalled := 2, window := some 1000000 } }; (3 : Nat) < 4 ∧ (crOf s 0 3).sig.window = some 1000000 ∧ 1000000 ≤ now s) ∧
    (∀ t0, (crOf running 0 0).sig.window = some t0 → now running < t0) ∧
    (let s := modFn running 16 fun x => { x with pba := [259], cfg := { x.cfg with msixEnable := true } }; (16 : Nat) ≤ 16 ∧ (259 : Nat) < 260 ∧ (fnOf s 16).fnMask = false ∧
      (fnOf s 16).cfg.msixEnable = true ∧ 259 ∈ (fnOf s 16).pba) := ⟨(by decide +kernel), (by intro t0 h; have e : (crOf running 0 0).sig.window = none := (by decide +kernel); rw [e] at h; cases h), (by decide +kernel)⟩

theorem witness_FunctionsSleepAndWake :
    ((16 : Nat) ≤ 16 ∧ (fnOf running 16).dstate ≠ .d3hot) ∧
    (canWrite (modFn running 0 fun x => { x with busMaster := true }) 0 = true) ∧
    ((16 : Nat) ≤ 16 ∧ (fnOf (modFn running 16 fun x => { x with dstate := .d3hot }) 16).dstate = .d3hot) := by decide +kernel

theorem witness_FunctionLevelResets :
    (let s := { running with tens := [(1, { state := .live }), (16, { state := .quiescing })] }; (1 : Nat) ≤ 1 ∧
      (tenOf s 1).state ≠ .absent ∧ (tenOf s 1).state ≠ .frozen ∧ (tenOf s 16).state ≠ .absent ∧
      (tenOf s 16).state ≠ .frozen) ∧
    ((0 : Nat) = 0 ∧ 16 < 17 ∧ (tenOf running 1).state = .absent) := by decide +kernel

/-- A copy of 64 bytes from host memory to the Stockroom under way on T0's channel 0. -/
def copying : Flight := { flight 0xA1 [(17, 2), (18, 0xFF), (28, 0x40), (44, 64)] .unit with aux := [0, 0] }


theorem witness_DmaAccessFails :
    (xferAt (withFlight copying) copying.src = some copying ∧ moving (withFlight copying) copying = true) ∧
    (xferAt running ⟨0, 0, 0⟩ = none) ∧
    (xferAt (withFlight copying) copying.src = some copying ∧ copying.phase = .unit) := by decide +kernel

theorem witness_Watermarks :
    (running.sr.lock = false ∧ (16 : Nat) ≤ 16 ∧ (256 : Nat) ≤ 256 ∧ running.dram.lock = false ∧ (1024 : Nat) ≤ 1024) ∧
    ((running.modSr fun r => { r with lock := true }).sr.lock = true ∧ 15 < 16 ∧ 256 < 257 ∧ (257 : Nat) < 2 ^ 10) ∧
    ((running.modDram fun d => { d with lock := true }).dram.lock = true ∧ 1024 < 1025) ∧
    (15 < running.sr.wm ∧ running.sr.wm = 16 ∧ (16 : Nat) < 768 ∧ (719 : Nat) < 768 ∧
      (720 : Nat) < 768) := by decide +kernel

theorem witness_RegisterWrites :
    ((4 : Nat) < 5 ∧ (6 : Nat) < 7 ∧ (3 : Nat) < 4 ∧ (39 : Nat) < 40 ∧ (7 : Nat) < 8 ∧ (63 : Nat) < 64 ∧ (15 : Nat) < 16 ∧
      (1 : Nat) < 2 ∧ (31 : Nat) < 32 ∧ running.lg.lock = false ∧ clockRuns stopped = false ∧
      (running.modLg fun l => { l with lock := true }).lg.lock = true ∧ clockRuns running = true) ∧
    (let s := running.modPw fun p => { p with state := .booting, boot := .pcie }; bootOpen s = true ∧
      Nat.testBit 0x80000000 31 = true ∧ s.pw.bootStatus ≠ 1) ∧
    (bootOpen running = false ∧ Nat.testBit 0x7FFFFFFF 31 = false ∧
      (running.modPw fun p => { p with bootStatus := 1 }).pw.bootStatus = 1) := by decide +kernel

theorem witness_SupervisorFrames :
    (clockRuns running = true ∧ running.wd.fuses.svEnable = true ∧ svRange 0 4 = true ∧ svRange 0x1FC 4 = true ∧
      svRange 0x200 4 = false ∧ svRange 0 3 = false ∧ (zeros 4).length = 4) ∧
    (svRange 0xC 4 = true ∧ 0xC + (zeros 4).length ≤ 0x10 ∧ (leNat (zeros 4)).testBit 30 = false ∧
      (leNat (leBytes 4 (2 ^ 30))).testBit 30 = true ∧ (leBytes 4 (2 ^ 30)).length = 4) ∧
    ((running.modWd fun w => { w with fuses := { w.fuses with svEnable := false } }).wd.fuses.svEnable = false ∧
      clockRuns stopped = false ∧ ([1, 2] : List Byte).length < 3) ∧
    ((running.modWd fun w => { w with inbox := some [] }).wd.inbox = some [] ∧ running.wd.inbox = none ∧
      running.wd.reply = none) ∧
    ((running.modWd fun w => { w with reply := some [1, 2] }).wd.reply = some [1, 2] ∧
      (2 : Nat) ≤ ([1, 2] : List Byte).length) := by decide +kernel

theorem witness_SupervisorMessages :
    (running.wd.restarting = none ∧ clockRuns running = true ∧ running.wd.fuses.debugLock = false ∧
      running.wd.dead = false) ∧
    ((11 : Nat) < 12 ∧ (1 : Nat) ≤ 15 ∧ (15 : Nat) < 16) ∧
    (let m := zeros 4 ++ leBytes 1 11 ++ leBytes 1 63 ++ zeros 16; (m.drop 4).length = 18 ∧
      fieldOf (m.drop 4) 0 1 < 12 ∧ fieldOf (m.drop 4) 1 1 < 64) ∧
    (((zeros 21).drop 4).length ≠ 18 ∧ (zeros 248).length ≤ 248 ∧ 2 ^ 22 - 248 + (zeros 248).length ≤ 2 ^ 22) ∧
    ((12 : Nat) ≤ 12 ∧ 2 ^ 32 - 4 < 2 ^ 32 ∧ (2 ^ 32 - 4) % 4 = 0) ∧
    (((zeros 3).drop 4).length ≠ 3 + 4 * fieldOf ((zeros 3).drop 4) 2 1 ∧ 12 ≤ fieldOf ((zeros 4 ++ leBytes 1 12).drop 4) 0 1 ∧
      fieldOf ((zeros 22).drop 4) 1 1 = 0 ∧ 64 ≤ fieldOf ((zeros 5 ++ leBytes 1 64).drop 4) 1 1 ∧
      16 < fieldOf ((zeros 5 ++ leBytes 1 15 ++ leBytes 1 2).drop 4) 1 1 + fieldOf ((zeros 5 ++ leBytes 1 15 ++ leBytes 1 2).drop 4) 2 1) ∧
    (248 < (zeros 249).length ∧ 2 ^ 22 < 2 ^ 22 + (zeros 1).length ∧ 2 ^ 22 < 2 ^ 32 ∧ ((zeros 7).drop 4).length < 4) ∧
    (((zeros 8).drop 4).length ≠ 5 ∧ 12 < fieldOf ((zeros 4 ++ leBytes 1 13).drop 4) 0 1 ∧
      fieldOf ((zeros 5 ++ leBytes 4 2).drop 4) 1 4 % 4 ≠ 0) ∧
    ((running.modWd fun w => { w with fuses := { w.fuses with debugLock := true } }).wd.fuses.debugLock = true ∧
      (running.modWd fun w => { w with restarting := some 5 }).wd.restarting.isSome = true ∧ clockRuns stopped = false) := by decide +kernel

theorem witness_LowPowerEntry :
    (let f := flight 0xC0 [(16, 1)] (.timed 1000000); (withFlight f).pw.wakeDue = false ∧
      ((withFlight f).flights.find? fun g => g.op == 0xC0 && instantCome (withFlight f) g) = some f ∧
      pwTarget (dget f.desc 16 1) = .watch) ∧
    (let f := flight 0xC0 [(16, 3)] (.timed 1000000); ((withFlight f).flights.find? fun g => g.op == 0xC0 && instantCome (withFlight f) g) = some f ∧ pwTarget (dget f.desc 16 1) = .off) ∧
    (let f := flight 0xC0 [(16, 1)] (.timed 1000001); ∀ g ∈ (withFlight f).flights, g.op = 0xC0 → instantCome (withFlight f) g = false) ∧
    (let s := running.modPw fun p => { p with entering := some .keep, l2By := some 1000000 }; s.pw.wakeDue = false ∧
      s.pw.entering = some .keep ∧ s.pw.l2By = some 1000000 ∧ 1000000 ≤ now s) ∧
    (running.pw.l2By = none ∧ running.pw.entering = none ∧ (running.modPw fun p => { p with l2By := some 1000001 }).pw.l2By = some 1000001 ∧
      now running < 1000001) := by decide +kernel

theorem witness_WakeSources :
    (let s := running.modPw fun p => { p with state := .keep }; s.pw.aonDown = false ∧ s.pw.entering = none ∧
      s.pw.state = .keep) ∧
    (let s := running.modPw fun p => { p with state := .off }; s.pw.aonDown = false ∧ s.pw.entering = none ∧
      s.pw.state = .off) ∧
    ((0x5B : Nat) ≠ running.pw.wakeAddr) ∧
    (let s := running.modPw fun p => { p with state := .watch, trigMask := 0x8000 }; s.pw.entering = none ∧
      s.pw.state = .watch ∧ s.pw.trigMask.testBit 15 = true ∧ s.pw.trigMask.testBit 14 = false) ∧
    (let s := { running with pw := { state := .watch, touchEn := true, watchPort := 7 }, touch := { ports := [(7, { configured := true })] } }; s.pw.entering = none ∧ s.pw.state = .watch ∧ s.pw.touchEn = true ∧ (portOf s s.pw.watchPort).configured = true) ∧
    (running.pw.state ≠ .watch ∧ running.pw.touchEn = false) := by decide +kernel

theorem witness_WakeSequence :
    (let s := running.modPw fun p => { p with state := .booting, stage := 4, boot := .stages, bootSel := 2 }; inStage s = true ∧ s.pw.notReady = false ∧ s.pw.retrying = false ∧ s.pw.stage = 4 ∧ s.pw.state = .booting) ∧
    (let s := running.modPw fun p => { p with state := .waking, stage := 1, retrying := true, notReady := true }; inStage s = true ∧ s.pw.retrying = true ∧ s.pw.notReady = true) ∧
    (inStage running = false ∧ inRun running = true ∧ running.pw.pwrLow = false) ∧
    (let s := running.modPw fun p => { p with state := .waking, stage := 1, pwrLow := true }; s.pw.state = .waking ∧
      s.pw.pwrLow = true) ∧
    (let s := running.modPw fun p => { p with state := .waking, stage := 2 }; inStage s = true ∧
      2 ≤ s.pw.stage) := by decide +kernel

theorem witness_ResetAndSupply :
    running.pw.aonDown = false ∧
      (running.modPw fun p => { p with aonDown := true }).pw.aonDown = true := by decide +kernel

/-- A boot block: its header, its body and 96 bytes of signature. -/
def bootBlock (kind : Nat) (body : List Byte) : List Byte :=
  leBytes 4 0x4B42424B ++ leBytes 2 1 ++ leBytes 1 kind ++ zeros 1 ++ leBytes 4 0 ++ leBytes 4 body.length ++ zeros 112 ++ body ++ zeros 96


/-- An entry of an image header. -/
def bootEntry (kind ofs len : Nat) : List Byte := leBytes 1 kind ++ zeros 3 ++ leBytes 4 ofs ++ leBytes 4 len ++ zeros 4


/-- An image of the three blocks that R830 requires. -/
def bootImage : List Byte :=
  leBytes 4 0x4B424249 ++ leBytes 2 1 ++ leBytes 1 3 ++ zeros 1 ++ leBytes 4 1024 ++ zeros 4 ++
  bootEntry 1 128 224 ++ bootEntry 4 384 288 ++ bootEntry 5 704 288 ++ zeros 64 ++
  bootBlock 1 [] ++ zeros 32 ++ bootBlock 4 (leBytes 1 1 ++ leBytes 1 4 ++ zeros 62) ++ zeros 32 ++
  bootBlock 5 (leBytes 2 16 ++ leBytes 2 1024 ++ zeros 60) ++ zeros 32


/-- A boot that has come to a step of the ROM. -/
def bootAt (k : BootStep) : State := { running with pw := { state := .booting, stage := 5, boot := k } }


theorem witness_BootAndResumption :
    ((bootAt .slotA).pw.stage = 5 ∧ (bootAt .slotA).pw.aonDown = false ∧ (bootAt .slotA).pw.state = .booting ∧
      imageGood (bootAt .slotA) bootImage [true, true, true] = true ∧
      imageGood (bootAt .slotA) bootImage [true, true, false] = false) ∧
    ((bootAt .slotB).pw.boot = .slotB ∧ imageGood (bootAt .slotB) [] [] = false ∧ (bootAt .slotB).pw.bootSel ≠ 1 ∧
      ((bootAt .slotB).modPw fun p => { p with bootSel := 1 }).pw.bootSel = 1) ∧
    (let s := (bootAt .pcie).modPw fun p => { p with bootStatus := 1 }; s.pw.boot = .pcie ∧ s.pw.bootStatus = 1 ∧
      imageGood s [] [] = false) ∧
    ((bootAt .slotB).pw.boot = .slotB ∧ imageGood (bootAt .slotB) bootImage [true, true, true] = true) ∧
    (let s := (bootAt .pcie).modPw fun p => { p with bootStatus := 1 }; s.pw.boot = .pcie ∧ s.pw.bootStatus = 1 ∧
      imageGood s bootImage [true, true, true] = true) ∧
    (let s := running.modPw fun p => { p with state := .waking, stage := 3 }; s.pw.state = .waking ∧ s.pw.stage = 3 ∧
      ∀ n, n < 16 → Nat.testBit 0xFFFF n = true) ∧
    (running.pw.state ≠ .booting ∧ running.pw.state ≠ .waking) ∧
    ((bootAt .trained).pw.state = .booting ∧ (bootAt .trained).pw.boot = .trained) ∧
    (let s := { bootAt .trained with sr := { retain := 2 ^ 46 }, pw := { state := .waking, stage := 5, boot := .trained } }; s.pw.state = .waking ∧ s.pw.stage = 5 ∧ s.pw.boot = .trained ∧ resumeLost s = false) ∧
    (resumeLost running = true) := by decide +kernel

theorem witness_EpochStarts :
    (let s := running.modTl fun t => { t with offset := 25000000, epoch := 2 ^ 32 - 1 }; clockRuns s = true ∧
      s.tl.offset = s.tl.epochLen ∧ s.tl.epoch < 2 ^ 32) ∧
    (running.tl.offset < running.tl.epochLen) := by decide +kernel

/-- The Timeline steered by edges of kind 1. -/
def steered (st : TlState) (ofs : Nat) : State :=
  running.modTl fun t => { t with src := 1, state := st, offset := ofs, seenEdge := true, goodEdges := 7 }


theorem witness_ReferenceEdges :
    (clockRuns (steered .locked 0) = true ∧ running.tl.src = 0) ∧
    (let s := steered .locked 3125001; s.tl.src = 1 ∧ true = !s.tl.edge ∧
      ¬ (s.tl.state ≠ .locked ∨ 8 * (phaseError s).natAbs ≤ s.tl.epochTicks)) ∧
    (let s := steered .locked 3125000; s.tl.state ≠ .locked ∨ 8 * (phaseError s).natAbs ≤ s.tl.epochTicks) ∧
    (let s := (steered .acquire 40).modTl fun t => { t with src := 2 }; s.tl.src = 2 ∧ s.tl.state ≠ .locked ∧
      inLockRange s.tl.epochTicks 25000000 = true ∧ s.tl.goodEdges = 7 ∧ s.tl.stepDue = false ∧ (phaseError s).natAbs ≤ 40) ∧
    (let s := (steered .acquire 0).modTl fun t => { t with src := 3, epochTicks := 8000000, lastEdge := 0, tick := 2000001 }; s.tl.src = 3 ∧
      s.tl.epochTicks < 4 * (now s - s.tl.lastEdge) ∧
      ¬ s.tl.epochTicks < 4 * (now (s.modTl fun t => { t with tick := 2000000 }) - s.tl.lastEdge)) ∧
    (let s := steered .acquire 41; s.tl.state = .acquire ∧ s.tl.stepDue = false ∧ 40 < (phaseError s).natAbs) ∧
    (let s := steered .holdover 41; s.tl.seenEdge = true ∧ inLockRange s.tl.epochTicks 25005002 = false ∧
      s.tl.state ≠ .free ∧ s.tl.state = .holdover) ∧
    (let s := (steered .locked 0).modTl fun t => { t with src := 3, badEdges := 1 }; 1 ≤ s.tl.src ∧ s.tl.src ≤ 3 ∧
      s.tl.state = .locked ∧ s.tl.lossCount ≤ min 15 (s.tl.badEdges + 1)) ∧
    (let s := steered .acquire 0; s.tl.state = .acquire ∧ ¬ s.tl.lossCount ≤ min 15 (s.tl.badEdges + 1)) ∧
    (let s := (steered .locked 0).modTl fun t => { t with src := 4, steerAge := 1024, steerOfs := t.offset }; s.tl.src = 4 ∧
      (1024 < s.tl.steerAge ∨ s.tl.steerAge = 1024 ∧ s.tl.steerOfs ≤ s.tl.offset) ∧ s.tl.state = .locked) ∧
    (let s := (steered .locked 0).modTl fun t => { t with src := 4, steerAge := 1024, steerOfs := t.offset + 1 }; s.tl.src = 4 ∧
      s.tl.offset < s.tl.steerOfs ∧ s.tl.steerAge = 1024 ∧ 1024 < (s.modTl fun t => { t with steerAge := 1025 }).tl.steerAge) ∧
    (let s := steered .acquire 0; s.tl.acquireFreq.natAbs ≤ 250000) ∧
    (running.tl.src ≠ 4 ∧ running.tl.state = .free ∧ ((steered .locked 0).modTl fun t => { t with src := 4, steerAge := 1023 }).tl.steerAge < 1024) := by decide +kernel

/-- T1 lends, with a request of its own waiting at wheel 10; entry 5 of that wheel is spare. -/
def lending : State :=
  { running with tens := [(0, bootT0), (1, { state := .live, grants := { lending := true } })],
                 wheels := { running.wheels with entry := 4, active := List.replicate 10 [] ++ [[0x1E, 0, 0, 0, 0, 0x1F, 0]] } }


theorem witness_SyncOutAndTurns :
    (let s := running.modTl fun t => { t with soEdges := [(999999, true), (1000000, false)] }; s.tl.soEdges = [(999999, true)] ++ [(1000000, false)] ∧ 1000000 ≤ s.tl.tick) ∧
    (let s := running.modTl fun t => { t with soEdges := [(1000001, false)] }; ∀ e ∈ s.tl.soEdges, s.tl.tick < e.1) ∧
    (clockRuns running = true ∧ clockRuns stopped = false ∧ entryOwner running 10 0 = 0x1E ∧ entryOwner running 10 64 = 0 ∧
      entryOwner running 10 511 = 0 ∧ (10, 0) ∈ waitingAt running [(10, 0)]) ∧
    (clockRuns lending = true ∧ entryOwner lending 10 5 = 0x1F ∧ (tenOf lending 1).grants.lending = true ∧
      (10, 1) ∈ waitingAt lending [(10, 1)]) ∧
    (∀ l, l ≤ 16 → (tenOf running l).grants.lending = true → (10, l) ∉ waitingAt running []) := by decide +kernel

/-- A small video head: 4 pixels by 4 lines, in 8 line slots, latched in line 5. -/
def videoCfg : HeadCfg := { port := 0, hActive := 4, vActive := 4, hTotal := 8, vTotal := 8, latchLine := 5, vtMax := 8, div := 8 }


/-- Head 0 in a state. -/
def withHead (v : Head) : State := { running with comp := { heads := [(0, v)] } }


/-- The video head running, with a number of line slots begun in its frame. -/
def rasterAt (line : Nat) : State := withHead { cfg := some videoCfg, state := .running, linkUp := true, line := line, slots := line + 1 }


/-- The same at a later tick. -/
def rasterLate (line : Nat) : State := (rasterAt line).modTl fun t => { t with tick := 4000000 }


theorem witness_HeadLines :
    (nextSlotAt running 0 = none ∧ nextSlotAt (rasterAt 2) 0 = some 1171875 ∧ now (rasterAt 2) < 1171875) ∧
    (let s := rasterLate 2; nextSlotAt s 0 = some 1171875 ∧ 1171875 ≤ now s ∧ (headOf s 0).cfg = some videoCfg ∧
      videoCfg.kind = .video ∧ (headOf s 0).startDue = none ∧ (headOf s 0).slot = .line ∧
      (headOf s 0).aborting = false ∧ (headOf s 0).line + 1 < videoCfg.vTotal ∧
      (headOf s 0).line + 1 < videoCfg.vActive) ∧
    (let s := rasterLate 7; nextSlotAt s 0 = some 3125000 ∧ 3125000 ≤ now s ∧ (headOf s 0).cfg = some videoCfg ∧
      (headOf s 0).extra = 0 ∧ (headOf s 0).stopDue = none ∧ (headOf s 0).line + 1 = videoCfg.vTotal) ∧
    (let s := withHead { cfg := some videoCfg, linkUp := true, startDue := some 1000000 }; nextSlotAt s 0 = some 1000000 ∧ 1000000 ≤ now s ∧ (headOf s 0).cfg = some videoCfg ∧ (headOf s 0).state = .disabled ∧ (headOf s 0).startDue = some 1000000 ∧ (headOf s 0).newCfg = none) := by decide +kernel

/-- Slot 0 bound to head 0, showing a 4 by 4 image of T0. -/
def shownSlot : Slot :=
  { owner := 0, head := 0, cur := { enable := true, format := 1, pitch64 := 1, srcW := 4, srcH := 4, dstW := 4, dstH := 4 } }


/-- The running head drawing line 1, of which its stager holds nothing. -/
def drawing : State :=
  { running with comp := { heads := [(0, { cfg := some videoCfg, state := .running, linkUp := true, line := 1, slots := 2, pixels := [1, 2, 3, 4] })],
                           slots := [(0, shownSlot)] } }


theorem witness_StagingAndUnderruns :
    ((headOf running 0).state = .disabled ∧ (now (rasterAt 2) : Int) < switchTick (rasterAt 2) 0 ∧
      switched (setStager (rasterAt 2) 0 { frame := 1 }) 0 = true) ∧
    (let s := rasterLate 5; (headOf s 0).cfg = some videoCfg ∧ (headOf s 0).state ≠ .disabled ∧
      switched s 0 = false ∧ switchTick s 0 ≤ (now s : Int)) ∧
    (let s := setStager (rasterAt 2) 0 { line := 3 }; (headOf s 0).cfg = some videoCfg ∧ olderOpen s 0 videoCfg = false ∧
      (3 : Nat) = (stagerOf s 0).line ∧ 3 < videoCfg.vActive ∧
      stagedTick s 0 (((stagerOf s 0).frame + 2 ^ 32 - (headOf s 0).frame) % 2 ^ 32) 3 - ((stagerOf s 0).lead : Int) ≤ (now s : Int)) ∧
    (let s := setStager (rasterAt 2) 0 { frame := 1, older := 3, oldLine := 3 }; olderOpen s 0 videoCfg = true ∧
      (stagerOf s 0).oldLine < videoCfg.vActive ∧ lineTick s 0 0 3 - ((stagerOf s 0).oldLead : Int) ≤ (now s : Int)) ∧
    (let s := setStager (rasterAt 2) 0 { line := 4 }; olderOpen s 0 videoCfg = false ∧ videoCfg.vActive ≤ (stagerOf s 0).line) ∧
    (let s := setStager (rasterAt 2) 0 { line := 4 }; (headOf s 0).cfg = some videoCfg ∧ olderOpen s 0 videoCfg = false ∧
      3 < videoCfg.vActive ∧ 3 < (stagerOf s 0).line ∧ rowDrawn (drawnArea s 0 (stagesAhead s 0)) 3 = true ∧
      videoCfg.vActive ≤ 4 ∧ (stagerOf (rasterAt 2) 0).line ≤ 0) ∧
    (let s := setStager (rasterAt 2) 0 { frame := 1, older := 3, oldLine := 4 }; olderOpen s 0 videoCfg = true ∧
      (stagerOf s 0).older ≤ 3 ∧ 3 < (stagerOf s 0).oldLine ∧ rowDrawn (drawnArea s 0 false) 3 = true) ∧
    (drawnLine drawing 0 = some 1 ∧ lineHeld drawing 0 1 = false ∧ (headOf drawing 0).cfg = some videoCfg ∧
      videoCfg.kind = .video) ∧
    (drawnLine running 0 = none) := by decide +kernel

/-- A small command-mode head. -/
def commandCfg : HeadCfg := { videoCfg with kind := .command, teWait := 100 }


/-- A push latched at a tick. -/
def pushAt (a : Nat) : Push := { number := 7, latched := a, background := 0, slots := [], damage := [⟨0, 0, 4, 2⟩], owing := 1 }


/-- The command-mode head with that push. -/
def pushing (a : Nat) (v : Head) : State := withHead { v with cfg := some commandCfg, state := .running, linkUp := true, push := some (pushAt a) }


theorem witness_PushesAndTheTearingEdge :
    (let s := pushing 1000000 {}; (headOf s 0).cfg = some commandCfg ∧ commandCfg.kind = .command ∧
      (headOf s 0).push = some (pushAt 1000000) ∧ (headOf s 0).pushing = false ∧ (pushAt 1000000).latched ≤ now s ∧
      true = !commandCfg.tePol) ∧
    ((headOf running 0).push = none ∧ (headOf (pushing 1000000 { pushing := true }) 0).pushing = true ∧
      false = commandCfg.tePol ∧ videoCfg.kind ≠ .command ∧
      ∀ p, (headOf (pushing 1000001 {}) 0).push = some p → now (pushing 1000001 {}) < p.latched ∧ p.edge = false) ∧
    (let s := pushing 999599 {}; (headOf s 0).push = some (pushAt 999599) ∧ teMissedDue s 0 = true ∧ (headOf s 0).pushing = false ∧
      (headOf s 0).queued = []) ∧
    (let s := pushing 999598 { queued := [{ pushAt 999599 with edge := true }] }; teMissedDue s 0 = true ∧
      (headOf s 0).pushing = false ∧ (headOf s 0).queued = [{ pushAt 999599 with edge := true }]) ∧
    (let s := pushing 999500 { pushing := true, queued := [pushAt 999599] }; teMissedDue s 0 = true ∧ (headOf s 0).pushing = true) ∧
    (let s := pushing 999600 {}; (headOf s 0).cfg = some commandCfg ∧ (headOf s 0).push = some (pushAt 999600) ∧
      now s ≤ (pushAt 999600).latched + 4 * commandCfg.teWait) ∧
    (let s := pushing 999599 { pushing := true, queued := [{ pushAt 999599 with edge := true }] }; (headOf s 0).pushing = true ∧
      ∀ p ∈ (headOf s 0).queued, p.edge = true) ∧
    (let s := pushing 999600 { pushing := true, sent := 2 }; pushSent s 0 = true ∧ (headOf s 0).queued = [] ∧
      pushSent (pushing 999600 { pushing := true, sent := 1 }) 0 = false) := by decide +kernel

/-- The video head on a DisplayPort port, its link lost. -/
def linkGone (v : Head) : State := withHead { v with cfg := some videoCfg, state := .running }


/-- A HEAD_LINK read that waits for the sink's reply. -/
def linkRead : Flight := { flight 0x48 [(17, 1), (18, 4), (24, 0x40)] .unit with aux := [0] }


theorem witness_LinkEvents :
    (let s := rasterAt 2; (headOf s 0).linkUp = true ∧ (headOf s 0).state ≠ .disabled ∧
      (headOf running 0).linkUp = false ∧ (headOf running 0).state = .disabled) ∧
    (let s := linkGone {}; (headOf s 0).cfg = some videoCfg ∧ isDsi videoCfg.port = false ∧ isDsi 8 = true ∧
      (headOf s 0).linkUp = false ∧ (headOf s 0).state ≠ .disabled) ∧
    (attemptIsDue (linkGone { attempts := 2, attemptDue := some 1000000 }) 0 = true ∧
      attemptIsDue (linkGone { attempts := 3, attemptDue := some 1000000 }) 0 = false) ∧
    ((headOf (linkGone { training := true, lost := true }) 0).training = true ∧
      (headOf (linkGone {}) 0).training = false) ∧
    (let s := withFlight linkRead; flightBy s (fun f => f.op == 0x48 && decide (f.phase = .unit) && decide (dget f.desc 17 1 ≠ 0) && f.aux.head? == some 0) = some linkRead ∧ dget linkRead.desc 17 1 = 1) ∧
    (let f := { flight 0x48 [(17, 2)] .unit with aux := [0] }; flightBy (withFlight f) (fun f => f.op == 0x48 && decide (f.phase = .unit) && decide (dget f.desc 17 1 ≠ 0) && f.aux.head? == some 0) = some f ∧ dget f.desc 17 1 ≠ 1 ∧ dget f.desc 17 1 ≠ 4) ∧
    (∀ f ∈ (withFlight linkRead).flights, f.op = 0x48 → f.phase ≠ .unit ∨ dget f.desc 17 1 = 0 ∨ f.aux.head? ≠ some 11) := by decide +kernel

/-- A render job of no tiles that waits for grove 1. -/
def job : Flight := { flight 0x63 [] .unit with aux := [3, 1, 1000, 0, 0, 0] }


/-- Context 3 of T0 on grove 1, with the job; T0 owns every plot of the installed memory. -/
def gpuWith (g : Grove) (c : Context) : State :=
  { withFlight job with gpu := { groves := [(1, g)], contexts := [(3, { c with owner := 0, loc := 0, grove := 1, lastIssued := 1 })] } }


/-- T0's plots with a compute job's descriptor at the start of plot 0, and its shader in slot 0. -/
def gpuReady : State :=
  { gpuWith {} { shaders := [(0, some { ofs := 0, len := 64, stage := 2, flags := 0, wgMax := 1, plsUse := 0, res := [] })] } with
    dram := { gib := 1, slots0 := [0, 1, 2, 3, 4, 5], owner := [(0, 1)], mem := Mem.wrs [] 0 (leBytes 4 1 ++ leBytes 4 1 ++ leBytes 4 1 ++ leBytes 4 1) },
    tens := [(0, { bootT0 with plots := [(0, 1)] })] }


theorem witness_GroveJobs :
    (let s := gpuWith {} {}; groveIdle s 1 = true ∧ chooseContext s 1 = some 3 ∧ candidate s 3 = some job ∧
      startFault s (ctxOf s 3) ((bulkBytes s (ctxOf s 3).owner (ctxOf s 3).owner (jobAddr job) 128).map fun b => if b.2 then (0 : Byte) else b.1) = some (6, 1)) ∧
    (let s := gpuReady; groveIdle s 1 = true ∧ chooseContext s 1 = some 3 ∧ candidate s 3 = some job ∧
      startFault s (ctxOf s 3) ((bulkBytes s (ctxOf s 3).owner (ctxOf s 3).owner (jobAddr job) 128).map fun b => if b.2 then (0 : Byte) else b.1) = none) ∧
    (groveIdle (gpuWith { out := true } {}) 1 = false ∧ chooseContext running 1 = none) ∧
    (let s := gpuWith { job := some 4, ctx := 3, since := 996000 } {}; flightBy s (fun x => decide (some x.id = (groveOf s 1).job)) = some job ∧ (groveOf s 1).resetAt = none ∧
      faultyDraw s 1 = none ∧ jobPoison s 1 [] = false) ∧
    (let s := gpuWith { job := some 4, ctx := 3, poisoned := true } {}; faultyDraw s 1 = none ∧ jobPoison s 1 [] = true) ∧
    (faultyDraw (gpuWith { job := some 4, ctx := 3, desc := zeros 8 ++ [32] } {}) 1 = some 2 ∧
      jobCompute (groveOf (gpuWith { job := some 4, ctx := 3, desc := [1] } {}) 1).desc = true ∧
      (ctxOf (gpuWith { job := some 4, ctx := 3 } { fail := true }) (groveOf (gpuWith { job := some 4, ctx := 3 } { fail := true }) 1).ctx).fail = true) ∧
    ((groveOf running 1).job = none ∧
      (groveOf (gpuWith { job := some 4, resetAt := some 5 } {}) 1).resetAt.isSome = true) := by decide +kernel

theorem witness_GroveResets :
    (let s := gpuWith { job := some 4, ctx := 3, since := 600000 } {}; flightBy s (fun x => decide (some x.id = (groveOf s 1).job)) = some job ∧ (groveOf s 1).resetAt = none ∧ (groveOf s 1).since + 400 * jobLimit job ≤ now s) ∧
    (now (gpuWith { job := some 4, ctx := 3, since := 600001 } {}) < (groveOf (gpuWith { job := some 4, ctx := 3, since := 600001 } {}) 1).since + 400 * jobLimit job) ∧
    (let s := gpuWith { job := some 4, ctx := 3, resetAt := some 980000 } {}; (groveOf s 1).resetAt = some 980000 ∧
      (groveOf s 1).resetAt.isSome = true ∧ (groveOf s 1).out = false ∧ 980000 + 20000 ≤ now s ∧
      (groveOf s 1).job.isSome = true) ∧
    ((groveOf running 1).resetAt = none ∧ (groveOf running 1).out = false ∧
      (groveOf (gpuWith { out := true } {}) 1).out = true ∧
      now (gpuWith { resetAt := some 980001 } {}) < 980001 + 20000) := by decide +kernel

/-- Touch port 0 with two TX pins and two RX pins. -/
def touchWith (v : TouchPort) : State :=
  { running with touch := { ports := [(0, { v with configured := true, roles := [1, 2, 1, 2] })] } }


/-- Settings that scan at every tick. -/
def scanAlways : ScanCfg := { enable := true }


/-- A scan at a step that began at a tick. -/
def scanAt (step a : Nat) : Scan := { started := 900000, step := step, stepAt := a, set := 0, cfg := scanAlways, iq := [], stamps := [(1, 2)], first := false }


/-- A TOUCH_SELFTEST of port 0 that measures. -/
def selftestFlight : Flight := flight 0x74 [(24, 0x40)] .unit


theorem witness_TouchScans :
    (scanDue running 0 = false ∧ scanDue (touchWith { cfg := scanAlways, lastStart := some 1000000 }) 0 = false) ∧
    (let s := touchWith { cfg := scanAlways, scan := some (scanAt 0 999000) }; scanDue s 0 = true ∧
      (portOf s 0).scan.isSome = true) ∧
    (let s := touchWith { cfg := scanAlways }; scanDue s 0 = true ∧ (portOf s 0).scan = none) ∧
    ((portOf running 0).scan = none ∧ (portOf running 0).capture = none) ∧
    (let s := touchWith { scan := some (scanAt 1 (1000001 - scanAlways.settle)) };
      (portOf s 0).scan = some (scanAt 1 (1000001 - scanAlways.settle)) ∧ now s < 1000001 - scanAlways.settle + scanAlways.settle) ∧
    (let s := touchWith { scan := some (scanAt 1 999200) }; (portOf s 0).scan = some (scanAt 1 999200) ∧
      stepCounted s (portOf s 0) (scanAt 1 999200) = false) ∧
    (let c := { scanAt 1 999200 with counted := scanAlways.intTicks }; let s := touchWith { scan := some c }; (portOf s 0).scan = some c ∧
      s.hokusaSafe = false ∧ 999200 + scanAlways.settle ≤ now s ∧ stepCounted s (portOf s 0) c = true ∧
      c.step + 1 < stepCount (portOf s 0) scanAlways) ∧
    (let c := { scanAt 2 999200 with counted := scanAlways.intTicks }; let s := touchWith { scan := some c }; (portOf s 0).scan = some c ∧
      stepCounted s (portOf s 0) c = true ∧ stepCount (portOf s 0) scanAlways ≤ c.step + 1) ∧
    (({ touchWith { scan := some (scanAt 2 999200) } with hokusaSafe := true }).hokusaSafe = true) ∧
    (productsDue running 0 = false ∧ productsDue (touchWith { endedAt := some 880001 }) 0 = false) ∧
    (let s := touchWith { endedAt := some 880000, ended := some (scanAt 2 0) }; (portOf s 0).endedAt = some 880000 ∧
      (portOf s 0).ended = some (scanAt 2 0) ∧ 880000 + 120000 ≤ now s ∧ (portOf s 0).capture = none) ∧
    (let s := touchWith { scan := some (scanAt 1 0) }; (portOf s 0).scan.isSome = true ∧ 1 < tCnt (portOf s 0) ∧
      tCnt (portOf s 0) ≤ 2) ∧
    (portFlight running 0 0x74 = none ∧
      portFlight (withFlight selftestFlight) 0 0x74 = some selftestFlight) := by decide +kernel

/-- A contact at rest since a tick. -/
def contactAt (a : Nat) : Contact :=
  { id := 3, u := 0, v := 0, state := 1, present := true, stale := false, outside := false, x := 0, y := 0, peak := 0, area := 0, restU := 0, restV := 0, restAt := a, dest := 0, dropped := false }


/-- A report of port 0 due to T0 and to T1, whose function may not write. -/
def reporting : State := touchWith { reportAt := some 840000, rings := [(0, { enable := true, addr := 0x9000, sizeLog2 := 1, index := 1 }), (1, { enable := true, skipped := 0xFFFFFFFF }), (2, { enable := true, since := 840001 })] }


/-- One key trigger due on a haptic channel, and one not yet. -/
def keysDue : State := touchWith { keyDue := [(2, 9, 1000000), (3, 9, 1000001)] }


/-- A contact that has rested for STALE_S, or one tick short of it. -/
def resting (a : Nat) : State := (touchWith { staleS := 1, contacts := [contactAt a] }).modTl fun t => { t with tick := 400000005 }


theorem witness_TouchReports :
    (reportDue running 0 = false ∧ reportDue (touchWith { reportAt := some 840001 }) 0 = false) ∧
    ((portOf reporting 0).reportAt = some 840000 ∧ 840000 + 160000 ≤ now reporting ∧ halted reporting = false) ∧
    ((ringOf (portOf reporting 0) 0).enable = true ∧ (ringOf (portOf reporting 0) 0).since < 840000 ∧
      canWrite reporting 0 = true ∧
      2 ^ (ringOf (portOf reporting 0) 0).sizeLog2 ≤ (ringOf (portOf reporting 0) 0).index + 1) ∧
    ((ringOf (portOf reporting 0) 1).enable = true ∧ (ringOf (portOf reporting 0) 1).since < 840000 ∧
      canWrite reporting 1 = false) ∧
    (((portOf keysDue 0).keyDue.filter fun k => decide (k.2.2 ≤ now keysDue)) = [(2, 9, 1000000)]) ∧
    (staleDue (resting 6) 0 3 = false ∧ staleDue (resting 5) 0 4 = false ∧
      staleDue (resting 5) 0 3 = true) := by decide +kernel

/-- Haptic channel 2 of T0. -/
def hapticWith (v : HapChan) : State := { running with haptic := { chans := [(2, { v with owner := 0, loc := 0, rated := 2000, brakeMv := 4000, brakeMax := 4, half := 60000 })], vhap := some 5000 } }


theorem witness_HapticDrive :
    ((hapOf running 2).stage ≠ .driving ∧ (hapOf running 2).stage ≠ .braking ∧
      (hapOf running 2).stage = .unconfigured) ∧
    (let s := hapticWith { stage := .braking, waiting := some 7 }; (hapOf s 2).stage = .braking ∧
      (hapOf s 2).track = false ∧ (hapOf s 2).waiting = some 7) ∧
    (let s := hapticWith { stage := .driving, waiting := some 7 }; (hapOf s 2).stage = .driving ∧
      (hapOf s 2).track = false ∧ (hapOf s 2).waiting = some 7) ∧
    (let s := hapticWith { stage := .braking, brakes := 2 }; (hapOf s 2).stage = .braking ∧
      (hapOf s 2).track = false ∧ (hapOf s 2).waiting = none) ∧
    (let s := hapticWith { stage := .driving, track := true, missRun := 7 }; (hapOf s 2).stage = .driving ∧
      (hapOf s 2).track = true ∧ 7 ≤ (hapOf s 2).missRun) ∧
    (let s := hapticWith { stage := .driving, effect := 17, crossed := 1600000 }; segmentDue s 2 = true ∧
      segmentDue (hapticWith { stage := .driving, effect := 17, crossed := 1599999 }) 2 = false) ∧
    (brakeDue (hapticWith { stage := .braking, brakes := 4, bemf := 5000 }) 2 = true ∧
      brakeDue (hapticWith { stage := .braking, brakes := 3, bemf := 5000 }) 2 = false ∧
      brakeDue (hapticWith { stage := .braking, brakes := 1, bemf := 99 }) 2 = true) ∧
    (let s := (hapticWith { stage := .gap, effect := 33, segment := 1 }).modTl fun t => { t with tick := 12000000 }; riseDue s 2 = true ∧ (hapOf s 2).stage = .gap ∧ riseDue (s.modTl fun t => { t with tick := 11999999 }) 2 = false) ∧
    (let s := (hapticWith { stage := .braking, effect := 33, segment := 1, crossed := 12000000 }).modTl fun t => { t with tick := 12000000 }; riseDue s 2 = true ∧ (hapOf s 2).crossed = now s) ∧
    ((hapOf (hapticWith { stage := .gap }) 2).stage ≠ .fault ∧
      (hapOf (hapticWith { stage := .gap }) 2).stage ≠ .unconfigured ∧
      (hapOf (hapticWith { stage := .fault }) 2).stage = .fault) ∧
    ((2799 : Nat) < 2800 ∧ (2800 : Nat) ≤ 2800 ∧ (2 : Nat) < 16) := by decide +kernel

/-- An enabled trigger map, on the rising edge. -/
def edgeMap : TrigMap := { enable := true, edge := 0, effect := 7, rearm := 2 }


/-- A HAPTIC_PLAY of channel 2 at tick 1,000,000. -/
def play : Flight := { flight 0x81 [(16, 0), (17, 9)] (.timed 1000000) with aux := [2, 1000000, 0], promised := some 1000000 }


/-- The channel with the play in flight. -/
def playing (v : HapChan) (f : Flight) : State := { hapticWith v with flights := [f] }


theorem witness_TriggersAndWorkOrders :
    (let s := hapticWith { stage := .idle, map := edgeMap, rearmAt := 1000000 }; (hapOf s 2).map.enable = true ∧
      (hapOf s 2).map.edge = b2n (!true) ∧ (hapOf s 2).rearmAt ≤ now s) ∧
    (trigDue running 2 = false ∧ trigDue (hapticWith { edgeAt := some 999201 }) 2 = false ∧
      trigDue (hapticWith { edgeAt := some 999200 }) 2 = true) ∧
    (let s := (hapticWith { stage := .gap, edgeAt := some 999200 }).modTens fun l => tset {} l 0 { bootT0 with state := .frozen }; trigDue s 2 = true ∧ holderStill s 2 = true ∧ (hapOf s 2).stage ≠ .unconfigured) ∧
    (let s := hapticWith { stage := .idle, edgeAt := some 999200, map := edgeMap, taken := some (59999, 2) }; trigDue s 2 = true ∧ holderStill s 2 = false ∧ hapReady s 2 = true ∧ (hapOf s 2).taken = some (59999, 2) ∧ 59999 ≠ hapCycle (now s) ∧ (hapOf s 2).stage = .idle) ∧
    (∀ f ∈ (playing {} { play with phase := .timed 1000001 }).flights, f.src = ⟨0, 0, 0⟩ → instantCome (playing {} { play with phase := .timed 1000001 }) f = false) ∧
    (let f := { play with op := 0x83 }; (flightAt (playing {} f) ⟨0, 0, 0⟩ fun x => instantCome (playing {} f) x) = some f ∧ f.op ≠ 0x81 ∧ f.op ≠ 0x82) ∧
    (let s := playing { stage := .idle } play; (flightAt s ⟨0, 0, 0⟩ fun x => instantCome s x) = some play ∧
      play.op = 0x81 ∧ play.aux.headD 16 = 2 ∧ (play.aux.drop 2).headD 0 ≠ 1 ∧ s.flights.any (supersedes s play) = false ∧ hapReady s 2 = true ∧ (hapOf s 2).taken = none ∧
      (hapOf s 2).stage = .idle) ∧
    (let s := playing { stage := .braking } play; (flightAt s ⟨0, 0, 0⟩ fun x => instantCome s x) = some play ∧
      s.flights.any (supersedes s play) = false ∧ hapReady s 2 = true ∧ (hapOf s 2).taken = none ∧ (hapOf s 2).stage = .braking) ∧
    (let f := { play with aux := [2, 1000000, 1] }; (flightAt (playing {} f) ⟨0, 0, 0⟩ fun x => instantCome (playing {} f) x) = some f ∧
      f.op = 0x81 ∧ (f.aux.drop 2).headD 0 = 1 ∧ (playing {} f).hokusaSafe = false) ∧
    (let s := withFlight play; (flightAt s ⟨0, 0, 0⟩ fun x => (orderInstant s x).isSome) = some play ∧
      orderInstant s play = some 1000000 ∧ 1000000 ≤ now s) ∧
    (let f := { play with phase := .timed 1000001 }; (flightAt (withFlight f) ⟨0, 0, 0⟩ fun x => (orderInstant (withFlight f) x).isSome) = some f ∧
      orderInstant (withFlight f) f = some 1000001 ∧ now (withFlight f) < 1000001) ∧
    (let s := withFlight { play with phase := .first }; ∀ f ∈ s.flights, f.src = ⟨0, 0, 0⟩ → orderInstant s f = none) := by decide +kernel

/-- Audio unit u enabled at 48 kHz in a state. -/
def unitWith (u : Nat) (v : AudioUnit) : State := { running with audio := { units := [(u, { v with enable := true, rate := 6 })] } }


/-- Playback stream 5 at 48 kHz, running. -/
def streamWith (v : AudioStream) : State := { running with audio := { streams := [(5, { v with owner := 0, loc := 0, configured := true, rate := 6, channels := 1, frames := 16, running := true })] } }


/-- Assay unit 1 of T0 on sink 0x10, with a comparison due at a tick. -/
def comparing (a : Nat) : State := { running with au := { units := [(1, { owner := 0, enable := true, snoop := 3, target := 0x10, seq := 0xFFFFFFFF, compares := 4, wh := 64, compareAt := some a })] } }


theorem witness_AudioSamples :
    (sampleDue (unitWith 0x10 { s0 := 1000001 }) 0x10 = false ∧ sampleDue running 0x105 = false) ∧
    (let s := { unitWith 0x10 { s0 := 1000000, out := [5] } with lg := { haltSrc := some 0 } }; (0x10 : Nat) < 0x100 ∧ sampleDue s 0x10 = true ∧ halted s = true) ∧
    (let s := streamWith { t0 := 1000000 }; sampleDue s 0x105 = true ∧ (streamOf s 5).capture = false ∧
      s.audio.changes = [] ∧ sampleDue (streamWith { t0 := 1000001 }) 0x105 = false) ∧
    (let s := unitWith 3 { target := true, count := 64, lost := true }; isPort 3 = true ∧
      (unitOf s 3).enable = true ∧ (unitOf s 3).target = true ∧ (unitOf s 3).count % 64 = 0 ∧
      (unitOf (unitWith 3 { target := true, count := 65 }) 3).count % 64 ≠ 0) ∧
    (isPort 5 = true ∧ isPort 6 = false ∧ (unitOf (unitWith 3 {}) 3).target = false) ∧
    (syncLostDue (unitWith 3 { target := true, lastEdge := 983334 }) 3 = true ∧
      syncLostDue (unitWith 3 { target := true, lastEdge := 983335 }) 3 = false) ∧
    (periodDue (streamWith { period := 4, next := 9, periods := 1 }) 5 = true ∧
      periodDue (streamWith { period := 4, next := 8, periods := 1 }) 5 = false) ∧
    (let s := comparing 1000000; (1 : Nat) < 48 ∧ (assayOf s 1).owner ≠ 0x1F ∧ (assayOf s 1).enable = true ∧
      (assayOf s 1).snoop = 3 ∧ (assayOf s 1).target = 0x10 ∧ (assayOf s 1).compareAt = some 1000000 ∧
      1000000 ≤ now s) ∧
    (audioCompareDue (comparing 1000001) 0x10 = false ∧
      audioCompareDue (comparing 1000000) 0x10 = true) := by decide +kernel

/-- Jack 0 at tick 50,000,000, its microphone bias on. -/
def jackWith (v : Jack) : State := { running with tl := { tick := 50000000 }, audio := { jacks := [(0, v)], units := [(0x20, { bias := true, driver := true })] } }


theorem witness_JacksAndDrivers :
    ((jackOf running 0).debounce = none) ∧
    (let s := jackWith { inserted := true, debounce := some 10000000 }; (jackOf s 0).debounce = some 10000000 ∧
      (jackOf s 0).inserted = true ∧ (jackOf s 0).type = 0 ∧ 10000000 + 40000000 ≤ now s) ∧
    (let s := jackWith { inserted := true, debounce := some 10000001 }; (jackOf s 0).debounce = some 10000001 ∧
      now s < 10000001 + 40000000) ∧
    ((jackOf (jackWith { classify := true, type := 2 }) 0).classify = true ∧
      (jackOf (jackWith { classify := true, type := 2 }) 0).type ≠ 5 ∧ (5 : Nat) ≤ 5) ∧
    ((jackOf running 0).classify = false ∧ (5 : Nat) < 6) ∧
    ((jackOf (jackWith { type := 3 }) 0).inserted = false ∧ (jackOf (jackWith { type := 3 }) 0).type ≠ 0 ∧
      (jackOf (jackWith { inserted := true }) 0).inserted = true) ∧
    (let s := jackWith { type := 3 }; (0 : Nat) ≤ 1 ∧ (jackOf s 0).type = 3 ∧ (unitOf s (0x20 + 0)).bias = true ∧
      (jackOf s 0).buttons ≠ buttonOf 69 ∧ (jackOf s 0).buttons = buttonOf 70) ∧
    (isDac 0x13 = true ∧ isJack 0x21 = true ∧ isDac 0x14 = false ∧ isJack 0x14 = false) := by decide +kernel

/-- Shelf 20 of T0, with three bytes in it, and a shelf that waits for the zeroiser. -/
def shelved (n next : Nat) : State :=
  { running with wheels := { served := List.replicate 11 0, turnAt := 1000000 }, sr := { owner := [(20, 1)], mem := [(20 * 2 ^ 18 + 8, 5), (20 * 2 ^ 18 + 9, 6), (21 * 2 ^ 18, 7)], zeroise := [{ unit := n, next := next }] } }


theorem witness_StockroomPorts :
    (let r := readAt 0xBFFFFFF 2; 0xC000000 < r.addr + r.len) ∧
    (let r := readAt 0xBFFFFFF 1; r.addr + r.len ≤ 0xC000000 ∧ portPermits running r 1 = false ∧ r.write = none) ∧
    (let s := shelved 21 0; let r := { readAt (20 * 2 ^ 18 + 9) 0 with write := some [1, 2] }; r.write = some [1, 2] ∧ r.addr + ([1, 2] : List Byte).length ≤ 0xC000000 ∧ portPermits s r 2 = true ∧ turnServes s r = true ∧ r.port ≠ 28) ∧
    (let s := { shelved 21 0 with wheels := { served := List.replicate 11 1, turnAt := 1000000 } }; let r := readAt (20 * 2 ^ 18) 8; r.addr + r.len ≤ 0xC000000 ∧
      portPermits s r 8 = true ∧ turnServes s r = false) ∧
    (let s := shelved 21 0; let r := readAt (20 * 2 ^ 18 + 7) 3; r.write = none ∧ r.addr + r.len ≤ 0xC000000 ∧
      portPermits s r r.len = true ∧ turnServes s r = true ∧ r.port ≠ 28 ∧ r.found = .sound ∧ ∀ a ∈ wordsOf r.addr r.len, srWord s a = .sound) ∧
    ((∀ z ∈ (shelved 21 0).sr.zeroise, z.unit ≠ 20) ∧
      ((shelved 21 0).sr.zeroise.find? fun z => z.unit == 21) = some { unit := 21, next := 0 }) ∧
    (max 16 (shelved 719 16).sr.wm ≤ 719 ∧ (719 : Nat) < 720 ∧
      ((shelved 719 16).sr.zeroise.find? fun z => z.unit == 719) = some { unit := 719, next := 16 }) := by decide +kernel

/-- One row of six ranks of 1 GiB with a spare, plot 2 of T0. -/
def bulk (d : Dram) : State :=
  { running with wheels := { served := List.replicate 11 0, turnAt := 1000000 }, dram := { d with gib := 1, slots0 := [0, 1, 2, 3, 4, 5], owner := [(2, 1)], mem := [(2 ^ 22 + 1, 9)], ranks := (List.range 6).map (fun (n : Nat) => (n, { state := .inService, lastUse := 996000 })) ++ [(6, { state := .spare })] } }


/-- A write of T0 in plot 2, or elsewhere. -/
def writeTo (a : Nat) : DramRequest := { port := 0, arrived := 1000000, passedOver := false, owner := 0, addr := a, write := some [1, 2], poison := false, len := 0, found := .sound }


/-- A migration of rank 1 to the spare. -/
def migrating (p : MigPhase) : Migration := { src := 1, dst := 6, phase := p, copied := 0 }


theorem witness_BulkMemory :
    (dramTurn (bulk {}) (writeTo (2 ^ 22 - 1)) = true ∧ dramPermits (bulk {}) (writeTo (2 ^ 22 - 1)) = false ∧
      dramTurn { bulk {} with wheels := { served := [0, 0, 0, 0, 0, 0, 0, 1], turnAt := 1000000 } } (writeTo (2 ^ 22)) = false) ∧
    (let r := writeTo (2 ^ 22); let s := bulk { migration := some { migrating .firstPause with src := rankAt (bulk {}).dram r.addr } }; dramTurn s r = true ∧ dramPermits s r = true ∧ heldByPause s r = true) ∧
    (let r := writeTo (2 ^ 22); let s := bulk {}; dramTurn s r = true ∧ dramPermits s r = true ∧ heldByPause s r = false ∧ r.write = some [1, 2]) ∧
    (dramTurn (bulk {}) (writeTo (2 ^ 22)) = true ∧ dramTurn (bulk {}) { writeTo (2 ^ 22) with arrived := 998000 } = true ∧
      urgency (bulk {}) (writeTo (2 ^ 22)) < urgency (bulk {}) { writeTo (2 ^ 22) with arrived := 998000 }) ∧
    ((bulk {}).dram.zeroise = [] ∧
      (bulk { zeroise := [⟨2, 0⟩], migration := some (migrating .copy) }).dram.migration.isSome = true) ∧
    ((bulk { zeroise := [⟨2, 0⟩, ⟨4, 0⟩] }).dram.zeroise = { plot := 2, next := 0 } :: [⟨4, 0⟩] ∧
      (bulk { zeroise := [⟨2, 0⟩, ⟨4, 0⟩] }).dram.migration = none) ∧
    ((bulk { migration := some (migrating .firstPause) }).dram.migration = some (migrating .firstPause) ∧
      (migrating .firstPause).phase = .firstPause ∧ (migrating .copy).phase = .copy ∧
      (migrating .secondPause).phase = .secondPause ∧ (migrating .secondPause).src ≠ (migrating .secondPause).dst) ∧
    ((bulk { migration := some (migrating .copy) }).dram.migration = some (migrating .copy) ∧
      (bulk { migration := some (migrating .secondPause) }).dram.migration = some (migrating .secondPause) ∧
      (bulk {}).dram.migration = none) ∧
    ((3 : Nat) < 16 ∧ ([0, 1, 2, 3] : List Nat)[3]? = some 3 ∧ ([0, 1, 2, 3] : List Nat)[1]? = some 1 ∧
      (rankOf' (bulk {}) 3).state ≠ .absent ∧ (rankOf' (bulk {}) 3).state ≠ .failedTraining ∧
      (rankOf' (bulk {}) 1).refresh ≠ 1) ∧
    (powerDownDue (bulk {}) 0 = true ∧
      powerDownDue ((bulk {}).modTl fun t => { t with tick := 999999 }) 0 = false) := by decide +kernel

/-- A transfer of T0 on channel 0: a fill of two bytes of Stockroom shelf 20, or a comparison of two host ranges. -/
def fill : Flight := { flight 0xA2 [(17, 0x20), (18, 0xFF), (19, 1), (28, 7), (44, 2)] .unit with aux := [0, 0], verdict := { status := 1 } }


theorem witness_DmaTransfersEnd :
    (isXfer fill = true ∧ ∀ f ∈ (withFlight (flight 0xA5 [] .unit)).flights, isXfer f = false) ∧
    (let f := { fill with turns9 := 1 }; xferAt (withFlight f) ⟨0, 0, 0⟩ = some f ∧ xferReady (withFlight f) f = true ∧
      isCompare f.desc = false ∧ hostBarred (withFlight f) f = false ∧ moving (withFlight fill) fill = true ∧
      xferReady (withFlight fill) fill = false) ∧
    (let f := { fill with op := 0xA3, desc := descriptor 0xA3 [(44, 2)], turns8 := 1 }; let s := { withFlight f with fns := [] };
      xferAt s ⟨0, 0, 0⟩ = some f ∧ xferReady s f = true ∧ hostBarred s f = true ∧ isCompare f.desc = true ∧
      ∀ g ∈ s.flights, g.id = f.id → g = f) ∧
    (xferReady ((withFlight fill).modDma fun d => { d with chans := [(0, { halted := true })] }) fill = false) ∧
    (let f := { fill with op := 0xA3, desc := descriptor 0xA3 [(44, 2)], turns8 := 1 }; xferAt (withFlight f) ⟨0, 0, 0⟩ = some f ∧
      xferReady (withFlight f) f = true ∧ hostBarred (withFlight f) f = false ∧ isCompare f.desc = true ∧
      compareScan f.desc (sourceRow (withFlight f) f 0 0 (xferSize f.desc)).1
        (spaceRead (sourceRow (withFlight f) f 0 0 (xferSize f.desc)).2 f.src.fn (viewOf f.src.fn f.desc) (dstSpace f.desc) (dstAddr f.desc) (xferSize f.desc)).1 0 = none) := by decide +kernel

theorem witness_ErrorLines :
    (clockRuns stopped = false ∧ clockRuns running = true ∧ (lgSrc running 10).on = false ∧
      (lgSrc running 10).raised = 0 ∧ inProgress running.lg.reactions = none) ∧
    (lgClass running 0 = 3 ∧ lgClass running 10 ≠ 3 ∧
      ∃ b ∈ [0, 2, 9, 10, 11, 12, 38], lgClass running b = 1 ∨ lgClass running b = 2) ∧
    (let s := { running with lg := { cls0 := 1048576 } }; lgClass s 10 = 1 ∧ clockRuns s = true ∧
      (lgSrc s 10).on = false ∧ (lgSrc s 10).raised = 0 ∧ inProgress s.lg.reactions = none) ∧
    (running.hokusaSafe = false ∧ ({ running with hokusaSafe := true }).hokusaSafe = true) := by decide +kernel

/-- Reactions in the Ledger, T1 and T2 LIVE. -/
def reacting (l : List Reaction) : State := { running with lg := { reactions := l }, tens := [(0, bootT0), (1, { state := .live }), (2, { state := .live })] }


/-- A TENANCY_QUIESCE of T1 whose limit comes at a tick. -/
def limitAt (a : Nat) : Flight := flight 0x13 [(16, 1)] (.timed a)


theorem witness_ReactionsAndLimits :
    ((reacting [{ started := true }, {}, { source := 5 }]).lg.reactions = [{ started := true }] ++ { source := 0 } :: [{ source := 5 }] ∧ (∀ x ∈ ([{ started := true }] : List Reaction), x.started = true) ∧ ({} : Reaction).started = false) ∧
    ((∀ x ∈ (reacting [{ started := true }]).lg.reactions, x.started = true) ∧
      (∀ x ∈ (reacting [{}]).lg.reactions, x.started = false)) ∧
    (let r : Reaction := { source := 10, contain := 2, degrade := 4, started := true }; ((reacting [{}, r]).lg.reactions.find? fun x => x.started) = some r ∧ r.contain.testBit 1 = true ∧ (tenOf (reacting [{}, r]) 1).state = .live ∧ r.degrade.testBit 2 = true ∧ (tenOf (reacting [{}, r]) 2).state ≠ .absent) ∧
    ((flightBy (withFlight (limitAt 1000001)) fun f => f.op == 0x13 && decide (dget f.desc 16 1 = 1) && instantCome (withFlight (limitAt 1000001)) f) = none) ∧
    ((flightBy (withFlight (limitAt 1000000)) fun f => f.op == 0x13 && decide (dget f.desc 16 1 = 1) && instantCome (withFlight (limitAt 1000000)) f) = some (limitAt 1000000) ∧ inFlight (withFlight (limitAt 1000000)) 1 = [] ∧ (tenOf (withFlight (limitAt 1000000)) 1).stopped = [] ∧ ∀ v ∈ (withFlight (limitAt 1000000)).visible, v.src.fn ≠ 1) := by decide +kernel

/-- The Warden's state, with a migration key and a running applet in slot 7. -/
def wardenWith (w : Warden) : State := { running with wd := { w with keys := [⟨5, false⟩], applets := [(7, { state := .running, client := 0, since := 600000, limitMs := 1, start := some 4 })] }, flights := [{ flight 0xE2 [] .warden with verdict := { status := 1 } }] }


/-- A MIGRATION_KEY_DESTROY of key 5 that waits for the Warden. -/
def destroyKey : Flight := { flight 0xE7 [(16, 5)] .warden with verdict := { status := 1 } }


theorem witness_WardenRestarts :
    (let s := (wardenWith {}).modTl fun t => { t with tick := 20000000 }; beatLost s = true ∧
      beatLost (s.modTl fun t => { t with tick := 19999999 }) = false) ∧
    ((wardenWith {}).pw.state = .run ∧ (wardenWith {}).wd.restarting = none ∧ (wardenWith {}).wd.dead = false) ∧
    ((stopped).pw.state ≠ .run ∧ (wardenWith { restarting := some 3 }).wd.restarting.isSome = true ∧
      (wardenWith { dead := true }).wd.dead = true) ∧
    ((appletOf (wardenWith {}) 7).state = .running ∧ limitDue (wardenWith {}) 7 = true ∧
      limitDue ((wardenWith {}).modTl fun t => { t with tick := 999999 }) 7 = false ∧
      (appletOf (wardenWith {}) 6).state ≠ .running) ∧
    ((wardenWith {}).wd.inbox = none ∧
      (wardenWith { inbox := some [1, 2], prepared := some [9] }).wd.inbox = some [1, 2] ∧
      (wardenWith { inbox := some [1, 2], prepared := some [9] }).wd.prepared = some [9] ∧
      (wardenWith { inbox := some [1, 2], prepared := some [9] }).wd.restarting = none) ∧
    (∀ f ∈ (withFlight job).flights, f.src = ⟨0, 0, 0⟩ → f.phase ≠ .warden) ∧
    ((flightAt (withFlight destroyKey) ⟨0, 0, 0⟩ fun x => decide (x.phase = .warden)) = some destroyKey ∧
      destroyKey.op ∈ [0x18, 0x19, 0xE1, 0xE6, 0xE7] ∧ destroyKey.op = 0xE7) := by decide +kernel

/-- A command whose first completion is due meets all that its work waits for. -/
def workIsDue (f : Flight) : Bool := (flightAt (withFlight f) f.src fun g => decide (g.phase = .first) && decide (now (withFlight f) ≥ g.admitted + 8000)) = some f && accepted f && !fenced (withFlight f) f && (firstFault (withFlight f) f).isNone


theorem witness_CommandEffects :
    (([0xB4, 0x44, 0x80, 0xD2, 0xC1, 0xC3, 0xF2, 0xF3].all fun n => workIsDue (flight n [(16, 1)] .first)) = true ∧
      (withFlight (dueNow 0)).visible = []) ∧
    (let f := flight 0xB2 [(16, 0), (18, 1)] .first; workIsDue f = true ∧ dbit f.desc 18 1 = false ∧
      (sourceOf (withFlight f) f.src.fn (dget f.desc 16 2)).isSome = true) ∧
    (let f := flight 0xB3 [(16, 0)] .first; workIsDue f = true ∧
      (sourceOf (withFlight f) f.src.fn (dget f.desc 16 2)).isSome = true ∧ dget f.desc 18 1 = 0) ∧
    ((headOf (rasterAt 2) 0).cfg = some videoCfg ∧
      dget (flight 0xF3 [(16, 39)] .first).desc 16 1 < 40) := by decide +kernel

/-! ### Commands that are no commands -/

/-- A ring command stands in a slot of one of the four rings of one of the seventeen functions, and carries its row's OPCODE (06 R254, R259). -/
theorem test_wf_ring_slots :
    (([.nop ⟨17, 0, 0⟩ 0, .nop ⟨0, 4, 0⟩ 0, .nop ⟨0, 0, 65536⟩ 0, .nop ⟨0, 0, 0⟩ 1, .diagFaultInject ⟨0, 0, 0⟩ 0xF2,
     .descriptorArrival ⟨17, 0, 0⟩ .good, .firstCompletion ⟨0, 4, 0⟩, .wardenReply ⟨some ⟨17, 0, 0⟩, true, []⟩,
     .pcieLinkDown [(⟨0, 4, 0⟩, false, 0, 0)]] : List Instr).all fun i => !i.wf) = true ∧
    (([.nop ⟨16, 3, 65535⟩ 0, .diagFaultInject ⟨0, 0, 0⟩ 0xF3, .wardenReply ⟨none, true, []⟩, .pcieLinkDown []] : List Instr).all fun i => i.wf) = true := by decide +kernel

/-- A register row names a function, a ring or block that exists, and a value of its width (06 R255). -/
theorem test_wf_register_rows :
    (([.crTail 17 0 0, .ccHead 0 4 0, .crCfgEnable 0 0 (2 ^ 32), .evHead 0 256 0, .evHead 17 0 0, .evHead 0 0 (2 ^ 32),
     .tlcTickLo 17, .bootCtrlGo (2 ^ 32), .secureWmWrite (2 ^ 32), .dramWmWrite (2 ^ 32), .lockSet (.fnPage 17),
     .lockSet (.bar2 17), .registerWrite (.touch 8) 0 0 32, .registerWrite .ledger 0 0 24,
     .registerWrite .ledger 0 256 8, .registerWrite .ledger 2 0 32, .registerWrite .ledger 4 0 64] : List Instr).all fun i => !i.wf) = true ∧
    (([.crTail 16 3 (2 ^ 32 - 1), .evHead 16 255 0, .registerWrite (.touch 7) 6 65535 16, .registerWrite .ledger 8 0 64,
     .lockSet (.bar2 16)] : List Instr).all fun i => i.wf) = true := by decide +kernel

/-- A supervisor frame carries one byte of SEQ, four of address and two of length. -/
theorem test_wf_supervisor_rows :
    (([.svRead 256 0 0  true, .svRead 0 (2 ^ 32) 0  true, .svRead 0 0 65536  true, .svWrite 256 0 []  true,
     .svWrite 0 (2 ^ 32) []  true, .mboxSend 256 []  true, .mboxRecv 256 0  true, .mboxRecv 0 65536  true,
     .i2cAddressMatch 128 []] : List Instr).all fun i => !i.wf) = true ∧
    (([.svRead 255 (2 ^ 32 - 1) 65535  true, .i2cAddressMatch 127 []] : List Instr).all fun i => i.wf) = true := by decide +kernel

/-- No message is longer than its length field can say. -/
theorem test_wf_long_data :
    (([.svWrite 0 0 (List.replicate 65536 0)  true, .mboxSend 0 (List.replicate 65536 0)  true,
     .ttSprite (List.replicate 65536 0), .ttPalette (List.replicate 65536 0), .ttImage (List.replicate 65536 0),
     .regRead (List.replicate 65536 0), .debugUnlock (List.replicate 65536 0) true] : List Instr).all fun i => !i.wf) = true ∧
    (([.ttSprite []] : List Instr).all fun i => i.wf) = true := by decide +kernel

/-- Functions are numbered to 16, vectors to 259, rings to 255, tenancies to 16, and VFs from 1. -/
theorem test_wf_functions :
    (([.resetRelease 4, .moderationTimeout 17 0, .moderationTimeout 0 260, .eventClaim 256, .functionLevelReset 0,
     .functionLevelReset 17, .d3hotEntry 17, .d0Return 17, .busMasterEnableClear 17, .busMasterEnableSet 17,
     .vectorUnmask 17 none, .vectorUnmask 0 (some 260), .limitInstant 17, .turnStart ⟨[(11, 0)], .sound, .sound, 0⟩,
     .turnStart ⟨[(0, 17)], .sound, .sound, 0⟩] : List Instr).all fun i => !i.wf) = true ∧
    (([.functionLevelReset 16, .moderationTimeout 16 259, .vectorUnmask 16 (some 259), .limitInstant 16,
     .turnStart ⟨[(10, 16)], .sound, .sound, 0⟩] : List Instr).all fun i => i.wf) = true := by decide +kernel

/-- Heads are numbered to 11, lines to 65,535, and groves to 3. -/
theorem test_wf_heads_and_groves :
    (([.lineStart 12, .stagerSwitch 12, .stagerRequest 12 0, .stagerRequest 0 65536, .stagingArrival 12 0,
     .stagingArrival 0 65536, .underrun 12, .teEdge 12 true, .teMissed 12, .pushEnd 12, .linkLost 12, .hpdRise 12,
     .hpdIrq 12, .retrainAttempt 12, .linkTrainingDone 12 true, .auxDcsReply 12 none, .jobStart 4,
     .jobComplete 4 ⟨0, []⟩ false [], .timeLimit 4, .tileListPoolOverflow 4 ⟨0, []⟩, .shaderAccessFault 4, .grTileUe 4,
     .groveResetDone 4, .grReset 4, .jobRunTimeFault 4 true] : List Instr).all fun i => !i.wf) = true ∧
    (([.lineStart 11, .stagerRequest 11 65535, .jobStart 3] : List Instr).all fun i => i.wf) = true := by decide +kernel

/-- Touch ports are numbered to 7, TX pins to 127, and haptic channels to 15. -/
theorem test_wf_touch_and_haptics :
    (([.scanStart 8, .stepEnd 8 0 0 [], .scanProductsDone 8, .reportWrite 8, .keyTrigger 8, .touchStale 8 0,
     .txOvercurrent 8 0, .txOvercurrent 0 128, .selftestDone 8 [] [] [] [], .hapTrigEdge 16 true, .triggerAccept 16,
     .hapTrigWake 16, .zeroCrossing 16 none 0 0, .segmentEnd 16, .brakeEnd 16, .actuatorFault 16 0, .onSegmentRise 16] : List Instr).all fun i => !i.wf) = true ∧
    (([.scanStart 7, .txOvercurrent 7 127, .hapTrigEdge 15 true] : List Instr).all fun i => i.wf) = true := by decide +kernel

/-- Audio units, streams, buses, ports and jacks have the numbers the spec gives them. -/
theorem test_wf_audio :
    (([.sampleStart 0x22 [], .sampleStart 0xFF [], .sampleStart 0x140 [], .sampleStart 0x240 [], .frameSyncEdge 6 [],
     .syncLost 6, .audioPeriod 64, .audioCompare 0x22, .jackInsertion 2 true, .jackDebounce 2, .jackClassified 2 1 0,
     .jackRemoval 2, .audioButton 2 0, .audioDriver 0x22] : List Instr).all fun i => !i.wf) = true ∧
    (([.sampleStart 0x21 [], .sampleStart 0x13F [], .sampleStart 0x23F [], .frameSyncEdge 5 [], .jackInsertion 1 true] : List Instr).all fun i => i.wf) = true := by decide +kernel

/-- Stockroom ports and owners have five bits; shelves, plots, ranks, applet slots and boot slots have their counts. -/
theorem test_wf_memory_and_warden :
    (([.stockroomRequest { readAt 0 1 with port := 32 }, .stockroomRequest { readAt 0 1 with owner := 32 },
     .shelfZeroised 768, .dramRequest [{ writeTo 0 with port := 32 }], .dramRequest [{ writeTo 0 with owner := 32 }],
     .plotZeroised 65536, .mr4Poll (List.replicate 17 0), .refresh 16, .powerDownEntry 16, .trainingDone 0 65536 0,
     .trainingDone 0 0 65536, .appletEnd 8 0 [], .limitMs 8, .bootImageLoad 2 [] []] : List Instr).all fun i => !i.wf) = true ∧
    (([.stockroomRequest { readAt 0 1 with port := 31, owner := 31 }, .shelfZeroised 767, .appletEnd 7 0 []] : List Instr).all fun i => i.wf) = true := by decide +kernel

/-! ### Single steps -/

/-- 06, Completion record: TAG, STATUS 0 (DONE), FINAL with the first pass's PHASE 1, and USER of a NOP. -/
theorem test_nop_completion :
    answers (exec (.firstCompletion ⟨0, 0, 0⟩)
        (withFlight { dueNow 0 with desc := descriptor 0 [(2, 0x34), (3, 0x12), (8, 0xAB)] })) (fun t =>
      hostRead t 0x20000 8 == [0x34, 0x12, 0, 3, 0, 0, 0, 0] && hostRead t 0x20018 8 == [0xAB, 0, 0, 0, 0, 0, 0, 0]) = true := by
  decide +kernel

/-- 06 R267: a record for a disabled completion ring is discarded. -/
theorem test_completion_discarded :
    answers (exec (.firstCompletion ⟨0, 1, 0⟩) (withFlight { dueNow 0 with src := ⟨0, 1, 0⟩ })) (fun t =>
      t.host.isEmpty && t.flights.isEmpty) = true := by decide +kernel

/-- A queue is served from its front, one command a step. -/
theorem test_front_first : answers (step { running with pending := [.vhapRecover 5000, .forceHalt] }) (fun t =>
    decide (t.pending = [.forceHalt]) && decide (t.haptic.vhap = some 5000) && !halted t) = true := by decide +kernel

/-- 03 R92: the Stockroom ends at 0xC00_0000. -/
theorem test_stockroom_hole : exec (.stockroomRequest (readAt 0xC000000 1)) running = .fault .stockroomHole := rfl

/-- No word spells a command, and none is fetched. -/
theorem test_no_words : decodeTableWord 8 0 = none ∧ running.withFetchWord 8 0 = running := by decide +kernel

/-! ### Parts of larger operations -/

/-- 03 R129: one wrong data bit is corrected, one wrong address bit is not. -/
theorem test_code_one_bit :
    (List.range 64).all (fun i => outcome (.wrong (2 ^ i) 0 0) == .correctable) = true ∧
    (List.range 25).all (fun i => outcome (.wrong 0 0 (2 ^ i)) == .uncorrectable) = true := by decide +kernel

/-- 11 R511: in D32F the depth -1.0 is less than 1.0, and in D24 the larger number is not. -/
theorem test_depth_less :
    depthPasses (setAt (zeros 128) 122 0x52) (setAt (zeros 64) 1 1) 0xBF800000 0x3F800000 = true ∧
    depthPasses (setAt (zeros 128) 122 0x51) (setAt (zeros 64) 1 1) 9 8 = false := by decide +kernel

/-- A fragment of a primitive. -/
def fragment (prim : Nat) (inp : Nat) : Fragment := ⟨0, 0, prim, 0, 0, 0, 0, inp, false, none, false, []⟩

/-- 11 R512: interlocked sections keep submission order, the others the order of their accesses. -/
theorem test_interlock_order :
    (weave (fun f => f.input == 1) [fragment 2 1, fragment 0 0, fragment 1 1] (inSubmission [fragment 2 1, fragment 1 1])).map (·.prim) =
      [1, 0, 2] := by decide +kernel

/-! ### The spec's worked examples -/

/-- 08, one pixel of a centre display: the video's conversion, the overlay's premultiplied pixel, and their blend. -/
theorem test_pixel_example : convert 2 480 400 720 = ⟨860, 399, 248, 1023⟩ ∧
    Px.premul ⟨expand8 255, expand8 160, expand8 32, expand8 128⟩ = ⟨514, 323, 64, 514⟩ ∧
    blend ⟨514, 323, 64, 514⟩ ⟨860, 399, 248, 1023⟩ = ⟨942, 522, 187, 1023⟩ := by decide +kernel

/-- 08, the same pixel under TEMPORAL and under SPATIAL dither of frame 48,213. -/
theorem test_dither_example : ([942, 522, 187].map (ditherOut 8 2 1925 1001 48213)) = [236, 131, 47] ∧
    ([942, 522, 187].map (ditherOut 8 1 1925 1001 48213)) = [235, 130, 47] := by decide +kernel

/-- 15, a verified chime while media ducks: the tone's increment at 48 kHz, S[512], and the path's gain at sample 128. -/
theorem test_chime_example : toneInc { freq := 14080 } 48000 0 = 78741067 ∧ crossTable 512 = 94906266 ∧
    rampAt { old := 134217728, new := 33713969, len := 256, curve := 0, i := 128 } = 118745642 := by decide +kernel

/-- 10 R461: the check value of data under a preamble is that under zeros, changed by raw of the preamble and zeros. -/
theorem test_fold_example :
    crc32c ([0x11, 3, 1, 0, 0x55, 0xBC, 0, 0] ++ [0xEC, 0x0C, 0xF2, 0x02]) =
      crc32c (List.replicate 8 0 ++ [0xEC, 0x0C, 0xF2, 0x02]) ^^^
        crcFeed (crcAlgo 0) 0 ([0x11, 3, 1, 0, 0x55, 0xBC, 0, 0] ++ List.replicate 4 0) := by decide +kernel

/-- 10 R457: the check values of the four algorithms over the string 123456789. -/
theorem test_check_values : ((List.range 4).map fun n => crcOf (crcAlgo n) ((List.range 9).map fun k => BitVec.ofNat 8 (0x31 + k))) =
    [0xE3069283, 0xCBF43926, 0x29B1, 0x6C40DF5F0B497347] := by decide +kernel

/-- 02, sixty seconds of holdover: HOLD_BOUND is 240,000 ticks. -/
theorem test_holdover_example :
    holdBound { running with tl := { running.tl with state := .holdover, tick := 24000000000, holdSince := 0, holdPpm := 10 } } = 240000 := by
  decide +kernel

/-- 03, staging rings for a cluster and a centre display: the shelves of four of the five rings. -/
theorem test_ring_example :
    ringShelves { running with tl := { running.tl with epochTicks := 8000000 } } { vTotal := 800 } 400000
      { enable := true, format := 1, srcW := 640, srcH := 240, dstW := 1280, dstH := 480, ltc := true } = 1 ∧
    ringShelves { running with tl := { running.tl with epochTicks := 8000000 } } { vTotal := 800 } 400000
      { enable := true, format := 1, srcW := 1920, srcH := 720, dstW := 1920, dstH := 720 } = 2 ∧
    ([400000, 1600000].map fun lead => ringShelves { running with tl := { running.tl with epochTicks := 6666667 } } { vTotal := 2250 } lead
      { enable := true, format := 1, srcW := 3840, srcH := 2160, dstW := 3840, dstH := 2160 }) = [9, 32] := by decide +kernel

end Sys2Proof.Machine.Tests
end

section
/-! PROOFS. What a write of a register does to the latches, the Ledger, the boot registers and the retention bits (O31). -/

namespace Sys2Proof.Machine

/-! ### A fold whose steps each change one place

`read t k` is what stands at place k. Where a step at j leaves every other place alone, a fold over distinct places does at
each place of its list just what that place's own step does. `I` is what all steps keep. -/

section Places

variable {β : Type} {read : State → Nat → β} {f : State → Nat → State} {I : State → Prop}

theorem read_foldl_notMem (other : ∀ t j k, k ≠ j → read (f t j) k = read t k) {l : List Nat} {k : Nat} (hk : k ∉ l) (s : State) :
    read (l.foldl f s) k = read s k := by
  induction l generalizing s with
  | nil => rfl
  | cons j l ih =>
    obtain ⟨hj, hl⟩ := List.ne_and_not_mem_of_not_mem_cons hk
    exact (ih hl (f s j)).trans (other s j k hj)

theorem read_foldl_mem (other : ∀ t j k, k ≠ j → read (f t j) k = read t k) (keep : ∀ t j, I t → I (f t j)) {l : List Nat} {k : Nat}
    (nd : l.Nodup) (hk : k ∈ l) {s : State} (hs : I s) :
    ∃ u, I u ∧ read u k = read s k ∧ read (l.foldl f s) k = read (f u k) k := by
  induction l generalizing s with
  | nil => cases hk
  | cons j l ih =>
    obtain ⟨hj, hl⟩ := List.nodup_cons.1 nd
    rcases List.mem_cons.1 hk with rfl | hkl
    · exact ⟨s, hs, rfl, read_foldl_notMem other hj _⟩
    · obtain ⟨u, hu, e, r⟩ := ih hl hkl (keep s j hs)
      exact ⟨u, hu, e.trans (other s j k fun h => hj (h ▸ hkl)), r⟩

end Places

theorem mem_bitsOf {n m k : Nat} : k ∈ bitsOf n m ↔ k < n ∧ m.testBit k = true := by simp [bitsOf]

theorem bitsOf_nodup (n m : Nat) : (bitsOf n m).Nodup := List.nodup_range.filter _

/-! ### Event words -/

/-- Latch n of t is that of s, with its cause cleared where `one`, unless set again in the present tick. -/
def LatchWritten (s t : State) (n : Nat) (one : Bool) : Prop :=
  (evSrc t n).cause =
    if one then w1c (evSrc s n).cause (maskOff 1 (if (evSrc s n).againAt = now s then (evSrc s n).again else 0)) else (evSrc s n).cause

theorem evSrc_lower_same (s : State) (n m : Nat) : evSrc (lower s n m) n = clearCauses s (evSrc s n) m := evSrc_setEvSrc_same ..

theorem evSrc_lower_other (s : State) (n m k : Nat) (h : k ≠ n) : evSrc (lower s n m) k = evSrc s k :=
  evSrc_setEvSrc_other _ _ _ _ h

/-- A clear asks of the rest of the state the tick alone. -/
theorem clearCauses_of_tl {s t : State} (h : t.tl = s.tl) (v : EvSrc) (m : Nat) : clearCauses t v m = clearCauses s v m := by
  unfold clearCauses freshCauses
  rw [h]

theorem clearEventWord_tl (s : State) (base n w : Nat) : (clearEventWord s base n w).tl = s.tl :=
  (same_clearEventWord (ps := 0x1) s base n w (by decide) same_refl).get .tl (by decide)

theorem evSrc_clearEventWord (s : State) (base n w b : Nat) (hb : b < n) :
    evSrc (clearEventWord s base n w) (base + b) =
      if w.testBit b then clearCauses s (evSrc s (base + b)) 1 else evSrc s (base + b) := by
  have other : ∀ (t : State) (j k : Nat), k ≠ j → evSrc (lower t (base + j) 1) (base + k) = evSrc t (base + k) :=
    fun t j k h => evSrc_lower_other t _ 1 _ (by omega)
  by_cases h : w.testBit b = true
  · obtain ⟨u, hu, e, r⟩ := read_foldl_mem (read := fun t k => evSrc t (base + k)) (I := fun t => t.tl = s.tl) other
      (fun _ _ h => h) (bitsOf_nodup n w) (mem_bitsOf.2 ⟨hb, h⟩) rfl
    rw [if_pos h, clearEventWord, r, evSrc_lower_same, e, clearCauses_of_tl hu]
  · rw [if_neg h]
    exact read_foldl_notMem (read := fun t k => evSrc t (base + k)) other (fun m => h (mem_bitsOf.1 m).2) s

theorem evSrc_clearEventWord_outside (s : State) (base n w k : Nat) (h : k < base ∨ base + n ≤ k) :
    evSrc (clearEventWord s base n w) k = evSrc s k := by
  refine List.foldlRecOn (motive := fun t => evSrc t k = evSrc s k) (bitsOf n w) _ rfl fun t ht b hb => ?_
  have hbn := (mem_bitsOf.1 hb).1
  exact (evSrc_lower_other t _ 1 k (by omega)).trans ht

/-- A write to an event word is a write of each of its latches. -/
theorem latchWritten_clearEventWord (s : State) (base n w b : Nat) (hb : b < n) :
    LatchWritten s (clearEventWord s base n w) (base + b) (w.testBit b) := by
  unfold LatchWritten
  rw [evSrc_clearEventWord s base n w b hb]
  split <;> rfl

theorem latchWritten_of_evSrc {s t u : State} {n : Nat} {one : Bool} (h : LatchWritten s t n one) (e : evSrc u n = evSrc t n) :
    LatchWritten s u n one := by
  unfold LatchWritten
  rw [e]
  exact h

theorem timelineWrite_latches (s : State) (v b : Nat) (hb : b < 5) :
    LatchWritten s (timelineWrite s 0x2C v) (srcTimeline b) (v.testBit b) := by
  have h := latchWritten_clearEventWord s (srcTimeline 0) 5 v b hb
  rwa [show srcTimeline 0 + b = srcTimeline b from Nat.zero_add b] at h

theorem registerWriteOf_touch_latches (s : State) (q v w : Nat) (hq : q < 8) (b : Nat) (hb : b < 5) :
    LatchWritten s (registerWriteOf s (.touch q) 0x04 v w) (srcTouchPort q b) (v.testBit b) := by
  have e : registerWriteOf s (.touch q) 0x04 v w = clearEventWord s (srcTouchPort q 0) 5 v := by simp [registerWriteOf, hq]
  rw [e]
  exact latchWritten_clearEventWord s (srcTouchPort q 0) 5 v b hb

theorem registerWriteOf_dma_latch (s : State) (c v w : Nat) (hc : c < 64) :
    LatchWritten s (registerWriteOf s .dma (0x20 * c + 4) v w) (srcDma c) (v.testBit 0) := by
  have h1 : 0x20 * c + 4 < 0x800 ∧ (0x20 * c + 4) % 0x20 = 4 := by omega
  have h2 : (0x20 * c + 4) / 0x20 = c := by omega
  have e : registerWriteOf s .dma (0x20 * c + 4) v w = clearEventWord s (srcDma c) 1 v := by simp [registerWriteOf, h1, h2]
  rw [e]
  exact latchWritten_clearEventWord s (srcDma c) 1 v 0 (by omega)

/-- The event word of haptic channel c, whose first has the supply's bit as well. -/
theorem hapticWrite_latches (s : State) (c v : Nat) (hc : c < 16) :
    (∀ b, b < 2 → LatchWritten s (hapticWrite s (16 * c + 4) v) (srcHaptic c b) (v.testBit b)) ∧
      LatchWritten s (hapticWrite s (16 * c + 4) v) srcVhap (decide (c = 0) && v.testBit 2) := by
  let u := clearEventWord s (srcHaptic c 0) 2 v
  have own : ∀ b, b < 2 → LatchWritten s u (srcHaptic c b) (v.testBit b) := latchWritten_clearEventWord s (srcHaptic c 0) 2 v
  have supply : evSrc u srcVhap = evSrc s srcVhap :=
    evSrc_clearEventWord_outside s _ 2 v _ (.inl (by unfold srcVhap srcHaptic; omega))
  have hw : hapticWrite s (16 * c + 4) v = if c = 0 then clearEventWord u srcVhap 1 (v / 4) else u := by
    have word : (decide (16 * c + 4 < 0x100) && decide ((16 * c + 4) % 16 = 4)) = true := by
      simp only [Bool.and_eq_true, decide_eq_true_eq]
      omega
    have channel : (16 * c + 4) / 16 = c := by omega
    have first : 16 * c + 4 = 4 ↔ c = 0 := by omega
    unfold hapticWrite
    rw [if_pos word, channel]
    exact ite_congr (propext first) (fun _ => rfl) fun _ => rfl
  rw [hw]
  by_cases h : c = 0
  · rw [if_pos h]
    refine ⟨fun b hb => latchWritten_of_evSrc (own b hb)
      (evSrc_clearEventWord_outside _ _ _ _ _ (.inr (by unfold srcVhap srcHaptic; omega))), ?_⟩
    have bit2 : v.testBit 2 = (v / 4).testBit 0 := by rw [show v / 4 = v / 2 ^ 2 from rfl, Nat.testBit_div_two_pow]
    have w := latchWritten_clearEventWord u srcVhap 1 (v / 4) 0 (by omega)
    unfold LatchWritten now at w ⊢
    rw [clearEventWord_tl, Nat.add_zero, supply] at w
    simpa [h, bit2] using w
  · rw [if_neg h]
    refine ⟨own, ?_⟩
    unfold LatchWritten
    simp [h, supply]

/-! ### The Ledger -/

/-- What a clear of a Ledger bit asks of it. -/
def clearFacts (s : State) (b : Nat) : Bool × Nat × Option Nat × Nat :=
  ((lgSrc s b).on, (lgSrc s b).stamp, (lgSrc s b).setAt, lgClass s b)

theorem logBit_clearFacts (s : State) (b k : Nat) : clearFacts (logBit s b) k = clearFacts s k := by
  unfold logBit
  dsimp only
  split
  · rfl
  · by_cases h : k = b
    · subst h
      unfold clearFacts
      rw [lgSrc_setLgSrc_same]
      rfl
    · unfold clearFacts
      rw [lgSrc_setLgSrc_other _ _ _ _ h]
      rfl

theorem sampleLedger_clearFacts (s : State) (k : Nat) : clearFacts (sampleLedger s) k = clearFacts s k :=
  fold_keeps (P := fun t => clearFacts t k = clearFacts s k) (fun t b h => (logBit_clearFacts t b k).trans h) rfl

theorem sampleLedger_tl (s : State) : (sampleLedger s).tl = s.tl :=
  (same_sampleLedger (ps := 0x1) s (by decide) same_refl).get .tl (by decide)

/-- An error line leaves every other source alone. -/
theorem assert_lgSrc_other (s : State) (b a : Nat) (i : Bool) (k : Nat) (h : k ≠ b) : lgSrc (assert s b a i) k = lgSrc s k := by
  by_cases hb : b < 40
  · obtain ⟨v, u, -, -, hu, hr⟩ := assert_cases s b a i hb
    have e : lgSrc u k = lgSrc s k := by
      rcases hu with ⟨-, rfl⟩ | ⟨-, rfl⟩ <;> exact lgSrc_setLgSrc_other s b k v h
    rcases hr with ⟨-, hr⟩ | ⟨-, hr | ⟨l, hr⟩⟩ <;> rw [hr]
    · rw [halt_lgSrc, e]
    · exact e
    · exact e
  · unfold assert
    rw [if_pos (by omega)]

theorem clearBit_lgSrc_other (s : State) (b k : Nat) (h : k ≠ b) : lgSrc (clearBit s b) k = lgSrc s k := by
  have e := lgSrc_setLgSrc_other s b k { logged := (lgSrc s b).logged } h
  unfold clearBit
  dsimp only
  split
  · exact (assert_lgSrc_other _ b _ _ k h).trans e
  · exact e

theorem clearBit_tl (s : State) (b : Nat) : (clearBit s b).tl = s.tl :=
  (same_clearBit (ps := 0x1) s b (by decide) same_refl).get .tl (by decide)

/-- A cleared bit is set only where its source was asserted in the present tick. -/
theorem clearBit_on (s : State) (b : Nat) (h : b < 40) :
    (lgSrc (clearBit s b) b).on = decide ((lgSrc s b).setAt = some (now s)) := by
  unfold clearBit
  dsimp only
  by_cases e : (lgSrc s b).setAt = some (now s)
  · have e' : (lgSrc s b).setAt = some (now (setLgSrc s b { logged := (lgSrc s b).logged })) := e
    rw [if_pos e', assert_sets _ _ _ _ h, decide_eq_true e]
  · have e' : ¬(lgSrc s b).setAt = some (now (setLgSrc s b { logged := (lgSrc s b).logged })) := e
    rw [if_neg e', lgSrc_setLgSrc_same, decide_eq_false e]

theorem endDegraded_lgSrc (s : State) (k : Nat) : lgSrc (endDegraded s) k = lgSrc s k := by
  unfold endDegraded
  refine fold_keeps (P := fun t => lgSrc t k = lgSrc s k) (fun t b h => ?_) rfl
  split <;> exact h

/-- A clear of a mask clears the bits of it that are set, whose class is not HALT and that the present tick has neither set
nor asserted (20 R792, R801). -/
theorem clearLedger_on (s : State) (m b : Nat) (hb : b < 40) :
    (lgSrc (clearLedger s m).2 b).on = ((lgSrc s b).on && !(m.testBit b && decide (lgClass s b ≠ 3) &&
      decide ((lgSrc s b).stamp ≠ now s) && decide ((lgSrc s b).setAt ≠ some (now s)))) := by
  have facts := sampleLedger_clearFacts s b
  have tick : now (sampleLedger s) = now s := congrArg Timeline.tick (sampleLedger_tl s)
  unfold clearLedger
  dsimp only
  rw [endDegraded_lgSrc]
  generalize sampleLedger s = u at facts tick ⊢
  unfold clearFacts at facts
  simp only [Prod.mk.injEq] at facts
  obtain ⟨on, stamp, setAt, cls⟩ := facts
  by_cases h : b ∈ (bitsOf 40 m).filter fun b => clearable u b && !justSet u b
  · obtain ⟨t, ht, e, r⟩ := read_foldl_mem (I := fun t => t.tl = u.tl) clearBit_lgSrc_other
      (fun t j h => (clearBit_tl t j).trans h) ((bitsOf_nodup 40 m).filter _) h rfl
    have tick' : now t = now s := (congrArg Timeline.tick ht).trans tick
    rw [r, clearBit_on t b hb, e, setAt, tick']
    simp only [List.mem_filter, mem_bitsOf, clearable, justSet, on, stamp, cls, tick] at h
    grind
  · rw [read_foldl_notMem clearBit_lgSrc_other h, on]
    simp only [List.mem_filter, mem_bitsOf, clearable, justSet, on, stamp, cls, tick] at h
    grind

/-- FORCE_HALT sets source 14 and latches a HALT, of that source unless one is latched (20 R796, R803). -/
theorem forceHaltNow_halts (s : State) : (lgSrc (forceHaltNow s) 14).on = true ∧
    (forceHaltNow s).lg.haltSrc = some (s.lg.haltSrc.getD 14) ∧ (forceHaltNow s).lg.forceHalt = true := by
  let z := s.modLg fun l => { l with forceHalt := true }
  refine ⟨assert_sets z 14 _ _ (by omega), ?_⟩
  obtain ⟨v, u, -, -, hu, ⟨-, hr⟩ | ⟨hc, -⟩⟩ := assert_cases z 14 deviceMask false (by omega)
  · have e : u.lg = (setLgSrc z 14 v).lg := by rcases hu with ⟨-, rfl⟩ | ⟨-, rfl⟩ <;> rfl
    show (assert z 14 deviceMask false).lg.haltSrc = _ ∧ (assert z 14 deviceMask false).lg.forceHalt = true
    rw [hr, halt_lg, e]
    exact ⟨rfl, rfl⟩
  · exact absurd rfl hc

/-- Once the Ledger is locked, the Warden's write of LG_CTRL changes nothing. -/
theorem ledgerWrite_ctrl_locked (s : State) (v : Nat) (h : s.lg.lock = true) : ledgerWrite s 0x18 v = s := by
  have e : (s.modLg fun l => { l with lock := true }) = s := by
    show { s with lg := { s.lg with lock := true } } = s
    rw [← h]
  show (if v.testBit 31 then (if s.lg.lock then s else _).modLg _ else if s.lg.lock then s else _) = s
  rw [if_pos h, e, ite_self]

theorem ledgerWrite_class (s : State) (i v : Nat) (hi : i < 4) : ledgerWrite s (8 + 4 * i) v = writeClass s i (v % 2 ^ 32) := by
  have h1 : (((8 + 4 * i = 8 ∨ 8 + 4 * i = 12) ∨ 8 + 4 * i = 16) ∨ 8 + 4 * i = 20) := by omega
  have h2 : (8 + 4 * i - 8) / 4 = i := by omega
  unfold ledgerWrite
  simp only [Bool.or_eq_true, decide_eq_true_eq]
  rw [if_pos h1, h2]

theorem writeClass_locked (s : State) (i v : Nat) (h : s.lg.lock = true) : writeClass s i v = s := if_pos h

theorem writeClass_zero (s : State) (v : Nat) (h : s.lg.lock = false) :
    writeClass s 0 v = s.modLg fun l => { l with cls0 := v } := by
  unfold writeClass
  rw [if_neg (by simp [h])]
  rfl

/-! ### The boot registers -/

theorem bootGo_starts (s : State) (v : Nat) (ho : bootOpen s = true) (hv : v.testBit 31 = true) (hs : s.pw.bootStatus ≠ 1) :
    bootGo s v = s.modPw fun p => { p with bootStatus := if inApertures s 0 s.pw.bootAddr s.pw.bootLen then 1 else 3 } := by
  unfold bootGo
  rw [if_pos (by simp [ho, hv, hs])]
  rfl

theorem bootGo_ignored (s : State) (v : Nat) (h : bootOpen s = false ∨ v.testBit 31 = false ∨ s.pw.bootStatus = 1) :
    bootGo s v = s := by
  unfold bootGo
  rcases h with h | h | h <;> simp [h]

/-! ### The retention bits -/

/-- A number put together bit by bit has those bits. -/
theorem testBit_sum_bits (p : Nat → Bool) (n k : Nat) :
    ((List.range n).foldl (fun m b => m + 2 ^ b * b2n (p b)) 0).testBit k = (decide (k < n) && p k) := by
  suffices h : ((List.range n).foldl (fun m b => m + 2 ^ b * b2n (p b)) 0) < 2 ^ n ∧
      ∀ k, ((List.range n).foldl (fun m b => m + 2 ^ b * b2n (p b)) 0).testBit k = (decide (k < n) && p k) from h.2 k
  induction n with
  | zero => simp
  | succ n ih =>
    obtain ⟨lt, ih⟩ := ih
    rw [List.range_succ, List.foldl_append, List.foldl_cons, List.foldl_nil]
    generalize (List.range n).foldl (fun m b => m + 2 ^ b * b2n (p b)) 0 = m at lt ih
    have bound : b2n (p n) ≤ 1 := by cases p n <;> decide
    refine ⟨?_, fun k => ?_⟩
    · have := Nat.mul_le_mul_left (2 ^ n) bound
      rw [Nat.pow_succ]
      omega
    · rw [Nat.add_comm, Nat.testBit_two_pow_mul_add _ lt]
      rcases Nat.lt_trichotomy k n with h | rfl | h
      · rw [if_pos h, ih]
        simp [h, Nat.lt_succ_of_lt h]
      · rw [if_neg (Nat.lt_irrefl k), Nat.sub_self]
        cases p k <;> simp [b2n]
      · obtain ⟨j, hj⟩ : ∃ j, k - n = j + 1 := ⟨k - n - 1, by omega⟩
        rw [if_neg (by omega), hj]
        have hk : ¬k < n + 1 := by omega
        cases p n <;> simp [b2n, hk, Nat.testBit_succ]

/-- Each writer takes the bits of its own bays (03 R143). -/
theorem writeRetain_testBit (s : State) (warden : Bool) (v b : Nat) (hb : b < 48) :
    (writeRetain s warden v).sr.retain.testBit b =
      if wardenBay s b = warden then v.testBit b else s.sr.retain.testBit b := by
  unfold writeRetain
  rw [modSr_sr]
  dsimp only
  rw [testBit_sum_bits]
  simp [hb]

/-- A write of SR_RETAIN's low half. -/
theorem retainHalf_low_testBit (s : State) (warden : Bool) (v b : Nat) (hb : b < 32) :
    (retainHalf s warden 0x08 v).sr.retain.testBit b =
      if wardenBay s b = warden then v.testBit b else s.sr.retain.testBit b := by
  have low : (s.sr.retain / 2 ^ 32 * 2 ^ 32 + v % 2 ^ 32).testBit b = v.testBit b := by
    rw [Nat.mul_comm, Nat.testBit_two_pow_mul_add _ (Nat.mod_lt _ (Nat.two_pow_pos 32)), if_pos hb, Nat.testBit_mod_two_pow]
    simp [hb]
  unfold retainHalf
  rw [if_pos rfl, writeRetain_testBit s warden _ b (by omega), low]

theorem retainHalf_low_host (s : State) (v b : Nat) (hb : b < 32) : (retainHalf s false 0x08 v).sr.retain.testBit b =
    if 16 * b < s.sr.wm then s.sr.retain.testBit b else v.testBit b := by
  rw [retainHalf_low_testBit s false v b hb]
  by_cases h : 16 * b < s.sr.wm <;> simp [wardenBay, h]

theorem retainHalf_low_warden (s : State) (v b : Nat) (hb : b < 32) : (retainHalf s true 0x08 v).sr.retain.testBit b =
    if 16 * b < s.sr.wm then v.testBit b else s.sr.retain.testBit b := by
  rw [retainHalf_low_testBit s true v b hb]
  simp [wardenBay]

/-! ### The commands -/

section Commands

variable {s : State} {p : State → Prop}

theorem gives_registerWrite {b : Block} {o v width : Nat} (h : p (registerWriteOf s b o v width)) :
    Gives (.registerWrite b o v width) s p := ⟨_, rfl, h⟩

theorem gives_lockSet {b : Block} (h : p (setLock s b)) : Gives (.lockSet b) s p := ⟨_, rfl, h⟩

theorem gives_bootCtrlGo {v : Nat} (h : p (bootGo s v)) : Gives (.bootCtrlGo v) s p := ⟨_, rfl, h⟩

theorem gives_lgStatusClear {m : BitVec 64} (h : p (clearLedger s m.toNat).2) : Gives (.lgStatusClear m) s p := ⟨_, rfl, h⟩

theorem gives_forceHalt (h : p (if clockRuns s then forceHaltNow s else s)) : Gives .forceHalt s p := ⟨_, rfl, h⟩

end Commands

theorem registerWriteOf_retain (s : State) (v w : Nat) :
    registerWriteOf s .stockroom 0x08 v w = retainHalf s false 0x08 v := by simp [registerWriteOf, stockroomWrite]

/-- Settles O31: each clause is the law of the operation its command calls. -/
theorem registerWrites : Obligations.RegisterWrites := by
  unfold Obligations.RegisterWrites
  refine ⟨fun s => ⟨gives_lockSet rfl, gives_lockSet rfl, gives_lockSet rfl⟩, ?eventWords, ?locked, ?classWord,
    fun s v => gives_registerWrite rfl, fun s m b hb => gives_lgStatusClear (clearLedger_on s m.toNat b hb), ?forced, ?unclocked,
    fun s v ho hv hs => gives_bootCtrlGo (bootGo_starts s v ho hv hs), ?retain,
    fun s v h => gives_bootCtrlGo (bootGo_ignored s v h)⟩
  case eventWords =>
    exact fun s v => ⟨gives_registerWrite (timelineWrite_latches s v),
      gives_registerWrite (latchWritten_clearEventWord s 0x008 5 v),
      gives_registerWrite (latchWritten_clearEventWord s 0x010 7 v),
      gives_registerWrite (latchWritten_clearEventWord s 0x018 4 v),
      fun q hq => gives_registerWrite (registerWriteOf_touch_latches s q v 32 hq),
      fun c hc => gives_registerWrite (registerWriteOf_dma_latch s c v 32 hc),
      fun c hc => gives_registerWrite (hapticWrite_latches s c v hc)⟩
  case locked =>
    exact fun s v h => ⟨gives_registerWrite (ledgerWrite_ctrl_locked s v h), fun i hi =>
      gives_registerWrite ((ledgerWrite_class s i v hi).trans (writeClass_locked s i _ h))⟩
  case classWord =>
    exact fun s v h => gives_registerWrite ((ledgerWrite_class s 0 v (by omega)).trans (writeClass_zero s _ h))
  case forced => exact fun s h => gives_forceHalt (by rw [if_pos h]; exact forceHaltNow_halts s)
  case unclocked => exact fun s h => gives_forceHalt (if_neg (by simp [h]))
  case retain =>
    exact fun s v b hb => ⟨gives_registerWrite (by rw [registerWriteOf_retain, retainHalf_low_host s v b hb]),
      gives_registerWrite (retainHalf_low_warden s v b hb)⟩

end Sys2Proof.Machine
end

section
/-! PROOFS. The wake sequence (O36): what a ready stage, a late one, PWR_REQ and PGOOD leave in the power block. -/

namespace Sys2Proof.Machine

/-- What a stage in progress says of the power block. -/
theorem inStage_facts {s : State} (h : inStage s = true) :
    (s.pw.state = .waking ∨ s.pw.state = .booting) ∧ 1 ≤ s.pw.stage ∧ s.pw.stage ≤ 4 := by
  simp only [inStage, Bool.and_eq_true, Bool.or_eq_true, decide_eq_true_eq] at h
  obtain ⟨⟨⟨hs, h1⟩, h4⟩, -⟩ := h
  exact ⟨hs.imp_right And.left, h1, h4⟩

theorem assert_pw (s : State) (b a : Nat) (i : Bool) : (assert s b a i).pw = s.pw :=
  (same_assert (ps := 0x800000) s b a i (by decide) same_refl).get .pw (by decide)

theorem clearBays_pw (s : State) : (clearBays s).pw = s.pw :=
  (same_clearBays (ps := 0x800000) s (by decide) same_refl).get .pw (by decide)

/-- The power block once the logic stage has ended: a wake looks again for the image that the host brought, a cold boot for the
one BOOT_SEL names. -/
def logicEnded (p : Power) : Power :=
  if p.state = .waking then if p.pcieBoot then { p with boot := .pcie, bootStatus := 0 } else p
  else { p with boot := if p.bootSel = 2 then .pcie else .slotA }

theorem endLogic_pw (s : State) : (endLogic s).pw = logicEnded s.pw := by
  have e : (if s.pw.retried then assert s 39 0 else s).pw = s.pw := by
    split
    · exact assert_pw ..
    · rfl
  unfold endLogic
  generalize (if s.pw.retried then assert s 39 0 else s) = u at e ⊢
  rw [← e]
  unfold logicEnded
  dsimp only
  split
  · show (if u.pw.pcieBoot then _ else clearLocks u).pw = _
    split <;> rfl
  · rfl

theorem logicEnded_keeps (p : Power) :
    (logicEnded p).stage = p.stage ∧ (logicEnded p).retrying = p.retrying ∧ (logicEnded p).state = p.state := by
  unfold logicEnded
  split
  · split <;> exact ⟨rfl, rfl, rfl⟩
  · exact ⟨rfl, rfl, rfl⟩

theorem logicEnded_boot {p : Power} (h : p.state = .booting) : (logicEnded p).boot = if p.bootSel = 2 then .pcie else .slotA := by
  unfold logicEnded
  rw [if_neg (by simp [h])]

/-- The power block as a stage's end leaves it, whatever the stage. -/
def stagePassed (p : Power) : Power := { p with stage := p.stage + 1, retrying := false, notReady := false }

theorem stageUp_pw {s : State} (h : inStage s = true) (hr : s.pw.notReady = false) :
    (stageUp s).pw = if s.pw.stage = 4 then logicEnded (stagePassed s.pw) else stagePassed s.pw := by
  have e : (if s.pw.stage = 3 then clearBays s else s).pw = s.pw := by
    split
    · exact clearBays_pw s
    · rfl
  unfold stageUp
  rw [if_neg (by simp [h, hr])]
  dsimp only
  generalize (if s.pw.stage = 3 then clearBays s else s) = u at e ⊢
  split
  · rw [endLogic_pw, modPw_pw, e]
    rfl
  · rw [modPw_pw, e]
    rfl

theorem stageUp_next {s : State} (h : inStage s = true) (hr : s.pw.notReady = false) :
    (stageUp s).pw.stage = s.pw.stage + 1 ∧ (stageUp s).pw.retrying = false ∧ (stageUp s).pw.state = s.pw.state ∧
      (s.pw.stage = 4 → s.pw.state = .booting → (stageUp s).pw.boot = if s.pw.bootSel = 2 then .pcie else .slotA) := by
  rw [stageUp_pw h hr]
  split
  · obtain ⟨stage, retrying, state⟩ := logicEnded_keeps (stagePassed s.pw)
    exact ⟨stage, retrying, state, fun _ hb => logicEnded_boot hb⟩
  · next h4 => exact ⟨rfl, rfl, rfl, fun e => absurd e h4⟩

theorem stageUp_idle {s : State} (h : inStage s = false ∨ s.pw.notReady = true) : stageUp s = s := if_pos (by simpa using h)

theorem stageLate_idle {s : State} (h : inStage s = false) : stageLate s = s := if_pos (by simp [h])

/-- The first timeout of a stage begins its retry, shows it in WK_STATUS and takes PWR_REQ down in stage 1 (21 R821). -/
theorem stageLate_retries {s : State} (h : inStage s = true) (hr : s.pw.retrying = false) :
    (stageLate s).pw.stage = s.pw.stage ∧ (stageLate s).pw.retrying = true ∧
      (stageLate s).pw.retries.testBit (s.pw.stage - 1) = true ∧ (stageLate s).pw.pwrLow = decide (s.pw.stage = 1) ∧
      (stageLate s).pw.state = s.pw.state := by
  obtain ⟨-, h1, -⟩ := inStage_facts h
  have e : stageLate s = (noteWake s (s.pw.stage + 4)).modPw fun p =>
      { p with retrying := true, retried := true, notReady := false, pwrLow := decide (s.pw.stage = 1) } := by
    unfold stageLate
    simp [h, hr]
  rw [e]
  refine ⟨rfl, rfl, ?_, rfl, rfl⟩
  show (if s.pw.stage + 4 < 5 then s.pw.retries else setBit s.pw.retries (s.pw.stage + 4 - 5)).testBit (s.pw.stage - 1) = true
  rw [if_neg (by omega), testBit_setBit, show s.pw.stage + 4 - 5 = s.pw.stage - 1 by omega]
  simp

theorem stageLate_fails {s : State} (h : inStage s = true) (hr : s.pw.retrying = true) :
    stageLate s = s.modPw fun p => { p with state := .wakeFailed, failedStage := s.pw.stage } := by
  unfold stageLate
  simp [h, hr]

theorem raisePwrReq_low {s : State} (hs : s.pw.state = .waking ∨ s.pw.state = .booting) (h : s.pw.pwrLow = true) :
    raisePwrReq s = s.modPw fun p => { p with pwrLow := false } := if_pos (by simpa [h] using hs)

theorem raisePwrReq_high {s : State} (h : s.pw.pwrLow = false) : raisePwrReq s = s := if_neg (by simp [h])

theorem losePgood_run {s : State} (h : inRun s = true) : (lgSrc (losePgood s) 12).on = true := by
  unfold losePgood
  rw [if_pos (by simp [h])]
  exact assert_sets s 12 _ _ (by decide)

theorem losePgood_stage {s : State} (h : inStage s = true) (h2 : 2 ≤ s.pw.stage) :
    losePgood s = s.modPw fun p => { p with notReady := true } := by
  obtain ⟨hs, -, h4⟩ := inStage_facts h
  have run : inRun s = false := by rcases hs with e | e <;> simp [inRun, e]
  have five : s.pw.stage ≠ 5 := by omega
  unfold losePgood
  simp [run, five, h, h2]

/-- Settles O36: each clause is what the operation of its command does in that case. -/
theorem wakeSequence : Obligations.WakeSequence := by
  unfold Obligations.WakeSequence
  exact ⟨fun s h hr => ⟨_, rfl, stageUp_next h hr⟩, fun s h => ⟨_, rfl, stageUp_idle h⟩,
    fun s h hr => ⟨_, rfl, stageLate_retries h hr⟩, fun s h hr => ⟨_, rfl, stageLate_fails h hr⟩,
    fun s h => ⟨_, rfl, stageLate_idle h⟩, fun s hs h => ⟨_, rfl, raisePwrReq_low hs h⟩,
    fun s h => ⟨_, rfl, raisePwrReq_high h⟩, fun s h => ⟨_, rfl, losePgood_run h⟩,
    fun s h h2 => ⟨_, rfl, losePgood_stage h h2⟩, fun s => ⟨_, rfl, rfl⟩⟩

end Sys2Proof.Machine
end

section
/-! PROOFS. The frames of the supervisor port (O32): the checks every frame meets, and what each of the four frames does. -/

namespace Sys2Proof.Machine

/-- Free data is of the length asked for, and takes that many free bytes. -/
theorem freshBytes_eq (s : State) (n : Nat) : ∃ bs : List Byte, bs.length = n ∧ freshBytes s n = (bs, s.modFree (· + n)) := by
  induction n generalizing s with
  | zero => exact ⟨[], rfl, rfl⟩
  | succ n ih =>
    obtain ⟨bs, len, e⟩ := ih (s.modFree (· + 1))
    refine ⟨(Config.free s.free).setWidth 8 :: bs, congrArg (· + 1) len, ?_⟩
    have total : (s.modFree (· + 1)).modFree (· + n) = s.modFree (· + (n + 1)) := by
      show { s with free := s.free + 1 + n } = { s with free := s.free + (n + 1) }
      rw [Nat.add_assoc, Nat.add_comm 1 n]
    rw [freshBytes, e, total]

/-- The state after an answer that is not OK: its status, its sequence number and n bytes of free data. -/
def Refused (s : State) (status seq n : Nat) (t : State) : Prop :=
  ∃ bs : List Byte, bs.length = n ∧ t = svAnswer (s.modFree (· + n)) status seq bs

theorem svRefuse_refused (s : State) (status seq n : Nat) : Refused s status seq n (svRefuse s status seq n) := by
  obtain ⟨bs, len, e⟩ := freshBytes_eq s n
  refine ⟨bs, len, ?_⟩
  unfold svRefuse
  rw [e]

/-! ### The checks of a frame (19 R782, R784) -/

section Frame

variable {s : State} {seq len : Nat} {crc : Bool} {refusal : Option Nat} {good : State → State}

theorem svFrame_stopped (h : clockRuns s = false) : svFrame s seq len crc refusal good = s := if_pos (by simp [h])

theorem svFrame_disabled (up : clockRuns s = true) (off : s.wd.fuses.svEnable = false) :
    Refused s 5 seq len (svFrame s seq len crc refusal good) := by
  unfold svFrame
  rw [if_neg (by simp [up]), if_pos (by simp [off])]
  exact svRefuse_refused ..

variable (up : clockRuns s = true) (on : s.wd.fuses.svEnable = true)
include up on

theorem svFrame_crcError : Refused (svError s) 1 seq len (svFrame s seq len false refusal good) := by
  unfold svFrame
  rw [if_neg (by simp [up]), if_neg (by simp [on]), if_pos (by rfl)]
  exact svRefuse_refused ..

theorem svFrame_badAddr : Refused (svError s) 2 seq len (svFrame s seq len true (some 2) good) := by
  have e : svFrame s seq len true (some 2) good = svRefuse (svError s) 2 seq len := by simp [svFrame, up, on]
  exact e ▸ svRefuse_refused ..

/-- A refusal other than BAD_ADDR is not counted. -/
theorem svFrame_refused {r : Nat} (h : r ≠ 2) : Refused s r seq len (svFrame s seq len true (some r) good) := by
  have e : svFrame s seq len true (some r) good = svRefuse s r seq len := by simp [svFrame, up, on]
  exact e ▸ svRefuse_refused ..

theorem svFrame_good : svFrame s seq len true none good = good s := by simp [svFrame, up, on]

end Frame

/-! ### The registers the port writes (01 R23) -/

/-- Below 0x100 no register takes a write of the port. -/
theorem supervisor_low (s : State) (o v w : Nat) (h : o < 0x100) : registerWriteOf s .supervisor o v w = s := by
  have : ¬0x100 ≤ o := by omega
  simp [registerWriteOf, this]

theorem supervisor_sel (s : State) (v w : Nat) :
    registerWriteOf s .supervisor 0x120 v w = s.modLg fun l => { l with sel := v % 64 } := by
  simp [registerWriteOf, supervisorWrite, ledgerShared]

theorem supervisor_ctrl (s : State) (v w : Nat) :
    registerWriteOf s .supervisor 0x118 v w = if v.testBit 30 then forceHaltNow s else s := by
  simp [registerWriteOf, supervisorWrite]

/-! ### READ and WRITE -/

section Good

variable {s : State} (up : clockRuns s = true) (on : s.wd.fuses.svEnable = true)
include up on

theorem svReadOf_good (seq a n : Nat) (h : svRange a n = true) : svReadOf s seq a n true =
    svAnswer s 0 seq ((List.range (n / 4)).flatMap fun i => leBytes 4 (svReg s (a + 4 * i))) := by
  unfold svReadOf
  rw [if_pos h, svFrame_good up on]

theorem svReadOf_badAddr (seq a n : Nat) (h : svRange a n = false) : Refused (svError s) 2 seq n (svReadOf s seq a n true) := by
  unfold svReadOf
  rw [if_neg (by simp [h])]
  exact svFrame_badAddr up on

/-- A WRITE writes its words in ascending order. -/
theorem svWriteOf_good (seq a : Nat) (d : List Byte) (h : svRange a d.length = true) : svWriteOf s seq a d true =
    svAnswer ((List.range (d.length / 4)).foldl
      (fun u i => registerWriteOf u .supervisor (a + 4 * i) (fieldOf d (4 * i) 4) 32) s) 0 seq [] := by
  unfold svWriteOf
  rw [if_pos h, svFrame_good up on]

theorem svWriteOf_badAddr (seq a : Nat) (d : List Byte) (h : svRange a d.length = false) :
    Refused (svError s) 2 seq 0 (svWriteOf s seq a d true) := by
  unfold svWriteOf
  rw [if_neg (by simp [h])]
  exact svFrame_badAddr up on

theorem svWriteOf_word (seq a : Nat) (d : List Byte) (len : d.length = 4) (h : svRange a 4 = true) :
    svWriteOf s seq a d true = svAnswer (registerWriteOf s .supervisor a (leNat d) 32) 0 seq [] := by
  have whole : fieldOf d (4 * 0) 4 = leNat d := congrArg leNat (List.take_of_length_le (by simp [len]))
  rw [svWriteOf_good up on seq a d (by rw [len]; exact h), len]
  show svAnswer (registerWriteOf s .supervisor (a + 4 * 0) (fieldOf d (4 * 0) 4) 32) 0 seq [] = _
  rw [whole]
  rfl

theorem svWriteOf_forceHalt (seq : Nat) (d : List Byte) (len : d.length = 4) (h : (leNat d).testBit 30 = true) :
    (svWriteOf s seq 0x118 d true).lg.forceHalt = true ∧ (lgSrc (svWriteOf s seq 0x118 d true) 14).on = true ∧
      (svWriteOf s seq 0x118 d true).lg.haltSrc = some (s.lg.haltSrc.getD 14) := by
  obtain ⟨source, latched, forced⟩ := forceHaltNow_halts s
  rw [svWriteOf_word up on seq 0x118 d len (by decide), supervisor_ctrl, if_pos h]
  exact ⟨forced, source, latched⟩

theorem svWriteOf_noForce (seq : Nat) (d : List Byte) (len : d.length = 4) (h : (leNat d).testBit 30 = false) :
    svWriteOf s seq 0x118 d true = svAnswer s 0 seq [] := by
  rw [svWriteOf_word up on seq 0x118 d len (by decide), supervisor_ctrl, if_neg (by simp [h])]

theorem svWriteOf_low (seq a : Nat) (d : List Byte) (h : svRange a d.length = true) (low : a + d.length ≤ 0x10) :
    svWriteOf s seq a d true = svAnswer s 0 seq [] := by
  rw [svWriteOf_good up on seq a d h]
  refine congrArg (svAnswer · 0 seq []) (List.foldlRecOn (motive := fun u => u = s) _ _ rfl fun u hu i hi => ?_)
  rw [List.mem_range] at hi
  rw [supervisor_low u _ _ _ (by omega), hu]

/-! ### The mailbox (19 R785) -/

theorem mboxSendOf_empty (seq : Nat) (m : List Byte) (h : s.wd.inbox = none) :
    mboxSendOf s seq m true = svAnswer (s.modWd fun w => { w with inbox := some m }) 0 seq [] := by
  unfold mboxSendOf
  rw [if_neg (by simp [h]), svFrame_good up on]

theorem mboxSendOf_busy (seq : Nat) (m : List Byte) {k : List Byte} (h : s.wd.inbox = some k) :
    Refused s 3 seq 0 (mboxSendOf s seq m true) := by
  unfold mboxSendOf
  rw [if_pos (by simp [h])]
  exact svFrame_refused up on (by decide)

/-- A reply is sent up to the length asked for; what is asked for beyond it is free. -/
theorem mboxRecvOf_reply (seq n : Nat) {r : List Byte} (h : s.wd.reply = some r) : ∃ bs : List Byte, bs.length = n - r.length ∧
    mboxRecvOf s seq n true =
      svAnswer ((s.modFree (· + (n - r.length))).modWd fun w => { w with reply := none }) 0 seq (r.take n ++ bs) := by
  obtain ⟨bs, len, e⟩ := freshBytes_eq s (n - r.length)
  refine ⟨bs, len, ?_⟩
  unfold mboxRecvOf
  rw [if_neg (by simp [h]), svFrame_good up on]
  simp only [h, Option.getD_some, e]

theorem mboxRecvOf_within (seq n : Nat) {r : List Byte} (h : s.wd.reply = some r) (le : n ≤ r.length) :
    mboxRecvOf s seq n true = svAnswer (s.modWd fun w => { w with reply := none }) 0 seq (r.take n) := by
  obtain ⟨bs, len, e⟩ := mboxRecvOf_reply up on seq n h
  rw [Nat.sub_eq_zero_of_le le] at len e
  rw [e, List.eq_nil_of_length_eq_zero len, List.append_nil]
  rfl

theorem mboxRecvOf_beyond (seq n : Nat) {r : List Byte} (h : s.wd.reply = some r) (lt : r.length < n) :
    ∃ bs : List Byte, bs.length = n - r.length ∧ mboxRecvOf s seq n true =
      svAnswer ((s.modFree (· + (n - r.length))).modWd fun w => { w with reply := none }) 0 seq (r ++ bs) := by
  have e := mboxRecvOf_reply up on seq n h
  rwa [List.take_of_length_le (Nat.le_of_lt lt)] at e

theorem mboxRecvOf_empty (seq n : Nat) (h : s.wd.reply = none) : Refused s 4 seq n (mboxRecvOf s seq n true) := by
  unfold mboxRecvOf
  rw [if_pos (by simp [h])]
  exact svFrame_refused up on (by decide)

end Good

theorem frameCut_counts {s : State} (up : clockRuns s = true) : frameCut s = svError s := if_pos up

theorem frameCut_stopped {s : State} (h : clockRuns s = false) : frameCut s = s := if_neg (by simp [h])

/-- Settles O32: the checks of a frame are those of `svFrame`; an answered frame does what its own operation says. -/
theorem supervisorFrames : Obligations.SupervisorFrames := by
  unfold Obligations.SupervisorFrames
  intro s
  refine ⟨fun up on => ⟨?read, ?readElsewhere, ?write, ?control, ?low, ?writeElsewhere, ?send, ?busy, ?receive, ?beyond, ?empty, ?crc⟩,
    ?disabled, fun up => ⟨_, rfl, frameCut_counts up⟩, ?stopped⟩
  case read => exact fun seq a n h => ⟨_, rfl, svReadOf_good up on seq a n h⟩
  case readElsewhere => exact fun seq a n h => ⟨_, rfl, svReadOf_badAddr up on seq a n h⟩
  case write => exact fun seq a d h => ⟨_, rfl, svWriteOf_good up on seq a d h⟩
  case control =>
    exact fun seq d len => ⟨⟨_, rfl, by rw [svWriteOf_word up on seq 0x120 d len (by decide), supervisor_sel]⟩,
      fun h => ⟨_, rfl, svWriteOf_forceHalt up on seq d len h⟩, fun h => ⟨_, rfl, svWriteOf_noForce up on seq d len h⟩⟩
  case low => exact fun seq a d h le => ⟨_, rfl, svWriteOf_low up on seq a d h le⟩
  case writeElsewhere => exact fun seq a d h => ⟨_, rfl, svWriteOf_badAddr up on seq a d h⟩
  case send => exact fun seq m h => ⟨_, rfl, mboxSendOf_empty up on seq m h⟩
  case busy => exact fun seq m k h => ⟨_, rfl, mboxSendOf_busy up on seq m h⟩
  case receive => exact fun seq n r h le => ⟨_, rfl, mboxRecvOf_within up on seq n h le⟩
  case beyond => exact fun seq n r h lt => ⟨_, rfl, mboxRecvOf_beyond up on seq n h lt⟩
  case empty => exact fun seq n h => ⟨_, rfl, mboxRecvOf_empty up on seq n h⟩
  case crc =>
    exact fun seq a n d m => ⟨⟨_, rfl, svFrame_crcError up on⟩, ⟨_, rfl, svFrame_crcError up on⟩,
      ⟨_, rfl, svFrame_crcError up on⟩, ⟨_, rfl, svFrame_crcError up on⟩⟩
  case disabled =>
    exact fun up off seq a n d m g => ⟨⟨_, rfl, svFrame_disabled up off⟩, ⟨_, rfl, svFrame_disabled up off⟩,
      ⟨_, rfl, svFrame_disabled up off⟩, ⟨_, rfl, svFrame_disabled up off⟩⟩
  case stopped =>
    exact fun h seq a n d m g => ⟨⟨_, rfl, svFrame_stopped h⟩, ⟨_, rfl, svFrame_stopped h⟩, ⟨_, rfl, svFrame_stopped h⟩,
      ⟨_, rfl, svFrame_stopped h⟩, ⟨_, rfl, frameCut_stopped h⟩⟩

end Sys2Proof.Machine
end

section
/-! PROOFS. The error lines (O57): what an error line does to its source, the Ledger's event, the HALT latch, the commands in
flight and the reactions, and which line each fault asserts. -/

namespace Sys2Proof.Machine

/-! ### An assertion (20 R789 to R793) -/

section Assert

variable (s : State) (b a : Nat) (i : Bool)

/-- An assertion stamps a source that was clear, and the Ledger's event gets its class's cause. -/
theorem assert_stamps (hb : b < 40) (off : (lgSrc s b).on = false) : (lgSrc (assert s b a i) b).stamp = now s ∧
    (evSrc (assert s b a i) srcLedger).cause.testBit (lgClass s b) = true := by
  obtain ⟨v, u, -, stamp, hu, hr⟩ := assert_cases s b a i hb
  obtain ⟨on, -⟩ | ⟨-, rfl⟩ := hu
  · rw [off] at on
    cases on
  have source : lgSrc (raise (setLgSrc s b v) srcLedger (lgClass s b)) b = v := lgSrc_setLgSrc_same s b v
  have cause := raise_sets (setLgSrc s b v) srcLedger (lgClass s b)
  obtain ⟨-, hr⟩ | ⟨-, hr | ⟨k, hr⟩⟩ := hr <;> rw [hr]
  · rw [halt_lgSrc, source, evSrc_of_ev (halt_ev _ b)]
    exact ⟨stamp off, cause⟩
  · exact ⟨(congrArg LgSrc.stamp source).trans (stamp off), cause⟩
  · exact ⟨(congrArg LgSrc.stamp source).trans (stamp off), cause⟩

theorem assert_halts (hb : b < 40) (hc : lgClass s b = 3) :
    (assert s b a i).lg.haltSrc = some (s.lg.haltSrc.getD b) ∧ (assert s b a i).lg.reactions = [] := by
  obtain ⟨v, u, -, -, hu, ⟨-, hr⟩ | ⟨hc', -⟩⟩ := assert_cases s b a i hb
  · have latch : u.lg.haltSrc = s.lg.haltSrc := by obtain ⟨-, rfl⟩ | ⟨-, rfl⟩ := hu <;> rfl
    rw [hr, halt_lg, latch]
    exact ⟨rfl, rfl⟩
  · exact absurd hc hc'

theorem assert_spares (hb : b < 40) (hc : lgClass s b ≠ 3) :
    (assert s b a i).lg.haltSrc = s.lg.haltSrc ∧ (assert s b a i).flights = s.flights := by
  obtain ⟨v, u, -, -, hu, ⟨hc', -⟩ | ⟨-, hr⟩⟩ := assert_cases s b a i hb
  · exact absurd hc' hc
  · have rest : u.lg.haltSrc = s.lg.haltSrc ∧ u.flights = s.flights := by obtain ⟨-, rfl⟩ | ⟨-, rfl⟩ := hu <;> exact ⟨rfl, rfl⟩
    obtain hr | ⟨k, hr⟩ := hr <;> rw [hr] <;> exact rest

/-- A source that was clear starts a reaction of its own where none is in progress. -/
theorem assert_reacts (hb : b < 40) (hc : lgClass s b = 1 ∨ lgClass s b = 2) (off : (lgSrc s b).on = false)
    (low : (lgSrc s b).raised = 0) (idle : inProgress s.lg.reactions = none) :
    ∃ r ∈ (assert s b a i).lg.reactions, r.source = b ∧ r.cls = lgClass s b ∧ r.started = false := by
  have halt : lgClass s b ≠ 3 := by omega
  have react : lgClass s b ≠ 0 := by omega
  have e : (assert s b a i).lg.reactions = joinReaction s.lg.reactions b (lgClass s b) (maskOff a (lgSrc s b).affect) (now s) := by
    unfold assert
    simp [show ¬40 ≤ b by omega, off, low, idle, halt, react]
    rfl
  rw [e]
  simp [joinReaction, idle]

end Assert

/-! ### The lines and what asserts them -/

theorem faultLine_stopped {s : State} (h : clockRuns s = false) (b a : Nat) : faultLine s b a = s := if_neg (by simp [h])

theorem faultLine_runs {s : State} (h : clockRuns s = true) (b a : Nat) : faultLine s b a = assert s b a := if_pos h

/-- A missed order asserts source 23 and ends with a final completion; of the rest no part is the Ledger's or a flight. -/
theorem missOrder_ends (s : State) (f : Flight) (t : Nat) : ∃ u g v, g.id = f.id ∧
    Same 0x80 (assert s 23 (partyBit f.src.fn)) u ∧ Same 0x880 (finish u g v) (missOrder s f t) := by
  unfold missOrder
  dsimp only
  generalize assert s 23 (partyBit f.src.fn) = z
  have first : Same 0x80 z (if f.phase = .first then accept z f f.verdict.inst f.verdict.value else z) :=
    same_ite (same_accepted _ _ _ _ (by decide) same_refl) same_refl
  refine ⟨_, _, _, ?id, ?before, same_ite (same_restoreCharges _ _ (by decide) same_refl) same_refl⟩
  case id => rfl
  case before => exact same_ite (same_modHead _ _ _ (by decide) first) first

theorem missOrder_lg (s : State) (f : Flight) (t : Nat) : (missOrder s f t).lg = (assert s 23 (partyBit f.src.fn)).lg := by
  obtain ⟨u, g, v, -, hu, ht⟩ := missOrder_ends s f t
  exact (ht.get .lg (by decide)).trans ((finish_lg u g v).trans (hu.get .lg (by decide)))

/-- The missed command is no longer in flight. -/
theorem missOrder_flights (s : State) (f : Flight) (t : Nat) : ∀ x ∈ (missOrder s f t).flights, x.id ≠ f.id := by
  obtain ⟨u, g, v, id, -, ht⟩ := missOrder_ends s f t
  rw [show (missOrder s f t).flights = (finish u g v).flights from ht.get .flights (by decide), finish_flights, id]
  exact fun x hx => by simpa using (List.mem_filter.1 hx).2

/-- A parity error of an apprentice sets source 3, whatever becomes of the command in it. -/
theorem parityFault_apprentice (s : State) (n : Nat) : (lgSrc (parityFault s .apprentice n) 3).on = true := by
  have own : (lgSrc (assert s 3 (everyTenancy s)) 3).on = true := assert_sets s 3 _ _ (by decide)
  unfold parityFault
  dsimp only
  split
  · split
    · exact own
    · rw [lgSrc_of_lg (missOrder_lg ..)]
      exact assert_keeps_on _ 23 _ _ 3 own
  · exact own

theorem loseD2d_safe {s : State} (up : clockRuns s = true) (h : s.hokusaSafe = false) :
    (loseD2d s).hokusaSafe = true ∧ (lgSrc (loseD2d s) 4).on = true := by
  let z := s.modHokusaSafe fun _ => true
  let u := zeroOutputs (abortScans (cutEffects z)) fun u => !isPort u
  have e : loseD2d s = assert u 4 (everyTenancy z) := if_neg (by simp [up, h])
  have outputs : Same 0x1000000 z u := same_zeroOutputs _ _ (by decide) (same_abortScans _ (by decide)
    (same_cutEffects _ (by decide) same_refl))
  rw [e]
  exact ⟨(same_assert u 4 _ _ (by decide) outputs).get .hokusaSafe (by decide), assert_sets u 4 _ _ (by decide)⟩

theorem loseD2d_idle {s : State} (h : clockRuns s = false ∨ s.hokusaSafe = true) : loseD2d s = s := if_pos (by simpa using h)

/-- The commands of error lines, with the source each sets. -/
def lineSources : List (Instr × Nat) :=
  [(.cpLockstep, 0), (.cpSramUe, 2), (.clockFail, 9), (.tempHigh, 10), (.tempCrit, 11), (.supplyFault, 12), (.pcieFatal, 38)]

theorem lineSources_faultLine {p : Instr × Nat} (h : p ∈ lineSources) (s : State) :
    p.2 < 40 ∧ ∃ a, exec p.1 s = .next (faultLine s p.2 a) := by
  simp only [lineSources, List.mem_cons, List.not_mem_nil, or_false] at h
  rcases h with rfl | rfl | rfl | rfl | rfl | rfl | rfl <;> exact ⟨by decide, _, rfl⟩

/-- Settles O57: every line is an assertion of its source, which `assert_stamps`, `assert_halts`, `assert_spares` and
`assert_reacts` describe. -/
theorem errorLines : Obligations.ErrorLines := by
  unfold Obligations.ErrorLines
  intro s
  refine ⟨fun p hp => ?lines, ?parity, fun up h => ⟨_, rfl, loseD2d_safe up h⟩, fun h => ⟨_, rfl, loseD2d_idle h⟩, _, rfl, rfl⟩
  case lines =>
    obtain ⟨hb, a, e⟩ := lineSources_faultLine hp s
    refine ⟨fun h => ⟨_, e, faultLine_stopped h _ a⟩, fun up => ⟨_, e, ?_⟩⟩
    rw [faultLine_runs up]
    exact ⟨assert_sets s p.2 a _ hb, assert_stamps s p.2 a _ hb, assert_halts s p.2 a _ hb, assert_spares s p.2 a _ hb,
      assert_reacts s p.2 a _ hb⟩
  case parity =>
    intro p hp n
    simp only [List.mem_cons, List.not_mem_nil, or_false] at hp
    rcases hp with rfl | rfl | rfl | rfl | rfl | rfl | rfl
    · exact ⟨_, rfl, parityFault_apprentice s n⟩
    all_goals exact ⟨_, rfl, assert_sets s _ _ _ (by decide)⟩

end Sys2Proof.Machine
end

section
/-! PROOFS. Triggers, commanded starts and late work orders (O51): what a start does to its channel, and what becomes of the
command that asked for it. -/

namespace Sys2Proof.Machine

/-! ### An effect that begins (14 R614, R615) -/

/-- A half-cycle that begins leaves the stage, the effect and its start as they are. -/
theorem beginHalf_keeps (s : State) (c : Nat) : (hapOf (beginHalf s c) c).stage = (hapOf s c).stage ∧
    (hapOf (beginHalf s c) c).effect = (hapOf s c).effect ∧ (hapOf (beginHalf s c) c).started = (hapOf s c).started := by
  unfold beginHalf
  dsimp only
  rw [hapOf_modHap_same]
  exact ⟨rfl, rfl, rfl⟩

theorem beginSegment_drives (s : State) (c : Nat) (quiet : Bool) : (hapOf (beginSegment s c quiet) c).stage = .driving ∧
    (hapOf (beginSegment s c quiet) c).effect = (hapOf s c).effect ∧
    (hapOf (beginSegment s c quiet) c).started = (hapOf s c).started := by
  unfold beginSegment
  dsimp only
  obtain ⟨stage, effect, started⟩ := beginHalf_keeps (modHap s c _) c
  rw [stage, effect, started, hapOf_modHap_same]
  exact ⟨rfl, rfl, rfl⟩

theorem beginEffect_drives (s : State) (c n : Nat) (quiet : Bool) : (hapOf (beginEffect s c n quiet) c).stage = .driving ∧
    (hapOf (beginEffect s c n quiet) c).effect = n ∧ (hapOf (beginEffect s c n quiet) c).started = now s := by
  unfold beginEffect
  obtain ⟨stage, effect, started⟩ := beginSegment_drives (modHap s c fun v =>
    { v with effect := n, segment := 0, started := now s, waiting := none }) c quiet
  dsimp only
  rw [stage, effect, started, hapOf_modHap_same]
  exact ⟨rfl, rfl, rfl⟩

/-! ### A start that is taken (14 R617, R618, R623) -/

/-- The channel has taken no start or stop in the present HAPTIC cycle. -/
def Untaken (s : State) (c : Nat) : Prop := ∀ k r, (hapOf s c).taken = some (k, r) → k ≠ hapCycle (now s)

/-- The state in which a start of a rank has been taken and counted. -/
def startTaken (s : State) (c rank : Nat) : State :=
  modHap (modHap s c fun v => { v with taken := some (hapCycle (now s), rank) }) c
    fun v => { v with starts := min 0xFFFFFFFF (v.starts + 1) }

theorem startTaken_stage (s : State) (c rank : Nat) : (hapOf (startTaken s c rank) c).stage = (hapOf s c).stage := by
  unfold startTaken
  rw [hapOf_modHap_same, hapOf_modHap_same]

theorem takeTurn_untaken {s : State} {c : Nat} (rank : Nat) (h : Untaken s c) :
    takeTurn s c rank = some (modHap s c fun v => { v with taken := some (hapCycle (now s), rank) }) := by
  unfold takeTurn
  dsimp only
  split
  · next k r e => rw [if_pos (h k r e)]
  · rfl

section Start

variable {s : State} {c : Nat} (n rank : Nat) (ready : hapReady s c = true) (free : Untaken s c)
include ready free

theorem startEffect_begins (quiet : (hapOf s c).stage = .idle ∨ (hapOf s c).stage = .gap) :
    startEffect s c n rank = (beginEffect (startTaken s c rank) c n false, false) := by
  have still : ¬((hapOf (startTaken s c rank) c).stage = .driving ∨ (hapOf (startTaken s c rank) c).stage = .braking) := by
    rw [startTaken_stage]
    rcases quiet with e | e <;> simp [e]
  unfold startEffect
  rw [if_neg (by simp [ready]), takeTurn_untaken rank free]
  exact if_neg (by simpa [startTaken] using still)

theorem startEffect_waits (busy : (hapOf s c).stage = .driving ∨ (hapOf s c).stage = .braking) :
    startEffect s c n rank = (modHap (startTaken s c rank) c fun v => { v with waiting := some n }, true) := by
  have drives : (hapOf (startTaken s c rank) c).stage = .driving ∨ (hapOf (startTaken s c rank) c).stage = .braking := by
    rwa [startTaken_stage]
  unfold startEffect
  rw [if_neg (by simp [ready]), takeTurn_untaken rank free]
  exact if_pos (by simpa [startTaken] using drives)

theorem startEffect_drives (quiet : (hapOf s c).stage = .idle ∨ (hapOf s c).stage = .gap) :
    (hapOf (startEffect s c n rank).1 c).stage = .driving ∧ (hapOf (startEffect s c n rank).1 c).effect = n ∧
      (hapOf (startEffect s c n rank).1 c).started = now s := by
  rw [startEffect_begins n rank ready free quiet]
  exact beginEffect_drives (startTaken s c rank) c n false

end Start

theorem startEffect_flights (s : State) (c n rank : Nat) : (startEffect s c n rank).1.flights = s.flights :=
  (same_startEffect (ps := 0x800) s c n rank (by decide) same_refl).flights_eq

/-! ### Triggers (14 R620, R625) -/

theorem trigEdge_filters (s : State) (c : Nat) (b : Bool) : (hapOf (trigEdge s c b) c).pin = b ∧
    (hapOf (trigEdge s c b) c).edgeAt =
      if (hapOf s c).map.enable = true ∧ ((hapOf s c).map.edge = 2 ∨ (hapOf s c).map.edge = b2n (!b)) ∧ (hapOf s c).rearmAt ≤ now s
      then some (now s) else none := by
  unfold trigEdge
  rw [hapOf_modHap_same]
  refine ⟨rfl, ?_⟩
  simp [and_assoc]

/-- The filter of a channel's pin: the edge it looks at, and when it is armed again. -/
def pinFilter (s : State) (c : Nat) : Option Nat × Nat := ((hapOf s c).edgeAt, (hapOf s c).rearmAt)

theorem pinFilter_modHap (s : State) (c : Nat) (f : HapChan → HapChan) :
    pinFilter (modHap s c f) c = ((f (hapOf s c)).edgeAt, (f (hapOf s c)).rearmAt) := by
  unfold pinFilter
  rw [hapOf_modHap_same]

theorem pinFilter_dropStart (s : State) (c : Nat) : pinFilter (dropStart s c) c = pinFilter s c := pinFilter_modHap s c _

theorem pinFilter_beginHalf (s : State) (c : Nat) : pinFilter (beginHalf s c) c = pinFilter s c := pinFilter_modHap s c _

theorem pinFilter_beginSegment (s : State) (c : Nat) (q : Bool) : pinFilter (beginSegment s c q) c = pinFilter s c :=
  (pinFilter_beginHalf ..).trans (pinFilter_modHap s c _)

theorem pinFilter_beginEffect (s : State) (c n : Nat) (q : Bool) : pinFilter (beginEffect s c n q) c = pinFilter s c :=
  (pinFilter_beginSegment ..).trans (pinFilter_modHap s c _)

theorem undoStart_filter (v : HapChan) (k : Nat) :
    ((undoStart v k).edgeAt, (undoStart v k).rearmAt) = (v.edgeAt, v.rearmAt) := by
  unfold undoStart
  split
  · rfl
  · split <;> rfl

theorem pinFilter_takeTurn {s t : State} {c rank : Nat} (h : takeTurn s c rank = some t) : pinFilter t c = pinFilter s c := by
  unfold takeTurn at h
  dsimp only at h
  split at h
  · split at h
    · cases h
      exact pinFilter_modHap s c _
    · split at h
      · cases h
        exact (pinFilter_dropStart ..).trans ((pinFilter_modHap s c _).trans (undoStart_filter ..))
      · cases h
  · cases h
    exact pinFilter_modHap s c _

/-- No start touches the filter of its channel's pin. -/
theorem pinFilter_startEffect (s : State) (c n rank : Nat) : pinFilter (startEffect s c n rank).1 c = pinFilter s c := by
  unfold startEffect
  split
  · exact pinFilter_dropStart s c
  split
  · exact pinFilter_dropStart s c
  · next t e =>
    have counted : pinFilter (modHap t c fun v => { v with starts := min 0xFFFFFFFF (v.starts + 1) }) c = pinFilter s c :=
      (pinFilter_modHap t c _).trans (pinFilter_takeTurn e)
    dsimp only
    split
    · exact (pinFilter_modHap _ c _).trans counted
    · exact (pinFilter_beginEffect ..).trans counted

theorem pinFilter_triggerEffect (s : State) (c n rank : Nat) : pinFilter (triggerEffect s c n rank) c = pinFilter s c := by
  unfold triggerEffect
  split
  · rfl
  split
  · exact pinFilter_dropStart s c
  · exact pinFilter_startEffect s c n rank

theorem triggerEffect_drops {s : State} {c : Nat} (n rank : Nat) (configured : (hapOf s c).stage ≠ .unconfigured)
    (still : holderStill s c = true) : triggerEffect s c n rank = dropStart s c := by
  unfold triggerEffect
  rw [if_neg configured, if_pos still]

theorem triggerEffect_starts {s : State} {c : Nat} (n rank : Nat) (ready : hapReady s c = true) (still : holderStill s c = false) :
    triggerEffect s c n rank = (startEffect s c n rank).1 := by
  have configured : (hapOf s c).stage ≠ .unconfigured := fun e => by simp [hapReady, e] at ready
  unfold triggerEffect
  rw [if_neg configured, if_neg (by simp [still])]

theorem dropStart_counts (s : State) (c : Nat) : (hapOf (dropStart s c) c).dropped = min 0xFFFFFFFF ((hapOf s c).dropped + 1) ∧
    (hapOf (dropStart s c) c).stage = (hapOf s c).stage := by
  have e : hapOf (dropStart s c) c = { hapOf s c with dropped := min 0xFFFFFFFF ((hapOf s c).dropped + 1) } :=
    hapOf_modHap_same s c _
  rw [e]
  exact ⟨rfl, rfl⟩

/-- The state in which a trigger has been accepted and has not acted yet. -/
def triggerTaken (s : State) (c : Nat) : State :=
  modHap s c fun v => { v with edgeAt := none, rearmAt := now s + 400 * (hapOf s c).map.rearm }

theorem hapOf_triggerTaken (s : State) (c : Nat) : hapOf (triggerTaken s c) c =
    { hapOf s c with edgeAt := none, rearmAt := now s + 400 * (hapOf s c).map.rearm } := hapOf_modHap_same s c _

theorem acceptTrigger_idle {s : State} {c : Nat} (h : trigDue s c = false) : acceptTrigger s c = s := if_pos (by simp [h])

theorem acceptTrigger_due {s : State} {c : Nat} (h : trigDue s c = true) :
    acceptTrigger s c = triggerEffect (triggerTaken s c) c (hapOf s c).map.effect 1 := if_neg (by simp [h])

theorem holderStill_triggerTaken (s : State) (c : Nat) : holderStill (triggerTaken s c) c = holderStill s c := by
  unfold holderStill
  rw [hapOf_triggerTaken]
  rfl

theorem hapReady_triggerTaken (s : State) (c : Nat) : hapReady (triggerTaken s c) c = hapReady s c := by
  unfold hapReady
  rw [hapOf_triggerTaken]
  rfl

theorem acceptTrigger_rearms {s : State} {c : Nat} (h : trigDue s c = true) : (hapOf (acceptTrigger s c) c).edgeAt = none ∧
    (hapOf (acceptTrigger s c) c).rearmAt = now s + 400 * (hapOf s c).map.rearm := by
  have e := pinFilter_triggerEffect (triggerTaken s c) c (hapOf s c).map.effect 1
  unfold pinFilter at e
  rw [hapOf_triggerTaken] at e
  rw [acceptTrigger_due h]
  exact Prod.mk.inj e

theorem acceptTrigger_drops {s : State} {c : Nat} (h : trigDue s c = true) (still : holderStill s c = true)
    (configured : (hapOf s c).stage ≠ .unconfigured) :
    (hapOf (acceptTrigger s c) c).dropped = min 0xFFFFFFFF ((hapOf s c).dropped + 1) ∧
      (hapOf (acceptTrigger s c) c).stage = (hapOf s c).stage := by
  have e := dropStart_counts (triggerTaken s c) c
  rw [hapOf_triggerTaken] at e
  rw [acceptTrigger_due h, triggerEffect_drops _ _ (by rwa [hapOf_triggerTaken]) (by rwa [holderStill_triggerTaken])]
  exact e

theorem acceptTrigger_drives {s : State} {c : Nat} (h : trigDue s c = true) (still : holderStill s c = false)
    (ready : hapReady s c = true) (free : Untaken s c) (quiet : (hapOf s c).stage = .idle ∨ (hapOf s c).stage = .gap) :
    (hapOf (acceptTrigger s c) c).stage = .driving ∧ (hapOf (acceptTrigger s c) c).effect = (hapOf s c).map.effect ∧
      (hapOf (acceptTrigger s c) c).started = now s := by
  have ready' : hapReady (triggerTaken s c) c = true := by rwa [hapReady_triggerTaken]
  have free' : Untaken (triggerTaken s c) c := by
    unfold Untaken
    rw [hapOf_triggerTaken]
    exact free
  rw [acceptTrigger_due h, triggerEffect_starts _ _ ready' (by rwa [holderStill_triggerTaken])]
  exact startEffect_drives _ 1 ready' free' (by rwa [hapOf_triggerTaken])

/-! ### Work orders that are executed (02 R75; 14 R622, R624) -/

theorem flightAt_none {s : State} {src : CmdSrc} {p : Flight → Bool} (h : ∀ f ∈ s.flights, f.src = src → p f = false) :
    flightAt s src p = none := List.find?_eq_none.2 fun f hf => by
  intro e
  simp only [Bool.and_eq_true, decide_eq_true_eq] at e
  exact absurd e.2 (by simp [h f hf e.1])

theorem instantCome_timed {s : State} {f : Flight} (h : instantCome s f = true) : ∃ t, f.phase = .timed t ∧ t ≤ now s := by
  unfold instantCome at h
  split at h
  · next t e => exact ⟨t, e, of_decide_eq_true h⟩
  · cases h

theorem executeOrder_due {s : State} {f : Flight} (h : instantCome s f = true) :
    executeOrder s f = if f.op = 0x81 ∨ f.op = 0x82 then performHaptic s f else s := by
  obtain ⟨t, timed, come⟩ := instantCome_timed h
  unfold executeOrder
  simp only [timed, come, decide_true, Bool.and_true, Bool.or_eq_true, decide_eq_true_eq]

theorem execWorkOrderExecute_none {s : State} {src : CmdSrc} (h : ∀ f ∈ s.flights, f.src = src → instantCome s f = false) :
    execWorkOrderExecute src s = .next s := by
  unfold execWorkOrderExecute
  rw [flightAt_none h]

theorem execWorkOrderExecute_some {s : State} {src : CmdSrc} {f : Flight} (h : (flightAt s src fun x => instantCome s x) = some f) :
    execWorkOrderExecute src s = .next (if f.op = 0x81 ∨ f.op = 0x82 then performHaptic s f else s) := by
  obtain ⟨-, come, -⟩ := flightAt_some h
  unfold execWorkOrderExecute
  rw [h]
  exact congrArg _ (executeOrder_due come)

/-- A PLAY or STOP that a later command of its instant supersedes. -/
def Superseded (s : State) (f : Flight) : Prop := (f.aux.drop 2).headD 0 = 1 ∨ s.flights.any (supersedes s f) = true

theorem performHaptic_superseded {s : State} {f : Flight} (h : Superseded s f) (safe : s.hokusaSafe = false) :
    performHaptic s f = finishDone s f (2 ^ 31) := by
  have sup : ((f.aux.drop 2).headD 0 = 1 || s.flights.any (supersedes s f)) = true := by simpa [Superseded] using h
  unfold performHaptic
  dsimp only
  rw [if_pos sup]
  exact (if_neg (by simp [safe])).trans (if_pos (by decide))

theorem performHaptic_play {s : State} {f : Flight} (h : ¬Superseded s f) (safe : s.hokusaSafe = false) (op : f.op = 0x81) :
    performHaptic s f = finishDone (startEffect s (f.aux.headD 16) (dget f.desc 17 1) 2).1 f
      (b2n (startEffect s (f.aux.headD 16) (dget f.desc 17 1) 2).2) := by
  have alone : ¬((f.aux.drop 2).headD 0 = 1 || s.flights.any (supersedes s f)) = true := by simpa [Superseded] using h
  unfold performHaptic
  dsimp only
  rw [if_neg alone, if_neg (by simp [safe]), if_neg (by decide), if_pos op]

theorem hapOf_finishDone (s : State) (f : Flight) (v c : Nat) : hapOf (finishDone s f v) c = hapOf s c := by
  have e : (finishDone s f v).haptic = s.haptic :=
    (same_finishDone (ps := 0x200000) s f v (by decide) same_refl).get .haptic (by decide)
  unfold hapOf
  rw [e]

/-- A PLAY that is not superseded starts its effect on a channel that is ready and has taken nothing in this cycle. -/
theorem performHaptic_starts {s : State} {f : Flight} {c : Nat} (alone : ¬Superseded s f) (op : f.op = 0x81)
    (channel : f.aux.headD 16 = c) (ready : hapReady s c = true) (free : Untaken s c) :
    ((performHaptic s f).flights = s.flights.filter fun x => x.id ≠ f.id) ∧
      ((hapOf s c).stage = .idle ∨ (hapOf s c).stage = .gap → (hapOf (performHaptic s f) c).stage = .driving ∧
        (hapOf (performHaptic s f) c).effect = dget f.desc 17 1 ∧ (hapOf (performHaptic s f) c).started = now s) ∧
      ((hapOf s c).stage = .driving ∨ (hapOf s c).stage = .braking →
        (hapOf (performHaptic s f) c).waiting = some (dget f.desc 17 1)) := by
  have safe : s.hokusaSafe = false :=
    Bool.eq_false_iff.2 fun e => by simp [hapReady, e] at ready
  rw [performHaptic_play alone safe op, channel, hapOf_finishDone]
  refine ⟨?flights, fun quiet => startEffect_drives _ 2 ready free quiet, fun busy => ?waits⟩
  case flights =>
    unfold finishDone
    rw [finish_flights, startEffect_flights]
  case waits =>
    rw [startEffect_waits _ 2 ready free busy, hapOf_modHap_same]

/-! ### Work orders that come late (01 R25) -/

theorem execWorkOrderLate_none {s : State} {src : CmdSrc} (h : ∀ f ∈ s.flights, f.src = src → orderInstant s f = none) :
    execWorkOrderLate src s = .next s := by
  unfold execWorkOrderLate
  rw [flightAt_none fun f hf e => Option.isSome_eq_false_iff.2 (Option.isNone_iff_eq_none.2 (h f hf e))]

theorem execWorkOrderLate_some {s : State} {src : CmdSrc} {f : Flight} {b : Nat}
    (h : (flightAt s src fun x => (orderInstant s x).isSome) = some f) (hb : orderInstant s f = some b) :
    execWorkOrderLate src s = .next (if b ≤ now s then missOrder s f b else s) := by
  have e : lateOrder s f = if b ≤ now s then missOrder s f b else s := by
    unfold lateOrder
    rw [hb]
  unfold execWorkOrderLate
  rw [h]
  exact congrArg _ e

theorem missOrder_asserts (s : State) (f : Flight) (t : Nat) : (lgSrc (missOrder s f t) 23).on = true := by
  rw [lgSrc_of_lg (missOrder_lg s f t)]
  exact assert_sets s 23 _ _ (by decide)

/-- Settles O51: triggers by `acceptTrigger`'s laws, a commanded start by `performHaptic`'s, a late order by `missOrder`'s. -/
theorem triggersAndWorkOrders : Obligations.TriggersAndWorkOrders := by
  unfold Obligations.TriggersAndWorkOrders
  intro s c src
  refine ⟨fun b => ⟨_, rfl, trigEdge_filters s c b⟩, fun h => ⟨_, rfl, acceptTrigger_idle h⟩, ?trigger,
    fun h => ⟨s, execWorkOrderExecute_none h, rfl⟩, ?other, ?play, ?superseded, ?late,
    fun h => ⟨s, execWorkOrderLate_none h, rfl⟩⟩
  case trigger =>
    intro h
    obtain ⟨edge, rearm⟩ := acceptTrigger_rearms h
    exact ⟨_, rfl, edge, rearm, acceptTrigger_drops h, acceptTrigger_drives h⟩
  case other =>
    exact fun f h h1 h2 => ⟨_, execWorkOrderExecute_some h, if_neg (not_or.2 ⟨h1, h2⟩)⟩
  case play =>
    intro f h op channel mark last ready free
    refine ⟨_, execWorkOrderExecute_some h, ?_⟩
    rw [if_pos (.inl op)]
    exact performHaptic_starts (not_or.2 ⟨mark, by simp [last]⟩) op channel ready free
  case superseded =>
    exact fun f h op sup safe =>
      ⟨_, execWorkOrderExecute_some h, (if_pos op).trans (performHaptic_superseded sup safe)⟩
  case late =>
    intro f b h hb
    refine ⟨fun come => ⟨_, execWorkOrderLate_some h hb, ?_⟩,
      fun ahead => ⟨_, execWorkOrderLate_some h hb, if_neg (Nat.not_le.2 ahead)⟩⟩
    rw [if_pos come]
    exact ⟨missOrder_asserts s f b, missOrder_flights s f b⟩

end Sys2Proof.Machine
end

section
/-! PROOFS. What every step keeps: the invariant (O5), and what a step does to the tick count (O2, O8). Each command's own
operation keeps the queue, a latched HALT, the tick count and the invariant; a tick keeps all but the count. -/

namespace Sys2Proof.Machine

/-! ### Commands -/

/-- The commands that put the block at its state after a reset: RESET_N and the AON supply. -/
def coldStart : Instr → Bool
  | .resetRelease _ | .resetAssertion | .aonSupplyRise | .aonSupplyFall => true
  | _ => false

section
variable {q : List Instr} {h k : Option Nat} {ok : Bool} {s t : State} {c : Instr}

theorem kept_next {u : State} (e : (Host.Outcome.next u : Answer) = .next t) (w : Kept q h k ok u) : Kept q h k ok t := by
  cases e
  exact w

/-- Every command but a cold start keeps the queue, a latched HALT, the tick count and the invariant. -/
theorem kept_exec (warm : coldStart c = false) (e : exec c s = .next t) (w : Kept q h k ok s) : Kept q h k ok t := by
  cases c
  case resetRelease | resetAssertion | aonSupplyRise | aonSupplyFall => cases warm
  case nop | deviceIdentify | hostSuspend | resourceQuery | timelineConfig | timelineSteer | timelineStatus |
      karbobinLoad | tenancyCreate | tenancyGrant | tenancyResume | tenancyReset | tenancyRemove | tenancyFreeze
      | tenancySave | tenancyRestore | tenancyQuery | tenancyAperture | layerAlloc | layerClut | layerPolicy |
      layerStatus | headConfig | headEnable | headDisable | headPush | headUnderrun | headQuiet | headDsc |
      headStatus | headLink | assayAlloc | assayExpect | assayRead | gpuContextCreate | gpuContextDestroy |
      gpuShaderLoad | gpuJobKill | gpuContextQuery | touchPortConfig | touchScanConfig | touchBaselineLoad |
      touchBaselineSave | touchSelftest | touchCalibration | touchKeys | touchReportRing | hapticConfig |
      hapticPlay | hapticStop | hapticTriggerMap | hapticStatus | audioPortConfig | audioStreamConfig |
      audioStreamStart | audioStreamStop | audioGain | audioFilter | audioJackStatus | dmaChannelConfig |
      dmaCopy | dmaFill | dmaCompare | dmaCopy2d | eventRingConfig | eventTarget | eventMask | eventPendSet |
      eventGlobalDisable | eventStatus | powerState | powerRetain | powerGate | powerWakeConfig | memSpare |
      memStatus | memPowerdown | memLatency | stockroomQuery | secureMeasurements | secureAppletLoad |
      secureAppletStart | secureAppletStop | secureLayer | migrationKeyOffer | migrationKeyAccept |
      migrationKeyDestroy | diagLedgerRead | diagFaultLogRead | diagLedgerClear | diagFaultInject =>
    exact kept_next e (kept_ringCommand _ _ _ _ _ _ (fun _ _ u => u) w)
  case tenancyQuiesce => exact kept_next e (kept_ringCommand _ _ _ _ _ _ kept_commitQuiesce w)
  case layerUpdate => exact kept_next e (kept_ringCommand _ _ _ _ _ _ kept_commitLayerUpdate w)
  case layerFree => exact kept_next e (kept_ringCommand _ _ _ _ _ _ kept_commitLayerFree w)
  case layerMove => exact kept_next e (kept_ringCommand _ _ _ _ _ _ kept_commitLayerMove w)
  case assayConfig => exact kept_next e (kept_ringCommand _ _ _ _ _ _ kept_commitAssayEnd w)
  case assayFree => exact kept_next e (kept_ringCommand _ _ _ _ _ _ kept_commitAssayEnd w)
  case shadowRegion => exact kept_next e (kept_ringCommand _ _ _ _ _ _ kept_commitShadowRegion w)
  case gpuJobSubmit => exact kept_next e (kept_ringCommand _ _ _ _ _ _ kept_commitJobSubmit w)
  case audioRoute => exact kept_next e (kept_ringCommand _ _ _ _ _ _ kept_commitAudioRoute w)
  case audioTone => exact kept_next e (kept_ringCommand _ _ _ _ _ _ kept_commitAudioTone w)
  case dmaResume => exact kept_next e (kept_ringCommand _ _ _ _ _ _ kept_commitDmaResume w)
  case dmaAbort => exact kept_next e (kept_ringCommand _ _ _ _ _ _ kept_commitDmaAbort w)
  case memRetire => exact kept_next e (kept_ringCommand _ _ _ _ _ _ kept_commitMemRetire w)
  case stockroomStager => exact kept_next e (kept_ringCommand _ _ _ _ _ _ kept_commitStockroomStager w)
  case crTail => exact kept_next e (kept_ite (kept_keepTail _ _ _ w) (kept_ite (kept_ringDoorbell _ _ _ _ w) w))
  case ccHead => exact kept_next e (kept_ite (kept_completionDoorbell _ _ _ _ w) w)
  case evHead =>
    refine kept_next e ?_
    split
    · exact kept_eventDoorbell _ _ _ _ _ w
    · exact w
  case crCfgEnable => exact kept_next e (kept_ite (kept_enableCommandRing _ _ _ _ w) w)
  case crCfgDisable => exact kept_next e (kept_ite (kept_disableCommandRing _ _ _ _ w) w)
  case ccCfgEnable => exact kept_next e (kept_ite (kept_enableCompletionRing _ _ _ _ w) w)
  case ccCfgDisable => exact kept_next e (kept_ite (kept_disableCompletionRing _ _ _ _ w) w)
  case tlcTickLo => exact kept_next e (kept_latchTlc _ _ w)
  case bootCtrlGo => exact kept_next e (kept_bootGo _ _ w)
  case secureWmWrite => exact kept_next e (kept_writeSrMark _ _ w)
  case dramWmWrite => exact kept_next e (kept_writeDramMark _ _ w)
  case lockSet => exact kept_next e (kept_setLock _ _ w)
  case lgStatusClear => exact kept_next e (kept_clearLedger _ _ w)
  case registerWrite => exact kept_next e (kept_registerWriteOf _ _ _ _ _ w)
  case svRead => exact kept_next e (kept_svReadOf _ _ _ _ _ w)
  case svWrite => exact kept_next e (kept_svWriteOf _ _ _ _ _ w)
  case mboxSend => exact kept_next e (kept_mboxSendOf _ _ _ _ w)
  case mboxRecv => exact kept_next e (kept_mboxRecvOf _ _ _ _ w)
  case ttSprite => exact kept_next e (kept_ttSpriteOf _ _ w)
  case ttPalette => exact kept_next e (kept_ttPaletteOf _ _ w)
  case ttImage => exact kept_next e (kept_ttImageOf _ _ w)
  case regRead => exact kept_next e (kept_regReadOf _ _ w)
  case debugUnlock => exact kept_next e (kept_debugUnlockOf _ _ w)
  case i2cAddressMatch => exact kept_next e (kept_i2cWrite _ _ _ w)
  case wakeRead => exact kept_next e (kept_i2cRead _ _ w)
  case referenceEdge => exact kept_next e (kept_ite (kept_referenceEdgeOf _ _ _ w) w)
  case epochStart => exact kept_next e (kept_epochStartOf _ _ w)
  case turnStart => exact kept_next e (kept_turnStartOf _ _ w)
  case descriptorArrival => exact kept_next e (kept_descriptorArrives _ _ _ w)
  case descriptorFetchTimeout => exact kept_next e (kept_descriptorLate _ _ w)
  case firstCompletion => exact kept_next e (kept_firstCompletionOf _ _ w)
  case hostDataArrival => exact kept_next e (kept_hostDataOf _ _ _ w)
  case moderationTimeout => exact kept_next e (kept_windowEnds _ _ _ w)
  case eventClaim => exact kept_next e (kept_claimEvent _ _ w)
  case functionLevelReset => exact kept_next e (kept_resetFunction _ _ w)
  case d3hotEntry => exact kept_next e (kept_enterD3 _ _ w)
  case d0Return => exact kept_next e (kept_returnToD0 _ _ w)
  case busMasterEnableClear => exact kept_next e (kept_clearMaster _ _ w)
  case vectorUnmask => exact kept_next e (kept_ite (kept_unmask _ _ _ w) w)
  case pcieLinkDown => exact kept_next e (kept_loseLink _ _ w)
  case workOrderExecute =>
    refine kept_next e ?_
    split
    · exact kept_executeOrder _ _ w
    · exact w
  case workOrderLate =>
    refine kept_next e ?_
    split
    · exact kept_lateOrder _ _ w
    · exact w
  case lineStart => exact kept_next e (kept_lineStartOf _ _ w)
  case stagerSwitch => exact kept_next e (kept_stagerSwitchOf _ _ w)
  case stagerRequest => exact kept_next e (kept_stagerRequestOf _ _ _ w)
  case stagingArrival => exact kept_next e (kept_stagingArrivalOf _ _ _ w)
  case underrun => exact kept_next e (kept_underrunOf _ _ w)
  case teEdge => exact kept_next e (kept_teEdgeOf _ _ _ w)
  case teMissed => exact kept_next e (kept_teMissedOf _ _ w)
  case pushEnd => exact kept_next e (kept_pushEndOf _ _ w)
  case linkLost => exact kept_next e (kept_linkLostOf _ _ w)
  case hpdRise => exact kept_next e (kept_hpdOf _ _ w)
  case hpdIrq => exact kept_next e (kept_hpdOf _ _ w)
  case retrainAttempt => exact kept_next e (kept_retrainOf _ _ w)
  case linkTrainingDone => exact kept_next e (kept_trainingDoneOf _ _ _ w)
  case limitInstant => exact kept_next e (kept_limitOf _ _ w)
  case jobStart => exact kept_next e (kept_startJob _ _ w)
  case jobComplete => exact kept_next e (kept_completeJob _ _ _ _ _ w)
  case timeLimit => exact kept_next e (kept_limitJob _ _ w)
  case tileListPoolOverflow => exact kept_next e (kept_overflowPool _ _ _ w)
  case shaderAccessFault => exact kept_next e (kept_accessFault _ _ w)
  case grTileUe => exact kept_next e (kept_tileUe _ _ w)
  case groveResetDone => exact kept_next e (kept_resetDone _ _ w)
  case grReset => exact kept_next e (kept_resetOverrun _ _ w)
  case scanStart => exact kept_next e (kept_scanStartOf _ _ w)
  case stepEnd => exact kept_next e (kept_endStep _ _ _ _ _ w)
  case scanProductsDone => exact kept_next e (kept_ite (kept_makeProducts _ _ w) w)
  case reportWrite => exact kept_next e (kept_writeReports _ _ w)
  case keyTrigger => exact kept_next e (kept_triggerKeys _ _ w)
  case touchStale => exact kept_next e (kept_markStale _ _ _ w)
  case txOvercurrent => exact kept_next e (kept_stopTx _ _ _ w)
  case watchScan => exact kept_next e (kept_scanWatch _ _ w)
  case hapTrigEdge => exact kept_next e (kept_trigEdge _ _ _ w)
  case triggerAccept => exact kept_next e (kept_acceptTrigger _ _ w)
  case hapTrigWake => exact kept_next e (kept_trigWake _ _ w)
  case zeroCrossing => exact kept_next e (kept_crossZero _ _ _ _ _ w)
  case segmentEnd => exact kept_next e (kept_endSegment _ _ w)
  case brakeEnd => exact kept_next e (kept_endBrake _ _ w)
  case actuatorFault => exact kept_next e (kept_hapFault _ _ _ w)
  case vhapLow => exact kept_next e (kept_vhapFell _ _ w)
  case vhapRecover => exact kept_next e (kept_vhapRose _ _ w)
  case sampleStart => exact kept_next e (kept_unitSampleOf _ _ _ w)
  case frameSyncEdge => exact kept_next e (kept_portEdgeOf _ _ _ w)
  case syncLost => exact kept_next e (kept_syncLostOf _ _ w)
  case audioPeriod => exact kept_next e (kept_audioPeriodOf _ _ w)
  case audioCompare => exact kept_next e (kept_ite (kept_compareAudio _ _ w) w)
  case jackInsertion => exact kept_next e (kept_jackSwitch _ _ _ w)
  case jackDebounce => exact kept_next e (kept_jackDebounced _ _ w)
  case jackClassified => exact kept_next e (kept_jackFound _ _ _ _ w)
  case jackRemoval => exact kept_next e (kept_jackRemoved _ _ w)
  case audioButton => exact kept_next e (kept_buttonHeld _ _ _ w)
  case audioDriver => exact kept_next e (kept_driverTrip _ _ w)
  case dmaTransferDone =>
    refine kept_next e ?_
    split
    · exact kept_transferDone _ _ _ (fun _ _ _ _ u => kept_foldDma _ _ _ _ u) w
    · exact w
  case completionTimeout => exact kept_next e (kept_failAccess _ _ _ w)
  case urCa => exact kept_next e (kept_failAccess _ _ _ w)
  case noMaster => exact kept_next e (kept_failAccess _ _ _ w)
  case poisonedCompletion =>
    refine kept_next e ?_
    split
    · exact kept_markPoisoned _ _ _ _ w
    · exact w
  case stockroomRequest => exact kept_servePortFed _ _ e w
  case shelfZeroised => exact kept_next e (kept_shelfDone _ _ w)
  case dramRequest => exact kept_next e (kept_serveDram _ _ w)
  case plotZeroised => exact kept_next e (kept_plotDone _ _ w)
  case mr4Poll => exact kept_next e (kept_pollMr4 _ _ w)
  case refresh => exact kept_next e (kept_useRank _ _ w)
  case powerDownEntry => exact kept_next e (kept_powerDownRank _ _ w)
  case trainingDone => exact kept_next e (kept_trainingEnds _ _ _ _ w)
  case serviceResume => exact kept_next e (kept_resumeWarden _ _ _ w)
  case appletEnd => exact kept_next e (kept_appletEnds _ _ _ _ w)
  case limitMs => exact kept_next e (kept_appletLimit _ _ w)
  case parityError => exact kept_next e (kept_parityFault _ _ _ w)
  case resumption => exact kept_next e (kept_resume _ _ _ _ (fun _ _ _ u => kept_ringDoorbell _ _ _ _ u) w)
  case bootImageLoad => exact kept_next e (kept_loadImage _ _ _ _ w)
  case busMasterEnableSet => exact kept_next e (kept_setMaster _ _ w)
  case wardenReply => exact kept_next e (kept_wardenReplyOf _ _ w)
  case selftestDone => exact kept_next e (kept_endSelftest _ _ _ _ _ _ w)
  case auxDcsReply => exact kept_next e (kept_linkReplyOf _ _ _ w)
  case jobRunTimeFault => exact kept_next e (kept_runFault _ _ _ w)
  case onSegmentRise => exact kept_next e (kept_riseSegment _ _ w)
  case timedFinalCompletion => exact kept_next e (kept_timedFinalOf _ _ w)
  case tlTickLo => exact kept_next e (kept_latchTick _ w)
  case forceHalt => exact kept_next e (kept_ite (kept_forceHaltNow _ w) w)
  case frameCutShort => exact kept_next e (kept_frameCut _ w)
  case heartbeat => exact kept_next e (kept_heartbeat _ w)
  case pgoodFall => exact kept_next e (kept_losePgood _ w)
  case referenceEdgeMissing => exact kept_next e (kept_edgeMissing _ w)
  case steerTimeout => exact kept_next e (kept_steerLate _ w)
  case pf0FunctionLevelReset => exact kept_next e (kept_resetPf0 _ w)
  case firstPauseEnd => exact kept_next e (kept_endFirstPause _ w)
  case copyEnd => exact kept_next e (kept_endCopy _ w)
  case migrateDone => exact kept_next e (kept_endMigration _ w)
  case d2dLinkLoss => exact kept_next e (kept_loseD2d _ w)
  case d2dLinkRetrained => exact kept_next e (kept_regainD2d _ w)
  case hbTimeout => exact kept_next e (kept_ite (kept_restartWarden _ w) w)
  case wardenSelfRestart => exact kept_next e (kept_selfRestart _ w)
  case cpLockstep => exact kept_next e (kept_faultLine _ _ _ w)
  case clockFail => exact kept_next e (kept_faultLine _ _ _ w)
  case tempHigh => exact kept_next e (kept_faultLine _ _ _ w)
  case tempCrit => exact kept_next e (kept_faultLine _ _ _ w)
  case supplyFault => exact kept_next e (kept_faultLine _ _ _ w)
  case pcieFatal => exact kept_next e (kept_faultLine _ _ _ w)
  case reactionStart => exact kept_next e (kept_startReaction _ w)
  case reactionComplete => exact kept_next e (kept_completeReaction _ w)
  case entryInstant => exact kept_next e (kept_enterState _ w)
  case l2L3Ready => exact kept_next e (kept_endL2Wait _ w)
  case l2WaitTimeout => exact kept_next e (kept_ite (kept_endL2Wait _ w) w)
  case stageReady => exact kept_next e (kept_stageUp _ w)
  case stageTimeout => exact kept_next e (kept_stageLate _ w)
  case vfEnableSet => exact kept_next e (kept_setVfEnable _ w)
  case cpSramUe => exact kept_next e (kept_faultLine _ _ _ w)
  case pwrReqReassert => exact kept_next e (kept_raisePwrReq _ w)
  case rcFallback => exact kept_next e (kept_modPw w)
  case syncOutPulse => exact kept_next e (kept_syncEdges _ w)
/-- A cold start keeps the queue and the invariant. -/
theorem kept_cold (cold : coldStart c = true) (e : exec c s = .next t) (w : Kept q h k ok s) : Kept q none none ok t := by
  cases c
  case resetRelease => exact kept_next e (kept_releaseReset _ _ w).weaken
  case resetAssertion => exact kept_next e (kept_assertReset _ w).weaken
  case aonSupplyRise => exact kept_next e (kept_aonRise _ w).weaken
  case aonSupplyFall => exact kept_next e (kept_aonFall _ w)
  all_goals cases cold

/-- Every command keeps the queue and the invariant. -/
theorem kept_exec_queue (e : exec c s = .next t) (w : Kept q h k ok s) : Kept q none none ok t := by
  cases x : coldStart c
  case false => exact (kept_exec x e w).weaken
  case true => exact kept_cold x e w

end

/-! ### A tick (02 R39, 21 R807) -/

/-- The state when a tick has passed, before what falls due is queued. -/
def ticked (s : State) : State := resendPme (advance (countTicks (settle s)))

theorem idle_stopped {s : State} (h : clockRuns s = false) : idle s = s := if_pos (by simp [h])

theorem idle_runs {s : State} (h : clockRuns s = true) : idle s = (ticked s).modPending fun _ => due (ticked s) :=
  if_neg (by simp [h])

theorem step_idle {s : State} (h : s.pending = []) : step s = .next (idle s) := by
  unfold step
  rw [h]

theorem step_front {s : State} {c : Instr} {rest : List Instr} (h : s.pending = c :: rest) :
    step s = exec c (s.modPending fun _ => rest) := by
  unfold step
  rw [h]

theorem kept_ticked {q : List Instr} {h k : Option Nat} {ok : Bool} {s : State} (w : Kept q h k ok s) :
    Kept q h (k.map fun n => (n + 1) % 2 ^ 64) ok (ticked s) :=
  kept_resendPme _ (kept_advance _ (kept_countTicks _ (kept_settle _ w)))

/-- What a state keeps of itself. -/
theorem kept_self (s : State) : Kept s.pending s.lg.haltSrc (some s.tl.tick) false s :=
  ⟨rfl, fun _ e => e, fun _ e => Option.some.inj e, fun e => by cases e⟩

/-- What a state that meets the invariant keeps. -/
theorem kept_inv {s : State} (i : Inv s) : Kept s.pending none none true s :=
  ⟨rfl, fun _ e => (by cases e), fun _ e => (by cases e), fun _ => i⟩

theorem inv_modPending {s : State} (f : List Instr → List Instr) (i : Inv s) : Inv (s.modPending f) := i

theorem inv_idle {s : State} (i : Inv s) : Inv (idle s) := by
  cases runs : clockRuns s
  case false => rwa [idle_stopped runs]
  case true =>
    rw [idle_runs runs]
    exact inv_modPending _ ((kept_ticked (kept_inv i)).inv rfl)

theorem inv_exec {c : Instr} {s t : State} (i : Inv s) (e : exec c s = .next t) : Inv t :=
  (kept_exec_queue e (kept_inv i)).inv rfl

/-- Settles O5: a tick keeps the invariant, and so does each command. -/
theorem invariantKept : Obligations.InvariantKept := by
  unfold Obligations.InvariantKept
  intro s t i e
  cases p : s.pending with
  | nil =>
    rw [step_idle p] at e
    cases e
    exact inv_idle i
  | cons c rest =>
    rw [step_front p] at e
    exact inv_exec (inv_modPending _ i) e

theorem ticked_tick (s : State) : (ticked s).tl.tick = (s.tl.tick + 1) % 2 ^ 64 := (kept_ticked (kept_self s)).tick _ rfl

theorem ticked_pending (s : State) : (ticked s).pending = s.pending := (kept_ticked (kept_self s)).queue

theorem modPending_self {s : State} {q : List Instr} (h : s.pending = q) : (s.modPending fun _ => q) = s := by
  rw [← h]
  rfl

theorem modPending_twice (s : State) (p q : List Instr) : ((s.modPending fun _ => p).modPending fun _ => q) = s.modPending fun _ => q :=
  rfl

theorem idle_tick {s : State} (h : clockRuns s = true) : (idle s).tl.tick = (s.tl.tick + 1) % 2 ^ 64 := by
  rw [idle_runs h, modPending_tl, ticked_tick]

/-- Settles O2: a tick that passes counts one, and queues what is due then. -/
theorem idleStepCountsOneTick : Obligations.IdleStepCountsOneTick := by
  unfold Obligations.IdleStepCountsOneTick
  intro s empty
  refine ⟨_, step_idle empty, idle_stopped, fun runs => ⟨idle_tick runs, ?_⟩⟩
  rw [idle_runs runs]
  show due (ticked s) = due (((ticked s).modPending fun _ => due (ticked s)).modPending fun _ => [])
  rw [modPending_twice, modPending_self ((ticked_pending s).trans empty)]

theorem exec_tick {c : Instr} {s t : State} (warm : coldStart c = false) (e : exec c s = .next t) : t.tl.tick = s.tl.tick :=
  (kept_exec warm e (kept_self s)).tick _ rfl

/-- With the AON supply up a release of RESET_N is a cold start that samples BOOT_SEL. -/
theorem releaseReset_up {s : State} (h : s.pw.aonDown = false) (v : Nat) :
    releaseReset s v = coldState s true { keptPower s.pw with bootSel := v % 4 } := if_neg (by simp [h])

/-- Settles O8: a release of RESET_N starts the count, a tick advances it, and no command but a cold start sets it. -/
theorem tickCount : Obligations.TickCount := by
  unfold Obligations.TickCount
  refine ⟨fun s v up => ⟨_, rfl, by rw [releaseReset_up up]; rfl⟩, fun s empty runs => ⟨_, step_idle empty, idle_tick runs⟩, ?_⟩
  intro c s t noRelease noAssertion noRise noFall e
  refine exec_tick ?_ e
  cases c
  case resetRelease v => exact absurd rfl (noRelease v)
  case resetAssertion => exact absurd rfl noAssertion
  case aonSupplyRise => exact absurd rfl noRise
  case aonSupplyFall => exact absurd rfl noFall
  all_goals rfl

end Sys2Proof.Machine
end

section
/-! PROOFS. The state right after reset (O3, O4), the latching reads (O23), and RESET_N and the AON supply (O37). -/

namespace Sys2Proof.Machine

/-! ### The state right after reset (21 R828, 05 R200) -/

theorem tenOf_reset_guest {t : Nat} (h : 1 ≤ t) : tenOf State.reset t = {} := if_neg (by omega)

/-- Settles O3: each field has the value its part states; of the tenancies the table lists T0 alone. -/
theorem resetState : Obligations.ResetState := by
  unfold Obligations.ResetState
  have guests : ∀ t, 1 ≤ t → (tenOf State.reset t).state = .absent := by
    intro t h
    rw [tenOf_reset_guest h]
  exact ⟨rfl, rfl, rfl, rfl, rfl, rfl, rfl, rfl, rfl, rfl, rfl, rfl, guests, rfl, rfl, rfl, rfl, rfl⟩

theorem timelineOk_reset : TimelineOk {} := by
  unfold TimelineOk
  decide

/-- Settles O4: after reset there is no flight and no byte listed, and every counter is zero. -/
theorem invariantAtReset : Obligations.InvariantAtReset :=
  ⟨⟨List.Pairwise.nil, List.forall_mem_nil _⟩, ⟨rfl, rfl, rfl⟩, timelineOk_reset⟩

/-! ### The latching reads of the tick count (02 R38, 06 R258) -/

theorem latchTlc_serving {s : State} {f : Nat} (hf : f ≤ 16) (up : serving s = true) (there : (tenOf s f).state ≠ .absent) :
    latchTlc s f = modFn s f fun x => { x with tlcHi := s.tl.tick / 2 ^ 32, tlcEpoch := s.tl.epoch, tlcOffset := s.tl.offset } :=
  if_pos (by simp [hf, up, there])

theorem latchTlc_silent {s : State} {f : Nat} (h : 16 < f ∨ serving s = false ∨ (tenOf s f).state = .absent) : latchTlc s f = s :=
  if_neg fun on => by
    simp only [Bool.and_eq_true, decide_eq_true_eq] at on
    obtain ⟨⟨hf, up⟩, there⟩ := on
    rcases h with h | h | h
    · exact Nat.not_le.2 h hf
    · exact Bool.eq_false_iff.1 h up
    · exact there h

theorem pageReg_tick {s : State} {f : Nat} (up : serving s = true) (there : (tenOf s f).state ≠ .absent) :
    pageReg s f 0x10 = s.tl.tick % 2 ^ 32 := by
  unfold pageReg
  simp [up, there, now]

/-- Settles O23: by what the two latches do on a page that answers and on one that does not. -/
theorem latchingReads : Obligations.LatchingReads := by
  unfold Obligations.LatchingReads
  exact ⟨fun s => ⟨_, rfl, rfl, rfl⟩, fun s f hf up there => ⟨_, rfl, latchTlc_serving hf up there⟩,
    fun s f silent => ⟨_, rfl, latchTlc_silent silent⟩, fun s f _ up there => pageReg_tick up there⟩

/-! ### RESET_N and the AON supply (21 R818, 20 R797, 22 R843) -/

theorem assertReset_up {s : State} (h : s.pw.aonDown = false) :
    assertReset s = coldState s true { keptPower s.pw with bootSel := s.pw.bootSel, stage := 0, resetLow := true } := if_neg (by simp [h])

theorem releaseReset_down {s : State} (h : s.pw.aonDown = true) (v : Nat) : releaseReset s v = s := if_pos h

theorem assertReset_down {s : State} (h : s.pw.aonDown = true) : assertReset s = s := if_pos h

theorem coldLedger_latch (l : Ledger) : (coldLedger l).haltSrc = l.haltSrc := by
  unfold coldLedger
  split
  · next b e => exact e.symm
  · next e => exact e.symm

/-- After a cold start the latched Ledger bit alone is set. -/
theorem coldState_on (s : State) (r : Bool) (p : Power) (b : Nat) : (lgSrc (coldState s r p) b).on = decide (s.lg.haltSrc = some b) := by
  show (tget {} (coldLedger s.lg).src b : LgSrc).on = _
  unfold coldLedger
  split
  · next k e =>
    rw [e]
    by_cases h : b = k
    · subst h
      rw [tget_tset_same]
      simp
    · rw [tget_tset_other _ _ _ _ _ h]
      simp [tget, Ne.symm h]
  · next e => simp [tget, e]

/-- Settles O37: each of the four is a cold start, whose fields are those of the reset state but for the AON domain. -/
theorem resetAndSupply : Obligations.ResetAndSupply := by
  unfold Obligations.ResetAndSupply
  refine ⟨?release, ?assertion, ?down, fun s => ⟨_, rfl, rfl, rfl, rfl, rfl, rfl, rfl⟩, fun s => ⟨_, rfl, rfl, rfl⟩⟩
  case release =>
    intro s v up
    refine ⟨_, rfl, ?_⟩
    rw [releaseReset_up up]
    exact ⟨rfl, rfl, rfl, rfl, rfl, rfl, rfl, rfl, rfl, rfl, rfl, rfl, rfl, rfl, rfl, rfl, rfl, rfl, rfl, rfl, rfl,
      coldLedger_latch s.lg, coldState_on s true _⟩
  case assertion =>
    intro s up
    refine ⟨_, rfl, ?_⟩
    rw [assertReset_up up]
    exact ⟨rfl, rfl, rfl, coldLedger_latch s.lg⟩
  case down =>
    exact fun s v down => ⟨⟨_, rfl, releaseReset_down down v⟩, ⟨_, rfl, assertReset_down down⟩⟩

end Sys2Proof.Machine
end

section
/-! PROOFS. An epoch start (O39): the Timeline's three counts through every operation that an epoch start or an edge of the
reference performs. -/

namespace Sys2Proof.Machine

/-- The counts of the Timeline: ticks, epochs, and the offset in the epoch. -/
def counts (s : State) : Nat × Nat × Nat := (s.tl.tick, s.tl.epoch, s.tl.offset)

theorem counts_of_tl {s t : State} (h : t.tl = s.tl) : counts t = counts s := by
  unfold counts
  rw [h]

theorem counts_ite {c : Prop} [Decidable c] {a b s : State} (x : counts a = counts s) (y : counts b = counts s) :
    counts (if c then a else b) = counts s := by
  split <;> assumption

/-- What a fold's steps leave of the counts, the fold leaves. -/
theorem counts_foldl {α : Type} {f : State → α → State} (hf : ∀ t x, counts (f t x) = counts t) (l : List α) (s : State) :
    counts (l.foldl f s) = counts s :=
  fold_keeps (P := fun t => counts t = counts s) (fun t x e => (hf t x).trans e) rfl

/-! ### What leaves the Timeline alone -/

theorem raise_tl (s : State) (n b : Nat) : (raise s n b).tl = s.tl := rfl

theorem assert_tl (s : State) (b a : Nat) (i : Bool) : (assert s b a i).tl = s.tl :=
  (same_assert (ps := 0x1) s b a i (by decide) same_refl).get .tl (by decide)

theorem finishDone_tl (s : State) (f : Flight) (v : Nat) : (finishDone s f v).tl = s.tl :=
  (same_finishDone (ps := 0x1) s f v (by decide) same_refl).get .tl (by decide)

@[simp] theorem counts_raise (s : State) (n b : Nat) : counts (raise s n b) = counts s := counts_of_tl (raise_tl s n b)

@[simp] theorem counts_assert (s : State) (b a : Nat) (i : Bool) : counts (assert s b a i) = counts s := counts_of_tl (assert_tl s b a i)

@[simp] theorem counts_finishDone (s : State) (f : Flight) (v : Nat) : counts (finishDone s f v) = counts s :=
  counts_of_tl (finishDone_tl s f v)

/-! ### The states of the Timeline -/

theorem counts_enterHoldover (s : State) : counts (enterHoldover s) = counts s :=
  counts_ite ((counts_assert ..).trans (counts_raise ..)) rfl

theorem counts_enterLocked (s : State) : counts (enterLocked s) = counts s :=
  counts_ite ((counts_assert ..).trans (counts_raise ..)) (counts_raise ..)

theorem counts_enterAcquire (s : State) : counts (enterAcquire s) = counts s := rfl

theorem counts_enterFree (s : State) : counts (enterFree s) = counts s := counts_ite (counts_raise ..) rfl

theorem counts_selectSource (s : State) (src : Nat) : counts (selectSource s src) = counts s :=
  counts_ite rfl (counts_ite (counts_enterFree _) (counts_ite (counts_raise ..) rfl))

/-! ### Edges of the reference (02 R46) -/

theorem counts_acceptEdge (s : State) (err : Int) : counts (acceptEdge s err) = counts s := by
  have entered : counts (if decide (s.tl.state = .holdover) = true then enterAcquire s else s) = counts s :=
    counts_ite (counts_enterAcquire s) rfl
  unfold acceptEdge
  exact (counts_ite (counts_enterLocked _) rfl).trans entered

theorem counts_rejectRange (s : State) : counts (rejectRange s) = counts s := by
  have raised : counts (if s.tl.outOfRange = true then s else raise s (srcTimeline 4) 0) = counts s :=
    counts_ite rfl (counts_raise ..)
  unfold rejectRange
  exact (counts_ite (counts_enterHoldover _) rfl).trans raised

theorem counts_stepAlign (s : State) : counts (stepAlign s) = counts s := by
  unfold counts stepAlign realign
  dsimp only [modComp_tl, modTl_tl]
  split <;> rfl

theorem counts_referenceEdgeOf (s : State) (r : Bool) (n : Nat) : counts (referenceEdgeOf s r n) = counts s := by
  unfold referenceEdgeOf
  refine counts_ite rfl (counts_ite rfl (counts_ite (counts_raise ..) (counts_ite (counts_rejectRange s) ?_)))
  exact (counts_ite (counts_stepAlign _) rfl).trans (counts_acceptEdge s _)

/-! ### The operations of an epoch start (02 R41) -/

theorem counts_applyTimelineConfig (s : State) (d : Descriptor) : counts (applyTimelineConfig s d) = counts s :=
  counts_selectSource s _

theorem counts_applyAtEpoch (s : State) (f : Flight) : counts (applyAtEpoch s f) = counts s := by
  unfold applyAtEpoch
  split
  · rw [counts_finishDone, counts_applyTimelineConfig]
  · refine counts_ite ?_ (counts_ite ?_ (counts_ite ?_ (counts_ite ?_ (counts_ite ?_ (counts_ite ?_ rfl)))))
    · exact counts_of_tl ((same_applyLayerFree (ps := 0x1) s f (by decide) same_refl).get .tl (by decide))
    all_goals rw [counts_finishDone]
    · exact counts_of_tl ((same_applyHeadConfig (ps := 0x1) s _ (by decide) same_refl).get .tl (by decide))
    · exact counts_of_tl ((same_applyHeadDsc (ps := 0x1) s _ (by decide) same_refl).get .tl (by decide))
    · exact counts_of_tl ((same_applyPortConfig (ps := 0x1) s _ (by decide) same_refl).get .tl (by decide))
    · exact counts_of_tl ((same_applyPowerGate (ps := 0x1) s _ (by decide) same_refl).get .tl (by decide))
    · exact counts_of_tl ((same_applyMemLatency (ps := 0x1) s _ (by decide) same_refl).get .tl (by decide))

theorem counts_installSync (s : State) (w o : Nat) : counts (installSync s w o) = counts s := by
  have quieted : counts (if w.testBit 31 && w.testBit 30 == s.tl.soPol && !selStopped s (w / 2 ^ 24 % 16) then s else quietSync s) = counts s :=
    counts_ite rfl rfl
  exact quieted

theorem counts_soNext (s : State) (l : List (Nat × Nat × Nat)) : counts (s.modTl fun t => { t with soNext := l }) = counts s := rfl

/-- A pulse that is owed, unless the output is off. -/
theorem counts_owePulse (s : State) (off : Prop) [Decidable off] (l : Timeline → List (Nat × Bool)) :
    counts (if off then s else syncEdges (s.modTl fun t => { t with soEdges := l t })) = counts s := counts_ite rfl rfl

theorem counts_syncEvent (s : State) (sel : Nat) : counts (syncEvent s sel) = counts s := by
  unfold syncEvent
  dsimp only
  split
  · exact (counts_owePulse ..).trans ((counts_soNext ..).trans (counts_installSync ..))
  · exact counts_owePulse ..

/-! ### An epoch start -/

/-- The state of an epoch start once the Timeline has turned, what is counted by epochs is counted, and the loads and tables
written in time are in force. -/
def epochTurned (s : State) : State :=
  let u := turnBusy (countTurn ((List.range 12).foldl stagerEpoch (turnCharges (turnEpoch s) (decide (s.tl.epoch + 1 ≥ 2 ^ 32)))))
  applyTables (applyLoads u.loads.length u)

/-- The state once the commands that wait for an epoch start have taken hold too. -/
def epochApplied (s : State) : State :=
  let u := syncEvent (epochTurned s) 0
  (u.flights.filter fun f => decide (f.phase = .epoch)).foldl applyAtEpoch u

/-- The state once the wheels are at entry 0. -/
def epochWheeled (s : State) : State :=
  (epochApplied s).modWheels fun w => { w with
    entry := 0, restart := true, served := (List.range 11).map fun k => entryOwner (epochApplied s) k 0, turnAt := now (epochApplied s) }

theorem epochWheeled_active (s : State) : (epochWheeled s).wheels.active = (epochApplied s).wheels.active := by
  unfold epochWheeled
  rw [modWheels_wheels]

theorem epochStartOf_due {s : State} (h : epochDue s = true) (x : Bool) : epochStartOf s x = epochSample (epochWheeled s) x :=
  if_neg (by simp [h])

theorem epochStartOf_early {s : State} (h : epochDue s = false) (x : Bool) : epochStartOf s x = s := if_pos (by simp [h])

theorem epochTurned_tl (s : State) : (epochTurned s).tl = (turnEpoch s).tl := by
  have staged : Same 0x1 (turnEpoch s) ((List.range 12).foldl stagerEpoch (turnCharges (turnEpoch s) (decide (s.tl.epoch + 1 ≥ 2 ^ 32)))) :=
    same_foldl (fun t h w => same_stagerEpoch t h (by decide) w) (same_turnCharges _ _ (by decide) same_refl)
  have turned : Same 0x1 (turnEpoch s) (epochTurned s) :=
    same_applyTables _ (by decide) (same_applyLoads _ _ (by decide) (same_turnBusy _ (by decide) (same_countTurn _ (by decide) staged)))
  exact turned.get .tl (by decide)

theorem epochSample_same (s : State) (x : Bool) : (epochSample s x).tl = s.tl ∧ (epochSample s x).wheels = s.wheels :=
  have w : Same 0x3 s (epochSample s x) := same_epochSample s x (by decide) same_refl
  ⟨w.get .tl (by decide), w.get .wheels (by decide)⟩

/-- Of an epoch start only the Timeline's own turn moves the counts. -/
theorem counts_epochStartOf {s : State} (h : epochDue s = true) (x : Bool) : counts (epochStartOf s x) = counts (turnEpoch s) := by
  rw [epochStartOf_due h]
  calc counts (epochSample (epochWheeled s) x)
    _ = counts (epochWheeled s) := counts_of_tl (epochSample_same _ x).1
    _ = counts (epochApplied s) := counts_of_tl (modWheels_tl ..)
    _ = counts (syncEvent (epochTurned s) 0) := counts_foldl counts_applyAtEpoch _ _
    _ = counts (epochTurned s) := counts_syncEvent _ _
    _ = counts (turnEpoch s) := counts_of_tl (epochTurned_tl s)

theorem turnEpoch_counts (s : State) : counts (turnEpoch s) =
    (s.tl.tick, if s.tl.epoch + 1 ≥ 2 ^ 32 then 0 else s.tl.epoch + 1, s.tl.offset - s.tl.epochLen) := by
  unfold turnEpoch
  refine (counts_ite (counts_raise ..) rfl).trans ?_
  simp [counts]

theorem entryOwner_of_active {s t : State} (h : t.wheels.active = s.wheels.active) (w e : Nat) : entryOwner t w e = entryOwner s w e := by
  unfold entryOwner
  rw [h]

/-- After an epoch start every wheel serves the owner of its entry 0. -/
theorem epochStartOf_wheels {s : State} (h : epochDue s = true) (x : Bool) :
    (epochStartOf s x).wheels.entry = 0 ∧ (epochStartOf s x).wheels.restart = true ∧
      (epochStartOf s x).wheels.served = (List.range 11).map fun w => entryOwner (epochStartOf s x) w 0 := by
  rw [epochStartOf_due h]
  have owners : ∀ w, entryOwner (epochSample (epochWheeled s) x) w 0 = entryOwner (epochApplied s) w 0 := fun w =>
    entryOwner_of_active ((congrArg Wheels.active (epochSample_same _ x).2).trans (epochWheeled_active s)) w 0
  simp only [owners, (epochSample_same _ x).2]
  exact ⟨rfl, rfl, rfl⟩

theorem epochDue_iff {s : State} : epochDue s = true ↔ clockRuns s = true ∧ s.tl.epochLen ≤ s.tl.offset := by simp [epochDue]

theorem epochDue_early {s : State} (h : s.tl.offset < s.tl.epochLen) : epochDue s = false :=
  Bool.eq_false_iff.2 fun d => Nat.not_le.2 h (epochDue_iff.1 d).2

/-- Settles O39: an epoch start by its counts and wheels, an early one and a passing tick by definition, an edge by its counts. -/
theorem epochStarts : Obligations.EpochStarts := by
  unfold Obligations.EpochStarts
  refine ⟨?start, fun s x early => ⟨_, rfl, epochStartOf_early (epochDue_early early) x⟩, fun s => ⟨rfl, rfl⟩, ?edge⟩
  case start =>
    intro s x runs atEnd small
    have due : epochDue s = true := epochDue_iff.2 ⟨runs, Nat.le_of_eq atEnd.symm⟩
    have c : counts (epochStartOf s x) = _ := (counts_epochStartOf due x).trans (turnEpoch_counts s)
    simp only [counts, Prod.mk.injEq] at c
    obtain ⟨tick, epoch, offset⟩ := c
    refine ⟨_, rfl, offset.trans (by omega), epoch.trans ?_, tick, epochStartOf_wheels due x⟩
    split <;> omega
  case edge =>
    intro s r n
    have c : counts (if clockRuns s then referenceEdgeOf s r n else s) = counts s := counts_ite (counts_referenceEdgeOf s r n) rfl
    simp only [counts, Prod.mk.injEq] at c
    obtain ⟨tick, epoch, offset⟩ := c
    exact ⟨_, rfl, epoch, offset, tick⟩

end Sys2Proof.Machine
end

section
/-! PROOFS. SYNC_OUT and the turns of the wheels (O41). -/

namespace Sys2Proof.Machine

/-! ### SYNC_OUT (02 R47) -/

theorem syncEdges_owed (s : State) (e : Nat × Bool) : e ∈ (syncEdges s).tl.soEdges ↔ e ∈ s.tl.soEdges ∧ s.tl.tick < e.1 := by
  show e ∈ s.tl.soEdges.filter (fun e => decide (s.tl.tick < e.1)) ↔ _
  rw [List.mem_filter, decide_eq_true_eq]

/-- The level is that of the latest edge that has come. -/
theorem syncEdges_level {s : State} {l : List (Nat × Bool)} {a : Nat} {b : Bool} (h : s.tl.soEdges = l ++ [(a, b)]) (come : a ≤ s.tl.tick) :
    (syncEdges s).tl.soActive = b := by
  show ((s.tl.soEdges.filter fun e => decide (e.1 ≤ s.tl.tick)).getLast?.map (·.2)).getD s.tl.soActive = b
  have last : [(a, b)].filter (fun e => decide (e.1 ≤ s.tl.tick)) = [(a, b)] := List.filter_cons_of_pos (decide_eq_true come)
  rw [h, List.filter_append, last, List.getLast?_concat]
  rfl

theorem syncEdges_quiet {s : State} (h : ∀ e ∈ s.tl.soEdges, s.tl.tick < e.1) : (syncEdges s).tl.soActive = s.tl.soActive := by
  show ((s.tl.soEdges.filter fun e => decide (e.1 ≤ s.tl.tick)).getLast?.map (·.2)).getD s.tl.soActive = _
  rw [List.filter_eq_nil_iff.2 fun e he => by simpa using h e he]
  rfl

/-! ### Whom a wheel serves (02 R70) -/

/-- The entry's owner is served, or a lender where the turn is spare or its tenancy has no request that waits. -/
def Served (s : State) (entry : Nat) (waits : List (Nat × Nat)) (w v : Nat) : Prop :=
  let o := entryOwner s w entry
  let idle := o = 0x1F ∨ o ≤ 16 ∧ (w, o) ∉ waits
  (idle → lenders s w waits = []) ∧ v = o ∨ idle ∧ v ∈ lenders s w waits

theorem mem_lenders {s : State} {w t : Nat} {waits : List (Nat × Nat)} :
    t ∈ lenders s w waits ↔ t ≤ 16 ∧ (tenOf s t).grants.lending = true ∧ (w, t) ∈ waits := by
  simp [lenders, Nat.lt_succ_iff]

theorem served_of_parts {s t : State} (hw : t.wheels = s.wheels) (ht : t.tens = s.tens) {e w v : Nat} {waits : List (Nat × Nat)}
    (h : Served t e waits w v) : Served s e waits w v := by
  unfold Served entryOwner lenders tenOf at *
  rwa [hw, ht] at h

/-- A turn of a wheel adds the owner it serves. -/
theorem serveWheel_serves (e : Nat) (waits : List (Nat × Nat)) (acc : List Nat × State) (w : Nat) :
    ∃ v, (serveWheel e waits acc w).1 = acc.1 ++ [v] ∧ Served acc.2 e waits w v := by
  unfold serveWheel Served
  dsimp only
  generalize entryOwner acc.2 w e = o
  generalize lenders acc.2 w waits = ls
  split
  · next h =>
    refine ⟨o, rfl, .inl ⟨fun idle => ?_, rfl⟩⟩
    rcases idle with rfl | ⟨guest, quiet⟩
    · simpa using h
    · simpa [guest, quiet] using h
  · next h =>
    simp only [Bool.or_eq_true, Bool.not_eq_true', not_or, Bool.not_eq_false, Bool.and_eq_true, decide_eq_true_eq,
      List.isEmpty_iff, List.contains_eq_mem, decide_eq_false_iff_not] at h
    obtain ⟨idle, some_lend⟩ := h
    refine ⟨_, rfl, .inr ⟨idle, ?_⟩⟩
    have inside : (freshValue acc.2).1.toNat % ls.length < ls.length := Nat.mod_lt _ (List.length_pos_iff.2 some_lend)
    rw [List.getD_eq_getElem?_getD, List.getElem?_eq_getElem inside, Option.getD_some]
    exact List.getElem_mem inside

theorem serveWheel_parts (e : Nat) (waits : List (Nat × Nat)) (acc : List Nat × State) (w : Nat) :
    (serveWheel e waits acc w).2.wheels = acc.2.wheels ∧ (serveWheel e waits acc w).2.tens = acc.2.tens :=
  have same : Same 0x102 acc.2 (serveWheel e waits acc w).2 := same_serveWheel e waits acc w (by decide) same_refl
  ⟨same.get .wheels (by decide), same.get .tens (by decide)⟩

/-- Each wheel of a list is served in turn, and the owners stand in its order. -/
theorem serveWheels_serve (s : State) (e : Nat) (waits : List (Nat × Nat)) (ws : List Nat) (acc : List Nat × State)
    (hw : acc.2.wheels = s.wheels) (ht : acc.2.tens = s.tens) :
    ∃ vs, (ws.foldl (serveWheel e waits) acc).1 = acc.1 ++ vs ∧ vs.length = ws.length ∧
      ∀ i (h : i < ws.length), Served s e waits ws[i] (vs.getD i 0x1F) := by
  induction ws generalizing acc with
  | nil => exact ⟨[], (List.append_nil _).symm, rfl, fun i h => absurd h (Nat.not_lt_zero i)⟩
  | cons w ws ih =>
    obtain ⟨v, out, served⟩ := serveWheel_serves e waits acc w
    obtain ⟨wheels, tens⟩ := serveWheel_parts e waits acc w
    obtain ⟨vs, outs, len, rest⟩ := ih (serveWheel e waits acc w) (wheels.trans hw) (tens.trans ht)
    refine ⟨v :: vs, ?_, congrArg (· + 1) len, fun i h => ?_⟩
    · rw [List.foldl_cons, outs, out, List.append_assoc]
      rfl
    · cases i with
      | zero => exact served_of_parts hw ht served
      | succ i => exact rest i (Nat.lt_of_succ_lt_succ h)

/-! ### A turn (02 R70, R71) -/

/-- What is served in a turn that has begun. -/
def turnWork (t : Turn) (s : State) : State :=
  let s := [7, 8, 9].foldl serveXfer s
  let s := serveDramTurn (serveTurn feedWrite s)
  let s := scrubBeat s t.scrub
  let s := if s.wheels.served.getD 7 0x1F = 0x1E then copyBytes (patrolBeat s t.patrol) t.copied else s
  if s.wheels.served.getD 6 0x1F = 0x1E then prefetchAll s else s

theorem turnWork_wheels (t : Turn) (s : State) : (turnWork t s).wheels = s.wheels := by
  have moved : Same 0x2 s ([7, 8, 9].foldl serveXfer s) := same_foldl (fun u w e => same_serveXfer u w (by decide) e) same_refl
  have served : Same 0x2 s (serveDramTurn (serveTurn feedWrite ([7, 8, 9].foldl serveXfer s))) :=
    same_serveDramTurn _ (by decide) (same_serveTurn _ _ (fun u a bs e => same_feedWrite u a bs (by decide) e) (by decide) moved)
  have scrubbed := same_scrubBeat _ t.scrub (by decide) served
  have worked : Same 0x2 s (turnWork t s) := by
    unfold turnWork
    dsimp only
    generalize scrubBeat _ t.scrub = u at scrubbed ⊢
    have system := same_ite (c := u.wheels.served.getD 7 0x1F = 0x1E)
      (same_copyBytes _ t.copied (by decide) (same_patrolBeat _ t.patrol (by decide) scrubbed)) scrubbed
    exact same_ite (same_prefetchAll _ (by decide) system) system
  exact worked.get .wheels (by decide)

/-- A turn has begun: of entry 0 where an epoch has started, else of the next entry. -/
def turnBegun (s : State) (x : Turn) : State :=
  let u := countTurn s
  enterTurn u (if u.wheels.restart then 0 else (u.wheels.entry + 1) % 512) (waitingAt u x.waiting)

theorem turnBegun_eq (s : State) (x : Turn) : turnBegun s x =
    enterTurn (countTurn s) (if s.wheels.restart then 0 else (s.wheels.entry + 1) % 512) (waitingAt s x.waiting) := rfl

theorem turnStartOf_runs {s : State} (h : clockRuns s = true) (x : Turn) : turnStartOf s x = turnWork x (turnBegun s x) := by
  unfold turnStartOf turnWork turnBegun
  simp only [h, Bool.not_true, Bool.false_eq_true, if_false]

theorem turnStartOf_stopped {s : State} (h : clockRuns s = false) (x : Turn) : turnStartOf s x = s := if_pos (by simp [h])

theorem enterTurn_wheels (s : State) (e : Nat) (waits : List (Nat × Nat)) :
    (enterTurn s e waits).wheels.entry = e ∧ (enterTurn s e waits).wheels.restart = false ∧
      (enterTurn s e waits).wheels.active = s.wheels.active ∧ (enterTurn s e waits).wheels.served.length = 11 ∧
      ∀ w, w < 11 → Served s e waits w ((enterTurn s e waits).wheels.served.getD w 0x1F) := by
  obtain ⟨vs, out, len, served⟩ := serveWheels_serve s e waits (List.range 11) ([], s) rfl rfl
  have parts : Same 0x2 s ((List.range 11).foldl (serveWheel e waits) ([], s)).2 :=
    same_foldl_2 (fun acc w u => same_serveWheel e waits acc w (by decide) u) same_refl
  unfold enterTurn
  dsimp only [modWheels_wheels]
  rw [show _ = vs from out]
  refine ⟨rfl, rfl, congrArg Wheels.active (parts.get .wheels (by decide)), len, fun w hw => ?_⟩
  have turn := served w (by rwa [List.length_range])
  rwa [List.getElem_range] at turn

/-- What a wheel's owner, its requests and the lenders' say of whom it serves. -/
theorem Served.serves {s : State} {e w v : Nat} {waits : List (Nat × Nat)} (h : Served s e waits w v) :
    let o := entryOwner s w e
    (o = 0x1E → v = 0x1E) ∧ (o ≤ 16 → (w, o) ∈ waits → v = o) ∧
      (o ≤ 16 ∨ o = 0x1F → v = o ∨ v ≤ 16 ∧ (tenOf s v).grants.lending = true ∧ (w, v) ∈ waits) ∧
      ((∀ l, l ≤ 16 → (tenOf s l).grants.lending = true → (w, l) ∉ waits) → v = o) := by
  unfold Served at h
  dsimp only at h ⊢
  rcases h with ⟨-, own⟩ | ⟨idle, lent⟩
  · exact ⟨fun o => own.trans o, fun _ _ => own, fun _ => .inl own, fun _ => own⟩
  · obtain ⟨guest, lends, waiting⟩ := mem_lenders.1 lent
    exact ⟨fun o => by omega, fun o has => by have := idle.resolve_left (by omega); exact absurd has this.2,
      fun _ => .inr ⟨guest, lends, waiting⟩, fun none => absurd waiting (none v guest lends)⟩

/-- Settles O41: the owed edges by filter, and each wheel of a turn by whom it serves. -/
theorem syncOutAndTurns : Obligations.SyncOutAndTurns := by
  unfold Obligations.SyncOutAndTurns
  refine ⟨fun s => ⟨_, rfl, syncEdges_owed s, fun _ _ _ => syncEdges_level, syncEdges_quiet, rfl⟩, ?turn,
    fun s x stopped => ⟨_, rfl, turnStartOf_stopped stopped x⟩⟩
  case turn =>
    intro s x runs
    refine ⟨turnStartOf s x, rfl, ?_⟩
    dsimp only
    rw [turnStartOf_runs runs, turnWork_wheels, turnBegun_eq]
    obtain ⟨entry, restart, active, len, served⟩ := enterTurn_wheels (countTurn s)
      (if s.wheels.restart then 0 else (s.wheels.entry + 1) % 512) (waitingAt s x.waiting)
    refine ⟨entry, restart, len, active, fun w hw => ?_⟩
    have turns : Served s _ _ w _ := served_of_parts rfl rfl (served w hw)
    exact turns.serves

end Sys2Proof.Machine
end

section
/-! PROOFS. The edges of the reference, those that do not come, and late steers (O40). -/

namespace Sys2Proof.Machine

/-! ### Entries to states (02 R49) -/

theorem enterLocked_tl (s : State) : (enterLocked s).tl = { s.tl with
    state := .locked, glitches := 0, holdKept := 0, wasHoldover := false, goodEdges := 0, badEdges := 0,
    steerAdj := if s.tl.src = 4 then s.tl.steerAdj else 0 } := by
  unfold enterLocked
  dsimp only
  split
  · rw [assert_tl]
    rfl
  · rfl

theorem enterLocked_raises (s : State) : (evSrc (enterLocked s) 0).cause.testBit 0 = true := by
  unfold enterLocked
  dsimp only
  split
  · exact assert_keeps_cause _ _ _ _ _ _ (raise_sets ..)
  · exact raise_sets ..

theorem enterHoldover_tl (s : State) : (enterHoldover s).tl = { s.tl with
    state := .holdover, holdSince := s.tl.tick, wasHoldover := true, goodEdges := 0, badEdges := 0, steerAdj := 0,
    freqOfs := if s.tl.lockedEpochs ≥ 64 then lockedMean s else s.tl.freqOfs } := by
  unfold enterHoldover
  dsimp only
  split
  · rw [assert_tl]
    rfl
  · rfl

theorem enterHoldover_raises {s : State} (h : s.tl.state = .locked) : (evSrc (enterHoldover s) 1).cause.testBit 0 = true := by
  unfold enterHoldover
  simp only [h, decide_true, if_true]
  exact assert_keeps_cause _ _ _ _ _ _ (raise_sets ..)

/-! ### An accepted edge (02 R49, R51) -/

/-- What an edge leaves noted in the Timeline: phase error, instant, an edge seen, out of range, state, and the frequency held at
the start of acquisition. -/
def edgeNotes (s : State) : Int × Nat × Bool × Bool × TlState × Int :=
  (s.tl.phaseErr, s.tl.lastEdge, s.tl.seenEdge, s.tl.outOfRange, s.tl.state, s.tl.acquireFreq)

section Accept

variable {s : State} {err : Int}

/-- In HOLDOVER an edge leads to ACQUIRE. -/
theorem acceptEdge_holdover (h : s.tl.state = .holdover) : edgeNotes (acceptEdge s err) = (err, now s, true, false, .acquire, s.tl.freqOfs) := by
  simp [acceptEdge, h, enterAcquire, edgeNotes, now]

/-- In ACQUIRE the eighth edge in a row within 40 ticks locks. -/
theorem acceptEdge_locks (h : s.tl.state = .acquire) (run : 7 ≤ s.tl.goodEdges) (near : err.natAbs ≤ 40) :
    edgeNotes (acceptEdge s err) = (err, now s, true, false, .locked, s.tl.acquireFreq) ∧
      (evSrc (acceptEdge s err) 0).cause.testBit 0 = true := by
  constructor
  · simp [acceptEdge, h, near, run, edgeNotes, enterLocked_tl, now]
  · unfold acceptEdge
    simp only [h, near]
    rw [if_pos (by simp [h, run])]
    exact enterLocked_raises _

/-- Any other edge leaves the state as it was. -/
theorem acceptEdge_stays (h : s.tl.state ≠ .holdover) (short : s.tl.state = .acquire → s.tl.goodEdges < 7 ∨ 40 < err.natAbs) :
    edgeNotes (acceptEdge s err) = (err, now s, true, false, s.tl.state, s.tl.acquireFreq) := by
  unfold acceptEdge
  simp only [h, decide_false, Bool.false_eq_true, if_false]
  rw [if_neg]
  · rfl
  · rw [Bool.and_eq_true, decide_eq_true_eq, decide_eq_true_eq]
    rintro ⟨acquire, eight⟩
    have := short acquire
    split at eight <;> omega

end Accept

/-! ### The frequency followed (02 R51, R52) -/

theorem clampI_bounds {lo hi : Int} (h : lo ≤ hi) (x : Int) : lo ≤ clampI lo hi x ∧ clampI lo hi x ≤ hi := by
  unfold clampI
  split
  · omega
  · split <;> omega

theorem boundedFreq_within (t : Timeline) (x : Int) : (boundedFreq t x).natAbs ≤ 250000 := by
  unfold boundedFreq
  have := clampI_bounds (show (-250000 : Int) ≤ 250000 by decide)
    (if t.state = TlState.acquire then clampI (t.acquireFreq - 50000) (t.acquireFreq + 50000) x else x)
  omega

/-- In ACQUIRE it stays within 50 ppm of the frequency held at its start: a bound of all states moves it towards that one. -/
theorem boundedFreq_acquire {t : Timeline} (x : Int) (h : t.state = .acquire) (held : t.acquireFreq.natAbs ≤ 250000) :
    (boundedFreq t x - t.acquireFreq).natAbs ≤ 50000 := by
  unfold boundedFreq
  rw [if_pos h]
  have near := clampI_bounds (show t.acquireFreq - 50000 ≤ t.acquireFreq + 50000 by omega) x
  generalize clampI (t.acquireFreq - 50000) (t.acquireFreq + 50000) x = y at near ⊢
  unfold clampI
  split
  · omega
  · split <;> omega

/-! ### What an edge is (02 R44, R46, R50) -/

/-- An edge of the selected source's kind. -/
def EdgeKind (s : State) (rising : Bool) : Prop :=
  (s.tl.src = 1 ∧ rising = !s.tl.edge) ∨ (s.tl.src = 2 ∧ rising = true) ∨
    (s.tl.src = 3 ∧ rising = true ∧ (s.tl.seenEdge = false ∨ s.tl.epochTicks < 4 * (now s - s.tl.lastEdge)))

/-- The edge is followed: accepted, and the frequency steered. -/
def followEdge (s : State) (err : Int) : State :=
  let u := acceptEdge s err
  let w := (freshValue u).2.modTl fun t => { t with freqOfs := steered t (freshValue u).1 }
  if w.tl.stepDue then stepAlign w else w

/-- An edge on SYNC_IN that the source does not take: none is of the source's kind, or its level is not. -/
def foreignEdge (t : Timeline) (rising : Bool) : Bool :=
  t.src = 0 || t.src ≥ 4 || !(if t.src = 1 then rising != t.edge else rising)

/-- With MAINS an edge within a quarter of an epoch of the last. -/
def earlyEdge (t : Timeline) : Bool := t.src = 3 && t.seenEdge && 4 * (t.tick - t.lastEdge) ≤ t.epochTicks

theorem edgeKind_iff {s : State} {r : Bool} : EdgeKind s r ↔ foreignEdge s.tl r = false ∧ earlyEdge s.tl = false := by
  unfold EdgeKind foreignEdge earlyEdge now
  have sources : s.tl.src = 0 ∨ s.tl.src = 1 ∨ s.tl.src = 2 ∨ s.tl.src = 3 ∨ 4 ≤ s.tl.src := by omega
  rcases sources with h | h | h | h | h
  · simp [h]
  · cases r <;> cases e : s.tl.edge <;> simp [h]
  · simp [h]
  · cases e : s.tl.seenEdge <;> simp [h]
  · have : s.tl.src ≠ 1 ∧ s.tl.src ≠ 2 ∧ s.tl.src ≠ 3 := by omega
    simp [h, this]

theorem referenceEdgeOf_other {s : State} {r : Bool} (h : ¬EdgeKind s r) (n : Nat) : referenceEdgeOf s r n = s := by
  rw [edgeKind_iff, not_and, Bool.not_eq_false] at h
  cases foreign : foreignEdge s.tl r
  case true => exact if_pos foreign
  case false => exact (if_neg (by rw [Bool.not_eq_true]; exact foreign)).trans (if_pos (h foreign))

/-- An edge of its kind is a glitch, or out of range, or followed. -/
theorem referenceEdgeOf_kind {s : State} {r : Bool} (h : EdgeKind s r) (n : Nat) : referenceEdgeOf s r n =
    if s.tl.state = .locked ∧ s.tl.epochTicks < 8 * (phaseError s).natAbs then
      raise (s.modTl fun t => { t with glitches := min 255 (t.glitches + 1) }) (srcTimeline 2) 0
    else if s.tl.seenEdge = true ∧ inLockRange s.tl.epochTicks n = false then rejectRange s
    else followEdge s (if s.tl.stepDue then 0 else phaseError s) := by
  obtain ⟨foreign, early⟩ := edgeKind_iff.1 h
  refine (if_neg (by rw [Bool.not_eq_true]; exact foreign)).trans ((if_neg (by rw [Bool.not_eq_true]; exact early)).trans ?_)
  simp only [Bool.and_eq_true, decide_eq_true_eq, Bool.not_eq_true', gt_iff_lt]
  rfl

theorem edgeNotes_stepAlign (s : State) : edgeNotes (stepAlign s) = edgeNotes s ∧ (stepAlign s).tl.freqOfs = s.tl.freqOfs := by
  unfold edgeNotes stepAlign realign
  dsimp only [modComp_tl, modTl_tl]
  split <;> exact ⟨rfl, rfl⟩

/-- After the acceptance only the frequency is set, and an alignment moves the boundary. -/
theorem followEdge_follows (s : State) (err : Int) : edgeNotes (followEdge s err) = edgeNotes (acceptEdge s err) ∧
    (followEdge s err).ev = (acceptEdge s err).ev ∧ ∃ v, (followEdge s err).tl.freqOfs = steered (acceptEdge s err).tl v := by
  unfold followEdge
  generalize acceptEdge s err = u
  dsimp only
  split
  · exact ⟨(edgeNotes_stepAlign _).1, rfl, _, (edgeNotes_stepAlign _).2⟩
  · exact ⟨rfl, rfl, _, rfl⟩

theorem followEdge_freq (s : State) (err : Int) : (followEdge s err).tl.freqOfs.natAbs ≤ 250000 ∧
    ((followEdge s err).tl.state = .acquire → (followEdge s err).tl.acquireFreq.natAbs ≤ 250000 →
      ((followEdge s err).tl.freqOfs - (followEdge s err).tl.acquireFreq).natAbs ≤ 50000) := by
  obtain ⟨notes, -, v, freq⟩ := followEdge_follows s err
  simp only [edgeNotes, Prod.mk.injEq] at notes
  obtain ⟨-, -, -, -, state, held⟩ := notes
  rw [freq, state, held]
  exact ⟨boundedFreq_within _ _, boundedFreq_acquire _⟩

theorem followEdge_notes {s : State} {err : Int} {st : TlState} {a : Int}
    (h : edgeNotes (acceptEdge s err) = (err, now s, true, false, st, a)) :
    (followEdge s err).tl.phaseErr = err ∧ (followEdge s err).tl.lastEdge = now s ∧ (followEdge s err).tl.seenEdge = true ∧
      (followEdge s err).tl.outOfRange = false ∧ (followEdge s err).tl.state = st ∧ (followEdge s err).tl.acquireFreq = a := by
  simpa only [edgeNotes, Prod.mk.injEq] using (followEdge_follows s err).1.trans h

/-- What a followed edge leaves, by the state it finds. -/
theorem followEdge_leaves (s : State) (err : Int) :
    (followEdge s err).tl.phaseErr = err ∧ (followEdge s err).tl.lastEdge = now s ∧ (followEdge s err).tl.seenEdge = true ∧
      (followEdge s err).tl.outOfRange = false ∧
      (s.tl.state = .locked → (followEdge s err).tl.state = .locked) ∧
      (s.tl.state = .acquire → s.tl.goodEdges = 7 → err.natAbs ≤ 40 →
        (followEdge s err).tl.state = .locked ∧ (evSrc (followEdge s err) 0).cause.testBit 0 = true) ∧
      (s.tl.state = .acquire → s.tl.goodEdges < 7 ∨ 40 < err.natAbs → (followEdge s err).tl.state = .acquire) ∧
      (s.tl.state = .holdover → (followEdge s err).tl.state = .acquire ∧ (followEdge s err).tl.acquireFreq = s.tl.freqOfs) := by
  by_cases hold : s.tl.state = .holdover
  · obtain ⟨phase, last, seen, range, state, held⟩ := followEdge_notes (err := err) (acceptEdge_holdover hold)
    simp [phase, last, seen, range, state, held, hold]
  by_cases locks : s.tl.state = .acquire ∧ 7 ≤ s.tl.goodEdges ∧ err.natAbs ≤ 40
  · obtain ⟨acquire, run, near⟩ := locks
    obtain ⟨notes, raised⟩ := acceptEdge_locks acquire run near
    obtain ⟨phase, last, seen, range, state, -⟩ := followEdge_notes notes
    rw [← evSrc_of_ev (followEdge_follows s err).2.1] at raised
    exact ⟨phase, last, seen, range, fun _ => state, fun _ _ _ => ⟨state, raised⟩, fun _ short => by omega, fun h => absurd h hold⟩
  · have short : s.tl.state = .acquire → s.tl.goodEdges < 7 ∨ 40 < err.natAbs := fun acquire => by
      have := not_and.1 locks acquire
      omega
    obtain ⟨phase, last, seen, range, state, -⟩ := followEdge_notes (acceptEdge_stays hold short)
    exact ⟨phase, last, seen, range, fun h => state.trans h, fun acquire run near => by have := short acquire; omega,
      fun acquire _ => state.trans acquire, fun h => absurd h hold⟩

/-! ### Edges out of range, and edges and steers that do not come (02 R49, R50) -/

theorem rejectRange_leaves (s : State) : (rejectRange s).tl.outOfRange = true ∧
    (s.tl.state ≠ .free → (rejectRange s).tl.state = .holdover) := by
  have tl : (if s.tl.outOfRange = true then s else raise s (srcTimeline 4) 0).tl = s.tl := by split <;> rfl
  unfold rejectRange
  dsimp only
  generalize (if s.tl.outOfRange = true then s else raise s (srcTimeline 4) 0) = u at tl ⊢
  split
  · rw [enterHoldover_tl]
    exact ⟨rfl, fun _ => rfl⟩
  · next stays =>
    simp only [modTl_tl, tl, Bool.or_eq_true, decide_eq_true_eq, not_or] at stays ⊢
    refine ⟨trivial, fun held => ?_⟩
    cases st : s.tl.state
    case free => exact absurd st held
    case acquire => exact absurd st stays.2
    case locked => exact absurd st stays.1
    case holdover => rfl

theorem missEdge_loses {s : State} (h : s.tl.lossCount ≤ min 15 (s.tl.badEdges + 1)) : (missEdge s).tl.state = .holdover ∧
    (s.tl.state = .locked → (evSrc (missEdge s) 1).cause.testBit 0 = true) := by
  have lost : missEdge s = enterHoldover (s.modTl fun t => { t with badEdges := min 15 (t.badEdges + 1) }) := if_pos h
  rw [lost]
  exact ⟨congrArg Timeline.state (enterHoldover_tl _), fun locked => enterHoldover_raises locked⟩

theorem missEdge_counts {s : State} (h : ¬s.tl.lossCount ≤ min 15 (s.tl.badEdges + 1)) :
    missEdge s = s.modTl fun t => { t with badEdges := min 15 (t.badEdges + 1) } := if_neg h

theorem edgeMissing_expected {s : State} (up : clockRuns s = true) (h1 : 1 ≤ s.tl.src) (h3 : s.tl.src ≤ 3)
    (st : s.tl.state = .locked ∨ s.tl.state = .acquire) : edgeMissing s = missEdge s := if_pos (by simpa [up, h1, h3] using st)

theorem edgeMissing_none {s : State} (h : s.tl.src = 0 ∨ 4 ≤ s.tl.src ∨ s.tl.state = .free ∨ s.tl.state = .holdover) :
    edgeMissing s = s := by
  refine if_neg fun e => ?_
  simp only [Bool.and_eq_true, Bool.or_eq_true, decide_eq_true_eq] at e
  obtain ⟨⟨⟨-, h1⟩, h3⟩, st⟩ := e
  rcases h with h | h | h | h
  · omega
  · omega
  · simp [h] at st
  · simp [h] at st

theorem steerDue_iff {s : State} : steerDue s = true ↔ s.tl.src = 4 ∧ 1024 ≤ s.tl.steerAge ∧
    (1024 < s.tl.steerAge ∨ s.tl.steerOfs ≤ s.tl.offset) ∧ (s.tl.state = .locked ∨ s.tl.state = .acquire) := by
  simp [steerDue, and_assoc]

theorem steerLate_holds {s : State} (h : steerDue s = true) : (steerLate s).tl.state = .holdover := by
  have lost : steerLate s = enterHoldover s := if_pos h
  rw [lost, enterHoldover_tl]

/-- An edge of the reference where the clock runs. -/
theorem gives_referenceEdge {s : State} {p : State → Prop} {r : Bool} {n : Nat} (up : clockRuns s = true) (h : p (referenceEdgeOf s r n)) :
    Gives (.referenceEdge r n) s p := ⟨_, rfl, by rwa [if_pos up]⟩

theorem inWindow_not_glitch {s : State} (h : s.tl.state ≠ .locked ∨ 8 * (phaseError s).natAbs ≤ s.tl.epochTicks) :
    ¬(s.tl.state = .locked ∧ s.tl.epochTicks < 8 * (phaseError s).natAbs) := fun ⟨locked, far⟩ => by
  have := h.resolve_left (Classical.not_not.2 locked)
  omega

/-- Settles O40: an edge by what it is (`referenceEdgeOf_kind`) and by the state it finds; a missing edge and a late steer by the
entry to HOLDOVER. -/
theorem referenceEdges : Obligations.ReferenceEdges := by
  unfold Obligations.ReferenceEdges
  intro s up
  dsimp only
  refine ⟨fun r n other => gives_referenceEdge up (referenceEdgeOf_other other n), ?glitch, ?accepted, ?rejected, ?missing,
    fun none => ⟨_, rfl, edgeMissing_none none⟩, ?late, ?inTime⟩
  case glitch =>
    intro r n kind far
    rw [not_or, Classical.not_not, Nat.not_le] at far
    refine gives_referenceEdge up ?_
    rw [referenceEdgeOf_kind kind, if_pos far]
    exact ⟨rfl, raise_sets .., rfl, far.1⟩
  case accepted =>
    intro r n kind near range
    refine gives_referenceEdge up ?_
    have followed : ¬(s.tl.seenEdge = true ∧ inLockRange s.tl.epochTicks n = false) := by
      rcases range with h | h <;> simp [h]
    rw [referenceEdgeOf_kind kind, if_neg (inWindow_not_glitch near), if_neg followed]
    obtain ⟨phase, last, seen, inRange, locked, locks, acquires, holds⟩ := followEdge_leaves s (if s.tl.stepDue then 0 else phaseError s)
    exact ⟨phase, last, seen, inRange, locked, locks, acquires, holds, followEdge_freq ..⟩
  case rejected =>
    intro r n kind near seen range
    refine gives_referenceEdge up ?_
    rw [referenceEdgeOf_kind kind, if_neg (inWindow_not_glitch near), if_pos ⟨seen, range⟩]
    exact rejectRange_leaves s
  case missing =>
    intro h1 h3 st
    refine ⟨_, rfl, ?_⟩
    rw [edgeMissing_expected up h1 h3 st]
    split
    · next h => exact missEdge_loses h
    · next h =>
      rw [missEdge_counts h]
      exact ⟨rfl, rfl, rfl⟩
  case late =>
    intro src age st
    exact ⟨_, rfl, steerLate_holds (steerDue_iff.2 ⟨src, by omega, by omega, st⟩)⟩
  case inTime =>
    intro h
    refine ⟨_, rfl, if_neg fun due => ?_⟩
    obtain ⟨src, age, late, st⟩ := steerDue_iff.1 due
    rcases h with h | h | h | h | h
    · exact h src
    · omega
    · omega
    · simp [h] at st
    · simp [h] at st

end Sys2Proof.Machine
end

section
/-! PROOFS. Which steps answer a next state (O9). -/

namespace Sys2Proof.Machine

theorem servePort_hole {s : State} {r : PortRequest} (h : 0xC000000 < r.addr + portLen r) :
    servePortFed s r = .fault .stockroomHole := if_pos h

/-- A request that stays below the hole is refused, waits or is performed. -/
theorem servePort_below {s : State} {r : PortRequest} (h : r.addr + portLen r ≤ 0xC000000) : servePortFed s r = .next
    (if portPermits s r (portLen r) = false then portRefuse s r
     else if turnServes s r = false then s.modSr fun x => { x with waiting := x.waiting ++ [r] }
     else movePort feedWrite s r) := by
  unfold servePortFed servePort
  rw [if_neg (by omega)]
  cases portPermits s r (portLen r) <;> cases turnServes s r <;> rfl

/-- Every command but a port request answers a next state. -/
theorem exec_answers {c : Instr} (h : ∀ r, c ≠ .stockroomRequest r) (s : State) : ∃ t, exec c s = .next t := by
  cases c
  case stockroomRequest r => exact absurd rfl (h r)
  all_goals exact ⟨_, rfl⟩

/-- A step with nothing waiting, or with another command than a port request in front, answers a next state. -/
theorem step_answers {s : State} (h : ∀ r rest, s.pending ≠ .stockroomRequest r :: rest) : ∃ t, step s = .next t := by
  cases p : s.pending with
  | nil => exact ⟨_, step_idle p⟩
  | cons c rest =>
    rw [step_front p]
    refine exec_answers (fun r e => ?_) _
    exact h r rest (by rw [p, e])

/-- Settles O9: of all commands a port request alone can fault, and only beyond the last address. -/
theorem everyStepAnswers : Obligations.EveryStepAnswers := by
  unfold Obligations.EveryStepAnswers
  intro s beyond
  have faults : beyond → step s = .fault .stockroomHole := by
    rintro ⟨r, rest, p, far⟩
    rw [step_front p]
    exact servePort_hole far
  have answers : ¬beyond → ∃ t, step s = .next t := by
    intro near
    by_cases front : ∃ r rest, s.pending = .stockroomRequest r :: rest
    · obtain ⟨r, rest, p⟩ := front
      rw [step_front p]
      exact ⟨_, servePort_below (Nat.le_of_not_lt fun far => near ⟨r, rest, p, far⟩)⟩
    · exact step_answers fun r rest p => front ⟨r, rest, p⟩
  refine ⟨answers, faults, fun e refused => ?_⟩
  by_cases h : beyond
  · rw [faults h] at refused
    cases refused
  · obtain ⟨t, next⟩ := answers h
    rw [next] at refused
    cases refused

end Sys2Proof.Machine
end

section
/-! PROOFS. The watermarks (O30): what their writes store, and what the Stockroom's says of a shelf's owner. -/

namespace Sys2Proof.Machine

/-! ### Writes of a watermark (03 R96, R97; 17 R704) -/

theorem writeSrMark_legal {s : State} {v : Nat} (unlocked : s.sr.lock = false) (low : 16 ≤ v) (high : v ≤ 256) :
    writeSrMark s v = s.modSr fun r => { r with wm := v } :=
  if_neg (by simp [unlocked]; omega)

theorem writeSrMark_ignored {s : State} {v : Nat} (h : s.sr.lock = true ∨ v < 16 ∨ 256 < v) : writeSrMark s v = s :=
  if_pos (by simpa [or_assoc] using h)

theorem writeDramMark_legal {s : State} {v : Nat} (unlocked : s.dram.lock = false) (h : v ≤ 1024) :
    writeDramMark s v = s.modDram fun d => { d with wm := v } :=
  if_neg (by simp [unlocked]; omega)

theorem writeDramMark_ignored {s : State} {v : Nat} (h : s.dram.lock = true ∨ 1024 < v) : writeDramMark s v = s :=
  if_pos (by simpa using h)

/-- A value without the LOCK bit in the Stockroom's control register writes the watermark alone. -/
theorem registerWriteOf_mark (s : State) {v w : Nat} (h : v < 2 ^ 10) :
    registerWriteOf s .stockroom 0x00 v w = writeSrMark s v := by
  have field : bits v 0 10 = v := by rw [bits, Nat.pow_zero, Nat.div_one, Nat.mod_eq_of_lt h]
  have noLock : v.testBit 31 = false := Nat.testBit_lt_two_pow (Nat.lt_trans h (by decide))
  simp [registerWriteOf, stockroomWrite, field, noLock]

/-! ### The owner of a shelf (03 R94 to R96) -/

theorem shelfOwner_secure {s : State} {n : Nat} (h : n < max 16 s.sr.wm) : shelfOwner s n = 0x1D := if_pos h

theorem shelfOwner_system {s : State} {n : Nat} (h : ¬n < max 16 s.sr.wm) (high : 720 ≤ n) : shelfOwner s n = 0x1E := by
  unfold shelfOwner
  rw [if_neg h, if_pos high]

theorem setShelfOwner_wm (s : State) (n v : Nat) : (setShelfOwner s n v).sr.wm = s.sr.wm := by
  unfold setShelfOwner
  split <;> rfl

/-- A shelf of neither the fixed bays nor the secure ones takes a tenancy as its owner. -/
theorem shelfOwner_setShelfOwner {s : State} {n v : Nat} (low : max 16 s.sr.wm ≤ n) (high : n < 720) (h : v ≤ 16) :
    shelfOwner (setShelfOwner s n v) n = v := by
  have writes : setShelfOwner s n v = s.modSr fun r => { r with owner := tset 0 r.owner n (v + 1) } := by
    unfold setShelfOwner
    rw [if_neg (by simp; omega), if_neg (by omega)]
  rw [writes]
  unfold shelfOwner
  rw [if_neg (by simpa using low), if_neg (by omega)]
  simp

/-- The watermark at its least, exactly the shelves between the fixed bays take a tenancy as their owner. -/
theorem takes_tenancy_iff {s : State} {n v : Nat} (least : s.sr.wm = 16) (h : v ≤ 16) :
    shelfOwner (setShelfOwner s n v) n = v ↔ 16 ≤ n ∧ n ≤ 719 := by
  have wm : (setShelfOwner s n v).sr.wm = 16 := (setShelfOwner_wm s n v).trans least
  constructor
  · intro e
    by_cases low : n < 16
    · rw [shelfOwner_secure (by omega)] at e
      omega
    by_cases high : 720 ≤ n
    · rw [shelfOwner_system (by omega) high] at e
      omega
    omega
  · rintro ⟨low, high⟩
    exact shelfOwner_setShelfOwner (by omega) (by omega) h

/-- Settles O30: both watermarks are written only in range and unlocked, and the Stockroom's makes the shelves below it secure. -/
theorem watermarks : Obligations.Watermarks := by
  unfold Obligations.Watermarks
  refine ⟨fun s v unlocked low high => ⟨_, rfl, writeSrMark_legal unlocked low high⟩,
    fun s v h => ⟨_, rfl, writeSrMark_ignored h⟩, ?stored, ?ignored,
    fun s v unlocked h => ⟨_, rfl, writeDramMark_legal unlocked h⟩, fun s v h => ⟨_, rfl, writeDramMark_ignored h⟩,
    fun s n h => shelfOwner_secure (by omega),
    fun s n v least _ h => ⟨fun low => shelfOwner_secure (by omega), takes_tenancy_iff least h⟩⟩
  case stored =>
    intro s v unlocked low high
    exact gives_registerWrite ((registerWriteOf_mark s (by omega)).trans (writeSrMark_legal unlocked low high))
  case ignored => exact fun s v small h => gives_registerWrite ((registerWriteOf_mark s small).trans (writeSrMark_ignored h))

end Sys2Proof.Machine
end

section
/-! PROOFS. The ports of the Stockroom and its zeroiser (O54): which operations leave its bytes alone, what a port's write and
read do to them, and how a zeroised shelf is handed on. -/

namespace Sys2Proof.Machine

/-! ### Bytes written and read back -/

/-- A read of what was just written. -/
theorem Mem.rds_wrs (m : Mem) (a : Nat) (bs : List Byte) : Mem.rds (Mem.wrs m a bs) a bs.length = bs := by
  induction bs generalizing m a with
  | nil => rfl
  | cons b bs ih => rw [Mem.wrs, List.length_cons, Mem.rds, ih, Mem.rd_wrs_outside _ _ _ _ (.inl (Nat.lt_succ_self a)), Mem.rd_wr_same]

theorem Mem.rds_append (m : Mem) (a n k : Nat) : Mem.rds m a (n + k) = Mem.rds m a n ++ Mem.rds m (a + n) k := by
  induction n generalizing a with
  | zero => simp [Mem.rds]
  | succ n ih => rw [Nat.succ_add, Mem.rds, ih, Mem.rds, Nat.add_assoc, Nat.add_comm 1 n, List.cons_append]

/-- The part of a read of N bytes that n bytes from offset k on make up. -/
theorem Mem.drop_take_rds (m : Mem) (a : Nat) {N k n : Nat} (h : k + n ≤ N) : ((Mem.rds m a N).drop k).take n = Mem.rds m (a + k) n := by
  obtain ⟨j, rfl⟩ := Nat.exists_eq_add_of_le h
  rw [Nat.add_assoc, Mem.rds_append, List.drop_left' (Mem.rds_length ..), Mem.rds_append, List.take_left' (Mem.rds_length ..)]

/-! ### What leaves the bytes alone -/

theorem srMem_of_same {s t : State} (h : Same 0x2000 s t) : t.sr.mem = s.sr.mem := congrArg Stockroom.mem (h.get .sr (by decide))

theorem assert_srMem (s : State) (b a : Nat) (i : Bool) : (assert s b a i).sr.mem = s.sr.mem :=
  srMem_of_same (same_assert s b a i (by decide) same_refl)

theorem noteFault_srMem (s : State) (a : Nat) (w : WordFault) : (noteFault s a w).sr.mem = s.sr.mem := by
  unfold noteFault
  split
  · rfl
  · exact assert_srMem _ 16 0 false
  · rfl

theorem writeWord_srMem (poison : Bool) (addr len : Nat) (s : State) (a : Nat) : (writeWord poison addr len s a).sr.mem = s.sr.mem := by
  unfold writeWord
  split
  · rfl
  split
  · rfl
  · exact noteFault_srMem s a _

/-- A fold whose steps leave the bytes alone leaves them alone. -/
theorem foldl_srMem {α : Type} {f : State → α → State} (hf : ∀ t x, (f t x).sr.mem = t.sr.mem) (l : List α) (s : State) :
    (l.foldl f s).sr.mem = s.sr.mem := fold_keeps (P := fun t => t.sr.mem = s.sr.mem) (fun t x h => (hf t x).trans h) rfl

theorem countSrBytes_srMem (s : State) (o n : Nat) (w : Bool) : (countSrBytes s o n w).sr.mem = s.sr.mem := by
  unfold countSrBytes
  split
  · rfl
  · split <;> rfl

theorem countBytes_srMem (s : State) (r : PortRequest) (n : Nat) : (countBytes s r n).sr.mem = s.sr.mem := countSrBytes_srMem ..

theorem setShelfOwner_srMem (s : State) (n v : Nat) : (setShelfOwner s n v).sr.mem = s.sr.mem := by
  unfold setShelfOwner
  split <;> rfl

/-! ### Refused requests (03 R104) -/

theorem srAccessFault_fires (s : State) (o : Nat) : (srAccessFault s o).sr = s.sr ∧
    (evSrc (srAccessFault s o) (srcStockroom 4)).cause.testBit 0 = true ∧ (lgSrc (srAccessFault s o) 17).on = true :=
  ⟨(same_srAccessFault (ps := 0x2000) s o (by decide) same_refl).get .sr (by decide),
   assert_keeps_cause _ 17 _ _ _ _ (raise_sets s (srcStockroom 4) 0), assert_sets _ 17 _ _ (by decide)⟩

/-- What a refused request leaves in the answer: a write leaves it alone. -/
def refusedAnswer (r : PortRequest) (s : State) : State :=
  match r.write with
  | some _ => s
  | none => s.modSr fun x => { x with
      answer := { port := r.port, bytes := zeros r.len, poisoned := List.range (wordsOf r.addr r.len).length } }

theorem portRefuse_eq (s : State) (r : PortRequest) : portRefuse s r = srAccessFault (refusedAnswer r s) (portOwner r) := by
  unfold portRefuse refusedAnswer
  cases r.write <;> rfl

theorem refusedAnswer_srMem (s : State) (r : PortRequest) : (refusedAnswer r s).sr.mem = s.sr.mem := by
  unfold refusedAnswer
  split <;> rfl

theorem refusedAnswer_read (s : State) {r : PortRequest} (h : r.write = none) : (refusedAnswer r s).sr.answer =
    { port := r.port, bytes := zeros r.len, poisoned := List.range (wordsOf r.addr r.len).length } := by
  unfold refusedAnswer
  rw [h]
  rfl

theorem portRefuse_refuses (s : State) (r : PortRequest) : (portRefuse s r).sr.mem = s.sr.mem ∧
    (evSrc (portRefuse s r) (srcStockroom 4)).cause.testBit 0 = true ∧ (lgSrc (portRefuse s r) 17).on = true ∧
    (r.write = none → (portRefuse s r).sr.answer.bytes = zeros r.len ∧
      (portRefuse s r).sr.answer.poisoned = List.range (wordsOf r.addr r.len).length) := by
  obtain ⟨sr, event, line⟩ := srAccessFault_fires (refusedAnswer r s) (portOwner r)
  rw [portRefuse_eq, sr]
  refine ⟨refusedAnswer_srMem s r, event, line, fun h => ?_⟩
  rw [refusedAnswer_read s h]
  exact ⟨rfl, rfl⟩

/-! ### Writes (03 R134) -/

theorem writeBytes_srMem (s : State) (poison : Bool) (a : Nat) (bs : List Byte) :
    (writeBytes s poison a bs).sr.mem = Mem.wrs s.sr.mem a bs := by
  unfold writeBytes
  rw [modSr_sr]
  exact congrArg (Mem.wrs · a bs) (foldl_srMem (writeWord_srMem poison a bs.length) _ s)

/-- A write at a port that keeps no second copy. -/
theorem portWrite_srMem (s : State) {r : PortRequest} (bs : List Byte) (h : r.port ≠ 28) :
    (portWrite s r bs).sr.mem = Mem.wrs s.sr.mem r.addr bs := by
  have single : portWrite s r bs = writeBytes (foundByWrite s r bs.length) r.poison r.addr bs := if_neg (by simp [h])
  rw [single, writeBytes_srMem]
  rfl

theorem movePort_write_srMem (s : State) {r : PortRequest} {bs : List Byte} (w : r.write = some bs) (h : r.port ≠ 28) :
    (movePort feedWrite s r).sr.mem = Mem.wrs s.sr.mem r.addr bs := by
  unfold movePort
  dsimp only
  rw [w]
  dsimp only
  rw [srMem_of_same (same_feedWrite _ _ _ (by decide) same_refl), portWrite_srMem _ bs h, countBytes_srMem]

/-! ### Reads (03 R93, R131) -/

/-- A sound word is read as it stands, and nothing is noted. -/
theorem readWord_sound {port : Nat} (h : port ≠ 28) (s : State) (a : Nat) :
    readWord port s a .sound = (Mem.rds s.sr.mem a 8, false, s) := by
  unfold readWord
  rw [if_neg (by simp [h])]
  rfl

theorem joinFault_sound (w : WordFault) : joinFault w .sound = w := by cases w <;> rfl

/-- The reading of a request's word where it finds no fault writes back what stands there. -/
theorem srWord_found_sound (s : State) (b a : Nat) : srWord (setSrWord s b (joinFault (srWord s b) .sound)) a = srWord s a := by
  rw [joinFault_sound]
  unfold srWord setSrWord
  by_cases h : a / 8 = b / 8
  · rw [h, modSr_sr]
    exact tget_tset_same ..
  · exact tget_tset_other _ _ _ _ _ h

/-- A fold that reads words one behind the other, each as its bytes stand and none poisoned, reads the bytes of them all. -/
theorem foldl_readWords {f : List Byte × List Nat × State → Nat → List Byte × List Nat × State} {s : State} {k n : Nat}
    (step : ∀ bs i, i < n → f (bs, [], s) ((k + i) * 8) = (bs ++ Mem.rds s.sr.mem ((k + i) * 8) 8, [], s)) :
    ((List.range n).map fun i => (k + i) * 8).foldl f ([], [], s) = (Mem.rds s.sr.mem (k * 8) (8 * n), [], s) := by
  induction n with
  | zero => rfl
  | succ n ih =>
    rw [List.range_succ, List.map_append, List.foldl_append, ih fun bs i hi => step bs i (Nat.lt_succ_of_lt hi)]
    have last := step (Mem.rds s.sr.mem (k * 8) (8 * n)) n (Nat.lt_succ_self n)
    rw [List.map_singleton, List.foldl_cons, List.foldl_nil, last, Nat.mul_succ 8 n, Mem.rds_append, Nat.add_mul, Nat.mul_comm 8 n]

/-- The words of a range are its words from its first byte's on, and they cover it. -/
theorem wordsOf_range (a n : Nat) :
    ∃ k, wordsOf a n = ((List.range k).map fun i => (a / 8 + i) * 8) ∧ (n = 0 ∨ a % 8 + n ≤ 8 * k) := by
  by_cases h : n = 0
  · exact ⟨0, if_pos h, .inl h⟩
  · exact ⟨_, if_neg h, .inr (by omega)⟩

/-- The bytes of a range, cut out of those of the words that cover it. -/
theorem cut_rds (m : Mem) {a n k : Nat} (h : n = 0 ∨ a % 8 + n ≤ 8 * k) :
    ((Mem.rds m (a / 8 * 8) (8 * k)).drop (a % 8)).take n = Mem.rds m a n := by
  rcases h with rfl | h
  · rfl
  · rw [Mem.drop_take_rds m _ h, show a / 8 * 8 + a % 8 = a by omega]

/-- A read of sound words answers the bytes that stand there. -/
theorem portRead_sound (s : State) {r : PortRequest} (port : r.port ≠ 28) (found : r.found = .sound)
    (sound : ∀ a ∈ wordsOf r.addr r.len, srWord s a = .sound) : (portRead s r).sr.mem = s.sr.mem ∧
    (portRead s r).sr.answer.bytes = Mem.rds s.sr.mem r.addr r.len ∧ (portRead s r).sr.answer.poisoned = [] := by
  obtain ⟨k, words, covers⟩ := wordsOf_range r.addr r.len
  have stays : ∀ a, srWord (setSrWord s r.addr (joinFault (srWord s r.addr) r.found)) a = srWord s a := fun a => by
    rw [found, srWord_found_sound]
  have bytes : (setSrWord s r.addr (joinFault (srWord s r.addr) r.found)).sr.mem = s.sr.mem := rfl
  unfold portRead
  dsimp only
  generalize setSrWord s r.addr (joinFault (srWord s r.addr) r.found) = u at stays bytes
  rw [words, foldl_readWords ?step]
  case step =>
    intro bs i hi
    have mine : srWord u ((r.addr / 8 + i) * 8) = .sound := by
      rw [stays, sound _ (words ▸ List.mem_map.2 ⟨i, List.mem_range.2 hi, rfl⟩)]
    simp [mine, found, readWord_sound port]
  rw [← bytes]
  simp only [List.isEmpty_nil, Bool.not_true, Bool.and_false, Bool.false_eq_true, if_false, modSr_sr]
  exact ⟨foldl_srMem (fun t x => noteFault_srMem t x _) _ u, cut_rds _ covers, trivial⟩

theorem movePort_read_sound (s : State) {r : PortRequest} (read : r.write = none) (port : r.port ≠ 28) (found : r.found = .sound)
    (sound : ∀ a ∈ wordsOf r.addr r.len, srWord s a = .sound) : (movePort feedWrite s r).sr.mem = s.sr.mem ∧
    (movePort feedWrite s r).sr.answer.bytes = Mem.rds s.sr.mem r.addr r.len ∧ (movePort feedWrite s r).sr.answer.poisoned = [] := by
  have words : (countBytes s r (portLen r)).sr.words = s.sr.words := by
    unfold countBytes countSrBytes
    split
    · rfl
    · split <;> rfl
  unfold movePort
  dsimp only
  rw [read, ← countBytes_srMem s r (portLen r)]
  exact portRead_sound _ port found fun a ha => (congrArg (tget WordFault.sound · (a / 8)) words).trans (sound a ha)

/-! ### The zeroiser (03 R105) -/

theorem shelfDone_none {s : State} {n : Nat} (h : ∀ z ∈ s.sr.zeroise, z.unit ≠ n) : shelfDone s n = s := by
  have none : (s.sr.zeroise.find? fun z => z.unit == n) = none := List.find?_eq_none.2 fun z hz => by simpa using h z hz
  unfold shelfDone
  rw [none]

/-- The state in which a shelf has been zeroised and waits no longer. -/
def shelfWiped (s : State) (n : Nat) : State :=
  (wipeShelf (noteMoved s 7) n).modSr fun r => { r with zeroise := r.zeroise.eraseP fun z => z.unit == n }

theorem shelfDone_some {s : State} {n v : Nat} (h : (s.sr.zeroise.find? fun z => z.unit == n) = some { unit := n, next := v }) :
    shelfDone s n = if v = 0x1D then shelfWiped s n else setShelfOwner (shelfWiped s n) n v := by
  unfold shelfDone
  rw [h]
  rfl

theorem setShelfOwner_zeroise (s : State) (n v : Nat) : (setShelfOwner s n v).sr.zeroise = s.sr.zeroise := by
  unfold setShelfOwner
  split <;> rfl

/-- The zeroised shelf is zero, every other byte is as before, and the shelf has left the queue. -/
theorem shelfDone_wipes {s : State} {n v : Nat} (h : (s.sr.zeroise.find? fun z => z.unit == n) = some { unit := n, next := v }) :
    (shelfDone s n).sr.mem = Mem.wipe s.sr.mem (n * 2 ^ 18) (2 ^ 18) ∧
      (shelfDone s n).sr.zeroise = s.sr.zeroise.eraseP fun z => z.unit == n := by
  rw [shelfDone_some h]
  split
  · exact ⟨rfl, rfl⟩
  · exact ⟨setShelfOwner_srMem .., setShelfOwner_zeroise ..⟩

theorem shelfDone_owner {s : State} {n v : Nat} (h : (s.sr.zeroise.find? fun z => z.unit == n) = some { unit := n, next := v })
    (low : max 16 s.sr.wm ≤ n) (high : n < 720) (tenancy : v ≤ 16) : shelfOwner (shelfDone s n) n = v := by
  rw [shelfDone_some h, if_neg (by omega)]
  exact shelfOwner_setShelfOwner low high tenancy

/-! ### The commands -/

section Request

variable {s : State} {r : PortRequest} {p : State → Prop} (below : r.addr + portLen r ≤ 0xC000000)
include below

theorem gives_refused (may : portPermits s r (portLen r) = false) (h : p (portRefuse s r)) : Gives (.stockroomRequest r) s p :=
  ⟨_, (servePort_below below).trans (by rw [if_pos may]), h⟩

theorem gives_waiting (may : portPermits s r (portLen r) = true) (turn : turnServes s r = false)
    (h : p (s.modSr fun x => { x with waiting := x.waiting ++ [r] })) : Gives (.stockroomRequest r) s p :=
  ⟨_, (servePort_below below).trans (by rw [if_neg (by simp [may]), if_pos turn]), h⟩

theorem gives_served (may : portPermits s r (portLen r) = true) (turn : turnServes s r = true) (h : p (movePort feedWrite s r)) :
    Gives (.stockroomRequest r) s p :=
  ⟨_, (servePort_below below).trans (by rw [if_neg (by simp [may]), if_neg (by simp [turn])]), h⟩

end Request

/-- Settles O54: a request is refused, waits, or moves its bytes (`servePort_below`), and a zeroised shelf is wiped and handed on. -/
theorem stockroomPorts : Obligations.StockroomPorts := by
  unfold Obligations.StockroomPorts
  refine ⟨fun s r => ⟨servePort_hole, fun below may => gives_refused below may (portRefuse_refuses s r),
    fun below may turn => gives_waiting below may turn rfl⟩, ?writes, ?reads, fun s n h => ⟨_, rfl, shelfDone_none h⟩, ?zeroised⟩
  case writes =>
    intro s r bs write below may turn port
    have len : portLen r = bs.length := by rw [portLen, write]
    refine gives_served (len ▸ below) (len ▸ may) turn ?_
    rw [movePort_write_srMem s write port]
    exact ⟨Mem.rds_wrs .., fun a => Mem.rd_wrs_outside _ _ _ _⟩
  case reads =>
    intro s r read below may turn port found sound
    have len : portLen r = r.len := by rw [portLen, read]
    exact gives_served (len ▸ below) (len ▸ may) turn (movePort_read_sound s read port found sound)
  case zeroised =>
    intro s n v h
    refine ⟨_, rfl, ?_⟩
    obtain ⟨mem, gone⟩ := shelfDone_wipes h
    rw [mem]
    refine ⟨fun i hi => ?_, fun a ha => ?_, gone, shelfDone_owner h⟩
    · rw [Mem.rd_wipe, if_pos (by omega)]
    · rw [Mem.rd_wipe, if_neg (by omega)]

end Sys2Proof.Machine
end

section
/-! PROOFS. The stager and underruns (O43): the switch, the requests and the arrivals of one head's stager, and what an underrun
notes and makes of its frame or push. -/

namespace Sys2Proof.Machine

/-! ### What leaves the stagers alone -/

theorem stagerOf_of_stagers {s t : State} (h : t.sr.stagers = s.sr.stagers) (n : Nat) : stagerOf t n = stagerOf s n := by
  unfold stagerOf
  rw [h]

theorem stagers_of_same {s t : State} (h : Same 0x2000 s t) : t.sr.stagers = s.sr.stagers :=
  congrArg Stockroom.stagers (h.get .sr (by decide))

/-- A fold whose steps leave the stagers alone leaves them alone. -/
theorem foldl_stagers {α : Type} {f : State → α → State} (hf : ∀ t x, (f t x).sr.stagers = t.sr.stagers) (l : List α) (s : State) :
    (l.foldl f s).sr.stagers = s.sr.stagers := fold_keeps (P := fun t => t.sr.stagers = s.sr.stagers) (fun t x h => (hf t x).trans h) rfl

theorem placeRing_stagers (s : State) (sl t n : Nat) : (placeRing s sl t n).sr.stagers = s.sr.stagers := rfl

theorem zeroiseShelf_stagers (s : State) (n v : Nat) : (zeroiseShelf s n v).sr.stagers = s.sr.stagers := by
  unfold zeroiseShelf setShelfOwner
  dsimp only
  split
  · rfl
  · split <;> rfl

theorem zeroiseSecure_stagers (s : State) (shelves plots : List Nat) : (zeroiseSecure s shelves plots).sr.stagers = s.sr.stagers :=
  (foldl_stagers (fun t p => stagers_of_same (same_zeroisePlot t p 0x1D (by decide) same_refl)) plots _).trans
    (foldl_stagers (fun t n => zeroiseShelf_stagers t n 0x1D) shelves s)

theorem placeSecureRing_stagers (s : State) (sl n : Nat) : (placeSecureRing s sl n).sr.stagers = s.sr.stagers :=
  zeroiseSecure_stagers _ _ _

theorem commitLayerUpdate_stagers (s : State) (f : Flight) : (commitLayerUpdate s f).sr.stagers = s.sr.stagers := by
  unfold commitLayerUpdate
  dsimp only
  split <;> rfl

theorem commitLayerMove_stagers (s : State) (f : Flight) : (commitLayerMove s f).sr.stagers = s.sr.stagers := by
  unfold commitLayerMove
  dsimp only
  split <;> rfl

theorem renewCharges_stagers (s : State) (sl : Nat) : (renewCharges s sl).sr.stagers = s.sr.stagers := by
  unfold renewCharges
  dsimp only
  split
  · refine foldl_stagers (fun t f => ?_) _ _
    split
    · rfl
    split
    · exact commitLayerUpdate_stagers t f
    split
    · rfl
    split
    · exact commitLayerMove_stagers t f
    · rfl
  · rfl

theorem resizeRings_stagers (s : State) (h : Nat) : (resizeRings s h).sr.stagers = s.sr.stagers := by
  unfold resizeRings
  split
  · rfl
  · refine foldl_stagers (fun t i => ?_) _ _
    dsimp only
    rw [renewCharges_stagers, placeRing_stagers]
    split
    · exact placeSecureRing_stagers ..
    · rfl

/-! ### The switch (03 R121, R149) -/

/-- A STOCKROOM_STAGER that applies gives a stager another LEAD and warning, and leaves what has been requested and has arrived. -/
theorem applyStager_stager (s : State) (f : Flight) (h : Nat) : ∃ lead warn,
    stagerOf (applyStager s f) h = { stagerOf s h with lead := lead, warn := warn } := by
  unfold applyStager
  dsimp only
  generalize dbits f.desc 16 0 4 = g
  generalize hv : ({ stagerOf s g with lead := dbits f.desc 20 0 21, warn := dbits f.desc 24 0 21 } : Stager) = v
  have rings : (finishDone (resizeRings (setStager s g v) g) f).sr.stagers = (setStager s g v).sr.stagers :=
    (stagers_of_same (same_finishDone _ f 0 (by decide) same_refl)).trans (resizeRings_stagers ..)
  rw [stagerOf_of_stagers rings]
  by_cases e : h = g
  · subst e
    exact ⟨_, _, (stagerOf_setStager_same ..).trans hv.symm⟩
  · exact ⟨_, _, stagerOf_setStager_other _ _ _ _ e⟩

theorem applyStagers_stager (s : State) (l : List Flight) (h : Nat) :
    (stagerOf (l.foldl applyStager s) h).arrived = (stagerOf s h).arrived ∧
      (stagerOf (l.foldl applyStager s) h).line = (stagerOf s h).line := by
  refine fold_keeps (P := fun t => (stagerOf t h).arrived = (stagerOf s h).arrived ∧ (stagerOf t h).line = (stagerOf s h).line)
    (fun t f kept => ?_) ⟨rfl, rfl⟩
  obtain ⟨lead, warn, e⟩ := applyStager_stager t f h
  rw [e]
  exact kept

theorem headOf_of_same {s t : State} (h : Same 0x4000 s t) (n : Nat) : headOf t n = headOf s n := by
  unfold headOf
  rw [show t.comp = s.comp from h.get .comp (by decide)]

/-- An update held, or tested otherwise, changes no head. -/
theorem testUpdate_headOf (s : State) (f : Flight) (h : Nat) : headOf (testUpdate s f) h = headOf s h := by
  unfold testUpdate
  dsimp only
  split
  · rfl
  · split
    · exact headOf_of_same (same_restoreCharges _ _ (by decide) (same_finishAborted _ _ (by decide) same_refl)) h
    · rfl
  · rfl

theorem testUpdates_keep (s : State) (l : List Flight) (h : Nat) :
    headOf (l.foldl testUpdate s) h = headOf s h ∧ stagerOf (l.foldl testUpdate s) h = stagerOf s h :=
  ⟨fold_keeps (P := fun t => headOf t h = headOf s h) (fun t f e => (testUpdate_headOf t f h).trans e) rfl,
   stagerOf_of_stagers (foldl_stagers (fun t f => stagers_of_same (same_testUpdate t f (by decide) same_refl)) l s) h⟩

theorem drawnArea_video {s : State} {h : Nat} {c : HeadCfg} (hc : (headOf s h).cfg = some c) (video : c.kind = .video) (ahead : Bool) :
    drawnArea s h ahead = none := by
  unfold drawnArea
  rw [hc]
  exact if_pos video

/-- A stager that is set and then makes its first request, where that is due, differs in its line alone: on a video head it goes
from line 0 to line 1 at most. -/
theorem requestNew_setStager (s : State) (h : Nat) (c : HeadCfg) (v : Stager) :
    ∃ l, stagerOf (requestNew (setStager s h v) h c) h = { v with line := l } ∧
      ((headOf s h).cfg = some c → c.kind = .video → v.line = 0 → l ≤ 1) := by
  unfold requestNew
  dsimp only
  rw [stagerOf_setStager_same]
  split
  · refine ⟨_, stagerOf_setStager_same .., fun hc video first => ?_⟩
    rw [drawnArea_video (s := setStager s h v) hc video, first]
    exact Nat.le_refl 1
  · exact ⟨v.line, stagerOf_setStager_same .., fun _ _ first => first ▸ Nat.zero_le 1⟩

/-- The stager after a switch: the next frame with nothing arrived, and the frame in progress with what it had. -/
theorem switchStager_turns {s : State} {h : Nat} {c : HeadCfg} (hc : (headOf s h).cfg = some c) :
    let v := stagerOf (switchStager s h) h
    v.frame = nextStaged (headOf s h) ∧ (c.kind = .video → v.line ≤ 1) ∧ v.arrived = 0 ∧ v.older = (stagerOf s h).arrived ∧
      v.oldLine = (stagerOf s h).line ∧ v.oldLead = (stagerOf s h).lead := by
  unfold switchStager
  dsimp only
  rw [hc]
  dsimp only
  generalize hu : List.foldl testUpdate s _ = u
  obtain ⟨head, stager⟩ : headOf u h = headOf s h ∧ stagerOf u h = stagerOf s h := by
    rw [← hu]
    exact testUpdates_keep ..
  generalize hw : List.foldl applyStager u _ = w
  obtain ⟨arrived, line⟩ : (stagerOf w h).arrived = (stagerOf s h).arrived ∧ (stagerOf w h).line = (stagerOf s h).line := by
    rw [← hw, ← stager]
    exact applyStagers_stager ..
  have cfg : (headOf w h).cfg = some c := by
    rw [← hw, headOf_of_same (same_foldl (fun t f w => same_applyStager t f (by decide) w) same_refl), head, hc]
  generalize hx : modHead w h _ = x
  have shown : (headOf x h).cfg = some c := by
    rw [← hx, headOf_modHead_same]
    exact cfg
  have staged : stagerOf x h = stagerOf w h := by
    rw [← hx]
    rfl
  rw [staged]
  obtain ⟨l, e, first⟩ := requestNew_setStager x h c _
  rw [e]
  refine ⟨rfl, fun video => first shown video ?_, rfl, arrived, line, congrArg Stager.lead stager⟩
  rw [drawnArea_video shown video]
  rfl

/-! ### Requests (03 R115, R149) -/

theorem oldRequestDue_iff {s : State} {h : Nat} {c : HeadCfg} : oldRequestDue s h c = true ↔ olderOpen s h c = true ∧
    (stagerOf s h).oldLine < c.vActive ∧ lineTick s h 0 (stagerOf s h).oldLine - ((stagerOf s h).oldLead : Int) ≤ (now s : Int) := by
  simp [oldRequestDue, and_assoc]

theorem newRequestDue_iff {s : State} {h : Nat} {c : HeadCfg} : newRequestDue s h c = true ↔ (stagerOf s h).line < c.vActive ∧
    stagedTick s h (((stagerOf s h).frame + 2 ^ 32 - (headOf s h).frame) % 2 ^ 32) (stagerOf s h).line - ((stagerOf s h).lead : Int) ≤
      (now s : Int) := by
  simp [newRequestDue]

section Request

variable {s : State} {h : Nat} {c : HeadCfg} (hc : (headOf s h).cfg = some c)
include hc

theorem requestLine_eq : requestLine s h =
    if oldRequestDue s h c then some (stagerOf s h).oldLine else if newRequestDue s h c then some (stagerOf s h).line else none := by
  unfold requestLine
  rw [hc]

/-- The line that the frame in progress still lacks. -/
theorem stagerRequestOf_old (due : oldRequestDue s h c = true) : stagerRequestOf s h (stagerOf s h).oldLine =
    setStager s h { stagerOf s h with oldLine := nextDrawn c (drawnArea s h false) ((stagerOf s h).oldLine + 1) } := by
  unfold stagerRequestOf
  rw [hc]
  dsimp only
  rw [requestLine_eq hc, if_pos due, if_neg (by simp), if_pos due]

/-- The next line of the frame staged, where the frame in progress lacks none that is due. -/
theorem stagerRequestOf_new (older : oldRequestDue s h c = false) (due : newRequestDue s h c = true) :
    stagerRequestOf s h (stagerOf s h).line =
      setStager s h { stagerOf s h with line := nextDrawn c (drawnArea s h (stagesAhead s h)) ((stagerOf s h).line + 1) } := by
  unfold stagerRequestOf
  rw [hc]
  simp [requestLine_eq hc, older, due, requestNew]

theorem stagerRequestOf_other {l : Nat} (old : oldRequestDue s h c = true → l ≠ (stagerOf s h).oldLine)
    (new : oldRequestDue s h c = false → newRequestDue s h c = true → l ≠ (stagerOf s h).line) : stagerRequestOf s h l = s := by
  unfold stagerRequestOf
  rw [hc]
  refine if_pos ?_
  rw [requestLine_eq hc]
  cases older : oldRequestDue s h c
  case true => simpa using (old older).symm
  case false =>
    cases due : newRequestDue s h c
    case true => simpa using (new older due).symm
    case false => simp

end Request

/-! ### Arrivals (03 R115, R125) -/

/-- Whether the data of a line that arrives is the frame in progress's. -/
def arrivesOlder (s : State) (h : Nat) (c : HeadCfg) (l : Nat) : Bool :=
  olderOpen s h c && decide ((stagerOf s h).older ≤ l) && decide (l < (stagerOf s h).oldLine)

theorem arrivesOlder_iff {s : State} {h : Nat} {c : HeadCfg} {l : Nat} :
    arrivesOlder s h c l = true ↔ olderOpen s h c = true ∧ (stagerOf s h).older ≤ l ∧ l < (stagerOf s h).oldLine := by
  simp [arrivesOlder, and_assoc]

section Arrival

variable {s : State} {h l : Nat} {c : HeadCfg} (hc : (headOf s h).cfg = some c)
include hc

/-- A line of the frame staged: active, requested and drawn. -/
theorem stagingArrivalOf_new (active : l < c.vActive) (new : arrivesOlder s h c l = false) (asked : l < (stagerOf s h).line)
    (drawn : rowDrawn (drawnArea s h (stagesAhead s h)) l = true) : stagerOf (stagingArrivalOf s h l) h = { stagerOf s h with
      arrived := max (stagerOf s h).arrived (l + 1),
      least := min (stagerOf s h).least
        (stagedTick s h (((stagerOf s h).frame + 2 ^ 32 - (headOf s h).frame) % 2 ^ 32) l - now s).toNat } := by
  unfold arrivesOlder at new
  unfold stagingArrivalOf
  dsimp only
  rw [hc]
  simp [new, drawn, Nat.not_le.2 active, Nat.not_le.2 asked]

/-- A line that the frame in progress still lacks. -/
theorem stagingArrivalOf_older (active : l < c.vActive) (older : arrivesOlder s h c l = true)
    (drawn : rowDrawn (drawnArea s h false) l = true) : stagerOf (stagingArrivalOf s h l) h = { stagerOf s h with
      older := l + 1, least := min (stagerOf s h).least (stagedTick s h 0 l - now s).toNat } := by
  unfold arrivesOlder at older
  unfold stagingArrivalOf
  dsimp only
  rw [hc]
  simp [older, drawn, Nat.not_le.2 active]

theorem stagingArrivalOf_other (other : c.vActive ≤ l ∨ (arrivesOlder s h c l = false ∧
      ((stagerOf s h).line ≤ l ∨ rowDrawn (drawnArea s h (stagesAhead s h)) l = false)) ∨
      (arrivesOlder s h c l = true ∧ rowDrawn (drawnArea s h false) l = false)) : stagingArrivalOf s h l = s := by
  unfold arrivesOlder at other
  unfold stagingArrivalOf
  dsimp only
  rw [hc]
  refine if_pos ?_
  rcases other with inactive | ⟨new, unasked | undrawn⟩ | ⟨older, undrawn⟩
  · simp [inactive]
  · simp [new, unasked]
  · simp [new, undrawn]
  · simp [older, undrawn]

end Arrival

/-! ### Latches that stay set -/

/-- Every event latch and every source of the Ledger that is set in s is set in t. -/
structure LatchesKept (s t : State) : Prop where
  event : ∀ n k, (evSrc s n).cause.testBit k = true → (evSrc t n).cause.testBit k = true
  line : ∀ b, (lgSrc s b).on = true → (lgSrc t b).on = true

namespace LatchesKept

theorem trans {s t u : State} (a : LatchesKept s t) (b : LatchesKept t u) : LatchesKept s u :=
  ⟨fun n k h => b.event n k (a.event n k h), fun n h => b.line n (a.line n h)⟩

theorem of_same {s t : State} (h : Same 0xC0 s t) : LatchesKept s t :=
  ⟨fun n _ e => by rwa [evSrc_of_ev (h.get .ev (by decide)) n], fun b e => by rwa [lgSrc_of_lg (h.get .lg (by decide)) b]⟩

theorem foldl {α : Type} {f : State → α → State} (hf : ∀ t x, LatchesKept t (f t x)) (l : List α) (s : State) :
    LatchesKept s (l.foldl f s) :=
  fold_keeps (P := LatchesKept s) (fun t x h => h.trans (hf t x)) (.of_same same_refl)

theorem ite {c : Prop} [Decidable c] {s t u : State} (a : LatchesKept s t) (b : LatchesKept s u) : LatchesKept s (if c then t else u) := by
  split <;> assumption

end LatchesKept

theorem raise_latches (s : State) (n b : Nat) : LatchesKept s (raise s n b) := ⟨fun m k => raise_keeps s n b m k, fun _ h => h⟩

theorem assert_latches (s : State) (b a : Nat) (i : Bool) : LatchesKept s (assert s b a i) :=
  ⟨fun n k => assert_keeps_cause s b a i n k, fun n => assert_keeps_on s b a i n⟩

theorem conclude_latches (s : State) (u : Nat) (hidden whole : Bool) (actual : Nat) (expect : Option Nat) (seq next : Nat) :
    LatchesKept s (conclude s u hidden whole actual expect seq next) := by
  unfold conclude
  dsimp only
  generalize hw : setAssay s u _ = w
  have unit : LatchesKept s w := hw ▸ .of_same (same_setAssay s u _ (by decide) same_refl)
  have failed : LatchesKept s (raise w (srcAssay u) 0) := unit.trans (raise_latches ..)
  exact unit.ite ((failed.trans (assert_latches ..)).ite failed)

theorem compareHead_latches (s : State) (h : Nat) : LatchesKept s (compareHead s h) := by
  unfold compareHead
  refine .foldl (fun t u => ?_) _ s
  refine .ite (.of_same same_refl) (.trans (.of_same ?_) (conclude_latches ..))
  exact same_setAssay _ u _ (by decide) (same_forgetFrame t u _ (by decide) same_refl)

theorem losePush_latches (s : State) (h : Nat) (p : Push) : LatchesKept s (losePush s h p) := by
  unfold losePush inPush
  refine .trans (.trans (.of_same ?_) (compareHead_latches _ h)) (.of_same (same_modComp (by decide) same_refl))
  exact same_foldl (fun t u w => same_modAssay t u _ (by decide) w) (same_pushView s h p (by decide) same_refl)

/-! ### Underruns (09 R426, R427, R433) -/

/-- The state in which an underrun is counted, and its event and source 24 of the Ledger are set. -/
def underrunNoted (s : State) (h : Nat) : State :=
  let c := (headOf s h).cfg.getD {}
  let pos := (freshValue s).1.toNat % max 1 c.hActive
  let u := modHead (freshValue s).2 h fun hd => { hd with
    underruns := min 0xFFFFFFFF (hd.underruns + 1), pixels := hd.pixels.take pos ++ List.replicate (c.hActive - pos) 0 }
  assert (raise u (srcHead h 0) 0) 24 (headTenancies u h)

/-- What becomes of a push head's push when a line of it is lost: it ends, and what it has not sent goes into the next. -/
def pushUnderrun (s : State) (h : Nat) : State :=
  match (headOf s h).push with
  | none => s
  | some p => stopAtEnd (afterPush (carryOn (losePush s h p) h (unsent p (headOf (losePush s h p) h).sent)) h) h

theorem underrunOf_eq {s : State} {h y : Nat} (draws : drawnLine s h = some y) (lacks : lineHeld s h y = false) :
    underrunOf s h =
      if ((headOf s h).cfg.getD {}).kind = .video then modHead (underrunNoted s h) h fun hd => { hd with
        blanking := ((headOf s h).cfg.getD {}).blankRest, aborting := !((headOf s h).cfg.getD {}).blankRest }
      else pushUnderrun (underrunNoted s h) h := by
  unfold underrunOf
  rw [draws]
  dsimp only
  rw [if_neg (by simp [lacks])]
  rfl

/-- What an underrun of head h leaves: the count n of its underruns, its event, and its source of the Ledger. -/
structure Underran (h n : Nat) (t : State) : Prop where
  count : (headOf t h).underruns = n
  event : (evSrc t (srcHead h 0)).cause.testBit 0 = true
  line : (lgSrc t 24).on = true

theorem Underran.of_kept {h n : Nat} {s t : State} (w : Underran h n s) (latches : LatchesKept s t)
    (count : (headOf t h).underruns = (headOf s h).underruns) : Underran h n t :=
  ⟨count.trans w.count, latches.event _ _ w.event, latches.line _ w.line⟩

theorem Underran.modHead {h n : Nat} {s : State} (w : Underran h n s) {f : Head → Head} (hf : ∀ x, (f x).underruns = x.underruns) :
    Underran h n (modHead s h f) :=
  w.of_kept (.of_same (same_modHead s h f (by decide) same_refl)) (by rw [headOf_modHead_same, hf])

theorem underrunNoted_underran (s : State) (h : Nat) :
    Underran h (min 0xFFFFFFFF ((headOf s h).underruns + 1)) (underrunNoted s h) := by
  unfold underrunNoted
  dsimp only
  refine ⟨?_, assert_keeps_cause _ 24 _ _ _ _ (raise_sets _ _ _), assert_sets _ 24 _ _ (by decide)⟩
  rw [headOf_of_same (same_assert _ 24 _ _ (by decide) (same_raise _ _ _ (by decide) same_refl)), headOf_modHead_same]
  rfl

theorem startPush_underran {h n : Nat} {s : State} (w : Underran h n s) (t : Nat) : Underran h n (startPush s h t) := by
  unfold startPush
  split
  · exact w
  · exact w.modHead fun _ => rfl

theorem afterPush_underran {h n : Nat} {s : State} (w : Underran h n s) : Underran h n (afterPush s h) := by
  have ended : Underran h n (modHead s h fun hd =>
      { hd with pushing := false, push := hd.queued.head?, queued := hd.queued.tail, sent := 0, pixels := [] }) := w.modHead fun _ => rfl
  unfold afterPush
  dsimp only
  split
  · exact startPush_underran ended _
  · exact ended

theorem carryOn_underran {h n : Nat} {s : State} (w : Underran h n s) (rs : List Rect) : Underran h n (carryOn s h rs) :=
  w.modHead fun x => by split <;> rfl

theorem stopHead_underran {h n : Nat} {s : State} (w : Underran h n s) : Underran h n (stopHead s h) := by
  unfold stopHead
  dsimp only
  refine Underran.modHead ?_ fun _ => rfl
  split
  · exact w.of_kept (.of_same (same_quietSync s (by decide) same_refl))
      (congrArg Head.underruns (headOf_of_same (same_quietSync s (by decide) same_refl) h))
  · exact w

theorem stopAtEnd_underran {h n : Nat} {s : State} (w : Underran h n s) : Underran h n (stopAtEnd s h) := by
  unfold stopAtEnd
  split
  · exact w
  dsimp only
  split
  · exact (stopHead_underran w).of_kept (.of_same (same_finishDone _ _ _ (by decide) same_refl))
      (congrArg Head.underruns (headOf_of_same (same_finishDone _ _ _ (by decide) same_refl) h))
  · exact stopHead_underran w

theorem pushUnderrun_underran {h n : Nat} {s : State} (w : Underran h n s) : Underran h n (pushUnderrun s h) := by
  unfold pushUnderrun
  split
  · exact w
  · next p _ =>
    -- the integrity units see a push in a view of the heads that is put back
    have lost : Underran h n (losePush s h p) := w.of_kept (losePush_latches s h p) rfl
    exact stopAtEnd_underran (afterPush_underran (carryOn_underran lost _))

theorem underrunOf_underran {s : State} {h y : Nat} (draws : drawnLine s h = some y) (lacks : lineHeld s h y = false) :
    Underran h (min 0xFFFFFFFF ((headOf s h).underruns + 1)) (underrunOf s h) := by
  have noted := underrunNoted_underran s h
  rw [underrunOf_eq draws lacks]
  split
  · exact noted.modHead fun _ => rfl
  · exact pushUnderrun_underran noted

/-- A video head blanks the rest of its frame or ends it early. -/
theorem underrunOf_video {s : State} {h y : Nat} {c : HeadCfg} (draws : drawnLine s h = some y) (lacks : lineHeld s h y = false)
    (hc : (headOf s h).cfg = some c) (video : c.kind = .video) :
    (headOf (underrunOf s h) h).blanking = c.blankRest ∧ (headOf (underrunOf s h) h).aborting = !c.blankRest := by
  rw [underrunOf_eq draws lacks, hc, Option.getD_some, if_pos video, headOf_modHead_same]
  exact ⟨rfl, rfl⟩

theorem underrunOf_idle {s : State} {h : Nat} (held : ∀ y, drawnLine s h = some y → lineHeld s h y = true) : underrunOf s h = s := by
  unfold underrunOf
  split
  · rfl
  · next y draws => exact if_pos (held y draws)

/-! ### The commands -/

/-- Settles O43: the laws of the switch, of the requests, of the arrivals and of underruns above, clause by clause. -/
theorem stagingAndUnderruns : Obligations.StagingAndUnderruns := by
  unfold Obligations.StagingAndUnderruns
  intro s h
  refine ⟨fun h => ⟨_, rfl, if_pos (by simpa [or_assoc] using h)⟩, ?switches, ?requests, ?arrivals, ?underruns,
    fun held => ⟨_, rfl, underrunOf_idle held⟩⟩
  case switches =>
    intro c hc up fresh due
    refine ⟨_, rfl, ?_⟩
    have acts : stagerSwitchOf s h = switchStager s h := if_neg (by simpa [up, fresh] using due)
    rw [acts]
    exact switchStager_turns hc
  case requests =>
    intro c l hc
    dsimp only
    rw [← oldRequestDue_iff, ← newRequestDue_iff]
    refine ⟨fun video ahead => by rw [drawnArea_video hc video]; rfl, ?_, ?_, fun old new => ⟨_, rfl, ?_⟩⟩
    · rintro due rfl
      exact ⟨_, rfl, stagerRequestOf_old hc due⟩
    · rintro older due rfl
      exact ⟨_, rfl, stagerRequestOf_new hc (by simpa using older) due⟩
    · exact stagerRequestOf_other hc old fun older => new (by simp [older])
  case arrivals =>
    intro c l hc
    dsimp only
    rw [← arrivesOlder_iff]
    refine ⟨fun active new asked drawn => ⟨_, rfl, stagingArrivalOf_new hc active (by simpa using new) asked drawn⟩,
      fun active older drawn => ⟨_, rfl, stagingArrivalOf_older hc active older drawn⟩,
      fun other => ⟨_, rfl, stagingArrivalOf_other hc (by simpa using other)⟩⟩
  case underruns =>
    intro y draws lacks
    obtain ⟨count, event, line⟩ := underrunOf_underran draws lacks
    exact ⟨_, rfl, count, event, line, fun c hc video => underrunOf_video draws lacks hc video⟩

end Sys2Proof.Machine
end

section
/-! PROOFS. A descriptor handed over alone (O14): what a tail write of one descriptor counts, and what the descriptor becomes. -/

namespace Sys2Proof.Machine

/-- A tail moved to the next index hands over one descriptor. -/
theorem tailMoved_next {t k : Nat} (ring : 0 < k) (h : t < 2 ^ k) : ((nextIndex t k).1 + 2 ^ k - t) % 2 ^ k = 1 := by
  have one : 1 < 2 ^ k := Nat.one_lt_two_pow (by omega)
  unfold nextIndex
  split
  · rw [show 0 + 2 ^ k - t = 1 by omega]
    exact Nat.mod_eq_of_lt one
  · rw [show t + 1 + 2 ^ k - t = 1 + 2 ^ k by omega, Nat.add_mod_right]
    exact Nat.mod_eq_of_lt one

/-- The admission instant of a tenancy's next descriptor (04 R164). -/
def nextAdmission (s : State) (f : Nat) : Nat :=
  match (tenOf s f).lastAdmission with | some l => max (now s) (l + 4000) | none => now s

/-- The next waiting descriptor of a ring, made visible now. -/
def nextVisible (s : State) (f r : Nat) : Visible :=
  { src := ⟨f, r, (crOf s f r).taken⟩, doorbell := now s, admitted := nextAdmission s f,
    addr := (crOf s f r).base + 64 * (crOf s f r).taken }

/-- One descriptor of a ring waits, and may become visible now (06 R265, R273, R292). -/
structure OneWaits (s : State) (f r : Nat) : Prop where
  handed : (crOf s f r).handed = 1
  enabled : (crOf s f r).enable = true
  staying : (crOf s f r).disablePending = false
  completions : (crOf s f r).ccEnable = true
  slots : (crOf s f r).ccUsed + (crOf s f r).ccReserved + 2 ≤ 2 ^ (crOf s f r).ccSizeLog2
  room : heldRoom s 64 = true

/-- The state in which that descriptor stands behind those visible, and its instant is its tenancy's last. -/
def descriptorShown (s : State) (f r : Nat) : State :=
  modTen (s.modVisible (· ++ [nextVisible s f r])) f fun t => { t with lastAdmission := some (nextAdmission s f) }

theorem descriptorShown_last (s : State) (f r : Nat) :
    (tenOf (descriptorShown s f r) f).lastAdmission = some (nextAdmission s f) := by
  unfold descriptorShown
  rw [tenOf_modTen_same]

theorem makeVisible_one {s : State} {f r : Nat} (h : OneWaits s f r) :
    ∃ c, makeVisible f r 1 s = setCr (descriptorShown s f r) f r c := by
  obtain ⟨handed, enabled, staying, completions, slots, room⟩ := h
  exact ⟨_, if_neg (by simpa [handed, enabled, staying, completions, room] using slots)⟩

/-- A descriptor that is alone in its tick keeps its place and its instant. -/
theorem resequence_alone {s : State} {f : Nat} {l : List Visible} {v : Visible} (visible : s.visible = l ++ [v])
    (others : ∀ x ∈ l, x.src.fn = f → x.doorbell ≠ now s) (own : v.src.fn = f) (tick : v.doorbell = now s) :
    (resequence s f).visible = l ++ [v] := by
  have differs : ∀ x ∈ l, (decide (x.src.fn = f) && decide (x.doorbell = now s)) = false := fun x hx =>
    Bool.and_eq_false_imp.2 fun e => decide_eq_false (others x hx (of_decide_eq_true e))
  have mine : s.visible.filter (fun x => decide (x.src.fn = f) && decide (x.doorbell = now s)) = [v] := by
    rw [visible, List.filter_append, List.filter_eq_nil_iff.2 fun x hx => Bool.not_eq_true _ ▸ differs x hx]
    simp [own, tick]
  have rest : s.visible.filter (fun x => !(decide (x.src.fn = f) && decide (x.doorbell = now s))) = l := by
    rw [visible, List.filter_append, List.filter_eq_self.2 fun x hx => congrArg (! ·) (differs x hx)]
    simp [own, tick]
  unfold resequence
  dsimp only
  rw [mine]
  exact congrArg (· ++ [v]) rest

/-- The one descriptor that waits, in a tick in which no other of its tenancy has become visible, is admitted at its tenancy's
next admission instant. -/
theorem showDescriptors_one {s : State} {f r : Nat} (h : OneWaits s f r)
    (alone : ∀ x ∈ s.visible, x.src.fn = f → x.doorbell ≠ now s) :
    (showDescriptors s f r).visible = s.visible ++ [nextVisible s f r] ∧
      (tenOf (showDescriptors s f r) f).lastAdmission = some (nextAdmission s f) := by
  obtain ⟨c, e⟩ := makeVisible_one h
  unfold showDescriptors
  rw [h.handed, e]
  exact ⟨resequence_alone rfl alone rfl rfl, descriptorShown_last s f r⟩

/-- A tail write that hands over one descriptor shows what waits. -/
theorem ringDoorbell_one {s : State} {f r v : Nat} (enabled : (crOf s f r).enable = true)
    (staying : (crOf s f r).disablePending = false) (index : v < 2 ^ (crOf s f r).sizeLog2)
    (moved : (v + 2 ^ (crOf s f r).sizeLog2 - (crOf s f r).tail) % 2 ^ (crOf s f r).sizeLog2 = 1)
    (empty : (crOf s f r).handed = 0) :
    ringDoorbell s f r v = showDescriptors (setCr s f r { crOf s f r with tail := v, handed := 1 }) f r := by
  unfold ringDoorbell
  dsimp only
  rw [if_neg (by rw [staying]; exact Bool.false_ne_true),
    if_neg (by rw [enabled, Bool.not_true, Bool.false_or, decide_eq_true_eq]; exact Nat.not_le.2 index), moved, empty, if_pos rfl]

theorem execCrTail_held {s : State} {f r v : Nat} (held : holdsRing s f r = true) (awake : s.pw.state ≠ .watch) (h : v < 2 ^ 16) :
    exec (.crTail f r v) s = .next (ringDoorbell s f r v) := by
  show execCrTail f r v s = _
  unfold execCrTail
  rw [if_neg (by simp [awake]), if_pos held, show v % 65536 = v from Nat.mod_eq_of_lt h]

/-- Settles O14: the one descriptor is shown (`makeVisible_one`), and no other of its tick comes before it. -/
theorem admissionInstant : Obligations.AdmissionInstant := by
  unfold Obligations.AdmissionInstant
  intro s f r v held awake word enabled staying completions index tail next size empty slots room alone
  dsimp only
  have moved : (v + 2 ^ (crOf s f r).sizeLog2 - (crOf s f r).tail) % 2 ^ (crOf s f r).sizeLog2 = 1 := by
    rw [next]
    exact tailMoved_next (by omega) tail
  have waits : OneWaits (setCr s f r { crOf s f r with tail := v, handed := 1 }) f r :=
    ⟨by simp, by simpa using enabled, by simpa using staying, by simpa using completions, by simpa using slots, room⟩
  obtain ⟨visible, last⟩ := showDescriptors_one waits alone
  refine ⟨_, execCrTail_held held awake word, ?_⟩
  rw [ringDoorbell_one enabled staying index moved empty]
  refine ⟨visible.trans ?_, last⟩
  unfold nextVisible
  rw [crOf_setCr_same]
  rfl

end Sys2Proof.Machine
end

section
/-! PROOFS. How a DMA transfer ends (O56): when it is ready, what ending it takes out and leaves alone, and what a halt, a copy
and a comparison leave behind. -/

namespace Sys2Proof.Machine

/-! ### When a transfer is ready -/

theorem mem_wheelsOf {d : Descriptor} {w : Nat} :
    w ∈ wheelsOf d ↔ (w = 7 ∨ w = 8 ∨ w = 9) ∧ chargeOn w (xferCharges d (xferSize d)) ≠ 0 := by simp [wheelsOf]

theorem xferReady_iff {s : State} {f : Flight} : xferReady s f = true ↔ moving s f = true ∧
    ∀ w, w = 7 ∨ w = 8 ∨ w = 9 → chargeOn w (xferCharges f.desc (xferSize f.desc)) ≠ 0 → turnsLeft f w = 0 := by
  simp only [xferReady, Bool.and_eq_true, List.all_eq_true, mem_wheelsOf, decide_eq_true_eq, and_imp]

/-! ### The end of a transfer -/

theorem chanOf_of_same {s t : State} (h : Same 0x20000 s t) (k : Nat) : chanOf t k = chanOf s k := by
  unfold chanOf
  rw [show t.dma = s.dma from h.get .dma (by decide)]

theorem finish_removes (s : State) (f : Flight) (v : Verdict) : ∀ x ∈ (finish s f v).flights, x.id ≠ f.id := by
  rw [finish_flights]
  exact fun x hx => by simpa using (List.mem_filter.1 hx).2

/-- The DMA_RESUME that completes with a transfer brings it back no more. -/
theorem endXfer_removes (s : State) (f : Flight) (v : Verdict) : ∀ x ∈ (endXfer s f v).flights, x.id ≠ f.id := by
  unfold endXfer
  dsimp only
  split
  · next g _ =>
    unfold finishDone
    rw [finish_flights]
    exact fun x hx => finish_removes _ f v x (List.mem_filter.1 hx).1
  · exact finish_removes _ f v

theorem endXferAt_removes (s : State) (f : Flight) (v : Verdict) : ∀ x ∈ (endXferAt s f v).flights, x.id ≠ f.id := by
  unfold endXferAt
  split
  · split
    · exact endXfer_removes _ f _
    · exact endXfer_removes s f v
  · exact endXfer_removes s f v

section Done

variable {fold : State → Nat → Option (List Byte) → Flight → State} {s : State} {f : Flight}

theorem transferDone_idle (h : xferReady s f = false) : transferDone fold s f = s := if_pos (by simp [h])

theorem transferDone_barred (ready : xferReady s f = true) (barred : hostBarred s f = true) :
    transferDone fold s f = haltBarred s f := (if_neg (by simp [ready])).trans (if_pos barred)

/-- What a comparison finds: its first difference or its first poisoned word. -/
def compareHit (s : State) (f : Flight) : Option (Nat × Bool) :=
  let a := sourceRow s f 0 0 (xferSize f.desc)
  compareScan f.desc a.1 (spaceRead a.2 f.src.fn (viewOf f.src.fn f.desc) (dstSpace f.desc) (dstAddr f.desc) (xferSize f.desc)).1 0

/-- A comparison that can reach its ranges leaves its finding in the channel, writes the status record, and ends. -/
theorem transferDone_compares (ready : xferReady s f = true) (reach : hostBarred s f = false) (compare : isCompare f.desc = true) :
    ∃ u ofs v, transferDone fold s f =
        endXferAt (writeStatus (modChan u (xferChan f) fun c => { c with compareOfs := ofs }) (xferChan f) f.desc) f v ∧
      (compareHit s f = none → ofs = 2 ^ 36 - 1) := by
  unfold transferDone
  rw [if_neg (by simp [ready]), if_neg (by simp [reach])]
  dsimp only
  rw [if_pos compare]
  unfold compareHit
  dsimp only
  split
  · next h => exact ⟨_, _, _, rfl, fun e => by simp [e] at h⟩
  · next h => exact ⟨_, _, _, rfl, fun e => by simp [e] at h⟩
  · exact ⟨_, _, _, rfl, fun _ => rfl⟩

/-- Any other transfer that can reach its ranges moves its bytes, shows them to the assay units, and ends. -/
theorem transferDone_moves (ready : xferReady s f = true) (reach : hostBarred s f = false) (other : isCompare f.desc = false) :
    ∃ bs v, transferDone fold s f = endXferAt (fold (moveBytes s f (xferSize f.desc)).1 (xferChan f) (some bs) f) f v := by
  unfold transferDone
  rw [if_neg (by simp [ready]), if_neg (by simp [reach])]
  dsimp only
  rw [if_neg (by simp [other])]
  exact ⟨_, _, rfl⟩

/-- A transfer that can reach its ranges is no longer in flight, whatever it moved or found. -/
theorem transferDone_removes (ready : xferReady s f = true) (reach : hostBarred s f = false) :
    ∀ x ∈ (transferDone fold s f).flights, x.id ≠ f.id := by
  by_cases compare : isCompare f.desc = true
  · obtain ⟨u, ofs, v, e, -⟩ := transferDone_compares (fold := fold) ready reach compare
    rw [e]
    exact endXferAt_removes _ f v
  · obtain ⟨bs, v, e⟩ := transferDone_moves (fold := fold) ready reach (by simpa using compare)
    rw [e]
    exact endXferAt_removes _ f v

end Done

/-- What follows the moving of the bytes touches neither memory. -/
theorem transferDone_memories {s : State} {f : Flight} (ready : xferReady s f = true) (reach : hostBarred s f = false)
    (other : isCompare f.desc = false) : Same 0x42000 (moveBytes s f (xferSize f.desc)).1 (transferDone foldDma s f) := by
  obtain ⟨bs, v, e⟩ := transferDone_moves (fold := foldDma) ready reach other
  rw [e]
  exact same_endXferAt _ f v (by decide) (same_foldDma _ _ _ f (by decide) same_refl)

/-- A comparison that finds no difference. -/
theorem transferDone_alike {s : State} {f : Flight} (ready : xferReady s f = true) (reach : hostBarred s f = false)
    (compare : isCompare f.desc = true) (alike : compareHit s f = none) :
    (chanOf (transferDone foldDma s f) (xferChan f)).compareOfs = 2 ^ 36 - 1 := by
  obtain ⟨u, ofs, v, e, found⟩ := transferDone_compares (fold := foldDma) ready reach compare
  rw [e, chanOf_of_same (same_endXferAt _ f v (by decide) (same_writeStatus _ _ _ (by decide) same_refl)), chanOf_modChan_same]
  exact found alike

/-! ### A host access that cannot be made -/

theorem stopXfer_compare {s : State} {f : Flight} (h : isCompare f.desc = true) : stopXfer s f = s := if_pos (by simp [h])

/-- The flight of a number that no other bears. -/
theorem flightBy_id {s : State} {f : Flight} (mem : f ∈ s.flights) (only : ∀ g ∈ s.flights, g.id = f.id → g = f) :
    flightBy s (fun g => g.id == f.id) = some f := by
  obtain ⟨g, hg⟩ := Option.isSome_iff_exists.1
    (List.find?_isSome (p := fun g => g.id == f.id) |>.2 ⟨f, mem, beq_self_eq_true f.id⟩)
  have same : g = f := only g (List.mem_of_find?_eq_some hg) (by simpa using List.find?_some hg)
  exact hg.trans (congrArg some same)

/-- What follows a channel's halt (16 R687, R688, R697): its status record, its event, its error line, and the end of a DMA_RESUME
that had restarted it. -/
def haltNoted (s : State) (f : Flight) (cause : Nat) : State :=
  let k := xferChan f
  let s := writeStatus s k f.desc
  let s := if cause = 1 then noteAer s f.src.fn 14 else s
  let s := assert (raise s (srcDma k) 0) 35 0
  match resumeOf s k with
  | some r => withdraw s r { status := 13, reason := 0x33, value := 35 }
  | none => s

theorem same_haltNoted (s : State) (f : Flight) (cause : Nat) : Same 0x20000 s (haltNoted s f cause) := by
  have written : Same 0x20000 s (writeStatus s (xferChan f) f.desc) := same_writeStatus _ _ _ (by decide) same_refl
  have noted := same_assert _ 35 0 false (by decide) (same_raise _ (srcDma (xferChan f)) 0 (by decide)
    (same_ite (c := cause = 1) (same_noteAer _ f.src.fn 14 (by decide) written) written))
  unfold haltNoted
  dsimp only
  split
  · exact same_withdraw _ _ _ (by decide) noted
  · exact noted

/-- A channel that halts shows it with its cause, whatever its transfers have moved. -/
theorem haltChannel_eq {s : State} {f : Flight} (moves : moving s f = true) (cause : Nat) (write : Bool) (addr moved : Nat) :
    ∃ u g, haltChannel s f cause write addr moved = haltNoted (modChan u (xferChan f) g) f cause ∧
      ∀ c, (g c).halted = true ∧ (g c).cause = cause :=
  ⟨_, _, if_neg (by simp [moves]), fun _ => ⟨rfl, rfl⟩⟩

theorem haltChannel_halts {s : State} {f : Flight} (moves : moving s f = true) (cause : Nat) (write : Bool) (addr moved : Nat) :
    (chanOf (haltChannel s f cause write addr moved) (xferChan f)).halted = true ∧
      (chanOf (haltChannel s f cause write addr moved) (xferChan f)).cause = cause := by
  obtain ⟨u, g, e, halted⟩ := haltChannel_eq moves cause write addr moved
  rw [e, chanOf_of_same (same_haltNoted _ f cause), chanOf_modChan_same]
  exact halted _

/-- A comparison whose function cannot reach the host halts its channel: nothing of it moves first. -/
theorem haltBarred_compare {s : State} {f : Flight} (mem : f ∈ s.flights) (only : ∀ g ∈ s.flights, g.id = f.id → g = f)
    (moves : moving s f = true) (compare : isCompare f.desc = true) :
    (chanOf (haltBarred s f) (xferChan f)).halted = true ∧
      (chanOf (haltBarred s f) (xferChan f)).cause = if s.pcie.linkDown then 4 else 3 := by
  unfold haltBarred
  dsimp only
  rw [stopXfer_compare compare, flightBy_id mem only]
  exact haltChannel_halts moves ..

/-! ### The command -/

theorem gives_dmaTransferDone {s : State} {src : CmdSrc} {f : Flight} {p : State → Prop} (h : xferAt s src = some f)
    (done : p (transferDone foldDma s f)) : Gives (.dmaTransferDone src) s p := by
  refine ⟨_, ?_, done⟩
  show execDmaTransferDone src s = _
  unfold execDmaTransferDone
  rw [h]

theorem gives_dmaTransferDone_none {s : State} {src : CmdSrc} (h : ∀ f ∈ s.flights, f.src = src → isXfer f = false) :
    Gives (.dmaTransferDone src) s fun t => t = s := by
  refine ⟨s, ?_, rfl⟩
  show execDmaTransferDone src s = _
  unfold execDmaTransferDone xferAt
  rw [flightAt_none h]

/-- Settles O56: a ready transfer halts its channel (`haltBarred`) or ends (`endXferAt`), and nothing else does anything. -/
theorem dmaTransfersEnd : Obligations.DmaTransfersEnd := by
  unfold Obligations.DmaTransfersEnd
  intro s src
  refine ⟨gives_dmaTransferDone_none, fun f oldest => ⟨fun idle => ?_, xferReady_iff, fun ready barred => ?_,
    fun ready reach => ?_, fun ready reach other => ?_, fun ready reach compare alike => ?_⟩⟩
  all_goals apply gives_dmaTransferDone oldest
  · exact transferDone_idle idle
  · rw [transferDone_barred ready barred]
    obtain ⟨-, -, mem⟩ := flightAt_some oldest
    exact ⟨rfl, fun compare only => haltBarred_compare mem only (xferReady_iff.1 ready).1 compare⟩
  · exact transferDone_removes ready reach
  · have kept := transferDone_memories ready reach other
    exact ⟨congrArg Dram.mem (kept.get .dram (by decide)), congrArg Stockroom.mem (kept.get .sr (by decide))⟩
  · exact transferDone_alike ready reach compare alike

end Sys2Proof.Machine
end

section
/-! PROOFS. Rings and messages (06), for the doorbells and the sleep of functions: what a ring reads as where another part
changed, what the errors of CR_STATUS set, and what a message leaves alone. -/

namespace Sys2Proof.Machine

theorem fnOf_of_same {s t : State} (h : Same 0x8 s t) (n : Nat) : fnOf t n = fnOf s n := by
  unfold fnOf
  rw [show t.fns = s.fns from h.get .fns (by decide)]

@[simp] theorem fnOf_modPcie (s : State) (g : Pcie → Pcie) (n : Nat) : fnOf (s.modPcie g) n = fnOf s n := rfl

theorem crOf_of_same {s t : State} (h : Same 0x10 s t) (f r : Nat) : crOf t f r = crOf s f r := by
  unfold crOf
  rw [show t.crs = s.crs from h.get .crs (by decide)]

theorem evRing_of_same {s t : State} (h : Same 0x20 s t) (p : Nat) : evRing t p = evRing s p := by
  unfold evRing
  rw [show t.evr = s.evr from h.get .evr (by decide)]

@[simp] theorem crOf_sendMessage (s : State) (f vec g r : Nat) : crOf (sendMessage s f vec) g r = crOf s g r :=
  crOf_of_same (same_sendMessage s f vec (by decide) same_refl) g r

@[simp] theorem evRing_sendMessage (s : State) (f vec p : Nat) : evRing (sendMessage s f vec) p = evRing s p :=
  evRing_of_same (same_sendMessage s f vec (by decide) same_refl) p

/-! ### CR_STATUS (06 R268) -/

theorem dbError_sets (s : State) (f r : Nat) : dbError s f r =
    setCr s f r { crOf s f r with dbErr := true, errNew := (crOf (dbError s f r) f r).errNew, errAt := now s } := by
  unfold dbError markErr
  rw [crOf_modCr_same]
  simp [modCr]

theorem cfgError_sets (s : State) (f r : Nat) : cfgError s f r =
    setCr s f r { crOf s f r with cfgErr := true, errNew := (crOf (cfgError s f r) f r).errNew, errAt := now s } := by
  unfold cfgError markErr
  rw [crOf_modCr_same]
  simp [modCr]

theorem markErr_fetch (s : State) (f r : Nat) : (crOf (markErr s f r 2) f r).fetchErr = true := by
  unfold markErr
  rw [crOf_modCr_same]
  simp

/-! ### Commands of a ring that answers (06 R255, R256) -/

section Commands

variable {s u : State} {f r : Nat} {c : Instr} {p : State → Prop}

theorem gives_held (row : exec c s = .next (if holdsRing s f r then u else s)) (held : holdsRing s f r = true) (h : p u) :
    Gives c s p := ⟨u, by rw [row, if_pos held], h⟩

theorem gives_unheld (row : exec c s = .next (if holdsRing s f r then u else s)) (held : holdsRing s f r = false) :
    Gives c s fun t => t = s := ⟨s, by rw [row, held]; rfl, rfl⟩

end Commands

end Sys2Proof.Machine
end

section
/-! PROOFS. Doorbells of a command ring (O20): the descriptors that a doorbell makes visible are taken from those handed over,
and nothing is lost between the two. -/

namespace Sys2Proof.Machine

/-! ### Descriptors in ring order -/

theorem insertByRing_length (x : Visible) (l : List Visible) : (insertByRing x l).length = l.length + 1 := by
  induction l with
  | nil => rfl
  | cons y l ih =>
    unfold insertByRing
    split
    · rfl
    · simp [ih]

theorem foldl_insertByRing_length (l acc : List Visible) :
    (l.foldl (fun a v => insertByRing v a) acc).length = acc.length + l.length := by
  induction l generalizing acc with
  | nil => rfl
  | cons x l ih =>
    rw [List.foldl_cons, ih, insertByRing_length, List.length_cons]
    omega

/-- Resequencing drops no descriptor and adds none. -/
theorem resequence_length (s : State) (f : Nat) : (resequence s f).visible.length = s.visible.length := by
  have parts := List.length_eq_countP_add_countP (l := s.visible)
    fun v => decide (v.src.fn = f) && decide (v.doorbell = now s)
  rw [List.countP_eq_length_filter, List.countP_eq_length_filter] at parts
  unfold resequence
  simp only [modVisible_visible, List.length_append, List.length_map, List.length_zip, foldl_insertByRing_length,
    List.length_nil, Nat.zero_add, Nat.min_self, decide_not, Bool.decide_eq_true] at parts ⊢
  omega

/-! ### What a doorbell shows (06 R270, R274) -/

/-- From s to t some descriptors of a ring that waited became visible, and its indices and slots in use stayed. -/
structure Shows (f r : Nat) (s t : State) : Prop where
  tail : (crOf t f r).tail = (crOf s f r).tail
  ccHead : (crOf t f r).ccHead = (crOf s f r).ccHead
  ccUsed : (crOf t f r).ccUsed = (crOf s f r).ccUsed
  count : (crOf t f r).handed + t.visible.length = (crOf s f r).handed + s.visible.length

theorem Shows.trans {f r : Nat} {s t u : State} (a : Shows f r s t) (b : Shows f r t u) : Shows f r s u :=
  ⟨b.tail.trans a.tail, b.ccHead.trans a.ccHead, b.ccUsed.trans a.ccUsed, b.count.trans a.count⟩

theorem makeVisible_shows (f r n : Nat) (s : State) : Shows f r s (makeVisible f r n s) := by
  induction n generalizing s with
  | zero => exact ⟨rfl, rfl, rfl, rfl⟩
  | succ n ih =>
    unfold makeVisible
    dsimp only
    split
    · exact ⟨rfl, rfl, rfl, rfl⟩
    · next may =>
      refine Shows.trans ⟨?_, ?_, ?_, ?_⟩ (ih _)
      · rw [crOf_setCr_same]
      · rw [crOf_setCr_same]
      · rw [crOf_setCr_same]
      · have waits : (crOf s f r).handed ≠ 0 := fun none => may (by simp [none])
        rw [crOf_setCr_same]
        show (crOf s f r).handed - 1 + (s.visible ++ [nextVisible s f r]).length = _
        rw [List.length_append, List.length_singleton]
        omega

theorem showDescriptors_shows (s : State) (f r : Nat) : Shows f r s (showDescriptors s f r) := by
  have ring : ∀ u, crOf (resequence u f) f r = crOf u f r := fun u =>
    crOf_of_same (same_resequence u f (by decide) same_refl) f r
  obtain ⟨tail, ccHead, ccUsed, count⟩ := makeVisible_shows f r (crOf s f r).handed s
  unfold showDescriptors
  refine ⟨?_, ?_, ?_, ?_⟩ <;> rw [ring]
  · exact tail
  · exact ccHead
  · exact ccUsed
  · rw [resequence_length]
    exact count

/-! ### CR_TAIL and CC_HEAD -/

section Doorbells

variable {s : State} {f r v : Nat}

theorem ringDoorbell_hands (enabled : (crOf s f r).enable = true) (staying : (crOf s f r).disablePending = false)
    (index : v < 2 ^ (crOf s f r).sizeLog2) : (crOf (ringDoorbell s f r v) f r).tail = v ∧
    (crOf (ringDoorbell s f r v) f r).handed + (ringDoorbell s f r v).visible.length = (crOf s f r).handed +
      (v + 2 ^ (crOf s f r).sizeLog2 - (crOf s f r).tail) % 2 ^ (crOf s f r).sizeLog2 + s.visible.length := by
  unfold ringDoorbell
  dsimp only
  rw [if_neg (by simp [staying]), if_neg (by simpa [enabled] using index)]
  generalize hu : setCr s f r _ = u
  have ring := congrArg (crOf · f r) hu
  have rest : u.visible = s.visible := hu ▸ rfl
  rw [crOf_setCr_same] at ring
  obtain ⟨tail, -, -, count⟩ := showDescriptors_shows u f r
  rw [← rest]
  split
  · rw [tail, count, ← ring]
    exact ⟨rfl, rfl⟩
  · rw [← ring]
    exact ⟨rfl, rfl⟩

theorem ringDoorbell_refused (staying : (crOf s f r).disablePending = false)
    (h : (crOf s f r).enable = false ∨ 2 ^ (crOf s f r).sizeLog2 ≤ v) : ringDoorbell s f r v = dbError s f r := by
  unfold ringDoorbell
  dsimp only
  rw [if_neg (by simp [staying]), if_pos (by simpa using h)]

theorem ringDoorbell_pending (h : (crOf s f r).disablePending = true) : ringDoorbell s f r v = s := if_pos h

theorem completionDoorbell_returns (enabled : (crOf s f r).ccEnable = true) (index : v < 2 ^ (crOf s f r).ccSizeLog2) :
    (crOf (completionDoorbell s f r v) f r).ccHead = v ∧
    (crOf (completionDoorbell s f r v) f r).ccUsed = (crOf s f r).ccUsed -
      (v + 2 ^ (crOf s f r).ccSizeLog2 - (crOf s f r).ccHead) % 2 ^ (crOf s f r).ccSizeLog2 ∧
    (crOf (completionDoorbell s f r v) f r).handed + (completionDoorbell s f r v).visible.length =
      (crOf s f r).handed + s.visible.length := by
  unfold completionDoorbell
  dsimp only
  rw [if_neg (by simpa [enabled] using index)]
  generalize hu : setCr s f r _ = u
  have ring := congrArg (crOf · f r) hu
  have rest : u.visible = s.visible := hu ▸ rfl
  rw [crOf_setCr_same] at ring
  have message : ∀ b : Bool, crOf (if b then sendMessage u f r else u) f r = crOf u f r ∧
      (if b then sendMessage u f r else u).visible = u.visible := by
    intro b
    cases b
    · exact ⟨rfl, rfl⟩
    · exact ⟨crOf_sendMessage .., (same_sendMessage (ps := 0x400) u f r (by decide) same_refl).get .visible (by decide)⟩
  obtain ⟨sentRing, sentRest⟩ := message _
  obtain ⟨-, ccHead, ccUsed, count⟩ := showDescriptors_shows _ f r
  rw [ccHead, ccUsed, count, sentRing, sentRest, rest, ← ring]
  exact ⟨rfl, rfl, rfl⟩

theorem completionDoorbell_refused (h : (crOf s f r).ccEnable = false ∨ 2 ^ (crOf s f r).ccSizeLog2 ≤ v) :
    completionDoorbell s f r v = dbError s f r := by
  unfold completionDoorbell
  exact if_pos (by simpa using h)

theorem execCcHead_row (word : v < 2 ^ 16) :
    exec (.ccHead f r v) s = .next (if holdsRing s f r then completionDoorbell s f r v else s) := by
  show execCcHead f r v s = _
  unfold execCcHead
  rw [show v % 65536 = v from Nat.mod_eq_of_lt word]

theorem execCrTail_silent (silent : holdsRing s f r = false) (awake : s.pw.state ≠ .watch ∨ f ≠ 0) :
    exec (.crTail f r v) s = .next s := by
  show execCrTail f r v s = _
  unfold execCrTail
  rw [if_neg (by rcases awake with h | h <;> simp [h]), if_neg (by simp [silent])]

theorem execCrTail_watch (asleep : s.pw.state = .watch) (word : v < 2 ^ 16) :
    exec (.crTail 0 r v) s = .next (keepTail s r v) := by
  show execCrTail 0 r v s = _
  unfold execCrTail
  rw [if_pos (by simp [asleep]), show v % 65536 = v from Nat.mod_eq_of_lt word]

end Doorbells

/-- Settles O20: a doorbell in range hands over (`showDescriptors_shows`), and any other sets DB_ERR or does nothing. -/
theorem doorbellsHandDescriptors : Obligations.DoorbellsHandDescriptors := by
  unfold Obligations.DoorbellsHandDescriptors
  intro s f r v word
  refine ⟨fun held awake enabled staying index =>
      ⟨_, execCrTail_held held awake word, ringDoorbell_hands enabled staying index⟩,
    fun held awake staying h => ⟨_, execCrTail_held held awake word, ?tail⟩,
    fun held awake pending => ⟨_, execCrTail_held held awake word, ringDoorbell_pending pending⟩,
    fun held enabled index => gives_held (execCcHead_row word) held (completionDoorbell_returns enabled index),
    fun held h => gives_held (execCcHead_row word) held ?head,
    fun silent => ⟨gives_unheld (execCcHead_row word) silent, fun awake => ⟨_, execCrTail_silent silent awake, rfl⟩⟩,
    fun asleep => ⟨_, execCrTail_watch asleep word, rfl⟩⟩
  case tail =>
    rw [ringDoorbell_refused staying h]
    exact dbError_sets s f r
  case head =>
    rw [completionDoorbell_refused h]
    exact dbError_sets s f r

end Sys2Proof.Machine
end

section
/-! PROOFS. Ring enables (O21): what the four writes of the configuration registers do to a ring. -/

namespace Sys2Proof.Machine

/-- Whether a command of a ring is visible, in flight or stopped by a quiesce (06 R265). -/
def ringBusy (s : State) (f r : Nat) : Bool :=
  (s.flights.any fun g => sameRing g.src ⟨f, r, 0⟩) || ((stoppedOf s f).any fun e => sameRing e.flight.src ⟨f, r, 0⟩) ||
    s.visible.any fun g => sameRing g.src ⟨f, r, 0⟩

/-- A pending disable takes effect where nothing of the ring is left. -/
theorem settleRing_disables {s : State} {f r : Nat} (enabled : (crOf s f r).enable = true)
    (pending : (crOf s f r).disablePending = true) :
    (crOf (settleRing s f r) f r).enable = ringBusy s f r ∧ (crOf (settleRing s f r) f r).disablePending = ringBusy s f r := by
  have done : ((crOf s f r).disablePending && !(s.flights.any fun g => sameRing g.src ⟨f, r, 0⟩) &&
      !((stoppedOf s f).any fun g => sameRing g.flight.src ⟨f, r, 0⟩) &&
      !(s.visible.any fun g => sameRing g.src ⟨f, r, 0⟩)) = !ringBusy s f r := by
    unfold ringBusy
    rw [pending, Bool.true_and, Bool.not_or, Bool.not_or]
  unfold settleRing
  dsimp only
  rw [done]
  cases ringBusy s f r with
  | true => exact ⟨enabled, pending⟩
  | false =>
    rw [Bool.not_false, if_pos rfl, crOf_setCr_same]
    exact ⟨rfl, rfl⟩

/-- An error of configuration changes CFG_ERR and its tick alone, of the ring as it was written. -/
theorem cfgError_setCr (s : State) (f r : Nat) (c : CmdRing) : crOf (cfgError (setCr s f r c) f r) f r =
    { c with cfgErr := true, errNew := (crOf (cfgError (setCr s f r c) f r) f r).errNew, errAt := now s } := by
  conv =>
    lhs
    rw [cfgError_sets, crOf_setCr_same, crOf_setCr_same]
  rfl

section Writes

variable {s : State} {f r v : Nat}

/-! ### CR_CFG (06 R262, R265) -/

theorem enableCommandRing_refused (off : (crOf s f r).enable = false)
    (h : bits v 0 5 < 4 ∨ 16 < bits v 0 5 ∨ inApertures s f (crOf s f r).base (64 * 2 ^ bits v 0 5) = false ∨
      (crOf s f r).ccEnable = false) :
    enableCommandRing s f r v = cfgError (setCr s f r { crOf s f r with sizeLog2 := bits v 0 5 }) f r := by
  unfold enableCommandRing
  dsimp only
  rw [if_neg (by simp [off]), if_neg (by simp [off]), if_pos (by simpa [or_assoc] using h)]

theorem enableCommandRing_enables (off : (crOf s f r).enable = false) (low : 4 ≤ bits v 0 5) (high : bits v 0 5 ≤ 16)
    (inside : inApertures s f (crOf s f r).base (64 * 2 ^ bits v 0 5) = true) (completions : (crOf s f r).ccEnable = true) :
    enableCommandRing s f r v = setCr s f r
      { crOf s f r with sizeLog2 := bits v 0 5, enable := true, tail := 0, head := 0, taken := 0, handed := 0 } := by
  unfold enableCommandRing
  dsimp only
  rw [if_neg (by simp [off]), if_neg (by simp [off]), if_neg (by simp [inside, completions, low, high])]

theorem enableCommandRing_pending (on : (crOf s f r).enable = true) (pending : (crOf s f r).disablePending = true) :
    enableCommandRing s f r v = cfgError s f r := if_pos (by simp [on, pending])

theorem enableCommandRing_enabled (on : (crOf s f r).enable = true) (staying : (crOf s f r).disablePending = false) :
    enableCommandRing s f r v = s := by
  unfold enableCommandRing
  dsimp only
  rw [if_neg (by simp [staying]), if_pos on]

theorem disableCommandRing_enabled (on : (crOf s f r).enable = true) :
    (crOf (disableCommandRing s f r v) f r).enable = ringBusy s f r ∧
      (crOf (disableCommandRing s f r v) f r).disablePending = ringBusy s f r := by
  unfold disableCommandRing
  dsimp only
  rw [if_pos on]
  exact settleRing_disables (by rw [crOf_setCr_same]; exact on) (by rw [crOf_setCr_same])

theorem disableCommandRing_disabled (off : (crOf s f r).enable = false) :
    disableCommandRing s f r v = setCr s f r { crOf s f r with sizeLog2 := bits v 0 5 } := if_neg (by simp [off])

/-! ### CC_CFG (06 R263, R266) -/

@[simp] theorem withModeration_ccEnable (c : CmdRing) (v : Nat) : (withModeration c v).ccEnable = c.ccEnable := rfl

@[simp] theorem withModeration_ccBase (c : CmdRing) (v : Nat) : (withModeration c v).ccBase = c.ccBase := rfl

theorem enableCompletionRing_refused (off : (crOf s f r).ccEnable = false)
    (h : bits v 0 5 < 4 ∨ 16 < bits v 0 5 ∨ inApertures s f (crOf s f r).ccBase (32 * 2 ^ bits v 0 5) = false) :
    enableCompletionRing s f r v =
      cfgError (setCr s f r { withModeration (crOf s f r) v with ccSizeLog2 := bits v 0 5 }) f r := by
  unfold enableCompletionRing
  dsimp only
  rw [if_neg (by simp [off]), if_pos (by simpa [or_assoc] using h)]

theorem enableCompletionRing_enables (off : (crOf s f r).ccEnable = false) (low : 4 ≤ bits v 0 5) (high : bits v 0 5 ≤ 16)
    (inside : inApertures s f (crOf s f r).ccBase (32 * 2 ^ bits v 0 5) = true) :
    enableCompletionRing s f r v = setCr s f r { withModeration (crOf s f r) v with
      ccSizeLog2 := bits v 0 5, ccEnable := true, ccHead := 0, ccTail := 0, ccUsed := 0, sig := {} } := by
  unfold enableCompletionRing
  dsimp only
  rw [if_neg (by simp [off]), if_neg (by simp [inside, low, high])]

theorem enableCompletionRing_enabled (on : (crOf s f r).ccEnable = true) :
    enableCompletionRing s f r v = setCr s f r (withModeration (crOf s f r) v) := if_pos on

theorem disableCompletionRing_enabled (on : (crOf s f r).ccEnable = true) : disableCompletionRing s f r v =
    setCr s f r { withModeration (crOf s f r) v with ccEnable := (crOf s f r).enable } := by
  have kept : (if (crOf s f r).enable then withModeration (crOf s f r) v
      else { withModeration (crOf s f r) v with ccEnable := false }) =
      { withModeration (crOf s f r) v with ccEnable := (crOf s f r).enable } := by
    cases (crOf s f r).enable
    · rfl
    · rw [if_pos rfl, ← on]
      rfl
  exact (if_pos on).trans (congrArg (setCr s f r) kept)

theorem disableCompletionRing_disabled (off : (crOf s f r).ccEnable = false) : disableCompletionRing s f r v =
    setCr s f r { withModeration (crOf s f r) v with ccSizeLog2 := bits v 0 5 } := if_neg (by simp [off])

end Writes

/-- Settles O21: each clause is one case of the operation of its write. -/
theorem ringEnables : Obligations.RingEnables := by
  unfold Obligations.RingEnables
  intro s f r v
  refine ⟨fun held => ⟨fun off h => gives_held rfl held ?crRefused,
      fun off low high inside completions => gives_held rfl held (enableCommandRing_enables off low high inside completions),
      fun on pending => gives_held rfl held ?crPending,
      fun on staying => gives_held rfl held (enableCommandRing_enabled on staying),
      fun on => gives_held rfl held (disableCommandRing_enabled on),
      fun off => gives_held rfl held (disableCommandRing_disabled off),
      fun off h => gives_held rfl held ?ccRefused,
      fun off low high inside => gives_held rfl held ?ccEnables,
      fun on => gives_held rfl held (enableCompletionRing_enabled on),
      fun on => gives_held rfl held (disableCompletionRing_enabled on),
      fun off => gives_held rfl held (disableCompletionRing_disabled off)⟩,
    fun silent => ⟨gives_unheld rfl silent, gives_unheld rfl silent, gives_unheld rfl silent, gives_unheld rfl silent⟩⟩
  case crRefused =>
    rw [enableCommandRing_refused off h]
    exact cfgError_setCr ..
  case crPending =>
    rw [enableCommandRing_pending on pending]
    exact cfgError_sets s f r
  case ccRefused =>
    rw [enableCompletionRing_refused off h]
    exact cfgError_setCr ..
  case ccEnables =>
    rw [enableCompletionRing_enables off low high inside, crOf_setCr_same]
    exact ⟨rfl, rfl, rfl, rfl, rfl⟩

end Sys2Proof.Machine
end

section
/-! PROOFS. Events (O22): what a claim does to its source and its ring, and what EV_HEAD acknowledges. -/

namespace Sys2Proof.Machine

/-! ### A record issued leaves the unacknowledged records of every event ring (06 R281, R291) -/

theorem records_setEvRing {s : State} {k : Nat} {v : EvRing} (h : v.records = (evRing s k).records) (p : Nat) :
    (evRing (setEvRing s k v) p).records = (evRing s p).records := by
  by_cases e : p = k
  · rw [e, evRing_setEvRing_same, h]
  · rw [evRing_setEvRing_other _ _ _ _ e]

theorem putEvent_records (s : State) (f n : Nat) (bs : List Byte) (p : Nat) :
    (evRing (putEvent s f n bs) p).records = (evRing s p).records := by
  unfold putEvent
  split
  · rfl
  dsimp only
  split
  · rfl
  split
  · rw [evRing_sendMessage]
    exact records_setEvRing (s := hostWrite s _ _) (by rfl) p
  · exact records_setEvRing (s := hostWrite s _ _) (by rfl) p

theorem putRecord_records (s : State) (f : Nat) (h : Held) (p : Nat) :
    (evRing (putRecord s f h) p).records = (evRing s p).records := by
  unfold putRecord
  dsimp only
  split
  · rfl
  split
  · exact congrArg EvRing.records (evRing_of_same (same_putCompletion (s.modPcie exitL1) f _ _ (by decide) same_refl) p)
  · exact putEvent_records ..

theorem issueRecord_records (s : State) (f : Nat) (h : Held) (p : Nat) :
    (evRing (issueRecord s f h) p).records = (evRing s p).records := by
  unfold issueRecord
  split
  · rfl
  dsimp only
  generalize hu : (if h.isCompletion = true then _ else s) = u
  have counted : evRing u p = evRing s p := by
    rw [← hu]
    split <;> rfl
  rw [← counted]
  split
  · exact putRecord_records ..
  · exact congrArg EvRing.records (evRing_of_same (same_holdRecord u f h (by decide) same_refl) p)

theorem issueRecord_evSrc (s : State) (f : Nat) (h : Held) (n : Nat) : evSrc (issueRecord s f h) n = evSrc s n :=
  evSrc_of_ev ((same_issueRecord (ps := 0x40) s f h (by decide) same_refl).get .ev (by decide)) n

/-! ### Claims (18 R738) -/

theorem claimEvent_none {s : State} {p : Nat} (h : claimable s p = none) : claimEvent s p = s := by
  unfold claimEvent
  rw [h]

/-- A claim takes its source into service with its record in the ring; what follows is the record's issue. -/
theorem claimEvent_some {s : State} {p n : Nat} (h : claimable s p = some n) : ∃ v e held,
    v.inService = true ∧ v.soft = false ∧ v.cause = (evSrc s n).cause ∧
    e.records = (evRing s p).records ++ [(n, (evSrc s n).cause, (evSrc s n).soft)] ∧
    claimEvent s p = issueRecord (setEvRing (setEvSrc s n v) p e) (evRing s p).owner held := by
  unfold claimEvent
  rw [h]
  refine ⟨_, _, _, ?_, ?_, ?_, ?_, rfl⟩ <;> rfl

theorem claimEvent_claims {s : State} {p n : Nat} (h : claimable s p = some n) :
    (evSrc (claimEvent s p) n).inService = true ∧ (evSrc (claimEvent s p) n).soft = false ∧
      (evSrc (claimEvent s p) n).cause = (evSrc s n).cause ∧ (∀ m, m ≠ n → evSrc (claimEvent s p) m = evSrc s m) ∧
      (evRing (claimEvent s p) p).records = (evRing s p).records ++ [(n, (evSrc s n).cause, (evSrc s n).soft)] := by
  obtain ⟨v, e, held, service, soft, cause, records, claim⟩ := claimEvent_some h
  have source : ∀ m, evSrc (claimEvent s p) m = evSrc (setEvSrc s n v) m := fun m => by
    rw [claim, issueRecord_evSrc]
    rfl
  have own : evSrc (claimEvent s p) n = v := (source n).trans (evSrc_setEvSrc_same s n v)
  rw [own]
  refine ⟨service, soft, cause, fun m other => (source m).trans (evSrc_setEvSrc_other s n m v other), ?_⟩
  rw [claim, issueRecord_records, evRing_setEvRing_same, records]

/-! ### EV_HEAD (18 R741, 06 R271) -/

section Doorbell

variable {s : State} {f n p v : Nat}

theorem eventDoorbell_refused (h : (evRing s p).enable = false ∨ 2 ^ (evRing s p).sizeLog2 ≤ v) :
    eventDoorbell s f n p v = modFn s f fun x => { x with evDbErr := true, evDbRing := n, evDbAt := some (now s) } := by
  unfold eventDoorbell
  exact if_pos (by simpa using h)

variable (on : (evRing s p).enable = true) (index : v < 2 ^ (evRing s p).sizeLog2)
include on index

/-- A head in range acknowledges the records it passes, and is the ring's head; a message may follow. -/
theorem eventDoorbell_passes : ∃ e u, e.head = v ∧
    e.records = (evRing s p).records.drop ((v + 2 ^ (evRing s p).sizeLog2 - (evRing s p).head) % 2 ^ (evRing s p).sizeLog2) ∧
    u = setEvRing (((evRing s p).records.take
      ((v + 2 ^ (evRing s p).sizeLog2 - (evRing s p).head) % 2 ^ (evRing s p).sizeLog2)).foldl ackRecord s) p e ∧
    (eventDoorbell s f n p v = u ∨ eventDoorbell s f n p v = sendMessage u f (4 + n)) := by
  unfold eventDoorbell
  dsimp only
  rw [if_neg (by simpa [on] using index)]
  refine ⟨_, _, ?head, ?records, rfl, (Decidable.em _).symm.imp (fun h => if_neg h) fun h => if_pos h⟩
  case head => rfl
  case records => rfl

theorem eventDoorbell_ring : (evRing (eventDoorbell s f n p v) p).head = v ∧
    (evRing (eventDoorbell s f n p v) p).records =
      (evRing s p).records.drop ((v + 2 ^ (evRing s p).sizeLog2 - (evRing s p).head) % 2 ^ (evRing s p).sizeLog2) := by
  obtain ⟨e, u, head, records, rfl, same | sent⟩ := eventDoorbell_passes (f := f) (n := n) on index
  · rw [same, evRing_setEvRing_same]
    exact ⟨head, records⟩
  · rw [sent, evRing_sendMessage, evRing_setEvRing_same]
    exact ⟨head, records⟩

theorem eventDoorbell_evSrc (m : Nat) : evSrc (eventDoorbell s f n p v) m = evSrc (((evRing s p).records.take
    ((v + 2 ^ (evRing s p).sizeLog2 - (evRing s p).head) % 2 ^ (evRing s p).sizeLog2)).foldl ackRecord s) m := by
  obtain ⟨e, u, -, -, rfl, same | sent⟩ := eventDoorbell_passes (f := f) (n := n) on index
  · rw [same]
    rfl
  · rw [sent]
    exact evSrc_of_ev ((same_sendMessage (ps := 0x40) _ f (4 + n) (by decide) same_refl).get .ev (by decide)) m

end Doorbell

/-- An acknowledged record's source leaves service, and the causes it reports are cleared but for those set in this tick. -/
theorem ackRecord_source (s : State) {x : Nat × Nat × Bool} (h : x.1 < 1024) :
    evSrc (ackRecord s x) x.1 = { clearCauses s (evSrc s x.1) x.2.1 with inService := false } := by
  unfold ackRecord
  dsimp only
  rw [if_neg (by omega), evSrc_setEvSrc_same]

theorem eventDoorbell_acknowledges {s : State} {f n p v : Nat} {x : Nat × Nat × Bool} {l : List (Nat × Nat × Bool)}
    (on : (evRing s p).enable = true) (index : v < 2 ^ (evRing s p).sizeLog2)
    (one : (v + 2 ^ (evRing s p).sizeLog2 - (evRing s p).head) % 2 ^ (evRing s p).sizeLog2 = 1)
    (records : (evRing s p).records = x :: l) (real : x.1 < 1024) :
    evSrc (eventDoorbell s f n p v) x.1 = { clearCauses s (evSrc s x.1) x.2.1 with inService := false } := by
  rw [eventDoorbell_evSrc on index, one, records]
  exact ackRecord_source s real

theorem execEvHead_silent {s : State} {f n v : Nat} (h : holdsEvRing s f n = none) : exec (.evHead f n v) s = .next s := by
  show execEvHead f n v s = _
  unfold execEvHead
  rw [h]

theorem execEvHead_held {s : State} {f n p v : Nat} (h : holdsEvRing s f n = some p) (word : v < 2 ^ 16) :
    exec (.evHead f n v) s = .next (eventDoorbell s f n p v) := by
  show execEvHead f n v s = _
  unfold execEvHead
  rw [h, show v % 65536 = v from Nat.mod_eq_of_lt word]

/-- Settles O22: a claim's record stands in its ring whatever becomes of its issue, and EV_HEAD acknowledges what it passes. -/
theorem eventsClaimedAndAcknowledged : Obligations.EventsClaimedAndAcknowledged := by
  unfold Obligations.EventsClaimedAndAcknowledged
  refine ⟨fun s p n h => ⟨_, rfl, claimEvent_claims h⟩, fun s p h => ⟨_, rfl, claimEvent_none h⟩,
    fun s f n v h => ⟨_, execEvHead_silent h, rfl⟩, fun s f n p v held word =>
    ⟨fun on index => ⟨_, execEvHead_held held word, eventDoorbell_ring on index⟩, ?acknowledged,
      fun h => ⟨_, execEvHead_held held word, eventDoorbell_refused h⟩⟩⟩
  case acknowledged =>
    intro on index one x l records real
    have source : evSrc (eventDoorbell s f n p v) x.1 = _ := eventDoorbell_acknowledges on index one records real
    exact ⟨_, execEvHead_held held word, congrArg EvSrc.inService source, congrArg EvSrc.cause source⟩

end Sys2Proof.Machine
end

section
/-! PROOFS. The fetch of a descriptor (O24): what an arrival, good or bad, and a timeout make of the slot's entry. -/

namespace Sys2Proof.Machine

/-! ### CR_HEAD moves on (06 R275) -/

/-- From s to t entries were marked as passed, and FETCH_ERR of a ring stayed. -/
structure Passes (f r : Nat) (s t : State) : Prop where
  entry : ∀ x ∈ s.visible, ∃ b, { x with passed := b } ∈ t.visible
  fetchErr : (crOf t f r).fetchErr = (crOf s f r).fetchErr

theorem Passes.refl (f r : Nat) (s : State) : Passes f r s s := ⟨fun x hx => ⟨x.passed, hx⟩, rfl⟩

theorem Passes.trans {f r : Nat} {s t u : State} (a : Passes f r s t) (b : Passes f r t u) : Passes f r s u := by
  refine ⟨fun x hx => ?_, b.fetchErr.trans a.fetchErr⟩
  obtain ⟨_, first⟩ := a.entry x hx
  obtain ⟨mark, second⟩ := b.entry _ first
  exact ⟨mark, second⟩

theorem passHead_passes (f r n : Nat) (s : State) : Passes f r s (passHead f r n s) := by
  induction n generalizing s with
  | zero => exact Passes.refl f r s
  | succ n ih =>
    unfold passHead
    dsimp only
    split
    · next v _ =>
      split
      · refine Passes.trans ⟨fun x hx => ?_, ?_⟩ (ih _)
        · by_cases own : (x.src = v.src && x.admitted = v.admitted) = true
          · exact ⟨true, List.mem_map.2 ⟨x, hx, if_pos own⟩⟩
          · exact ⟨x.passed, List.mem_map.2 ⟨x, hx, if_neg own⟩⟩
        · rw [crOf_setCr_same]
      · exact Passes.refl f r s
    · exact Passes.refl f r s

/-! ### The entry that waits (06 R275, R276) -/

/-- The entry v of s is its slot's only one, and waits for its data. -/
structure AwaitsData (s : State) (v : Visible) : Prop where
  mem : v ∈ s.visible
  undelivered : v.desc = none
  sound : v.failed = 0
  only : ∀ w ∈ s.visible, w.src = v.src → w = v

theorem AwaitsData.isOpen {s : State} {v : Visible} (h : AwaitsData s v) : openFetch s v.src = some v := by
  unfold openFetch
  obtain ⟨w, hw⟩ : ∃ w, (s.visible.find? fun x => decide (x.src = v.src) && x.desc.isNone && decide (x.failed = 0)) = some w := by
    rw [← Option.isSome_iff_exists, List.find?_isSome]
    exact ⟨v, h.mem, by simp [h.undelivered, h.sound]⟩
  obtain ⟨⟨slot, -⟩, -⟩ : (w.src = v.src ∧ w.desc.isNone = true) ∧ w.failed = 0 := by simpa using List.find?_some hw
  rw [hw, h.only w (List.mem_of_find?_eq_some hw) slot]

/-- What waits in one state waits in any other with the same entries. -/
theorem AwaitsData.of_visible {s t : State} {v : Visible} (h : AwaitsData s v) (e : t.visible = s.visible) : AwaitsData t v :=
  ⟨e ▸ h.mem, h.undelivered, h.sound, e ▸ h.only⟩

/-- The entry is changed as told; marks aside nothing else becomes of it. -/
theorem AwaitsData.changes {s : State} {v : Visible} (h : AwaitsData s v) (g : Visible → Visible) :
    (∃ b, { g v with passed := b } ∈ (fetched s v.src g).visible) ∧
      (crOf (fetched s v.src g) v.src.fn v.src.ring).fetchErr = (crOf s v.src.fn v.src.ring).fetchErr := by
  unfold fetched
  rw [h.isOpen]
  obtain ⟨entry, fetchErr⟩ := passHead_passes v.src.fn v.src.ring _ (s.modVisible fun l => l.map fun x => if x = v then g x else x)
  exact ⟨entry (g v) (List.mem_map.2 ⟨v, h.mem, if_pos rfl⟩), fetchErr⟩

theorem AwaitsData.fails {s : State} {v : Visible} (h : AwaitsData s v) (status : Nat) :
    (crOf (fetchFailed s v.src status) v.src.fn v.src.ring).fetchErr = true ∧
      ∃ x ∈ (fetchFailed s v.src status).visible, x.src = v.src ∧ x.admitted = v.admitted ∧ x.failed = status := by
  obtain ⟨⟨_, mem⟩, err⟩ := (h.of_visible (t := markErr s v.src.fn v.src.ring 2) rfl).changes fun x => { x with failed := status }
  unfold fetchFailed
  rw [if_neg (by simp [h.isOpen])]
  exact ⟨err.trans (markErr_fetch ..), _, mem, rfl, rfl, rfl⟩

/-! ### Arrivals and the timeout -/

section Arrivals

variable {s : State} {v : Visible} (h : AwaitsData s v)
include h

theorem descriptorArrives_late (late : v.admitted + 4000 < now s) (how : Arrival) : descriptorArrives s v.src how = s := by
  unfold descriptorArrives
  rw [h.isOpen]
  exact if_pos late

theorem descriptorArrives_good (due : now s ≤ v.admitted + 4000) : ∃ x ∈ (descriptorArrives s v.src .good).visible,
    x.src = v.src ∧ x.admitted = v.admitted ∧ x.desc = some (slotBytes s v) ∧ x.failed = 0 := by
  obtain ⟨⟨_, mem⟩, -⟩ := h.changes fun x => { x with desc := some (slotBytes s x) }
  unfold descriptorArrives
  rw [h.isOpen]
  dsimp only
  rw [if_neg (by omega)]
  exact ⟨_, mem, rfl, rfl, rfl, h.sound⟩

theorem descriptorArrives_error (due : now s ≤ v.admitted + 4000) :
    descriptorArrives s v.src .error = fetchFailed (noteAer s v.src.fn 14) v.src 13 := by
  unfold descriptorArrives
  rw [h.isOpen]
  exact if_neg (by omega)

theorem descriptorArrives_poisoned (due : now s ≤ v.admitted + 4000) :
    descriptorArrives s v.src .poisoned = fetchFailed (noteAer s v.src.fn 12) v.src 14 := by
  unfold descriptorArrives
  rw [h.isOpen]
  exact if_neg (by omega)

theorem descriptorLate_fails (late : v.admitted + 4000 ≤ now s) : descriptorLate s v.src = fetchFailed s v.src 13 := by
  unfold descriptorLate
  rw [h.isOpen]
  exact if_pos late

theorem descriptorLate_early (early : now s < v.admitted + 4000) : descriptorLate s v.src = s := by
  unfold descriptorLate
  rw [h.isOpen]
  exact if_neg (by omega)

end Arrivals

/-- Settles O24: the slot's one open fetch is the entry that waits (`AwaitsData.isOpen`); it is filled, or fails. -/
theorem descriptorFetch : Obligations.DescriptorFetch := by
  unfold Obligations.DescriptorFetch
  intro s v mem undelivered sound only
  have h : AwaitsData s v := ⟨mem, undelivered, sound, only⟩
  have noted : ∀ b, AwaitsData (noteAer s v.src.fn b) v := fun b => h.of_visible rfl
  exact ⟨fun due => ⟨_, rfl, descriptorArrives_good h due⟩,
    fun due => ⟨_, rfl, descriptorArrives_error h due ▸ (noted 14).fails 13⟩,
    fun due => ⟨_, rfl, descriptorArrives_poisoned h due ▸ (noted 12).fails 14⟩,
    fun late how => ⟨_, rfl, descriptorArrives_late h late how⟩,
    fun late => ⟨_, rfl, descriptorLate_fails h late ▸ h.fails 13⟩,
    fun early => ⟨_, rfl, descriptorLate_early h early⟩⟩

end Sys2Proof.Machine
end

section
/-! PROOFS. Messages and masks (O26): what a message that is due becomes, and what an unmasked vector sends. -/

namespace Sys2Proof.Machine

/-- A message waits in the PBA while its vector is masked, and leaves the device otherwise (06 R289). -/
theorem sendMessage_sends (s : State) (f vec : Nat) :
    if (fnOf s f).fnMask || !(fnOf s f).cfg.msixEnable || (tget {} (fnOf s f).msix vec : MsixEntry).mask then
      vec ∈ (fnOf (sendMessage s f vec) f).pba
    else (sendMessage s f vec).pcie.out = s.pcie.out ++
      [.message f vec (tget {} (fnOf s f).msix vec : MsixEntry).addr (tget {} (fnOf s f).msix vec : MsixEntry).data] := by
  unfold sendMessage
  dsimp only
  split
  · rw [fnOf_modFn_same]
    exact List.mem_cons_self
  · rfl

section Window

variable {s : State} {f r : Nat} (ring : r < 4)
include ring

theorem windowEnds_spends {t0 : Nat} (opened : (crOf s f r).sig.window = some t0) (ended : t0 ≤ now s) :
    windowEnds s f r = sendMessage (setCr s f r { crOf s f r with sig := (crOf s f r).sig.spent }) f r := by
  unfold windowEnds
  rw [if_pos ring]
  dsimp only
  rw [opened]
  exact if_pos ended

theorem windowEnds_open (h : ∀ t0, (crOf s f r).sig.window = some t0 → now s < t0) : windowEnds s f r = s := by
  unfold windowEnds
  rw [if_pos ring]
  dsimp only
  split
  · next t0 opened => exact if_neg (Nat.not_le.2 (h t0 opened))
  · rfl

end Window

theorem sendPending_sends {s : State} {f v : Nat} (whole : (fnOf s f).fnMask = false) (on : (fnOf s f).cfg.msixEnable = true)
    (clear : (tget {} (fnOf s f).msix v : MsixEntry).mask = false) (pending : v ∈ (fnOf s f).pba) :
    sendPending f s v = (setFn s f { fnOf s f with pba := (fnOf s f).pba.filter (· ≠ v) }).modPcie fun p =>
      exitL1 { p with out := p.out ++
        [.message f v (tget {} (fnOf s f).msix v : MsixEntry).addr (tget {} (fnOf s f).msix v : MsixEntry).data] } :=
  if_neg (by simp [whole, on, clear, pending])

theorem sendPending_fnMask (s : State) (f v : Nat) : (fnOf (sendPending f s v) f).fnMask = (fnOf s f).fnMask := by
  unfold sendPending
  dsimp only
  split
  · rfl
  · rw [fnOf_modPcie, fnOf_setFn_same]

/-- The state in which a vector's mask is clear. -/
def vectorUnmasked (s : State) (f v : Nat) : State :=
  modFn s f fun x => { x with msix := tmod {} x.msix v fun e => { e with mask := false } }

theorem fnOf_vectorUnmasked (s : State) (f v : Nat) : fnOf (vectorUnmasked s f v) f =
    { fnOf s f with msix := tmod {} (fnOf s f).msix v fun e => { e with mask := false } } := fnOf_modFn_same s f _

theorem entry_vectorUnmasked (s : State) (f v : Nat) : tget {} (fnOf (vectorUnmasked s f v) f).msix v =
    { (tget {} (fnOf s f).msix v : MsixEntry) with mask := false } := by
  rw [fnOf_vectorUnmasked]
  exact tget_tset_same ..

theorem unmask_vector {s : State} {f v : Nat} (h : v < 260) : unmask s f (some v) = sendPending f (vectorUnmasked s f v) v :=
  if_neg (Nat.not_le.2 h)

theorem unmask_vector_sends {s : State} {f v : Nat} (h : v < 260) (whole : (fnOf s f).fnMask = false)
    (on : (fnOf s f).cfg.msixEnable = true) (pending : v ∈ (fnOf s f).pba) :
    (tget {} (fnOf (unmask s f (some v)) f).msix v : MsixEntry).mask = false ∧ v ∉ (fnOf (unmask s f (some v)) f).pba ∧
      (unmask s f (some v)).pcie.out = s.pcie.out ++
        [.message f v (tget {} (fnOf s f).msix v : MsixEntry).addr (tget {} (fnOf s f).msix v : MsixEntry).data] := by
  have page := fnOf_vectorUnmasked s f v
  have entry := entry_vectorUnmasked s f v
  rw [unmask_vector h, sendPending_sends (by rw [page]; exact whole) (by rw [page]; exact on) (by rw [entry])
    (by rw [page]; exact pending)]
  rw [fnOf_modPcie, fnOf_setFn_same, entry]
  exact ⟨rfl, by simp, rfl⟩

/-- What was pending is sent once the function's mask is clear, which it stays. -/
theorem unmask_function (s : State) (f : Nat) : (fnOf (unmask s f none) f).fnMask = false := by
  show (fnOf ((List.range 260).foldl (sendPending f) (modFn s f fun x => { x with fnMask := false })) f).fnMask = false
  refine fold_keeps (P := fun t => (fnOf t f).fnMask = false) (fun t v h => (sendPending_fnMask t f v).trans h) ?_
  rw [fnOf_modFn_same]

theorem gives_vectorUnmask {s : State} {f : Nat} {v : Option Nat} {p : State → Prop} (page : f ≤ 16) (h : p (unmask s f v)) :
    Gives (.vectorUnmask f v) s p := ⟨_, congrArg Host.Outcome.next (if_pos page), h⟩

/-- Settles O26: a window that ends spends its ring's message, and an unmasked vector sends what was pending. -/
theorem messagesAndMasks : Obligations.MessagesAndMasks := by
  unfold Obligations.MessagesAndMasks
  refine ⟨fun s f r t0 ring opened ended => ⟨_, rfl, ?_⟩, fun s f r ring h => ⟨_, rfl, windowEnds_open ring h⟩,
    fun s f v page vector whole on pending => gives_vectorUnmask page (unmask_vector_sends vector whole on pending),
    fun s f page => gives_vectorUnmask page (unmask_function s f)⟩
  dsimp only
  rw [windowEnds_spends ring opened ended, crOf_sendMessage, crOf_setCr_same]
  exact ⟨rfl, rfl, rfl, sendMessage_sends (setCr s f r _) f r⟩

end Sys2Proof.Machine
end

section
/-! PROOFS. The sleep of functions and the link (O27): which fields of a function its records and messages leave alone, when
nothing is held any more, and what D3hot and a link that goes down change. -/

namespace Sys2Proof.Machine

/-- What holds of an element's step, and is kept by every other step, holds at the end of a fold over a list that has it. -/
theorem foldl_reaches {α : Type} {P : State → Prop} {g : State → α → State} {x : α} (hit : ∀ t, P (g t x))
    (stay : ∀ t y, P t → P (g t y)) {l : List α} (mem : x ∈ l) (s : State) : P (l.foldl g s) := by
  induction l generalizing s with
  | nil => cases mem
  | cons y l ih =>
    rw [List.foldl_cons]
    obtain rfl | mem := List.mem_cons.1 mem
    · exact fold_keeps stay (hit s)
    · exact ih mem _

/-! ### Records and messages that go out (06 R281 to R289) -/

/-- A function sends what is due: its state, its enables and its WAKE# request stay, and nothing comes to be held. -/
structure FnSends (a b : Fn) : Prop where
  dstate : b.dstate = a.dstate
  busMaster : b.busMaster = a.busMaster
  wakeAsserted : b.wakeAsserted = a.wakeAsserted
  held : a.held = [] → b.held = []

theorem FnSends.refl (a : Fn) : FnSends a a := ⟨rfl, rfl, rfl, id⟩

theorem FnSends.trans {a b c : Fn} (x : FnSends a b) (y : FnSends b c) : FnSends a c :=
  ⟨y.dstate.trans x.dstate, y.busMaster.trans x.busMaster, y.wakeAsserted.trans x.wakeAsserted, y.held ∘ x.held⟩

/-- Functions send what is due, on a link that stays as it is. -/
structure Sends (s t : State) : Prop where
  fn : ∀ g, FnSends (fnOf s g) (fnOf t g)
  vfEnable : t.pcie.vfEnable = s.pcie.vfEnable
  linkDown : t.pcie.linkDown = s.pcie.linkDown

theorem Sends.refl (s : State) : Sends s s := ⟨fun _ => FnSends.refl _, rfl, rfl⟩

theorem Sends.trans {s t u : State} (x : Sends s t) (y : Sends t u) : Sends s u :=
  ⟨fun g => (x.fn g).trans (y.fn g), y.vfEnable.trans x.vfEnable, y.linkDown.trans x.linkDown⟩

theorem Sends.of_same {s t : State} (h : Same 0xC s t) : Sends s t := by
  have pcie : t.pcie = s.pcie := h.get .pcie (by decide)
  have fns : t.fns = s.fns := h.get .fns (by decide)
  refine ⟨fun g => ?_, by rw [pcie], by rw [pcie]⟩
  rw [show fnOf t g = fnOf s g by unfold fnOf; rw [fns]]
  exact FnSends.refl _

theorem Sends.foldl {α : Type} {g : State → α → State} (h : ∀ t x, Sends t (g t x)) (l : List α) (s : State) :
    Sends s (l.foldl g s) := fold_keeps (P := Sends s) (fun t x w => w.trans (h t x)) (Sends.refl s)

theorem Sends.ite {c : Prop} [Decidable c] {s t u : State} (x : Sends s t) (y : Sends s u) : Sends s (if c then t else u) := by
  split <;> assumption

theorem sends_modFn {s : State} {f : Nat} {g : Fn → Fn} (h : FnSends (fnOf s f) (g (fnOf s f))) : Sends s (modFn s f g) := by
  refine ⟨fun k => ?_, rfl, rfl⟩
  by_cases e : k = f
  · rw [e, fnOf_modFn_same]
    exact h
  · rw [fnOf_modFn_other _ _ _ _ e]
    exact FnSends.refl _

theorem sends_modPcie {s : State} {g : Pcie → Pcie} (vfEnable : (g s.pcie).vfEnable = s.pcie.vfEnable)
    (linkDown : (g s.pcie).linkDown = s.pcie.linkDown) : Sends s (s.modPcie g) :=
  ⟨fun _ => FnSends.refl _, vfEnable, linkDown⟩

theorem Sends.canWrite_eq {s t : State} (h : Sends s t) (f : Nat) : canWrite t f = canWrite s f := by
  unfold canWrite
  rw [(h.fn f).dstate, (h.fn f).busMaster, h.vfEnable, h.linkDown]

theorem sends_sendMessage (s : State) (f vec : Nat) : Sends s (sendMessage s f vec) := by
  unfold sendMessage
  dsimp only
  exact Sends.ite (sends_modFn ⟨rfl, rfl, rfl, id⟩) (sends_modPcie rfl rfl)

theorem sends_putCompletion (s : State) (f r : Nat) (bs : List Byte) : Sends s (putCompletion s f r bs) := by
  have put : ∀ a b c, Sends s (setCr (hostWrite s a b) f r c) := fun a b c =>
    .of_same (same_setCr _ _ _ _ (by decide) (same_hostWrite _ _ _ (by decide) same_refl))
  unfold putCompletion
  dsimp only
  exact .ite (.refl s) (.ite ((put _ _ _).trans (sends_sendMessage ..)) (put _ _ _))

theorem sends_putEvent (s : State) (f n : Nat) (bs : List Byte) : Sends s (putEvent s f n bs) := by
  have put : ∀ a b p e, Sends s (setEvRing (hostWrite s a b) p e) := fun a b p e =>
    .of_same (same_setEvRing _ _ _ (by decide) (same_hostWrite _ _ _ (by decide) same_refl))
  unfold putEvent
  split
  · exact .refl s
  dsimp only
  exact .ite (.refl s) (.ite ((put _ _ _ _).trans (sends_sendMessage ..)) (put _ _ _ _))

theorem sends_putRecord (s : State) (f : Nat) (h : Held) : Sends s (putRecord s f h) := by
  have awake : Sends s (s.modPcie exitL1) := sends_modPcie rfl rfl
  unfold putRecord
  dsimp only
  split
  · exact awake.trans (.of_same (same_hostWrite _ _ _ (by decide) same_refl))
  · exact .ite (awake.trans (sends_putCompletion ..)) (awake.trans (sends_putEvent ..))

theorem sends_flushMessages (s : State) (f : Nat) : Sends s (flushMessages s f) := by
  unfold flushMessages
  dsimp only
  refine Sends.trans (.foldl (fun t r => ?_) _ s) (.foldl (fun t p => ?_) _ _)
  · exact .ite (.trans (.of_same (same_setCr _ _ _ _ (by decide) same_refl)) (sends_sendMessage ..)) (.refl t)
  · exact .ite (.trans (.of_same (same_setEvRing _ _ _ (by decide) same_refl)) (sends_sendMessage ..)) (.refl t)

/-! ### A function that may send (06 R294) -/

theorem sends_releaseHeldRecords (s : State) (f : Nat) : Sends s (releaseHeldRecords s f) := by
  unfold releaseHeldRecords
  exact .ite (.refl s) (.trans (.foldl (fun t h => sends_putRecord t f h) _ s) (sends_modFn ⟨rfl, rfl, rfl, fun _ => rfl⟩))

theorem releaseHeldRecords_empties {s : State} {f : Nat} (may : canWrite s f = true) : (fnOf (releaseHeldRecords s f) f).held = [] := by
  unfold releaseHeldRecords
  split
  · next idle =>
    simpa [may] using idle
  · exact congrArg Fn.held (fnOf_modFn_same ..)

theorem sends_wakeFunction (s : State) (f : Nat) : Sends s (wakeFunction s f) := by
  have released := sends_releaseHeldRecords s f
  exact .ite (released.trans (sends_flushMessages ..)) released

theorem wakeFunction_empties {s : State} {f : Nat} (may : canWrite s f = true) : (fnOf (wakeFunction s f) f).held = [] := by
  have empty := releaseHeldRecords_empties may
  unfold wakeFunction
  dsimp only
  split
  · exact ((sends_flushMessages ..).fn f).held empty
  · exact empty

/-- Once every function of a list may send, none of them that can holds a record. -/
theorem foldl_wakeFunction_empties {f : Nat} {l : List Nat} (mem : f ∈ l) (s : State) :
    canWrite (l.foldl wakeFunction s) f = true → (fnOf (l.foldl wakeFunction s) f).held = [] := by
  refine foldl_reaches (P := fun t => canWrite t f = true → (fnOf t f).held = []) (fun t may => ?_) (fun t g h may => ?_) mem s
  · exact wakeFunction_empties ((sends_wakeFunction t f).canWrite_eq f ▸ may)
  · exact ((sends_wakeFunction t g).fn f).held (h ((sends_wakeFunction t g).canWrite_eq f ▸ may))

/-- The link is up, and beyond that functions send what is due. -/
theorem linkUpAgain_sends (s : State) : Sends (s.modPcie fun p => { p with linkDown := false }) (linkUpAgain s) := by
  unfold linkUpAgain
  split
  · next up =>
    exact ⟨fun _ => FnSends.refl _, rfl, by simpa using up⟩
  · exact .foldl sends_wakeFunction _ _

theorem sends_settleWake (s : State) : Sends s (settleWake s) := .ite (sends_modPcie rfl rfl) (.refl s)

/-! ### D0, Bus Master Enable and VF Enable -/

section Control

variable {s : State} {f : Nat} (page : f ≤ 16)
include page

theorem returnToD0_returns : (fnOf (returnToD0 s f) f).dstate = .d0 ∧ (fnOf (returnToD0 s f) f).wakeAsserted = false ∧
    (canWrite (returnToD0 s f) f = true → (fnOf (returnToD0 s f) f).held = []) := by
  have e : returnToD0 s f = wakeFunction (settleWake (modFn (linkUpAgain s) f fun x =>
      { x with dstate := .d0, heldInStay := false, wakeAsserted := false })) f :=
    (if_neg (Nat.not_lt.2 page)).trans (if_neg (Nat.not_lt.2 page))
  rw [e]
  generalize hu : modFn (linkUpAgain s) f _ = u
  have woken := (sends_settleWake u).trans (sends_wakeFunction (settleWake u) f)
  rw [(woken.fn f).dstate, (woken.fn f).wakeAsserted, (sends_wakeFunction ..).canWrite_eq, ← hu, fnOf_modFn_same]
  exact ⟨rfl, rfl, wakeFunction_empties⟩

theorem setMaster_sets : (fnOf (setMaster s f) f).busMaster = true ∧ (setMaster s f).pcie.linkDown = false ∧
    (canWrite (setMaster s f) f = true → (fnOf (setMaster s f) f).held = []) := by
  have e : setMaster s f = wakeFunction (linkUpAgain (modFn s f fun x => { x with busMaster := true })) f :=
    if_neg (Nat.not_lt.2 page)
  rw [e]
  have woken := (linkUpAgain_sends (modFn s f fun x => { x with busMaster := true })).trans (sends_wakeFunction _ f)
  rw [(sends_wakeFunction _ f).canWrite_eq]
  exact ⟨(woken.fn f).busMaster.trans (by rw [fnOf_modPcie, fnOf_modFn_same]), woken.linkDown, wakeFunction_empties⟩

theorem clearMaster_clears : clearMaster s f = modFn s f fun x => { x with busMaster := false } := if_neg (Nat.not_lt.2 page)

end Control

theorem setVfEnable_sets (s : State) : (setVfEnable s).pcie.vfEnable = true ∧ (setVfEnable s).pcie.linkDown = false ∧
    ∀ f, 1 ≤ f → f ≤ 16 → canWrite (setVfEnable s) f = true → (fnOf (setVfEnable s) f).held = [] := by
  have woken : Sends _ (setVfEnable s) := (linkUpAgain_sends (s.modPcie fun p => { p with vfEnable := true })).trans
    (.foldl sends_wakeFunction _ _)
  refine ⟨woken.vfEnable, woken.linkDown, fun f low high => ?_⟩
  have guests : (List.range 17).drop 1 = List.range' 1 16 := rfl
  exact foldl_wakeFunction_empties (guests ▸ List.mem_range'_1.2 ⟨low, by omega⟩) _

/-! ### D3hot (06 R291, R295) -/

/-- The moderation window of a command ring is closed. -/
def closeWindow (f : Nat) (s : State) (r : Nat) : State := modCr s f r fun c => { c with sig := { c.sig with window := none } }

/-- The moderation window of a function's event ring is closed. -/
def closeEventWindow (f : Nat) (s : State) (p : Nat) : State :=
  let e := evRing s p
  if e.owner = f && e.sig.window.isSome then setEvRing s p { e with sig := { e.sig with window := none } } else s

/-- The function is in D3hot, with its windows closed. -/
def asleep (s : State) (f : Nat) : State :=
  (List.range 256).foldl (closeEventWindow f)
    ((List.range 4).foldl (closeWindow f) (modFn s f fun x => { x with dstate := .d3hot, heldInStay := false }))

theorem enterD3_asleep {s : State} {f : Nat} (page : f ≤ 16) (awake : (fnOf s f).dstate ≠ .d3hot) :
    enterD3 s f = if windowOpen s f then signalHeld (asleep s f) f else asleep s f :=
  if_neg (by simp [awake, page])

theorem closeWindow_closes (f : Nat) (s : State) (r : Nat) : (crOf (closeWindow f s r) f r).sig.window = none :=
  congrArg (fun c : CmdRing => c.sig.window) (crOf_modCr_same s f r _)

theorem closeWindow_stays {f : Nat} {s : State} {r : Nat} (h : (crOf s f r).sig.window = none) (q : Nat) :
    (crOf (closeWindow f s q) f r).sig.window = none := by
  by_cases e : r = q
  · rw [e]
    exact closeWindow_closes f s q
  · unfold closeWindow
    rw [crOf_modCr_other _ _ _ _ _ _ (by omega)]
    exact h

/-- The window of an event ring that the function owns is closed. -/
def EventClosed (f p : Nat) (s : State) : Prop := (evRing s p).owner = f → (evRing s p).sig.window = none

theorem closeEventWindow_owner (f : Nat) (s : State) (q p : Nat) :
    (evRing (closeEventWindow f s q) p).owner = (evRing s p).owner := by
  unfold closeEventWindow
  dsimp only
  split
  · by_cases e : p = q
    · rw [e, evRing_setEvRing_same]
    · rw [evRing_setEvRing_other _ _ _ _ e]
  · rfl

theorem closeEventWindow_closes (f : Nat) (s : State) (p : Nat) : EventClosed f p (closeEventWindow f s p) := by
  unfold EventClosed closeEventWindow
  dsimp only
  split
  · rw [evRing_setEvRing_same]
    exact fun _ => rfl
  · next h => exact fun own => by simpa [own] using h

theorem closeEventWindow_stays {f p : Nat} {s : State} (h : EventClosed f p s) (q : Nat) : EventClosed f p (closeEventWindow f s q) := by
  by_cases e : p = q
  · rw [e]
    exact closeEventWindow_closes f s q
  · unfold EventClosed closeEventWindow
    dsimp only
    split
    · rw [evRing_setEvRing_other _ _ _ _ e]
      exact h
    · exact h

theorem same_closeWindow {ps : Nat} {z : State} (f : Nat) (s : State) (r : Nat) (hd : ps &&& 0x10 = 0) (hw : Same ps z s) :
    Same ps z (closeWindow f s r) := same_modCr _ _ _ _ hd hw

theorem same_closeEventWindow {ps : Nat} {z : State} (f : Nat) (s : State) (p : Nat) (hd : ps &&& 0x20 = 0) (hw : Same ps z s) :
    Same ps z (closeEventWindow f s p) := same_ite (same_setEvRing _ _ _ hd hw) hw

theorem asleep_dstate (s : State) (f : Nat) : (fnOf (asleep s f) f).dstate = .d3hot := by
  have page := fnOf_of_same (same_foldl (l := List.range 256) (fun t p w => same_closeEventWindow f t p (by decide) w)
    (same_foldl (l := List.range 4) (fun t r w => same_closeWindow f t r (by decide) w)
      (same_refl (ps := 0x8) (s := modFn s f fun x => { x with dstate := .d3hot, heldInStay := false })))) f
  unfold asleep
  rw [page, fnOf_modFn_same]

theorem asleep_windows (s : State) (f : Nat) {r : Nat} (h : r < 4) : (crOf (asleep s f) f r).sig.window = none := by
  unfold asleep
  rw [crOf_of_same (same_foldl (fun t p w => same_closeEventWindow f t p (by decide) w) same_refl)]
  exact foldl_reaches (P := fun t => (crOf t f r).sig.window = none) (fun t => closeWindow_closes f t r)
    (fun t q w => closeWindow_stays w q) (List.mem_range.2 h) _

theorem asleep_eventWindows (s : State) (f : Nat) {p : Nat} (h : p < 256) (own : (evRing s p).owner = f) :
    (evRing (asleep s f) p).sig.window = none := by
  have closed : EventClosed f p (asleep s f) := foldl_reaches (fun t => closeEventWindow_closes f t p)
    (fun t q w => closeEventWindow_stays w q) (List.mem_range.2 h) _
  refine closed (Eq.trans ?_ own)
  unfold asleep
  refine fold_keeps (P := fun t => (evRing t p).owner = (evRing s p).owner)
    (fun t q w => (closeEventWindow_owner f t q p).trans w) (congrArg EvRing.owner ?_)
  exact evRing_of_same (same_foldl (fun t r w => same_closeWindow f t r (by decide) w)
    (same_modFn _ _ _ (by decide) same_refl)) p

theorem signalHeld_dstate (s : State) (f : Nat) : (fnOf (signalHeld s f) f).dstate = (fnOf s f).dstate := by
  unfold signalHeld
  dsimp only
  split
  · rw [fnOf_modPcie, fnOf_setFn_same]
  split
  · rw [fnOf_modPcie, fnOf_setFn_same]
  · rw [fnOf_setFn_same]

theorem enterD3_enters {s : State} {f : Nat} (page : f ≤ 16) (awake : (fnOf s f).dstate ≠ .d3hot) :
    (fnOf (enterD3 s f) f).dstate = .d3hot ∧ (∀ r, r < 4 → (crOf (enterD3 s f) f r).sig.window = none) ∧
      ∀ p, p < 256 → (evRing s p).owner = f → (evRing (enterD3 s f) p).sig.window = none := by
  rw [enterD3_asleep page awake]
  split
  · have rings : Same 0x10 (asleep s f) (signalHeld (asleep s f) f) := same_signalHeld _ f (by decide) same_refl
    have events : Same 0x20 (asleep s f) (signalHeld (asleep s f) f) := same_signalHeld _ f (by decide) same_refl
    refine ⟨(signalHeld_dstate ..).trans (asleep_dstate s f), fun r h => ?_, fun p h own => ?_⟩
    · rw [crOf_of_same rings]
      exact asleep_windows s f h
    · rw [evRing_of_same events]
      exact asleep_eventWindows s f h own
  · exact ⟨asleep_dstate s f, fun r h => asleep_windows s f h, fun p h own => asleep_eventWindows s f h own⟩

/-! ### The link goes down (06 R293, 16 R686) -/

/-- A function without its link: D3hot becomes D3cold, in a stay of its own. -/
def fnCold (x : Fn) : Fn := if x.dstate = .d3hot then { x with dstate := .d3cold, heldInStay := false } else x

theorem tget_foldl_tmod_range {α : Type} [DecidableEq α] (d : α) (g : α → α) (t : Tab α) (n k : Nat) :
    tget d ((List.range n).foldl (fun u j => tmod d u j g) t) k = if k < n then g (tget d t k) else tget d t k := by
  induction n with
  | zero => rfl
  | succ n ih =>
    rw [List.range_succ, List.foldl_append, List.foldl_cons, List.foldl_nil]
    by_cases e : k = n
    · subst e
      rw [tmod, tget_tset_same, ih, if_neg (Nat.lt_irrefl k), if_pos (Nat.lt_succ_self k)]
    · rw [tmod, tget_tset_other _ _ _ _ _ e, ih]
      simp only [show k < n + 1 ↔ k < n by omega]

theorem fnOf_coldFunctions (s : State) (f : Nat) :
    fnOf (coldFunctions s) f = if f < 17 then fnCold (fnOf s f) else fnOf s f := by
  have e : (coldFunctions s).fns = (List.range 17).foldl (fun u j => tmod {} u j fnCold) s.fns := by
    unfold coldFunctions
    rw [modFns_fns]
    rfl
  unfold fnOf
  rw [e, tget_foldl_tmod_range]

theorem fnCold_d3hot {x : Fn} (h : x.dstate = .d3hot) : fnCold x = { x with dstate := .d3cold, heldInStay := false } := if_pos h

theorem fnCold_awake {x : Fn} (h : x.dstate ≠ .d3hot) : fnCold x = x := if_neg h

theorem loseLink_downs (s : State) : (loseLink s []).pcie = { s.pcie with linkDown := true, link := .l0 } ∧
    (∀ f, f ≤ 16 → (fnOf s f).dstate = .d3hot → fnOf (loseLink s []) f = { fnOf s f with dstate := .d3cold, heldInStay := false }) ∧
    (∀ f, 16 < f ∨ (fnOf s f).dstate ≠ .d3hot → fnOf (loseLink s []) f = fnOf s f) ∧
    ∀ p : Part, p ∉ [Part.pcie, .fns] → agree p s (loseLink s []) := by
  have page : ∀ f, fnOf (loseLink s []) f = if f < 17 then fnCold (fnOf s f) else fnOf s f := fun f => fnOf_coldFunctions _ f
  have rest : Same 0x1FFFFFF3 s (loseLink s []) :=
    same_coldFunctions _ (by decide) (same_modPcie (by decide) same_refl)
  refine ⟨rfl, fun f low cold => ?_, fun f h => ?_, fun p h => rest.get p ?_⟩
  · rw [page, if_pos (by omega), fnCold_d3hot cold]
  · rw [page]
    split
    · exact fnCold_awake (h.resolve_left (by omega))
    · rfl
  · revert h
    cases p <;> decide

/-- Settles O27: waking a function sends what it holds (`wakeFunction_empties`); D3hot and a lost link change what they name. -/
theorem functionsSleepAndWake : Obligations.FunctionsSleepAndWake := by
  unfold Obligations.FunctionsSleepAndWake
  exact ⟨fun s f page awake => ⟨_, rfl, enterD3_enters page awake⟩, fun s f page => ⟨_, rfl, returnToD0_returns page⟩,
    fun s f page => ⟨_, rfl, clearMaster_clears page⟩, fun s f page => ⟨_, rfl, setMaster_sets page⟩,
    fun s => ⟨_, rfl, setVfEnable_sets s⟩, fun s => ⟨_, rfl, loseLink_downs s⟩⟩

end Sys2Proof.Machine
end

section
/-! PROOFS. The ring commands (O10 to O13): the flight an accepted command's work begins with has the command's OPCODE, so its
work is the one that the table of effects names; its row takes it in. -/

namespace Sys2Proof.Machine

/-- What a quiesce counts before its first completion leaves its OPCODE. -/
theorem beforeFirst_op (s : State) (f : Flight) : (beforeFirst s f).2.op = f.op := by
  by_cases quiesce : f.op = 0x13
  · have found : ∀ u : State, ((flightBy u fun g => g.id == f.id && g.op == 0x13).getD f).op = f.op := by
      intro u
      cases h : flightBy u fun g => g.id == f.id && g.op == 0x13 with
      | none => rfl
      | some g =>
        have := List.find?_some h
        simp only [Bool.and_eq_true, beq_iff_eq] at this
        exact this.2.trans quiesce.symm
    unfold beforeFirst
    rw [if_neg (not_not_intro quiesce)]
    dsimp only
    split <;> exact found _
  · rw [beforeFirst_other quiesce]

/-- An ACCEPT leaves the OPCODE of its flight. -/
theorem flightAfter_op {s : State} {f : Flight} (mem : f ∈ s.flights) : (flightAfter s f).op = f.op := by
  unfold flightAfter afterAccept
  by_cases done : f.verdict.status = 0
  · rw [if_pos done]
  · rw [if_neg done, if_neg done, accept_finds _ _ mem]
    rfl

theorem acceptedFlight_op {s : State} {f : Flight} (h : FirstDue s f) : (acceptedFlight s f).op = f.op := by
  obtain ⟨-, -, -, -, -, mem⟩ := h
  exact (flightAfter_op (setFlight_mem mem (withCopy_id _ _))).trans ((withCopy_op _ _).trans (beforeFirst_op s f))

/-- The work of an OPCODE is the one that the table of effects names first. -/
theorem effectOf_eq {op : Nat} {start : State → Flight → State} (h : (effects.find? fun e => e.1 == op) = some (op, start))
    (s : State) {f : Flight} (hf : f.op = op) : effectOf s f = start s f := by
  unfold effectOf
  rw [hf, h]

section Rows

variable {row : CmdSrc → Descriptor → Instr} {op : Nat} {check : State → Cmd → Ruling} {commit start : State → Flight → State}

/-- At its first completion an accepted command begins the work that the table of effects names. -/
theorem firstCompletion_begins (starts : (effects.find? fun e => e.1 == op) = some (op, start)) {s : State} {f : Flight} (hf : f.op = op)
    (due : FirstDue s f) : Gives (.firstCompletion f.src) s fun t =>
      t = withData (start (acceptedState s f) (acceptedFlight s f)) (acceptedFlight s f) :=
  ⟨_, first_due due, by rw [effectOf_eq starts _ ((acceptedFlight_op due).trans hf)]⟩

theorem performsAnd (takes : ∀ src d s, exec (row src d) s = .next (ringCommand op check commit src d s))
    (starts : (effects.find? fun e => e.1 == op) = some (op, start)) : PerformsAnd row op check commit start := by
  refine ⟨fun src d s slot => ?_, fun s f => firstCompletion_begins starts⟩
  obtain ⟨u, f, taken, verdict, promised, e⟩ := ring_taken op check commit src d s slot
  exact ⟨_, takes src d s, u, f, taken, verdict, promised, e⟩

theorem performs (takes : ∀ src d s, exec (row src d) s = .next (ringCommand op check noCommit src d s))
    (starts : (effects.find? fun e => e.1 == op) = some (op, start)) : Performs row op check start := by
  refine ⟨fun src d s slot => ?_, fun s f => firstCompletion_begins starts⟩
  obtain ⟨u, f, taken, verdict, promised, e⟩ := ring_taken op check noCommit src d s slot
  exact ⟨u, by rw [takes, e]; exact congrArg _ (ite_self u), f, taken, verdict, promised⟩

end Rows

/-- Settles O10: each row takes its command in, and the table of effects names its work; a quiesce also commits. -/
theorem controlCommands : Obligations.ControlCommands := by
  unfold Obligations.ControlCommands
  refine ⟨?_, ?_, ?_, ?_, ?_, ?_, ?_, ?_, ?_, ?_, performsAnd (fun _ _ _ => rfl) rfl, ?_, ?_, ?_, ?_, ?_, ?_, ?_, ?_, ?_, ?_, ?_,
    ?_, ?_, ?_, ?_, ?_, ?_, ?_, ?_, ?_⟩
  all_goals exact performs (fun _ _ _ => rfl) rfl

/-- Settles O11: likewise; the changes of layers and units that move charges commit them. -/
theorem displayCommands : Obligations.DisplayCommands := by
  unfold Obligations.DisplayCommands
  refine ⟨?_, performsAnd (fun _ _ _ => rfl) rfl, performsAnd (fun _ _ _ => rfl) rfl, performsAnd (fun _ _ _ => rfl) rfl, ?_, ?_,
    ?_, ?_, ?_, ?_, ?_, ?_, ?_, ?_, ?_, ?_, ?_, performsAnd (fun _ _ _ => rfl) rfl, ?_, performsAnd (fun _ _ _ => rfl) rfl, ?_,
    performsAnd (fun _ _ _ => rfl) rfl⟩
  all_goals exact performs (fun _ _ _ => rfl) rfl

/-- Settles O12: likewise; a job, the charged audio changes, DMA_RESUME and DMA_ABORT commit. -/
theorem engineCommands : Obligations.EngineCommands := by
  unfold Obligations.EngineCommands
  refine ⟨?_, ?_, ?_, performsAnd (fun _ _ _ => rfl) rfl, ?_, ?_, ?_, ?_, ?_, ?_, ?_, ?_, ?_, ?_, ?_, ?_, ?_, ?_, ?_, ?_, ?_, ?_,
    ?_, performsAnd (fun _ _ _ => rfl) rfl, ?_, ?_, performsAnd (fun _ _ _ => rfl) rfl, ?_, ?_, ?_, ?_, ?_, ?_,
    performsAnd (fun _ _ _ => rfl) rfl, performsAnd (fun _ _ _ => rfl) rfl⟩
  all_goals exact performs (fun _ _ _ => rfl) rfl

/-- Settles O13: likewise; MEM_RETIRE and STOCKROOM_STAGER commit. -/
theorem systemCommands : Obligations.SystemCommands := by
  unfold Obligations.SystemCommands
  refine ⟨?_, ?_, ?_, ?_, ?_, ?_, ?_, ?_, ?_, ?_, ?_, ?_, ?_, ?_, performsAnd (fun _ _ _ => rfl) rfl,
    performsAnd (fun _ _ _ => rfl) rfl, ?_⟩
  all_goals exact performs (fun _ _ _ => rfl) rfl

end Sys2Proof.Machine
end

section
/-! PROOFS. The instant of a first completion (O15): nothing is done before a_k + 8,000, and from then on it is due. -/

namespace Sys2Proof.Machine

/-- What a key of a table reads as is the default, or is listed under the key. -/
theorem tget_listed {α : Type} (d : α) (t : Tab α) (k : Nat) : tget d t k = d ∨ (k, tget d t k) ∈ t := by
  induction t with
  | nil => exact .inl rfl
  | cons p t ih =>
    obtain ⟨j, v⟩ := p
    unfold tget
    split
    · next e => exact .inr (e ▸ List.mem_cons_self)
    · exact ih.imp_right (List.mem_cons_of_mem _)

/-- A command that a quiesce has stopped is not completed before its instant. -/
theorem stoppedFirst_early {s : State} {e : Stopped} (early : e.flight.phase = .first → now s < e.flight.admitted + 8000) :
    stoppedFirst s e = s := by
  unfold stoppedFirst
  refine if_pos ?_
  by_cases first : e.flight.phase = .first
  · simp [early first]
  · simp [first]

theorem firstCompletionOf_early {s : State} {src : CmdSrc}
    (flying : ∀ f ∈ s.flights, f.src = src → f.phase = .first → now s < f.admitted + 8000)
    (shown : ∀ v ∈ s.visible, v.src = src → now s < v.admitted + 8000)
    (quiesced : ∀ e ∈ stoppedOf s src.fn, e.flight.src = src → e.flight.phase = .first → now s < e.flight.admitted + 8000) :
    firstCompletionOf s src = s := by
  have noFlight : flightAt s src (fun f => decide (f.phase = .first) && decide (now s ≥ f.admitted + 8000)) = none := by
    refine flightAt_none fun f mem slot => ?_
    by_cases first : f.phase = .first
    · have := flying f mem slot first
      simp [this]
    · simp [first]
  unfold firstCompletionOf
  split
  · next v found =>
    have due := List.find?_some found
    simp only [Bool.and_eq_true, decide_eq_true_eq] at due
    have := shown v (List.mem_of_find?_eq_some found) due.1.1
    omega
  · rw [noFlight]
    dsimp only
    split
    · next e found =>
      have slot := List.find?_some found
      simp only [Bool.and_eq_true, decide_eq_true_eq] at slot
      exact stoppedFirst_early (quiesced e (List.mem_of_find?_eq_some found) slot.1)
    · rfl

/-- What the records of some ring make due is due. -/
theorem due_of_dueRecords {s : State} {c : Instr} {r : Nat} (ring : r < 4) (h : c ∈ dueRecords s r) : c ∈ due s := by
  unfold due dueCommands
  simp only [List.mem_append, List.mem_flatMap, List.mem_range]
  exact Or.inl (Or.inl (Or.inr (Or.inl (Or.inl (Or.inl (Or.inr ⟨r, ring, h⟩))))))

/-- A stopped command that waits for its first completion falls due at a_k + 8,000 too. -/
theorem due_stopped {s : State} {n : Nat} {e : Stopped} (mem : e ∈ (tenOf s n).stopped) (first : e.flight.phase = .first)
    (late : e.flight.admitted + 8000 ≤ now s) : .firstCompletion e.flight.src ∈ due s := by
  have listed : (n, tenOf s n) ∈ s.tens := by
    rcases tget_listed ({} : Tenancy) s.tens n with absent | listed
    · rw [tenOf, absent] at mem
      cases mem
    · exact listed
  refine due_of_dueRecords (r := min e.flight.src.ring 3) (by omega) ?_
  unfold dueRecords
  simp only [List.mem_append, List.mem_map, List.mem_filter, List.mem_flatMap]
  exact .inl (.inl (.inr ⟨e, ⟨_, listed, mem, by simp [first, late]⟩, rfl⟩))

/-- Settles O15: what is due at a tick, the idle step that reaches it queues. -/
theorem firstCompletionInstant : Obligations.FirstCompletionInstant := by
  unfold Obligations.FirstCompletionInstant
  refine ⟨fun s src flying shown quiesced => ⟨_, rfl, firstCompletionOf_early flying shown quiesced⟩, due_first,
    fun s n e => due_stopped, ?_⟩
  intro s t f empty runs e mem first late
  rw [step_idle empty] at e
  cases e
  rw [idle_runs runs, modPending_flights] at mem
  rw [idle_runs runs, now, modPending_tl] at late
  rw [idle_runs runs, modPending_pending]
  exact due_first (ticked s) f mem first late

end Sys2Proof.Machine
end

section
/-! PROOFS. The checks that every ring command meets (O19): a HALT, the issuer and the class, in that order. -/

namespace Sys2Proof.Machine

/-! ### The rows of the ring commands -/

/-- The commands of a row take descriptors in under its OPCODE, with checks and a commit of their own. -/
def TakesIn (row : Nat × (CmdSrc → Descriptor → Instr)) : Prop :=
  ∃ check commit, ∀ src d s, exec (row.2 src d) s = .next (ringCommand row.1 check commit src d s)

theorem ringRows_takeIn : ∀ e ∈ List.flatten [opcodesGeneral, opcodesDisplay, opcodesStations, opcodesSound, opcodesSystem],
    TakesIn e := by
  simp only [List.flatten_cons, List.flatten_nil, List.forall_mem_append, opcodesGeneral, opcodesDisplay, opcodesStations,
    opcodesSound, opcodesSystem, List.forall_mem_cons, List.not_mem_nil, false_imp_iff, implies_true, and_true]
  and_intros
  all_goals exact ⟨_, _, fun _ _ _ => rfl⟩

theorem ringInstr_takesIn {src : CmdSrc} {d : Descriptor} {c : Instr} (h : ringInstr src d = some c) :
    ∃ check commit, ∀ s, exec c s = .next (ringCommand (opcodeOf d) check commit src d s) := by
  obtain ⟨e, found, rfl⟩ := Option.map_eq_some_iff.1 h
  obtain ⟨check, commit, takes⟩ := ringRows_takeIn e (List.mem_of_find?_eq_some found)
  have op : e.1 = opcodeOf d := by simpa using List.find?_some found
  exact ⟨check, commit, fun s => op ▸ takes src d s⟩

/-! ### The common checks (07 R309; 20 R796) -/

section Common

variable {s : State} {t op : Nat} {d : Descriptor} {r : OpRow} (row : opRow op = some r)
include row

theorem commonChecks_halt {b : Nat} (latched : s.lg.haltSrc = some b) (bound : haltExempt op = false) :
    commonChecks s t op d = some (refuse 13 0x32 0 b) := by
  simp [commonChecks, row, halted, latched, bound, failIf, firstSome]

variable (running : s.lg.haltSrc = none) (booted : noImage s = false)
include running booted

theorem commonChecks_issuer (restricted : r.t0 = true) (guest : t ≠ 0) : commonChecks s t op d = some (notOwner 0) := by
  simp [commonChecks, row, halted, running, booted, restricted, guest, failIf, firstSome]

theorem commonChecks_class (issuer : r.t0 = true → t = 0) (alien : r.classes.contains (classOf d) = false) :
    commonChecks s t op d = some (badParam 1) := by
  have may : ¬(r.t0 = true ∧ ¬t = 0) := fun h => h.2 (issuer h.1)
  have other : classOf d ∉ r.classes := by simpa using alien
  simp [commonChecks, row, halted, running, booted, may, other, failIf, firstSome]

end Common

/-- A command admitted before its tenancy's quiesce meets the Ledger and the boot as they are. -/
theorem beforeQuiesce_keeps (s : State) (t a : Nat) :
    (beforeQuiesce s t a).lg = s.lg ∧ (beforeQuiesce s t a).pw = s.pw :=
  have h : Same 0x800080 s (beforeQuiesce s t a) := same_beforeQuiesce s t a (by decide) same_refl
  ⟨h.get .lg (by decide), h.get .pw (by decide)⟩

/-! ### A refusal by the common checks -/

/-- What the common checks refuse is not looked at further. -/
theorem rulingAt_refused {op : Nat} {check : State → Cmd → Ruling} {src : CmdSrc} {d : Descriptor} {s : State} {v : Verdict}
    (refused : commonChecks (beforeQuiesce (viewOfNext (withFetched op src d s) src.fn) src.fn
      (admissionOf (withFetched op src d s) src (withOp op d))) src.fn op (withOp op d) = some v) (bad : 1 < v.status) :
    (rulingAt op check src d s).verdict = v := by
  unfold rulingAt
  dsimp only
  unfold ruleOf
  rw [refused]
  unfold barred
  rw [if_neg (by simp [no, Nat.not_le.2 bad])]
  rfl

theorem gives_commonRefusal {s : State} {src : CmdSrc} {d : Descriptor} {c : Instr} {v : Verdict} (slot : HasSlot s src)
    (row : ringInstr src d = some c) (bad : 1 < v.status)
    (refused : ∀ a, commonChecks (beforeQuiesce (viewOfNext (withFetched (opcodeOf d) src d s) src.fn) src.fn a) src.fn
      (opcodeOf d) d = some v) :
    Gives c s fun t => ∃ f ∈ t.flights, f.id = s.nextId ∧ f.src = src ∧ f.verdict = v := by
  obtain ⟨check, commit, takes⟩ := ringInstr_takesIn row
  obtain ⟨u, f, taken, verdict, -, e⟩ := ring_taken (opcodeOf d) check commit src d s slot
  obtain ⟨mem, id, -, hsrc, -⟩ := taken
  rw [rulingAt_refused (by rw [withOp_self]; exact refused _) bad] at verdict
  have out : accepted f = false := by simp [accepted, verdict, bad]
  rw [out] at e
  exact ⟨u, (takes s).trans (congrArg _ e), f, mem, id, hsrc, verdict⟩

/-- Settles O19: each clause is one of the common checks, met in the state the tenancy's earlier commands leave. -/
theorem checksInOrder : Obligations.ChecksInOrder := by
  unfold Obligations.ChecksInOrder
  intro s src d c r slot row op view ends
  have kept := fun a => beforeQuiesce_keeps view src.fn a
  have image : ∀ a, noImage (beforeQuiesce view src.fn a) = noImage view := fun a => by simp [noImage, (kept a).2]
  refine ⟨fun b latched bound => ?_, fun running booted restricted guest => ?_, fun running booted issuer alien => ?_⟩
  · exact gives_commonRefusal slot row (show 1 < 13 by decide) fun a => commonChecks_halt op ((congrArg _ (kept a).1).trans latched) bound
  · exact gives_commonRefusal slot row (by decide) fun a => commonChecks_issuer op ((congrArg _ (kept a).1).trans running)
      ((image a).trans booted) restricted guest
  · exact gives_commonRefusal slot row (by decide) fun a => commonChecks_class op ((congrArg _ (kept a).1).trans running)
      ((image a).trans booted) issuer alien

end Sys2Proof.Machine
end

section
/-! PROOFS. NOP (O18): an accepted NOP ends with its first completion, whose record stands in the completion ring. -/

namespace Sys2Proof.Machine

/-! ### A command that ends with its first completion and names no host data -/

theorem setFlight_self {s : State} {f : Flight} (only : ∀ g ∈ s.flights, g.id = f.id → g = f) : setFlight s f = s := by
  have same : (s.flights.map fun g => if g.id = f.id then f else g) = s.flights := by
    refine (List.map_congr_left fun g mem => ?_).trans s.flights.map_id
    split
    · next e => exact (only g mem e).symm
    · rfl
  show { s with flights := s.flights.map fun g => if g.id = f.id then f else g } = s
  rw [same]

section Done

variable {s : State} {f : Flight} (other : f.op ≠ 0x13) (plain : hostData f.op f.desc = none)
  (only : ∀ g ∈ s.flights, g.id = f.id → g = f) (done : f.verdict.status = 0)
include other plain

theorem firstFlight_plain : firstFlight s f = f := by
  unfold firstFlight withCopy
  rw [beforeFirst_other other]
  dsimp only
  rw [plain]

include only done

theorem acceptedState_plain : acceptedState s f = s := by
  unfold acceptedState firstState afterAccept
  rw [firstFlight_plain other plain, if_pos done, beforeFirst_other other, setFlight_self only]

omit only in
theorem acceptedFlight_plain : acceptedFlight s f = f := by
  unfold acceptedFlight flightAfter
  rw [firstFlight_plain other plain, if_pos done]

end Done

/-- A flight that has ended waits for no host data. -/
theorem withData_finished (s : State) (f : Flight) (v : Verdict) : withData (finish s f v) f = finish s f v := by
  have gone : ((finish s f v).flights.find? fun g => g.id == f.id) = none :=
    List.find?_eq_none.2 fun g mem => by simpa using finish_removes s f v g mem
  unfold withData
  rw [gone]

/-! ### The record of a final completion -/

/-- Only a GPU job's outcome is kept. -/
theorem noteOutcome_other (s : State) {f : Flight} (h : f.op ≠ 0x63) (v : Verdict) : noteOutcome s f v = s := by
  unfold noteOutcome
  split
  · exact if_pos h
  · rfl

/-- A flight has left, and its reservation with it. -/
def flightGone (s : State) (f : Flight) : State :=
  (modCr s f.src.fn f.src.ring fun c => { c with ccReserved := c.ccReserved - f.slots }).modFlights
    fun l => l.filter fun g => g.id ≠ f.id

theorem crOf_flightGone (s : State) (f : Flight) : crOf (flightGone s f) f.src.fn f.src.ring =
    { crOf s f.src.fn f.src.ring with ccReserved := (crOf s f.src.fn f.src.ring).ccReserved - f.slots } :=
  crOf_modCr_same s f.src.fn f.src.ring fun c => { c with ccReserved := c.ccReserved - f.slots }

/-- The record of a flight's final completion. -/
def finalRecord (s : State) (f : Flight) (v : Verdict) : Held :=
  { isCompletion := true, ring := f.src.ring,
    bytes := completionRecord (flightGone s f) f.src f.op (tagOf f.desc) (userOf f.desc) v true }

theorem finish_other (s : State) {f : Flight} (h : f.op ≠ 0x63) (v : Verdict) : finish s f v =
    settleRing (issueRecord (flightGone s f) f.src.fn (finalRecord s f v)) f.src.fn f.src.ring := by
  unfold finish
  rw [noteOutcome_other s h]
  rfl

/-- What the end of a flight that is no GPU job leaves alone. -/
theorem same_finish_other (s : State) {f : Flight} (h : f.op ≠ 0x63) (v : Verdict) : Same 0x1DFFF7E3 s (finish s f v) := by
  rw [finish_other s h]
  exact same_settleRing _ _ _ (by decide) (same_issueCompletion _ _ _ rfl rfl (by decide) (same_modFlights (by decide)
    (same_modCr _ _ _ _ (by decide) same_refl)))

theorem host_of_same {s t : State} (h : Same 0x2000000 s t) : t.host = s.host := h.get .host (by decide)

/-- A record put into an enabled completion ring stands in its next slot, with the ring's phase. -/
theorem putCompletion_host {s : State} {f r : Nat} (enabled : (crOf s f r).ccEnable = true) (bs : List Byte) :
    (putCompletion s f r bs).host = Mem.wrs s.host ((crOf s f r).ccBase + 32 * (crOf s f r).ccTail)
      (withPhase bs 3 (crOf s f r).sig.phase) := by
  unfold putCompletion
  rw [if_neg (by simp [enabled])]
  dsimp only
  split
  · exact host_of_same (same_sendMessage _ _ _ (by decide) same_refl)
  · rfl

/-- A completion issued to a function that takes its records and holds none is written at once. -/
theorem issueRecord_host {s : State} {f : Nat} {h : Held} (completion : h.isCompletion = true) (placed : h.addr = none)
    (enabled : (crOf s f h.ring).ccEnable = true) (may : canWrite s f = true) (empty : (fnOf s f).held = []) :
    (issueRecord s f h).host = Mem.wrs s.host ((crOf s f h.ring).ccBase + 32 * (crOf s f h.ring).ccTail)
      (withPhase h.bytes 3 (crOf s f h.ring).sig.phase) := by
  have writable : (canWrite (modCr s f h.ring fun c => { c with ccUsed := c.ccUsed + 1 }) f &&
      (fnOf (modCr s f h.ring fun c => { c with ccUsed := c.ccUsed + 1 }) f).held.isEmpty) = true := by
    show (canWrite s f && (fnOf s f).held.isEmpty) = true
    rw [may, empty]
    rfl
  have ring : ∀ g : CmdRing → CmdRing, crOf ((modCr s f h.ring g).modPcie exitL1) f h.ring = g (crOf s f h.ring) :=
    fun g => crOf_modCr_same s f h.ring g
  unfold issueRecord
  rw [if_neg (by simp [enabled]), if_pos completion]
  dsimp only
  rw [if_pos writable]
  unfold putRecord
  rw [placed, completion]
  dsimp only
  rw [if_pos rfl, putCompletion_host (by rw [ring]; exact enabled), ring]
  rfl

/-! ### The instant of a record -/

/-- The named instants of a state depend on its Timeline and on the changes of EPOCH_TICKS in flight. -/
theorem instantOfTick_congr {s t : State} (tl : t.tl = s.tl) (size : ∀ b, epochSizeAt t b = epochSizeAt s b) (n : Nat) :
    instantOfTick t n = instantOfTick s n := by
  unfold instantOfTick epochsAhead epochTickAhead laterLen nextLen nextEpochTick epochStartTick
  simp only [tl, size]

/-- A fold over flights loses nothing with a flight that leaves its result alone. -/
theorem foldl_without {f : Flight} {step : Nat → Flight → Nat} (still : ∀ n, step n f = n) {l : List Flight}
    (only : ∀ g ∈ l, g.id = f.id → g = f) (e : Nat) : (l.filter fun g => g.id ≠ f.id).foldl step e = l.foldl step e := by
  induction l generalizing e with
  | nil => rfl
  | cons g l ih =>
    have rest := fun e => ih (fun x mem => only x (List.mem_cons_of_mem _ mem)) e
    by_cases same : g.id = f.id
    · rw [List.filter_cons_of_neg (by simp [same]), rest, List.foldl_cons, only g List.mem_cons_self same, still]
    · rw [List.filter_cons_of_pos (by simp [same]), List.foldl_cons, List.foldl_cons, rest]

/-- A command that is no TIMELINE_CONFIG is counted in no epoch's size. -/
theorem epochSizeAt_flightGone {s : State} {f : Flight} (only : ∀ g ∈ s.flights, g.id = f.id → g = f) (other : f.op ≠ 0x04)
    (b : Nat) : epochSizeAt (flightGone s f) b = epochSizeAt s b :=
  foldl_without (fun n => by simp [other]) only _

/-! ### NOP -/

/-- The bytes of a final completion without reason and index, with the ring's phase (06 R280, R281). -/
theorem withPhase_record (tag slot head op ring e o value user : Nat) (phase : Bool) :
    withPhase (leBytes 2 tag ++ leBytes 1 0 ++ leBytes 1 (2 * b2n true) ++ leBytes 1 0 ++ leBytes 1 0 ++ leBytes 2 slot ++
      leBytes 2 head ++ leBytes 1 op ++ leBytes 1 ring ++ leBytes 4 e ++ leBytes 4 o ++ leBytes 4 value ++ leBytes 8 user) 3 phase =
    leBytes 2 tag ++ leBytes 1 0 ++ leBytes 1 (2 + b2n phase) ++ leBytes 2 0 ++ leBytes 2 slot ++ leBytes 2 head ++
      leBytes 1 op ++ leBytes 1 ring ++ leBytes 4 e ++ leBytes 4 o ++ leBytes 4 value ++ leBytes 8 user := by
  have flags : BitVec.ofNat 8 (2 * b2n true) ||| (if phase then 1 else 0) = BitVec.ofNat 8 (2 + b2n phase) := by
    cases phase <;> rfl
  simp only [leBytes, List.cons_append, List.nil_append, withPhase, setAt, List.drop, List.headD, flags]

/-- The DONE of a NOP, as it stands in the completion ring (07 R317). -/
def nopRecord (s : State) (f : Flight) : List Byte :=
  let c := crOf s f.src.fn f.src.ring
  leBytes 2 (tagOf f.desc) ++ leBytes 1 0 ++ leBytes 1 (2 + b2n c.sig.phase) ++ leBytes 2 0 ++ leBytes 2 f.src.slot ++
  leBytes 2 c.head ++ leBytes 1 0x00 ++ leBytes 1 f.src.ring ++ leBytes 4 (instantOfTick s (now s)).1 ++
  leBytes 4 (instantOfTick s (now s)).2 ++ leBytes 4 0 ++ leBytes 8 (userOf f.desc)

section Nop

variable {s : State} {f : Flight} (only : ∀ g ∈ s.flights, g.id = f.id → g = f) (op : f.op = 0x00)
include only op

theorem finalRecord_nop : withPhase (finalRecord s f { status := 0, inst := some (now s) }).bytes 3
    (crOf s f.src.fn f.src.ring).sig.phase = nopRecord s f := by
  have inst : instantOfTick (flightGone s f) (now s) = instantOfTick s (now s) :=
    instantOfTick_congr (s := s) (t := flightGone s f) rfl (epochSizeAt_flightGone only (by omega)) _
  unfold finalRecord completionRecord nopRecord
  dsimp only
  rw [inst, crOf_flightGone, ← withPhase_record, op]

/-- The first completion of an accepted NOP is its DONE. -/
theorem firstCompletion_nop (due : FirstDue s f) (done : f.verdict.status = 0) :
    exec (.firstCompletion f.src) s = .next (startNop s f) := by
  have plain : hostData f.op f.desc = none := by rw [op]; rfl
  have other : f.op ≠ 0x13 := by omega
  rw [first_due due, acceptedState_plain other plain only done, acceptedFlight_plain other plain done,
    effectOf_eq (start := startNop) rfl s op]
  exact congrArg _ (withData_finished s f _)

theorem startNop_host (may : canWrite s f.src.fn = true) (empty : (fnOf s f.src.fn).held = [])
    (enabled : (crOf s f.src.fn f.src.ring).ccEnable = true) : (startNop s f).host =
      Mem.wrs s.host ((crOf s f.src.fn f.src.ring).ccBase + 32 * (crOf s f.src.fn f.src.ring).ccTail) (nopRecord s f) := by
  have ring := crOf_flightGone s f
  unfold startNop finishDone
  rw [finish_other s (by omega), host_of_same (same_settleRing _ _ _ (by decide) same_refl),
    issueRecord_host (s := flightGone s f) rfl rfl (by rw [finalRecord, ring]; exact enabled) may empty,
    ← finalRecord_nop only op, show (finalRecord s f _).ring = f.src.ring from rfl, ring]
  rfl

end Nop

/-- In a payload without fields a byte that is not zero is reserved (07 R310). -/
theorem reserved_empty {d : Descriptor} {o : Nat} (payload : 16 ≤ o) (last : o < 64) (h : dget d o 1 ≠ 0) :
    ∃ k, reserved [] d = (true, badParam k) := by
  have kept : (d.toNat - (d.toNat &&& (2 ^ 128 - 1))) / 2 ^ (8 * o) = d.toNat / 2 ^ (8 * o) := by
    obtain ⟨k, rfl⟩ := Nat.exists_eq_add_of_le payload
    have above : d.toNat - d.toNat % 2 ^ 128 = 2 ^ 128 * (d.toNat / 2 ^ 128) := by
      have := Nat.div_add_mod d.toNat (2 ^ 128)
      omega
    rw [Nat.and_two_pow_sub_one_eq_mod, above, Nat.mul_add, Nat.pow_add, ← Nat.div_div_eq_div_mul, ← Nat.div_div_eq_div_mul,
      Nat.mul_div_cancel_left _ (Nat.two_pow_pos _)]
  have found : ((List.range 64).find? fun o => (d.toNat - (d.toNat &&& (2 ^ 128 - 1))) / 2 ^ (8 * o) % 256 ≠ 0).isSome :=
    List.find?_isSome.2 ⟨o, List.mem_range.2 last, by rw [kept]; exact decide_eq_true h⟩
  obtain ⟨k, hk⟩ := Option.isSome_iff_exists.1 found
  refine ⟨reservedFrom (2 ^ 128 - 1) [] k, ?_⟩
  unfold reserved
  dsimp only [List.foldl_nil]
  rw [hk]

/-- Settles O18: a NOP's work is its DONE, issued at its first completion. -/
theorem nopCompletesWithDone : Obligations.NopCompletesWithDone := by
  unfold Obligations.NopCompletesWithDone
  refine ⟨fun s f due only op done may empty enabled => ⟨_, firstCompletion_nop only op due done, ?_⟩, fun s c o payload last h => ?_⟩
  · dsimp only
    rw [startNop_host only op may empty enabled]
    refine ⟨finish_flights .., Mem.rds_wrs .., fun x => Mem.rd_wrs_outside _ _ (nopRecord s f) x, fun p outside => ?_⟩
    refine (same_finish_other s (by omega) _).get p ?_
    revert outside
    cases p <;> decide
  · obtain ⟨k, e⟩ := reserved_empty payload last h
    rw [checkNop, e]
    rfl

end Sys2Proof.Machine
end

section
/-! PROOFS. Host data that arrives, and timed final completions (O25). -/

namespace Sys2Proof.Machine

/-! ### Host data (07 R322) -/

/-- A command that reads host data and has got none, nor an error in its place. -/
def lacksData (f : Flight) : Bool := (hostData f.op f.desc).isSome && f.data.isNone && decide (f.dataErr = 0)

/-- The command with what has arrived for it. -/
def dataArrived (s : State) (f : Flight) : Arrival → Flight
  | .good =>
    { f with data := some (f.copy.getD (hostRead s ((hostData f.op f.desc).getD (0, 0)).1 ((hostData f.op f.desc).getD (0, 0)).2)) }
  | .error => { f with dataErr := 70 }
  | .poisoned => { f with dataErr := 14 }

/-- The state with the error of an arrival noted. -/
def arrivalNoted (s : State) (src : CmdSrc) : Arrival → State
  | .good => s
  | .error => noteAer s src.fn 14
  | .poisoned => noteAer s src.fn 12

theorem dataArrived_keeps (s : State) (f : Flight) (how : Arrival) :
    (dataArrived s f how).id = f.id ∧ (dataArrived s f how).op = f.op ∧ (dataArrived s f how).phase = f.phase := by
  cases how <;> exact ⟨rfl, rfl, rfl⟩

theorem arrivalNoted_flights (s : State) (src : CmdSrc) (how : Arrival) : (arrivalNoted s src how).flights = s.flights := by
  cases how <;> rfl

/-- For want of its data a command that waits for it ends, but for one that goes to the Warden. -/
theorem useData_fault {s : State} {f : Flight} {v : Verdict} (waits : f.phase = .data) (noLoad : f.op ≠ 0xE1) (noKey : f.op ≠ 0xE6)
    (fault : dataFault f = some v) : useData s f = finish s f v := by
  unfold useData
  rw [if_neg (not_not_intro waits), if_neg (by simp [noLoad, noKey]), fault]

section Arrives

variable {s : State} {src : CmdSrc} {f : Flight} (lacks : flightAt s src lacksData = some f)
include lacks

theorem hostDataOf_uses (how : Arrival) :
    hostDataOf s src how = useData (setFlight (arrivalNoted s src how) (dataArrived s f how)) (dataArrived s f how) := by
  unfold lacksData at lacks
  unfold hostDataOf
  rw [lacks]
  cases how <;> rfl

/-- Before its first completion the data, or the error, is kept with the command. -/
theorem hostDataOf_keeps (first : f.phase = .first) (how : Arrival) :
    hostDataOf s src how = setFlight (arrivalNoted s src how) (dataArrived s f how) := by
  obtain ⟨-, -, phase⟩ := dataArrived_keeps s f how
  rw [hostDataOf_uses lacks how]
  exact if_pos (by rw [phase, first]; decide)

/-- An error ends a command that waits. -/
theorem hostDataOf_ends {how : Arrival} {v : Verdict} (waits : f.phase = .data) (noLoad : f.op ≠ 0xE1) (noKey : f.op ≠ 0xE6)
    (fault : dataFault (dataArrived s f how) = some v) :
    hostDataOf s src how = finish (setFlight (arrivalNoted s src how) (dataArrived s f how)) (dataArrived s f how) v := by
  obtain ⟨-, op, phase⟩ := dataArrived_keeps s f how
  rw [hostDataOf_uses lacks how]
  exact useData_fault (phase.trans waits) (by rwa [op]) (by rwa [op]) fault

end Arrives

/-- A flight that is replaced and ends leaves the others. -/
theorem finish_setFlight_flights (s : State) (f : Flight) (v : Verdict) :
    (finish (setFlight s f) f v).flights = s.flights.filter fun g => g.id ≠ f.id := by
  rw [finish_flights]
  show (s.flights.map fun g => if g.id = f.id then f else g).filter _ = _
  induction s.flights with
  | nil => rfl
  | cons g l ih => by_cases same : g.id = f.id <;> simpa [same] using ih

/-! ### Timed final completions (19 R760, R764) -/

/-- A command whose final completion is written at an instant, which has come. -/
def timedDue (s : State) (f : Flight) : Bool := (f.op == 0xE0 || f.op == 0xE3) && instantCome s f

theorem timedFinalOf_due {s : State} {src : CmdSrc} {f : Flight} (due : flightAt s src (timedDue s) = some f) (stop : f.op = 0xE3) :
    timedFinalOf s src = finishDone (endApplet s (dget f.desc 16 1) (aborted 2)) f := by
  unfold timedFinalOf
  split
  · next g found =>
    cases due.symm.trans found
    exact if_neg (by omega)
  · next idle => cases due.symm.trans idle

theorem timedFinalOf_idle {s : State} {src : CmdSrc} (idle : flightAt s src (timedDue s) = none) : timedFinalOf s src = s := by
  unfold timedFinalOf
  split
  · next g found => cases idle.symm.trans found
  · rfl

/-- Settles O25: what arrives is kept or used, and a timed completion is written once its instant has come. -/
theorem dataAndTimedCompletions : Obligations.DataAndTimedCompletions := by
  unfold Obligations.DataAndTimedCompletions
  refine ⟨fun s src f lacks => ⟨fun first => ⟨_, rfl, hostDataOf_keeps lacks first .good⟩,
      fun first => ⟨_, rfl, hostDataOf_keeps lacks first .error⟩, fun waits noLoad noKey => ⟨_, rfl, ?_⟩,
      fun waits noLoad noKey => ⟨_, rfl, hostDataOf_ends (how := .poisoned) lacks waits noLoad noKey rfl⟩,
      fun waits noLoad noKey => ⟨_, rfl, hostDataOf_ends (how := .error) lacks waits noLoad noKey rfl⟩⟩,
    fun s src f a due stop _ => ⟨_, rfl, timedFinalOf_due due stop⟩,
    fun s src early => ⟨_, rfl, timedFinalOf_idle (flightAt_none fun f mem slot => ?_)⟩⟩
  · dsimp only
    rw [hostDataOf_ends (how := .error) lacks waits noLoad noKey rfl, finish_setFlight_flights, arrivalNoted_flights]
    rfl
  · cases due : timedDue s f with
    | false => rfl
    | true =>
      obtain ⟨op, come⟩ := (Bool.and_eq_true _ _).mp due
      obtain ⟨t, timed, past⟩ := instantCome_timed come
      have := early f mem slot (by simpa using op) t timed
      omega

end Sys2Proof.Machine
end

section
/-! PROOFS. The lines and frames of a head (O42): a head's place in its raster, and which operations of a line or a frame
move it. -/

namespace Sys2Proof.Machine

/-! ### What leaves the heads alone -/

theorem headOf_finish (s : State) (f : Flight) (v : Verdict) (h : Nat) : headOf (finish s f v) h = headOf s h :=
  headOf_of_same (same_finish s f v (by decide) same_refl) h

theorem headOf_finishDone (s : State) (f : Flight) (v h : Nat) : headOf (finishDone s f v) h = headOf s h := headOf_finish ..

theorem headOf_foldl {α : Type} {f : State → α → State} {h : Nat} (hf : ∀ t x, headOf (f t x) h = headOf t h) (l : List α) (s : State) :
    headOf (l.foldl f s) h = headOf s h := fold_keeps (P := fun t => headOf t h = headOf s h) (fun t x e => (hf t x).trans e) rfl

/-- What drawing a line notes is noted in the layers alone. -/
theorem headOf_noteLine (s : State) (e : Nat × Nat × Bool) (h : Nat) : headOf (noteLine s e) h = headOf s h := by
  unfold noteLine
  dsimp only
  split <;> rfl

/-! ### The place of a head in its raster -/

/-- A head's place in its raster: its configuration and state, its frame and line, and when that line began or its first frame
is to begin. -/
structure Raster where
  cfg : Option HeadCfg
  state : HeadState
  startDue : Option Nat
  frame : Nat
  line : Nat
  slots : Nat
  lineAt : Nat

def headPlace (hd : Head) : Raster :=
  { cfg := hd.cfg, state := hd.state, startDue := hd.startDue, frame := hd.frame, line := hd.line, slots := hd.slots, lineAt := hd.lineAt }

def rasterOf (s : State) (h : Nat) : Raster := headPlace (headOf s h)

theorem rasterOf_of_head {s t : State} {h : Nat} (e : headOf t h = headOf s h) : rasterOf t h = rasterOf s h := congrArg headPlace e

theorem rasterOf_of_same {s t : State} {h : Nat} (w : Same 0x4000 s t) : rasterOf t h = rasterOf s h :=
  rasterOf_of_head (headOf_of_same w h)

theorem rasterOf_modHead (s : State) (h : Nat) (f : Head → Head) : rasterOf (modHead s h f) h = headPlace (f (headOf s h)) :=
  congrArg headPlace (headOf_modHead_same s h f)

/-- A change of a head's other fields. -/
theorem rasterOf_modHead_kept {s u : State} {h : Nat} {f : Head → Head} (e : rasterOf s h = rasterOf u h)
    (hf : ∀ x, headPlace (f x) = headPlace x := by exact fun _ => rfl) : rasterOf (modHead s h f) h = rasterOf u h :=
  (rasterOf_modHead s h f).trans ((hf _).trans e)

theorem rasterOf_foldl {α : Type} {f : State → α → State} {h : Nat} (hf : ∀ t x, rasterOf (f t x) h = rasterOf t h) (l : List α)
    (s : State) : rasterOf (l.foldl f s) h = rasterOf s h :=
  fold_keeps (P := fun t => rasterOf t h = rasterOf s h) (fun t x e => (hf t x).trans e) rfl

/-- The end of a line takes its pixels alone. -/
theorem headOf_endLine (s : State) (h : Nat) : ∃ px, headOf (endLine s h) h = { headOf s h with pixels := px } := by
  unfold endLine
  dsimp only
  split
  · exact ⟨_, rfl⟩
  split
  · exact ⟨_, rfl⟩
  refine ⟨[], (headOf_modHead_same ..).trans (congrArg (fun hd : Head => { hd with pixels := [] }) ?_)⟩
  split
  · exact headOf_of_same (same_feedLine _ _ _ _ _ _ _ (by decide) same_refl) h
  split
  · rfl
  split <;> rfl

theorem rasterOf_beginLine (s : State) (h : Nat) (c : HeadCfg) (y : Nat) : rasterOf (beginLine s h c y) h = rasterOf s h := by
  unfold beginLine
  dsimp only
  generalize hu : landRow (fallBack s h) h y _ = u
  have landed : rasterOf u h = rasterOf s h := by
    rw [← hu]
    exact rasterOf_of_same (same_landRow _ _ _ _ (by decide) (same_fallBack s h (by decide) same_refl))
  rw [← landed]
  refine rasterOf_modHead_kept ?_
  split
  · rfl
  · exact (rasterOf_of_same (same_readRings _ _ _ _ _ (by decide) same_refl)).trans
      (rasterOf_of_head (headOf_foldl (fun t e => headOf_noteLine t e h) _ u))

theorem rasterOf_keepMap (s : State) (h t : Nat) (c : HeadCfg) : rasterOf (keepMap s h t c) h = rasterOf s h := rasterOf_modHead_kept rfl

/-! ### Frames (09 R428, R446) -/

/-- Line 0 of a frame of a video head: its number is already set. -/
theorem rasterOf_beginFrame {s : State} {h : Nat} {c : HeadCfg} (hc : (rasterOf s h).cfg = some c) (video : c.kind = .video) (t : Nat) :
    rasterOf (beginFrame s h t) h = { rasterOf s h with line := 0, slots := 1, lineAt := t } := by
  unfold beginFrame
  dsimp only
  generalize hu : modHead s h _ = u
  have begun : rasterOf u h = { rasterOf s h with line := 0, slots := 1, lineAt := t } := by
    rw [← hu]
    exact rasterOf_modHead ..
  generalize hv : syncEvent _ _ = v
  have noted : rasterOf v h = rasterOf u h := by
    rw [← hv, rasterOf_of_same (same_syncEvent _ _ (by decide) same_refl), rasterOf_foldl,
      rasterOf_of_same (same_showTelltales u h (by decide) same_refl)]
    exact fun w f => (rasterOf_of_head (headOf_finishDone ..)).trans (rasterOf_modHead_kept rfl)
  have cfg : (headOf v h).cfg = some c := (congrArg Raster.cfg (noted.trans begun)).trans hc
  rw [cfg]
  dsimp only
  rw [if_pos video, rasterOf_beginLine, rasterOf_modHead_kept (rasterOf_keepMap v h t c), noted, begun]

/-- An active line within a frame. -/
theorem nextLine_begins {s : State} {h l : Nat} {c : HeadCfg} (video : c.kind = .video) (active : l < c.vActive) (t : Nat) :
    let r := rasterOf (nextLine s h t l c) h
    r.line = l ∧ r.slots = (headOf s h).slots + 1 ∧ r.lineAt = t ∧ r.frame = (headOf s h).frame := by
  unfold nextLine
  dsimp only
  rw [if_neg (not_not_intro video), if_pos active, rasterOf_beginLine, rasterOf_modHead]
  exact ⟨rfl, rfl, rfl, rfl⟩

theorem rasterOf_raiseIf (p : Prop) [Decidable p] (s : State) (n b h : Nat) : rasterOf (if p then raise s n b else s) h = rasterOf s h := by
  split <;> rfl

theorem rasterOf_setStagerUnless (p : Prop) [Decidable p] (s : State) (g : Nat) (v : Stager) (h : Nat) :
    rasterOf (if p then s else setStager s g v) h = rasterOf s h := by
  split <;> rfl

/-- The next frame of a head that goes on. -/
theorem nextFrame_begins {s : State} {h : Nat} {c : HeadCfg} (hc : (headOf s h).cfg = some c) (video : c.kind = .video)
    (on : (headOf s h).stopDue = none) (t : Nat) :
    let r := rasterOf (nextFrame s h t c) h
    r.frame = ((headOf s h).frame + 1) % 2 ^ 32 ∧ r.line = 0 ∧ r.slots = 1 ∧ r.lineAt = t := by
  unfold nextFrame
  rw [if_neg (by simp [on]), if_neg (not_not_intro video)]
  dsimp only
  rw [rasterOf_beginFrame (c := c) ?_ video, rasterOf_raiseIf, rasterOf_modHead]
  · exact ⟨rfl, rfl, rfl, rfl⟩
  · rw [rasterOf_raiseIf, rasterOf_modHead]
    exact hc

/-- The first frame of a head that was enabled, with the configuration it had. -/
theorem firstFrame_begins {s : State} {h : Nat} {c : HeadCfg} (hc : (headOf s h).cfg = some c) (video : c.kind = .video)
    (old : (headOf s h).newCfg = none) (t : Nat) :
    let r := rasterOf (firstFrame s h t) h
    r.state = .running ∧ r.startDue = none ∧ r.line = 0 ∧ r.slots = 1 := by
  unfold firstFrame
  dsimp only
  rw [old, hc]
  dsimp only [Option.getD_some]
  split
  case' h_1 => rw [rasterOf_of_head (headOf_finishDone ..)]
  all_goals
    rw [rasterOf_beginFrame (c := c) ?_ video, rasterOf_setStagerUnless, rasterOf_modHead]
    · exact ⟨rfl, rfl, rfl, rfl⟩
    · rw [rasterOf_setStagerUnless, rasterOf_modHead]
      rfl

/-! ### The next slot of a head -/

theorem lineStartOf_idle {s : State} {h : Nat} (idle : ∀ b, nextSlotAt s h = some b → now s < b) : lineStartOf s h = s := by
  unfold lineStartOf
  split
  · rfl
  · next b slot => exact if_pos (idle b slot)

theorem nextSlot_within {s : State} {h : Nat} {c : HeadCfg} (numbered : (headOf s h).slot = .line ∨ (headOf s h).slot = .black)
    (whole : (headOf s h).aborting = false) (inside : (headOf s h).line + 1 < c.vTotal) (t : Nat) :
    nextSlot s h t c = nextLine s h t ((headOf s h).line + 1) c := by
  unfold nextSlot
  dsimp only
  rw [if_pos (by simp [numbered, inside]), if_neg (by simp [whole])]

theorem nextSlot_last {s : State} {h : Nat} {c : HeadCfg} (whole : (headOf s h).aborting = false) (paid : (headOf s h).extra = 0)
    (last : (headOf s h).line + 1 = c.vTotal) (t : Nat) : nextSlot s h t c = nextFrame s h t c := by
  unfold nextSlot
  dsimp only
  rw [if_neg (by simp [last]), if_neg (by simp [whole]), if_neg (by omega)]

section Due

variable {s : State} {h b : Nat} {c : HeadCfg} (slot : nextSlotAt s h = some b) (come : b ≤ now s)
include slot come

/-- A slot of the frame in progress, or of the next one. -/
theorem lineStartOf_nextSlot (hc : (headOf s h).cfg = some c) (fresh : (headOf s h).startDue = none) :
    lineStartOf s h = nextSlot (endLine s h) h b c := by
  obtain ⟨px, ended⟩ := headOf_endLine s h
  unfold lineStartOf
  rw [slot]
  dsimp only
  rw [if_neg (Nat.not_lt.2 come), ended]
  dsimp only
  rw [fresh, hc]

theorem lineStartOf_firstFrame (due : (headOf s h).startDue = some b) : lineStartOf s h = firstFrame (endLine s h) h b := by
  obtain ⟨px, ended⟩ := headOf_endLine s h
  unfold lineStartOf
  rw [slot]
  dsimp only
  rw [if_neg (Nat.not_lt.2 come), ended]
  dsimp only
  rw [due]
  exact if_pos (Nat.le_refl b)

end Due

/-- Settles O42: each clause is one case of the next slot of a head, after the end of the line in progress. -/
theorem headLines : Obligations.HeadLines := by
  unfold Obligations.HeadLines
  refine fun s h => ⟨fun none' => ⟨_, rfl, lineStartOf_idle (by simp [none'])⟩,
    fun b slot early => ⟨_, rfl, lineStartOf_idle (by simpa [slot] using early)⟩, fun b c slot come hc video => ?_⟩
  obtain ⟨px, ended⟩ := headOf_endLine s h
  generalize hu : endLine s h = u at ended
  have goesOn : (headOf s h).startDue = none → lineStartOf s h = nextSlot u h b c := hu ▸ lineStartOf_nextSlot slot come hc
  refine ⟨fun fresh numbered whole inside active => ⟨_, rfl, ?_⟩,
    fun fresh numbered whole paid on last => ⟨_, rfl, ?_⟩, fun _ due old => ⟨_, rfl, ?_⟩⟩
  · dsimp only
    rw [goesOn fresh, nextSlot_within (by rwa [ended]) (by rwa [ended]) (by rwa [ended])]
    have begins := nextLine_begins (s := u) (h := h) video active b
    rwa [ended] at begins ⊢
  · dsimp only
    rw [goesOn fresh, nextSlot_last (by rwa [ended]) (by rwa [ended]) (by rwa [ended])]
    have begins := nextFrame_begins (s := u) (h := h) (by rwa [ended]) video (by rwa [ended]) b
    rwa [ended] at begins
  · dsimp only
    rw [lineStartOf_firstFrame slot come due, hu]
    simpa only [rasterOf, headPlace] using firstFrame_begins (s := u) (h := h) (by rwa [ended]) video (by rwa [ended]) b

end Sys2Proof.Machine
end

section
/-! PROOFS. Pushes and the tearing edge (O44): what the active edge, a missed one and the end of a push make of the pushes that
wait. -/

namespace Sys2Proof.Machine

/-! ### The edge (09 R418) -/

/-- A push as the active edge at tick t leaves it. -/
def edgeSeen (t : Nat) (p : Push) : Push := if p.latched ≤ t then { p with edge := true } else p

/-- The state with an active edge noted, and seen by the pushes that wait. -/
def edgeNoted (s : State) (h : Nat) : State := modHead s h fun hd => { hd with
  teEdges := now s :: hd.teEdges.filter fun t => decide (now s < t + hd.quiet.teOfs + hd.quiet.teLen)
  push := if hd.pushing then hd.push else hd.push.map (edgeSeen (now s))
  queued := hd.queued.map (edgeSeen (now s)) }

theorem edgeNoted_head (s : State) (h : Nat) : headOf (edgeNoted s h) h = { headOf s h with
    teEdges := now s :: (headOf s h).teEdges.filter fun t => decide (now s < t + (headOf s h).quiet.teOfs + (headOf s h).quiet.teLen)
    push := if (headOf s h).pushing then (headOf s h).push else (headOf s h).push.map (edgeSeen (now s))
    queued := (headOf s h).queued.map (edgeSeen (now s)) } := headOf_modHead_same ..

theorem startPush_head {s : State} {h : Nat} {p : Push} (front : (headOf s h).push = some p) (t : Nat) :
    headOf (startPush s h t) h = noteStart p.number t { headOf s h with
      pushing := true, sent := 0, l0 := t, l0Epoch := (instantOfTick s t).1, l0Offset := (instantOfTick s t).2 } := by
  unfold startPush
  rw [front]
  exact headOf_modHead_same ..

/-- The maps of a push that starts keep its tick. -/
theorem noteStart_maps {n t : Nat} {hd : Head} {m : OwnerMap} (mem : m ∈ (noteStart n t hd).maps) (own : m.frame = n) : m.start = some t := by
  obtain ⟨x, -, rfl⟩ := List.mem_map.1 mem
  by_cases same : x.frame = n
  · rw [if_pos same]
  · rw [if_neg same] at own
    exact absurd own same

section Edge

variable {s : State} {h : Nat} {c : HeadCfg} {b : Bool} (hc : (headOf s h).cfg = some c)
include hc

theorem teEdgeOf_other (other : c.kind ≠ .command ∨ b = c.tePol) : teEdgeOf s h b = s := by
  unfold teEdgeOf
  dsimp only
  rw [hc]
  exact if_pos (by simpa using other)

variable (command : c.kind = .command)
include command

theorem pushReady_iff : pushReady s h = true ↔ (headOf s h).pushing = false ∧ ∃ p, (headOf s h).push = some p ∧ p.edge = true := by
  unfold pushReady
  dsimp only
  rw [hc]
  cases (headOf s h).push <;> simp [command]

variable (active : b = !c.tePol)
include active

theorem teEdgeOf_active : teEdgeOf s h b =
    if pushReady (edgeNoted s h) h then startPush (edgeNoted s h) h (now s) else edgeNoted s h := by
  unfold teEdgeOf
  dsimp only
  rw [hc]
  exact if_neg (by simp [command, active])

/-- The edge starts a push that waits for it. -/
theorem teEdgeOf_starts {p : Push} (front : (headOf s h).push = some p) (idle : (headOf s h).pushing = false) (latched : p.latched ≤ now s) :
    let hd := headOf (teEdgeOf s h b) h
    hd.pushing = true ∧ (∀ m ∈ hd.maps, m.frame = p.number → m.start = some (now s)) ∧ hd.sent = 0 ∧
      hd.push = some { p with edge := true } ∧ now s ∈ hd.teEdges := by
  have noted := edgeNoted_head s h
  have seen : (headOf (edgeNoted s h) h).push = some { p with edge := true } := by
    rw [noted]
    dsimp only
    rw [if_neg (by simp [idle]), front]
    exact congrArg some (if_pos latched)
  have ready : pushReady (edgeNoted s h) h = true :=
    (pushReady_iff (by rwa [noted]) command).2 ⟨by rwa [noted], _, seen, rfl⟩
  rw [teEdgeOf_active hc command active, if_pos ready, startPush_head seen]
  refine ⟨rfl, fun m mem own => noteStart_maps mem own, rfl, seen, ?_⟩
  show now s ∈ (headOf (edgeNoted s h) h).teEdges
  rw [noted]
  exact List.mem_cons_self

/-- While no push waits for it the edge is noted. -/
theorem teEdgeOf_notes (waits : (headOf s h).pushing = true ∨ ∀ p, (headOf s h).push = some p → now s < p.latched ∧ p.edge = false) :
    teEdgeOf s h b = modHead s h fun x => { x with
      teEdges := now s :: x.teEdges.filter fun e => decide (now s < e + x.quiet.teOfs + x.quiet.teLen)
      queued := x.queued.map (edgeSeen (now s)) } := by
  have front : (if (headOf s h).pushing then (headOf s h).push else (headOf s h).push.map (edgeSeen (now s))) = (headOf s h).push := by
    split
    · rfl
    · next idle =>
      cases push : (headOf s h).push with
      | none => rfl
      | some p =>
        obtain ⟨early, -⟩ := (waits.resolve_left idle) p push
        exact congrArg some (if_neg (Nat.not_le.2 early))
  have noted := edgeNoted_head s h
  rw [front] at noted
  have unready : ¬ pushReady (edgeNoted s h) h = true := by
    rw [pushReady_iff (by rwa [noted]) command, noted]
    rintro ⟨idle, p, push, edge⟩
    obtain ⟨-, fresh⟩ := (waits.resolve_left (by simpa using idle)) p push
    exact absurd edge (by simp [fresh])
  rw [teEdgeOf_active hc command active, if_neg unready]
  unfold edgeNoted modHead
  dsimp only
  rw [front]

end Edge

/-! ### What follows a push (09 R418, R419) -/

/-- What follows the last push that waits: none is at the front. -/
theorem afterPush_none {s : State} {h : Nat} (none' : (headOf s h).queued = []) :
    headOf (afterPush s h) h = { headOf s h with pushing := false, push := none, queued := [], sent := 0, pixels := [] } := by
  unfold afterPush
  dsimp only
  generalize hu : modHead s h _ = u
  have ended : headOf u h = { headOf s h with pushing := false, push := none, queued := [], sent := 0, pixels := [] } := by
    rw [← hu, headOf_modHead_same, none']
    rfl
  rw [if_neg (by unfold pushReady; rw [ended]; simp), ended]

/-- The next push is at the front, and has started where its edge has come. -/
theorem afterPush_next {s : State} {h : Nat} {c : HeadCfg} (hc : (headOf s h).cfg = some c) (command : c.kind = .command) {q : Push}
    {l : List Push} (next : (headOf s h).queued = q :: l) :
    let hd := headOf (afterPush s h) h
    hd.queued = l ∧ hd.pushing = q.edge ∧ hd.push = some q ∧ hd.teMissed = (headOf s h).teMissed := by
  unfold afterPush
  dsimp only
  generalize hu : modHead s h _ = u
  have ended : headOf u h = { headOf s h with pushing := false, push := some q, queued := l, sent := 0, pixels := [] } := by
    rw [← hu, headOf_modHead_same, next]
    rfl
  have ready : pushReady u h = true ↔ q.edge = true := by
    rw [pushReady_iff (by rwa [ended]) command, ended]
    simp
  split
  · next starts =>
    rw [startPush_head (by rw [ended]), ended]
    exact ⟨rfl, (ready.1 starts).symm, rfl, rfl⟩
  · next waits =>
    rw [ended]
    exact ⟨rfl, (Bool.eq_false_iff.2 fun edge => waits (ready.2 edge)).symm, rfl, rfl⟩

/-! ### A missed edge (09 R419) -/

/-- A push that is counted as missed leaves the head's pushes as they were. -/
theorem countMissed_head (s : State) (h : Nat) (p : Push) :
    headOf (countMissed s h p) h = { headOf s h with teMissed := min 0xFFFFFFFF ((headOf s h).teMissed + 1) } := by
  have counted : headOf (raise (modHead (losePush s h p) h fun hd => { hd with teMissed := min 0xFFFFFFFF (hd.teMissed + 1) })
      (srcHead h 2) 0) h = { headOf s h with teMissed := min 0xFFFFFFFF ((headOf s h).teMissed + 1) } :=
    headOf_modHead_same (losePush s h p) h fun hd => { hd with teMissed := min 0xFFFFFFFF (hd.teMissed + 1) }
  unfold countMissed
  dsimp only
  split
  · exact counted
  · exact (headOf_of_same (same_assert _ _ _ _ (by decide) same_refl) h).trans counted

theorem countMissed_event (s : State) (h : Nat) (p : Push) : (evSrc (countMissed s h p) (srcHead h 2)).cause.testBit 0 = true := by
  unfold countMissed
  dsimp only
  split
  · exact raise_sets ..
  · exact assert_keeps_cause _ _ _ _ _ _ (raise_sets ..)

/-- A push of a queue that leaves it makes it shorter by one. -/
theorem dropQueued_length {c : HeadCfg} {dsc : Option Dsc} {n : Nat} {l k : List Push} (mem : ∃ p ∈ l, p.number = n)
    (dropped : dropQueued c dsc n l = some k) : k.length < l.length := by
  induction l generalizing k with
  | nil => simp [dropQueued] at dropped
  | cons p l ih =>
    cases l with
    | nil =>
      have own : p.number = n := by simpa using mem
      simp [dropQueued, own] at dropped
    | cons q l =>
      by_cases own : p.number = n
      · rw [dropQueued, if_pos own] at dropped
        cases dropped
        simp
      · rw [dropQueued, if_neg own] at dropped
        obtain ⟨k', rest, rfl⟩ := Option.map_eq_some_iff.1 dropped
        have shorter := ih (by simpa [own] using mem) rest
        simpa using shorter

section Missed

variable {s : State} {h : Nat}

theorem teMissedDue_iff : teMissedDue s h = true ↔ ((headOf s h).cfg.getD {}).kind = .command ∧
    ∃ p, (if (headOf s h).pushing = true then p ∈ (headOf s h).queued else (headOf s h).push = some p) ∧
      waitedOut s ((headOf s h).cfg.getD {}) p = true := by
  unfold teMissedDue
  dsimp only
  cases (headOf s h).pushing <;> cases (headOf s h).push <;> simp

theorem teMissedOf_idle (idle : teMissedDue s h = false) : teMissedOf s h = s := if_pos (by simp [idle])

variable (due : teMissedDue s h = true)
include due

/-- A push missed behind the one in progress is counted and leaves the queue; its damage is not lost. -/
theorem teMissedOf_behind (busy : (headOf s h).pushing = true) : ∃ k rs, k.length < (headOf s h).queued.length ∧
    headOf (teMissedOf s h) h = { headOf s h with
      teMissed := min 0xFFFFFFFF ((headOf s h).teMissed + 1), queued := k, carried := (headOf s h).carried ++ rs } ∧
    (evSrc (teMissedOf s h) (srcHead h 2)).cause.testBit 0 = true := by
  obtain ⟨-, x, mem, late⟩ := teMissedDue_iff.1 due
  rw [if_pos busy] at mem
  obtain ⟨p, found⟩ := Option.isSome_iff_exists.1 (List.find?_isSome.2 ⟨x, mem, late⟩)
  have own := List.mem_of_find?_eq_some found
  unfold teMissedOf
  dsimp only
  rw [if_neg (by simp [due]), if_pos busy, found]
  dsimp only
  rw [headOf_modHead_same, countMissed_head]
  dsimp only
  split
  · next k dropped =>
    exact ⟨k, [], dropQueued_length ⟨p, own, rfl⟩ dropped, by rw [List.append_nil], countMissed_event s h p⟩
  · refine ⟨_, p.damage, ?_, rfl, countMissed_event s h p⟩
    exact List.length_filter_lt_length_iff_exists.2 ⟨p, own, by simp⟩

/-- The push at the front goes, its damage into the next or into the one to come. -/
theorem teMissedOf_front (idle : (headOf s h).pushing = false) {p : Push} (front : (headOf s h).push = some p) :
    teMissedOf s h = afterPush (carryOn (countMissed s h p) h p.damage) h := by
  unfold teMissedOf
  dsimp only
  rw [if_neg (by simp [due]), if_neg (by simp [idle]), front]

theorem teMissedOf_event : (evSrc (teMissedOf s h) (srcHead h 2)).cause.testBit 0 = true := by
  cases busy : (headOf s h).pushing with
  | true =>
    obtain ⟨-, -, -, -, event⟩ := teMissedOf_behind due busy
    exact event
  | false =>
    obtain ⟨-, p, front, -⟩ := teMissedDue_iff.1 due
    rw [if_neg (by simp [busy])] at front
    rw [teMissedOf_front due busy front,
      evSrc_of_ev ((same_afterPush _ h (by decide) (same_carryOn _ h _ (ps := 0x40) (by decide) same_refl)).get .ev (by decide))]
    exact countMissed_event s h p

/-- Where no further push is latched none is at the front, and the damage waits for the push to come. -/
theorem teMissedOf_alone (idle : (headOf s h).pushing = false) {p : Push} (front : (headOf s h).push = some p)
    (alone : (headOf s h).queued = []) :
    let hd := headOf (teMissedOf s h) h
    hd.teMissed = min 0xFFFFFFFF ((headOf s h).teMissed + 1) ∧ hd.push = none ∧ hd.pushing = false ∧
      hd.carried = (headOf s h).carried ++ p.damage := by
  have carried : headOf (carryOn (countMissed s h p) h p.damage) h = { headOf s h with
      teMissed := min 0xFFFFFFFF ((headOf s h).teMissed + 1), carried := (headOf s h).carried ++ p.damage } := by
    unfold carryOn
    rw [headOf_modHead_same, countMissed_head]
    dsimp only
    rw [alone]
  rw [teMissedOf_front due idle front, afterPush_none (by rwa [carried]), carried]
  exact ⟨rfl, rfl, rfl, rfl⟩

/-- Else the next push is at the front, with the damage. -/
theorem teMissedOf_next (idle : (headOf s h).pushing = false) {p : Push} (front : (headOf s h).push = some p) {q : Push} {l : List Push}
    (next : (headOf s h).queued = q :: l) :
    let hd := headOf (teMissedOf s h) h
    hd.teMissed = min 0xFFFFFFFF ((headOf s h).teMissed + 1) ∧ hd.queued = l ∧ hd.pushing = q.edge ∧
      ∃ x, hd.push = some x ∧ x.number = q.number := by
  obtain ⟨command, -⟩ := teMissedDue_iff.1 due
  obtain ⟨c, hc⟩ : ∃ c, (headOf s h).cfg = some c := by
    cases hc : (headOf s h).cfg with
    | none => rw [hc] at command; cases command
    | some c => exact ⟨c, rfl⟩
  rw [hc] at command
  generalize hu : carryOn (countMissed s h p) h p.damage = u
  have carried : ∃ rs, headOf u h = { headOf s h with
      teMissed := min 0xFFFFFFFF ((headOf s h).teMissed + 1), queued := { q with damage := rs } :: l } := by
    rw [← hu]
    unfold carryOn
    rw [headOf_modHead_same, countMissed_head]
    dsimp only
    rw [next]
    exact ⟨_, rfl⟩
  obtain ⟨rs, carried⟩ := carried
  obtain ⟨queued, pushing, push, missed⟩ := afterPush_next (s := u) (h := h) (by rwa [carried]) command (by rw [carried])
  rw [teMissedOf_front due idle front, hu]
  exact ⟨missed.trans (by rw [carried]), queued, pushing, _, push, rfl⟩

theorem teMissedOf_count : (headOf (teMissedOf s h) h).teMissed = min 0xFFFFFFFF ((headOf s h).teMissed + 1) := by
  cases busy : (headOf s h).pushing with
  | true =>
    obtain ⟨k, rs, -, counted, -⟩ := teMissedOf_behind due busy
    rw [counted]
  | false =>
    obtain ⟨-, p, front, -⟩ := teMissedDue_iff.1 due
    rw [if_neg (by simp [busy])] at front
    cases queue : (headOf s h).queued with
    | nil => exact (teMissedOf_alone due busy front queue).1
    | cons q l => exact (teMissedOf_next due busy front queue).1

end Missed

/-! ### The end of a push (10 R462) -/

theorem headOf_endPoison (s : State) (h g : Nat) : headOf (endPoison s h) g = headOf s g :=
  headOf_foldl (f := fun s i => raise (modSlot s i fun v => { v with poisonSeen := false, poisoned := min 0xFFFFFFFF (v.poisoned + 1) })
    (srcLayer i) 1) (fun _ _ => rfl) _ s

/-- A head without a push in progress is left without one. -/
theorem stopAtEnd_idle {s : State} {h : Nat} (push : (headOf s h).push = none) (pushing : (headOf s h).pushing = false)
    (pixels : (headOf s h).pixels = []) :
    let hd := headOf (stopAtEnd s h) h
    hd.push = none ∧ hd.pushing = false ∧ hd.pixels = [] := by
  have stopped : (headOf (stopHead s h) h).push = none ∧ (headOf (stopHead s h) h).pushing = false ∧
      (headOf (stopHead s h) h).pixels = [] := by
    unfold stopHead
    dsimp only
    rw [headOf_modHead_same]
    exact ⟨rfl, rfl, rfl⟩
  unfold stopAtEnd
  dsimp only
  split
  · exact ⟨push, pushing, pixels⟩
  split
  · rwa [headOf_finishDone]
  · exact stopped

theorem pushEndOf_ends {s : State} {h : Nat} (sent : pushSent s h = true) (alone : (headOf s h).queued = []) :
    let hd := headOf (pushEndOf s h) h
    hd.push = none ∧ hd.pushing = false ∧ hd.pixels = [] := by
  obtain ⟨p, front⟩ : ∃ p, (headOf s h).push = some p := by
    cases push : (headOf s h).push with
    | none => simp [pushSent, push] at sent
    | some p => exact ⟨p, rfl⟩
  obtain ⟨px, ended⟩ := headOf_endLine s h
  unfold pushEndOf
  rw [front]
  dsimp only
  rw [if_neg (by simp [sent])]
  generalize hu : endPoison _ h = u
  have compared : headOf u h = { headOf s h with pixels := px } := by
    rw [← hu, headOf_endPoison]
    exact ended
  have after := afterPush_none (s := u) (h := h) (by rwa [compared])
  exact stopAtEnd_idle (by rw [after]) (by rw [after]) (by rw [after])

theorem pushEndOf_idle {s : State} {h : Nat} (unsent : pushSent s h = false) : pushEndOf s h = s := by
  unfold pushEndOf
  split
  · rfl
  · exact if_pos (by simp [unsent])

/-- Settles O44: the laws of the edge, of a missed one and of the end of a push above, clause by clause. -/
theorem pushesAndTheTearingEdge : Obligations.PushesAndTheTearingEdge := by
  unfold Obligations.PushesAndTheTearingEdge
  intro s h
  refine ⟨fun c p b hc command front idle latched active => ⟨_, rfl, teEdgeOf_starts hc command active front idle latched⟩,
    fun c b hc command active waits => ⟨_, rfl, teEdgeOf_notes hc command active waits⟩,
    fun c b hc other => ⟨_, rfl, teEdgeOf_other hc other⟩, fun due => ⟨_, rfl, ?missed⟩,
    fun c hc command waits => ⟨_, rfl, teMissedOf_idle (Bool.eq_false_iff.2 fun due => ?early)⟩,
    fun sent alone => ⟨_, rfl, pushEndOf_ends sent alone⟩, fun unsent => ⟨_, rfl, pushEndOf_idle unsent⟩⟩
  case missed =>
    refine ⟨teMissedOf_count due, teMissedOf_event due, fun busy => ?_, fun p idle front => ⟨fun alone => ?_, fun q l next => ?_⟩⟩
    · obtain ⟨k, rs, shorter, counted, -⟩ := teMissedOf_behind due busy
      rw [counted]
      exact ⟨busy, rfl, shorter⟩
    · exact (teMissedOf_alone due idle front alone).2
    · exact (teMissedOf_next due idle front next).2
  case early =>
    obtain ⟨-, p, mem, late⟩ := teMissedDue_iff.1 due
    rw [hc] at late
    have waited := waits p mem
    simp only [waitedOut, Option.getD_some, Bool.and_eq_true, Bool.not_eq_true', decide_eq_true_eq] at late
    obtain ⟨unseen, past⟩ := late
    simp only [unseen, Bool.false_eq_true, false_or] at waited
    omega

end Sys2Proof.Machine
end

section
/-! PROOFS. The link of a head (O45): its loss, its training, and the sink's answers to HEAD_LINK. -/

namespace Sys2Proof.Machine

/-! ### A lost link (09 R443, R870) -/

theorem beginTraining_head (s : State) (h : Nat) : headOf (beginTraining s h) h =
    { headOf s h with training := true, attempts := 1, attemptDue := some (s.tl.tick + 40000000) } := headOf_modHead_same ..

theorem linkLostOf_loses {s : State} {h : Nat} (up : (headOf s h).linkUp = true) (on : (headOf s h).state ≠ .disabled) :
    let t := linkLostOf s h
    headOf t h = { headOf s h with
      training := true, attempts := 1, attemptDue := some (s.tl.tick + 40000000), linkUp := false, lost := true,
      retrains := min 0xFFFFFFFF ((headOf s h).retrains + 1) } ∧
    (evSrc t (srcHead h 3)).cause.testBit 0 = true ∧ (lgSrc t 25).on = true := by
  unfold linkLostOf
  rw [if_neg (by simp [up, on])]
  dsimp only
  refine ⟨?_, assert_keeps_cause _ _ _ _ _ _ (raise_sets ..), assert_sets _ _ _ _ (by decide)⟩
  rw [headOf_of_same (same_assert _ _ _ _ (by decide) (same_raise _ _ _ (by decide) same_refl)), headOf_modHead_same, beginTraining_head]

theorem linkLostOf_idle {s : State} {h : Nat} (idle : (headOf s h).linkUp = false ∨ (headOf s h).state = .disabled) :
    linkLostOf s h = s := if_pos (by simpa using idle)

theorem hpdOf_restarts {s : State} {h : Nat} {c : HeadCfg} (hc : (headOf s h).cfg = some c) (dp : isDsi c.port = false)
    (down : (headOf s h).linkUp = false) (on : (headOf s h).state ≠ .disabled) : hpdOf s h = restartTraining s h := by
  unfold hpdOf
  dsimp only
  rw [hc]
  exact if_pos (by simp [dp, down, on])

theorem hpdOf_idle {s : State} {h : Nat} (idle : (headOf s h).linkUp = true ∨ (headOf s h).state = .disabled ∨
    ∃ c, (headOf s h).cfg = some c ∧ isDsi c.port = true) : hpdOf s h = s := by
  refine if_neg ?_
  rcases idle with up | off | ⟨c, hc, dsi⟩
  · simp [up]
  · simp [off]
  · simp [hc, dsi]

/-! ### Attempts at training (09 R443, R445) -/

theorem retrainOf_attempts {s : State} {h : Nat} (due : attemptIsDue s h = true) :
    let hd := headOf (retrainOf s h) h
    hd.training = true ∧ hd.attempts = (headOf s h).attempts + 1 ∧
      hd.attemptDue = if (headOf s h).attempts < 2 then some (now s + 40000000) else none := by
  unfold retrainOf
  rw [if_neg (by simp [due]), headOf_modHead_same]
  refine ⟨rfl, rfl, ?_⟩
  by_cases third : (headOf s h).attempts < 2
  · rw [if_pos third]
    exact if_pos (show (headOf s h).attempts + 1 < 3 by omega)
  · rw [if_neg third]
    exact if_neg (show ¬(headOf s h).attempts + 1 < 3 by omega)

theorem retrainOf_idle {s : State} {h : Nat} (idle : attemptIsDue s h = false) : retrainOf s h = s := if_pos (by simp [idle])

theorem trainingDoneOf_idle {s : State} {h : Nat} (idle : (headOf s h).training = false) (b : Bool) : trainingDoneOf s h b = s :=
  if_pos (by simp [idle])

/-- What a head's link does: whether it is up or being trained, and the attempts begun. -/
structure LinkState where
  up : Bool
  training : Bool
  attempts : Nat

def headLink (hd : Head) : LinkState := { up := hd.linkUp, training := hd.training, attempts := hd.attempts }

def linkOf (s : State) (h : Nat) : LinkState := headLink (headOf s h)

theorem linkOf_modHead (s : State) (h : Nat) (f : Head → Head) : linkOf (modHead s h f) h = headLink (f (headOf s h)) :=
  congrArg headLink (headOf_modHead_same s h f)

/-- A change of a head's other fields. -/
theorem linkOf_modHead_kept {s u : State} {h : Nat} {f : Head → Head} (e : linkOf s h = linkOf u h)
    (hf : ∀ x, headLink (f x) = headLink x := by exact fun _ => rfl) : linkOf (modHead s h f) h = linkOf u h :=
  (linkOf_modHead s h f).trans ((hf _).trans e)

theorem linkOf_setStager (s : State) (g : Nat) (v : Stager) (h : Nat) : linkOf (setStager s g v) h = linkOf s h := rfl

theorem linkOf_foldl {f : State → Flight → State} {h : Nat} (hf : ∀ t x, headOf (f t x) h = headOf t h) (l : List Flight) (s : State) :
    linkOf (l.foldl f s) h = linkOf s h := congrArg headLink (headOf_foldl hf l s)

/-- A start that is scheduled leaves the link as it is. -/
theorem linkOf_scheduleStart (s : State) (h after : Nat) : linkOf (scheduleStart s h after) h = linkOf s h := by
  unfold scheduleStart
  split
  · rfl
  · exact linkOf_modHead_kept ((linkOf_setStager ..).trans (linkOf_modHead_kept rfl))

/-- A link that is trained is up, and one that was lost sets its event. -/
theorem trainingDoneOf_trained {s : State} {h : Nat} (training : (headOf s h).training = true) :
    let t := trainingDoneOf s h true
    linkOf t h = { up := true, training := false, attempts := 0 } ∧
      ((headOf s h).lost = true → (evSrc t (srcHead h 4)).cause.testBit 0 = true) := by
  unfold trainingDoneOf
  dsimp only
  rw [if_neg (by simp [training]), if_pos rfl]
  generalize hw : modHead s h _ = w
  have up : linkOf w h = { up := true, training := false, attempts := 0 } := by
    rw [← hw]
    exact linkOf_modHead ..
  generalize hv : (if (headOf s h).lost then raise w (srcHead h 4) 0 else w) = v
  have noted : linkOf v h = linkOf w h ∧ ((headOf s h).lost = true → (evSrc v (srcHead h 4)).cause.testBit 0 = true) := by
    rw [← hv]
    split
    · exact ⟨rfl, fun _ => raise_sets ..⟩
    · next kept => exact ⟨rfl, fun lost => absurd lost kept⟩
  generalize hu : List.foldl _ v _ = u
  have ended : linkOf u h = linkOf v h ∧ u.ev = v.ev := by
    rw [← hu]
    exact ⟨linkOf_foldl (fun t f => headOf_finishDone t f 0 h) _ v,
      fold_keeps (P := fun t => t.ev = v.ev) (fun t f e => (finish_ev ..).trans e) rfl⟩
  have done : ∀ t, linkOf t h = linkOf u h → t.ev = u.ev → linkOf t h = { up := true, training := false, attempts := 0 } ∧
      ((headOf s h).lost = true → (evSrc t (srcHead h 4)).cause.testBit 0 = true) := fun t link ev =>
    ⟨link.trans (ended.1.trans (noted.1.trans up)), fun lost => by rw [evSrc_of_ev (ev.trans ended.2)]; exact noted.2 lost⟩
  have starts := fun after => done (scheduleStart u h after) (linkOf_scheduleStart u h after)
    ((same_scheduleStart u h after (ps := 0x40) (by decide) same_refl).get .ev (by decide))
  have stays := done u rfl rfl
  split <;> split
  · exact starts _
  · exact stays
  · exact starts _
  · exact stays

/-- A training that fails leaves the link as it was. -/
theorem trainingDoneOf_failed {s : State} {h : Nat} (training : (headOf s h).training = true) :
    ∃ n, linkOf (trainingDoneOf s h false) h = { up := (headOf s h).linkUp, training := false, attempts := n } := by
  unfold trainingDoneOf
  dsimp only
  rw [if_neg (by simp [training]), if_neg (by decide)]
  generalize hw : modHead s h _ = w
  have failed : linkOf w h = { up := (headOf s h).linkUp, training := false, attempts := (headOf s h).attempts } := by
    rw [← hw]
    exact linkOf_modHead ..
  generalize hu : (if (headOf s h).attempts ≥ 3 then _ else w) = u
  have ended : linkOf u h = linkOf w h := by
    rw [← hu]
    split
    · exact linkOf_foldl (fun t f => headOf_finish t f _ h) _ w
    · rfl
  split
  · split
    · refine ⟨0, (congrArg headLink ((headOf_finish ..).trans (headOf_of_same (same_assert _ _ _ _ (by decide) same_refl) h))).trans ?_⟩
      exact (linkOf_modHead u h _).trans (congrArg (fun l : LinkState => { l with attempts := 0 }) (ended.trans failed))
    · exact ⟨_, ended.trans failed⟩
  · exact ⟨_, ended.trans failed⟩

/-! ### The sink's answers to HEAD_LINK (09 R451) -/

/-- A HEAD_LINK that waits for the answer of its head's sink. -/
def awaitsSink (h : Nat) (f : Flight) : Bool :=
  f.op == 0x48 && decide (f.phase = .unit) && decide (dget f.desc 17 1 ≠ 0) && f.aux.head? == some h

theorem linkReplyOf_idle {s : State} {h : Nat} (none' : flightBy s (awaitsSink h) = none) (r : Option (List Byte)) :
    linkReplyOf s h r = s := by
  unfold awaitsSink at none'
  unfold linkReplyOf
  rw [none']

section Reply

variable {s : State} {h : Nat} {f : Flight} (waits : flightBy s (awaitsSink h) = some f)
include waits

theorem linkReplyOf_refused : linkReplyOf s h none = finish s f (refuse 13 0x33 0 25) := by
  unfold awaitsSink at waits
  unfold linkReplyOf
  rw [waits]

theorem linkReplyOf_read (reads : dget f.desc 17 1 = 1 ∨ dget f.desc 17 1 = 4) (bs : List Byte) : linkReplyOf s h (some bs) =
    finishDone (hostWrite s (dget f.desc 24 8) ((bs ++ zeros 16).take (dget f.desc 18 1) ++ zeros (64 - dget f.desc 18 1))) f := by
  unfold awaitsSink at waits
  unfold linkReplyOf
  rw [waits]
  dsimp only
  rw [if_pos (by simpa using reads)]

theorem linkReplyOf_write (one : dget f.desc 17 1 ≠ 1) (four : dget f.desc 17 1 ≠ 4) (bs : List Byte) :
    linkReplyOf s h (some bs) = finishDone s f := by
  unfold awaitsSink at waits
  unfold linkReplyOf
  rw [waits]
  dsimp only
  rw [if_neg (by simp [one, four])]

end Reply

/-- Settles O45: each clause is one case of the operation of its command. -/
theorem linkEvents : Obligations.LinkEvents := by
  unfold Obligations.LinkEvents
  intro s h
  refine ⟨fun up on => ⟨_, rfl, ?lost⟩, fun idle => ⟨_, rfl, linkLostOf_idle idle⟩, fun i hpd => ?hpd,
    fun due => ⟨_, rfl, retrainOf_attempts due⟩, fun idle => ⟨_, rfl, retrainOf_idle idle⟩, fun training => ⟨_, rfl, ?trained⟩,
    fun training => ⟨_, rfl, ?failed⟩, fun b idle => ⟨_, rfl, trainingDoneOf_idle idle b⟩, fun f waits => ⟨fun bs reads => ⟨_, rfl, ?_⟩,
      fun bs one four => ⟨_, rfl, linkReplyOf_write waits one four bs⟩, ⟨_, rfl, linkReplyOf_refused waits⟩⟩,
    fun r none' => ⟨_, rfl, linkReplyOf_idle ?_ r⟩⟩
  case lost =>
    obtain ⟨link, event, line⟩ := linkLostOf_loses up on
    rw [link]
    exact ⟨rfl, rfl, rfl, rfl, rfl, event, line⟩
  case hpd =>
    simp only [List.mem_cons, List.not_mem_nil, or_false] at hpd
    rcases hpd with rfl | rfl <;>
      exact ⟨fun c hc dp down on => ⟨_, rfl, hpdOf_restarts hc dp down on⟩, fun idle => ⟨_, rfl, hpdOf_idle idle⟩⟩
  case trained =>
    obtain ⟨link, event⟩ := trainingDoneOf_trained training
    exact ⟨congrArg LinkState.up link, congrArg LinkState.training link, congrArg LinkState.attempts link, event⟩
  case failed =>
    obtain ⟨n, link⟩ := trainingDoneOf_failed training
    exact ⟨congrArg LinkState.up link, congrArg LinkState.training link⟩
  · exact linkReplyOf_read waits reads bs
  · refine List.find?_eq_none.2 fun f mem => ?_
    simp only [awaitsSink, Bool.and_eq_true, beq_iff_eq, decide_eq_true_eq]
    rintro ⟨⟨⟨op, unit⟩, moves⟩, own⟩
    rcases none' f mem op with elsewhere | still | other
    · exact elsewhere unit
    · exact moves still
    · exact other own

end Sys2Proof.Machine
end

section
/-! PROOFS. What some commands leave once their work begins (O60): each does one thing to one part of the state and ends, and
neither its ACCEPT nor its final completion touches that part. -/

namespace Sys2Proof.Machine

/-! ### A command that ends as its work begins -/

/-- The state u is s as the ACCEPT of a command leaves it: the parts that a completion does not write are the same, and the
same contexts are being destroyed. -/
structure AcceptedFrom (s u : State) : Prop where
  same : Same 0x1DFFF7E3 s u
  dying : ∀ c, dying u c = dying s c

theorem dying_accept {s : State} {f : Flight} (only : ∀ g ∈ s.flights, g.id = f.id → g = f) (i : Option Nat) (v c : Nat) :
    dying (accept s f i v) c = dying s c := by
  have each : ∀ g ∈ s.flights, ((fun g => g.op == 0x61 && accepted g && g.aux.head? == some c) ∘
      fun g => if g.id = f.id then { f with slots := f.slots - 1 } else g) g =
        (g.op == 0x61 && accepted g && g.aux.head? == some c) := by
    intro g mem
    dsimp only [Function.comp]
    split
    · next e => rw [only g mem e]; rfl
    · rfl
  unfold dying
  rw [accept_flights, List.any_map, Bool.eq_iff_iff, List.any_eq_true, List.any_eq_true]
  exact exists_congr fun g => and_congr_right fun mem => by rw [each g mem]

theorem afterAccept_acceptedFrom {s : State} {f : Flight} (only : ∀ g ∈ s.flights, g.id = f.id → g = f) :
    AcceptedFrom s (afterAccept s f) := by
  unfold afterAccept
  split
  · exact ⟨same_refl, fun _ => rfl⟩
  · exact ⟨same_accepted _ _ _ _ (by decide) same_refl, dying_accept only _ _⟩

/-- An ACCEPT leaves of its flight all but the slots reserved for it. -/
theorem flightAfter_slots {s : State} {f : Flight} (mem : f ∈ s.flights) : ∃ k, flightAfter s f = { f with slots := k } := by
  unfold flightAfter afterAccept
  by_cases done : f.verdict.status = 0
  · exact ⟨f.slots, if_pos done⟩
  · rw [if_neg done, if_neg done, accept_finds _ _ mem]
    exact ⟨_, rfl⟩

section Begins

variable {op : Nat} {start : State → Flight → State} (starts : (effects.find? fun e => e.1 == op) = some (op, start))
  (other : op ≠ 0x13) (plain : ∀ d, hostData op d = none) {s : State} {f : Flight} (due : FirstDue s f)
  (only : ∀ g ∈ s.flights, g.id = f.id → g = f) (hf : f.op = op)
include starts other plain due only hf

/-- A command that names no host data begins its work in the state that its ACCEPT leaves. -/
theorem work_begins : ∃ u k, AcceptedFrom s u ∧
    exec (.firstCompletion f.src) s = .next (withData (start u { f with slots := k }) { f with slots := k }) := by
  subst hf
  have flight := firstFlight_plain other (plain f.desc) (s := s)
  obtain ⟨-, -, mem⟩ := flightAt_some due.1
  have before : firstState s f = s := by
    unfold firstState
    rw [flight, beforeFirst_other other, setFlight_self only]
  have accepted : AcceptedFrom s (acceptedState s f) := by
    unfold acceptedState
    rw [flight, before]
    exact afterAccept_acceptedFrom only
  obtain ⟨k, slots⟩ : ∃ k, acceptedFlight s f = { f with slots := k } := by
    unfold acceptedFlight
    rw [flight, before]
    exact flightAfter_slots mem
  obtain ⟨t, next, rfl⟩ := firstCompletion_begins starts rfl due
  exact ⟨_, k, accepted, by rw [next, slots]⟩

/-- Where its work is a change of the state and its own end, it leaves what it has changed and is no longer in flight. -/
theorem gives_ended (single : op ≠ 0x63) {p : State → Prop}
    (work : ∀ u k, AcceptedFrom s u → ∃ w v, start u { f with slots := k } = finish w { f with slots := k } v ∧
      ∀ t, Same 0x1DFFF7E3 w t → p t) :
    Gives (.firstCompletion f.src) s fun t => p t ∧ ∀ g ∈ t.flights, g.id ≠ f.id := by
  obtain ⟨u, k, accepted, next⟩ := work_begins starts other plain due only hf
  obtain ⟨w, v, ends, leaves⟩ := work u k accepted
  refine ⟨_, next, ?_⟩
  rw [ends, withData_finished]
  exact ⟨leaves _ (same_finish_other w (f := { f with slots := k }) (fun job => single (hf.symm.trans job)) v), finish_removes w _ v⟩

end Begins

/-! ### What a source's name stands for -/

/-- The name of a source stands for the same physical source after an ACCEPT: the objects' owners are the same. -/
theorem AcceptedFrom.sourceOf {s u : State} (h : AcceptedFrom s u) (t name : Nat) : sourceOf u t name = sourceOf s t name := by
  have chans : chanNo u = chanNo s := by unfold chanNo chanOf; rw [show u.dma = s.dma from h.same.get .dma (by decide)]
  have haps : hapNo u = hapNo s := by unfold hapNo hapOf; rw [show u.haptic = s.haptic from h.same.get .haptic (by decide)]
  have slots : slotNo u = slotNo s := by unfold slotNo slotOf; rw [show u.comp = s.comp from h.same.get .comp (by decide)]
  have units : assayNo u = assayNo s := by unfold assayNo assayOf; rw [show u.au = s.au from h.same.get .au (by decide)]
  have streams : streamNo u = streamNo s := by
    unfold streamNo streamOf
    rw [show u.audio = s.audio from h.same.get .audio (by decide)]
  have ctxs : ctxNo u = ctxNo s := by
    unfold ctxNo ctxOf
    rw [show u.gpu = s.gpu from h.same.get .gpu (by decide), funext h.dying]
  unfold Machine.sourceOf
  rw [chans, haps, slots, units, streams, ctxs]

/-! ### The work of each command -/

/-- Clearing a bit clears it. -/
theorem testBit_clrBit_same (v b : Nat) : (clrBit v b).testBit b = false := by
  unfold clrBit
  split
  · next set =>
    have less : (v - 2 ^ b) / 2 ^ b = v / 2 ^ b - 1 := by simpa using Nat.sub_mul_div v (2 ^ b) 1
    rw [Nat.testBit_eq_decide_div_mod_eq] at set ⊢
    simp only [decide_eq_true_eq, decide_eq_false_iff_not, less] at set ⊢
    omega
  · next clear => simpa using clear

theorem startEventMask_one {s : State} {f : Flight} {n : Nat} (one : dbit f.desc 18 1 = false)
    (named : sourceOf s f.src.fn (dget f.desc 16 2) = some n) :
    startEventMask s f = finishDone (setEvSrc s n { evSrc s n with mask := dbit f.desc 18 0 }) f := by
  unfold startEventMask
  simp [one, named]

/-- A source with its soft pending bit set, or with that bit and its causes cleared. -/
def softPended (s : State) (d : Descriptor) (v : EvSrc) : EvSrc :=
  if dget d 18 1 = 0 then { v with soft := true } else { clearCauses s v 0xFFFF with soft := false }

theorem startEventPendSet_named {s : State} {f : Flight} {n : Nat} (named : sourceOf s f.src.fn (dget f.desc 16 2) = some n) :
    startEventPendSet s f = finishDone (setEvSrc s n (softPended s f.desc (evSrc s n))) f := by
  unfold startEventPendSet softPended
  rw [named]

theorem softPended_sets {d : Descriptor} (set : dget d 18 1 = 0) (s : State) (v : EvSrc) :
    (softPended s d v).soft = true ∧ (softPended s d v).cause = v.cause := by
  unfold softPended
  rw [if_pos set]
  exact ⟨rfl, rfl⟩

theorem softPended_clears {d : Descriptor} (clear : dget d 18 1 ≠ 0) (s : State) (v : EvSrc) :
    (softPended s d v).soft = false ∧
      (softPended s d v).cause = w1c v.cause (maskOff 0xFFFF (if v.againAt = now s then v.again else 0)) := by
  unfold softPended
  rw [if_neg clear]
  exact ⟨rfl, rfl⟩

/-- A function's global disable, set or cleared. -/
theorem testBit_setClr (c : Bool) (v b : Nat) : (if c then setBit v b else clrBit v b).testBit b = c := by
  cases c
  · exact testBit_clrBit_same v b
  · simp [testBit_setBit]

/-- POWER_RETAIN writes the bits of the bays at or above the watermark (21 R833). -/
theorem writeRetain_host (s : State) (v b : Nat) (hb : b < 48) : (writeRetain s false v).sr.retain.testBit b =
    if 16 * b < s.sr.wm then s.sr.retain.testBit b else v.testBit b := by
  rw [writeRetain_testBit _ _ _ _ hb]
  by_cases below : 16 * b < s.sr.wm <;> simp [wardenBay, below]

theorem headOf_of_comp {s t : State} (h : t.comp = s.comp) (k : Nat) : headOf t k = headOf s k := by
  unfold headOf
  rw [h]

theorem hapOf_of_haptic {s t : State} (h : t.haptic = s.haptic) (c : Nat) : hapOf t c = hapOf s c := by
  unfold hapOf
  rw [h]

theorem lgClass_of_lg {s t : State} (h : t.lg = s.lg) (b : Nat) : lgClass t b = lgClass s b := by
  unfold lgClass
  rw [h]

/-! ### The injection of a fault (20 R802) -/

/-- No command of a number is in flight. -/
def NotInFlight (n : Nat) (s : State) : Prop := ∀ g ∈ s.flights, g.id ≠ n

section NotInFlight

variable {n : Nat} {s : State} (none' : NotInFlight n s)
include none'

theorem notInFlight_finish (f : Flight) (v : Verdict) : NotInFlight n (finish s f v) := by
  unfold NotInFlight
  rw [finish_flights]
  exact fun g mem => none' g (List.mem_filter.1 mem).1

/-- A flight replaced keeps its number. -/
theorem notInFlight_map {f k : Flight} (same : k.id = f.id) {t : State}
    (e : t.flights = s.flights.map fun g => if g.id = f.id then k else g) : NotInFlight n t := by
  unfold NotInFlight
  rw [e]
  intro x mem
  obtain ⟨g, old, rfl⟩ := List.mem_map.1 mem
  split
  · next own => rw [same, ← own]; exact none' g old
  · exact none' g old

theorem notInFlight_withdraw (f : Flight) (v : Verdict) : NotInFlight n (withdraw s f v) := by
  unfold withdraw
  split
  · exact notInFlight_finish none' f v
  split
  · split
    · exact none'
    · exact notInFlight_map none' (f := f) (k := { f with verdict := v }) rfl rfl
  split
  · exact notInFlight_finish none' f _
  split
  · exact notInFlight_finish (notInFlight_map none' (f := f) (k := { f with slots := f.slots - 1 }) rfl (accept_flights s f _ _)) _ v
  · exact notInFlight_finish none' f v

theorem notInFlight_halt (b : Nat) : NotInFlight n (halt s b) := by
  unfold halt
  refine fold_keeps (P := NotInFlight n) (fun t g kept => ?_) none'
  split
  · exact kept
  · exact notInFlight_withdraw kept g _

theorem notInFlight_assert (b a : Nat) (i : Bool) (hb : b < 40) : NotInFlight n (assert s b a i) := by
  obtain ⟨v, u, -, -, before, after⟩ := assert_cases s b a i hb
  have kept : NotInFlight n u := by rcases before with ⟨-, rfl⟩ | ⟨-, rfl⟩ <;> exact none'
  rcases after with ⟨-, e⟩ | ⟨-, e | ⟨l, e⟩⟩ <;> rw [e]
  · exact notInFlight_halt kept b
  · exact kept
  · exact kept

end NotInFlight

/-- Host data is used by a command in flight alone. -/
theorem withData_notInFlight {s : State} {f : Flight} (none' : NotInFlight f.id s) : withData s f = s := by
  have gone : (s.flights.find? fun g => g.id == f.id) = none := List.find?_eq_none.2 fun g mem => by simpa using none' g mem
  unfold withData
  rw [gone]

theorem gives_injected {s : State} {f : Flight} (due : FirstDue s f) (only : ∀ g ∈ s.flights, g.id = f.id → g = f)
    (hf : f.op = 0xF3) (line : dget f.desc 16 1 < 40) :
    Gives (.firstCompletion f.src) s fun t => (lgSrc t (dget f.desc 16 1)).on = true := by
  obtain ⟨u, k, -, next⟩ := work_begins (op := 0xF3) (start := startFaultInject) rfl (by decide) (fun _ => rfl) due only hf
  have none' : NotInFlight f.id (startFaultInject u { f with slots := k }) :=
    notInFlight_assert (s := finishDone u { f with slots := k }) (finish_removes u { f with slots := k } _) _ _ _ line
  rw [withData_notInFlight (f := { f with slots := k }) none'] at next
  exact ⟨_, next, assert_sets _ _ _ _ line⟩

/-- Settles O60: each command's work is one change of one part of the state, which its own completions leave alone. -/
theorem commandEffects : Obligations.CommandEffects := by
  unfold Obligations.CommandEffects
  intro s f due only
  dsimp only
  refine ⟨fun op one n named => ?mask, fun op n named => ?pend, fun op => ?disable, fun op c hc => ?underrun, fun op => ?haptic,
    fun op => ?powerdown, fun op => ?retain, fun op => ?wake, fun op => ?clear, fun op line => gives_injected due only op line⟩
  case mask =>
    refine gives_ended (start := startEventMask) rfl (by decide) (fun _ => rfl) due only op (by decide) fun u k accepted =>
      ⟨_, _, startEventMask_one one ((accepted.sourceOf ..).trans named), fun t same => ?_⟩
    rw [evSrc_of_ev (same.get .ev (by decide)), evSrc_setEvSrc_same, evSrc_of_ev (accepted.same.get .ev (by decide))]
    exact ⟨rfl, rfl⟩
  case pend =>
    refine gives_ended (start := startEventPendSet) rfl (by decide) (fun _ => rfl) due only op (by decide) fun u k accepted =>
      ⟨_, _, startEventPendSet_named ((accepted.sourceOf ..).trans named), fun t same => ?_⟩
    have tick : now u = now s := congrArg Timeline.tick (accepted.same.get .tl (by decide))
    rw [evSrc_of_ev (same.get .ev (by decide)), evSrc_setEvSrc_same, evSrc_of_ev (accepted.same.get .ev (by decide)), ← tick]
    exact ⟨fun set => softPended_sets set u _, fun clear => softPended_clears clear u _⟩
  case disable =>
    refine gives_ended (start := startEventGlobalDisable) rfl (by decide) (fun _ => rfl) due only op (by decide) fun u k accepted =>
      ⟨_, _, rfl, fun t same => ?_⟩
    rw [show t.ev = _ from same.get .ev (by decide)]
    exact testBit_setClr ..
  case underrun =>
    refine gives_ended (start := startHeadUnderrun) rfl (by decide) (fun _ => rfl) due only op (by decide) fun u k accepted =>
      ⟨_, _, rfl, fun t same => ?_⟩
    rw [headOf_of_comp (same.get .comp (by decide)), headOf_modHead_same, headOf_of_comp (accepted.same.get .comp (by decide)), hc]
    rfl
  case haptic =>
    refine gives_ended (start := startHapticConfig) rfl (by decide) (fun _ => rfl) due only op (by decide) fun u k accepted =>
      ⟨_, _, rfl, fun t same => ?_⟩
    rw [hapOf_of_haptic (same.get .haptic (by decide))]
    unfold configureHaptic
    rw [hapOf_modHap_same]
    exact ⟨rfl, rfl, rfl, rfl, rfl, rfl, rfl, rfl⟩
  case powerdown =>
    exact gives_ended (start := startMemPowerdown) rfl (by decide) (fun _ => rfl) due only op (by decide) fun u k accepted =>
      ⟨_, _, rfl, fun t same => congrArg Dram.pdIdle (same.get .dram (by decide))⟩
  case retain =>
    refine gives_ended (start := startPowerRetain) rfl (by decide) (fun _ => rfl) due only op (by decide) fun u k accepted =>
      ⟨_, _, rfl, fun t same b hb => ?_⟩
    have bays : u.sr = s.sr := accepted.same.get .sr (by decide)
    rw [show t.sr = _ from same.get .sr (by decide), writeRetain_host _ _ _ hb, bays]
  case wake =>
    refine gives_ended (start := startWakeConfig) rfl (by decide) (fun _ => rfl) due only op (by decide) fun u k accepted =>
      ⟨_, _, rfl, fun t same => ?_⟩
    rw [show t.pw = _ from same.get .pw (by decide)]
    exact ⟨rfl, rfl, rfl, rfl, rfl, rfl, rfl⟩
  case clear =>
    refine gives_ended (start := startLedgerClear) rfl (by decide) (fun _ => rfl) due only op (by decide) fun u k accepted =>
      ⟨(clearLedger u (dget f.desc 16 8)).2, _, rfl, fun t same b hb => ?_⟩
    have ledger : u.lg = s.lg := accepted.same.get .lg (by decide)
    have tick : now u = now s := congrArg Timeline.tick (accepted.same.get .tl (by decide))
    rw [lgSrc_of_lg (same.get .lg (by decide)), clearLedger_on _ _ _ hb, lgSrc_of_lg ledger, lgClass_of_lg ledger, tick]

end Sys2Proof.Machine
end

section
/-! PROOFS. What the traffic of a grove leaves alone (O46, O47): its reads and writes of both memories meet errors, whose lines may
bring a HALT, but they change no grove, nothing of a context but its jobs' outcomes, and without a HALT no command in flight. -/

namespace Sys2Proof.Machine

/-! ### The groves and contexts through the end of a command -/

/-- A context but for the outcomes of its jobs. -/
def unjudged (c : Context) : Context := { c with lastDone := 0, outcomes := [] }

/-- The groves of s stand in t, and its contexts but for the outcomes of their jobs. -/
structure GpuKept (s t : State) : Prop where
  groves : t.gpu.groves = s.gpu.groves
  contexts : ∀ c, unjudged (ctxOf t c) = unjudged (ctxOf s c)

namespace GpuKept

theorem of_gpu {s t : State} (h : t.gpu = s.gpu) : GpuKept s t := by
  refine ⟨congrArg Gpu.groves h, fun c => ?_⟩
  unfold ctxOf
  rw [h]

theorem trans {s t u : State} (a : GpuKept s t) (b : GpuKept t u) : GpuKept s u :=
  ⟨b.groves.trans a.groves, fun c => (b.contexts c).trans (a.contexts c)⟩

theorem grove {s t : State} (h : GpuKept s t) (g : Nat) : groveOf t g = groveOf s g := by
  unfold groveOf
  rw [h.groves]

end GpuKept

theorem noteOutcome_gpuKept (s : State) (f : Flight) (v : Verdict) : GpuKept s (noteOutcome s f v) := by
  unfold noteOutcome
  split
  · next c n _ _ =>
    split
    · exact .of_gpu rfl
    · refine ⟨rfl, fun k => ?_⟩
      by_cases own : k = c
      · subst own
        simp [ctxOf, tmod, unjudged]
      · simp [ctxOf, tmod, tget_tset_other _ _ _ _ _ own]
  · exact .of_gpu rfl

theorem finish_gpuKept (s : State) (f : Flight) (v : Verdict) : GpuKept s (finish s f v) := by
  refine (noteOutcome_gpuKept s f v).trans (.of_gpu ?_)
  have rest : Same 0x10000 (noteOutcome s f v) (finish s f v) :=
    same_settleRing _ _ _ (by decide) (same_issueCompletion _ _ _ rfl rfl (by decide)
      (same_modFlights (by decide) (same_modCr _ _ _ _ (by decide) same_refl)))
  exact rest.get .gpu (by decide)

theorem withdraw_gpuKept (s : State) (f : Flight) (v : Verdict) : GpuKept s (withdraw s f v) := by
  unfold withdraw
  split
  · exact finish_gpuKept s f v
  split
  · split <;> exact .of_gpu rfl
  split
  · exact finish_gpuKept s f _
  split
  · exact .trans (.of_gpu ((same_accepted (ps := 0x10000) s f _ _ (by decide) same_refl).get .gpu (by decide))) (finish_gpuKept _ _ v)
  · exact finish_gpuKept s f v

theorem halt_gpuKept (s : State) (b : Nat) : GpuKept s (halt s b) := by
  unfold halt
  refine fold_keeps (P := GpuKept s) (fun t f kept => ?_) (.of_gpu rfl)
  split
  · exact kept
  · exact kept.trans (withdraw_gpuKept t f _)

theorem assert_gpuKept (s : State) (b a : Nat) (i : Bool) (hb : b < 40) : GpuKept s (assert s b a i) := by
  obtain ⟨v, u, -, -, before, after⟩ := assert_cases s b a i hb
  have kept : GpuKept s u := by rcases before with ⟨-, rfl⟩ | ⟨-, rfl⟩ <;> exact .of_gpu rfl
  rcases after with ⟨-, e⟩ | ⟨-, e | ⟨k, e⟩⟩ <;> rw [e]
  · exact kept.trans (halt_gpuKept u b)
  · exact kept
  · exact kept.trans (.of_gpu rfl)

/-! ### Traffic (01 R20; 03 R98; 11 R491) -/

/-- What of the bulk memory decides what a read returns, but for poison: its bytes and its plots. -/
def payload (d : Dram) : Dram :=
  { mem := d.mem, owner := d.owner, wm := d.wm, gib := d.gib, slots0 := d.slots0, slots1 := d.slots1 }

/-- The states that requests to the memories lead to from state z: events, error lines, and changes of the memories themselves.
Reads leave the payload of the bulk memory. -/
inductive Traffic (reads : Bool) (z : State) : State → Prop
  | refl : Traffic reads z z
  | event {s : State} (n b : Nat) : Traffic reads z s → Traffic reads z (raise s n b)
  | line {s : State} (b a : Nat) (hb : b < 40) : Traffic reads z s → Traffic reads z (assert s b a)
  | bulk {s : State} (f : Dram → Dram) (h : reads = true → ∀ d, payload (f d) = payload d) :
      Traffic reads z s → Traffic reads z (s.modDram f)
  | stock {s : State} (f : Stockroom → Stockroom) : Traffic reads z s → Traffic reads z (s.modSr f)
  | free {s : State} (f : Nat → Nat) : Traffic reads z s → Traffic reads z (s.modFree f)

namespace Traffic

variable {r : Bool} {z s : State}

/-- It touches neither the Timeline nor a tenancy. -/
theorem same (h : Traffic r z s) : Same 0x101 z s := by
  induction h with
  | refl => exact same_refl
  | event n b _ ih => exact same_raise _ n b (by decide) ih
  | line b a _ _ ih => exact same_assert _ b a false (by decide) ih
  | bulk f _ _ ih => exact same_modDram (by decide) ih
  | stock f _ ih => exact same_modSr (by decide) ih
  | free f _ ih => exact same_modFree (by decide) ih

theorem gpuKept (h : Traffic r z s) : GpuKept z s := by
  induction h with
  | refl => exact .of_gpu rfl
  | line b a hb _ ih => exact ih.trans (assert_gpuKept _ b a false hb)
  | event _ _ _ ih | bulk _ _ _ ih | stock _ _ ih | free _ _ ih => exact ih.trans (.of_gpu rfl)

theorem latches (h : Traffic r z s) : LatchesKept z s := by
  induction h with
  | refl => exact .of_same same_refl
  | event n b _ ih => exact ih.trans (raise_latches _ n b)
  | line b a _ _ ih => exact ih.trans (assert_latches _ b a false)
  | bulk _ _ _ ih | stock _ _ ih | free _ _ ih => exact ⟨ih.event, ih.line⟩

/-- Without a HALT it ends no command. -/
theorem flights (h : Traffic r z s) (calm : s.lg.haltSrc = none) : z.lg.haltSrc = none ∧ s.flights = z.flights := by
  induction h with
  | refl => exact ⟨calm, rfl⟩
  | @line s b a hb _ ih =>
    have mild : lgClass s b ≠ 3 := fun grave => by simp [(assert_halts s b a false hb grave).1] at calm
    obtain ⟨latch, same⟩ := assert_spares s b a false hb mild
    rw [same]
    exact ih (latch ▸ calm)
  | event _ _ _ ih | bulk _ _ _ ih | stock _ _ ih | free _ _ ih => exact ih calm

theorem payload_eq (h : Traffic true z s) : payload s.dram = payload z.dram := by
  induction h with
  | refl => rfl
  | event n b _ ih => exact ih
  | line b a _ _ ih => rw [(same_assert (ps := 0x40000) _ b a false (by decide) same_refl).get .dram (by decide)]; exact ih
  | bulk f keeps _ ih => exact (keeps rfl _).trans ih
  | stock | free => assumption

/-- A request of a range reaches its parts one by one. -/
theorem foldl {α : Type} {f : State → α → State} {l : List α} (hf : ∀ t x, Traffic r z t → Traffic r z (f t x)) (h : Traffic r z s) :
    Traffic r z (l.foldl f s) := fold_keeps hf h

/-- A change of the bulk memory that leaves its payload. -/
theorem books {f : Dram → Dram} (h : Traffic r z s) (keeps : ∀ d, payload (f d) = payload d := by intro _; rfl) :
    Traffic r z (s.modDram f) := h.bulk f fun _ => keeps

theorem stores {f : Dram → Dram} (h : Traffic false z s) : Traffic false z (s.modDram f) := h.bulk f fun e => Bool.noConfusion e

theorem rank (n : Nat) (f : Rank → Rank) (h : Traffic r z s) : Traffic r z (modRank s n f) := by
  unfold modRank setRank
  exact h.books

theorem retire (n : Nat) (h : Traffic r z s) : Traffic r z (retire s n) := by
  unfold Machine.retire
  dsimp only
  split
  · exact h
  split
  · exact h.books
  split
  · unfold beginMigration
    exact ((h.rank _ _).rank _ _).books
  · exact (h.rank _ _).line 19 _ (by decide)

theorem noteDrWord (a : Nat) (h : Traffic r z s) : Traffic r z (noteDrWord s a) := by
  unfold Machine.noteDrWord
  dsimp only
  split
  · exact h
  · exact h
  · exact ((h.rank _ _).books).event _ _
  · exact h
  · exact ((((h.books).books).event _ _).line 18 _ (by decide)).retire _

theorem useDram (a : Nat) (h : Traffic r z s) : Traffic r z (useDram s a) := (h.rank _ _).books

theorem mcAccessFault (o : Nat) (h : Traffic r z s) : Traffic r z (mcAccessFault s o) := (h.event _ _).line 22 _ (by decide)

theorem noteBulk (o t addr n : Nat) (h : Traffic r z s) : Traffic r z (noteBulk s o t addr n) := by
  refine h.foldl fun u part now => ?_
  split
  · exact now.mcAccessFault o
  · exact (now.useDram _).foldl fun _ a now => now.noteDrWord a

theorem countBulk (o n : Nat) (write : Bool) (h : Traffic r z s) : Traffic r z (countBulk s o n write) := by
  unfold Machine.countBulk
  dsimp only
  split <;> exact h.books

theorem groveRead (t addr n : Nat) (h : Traffic r z s) : Traffic r z (groveRead s t addr n) :=
  ((h.stock _).noteBulk t t addr n).countBulk t n false

theorem noteWord (a : Nat) (h : Traffic r z s) : Traffic r z (noteWord s a) := by
  unfold Machine.noteWord noteFault
  split
  · exact (h.stock _).event _ _
  · exact ((h.stock _).event _ _).line 16 _ (by decide)
  · exact h

theorem srRead (group o t addr n : Nat) (h : Traffic r z s) : Traffic r z (srRead s group o t addr n).2 := by
  refine List.foldlRecOn (motive := fun acc : List (Byte × Bool) × State => Traffic r z acc.2) _ _ h fun acc now part _ => ?_
  dsimp only
  split
  · exact (now.event _ _).line 17 _ (by decide)
  · exact (now.stock _).foldl fun _ a now => now.noteWord a

theorem countSrBytes (o n : Nat) (write : Bool) (h : Traffic r z s) : Traffic r z (countSrBytes s o n write) := by
  unfold Machine.countSrBytes
  split
  · exact h
  split <;> exact h.stock _

theorem freshBytes (n : Nat) (h : Traffic r z s) : Traffic r z (freshBytes s n).2 := by
  induction n generalizing s with
  | zero => exact h
  | succ n ih => exact ih (h.free _)

theorem bulkPut (o t addr : Nat) (l : List (Byte × Bool)) (h : Traffic false z s) : Traffic false z (bulkPut s o t addr l) := by
  refine h.foldl fun u part now => ?_
  split
  · exact now.mcAccessFault o
  · have read := (now.useDram (dramAddr u t part.1)).foldl (l := partWords (dramAddr u t part.1) part.2) fun _ a now => now.noteDrWord a
    exact (read.foldl fun _ w now => now.stores).stores

theorem grovePut (t addr : Nat) (bs : List Byte) (h : Traffic false z s) : Traffic false z (grovePut s t addr bs) :=
  ((h.stock _).bulkPut t t addr _).countBulk t _ true

/-! ### The traffic of a render pass (11 R503, R515) -/

theorem passReads (c : Context) (d : List Byte) (frags : List Fragment) (h : Traffic r z s) : Traffic r z (passReads s c d frags) := by
  unfold Machine.passReads
  refine .foldl (fun u sh now => (now.srRead ..).countSrBytes ..) ?_
  exact (h.groveRead ..).foldl fun u a now => now.foldl fun v q now => now.groveRead ..

theorem storeSpan (t : Nat) (d : List Byte) (a : Attachment) (ltc : Bool) (x w y : Nat) (h : Traffic false z s) :
    Traffic false z (storeSpan s t d a ltc x w y) := by
  unfold Machine.storeSpan
  dsimp only
  split
  · exact h
  split
  · exact h.grovePut ..
  · exact (h.freshBytes _).grovePut ..

theorem storeSpans (t : Nat) (d : List Byte) (spans : List (Nat × Nat × Nat)) (h : Traffic false z s) :
    Traffic false z (storeSpans s t d spans) := h.foldl fun _ _ now => now.foldl fun _ _ now => now.storeSpan ..

theorem storeWords (t : Nat) (d : List Byte) (tile : Tab (Option Nat)) (h : Traffic false z s) :
    Traffic false z (storeWords s t d tile) := by
  refine h.foldl fun u e now => ?_
  split
  · split
    · exact now.grovePut ..
    · exact now
  · exact now

end Traffic

end Sys2Proof.Machine
end

section
/-! PROOFS. The jobs of a grove (O46): what a start takes over from memory, what a running job keeps while its grove works, and how
it ends. -/

namespace Sys2Proof.Machine

/-! ### What a job reads (11 R505 to R508) -/

section Legible

variable {s t : State} (tens : t.tens = s.tens) (data : payload t.dram = payload s.dram)

theorem plotOf_of_tens {s t : State} (tens : t.tens = s.tens) (n i : Nat) : plotOf t n i = plotOf s n i := by
  unfold plotOf tenOf
  rw [tens]

theorem inRanges_of_tens {s t : State} (tens : t.tens = s.tens) (n : Nat) (l : List (Nat × Nat)) : inRanges t n l = inRanges s n l := by
  unfold inRanges inPlots
  simp only [plotOf_of_tens tens]

include tens data

theorem bulkOpen_of_payload (o n : Nat) (write : Bool) (addr : Nat) : bulkOpen t o n write addr = bulkOpen s o n write addr := by
  have owner : plotOwner t = plotOwner s := by
    funext p
    show plotOwner { s with dram := payload t.dram } p = plotOwner { s with dram := payload s.dram } p
    rw [data]
  have ten : tenOf t = tenOf s := by
    funext p
    unfold tenOf
    rw [tens]
  unfold bulkOpen tagMay mayTouchPlot frozenPlot
  simp only [plotOf_of_tens tens, owner, ten]

theorem bulkData_of_payload (n addr k : Nat) : bulkData t n addr k = bulkData s n addr k := by
  have mem : t.dram.mem = s.dram.mem := (congrArg Dram.mem data :)
  unfold bulkData bulkBytes dramAddr
  simp only [List.map_map, plotOf_of_tens tens, bulkOpen_of_payload tens data, mem]
  refine List.map_congr_left fun i _ => ?_
  simp only [Function.comp_apply, apply_ite Prod.fst]

/-- The fault a job meets at its start is one of its descriptor, of the payload it reads, and of its context's holder, pool and shaders. -/
theorem startFault_of_payload {c e : Context} (ctx : unjudged e = unjudged c) (d : List Byte) : startFault t e d = startFault s c d := by
  have owner : e.owner = c.owner := (congrArg Context.owner ctx :)
  have pool : e.poolLen = c.poolLen := (congrArg Context.poolLen ctx :)
  have shaders : e.shaders = c.shaders := (congrArg Context.shaders ctx :)
  unfold startFault bindings shaderAt
  simp only [owner, pool, shaders, bulkData_of_payload tens data, inRanges_of_tens tens]

end Legible

/-! ### The end of a run (11 R503, R504) -/

theorem freeGrove_job (s : State) (g : Nat) : (groveOf (freeGrove s g) g).job = none := by
  unfold freeGrove
  dsimp only
  rw [groveOf_setGrove_same]

/-- The verdict with which the job that grove g runs ends now (11 R503, R504). -/
def runVerdict (s : State) (g status reason value : Nat) : Verdict :=
  { status := status, reason := reason, value := value + runTime s g, inst := if status = 0 then some (now s) else none }

/-- The command in flight that is the job of grove g. -/
def jobFlight (s : State) (g : Nat) : Option Flight := flightBy s fun x => decide (some x.id = (groveOf s g).job)

theorem jobFlight_job {s : State} {g : Nat} {f : Flight} (runs : jobFlight s g = some f) : (groveOf s g).job = some f.id := by
  have own := List.find?_some runs
  exact (of_decide_eq_true own).symm

theorem endRun_of_flight {s : State} {g : Nat} {f : Flight} (runs : jobFlight s g = some f)
    (status reason value : Nat) : endRun s g status reason value = finish (freeGrove s g) f (runVerdict s g status reason value) := by
  unfold endRun
  dsimp only
  rw [show flightBy (freeGrove s g) _ = some f from runs]
  rfl

theorem endRun_of_none {s : State} {g : Nat} (gone : jobFlight s g = none)
    (status reason value : Nat) : endRun s g status reason value = freeGrove s g := by
  unfold endRun
  dsimp only
  rw [show flightBy (freeGrove s g) _ = none from gone]

/-- A run that ends leaves its grove free, whether or not its job was still in flight. -/
theorem endRun_job (s : State) (g status reason value : Nat) : (groveOf (endRun s g status reason value) g).job = none := by
  cases runs : jobFlight s g with
  | some f =>
    rw [endRun_of_flight runs, (finish_gpuKept _ f _).grove g]
    exact freeGrove_job s g
  | none =>
    rw [endRun_of_none runs]
    exact freeGrove_job s g

/-- It takes its job, and no other command, out of the flights. -/
theorem endRun_flights (s : State) (g status reason value : Nat) :
    (endRun s g status reason value).flights = s.flights.filter fun x => some x.id ≠ (groveOf s g).job := by
  cases runs : jobFlight s g with
  | some f =>
    rw [endRun_of_flight runs, finish_flights, jobFlight_job runs]
    simp only [ne_eq, Option.some.injEq]
    rfl
  | none =>
    rw [endRun_of_none runs]
    exact (List.filter_eq_self.2 fun x mem => by simpa using List.find?_eq_none.1 runs x mem).symm

theorem endRun_removes {s : State} {g n : Nat} (own : (groveOf s g).job = some n) (status reason value : Nat) :
    ∀ x ∈ (endRun s g status reason value).flights, x.id ≠ n := by
  intro x mem
  rw [endRun_flights, own] at mem
  simpa using (List.mem_filter.1 mem).2

theorem endRun_lg (s : State) (g status reason value : Nat) : (endRun s g status reason value).lg = s.lg :=
  (same_endRun (ps := 0x80) s g _ _ _ (by decide) same_refl).get .lg (by decide)

/-! ### While a job runs -/

/-- From s to t grove g goes on with its job: it has run as long, no event latch is cleared, and no command ends but by a HALT. -/
structure StillRuns (g : Nat) (s t : State) : Prop where
  tick : now t = now s
  job : (groveOf t g).job = (groveOf s g).job
  since : (groveOf t g).since = (groveOf s g).since
  latches : LatchesKept s t
  flights : t.lg.haltSrc = none → s.lg.haltSrc = none ∧ t.flights = s.flights

namespace StillRuns

variable {g : Nat} {s t u : State}

theorem trans (a : StillRuns g s t) (b : StillRuns g t u) : StillRuns g s u where
  tick := b.tick.trans a.tick
  job := b.job.trans a.job
  since := b.since.trans a.since
  latches := a.latches.trans b.latches
  flights calm := by
    obtain ⟨before, same⟩ := b.flights calm
    obtain ⟨first, same'⟩ := a.flights before
    exact ⟨first, same.trans same'⟩

theorem of_traffic {r : Bool} (h : Traffic r s t) : StillRuns g s t where
  tick := congrArg Timeline.tick (h.same.get .tl (by decide))
  job := congrArg Grove.job (h.gpuKept.grove g)
  since := congrArg Grove.since (h.gpuKept.grove g)
  latches := h.latches
  flights := h.flights

theorem refl : StillRuns g s s := of_traffic (r := true) .refl

theorem modGrove {f : Grove → Grove} (h : StillRuns g s t) (job : ∀ v, (f v).job = v.job := by intro _; rfl)
    (since : ∀ v, (f v).since = v.since := by intro _; rfl) : StillRuns g s (modGrove t g f) where
  tick := h.tick
  job := by rw [groveOf_modGrove_same, job, h.job]
  since := by rw [groveOf_modGrove_same, since, h.since]
  latches := h.latches.trans (.of_same (same_modGrove t g f (by decide) same_refl))
  flights := h.flights

theorem modCtx {c : Nat} {f : Context → Context} (h : StillRuns g s t) : StillRuns g s (modCtx t c f) :=
  h.trans ⟨rfl, rfl, rfl, .of_same (same_modCtx t c f (by decide) same_refl), fun calm => ⟨calm, rfl⟩⟩

theorem renderPass (frags : List Fragment) (last : Bool) (h : StillRuns g s t) : StillRuns g s (renderPass t g frags last) := by
  refine h.trans ?_
  unfold Machine.renderPass
  dsimp only
  split
  · exact refl
  -- the pass reads, fills the tile memory, and stores
  have read : ∀ c d, StillRuns g t (passReads t c d frags) := fun c d => of_traffic (r := true) (Traffic.refl.passReads c d frags)
  split
  · exact (read _ _).modGrove.trans (of_traffic ((Traffic.refl.storeSpans ..).storeWords ..))
  · exact (read _ _).modGrove.trans (of_traffic ((((Traffic.refl.storeSpans ..).storeWords ..).freshBytes _).grovePut ..))

theorem runTime (h : StillRuns g s t) : runTime t g = runTime s g := by
  unfold Machine.runTime
  rw [h.tick, h.since]

end StillRuns

/-- The job f of grove g has ended with a verdict: the grove is free, the job is gone, and without a HALT its final completion is
the last thing that happened. -/
def JobEnded (s : State) (g : Nat) (f : Flight) (v : Verdict) (t : State) : Prop :=
  (groveOf t g).job = none ∧ (∀ x ∈ t.flights, x.id ≠ f.id) ∧
    (t.lg.haltSrc = none → ∃ u, u.flights = s.flights ∧ t = finish u f v)

/-- An overflow of the tile list pool as it is counted and raised (11 R515). -/
def overflowed (s : State) (g : Nat) (used : RenderPass) : State :=
  raise (modCtx s (groveOf s g).ctx fun c => { c with poolPeak := max c.poolPeak (min used.used c.poolLen) })
    (srcContext (groveOf s g).ctx) 0

theorem overflowed_event (s : State) (g : Nat) (used : RenderPass) :
    (evSrc (overflowed s g used) (srcContext (groveOf s g).ctx)).cause.testBit 0 = true := raise_sets ..

section Runs

variable {s : State} {g : Nat} {f : Flight} (runs : jobFlight s g = some f)
include runs

/-- However the grove has worked on it, a job that ends does so with the run time and at the instant it has now. -/
theorem endRun_ends {u : State} (works : StillRuns g s u) (status reason value : Nat) :
    JobEnded s g f (runVerdict s g status reason value) (endRun u g status reason value) := by
  refine ⟨endRun_job .., endRun_removes (works.job.trans (jobFlight_job runs)) _ _ _, fun calm => ?_⟩
  rw [endRun_lg] at calm
  obtain ⟨-, same⟩ := works.flights calm
  have still : jobFlight u g = some f := by
    unfold jobFlight flightBy at runs ⊢
    rw [works.job, same]
    exact runs
  refine ⟨freeGrove u g, same, ?_⟩
  rw [endRun_of_flight still]
  unfold runVerdict
  rw [works.runTime, works.tick]

variable (up : (groveOf s g).resetAt = none)
include up

theorem not_stopped : ¬((groveOf s g).job.isNone || (groveOf s g).resetAt.isSome) = true := by simp [jobFlight_job runs, up]

theorem accessFault_eq : accessFault s g = endRun s g 12 0 (jobCause 4 2) := if_neg (not_stopped runs up)

theorem runFault_oversize (compute : jobCompute (groveOf s g).desc = true) : runFault s g true = endRun s g 12 0 (jobCause 6 2) :=
  (if_neg (not_stopped runs up)).trans ((if_pos rfl).trans (if_pos compute))

theorem runFault_draw {k : Nat} (faulty : faultyDraw s g = some k) : runFault s g false = endRun s g 12 0 (jobCause 6 k) := by
  unfold runFault
  dsimp only
  rw [if_neg (not_stopped runs up), if_neg (by simp), faulty]

theorem completeJob_faulty {k : Nat} (faulty : faultyDraw s g = some k) (used : RenderPass) (p : Bool) (ws : List (Nat × List Byte)) :
    completeJob s g used p ws = endRun s g 12 0 (jobCause 6 k) := by
  unfold completeJob
  dsimp only
  rw [if_neg (not_stopped runs up), faulty]

/-- A job without a faulty draw ends once its writes and its last pass are done. -/
theorem completeJob_rendered (sound : faultyDraw s g = none) (used : RenderPass) (p : Bool) (ws : List (Nat × List Byte)) :
    ∃ u, StillRuns g s u ∧ completeJob s g used p ws =
      if (p || jobPoison s g used.frags) = true then endRun u g 14 0x34 (jobCause 0x0E 0) else endRun u g 0 0 0 := by
  unfold completeJob
  dsimp only
  rw [if_neg (not_stopped runs up), sound]
  dsimp only
  refine ⟨_, ?_, rfl⟩
  refine .renderPass _ _ (.trans (.modCtx .refl) (.of_traffic (r := false) (Traffic.refl.foldl fun u w now => ?_)))
  split
  · exact now.grovePut ..
  · exact now

theorem overflowPool_fail (fail : (ctxOf s (groveOf s g).ctx).fail = true) (used : RenderPass) :
    overflowPool s g used = endRun (overflowed s g used) g 12 0 (jobCause 4 3) := by
  unfold overflowPool
  dsimp only
  rw [if_neg (not_stopped runs up), if_pos fail]
  rfl

/-- Whether the job ends there or is flushed, no latch is cleared. -/
theorem overflowPool_latches (used : RenderPass) : LatchesKept (overflowed s g used) (overflowPool s g used) := by
  have ended : ∀ (u : State) (value : Nat), LatchesKept u (endRun u g 12 0 value) := fun u value =>
    .of_same (same_endRun u g _ _ _ (by decide) same_refl)
  unfold overflowPool
  dsimp only
  rw [if_neg (not_stopped runs up)]
  split
  · exact ended _ _
  · have counted : ∀ u c k, LatchesKept u (modCtx u c k) := fun u c k => .of_same (same_modCtx u c k (by decide) same_refl)
    split
    · exact (counted _ _ _).trans (ended _ _)
    · exact (counted _ _ _).trans (StillRuns.refl.renderPass _ _).latches

end Runs

/-! ### The start of a job (11 R493, R494, R500) -/

/-- The descriptor of job f of context c as memory holds it. -/
def jobDesc (s : State) (c : Nat) (f : Flight) : List Byte :=
  (bulkBytes s (ctxOf s c).owner (ctxOf s c).owner (jobAddr f) 128).map fun b => if b.2 then (0 : Byte) else b.1

/-- Grove g has taken job f of context c and read its descriptor. -/
def jobTaken (s : State) (g c : Nat) (f : Flight) : State :=
  let t := (ctxOf s c).owner
  modGrove (groveRead s t (jobAddr f) 128) g fun v => { v with
    job := some f.id, ctx := c, since := now s, desc := jobDesc s c f,
    poisoned := (bulkBytes s t t (jobAddr f) 128).any (·.2) ||
      bulkBad s t (fieldOf (jobDesc s c f) 24 8) (32 * fieldOf (jobDesc s c f) 32 1),
    lastTenancy := some t, lastContext := tset 0 v.lastContext t ((ctxOf s c).loc + 1) }

theorem startJob_idle {s : State} {g : Nat} (h : groveIdle s g = false ∨ chooseContext s g = none) : startJob s g = s := by
  unfold startJob
  split
  · rfl
  · next idle =>
    rw [h.resolve_left (by simpa using idle)]

section Start

variable {s : State} {g c : Nat} {f : Flight}

theorem jobTaken_flights (calm : (jobTaken s g c f).lg.haltSrc = none) : (jobTaken s g c f).flights = s.flights :=
  ((Traffic.refl (reads := true)).groveRead (ctxOf s c).owner (jobAddr f) 128 |>.flights calm).2

/-- The reading of the descriptor changes nothing that the checks of the start read. -/
theorem jobTaken_startFault (d : List Byte) :
    startFault (jobTaken s g c f) (ctxOf (jobTaken s g c f) c) d = startFault s (ctxOf s c) d := by
  have read := (Traffic.refl (reads := true) (z := s)).groveRead (ctxOf s c).owner (jobAddr f) 128
  exact startFault_of_payload (t := jobTaken s g c f) (read.same.get .tens (by decide)) read.payload_eq (read.gpuKept.contexts c) d

variable (idle : groveIdle s g = true) (chosen : chooseContext s g = some c) (cand : candidate s c = some f)
include idle chosen cand

/-- A job with a good descriptor reads its bindings and goes on; one with a fault ends at once. -/
theorem startJob_eq : startJob s g = (startFault s (ctxOf s c) (jobDesc s c f)).elim
    (groveRead (jobTaken s g c f) (ctxOf s c).owner (fieldOf (jobDesc s c f) 24 8) (32 * fieldOf (jobDesc s c f) 32 1))
    fun k => endRun (jobTaken s g c f) g 12 0 (jobCause k.1 k.2) := by
  rw [← jobTaken_startFault (g := g) (f := f)]
  unfold startJob
  rw [if_neg (by simp [idle]), chosen]
  dsimp only
  rw [cand]
  unfold jobTaken jobDesc
  dsimp only
  generalize startFault _ _ _ = fault
  cases fault <;> rfl

end Start

/-! ### The commands -/

/-- Settles O46: a start takes the job (`jobTaken`) and ends it at once where its descriptor is faulty; of the other commands
each ends the run (`endRun_ends`) after such work as leaves the job running. -/
theorem groveJobs : Obligations.GroveJobs := by
  unfold Obligations.GroveJobs
  intro s g
  refine ⟨fun c f idle chosen cand => ⟨fun good => ⟨_, rfl, ?good⟩, fun k faulty => ⟨_, rfl, ?faulty⟩⟩,
    fun none' => ⟨_, rfl, startJob_idle none'⟩, fun f runs up => ?runs, fun stopped i named => ?stopped⟩
  case good =>
    have read : Traffic true (jobTaken s g c f) (startJob s g) := by
      rw [startJob_eq idle chosen cand, show startFault s _ (jobDesc s c f) = none from good]
      exact Traffic.refl.groveRead ..
    have taken : groveOf (startJob s g) g = groveOf (jobTaken s g c f) g := read.gpuKept.grove g
    dsimp only
    rw [taken]
    unfold jobTaken
    rw [groveOf_modGrove_same]
    refine ⟨rfl, rfl, rfl, rfl, fun calm => ?_⟩
    obtain ⟨before, same⟩ := read.flights calm
    exact same.trans (jobTaken_flights before)
  case faulty =>
    have own : (groveOf (jobTaken s g c f) g).job = some f.id := by
      unfold jobTaken
      rw [groveOf_modGrove_same]
    rw [startJob_eq idle chosen cand, show startFault s _ (jobDesc s c f) = some k from faulty, Option.elim_some]
    refine ⟨endRun_job .., endRun_removes own _ _ _, fun calm => ?_⟩
    rw [endRun_lg] at calm
    rw [endRun_flights, own, jobTaken_flights calm]
    simp
  case runs =>
    have ends := fun status reason value => endRun_ends runs (.refl (g := g)) status reason value
    refine ⟨fun used ws sound clean => ⟨_, rfl, ?done⟩, fun used ws p sound bad => ⟨_, rfl, ?poisoned⟩,
      fun used ws p k faulty => ⟨⟨_, rfl, ?drawAtEnd⟩, _, rfl, ?draw⟩, ⟨_, rfl, ?access⟩, fun compute => ⟨_, rfl, ?oversize⟩,
      fun used => ⟨_, rfl, ?overflow⟩, fun used fail => ⟨_, rfl, ?pool⟩⟩
    case done =>
      obtain ⟨u, works, e⟩ := completeJob_rendered runs up sound used false ws
      rw [e, if_neg (by simp [clean])]
      exact endRun_ends runs works 0 0 0
    case poisoned =>
      obtain ⟨u, works, e⟩ := completeJob_rendered runs up sound used p ws
      rw [e, if_pos (by simpa using bad)]
      exact endRun_ends runs works 14 0x34 _
    case drawAtEnd => exact completeJob_faulty runs up faulty used p ws ▸ ends 12 0 _
    case draw => exact runFault_draw runs up faulty ▸ ends 12 0 _
    case access => exact accessFault_eq runs up ▸ ends 12 0 _
    case oversize => exact runFault_oversize runs up compute ▸ ends 12 0 _
    case overflow => exact (overflowPool_latches runs up used).event _ 0 (overflowed_event s g used)
    case pool =>
      rw [overflowPool_fail runs up fail]
      exact endRun_ends runs (.trans (.modCtx .refl) (.of_traffic (Traffic.refl (reads := true) |>.event ..))) 12 0 _
  case stopped =>
    have halts : ((groveOf s g).job.isNone || (groveOf s g).resetAt.isSome) = true := by simpa using stopped
    rcases named with ⟨used, p, ws, rfl⟩ | rfl | ⟨b, rfl⟩ | ⟨used, rfl⟩ <;> exact ⟨_, rfl, if_pos halts⟩

end Sys2Proof.Machine
end

section
/-! PROOFS. The resets of a grove (O47): how one begins, what its completion ends, and what an overrun takes out of service. -/

namespace Sys2Proof.Machine

/-! ### How a reset begins (11 R517, R518, R521) -/

theorem stopRun_grove (s : State) (g status reason value : Nat) : groveOf (stopRun s g status reason value) g =
    { groveOf s g with resetAt := some (now s), ending := some (status, reason, value) } := groveOf_modGrove_same ..

theorem stopRun_evSrc (s : State) (g status reason value n : Nat) : evSrc (stopRun s g status reason value) n = evSrc s n := rfl

theorem stopRun_ctx (s : State) (g status reason value c : Nat) : ctxOf (stopRun s g status reason value) c = ctxOf s c := rfl

theorem raise_ctx (s : State) (n b c : Nat) : ctxOf (raise s n b) c = ctxOf s c := rfl

section Limit

variable {s : State} {g : Nat} {f : Flight} (runs : jobFlight s g = some f)
include runs

/-- A job that has run its limit is counted with its context, raises the context's event, and is stopped. -/
theorem limitJob_stops (up : (groveOf s g).resetAt = none) (spent : (groveOf s g).since + 400 * jobLimit f ≤ now s) :
    limitJob s g = stopRun (raise (modCtx s (groveOf s g).ctx fun c => { c with limitKills := min 0xFFFFFFFF (c.limitKills + 1) })
      (srcContext (groveOf s g).ctx) 1) g 12 0 (jobCause 0x0C 1) := by
  have own := jobFlight_job runs
  unfold jobFlight at runs
  unfold limitJob
  dsimp only
  rw [runs, own]
  exact if_neg (by simpa [up] using spent)

theorem limitJob_idle (early : now s < (groveOf s g).since + 400 * jobLimit f ∨ (groveOf s g).resetAt.isSome = true) :
    limitJob s g = s := by
  have own := jobFlight_job runs
  unfold jobFlight at runs
  unfold limitJob
  dsimp only
  rw [runs, own]
  exact if_pos (by simpa [or_comm] using early)

end Limit

theorem tileUe_line (s : State) (g : Nat) : (lgSrc (tileUe s g) 30).on = true := by
  have line : (lgSrc (assert s 30 0) 30).on = true := assert_sets s 30 0 false (by decide)
  unfold tileUe
  dsimp only
  split
  · exact line
  split <;> exact line

/-- An error in tile memory resets a grove in service, and its job ends FAULTED. -/
theorem tileUe_grove {s : State} {g : Nat} (up : (groveOf s g).resetAt = none) (serves : (groveOf s g).out = false) :
    (groveOf (tileUe s g) g).resetAt = some (now s) ∧
      ((groveOf s g).job.isSome = true → (groveOf (tileUe s g) g).ending = some (13, 0x33, 30)) := by
  have line : Traffic true s (assert s 30 0) := .line 30 0 (by decide) .refl
  have kept : groveOf (assert s 30 0) g = groveOf s g := line.gpuKept.grove g
  have tick : now (assert s 30 0) = now s := congrArg Timeline.tick (line.same.get .tl (by decide))
  unfold tileUe
  dsimp only
  rw [kept, if_neg (by simp [up, serves])]
  split
  · rw [stopRun_grove, tick]
    exact ⟨rfl, fun _ => rfl⟩
  · next free =>
    rw [groveOf_modGrove_same, tick]
    exact ⟨rfl, fun runs => absurd runs free⟩

/-! ### How a reset is completed (11 R518, R527) -/

/-- State u with grove g free of the job that it runs in s. -/
def freedOf (s u : State) (g : Nat) : State := if (groveOf s g).job.isSome then freeGrove u g else u

theorem freedOf_job {s u : State} {g : Nat} (same : groveOf u g = groveOf s g) : (groveOf (freedOf s u g) g).job = none := by
  unfold freedOf
  split
  · exact freeGrove_job u g
  · next idle =>
    rw [same]
    simpa using idle

theorem freedOf_same {ps : Nat} (s u : State) (g : Nat) (hd : ps &&& 0x10000 = 0) : Same ps u (freedOf s u g) :=
  same_ite (same_freeGrove u g hd same_refl) same_refl

/-- Grove g when its reset is complete, but for the outcome of the job that was stopped. -/
def resetEnded (s : State) (g : Nat) : State :=
  modGrove (freedOf s (raise s (srcGrove g) 0) g) g fun x => { x with resetAt := none, ending := none }

theorem resetEnded_same (s : State) (g : Nat) : Same 0x840 (raise s (srcGrove g) 0) (resetEnded s g) :=
  same_modGrove _ g _ (by decide) (freedOf_same s _ g (by decide))

theorem resetEnded_grove (s : State) (g : Nat) : (groveOf (resetEnded s g) g).job = none ∧
    (groveOf (resetEnded s g) g).resetAt = none ∧ (groveOf (resetEnded s g) g).ending = none := by
  unfold resetEnded
  rw [groveOf_modGrove_same]
  exact ⟨freedOf_job rfl, rfl, rfl⟩

theorem resetEnded_event (s : State) (g : Nat) : (evSrc (resetEnded s g) (srcGrove g)).cause.testBit 0 = true := by
  rw [evSrc_of_ev ((resetEnded_same s g).get .ev (by decide))]
  exact raise_sets ..

section Reset

variable {s : State} {g : Nat} (began : (groveOf s g).resetAt.isSome = true) (serves : (groveOf s g).out = false)
include began serves

/-- The completion writes the outcome of the job that was stopped, where it is still in flight. -/
theorem resetDone_cases : (∃ f v, (groveOf s g).job = some f.id ∧ resetDone s g = finish (resetEnded s g) f v) ∨
    ((∀ x ∈ s.flights, some x.id ≠ (groveOf s g).job) ∧ resetDone s g = resetEnded s g) := by
  have again : flightBy (resetEnded s g) (fun x => decide (some x.id = (groveOf s g).job)) = jobFlight s g :=
    congrArg (List.find? _) ((resetEnded_same s g).get .flights (by decide))
  unfold resetDone
  dsimp only
  rw [if_neg (by simp [serves, Option.isSome_iff_ne_none.1 began])]
  unfold resetEnded freedOf at again ⊢
  generalize modGrove _ g _ = u at again ⊢
  cases runs : jobFlight s g with
  | some f =>
    rw [again.trans runs, jobFlight_job runs]
    exact .inl ⟨f, _, rfl, rfl⟩
  | none =>
    refine .inr ⟨fun x mem => by simpa using List.find?_eq_none.1 runs x mem, ?_⟩
    rw [again.trans runs]
    cases (groveOf s g).job <;> rfl

theorem resetDone_completes : (groveOf (resetDone s g) g).job = none ∧ (groveOf (resetDone s g) g).resetAt = none ∧
    (groveOf (resetDone s g) g).ending = none ∧ (evSrc (resetDone s g) (srcGrove g)).cause.testBit 0 = true ∧
    ∀ x ∈ (resetDone s g).flights, some x.id ≠ (groveOf s g).job := by
  obtain ⟨job, reset, outcome⟩ := resetEnded_grove s g
  have event := resetEnded_event s g
  obtain ⟨f, v, own, e⟩ | ⟨gone, e⟩ := resetDone_cases began serves
  · rw [e, (finish_gpuKept _ f v).grove g, evSrc_of_ev (finish_ev _ f v), own]
    exact ⟨job, reset, outcome, event, fun x mem same => finish_removes _ f v x mem (Option.some.inj same)⟩
  · rw [e, show (resetEnded s g).flights = s.flights from (resetEnded_same s g).get .flights (by decide)]
    exact ⟨job, reset, outcome, event, gone⟩

end Reset

theorem resetDone_idle {s : State} {g : Nat} (h : (groveOf s g).resetAt = none ∨ (groveOf s g).out = true) : resetDone s g = s :=
  if_pos (by simpa using h)

/-! ### A reset that overruns (11 R522) -/

/-- What becomes of the jobs of a grove that leaves service touches neither a grove nor the Ledger. -/
theorem withdrawJobs_keeps (v : Verdict) (l : List Flight) (s : State) :
    let t := l.foldl (fun s f => withdraw (uncount s f.id) f v) s
    GpuKept s t ∧ t.lg = s.lg := by
  refine fold_keeps (P := fun t => GpuKept s t ∧ t.lg = s.lg) (fun t f kept => ?_) ⟨.of_gpu rfl, rfl⟩
  obtain ⟨gpu, lg⟩ := kept
  have counted : GpuKept t (uncount t f.id) := .of_gpu rfl
  exact ⟨gpu.trans (counted.trans (withdraw_gpuKept _ f v)), (withdraw_lg ..).trans lg⟩

theorem resetOverrun_removes {s : State} {g a : Nat} (began : (groveOf s g).resetAt = some a) (serves : (groveOf s g).out = false)
    (late : a + 20000 ≤ now s) : (groveOf (resetOverrun s g) g).out = true ∧ (groveOf (resetOverrun s g) g).job = none ∧
      (groveOf (resetOverrun s g) g).resetAt = none ∧ (lgSrc (resetOverrun s g) 31).on = true := by
  unfold resetOverrun
  dsimp only
  rw [if_neg (by simpa [began, serves] using late)]
  generalize hu : modGrove _ g _ = u
  have grove : (groveOf u g).out = true ∧ (groveOf u g).job = none ∧ (groveOf u g).resetAt = none := by
    rw [← hu, groveOf_modGrove_same]
    exact ⟨rfl, freedOf_job (s := s) rfl, rfl⟩
  obtain ⟨gpu, lg⟩ := withdrawJobs_keeps (refuse 13 0x32 0 31) _ (assert u 31 _)
  obtain ⟨out, job, reset⟩ := grove
  rw [gpu.grove g, (assert_gpuKept u 31 _ false (by decide)).grove g, lgSrc_of_lg lg]
  exact ⟨out, job, reset, assert_sets u 31 _ false (by decide)⟩

theorem resetOverrun_early {s : State} {g a : Nat} (began : (groveOf s g).resetAt = some a) (early : now s < a + 20000) :
    resetOverrun s g = s := if_pos (by simp [began, early])

/-! ### The commands -/

/-- Settles O47: each clause is one case of the operation of its command. -/
theorem groveResets : Obligations.GroveResets := by
  unfold Obligations.GroveResets
  intro s g
  refine ⟨fun f runs up spent => ⟨_, rfl, ?limit⟩, fun f runs early => ⟨_, rfl, limitJob_idle runs early⟩,
    ⟨_, rfl, tileUe_line s g, tileUe_grove⟩, fun began serves => ⟨_, rfl, resetDone_completes began serves⟩,
    fun idle => ⟨_, rfl, resetDone_idle idle⟩, fun a began serves late => ⟨_, rfl, resetOverrun_removes began serves late⟩,
    fun a began early => ⟨_, rfl, resetOverrun_early began early⟩⟩
  dsimp only
  rw [limitJob_stops runs up spent, stopRun_grove, stopRun_evSrc, stopRun_ctx, raise_ctx, ctxOf_modCtx_same]
  exact ⟨rfl, rfl, rfl, raise_sets .., rfl⟩

end Sys2Proof.Machine
end

section
/-! PROOFS. The scans of a touch port (O48): how one starts, what the end of a step and of the last step leave, the products of a
scan, a TX line that is stopped, and the end of a self-test. -/

namespace Sys2Proof.Machine

theorem portOf_of_touch {s t : State} (h : t.touch = s.touch) (p : Nat) : portOf t p = portOf s p := by
  unfold portOf
  rw [h]

theorem portOf_raise (s : State) (n b p : Nat) : portOf (raise s n b) p = portOf s p := rfl

theorem portOf_hostWrite (s : State) (a : Nat) (bs : List Byte) (p : Nat) : portOf (hostWrite s a bs) p = portOf s p := rfl

/-- A final completion leaves every port alone. -/
theorem finish_port (s : State) (f : Flight) (v : Verdict) (p : Nat) : portOf (finish s f v) p = portOf s p :=
  portOf_of_touch ((same_finish (ps := 0x100000) s f v (by decide) same_refl).get .touch (by decide)) p

/-! ### The start of a scan (12 R541, R545 to R547) -/

theorem scanStartOf_idle {s : State} {p : Nat} (idle : scanDue s p = false) : scanStartOf s p = s := if_pos (by simp [idle])

theorem scanDue_settings {s : State} {p : Nat} (due : scanDue s p = true) : ∃ k, scanToStart s p = some k := by
  unfold scanDue at due
  simp only [Bool.and_eq_true] at due
  exact Option.isSome_iff_exists.1 due.2

theorem beginScan_starts (s : State) (p : Nat) :
    ∃ c, (portOf (beginScan s p) p).scan = some c ∧ c.started = now s ∧ c.step = 0 ∧ c.stamps = [] := by
  unfold beginScan
  dsimp only
  rw [portOf_modPort_same]
  refine ⟨_, rfl, ?_, rfl, rfl⟩
  split <;> rfl

section Start

variable {s : State} {p : Nat} (due : scanDue s p = true)
include due

/-- A port that still scans counts the start that it cannot take. -/
theorem scanStartOf_skips (busy : (portOf s p).scan.isSome = true) : scanStartOf s p =
    raise (modPort (modPort s p fun v => { v with lastStart := some (now s) }) p fun v =>
      { v with skips := min 0xFFFFFFFF (v.skips + 1) }) (srcTouchPort p 1) 0 := by
  obtain ⟨⟨c, waiting⟩, settings⟩ := scanDue_settings due
  unfold scanStartOf startScan
  rw [if_neg (by simp [due]), settings]
  exact if_pos (by simpa using busy)

/-- The changes that wait for a scan start take effect, none of them on the tick, and the scan begins. -/
theorem scanStartOf_begins (free : (portOf s p).scan = none) : ∃ u, now u = now s ∧ scanStartOf s p = beginScan u p := by
  obtain ⟨⟨c, waiting⟩, settings⟩ := scanDue_settings due
  have port : ∀ {t : State} f, Same 0x1 s t → Same 0x1 s (modPort t p f) := fun f => same_modPort _ p f (by decide)
  have done : ∀ {t : State} f, Same 0x1 s t → Same 0x1 s (finishDone t f) := fun f => same_finishDone _ f 0 (by decide)
  unfold scanStartOf startScan
  rw [if_neg (by simp [due]), settings]
  dsimp -zeta only
  extract_lets begun adopted loaded keyed capturing
  rw [if_neg (by simp [begun, free])]
  have adopts : Same 0x1 s adopted := by
    unfold adopted
    split
    · exact done _ (port _ (port _ same_refl))
    · exact port _ same_refl
  have loads : Same 0x1 s loaded := by
    unfold loaded
    split
    · exact done _ (port _ adopts)
    · exact adopts
  have keys : Same 0x1 s keyed := same_foldl (fun t f w =>
    same_ite (same_applyCalibration t f (by decide) w) (same_applyTouchKeys t f (by decide) w)) loads
  have captures : Same 0x1 s capturing := by
    unfold capturing
    split
    · exact port _ keys
    · exact keys
  exact ⟨capturing, congrArg Timeline.tick (captures.get .tl (by decide)), rfl⟩

end Start

/-! ### The end of a step (12 R542, R544) -/

theorem endScan_ends (s : State) (p last : Nat) (c : Scan) :
    (portOf (endScan s p last c) p).scan = none ∧ (portOf (endScan s p last c) p).endedAt = some last := by
  unfold endScan finishDone
  dsimp only
  split
  · split
    · rw [portOf_modPort_same]
      exact ⟨rfl, rfl⟩
    · rw [finish_port, portOf_modPort_same, portOf_modPort_same]
      exact ⟨rfl, rfl⟩
  · rw [portOf_modPort_same]
    exact ⟨rfl, rfl⟩

theorem endStep_none {s : State} {p : Nat} (none' : (portOf s p).scan = none) (first last : Nat) (iq : List (Int × Int)) :
    endStep s p first last iq = s := by
  unfold endStep
  dsimp only
  rw [none']

/-- Scan x is c after the end of its step in state s: the step's stamps are kept, and the next step has counted nothing. -/
def StepDone (s : State) (c : Scan) (first last : Nat) (x : Scan) : Prop :=
  x.step = c.step + 1 ∧ x.stepAt = now s ∧ x.counted = 0 ∧ x.stamps = c.stamps ++ [(first, last)]

section Step

variable {s : State} {p : Nat} {c : Scan} (scans : (portOf s p).scan = some c)
include scans

theorem endStep_waits (early : s.hokusaSafe = true ∨ now s < c.stepAt + c.cfg.settle ∨ stepCounted s (portOf s p) c = false)
    (first last : Nat) (iq : List (Int × Int)) : endStep s p first last iq = s := by
  unfold endStep
  dsimp only
  rw [scans]
  exact if_pos (by simpa [or_assoc] using early)

/-- A step that has counted enough ends: the last one ends the scan, any other goes over to the next. -/
theorem endStep_ends (up : s.hokusaSafe = false) (settled : c.stepAt + c.cfg.settle ≤ now s)
    (counted : stepCounted s (portOf s p) c = true) (first last : Nat) (iq : List (Int × Int)) :
    ∃ u x, StepDone s c first last x ∧ endStep s p first last iq =
      if stepCount (portOf s p) c.cfg ≤ c.step + 1 then endScan u p last x else modPort u p fun v => { v with scan := some x } := by
  unfold endStep
  dsimp only
  rw [scans]
  dsimp only
  rw [if_neg (by simp [up, counted, settled])]
  refine ⟨_, _, ?_, rfl⟩
  split <;> exact ⟨rfl, rfl, rfl, rfl⟩

end Step

/-! ### The products of a scan (12 R550) -/

/-- How far a port has come with its scans: those counted, and the last samples whose reports and whose products are to come. -/
def progress (v : TouchPort) : Nat × Option Nat × Option Nat := (v.scans, v.reportAt, v.endedAt)

theorem progress_foldl {α : Type} {f : TouchPort → α → TouchPort} (l : List α) (v : TouchPort)
    (hf : ∀ v x, progress (f v x) = progress v := by intros; rfl) : progress (l.foldl f v) = progress v :=
  List.foldlRecOn l f (motive := fun w => progress w = progress v) rfl fun w h x _ => (hf w x).trans h

theorem progress_acquirePhases (v : TouchPort) (c : Scan) (again : Bool) : progress (acquirePhases v c again) = progress v := by
  refine progress_foldl _ v fun w f => ?_
  extract_lets mine sum
  split <;> rfl

theorem progress_setMode (v : TouchPort) (set m : Nat) : progress (setMode v set m) = progress v := rfl

theorem progress_scanKeys (v : TouchPort) (ds : List Int) (a : Nat) : progress (scanKeys v ds a) = progress v := rfl

theorem progress_initSet (v : TouchPort) (set : Nat) (raws : List Int) : progress (initSet v set raws) = progress v := by
  unfold initSet
  extract_lets based marked
  have based' : progress based = progress v := progress_foldl ..
  have marked' : progress marked = progress based := progress_foldl _ _ fun w n => by split <;> rfl
  exact (progress_setMode ..).trans (marked'.trans based')

theorem progress_followScan (v : TouchPort) (set : Nat) (raws deltas : List Int) :
    progress (followScan v set raws deltas).1 = progress v := by
  unfold followScan
  extract_lets raw drifted followed
  have drifted' : progress drifted = progress v := progress_foldl _ _ fun w r => by
    extract_lets u o m
    split <;> rfl
  have followed' : progress followed = progress drifted := by
    unfold followed
    split
    · exact progress_foldl _ _ fun w n => by split <;> rfl
    · rfl
  refine List.foldlRecOn _ _ (motive := fun (w : TouchPort × Bool) => progress w.1 = progress v) (followed'.trans drifted')
    fun w kept n _ => ?_
  extract_lets u k u'
  split
  · exact kept
  · split <;> exact kept

theorem progress_hopAfter (v : TouchPort) (c : ScanCfg) (set : Nat) : progress (hopAfter v c set) = progress v := by
  unfold hopAfter
  extract_lets here k best
  split
  · rfl
  split
  · rfl
  split <;> rfl

theorem progress_trackScan (s : State) (p : Nat) (c : Scan) (ds : List Int) :
    progress (portOf (trackScan s p c ds) p) = progress (portOf s p) := by
  unfold trackScan
  extract_lets v hidden bs cs ms kept lone freeIds new beyond all count counted raised
  have tens : Same 0x100000 s counted := same_foldl (fun t k w => same_ite (same_modTen t _ _ (by decide) w) w) same_refl
  have events : Same 0x100000 s raised := same_ite tens (same_raise _ _ _ (by decide) tens)
  rw [portOf_modPort_same]
  show progress (portOf raised p) = _
  rw [portOf_of_touch (events.get .touch (by decide))]

/-- Making the products counts the scan and owes its report. Each stage's port is made opaque once its progress is known, so that
the next stage does not unfold the ones before it. -/
theorem makeProducts_progress {s : State} {p last : Nat} {c : Scan} (at' : (portOf s p).endedAt = some last)
    (ended : (portOf s p).ended = some c) (free : (portOf s p).capture = none) :
    progress (portOf (makeProducts s p) p) = (((portOf s p).scans + 1) % 2 ^ 32, some last, none) := by
  unfold makeProducts
  extract_lets v0 buf t
  rw [show v0.ended = some c from ended, show v0.endedAt = some last from at']
  dsimp -zeta only
  rw [if_neg (by simp [v0, free])]
  extract_lets acquired full raws sat measured first begun ds inBlob cov covered followed t' t''
  have counted : progress (portOf t p) = (((portOf s p).scans + 1) % 2 ^ 32, (portOf s p).reportAt, none) := by
    unfold t
    rw [portOf_modPort_same]
    rfl
  have acquired' : progress acquired = progress (portOf t p) := progress_acquirePhases ..
  clear_value acquired
  have measured' : progress measured = progress (portOf t p) := acquired'
  clear_value measured first
  have begun' : progress begun = progress (portOf t p) := by
    unfold begun
    split
    · exact (progress_initSet ..).trans measured'
    · exact measured'
  clear_value begun
  have covered' : progress covered = progress (portOf t p) := begun'
  clear_value covered
  have followed' : progress followed = progress (portOf t p) := by
    refine (progress_scanKeys ..).trans ((progress_hopAfter ..).trans ?_)
    split
    · exact covered'
    · exact (progress_followScan ..).trans covered'
  have kept : Same 0x100000 t' t'' := same_ite (same_raise _ _ _ (by decide) same_refl) same_refl
  have report : progress (portOf t'' p) = ((progress followed).1, some last, (progress followed).2.2) := by
    rw [portOf_of_touch (kept.get .touch (by decide))]
    unfold t'
    rw [portOf_modPort_same]
    rfl
  rw [portOf_modPort_same]
  refine (progress_trackScan t'' p c ds).trans ?_
  rw [report, followed', counted]

/-! ### A stopped line and the self-test (12 R561, R564) -/

theorem stopTx_idle {s : State} {p x : Nat} (h : (portOf s p).scan = none ∨ tCnt (portOf s p) ≤ x) : stopTx s p x = s :=
  if_pos (by simpa using h)

theorem stopTx_marks {s : State} {p x : Nat} (scans : (portOf s p).scan.isSome = true) (line : x < tCnt (portOf s p)) :
    tget false (portOf (stopTx s p x) p).faultTx x = true ∧
      (evSrc (stopTx s p x) (srcTouchPort p 3)).cause.testBit 0 = true ∧ (lgSrc (stopTx s p x) 32).on = true := by
  have stops : stopTx s p x = assert (raise (modPort s p fun v => { v with faultTx := tset false v.faultTx x true })
      (srcTouchPort p 3) 0) 32 0 := if_neg (by simp [line, Option.isSome_iff_ne_none.1 scans])
  rw [stops]
  refine ⟨?_, assert_keeps_cause _ _ _ _ _ _ (raise_sets ..), assert_sets _ _ _ _ (by decide)⟩
  rw [portOf_of_touch ((same_assert (ps := 0x100000) _ 32 0 false (by decide) same_refl).get .touch (by decide)),
    portOf_raise, portOf_modPort_same, tget_tset_same]

theorem endSelftest_idle {s : State} {p : Nat} (none' : portFlight s p 0x74 = none) (gnd sup next : List Nat) (opens : List Int) :
    endSelftest s p gnd sup next opens = s := by
  unfold endSelftest
  rw [none']

theorem endSelftest_ends {s : State} {p : Nat} {f : Flight} (waits : portFlight s p 0x74 = some f) (gnd sup next : List Nat)
    (opens : List Int) : (portOf (endSelftest s p gnd sup next opens) p).selftest = false ∧
      (portOf (endSelftest s p gnd sup next opens) p).faultTx = [] ∧
      (endSelftest s p gnd sup next opens).flights = s.flights.filter fun x => x.id ≠ f.id := by
  unfold endSelftest finishDone
  rw [waits]
  dsimp only
  rw [finish_port, finish_flights, portOf_hostWrite, portOf_modPort_same]
  exact ⟨rfl, rfl, rfl⟩

/-! ### The commands -/

/-- Settles O48: each clause is one case of the operation of its command. -/
theorem touchScans : Obligations.TouchScans := by
  unfold Obligations.TouchScans
  intro s p
  refine ⟨fun idle => ⟨_, rfl, scanStartOf_idle idle⟩, fun due busy => ⟨_, rfl, ?skip⟩, fun due free => ⟨_, rfl, ?start⟩,
    fun a b iq free => ⟨_, rfl, endStep_none free a b iq⟩,
    fun c a b iq scans => ⟨fun early => ⟨_, rfl, endStep_waits scans early a b iq⟩, fun up settled counted => ?step⟩,
    fun early => ⟨_, rfl, if_neg (by simp [early])⟩, fun last c at' ended due free => ⟨_, rfl, ?products⟩,
    fun x idle => ⟨_, rfl, stopTx_idle idle⟩, fun x scans line => ⟨_, rfl, stopTx_marks scans line⟩,
    fun a b n o idle => ⟨_, rfl, endSelftest_idle idle a b n o⟩, fun f a b n o waits => ⟨_, rfl, endSelftest_ends waits a b n o⟩⟩
  case skip =>
    dsimp only
    rw [scanStartOf_skips due busy, portOf_raise, portOf_modPort_same, portOf_modPort_same]
    exact ⟨rfl, rfl, raise_sets ..⟩
  case start =>
    obtain ⟨u, tick, begins⟩ := scanStartOf_begins due free
    rw [begins, ← tick]
    exact beginScan_starts u p
  case step =>
    obtain ⟨u, x, ⟨step, since, none', stamps⟩, e⟩ := endStep_ends scans up settled counted a b iq
    refine ⟨fun more => ⟨_, rfl, x, ?_, step, since, none', stamps⟩, fun final => ⟨_, rfl, ?_⟩⟩
    · rw [e, if_neg (by omega), portOf_modPort_same]
    · rw [e, if_pos final]
      exact endScan_ends u p b x
  case products =>
    have made := makeProducts_progress at' ended free
    rw [if_pos (by simpa [productsDue, at'] using due)]
    simpa [progress] using made

end Sys2Proof.Machine
end

section
/-! PROOFS. A step of a command at the front of the queue (O1), the latched HALT bit (O7), and the parts of the state that
each command leaves alone (O6). -/

namespace Sys2Proof.Machine

/-- Settles O1: a step looks at the front of the queue first. -/
theorem stepRunsTheFrontCommand : Obligations.StepRunsTheFrontCommand := by
  unfold Obligations.StepRunsTheFrontCommand
  intro s c rest
  exact step_front rfl

/-! ### The latched HALT bit (20 R797) -/

theorem coldState_latch (s : State) (r : Bool) (p : Power) : (coldState s r p).lg.haltSrc = s.lg.haltSrc := coldLedger_latch s.lg

theorem releaseReset_latch (s : State) (v : Nat) : (releaseReset s v).lg.haltSrc = s.lg.haltSrc := by
  cases down : s.pw.aonDown
  case true => rw [releaseReset_down down]
  case false => rw [releaseReset_up down, coldState_latch]

theorem assertReset_latch (s : State) : (assertReset s).lg.haltSrc = s.lg.haltSrc := by
  cases down : s.pw.aonDown
  case true => rw [assertReset_down down]
  case false => rw [assertReset_up down, coldState_latch]

theorem aonRise_latch (s : State) : (aonRise s).lg.haltSrc = s.lg.haltSrc := coldState_latch ..

/-- Every command but a fall of the AON supply keeps a latched HALT bit. -/
theorem exec_keeps_latch {c : Instr} {s t : State} {b : Nat} (up : c ≠ .aonSupplyFall) (latched : s.lg.haltSrc = some b)
    (e : exec c s = .next t) : t.lg.haltSrc = some b := by
  cases x : coldStart c
  case false => exact (kept_exec x e (kept_self s)).latch b latched
  case true =>
    rw [← latched]
    cases c
    case resetRelease v => cases e; exact releaseReset_latch s v
    case resetAssertion => cases e; exact assertReset_latch s
    case aonSupplyRise => cases e; exact aonRise_latch s
    case aonSupplyFall => exact absurd rfl up
    all_goals cases x

theorem idle_keeps_latch {s : State} {b : Nat} (latched : s.lg.haltSrc = some b) : (idle s).lg.haltSrc = some b := by
  cases runs : clockRuns s
  case false => rwa [idle_stopped runs]
  case true =>
    rw [idle_runs runs, modPending_lg]
    exact (kept_ticked (kept_self s)).latch b latched

/-- Settles O7: neither a tick nor a command but a fall of the AON supply clears the latch, and that clears it. -/
theorem haltLatchKept : Obligations.HaltLatchKept := by
  unfold Obligations.HaltLatchKept
  refine ⟨?kept, fun s => ⟨_, rfl, rfl⟩⟩
  intro s t b latched e front
  cases queue : s.pending with
  | nil =>
    rw [step_idle queue] at e
    cases e
    exact idle_keeps_latch latched
  | cons c rest =>
    rw [step_front queue] at e
    rw [queue] at front
    exact exec_keeps_latch (s := s.modPending fun _ => rest) (fun h => front (congrArg some h)) latched e

/-! ### The parts a command leaves alone (95_what_each_step_holds.md)

A list of parts is a set of bits; a part outside the list shares no bit with it, so an operation whose bits all lie in the list
leaves the part alone. -/

/-- The bits of a list of parts. -/
def partBits (l : List Part) : Nat := l.foldr (fun p n => p.bit ||| n) 0

theorem Part.bit_eq (p : Part) : p.bit = 2 ^ p.ctorIdx := by cases p <;> rfl

theorem Part.ofNat_ctorIdx' (p : Part) : Part.ofNat p.ctorIdx = p := by cases p <;> rfl

theorem Part.bit_disjoint {p r : Part} (h : p ≠ r) : p.bit &&& r.bit = 0 := by
  have other : p.ctorIdx ≠ r.ctorIdx := fun e => h (by rw [← Part.ofNat_ctorIdx' p, e, Part.ofNat_ctorIdx'])
  rw [Part.bit_eq, Part.bit_eq, Nat.and_two_pow, Nat.testBit_two_pow_of_ne other]
  simp

theorem bit_and_partBits {p : Part} {l : List Part} (h : p ∉ l) : p.bit &&& partBits l = 0 := by
  induction l with
  | nil => exact Nat.and_zero _
  | cons r l ih =>
    obtain ⟨hr, hl⟩ := List.ne_and_not_mem_of_not_mem_cons h
    show p.bit &&& (r.bit ||| partBits l) = 0
    rw [Nat.and_or_distrib_left, Part.bit_disjoint hr, ih hl, Nat.zero_or]

/-- A part outside a list has no bit among those that the list covers. -/
theorem apart {p : Part} {l : List Part} {a : Nat} (out : p ∉ l) (within : partBits l ||| a = partBits l) : p.bit &&& a = 0 :=
  avoid (bit_and_partBits out) within

section
variable {p : Part} {z s t u : State} {c : Instr}

theorem same_next {ps : Nat} (e : (Host.Outcome.next u : Answer) = .next t) (w : Same ps z u) : Same ps z t := by
  cases e
  exact w

/-- A part that a command's row does not name is what it was: the bits of the operation that the command calls lie within the
row's. -/
theorem same_exec (out : p ∉ touches c) (e : exec c s = .next t) (w : Same p.bit z s) : Same p.bit z t := by
  cases c <;> dsimp only [touches] at out
  case nop | deviceIdentify | hostSuspend | resourceQuery | timelineConfig | timelineSteer | timelineStatus |
      karbobinLoad | tenancyCreate | tenancyGrant | tenancyResume | tenancyReset | tenancyRemove | tenancyFreeze
      | tenancySave | tenancyRestore | tenancyQuery | tenancyAperture | layerAlloc | layerClut | layerPolicy |
      layerStatus | headConfig | headEnable | headDisable | headPush | headUnderrun | headQuiet | headDsc |
      headStatus | headLink | assayAlloc | assayExpect | assayRead | gpuContextCreate | gpuContextDestroy |
      gpuShaderLoad | gpuJobKill | gpuContextQuery | touchPortConfig | touchScanConfig | touchBaselineLoad |
      touchBaselineSave | touchSelftest | touchCalibration | touchKeys | touchReportRing | hapticConfig |
      hapticPlay | hapticStop | hapticTriggerMap | hapticStatus | audioPortConfig | audioStreamConfig |
      audioStreamStart | audioStreamStop | audioGain | audioFilter | audioJackStatus | dmaChannelConfig |
      dmaCopy | dmaFill | dmaCompare | dmaCopy2d | eventRingConfig | eventTarget | eventMask | eventPendSet |
      eventGlobalDisable | eventStatus | powerState | powerRetain | powerGate | powerWakeConfig | memSpare |
      memStatus | memPowerdown | memLatency | stockroomQuery | secureMeasurements | secureAppletLoad |
      secureAppletStart | secureAppletStop | secureLayer | migrationKeyOffer | migrationKeyAccept |
      migrationKeyDestroy | diagLedgerRead | diagFaultLogRead | diagLedgerClear | diagFaultInject =>
    exact same_next e (same_ringCommand _ _ _ _ _ _ (fun _ _ u => u) (apart out rfl) w)
  case tenancyQuiesce => exact same_next e (same_ringCommand _ _ _ _ _ _ (fun _ _ => same_commitQuiesce _ _ (apart out rfl)) (apart out rfl) w)
  case layerUpdate => exact same_next e (same_ringCommand _ _ _ _ _ _ (fun _ _ => same_commitLayerUpdate _ _ (apart out rfl)) (apart out rfl) w)
  case layerFree => exact same_next e (same_ringCommand _ _ _ _ _ _ (fun _ _ => same_commitLayerFree _ _ (apart out rfl)) (apart out rfl) w)
  case layerMove => exact same_next e (same_ringCommand _ _ _ _ _ _ (fun _ _ => same_commitLayerMove _ _ (apart out rfl)) (apart out rfl) w)
  case assayConfig => exact same_next e (same_ringCommand _ _ _ _ _ _ (fun _ _ => same_commitAssayEnd _ _ (apart out rfl)) (apart out rfl) w)
  case assayFree => exact same_next e (same_ringCommand _ _ _ _ _ _ (fun _ _ => same_commitAssayEnd _ _ (apart out rfl)) (apart out rfl) w)
  case shadowRegion => exact same_next e (same_ringCommand _ _ _ _ _ _ (fun _ _ => same_commitShadowRegion _ _ (apart out rfl)) (apart out rfl) w)
  case gpuJobSubmit => exact same_next e (same_ringCommand _ _ _ _ _ _ (fun _ _ => same_commitJobSubmit _ _ (apart out rfl)) (apart out rfl) w)
  case audioRoute => exact same_next e (same_ringCommand _ _ _ _ _ _ (fun _ _ => same_commitAudioRoute _ _ (apart out rfl)) (apart out rfl) w)
  case audioTone => exact same_next e (same_ringCommand _ _ _ _ _ _ (fun _ _ => same_commitAudioTone _ _ (apart out rfl)) (apart out rfl) w)
  case dmaResume => exact same_next e (same_ringCommand _ _ _ _ _ _ (fun _ _ => same_commitDmaResume _ _ (apart out rfl)) (apart out rfl) w)
  case dmaAbort => exact same_next e (same_ringCommand _ _ _ _ _ _ (fun _ _ => same_commitDmaAbort _ _ (apart out rfl)) (apart out rfl) w)
  case memRetire => exact same_next e (same_ringCommand _ _ _ _ _ _ (fun _ _ => same_commitMemRetire _ _ (apart out rfl)) (apart out rfl) w)
  case stockroomStager => exact same_next e (same_ringCommand _ _ _ _ _ _ (fun _ _ => same_commitStockroomStager _ _ (apart out rfl)) (apart out rfl) w)
  case crTail => exact same_next e (same_ite (same_keepTail _ _ _ (apart out rfl) w) (same_ite (same_ringDoorbell _ _ _ _ (apart out rfl) w) w))
  case ccHead => exact same_next e (same_ite (same_completionDoorbell _ _ _ _ (apart out rfl) w) w)
  case evHead =>
    refine same_next e ?_
    split
    · exact same_eventDoorbell _ _ _ _ _ (apart out rfl) w
    · exact w
  case crCfgEnable => exact same_next e (same_ite (same_enableCommandRing _ _ _ _ (apart out rfl) w) w)
  case crCfgDisable => exact same_next e (same_ite (same_disableCommandRing _ _ _ _ (apart out rfl) w) w)
  case ccCfgEnable => exact same_next e (same_ite (same_enableCompletionRing _ _ _ _ (apart out rfl) w) w)
  case ccCfgDisable => exact same_next e (same_ite (same_disableCompletionRing _ _ _ _ (apart out rfl) w) w)
  case tlcTickLo => exact same_next e (same_latchTlc _ _ (apart out rfl) w)
  case bootCtrlGo => exact same_next e (same_bootGo _ _ (apart out rfl) w)
  case secureWmWrite => exact same_next e (same_writeSrMark _ _ (apart out rfl) w)
  case dramWmWrite => exact same_next e (same_writeDramMark _ _ (apart out rfl) w)
  case lockSet => exact same_next e (same_setLock _ _ (apart out rfl) w)
  case lgStatusClear => exact same_next e (same_clearLedger _ _ (apart out rfl) w)
  case registerWrite => exact same_next e (same_registerWriteOf _ _ _ _ _ (apart out rfl) w)
  case svRead => exact same_next e (same_svReadOf _ _ _ _ _ (apart out rfl) w)
  case svWrite => exact same_next e (same_svWriteOf _ _ _ _ _ (apart out rfl) w)
  case mboxSend => exact same_next e (same_mboxSendOf _ _ _ _ (apart out rfl) w)
  case mboxRecv => exact same_next e (same_mboxRecvOf _ _ _ _ (apart out rfl) w)
  case ttSprite => exact same_next e (same_ttSpriteOf _ _ (apart out rfl) w)
  case ttPalette => exact same_next e (same_ttPaletteOf _ _ (apart out rfl) w)
  case ttImage => exact same_next e (same_ttImageOf _ _ (apart out rfl) w)
  case regRead => exact same_next e (same_regReadOf _ _ (apart out rfl) w)
  case debugUnlock => exact same_next e (same_debugUnlockOf _ _ (apart out rfl) w)
  case i2cAddressMatch => exact same_next e (same_i2cWrite _ _ _ (apart out rfl) w)
  case wakeRead => exact same_next e (same_i2cRead _ _ (apart out rfl) w)
  case referenceEdge => exact same_next e (same_ite (same_referenceEdgeOf _ _ _ (apart out rfl) w) w)
  case epochStart => exact same_next e (same_epochStartOf _ _ (apart out rfl) w)
  case turnStart => exact same_next e (same_turnStartOf _ _ (apart out rfl) w)
  case descriptorArrival => exact same_next e (same_descriptorArrives _ _ _ (apart out rfl) w)
  case descriptorFetchTimeout => exact same_next e (same_descriptorLate _ _ (apart out rfl) w)
  case firstCompletion => exact same_next e (same_firstCompletionOf _ _ (apart out rfl) w)
  case hostDataArrival => exact same_next e (same_hostDataOf _ _ _ (apart out rfl) w)
  case moderationTimeout => exact same_next e (same_windowEnds _ _ _ (apart out rfl) w)
  case eventClaim => exact same_next e (same_claimEvent _ _ (apart out rfl) w)
  case functionLevelReset => exact same_next e (same_resetFunction _ _ (apart out rfl) w)
  case d3hotEntry => exact same_next e (same_enterD3 _ _ (apart out rfl) w)
  case d0Return => exact same_next e (same_returnToD0 _ _ (apart out rfl) w)
  case busMasterEnableClear => exact same_next e (same_clearMaster _ _ (apart out rfl) w)
  case vectorUnmask => exact same_next e (same_ite (same_unmask _ _ _ (apart out rfl) w) w)
  case pcieLinkDown => exact same_next e (same_loseLink _ _ (apart out rfl) w)
  case workOrderExecute =>
    refine same_next e ?_
    split
    · exact same_executeOrder _ _ (apart out rfl) w
    · exact w
  case workOrderLate =>
    refine same_next e ?_
    split
    · exact same_lateOrder _ _ (apart out rfl) w
    · exact w
  case lineStart => exact same_next e (same_lineStartOf _ _ (apart out rfl) w)
  case stagerSwitch => exact same_next e (same_stagerSwitchOf _ _ (apart out rfl) w)
  case stagerRequest => exact same_next e (same_stagerRequestOf _ _ _ (apart out rfl) w)
  case stagingArrival => exact same_next e (same_stagingArrivalOf _ _ _ (apart out rfl) w)
  case underrun => exact same_next e (same_underrunOf _ _ (apart out rfl) w)
  case teEdge => exact same_next e (same_teEdgeOf _ _ _ (apart out rfl) w)
  case teMissed => exact same_next e (same_teMissedOf _ _ (apart out rfl) w)
  case pushEnd => exact same_next e (same_pushEndOf _ _ (apart out rfl) w)
  case linkLost => exact same_next e (same_linkLostOf _ _ (apart out rfl) w)
  case hpdRise => exact same_next e (same_hpdOf _ _ (apart out rfl) w)
  case hpdIrq => exact same_next e (same_hpdOf _ _ (apart out rfl) w)
  case retrainAttempt => exact same_next e (same_retrainOf _ _ (apart out rfl) w)
  case linkTrainingDone => exact same_next e (same_trainingDoneOf _ _ _ (apart out rfl) w)
  case limitInstant => exact same_next e (same_limitOf _ _ (apart out rfl) w)
  case jobStart => exact same_next e (same_startJob _ _ (apart out rfl) w)
  case jobComplete => exact same_next e (same_completeJob _ _ _ _ _ (apart out rfl) w)
  case timeLimit => exact same_next e (same_limitJob _ _ (apart out rfl) w)
  case tileListPoolOverflow => exact same_next e (same_overflowPool _ _ _ (apart out rfl) w)
  case shaderAccessFault => exact same_next e (same_accessFault _ _ (apart out rfl) w)
  case grTileUe => exact same_next e (same_tileUe _ _ (apart out rfl) w)
  case groveResetDone => exact same_next e (same_resetDone _ _ (apart out rfl) w)
  case grReset => exact same_next e (same_resetOverrun _ _ (apart out rfl) w)
  case scanStart => exact same_next e (same_scanStartOf _ _ (apart out rfl) w)
  case stepEnd => exact same_next e (same_endStep _ _ _ _ _ (apart out rfl) w)
  case scanProductsDone => exact same_next e (same_ite (same_makeProducts _ _ (apart out rfl) w) w)
  case reportWrite => exact same_next e (same_writeReports _ _ (apart out rfl) w)
  case keyTrigger => exact same_next e (same_triggerKeys _ _ (apart out rfl) w)
  case touchStale => exact same_next e (same_markStale _ _ _ (apart out rfl) w)
  case txOvercurrent => exact same_next e (same_stopTx _ _ _ (apart out rfl) w)
  case watchScan => exact same_next e (same_scanWatch _ _ (apart out rfl) w)
  case hapTrigEdge => exact same_next e (same_trigEdge _ _ _ (apart out rfl) w)
  case triggerAccept => exact same_next e (same_acceptTrigger _ _ (apart out rfl) w)
  case hapTrigWake => exact same_next e (same_trigWake _ _ (apart out rfl) w)
  case zeroCrossing => exact same_next e (same_crossZero _ _ _ _ _ (apart out rfl) w)
  case segmentEnd => exact same_next e (same_endSegment _ _ (apart out rfl) w)
  case brakeEnd => exact same_next e (same_endBrake _ _ (apart out rfl) w)
  case actuatorFault => exact same_next e (same_hapFault _ _ _ (apart out rfl) w)
  case vhapLow => exact same_next e (same_vhapFell _ _ (apart out rfl) w)
  case vhapRecover => exact same_next e (same_vhapRose _ _ (apart out rfl) w)
  case sampleStart => exact same_next e (same_unitSampleOf _ _ _ (apart out rfl) w)
  case frameSyncEdge => exact same_next e (same_portEdgeOf _ _ _ (apart out rfl) w)
  case syncLost => exact same_next e (same_syncLostOf _ _ (apart out rfl) w)
  case audioPeriod => exact same_next e (same_audioPeriodOf _ _ (apart out rfl) w)
  case audioCompare => exact same_next e (same_ite (same_compareAudio _ _ (apart out rfl) w) w)
  case jackInsertion => exact same_next e (same_jackSwitch _ _ _ (apart out rfl) w)
  case jackDebounce => exact same_next e (same_jackDebounced _ _ (apart out rfl) w)
  case jackClassified => exact same_next e (same_jackFound _ _ _ _ (apart out rfl) w)
  case jackRemoval => exact same_next e (same_jackRemoved _ _ (apart out rfl) w)
  case audioButton => exact same_next e (same_buttonHeld _ _ _ (apart out rfl) w)
  case audioDriver => exact same_next e (same_driverTrip _ _ (apart out rfl) w)
  case dmaTransferDone =>
    refine same_next e ?_
    split
    · exact same_transferDone _ _ _ (fun _ _ _ _ => same_foldDma _ _ _ _ (apart out rfl)) (apart out rfl) w
    · exact w
  case completionTimeout => exact same_next e (same_failAccess _ _ _ (apart out rfl) w)
  case urCa => exact same_next e (same_failAccess _ _ _ (apart out rfl) w)
  case noMaster => exact same_next e (same_failAccess _ _ _ (apart out rfl) w)
  case poisonedCompletion =>
    refine same_next e ?_
    split
    · exact same_markPoisoned _ _ _ _ (apart out rfl) w
    · exact w
  case stockroomRequest => exact same_servePortFed _ _ e (apart out rfl) w
  case shelfZeroised => exact same_next e (same_shelfDone _ _ (apart out rfl) w)
  case dramRequest => exact same_next e (same_serveDram _ _ (apart out rfl) w)
  case plotZeroised => exact same_next e (same_plotDone _ _ (apart out rfl) w)
  case mr4Poll => exact same_next e (same_pollMr4 _ _ (apart out rfl) w)
  case refresh => exact same_next e (same_useRank _ _ (apart out rfl) w)
  case powerDownEntry => exact same_next e (same_powerDownRank _ _ (apart out rfl) w)
  case trainingDone => exact same_next e (same_trainingEnds _ _ _ _ (apart out rfl) w)
  case serviceResume => exact same_next e (same_resumeWarden _ _ _ (apart out rfl) w)
  case appletEnd => exact same_next e (same_appletEnds _ _ _ _ (apart out rfl) w)
  case limitMs => exact same_next e (same_appletLimit _ _ (apart out rfl) w)
  case parityError => exact same_next e (same_parityFault _ _ _ (apart out rfl) w)
  case resumption => exact same_next e (same_resume _ _ _ _ (fun _ _ _ => same_ringDoorbell _ _ _ _ (apart out rfl)) (apart out rfl) w)
  case bootImageLoad => exact same_next e (same_loadImage _ _ _ _ (apart out rfl) w)
  case busMasterEnableSet => exact same_next e (same_setMaster _ _ (apart out rfl) w)
  case wardenReply => exact same_next e (same_wardenReplyOf _ _ (apart out rfl) w)
  case selftestDone => exact same_next e (same_endSelftest _ _ _ _ _ _ (apart out rfl) w)
  case auxDcsReply => exact same_next e (same_linkReplyOf _ _ _ (apart out rfl) w)
  case jobRunTimeFault => exact same_next e (same_runFault _ _ _ (apart out rfl) w)
  case onSegmentRise => exact same_next e (same_riseSegment _ _ (apart out rfl) w)
  case timedFinalCompletion => exact same_next e (same_timedFinalOf _ _ (apart out rfl) w)
  case tlTickLo => exact same_next e (same_latchTick _ (apart out rfl) w)
  case forceHalt => exact same_next e (same_ite (same_forceHaltNow _ (apart out rfl) w) w)
  case frameCutShort => exact same_next e (same_frameCut _ (apart out rfl) w)
  case heartbeat => exact same_next e (same_heartbeat _ (apart out rfl) w)
  case pgoodFall => exact same_next e (same_losePgood _ (apart out rfl) w)
  case referenceEdgeMissing => exact same_next e (same_edgeMissing _ (apart out rfl) w)
  case steerTimeout => exact same_next e (same_steerLate _ (apart out rfl) w)
  case pf0FunctionLevelReset => exact same_next e (same_resetPf0 _ (apart out rfl) w)
  case firstPauseEnd => exact same_next e (same_endFirstPause _ (apart out rfl) w)
  case copyEnd => exact same_next e (same_endCopy _ (apart out rfl) w)
  case migrateDone => exact same_next e (same_endMigration _ (apart out rfl) w)
  case d2dLinkLoss => exact same_next e (same_loseD2d _ (apart out rfl) w)
  case d2dLinkRetrained => exact same_next e (same_regainD2d _ (apart out rfl) w)
  case hbTimeout => exact same_next e (same_ite (same_restartWarden _ (apart out rfl) w) w)
  case wardenSelfRestart => exact same_next e (same_selfRestart _ (apart out rfl) w)
  case cpLockstep => exact same_next e (same_faultLine _ _ _ (apart out rfl) w)
  case clockFail => exact same_next e (same_faultLine _ _ _ (apart out rfl) w)
  case tempHigh => exact same_next e (same_faultLine _ _ _ (apart out rfl) w)
  case tempCrit => exact same_next e (same_faultLine _ _ _ (apart out rfl) w)
  case supplyFault => exact same_next e (same_faultLine _ _ _ (apart out rfl) w)
  case pcieFatal => exact same_next e (same_faultLine _ _ _ (apart out rfl) w)
  case reactionStart => exact same_next e (same_startReaction _ (apart out rfl) w)
  case reactionComplete => exact same_next e (same_completeReaction _ (apart out rfl) w)
  case entryInstant => exact same_next e (same_enterState _ (apart out rfl) w)
  case l2L3Ready => exact same_next e (same_endL2Wait _ (apart out rfl) w)
  case l2WaitTimeout => exact same_next e (same_ite (same_endL2Wait _ (apart out rfl) w) w)
  case stageReady => exact same_next e (same_stageUp _ (apart out rfl) w)
  case stageTimeout => exact same_next e (same_stageLate _ (apart out rfl) w)
  case vfEnableSet => exact same_next e (same_setVfEnable _ (apart out rfl) w)
  case cpSramUe => exact same_next e (same_faultLine _ _ _ (apart out rfl) w)
  case pwrReqReassert => exact same_next e (same_raisePwrReq _ (apart out rfl) w)
  case rcFallback => exact same_next e (same_modPw (apart out rfl) w)
  case syncOutPulse => exact same_next e (same_syncEdges _ (apart out rfl) w)
  case resetRelease => exact same_next e (same_releaseReset _ _ (apart out rfl) w)
  case resetAssertion => exact same_next e (same_assertReset _ (apart out rfl) w)
  case aonSupplyRise => exact same_next e (same_aonRise _ (apart out rfl) w)
  case aonSupplyFall => exact same_next e (same_aonFall _ (apart out rfl) w)

end

theorem Part.bit_ne_zero (p : Part) : p.bit &&& p.bit ≠ 0 := by
  rw [Nat.and_self, Part.bit_eq]
  exact (Nat.two_pow_pos _).ne'

/-- Settles O6: no command touches the queue, and a part outside a command's row is what it was. -/
theorem commandFrame : Obligations.CommandFrame := by
  unfold Obligations.CommandFrame
  exact fun c s t e => ⟨(kept_exec_queue e (kept_self s)).queue, fun p out => (same_exec out e same_refl).get p p.bit_ne_zero⟩

end Sys2Proof.Machine
end


section
/-! PROOFS. The reports of a touch port (O49): the report rings of its parties, the effects its keys owe, and stale contacts. -/

namespace Sys2Proof.Machine

/-! ### Reports (13 R598 to R602) -/

/-- A ring whose report could not be written. -/
def reportSkipped (r : ReportRing) : ReportRing := { r with skipped := min 0xFFFFFFFF (r.skipped + 1) }

/-- The index at which the report after a ring's next one goes. -/
def nextReport (r : ReportRing) : Nat := if 2 ^ r.sizeLog2 ≤ r.index + 1 then 0 else r.index + 1

/-- A party's report moves that party's ring alone, and no instant of the port. -/
theorem writeReport_moves (s : State) (p n last : Nat) (first : Bool) :
    (portOf (writeReport s p n last first) p).reportAt = (portOf s p).reportAt ∧
    (∀ k, k ≠ n → ringOf (portOf (writeReport s p n last first) p) k = ringOf (portOf s p) k) ∧
    ((ringOf (portOf s p) n).enable = true → (ringOf (portOf s p) n).since < last →
      (canWrite s n = false → ringOf (portOf (writeReport s p n last first) p) n = reportSkipped (ringOf (portOf s p) n)) ∧
      (canWrite s n = true → (ringOf (portOf (writeReport s p n last first) p) n).index = nextReport (ringOf (portOf s p) n))) := by
  have set : ∀ (v : TouchPort) (r : ReportRing) k, k ≠ n → ringOf { v with rings := tset {} v.rings n r } k = ringOf v k :=
    fun v r k other => tget_tset_other _ _ _ _ _ other
  unfold writeReport
  dsimp only
  split
  · next off => exact ⟨rfl, fun _ _ => rfl, fun on new => by simp [on, Nat.not_le.2 new] at off⟩
  split
  · next barred =>
    rw [portOf_modPort_same]
    refine ⟨rfl, fun k other => set _ _ k other, fun _ _ => ⟨fun _ => tget_tset_same .., fun may => by simp [may] at barred⟩⟩
  · next reach =>
    have may : canWrite s n = true := by simpa using reach
    have left : ∀ u r, (portOf u p = { portOf s p with rings := tset {} (portOf s p).rings n r }) →
        r.index = nextReport (ringOf (portOf s p) n) → (portOf u p).reportAt = (portOf s p).reportAt ∧
        (∀ k, k ≠ n → ringOf (portOf u p) k = ringOf (portOf s p) k) ∧
        ((ringOf (portOf s p) n).enable = true → (ringOf (portOf s p) n).since < last →
          (canWrite s n = false → ringOf (portOf u p) n = reportSkipped (ringOf (portOf s p) n)) ∧
          (canWrite s n = true → (ringOf (portOf u p) n).index = nextReport (ringOf (portOf s p) n))) := fun u r e index =>
      ⟨by rw [e], fun k other => by rw [e]; exact set _ _ k other, fun _ _ => ⟨fun barred => by simp [may] at barred,
        fun _ => by rw [e, ← index]; exact congrArg ReportRing.index (tget_tset_same ..)⟩⟩
    split
    · exact left _ _ (by rw [portOf_raise, portOf_modPort_same, portOf_hostWrite]) (by simp [nextReport])
    · exact left _ _ (by rw [portOf_modPort_same, portOf_hostWrite]) (by simp [nextReport])

theorem writeReports_idle {s : State} {p : Nat} (idle : reportDue s p = false) : writeReports s p = s := if_pos (by simp [idle])

theorem reportDue_since {s : State} {p last : Nat} (owed : (portOf s p).reportAt = some last) (late : last + 160000 ≤ now s)
    (runs : halted s = false) : reportDue s p = true := by
  unfold reportDue
  simp [owed, late, runs]

/-- The contacts on secure content of a scan, for the Warden's mailbox. -/
def secureContacts (v : TouchPort) (p : Nat) : List (Nat × List Byte) :=
  (v.contacts.filter fun c => c.dest == 0x1D && !c.dropped).map fun c => (p, contactRecord v c)

/-- The state in which a port owes no report and the Warden has its part. -/
def reportTaken (s : State) (p : Nat) : State :=
  (modPort s p fun v => { v with reportAt := none, ended := none }).modTouch fun t =>
    { t with secure := t.secure ++ secureContacts (portOf s p) p }

theorem reportTaken_port (s : State) (p : Nat) : portOf (reportTaken s p) p = { portOf s p with reportAt := none, ended := none } :=
  portOf_modPort_same s p fun v => { v with reportAt := none, ended := none }

theorem writeReports_due {s : State} {p last : Nat} (owed : (portOf s p).reportAt = some last) (late : last + 160000 ≤ now s)
    (runs : halted s = false) :
    ∃ first, writeReports s p = (List.range 17).foldl (fun t n => writeReport t p n last first) (reportTaken s p) := by
  unfold writeReports
  rw [if_neg (by simp [reportDue_since owed late runs])]
  dsimp only
  rw [owed]
  exact ⟨_, rfl⟩

/-- The report ring of a party at a port. -/
def partyRing (p : Nat) (s : State) (n : Nat) : ReportRing := ringOf (portOf s p) n

/-- Each party's ring stands as its own report leaves it, whatever the reports of the others. -/
theorem writeReports_rings {s : State} {p last : Nat} (owed : (portOf s p).reportAt = some last) (late : last + 160000 ≤ now s)
    (runs : halted s = false) {n : Nat} (party : n ≤ 16) (on : (ringOf (portOf s p) n).enable = true)
    (new : (ringOf (portOf s p) n).since < last) :
    (canWrite s n = false → ringOf (portOf (writeReports s p) p) n = reportSkipped (ringOf (portOf s p) n)) ∧
      (canWrite s n = true → (ringOf (portOf (writeReports s p) p) n).index = nextReport (ringOf (portOf s p) n)) := by
  obtain ⟨first, e⟩ := writeReports_due owed late runs
  have start : ringOf (portOf (reportTaken s p) p) n = ringOf (portOf s p) n := by rw [reportTaken_port]; rfl
  have pages : Same 0xC s (reportTaken s p) := same_modTouch (by decide) (same_modPort s p _ (by decide) same_refl)
  obtain ⟨u, pages, own, result⟩ := read_foldl_mem (read := partyRing p) (f := fun t k => writeReport t p k last first)
    (fun t j k other => (writeReport_moves t p j last first).2.1 k other)
    (fun t j (w : Same 0xC s t) => same_writeReport t p j last first (by decide) w)
    List.nodup_range (List.mem_range.2 (Nat.lt_succ_of_le party)) pages
  obtain ⟨-, -, moved⟩ := writeReport_moves u p n last first
  change ringOf (portOf u p) n = ringOf (portOf (reportTaken s p) p) n at own
  change ringOf (portOf _ p) n = ringOf (portOf _ p) n at result
  rw [own, start, (Sends.of_same pages).canWrite_eq] at moved
  rw [e, result]
  exact moved on new

theorem writeReports_owes {s : State} {p last : Nat} (owed : (portOf s p).reportAt = some last) (late : last + 160000 ≤ now s)
    (runs : halted s = false) : (portOf (writeReports s p) p).reportAt = none := by
  obtain ⟨first, e⟩ := writeReports_due owed late runs
  rw [e]
  refine fold_keeps (P := fun t => (portOf t p).reportAt = none) (fun t n none' => ?_) (by rw [reportTaken_port])
  exact (writeReport_moves t p n last first).1.trans none'

/-! ### The effects that keys owe (13 R586) -/

theorem modHap_modTouch (s : State) (g : Touch → Touch) (c : Nat) (f : HapChan → HapChan) :
    modHap (s.modTouch g) c f = (modHap s c f).modTouch g := rfl

theorem hapOf_modTouch (s : State) (g : Touch → Touch) (c : Nat) : hapOf (s.modTouch g) c = hapOf s c := rfl

theorem beginEffect_modTouch (s : State) (g : Touch → Touch) (c n : Nat) (quiet : Bool) :
    beginEffect (s.modTouch g) c n quiet = (beginEffect s c n quiet).modTouch g := rfl

theorem takeTurn_modTouch (s : State) (g : Touch → Touch) (c rank : Nat) :
    takeTurn (s.modTouch g) c rank = (takeTurn s c rank).map (·.modTouch g) := by
  unfold takeTurn
  dsimp only
  show (match (hapOf s c).taken with | some (k, r) => _ | none => _) = _
  rcases (hapOf s c).taken with _ | ⟨k, r⟩
  · rfl
  · dsimp only
    rw [apply_ite (Option.map _), apply_ite (Option.map _)]
    rfl

/-- The start of an effect whose turn is taken: at once, or at the zero-crossing that the drive waits for. -/
def turnStarted (s : State) (c n : Nat) : State :=
  let s := modHap s c fun v => { v with starts := min 0xFFFFFFFF (v.starts + 1) }
  match (hapOf s c).stage with
  | .driving | .braking => modHap s c fun v => { v with waiting := some n }
  | _ => beginEffect s c n false

theorem turnStarted_modTouch (s : State) (g : Touch → Touch) (c n : Nat) :
    turnStarted (s.modTouch g) c n = (turnStarted s c n).modTouch g := by
  simp only [turnStarted, modHap_modTouch, hapOf_modTouch, beginEffect_modTouch]
  split <;> rfl

theorem startEffect_eq (s : State) (c n rank : Nat) :
    (startEffect s c n rank).1 = if hapReady s c then
      match takeTurn s c rank with | some u => turnStarted u c n | none => dropStart s c
    else dropStart s c := by
  unfold startEffect turnStarted
  cases hapReady s c
  · rfl
  rcases takeTurn s c rank with _ | u
  · rfl
  dsimp only [Bool.not_true]
  cases (hapOf (modHap u c fun v => { v with starts := min 0xFFFFFFFF (v.starts + 1) }) c).stage <;> rfl

theorem startEffect_modTouch (s : State) (g : Touch → Touch) (c n rank : Nat) :
    (startEffect (s.modTouch g) c n rank).1 = (startEffect s c n rank).1.modTouch g := by
  rw [startEffect_eq, startEffect_eq, takeTurn_modTouch, show hapReady (s.modTouch g) c = hapReady s c from rfl]
  cases hapReady s c
  · rfl
  rcases takeTurn s c rank with _ | u
  · rfl
  · exact turnStarted_modTouch u g c n

/-- What a trigger does has nothing to do with the touch ports. -/
theorem triggerEffect_modTouch (s : State) (g : Touch → Touch) (c n rank : Nat) :
    triggerEffect (s.modTouch g) c n rank = (triggerEffect s c n rank).modTouch g := by
  have stage : hapOf (s.modTouch g) c = hapOf s c := rfl
  have still : holderStill (s.modTouch g) c = holderStill s c := rfl
  unfold triggerEffect
  rw [stage, still, startEffect_modTouch, apply_ite (State.modTouch · g), apply_ite (State.modTouch · g)]
  rfl

theorem triggerKeys_owes (s : State) (p : Nat) :
    (portOf (triggerKeys s p) p).keyDue = (portOf s p).keyDue.filter fun k => decide (now s < k.2.2) := by
  unfold triggerKeys
  have ports := (same_foldl (ps := 0x100000) (fun t (k : Nat × Nat × Nat) w => same_triggerEffect t k.1 k.2.1 0 (by decide) w)
    (l := (portOf s p).keyDue.filter fun k => decide (k.2.2 ≤ now s))
    (same_refl (s := modPort s p fun v => { v with keyDue := v.keyDue.filter fun k => decide (now s < k.2.2) }))).get .touch (by decide)
  dsimp only
  rw [portOf_of_touch ports, portOf_modPort_same]

theorem triggerKeys_alone {s : State} {p : Nat} {k : Nat × Nat × Nat}
    (alone : ((portOf s p).keyDue.filter fun k => decide (k.2.2 ≤ now s)) = [k]) :
    hapOf (triggerKeys s p) k.1 = hapOf (triggerEffect s k.1 k.2.1 0) k.1 := by
  unfold triggerKeys
  dsimp only
  rw [alone]
  rw [List.foldl_cons, List.foldl_nil, modPort, triggerEffect_modTouch]
  rfl

/-! ### Stale contacts (13 R597) -/

theorem markStale_idle {s : State} {p i : Nat} (idle : staleDue s p i = false) : markStale s p i = s := if_pos (by simp [idle])

theorem markStale_marks {s : State} {p i : Nat} (due : staleDue s p i = true) :
    (portOf (markStale s p i) p).contacts = (portOf s p).contacts.map fun c => if c.id = i then { c with stale := true } else c := by
  unfold markStale
  rw [if_neg (by simp [due])]
  dsimp only
  split
  · rw [portOf_raise, portOf_modPort_same]
  · rw [portOf_modPort_same]

/-- Settles O49: by what the reports leave of each ring, what the keys' effects leave of the port, and what STALE marks. -/
theorem touchReports : Obligations.TouchReports := by
  unfold Obligations.TouchReports
  exact fun s p => ⟨fun idle => ⟨_, rfl, writeReports_idle idle⟩,
    fun last owed late runs => ⟨_, rfl, writeReports_owes owed late runs,
      fun n party on new => writeReports_rings owed late runs party on new⟩,
    ⟨_, rfl, triggerKeys_owes s p, fun k alone => triggerKeys_alone alone⟩,
    fun i idle => ⟨_, rfl, markStale_idle idle⟩, fun i due => ⟨_, rfl, markStale_marks due⟩⟩

end Sys2Proof.Machine
end


section
/-! PROOFS. The drive of a haptic channel (O50): half-cycles, segments, brakes, faults and the VHAP supply. -/

namespace Sys2Proof.Machine

/-! ### What a rise keeps of its channel (14 R615, R618) -/

theorem beginHalf_marks (s : State) (c : Nat) : (hapOf (beginHalf s c) c).waiting = (hapOf s c).waiting ∧
    (hapOf (beginHalf s c) c).bemf = (hapOf s c).bemf ∧ (hapOf (beginHalf s c) c).segAt = (hapOf s c).segAt := by
  unfold beginHalf
  dsimp only
  rw [hapOf_modHap_same]
  exact ⟨rfl, rfl, rfl⟩

theorem beginSegment_marks (s : State) (c : Nat) (quiet : Bool) :
    (hapOf (beginSegment s c quiet) c).waiting = (hapOf s c).waiting ∧
    (hapOf (beginSegment s c quiet) c).bemf = (hapOf s c).bemf ∧ (hapOf (beginSegment s c quiet) c).segAt = now s := by
  unfold beginSegment
  dsimp only
  obtain ⟨waiting, bemf, segAt⟩ := beginHalf_marks (modHap s c _) c
  rw [waiting, bemf, segAt, hapOf_modHap_same]
  exact ⟨rfl, rfl, rfl⟩

theorem beginEffect_marks (s : State) (c n : Nat) (quiet : Bool) : (hapOf (beginEffect s c n quiet) c).waiting = none ∧
    (hapOf (beginEffect s c n quiet) c).bemf = (hapOf s c).bemf := by
  unfold beginEffect
  obtain ⟨waiting, bemf, -⟩ := beginSegment_marks (modHap s c fun v =>
    { v with effect := n, segment := 0, started := now s, waiting := none }) c quiet
  dsimp only
  rw [waiting, bemf, hapOf_modHap_same]
  exact ⟨rfl, rfl⟩

theorem beginBrake_brakes (s : State) (c : Nat) : (hapOf (beginBrake s c) c).stage = .braking ∧
    (hapOf (beginBrake s c) c).segment = (hapOf s c).segment ∧
    (hapOf (beginBrake s c) c).drive = min (hapOf s c).brakeMv (driveLimit s) := by
  unfold beginBrake
  dsimp only
  rw [hapOf_modHap_same]
  exact ⟨rfl, rfl, rfl⟩

/-! ### FAULT (14 R627) -/

theorem hapFault_idle {s : State} {c : Nat} (k : Nat) (idle : (hapOf s c).stage = .fault ∨ (hapOf s c).stage = .unconfigured) :
    hapFault s c k = s := if_pos (by simpa using idle)

theorem hapFault_faults {s : State} {c : Nat} (k : Nat) (well : (hapOf s c).stage ≠ .fault) (set : (hapOf s c).stage ≠ .unconfigured) :
    (hapOf (hapFault s c k) c).stage = .fault ∧ (hapOf (hapFault s c k) c).cause = k ∧ (hapOf (hapFault s c k) c).drive = 0 ∧
      (evSrc (hapFault s c k) (srcHaptic c 0)).cause.testBit 0 = true ∧ (lgSrc (hapFault s c k) 33).on = true := by
  unfold hapFault
  rw [if_neg (by simp [well, set])]
  dsimp only
  have kept : ∀ u, hapOf (assert (raise u (srcHaptic c 0) 0) 33 0) c = hapOf u c := fun u => hapOf_of_haptic
    ((same_assert (ps := 0x200000) _ 33 0 false (by decide) (same_raise _ _ _ (by decide) same_refl)).get .haptic (by decide)) c
  rw [kept, hapOf_modHap_same]
  exact ⟨rfl, rfl, rfl, assert_keeps_cause _ _ _ _ _ _ (raise_sets ..), assert_sets _ _ _ _ (by decide)⟩

/-! ### The end of a half-cycle (14 R611 to R618) -/

/-- The state in which a half-cycle's end is noted on its channel. -/
def halfEnded (s : State) (c : Nat) (m : Option Nat) (bemf ma : Nat) : State := modHap s c fun v =>
  let v := if v.track && v.stage = .driving then trackHalf v m else v
  { v with bemf := bemf, crossed := now s, clip := v.clip || (decide (v.maxMa ≠ 0) && decide (ma ≥ v.maxMa)) }

theorem crossZero_idle {s : State} {c : Nat} (m : Option Nat) (b a : Nat) (still : (hapOf s c).stage ≠ .driving)
    (free : (hapOf s c).stage ≠ .braking) : crossZero s c m b a = s := if_pos (by simp [still, free])

/-- What a noted half-cycle's end leads to. -/
def afterHalf (s : State) (c : Nat) : State :=
  let v := hapOf s c
  if v.track && (v.missRun ≥ 8 || v.clampRun ≥ 64) then hapFault s c 2
  else match v.waiting with
    | some n => beginEffect s c n (decide (v.stage = .driving))
    | none =>
      if v.stage = .braking then modHap s c fun v => { v with brakes := v.brakes + 1 }
      else match segmentAt v with
        | some g => if now s ≥ v.segAt + msTicks g.len then s else beginHalf s c
        | none => s

theorem crossZero_runs {s : State} {c : Nat} (m : Option Nat) (b a : Nat)
    (runs : (hapOf s c).stage = .driving ∨ (hapOf s c).stage = .braking) :
    crossZero s c m b a = afterHalf (halfEnded s c m b a) c := if_neg (by rcases runs with e | e <;> simp [e])

theorem halfEnded_untracked {s : State} {c : Nat} (m : Option Nat) (b a : Nat) (open' : (hapOf s c).track = false) :
    (hapOf (halfEnded s c m b a) c).track = false ∧ (hapOf (halfEnded s c m b a) c).stage = (hapOf s c).stage ∧
    (hapOf (halfEnded s c m b a) c).waiting = (hapOf s c).waiting ∧ (hapOf (halfEnded s c m b a) c).bemf = b ∧
    (hapOf (halfEnded s c m b a) c).brakes = (hapOf s c).brakes := by
  unfold halfEnded
  rw [hapOf_modHap_same]
  simp [open']

/-- A waiting effect begins at the zero-crossing. -/
theorem crossZero_begins {s : State} {c : Nat} (m : Option Nat) (b a : Nat) {n : Nat}
    (runs : (hapOf s c).stage = .driving ∨ (hapOf s c).stage = .braking) (open' : (hapOf s c).track = false)
    (waits : (hapOf s c).waiting = some n) :
    crossZero s c m b a = beginEffect (halfEnded s c m b a) c n (decide ((hapOf s c).stage = .driving)) := by
  obtain ⟨track, stage, waiting, -, -⟩ := halfEnded_untracked m b a open'
  rw [crossZero_runs m b a runs]
  unfold afterHalf
  dsimp only
  rw [if_neg (by simp [track]), waiting, waits, stage]

/-- A brake half-cycle counts. -/
theorem crossZero_brakes {s : State} {c : Nat} (m : Option Nat) (b a : Nat) (brakes : (hapOf s c).stage = .braking)
    (open' : (hapOf s c).track = false) (none' : (hapOf s c).waiting = none) :
    crossZero s c m b a = modHap (halfEnded s c m b a) c fun v => { v with brakes := v.brakes + 1 } := by
  obtain ⟨track, stage, waiting, -, -⟩ := halfEnded_untracked m b a open'
  rw [crossZero_runs m b a (Or.inr brakes)]
  unfold afterHalf
  dsimp only
  rw [if_neg (by simp [track]), waiting, none']
  exact if_pos (stage.trans brakes)

/-- The eighth miss in a row of a tracked channel is a STALL. -/
theorem crossZero_stalls {s : State} {c : Nat} (b a : Nat) (drives : (hapOf s c).stage = .driving) (tracked : (hapOf s c).track = true)
    (missed : 7 ≤ (hapOf s c).missRun) :
    crossZero s c none b a = hapFault (halfEnded s c none b a) c 2 ∧ (hapOf (halfEnded s c none b a) c).stage = .driving := by
  have noted : (hapOf (halfEnded s c none b a) c).track = true ∧ (hapOf (halfEnded s c none b a) c).stage = .driving ∧
      (hapOf (halfEnded s c none b a) c).missRun = (hapOf s c).missRun + 1 := by
    unfold halfEnded
    rw [hapOf_modHap_same]
    simp [tracked, drives, trackHalf]
  obtain ⟨track, stage, run⟩ := noted
  refine ⟨?_, stage⟩
  rw [crossZero_runs none b a (Or.inl drives)]
  exact if_pos (by simpa [track, run] using Or.inl missed)

/-! ### Segments and brakes (14 R614 to R617) -/

theorem endSegment_brakes {s : State} {c : Nat} (due : segmentDue s c = true) :
    (hapOf (endSegment s c) c).stage = .braking ∧ (hapOf (endSegment s c) c).segment = (hapOf s c).segment + 1 ∧
      (hapOf (endSegment s c) c).drive = min (hapOf s c).brakeMv (driveLimit s) := by
  unfold endSegment
  rw [if_pos due]
  obtain ⟨stage, segment, drive⟩ := beginBrake_brakes (modHap s c fun v => { v with segment := v.segment + 1 }) c
  rw [stage, segment, drive, hapOf_modHap_same]
  exact ⟨rfl, rfl, rfl⟩

theorem endSegment_idle {s : State} {c : Nat} (idle : segmentDue s c = false) : endSegment s c = s := if_neg (by simp [idle])

theorem endBrake_rests {s : State} {c : Nat} (due : brakeDue s c = true) : (hapOf (endBrake s c) c).drive = 0 ∧
    (hapOf (endBrake s c) c).stage = if (segmentAt (hapOf s c)).isSome then .gap else .idle := by
  unfold endBrake
  rw [if_neg (by simp [due]), hapOf_modHap_same]
  exact ⟨rfl, rfl⟩

theorem endBrake_idle {s : State} {c : Nat} (idle : brakeDue s c = false) : endBrake s c = s := if_pos (by simp [idle])

theorem riseSegment_drives {s : State} {c : Nat} (due : riseDue s c = true) (free : (hapOf s c).stage = .gap ∨ (hapOf s c).crossed = now s) :
    (hapOf (riseSegment s c) c).stage = .driving ∧ (hapOf (riseSegment s c) c).segAt = now s := by
  unfold riseSegment
  rw [if_neg (by simp [due]), if_pos (by simpa using free)]
  exact ⟨(beginSegment_drives s c false).1, (beginSegment_marks s c false).2.2⟩

theorem riseSegment_idle {s : State} {c : Nat} (idle : riseDue s c = false) : riseSegment s c = s := if_pos (by simp [idle])

/-! ### VHAP (14 R610) -/

/-- What a fall of VHAP does to one channel. -/
def cutEffect (s : State) (c : Nat) : State :=
  if (hapOf s c).stage = .driving || (hapOf s c).stage = .braking || (hapOf s c).stage = .gap then
    modHap s c fun v => { v with stage := .idle, drive := 0, waiting := none, od := 0 }
  else s

theorem cutEffects_eq (s : State) : cutEffects s = (List.range 16).foldl cutEffect s := rfl

theorem cutEffect_other (s : State) (j c : Nat) (other : c ≠ j) : hapOf (cutEffect s j) c = hapOf s c := by
  unfold cutEffect
  split
  · exact hapOf_modHap_other _ _ _ _ other
  · rfl

theorem cutEffect_stage (s : State) (c : Nat) : (hapOf (cutEffect s c) c).stage ≠ .driving ∧
    (hapOf (cutEffect s c) c).stage ≠ .braking ∧ (hapOf (cutEffect s c) c).stage ≠ .gap := by
  unfold cutEffect
  split
  · rw [hapOf_modHap_same]
    simp
  · next still => simpa [and_assoc] using still

theorem cutEffects_stage (s : State) {c : Nat} (lt : c < 16) : (hapOf (cutEffects s) c).stage ≠ .driving ∧
    (hapOf (cutEffects s) c).stage ≠ .braking ∧ (hapOf (cutEffects s) c).stage ≠ .gap := by
  obtain ⟨u, -, -, result⟩ := read_foldl_mem (read := hapOf) (f := cutEffect) (I := fun _ => True) cutEffect_other
    (fun _ _ _ => trivial) List.nodup_range (List.mem_range.2 lt) (s := s) trivial
  rw [cutEffects_eq, result]
  exact cutEffect_stage u c

theorem cutEffects_supply (s : State) : (cutEffects s).haptic.low = s.haptic.low ∧ (cutEffects s).haptic.vhap = s.haptic.vhap := by
  rw [cutEffects_eq]
  refine fold_keeps (P := fun t => t.haptic.low = s.haptic.low ∧ t.haptic.vhap = s.haptic.vhap) (fun t c kept => ?_) ⟨rfl, rfl⟩
  unfold cutEffect
  split <;> exact kept

theorem vhapFell_low {s : State} {mv : Nat} (low : mv < 2800) : (vhapFell s mv).haptic.low = true ∧
    (vhapFell s mv).haptic.vhap = some mv ∧ (evSrc (vhapFell s mv) srcVhap).cause.testBit 0 = true ∧
    ∀ c < 16, (hapOf (vhapFell s mv) c).stage ≠ .driving ∧ (hapOf (vhapFell s mv) c).stage ≠ .braking ∧
      (hapOf (vhapFell s mv) c).stage ≠ .gap := by
  unfold vhapFell
  rw [if_neg (by omega)]
  obtain ⟨latched, volts⟩ := cutEffects_supply (s.modHaptic fun h => { h with vhap := some mv, low := true })
  have part := (same_raise (ps := 0x200000) (cutEffects (s.modHaptic fun h => { h with vhap := some mv, low := true })) srcVhap 0
    (by decide) same_refl).get .haptic (by decide)
  refine ⟨(congrArg Haptic.low part).trans latched, (congrArg Haptic.vhap part).trans volts, raise_sets .., fun c lt => ?_⟩
  rw [hapOf_of_haptic part]
  exact cutEffects_stage _ lt

/-- Settles O50: by what a half-cycle's end, a segment's end, a rise, a fault and a fall of VHAP leave of the channel. -/
theorem hapticDrive : Obligations.HapticDrive := by
  unfold Obligations.HapticDrive
  intro s c
  refine ⟨fun m b a still free => ⟨_, rfl, crossZero_idle m b a still free⟩, fun m b a n runs track waits => ⟨_, rfl, ?_⟩,
    fun m b a brakes track none' => ⟨_, rfl, ?_⟩, fun b a drives track missed => ⟨_, rfl, ?_⟩,
    fun due => ⟨_, rfl, endSegment_brakes due⟩, fun idle => ⟨_, rfl, endSegment_idle idle⟩,
    fun due => ⟨_, rfl, endBrake_rests due⟩, fun idle => ⟨_, rfl, endBrake_idle idle⟩,
    fun due free => ⟨_, rfl, riseSegment_drives due free⟩, fun idle => ⟨_, rfl, riseSegment_idle idle⟩,
    fun k well set => ⟨_, rfl, hapFault_faults k well set⟩, fun k idle => ⟨_, rfl, hapFault_idle k idle⟩,
    fun mv low => ⟨_, rfl, ?_⟩, fun mv enough => ⟨_, rfl, if_pos enough⟩, fun mv => ⟨_, rfl, rfl⟩⟩
  · rw [crossZero_begins m b a runs track waits]
    obtain ⟨stage, effect, started⟩ := beginEffect_drives (halfEnded s c m b a) c n (decide ((hapOf s c).stage = .driving))
    obtain ⟨waiting, bemf⟩ := beginEffect_marks (halfEnded s c m b a) c n (decide ((hapOf s c).stage = .driving))
    exact ⟨stage, effect, waiting, started, bemf.trans (halfEnded_untracked m b a track).2.2.2.1⟩
  · obtain ⟨-, stage, -, bemf, count⟩ := halfEnded_untracked m b a track
    rw [crossZero_brakes m b a brakes track none', hapOf_modHap_same]
    exact ⟨stage.trans brakes, congrArg (· + 1) count, bemf⟩
  · obtain ⟨e, stage⟩ := crossZero_stalls b a drives track missed
    obtain ⟨fault, cause, -, -, ledger⟩ := hapFault_faults (s := halfEnded s c none b a) (c := c) 2 (by simp [stage]) (by simp [stage])
    rw [e]
    exact ⟨fault, cause, ledger⟩
  · obtain ⟨latched, volts, event, stages⟩ := vhapFell_low (s := s) low
    exact ⟨latched, volts, event, stages c⟩

end Sys2Proof.Machine
end


section
/-! PROOFS. Jacks, their buttons and the drivers of DACs and jacks (O53). -/

namespace Sys2Proof.Machine

theorem jackOf_raise (s : State) (n b j : Nat) : jackOf (raise s n b) j = jackOf s j := by
  unfold jackOf
  rw [(same_raise (ps := 0x80000) s n b (by decide) same_refl).get .audio (by decide)]

/-! ### A jack's type (15 R666) -/

/-- A change of type is stamped and told; its bits of debounce and classification stay. -/
theorem setJackType_changes {s : State} {j y : Nat} (l : Nat) (new : (jackOf s j).type ≠ y) :
    (jackOf (setJackType s j y l) j).type = y ∧ (jackOf (setJackType s j y l) j).load = l ∧
    (jackOf (setJackType s j y l) j).changeTick = now s ∧
    (jackOf (setJackType s j y l) j).buttons = (if y = 2 || y = 3 then (jackOf s j).buttons else 0) ∧
    (evSrc (setJackType s j y l) (srcAudioBlock 0)).cause.testBit 0 = true := by
  unfold setJackType
  rw [if_neg new, jackOf_raise, jackOf_modJack_same]
  exact ⟨rfl, rfl, rfl, rfl, raise_sets ..⟩

theorem setJackType_keeps (s : State) (j y l : Nat) :
    (jackOf (setJackType s j y l) j).type = y ∧ (jackOf (setJackType s j y l) j).classify = (jackOf s j).classify ∧
    (jackOf (setJackType s j y l) j).debounce = (jackOf s j).debounce := by
  unfold setJackType
  split
  · next same => rw [jackOf_modJack_same]; exact ⟨same, rfl, rfl⟩
  · rw [jackOf_raise, jackOf_modJack_same]
    exact ⟨rfl, rfl, rfl⟩

/-! ### Insertion, debounce, classification and removal (15 R666) -/

theorem jackSwitch_moves (s : State) (j : Nat) (b : Bool) : (jackOf (jackSwitch s j b) j).inserted = b ∧
    (b = true → (jackOf s j).debounce = none → (jackOf (jackSwitch s j b) j).debounce = some (now s)) ∧
    (b = false → (jackOf (jackSwitch s j b) j).debounce = none ∧ (jackOf (jackSwitch s j b) j).classify = false) := by
  unfold jackSwitch
  rw [jackOf_modJack_same]
  refine ⟨rfl, ?_, ?_⟩
  · rintro rfl none'
    simp [none']
  · rintro rfl
    simp

theorem jackDebounced_counts {s : State} {j a : Nat} (began : (jackOf s j).debounce = some a) (closed : (jackOf s j).inserted = true)
    (empty : (jackOf s j).type = 0) (late : a + 40000000 ≤ now s) :
    (jackOf (jackDebounced s j) j).classify = true ∧ (jackOf (jackDebounced s j) j).debounce = none ∧
      (jackOf (jackDebounced s j) j).inserts = min 0xFFFFFFFF ((jackOf s j).inserts + 1) := by
  unfold jackDebounced
  dsimp only
  rw [began]
  dsimp only
  rw [if_neg (by simp [closed, empty, late]), jackOf_modJack_same]
  exact ⟨rfl, rfl, rfl⟩

theorem jackDebounced_idle {s : State} {j : Nat} (idle : (jackOf s j).debounce = none ∨ (jackOf s j).inserted = false ∨
    ∃ a, (jackOf s j).debounce = some a ∧ now s < a + 40000000) : jackDebounced s j = s := by
  unfold jackDebounced
  dsimp only
  split
  · next a began =>
    refine if_pos ?_
    rcases idle with none' | opened | ⟨b, began', early⟩
    · simp [began] at none'
    · simp [opened]
    · obtain rfl : b = a := Option.some.inj (began'.symm.trans began)
      simp [early]
  · rfl

theorem jackFound_takes {s : State} {j y : Nat} (l : Nat) (under : (jackOf s j).classify = true) (one : 1 ≤ y) (five : y ≤ 5)
    (new : (jackOf s j).type ≠ y) :
    (jackOf (jackFound s j y l) j).type = y ∧ (jackOf (jackFound s j y l) j).load = l ∧
    (jackOf (jackFound s j y l) j).changeTick = now s ∧ (jackOf (jackFound s j y l) j).classify = false ∧
    (evSrc (jackFound s j y l) (srcAudioBlock 0)).cause.testBit 0 = true := by
  have ended := jackOf_modJack_same s j fun v => { v with classify := false }
  have type : (jackOf (modJack s j fun v => { v with classify := false }) j).type ≠ y := by rw [ended]; exact new
  obtain ⟨-, classify, -⟩ := setJackType_keeps (modJack s j fun v => { v with classify := false }) j y l
  obtain ⟨ty, load, stamp, -, event⟩ := setJackType_changes l type
  unfold jackFound
  rw [if_neg (by simp [under]; omega)]
  exact ⟨ty, load, stamp, by rw [classify, ended], event⟩

theorem jackFound_idle {s : State} {j y : Nat} (l : Nat) (idle : (jackOf s j).classify = false ∨ y = 0 ∨ 5 < y) :
    jackFound s j y l = s := if_pos (by simpa [or_assoc] using idle)

theorem jackRemoved_empties {s : State} {j : Nat} (opened : (jackOf s j).inserted = false) :
    (jackOf (jackRemoved s j) j).type = 0 ∧ (jackOf (jackRemoved s j) j).classify = false ∧
    (jackOf (jackRemoved s j) j).debounce = none ∧ ((jackOf s j).type ≠ 0 → (jackOf (jackRemoved s j) j).changeTick = now s ∧
      (jackOf (jackRemoved s j) j).buttons = 0 ∧ (evSrc (jackRemoved s j) (srcAudioBlock 0)).cause.testBit 0 = true) := by
  have ended := jackOf_modJack_same s j fun v => { v with debounce := none, classify := false }
  unfold jackRemoved
  rw [if_neg (by simp [opened])]
  obtain ⟨type, classify, debounce⟩ := setJackType_keeps (modJack s j fun v => { v with debounce := none, classify := false }) j 0 0
  refine ⟨type, by rw [classify, ended], by rw [debounce, ended], fun held => ?_⟩
  obtain ⟨-, -, stamp, buttons, event⟩ := setJackType_changes (y := 0) 0
    (show (jackOf (modJack s j fun v => { v with debounce := none, classify := false }) j).type ≠ 0 by rw [ended]; exact held)
  exact ⟨stamp, buttons, event⟩

theorem jackRemoved_idle {s : State} {j : Nat} (closed : (jackOf s j).inserted = true) : jackRemoved s j = s := if_pos closed

/-! ### Buttons and drivers (15 R667, R668) -/

/-- Whether a line resistance selects another button of a headset jack with microphone bias. -/
def ButtonMoves (s : State) (j ohms : Nat) : Prop :=
  j ≤ 1 ∧ ((jackOf s j).type = 2 ∨ (jackOf s j).type = 3) ∧ (unitOf s (0x20 + j)).bias = true ∧ (jackOf s j).buttons ≠ buttonOf ohms

theorem buttonHeld_counts {s : State} {j ohms : Nat} (acts : ButtonMoves s j ohms) :
    (jackOf (buttonHeld s j ohms) j).buttons = buttonOf ohms ∧
      (evSrc (buttonHeld s j ohms) (srcAudioBlock 1)).cause.testBit 0 = true := by
  obtain ⟨jack, headset, bias, other⟩ := acts
  unfold buttonHeld
  dsimp only
  rw [if_neg (by rcases headset with e | e <;> simp [e, bias, other, jack]), jackOf_raise, jackOf_modJack_same]
  exact ⟨rfl, raise_sets ..⟩

theorem buttonHeld_idle {s : State} {j ohms : Nat} (idle : ¬ ButtonMoves s j ohms) : buttonHeld s j ohms = s := by
  refine if_pos ?_
  by_contra acts
  refine idle ?_
  simp at acts
  obtain ⟨⟨⟨jack, headset⟩, bias⟩, other⟩ := acts
  exact ⟨jack, by by_cases e : (jackOf s j).type = 2 <;> simp_all, bias, other⟩

theorem driverTrip_trips {s : State} {u : Nat} (drives : isDac u = true ∨ isJack u = true) :
    (unitOf (driverTrip s u) u).driver = false ∧ (evSrc (driverTrip s u) (srcAudioBlock 3)).cause.testBit 0 = true ∧
      (lgSrc (driverTrip s u) 34).on = true := by
  unfold driverTrip
  rw [if_neg (by rcases drives with e | e <;> simp [e])]
  have kept : ∀ t, unitOf (assert (raise t (srcAudioBlock 3) 0) 34 0) u = unitOf t u := fun t => by
    unfold unitOf
    rw [(same_assert (ps := 0x80000) _ 34 0 false (by decide) (same_raise t _ _ (by decide) same_refl)).get .audio (by decide)]
  rw [kept, unitOf_modUnit_same]
  exact ⟨rfl, assert_keeps_cause _ _ _ _ _ _ (raise_sets ..), assert_sets _ _ _ _ (by decide)⟩

theorem driverTrip_idle {s : State} {u : Nat} (dac : isDac u = false) (jack : isJack u = false) : driverTrip s u = s :=
  if_pos (by simp [dac, jack])

/-- Settles O53: by what a switch, a classification, a button and a driver's trip leave of the jack or unit. -/
theorem jacksAndDrivers : Obligations.JacksAndDrivers := by
  unfold Obligations.JacksAndDrivers
  exact fun s j => ⟨fun b => ⟨_, rfl, jackSwitch_moves s j b⟩,
    fun a began closed empty late => ⟨_, rfl, jackDebounced_counts began closed empty late⟩,
    fun idle => ⟨_, rfl, jackDebounced_idle idle⟩,
    fun y l under one five new => ⟨_, rfl, jackFound_takes l under one five new⟩,
    fun y l idle => ⟨_, rfl, jackFound_idle l idle⟩,
    fun opened => ⟨_, rfl, jackRemoved_empties opened⟩, fun closed => ⟨_, rfl, jackRemoved_idle closed⟩,
    fun r => ⟨fun acts => ⟨_, rfl, buttonHeld_counts acts⟩, fun idle => ⟨_, rfl, buttonHeld_idle idle⟩⟩,
    fun u drives => ⟨_, rfl, driverTrip_trips drives⟩, fun u dac jack => ⟨_, rfl, driverTrip_idle dac jack⟩⟩

end Sys2Proof.Machine
end


section
/-! PROOFS. Accesses of a transfer that fail (O29): the halt of its channel, and the link that stays down under it. -/

namespace Sys2Proof.Machine

/-! ### A link that stays as it is, up or down (06 R290 to R294) -/

/-- The link is up in t if it is in s. -/
def LinkKept (s t : State) : Prop := t.pcie.linkDown = s.pcie.linkDown

namespace LinkKept

variable {s t u : State}

theorem refl (s : State) : LinkKept s s := rfl

theorem trans (x : LinkKept s t) (y : LinkKept t u) : LinkKept s u := Eq.trans y x

theorem of_pcie (h : t.pcie = s.pcie) : LinkKept s t := congrArg Pcie.linkDown h

theorem of_same (h : Same 4 s t) : LinkKept s t := of_pcie (h.get .pcie (by decide))

theorem ite {c : Prop} [Decidable c] (x : LinkKept s t) (y : LinkKept s u) : LinkKept s (if c then t else u) := by split <;> assumption

theorem foldl {α : Type} {g : State → α → State} (h : ∀ t x, LinkKept t (g t x)) (l : List α) (s : State) : LinkKept s (l.foldl g s) :=
  fold_keeps (P := LinkKept s) (fun t x w => w.trans (h t x)) (refl s)

end LinkKept

theorem signalHeld_link (s : State) (f : Nat) : LinkKept s (signalHeld s f) := by
  unfold signalHeld
  dsimp only
  split
  · rfl
  split <;> rfl

theorem issueRecord_link (s : State) (f : Nat) (h : Held) : LinkKept s (issueRecord s f h) := by
  have held : ∀ u, LinkKept u (holdRecord u f h) := fun u => .ite (.refl u) (signalHeld_link _ f)
  have sent : ∀ u, LinkKept u (if canWrite u f && (fnOf u f).held.isEmpty then putRecord u f h else holdRecord u f h) := fun u =>
    .ite (sends_putRecord u f h).linkDown (held u)
  unfold issueRecord
  refine .ite (.refl s) ?_
  dsimp only
  split
  · exact .trans rfl (sent _)
  · exact sent s

theorem accept_link (s : State) (f : Flight) (inst : Option Nat) (value : Nat) : LinkKept s (accept s f inst value) :=
  .trans (t := setFlight (modCr s f.src.fn f.src.ring fun c => { c with ccReserved := c.ccReserved - min 1 f.slots }) { f with slots := f.slots - 1 })
    rfl (issueRecord_link ..)

theorem settleRing_link (s : State) (f r : Nat) : LinkKept s (settleRing s f r) := .of_same (same_settleRing s f r (by decide) same_refl)

theorem finish_link (s : State) (f : Flight) (v : Verdict) : LinkKept s (finish s f v) := by
  have noted : LinkKept s (noteOutcome s f v) := .of_same (same_noteOutcome s f v (by decide) same_refl)
  unfold finish
  dsimp only
  refine .trans (.trans ?_ (issueRecord_link ..)) (settleRing_link ..)
  show (noteOutcome s f v).pcie.linkDown = _
  exact noted

theorem withdraw_link (s : State) (f : Flight) (v : Verdict) : LinkKept s (withdraw s f v) := by
  unfold withdraw
  refine .ite (finish_link ..) (.ite (.ite (.refl s) rfl) (.ite (finish_link ..) (.ite ?_ (finish_link ..))))
  exact (accept_link ..).trans (finish_link ..)

theorem halt_link (s : State) (b : Nat) : LinkKept s (halt s b) := by
  unfold halt
  dsimp only
  exact .trans rfl (.foldl (fun t f => .ite (.refl t) (withdraw_link ..)) _ _)

theorem assert_link (s : State) (b a : Nat) (i : Bool) (lt : b < 40) : LinkKept s (assert s b a i) := by
  obtain ⟨v, u, -, -, set, result⟩ := assert_cases s b a i lt
  have noted : LinkKept s u := by obtain ⟨-, rfl⟩ | ⟨-, rfl⟩ := set <;> rfl
  obtain ⟨-, e⟩ | ⟨-, e | ⟨k, e⟩⟩ := result <;> rw [e]
  · exact noted.trans (halt_link u b)
  · exact noted
  · exact noted

theorem Traffic.link {r : Bool} {z s : State} (h : Traffic r z s) : LinkKept z s := by
  induction h with
  | refl => exact .refl z
  | line b a lt _ ih => exact ih.trans (assert_link _ b a false lt)
  | event _ _ _ ih | bulk _ _ _ ih | stock _ _ ih | free _ _ ih => exact ih

/-! ### The bytes a transfer moves (16 R678) -/

theorem srPut_traffic (s : State) (group o t addr : Nat) (l : List (Byte × Bool)) : Traffic false s (srPut s group o t addr l) := by
  refine Traffic.refl.foldl fun u part now => ?_
  dsimp only
  split
  · exact (now.event _ _).line 17 _ (by decide)
  · have read : Traffic false s ((partWords (srAddr u t part.1) part.2).foldl noteWord (noteMoved u group)) :=
      (now.stock _).foldl fun _ a now => now.noteWord a
    exact (read.foldl fun _ w now => now.stock _).stock _

theorem spaceRead_link (s : State) (t view : Nat) (sp : Space) (a n : Nat) : LinkKept s (spaceRead s t view sp a n).2 := by
  cases sp with
  | host => rfl
  | bulk => exact (((Traffic.refl (reads := true)).stock _).noteBulk t view a n).link
  | stockroom => exact ((Traffic.refl (reads := true)).srRead 3 t t a n).link
  | bad => rfl

theorem spacePut_link (s : State) (t view : Nat) (sp : Space) (a : Nat) (l : List (Byte × Bool)) :
    LinkKept s (spacePut s t view sp a l) := by
  cases sp with
  | host =>
    have byte : ∀ (u : State) (b : (Byte × Bool) × Nat), LinkKept u (if b.1.2 then hostWrite (freshBytes u 1).2 (a + b.2) (freshBytes u 1).1
        else hostWrite u (a + b.2) [b.1.1]) := fun u b => .ite rfl rfl
    exact .trans (t := noteMoved s 3) rfl (.foldl byte _ _)
  | bulk => exact ((Traffic.refl.stock _).bulkPut t view a l).link
  | stockroom => exact (srPut_traffic s 3 t t a l).link
  | bad => rfl

theorem countMoved_link (s : State) (t : Nat) (sp : Space) (write : Bool) (n : Nat) : LinkKept s (countMoved s t sp write n) := by
  cases sp with
  | host => rfl
  | bulk => exact ((Traffic.refl (reads := true)).countBulk t n write).link
  | stockroom => cases write <;> rfl
  | bad => rfl

theorem sourceRow_link (s : State) (f : Flight) (r o n : Nat) : LinkKept s (sourceRow s f r o n).2 := by
  unfold sourceRow
  dsimp only
  split
  · rfl
  · exact spaceRead_link ..

theorem putPart_link (s : State) (t view : Nat) (sp : Space) (a : Nat) (l : List (Byte × Bool)) (n : Nat) :
    LinkKept s (countMoved (spacePut s t view sp a l) t sp true n) := (spacePut_link ..).trans (countMoved_link ..)

theorem moveBytes_link (s : State) (f : Flight) (upto : Nat) : LinkKept s (moveBytes s f upto).1 := by
  refine List.foldlRecOn (motive := fun acc : State × List Byte × Bool => LinkKept s acc.1) _ _ (.refl s) fun acc now part _ => ?_
  have put : ∀ l, LinkKept s _ := fun l => (now.trans (sourceRow_link acc.1 f part.1 part.2.1 part.2.2)).trans
    (putPart_link _ f.src.fn (viewOf f.src.fn f.desc) (dstSpace f.desc) (dstAddr f.desc + part.1 * dstStride f.desc + part.2.1) l part.2.2)
  dsimp only
  split
  · exact put _
  · exact (put _).trans (countMoved_link ..)

theorem stopXfer_link (s : State) (f : Flight) : LinkKept s (stopXfer s f) := by
  unfold stopXfer
  dsimp only
  exact .ite (.refl s) (.trans (t := s.modFree (· + 1)) rfl (moveBytes_link _ f _))

/-! ### A channel that halts (16 R686 to R688) -/

/-- What a channel shows of the access that halted it. -/
def failShown (cause : Nat) (write : Bool) (addr upto id : Nat) (c : DmaChan) : DmaChan :=
  { c with halted := true, cause := cause, write := write, failAddr := addr, moved := upto, failing := some id }

/-- The state in which the transfers of a channel have moved what they move before an access of f halts it, and hold no
promise any more. -/
def haltServed (s : State) (f : Flight) (upto : Nat) : State :=
  let s := ((xfersOf s (xferChan f)).filter fun g => g.id ≠ f.id).foldl stopXfer s
  let s := (if isCompare f.desc then (s, [], false) else moveBytes s f upto).1
  let s := setFlight s { f with aux := xferChan f :: upto :: f.aux.drop 2 }
  s.modFlights fun l => l.map fun g => if isXfer g && xferChan g == xferChan f then { g with withdrawn := true, released := true } else g

theorem haltServed_link (s : State) (f : Flight) (upto : Nat) : LinkKept s (haltServed s f upto) := by
  have stopped : LinkKept s (((xfersOf s (xferChan f)).filter fun g => g.id ≠ f.id).foldl stopXfer s) := .foldl stopXfer_link _ s
  have served : ∀ u, LinkKept u (if isCompare f.desc then (u, [], false) else moveBytes u f upto).1 := fun u => by
    split
    · rfl
    · exact moveBytes_link ..
  exact (stopped.trans (served _)).trans rfl

theorem haltChannel_noted {s : State} {f : Flight} (moves : moving s f = true) (cause : Nat) (write : Bool) (addr moved : Nat) :
    ∃ upto, haltChannel s f cause write addr moved =
      haltNoted (modChan (haltServed s f upto) (xferChan f) (failShown cause write addr upto f.id)) f cause :=
  ⟨max (xferMoved f) (blockBefore f.desc (min moved (xferSize f.desc))), if_neg (by simp [moves])⟩

theorem haltNoted_link (s : State) (f : Flight) (cause : Nat) : LinkKept s (haltNoted s f cause) := by
  have written : LinkKept s (writeStatus s (xferChan f) f.desc) := issueRecord_link ..
  have noted : ∀ u, LinkKept s u → LinkKept s (assert (raise u (srcDma (xferChan f)) 0) 35 0) := fun u h =>
    h.trans (.trans (t := raise u (srcDma (xferChan f)) 0) rfl (assert_link _ 35 0 false (by decide)))
  have aer : LinkKept s (if cause = 1 then noteAer (writeStatus s (xferChan f) f.desc) f.src.fn 14 else writeStatus s (xferChan f) f.desc) :=
    .ite (written.trans rfl) written
  unfold haltNoted
  dsimp only
  split
  · exact (noted _ aer).trans (withdraw_link ..)
  · exact noted _ aer

/-- The channel of a transfer is halted by an access. -/
def ShowsHalt (t : State) (k cause : Nat) (write : Bool) (addr : Nat) : Prop :=
  (chanOf t k).halted = true ∧ (chanOf t k).cause = cause ∧ (chanOf t k).write = write ∧ (chanOf t k).failAddr = addr

theorem haltChannel_shows {s : State} {f : Flight} (moves : moving s f = true) (cause : Nat) (write : Bool) (addr moved : Nat) :
    ShowsHalt (haltChannel s f cause write addr moved) (xferChan f) cause write addr := by
  obtain ⟨upto, e⟩ := haltChannel_noted moves cause write addr moved
  unfold ShowsHalt
  rw [e, chanOf_of_same (same_haltNoted _ f cause), chanOf_modChan_same]
  exact ⟨rfl, rfl, rfl, rfl⟩

theorem modChan_link (s : State) (k : Nat) (g : DmaChan → DmaChan) : LinkKept s (modChan s k g) := .of_pcie rfl

theorem haltChannel_link {s : State} {f : Flight} (moves : moving s f = true) (cause : Nat) (write : Bool) (addr moved : Nat) :
    LinkKept s (haltChannel s f cause write addr moved) := by
  obtain ⟨upto, e⟩ := haltChannel_noted moves cause write addr moved
  rw [e]
  exact ((haltServed_link s f upto).trans (modChan_link ..)).trans (haltNoted_link _ f cause)

theorem failAccess_some {s : State} {f : Flight} (at' : xferAt s f.src = some f) (cause : Nat) (write : Bool)
    (addr moved : Nat) : failAccess cause s (f.src, write, addr, moved) = haltChannel s f cause write addr moved := by
  unfold failAccess
  dsimp only
  rw [at']

theorem failAccess_none {s : State} {src : CmdSrc} (none' : xferAt s src = none) (cause : Nat) (write : Bool) (addr moved : Nat) :
    failAccess cause s (src, write, addr, moved) = s := by
  unfold failAccess
  dsimp only
  rw [none']

/-- The state in which the link has just gone down. -/
def linkLost (s : State) : State := coldFunctions (s.modPcie fun p => { p with linkDown := true, link := .l0 })

theorem linkLost_moves (s : State) (f : Flight) : xferAt (linkLost s) f.src = xferAt s f.src ∧ moving (linkLost s) f = moving s f ∧
    (linkLost s).pcie.linkDown = true := ⟨rfl, rfl, rfl⟩

theorem loseLink_one (s : State) (e : CmdSrc × Bool × Nat × Nat) :
    loseLink s [e] = failAccess 4 (linkLost s) e := rfl

/-! ### Poisoned completions (16 R686) -/

theorem markPoisoned_under {s : State} {f : Flight} (at' : xferAt s f.src = some f) (under : f.phase = .unit) (o n : Nat) :
    markPoisoned s f o n = setFlight (noteAer s f.src.fn 12) { f with aux := f.aux ++ [o, n] } := by
  obtain ⟨-, xfer, -⟩ := flightAt_some at'
  exact if_neg (by simp [xfer, under])

theorem gives_poisonedCompletion {s : State} {src : CmdSrc} {f : Flight} {o n : Nat} {p : State → Prop} (at' : xferAt s src = some f)
    (done : p (markPoisoned s f o n)) : Gives (.poisonedCompletion src o n) s p := by
  refine ⟨_, ?_, done⟩
  show execPoisonedCompletion src o n s = _
  unfold execPoisonedCompletion
  rw [at']

/-- Settles O29: by what a halt leaves of its channel, and by the link that no record and no byte moved brings up again. -/
theorem dmaAccessFails : Obligations.DmaAccessFails := by
  unfold Obligations.DmaAccessFails
  refine ⟨fun s f a m at' moves => ?_, fun s src w a m none' => ?_, fun s f o n at' under => ?_⟩
  · have shows' : ∀ cause w, ShowsHalt (failAccess cause s (f.src, w, a, m)) (xferChan f) cause w a := fun cause w =>
      failAccess_some at' cause w a m ▸ haltChannel_shows moves cause w a m
    refine ⟨⟨_, rfl, shows' 1 false⟩, ⟨_, rfl, shows' 2 false⟩, fun w => ⟨_, rfl, shows' 3 w⟩, fun w => ⟨_, rfl, ?_⟩⟩
    obtain ⟨same, stays, down⟩ := linkLost_moves s f
    rw [loseLink_one, failAccess_some (same.trans at')]
    exact ⟨haltChannel_shows (stays.trans moves) 4 w a m, Eq.trans (haltChannel_link (stays.trans moves) 4 w a m) down⟩
  · exact ⟨⟨_, rfl, failAccess_none none' ..⟩, ⟨_, rfl, failAccess_none none' ..⟩, ⟨_, rfl, failAccess_none none' ..⟩⟩
  · exact gives_poisonedCompletion at' (markPoisoned_under at' under o n)

end Sys2Proof.Machine
end


section
/-! PROOFS. The Warden's restarts, the ends of its applets and its answers (O59). -/

namespace Sys2Proof.Machine

theorem appletOf_of_wd {s t : State} (h : t.wd = s.wd) (n : Nat) : appletOf t n = appletOf s n := by
  unfold appletOf
  rw [h]

theorem now_of_same {s t : State} (h : Same 1 s t) : now t = now s := by
  unfold now
  rw [h.get .tl (by decide)]

/-- An event and an error line told together are both there. -/
theorem raise_assert_sets (s : State) (n k : Nat) {b : Nat} (lt : b < 40) :
    (evSrc (assert (raise s n k) b 0) n).cause.testBit k = true ∧ (lgSrc (assert (raise s n k) b 0) b).on = true :=
  ⟨assert_keeps_cause _ _ _ _ _ _ (raise_sets s n k), assert_sets _ _ _ _ lt⟩

theorem finishDone_removes (s : State) (f : Flight) (value : Nat) : ∀ x ∈ (finishDone s f value).flights, x.id ≠ f.id :=
  finish_removes s f _

/-! ### The end of an applet's run (19 R763, R764) -/

/-- The state in which the START of an applet has completed. -/
def startEnded (s : State) (n : Nat) (v : Verdict) : State :=
  match (appletOf s n).start.bind fun i => flightBy s (·.id == i) with | some f => finish s f v | none => s

theorem startEnded_wd (s : State) (n : Nat) (v : Verdict) : (startEnded s n v).wd = s.wd := by
  unfold startEnded
  split
  · exact (same_finish (ps := 0x400000) s _ v (by decide) same_refl).get .wd (by decide)
  · rfl

/-- The START of an applet is in flight no more. -/
theorem startEnded_removes (s : State) (n : Nat) (v : Verdict) : ∀ x ∈ (startEnded s n v).flights, some x.id ≠ (appletOf s n).start := by
  intro x mem start
  unfold startEnded at mem
  rw [← start] at mem
  dsimp only [Option.bind] at mem
  split at mem
  · next f found =>
    have id : f.id = x.id := by simpa using List.find?_some found
    exact finish_removes s f v x mem id.symm
  · next none' =>
    have absent := List.find?_eq_none.1 none' x mem
    simp at absent

/-- The applet of a slot whose run has ended. -/
def appletRested (a : Applet) : Applet := { a with state := .loaded, client := 0x1F, start := none }

theorem leaveFrom_applets (s : State) (a : Nat) (p : SecureLayer → Bool) (n : Nat) : appletOf (leaveFrom s a p) n = appletOf s n := rfl

/-- The last part of an applet's end: its secure memory is zeroised and its layers leave. -/
def appletCleared (s : State) (n : Nat) (a : Applet) (leave : Bool) : State :=
  let s := zeroiseSecure s a.shelves a.plots
  if leave then leaveFrom s (now s) (fun l => l.applet == n) else s

theorem appletCleared_applets (s : State) (n : Nat) (a : Applet) (leave : Bool) (k : Nat) :
    appletOf (appletCleared s n a leave) k = appletOf s k := by
  have zeroised := appletOf_of_wd ((same_zeroiseSecure (ps := 0x400000) s a.shelves a.plots (by decide) same_refl).get .wd (by decide)) k
  unfold appletCleared
  dsimp only
  split
  · rw [leaveFrom_applets, zeroised]
  · exact zeroised

theorem appletCleared_flights (s : State) (n : Nat) (a : Applet) (leave : Bool) : (appletCleared s n a leave).flights = s.flights :=
  (show Same 0x800 s (appletCleared s n a leave) from
    have zeroised := same_zeroiseSecure s a.shelves a.plots (by decide) same_refl
    same_ite (same_leaveFrom _ _ _ (by decide) zeroised) zeroised).flights_eq

theorem endApplet_runs {s : State} {n : Nat} (v : Verdict) (leave : Bool) (runs : (appletOf s n).state = .running) :
    endApplet s n v leave =
      appletCleared (setApplet (startEnded s n v) n (appletRested (appletOf (startEnded s n v) n))) n (appletOf s n) leave :=
  if_neg (by simp [runs])

theorem endApplet_idle {s : State} {n : Nat} (v : Verdict) (leave : Bool) (idle : (appletOf s n).state ≠ .running) :
    endApplet s n v leave = s := if_pos idle

theorem endApplet_rests {s : State} {n : Nat} (v : Verdict) (leave : Bool) (runs : (appletOf s n).state = .running) :
    appletOf (endApplet s n v leave) n = appletRested (appletOf s n) := by
  rw [endApplet_runs v leave runs, appletCleared_applets, appletOf_setApplet_same, appletOf_of_wd (startEnded_wd s n v)]

theorem endApplet_stops (s : State) (n : Nat) (v : Verdict) (leave : Bool) : (appletOf (endApplet s n v leave) n).state ≠ .running := by
  by_cases runs : (appletOf s n).state = .running
  · rw [endApplet_rests v leave runs]
    simp [appletRested]
  · rwa [endApplet_idle v leave runs]

theorem endApplet_other (s : State) (j : Nat) (v : Verdict) (leave : Bool) (k : Nat) (other : k ≠ j) :
    appletOf (endApplet s j v leave) k = appletOf s k := by
  by_cases runs : (appletOf s j).state = .running
  · rw [endApplet_runs v leave runs, appletCleared_applets, appletOf_setApplet_other _ _ _ _ other, appletOf_of_wd (startEnded_wd s j v)]
  · rw [endApplet_idle v leave runs]

/-- What the end of a run leaves: the applet is LOADED, has no client, and its START is not in flight. -/
def Rested (s : State) (n : Nat) (t : State) : Prop :=
  (appletOf t n).state = .loaded ∧ (appletOf t n).client = 0x1F ∧ ∀ x ∈ t.flights, some x.id ≠ (appletOf s n).start

theorem endApplet_rested {s : State} {n : Nat} (v : Verdict) (leave : Bool) (runs : (appletOf s n).state = .running) :
    Rested s n (endApplet s n v leave) := by
  refine ⟨congrArg Applet.state (endApplet_rests v leave runs), congrArg Applet.client (endApplet_rests v leave runs), ?_⟩
  rw [endApplet_runs v leave runs, appletCleared_flights]
  exact startEnded_removes s n v

theorem appletEnds_rested {s : State} {n : Nat} (code : Nat) (result : List Byte) (runs : (appletOf s n).state = .running) :
    Rested s n (appletEnds s n code result) := by
  unfold appletEnds
  dsimp only
  rw [if_neg (by simp [runs])]
  exact endApplet_rested (s := hostWrite s (appletOf s n).resultAddr (padTo 256 result)) _ true runs

theorem appletLimit_rested {s : State} {n : Nat} (due : limitDue s n = true) (runs : (appletOf s n).state = .running) :
    Rested s n (appletLimit s n) := by
  unfold appletLimit
  rw [if_pos due]
  exact endApplet_rested _ true runs

/-! ### The restart (19 R773 to R776) -/

/-- The state of a restart in which no applet runs and no command waits for the Warden. -/
def wardenCleared (s : State) : State :=
  let s := (List.range 8).foldl (fun s n => endApplet s n (refuse 13 0x32 0 36) false) s
  dropSecureContacts ((s.flights.filter fun f => wardenOp f.op).foldl (fun s f => withdraw s f (refuse 13 0x32 0 36)) s)

/-- The Warden as it restarts. -/
def wardenRestarting (at' : Nat) (w : Warden) : Warden :=
  { w with keys := [], restarting := some at', lastRestart := some at', lastBeat := at', prepared := none, debugOpen := false }

theorem wardenRestarting_fields (at' : Nat) (w : Warden) : (wardenRestarting at' w).restarting = some at' ∧
    (wardenRestarting at' w).keys = [] ∧ (wardenRestarting at' w).debugOpen = false ∧ (wardenRestarting at' w).applets = w.applets :=
  ⟨rfl, rfl, rfl, rfl⟩

theorem wardenCleared_now (s : State) : now (wardenCleared s) = now s := by
  have applets : Same 1 s ((List.range 8).foldl (fun s n => endApplet s n (refuse 13 0x32 0 36) false) s) :=
    same_foldl (fun t n w => same_endApplet t n _ false (by decide) w) same_refl
  have cleared : Same 1 s (wardenCleared s) :=
    same_dropSecureContacts _ (by decide) (same_foldl (fun t f w => same_withdraw t f _ (by decide) w) applets)
  exact now_of_same cleared

theorem wardenCleared_stops (s : State) {n : Nat} (lt : n < 8) : (appletOf (wardenCleared s) n).state ≠ .running := by
  have withdrawn : ∀ u : State, (wardenCleared s).wd = u.wd → (appletOf u n).state ≠ .running → (appletOf (wardenCleared s) n).state ≠ .running :=
    fun u same stops => by rwa [appletOf_of_wd same]
  refine withdrawn ((List.range 8).foldl (fun s n => endApplet s n (refuse 13 0x32 0 36) false) s)
    ((same_dropSecureContacts (ps := 0x400000) _ (by decide) (same_foldl (fun t f w => same_withdraw t f _ (by decide) w) same_refl)).get
      .wd (by decide)) ?_
  obtain ⟨u, -, -, result⟩ := read_foldl_mem (read := appletOf) (f := fun s n => endApplet s n (refuse 13 0x32 0 36) false)
    (I := fun _ => True) (fun t j k other => endApplet_other t j _ false k other) (fun _ _ _ => trivial) List.nodup_range
    (List.mem_range.2 lt) (s := s) trivial
  rw [result]
  exact endApplet_stops u n _ false

/-- What a restart leaves. -/
def Restarted (s t : State) : Prop :=
  t.wd.restarting = some (now s) ∧ t.wd.keys = [] ∧ t.wd.debugOpen = false ∧ (∀ n, n < 8 → (appletOf t n).state ≠ .running) ∧
    (evSrc t srcWarden).cause.testBit 0 = true ∧ (lgSrc t 36).on = true

/-- The state in which the Warden has just stopped serving. -/
def restartBegun (s : State) : State := (wardenCleared s).modWd (wardenRestarting (now (wardenCleared s)))

/-- A restart zeroises the secure memory and tells of itself. -/
theorem restartWarden_eq (s : State) : restartWarden s = assert (raise (zeroiseSecure (restartBegun s)
    ((List.range (restartBegun s).sr.wm).filter fun n => decide (16 ≤ n)) (List.range (restartBegun s).dram.wm)) srcWarden 0) 36 0 := rfl

theorem restartWarden_wd (s : State) : (restartWarden s).wd = wardenRestarting (now s) (wardenCleared s).wd := by
  rw [restartWarden_eq, (same_assert (ps := 0x400000) _ 36 0 false (by decide) (same_raise _ srcWarden 0 (by decide)
    (same_zeroiseSecure _ _ _ (by decide) same_refl))).get .wd (by decide), ← wardenCleared_now s]
  rfl

theorem restartWarden_restarts (s : State) : Restarted s (restartWarden s) := by
  obtain ⟨restarting, keys, closed, applets'⟩ := wardenRestarting_fields (now s) (wardenCleared s).wd
  have applets : ∀ n, appletOf (restartWarden s) n = appletOf (wardenCleared s) n := fun n => by
    unfold appletOf
    rw [restartWarden_wd, applets']
  have told : (evSrc (restartWarden s) srcWarden).cause.testBit 0 = true ∧ (lgSrc (restartWarden s) 36).on = true := by
    rw [restartWarden_eq]
    exact raise_assert_sets _ srcWarden 0 (by decide)
  unfold Restarted
  rw [restartWarden_wd]
  exact ⟨restarting, keys, closed, fun n lt => by rw [applets]; exact wardenCleared_stops s lt, told⟩

theorem selfRestart_runs {s : State} (run : s.pw.state = .run) (serves : s.wd.restarting = none) (live : s.wd.dead = false) :
    selfRestart s = restartWarden s := if_neg (by simp [run, serves, live])

theorem selfRestart_idle {s : State} (idle : s.pw.state ≠ .run ∨ s.wd.restarting.isSome = true ∨ s.wd.dead = true) : selfRestart s = s :=
  if_pos (by simpa [or_assoc] using idle)

/-! ### Service resumes (19 R777, R778) -/

theorem resumeWarden_idle {s : State} (good : Bool) (applets : List (Nat × Bool)) (serves : s.wd.restarting = none) :
    resumeWarden s good applets = s := if_pos (by simp [serves])

theorem setApplet_restarts (s : State) (n : Nat) (v : Applet) : (setApplet s n v).wd.restarts = s.wd.restarts := rfl

theorem reloadApplet_restarts (applets : List (Nat × Bool)) (s : State) (n : Nat) :
    (reloadApplet applets s n).wd.restarts = s.wd.restarts := by
  have emptied : ∀ u k, (emptyApplet u k).wd.restarts = u.wd.restarts := fun u k => by
    unfold emptyApplet
    dsimp only
    rw [setApplet_restarts, (same_zeroiseSecure (ps := 0x400000) u _ _ (by decide) same_refl).get .wd (by decide)]
  unfold reloadApplet
  dsimp only
  have placed : ∀ b a len, (placeApplet s n b a len).wd.restarts = s.wd.restarts := fun b a len => by
    unfold placeApplet
    dsimp only
    rw [setApplet_restarts, emptied]
  rw [apply_ite State.wd, apply_ite State.wd, apply_ite Warden.restarts, apply_ite Warden.restarts, placed,
    show (raise (emptyApplet s n) srcWarden 3).wd.restarts = s.wd.restarts from emptied s n, ite_self, ite_self]

/-- The Warden as it serves again. -/
def wardenServing (at' : Nat) (w : Warden) : Warden :=
  { w with restarting := none, restarts := w.restarts + 1, lastBeat := at', blocks := w.blocks.filter fun m => m.kind == 1 }

/-- The state in which the Warden serves again, with its applets read again. -/
def serviceResumed (s : State) : State :=
  leaveFrom (raise (s.modWd (wardenServing (now s))) srcWarden 1) (now (s.modWd (wardenServing (now s)))) fun _ => true

theorem serviceResumed_serves (s : State) : (serviceResumed s).wd.restarting = none ∧
    (serviceResumed s).wd.restarts = s.wd.restarts + 1 ∧ (serviceResumed s).wd.lastBeat = now s ∧
    (evSrc (serviceResumed s) srcWarden).cause.testBit 1 = true := ⟨rfl, rfl, rfl, raise_sets ..⟩

theorem resumeWarden_serves {s : State} (applets : List (Nat × Bool)) (restarting : s.wd.restarting.isSome = true) :
    (resumeWarden s true applets).wd.restarting = none ∧ (resumeWarden s true applets).wd.restarts = s.wd.restarts + 1 ∧
      (resumeWarden s true applets).wd.lastBeat = now s ∧ (evSrc (resumeWarden s true applets) srcWarden).cause.testBit 1 = true := by
  have tick : now ((List.range 8).foldl (reloadApplet applets) s) = now s := now_of_same
    (same_foldl (fun t n w => same_reloadApplet applets t n (by decide) w) same_refl)
  have count : ((List.range 8).foldl (reloadApplet applets) s).wd.restarts = s.wd.restarts :=
    fold_keeps (P := fun t => t.wd.restarts = s.wd.restarts) (fun t n kept => (reloadApplet_restarts applets t n).trans kept) rfl
  have e : resumeWarden s true applets = serviceResumed ((List.range 8).foldl (reloadApplet applets) s) := by
    unfold resumeWarden
    rw [if_neg (by simpa using Option.isSome_iff_ne_none.1 restarting), if_neg (by simp)]
    rfl
  rw [e]
  obtain ⟨serves, restarts, beat, event⟩ := serviceResumed_serves ((List.range 8).foldl (reloadApplet applets) s)
  exact ⟨serves, restarts.trans (congrArg (· + 1) count), beat.trans tick, event⟩

theorem resumeWarden_dies {s : State} (applets : List (Nat × Bool)) (restarting : s.wd.restarting.isSome = true) :
    (resumeWarden s false applets).wd.restarting = none ∧ (resumeWarden s false applets).wd.dead = true ∧
      (evSrc (resumeWarden s false applets) srcWarden).cause.testBit 2 = true ∧ (lgSrc (resumeWarden s false applets) 37).on = true := by
  have e : resumeWarden s false applets =
      assert (raise (s.modWd fun w => { w with restarting := none, dead := true }) srcWarden 2) 37 0 := by
    unfold resumeWarden
    rw [if_neg (by simpa using Option.isSome_iff_ne_none.1 restarting), if_pos (by simp)]
  have wd := (same_assert (ps := 0x400000) _ 37 0 false (by decide) (same_raise (s.modWd fun w => { w with restarting := none, dead := true })
    srcWarden 2 (by decide) same_refl)).get .wd (by decide)
  rw [e]
  exact ⟨congrArg Warden.restarting wd, congrArg Warden.dead wd, raise_assert_sets _ srcWarden 2 (by decide)⟩

/-! ### The Warden's answers (19 R753, R785) -/

theorem postReply_idle {s : State} (empty : s.wd.inbox = none) : postReply s = s := by
  unfold postReply
  rw [empty]

theorem postReply_answers {s : State} {m y : List Byte} (held : s.wd.inbox = some m) (prepared : s.wd.prepared = some y)
    (serves : s.wd.restarting = none) : (postReply s).wd.inbox = none ∧ (postReply s).wd.prepared = none ∧
      (postReply s).wd.reply = some (leBytes 1 (fieldOf m 0 1 % 128 + 128) ++ leBytes 1 (fieldOf m 1 1) ++ leBytes 2 y.length ++ y) := by
  unfold postReply
  rw [held, prepared]
  dsimp only
  rw [if_neg (by simp [serves])]
  exact ⟨rfl, rfl, rfl⟩

theorem endSave_removes (s : State) (f : Flight) : ∀ x ∈ (endSave s f).flights, x.id ≠ f.id := by
  unfold endSave
  dsimp only
  split
  · exact finish_removes _ f _
  · exact finishDone_removes _ f _

theorem endRestore_removes (s : State) (f : Flight) (good : Bool) (body : List Byte) :
    ∀ x ∈ (endRestore s f good body).flights, x.id ≠ f.id := by
  unfold endRestore
  dsimp only
  split
  · exact finish_removes _ f _
  split
  · exact finish_removes _ f _
  split
  · exact finish_removes _ f _
  · exact finishDone_removes _ f _

theorem endAppletLoad_removes (s : State) (f : Flight) (good : Bool) : ∀ x ∈ (endAppletLoad s f good).flights, x.id ≠ f.id := by
  unfold endAppletLoad
  dsimp only
  split
  · exact finish_removes _ f _
  split
  · exact finish_removes _ f _
  split
  · exact finish_removes _ f _
  · exact finishDone_removes _ f _

theorem endKeyAccept_removes (s : State) (f : Flight) (good : Bool) (body : List Byte) :
    ∀ x ∈ (endKeyAccept s f good body).flights, x.id ≠ f.id := by
  unfold endKeyAccept
  dsimp only
  split
  · exact finish_removes _ f _
  split
  · exact finish_removes _ f _
  split
  · exact finish_removes _ f _
  split
  · exact finish_removes _ f _
  split
  · exact finish_removes _ f _
  · exact finishDone_removes _ f _

theorem endKeyDestroy_removes (s : State) (f : Flight) : ∀ x ∈ (endKeyDestroy s f).flights, x.id ≠ f.id := finish_removes _ f _

theorem endKeyDestroy_drops (s : State) (f : Flight) : ∀ k ∈ (endKeyDestroy s f).wd.keys, k.id ≠ dget f.desc 16 4 := by
  unfold endKeyDestroy finishDone
  rw [(same_finish (ps := 0x400000) _ f _ (by decide) same_refl).get .wd (by decide)]
  exact fun k mem => by simpa using (List.mem_filter.1 mem).2

theorem wardenDone_removes {f : Flight} (op : f.op ∈ [0x18, 0x19, 0xE1, 0xE6, 0xE7]) (s : State) (good : Bool) (body : List Byte) :
    ∀ x ∈ (wardenDone s f good body).flights, x.id ≠ f.id := by
  unfold wardenDone
  simp only [List.mem_cons, List.not_mem_nil, or_false] at op
  rcases op with e | e | e | e | e <;> rw [e]
  · exact endSave_removes s f
  · exact endRestore_removes s f good body
  · exact endAppletLoad_removes s f good
  · exact endKeyAccept_removes s f good body
  · exact endKeyDestroy_removes s f

theorem wardenDone_destroys {f : Flight} (op : f.op = 0xE7) (s : State) (good : Bool) (body : List Byte) :
    wardenDone s f good body = endKeyDestroy s f := by
  unfold wardenDone
  rw [op]
  rfl

theorem wardenReplyOf_some {s : State} {src : CmdSrc} {f : Flight} (found : (flightAt s src fun x => decide (x.phase = .warden)) = some f)
    (good : Bool) (body : List Byte) : wardenReplyOf s ⟨some src, good, body⟩ = wardenDone s f good body := by
  unfold wardenReplyOf
  dsimp only
  rw [found]

theorem wardenReplyOf_none {s : State} {src : CmdSrc} (idle : ∀ f ∈ s.flights, f.src = src → f.phase ≠ .warden) (good : Bool)
    (body : List Byte) : wardenReplyOf s ⟨some src, good, body⟩ = s := by
  unfold wardenReplyOf
  dsimp only
  rw [flightAt_none fun f mem own => by simpa using idle f mem own]

/-- Settles O59: by what a restart, a resumption, the end of an applet's run and an answer leave of the Warden and its commands. -/
theorem wardenRestarts : Obligations.WardenRestarts := by
  unfold Obligations.WardenRestarts
  intro s
  refine ⟨fun lost => ⟨_, rfl, ?_⟩, fun beats => ⟨_, rfl, if_neg (by simp [beats])⟩, fun run serves live => ⟨_, rfl, ?_⟩,
    fun idle => ⟨_, rfl, selfRestart_idle idle⟩, fun g a serves => ⟨_, rfl, resumeWarden_idle g a serves⟩,
    fun restarting a => ⟨⟨_, rfl, resumeWarden_serves a restarting⟩, ⟨_, rfl, resumeWarden_dies a restarting⟩⟩,
    fun n i ends runs => ?_, fun n c r idle => ⟨_, rfl, if_pos idle⟩, fun n early => ⟨_, rfl, if_neg (by simp [early])⟩,
    fun g b empty => ⟨_, rfl, postReply_idle empty⟩,
    fun g b m y held prepared serves => ⟨_, rfl, postReply_answers held prepared serves⟩,
    fun src g b idle => ⟨_, rfl, wardenReplyOf_none idle g b⟩,
    fun src g b f found => ⟨fun op => ⟨_, rfl, ?_⟩, fun op => ⟨_, rfl, ?_⟩⟩⟩
  · rw [if_pos lost]
    exact restartWarden_restarts s
  · rw [selfRestart_runs run serves live]
    exact restartWarden_restarts s
  · rcases ends with ⟨c, r, rfl⟩ | ⟨rfl, due⟩
    · exact ⟨_, rfl, appletEnds_rested c r runs⟩
    · exact ⟨_, rfl, appletLimit_rested due runs⟩
  · rw [wardenReplyOf_some found]
    exact wardenDone_removes op s g b
  · rw [wardenReplyOf_some found, wardenDone_destroys op]
    exact endKeyDestroy_drops s f

end Sys2Proof.Machine
end


section
/-! PROOFS. The entry of a low-power state (O34): what does not survive it, and the instants at which it is entered and reached. -/

namespace Sys2Proof.Machine

/-! ### What does not survive a stay (21 R807) -/

/-- A source of events in a stay: nothing of it is latched. -/
def evQuiet (v : EvSrc) : EvSrc := { v with cause := 0, soft := false }

/-- A function in a stay holds no record. -/
def fnEmptied (x : Fn) : Fn := { x with held := [] }

/-- A function whose endpoint has lost its power. -/
def fnReset (x : Fn) : Fn :=
  { x with dstate := .d0, busMaster := false, pmeEn := false, pmeStatus := false, heldInStay := false,
           wakeAsserted := false, fnMask := false, pmeAt := none, cfg := {}, msix := [], pba := [] }

/-- The state in which no event is latched. -/
def eventsQuiet (s : State) : State :=
  s.modEv fun e => { e with src := (List.range 1024).foldl (fun t n => tmod {} t n evQuiet) e.src }

/-- The state in which no function holds a record. -/
def functionsEmptied (s : State) : State := s.modFns fun t => (List.range 17).foldl (fun t n => tmod {} t n fnEmptied) t

/-- The state in which no Ledger bit is set. -/
def ledgerEmptied (s : State) : State := s.modLg fun l => { l with src := [], degraded := 0, reactions := [], missed := 0 }

theorem dropVolatile_eq (s : State) : dropVolatile s = cutEffects (ledgerEmptied (functionsEmptied (eventsQuiet s))) := rfl

theorem eventsQuiet_events (s : State) {n : Nat} (lt : n < 1024) : evSrc (eventsQuiet s) n = evQuiet (evSrc s n) := by
  simp only [eventsQuiet, evSrc, modEv_ev, tget_foldl_tmod_range, if_pos lt]

theorem functionsEmptied_functions (s : State) {f : Nat} (lt : f < 17) : fnOf (functionsEmptied s) f = fnEmptied (fnOf s f) := by
  simp only [functionsEmptied, fnOf, modFns_fns, tget_foldl_tmod_range, if_pos lt]

theorem dropVolatile_drops (s : State) : (∀ n, n < 1024 → evSrc (dropVolatile s) n = evQuiet (evSrc s n)) ∧
    (∀ f, f < 17 → (fnOf (dropVolatile s) f).held = []) ∧ (dropVolatile s).lg.src = [] := by
  have cut : Same 0xC8 (ledgerEmptied (functionsEmptied (eventsQuiet s))) (dropVolatile s) :=
    dropVolatile_eq s ▸ same_cutEffects _ (by decide) same_refl
  have events : Same 0x40 (eventsQuiet s) (ledgerEmptied (functionsEmptied (eventsQuiet s))) :=
    same_modLg (by decide) (same_modFns (by decide) same_refl)
  have functions : Same 8 (functionsEmptied (eventsQuiet s)) (ledgerEmptied (functionsEmptied (eventsQuiet s))) :=
    same_modLg (by decide) same_refl
  refine ⟨fun n lt => ?_, fun f lt => ?_, ?_⟩
  · rw [evSrc_of_ev (cut.get .ev (by decide)), evSrc_of_ev (events.get .ev (by decide))]
    exact eventsQuiet_events s lt
  · have page : fnOf (dropVolatile s) f = fnOf (functionsEmptied (eventsQuiet s)) f := by
      unfold fnOf
      rw [cut.get .fns (by decide), functions.get .fns (by decide)]
    rw [page, functionsEmptied_functions _ lt]
    rfl
  · rw [cut.get .lg (by decide)]
    rfl

theorem endpointLost_held (s : State) {f : Nat} (lt : f < 17) : (fnOf (endpointLost s) f).held = (fnOf s f).held := by
  have e : (endpointLost s).fns = (List.range 17).foldl (fun t n => tmod {} t n fnReset) s.fns := by
    unfold endpointLost
    generalize List.range 17 = functions
    rfl
  unfold fnOf
  rw [e, tget_foldl_tmod_range, if_pos lt]
  generalize tget {} s.fns f = x
  rfl

/-! ### The state reached (21 R810, R813) -/

/-- The state of a stay before its own registers are set. -/
def stayBegun (s : State) (st : PwState) : State := if st = .watch then dropVolatile s else endpointLost (dropVolatile s)

theorem stayBegun_same (s : State) (st : PwState) : Same 0x1FDFFF33 s (stayBegun s st) :=
  same_ite (same_dropVolatile s (by decide) same_refl)
    (same_endpointLost _ (by decide) (same_dropVolatile s (by decide) same_refl))

theorem stayBegun_drops (s : State) (st : PwState) : (∀ n, n < 1024 → evSrc (stayBegun s st) n = evQuiet (evSrc s n)) ∧
    (∀ f, f < 17 → (fnOf (stayBegun s st) f).held = []) ∧ (stayBegun s st).lg.src = [] := by
  obtain ⟨events, empty, ledger⟩ := dropVolatile_drops s
  unfold stayBegun
  split
  · exact ⟨events, empty, ledger⟩
  · have lost : Same 0xC0 (dropVolatile s) (endpointLost (dropVolatile s)) := same_endpointLost _ (by decide) same_refl
    exact ⟨fun n lt => (evSrc_of_ev (lost.get .ev (by decide)) n).trans (events n lt),
      fun f lt => (endpointLost_held _ lt).trans (empty f lt), (congrArg Ledger.src (lost.get .lg (by decide))).trans ledger⟩

/-- The power block in a state just reached. -/
def powerReached (st : PwState) (p : Power) : Power := { p with state := st, entering := none, l2By := none, hits := 0, tails := [] }

theorem reachState_quiet {s : State} (quiet : s.pw.wakeDue = false) (st : PwState) :
    reachState s st = (stayBegun s st).modPw (powerReached st) := by
  have pw : (stayBegun s st).pw = s.pw := (stayBegun_same s st).get .pw (by decide)
  have due : ((stayBegun s st).modPw (powerReached st)).pw.wakeDue = false := by
    show (stayBegun s st).pw.wakeDue = false
    rw [pw, quiet]
  exact if_neg fun h => Bool.false_ne_true (due.symm.trans h)

/-- What reaching a state leaves. -/
def Reached (st : PwState) (t : State) : Prop :=
  t.pw.state = st ∧ t.pw.entering = none ∧ (∀ n, n < 1024 → (evSrc t n).cause = 0 ∧ (evSrc t n).soft = false) ∧
    (∀ f, f ≤ 16 → (fnOf t f).held = []) ∧ t.lg.src = []

theorem reachState_reaches {s : State} (quiet : s.pw.wakeDue = false) (st : PwState) : Reached st (reachState s st) := by
  obtain ⟨events, held, ledger⟩ := stayBegun_drops s st
  rw [reachState_quiet quiet st]
  refine ⟨rfl, rfl, fun n lt => ?_, fun f le => held f (Nat.lt_succ_of_le le), ledger⟩
  have e : evSrc ((stayBegun s st).modPw (powerReached st)) n = evQuiet (evSrc s n) := events n lt
  rw [e]
  exact ⟨rfl, rfl⟩

theorem reachState_flights {s : State} (quiet : s.pw.wakeDue = false) (st : PwState) : (reachState s st).flights = s.flights := by
  rw [reachState_quiet quiet st]
  exact (stayBegun_same s st).get .flights (by decide)

/-! ### The entry instant (21 R810) -/

/-- The POWER_STATE whose instant has come. -/
def entryDue (s : State) : Option Flight := s.flights.find? fun g => g.op == 0xC0 && instantCome s g

/-- The state in which a POWER_STATE has written its DONE and function 0's messages are sent. -/
def entryDone (s : State) (f : Flight) : State := flushMessages (finishDone s f) 0

theorem entryDone_moves (s : State) (f : Flight) : (entryDone s f).flights = s.flights.filter (fun g => g.id ≠ f.id) ∧
    (entryDone s f).pw = s.pw ∧ now (entryDone s f) = now s := by
  have sent : ∀ u, Same 0x800801 u (flushMessages u 0) := fun u => same_flushMessages u 0 (by decide) same_refl
  have power : Same 0x800000 s (entryDone s f) := same_flushMessages _ 0 (by decide) (same_finish s f _ (by decide) same_refl)
  have tick : Same 1 s (entryDone s f) := same_flushMessages _ 0 (by decide) (same_finish s f _ (by decide) same_refl)
  exact ⟨((sent _).get .flights (by decide)).trans (finish_flights s f _), power.get .pw (by decide), now_of_same tick⟩

/-- The state in which a state is being entered and L2/L3 Ready is waited for. -/
def entering (s : State) (st : PwState) (by' : Nat) : State := s.modPw fun p => { p with entering := some st, l2By := some by' }

theorem entering_enters (s : State) (st : PwState) (by' : Nat) : (entering s st by').flights = s.flights ∧
    (entering s st by').pw.entering = some st ∧ (entering s st by').pw.l2By = some by' := ⟨rfl, rfl, rfl⟩

theorem enterState_eq (s : State) : enterState s = match entryDue s with
    | none => s
    | some f => if pwTarget (dget f.desc 16 1) = .watch then reachState (entryDone s f) (pwTarget (dget f.desc 16 1))
      else entering (entryDone s f) (pwTarget (dget f.desc 16 1)) (now (entryDone s f) + 40000000) := rfl

theorem enterState_none {s : State} (idle : entryDue s = none) : enterState s = s := by rw [enterState_eq, idle]

theorem enterState_enters {s : State} {f : Flight} {st : PwState} (quiet : s.pw.wakeDue = false) (due : entryDue s = some f)
    (target : pwTarget (dget f.desc 16 1) = st) : (enterState s).flights = s.flights.filter (fun g => g.id ≠ f.id) ∧
      if st = .watch then Reached .watch (enterState s)
      else (enterState s).pw.entering = some st ∧ (enterState s).pw.l2By = some (now s + 40000000) := by
  obtain ⟨flights, pw, tick⟩ := entryDone_moves s f
  have calm : (entryDone s f).pw.wakeDue = false := by rw [pw, quiet]
  rw [enterState_eq, due]
  dsimp only
  rw [target]
  by_cases watch : st = .watch
  · rw [if_pos watch, if_pos watch, watch]
    exact ⟨(reachState_flights calm .watch).trans flights, reachState_reaches calm .watch⟩
  · rw [if_neg watch, if_neg watch, tick]
    obtain ⟨same, enters, wait⟩ := entering_enters (entryDone s f) st (now s + 40000000)
    exact ⟨same.trans flights, enters, wait⟩

/-! ### L2/L3 Ready (21 R810, R811) -/

theorem endL2Wait_none {s : State} (idle : s.pw.entering = none) : endL2Wait s = s := by
  unfold endL2Wait
  rw [idle]

theorem endL2Wait_some {s : State} {st : PwState} (enters : s.pw.entering = some st) : endL2Wait s = reachState s st := by
  unfold endL2Wait
  rw [enters]

theorem l2Due_of {s : State} {st : PwState} {w : Nat} (enters : s.pw.entering = some st) (by' : s.pw.l2By = some w) (late : w ≤ now s) :
    l2Due s = true := by
  unfold l2Due
  simp [enters, by', late]

theorem l2Due_idle {s : State} (idle : s.pw.entering = none ∨ s.pw.l2By = none) : l2Due s = false := by
  unfold l2Due
  rcases idle with e | e <;> simp [e]

theorem l2Due_early {s : State} {w : Nat} (by' : s.pw.l2By = some w) (early : now s < w) : l2Due s = false := by
  unfold l2Due
  simp [by', early]

/-- Settles O34: by what a reached state has dropped, and the DONE that the entry instant writes first. -/
theorem lowPowerEntry : Obligations.LowPowerEntry := by
  unfold Obligations.LowPowerEntry
  refine ⟨fun s f st quiet due target => ?_, fun s idle => ⟨_, rfl, enterState_none ?_⟩,
    fun s st quiet enters => ⟨_, rfl, ?_⟩, fun s idle => ⟨_, rfl, endL2Wait_none idle⟩,
    fun s st w quiet enters by' late => ⟨_, rfl, ?_⟩, fun s idle => ⟨_, rfl, if_neg (by simp [l2Due_idle idle])⟩,
    fun s w by' early => ⟨_, rfl, if_neg (by simp [l2Due_early by' early])⟩⟩
  · refine ⟨enterState s, rfl, ?_⟩
    exact enterState_enters quiet due target
  · exact List.find?_eq_none.2 fun g mem => by simpa using idle g mem
  · rw [endL2Wait_some enters]
    exact reachState_reaches quiet st
  · rw [if_pos (l2Due_of enters by' late), endL2Wait_some enters]
    exact reachState_reaches quiet st

end Sys2Proof.Machine
end


section
/-! PROOFS. Wake sources and the wake target (O35). -/

namespace Sys2Proof.Machine

/-! ### A source that fires (21 R813, R814) -/

theorem noteWake_sets (s : State) {n : Nat} (lt : n < 5) : (noteWake s n).pw.state = s.pw.state ∧ (noteWake s n).pw.stage = s.pw.stage ∧
    (noteWake s n).pw.cause.testBit n = true := by
  refine ⟨rfl, rfl, ?_⟩
  show (if n < 5 then setBit s.pw.cause n else s.pw.cause).testBit n = true
  rw [if_pos lt, testBit_setBit]
  simp

theorem beginWake_wakes {s : State} (up : s.pw.state ≠ .off) : (beginWake s).pw.state = .waking ∧ (beginWake s).pw.stage = 1 := by
  rw [show beginWake s = _ from if_neg up]
  exact ⟨rfl, rfl⟩

theorem beginWake_boots {s : State} (off : s.pw.state = .off) : (beginWake s).pw.state = .booting ∧ (beginWake s).pw.stage = 1 := by
  rw [show beginWake s = _ from if_pos off]
  exact ⟨rfl, rfl⟩

section Fires

variable {s : State} {src : Nat} (free : s.pw.entering = none)
include free

/-- A source that wakes the device from its state starts the wake, or the cold boot, and is noted. -/
theorem fireWake_begins (low : s.pw.state = .watch ∨ s.pw.state = .keep ∨ s.pw.state = .off) (wakes : wakesFrom s src s.pw.state = true) :
    fireWake s src = noteWake (beginWake s) src := by
  unfold fireWake
  rw [free]
  rcases low with e | e | e <;> (rw [e] at wakes ⊢; exact if_pos wakes)

theorem fireWake_wakes (low : s.pw.state = .watch ∨ s.pw.state = .keep) (wakes : wakesFrom s src s.pw.state = true) (lt : src < 5) :
    (fireWake s src).pw.state = .waking ∧ (fireWake s src).pw.stage = 1 ∧ (fireWake s src).pw.cause.testBit src = true := by
  obtain ⟨state, stage, cause⟩ := noteWake_sets (beginWake s) lt
  obtain ⟨waking, first⟩ := beginWake_wakes (s := s) (by rcases low with e | e <;> simp [e])
  rw [fireWake_begins free (low.imp_right Or.inl) wakes]
  exact ⟨state.trans waking, stage.trans first, cause⟩

theorem fireWake_boots (off : s.pw.state = .off) (wakes : wakesFrom s src s.pw.state = true) (lt : src < 5) :
    (fireWake s src).pw.state = .booting ∧ (fireWake s src).pw.stage = 1 ∧ (fireWake s src).pw.cause.testBit src = true := by
  obtain ⟨state, stage, cause⟩ := noteWake_sets (beginWake s) lt
  obtain ⟨booting, first⟩ := beginWake_boots off
  rw [fireWake_begins free (Or.inr (Or.inr off)) wakes]
  exact ⟨state.trans booting, stage.trans first, cause⟩

end Fires

/-! ### The wake target (21 R817 to R819, 22 R853) -/

theorem wakeWrites_keeps (s : State) (p : Nat) (bs : List Byte) :
    (wakeWrites s p bs).pw.state = s.pw.state ∧ (wakeWrites s p bs).pw.entering = s.pw.entering := by
  induction bs generalizing s p with
  | nil => exact ⟨rfl, rfl⟩
  | cons b bs ih =>
    have kept : (wakeWrite s (p % 256) b).pw.state = s.pw.state ∧ (wakeWrite s (p % 256) b).pw.entering = s.pw.entering := by
      unfold wakeWrite
      split
      · exact ⟨rfl, rfl⟩
      split <;> exact ⟨rfl, rfl⟩
    obtain ⟨state, entering⟩ := ih (wakeWrite s (p % 256) b) (p + 1)
    exact ⟨state.trans kept.1, entering.trans kept.2⟩

/-- The state in which a write transaction's bytes have been taken. -/
def i2cTaken (s : State) : List Byte → State
  | [] => s
  | p :: bs =>
    let t := s.modPw fun w => { w with pointer := p.toNat }
    if clockless s then t else wakeWrites (t.modPw fun w => { w with pointer := (p.toNat + bs.length) % 256 }) p.toNat bs

theorem i2cTaken_keeps (s : State) (data : List Byte) :
    (i2cTaken s data).pw.state = s.pw.state ∧ (i2cTaken s data).pw.entering = s.pw.entering := by
  cases data with
  | nil => exact ⟨rfl, rfl⟩
  | cons p bs =>
    unfold i2cTaken
    dsimp only
    split
    · exact ⟨rfl, rfl⟩
    · exact wakeWrites_keeps _ p.toNat bs

theorem i2cWrite_addressed {s : State} (data : List Byte) (up : s.pw.aonDown = false) :
    i2cWrite s s.pw.wakeAddr data = fireWake (i2cTaken s data) 0 := by
  unfold i2cWrite
  rw [if_neg (by simp [up])]
  cases data <;> rfl

theorem i2cWrite_other {s : State} {a : Nat} (data : List Byte) (other : a ≠ s.pw.wakeAddr) : i2cWrite s a data = s :=
  if_pos (by simp [other])

theorem i2cWrite_wakes {s : State} (data : List Byte) (up : s.pw.aonDown = false) (free : s.pw.entering = none)
    (low : s.pw.state = .watch ∨ s.pw.state = .keep) : (i2cWrite s s.pw.wakeAddr data).pw.state = .waking ∧
      (i2cWrite s s.pw.wakeAddr data).pw.stage = 1 ∧ (i2cWrite s s.pw.wakeAddr data).pw.cause.testBit 0 = true := by
  obtain ⟨state, entering⟩ := i2cTaken_keeps s data
  rw [i2cWrite_addressed data up]
  refine fireWake_wakes (entering.trans free) (by rwa [state]) ?_ (by decide)
  rw [state]
  rcases low with e | e <;> rw [e] <;> rfl

theorem i2cWrite_boots {s : State} (data : List Byte) (up : s.pw.aonDown = false) (free : s.pw.entering = none)
    (off : s.pw.state = .off) : (i2cWrite s s.pw.wakeAddr data).pw.state = .booting ∧
      (i2cWrite s s.pw.wakeAddr data).pw.stage = 1 ∧ (i2cWrite s s.pw.wakeAddr data).pw.cause.testBit 0 = true := by
  obtain ⟨state, entering⟩ := i2cTaken_keeps s data
  rw [i2cWrite_addressed data up]
  refine fireWake_boots (entering.trans free) (state.trans off) ?_ (by decide)
  rw [state, off]
  rfl

theorem i2cRead_reads {s : State} (n : Nat) (up : s.pw.aonDown = false) : i2cRead s n = s.modPw fun w =>
    { w with wakeOut := (List.range n).map fun i => BitVec.ofNat 8 (wakeReg s ((s.pw.pointer + i) % 256)),
             pointer := (w.pointer + n) % 256 } := if_neg (by simp [up])

/-! ### Trigger pins and the wake port (21 R815, R816) -/

theorem trigWake_wakes {s : State} {c : Nat} (free : s.pw.entering = none) (watch : s.pw.state = .watch)
    (set : s.pw.trigMask.testBit c = true) : (trigWake s c).pw.state = .waking ∧ (trigWake s c).pw.stage = 1 ∧
      (trigWake s c).pw.cause.testBit 2 = true := by
  unfold trigWake
  rw [if_pos set]
  exact fireWake_wakes free (Or.inl watch) (by rw [watch]; rfl) (by decide)

theorem trigWake_idle {s : State} {c : Nat} (clear : s.pw.trigMask.testBit c = false) : trigWake s c = s := if_neg (by simp [clear])

/-- The state in which a scan of the wake port has been counted. -/
def watchCounted (s : State) (v : TouchPort) (hit : Bool) : State :=
  (modPort s s.pw.watchPort fun _ => v).modPw fun w => { w with hits := if hit then min 15 (w.hits + 1) else 0 }

/-- A scan of the wake port counts, and wakes where the count has reached WAKE_SCANS. -/
theorem scanWatch_counts {s : State} (iq : List (Int × Int)) (watch : s.pw.state = .watch) (on : s.pw.touchEn = true)
    (set : (portOf s s.pw.watchPort).configured = true) : ∃ v hit, scanWatch s iq =
      if hit && decide ((watchCounted s v hit).pw.hits ≥ (watchCounted s v hit).pw.wakeScans) then fireWake (watchCounted s v hit) 1
      else watchCounted s v hit := ⟨_, _, if_neg (by simp [watch, on, set])⟩

theorem scanWatch_idle {s : State} (iq : List (Int × Int)) (idle : s.pw.state ≠ .watch ∨ s.pw.touchEn = false) : scanWatch s iq = s :=
  if_pos (by rcases idle with e | e <;> simp [e])

theorem scanWatch_wakes {s : State} (iq : List (Int × Int)) (free : s.pw.entering = none) (watch : s.pw.state = .watch)
    (on : s.pw.touchEn = true) (set : (portOf s s.pw.watchPort).configured = true) :
    ((scanWatch s iq).pw.state = .watch ∧ ((scanWatch s iq).pw.hits = 0 ∨
      (scanWatch s iq).pw.hits = min 15 (s.pw.hits + 1) ∧ min 15 (s.pw.hits + 1) < s.pw.wakeScans)) ∨
    ((scanWatch s iq).pw.state = .waking ∧ (scanWatch s iq).pw.cause.testBit 1 = true ∧ s.pw.wakeScans ≤ min 15 (s.pw.hits + 1)) := by
  obtain ⟨v, hit, e⟩ := scanWatch_counts iq watch on set
  have power : (watchCounted s v hit).pw = { s.pw with hits := if hit then min 15 (s.pw.hits + 1) else 0 } := rfl
  rw [e]
  cases hit with
  | false => exact Or.inl ⟨by rw [if_neg (by simp), power, watch], Or.inl (by rw [if_neg (by simp), power]; rfl)⟩
  | true =>
    by_cases reached : s.pw.wakeScans ≤ min 15 (s.pw.hits + 1)
    · rw [if_pos (by simpa [power] using reached)]
      obtain ⟨waking, -, cause⟩ := fireWake_wakes (s := watchCounted s v true) (src := 1) (by rw [power]; exact free)
        (Or.inl (by rw [power]; exact watch)) (by rw [power]; simp [watch, wakesFrom, power, on]) (by decide)
      exact Or.inr ⟨waking, cause, reached⟩
    · rw [if_neg (by simpa [power] using reached)]
      exact Or.inl ⟨by rw [power]; exact watch, Or.inr ⟨by rw [power]; rfl, Nat.lt_of_not_le reached⟩⟩

/-- Settles O35: by what a source that fires leaves, for each source, and by what a read transaction answers. -/
theorem wakeSources : Obligations.WakeSources := by
  unfold Obligations.WakeSources
  exact ⟨fun s data up free => ⟨fun low => ⟨_, rfl, i2cWrite_wakes data up free low⟩, fun off => ⟨_, rfl, i2cWrite_boots data up free off⟩⟩,
    fun s a data other => ⟨_, rfl, i2cWrite_other data other⟩,
    fun s c free watch set => ⟨_, rfl, trigWake_wakes free watch set⟩, fun s c clear => ⟨_, rfl, trigWake_idle clear⟩,
    fun s iq free watch on set => ⟨_, rfl, scanWatch_wakes iq free watch on set⟩,
    fun s iq idle => ⟨_, rfl, scanWatch_idle iq idle⟩, fun s n up => ⟨_, rfl, i2cRead_reads n up⟩⟩

end Sys2Proof.Machine
end


section
/-! PROOFS. Boot images, training and resumption (O38). -/

namespace Sys2Proof.Machine

/-! ### What the security block locks stays locked (19 R756, 20 R790) -/

/-- The Stockroom, the memory controller and the Ledger are locked. -/
def Locked (s : State) : Prop := s.sr.lock = true ∧ s.dram.lock = true ∧ s.lg.lock = true

theorem Locked.of_same {s t : State} (h : Same 0x42080 s t) (locked : Locked s) : Locked t := by
  unfold Locked
  rw [h.get .sr (by decide), h.get .dram (by decide), h.get .lg (by decide)]
  exact locked

theorem Locked.modSr {s : State} {f : Stockroom → Stockroom} (h : Locked s) (keeps : (f s.sr).lock = s.sr.lock) : Locked (s.modSr f) :=
  ⟨keeps.trans h.1, h.2.1, h.2.2⟩

theorem Locked.raise {s : State} (h : Locked s) (n b : Nat) : Locked (raise s n b) := .of_same (same_raise s n b (by decide) same_refl) h

theorem assert_lock (s : State) (b a : Nat) (i : Bool) (lt : b < 40) : (assert s b a i).lg.lock = s.lg.lock := by
  obtain ⟨v, u, -, -, set, result⟩ := assert_cases s b a i lt
  have noted : u.lg.lock = s.lg.lock := by obtain ⟨-, rfl⟩ | ⟨-, rfl⟩ := set <;> rfl
  obtain ⟨-, e⟩ | ⟨-, e | ⟨k, e⟩⟩ := result <;> rw [e]
  · rw [halt_lg]
    exact noted
  · exact noted
  · exact noted

theorem Locked.assert {s : State} (h : Locked s) (b a : Nat) (lt : b < 40) : Locked (assert s b a) := by
  have memories : Same 0x42000 s (Machine.assert s b a) := same_assert s b a false (by decide) same_refl
  obtain ⟨stockroom, dram, ledger⟩ := h
  exact ⟨(congrArg Stockroom.lock (memories.get .sr (by decide))).trans stockroom,
    (congrArg Dram.lock (memories.get .dram (by decide))).trans dram, (assert_lock s b a false lt).trans ledger⟩

theorem Locked.noteWord {s : State} (h : Locked s) (a : Nat) : Locked (noteWord s a) := by
  unfold Machine.noteWord noteFault
  split
  · exact .raise (h.modSr rfl) _ _
  · exact .assert (.raise (h.modSr rfl) _ _) 16 0 (by decide)
  · exact h

theorem Locked.writeBytes {s : State} (h : Locked s) (poison : Bool) (a : Nat) (bs : List Byte) : Locked (writeBytes s poison a bs) := by
  have word : ∀ t w, Locked t → Locked (writeWord poison a bs.length t w) := fun t w locked => by
    unfold writeWord
    split
    · exact locked.modSr rfl
    split
    · exact locked.modSr rfl
    · exact (locked.noteWord w).modSr rfl
  exact (fold_keeps (P := Locked) word h).modSr rfl

theorem Locked.readSprite {s : State} (h : Locked s) (v : Sprite) : Locked (readSprite s v) := by
  refine fold_keeps (P := Locked) (fun t g locked => ?_) h
  split
  · exact fold_keeps (P := Locked) (fun u a now => now.noteWord a) (locked.modSr rfl)
  · exact .assert (locked.raise _ _) 17 _ (by decide)

theorem Locked.setSprite {s : State} (h : Locked s) (head n : Nat) (v : Sprite) : Locked (setSprite s head n v) := by
  have placed : ∀ t k, Locked t → Locked (t.modAu k) := fun t k locked => locked
  have told : ∀ (c : Bool) t, Locked t → Locked (if c then ttFault t else t) := fun c t locked => by
    cases c
    · exact locked
    · exact .assert (locked.raise _ _) 27 0 (by decide)
  have read : ∀ c : Bool, Locked (if c then Machine.readSprite s v else s) := fun c => by
    cases c
    · exact h
    · exact h.readSprite v
  exact told _ _ (placed _ _ (read _))

theorem Locked.applyTelltales {s : State} (h : Locked s) (body : List Byte) : Locked (applyTelltales s body) := by
  have shown := (h.modSr (f := fun x => { x with moved := setBit x.moved 7 }) rfl).writeBytes false 0
    ((body.drop (roundup64 (128 + 16 * fieldOf body 48 1))).take (fieldOf body 52 4))
  have colours := fold_keeps (P := Locked) (f := fun s i => setPalette s (dbits (earlyDescriptor body) 16 0 4) (i + 1) (fieldOf body (64 + 4 * i) 4))
    (l := List.range 15) (fun t i locked => locked) shown
  exact fold_keeps (P := Locked) (l := List.range (fieldOf body 48 1)) (fun t i locked => locked.setSprite _ i _) colours

theorem applySecurity_locks (s : State) (body : List Byte) : Locked (applySecurity s body) := ⟨rfl, rfl, rfl⟩

/-! ### An image that is accepted (21 R832) -/

/-- Under a HALT latch the boot ends with its image. -/
def bootEnds (s : State) : State := if halted s then openDevice s else s

theorem openDevice_pw (s : State) : (openDevice s).pw = { s.pw with state := .run, coldWake := false } := by
  unfold openDevice
  dsimp only
  rw [(same_raisePower (ps := 0x800000) _ _ (by decide) same_refl).get .pw (by decide)]
  rfl

theorem bootEnds_keeps (s : State) : (bootEnds s).pw.boot = s.pw.boot ∧ (bootEnds s).pw.bootStatus = s.pw.bootStatus ∧
    (Locked s → Locked (bootEnds s)) := by
  unfold bootEnds
  split
  · rw [openDevice_pw]
    exact ⟨rfl, rfl, fun locked => locked.of_same (same_raisePower _ _ (by decide) (same_modWd (by decide) (same_modPw (by decide) same_refl)))⟩
  · exact ⟨rfl, rfl, id⟩

/-- The power block once an image is accepted. -/
def powerTrained (spares version : Nat) (patch pcie : Bool) (p : Power) : Power :=
  { p with boot := .trained, spares := spares, patched := patch, pcieBoot := pcie,
           patchVersion := if patch then version else 0, bootStatus := if pcie then 2 else p.bootStatus }

/-- The state in which the blocks of an accepted image have set what they set. -/
def imageSet (s : State) (security : List Byte) (early : Bool) (telltales : List Byte) (dram : Dram → Dram) (blocks : List Measure)
    (power : Power → Power) : State :=
  let s := applySecurity s security
  let s := if early then applyTelltales s telltales else s
  ((s.modDram dram).modWd fun w => { w with blocks := blocks }).modPw power

theorem imageSet_locks (s : State) (security : List Byte) (early : Bool) (telltales : List Byte) {dram : Dram → Dram}
    (blocks : List Measure) (power : Power → Power) (keeps : ∀ d, (dram d).lock = d.lock) :
    Locked (imageSet s security early telltales dram blocks power) := by
  have applied : Locked (if early then applyTelltales (applySecurity s security) telltales else applySecurity s security) := by
    cases early
    · exact applySecurity_locks s security
    · exact (applySecurity_locks s security).applyTelltales telltales
  obtain ⟨stockroom, memory, ledger⟩ := applied
  exact ⟨stockroom, (keeps _).trans memory, ledger⟩

/-- An accepted image sets what its blocks say, and tells of a block that was skipped. -/
theorem acceptImage_sets (s : State) (b : List Byte) (good : List Bool) (pcie : Bool) :
    ∃ t security early telltales pdIdle gib blocks spares version patch, ∃ skipped : Bool, acceptImage s b good pcie =
      bootEnds (if skipped
        then assert (imageSet t security early telltales (fun d => { d with pdIdle := pdIdle, gib := gib }) blocks
          (powerTrained spares version patch pcie)) 37 0
        else imageSet t security early telltales (fun d => { d with pdIdle := pdIdle, gib := gib }) blocks
          (powerTrained spares version patch pcie)) :=
  ⟨_, _, _, _, _, _, _, _, _, _, _, rfl⟩

theorem acceptImage_takes (s : State) (b : List Byte) (good : List Bool) (pcie : Bool) : ∃ u : State, ∃ skipped : Bool,
    acceptImage s b good pcie = bootEnds (if skipped then assert u 37 0 else u) ∧
    Locked u ∧ u.pw.boot = .trained ∧ (pcie = true → u.pw.bootStatus = 2) := by
  obtain ⟨t, security, early, telltales, pdIdle, gib, blocks, spares, version, patch, skipped, e⟩ := acceptImage_sets s b good pcie
  exact ⟨_, skipped, e, imageSet_locks t security early telltales blocks _ fun _ => rfl, rfl, fun host => if_pos host⟩

/-- What an accepted image leaves. -/
def Trains (t : State) : Prop := t.pw.boot = .trained ∧ t.sr.lock = true ∧ t.dram.lock = true ∧ t.lg.lock = true

theorem acceptImage_trains (s : State) (b : List Byte) (good : List Bool) (pcie : Bool) : Trains (acceptImage s b good pcie) ∧
    (pcie = true → (acceptImage s b good pcie).pw.bootStatus = 2) := by
  obtain ⟨u, skipped, e, locked, trained, status⟩ := acceptImage_takes s b good pcie
  have told : (if skipped then assert u 37 0 else u).pw = u.pw ∧ Locked (if skipped then assert u 37 0 else u) := by
    split
    · exact ⟨assert_pw .., locked.assert 37 0 (by decide)⟩
    · exact ⟨rfl, locked⟩
  obtain ⟨boot, answer, keeps⟩ := bootEnds_keeps (if skipped then assert u 37 0 else u)
  rw [e]
  exact ⟨⟨by rw [boot, told.1, trained], keeps told.2⟩, fun e => by rw [answer, told.1, status e]⟩

/-! ### The image of a slot (21 R828 to R831) -/

section Load

variable {s : State} {b : List Byte} {g : List Bool} (stage : s.pw.stage = 5) (up : s.pw.aonDown = false) (boots : s.pw.state = .booting)
include stage up boots

theorem loadImage_slotA (boot : s.pw.boot = .slotA) :
    loadImage s 0 b g = if imageGood s b g then acceptImage s b g false else failSlot s 0 := by
  unfold loadImage
  rw [if_neg (by simp [stage, up])]
  exact if_pos (by simp [boots, boot])

theorem loadImage_slotB (boot : s.pw.boot = .slotB) :
    loadImage s 1 b g = if imageGood s b g then acceptImage s b g false else failSlot s 1 := by
  unfold loadImage
  rw [if_neg (by simp [stage, up])]
  exact if_pos (by simp [boots, boot])

theorem loadImage_pcie (boot : s.pw.boot = .pcie) (go : s.pw.bootStatus = 1) :
    loadImage s 2 b g = if imageGood s b g then acceptImage s b g true else s.modPw fun p => { p with bootStatus := 3 } := by
  unfold loadImage
  rw [if_neg (by simp [stage, up])]
  dsimp only
  rw [if_neg (by simp), if_pos (by simp [boot, go])]
  cases imageGood s b g
  · rfl
  · simp [boots]

end Load

theorem failSlot_a (s : State) : (failSlot s 0).pw.boot = .slotB ∧ (failSlot s 0).pw.bootFault = true := ⟨rfl, rfl⟩

theorem failSlot_waits {s : State} (pcie : s.pw.bootSel = 1) : (failSlot s 1).pw.boot = .pcie := by
  rw [show failSlot s 1 = _ from if_pos pcie]
  rfl

theorem failSlot_fails {s : State} (qspi : s.pw.bootSel ≠ 1) : (failSlot s 1).pw.boot = .failed ∧ (lgSrc (failSlot s 1) 37).on = true := by
  rw [show failSlot s 1 = _ from if_neg qspi]
  exact ⟨by rw [assert_pw]; rfl, assert_sets _ _ _ _ (by decide)⟩

/-! ### Training (17 R720, R723) -/

theorem trainingEnds_boot {s : State} (gib present good : Nat) (boots : s.pw.state = .booting) (trained : s.pw.boot = .trained) :
    (trainingEnds s gib present good).pw.state = .run := by
  unfold trainingEnds
  rw [if_pos (by simp [boots, trained]), openDevice_pw]

theorem checkRanks_good {s : State} {good : Nat} (all : ∀ n, n < 16 → good.testBit n = true) : checkRanks s good = s := by
  refine if_pos ?_
  rw [List.isEmpty_iff]
  refine List.filter_eq_nil_iff.2 fun n mem => ?_
  simp [all n (List.mem_range.1 mem)]

theorem trainingEnds_wake {s : State} (gib present : Nat) {good : Nat} (wakes : s.pw.state = .waking) (stage : s.pw.stage = 3)
    (all : ∀ n, n < 16 → good.testBit n = true) : trainingEnds s gib present good = s := by
  unfold trainingEnds
  rw [if_neg (by simp [wakes]), if_pos (by simp [wakes, stage])]
  exact checkRanks_good all

theorem trainingEnds_idle {s : State} (gib present good : Nat) (boot : s.pw.state ≠ .booting ∨ s.pw.boot ≠ .trained)
    (wake : s.pw.state ≠ .waking ∨ s.pw.stage ≠ 3) : trainingEnds s gib present good = s := by
  unfold trainingEnds
  rw [if_neg (by rcases boot with e | e <;> simp [e]), if_neg (by rcases wake with e | e <;> simp [e])]

/-! ### Resumption (21 R825, R826) -/

section Resume

variable {s : State} {good : Bool} (patched : Bool) (wakes : s.pw.state = .waking) (stage : s.pw.stage = 5) (trained : s.pw.boot = .trained)
include wakes stage trained

theorem resume_cold (bell : State → Nat → Nat → State) (lost : good = false ∨ resumeLost s = true) : resume bell s good patched = goCold s := by
  unfold resume
  rw [if_neg (by simp [wakes, stage, trained]), if_pos (by rcases lost with e | e <;> simp [e])]

/-- A wake that resumes is in RUN before the doorbells kept in WATCH ring. -/
theorem resume_runs (bell : State → Nat → Nat → State) (sound : good = true) (kept : resumeLost s = false) :
    ∃ (l : List (Nat × Nat)) (u : State), resume bell s good patched = l.foldl (fun t e => bell t e.1 e.2) u ∧
      u.pw.state = .run ∧ u.pw.tails = [] := by
  unfold resume
  rw [if_neg (by simp [wakes, stage, trained]), if_neg (by simp [sound, kept])]
  refine ⟨_, _, rfl, ?_⟩
  have power : ∀ v, Same 0x800000 v (raisePower ((if v.tl.src = 0 then enterFree v else enterAcquire v).modTl fun t =>
      { t with seenEdge := false, lockedEpochs := 0, lockedFreqs := [] }) false) := fun v =>
    same_raisePower _ false (by decide) (same_modTl (by decide)
      (same_ite (same_enterFree v (by decide) same_refl) (same_enterAcquire v (by decide) same_refl)))
  rw [(power _).get .pw (by decide)]
  exact ⟨rfl, rfl⟩

end Resume

theorem goCold_boots (s : State) : (goCold s).pw.state = .booting ∧ (goCold s).pw.stage = 5 ∧ (goCold s).pw.coldWake = true :=
  ⟨rfl, rfl, rfl⟩

/-- Settles O38: by what an accepted or failed image, the end of training and a resumption leave of the power block. -/
theorem bootAndResumption : Obligations.BootAndResumption := by
  unfold Obligations.BootAndResumption
  refine ⟨fun s b g stage up boots => ⟨fun boot sound => ⟨_, rfl, ?_⟩, fun boot sound => ⟨_, rfl, ?_⟩, fun boot go sound => ⟨_, rfl, ?_⟩,
      fun boot bad => ⟨_, rfl, ?_⟩, fun boot bad pcie => ⟨_, rfl, ?_⟩, fun boot bad qspi => ⟨_, rfl, ?_⟩, fun boot go bad => ⟨_, rfl, ?_⟩⟩,
    fun s gib present good boots trained => ⟨_, rfl, trainingEnds_boot gib present good boots trained⟩,
    fun s gib present good wakes stage all => ⟨_, rfl, trainingEnds_wake gib present wakes stage all⟩,
    fun s gib present good boot wake => ⟨_, rfl, trainingEnds_idle gib present good boot wake⟩,
    fun s good patched wakes stage trained => ⟨fun sound kept => ⟨_, rfl, ?_⟩, fun lost => ⟨_, rfl, ?_⟩⟩⟩
  · rw [loadImage_slotA stage up boots boot, if_pos sound]
    exact (acceptImage_trains s b g false).1
  · rw [loadImage_slotB stage up boots boot, if_pos sound]
    exact (acceptImage_trains s b g false).1
  · rw [loadImage_pcie stage up boots boot go, if_pos sound]
    exact (acceptImage_trains s b g true).imp_right fun status => status rfl
  · rw [loadImage_slotA stage up boots boot, if_neg (by simp [bad])]
    exact failSlot_a s
  · rw [loadImage_slotB stage up boots boot, if_neg (by simp [bad])]
    exact failSlot_waits pcie
  · rw [loadImage_slotB stage up boots boot, if_neg (by simp [bad])]
    exact failSlot_fails qspi
  · rw [loadImage_pcie stage up boots boot go, if_neg (by simp [bad])]
  · obtain ⟨l, u, e, run, used⟩ := resume_runs patched wakes stage trained (fun s ring v => ringDoorbell s 0 ring v) sound kept
    have rung : Same 0x800000 u (l.foldl (fun t e => ringDoorbell t 0 e.1 e.2) u) :=
      same_foldl (fun t e w => same_ringDoorbell t 0 e.1 e.2 (by decide) w) same_refl
    rw [e, rung.get .pw (by decide)]
    exact ⟨run, used⟩
  · rw [resume_cold patched wakes stage trained _ lost]
    exact goCold_boots s

end Sys2Proof.Machine
end


section
/-! PROOFS. Samples of audio units and streams, frame sync, position records and comparisons (O52). -/

namespace Sys2Proof.Machine

/-! ### Steps of the mixer that leave the sinks and converters alone (15 R645 to R649) -/

/-- Every sink and converter is as it was. -/
structure UnitsKept (s t : State) : Prop where
  units : t.audio.units = s.audio.units

namespace UnitsKept

variable {s t u : State}

theorem refl (s : State) : UnitsKept s s := ⟨rfl⟩

theorem trans (x : UnitsKept s t) (y : UnitsKept t u) : UnitsKept s u := ⟨y.units.trans x.units⟩

theorem of_same (h : Same 0x80000 s t) : UnitsKept s t := ⟨congrArg Audio.units (h.get .audio (by decide))⟩

theorem ite {c : Prop} [Decidable c] (x : UnitsKept s t) (y : UnitsKept s u) : UnitsKept s (if c then t else u) := by split <;> assumption

theorem foldl {α : Type} {g : State → α → State} (h : ∀ t x, UnitsKept t (g t x)) (l : List α) (s : State) :
    UnitsKept s (l.foldl g s) := fold_keeps (P := UnitsKept s) (fun t x w => w.trans (h t x)) (refl s)

theorem unitOf_eq (h : UnitsKept s t) (k : Nat) : unitOf t k = unitOf s k := by
  unfold unitOf
  rw [h.units]

end UnitsKept

theorem modAudio_units {s : State} {f : Audio → Audio} (keeps : (f s.audio).units = s.audio.units) : UnitsKept s (s.modAudio f) := ⟨keeps⟩

theorem modInput_units (s : State) (i : Nat) (f : Input → Input) : UnitsKept s (modInput s i f) := ⟨rfl⟩
theorem modBus_units (s : State) (b : Nat) (f : Bus → Bus) : UnitsKept s (modBus s b f) := ⟨rfl⟩
theorem modPath_units (s : State) (n b : Nat) (f : Path → Path) : UnitsKept s (modPath s n b f) := ⟨rfl⟩
theorem modTone_units (s : State) (g : Nat) (f : Tone → Tone) : UnitsKept s (modTone s g f) := ⟨rfl⟩
theorem modStream_units (s : State) (n : Nat) (f : AudioStream → AudioStream) : UnitsKept s (modStream s n f) := ⟨rfl⟩

theorem finish_units (s : State) (f : Flight) (v : Verdict) : UnitsKept s (finish s f v) :=
  .of_same (same_finish s f v (by decide) same_refl)

theorem missNote_units (s : State) (f : Flight) : UnitsKept s (missNote s f) := .of_same (same_missNote s f (by decide) same_refl)

theorem applyChange_units (s : State) (c : Change) : UnitsKept s (applyChange s c) := by
  have path : UnitsKept s (applyPath s c) := by
    unfold applyPath
    dsimp only
    split
    · exact (finish_units s _ _).trans (modPath_units ..)
    · exact modPath_units ..
  exact .ite (modStream_units ..) (.ite (modStream_units ..) (.ite (.ite path (.ite (modInput_units ..) (modBus_units ..)))
    (.ite (.ite (modInput_units ..) (modBus_units ..)) (.ite (modBus_units ..) (modTone_units ..)))))

theorem applyDue_units (s : State) (u : Option Nat) : UnitsKept s (applyDue s u) := by
  refine .foldl (fun t c => ?_) _ s
  have applied : UnitsKept t ((applyChange t c).modAudio fun a => { a with changes := a.changes.filter fun x => x.id ≠ c.id }) :=
    (applyChange_units t c).trans (modAudio_units rfl)
  refine .ite (.refl t) ?_
  dsimp only
  split
  · exact .ite applied (applied.trans (finish_units ..))
  · exact applied

theorem stepInputs_units (s : State) (u : Nat) : UnitsKept s (stepInputs s u) := by
  unfold stepInputs
  exact .foldl (fun t i => .ite (modInput_units ..) (.refl t)) _ s

theorem takeInputs_units (s : State) (u : Nat) (ins : List Nat) : UnitsKept s (takeInputs s u ins) := by
  unfold takeInputs
  dsimp only
  have drawn : ∀ (t : State) (c : Bool) (o : Option Nat) (n : Nat), UnitsKept t (if c then ((0 : Int), t) else match o with
      | some w => (sint n w * 2 ^ (32 - n), t)
      | none => (sint n (freshValue t).1.toNat * 2 ^ (32 - n), (freshValue t).2)).2 := fun t c o n => by
    cases c
    · cases o <;> exact ⟨rfl⟩
    · exact .refl t
  exact .foldl (fun t i => .ite (.refl t) (.trans (drawn ..) (modInput_units ..))) _ s

theorem soundTone_units (s : State) (g fs : Nat) : UnitsKept s (soundTone s g fs) :=
  .ite ((modTone_units s g _).trans ⟨rfl⟩) (modTone_units s g _)

theorem pathSample_units (s : State) (i b : Nat) : UnitsKept s (pathSample s i b).2 := by
  have drawn : ∀ (c : Bool) (x : Int), UnitsKept s (if c then (sint 40 (freshValue s).1.toNat, (freshValue s).2) else (x, s)).2 := fun c x => by
    cases c <;> exact ⟨rfl⟩
  have switched : ∀ (c : Bool) (n : Nat) (t : State), UnitsKept t (if c then
      match flightBy t fun f => decide (f.id + 1 = n) with | some f => finishDone t f | none => t else t) := fun c n t => by
    refine .ite ?_ (.refl t)
    split
    · exact finish_units ..
    · exact .refl t
  exact ((drawn _ _).trans (switched _ _ _)).trans (modPath_units ..)

/-- What the paths into a bus bring it, and the state after. -/
def busPaths (s : State) (b : Nat) : Int × State :=
  (pathsInto s b).foldl (fun a i => (a.1 + (pathSample a.2 i b).1, (pathSample a.2 i b).2)) ((0 : Int), s)

theorem busPaths_units (s : State) (b : Nat) : UnitsKept s (busPaths s b).2 :=
  List.foldlRecOn (motive := fun a : Int × State => UnitsKept s a.2) _ _ (.refl s) fun a now i _ => now.trans (pathSample_units a.2 i b)

theorem busStep_eq (s : State) (b : Nat) : ∃ f, busStep s b = modBus (busPaths s b).2 b f := by
  by_cases low : (busOf (busPaths s b).2 b).lowlat = true
  · exact ⟨_, if_pos low⟩
  · exact ⟨_, if_neg low⟩

theorem busStep_units (s : State) (b : Nat) : UnitsKept s (busStep s b) := by
  obtain ⟨f, e⟩ := busStep_eq s b
  rw [e]
  exact (busPaths_units s b).trans (modBus_units ..)

theorem fireSample_units (s : State) (u n : Nat) : UnitsKept s (fireSample s u n) := by
  unfold fireSample
  exact .foldl (fun t f => .ite ((missNote_units t f).trans (finish_units ..))
    (.ite (modAudio_units rfl) (.trans (modAudio_units rfl) (finish_units ..)))) _ s

/-! ### A sample of a sink or converter (15 R641, R645) -/

/-- The state in which the inputs, tones and buses of a unit's sample stand. -/
def unitMixed (s : State) (u : Nat) (ins : List Nat) : State :=
  let n := (unitOf s u).count
  let s := s.modAudio fun a => { a with changes := a.changes.map fun c =>
    if c.due.isNone && c.sink = u && c.pos = n then { c with due := some (now s) } else c }
  let s := takeInputs (applyDue (stepInputs s u) (some u)) u ins
  let s := (List.range 8).foldl (fun s g =>
    if toneUnit s (toneOf s g) = some u then soundTone s g (hz (unitOf s u).rate) else s) s
  (busesOn s u).foldl busStep s

/-- What a sink sends. -/
def sinkOut (s : State) (u : Nat) : List Int :=
  if isSink u then (List.range (sinkChannels (unitOf s u) u)).map fun c => match channelBus s u c with
    | some b => if muted s u then 0 else outSample (sinkBits (unitOf s u) u) (busOf s b).last
    | none => 0
  else []

theorem unitSample_eq (s : State) (u : Nat) (ins : List Nat) : unitSample s u ins = fireSample (modUnit (unitMixed s u ins) u fun v =>
    { v with count := (unitOf s u).count + 1, out := sinkOut (unitMixed s u ins) u }) u (unitOf s u).count := by
  unfold unitMixed sinkOut unitSample
  dsimp only <;> generalize List.foldl busStep _ _ = mixed <;> rfl

theorem unitMixed_units (s : State) (u : Nat) (ins : List Nat) : UnitsKept s (unitMixed s u ins) := by
  have tones : ∀ t, UnitsKept t ((List.range 8).foldl (fun s g =>
      if toneUnit s (toneOf s g) = some u then soundTone s g (hz (unitOf s u).rate) else s) t) := fun t =>
    .foldl (fun v g => .ite (soundTone_units ..) (.refl v)) _ t
  unfold unitMixed
  refine .trans (.trans ?_ (tones _)) (.foldl busStep_units _ _)
  exact .trans (.trans (.trans (modAudio_units rfl) (stepInputs_units _ u)) (applyDue_units _ (some u))) (takeInputs_units _ u ins)

theorem halted_of_kept {q : List Instr} {k : Option Nat} {s t : State} (w : Kept q s.lg.haltSrc k false t) (latched : halted s = true) :
    halted t = true := by
  obtain ⟨b, e⟩ := Option.isSome_iff_exists.1 latched
  unfold halted
  rw [w.latch b e]
  rfl

theorem unitMixed_kept {q : List Instr} {h k : Option Nat} {s : State} (w : Kept q h k false s) (u : Nat) (ins : List Nat) :
    Kept q h k false (unitMixed s u ins) := by
  unfold unitMixed
  refine kept_foldl (fun t b w => kept_busStep t b w) (kept_foldl (fun t g w => kept_ite (kept_soundTone t g _ w) w) ?_)
  exact kept_takeInputs _ u ins (kept_applyDue _ (some u) (kept_stepInputs _ u (kept_modAudio w)))

theorem sinkOut_halted {s : State} (latched : halted s = true) (u : Nat) : ∀ x ∈ sinkOut s u, x = 0 := by
  have held : muted s u = true := by
    unfold muted
    simp [latched]
  intro x mem
  unfold sinkOut at mem
  simp only [held, if_true] at mem
  split at mem
  · obtain ⟨c, -, rfl⟩ := List.mem_map.1 mem
    split <;> rfl
  · cases mem

/-- A sample counts on its unit, and changes no more of it than what it sends. -/
theorem unitSample_unit (s : State) (u : Nat) (ins : List Nat) : unitOf (unitSample s u ins) u =
    { unitOf s u with count := (unitOf s u).count + 1, out := sinkOut (unitMixed s u ins) u } := by
  rw [unitSample_eq, (fireSample_units ..).unitOf_eq, unitOf_modUnit_same, (unitMixed_units s u ins).unitOf_eq]

/-! ### SAMPLE_START (15 R641, R662) -/

theorem sampleDue_of {s t : State} (audio : t.audio = s.audio) (tl : t.tl = s.tl) (u : Nat) : sampleDue t u = sampleDue s u := by
  unfold sampleDue sampleTick unitOf streamOf busOf now
  rw [audio, tl]

theorem unitSampleOf_idle {s : State} {u : Nat} (ins : List Nat) (idle : sampleDue s u = false) : unitSampleOf s u ins = s := by
  unfold unitSampleOf sampleStartOf
  rw [if_neg (by simp [idle]), if_pos (by simp [idle])]

theorem unitOf_of_audio {s t : State} (h : t.audio = s.audio) (u : Nat) : unitOf t u = unitOf s u := by
  unfold unitOf
  rw [h]

/-- The state before a unit's sample: the assay units have changed, and no part of the audio block. -/
theorem applyAudioAssay_keeps (s : State) (k n : Nat) : (applyAudioAssay s k n).audio = s.audio ∧ (applyAudioAssay s k n).tl = s.tl := by
  have kept : Same 0x80001 s (applyAudioAssay s k n) := same_applyAudioAssay s k n (by decide) same_refl
  exact ⟨kept.get .audio (by decide), kept.get .tl (by decide)⟩

theorem feedAudio_unit (s : State) (k n u : Nat) : unitOf (feedAudio s k n) u = unitOf s u :=
  UnitsKept.unitOf_eq (.of_same (same_feedAudio s k n (by decide) same_refl)) u

theorem unitSampleOf_unit {s : State} {u : Nat} (ins : List Nat) (unit : u < 0x100) (due : sampleDue s u = true) :
    unitSampleOf s u ins = feedAudio (unitSample (applyAudioAssay s u (unitOf s u).count) u ins) u (unitOf s u).count := by
  obtain ⟨audio, tl⟩ := applyAudioAssay_keeps s u (unitOf s u).count
  have due' : sampleDue (applyAudioAssay s u (unitOf s u).count) u = true := (sampleDue_of audio tl u).trans due
  unfold unitSampleOf sampleStartOf
  rw [if_pos (by simp [unit, due])]
  dsimp only
  rw [if_neg (by simp [due']), if_pos unit]

theorem unitSampleOf_counts {s : State} {u : Nat} (ins : List Nat) (unit : u < 0x100) (due : sampleDue s u = true) :
    (unitOf (unitSampleOf s u ins) u).count = (unitOf s u).count + 1 ∧
      (halted s = true → ∀ x ∈ (unitOf (unitSampleOf s u ins) u).out, x = 0) := by
  obtain ⟨audio, -⟩ := applyAudioAssay_keeps s u (unitOf s u).count
  have same := unitOf_of_audio audio u
  rw [unitSampleOf_unit ins unit due, feedAudio_unit, unitSample_unit, same]
  refine ⟨rfl, fun latched => ?_⟩
  have held := halted_of_kept (unitMixed_kept (kept_applyAudioAssay s u (unitOf s u).count (kept_self s)) u ins) latched
  exact sinkOut_halted held u

/-! ### A frame of a playback stream (15 R662) -/

theorem stepInputs_streams (s : State) (u : Nat) : (stepInputs s u).audio.streams = s.audio.streams ∧
    (stepInputs s u).audio.changes = s.audio.changes := by
  unfold stepInputs
  refine fold_keeps (P := fun t => t.audio.streams = s.audio.streams ∧ t.audio.changes = s.audio.changes) (fun t i kept => ?_) ⟨rfl, rfl⟩
  split
  · exact kept
  · exact kept

theorem applyDue_none {s : State} (u : Option Nat) (none' : s.audio.changes = []) : applyDue s u = s := by
  unfold applyDue
  dsimp only
  rw [none']
  rfl

theorem fetchFrame_stream (s : State) (n f : Nat) : (streamOf (fetchFrame s n f) n).next = (streamOf s n).next ∧
    (streamOf (fetchFrame s n f) n).running = (streamOf s n).running := by
  have read : streamOf (readFrame s n f).2 n = streamOf s n := by
    unfold streamOf
    rw [(same_readFrame (ps := 0x80000) s n f (by decide) same_refl).get .audio (by decide)]
  have e : fetchFrame s n f = if (streamOf s n).ready.any fun r => r.1 == f then s
      else modStream (readFrame s n f).2 n fun v => { v with ready := v.ready ++ [(f, (readFrame s n f).1)] } := rfl
  rw [e]
  split
  · exact ⟨rfl, rfl⟩
  · rw [streamOf_modStream_same, read]
    exact ⟨rfl, rfl⟩

theorem streamSample_plays {s : State} {n : Nat} (runs : (streamOf s n).running = true) (plays : (streamOf s n).capture = false)
    (none' : s.audio.changes = []) : (streamOf (streamSample s n) n).next = (streamOf s n).next + 1 ∧
      (streamOf (streamSample s n) n).running = true := by
  obtain ⟨streams, changes⟩ := stepInputs_streams s (0x100 + n)
  have same : streamOf (stepInputs s (0x100 + n)) n = streamOf s n := by
    unfold streamOf
    rw [streams]
  unfold streamSample
  dsimp only
  rw [applyDue_none _ (changes.trans none'), same, if_neg (by simp [runs]), if_pos (by simp [plays]), streamOf_modStream_same]
  obtain ⟨next, running⟩ := fetchFrame_stream (stepInputs s (0x100 + n)) n (streamOf s n).next
  rw [same] at next running
  dsimp only
  rw [next, running]
  exact ⟨rfl, runs⟩

theorem unitSampleOf_stream {s : State} {n : Nat} (ins : List Nat) (lt : n < 64) (due : sampleDue s (0x100 + n) = true) :
    unitSampleOf s (0x100 + n) ins = streamSample s n := by
  unfold unitSampleOf sampleStartOf
  rw [if_neg (by simp), if_neg (by simp [due]), if_neg (by omega), if_pos (by omega), Nat.add_sub_cancel_left]

theorem sampleDue_stream {s : State} {n : Nat} (lt : n < 64) (due : sampleDue s (0x100 + n) = true) : (streamOf s n).running = true := by
  unfold sampleDue at due
  rw [if_neg (by omega), if_pos (by omega), Nat.add_sub_cancel_left] at due
  exact (Bool.and_eq_true _ _ ▸ due).1

/-! ### Frame sync (15 R642, R643) -/

/-- A port at an edge of its frame sync. -/
def edgeTaken (at' : Nat) (v : AudioUnit) : AudioUnit :=
  { v with lastEdge := at', lost := false, stamp := if decide (v.count % 64 = 0) then some at' else v.stamp,
           stampNo := if decide (v.count % 64 = 0) then v.count else v.stampNo,
           period64 := if decide (v.count % 64 = 0) && !v.lost then v.stamp.map (at' - ·) else v.period64 }

theorem syncEdge_unit {s : State} {u : Nat} (ins : List Nat) (port : isPort u = true) (on : (unitOf s u).enable = true)
    (target : (unitOf s u).target = true) : ∃ out, unitOf (syncEdge s u ins) u =
      { edgeTaken (now s) (unitOf s u) with count := (unitOf s u).count + 1, out := out } := by
  have e : syncEdge s u ins = unitSample (modUnit s u fun v => { v with
      lastEdge := now s, lost := false,
      stamp := if decide ((unitOf s u).count % 64 = 0) then some (now s) else v.stamp,
      stampNo := if decide ((unitOf s u).count % 64 = 0) then v.count else v.stampNo,
      period64 := if decide ((unitOf s u).count % 64 = 0) && !v.lost then v.stamp.map (now s - ·) else v.period64 }) u ins :=
    if_neg (by simp [port, on, target])
  rw [e, unitSample_unit, unitOf_modUnit_same]
  exact ⟨_, rfl⟩

theorem portEdgeOf_takes {s : State} {u : Nat} (ins : List Nat) (port : isPort u = true) (on : (unitOf s u).enable = true)
    (target : (unitOf s u).target = true) : (unitOf (portEdgeOf s u ins) u).lastEdge = now s ∧
      (unitOf (portEdgeOf s u ins) u).lost = false ∧ (unitOf (portEdgeOf s u ins) u).count = (unitOf s u).count + 1 ∧
      ((unitOf s u).count % 64 = 0 → (unitOf (portEdgeOf s u ins) u).stamp = some (now s) ∧
        (unitOf (portEdgeOf s u ins) u).stampNo = (unitOf s u).count) := by
  obtain ⟨audio, tl⟩ := applyAudioAssay_keeps s u (unitOf s u).count
  have same := unitOf_of_audio audio u
  have tick : now (applyAudioAssay s u (unitOf s u).count) = now s := by
    unfold now
    rw [tl]
  obtain ⟨out, edge⟩ := syncEdge_unit (s := applyAudioAssay s u (unitOf s u).count) ins port (by rw [same]; exact on) (by rw [same]; exact target)
  have e : portEdgeOf s u ins = feedAudio (syncEdge (applyAudioAssay s u (unitOf s u).count) u ins) u (unitOf s u).count :=
    if_neg (by simp [port, on, target])
  rw [e, feedAudio_unit, edge, same, tick]
  exact ⟨rfl, rfl, rfl, fun stamped => by simp [edgeTaken, stamped]⟩

theorem portEdgeOf_idle {s : State} {u : Nat} (ins : List Nat)
    (idle : isPort u = false ∨ (unitOf s u).enable = false ∨ (unitOf s u).target = false) : portEdgeOf s u ins = s :=
  if_pos (by rcases idle with e | e | e <;> simp [e])

/-! ### Sync that is lost (15 R643) -/

/-- The samples of a unit's inputs are forgotten. -/
def historyCleared (s : State) (u : Nat) : State :=
  (List.range 128).foldl (fun s i => if inputUnit s i = some u then modInput s i fun v => { v with hist := [] } else s) s

theorem historyCleared_units (s : State) (u : Nat) : UnitsKept s (historyCleared s u) := by
  unfold historyCleared
  exact .foldl (fun v i => .ite (modInput_units ..) (.refl v)) _ s

theorem historyCleared_syncLosts (s : State) (u : Nat) : (historyCleared s u).audio.syncLosts = s.audio.syncLosts := by
  unfold historyCleared
  refine fold_keeps (P := fun v => v.audio.syncLosts = s.audio.syncLosts) (fun v i kept => ?_) rfl
  split <;> exact kept

/-- The state in which a port's sync is lost, before the promises that name it are missed. -/
def syncGone (s : State) (u : Nat) : State :=
  let s := modUnit s u fun v => { v with lost := true, out := v.out.map fun _ => 0, stamp := none, period64 := none }
  let s := historyCleared s u
  raise (s.modAudio fun a => { a with syncLosts := min 0xFFFFFFFF (a.syncLosts + 1) }) (srcAudioBlock 2) 0

/-- The promises that name a port whose sync is lost are missed. -/
def syncMissed (s : State) (u : Nat) : State :=
  (s.flights.filter fun f => promisesSink s f u).foldl (fun s f =>
    withdraw (missNote s f) f { status := 13, reason := 0x31, inst := f.promised }) s

theorem syncLostOf_due {s : State} {u : Nat} (due : syncLostDue s u = true) : syncLostOf s u = syncMissed (syncGone s u) u :=
  if_neg (by simp [due])

theorem syncLostOf_idle {s : State} {u : Nat} (idle : syncLostDue s u = false) : syncLostOf s u = s := if_pos (by simp [idle])

theorem syncGone_loses (s : State) (u : Nat) : (unitOf (syncGone s u) u).lost = true ∧ (unitOf (syncGone s u) u).stamp = none ∧
    (syncGone s u).audio.syncLosts = min 0xFFFFFFFF (s.audio.syncLosts + 1) ∧
    (evSrc (syncGone s u) (srcAudioBlock 2)).cause.testBit 0 = true := by
  unfold syncGone
  dsimp only
  have raised : ∀ w : State, Same 0x80000 w (raise w (srcAudioBlock 2) 0) := fun w => same_raise w _ _ (by decide) same_refl
  have counted : ∀ w : State, UnitsKept w (w.modAudio fun a => { a with syncLosts := min 0xFFFFFFFF (a.syncLosts + 1) }) :=
    fun w => modAudio_units rfl
  have unit : ∀ w f, unitOf (historyCleared (modUnit w u f) u) u = f (unitOf w u) := fun w f =>
    ((historyCleared_units _ u).unitOf_eq u).trans (unitOf_modUnit_same w u f)
  refine ⟨?_, ?_, ?_, raise_sets ..⟩
  · rw [(UnitsKept.of_same (raised _)).unitOf_eq, (counted _).unitOf_eq, unit]
  · rw [(UnitsKept.of_same (raised _)).unitOf_eq, (counted _).unitOf_eq, unit]
  · rw [(raised _).get .audio (by decide)]
    exact congrArg (fun n => min 0xFFFFFFFF (n + 1)) (historyCleared_syncLosts ..)

theorem syncMissed_keeps (s : State) (u : Nat) : (syncMissed s u).audio = s.audio ∧ LatchesKept s (syncMissed s u) := by
  refine ⟨(same_foldl (ps := 0x80000) (fun t f w => same_withdraw _ f _ (by decide) (same_missNote t f (by decide) w)) same_refl).get .audio
    (by decide), .foldl (fun t f => ?_) _ s⟩
  have noted : LatchesKept t (missNote t f) := .ite (.of_same same_refl) (assert_latches ..)
  exact noted.trans (.of_same (same_withdraw _ f _ (by decide) same_refl))

theorem syncLostOf_loses {s : State} {u : Nat} (due : syncLostDue s u = true) : (unitOf (syncLostOf s u) u).lost = true ∧
    (unitOf (syncLostOf s u) u).stamp = none ∧ (syncLostOf s u).audio.syncLosts = min 0xFFFFFFFF (s.audio.syncLosts + 1) ∧
    (evSrc (syncLostOf s u) (srcAudioBlock 2)).cause.testBit 0 = true := by
  obtain ⟨lost, stamp, losts, event⟩ := syncGone_loses s u
  obtain ⟨audio, latches⟩ := syncMissed_keeps (syncGone s u) u
  rw [syncLostOf_due due, unitOf_of_audio audio, audio]
  exact ⟨lost, stamp, losts, latches.event _ _ event⟩

/-! ### Position records (15 R663) -/

theorem audioPeriodOf_idle {s : State} {n : Nat} (idle : periodDue s n = false) : audioPeriodOf s n = s := if_pos (by simp [idle])

theorem audioPeriodOf_advances {s : State} {n : Nat} (due : periodDue s n = true) :
    (streamOf (audioPeriodOf s n) n).periods = (streamOf s n).periods + 1 ∧
      (streamOf (audioPeriodOf s n) n).seq = ((streamOf s n).seq + 1) % 2 ^ 32 ∧
      (evSrc (audioPeriodOf s n) (srcStream n)).cause.testBit 0 = true := by
  have issued : ∀ f h, streamOf (issueRecord s f h) n = streamOf s n := fun f h => by
    unfold streamOf
    rw [(same_issueRecord (ps := 0x80000) s f h (by decide) same_refl).get .audio (by decide)]
  have told : ∀ t, streamOf (raise t (srcStream n) 0) n = streamOf t n := fun t => rfl
  unfold audioPeriodOf
  rw [if_neg (by simp [due])]
  dsimp only
  rw [told, streamOf_modStream_same, issued]
  exact ⟨rfl, rfl, raise_sets ..⟩

/-! ### Comparisons (10 R462, R465) -/

/-- What a comparison leaves of its unit, but for its result. -/
theorem conclude_assay (s : State) (u : Nat) (hidden whole : Bool) (actual : Nat) (expect : Option Nat) (seq next : Nat) :
    (∀ k, k ≠ u → assayOf (conclude s u hidden whole actual expect seq next) k = assayOf s k) ∧
    (assayOf (conclude s u hidden whole actual expect seq next) u).compareAt = none ∧
    (assayOf (conclude s u hidden whole actual expect seq next) u).compares = min 0xFFFFFFFF ((assayOf s u).compares + 1) ∧
    (assayOf (conclude s u hidden whole actual expect seq next) u).lastSeq = seq ∧
    (assayOf (conclude s u hidden whole actual expect seq next) u).seq = next := by
  have told : ∀ (c d : Bool) (t : State) (m : Nat), ∀ k, assayOf (if c then t else
      if d then assert (raise t (srcAssay u) 0) 26 m else raise t (srcAssay u) 0) k = assayOf t k := fun c d t m k => by
    have units : ∀ w, Same 0x8000 t w → assayOf w k = assayOf t k := fun w same => by
      unfold assayOf
      rw [same.get .au (by decide)]
    have raised : Same 0x8000 t (raise t (srcAssay u) 0) := same_raise t _ _ (by decide) same_refl
    exact units _ (same_ite same_refl (same_ite (same_assert _ _ _ _ (by decide) raised) raised))
  unfold conclude
  dsimp only
  refine ⟨fun k other => (told _ _ _ _ k).trans (assayOf_setAssay_other _ _ _ _ other), ?_⟩
  rw [told, assayOf_setAssay_same]
  exact ⟨rfl, rfl, rfl, rfl⟩

/-- The units that compare at a sink now. -/
def comparesAt (s : State) (k u : Nat) : Bool :=
  let v := assayOf s u
  decide (v.owner ≠ 0x1F) && v.enable && decide (v.snoop = 3) && decide (v.target = k) &&
    (match v.compareAt with | some t => decide (now s ≥ t) | none => false)

/-- The comparison of one unit. -/
def compareOne (k : Nat) (s : State) (u : Nat) : State :=
  let v := assayOf s u
  conclude s u false (decide (v.seen = v.wh % 65536)) (v.acc ^^^ (crcAlgo v.algo).xorOut)
    (expectOf u v k v.seq (4 * sinkChannels (unitOf s k) k * (v.wh % 65536))) v.seq ((v.seq + 1) % 2 ^ 32)

theorem compareAudio_eq (s : State) (k : Nat) : compareAudio s k = ((List.range 48).filter (comparesAt s k)).foldl (compareOne k) s := rfl

section Compare

variable {s : State} {u k a : Nat} (lt : k < 48) (owned : (assayOf s k).owner ≠ 0x1F) (on : (assayOf s k).enable = true)
  (audio : (assayOf s k).snoop = 3) (target : (assayOf s k).target = u) (due : (assayOf s k).compareAt = some a) (late : a ≤ now s)
include on audio target due late

theorem audioCompareDue_of : audioCompareDue s u = true := by
  rcases tget_listed ({} : Assay) s.au.units k with default | listed
  · rw [show assayOf s k = {} from default] at on
    cases on
  · exact List.any_eq_true.2 ⟨_, listed, by
      change ((assayOf s k).enable && decide ((assayOf s k).snoop = 3) && decide ((assayOf s k).target = u) &&
        (match (assayOf s k).compareAt with | some t => decide (now s ≥ t) | none => false)) = true
      simp [on, audio, target, due, late]⟩

include lt owned

theorem compareAudio_compares : (assayOf (compareAudio s u) k).compareAt = none ∧
    (assayOf (compareAudio s u) k).compares = min 0xFFFFFFFF ((assayOf s k).compares + 1) ∧
    (assayOf (compareAudio s u) k).lastSeq = (assayOf s k).seq ∧
    (assayOf (compareAudio s u) k).seq = ((assayOf s k).seq + 1) % 2 ^ 32 := by
  have mem : k ∈ (List.range 48).filter (comparesAt s u) := by
    refine List.mem_filter.2 ⟨List.mem_range.2 lt, ?_⟩
    unfold comparesAt
    simp [owned, on, audio, target, due, late]
  obtain ⟨w, -, same, result⟩ := read_foldl_mem (read := assayOf) (f := compareOne u) (I := fun _ => True)
    (fun t j k other => (conclude_assay t j _ _ _ _ _ _).1 k other) (fun _ _ _ => trivial) (List.nodup_range.filter _) mem (s := s) trivial
  obtain ⟨-, ended, count, last, next⟩ := conclude_assay w k false (decide ((assayOf w k).seen = (assayOf w k).wh % 65536))
    ((assayOf w k).acc ^^^ (crcAlgo (assayOf w k).algo).xorOut)
    (expectOf k (assayOf w k) u (assayOf w k).seq (4 * sinkChannels (unitOf w u) u * ((assayOf w k).wh % 65536)))
    (assayOf w k).seq (((assayOf w k).seq + 1) % 2 ^ 32)
  rw [compareAudio_eq, result, ← same]
  exact ⟨ended, count, last, next⟩

end Compare

/-- Settles O52: by what a sample, an edge, a loss of sync, a period's end and a comparison leave of their unit. -/
theorem audioSamples : Obligations.AudioSamples := by
  unfold Obligations.AudioSamples
  refine fun s u ins => ⟨fun idle => ⟨_, rfl, unitSampleOf_idle ins idle⟩,
    fun unit due => ⟨_, rfl, unitSampleOf_counts ins unit due⟩, fun n code lt due plays none' => ⟨_, rfl, ?_⟩,
    fun port on target => ⟨_, rfl, portEdgeOf_takes ins port on target⟩, fun idle => ⟨_, rfl, portEdgeOf_idle ins idle⟩,
    fun due => ⟨_, rfl, syncLostOf_loses due⟩, fun idle => ⟨_, rfl, syncLostOf_idle idle⟩,
    fun n due => ⟨_, rfl, audioPeriodOf_advances due⟩, fun n idle => ⟨_, rfl, audioPeriodOf_idle idle⟩,
    fun k a lt owned on audio target due late => ⟨_, rfl, ?_⟩, fun idle => ⟨_, rfl, if_neg (by simp [idle])⟩⟩
  · subst code
    rw [unitSampleOf_stream ins lt due]
    exact streamSample_plays (sampleDue_stream lt due) plays none'
  · rw [if_pos (audioCompareDue_of on audio target due late)]
    exact compareAudio_compares lt owned on audio target due late

end Sys2Proof.Machine
end

section
/-! PROOFS. The reactions of the CP and the limit instant of a quiesce (O58). -/

namespace Sys2Proof.Machine

theorem tenOf_of_same {s t : State} (h : Same 0x100 s t) (n : Nat) : tenOf t n = tenOf s n := by
  unfold tenOf
  rw [h.get .tens (by decide)]

theorem Same.part {ps qs : Nat} {z s : State} (h : Same ps z s) (sub : qs &&& ps = qs) : Same qs z s :=
  ⟨fun p mem => h.get p fun none' => mem (by rw [← sub, Nat.and_assoc, none', Nat.and_zero])⟩

/-! ### A reaction that starts (20 R793) -/

theorem startFirst_started {t : Nat} {l : List Reaction} (started : ∀ x ∈ l, x.started = true) (m : List Reaction) :
    startFirst t (l ++ m) = l ++ startFirst t m := by
  induction l with
  | nil => rfl
  | cons x l ih =>
    rw [List.cons_append, startFirst, if_pos (started x List.mem_cons_self), ih fun y mem => started y (List.mem_cons_of_mem _ mem)]
    rfl

theorem startReaction_starts {s : State} {l m : List Reaction} {r : Reaction} (split : s.lg.reactions = l ++ r :: m)
    (started : ∀ x ∈ l, x.started = true) (waits : r.started = false) :
    startReaction s = s.modLg fun x => { x with reactions := l ++ { r with started := true, since := now s } :: m } := by
  have first : startFirst (now s) s.lg.reactions = l ++ { r with started := true, since := now s } :: m := by
    rw [split, startFirst_started started, startFirst, if_neg (by simp [waits])]
  show s.modLg (fun x => { x with reactions := startFirst (now s) x.reactions }) = _
  exact congrArg (fun k => ({ s with lg := { s.lg with reactions := k } } : State)) first

theorem startReaction_idle {s : State} (started : ∀ x ∈ s.lg.reactions, x.started = true) : startReaction s = s := by
  have none' : startFirst (now s) s.lg.reactions = s.lg.reactions := by
    have all := startFirst_started (t := now s) started []
    rwa [List.append_nil, startFirst, List.append_nil] at all
  exact congrArg (fun k => ({ s with lg := { s.lg with reactions := k } } : State)) none'

/-! ### A tenancy that is held (05 R236) -/

/-- A tenancy that has become QUIESCED. -/
def tenHeld (v : Tenancy) : Tenancy := { v with state := .quiesced, quiesceAt := none, dropped := 0 }

theorem tenOf_holdTenancy_other (s : State) {t n : Nat} (other : n ≠ t) : tenOf (holdTenancy s t) n = tenOf s n :=
  (tenOf_of_same (s := modTen s t tenHeld) (same_holdSound _ _ (by decide) (same_endClientApplets _ _ (by decide)
    (same_afterAborts _ _ (by decide) same_refl))) n).trans (tenOf_modTen_other _ _ _ _ other)

theorem tenOf_holdTenancy_same (s : State) (t : Nat) : tenOf (holdTenancy s t) t = tenHeld (tenOf s t) :=
  (tenOf_of_same (s := modTen s t tenHeld) (same_holdSound _ _ (by decide) (same_endClientApplets _ _ (by decide)
    (same_afterAborts _ _ (by decide) same_refl))) t).trans (tenOf_modTen_same _ _ _)

/-! ### CONTAIN (20 R793) -/

/-- A tenancy that takes work, or still completes it. -/
def Works (v : Tenancy) : Prop := v.state = .live ∨ v.state = .quiescing

/-- A working tenancy with its work ended, held, and marked with what contained it. -/
def heldFor (s : State) (t b : Nat) : State :=
  modTen (holdTenancy (endWork s t (fun _ => true) fun _ => refuse 13 0x32 0 b).1 t) t fun v => { v with containedBy := setBit v.containedBy b }

theorem containTenancy_works {s : State} {t : Nat} (b : Nat) (works : Works (tenOf s t)) :
    containTenancy s t b = heldFor s t b ∨ ∃ f v, containTenancy s t b = finishDone (heldFor s t b) f v := by
  unfold containTenancy heldFor
  rw [if_neg (by rcases works with e | e <;> simp [e])]
  generalize endWork s t (fun _ => true) (fun _ => refuse 13 0x32 0 b) = ended
  obtain ⟨u, k⟩ := ended
  dsimp only
  split
  · exact .inr ⟨_, _, rfl⟩
  · exact .inl rfl

theorem containTenancy_rests {s : State} {t : Nat} (b : Nat) (rests : ¬Works (tenOf s t)) : containTenancy s t b =
    if (tenOf s t).state = .absent then s else modTen s t fun v => { v with containedBy := setBit v.containedBy b } :=
  if_pos (by simpa [Works] using rests)

theorem tenOf_containTenancy_works {s : State} {t : Nat} (b n : Nat) (works : Works (tenOf s t)) :
    tenOf (containTenancy s t b) n = tenOf (heldFor s t b) n := by
  obtain e | ⟨f, v, e⟩ := containTenancy_works b works <;> rw [e]
  exact tenOf_of_same (same_finishDone _ f v (by decide) same_refl) n

theorem tenOf_containTenancy_other (s : State) {t n : Nat} (b : Nat) (other : n ≠ t) : tenOf (containTenancy s t b) n = tenOf s n := by
  by_cases works : Works (tenOf s t)
  · rw [tenOf_containTenancy_works b n works, heldFor, tenOf_modTen_other _ _ _ _ other, tenOf_holdTenancy_other _ other]
    exact tenOf_of_same (same_endWork s t _ _ (by decide) same_refl) n
  · rw [containTenancy_rests b works]
    split
    · rfl
    · exact tenOf_modTen_other _ _ _ _ other

/-- A contained tenancy that worked is QUIESCED, and any other stays in its state. -/
theorem containTenancy_state (s : State) (t b : Nat) : (Works (tenOf s t) → (tenOf (containTenancy s t b) t).state = .quiesced) ∧
    (¬Works (tenOf s t) → (tenOf (containTenancy s t b) t).state = (tenOf s t).state) := by
  refine ⟨fun works => ?_, fun rests => ?_⟩
  · rw [tenOf_containTenancy_works b t works, heldFor, tenOf_modTen_same, tenOf_holdTenancy_same]
    rfl
  · rw [containTenancy_rests b rests]
    split
    · rfl
    · rw [tenOf_modTen_same]

theorem containOne_eq (r : Reaction) (s : State) (t : Nat) : ∃ (b : Nat) (g : Nat → Nat), Same 0x100
    (if (tenOf (containTenancy s t b) t).state = .absent then containTenancy s t b else
      modTen (containTenancy s t b) t fun v => { v with containedBy := g v.containedBy }) (containOne r s t) := by
  refine ⟨(((r.named.filter fun n => n.1 == t).map (·.2)).headD r.source),
    fun m => ((r.named.filter fun n => n.1 == t).map (·.2)).foldl setBit m, ?_⟩
  unfold containOne
  exact same_ite (same_raise _ _ _ (by decide) same_refl) same_refl

theorem tenOf_containOne_other (r : Reaction) (s : State) (t n : Nat) (other : n ≠ t) : tenOf (containOne r s t) n = tenOf s n := by
  obtain ⟨b, g, same⟩ := containOne_eq r s t
  rw [tenOf_of_same same]
  split
  · exact tenOf_containTenancy_other s b other
  · rw [tenOf_modTen_other _ _ _ _ other]
    exact tenOf_containTenancy_other s b other

theorem containOne_state (r : Reaction) (s : State) (t : Nat) : (Works (tenOf s t) → (tenOf (containOne r s t) t).state = .quiesced) ∧
    (¬Works (tenOf s t) → (tenOf (containOne r s t) t).state = (tenOf s t).state) := by
  obtain ⟨b, g, same⟩ := containOne_eq r s t
  have marked : (tenOf (containOne r s t) t).state = (tenOf (containTenancy s t b) t).state := by
    rw [tenOf_of_same same]
    split
    · rfl
    · rw [tenOf_modTen_same]
  rw [marked]
  exact containTenancy_state s t b

/-- The tenancies that a reaction contains, one after the other. -/
def contained (s : State) (r : Reaction) : State := (bitsOf 17 (guestsOf r.contain)).foldl (containOne r) s

theorem contained_quiesces {s : State} {r : Reaction} {n : Nat} (mem : n ∈ bitsOf 17 (guestsOf r.contain)) (works : Works (tenOf s n)) :
    (tenOf (contained s r) n).state = .quiesced := by
  obtain ⟨u, -, same, result⟩ := read_foldl_mem (read := tenOf) (f := containOne r) (I := fun _ => True)
    (fun u j k => tenOf_containOne_other r u j k) (fun _ _ _ => trivial) (bitsOf_nodup _ _) mem (s := s) trivial
  rw [contained, result]
  exact (containOne_state r u n).1 (same ▸ works)

theorem contained_present {s : State} (r : Reaction) {n : Nat} (present : (tenOf s n).state ≠ .absent) :
    (tenOf (contained s r) n).state ≠ .absent := by
  refine fold_keeps (P := fun u => (tenOf u n).state ≠ .absent) (fun u t there => ?_) present
  by_cases own : n = t
  · subst own
    by_cases works : Works (tenOf u n)
    · rw [(containOne_state r u n).1 works]
      decide
    · rwa [(containOne_state r u n).2 works]
  · rwa [tenOf_containOne_other r u t n own]

/-! ### DEGRADE (20 R793, R871) -/

theorem degradeOne_latches (s : State) (t : Nat) : LatchesKept s (degradeOne s t) :=
  .ite (.of_same same_refl) ⟨fun n b set => raise_keeps _ _ _ n b set, fun _ set => set⟩

theorem endDegraded_latches (s : State) : LatchesKept s (endDegraded s) := by
  unfold endDegraded
  refine .foldl (fun u t => ?_) _ s
  split
  · exact .of_same same_refl
  · exact ⟨fun n b set => raise_keeps _ _ _ n b set, fun _ set => set⟩

theorem degradeOne_notifies {s : State} {t : Nat} (present : (tenOf s t).state ≠ .absent) :
    (evSrc (degradeOne s t) (srcNotice t)).cause.testBit 1 = true := by
  unfold degradeOne
  rw [if_neg present]
  exact raise_sets _ _ _

/-- The tenancies that a reaction degrades, one after the other. -/
def degraded (s : State) (r : Reaction) : State := (bitsOf 17 (partiesOf s r.degrade)).foldl degradeOne s

theorem tenOf_degraded (s : State) (r : Reaction) (n : Nat) : tenOf (degraded s r) n = tenOf s n :=
  tenOf_of_same (same_foldl (fun u t same => same_degradeOne u t (by decide) same) same_refl) n

theorem degraded_notifies {s : State} {r : Reaction} {n : Nat} (mem : n ∈ bitsOf 17 (partiesOf s r.degrade))
    (present : (tenOf s n).state ≠ .absent) : (evSrc (degraded s r) (srcNotice n)).cause.testBit 1 = true := by
  have told : (tenOf (degraded s r) n).state = .absent ∨ (evSrc (degraded s r) (srcNotice n)).cause.testBit 1 = true := by
    have tens : ∀ u t, tenOf (degradeOne u t) n = tenOf u n := fun u t => tenOf_of_same (same_degradeOne u t (by decide) same_refl) n
    refine foldl_reaches (P := fun u => (tenOf u n).state = .absent ∨ (evSrc u (srcNotice n)).cause.testBit 1 = true)
      (g := degradeOne) (x := n) (fun u => ?_) (fun u t now => ?_) mem s
    · by_cases there : (tenOf u n).state = .absent
      · exact .inl (by rwa [tens])
      · exact .inr (degradeOne_notifies there)
    · rw [tens]
      exact now.imp_right ((degradeOne_latches u t).event _ _)
  exact told.resolve_left (by rwa [tenOf_degraded])

theorem completeReaction_some {s : State} {r : Reaction} (found : (s.lg.reactions.find? fun x => x.started) = some r) :
    completeReaction s = endDegraded ((degraded (contained s r) r).modLg fun l => { l with reactions := l.reactions.erase r }) := by
  unfold completeReaction
  rw [found]
  rfl

theorem completeReaction_none {s : State} (waiting : ∀ x ∈ s.lg.reactions, x.started = false) : completeReaction s = s := by
  have none' : (s.lg.reactions.find? fun x => x.started) = none := List.find?_eq_none.2 fun x mem => by simp [waiting x mem]
  unfold completeReaction
  rw [none']

theorem completeReaction_contains {s : State} {r : Reaction} {n : Nat} (found : (s.lg.reactions.find? fun x => x.started) = some r)
    (guest : 1 ≤ n) (lt : n ≤ 16) (named : r.contain.testBit n = true) (live : (tenOf s n).state = .live) :
    (tenOf (completeReaction s) n).state = .quiesced := by
  have bit : Nat.testBit 0x1FFFE n = true := by interval_cases n <;> rfl
  have mem : n ∈ bitsOf 17 (guestsOf r.contain) := mem_bitsOf.2 ⟨by omega, by rw [guestsOf, Nat.testBit_and, named, bit]; rfl⟩
  rw [completeReaction_some found, tenOf_of_same (same_endDegraded _ (by decide) same_refl)]
  show (tenOf (degraded (contained s r) r) n).state = _
  rw [tenOf_degraded]
  exact contained_quiesces mem (.inl live)

theorem completeReaction_degrades {s : State} {r : Reaction} {n : Nat} (found : (s.lg.reactions.find? fun x => x.started) = some r)
    (lt : n ≤ 16) (named : r.degrade.testBit n = true) (present : (tenOf s n).state ≠ .absent) :
    (evSrc (completeReaction s) (srcNotice n)).cause.testBit 1 = true := by
  have party : ∀ u, n ∈ bitsOf 17 (partiesOf u r.degrade) := fun u => mem_bitsOf.2 ⟨by omega, by
    have low : n < 17 := by omega
    unfold partiesOf
    split <;> rw [Nat.testBit_mod_two_pow] <;> simp [named, low]⟩
  rw [completeReaction_some found]
  exact (endDegraded_latches _).event _ _ (degraded_notifies (party _) (contained_present r present))

/-! ### What ending a tenancy's work keeps (05 R234, R235)

A fact that every final completion keeps, and every change of the parts that the work of groves and applets goes through, is kept by
all that follows from the end of a tenancy's work. -/

section Keeps

variable {P : State → Prop} {ps : Nat} (apart : ∀ u w, Same ps u w → P u → P w) (finishes : ∀ u f v, P u → P (finish u f v))
include apart finishes

theorem endClientApplets_keeps (hd : ps &&& 0x442000 = 0) {s : State} (h : P s) (t : Nat) : P (endClientApplets s t) := by
  refine fold_keeps (P := P) (fun u n now => ?_) h
  split
  · by_cases runs : (appletOf u n).state = .running
    · have ended : P (startEnded u n (aborted 3)) := by
        unfold startEnded
        split
        · exact finishes u _ _ now
        · exact now
      rw [endApplet_runs _ true runs]
      refine apart _ _ ?_ ended
      exact same_leaveFrom _ _ _ (avoid hd rfl) (same_zeroiseSecure _ _ _ (avoid hd rfl) (same_setApplet _ _ _ (avoid hd rfl) same_refl))
    · rwa [endApplet_idle _ true runs]
  · exact now

theorem afterAborts_keeps (contexts : ∀ u c, P u → P (releaseContext u c)) (hd : ps &&& 0x95000 = 0) {s : State} (h : P s) (t : Nat) :
    P (afterAborts s t) := by
  have waits : ∀ u, P u → P (settleWaits u) := fun u now => fold_keeps (P := P) (fun v f now => by
    split
    · split
      · split
        · exact finishes v f _ now
        · exact now
      · exact now
    · exact now) now
  have kills : ∀ u, P u → P (settleKills u) := fun u now => fold_keeps (P := P) (fun v f now => by
    split
    · split
      · exact finishes _ f _ (contexts v _ now)
      · exact finishes v f _ now
    · exact now) now
  refine kills _ (waits _ (waits _ (apart _ _ ?_ h)))
  exact same_settleGroves _ (avoid hd rfl) (same_dropDeadChanges _ (avoid hd rfl) (same_modCharges (avoid hd rfl)
    (same_foldl (fun u i same => same_ite (same_modSlot _ _ _ (avoid hd rfl) same) same) same_refl)))

end Keeps

/-! ### The limit instant of a quiesce (05 R233) -/

/-- No command of a tenancy is in flight. -/
def NoCommandOf (n : Nat) (s : State) : Prop := ∀ g ∈ s.flights, g.src.fn ≠ n

namespace NoCommandOf

variable {n : Nat} {s t : State}

theorem of_flights (h : NoCommandOf n s) (e : t.flights = s.flights) : NoCommandOf n t := by
  unfold NoCommandOf
  rwa [e]

theorem of_same (h : NoCommandOf n s) (e : Same 0x800 s t) : NoCommandOf n t := h.of_flights e.flights_eq

theorem inFlight_nil (h : NoCommandOf n s) : inFlight s n = [] :=
  List.filter_eq_nil_iff.2 fun g mem => by simpa using h g mem

theorem finish (h : NoCommandOf n s) (f : Flight) (v : Verdict) : NoCommandOf n (finish s f v) := fun g mem => by
  rw [finish_flights] at mem
  exact h g (List.mem_filter.1 mem).1

theorem setFlight (h : NoCommandOf n s) {f : Flight} (other : f.src.fn ≠ n) : NoCommandOf n (setFlight s f) := fun g mem => by
  obtain ⟨k, old, rfl⟩ := List.mem_map.1 mem
  split
  · exact other
  · exact h k old

theorem releaseContext (h : NoCommandOf n s) (c : Nat) : NoCommandOf n (releaseContext s c) := by
  have kept : NoCommandOf n (keepOutcomes s c) := by
    refine List.foldlRecOn (motive := NoCommandOf n) _ _ h fun u now f mem => now.setFlight ?_
    exact h f (List.mem_filter.1 mem).1
  unfold Machine.releaseContext
  exact kept.of_same (same_setCtx _ _ _ (by decide) (same_renewSource _ _ (by decide) (same_modSr (by decide) same_refl)))

theorem endClientApplets (h : NoCommandOf n s) (t : Nat) : NoCommandOf n (endClientApplets s t) :=
  endClientApplets_keeps (P := NoCommandOf n) (ps := 0x800) (fun _ _ same now => now.of_same same) (fun _ f v now => now.finish f v) (by decide) h t

theorem afterAborts (h : NoCommandOf n s) (t : Nat) : NoCommandOf n (afterAborts s t) :=
  afterAborts_keeps (P := NoCommandOf n) (ps := 0x800) (fun _ _ same now => now.of_same same) (fun _ f v now => now.finish f v)
    (fun _ c now => now.releaseContext c) (by decide) h t

/-- Where none is in flight, ending what is ends none but those of its applets. -/
theorem endWork (h : NoCommandOf n s) (p : Flight → Bool) (v : Flight → Verdict) : NoCommandOf n (endWork s n p v).1 := by
  have calm : ∀ u, NoCommandOf n u → NoCommandOf n ((List.range 64).foldl (fun s k =>
      if (chanOf s k).owner = n && (chanOf s k).halted && (xfersOf s k).isEmpty then leaveHalt s k else s)
      ((resumesFirst ((inFlight u n).filter p)).foldl (endFlight v) u)) := fun u now => by
    rw [now.inFlight_nil]
    exact now.of_same (same_foldl (fun u k same => same_ite (same_leaveHalt _ _ (by decide) same) same) same_refl)
  unfold Machine.endWork
  dsimp only
  split
  · exact calm _ (h.endClientApplets n)
  · exact calm _ h

end NoCommandOf

theorem settleQuiesce_done {s : State} {f : Flight} {n : Nat} (op : f.op = 0x13) (target : dget f.desc 16 1 = n) (waits : f.phase = .unit)
    (idle : NoCommandOf n s) (none' : (tenOf s n).stopped = []) (unseen : ∀ v ∈ s.visible, v.src.fn ≠ n) :
    settleQuiesce s f = finishDone (holdTenancy s n) f (f.aux.headD 0) := by
  subst target
  have hidden : (s.visible.any fun v => decide (v.src.fn = dget f.desc 16 1) && decide (v.admitted < f.admitted)) = false :=
    List.any_eq_false.2 fun v mem => by simp [unseen v mem]
  unfold settleQuiesce
  exact if_neg (by simp [op, waits, idle.inFlight_nil, none', hidden])

/-- What a DRAIN ends of its target at its limit instant. -/
def limitEnded (s : State) (f : Flight) : State × Nat :=
  endWork s (dget f.desc 16 1) (fun g => decide (g.admitted < f.admitted) && !drains s g) quiesceAborts

/-- A quiesce past its limit instant, which waits for what runs on. -/
def limitPassed (f : Flight) (n : Nat) : Flight := { f with phase := .unit, aux := [n, 1] }

/-- The state in which a quiesce is past its limit instant. -/
def drained (s : State) (f : Flight) : State :=
  setFlight (afterAborts (limitEnded s f).1 (dget f.desc 16 1)) (limitPassed f (limitEnded s f).2)

theorem drainLimit_eq (s : State) (f : Flight) : drainLimit s f = settleQuiesce (drained s f) (limitPassed f (limitEnded s f).2) := by
  unfold drainLimit drained limitEnded
  dsimp only
  generalize endWork s (dget f.desc 16 1) (fun g => decide (g.admitted < f.admitted) && !drains s g) quiesceAborts = ended
  obtain ⟨u, n⟩ := ended
  rfl

theorem drained_same (s : State) (f : Flight) : Same 0x500 s (drained s f) :=
  same_setFlight _ _ (by decide) (same_afterAborts _ _ (by decide) (same_endWork _ _ _ _ (by decide) same_refl))

theorem drainLimit_idle {s : State} {f : Flight} {n : Nat} (op : f.op = 0x13) (target : dget f.desc 16 1 = n) (mem : f ∈ s.flights)
    (idle : inFlight s n = []) (none' : (tenOf s n).stopped = []) (unseen : ∀ v ∈ s.visible, v.src.fn ≠ n) :
    ∃ k, drainLimit s f = finishDone (holdTenancy (drained s f) n) (limitPassed f k) k := by
  have free : NoCommandOf n s := fun g mem => by simpa using List.filter_eq_nil_iff.1 idle g mem
  subst target
  have calm : NoCommandOf (dget f.desc 16 1) (drained s f) := ((free.endWork _ _).afterAborts _).setFlight (free f mem)
  refine ⟨(limitEnded s f).2, (drainLimit_eq s f).trans (settleQuiesce_done op rfl rfl calm ?_ ?_)⟩
  · rw [tenOf_of_same ((drained_same s f).part (by decide))]
    exact none'
  · rw [(drained_same s f).get .visible (by decide)]
    exact unseen

/-- The quiesce of a target whose limit instant has come. -/
def limitDueOf (s : State) (n : Nat) : Option Flight :=
  flightBy s fun f => f.op == 0x13 && decide (dget f.desc 16 1 = n) && instantCome s f

theorem limitOf_eq (s : State) (n : Nat) : limitOf s n = match limitDueOf s n with | some f => drainLimit s f | none => s := rfl

theorem limitOf_none {s : State} {n : Nat} (none' : limitDueOf s n = none) : limitOf s n = s := by
  rw [limitOf_eq, none']

theorem limitOf_quiesces {s : State} {n : Nat} {f : Flight} (due : limitDueOf s n = some f) (idle : inFlight s n = [])
    (none' : (tenOf s n).stopped = []) (unseen : ∀ v ∈ s.visible, v.src.fn ≠ n) :
    (tenOf (limitOf s n) n).state = .quiesced ∧ ∀ x ∈ (limitOf s n).flights, x.id ≠ f.id := by
  have found := List.find?_some due
  simp only [Bool.and_eq_true, beq_iff_eq, decide_eq_true_eq] at found
  obtain ⟨⟨op, target⟩, -⟩ := found
  obtain ⟨k, done⟩ := drainLimit_idle op target (List.mem_of_find?_eq_some due) idle none' unseen
  rw [limitOf_eq, due]
  dsimp only
  rw [done]
  refine ⟨?_, finishDone_removes _ (limitPassed f k) k⟩
  rw [tenOf_of_same (same_finishDone _ _ _ (by decide) same_refl), tenOf_holdTenancy_same]
  rfl

/-- Settles O58: by what the start of a reaction leaves of the others, what a completed one does to each of its parties, and by the
end of a quiesce that finds nothing of its target left. -/
theorem reactionsAndLimits : Obligations.ReactionsAndLimits := by
  unfold Obligations.ReactionsAndLimits
  refine fun s => ⟨fun l r m split started waits => ⟨_, rfl, startReaction_starts split started waits⟩,
    fun started => ⟨_, rfl, startReaction_idle started⟩, fun waiting => ⟨_, rfl, completeReaction_none waiting⟩,
    fun r n found => ⟨fun guest lt named live => ⟨_, rfl, completeReaction_contains found guest lt named live⟩,
      fun lt named present => ⟨_, rfl, completeReaction_degrades found lt named present⟩⟩,
    fun n => ⟨fun none' => ⟨_, rfl, limitOf_none none'⟩,
      fun f due idle none' unseen => ⟨_, rfl, limitOf_quiesces due idle none' unseen⟩⟩⟩

end Sys2Proof.Machine
end

section
/-! PROOFS. Bulk memory (O55): the requests of a turn, the zeroising of plots, the migration of a rank, and the ranks' refresh and
power-down. -/

namespace Sys2Proof.Machine

theorem rankOf_of_same {s t : State} (h : Same 0x40000 s t) (n : Nat) : rankOf' t n = rankOf' s n := by
  unfold rankOf'
  rw [h.get .dram (by decide)]

/-! ### The requests of a turn (17 R721) -/

theorem modDram_nothing_queued (s : State) : (s.modDram fun d => { d with queued := d.queued ++ [] }) = s :=
  congrArg (fun l => ({ s with dram := { s.dram with queued := l } } : State)) (List.append_nil s.dram.queued)

theorem serveDram_waits {s : State} {r : DramRequest} (turn : dramTurn s r = false) :
    serveDram s [r] = s.modDram fun d => { d with queued := d.queued ++ [r] } := by
  simp [serveDram, turn, byUrgency, sortBy]

theorem serveDram_one {s : State} {r : DramRequest} (turn : dramTurn s r = true) : serveDram s [r] = dramServe s r := by
  have alone : serveDram s [r] = dramServe (s.modDram fun d => { d with queued := d.queued ++ [] }) r := by
    simp [serveDram, turn, byUrgency, sortBy, insertBy]
  rw [alone, modDram_nothing_queued]

theorem serveDram_urgent_first {s : State} {a b : DramRequest} (first : dramTurn s a = true) (second : dramTurn s b = true)
    (urgent : urgency s a < urgency s b) : serveDram s [a, b] = dramServe (dramServe s b) a := by
  have later : ¬urgency s b < urgency s a := by omega
  have other : urgency s a ≠ urgency s b := by omega
  have sorted : serveDram s [a, b] = dramServe (dramServe (s.modDram fun d => { d with queued := d.queued ++ [] }) b) a := by
    simp [serveDram, first, second, byUrgency, sortBy, insertBy, later, other]
  rw [sorted, modDram_nothing_queued]

/-! ### A refused request (05 R213) -/

theorem mcAccessFault_fires (s : State) (o : Nat) : (mcAccessFault s o).dram = s.dram ∧
    (evSrc (mcAccessFault s o) (srcMemory 6)).cause.testBit 0 = true ∧ (lgSrc (mcAccessFault s o) 22).on = true :=
  ⟨(same_mcAccessFault (ps := 0x40000) s o (by decide) same_refl).get .dram (by decide),
   assert_keeps_cause _ 22 _ _ _ _ (raise_sets s (srcMemory 6) 0), assert_sets _ 22 _ _ (by decide)⟩

theorem dramRefuse_fires (s : State) (r : DramRequest) : (dramRefuse s r).dram.mem = s.dram.mem ∧
    (evSrc (dramRefuse s r) (srcMemory 6)).cause.testBit 0 = true ∧ (lgSrc (dramRefuse s r) 22).on = true := by
  obtain ⟨u, refused, same⟩ : ∃ u : State, dramRefuse s r = mcAccessFault u r.owner ∧ u.dram.mem = s.dram.mem := by
    unfold dramRefuse
    rcases r.write with _ | bs <;> exact ⟨_, rfl, rfl⟩
  obtain ⟨dram, event, line⟩ := mcAccessFault_fires u r.owner
  rw [refused, dram]
  exact ⟨same, event, line⟩

theorem dramServe_refuses {s : State} {r : DramRequest} (may : dramPermits s r = false) : dramServe s r = dramRefuse s r :=
  if_pos (by simp [may])

theorem dramServe_holds {s : State} {r : DramRequest} (may : dramPermits s r = true) (held : heldByPause s r = true) :
    dramServe s r = s.modDram fun d => { d with held := d.held ++ [r] } := by
  unfold dramServe
  rw [if_neg (by simp [may]), if_pos held]

theorem dramServe_performs {s : State} {r : DramRequest} (may : dramPermits s r = true) (free : heldByPause s r = false) :
    dramServe s r = dramPerform s r := by
  unfold dramServe
  rw [if_neg (by simp [may]), if_neg (by simp [free])]

/-! ### A request that is performed (17 R705 to R709) -/

/-- The state in which a served request has been counted, its rank is awake and its word is as it is found. -/
def requestNoted (s : State) (r : DramRequest) : State :=
  let s := if now s > r.arrived + latTarget s r.port then
      s.modDram fun d => { d with missed := tmod 0 d.missed r.owner fun n => min 0xFFFFFFFF (n + 1) }
    else s
  let s := useRank s (rankAt s.dram r.addr)
  let s := setDrWord s r.addr (joinFault (drWord s r.addr) (outcome r.found))
  s.modDram fun d => { d with moved := true }

/-- Bytes moved for an owner are counted as written. -/
def writtenCounted (s : State) (o n : Nat) : State :=
  s.modDram fun d => { d with wrBytes := tmod 0 d.wrBytes o fun k => (k + n) % 2 ^ 64 }

/-- Bytes moved for an owner are counted as read. -/
def readCounted (s : State) (o n : Nat) : State :=
  s.modDram fun d => { d with rdBytes := tmod 0 d.rdBytes o fun k => (k + n) % 2 ^ 64 }

theorem dramPerform_writes (s : State) {r : DramRequest} {bs : List Byte} (write : r.write = some bs) :
    dramPerform s r = writeDram (writtenCounted (requestNoted s r) r.owner bs.length) r.addr bs r.poison := by
  unfold dramPerform requestLen
  rw [write]
  rfl

theorem dramPerform_reads (s : State) {r : DramRequest} (read : r.write = none) :
    ∃ a, dramPerform s r = (readDram (readCounted (requestNoted s r) r.owner r.len) r.addr r.len).2.2.modDram fun d => { d with answer := a } := by
  refine ⟨{ bytes := (readDram (readCounted (requestNoted s r) r.owner r.len) r.addr r.len).1,
            poisoned := (readDram (readCounted (requestNoted s r) r.owner r.len) r.addr r.len).2.1 }, ?_⟩
  unfold dramPerform requestLen
  rw [read]
  rfl

theorem Traffic.mem_eq {z s : State} (h : Traffic true z s) : s.dram.mem = z.dram.mem := (congrArg Dram.mem h.payload_eq :)

theorem Traffic.setDrWord {r : Bool} {z s : State} (h : Traffic r z s) (a : Nat) (w : WordFault) : Traffic r z (setDrWord s a w) := h.books

theorem Traffic.requestNoted {t : Bool} {z s : State} (h : Traffic t z s) (r : DramRequest) : Traffic t z (requestNoted s r) := by
  unfold Machine.requestNoted
  dsimp only
  split
  · exact ((h.books.rank _ _).setDrWord _ _).books
  · exact ((h.rank _ _).setDrWord _ _).books

theorem Traffic.writeDrWord {r : Bool} {z s : State} (h : Traffic r z s) (poison : Bool) (addr len a : Nat) :
    Traffic r z (writeDrWord poison addr len s a) := by
  unfold Machine.writeDrWord
  split
  · exact h.setDrWord _ _
  split
  · exact h.setDrWord _ _
  · exact (h.noteDrWord a).setDrWord _ _

theorem writeDram_mem (s : State) (addr : Nat) (bs : List Byte) (poison : Bool) :
    (writeDram s addr bs poison).dram.mem = Mem.wrs s.dram.mem addr bs := by
  have words : Traffic true s ((wordsOf addr bs.length).foldl (writeDrWord poison addr bs.length) s) :=
    Traffic.refl.foldl fun u a now => now.writeDrWord poison addr bs.length a
  exact congrArg (fun m => Mem.wrs m addr bs) words.mem_eq

theorem dramPerform_write_mem (s : State) {r : DramRequest} {bs : List Byte} (write : r.write = some bs) :
    (dramPerform s r).dram.mem = Mem.wrs s.dram.mem r.addr bs := by
  have noted : Traffic true s (writtenCounted (requestNoted s r) r.owner bs.length) := (Traffic.refl.requestNoted r).books
  rw [dramPerform_writes s write, writeDram_mem, noted.mem_eq]

/-! ### What serving a request leaves of a migration (17 R712 to R716) -/

/-- What of bulk memory says which rank serves what: the slots, the ranks, the migration and the requests it holds. -/
def custody (d : Dram) : Dram :=
  { slots0 := d.slots0, slots1 := d.slots1, ranks := d.ranks, migration := d.migration, held := d.held }

/-- From s to t no slot has gone to another rank, a migration that runs is the same, no retired rank is in use again, the same
requests are held, and no latch has been cleared. -/
structure CustodyKept (s t : State) : Prop where
  row0 : t.dram.slots0 = s.dram.slots0
  row1 : t.dram.slots1 = s.dram.slots1
  migration : s.dram.migration.isSome = true → t.dram.migration = s.dram.migration
  retired : ∀ n, (rankOf' s n).state = .retired → (rankOf' t n).state = .retired
  held : t.dram.held = s.dram.held
  latches : LatchesKept s t

namespace CustodyKept

variable {s t u : State}

theorem trans (x : CustodyKept s t) (y : CustodyKept t u) : CustodyKept s u where
  row0 := y.row0.trans x.row0
  row1 := y.row1.trans x.row1
  migration some' := (y.migration (by rw [x.migration some']; exact some')).trans (x.migration some')
  retired n h := y.retired n (x.retired n h)
  held := y.held.trans x.held
  latches := x.latches.trans y.latches

theorem of_custody (h : custody t.dram = custody s.dram) (latches : LatchesKept s t) : CustodyKept s t where
  row0 := (congrArg Dram.slots0 h :)
  row1 := (congrArg Dram.slots1 h :)
  migration _ := (congrArg Dram.migration h :)
  retired n state := by rwa [show rankOf' t n = rankOf' s n from (congrArg (fun d : Dram => (tget {} d.ranks n : Rank)) h :)]
  held := (congrArg Dram.held h :)
  latches := latches

theorem of_same (h : Same 0x400C0 s t) : CustodyKept s t :=
  of_custody (by rw [h.get .dram (by decide)]) (.of_same (h.part (by decide)))

theorem refl (s : State) : CustodyKept s s := of_same same_refl

theorem ite {c : Prop} [Decidable c] (x : CustodyKept s t) (y : CustodyKept s u) : CustodyKept s (if c then t else u) := by
  split <;> assumption

theorem foldl {α : Type} {f : State → α → State} (hf : ∀ v x, CustodyKept v (f v x)) (l : List α) (s : State) : CustodyKept s (l.foldl f s) :=
  fold_keeps (P := CustodyKept s) (fun v x now => now.trans (hf v x)) (refl s)

/-- A change of the rest of bulk memory. -/
theorem books {f : Dram → Dram} (h : CustodyKept s t) (keeps : ∀ d, custody (f d) = custody d := by intro _; rfl) :
    CustodyKept s (t.modDram f) := h.trans (of_custody (keeps t.dram) ⟨fun _ _ e => e, fun _ e => e⟩)

theorem raise (h : CustodyKept s t) (n b : Nat) : CustodyKept s (raise t n b) := h.trans (of_custody rfl (raise_latches t n b))

theorem assert (h : CustodyKept s t) (b a : Nat) : CustodyKept s (assert t b a) :=
  h.trans (of_custody (by rw [(same_assert (ps := 0x40000) t b a false (by decide) same_refl).get .dram (by decide)]) (assert_latches t b a false))

theorem rank (h : CustodyKept s t) (n : Nat) {f : Rank → Rank} (stays : (rankOf' t n).state = .retired → (f (rankOf' t n)).state = .retired) :
    CustodyKept s (modRank t n f) := by
  refine h.trans ⟨rfl, rfl, fun _ => rfl, fun k retired => ?_, rfl, ⟨fun _ _ e => e, fun _ e => e⟩⟩
  by_cases own : k = n
  · subst own
    rw [rankOf_modRank_same]
    exact stays retired
  · rwa [rankOf_modRank_other _ _ _ _ own]

theorem retire (h : CustodyKept s t) (n : Nat) : CustodyKept s (retire t n) := by
  unfold Machine.retire
  dsimp only
  by_cases stays : ((rankOf' t n).state ≠ .inService || (rankOf' t n).noSpare || t.dram.waiting.contains n) = true
  · rwa [if_pos stays]
  rw [if_neg stays]
  have inService : (rankOf' t n).state = .inService := by
    by_contra other
    simp [other] at stays
  by_cases runs : t.dram.migration.isSome = true
  · rw [if_pos runs]
    exact h.books
  rw [if_neg runs]
  split
  · next sp found =>
    have spare : (rankOf' t sp).state = .spare := by
      have mem := List.mem_of_head? found
      exact of_decide_eq_true (List.mem_filter.1 mem).2
    have other : sp ≠ n := fun e => by rw [e, inService] at spare; cases spare
    have first : CustodyKept s (modRank t n fun r => { r with state := .retiring }) := h.rank n fun e => by rw [inService] at e; cases e
    have second := first.rank sp (f := fun r => { r with state := .filling }) fun e => by
      rw [rankOf_modRank_other _ _ _ _ other, spare] at e
      cases e
    exact second.trans ⟨rfl, rfl, fun some' => absurd some' runs, fun _ e => e, rfl, ⟨fun _ _ e => e, fun _ e => e⟩⟩
  · exact (h.rank n fun e => e).assert 19 _

theorem noteDrWord (h : CustodyKept s t) (a : Nat) : CustodyKept s (noteDrWord t a) := by
  unfold Machine.noteDrWord
  dsimp only
  split
  · exact h
  · exact h
  · exact ((h.rank _ fun e => e).books).raise _ _
  · exact h
  · exact (((h.books (f := fun d => { d with words := tset .sound d.words (a / 8) .poisoned })).books).raise _ _ |>.assert 18 _).retire _

theorem requestNoted (h : CustodyKept s t) (r : DramRequest) : CustodyKept s (requestNoted t r) := by
  have used : ∀ v, CustodyKept s v → CustodyKept s (((setDrWord (useRank v (rankAt v.dram r.addr)) r.addr
      (joinFault (drWord (useRank v (rankAt v.dram r.addr)) r.addr) (outcome r.found)))).modDram fun d => { d with moved := true }) :=
    fun v now => ((now.rank _ fun e => e).books).books
  unfold Machine.requestNoted
  dsimp only
  split
  · exact used _ h.books
  · exact used _ h

theorem writeDram (h : CustodyKept s t) (addr : Nat) (bs : List Byte) (poison : Bool) : CustodyKept s (writeDram t addr bs poison) := by
  unfold Machine.writeDram
  refine (h.trans (.foldl (fun v a => ?_) _ t)).books
  unfold writeDrWord
  exact .ite ((refl v).books) (.ite ((refl v).books) (((refl v).noteDrWord a).books))

theorem readDrWord (h : CustodyKept s t) (a : Nat) : CustodyKept s (readDrWord t a).2.2 := by
  unfold Machine.readDrWord
  dsimp only
  split
  · exact (h.noteDrWord a).trans (of_same (same_freshBytes _ _ (by decide) same_refl))
  · exact h.noteDrWord a

theorem readDram (h : CustodyKept s t) (addr len : Nat) : CustodyKept s (readDram t addr len).2.2 :=
  List.foldlRecOn (motive := fun acc : List Byte × List Nat × State => CustodyKept s acc.2.2) _ _ h fun _ now a _ => now.readDrWord a

theorem dramPerform (h : CustodyKept s t) (r : DramRequest) : CustodyKept s (dramPerform t r) := by
  rcases write : r.write with _ | bs
  · obtain ⟨a, e⟩ := dramPerform_reads t write
    rw [e]
    exact ((h.requestNoted r).books.readDram _ _).books
  · rw [dramPerform_writes t write]
    exact (h.requestNoted r).books.writeDram _ _ _

theorem dramRefuse (h : CustodyKept s t) (r : DramRequest) : CustodyKept s (dramRefuse t r) := by
  unfold Machine.dramRefuse
  dsimp only
  split
  · exact (h.raise _ _).assert 22 _
  · exact (h.books.raise _ _).assert 22 _

end CustodyKept

/-- Every request that no pause holds leaves the custody. -/
theorem dramServe_custody {s : State} {r : DramRequest} (free : heldByPause s r = false) : CustodyKept s (dramServe s r) := by
  rcases may : dramPermits s r with _ | _
  · rw [dramServe_refuses may]
    exact (CustodyKept.refl s).dramRefuse r
  · rw [dramServe_performs may free]
    exact (CustodyKept.refl s).dramPerform r

/-! ### The steps of a migration (17 R713) -/

/-- The copy of a migration runs, and no request is held. -/
def Copies (m : Migration) (s : State) : Prop := s.dram.migration = some { m with phase := .copy } ∧ s.dram.held = []

theorem dramServe_copies {m : Migration} {s : State} (h : Copies m s) (r : DramRequest) : Copies m (dramServe s r) := by
  obtain ⟨runs, none'⟩ := h
  have kept : CustodyKept s (dramServe s r) := dramServe_custody (by simp [heldByPause, runs])
  exact ⟨(kept.migration (by rw [runs]; rfl)).trans runs, kept.held.trans none'⟩

theorem endFirstPause_copies {s : State} {m : Migration} (runs : s.dram.migration = some m) (pause : m.phase = .firstPause) :
    Copies m (endFirstPause s) := by
  unfold endFirstPause
  rw [runs]
  dsimp only
  rw [if_neg (by simp [pause])]
  exact fold_keeps (P := Copies m) (fun u r now => dramServe_copies now r) ⟨rfl, rfl⟩

theorem copyWords_custody (s : State) (n : Nat) : CustodyKept s (copyWords s n) := by
  unfold copyWords
  exact (CustodyKept.foldl (fun u e => (CustodyKept.refl u).noteDrWord _) _ s).books

/-- The migration whose copy has ended. -/
def copyEnded (d : Dram) (m : Migration) : Migration := { m with phase := .secondPause, copied := plotsPerRank d * 2 ^ 21 }

theorem endCopy_pauses {s : State} {m : Migration} (runs : s.dram.migration = some m) (copies : m.phase = .copy) :
    (endCopy s).dram.migration = some (copyEnded s.dram m) := by
  unfold endCopy
  rw [runs]
  dsimp only
  rw [if_neg (by simp [copies])]
  exact (copyWords_custody _ m.src).migration rfl

/-- A slot table in which the spare of a migration has taken the retired rank's slot. -/
def slotTaken (m : Migration) (l : List Nat) : List Nat := l.map fun n => if n = m.src then m.dst else n

/-- The spare serves in place of the retired rank, and the event is set. -/
structure SpareServes (m : Migration) (d : Dram) (t : State) : Prop where
  retired : (rankOf' t m.src).state = .retired
  row0 : t.dram.slots0 = slotTaken m d.slots0
  row1 : t.dram.slots1 = slotTaken m d.slots1
  event : (evSrc t (srcMemory 2)).cause.testBit 0 = true

namespace SpareServes

variable {m : Migration} {d : Dram} {s t : State}

theorem of_custody (h : SpareServes m d s) (kept : CustodyKept s t) : SpareServes m d t :=
  ⟨kept.retired _ h.retired, kept.row0.trans h.row0, kept.row1.trans h.row1, kept.latches.event _ _ h.event⟩

theorem holds (h : SpareServes m d s) (f : List DramRequest → List DramRequest) :
    SpareServes m d (s.modDram fun d => { d with held := f d.held }) := ⟨h.retired, h.row0, h.row1, h.event⟩

theorem dramServe (h : SpareServes m d s) (r : DramRequest) : SpareServes m d (dramServe s r) := by
  rcases held : heldByPause s r with _ | _
  · exact h.of_custody (dramServe_custody held)
  rcases may : dramPermits s r with _ | _
  · rw [dramServe_refuses may]
    exact h.of_custody ((CustodyKept.refl s).dramRefuse r)
  · rw [dramServe_holds may held]
    exact h.holds (· ++ [r])

theorem releaseHeld (h : SpareServes m d s) : SpareServes m d (releaseHeld s) :=
  fold_keeps (P := SpareServes m d) (fun _ r now => now.dramServe r) (h.holds fun _ => [])

end SpareServes

/-- The state in which the spare of a migration has taken the slot. -/
def spareTaken (s : State) (m : Migration) : State :=
  let s := s.modDram fun d => { d with migration := none, slots0 := slotTaken m d.slots0, slots1 := slotTaken m d.slots1 }
  let s := modRank s m.src fun r => { r with state := .retired, powerDown := true }
  let s := modRank s m.dst fun r => { r with state := .inService, lastUse := now s, idle := s.dram.pdIdle }
  raise s (srcMemory 2) 0

theorem spareTaken_serves (s : State) {m : Migration} (apart : m.src ≠ m.dst) : SpareServes m s.dram (spareTaken s m) := by
  refine ⟨?_, rfl, rfl, raise_sets _ _ _⟩
  unfold spareTaken
  dsimp only
  rw [rankOf_of_same (same_raise _ _ _ (by decide) same_refl), rankOf_modRank_other _ _ _ _ apart, rankOf_modRank_same]

/-- The commands that asked for a migration end with it. -/
def retirementsDone (s : State) (m : Migration) : State :=
  s.flights.foldl (fun s f => if f.op = 0xD4 && decide (f.phase = .unit) && f.aux.head? = some m.src then finishDone s f else s) s

theorem retirementsDone_custody (s : State) (m : Migration) : CustodyKept s (retirementsDone s m) :=
  .foldl (fun u f => .ite (.of_same (same_finishDone u f 0 (by decide) same_refl)) (.refl u)) _ s

theorem endMigration_eq {s : State} {m : Migration} (runs : s.dram.migration = some m) (pause : m.phase = .secondPause) :
    endMigration s = match (releaseHeld (retirementsDone (spareTaken s m) m)).dram.waiting with
      | [] => releaseHeld (retirementsDone (spareTaken s m) m)
      | n :: rest => retire ((releaseHeld (retirementsDone (spareTaken s m) m)).modDram fun d => { d with waiting := rest }) n := by
  unfold endMigration
  rw [runs]
  exact if_neg (by simp [pause])

theorem endMigration_serves {s : State} {m : Migration} (runs : s.dram.migration = some m) (pause : m.phase = .secondPause)
    (apart : m.src ≠ m.dst) : SpareServes m s.dram (endMigration s) := by
  have released := ((spareTaken_serves s apart).of_custody (retirementsDone_custody _ m)).releaseHeld
  rw [endMigration_eq runs pause]
  split
  · exact released
  · exact released.of_custody (((CustodyKept.refl _).books).retire _)

/-- In any other phase, or with no migration, none of its steps does anything. -/
theorem endFirstPause_idle {s : State} (idle : ∀ m, s.dram.migration = some m → m.phase ≠ .firstPause) : endFirstPause s = s := by
  unfold endFirstPause
  split
  · next m runs => exact if_pos (idle m runs)
  · rfl

theorem endCopy_idle {s : State} (idle : ∀ m, s.dram.migration = some m → m.phase ≠ .copy) : endCopy s = s := by
  unfold endCopy
  split
  · next m runs => exact if_pos (idle m runs)
  · rfl

theorem endMigration_idle {s : State} (idle : ∀ m, s.dram.migration = some m → m.phase ≠ .secondPause) : endMigration s = s := by
  unfold endMigration
  split
  · rfl
  · next m runs => exact if_pos (idle m runs)

/-! ### Zeroising (05 R215 to R217) -/

theorem plotDone_idle {s : State} (idle : s.dram.zeroise = [] ∨ s.dram.migration.isSome = true) (p : Nat) : plotDone s p = s := by
  unfold plotDone
  split
  · rfl
  · next turn =>
    rw [turn] at idle
    exact if_pos (by simpa using Or.inr (idle.resolve_left (by simp)))

theorem plotDone_other {s : State} {p v q : Nat} {rest : List PlotZero} (turn : s.dram.zeroise = { plot := p, next := v } :: rest)
    (other : q ≠ p) : plotDone s q = s := by
  unfold plotDone
  rw [turn]
  exact if_pos (by simp [Ne.symm other])

/-- The state in which a plot is zero and waits no longer. -/
def plotWiped (s : State) (p : Nat) (rest : List PlotZero) : State := (wipePlot s p).modDram fun d => { d with zeroise := rest }

theorem setPlotOwner_keeps (s : State) (p v : Nat) : (setPlotOwner s p v).dram.mem = s.dram.mem ∧
    (setPlotOwner s p v).dram.zeroise = s.dram.zeroise := by
  unfold setPlotOwner
  split <;> exact ⟨rfl, rfl⟩

theorem plotDone_wipes {s : State} {p v : Nat} {rest : List PlotZero} (turn : s.dram.zeroise = { plot := p, next := v } :: rest)
    (none' : s.dram.migration = none) : (plotDone s p).dram.mem = Mem.wipe s.dram.mem (p * 2 ^ 21) (2 ^ 21) ∧ (plotDone s p).dram.zeroise = rest := by
  have done : plotDone s p = if v = 0x1D then plotWiped s p rest else setPlotOwner (plotWiped s p rest) p v := by
    unfold plotDone
    rw [turn]
    exact if_neg (by simp [none'])
  rw [done]
  split
  · exact ⟨rfl, rfl⟩
  · exact setPlotOwner_keeps ..

/-! ### Refresh and power-down (17 R717 to R719) -/

/-- A rank with the refresh level that a reading of its MR4 asks for. -/
def rankPolled (r : Rank) (reading : Nat) : Rank := { r with refresh := min 2 reading }

/-- All that a poll does to the ranks: one that is there gets its level. -/
theorem pollRank_cases (s : State) (n x : Nat) : pollRank s n x = s ∧ ((rankOf' s n).state = .absent ∨ (rankOf' s n).state = .failedTraining) ∨
    Same 0x40000 (setRank s n (rankPolled (rankOf' s n) x)) (pollRank s n x) := by
  unfold pollRank
  dsimp only
  split
  · next gone => exact .inl ⟨rfl, by simpa using gone⟩
  · exact .inr (same_ite (same_raise _ _ _ (by decide) same_refl)
      (same_ite (same_assert _ _ _ _ (by decide) (same_raise _ _ _ (by decide) same_refl)) same_refl))

theorem rankOf_pollRank_other (s : State) (n x k : Nat) (other : k ≠ n) : rankOf' (pollRank s n x) k = rankOf' s k := by
  obtain ⟨e, -⟩ | same := pollRank_cases s n x
  · rw [e]
  · rw [rankOf_of_same same, rankOf_setRank_other _ _ _ _ other]

theorem pollRank_latches (s : State) (n x : Nat) : LatchesKept s (pollRank s n x) := by
  have polled : ∀ v, LatchesKept s (setRank s n v) := fun v => ⟨fun _ _ e => e, fun _ e => e⟩
  unfold pollRank
  exact .ite (.of_same same_refl) (.ite ((polled _).trans (raise_latches ..))
    (.ite ((polled _).trans ((raise_latches ..).trans (assert_latches ..))) (polled _)))

section Polled

variable {s : State} {n : Nat} (x : Nat) (there : (rankOf' s n).state ≠ .absent) (good : (rankOf' s n).state ≠ .failedTraining)
include there good

theorem pollRank_refresh : (rankOf' (pollRank s n x) n).refresh = min 2 x := by
  obtain ⟨-, gone⟩ | same := pollRank_cases s n x
  · exact absurd gone (not_or.2 ⟨there, good⟩)
  · rw [rankOf_of_same same, rankOf_setRank_same]
    rfl

theorem pollRank_doubled (level : x = 1) (new : (rankOf' s n).refresh ≠ 1) :
    (evSrc (pollRank s n x) (srcMemory 3)).cause.testBit 0 = true := by
  subst level
  unfold pollRank
  dsimp only
  rw [if_neg (by simp [there, good]), if_pos (by simp [new])]
  exact raise_sets _ _ _

theorem pollRank_above (level : 2 ≤ x) : (evSrc (pollRank s n x) (srcMemory 4)).cause.testBit 0 = true ∧
    (lgSrc (pollRank s n x) 20).on = true := by
  have top : min 2 x = 2 := by omega
  unfold pollRank
  dsimp only
  rw [if_neg (by simp [there, good]), top, if_neg (by simp), if_pos rfl]
  exact ⟨assert_keeps_cause _ _ _ _ _ _ (raise_sets _ _ _), assert_sets _ _ _ _ (by decide)⟩

end Polled

/-- The ranks whose readings a poll has, in their order. -/
theorem pollMr4_eq (s : State) (l : List Nat) :
    pollMr4 s l = (List.range (min 16 l.length)).foldl (fun s n => pollRank s n (l.getD n 0)) s := by
  have pairs : (List.range 16).zip l = (List.range (min 16 l.length)).map fun n => (n, l.getD n 0) := by
    apply List.ext_getElem
    · simp
    · intro n h _
      simp at h
      simp [h]
  rw [pollMr4, pairs, List.foldl_map]

/-- A poll takes each rank's reading once, finds the rank as it was, and clears no latch after it. -/
theorem pollMr4_takes {s : State} {l : List Nat} {n x : Nat} (lt : n < 16) (named : l[n]? = some x) : ∃ u, rankOf' u n = rankOf' s n ∧
    rankOf' (pollMr4 s l) n = rankOf' (pollRank u n x) n ∧ LatchesKept (pollRank u n x) (pollMr4 s l) := by
  obtain ⟨inside, value⟩ := List.getElem?_eq_some_iff.1 named
  obtain ⟨before, after, split⟩ := List.append_of_mem (List.mem_range.2 (show n < min 16 l.length by omega))
  have distinct := List.nodup_range (n := min 16 l.length)
  rw [split] at distinct
  have fresh : n ∉ before ∧ n ∉ after := by
    rw [List.nodup_middle, List.nodup_cons, List.mem_append, not_or] at distinct
    exact distinct.1
  have other : ∀ u j k, k ≠ j → rankOf' (pollRank u j (l.getD j 0)) k = rankOf' u k := fun u j k => rankOf_pollRank_other u j _ k
  have reading : l.getD n 0 = x := by rw [List.getD_eq_getElem?_getD, named]; rfl
  refine ⟨before.foldl (fun s n => pollRank s n (l.getD n 0)) s, read_foldl_notMem (read := rankOf') other fresh.1 s, ?_⟩
  rw [pollMr4_eq, split, List.foldl_append, List.foldl_cons, reading]
  exact ⟨read_foldl_notMem (read := rankOf') other fresh.2 _, .foldl (fun u j => pollRank_latches u j _) _ _⟩

theorem useRank_uses (s : State) (n : Nat) : (rankOf' (useRank s n) n).lastUse = now s ∧ (rankOf' (useRank s n) n).powerDown = false ∧
    (rankOf' (useRank s n) n).state = (rankOf' s n).state := by
  unfold useRank
  rw [rankOf_modRank_same]
  exact ⟨rfl, rfl, rfl⟩

theorem powerDownRank_due {s : State} {n : Nat} (due : powerDownDue s n = true) : (rankOf' (powerDownRank s n) n).powerDown = true := by
  unfold powerDownRank
  rw [if_pos due, rankOf_modRank_same]

theorem powerDownRank_idle {s : State} {n : Nat} (idle : powerDownDue s n = false) : powerDownRank s n = s := if_neg (by simp [idle])

/-- Settles O55: by what serving a request, ending a step of a migration, zeroising a plot and polling a rank leave of bulk memory. -/
theorem bulkMemory : Obligations.BulkMemory := by
  unfold Obligations.BulkMemory
  refine fun s => ⟨fun r turn => ⟨_, rfl, serveDram_waits turn⟩, fun r turn may => ⟨_, rfl, ?_⟩,
    fun r turn may => ⟨fun held => ⟨_, rfl, ?_⟩, fun free bs write => ⟨_, rfl, ?_⟩⟩,
    fun a b first second urgent => ⟨_, rfl, serveDram_urgent_first first second urgent⟩,
    fun p idle => ⟨_, rfl, plotDone_idle idle p⟩,
    fun p v rest turn none' => ⟨⟨_, rfl, fun i lt => ?_, (plotDone_wipes turn none').2⟩, fun q other => ⟨_, rfl, plotDone_other turn other⟩⟩,
    fun m runs => ?_, fun none' i mem => ?_, fun l n x lt named there good => ⟨_, rfl, ?_⟩, fun n => ⟨_, rfl, useRank_uses s n⟩,
    fun n due => ⟨_, rfl, powerDownRank_due due⟩, fun n idle => ⟨_, rfl, powerDownRank_idle idle⟩⟩
  · rw [serveDram_one turn, dramServe_refuses may]
    exact dramRefuse_fires s r
  · rw [serveDram_one turn, dramServe_holds may held]
  · rw [serveDram_one turn, dramServe_performs may free]
    beta_reduce
    rw [dramPerform_write_mem s write]
    exact ⟨Mem.rds_wrs _ _ bs, fun a out => Mem.rd_wrs_outside _ _ bs a out⟩
  · show Mem.rd (plotDone s p).dram.mem _ = 0
    rw [(plotDone_wipes turn none').1, Mem.rd_wipe, if_pos (by omega)]
  · have only : ∀ k, s.dram.migration = some k → k = m := fun k e => Option.some.inj (e.symm.trans runs)
    exact ⟨fun pause => ⟨_, rfl, endFirstPause_copies runs pause⟩,
      fun other => ⟨_, rfl, endFirstPause_idle fun k e => only k e ▸ other⟩,
      fun copies => ⟨_, rfl, copyEnded s.dram m, endCopy_pauses runs copies, rfl, rfl, rfl⟩,
      fun other => ⟨_, rfl, endCopy_idle fun k e => only k e ▸ other⟩,
      fun pause apart => have done := endMigration_serves runs pause apart
        ⟨_, rfl, done.retired, done.row0, done.row1, done.event⟩,
      fun other => ⟨_, rfl, endMigration_idle fun k e => only k e ▸ other⟩⟩
  · have never : ∀ (k : Migration) (p : MigPhase), s.dram.migration = some k → k.phase ≠ p := fun k p e => by
      rw [none'] at e
      cases e
    rcases mem with _ | ⟨_, _ | ⟨_, _ | ⟨_, mem⟩⟩⟩
    · exact ⟨_, rfl, endFirstPause_idle fun k => never k _⟩
    · exact ⟨_, rfl, endCopy_idle fun k => never k _⟩
    · exact ⟨_, rfl, endMigration_idle fun k => never k _⟩
    · cases mem
  · obtain ⟨u, same, taken, latches⟩ := pollMr4_takes (s := s) lt named
    rw [← same] at there good ⊢
    show (rankOf' (pollMr4 s l) n).refresh = _ ∧ _
    rw [taken]
    exact ⟨pollRank_refresh x there good, fun level new => latches.event _ _ (pollRank_doubled x there good level new),
      fun level => have above := pollRank_above x there good level
        ⟨latches.event _ _ above.1, latches.line _ above.2⟩⟩

end Sys2Proof.Machine
end

section
/-! PROOFS. Function-level resets (O28): rings that stay disabled while the work of a tenancy ends, and the page of PF0. -/

namespace Sys2Proof.Machine

/-! ### Rings that stay disabled -/

/-- A command ring or completion ring that is disabled in s is disabled in t. -/
structure RingsStayOff (s t : State) : Prop where
  command : ∀ f r, (crOf s f r).enable = false → (crOf t f r).enable = false
  completion : ∀ f r, (crOf s f r).ccEnable = false → (crOf t f r).ccEnable = false

namespace RingsStayOff

variable {s t u : State}

theorem trans (x : RingsStayOff s t) (y : RingsStayOff t u) : RingsStayOff s u :=
  ⟨fun f r off => y.command f r (x.command f r off), fun f r off => y.completion f r (x.completion f r off)⟩

theorem of_same (h : Same 0x10 s t) : RingsStayOff s t :=
  ⟨fun f r off => by rwa [crOf_of_same h], fun f r off => by rwa [crOf_of_same h]⟩

theorem refl (s : State) : RingsStayOff s s := of_same same_refl

theorem ite {c : Prop} [Decidable c] (x : RingsStayOff s t) (y : RingsStayOff s u) : RingsStayOff s (if c then t else u) := by
  split <;> assumption

theorem foldl {α : Type} {f : State → α → State} (hf : ∀ v x, RingsStayOff v (f v x)) (l : List α) (s : State) :
    RingsStayOff s (l.foldl f s) := fold_keeps (P := RingsStayOff s) (fun v x now => now.trans (hf v x)) (refl s)

theorem modCr (s : State) (f r : Nat) {g : CmdRing → CmdRing} (command : ∀ c, c.enable = false → (g c).enable = false := by exact fun _ off => off)
    (completion : ∀ c, c.ccEnable = false → (g c).ccEnable = false := by exact fun _ off => off) : RingsStayOff s (modCr s f r g) := by
  have ring : ∀ k q, crOf (Machine.modCr s f r g) k q = crOf s k q ∨ crOf (Machine.modCr s f r g) k q = g (crOf s k q) := fun k q => by
    by_cases own : 4 * k + q = 4 * f + r
    · refine .inr ?_
      have same : ∀ v, crOf v k q = crOf v f r := fun v => by rw [crOf, crOf, own]
      rw [same, same, crOf_modCr_same]
    · exact .inl (crOf_modCr_other _ _ _ _ _ _ own)
  constructor
  · intro k q off
    rcases ring k q with e | e <;> rw [e]
    · exact off
    · exact command _ off
  · intro k q off
    rcases ring k q with e | e <;> rw [e]
    · exact off
    · exact completion _ off

end RingsStayOff

theorem putCompletion_rings (s : State) (f r : Nat) (bs : List Byte) : RingsStayOff s (putCompletion s f r bs) := by
  have put : ∀ (a : Nat) (l : List Byte) (tail : Nat) (g : Signal),
      RingsStayOff s (setCr (hostWrite s a l) f r { crOf s f r with ccTail := tail, sig := g }) := fun a l tail g =>
    .trans (t := hostWrite s a l) (.of_same (same_hostWrite _ _ _ (by decide) same_refl)) (.modCr _ f r (g := fun c => { c with ccTail := tail, sig := g }))
  unfold putCompletion
  dsimp only
  exact .ite (.refl s) (.ite ((put _ _ _ _).trans (.of_same (same_sendMessage _ _ _ (by decide) same_refl))) (put _ _ _ _))

theorem putRecord_rings (s : State) (f : Nat) (h : Held) : RingsStayOff s (putRecord s f h) := by
  have awake : RingsStayOff s (s.modPcie exitL1) := .of_same (same_modPcie (by decide) same_refl)
  unfold putRecord
  dsimp only
  split
  · exact awake.trans (.of_same (same_hostWrite _ _ _ (by decide) same_refl))
  · exact .ite (awake.trans (putCompletion_rings ..)) (awake.trans (.of_same (same_putEvent _ _ _ _ (by decide) same_refl)))

theorem issueRecord_rings (s : State) (f : Nat) (h : Held) : RingsStayOff s (issueRecord s f h) := by
  have sent : ∀ u, RingsStayOff u (if canWrite u f && (fnOf u f).held.isEmpty then putRecord u f h else holdRecord u f h) := fun u =>
    .ite (putRecord_rings ..) (.of_same (same_holdRecord _ _ _ (by decide) same_refl))
  unfold issueRecord
  refine .ite (.refl s) ?_
  dsimp only
  split
  · exact (RingsStayOff.modCr s f h.ring).trans (sent _)
  · exact sent s

theorem accept_rings (s : State) (f : Flight) (inst : Option Nat) (value : Nat) : RingsStayOff s (accept s f inst value) :=
  ((RingsStayOff.modCr s f.src.fn f.src.ring (g := fun c => { c with ccReserved := c.ccReserved - min 1 f.slots })).trans
    (.of_same (same_setFlight _ { f with slots := f.slots - 1 } (by decide) same_refl))).trans (issueRecord_rings ..)

theorem settleRing_rings (s : State) (f r : Nat) : RingsStayOff s (settleRing s f r) :=
  .ite (.modCr s f r (g := fun c => { c with enable := false, disablePending := false }) fun _ _ => rfl) (.refl s)

theorem finish_rings (s : State) (f : Flight) (v : Verdict) : RingsStayOff s (finish s f v) := by
  have left : RingsStayOff s ((modCr (noteOutcome s f v) f.src.fn f.src.ring fun c => { c with ccReserved := c.ccReserved - f.slots }).modFlights
      fun l => l.filter fun g => g.id ≠ f.id) :=
    ((RingsStayOff.of_same (same_noteOutcome s f v (by decide) same_refl)).trans (.modCr _ _ _)).trans
      (.of_same (same_modFlights (by decide) same_refl))
  exact (left.trans (issueRecord_rings ..)).trans (settleRing_rings ..)

theorem withdraw_rings (s : State) (f : Flight) (v : Verdict) : RingsStayOff s (withdraw s f v) := by
  unfold withdraw
  exact .ite (finish_rings ..) (.ite (.ite (.refl s) (.of_same (same_setFlight _ _ (by decide) same_refl))) (.ite (finish_rings ..)
    (.ite ((accept_rings ..).trans (finish_rings ..)) (finish_rings ..))))

theorem halt_rings (s : State) (b : Nat) : RingsStayOff s (halt s b) := by
  unfold halt
  exact .trans (.of_same (same_modLg (by decide) same_refl)) (.foldl (fun u f => .ite (.refl u) (withdraw_rings ..)) _ _)

theorem assert_rings (s : State) (b a : Nat) (i : Bool) (lt : b < 40) : RingsStayOff s (assert s b a i) := by
  obtain ⟨v, u, -, -, set, result⟩ := assert_cases s b a i lt
  have noted : Same 0x10 s u := by
    have line : Same 0x10 s (setLgSrc s b v) := same_setLgSrc s b v (by decide) same_refl
    obtain ⟨-, rfl⟩ | ⟨-, rfl⟩ := set
    · exact line
    · exact same_raise _ _ _ (by decide) line
  obtain ⟨-, e⟩ | ⟨-, e | ⟨k, e⟩⟩ := result <;> rw [e]
  · exact (RingsStayOff.of_same noted).trans (halt_rings u b)
  · exact .of_same noted
  · exact .of_same (same_modLg (by decide) noted)

/-! ### The bytes that a transfer moves before it ends (16 R690) -/

theorem Traffic.rings {r : Bool} {z s : State} (h : Traffic r z s) : RingsStayOff z s := by
  induction h with
  | refl => exact .refl z
  | event n b _ ih => exact ih.trans (.of_same (same_raise _ n b (by decide) same_refl))
  | line b a lt _ ih => exact ih.trans (assert_rings _ b a false lt)
  | bulk _ _ _ ih => exact ih.trans (.of_same (same_modDram (by decide) same_refl))
  | stock _ _ ih => exact ih.trans (.of_same (same_modSr (by decide) same_refl))
  | free _ _ ih => exact ih.trans (.of_same (same_modFree (by decide) same_refl))

theorem spaceRead_rings (s : State) (t view : Nat) (sp : Space) (a n : Nat) : RingsStayOff s (spaceRead s t view sp a n).2 := by
  cases sp with
  | host => exact .of_same (same_noteMoved _ _ (by decide) same_refl)
  | bulk => exact (((Traffic.refl (reads := true)).stock _).noteBulk t view a n).rings
  | stockroom => exact ((Traffic.refl (reads := true)).srRead 3 t t a n).rings
  | bad => exact .refl s

theorem spacePut_rings (s : State) (t view : Nat) (sp : Space) (a : Nat) (l : List (Byte × Bool)) : RingsStayOff s (spacePut s t view sp a l) := by
  cases sp with
  | host =>
    refine .of_same (same_foldl (fun u b same => ?_) (same_noteMoved s 3 (by decide) same_refl))
    exact same_ite (same_hostWrite _ _ _ (by decide) (same_modFree (by decide) same)) (same_hostWrite _ _ _ (by decide) same)
  | bulk => exact ((Traffic.refl.stock _).bulkPut t view a l).rings
  | stockroom => exact (srPut_traffic s 3 t t a l).rings
  | bad => exact .refl s

theorem sourceRow_rings (s : State) (f : Flight) (r o n : Nat) : RingsStayOff s (sourceRow s f r o n).2 := by
  unfold sourceRow
  dsimp only
  split
  · exact .refl s
  · exact spaceRead_rings ..

theorem moveBytes_rings (s : State) (f : Flight) (upto : Nat) : RingsStayOff s (moveBytes s f upto).1 := by
  have counted : ∀ u sp write n, RingsStayOff u (countMoved u f.src.fn sp write n) := fun u sp write n =>
    .of_same (same_countMoved _ _ _ _ _ (by decide) same_refl)
  refine List.foldlRecOn (motive := fun acc : State × List Byte × Bool => RingsStayOff s acc.1) _ _ (.refl s) fun acc now part _ => ?_
  have put := fun l => ((now.trans (sourceRow_rings acc.1 f part.1 part.2.1 part.2.2)).trans
    (spacePut_rings _ f.src.fn (viewOf f.src.fn f.desc) (dstSpace f.desc) (dstAddr f.desc + part.1 * dstStride f.desc + part.2.1) l)).trans
    (counted _ (dstSpace f.desc) true part.2.2)
  dsimp only
  split
  · exact put _
  · exact (put _).trans (counted ..)

theorem stopXfer_rings (s : State) (f : Flight) : RingsStayOff s (stopXfer s f) := by
  unfold stopXfer
  dsimp only
  exact .ite (.refl s) ((RingsStayOff.of_same (same_freshValue s (by decide) same_refl)).trans ((moveBytes_rings _ f _).trans
    (.of_same (same_setFlight _ _ (by decide) same_refl))))

/-! ### The end of a tenancy's work (05 R234) -/

theorem conclude_rings (s : State) (u : Nat) (hidden whole : Bool) (actual : Nat) (expect : Option Nat) (seq next : Nat) :
    RingsStayOff s (conclude s u hidden whole actual expect seq next) := by
  unfold conclude
  dsimp only
  generalize hw : setAssay s u _ = w
  have unit : Same 0x10 s w := hw ▸ same_setAssay s u _ (by decide) same_refl
  have failed : RingsStayOff s (raise w (srcAssay u) 0) := .of_same (same_raise _ _ _ (by decide) unit)
  exact .ite (.of_same unit) (.ite (failed.trans (assert_rings _ 26 _ _ (by decide))) failed)

theorem foldDma_rings (s : State) (k : Nat) (f : Flight) : RingsStayOff s (foldDma s k none f) :=
  .foldl (fun u _ => .ite (.refl u) (conclude_rings ..)) _ s

theorem endXfer_rings (s : State) (f : Flight) (v : Verdict) : RingsStayOff s (endXfer s f v) := by
  have ended : RingsStayOff s (finish (if isCompare f.desc && v.status = 12 then writeStatus s (xferChan f) f.desc else s) f v) :=
    .trans (.ite (issueRecord_rings ..) (.refl s)) (finish_rings ..)
  unfold endXfer
  dsimp only
  split
  · exact ended.trans (finish_rings ..)
  · exact ended

theorem endFlight_rings (v : Flight → Verdict) (s : State) (f : Flight) : RingsStayOff s (endFlight v s f) := by
  unfold endFlight
  dsimp only
  split
  · exact stopXfer_rings s f
  · exact (stopXfer_rings s f).trans (.ite ((foldDma_rings ..).trans (endXfer_rings ..)) (withdraw_rings ..))

theorem afterAborts_rings (s : State) (t : Nat) : RingsStayOff s (afterAborts s t) :=
  afterAborts_keeps (P := RingsStayOff s) (ps := 0x10) (fun _ _ same now => now.trans (.of_same same))
    (fun _ f v now => now.trans (finish_rings _ f v))
    (fun _ c now => now.trans (.of_same (same_releaseContext _ c (by decide) same_refl))) (by decide) (.refl s) t

theorem holdTenancy_rings (s : State) (t : Nat) : RingsStayOff s (holdTenancy s t) := by
  have ended : RingsStayOff s (endClientApplets (afterAborts (modTen s t tenHeld) t) t) :=
    endClientApplets_keeps (P := RingsStayOff s) (ps := 0x10) (fun _ _ same now => now.trans (.of_same same))
      (fun _ f v now => now.trans (finish_rings _ f v)) (by decide)
      (.trans (.of_same (same_modTen s t tenHeld (by decide) same_refl)) (afterAborts_rings _ t)) t
  exact ended.trans (.of_same (same_holdSound _ _ (by decide) same_refl))

/-- The command and completion rings of a tenancy emptied and disabled (05 R238). -/
def ringsRenewed (s : State) (t : Nat) : State :=
  (tenOf s t).rings.foldl (fun s r => setCr s t r {}) (s.modVisible fun l => l.filter fun x => x.src.fn ≠ t)

theorem ringsRenewed_rings (s : State) (t : Nat) : RingsStayOff s (ringsRenewed s t) :=
  .trans (.of_same (same_modVisible (by decide) same_refl))
    (.foldl (fun u r => .modCr u t r (g := fun _ => {}) (fun _ _ => rfl) fun _ _ => rfl) _ _)

/-- Nothing else that is renewed is a ring of commands or a descriptor. -/
theorem renewObjects_rest (s : State) (t : Nat) : Same 0x410 (ringsRenewed s t) (renewObjects s t) := by
  unfold renewObjects
  have pools : Same 0x410 (ringsRenewed s t) (renewPool inputPool none (renewPool streamPool (some srcStream) (renewPool chanPool (some srcDma)
      (renewPool evPool none (ringsRenewed s t) t) t) t) t) :=
    same_renewPool (inputPool_spares (by decide)) _ _ _ (by decide) (same_renewPool (streamPool_spares (by decide)) _ _ _ (by decide)
      (same_renewPool (chanPool_spares (by decide)) _ _ _ (by decide) (same_renewPool (evPool_spares (by decide)) _ _ _ (by decide) same_refl)))
  refine same_modCharges (by decide) (same_modFn _ _ _ (by decide) (same_foldl (fun u p same => same_dropTouch _ _ _ (by decide) same)
    (same_foldl (fun u c same => same_ite (same_clearSource _ _ (by decide) (same_clearSource _ _ (by decide) (same_modHap _ _ _ (by decide) same))) same)
    (same_foldl (fun u g same => same_ite (same_modTone _ _ _ (by decide) same) same)
    (same_foldl (fun u k same => same_clearSource _ _ (by decide) (same_setAssay _ _ _ (by decide) same))
    (same_foldl (fun u c same => same_clearSource _ _ (by decide) (same_modCtx _ _ _ (by decide) same)) pools))))))

theorem renewObjects_rings (s : State) (t : Nat) : RingsStayOff s (renewObjects s t) :=
  (ringsRenewed_rings s t).trans (.of_same ((renewObjects_rest s t).part (by decide)))

theorem renewObjects_visible (s : State) (t : Nat) : (renewObjects s t).visible = s.visible.filter fun x => x.src.fn ≠ t := by
  have rings : Same 0x400 (s.modVisible fun l => l.filter fun x => x.src.fn ≠ t) (ringsRenewed s t) :=
    same_foldl (fun u r same => same_setCr _ _ _ _ (by decide) same) same_refl
  rw [(renewObjects_rest s t).get .visible (by decide), rings.get .visible (by decide)]
  rfl

/-! ### The page of a function that is reset (06 R297) -/

theorem resetPage_ring (s : State) (f : Nat) {r : Nat} (lt : r < 4) : crOf (resetPage s f) f r = {} := by
  have rings : crOf ((List.range 4).foldl (fun s r => setCr s f r {}) s) f r = {} := by
    obtain ⟨u, -, -, e⟩ := read_foldl_mem (read := fun s r => crOf s f r) (f := fun s r => setCr s f r {}) (I := fun _ => True)
      (fun u j k other => crOf_setCr_other _ _ _ _ _ _ (by omega)) (fun _ _ _ => trivial) List.nodup_range (List.mem_range.2 lt) (s := s) trivial
    exact e.trans (crOf_setCr_same _ _ _ _)
  have rest : Same 0x10 ((List.range 4).foldl (fun s r => setCr s f r {}) s) (resetPage s f) :=
    same_setFn _ _ _ (by decide) (same_foldl (fun u p same => same_ite (same_disableEvRing _ _ (by decide) same) same) same_refl)
  rw [crOf_of_same rest, rings]

theorem resetPage_page (s : State) (f : Nat) : fnOf (resetPage s f) f = {} := fnOf_setFn_same _ _ _

theorem settleWake_vfEnable (s : State) : (settleWake s).pcie.vfEnable = s.pcie.vfEnable := (sends_settleWake s).vfEnable

/-! ### A function-level reset of a VF (05 R241) -/

/-- The rings of a function are disabled, and none of its descriptors is visible. -/
structure Silenced (t : Nat) (s : State) : Prop where
  rings : ∀ r, r < 4 → (crOf s t r).enable = false ∧ (crOf s t r).ccEnable = false
  unseen : ∀ v ∈ s.visible, v.src.fn ≠ t

theorem Silenced.of_rings {t : Nat} {s u : State} (h : Silenced t s) (rings : RingsStayOff s u)
    (visible : ∀ v ∈ u.visible, v ∈ s.visible) : Silenced t u :=
  ⟨fun r lt => ⟨rings.command t r (h.rings r lt).1, rings.completion t r (h.rings r lt).2⟩, fun v mem => h.unseen v (visible v mem)⟩

theorem Silenced.of_same {t : Nat} {s u : State} (h : Silenced t s) (rings : RingsStayOff s u) (same : Same 0x400 s u) : Silenced t u :=
  h.of_rings rings fun v mem => by rwa [same.get .visible (by decide)] at mem

/-- The state in which a function's page is reset and nothing of its rings is visible. -/
def pageReset (s : State) (t : Nat) : State := (settleWake (resetPage s t)).modVisible fun l => l.filter fun x => x.src.fn ≠ t

theorem pageReset_silenced (s : State) (t : Nat) : Silenced t (pageReset s t) := by
  have same : Same 0x10 (resetPage s t) (pageReset s t) := same_modVisible (by decide) (same_settleWake _ (by decide) same_refl)
  refine ⟨fun r lt => ?_, fun v mem => ?_⟩
  · rw [crOf_of_same same, resetPage_ring s t lt]
    exact ⟨rfl, rfl⟩
  · rw [pageReset, modVisible_visible] at mem
    exact of_decide_eq_true (List.mem_filter.1 mem).2

/-- The state in which a reset has ended the work of its tenancy. -/
def workReset (s : State) (t : Nat) : State :=
  let s := modTen (pageReset s t) t fun x => { x with stopped := [] }
  afterAborts ((resumesFirst (inFlight s t)).foldl (fun s f => endFlight quiesceAborts (if f.phase = .first then await s f .unit else s) f) s) t

theorem workReset_silenced (s : State) (t : Nat) : Silenced t (workReset s t) := by
  refine (pageReset_silenced s t).of_same ?_ ?_
  · refine .trans (.trans (.of_same (same_modTen _ t _ (by decide) same_refl)) (.foldl (fun u f => ?_) _ _)) (afterAborts_rings _ t)
    exact .trans (.ite (.of_same (same_await _ _ _ (by decide) same_refl)) (.refl u)) (endFlight_rings ..)
  · exact same_afterAborts _ _ (by decide) (same_foldl (fun u f same => same_endFlight _ _ _ (by decide)
      (same_ite (same_await _ _ _ (by decide) same) same)) (same_modTen _ _ _ (by decide) same_refl))

theorem workReset_state (s : State) (t : Nat) : (tenOf (workReset s t) t).state = (tenOf s t).state := by
  have page : Same 0x100 s (pageReset s t) := same_modVisible (by decide) (same_settleWake _ (by decide) (same_resetPage _ _ (by decide) same_refl))
  have ended : Same 0x100 (modTen (pageReset s t) t fun x => { x with stopped := [] }) (workReset s t) :=
    same_afterAborts _ _ (by decide) (same_foldl (fun u f same => same_endFlight _ _ _ (by decide)
      (same_ite (same_await _ _ _ (by decide) same) same)) same_refl)
  rw [tenOf_of_same ended, tenOf_modTen_same]
  dsimp only
  rw [tenOf_of_same page]

/-- The state in which the tenancy of a reset is held. -/
def resetHeld (s : State) (t : Nat) : State := if (tenOf s t).state = .quiesced then workReset s t else holdTenancy (workReset s t) t

/-- The rings of a function are disabled, none of its descriptors is visible, and its tenancy is QUIESCED. -/
structure ResetTo (t : Nat) (s : State) : Prop extends Silenced t s where
  state : (tenOf s t).state = .quiesced

theorem ResetTo.of_same {t : Nat} {s u : State} (h : ResetTo t s) (rings : RingsStayOff s u) (same : Same 0x500 s u) : ResetTo t u :=
  ⟨h.toSilenced.of_same rings (same.part (by decide)), by rw [tenOf_of_same (same.part (by decide))]; exact h.state⟩

theorem resetHeld_resets (s : State) (t : Nat) : ResetTo t (resetHeld s t) := by
  unfold resetHeld
  split
  · next quiesced => exact ⟨workReset_silenced s t, (workReset_state s t).trans quiesced⟩
  · refine ⟨(workReset_silenced s t).of_same (holdTenancy_rings _ t) (same_holdTenancy _ _ (by decide) same_refl), ?_⟩
    rw [tenOf_holdTenancy_same]
    rfl

theorem ResetTo.metFirst {t : Nat} {s : State} (h : ResetTo t s) (f : Flight) : ResetTo t (setFlight s f) :=
  h.of_same (.of_same (same_setFlight _ _ (by decide) same_refl)) (same_setFlight _ _ (by decide) same_refl)

theorem ResetTo.metDone {t : Nat} {s : State} (h : ResetTo t s) (f : Flight) (n : Nat) : ResetTo t (finishDone s f n) :=
  h.of_same (finish_rings ..) (same_finishDone _ _ _ (by decide) same_refl)

/-- The tenancy of a reset begins to leave: its objects are renewed. -/
def resetLeaves (s : State) (t : Nat) : State :=
  beginLeave (renewObjects (modTen s t fun x => { x with resetting := true }) t) t (now s)

theorem beginLeave_state (s : State) (t a : Nat) : (tenOf (beginLeave s t a) t).state = (tenOf s t).state := by
  unfold beginLeave
  dsimp only
  rw [tenOf_modTen_same]
  dsimp only
  rw [tenOf_of_same (same_foldl (fun u i same => same_ite (same_leaveLayer _ _ (by decide) same) same) same_refl)]

theorem ResetTo.leaves {t : Nat} {s : State} (h : ResetTo t s) : ResetTo t (resetLeaves s t) := by
  have marked : ResetTo t (modTen s t fun x => { x with resetting := true }) :=
    ⟨h.toSilenced.of_same (.of_same (same_modTen _ _ _ (by decide) same_refl)) (same_modTen _ _ _ (by decide) same_refl), by
      rw [tenOf_modTen_same]
      exact h.state⟩
  have renewed : ResetTo t (renewObjects (modTen s t fun x => { x with resetting := true }) t) := by
    refine ⟨marked.toSilenced.of_rings (renewObjects_rings _ t) fun v mem => ?_, ?_⟩
    · rw [renewObjects_visible] at mem
      exact (List.mem_filter.1 mem).1
    · rw [tenOf_of_same (same_renewObjects _ t (by decide) same_refl)]
      exact marked.state
  exact ⟨renewed.toSilenced.of_same (.of_same (same_beginLeave _ _ _ (by decide) same_refl)) (same_beginLeave _ _ _ (by decide) same_refl),
    (beginLeave_state _ t _).trans renewed.state⟩

theorem ResetTo.leavesUnless {t : Nat} {s : State} (h : ResetTo t s) (taken : Prop) [Decidable taken] :
    ResetTo t (if taken then s else resetLeaves s t) := by
  split
  · exact h
  · exact h.leaves

/-- What a reset does after its pages, work and rings: a quiesce of the manager that it meets is done, or done at its first
completion; where no reset of the manager's has the function, the tenancy begins to leave. -/
theorem resetFunction_resets {s : State} {t : Nat} (low : 1 ≤ t) (high : t ≤ 16) (there : (tenOf s t).state ≠ .absent)
    (thawed : (tenOf s t).state ≠ .frozen) : ResetTo t (resetFunction s t) := by
  have nonzero : t ≠ 0 := by omega
  have held := resetHeld_resets s t
  unfold resetHeld workReset pageReset at held
  unfold resetFunction
  dsimp only
  rw [if_neg (by simp [nonzero, high, there, thawed])]
  refine ResetTo.leavesUnless ?_ _
  split
  · split
    · exact held.metFirst _
    · exact held.metDone _ _
  · exact held

theorem resetFunction_idle {s : State} {t : Nat} (h : t = 0 ∨ 16 < t ∨ (tenOf s t).state = .absent ∨ (tenOf s t).state = .frozen) :
    resetFunction s t = s := by
  unfold resetFunction
  exact if_pos (by rcases h with h | h | h | h <;> simp [h])

/-! ### A function-level reset of PF0 (05 R864) -/

/-- The descriptors of PF0 whose admission instant has come stay, as ones that its ring has passed. -/
def admittedStay (s : State) : State :=
  s.modVisible fun l => (l.filter fun x => decide (x.src.fn ≠ 0) || decide (x.admitted ≤ now s)).map fun x =>
    if x.src.fn = 0 then { x with passed := true } else x

/-- A ring of PF0 keeps the slots that what is left of it owes. -/
def slotsKept (s : State) (r : Nat) : State := modCr s 0 r fun c => { c with ccReserved := slotsOwed s ⟨0, r, 0⟩ }

/-- The SR-IOV capability at its reset values. -/
def sriovReset (p : Pcie) : Pcie :=
  { p with vfEnable := false, numVfs := 0, vfMse := false, ariHier := false, sysPage := 1, vfBar0 := 0, vfBar2 := 0 }

theorem resetPf0_eq (s : State) : resetPf0 s =
    settleWake (((List.range 4).foldl slotsKept (admittedStay (resetPage s 0))).modPcie sriovReset) := rfl

theorem slotsOwed_of_same {s t : State} (h : Same 0xC00 s t) (r : CmdSrc) : slotsOwed t r = slotsOwed s r := by
  unfold slotsOwed
  rw [h.get .flights (by decide), h.get .visible (by decide)]

theorem slotsKept_same (s : State) : Same 0xC08 s ((List.range 4).foldl slotsKept s) :=
  same_foldl (fun u r same => same_modCr _ _ _ _ (by decide) same) same_refl

theorem slotsKept_ring (s : State) {r : Nat} (lt : r < 4) : crOf ((List.range 4).foldl slotsKept s) 0 r =
    { crOf s 0 r with ccReserved := slotsOwed s ⟨0, r, 0⟩ } := by
  obtain ⟨u, same, before, after⟩ := read_foldl_mem (read := fun s r => crOf s 0 r) (f := slotsKept) (I := Same 0xC00 s)
    (fun u j k other => crOf_setCr_other _ _ _ _ _ _ (by omega)) (fun u j same => same_modCr _ _ _ _ (by decide) same) List.nodup_range
    (List.mem_range.2 lt) same_refl
  refine after.trans ((crOf_modCr_same _ _ _ _).trans ?_)
  rw [slotsOwed_of_same same, before]

theorem resetPf0_ring (s : State) {r : Nat} (lt : r < 4) : crOf (resetPf0 s) 0 r = { ccReserved := slotsOwed (resetPf0 s) ⟨0, r, 0⟩ } := by
  have pcie : Same 0xC10 ((List.range 4).foldl slotsKept (admittedStay (resetPage s 0))) (resetPf0 s) :=
    same_settleWake _ (by decide) (same_modPcie (by decide) same_refl)
  have owed : Same 0xC00 (admittedStay (resetPage s 0)) (resetPf0 s) :=
    same_settleWake _ (by decide) (same_modPcie (by decide) ((slotsKept_same _).part (by decide)))
  rw [crOf_of_same (pcie.part (by decide)), slotsKept_ring _ lt, slotsOwed_of_same owed]
  have page : crOf (admittedStay (resetPage s 0)) 0 r = {} := (crOf_of_same (same_modVisible (by decide) same_refl) 0 r).trans (resetPage_ring s 0 lt)
  rw [page]

theorem resetPf0_page (s : State) : fnOf (resetPf0 s) 0 = {} := by
  have same : Same 0x8 (resetPage s 0) (resetPf0 s) := same_settleWake _ (by decide) (same_modPcie (by decide)
    (same_foldl (fun u r same => same_modCr _ _ _ _ (by decide) same) (same_modVisible (by decide) same_refl)))
  rw [fnOf_of_same same, resetPage_page]

theorem resetPf0_vfEnable (s : State) : (resetPf0 s).pcie.vfEnable = false := by
  rw [resetPf0_eq, settleWake_vfEnable]
  rfl

theorem resetPf0_visible (s : State) : ∀ v ∈ (resetPf0 s).visible, v.src.fn ≠ 0 ∨ v.admitted ≤ now s := fun v mem => by
  have same : Same 0x400 (admittedStay (resetPage s 0)) (resetPf0 s) :=
    same_settleWake _ (by decide) (same_modPcie (by decide) ((slotsKept_same _).part (by decide)))
  have clock : now (resetPage s 0) = now s := congrArg Timeline.tick ((same_resetPage (ps := 0x1) s 0 (by decide) same_refl).get .tl (by decide))
  rw [same.get .visible (by decide), admittedStay, modVisible_visible] at mem
  obtain ⟨x, stays, rfl⟩ := List.mem_map.1 mem
  have old := (List.mem_filter.1 stays).2
  rw [clock, Bool.or_eq_true, decide_eq_true_eq, decide_eq_true_eq] at old
  split <;> exact old

/-- Settles O28: by the rings that a reset disables and no record of what it ends enables again, by the hold of the tenancy, and by the
page, rings and descriptors that a reset of PF0 leaves. -/
theorem functionLevelResets : Obligations.FunctionLevelResets := by
  unfold Obligations.FunctionLevelResets
  refine ⟨fun s f low high there thawed => ?_, fun s f idle => ⟨_, rfl, resetFunction_idle idle⟩, fun s => ?_⟩
  · obtain ⟨⟨rings, unseen⟩, state⟩ := resetFunction_resets low high there thawed
    exact ⟨_, rfl, rings, unseen, state⟩
  · have same : Same 0x2042900 s (resetPf0 s) := same_resetPf0 s (by decide) same_refl
    exact ⟨_, rfl, resetPf0_page s, fun r lt => resetPf0_ring s lt, resetPf0_visible s, resetPf0_vfEnable s, same.get .tens (by decide),
      same.get .flights (by decide), same.get .dram (by decide), same.get .sr (by decide), same.get .host (by decide)⟩

end Sys2Proof.Machine
end
